-- ==== Sys2Proof/Word.lean ====
section
/-! DEFINITION. The word types of the module's registers and memories, and the names of its three lanes,
three stages and two guardians. -/
namespace Sys2Proof

/-- A 32-bit register word (R4). -/
abbrev Word := BitVec 32

/-- One byte of memory. -/
abbrev Byte := BitVec 8

/-- The three lanes (R3, R11). -/
inductive Lane where
  | A | B | C
deriving DecidableEq, Repr

/-- The three drive stages (R3, R11). -/
inductive Stg where
  | A | B | C
deriving DecidableEq, Repr

/-- The two Flock guardians, one per channel (R11, R13). -/
inductive Gdn where
  | X | Y
deriving DecidableEq, Repr

/-- The legs of a stage, indices 0 U, 1 V, 2 W (R197). -/
inductive Leg where
  | U | V | W
deriving DecidableEq, Repr

/-- A lane's two CAN controllers (R374). -/
inductive CanId where
  | can1 | can2
deriving DecidableEq, Repr

/-- One value per lane, per stage or per leg. -/
structure Tri (α : Type) where
  a : α
  b : α
  c : α
deriving DecidableEq, Repr

/-- The same value three times. -/
abbrev Tri.all {α : Type} (x : α) : Tri α := ⟨x, x, x⟩

end Sys2Proof
end

