-- ==== Sys2Proof/Syntax.lean ====
section
/-! DEFINITION. The commands the module takes: one constructor of `Instr` per row of spec/opcode_table.json, with the
operands each row needs. Measured quantities (voltages, counts, durations), the content of received frames, and the
outcome of a cryptographic check on what was received are operands: they come from outside. `t` is always the global
time, in ns, at which the affected lane, stage or guardian sees the event. -/
namespace Sys2Proof

/-! ## Operands of the checked core (05) -/

/-- Integer operations of the complement-domain table (R114). -/
inductive AluOp where
  | add | sub | and | or | xor | slt | sltu | sll | srl | sra
deriving DecidableEq, Repr

/-- Conditional branches (R114). -/
inductive BrOp where
  | beq | bne | blt | bge | bltu | bgeu
deriving DecidableEq, Repr

/-- Multiplier and divider operations (R114, row MUL, MULH*, DIV*, REM*). -/
inductive MulOp where
  | mul | mulh | mulhsu | mulhu | div | divu | rem | remu
deriving DecidableEq, Repr

/-- Atomic memory operations other than LR and SC (R123). -/
inductive AmoOp where
  | swap | add | xor | and | or | min | max | minu | maxu
deriving DecidableEq, Repr

/-- Access width of a load or store. -/
inductive Width where
  | byte | half | word
deriving DecidableEq, Repr

/-- Operations of the floating-point unit (RV32F, R2) other than moves of bits. -/
inductive FpuOp where
  | add | sub | mul | div | sqrt | sgnj | sgnjn | sgnjx | min | max | madd | msub | nmsub | nmadd
  | cvtWS | cvtWUS | cvtSW | cvtSWU | eq | lt | le | cls
deriving DecidableEq, Repr

/-- How a CSR instruction combines its operand with the old value. -/
inductive CsrOp where
  | rw | rs | rc
deriving DecidableEq, Repr

/-- A decoded instruction of the control core (RV32IMAFC) or the Shepherd core (RV32IMC) (R2; compressed forms arrive expanded,
R112). Register numbers are 0 to 31. `len` is the length in bytes, 2 or 4. A CSR instruction's `rs1` from 32 on is the immediate
`rs1 - 32`. `rm` is the rounding mode field of a floating-point operation, 7 for the mode in frm. -/
inductive CoreInstr where
  | alu (op : AluOp) (rd rs1 rs2 : Nat) (len : Nat)
  | aluImm (op : AluOp) (rd rs1 : Nat) (imm : BitVec 32) (len : Nat)
  | lui (rd : Nat) (imm : BitVec 32) (len : Nat)
  | auipc (rd : Nat) (imm : BitVec 32) (len : Nat)
  | jal (rd : Nat) (off : BitVec 32) (len : Nat)
  | jalr (rd rs1 : Nat) (off : BitVec 32) (len : Nat)
  | branch (op : BrOp) (rs1 rs2 : Nat) (off : BitVec 32) (len : Nat)
  | muldiv (op : MulOp) (rd rs1 rs2 : Nat) (len : Nat)
  | fpu (op : FpuOp) (rm fd fs1 fs2 fs3 : Nat) (len : Nat)
  | fmvToInt (rd fs : Nat) (len : Nat)
  | fmvFromInt (fd rs : Nat) (len : Nat)
  | load (w : Width) (signed : Bool) (rd rs1 : Nat) (off : BitVec 32) (len : Nat)
  | loadF (fd rs1 : Nat) (off : BitVec 32) (len : Nat)
  | store (w : Width) (rs1 rs2 : Nat) (off : BitVec 32) (len : Nat)
  | storeF (rs1 fs2 : Nat) (off : BitVec 32) (len : Nat)
  | lr (rd rs1 : Nat) (len : Nat)
  | sc (rd rs1 rs2 : Nat) (len : Nat)
  | amo (op : AmoOp) (rd rs1 rs2 : Nat) (len : Nat)
  | csr (op : CsrOp) (rd : Nat) (num : Nat) (rs1 : Nat) (len : Nat)
  | mret (len : Nat)
  | fence (len : Nat)
  | ecall
  | ebreak
deriving DecidableEq, Repr

/-- What a disturbance does to one instruction (R129): nothing, or a difference in one of the compared places.
The mask is the bits in which the Lamb copy differs from the complement of the lead's. -/
inductive Upset where
  | none
  | result (mask : BitVec 32)
  | flow
  | storeAddr (mask : BitVec 32)
  | storeSize
  | storeData (mask : BitVec 32)
  | periphRead (mask : BitVec 32)
  | loadAddr (mask : BitVec 32)
  | csrWrite (mask : BitVec 32)
  | queue
  | eccDouble (fetch : Bool)
  | eccSingle
deriving DecidableEq, Repr

/-- Which core or hart runs an instruction: the control core (in split mode its hart 1), hart 2 of split mode (R132), or the
Shepherd core (R139). -/
inductive CoreSel where
  | main | hart2 | shepherd
deriving DecidableEq, Repr

/-- What the pipeline's timing gives an instruction: entries standing in the load-value queue and in the store compare buffer when it
issues, and the core cycles for which the lead stalled (R120, R121, R123). -/
structure IssueIn where
  lvq : Nat
  scb : Nat
  stall : Nat
deriving DecidableEq, Repr

/-- A register that the debugger names: of the core by an abstract command (R137: integer, floating point, CSR, or dpc), or of the
debug module of RISC-V External Debug Support 1.0 (R2): abstractcs, whose write clears cmderr, and sbcs, whose write clears
sberror. -/
inductive DbgReg where
  | x (n : Nat)
  | f (n : Nat)
  | csr (n : Nat)
  | dpc
  | abstractcs
  | sbcs
deriving DecidableEq, Repr

/-! ## Operands of agreement and claims (06) -/

/-- A sub-round 1 agreement message (R142), or a catch-up frame (R153). `cyc` and `slot` are SLOT, `resync`, `supplyLoss` and `first`
bits 0 to 2 of FLAGS, `tagLo` and `tagHi` the tags for the receiving lanes with the lower and the higher letter. -/
structure AgrMsg where
  version : Nat
  lane : Lane
  cyc : Nat
  slot : Nat
  resync : Bool
  supplyLoss : Bool
  first : Bool
  valid : BitVec 48
  seq : BitVec 16
  fields : List (BitVec 32)
  tagLo : BitVec 64
  tagHi : BitVec 64
deriving DecidableEq, Repr

/-- The two edges of one leg's gate command, in microticks from the period start (R229). -/
structure Edges where
  lon : Nat
  loff : Nat
deriving DecidableEq, Repr

/-- The gate command of a stage: the edges of legs U, V and W (R163). -/
abbrev GateCmd := Tri Edges

/-- A cross-strap frame (R163), CRC apart. `veto` has one bit per lane, bit 0 lane A. -/
structure XFrame where
  seq : Nat
  claim : Nat
  veto : BitVec 3
  en : Bool
  iso : Bool
  cmd : GateCmd
  mark : Int
deriving DecidableEq, Repr

/-- A resync package (R156), digest and tag apart. `ext` and `wraps` are the position extension: extended counts of ENC, HALL and TMR
and their wrap state; `observer` and `regulator` hold each stage's observer state and its regulator and edge state as lists of numbers
(log entry 95); `churn`, `seq`, `odd` and `marks` are the counters: Churn progress, round SEQ, consecutive rounds of R149 by lane, and
the input fields marked in the last round by lane (R148). -/
structure Package where
  version : Nat
  sender : Lane
  target : Lane
  nr : Nat
  length : Nat
  ext : Tri (BitVec 64)
  wraps : Tri Int
  observer : Tri (List Int)
  regulator : Tri (List Int)
  learned : List (Nat × BitVec 32)
  churn : List Nat
  seq : BitVec 16
  odd : List Nat
  marks : Tri (BitVec 48)
  app : List (BitVec 8)
deriving DecidableEq, Repr

/-! ## Operands of measurement, position and stages (07, 08, 10) -/

/-- The measured voltages of one sense line's two test steps, in microvolts, shunt drop subtracted (R188). -/
structure LineMeas where
  pinPos : Int
  pinNeg : Int
  inPos : Int
  inNeg : Int
deriving DecidableEq, Repr

/-- The ARM open-wire measurements of one leg: lines P and N, and the pair step's v_dm in microvolts (R187). -/
structure OwLeg where
  p : LineMeas
  n : LineMeas
  vdm : Int
deriving DecidableEq, Repr

/-- What a stage sees at a period start besides the lanes' frames: DC link in 10 mV (R195), die temperature in
degrees C, bootstrap voltages in 0.1 V (R261), and the period's number (R181). -/
structure PeriodIn where
  p : Nat
  vdc : Nat
  tj : Int
  vboot : Tri Nat
deriving DecidableEq, Repr

/-- The position sources with edge counters (R202). -/
inductive EdgeSrc where
  | enc | hall
deriving DecidableEq, Repr

/-- A frame on an SP port as its edges give it (R219): PSI5 or SENT; the shortest time for which the line held a level of it, in ns; of
SENT the tick in ns (a 56th of the sync pulse), the nibble pulses in ticks (status, six data nibbles, CRC) and whether the pause pulse
is right; of PSI5 the bit rate in kbit/s, whether the sensor sends on the port's sync pulses, its data word, whether parity or CRC and
whether its timing is right; and an enhanced serial message that the frame completes, as identifier and data. -/
structure SpIn where
  psi5 : Bool
  hold : Nat
  tick : Nat
  nibbles : List Nat
  pauseOk : Bool
  kbit : Nat
  sync : Bool
  word : Nat
  checkOk : Bool
  timeOk : Bool
  ser : Option (Nat × Nat)
deriving DecidableEq, Repr

/-! ## Operands of the Flock network (14, 15) -/

/-- A time keeper: a lane's Flock engine or a guardian (R325). -/
inductive Keeper where
  | lane (l : Lane)
  | guardian (g : Gdn)
deriving DecidableEq, Repr

/-- A guardian's ring ports (R13, R47). -/
inductive Port where
  | east | west
deriving DecidableEq, Repr

/-- Where a frame enters a guardian from its own node: a lane or a satellite 1 to 4 (R358). -/
inductive Src where
  | lane (l : Lane)
  | sat (n : Nat)
deriving DecidableEq, Repr

/-- A guardian egress: a ring port, a lane or a satellite (R361). -/
inductive Egress where
  | port (p : Port)
  | lane (l : Lane)
  | sat (n : Nat)
deriving DecidableEq, Repr

/-- A Flock frame (R331). `typ` is TYPE of R332, `sender` the sender ID, `txTime` in ns, `corr` in microticks, `tag` the 64 bits of
R334; `fcsOk` is false of a copy that a guardian has cut off, whose FCS is complemented (R358). -/
structure FlockFrame where
  version : Nat
  typ : Nat
  sender : Nat
  chY : Bool
  looped : Bool
  localSync : Bool
  startup : Bool
  hops : Nat
  window : Nat
  matrix : Nat
  txTime : Nat
  corr : Nat
  priority : Nat
  seq : Nat
  payload : List (BitVec 8)
  tag : BitVec 64
  fcsOk : Bool
deriving DecidableEq, Repr

/-- Why a ring port is broken (R354). -/
inductive BreakWhy where
  | noLock (us : Nat)
  | belowRate
  | pdelayLost
  | blocked
deriving DecidableEq, Repr

/-! ## Operands of CAN (16) -/

/-- A CAN frame on the bus (R374): `ctrl` is DLC, FDF, BRS, ESI and RTR as in CAN_BUF_CTRL, `ts` the start-of-frame
counter (R383), `data` its payload as little-endian words. -/
structure CanFrame where
  ide : Bool
  id : Nat
  ctrl : BitVec 8
  ts : BitVec 32
  data : List (BitVec 32)
deriving DecidableEq, Repr

/-- The five kinds of CAN error (CAN_VIOL, R386). -/
inductive CanErr where
  | stuff | form | crc | bit | ack
deriving DecidableEq, Repr

/-! ## Operands of the mailboxes and of security (17, 18) -/

/-- A mailbox transport (R394). -/
inductive Transport where
  | internal | flock | can | debug
deriving DecidableEq, Repr

/-- A request's header and tag as a lane receives it (R389, R390), its transport, and `key`, the identity of its transport source
(R407). Its payload is spelled by the other operands of the command. -/
structure Req where
  module : Bool
  mbox : Nat
  lanes : BitVec 3
  length : Nat
  seq : BitVec 16
  requester : BitVec 32
  session : BitVec 32
  transport : Transport
  tag : BitVec 64
  key : Nat
deriving DecidableEq, Repr

/-- What a Malxa image gives beyond the bytes that R97 lays out: whether its ML-DSA-65 signature verifies (R98), whether its groups
pass the range checks of values that no register holds, and the values its groups load, by register or item (R99, R100; the spec gives
the groups no layout, log entry 23). -/
structure ImgFacts where
  sigOk : Bool
  rangesOk : Bool
  regs : List (Nat × BitVec 32)
  splitLanes : BitVec 3
  tmapOk : Bool
deriving DecidableEq, Repr

/-- What verifying a firmware bank finds (R94, R402). -/
structure FwFacts where
  sigOk : Bool
  svn : Nat
  digest : List (BitVec 32)
deriving DecidableEq, Repr

/-- What a cold boot or wake finds in the lane (R89, R91): memory test, bank signatures, application signature, both
Malxa slots, hold-up capacitance, crystal, factory calibration records: whether each stage's hold, and g0, c1, c2 of the 18 stage converters (index 6s + 2k + c) and of
the lanes' six general-purpose converters (R190), the angle sensor's first angle (R202),
the level of STO_x, the levels of the encoder's lines A and B and the pattern of the Hall lines (R198), the lid (R423), the entry points of the application and of hart 2
(R132), the entries 0 to 383 of the retention list that the Shepherd sets (R73). -/
structure BootFacts where
  memOk : Bool
  bankAOk : Bool
  bankBOk : Bool
  appOk : Bool
  slot0 : Option ImgFacts
  slot1 : Option ImgFacts
  tmapDigestOk : Bool
  holdupOk : Bool
  xtalOk : Bool
  tmrAngle : Nat
  encA : Bool
  encB : Bool
  hall : Nat
  stoHigh : Bool
  calOk : Tri Bool
  cal : List (Int × Int × Int)
  lidOpen : Bool
  entry : BitVec 32
  entry2 : BitVec 32
  retList : List (BitVec 32)
deriving DecidableEq, Repr

/-- A LIFECYCLE payload as received (R413), OP apart: LC_SEQ, the serial number, ARG and AUTH; whether AUTH verifies as an ML-DSA-65
signature of the authority that R412 names (of TAKEOVER, whose AUTH the lane computes, it says nothing); and whether the fuse write
verifies. -/
structure LcArgs where
  lcSeq : Nat
  serial : BitVec 64
  arg : List (BitVec 8)
  auth : List (BitVec 8)
  sigOk : Bool
  fuseOk : Bool
deriving DecidableEq, Repr

/-- A KEY_LOAD payload as received (R418): SLOT, WRAP, the wrapped item of LENGTH bytes, CHECK and AUTH; and whether AUTH verifies as
the ML-DSA-65 signature that slot 5 needs. -/
structure KeyArgs where
  slot : Nat
  wrap : Nat
  item : List (BitVec 8)
  check : List (BitVec 8)
  auth : List (BitVec 8)
  sigOk : Bool
deriving DecidableEq, Repr

/-- A HELLO payload as received (R421): the versions, SESSION and NONCE proposed, the certificate's REQUESTER, ROLES and owner
signature, SIG; and whether the owner's ML-DSA-65 signature verifies. -/
structure HelloArgs where
  vmin : Nat
  vmax : Nat
  session : BitVec 32
  nonce : List (BitVec 8)
  requester : BitVec 32
  roles : BitVec 16
  certSig : List (BitVec 8)
  certOk : Bool
  sig : List (BitVec 8)
deriving DecidableEq, Repr

/-! ## The commands -/

/-- The commands of spec/opcode_table.json, one constructor per row, in the table's order. -/
inductive Instr where
  | registerWrite (l : Lane) (addr : Nat) (v sets : BitVec 32)
  | checkedInstruction (l : Lane) (c : CoreSel) (i : CoreInstr) (u : Upset) (q : IssueIn)
  | interruptTaken (l : Lane) (c : CoreSel) (cause : Nat)
  | coreResetAfterRecord (l : Lane)
  | debugHaltRequest (l : Lane)
  | debugRegisterWrite (l : Lane) (r : DbgReg) (v : Option (BitVec 32))
  | debugResume (l : Lane)
  | debugSingleStep (l : Lane) (i : CoreInstr)
  | systemBusAccess (l : Lane) (addr : Nat) (v : Option (BitVec 32))
  | pwmPeriodStart (s : Stg) (i : PeriodIn)
  | crossStrapFrame (s : Stg) (l : Lane) (f : Option XFrame) (mark : Int) (p : Nat) (crcOk inTime : Bool)
  | slotStart (l : Lane) (t : Nat)
  | agreementMessage (rx : Lane) (relayed : Bool) (m : AgrMsg) (len : Nat) (inTime : Bool)
  | subround2Relay (l : Lane)
  | voteComplete (l : Lane)
  | commit (l : Lane) (t : Nat)
  | commandDeadline (l : Lane)
  | catchupFrame (rx : Lane) (m : AgrMsg)
  | basicCycleStart (l : Lane) (t : Nat)
  | grazeSpectrum (l : Lane)
  | churnSlice (l : Lane) (part seg : Nat) (zeroOk sigOk crcOk keyOk : Bool) (dur : Nat) (fold : Bool)
  | zeroiseTimeout (l : Lane) (seg : Nat) (us : Nat)
  | spareUnitHandover (l : Lane) (part : Nat) (equal : Bool)
  | stageCopySwap (l : Lane) (s : Stg) (equal : Bool)
  | churnCoverageOverdue (l : Lane) (t : Nat)
  | groundLoss (l : Lane) (mv : Int) (us : Nat) (t : Nat)
  | supplyLoss (l : Lane) (mv : Int) (t : Nat)
  | supplyLossTimeout (l : Lane) (t : Nat)
  | supplyReturn (l : Lane) (mv gnd : Int) (us : Nat) (t : Nat)
  | parkSupplyLoss (l : Lane) (mv : Int) (t : Nat)
  | holdupExhausted (l : Lane) (t : Nat)
  | undervoltageWarning (l : Lane) (mv : Int) (us : Nat) (t : Nat)
  | supplyOvervoltage (l : Lane) (mv : Int) (t : Nat)
  | overvoltageRecovery (l : Lane) (mv : Int) (us : Nat) (t : Nat)
  | sensorSupplyFault (l : Lane) (mv : Nat) (us : Nat) (t : Nat)
  | guardianPowerLoss (g : Gdn)
  | foldEntry (l : Lane) (crcOk : Bool) (t : Nat)
  | sysReq (l : Lane) (key : BitVec 16) (target : BitVec 3)
  | armSequence (l : Lane) (t : Nat)
  | biasSettled (l : Lane) (t : Nat)
  | armSelftestComplete (l : Lane) (fcOk chnOk posOk : Bool) (copyOk : Tri Bool) (t : Nat)
  | openWireTestComplete (l : Lane) (m : Tri (Tri OwLeg)) (t : Nat)
  | offsetCalibrationComplete (l : Lane) (t : Nat)
  | armComplete (l : Lane) (t : Nat)
  | handshakeDelayExceeded (l : Lane) (block : Nat) (t : Nat)
  | transitionTimeout (l : Lane) (t : Nat)
  | transitionExecute (l : Lane) (t : Nat)
  | thermalClockDown (l : Lane) (tj : Int) (t : Nat)
  | thermalClockUp (l : Lane) (tj : Int) (t : Nat)
  | wakeSource (l : Lane) (src mv us : Nat) (pattern : Bool) (t : Nat)
  | siblingWake (l : Lane) (g : Gdn) (t : Nat)
  | regulatorReady (l : Lane) (xtalOk : Bool) (crcOk : BitVec 4) (t : Nat)
  | regulatorRetry (l : Lane) (t : Nat)
  | crystalFallback (l : Lane) (crcOk : BitVec 4) (t : Nat)
  | wakeComplete (l : Lane) (f : BootFacts) (t : Nat)
  | sleepSignal (l : Lane) (g : Gdn)
  | coldBoot (l : Lane) (mv : Int) (f : BootFacts) (t : Nat)
  | romRecoveryLoad (l : Lane) (f : FwFacts) (bankB : Bool)
  | versionExchange (l other : Lane) (vmin vmax boot lc : Nat) (tagOk : Bool) (inForce : Option Nat) (done : Bool)
  | sessionTimeout (l : Lane) (t : Nat)
  | ringNegotiation (g : Gdn) (p : Port) (rate : Option Nat) (t : Nat)
  | linkRetry (g : Gdn) (e : Egress) (t : Nat)
  | satelliteHello (g : Gdn) (n vmin vmax : Nat) (caps : BitVec 32) (ms t : Nat)
  | satelliteLost (g : Gdn) (n : Nat)
  | spPsi5Phase (l : Lane) (t : Nat)
  | resyncPoint (l : Lane) (nr : Nat)
  | resyncPackage (l tx : Lane) (p : Package) (tagOk digestOk : Bool) (t : Nat)
  | resyncPackageTimeout (l : Lane) (t : Nat)
  | catchupComplete (l : Lane) (t : Nat)
  | shadowingEnd (l : Lane) (t : Nat)
  | resyncRetry (l : Lane) (t : Nat)
  | statusFrame (l : Lane) (s : Stg) (valid : Bool)
  | windowClose (s : Stg) (k : Leg) (d : Int)
  | openWireCycleStart (l : Lane) (t : Nat)
  | openWireStep (l : Lane) (s : Stg) (m : LineMeas) (t : Nat)
  | gpConversionComplete (l : Lane) (conv : Nat) (v : Int) (ohm t : Nat)
  | encoderEdge (l : Lane) (a b : Bool) (ns t : Nat)
  | indexEdge (l : Lane) (a b rising : Bool) (ns t : Nat)
  | hallTransition (l : Lane) (pattern : Nat) (ns t : Nat)
  | encoderSignalLoss (l : Lane) (mv : Nat) (us : Nat) (t : Nat)
  | encoderSignalRestored (l : Lane) (ms : Nat) (t : Nat)
  | tmrSample (l : Lane) (raw : BitVec 16) (field : Nat) (t : Nat)
  | standstillTimeout (l : Lane) (src : EdgeSrc) (t : Nat)
  | posSnap (l : Lane) (v : BitVec 32)
  | extensionSnapshot (l : Lane)
  | reref (l : Lane) (v : BitVec 32)
  | calRevolution (l : Lane)
  | calApply (l : Lane)
  | spFrame (l : Lane) (port : Nat) (f : SpIn) (t : Nat)
  | spTimeout (l : Lane) (port : Nat) (periods : Nat) (t : Nat)
  | ssiTransaction (l : Lane) (idleHigh monoLow : Bool) (raw : BitVec 32)
  | commutationPeriod (l : Lane) (s : Stg) (bemf p : Nat)
  | peakLimitEngage (l : Lane) (s : Stg) (t : Nat)
  | peakLimitLift (l : Lane) (s : Stg) (t : Nat)
  | observerFloat (l : Lane) (s : Stg) (t : Nat)
  | bemfCaptureStart (l : Lane) (s : Stg) (t : Nat)
  | bemfZeroCrossing (l : Lane) (s : Stg) (consistent : Bool) (t : Nat)
  | reacqTimeout (l : Lane) (s : Stg) (t : Nat)
  | flyingStartTimeout (l : Lane) (s : Stg) (t : Nat)
  | learningRunStart (l : Lane) (n : Nat)
  | learningApply (l : Lane)
  | energise (s : Stg) (mv : Int) (t : Nat)
  | prechargeComplete (s : Stg) (vdcMv supMv : Int) (t : Nat)
  | isolationSwitchesOn (s : Stg) (gates : Tri Nat)
  | bootstrapsCharged (s : Stg) (pulses : Nat)
  | gateDroop (s : Stg) (mv : Nat) (us : Nat)
  | deEnergise (s : Stg)
  | desaturation (s : Stg) (k : Leg) (mv ns t : Nat)
  | shuntOvercurrent (s : Stg) (amps : Nat) (t : Nat)
  | shootThroughCommand (s : Stg) (k : Leg) (ns : Nat)
  | gateSupplyUndervoltage (s : Stg) (mv : Nat) (ns : Nat)
  | clampEngage (s : Stg) (mv : Nat)
  | clampRelease (s : Stg) (mv : Nat)
  | enRisingEdge (s : Stg) (lowUs : Nat) (cond : BitVec 16) (mv : Int)
  | stgRearm (l : Lane) (key : BitVec 16) (mask : BitVec 3)
  | enPulseEnd (l : Lane) (s : Stg) (mv : Int)
  | phaseIsolate (s : Stg) (k : Leg) (ma : Nat)
  | isolationTimeout (s : Stg) (k : Leg) (us : Nat)
  | stoLatchSet (l : Lane) (lowUs : Nat) (t : Nat)
  | stoTestPulse (l : Lane) (lowUs : Nat) (t : Nat)
  | safeReqSto (l : Lane) (key : BitVec 16) (mask : BitVec 3)
  | safeReqSs1 (l : Lane) (key : BitVec 16) (mask : BitVec 3)
  | safeReqClr (l : Lane) (key : BitVec 16) (mask : BitVec 3)
  | ss1Standstill (l : Lane) (t : Nat)
  | ss1Timeout (l : Lane) (t : Nat)
  | safeAckEdge (l : Lane) (lowUs : Nat) (t : Nat)
  | safeAckQualified (l : Lane) (highUs : Nat) (stoHigh : Bool) (t : Nat)
  | resetPendingExpiry (l : Lane) (t : Nat)
  | faultRaise (l : Lane) (id : BitVec 16) (detail : BitVec 8) (t : Nat)
  | lineFault (l : Lane) (id : BitVec 16) (ns : Nat) (t : Nat)
  | siblingLineChange (l other : Lane) (pattern : Nat) (t : Nat)
  | laneSilent (l : Lane) (t : Nat)
  | acknowledgeClass (l : Lane) (key : BitVec 16) (classes : BitVec 15)
  | rearm (l : Lane) (key : BitVec 16)
  | faultRecordWritten (l : Lane) (t : Nat)
  | maskClose (l : Lane) (t : Nat)
  | faultInject (l : Lane) (id : BitVec 16) (detail : BitVec 8) (t : Nat)
  | thermalRejoin (l : Lane) (tj : Int) (ms : Nat) (t : Nat)
  | laneThermalTrip (l : Lane) (tj : Int) (ms : Nat) (t : Nat)
  | stageThermalTrip (l : Lane) (s : Stg) (t : Nat)
  | windingThermalTrip (l : Lane) (s : Stg) (t : Nat)
  | clockFault (l : Lane) (kind : Nat) (permille : Nat) (windows : Nat) (t : Nat)
  | syncFrame (k : Keeper) (f : FlockFrame) (rx : Nat)
  | offsetCorrection (k : Keeper) (t : Nat)
  | rateCorrection (k : Keeper) (n : Nat)
  | passiveTimeout (k : Keeper)
  | listenTimeout (l : Lane) (t : Nat)
  | coldstartFrame (k : Keeper) (f : FlockFrame) (rx : Nat)
  | localSyncSend (l : Lane) (t : Nat)
  | localSyncFrame (l : Lane) (f : FlockFrame) (rx : Nat)
  | startupTimeout (l : Lane) (t : Nat)
  | startupComplete (k : Keeper) (n : Nat)
  | cyclePoint (l : Lane) (p : Nat) (t : Nat)
  | cpiAck (l : Lane) (mask : BitVec 16)
  | flockFrameReceive (l : Lane) (f : FlockFrame)
  | txPost (l : Lane) (buf len : Nat) (t : Nat)
  | flockTransmit (l : Lane) (chY : Bool) (w m buf : Nat) (t : Nat)
  | skimEncode (l : Lane) (stream : Nat)
  | guardianRingFrame (g : Gdn) (p : Port) (f : FlockFrame) (bytes : Nat) (t : Nat)
  | portUnblock (g : Gdn) (p : Port) (t : Nat)
  | guardianLocalFrame (g : Gdn) (src : Src) (f : FlockFrame) (start stop : Nat)
  | windowEndCutoff (g : Gdn) (src : Src) (w m : Nat) (t : Nat)
  | sourceUnblock (g : Gdn) (src : Src) (n : Nat)
  | portBroken (g : Gdn) (p : Port) (why : BreakWhy) (t : Nat)
  | loopEstablished (g : Gdn) (p : Port) (t : Nat)
  | loopRelease (g : Gdn) (p : Port) (n : Nat)
  | pdelayRequest (g : Gdn) (t : Nat)
  | pdelayFrame (g : Gdn) (p : Port) (f : FlockFrame) (t : Nat)
  | arbWindowEnd (g : Gdn) (w m : Nat)
  | arbEgressSend (g : Gdn) (e : Egress) (t : Nat)
  | muteFrame (g : Gdn) (f : FlockFrame) (n : Nat)
  | muteStart (g : Gdn) (n : Nat)
  | muteExpiry (g : Gdn) (n : Nat)
  | ringWake (g : Gdn) (p : Port) (t : Nat)
  | guardianStatusWord (l : Lane) (g : Gdn) (present selfOk : Bool) (gt t : Nat)
  | canFrameReceive (l : Lane) (c : CanId) (f : CanFrame)
  | rateDetect (l : Lane) (c : CanId) (interval : Nat) (errorFree : Bool)
  | rateDetectTimeout (l : Lane) (c : CanId) (t : Nat)
  | canRxRelease (l : Lane) (c : CanId) (buf wcnt : Nat)
  | canTxRequest (l : Lane) (c : CanId) (buf : Nat)
  | canTxAbort (l : Lane) (c : CanId) (buf : Nat) (onBus : Bool)
  | canTxDone (l : Lane) (c : CanId) (ts : BitVec 32)
  | silenceRequest (l : Lane) (c : CanId) (target duration : Nat) (timeMs : Nat) (tag : BitVec 64) (t : Nat)
  | silenceExpiry (l : Lane) (c : CanId) (t : Nat)
  | busDominant (l : Lane) (c : CanId) (us : Nat) (t : Nat)
  | busRecessiveResume (l : Lane) (c : CanId) (bits : Nat)
  | busOff (l : Lane) (c : CanId) (t : Nat)
  | recover (l : Lane) (c : CanId) (v : BitVec 32)
  | busOffRecovery (l : Lane) (c : CanId) (occurrences : Nat)
  | segmentTimeout (l : Lane) (key : Nat) (t : Nat)
  | confirmTimeout (l : Lane) (t : Nat)
  | quarantineEnd (l : Lane) (key : Nat) (t : Nat)
  | hello (l : Lane) (r : Req) (a : HelloArgs) (t : Nat)
  | getId (l : Lane) (r : Req) (t : Nat)
  | attest (l : Lane) (r : Req) (nonce : List (BitVec 8)) (mask : BitVec 32) (t : Nat)
  | getKey (l : Lane) (r : Req) (t : Nat)
  | getState (l : Lane) (r : Req) (t : Nat)
  | reqState (l : Lane) (r : Req) (target : BitVec 3) (t : Nat)
  | safeStop (l : Lane) (r : Req) (mask : BitVec 3) (ss1 : Bool) (t : Nat)
  | resetArm (l : Lane) (r : Req) (t : Nat)
  | resetConfirm (l : Lane) (r : Req) (challenge : BitVec 16) (stoHigh : Bool) (t : Nat)
  | imgBegin (l : Lane) (r : Req) (length : Nat) (t : Nat)
  | imgWrite (l : Lane) (r : Req) (offset : Nat) (data : List (BitVec 8)) (t : Nat)
  | imgVerify (l : Lane) (r : Req) (f : ImgFacts) (t : Nat)
  | imgCommit (l : Lane) (r : Req) (digest : List (BitVec 32)) (f : ImgFacts) (t : Nat)
  | cfgRead (l : Lane) (r : Req) (slot offset length : Nat) (t : Nat)
  | learnStart (l : Lane) (r : Req) (n : Nat) (t : Nat)
  | calRead (l : Lane) (r : Req) (offset length : Nat) (t : Nat)
  | calSave (l : Lane) (r : Req) (t : Nat)
  | fcRead (l : Lane) (r : Req) (t : Nat)
  | fcAck (l : Lane) (r : Req) (classes : BitVec 16) (rearm : Bool) (t : Nat)
  | recRead (l : Lane) (r : Req) (index : Nat) (t : Nat)
  | tallyRead (l : Lane) (r : Req) (first count : Nat) (t : Nat)
  | logRead (l : Lane) (r : Req) (offset length : Nat) (t : Nat)
  | mbxStats (l : Lane) (r : Req) (t : Nat)
  | fwBegin (l : Lane) (r : Req) (length svn : Nat) (t : Nat)
  | fwWrite (l : Lane) (r : Req) (offset : Nat) (data : List (BitVec 8)) (t : Nat)
  | fwVerify (l : Lane) (r : Req) (f : FwFacts) (t : Nat)
  | fwTrial (l : Lane) (r : Req) (digest : List (BitVec 32)) (t : Nat)
  | fwCommit (l : Lane) (r : Req) (t : Nat)
  | fwStatus (l : Lane) (r : Req) (t : Nat)
  | password (l : Lane) (r : Req) (pw : List (BitVec 8)) (t : Nat)
  | unlockReq (l : Lane) (r : Req) (level : Nat) (t : Nat)
  | unlockResp (l : Lane) (r : Req) (level : Nat) (sig : List (BitVec 8)) (sigOk : Bool) (t : Nat)
  | challengeExpiry (l : Lane) (t : Nat)
  | provision (l : Lane) (tokenOk : Bool) (pk msk : List (BitVec 8))
  | takeover (l : Lane) (r : Req) (a : LcArgs) (t : Nat)
  | field (l : Lane) (r : Req) (a : LcArgs) (t : Nat)
  | service (l : Lane) (r : Req) (a : LcArgs) (t : Nat)
  | return_ (l : Lane) (r : Req) (a : LcArgs) (t : Nat)
  | decommission (l : Lane) (r : Req) (a : LcArgs) (t : Nat)
  | clearAlarm (l : Lane) (r : Req) (a : LcArgs) (t : Nat)
  | keyLoad (l : Lane) (r : Req) (a : KeyArgs) (t : Nat)
  | rindStat (l : Lane) (r : Req) (t : Nat)
  | grazeTap (l : Lane) (r : Req) (decimation duration : Nat) (t : Nat)
  | skimTap (l : Lane) (r : Req) (stream decimation duration : Nat) (t : Nat)
  | tapStop (l : Lane) (r : Req) (mbox : Nat) (t : Nat)
  | tapDelivery (l : Lane) (mbox : Nat) (canSend : Bool)
  | tapEnd (l : Lane) (mbox : Nat) (t : Nat)
  | crook (l : Lane) (r : Req) (mailbox aux : Bool) (t : Nat)
  | crookForced (l : Lane) (t : Nat)
  | crookReply (l : Lane) (t : Nat)
  | shepherdRestart (l : Lane)
  | mbxReplyRelease (l : Lane) (v : BitVec 32)
  | rindSource (l : Lane) (bit : Nat) (active : Bool) (ns t : Nat)
  | glitchDetect (l : Lane) (bit : Nat) (ns t : Nat)
  | move (l : Lane) (key : BitVec 16)
  | stop (l : Lane) (key : BitVec 16)
  | hardstop (l : Lane) (key : BitVec 16)
  | home (l : Lane) (key : BitVec 16) (t : Nat)
  | clear (l : Lane) (key : BitVec 16) (condGone : Bool)
  | commitTbl (l : Lane) (key : BitVec 16)
  | plannerTick (l : Lane) (slice4 : Bool) (t : Nat)
  | microstep (l : Lane) (t : Nat)
  | standstillEntry (l : Lane) (t : Nat)
  | limitSwitchTransition (l : Lane) (sw : Nat) (high : Bool) (us t : Nat)
  | homingStopComplete (l : Lane) (t : Nat)
  | homingTimeout (l : Lane) (t : Nat)
  | coilFault (l : Lane) (coil kind : Nat) (t : Nat)
  | unknownRequest (l : Lane) (r : Req) (code : Nat) (body : List (BitVec 8)) (t : Nat)
  | canBusError (l : Lane) (c : CanId) (kind : CanErr) (tx : Bool) (t : Nat)
  | debugSessionOpen (l : Lane)
  | debugSessionClose (l : Lane)
  | factoryTestToken (l : Lane) (sigOk : Bool)
deriving DecidableEq, Repr

end Sys2Proof
end

