-- ==== Sys2Proof/Config.lean ====
section
/-! DEFINITION. What the spec leaves open, or computes by a function this model does not spell out. Every constant
here has no body, so a proof can use no value of it; each is named in a row of notes/assumptions/. -/
namespace Sys2Proof

/-- A fresh free value: the spec states no value at the point where it is used. The argument is the lane's or the
stage's counter of free values. Log entry 5. -/
opaque Config.freeValue : Nat → BitVec 32

/-- A byte of the boot ROM (R28, R31); the spec gives no content. Log entry 6. -/
opaque Config.bootRom : Nat → BitVec 8

/-- The CSRs that the spec does not list: what a read of CSR `n` returns besides what was written. Log entry 8. -/
opaque Config.csrReset : Nat → BitVec 32

/-- The identity key's certificate and public key of a lane, GET_KEY (R400). Log entry 9. -/
opaque Config.identityKey : Nat → List (BitVec 8)

/-- A signature of the lane's identity key over a byte string (R420). Log entry 9. -/
opaque Config.sign : Nat → List (BitVec 8) → List (BitVec 8)

/-- A stage's rated torque in 2^-16 N m (R250); the spec states no number. Log entry 10. -/
opaque Config.ratedTorque : Int

/-- Nominal value of the VREF2 input in 0.1 mV (R194); the spec states none. Log entry 12. -/
opaque Config.vref2 : Int

/-- A quotient by zero, of the dividend (R228, R244); the spec states none. Log entry 15. -/
opaque Config.divZero : Int → Int

/-- What the observers of stage `i` estimate in period `p` (R244): angle in bits 15 to 0, speed in bits 31 to 16; and the disturbance.
The spec gives no formula, but says that all lanes' observers agree. Log entry 15. -/
opaque Config.observer : Nat → Nat → BitVec 32
opaque Config.disturbance : Nat → Nat → BitVec 32

/-- The module's serial number, and its ordering code (0 or 1), GET_ID (R400); the spec gives no values. Log entry 21. -/
opaque Config.serial : BitVec 64
opaque Config.orderCode : BitVec 8

/-- The result byte of UNLOCK_RESP, LIFECYCLE and KEY_LOAD (R400); the spec states no code. Log entry 21. -/
opaque Config.resultByte : Bool → BitVec 8

/-- Part `k` of a firmware bank's bytes: 1 Shepherd firmware, 2 engine programs, 3 application (R419). Log entry 21. -/
opaque Config.bankPart : Nat → List (BitVec 8) → List (BitVec 8)

/-- Interrupt numbers of the fast-task interrupt (R24) and of the fault collector's (R295); the spec states none.
Log entry 24. -/
opaque Config.fastCause : Nat
opaque Config.fcCause : Nat

/-- Calibrated delay of an internal link or a satellite port in microticks (R333): guardian 0 X or 1 Y; attachment 0 to 2 for lanes A to
C, 3 to 6 for satellites 1 to 4. The spec gives no values. Log entry 118. -/
opaque Config.linkDelay : Nat → Nat → Nat

end Sys2Proof
end

