-- ==== Sys2Proof/Machine/RegMap.lean ====
section
/-! DEFINITION. The register map: every field of every register table of spec/ (01 R28 for the blocks' addresses;
the tables stand under R88, R140, R171, R172, R197, R222, R255, R275, R288, R311, R324, R350, R373, R388, R410, R433
and R445), with its access code (R5), the write restriction of R458, the range of R459, and the instant at which a
class S register is frozen (R8). Addresses are absolute. The name of a field is its register's name and its own. -/
namespace Sys2Proof.Machine

/-- A field of a register: the register's address, its lowest bit and its width (R4). -/
structure Fld where
  addr : Nat
  lo : Nat
  w : Nat
deriving DecidableEq, Repr

/-- Bit `i` of a field. -/
abbrev Fld.bit (f : Fld) (i : Nat) : Fld := ⟨f.addr, f.lo + i, 1⟩

/-- The `w` bits of a field from its bit `i` on. -/
abbrev Fld.part (f : Fld) (i w : Nat) : Fld := ⟨f.addr, f.lo + i, w⟩

/-- Access codes of R5. `txOnly`: RW in a transmit buffer, RO in a receive buffer (FLK_BUF, CAN_BUF). No register
table of the spec has a field of the code RWS. -/
inductive Access where
  | ro | rw | w1c | wo | rws | txOnly
deriving DecidableEq, Repr

/-- The instants at which class S registers are frozen (R8), as the blocks' register lists state them. `never` is a
class C register. -/
inductive Freeze where
  | never | slot | vote | basic | matrix | stgA | stgB | stgC | ext
deriving DecidableEq, Repr

/-- One field of a register table: place, access, whether it is writable in STANDBY only (R458), and the range of
values a write may give it (R459). -/
structure FieldRow where
  lo : Nat
  w : Nat
  acc : Access
  standby : Bool
  least : Nat
  most : Nat
deriving DecidableEq, Repr

/-- One row of a block's register list: offset, how many registers, how far apart, when they freeze, their fields. -/
structure RegRow where
  off : Nat
  count : Nat
  stride : Nat
  freeze : Freeze
  fields : List FieldRow
deriving DecidableEq, Repr

/-- Base addresses of the two CAN controllers (R28). -/
def canBase : CanId → Nat
  | .can1 => 0x400A0000
  | .can2 => 0x400B0000

/-! ### SYS -/

abbrev Reg.SYS_ID_DIEREV : Fld := ⟨0x40000000, 8, 8⟩
abbrev Reg.SYS_ID_LANE : Fld := ⟨0x40000000, 0, 2⟩
abbrev Reg.SYS_STATE_VOTING : Fld := ⟨0x40000004, 24, 3⟩
abbrev Reg.SYS_STATE_PEND_VALID : Fld := ⟨0x40000004, 19, 1⟩
abbrev Reg.SYS_STATE_PENDING : Fld := ⟨0x40000004, 16, 3⟩
abbrev Reg.SYS_STATE_PHASE : Fld := ⟨0x40000004, 12, 2⟩
abbrev Reg.SYS_STATE_TARGET : Fld := ⟨0x40000004, 8, 3⟩
abbrev Reg.SYS_STATE_LANE_MODE : Fld := ⟨0x40000004, 4, 2⟩
abbrev Reg.SYS_STATE_MODULE : Fld := ⟨0x40000004, 0, 3⟩
abbrev Reg.SYS_REQ_KEY : Fld := ⟨0x40000008, 16, 16⟩
abbrev Reg.SYS_REQ_TARGET : Fld := ⟨0x40000008, 0, 3⟩
abbrev Reg.SYS_TRANS_STAT_SEQ : Fld := ⟨0x4000000c, 24, 8⟩
abbrev Reg.SYS_TRANS_STAT_BLOCK : Fld := ⟨0x4000000c, 16, 5⟩
abbrev Reg.SYS_TRANS_STAT_REASON : Fld := ⟨0x4000000c, 8, 8⟩
abbrev Reg.SYS_TRANS_STAT_RESULT : Fld := ⟨0x4000000c, 0, 3⟩
abbrev Reg.SYS_HS_STAT_ANS (i : Nat) : Fld := ⟨0x40000010, 2 * i, 2⟩
abbrev Reg.SYS_POLICY_NET_ARM : Fld := ⟨0x40000014, 2, 2⟩
abbrev Reg.SYS_POLICY_MIN_LANES_ARM : Fld := ⟨0x40000014, 0, 2⟩
abbrev Reg.SYS_WAKE_CFG_MOTION_THR : Fld := ⟨0x40000018, 8, 8⟩
abbrev Reg.SYS_WAKE_CFG_RING : Fld := ⟨0x40000018, 5, 1⟩
abbrev Reg.SYS_WAKE_CFG_MOTION : Fld := ⟨0x40000018, 4, 1⟩
abbrev Reg.SYS_WAKE_CFG_TIMER : Fld := ⟨0x40000018, 3, 1⟩
abbrev Reg.SYS_WAKE_CFG_WAKE : Fld := ⟨0x40000018, 2, 1⟩
abbrev Reg.SYS_WAKE_CFG_CAN2 : Fld := ⟨0x40000018, 1, 1⟩
abbrev Reg.SYS_WAKE_CFG_CAN1 : Fld := ⟨0x40000018, 0, 1⟩
abbrev Reg.SYS_WAKE_SRC_COLD : Fld := ⟨0x4000001c, 8, 1⟩
abbrev Reg.SYS_WAKE_SRC_SIBLING : Fld := ⟨0x4000001c, 6, 1⟩
abbrev Reg.SYS_WAKE_SRC_RING : Fld := ⟨0x4000001c, 5, 1⟩
abbrev Reg.SYS_WAKE_SRC_MOTION : Fld := ⟨0x4000001c, 4, 1⟩
abbrev Reg.SYS_WAKE_SRC_TIMER : Fld := ⟨0x4000001c, 3, 1⟩
abbrev Reg.SYS_WAKE_SRC_WAKE : Fld := ⟨0x4000001c, 2, 1⟩
abbrev Reg.SYS_WAKE_SRC_CAN2 : Fld := ⟨0x4000001c, 1, 1⟩
abbrev Reg.SYS_WAKE_SRC_CAN1 : Fld := ⟨0x4000001c, 0, 1⟩
abbrev Reg.SYS_WAKE_TIMER_PERIODS : Fld := ⟨0x40000020, 0, 32⟩
abbrev Reg.SYS_CLK_STAT_REG_RETRY : Fld := ⟨0x40000024, 8, 2⟩
abbrev Reg.SYS_CLK_STAT_CORE_FREQ : Fld := ⟨0x40000024, 4, 2⟩
abbrev Reg.SYS_CLK_STAT_TPLL_LOCK : Fld := ⟨0x40000024, 3, 1⟩
abbrev Reg.SYS_CLK_STAT_CPLL_LOCK : Fld := ⟨0x40000024, 2, 1⟩
abbrev Reg.SYS_CLK_STAT_RC_FALLBACK : Fld := ⟨0x40000024, 1, 1⟩
abbrev Reg.SYS_CLK_STAT_XTAL_OK : Fld := ⟨0x40000024, 0, 1⟩
abbrev Reg.SYS_BIAS_TJ : Fld := ⟨0x40000028, 16, 16⟩
abbrev Reg.SYS_BIAS_TJ_HOT : Fld := ⟨0x40000028, 5, 1⟩
abbrev Reg.SYS_BIAS_SETTLED : Fld := ⟨0x40000028, 4, 1⟩
abbrev Reg.SYS_BIAS_BIAS : Fld := ⟨0x40000028, 0, 2⟩
abbrev Reg.SYS_RET_CFG_USER_COUNT : Fld := ⟨0x4000002c, 0, 8⟩
abbrev Reg.SYS_RET_STAT_CRC_FAIL : Fld := ⟨0x40000030, 1, 4⟩
abbrev Reg.SYS_RET_STAT_RESTORED : Fld := ⟨0x40000030, 0, 1⟩
abbrev Reg.SYS_SIBLING_LANE_C : Fld := ⟨0x40000034, 4, 2⟩
abbrev Reg.SYS_SIBLING_LANE_B : Fld := ⟨0x40000034, 2, 2⟩
abbrev Reg.SYS_SIBLING_LANE_A : Fld := ⟨0x40000034, 0, 2⟩
abbrev Reg.SYS_RET_LIST_ENTRY (n : Nat) : Fld := ⟨0x40000000 + (0x800 + 4 * n), 0, 32⟩

/-! ### FC -/

abbrev Reg.FC_STAT_OPEN : Fld := ⟨0x40010000, 17, 15⟩
abbrev Reg.FC_STAT_OVF : Fld := ⟨0x40010000, 16, 1⟩
abbrev Reg.FC_STAT_NEW : Fld := ⟨0x40010000, 1, 15⟩
abbrev Reg.FC_STAT_FIRST_VALID : Fld := ⟨0x40010000, 0, 1⟩
abbrev Reg.FC_FIRST_LEVEL : Fld := ⟨0x40010004, 24, 3⟩
abbrev Reg.FC_FIRST_DETAIL : Fld := ⟨0x40010004, 16, 8⟩
abbrev Reg.FC_FIRST_ID : Fld := ⟨0x40010004, 0, 16⟩
abbrev Reg.FC_FIRST_T_TIME (h : Nat) : Fld := ⟨0x40010000 + (0x8 + 4 * h), 0, 32⟩
abbrev Reg.FC_ACK_KEY : Fld := ⟨0x40010010, 16, 16⟩
abbrev Reg.FC_ACK_CLASS : Fld := ⟨0x40010010, 1, 15⟩
abbrev Reg.FC_ACK_REARM : Fld := ⟨0x40010010, 0, 1⟩
abbrev Reg.FC_MODE_ESC : Fld := ⟨0x40010014, 1, 15⟩
abbrev Reg.FC_SHADOW_GUARD : Fld := ⟨0x40010018, 14, 2⟩
abbrev Reg.FC_SHADOW_SIBLING : Fld := ⟨0x40010018, 11, 3⟩
abbrev Reg.FC_SHADOW_STG_OUT : Fld := ⟨0x40010018, 8, 3⟩
abbrev Reg.FC_SHADOW_STG_ASC : Fld := ⟨0x40010018, 5, 3⟩
abbrev Reg.FC_SHADOW_STG_LATCH : Fld := ⟨0x40010018, 2, 3⟩
abbrev Reg.FC_SHADOW_SUPPLY : Fld := ⟨0x40010018, 1, 1⟩
abbrev Reg.FC_SHADOW_CORE : Fld := ⟨0x40010018, 0, 1⟩
abbrev Reg.FC_LINE_VALID : Fld := ⟨0x4001001c, 16, 1⟩
abbrev Reg.FC_LINE_ID : Fld := ⟨0x4001001c, 0, 16⟩
abbrev Reg.FC_REC_WRITTEN : Fld := ⟨0x40010020, 16, 16⟩
abbrev Reg.FC_REC_DROPPED : Fld := ⟨0x40010020, 8, 8⟩
abbrev Reg.FC_REC_QUEUED : Fld := ⟨0x40010020, 0, 5⟩
abbrev Reg.FC_INJ_ID : Fld := ⟨0x40010024, 16, 16⟩
abbrev Reg.FC_INJ_DETAIL : Fld := ⟨0x40010024, 8, 8⟩
abbrev Reg.FC_CNT_LEVEL (c : Nat) : Fld := ⟨0x40010000 + (0x40 + 4 * c), 29, 3⟩
abbrev Reg.FC_CNT_COUNT (c : Nat) : Fld := ⟨0x40010000 + (0x40 + 4 * c), 12, 12⟩
abbrev Reg.FC_CNT_CONSEQ (c : Nat) : Fld := ⟨0x40010000 + (0x40 + 4 * c), 0, 12⟩
abbrev Reg.FC_LVL_OVR_VALID (n : Nat) : Fld := ⟨0x40010000 + (0x100 + 4 * n), 31, 1⟩
abbrev Reg.FC_LVL_OVR_LEVEL (n : Nat) : Fld := ⟨0x40010000 + (0x100 + 4 * n), 16, 3⟩
abbrev Reg.FC_LVL_OVR_ID (n : Nat) : Fld := ⟨0x40010000 + (0x100 + 4 * n), 0, 16⟩

/-! ### AGR -/

abbrev Reg.AGR_STAT_VERSION : Fld := ⟨0x40020000, 24, 8⟩
abbrev Reg.AGR_STAT_VOTERS : Fld := ⟨0x40020000, 21, 3⟩
abbrev Reg.AGR_STAT_ABSENT : Fld := ⟨0x40020000, 18, 3⟩
abbrev Reg.AGR_STAT_ODD : Fld := ⟨0x40020000, 15, 3⟩
abbrev Reg.AGR_STAT_MISSING : Fld := ⟨0x40020000, 12, 3⟩
abbrev Reg.AGR_STAT_EQUIV : Fld := ⟨0x40020000, 9, 3⟩
abbrev Reg.AGR_STAT_CATCHUP : Fld := ⟨0x40020000, 5, 1⟩
abbrev Reg.AGR_STAT_CONFLICT : Fld := ⟨0x40020000, 4, 1⟩
abbrev Reg.AGR_STAT_HELD : Fld := ⟨0x40020000, 3, 1⟩
abbrev Reg.AGR_STAT_SINGLE : Fld := ⟨0x40020000, 2, 1⟩
abbrev Reg.AGR_STAT_DEADLINE : Fld := ⟨0x40020000, 1, 1⟩
abbrev Reg.AGR_SEQ_SLOT : Fld := ⟨0x40020004, 16, 3⟩
abbrev Reg.AGR_SEQ_ROUND : Fld := ⟨0x40020004, 0, 16⟩
abbrev Reg.AGR_VALID_VALID (h : Nat) : Fld := ⟨0x40020000 + (0x8 + 4 * h), 0, 32⟩
abbrev Reg.AGR_OWNDIS_DIS (h : Nat) : Fld := ⟨0x40020000 + (0x10 + 4 * h), 0, 32⟩
abbrev Reg.AGR_RSYNC_REASON : Fld := ⟨0x40020018, 16, 8⟩
abbrev Reg.AGR_RSYNC_FAILS : Fld := ⟨0x40020018, 8, 2⟩
abbrev Reg.AGR_RSYNC_LOCKOUT : Fld := ⟨0x40020018, 7, 1⟩
abbrev Reg.AGR_RSYNC_PHASE : Fld := ⟨0x40020018, 0, 3⟩
abbrev Reg.AGR_RSYNC_APP_ADDR : Fld := ⟨0x4002001c, 2, 30⟩
abbrev Reg.AGR_RSYNC_LEN_LEN : Fld := ⟨0x40020020, 0, 14⟩
abbrev Reg.AGR_HIST_SEL_PRESENT : Fld := ⟨0x40020024, 16, 1⟩
abbrev Reg.AGR_HIST_SEL_ROUND : Fld := ⟨0x40020024, 0, 16⟩
abbrev Reg.AGR_LINKERR_CA : Fld := ⟨0x40020028, 16, 8⟩
abbrev Reg.AGR_LINKERR_BC : Fld := ⟨0x40020028, 8, 8⟩
abbrev Reg.AGR_LINKERR_AB : Fld := ⟨0x40020028, 0, 8⟩
abbrev Reg.AGR_FIELD_CFG_RULE (f : Nat) : Fld := ⟨0x40020000 + (0x100 + 4 * f), 30, 2⟩
abbrev Reg.AGR_FIELD_CFG_PLAUS (f : Nat) : Fld := ⟨0x40020000 + (0x100 + 4 * f), 28, 2⟩
abbrev Reg.AGR_FIELD_CFG_SOFT (f : Nat) : Fld := ⟨0x40020000 + (0x100 + 4 * f), 27, 1⟩
abbrev Reg.AGR_FIELD_CFG_MOD16 (f : Nat) : Fld := ⟨0x40020000 + (0x100 + 4 * f), 26, 1⟩
abbrev Reg.AGR_FIELD_CFG_TOL (f : Nat) : Fld := ⟨0x40020000 + (0x100 + 4 * f), 0, 24⟩
abbrev Reg.AGR_FIELD_SRC_ADDR (f : Nat) : Fld := ⟨0x40020000 + (0x200 + 4 * f), 2, 20⟩
abbrev Reg.AGR_OWN_VALUE (f : Nat) : Fld := ⟨0x40020000 + (0x300 + 4 * f), 0, 32⟩
abbrev Reg.AGR_VEC_VALUE (f : Nat) : Fld := ⟨0x40020000 + (0x400 + 4 * f), 0, 32⟩
abbrev Reg.AGR_HIST_VALUE (f : Nat) : Fld := ⟨0x40020000 + (0x500 + 4 * f), 0, 32⟩

/-! ### CLM -/

abbrev Reg.CLM_MATRIX_CLAIMS : Fld := ⟨0x40030000, 0, 27⟩
abbrev Reg.CLM_PRESENT_VETO : Fld := ⟨0x40030004, 16, 3⟩
abbrev Reg.CLM_PRESENT_WITHDRAW : Fld := ⟨0x40030004, 12, 4⟩
abbrev Reg.CLM_PRESENT_CLAIM : Fld := ⟨0x40030004, 0, 9⟩
abbrev Reg.CLM_TOL_TOL : Fld := ⟨0x40030008, 0, 8⟩
abbrev Reg.CLM_STG_HANDOVERS (s : Nat) : Fld := ⟨0x40030000 + (0x10 + 4 * s), 24, 8⟩
abbrev Reg.CLM_STG_UNHEALTHY (s : Nat) : Fld := ⟨0x40030000 + (0x10 + 4 * s), 17, 3⟩
abbrev Reg.CLM_STG_OKCLAIM (s : Nat) : Fld := ⟨0x40030000 + (0x10 + 4 * s), 14, 3⟩
abbrev Reg.CLM_STG_TIE (s : Nat) : Fld := ⟨0x40030000 + (0x10 + 4 * s), 13, 1⟩
abbrev Reg.CLM_STG_NOCLAIM (s : Nat) : Fld := ⟨0x40030000 + (0x10 + 4 * s), 12, 1⟩
abbrev Reg.CLM_STG_HOLD (s : Nat) : Fld := ⟨0x40030000 + (0x10 + 4 * s), 11, 1⟩
abbrev Reg.CLM_STG_ACCEPTED (s : Nat) : Fld := ⟨0x40030000 + (0x10 + 4 * s), 0, 2⟩
abbrev Reg.CLM_LINKERR_STG_C : Fld := ⟨0x40030020, 16, 8⟩
abbrev Reg.CLM_LINKERR_STG_B : Fld := ⟨0x40030020, 8, 8⟩
abbrev Reg.CLM_LINKERR_STG_A : Fld := ⟨0x40030020, 0, 8⟩

/-! ### MEAS -/

abbrev Reg.MEAS_CFG_KIRCH_N : Fld := ⟨0x40040000, 16, 8⟩
abbrev Reg.MEAS_CFG_KIRCH_TOL : Fld := ⟨0x40040000, 0, 16⟩
abbrev Reg.MEAS_STAT_OUT_OF_SERVICE : Fld := ⟨0x40040004, 9, 3⟩
abbrev Reg.MEAS_STAT_KIRCH : Fld := ⟨0x40040004, 6, 3⟩
abbrev Reg.MEAS_STAT_NOVALID : Fld := ⟨0x40040004, 3, 3⟩
abbrev Reg.MEAS_STAT_FRAME_LOST : Fld := ⟨0x40040004, 0, 3⟩
abbrev Reg.MEAS_LEG_STAT_LEG (s k : Nat) : Fld := ⟨0x40040000 + (0x10 + 4 * s), 8 * k, 8⟩
abbrev Reg.MEAS_WIN_CFG_CURV_EN : Fld := ⟨0x40040040, 16, 1⟩
abbrev Reg.MEAS_WIN_CFG_MIN_WIN : Fld := ⟨0x40040040, 0, 12⟩
abbrev Reg.MEAS_CAL_STAT_FACT_BAD : Fld := ⟨0x40040044, 6, 3⟩
abbrev Reg.MEAS_CAL_STAT_OFS_LIMIT : Fld := ⟨0x40040044, 3, 3⟩
abbrev Reg.MEAS_CAL_STAT_INFIELD_DONE : Fld := ⟨0x40040044, 0, 3⟩
abbrev Reg.MEAS_OW_STAT_SEG (s j : Nat) : Fld := ⟨0x40040000 + (0x50 + 4 * s), 2 * j, 2⟩
abbrev Reg.MEAS_OW_CNT_OVERDUE : Fld := ⟨0x4004005c, 16, 3⟩
abbrev Reg.MEAS_OW_CNT_CYCLES : Fld := ⟨0x4004005c, 0, 16⟩
abbrev Reg.MEAS_VDC_VALID (s : Nat) : Fld := ⟨0x40040000 + (0x80 + 4 * s), 16, 1⟩
abbrev Reg.MEAS_VDC_VDC (s : Nat) : Fld := ⟨0x40040000 + (0x80 + 4 * s), 0, 16⟩
abbrev Reg.MEAS_I_I (s k : Nat) : Fld := ⟨0x40040000 + (0x100 + 0x10 * s + 4 * k), 0, 32⟩
abbrev Reg.MEAS_RAW_D (s k : Nat) : Fld := ⟨0x40040000 + (0x140 + 0x10 * s + 4 * k), 0, 32⟩
abbrev Reg.MEAS_WIN_CONV (s k : Nat) : Fld := ⟨0x40040000 + (0x180 + 0x10 * s + 4 * k), 16, 1⟩
abbrev Reg.MEAS_WIN_W (s k : Nat) : Fld := ⟨0x40040000 + (0x180 + 0x10 * s + 4 * k), 0, 16⟩
abbrev Reg.MEAS_OFS_OFS (s k c : Nat) : Fld := ⟨0x40040000 + (0x200 + 0x20 * s + 8 * k + 4 * c), 0, 16⟩
abbrev Reg.MEAS_GP_VALUE (n : Nat) : Fld := ⟨0x40040000 + (0x340 + 4 * n), 16, 16⟩
abbrev Reg.MEAS_GP_VALID (n : Nat) : Fld := ⟨0x40040000 + (0x340 + 4 * n), 15, 1⟩
abbrev Reg.MEAS_GP_MISMATCH (n : Nat) : Fld := ⟨0x40040000 + (0x340 + 4 * n), 14, 1⟩

/-! ### POS -/

abbrev Reg.POS_SRC_STAT_NO_ANGLE : Fld := ⟨0x40050000, 9, 1⟩
abbrev Reg.POS_SRC_STAT_ENC_FUSED : Fld := ⟨0x40050000, 8, 1⟩
abbrev Reg.POS_SRC_STAT_VALID : Fld := ⟨0x40050000, 0, 6⟩
abbrev Reg.POS_SNAP_REQ : Fld := ⟨0x40050004, 0, 1⟩
abbrev Reg.POS_EXT_STAT_WRAP_OVF : Fld := ⟨0x40050008, 8, 3⟩
abbrev Reg.POS_EXT_STAT_WRAP : Fld := ⟨0x40050008, 0, 6⟩
abbrev Reg.POS_ENC_CFG_ZGATE : Fld := ⟨0x40050010, 29, 2⟩
abbrev Reg.POS_ENC_CFG_ENABLE : Fld := ⟨0x40050010, 28, 1⟩
abbrev Reg.POS_ENC_CFG_FILT : Fld := ⟨0x40050010, 22, 6⟩
abbrev Reg.POS_ENC_CFG_DECODE : Fld := ⟨0x40050010, 20, 2⟩
abbrev Reg.POS_ENC_CFG_CPR : Fld := ⟨0x40050010, 0, 20⟩
abbrev Reg.POS_IDX_CFG_REF : Fld := ⟨0x40050014, 12, 20⟩
abbrev Reg.POS_IDX_CFG_TOL : Fld := ⟨0x40050014, 4, 4⟩
abbrev Reg.POS_IDX_CFG_MODE : Fld := ⟨0x40050014, 0, 2⟩
abbrev Reg.POS_IDX_CTL_REREF : Fld := ⟨0x40050018, 0, 1⟩
abbrev Reg.POS_IDX_STAT_LAST_ERR : Fld := ⟨0x4005001c, 16, 16⟩
abbrev Reg.POS_IDX_STAT_CORR_CNT : Fld := ⟨0x4005001c, 8, 8⟩
abbrev Reg.POS_IDX_STAT_MISSING : Fld := ⟨0x4005001c, 2, 1⟩
abbrev Reg.POS_IDX_STAT_STATE : Fld := ⟨0x4005001c, 0, 2⟩
abbrev Reg.POS_ENC_STAT_SIGLOSS : Fld := ⟨0x40050020, 16, 1⟩
abbrev Reg.POS_ENC_STAT_QERR_CNT : Fld := ⟨0x40050020, 0, 16⟩
abbrev Reg.POS_HALL_CFG_ENABLE : Fld := ⟨0x40050024, 30, 1⟩
abbrev Reg.POS_HALL_CFG_FILT : Fld := ⟨0x40050024, 24, 6⟩
abbrev Reg.POS_HALL_CFG_MAP : Fld := ⟨0x40050024, 0, 24⟩
abbrev Reg.POS_HALL_STAT_SKIP_CNT : Fld := ⟨0x40050028, 16, 8⟩
abbrev Reg.POS_HALL_STAT_INV_CNT : Fld := ⟨0x40050028, 8, 8⟩
abbrev Reg.POS_HALL_STAT_INVALID : Fld := ⟨0x40050028, 7, 1⟩
abbrev Reg.POS_HALL_STAT_PATTERN : Fld := ⟨0x40050028, 4, 3⟩
abbrev Reg.POS_HALL_STAT_SECTOR : Fld := ⟨0x40050028, 0, 3⟩
abbrev Reg.POS_SPD_CFG_N_HI : Fld := ⟨0x4005002c, 16, 8⟩
abbrev Reg.POS_SPD_CFG_N_LO : Fld := ⟨0x4005002c, 8, 8⟩
abbrev Reg.POS_SPD_CFG_TIMEOUT : Fld := ⟨0x4005002c, 0, 8⟩
abbrev Reg.POS_SPD_STAT_TMR : Fld := ⟨0x40050030, 4, 2⟩
abbrev Reg.POS_SPD_STAT_HALL : Fld := ⟨0x40050030, 2, 2⟩
abbrev Reg.POS_SPD_STAT_ENC : Fld := ⟨0x40050030, 0, 2⟩
abbrev Reg.POS_FUSE_CFG_ENC_EN : Fld := ⟨0x40050034, 24, 1⟩
abbrev Reg.POS_FUSE_CFG_TAU : Fld := ⟨0x40050034, 16, 8⟩
abbrev Reg.POS_FUSE_CFG_PP : Fld := ⟨0x40050034, 12, 4⟩
abbrev Reg.POS_FUSE_CFG_LIM : Fld := ⟨0x40050034, 0, 12⟩
abbrev Reg.POS_ELEC_OFS_ELEC_OFS : Fld := ⟨0x40050038, 0, 16⟩
abbrev Reg.POS_SP_CFG_FILT2 : Fld := ⟨0x4005003c, 16, 6⟩
abbrev Reg.POS_SP_CFG_FILT1 : Fld := ⟨0x4005003c, 10, 6⟩
abbrev Reg.POS_SP_CFG_PORT2 : Fld := ⟨0x4005003c, 4, 4⟩
abbrev Reg.POS_SP_CFG_PORT1 : Fld := ⟨0x4005003c, 0, 4⟩
abbrev Reg.POS_SSI_CFG_MONO : Fld := ⟨0x40050040, 20, 6⟩
abbrev Reg.POS_SSI_CFG_LEAD : Fld := ⟨0x40050040, 14, 6⟩
abbrev Reg.POS_SSI_CFG_CLK : Fld := ⟨0x40050040, 12, 2⟩
abbrev Reg.POS_SSI_CFG_GRAY : Fld := ⟨0x40050040, 6, 1⟩
abbrev Reg.POS_SSI_CFG_BITS : Fld := ⟨0x40050040, 0, 6⟩
abbrev Reg.POS_CAL_CTL_VMAX : Fld := ⟨0x40050044, 16, 8⟩
abbrev Reg.POS_CAL_CTL_VMIN : Fld := ⟨0x40050044, 8, 8⟩
abbrev Reg.POS_CAL_CTL_EN : Fld := ⟨0x40050044, 0, 1⟩
abbrev Reg.POS_CAL_STAT_APPLIED : Fld := ⟨0x40050048, 16, 8⟩
abbrev Reg.POS_CAL_STAT_REF : Fld := ⟨0x40050048, 11, 1⟩
abbrev Reg.POS_CAL_STAT_REJECT : Fld := ⟨0x40050048, 10, 1⟩
abbrev Reg.POS_CAL_STAT_STATE : Fld := ⟨0x40050048, 8, 2⟩
abbrev Reg.POS_CAL_STAT_REVS : Fld := ⟨0x40050048, 0, 8⟩
abbrev Reg.POS_CNT_COUNT (i : Nat) : Fld := ⟨0x40050000 + (0x80 + 4 * i), 0, 32⟩
abbrev Reg.POS_EXT_COUNT (i : Nat) : Fld := ⟨0x40050000 + (0x90 + 4 * i), 0, 32⟩
abbrev Reg.POS_SPEED_SPEED (i : Nat) : Fld := ⟨0x40050000 + (0xa0 + 4 * i), 0, 32⟩
abbrev Reg.POS_ANGLE_TMR_CAL : Fld := ⟨0x400500b0, 16, 16⟩
abbrev Reg.POS_ANGLE_TMR_RAW : Fld := ⟨0x400500b0, 0, 16⟩
abbrev Reg.POS_ANGLE_FUSED_ANGLE : Fld := ⟨0x400500b4, 0, 32⟩
abbrev Reg.POS_ANGLE_ELEC_FIELD : Fld := ⟨0x400500b8, 16, 16⟩
abbrev Reg.POS_ANGLE_ELEC_ELEC : Fld := ⟨0x400500b8, 0, 16⟩
abbrev Reg.POS_TS_TIME (i : Nat) : Fld := ⟨0x40050000 + (0xc0 + 4 * i), 0, 32⟩
abbrev Reg.POS_SP_VALUE2 (i : Nat) : Fld := ⟨0x40050000 + (0xd0 + 4 * i), 16, 16⟩
abbrev Reg.POS_SP_VALUE1 (i : Nat) : Fld := ⟨0x40050000 + (0xd0 + 4 * i), 0, 16⟩
abbrev Reg.POS_SP_SER_ID (i : Nat) : Fld := ⟨0x40050000 + (0xd8 + 4 * i), 16, 8⟩
abbrev Reg.POS_SP_SER_DATA (i : Nat) : Fld := ⟨0x40050000 + (0xd8 + 4 * i), 0, 16⟩
abbrev Reg.POS_SP_STAT_PORT2 : Fld := ⟨0x400500e0, 16, 16⟩
abbrev Reg.POS_SP_STAT_PORT1 : Fld := ⟨0x400500e0, 0, 16⟩
abbrev Reg.POS_SSI_VALUE : Fld := ⟨0x400500e4, 0, 32⟩
abbrev Reg.POS_SSI_STAT_ERR_CNT : Fld := ⟨0x400500e8, 8, 8⟩
abbrev Reg.POS_SSI_STAT_VALID : Fld := ⟨0x400500e8, 0, 1⟩
abbrev Reg.POS_CAL_COEF_COEF (i : Nat) : Fld := ⟨0x40050000 + (0x100 + 4 * i), 0, 16⟩

/-! ### COM -/

abbrev Reg.COM_STAT_FLY : Fld := ⟨0x40060000, 21, 3⟩
abbrev Reg.COM_STAT_FLOAT : Fld := ⟨0x40060000, 18, 3⟩
abbrev Reg.COM_STAT_COAST : Fld := ⟨0x40060000, 15, 3⟩
abbrev Reg.COM_STAT_OUT : Fld := ⟨0x40060000, 12, 3⟩
abbrev Reg.COM_STAT_VLIM : Fld := ⟨0x40060000, 9, 3⟩
abbrev Reg.COM_STAT_DTC : Fld := ⟨0x40060000, 6, 3⟩
abbrev Reg.COM_STAT_LEARN : Fld := ⟨0x40060000, 5, 1⟩
abbrev Reg.COM_STAT_SHAPE : Fld := ⟨0x40060000, 0, 2⟩
abbrev Reg.COM_CFG_F_MAX : Fld := ⟨0x40060004, 16, 12⟩
abbrev Reg.COM_CFG_PWM : Fld := ⟨0x40060004, 10, 2⟩
abbrev Reg.COM_CFG_PROFILE : Fld := ⟨0x40060004, 9, 1⟩
abbrev Reg.COM_CFG_AXLE_C : Fld := ⟨0x40060004, 8, 1⟩
abbrev Reg.COM_REG_CFG_KP : Fld := ⟨0x40060008, 16, 16⟩
abbrev Reg.COM_REG_CFG_KI : Fld := ⟨0x40060008, 0, 16⟩
abbrev Reg.COM_RL_CFG_R : Fld := ⟨0x4006000c, 16, 16⟩
abbrev Reg.COM_RL_CFG_L : Fld := ⟨0x4006000c, 0, 16⟩
abbrev Reg.COM_SPAN_SPAN_DUO : Fld := ⟨0x40060010, 16, 16⟩
abbrev Reg.COM_SPAN_SPAN_TRI : Fld := ⟨0x40060010, 0, 16⟩
abbrev Reg.COM_SPAN2_SPAN_SOLO : Fld := ⟨0x40060014, 0, 16⟩
abbrev Reg.COM_SHARE_SHARE1 : Fld := ⟨0x40060018, 16, 16⟩
abbrev Reg.COM_SHARE_SHARE2 : Fld := ⟨0x40060018, 0, 16⟩
abbrev Reg.COM_OBS_CFG_THR : Fld := ⟨0x4006001c, 16, 16⟩
abbrev Reg.COM_OBS_CFG_REACQ : Fld := ⟨0x4006001c, 8, 8⟩
abbrev Reg.COM_OBS_CFG_GAIN : Fld := ⟨0x4006001c, 0, 8⟩
abbrev Reg.COM_FLY_CFG_START_THR : Fld := ⟨0x40060020, 24, 8⟩
abbrev Reg.COM_FLY_CFG_CATCH : Fld := ⟨0x40060020, 16, 8⟩
abbrev Reg.COM_FLY_CFG_BEMF_THR : Fld := ⟨0x40060020, 8, 8⟩
abbrev Reg.COM_FLY_CFG_RAMP : Fld := ⟨0x40060020, 0, 8⟩
abbrev Reg.COM_FLY_CFG2_I_CATCH : Fld := ⟨0x40060024, 16, 16⟩
abbrev Reg.COM_FLY_CFG2_TMO : Fld := ⟨0x40060024, 0, 16⟩
abbrev Reg.COM_DTC_CFG_T_HYS : Fld := ⟨0x40060028, 16, 16⟩
abbrev Reg.COM_DTC_CFG_F_HYS : Fld := ⟨0x40060028, 8, 8⟩
abbrev Reg.COM_DTC_CFG_ZERO : Fld := ⟨0x40060028, 0, 8⟩
abbrev Reg.COM_LEARN_CFG_N_REV : Fld := ⟨0x4006002c, 24, 8⟩
abbrev Reg.COM_LEARN_CFG_LGAIN : Fld := ⟨0x4006002c, 16, 8⟩
abbrev Reg.COM_LEARN_REF_ACC_REF : Fld := ⟨0x40060030, 0, 32⟩
abbrev Reg.COM_LEARN_STAT_RUNS : Fld := ⟨0x40060034, 16, 8⟩
abbrev Reg.COM_LEARN_STAT_REVS : Fld := ⟨0x40060034, 8, 8⟩
abbrev Reg.COM_LEARN_STAT_RESULT : Fld := ⟨0x40060034, 0, 3⟩
abbrev Reg.COM_MAP_STAT_PENDING : Fld := ⟨0x40060038, 16, 11⟩
abbrev Reg.COM_MAP_STAT_DISCARDED : Fld := ⟨0x40060038, 1, 1⟩
abbrev Reg.COM_MAP_STAT_OVERLAY : Fld := ⟨0x40060038, 0, 1⟩
abbrev Reg.COM_GRAZE_CFG_EN : Fld := ⟨0x4006003c, 0, 1⟩
abbrev Reg.COM_AXLE_CFG_SPD_FIELD (s : Nat) : Fld := ⟨0x40060000 + (0x40 + 4 * s), 8, 6⟩
abbrev Reg.COM_AXLE_CFG_ANG_FIELD (s : Nat) : Fld := ⟨0x40060000 + (0x40 + 4 * s), 0, 6⟩
abbrev Reg.COM_MODE_MODE (s : Nat) : Fld := ⟨0x40060000 + (0x100 + 16 * s), 0, 3⟩
abbrev Reg.COM_ICMD_ICMD (s : Nat) : Fld := ⟨0x40060000 + (0x104 + 16 * s), 0, 32⟩
abbrev Reg.COM_ADV_TRIM (s : Nat) : Fld := ⟨0x40060000 + (0x108 + 16 * s), 0, 16⟩
abbrev Reg.COM_LIM_PSI_REF (s : Nat) : Fld := ⟨0x40060000 + (0x10c + 16 * s), 16, 16⟩
abbrev Reg.COM_LIM_I_LIM (s : Nat) : Fld := ⟨0x40060000 + (0x10c + 16 * s), 0, 16⟩
abbrev Reg.COM_POST_COMMIT : Fld := ⟨0x40060130, 0, 1⟩
abbrev Reg.COM_POST_STAT_LATE_CNT : Fld := ⟨0x40060134, 16, 16⟩
abbrev Reg.COM_POST_STAT_POSTED : Fld := ⟨0x40060134, 0, 1⟩
abbrev Reg.COM_STG_STAT_DUTY (s : Nat) : Fld := ⟨0x40060000 + (0x140 + 4 * s), 16, 16⟩
abbrev Reg.COM_STG_STAT_PEAKLIM (s : Nat) : Fld := ⟨0x40060000 + (0x140 + 4 * s), 13, 1⟩
abbrev Reg.COM_STG_STAT_TRANSFER (s : Nat) : Fld := ⟨0x40060000 + (0x140 + 4 * s), 12, 1⟩
abbrev Reg.COM_STG_STAT_OBS (s : Nat) : Fld := ⟨0x40060000 + (0x140 + 4 * s), 8, 2⟩
abbrev Reg.COM_STG_STAT_SECTOR (s : Nat) : Fld := ⟨0x40060000 + (0x140 + 4 * s), 0, 3⟩
abbrev Reg.COM_IREF_IREF (s : Nat) : Fld := ⟨0x40060000 + (0x150 + 4 * s), 0, 32⟩
abbrev Reg.COM_OBS_SPEED (s : Nat) : Fld := ⟨0x40060000 + (0x160 + 4 * s), 16, 16⟩
abbrev Reg.COM_OBS_ANGLE (s : Nat) : Fld := ⟨0x40060000 + (0x160 + 4 * s), 0, 16⟩
abbrev Reg.COM_EDGE_TBL_F (q n : Nat) : Fld := ⟨0x40060000 + (0x1000 + 0x100 * q + 4 * n), 0, 16⟩
abbrev Reg.COM_ADV_TBL_ADV (n : Nat) : Fld := ⟨0x40060000 + (0x1400 + 4 * n), 0, 16⟩
abbrev Reg.COM_SHAPE_MAP_SCALE (t i : Nat) : Fld := ⟨0x40060000 + (0x2000 + 0x200 * t + 4 * i), 16, 16⟩
abbrev Reg.COM_SHAPE_MAP_EDGE (t i : Nat) : Fld := ⟨0x40060000 + (0x2000 + 0x200 * t + 4 * i), 0, 16⟩
abbrev Reg.COM_GRAZE_BIN_HI (n : Nat) : Fld := ⟨0x40060000 + (0x3400 + 4 * n), 16, 16⟩
abbrev Reg.COM_GRAZE_BIN_LO (n : Nat) : Fld := ⟨0x40060000 + (0x3400 + 4 * n), 0, 16⟩

/-! ### TMAP -/

abbrev Reg.TMAP_SCALE (s e : Nat) : Fld := ⟨0x40200000 + (0x10000 * s + 4 * e), 16, 16⟩
abbrev Reg.TMAP_EDGE (s e : Nat) : Fld := ⟨0x40200000 + (0x10000 * s + 4 * e), 0, 16⟩

/-! ### STG -/

abbrev Reg.STG_CFG_STO_SRC : Fld := ⟨0x40080000, 24, 6⟩
abbrev Reg.STG_CFG_OC_LEVEL : Fld := ⟨0x40080000, 16, 8⟩
abbrev Reg.STG_CFG_BLANK : Fld := ⟨0x40080000, 0, 6⟩
abbrev Reg.STG_REARM_KEY : Fld := ⟨0x40080004, 16, 16⟩
abbrev Reg.STG_REARM_STAGE : Fld := ⟨0x40080004, 0, 3⟩
abbrev Reg.STG_STAT_TJ (s : Nat) : Fld := ⟨0x40080000 + (0x10 + 4 * s), 24, 8⟩
abbrev Reg.STG_STAT_CLAMP (s : Nat) : Fld := ⟨0x40080000 + (0x10 + 4 * s), 19, 1⟩
abbrev Reg.STG_STAT_ISOLATED (s : Nat) : Fld := ⟨0x40080000 + (0x10 + 4 * s), 18, 1⟩
abbrev Reg.STG_STAT_LOCKOUT (s : Nat) : Fld := ⟨0x40080000 + (0x10 + 4 * s), 17, 1⟩
abbrev Reg.STG_STAT_LATCHED (s : Nat) : Fld := ⟨0x40080000 + (0x10 + 4 * s), 16, 1⟩
abbrev Reg.STG_STAT_BOOT_OK (s : Nat) : Fld := ⟨0x40080000 + (0x10 + 4 * s), 13, 3⟩
abbrev Reg.STG_STAT_EN (s : Nat) : Fld := ⟨0x40080000 + (0x10 + 4 * s), 12, 1⟩
abbrev Reg.STG_STAT_STO_IN (s : Nat) : Fld := ⟨0x40080000 + (0x10 + 4 * s), 11, 1⟩
abbrev Reg.STG_STAT_RP_ON (s : Nat) : Fld := ⟨0x40080000 + (0x10 + 4 * s), 10, 1⟩
abbrev Reg.STG_STAT_ISO_ON (s : Nat) : Fld := ⟨0x40080000 + (0x10 + 4 * s), 7, 3⟩
abbrev Reg.STG_STAT_STATE (s : Nat) : Fld := ⟨0x40080000 + (0x10 + 4 * s), 0, 3⟩
abbrev Reg.STG_FAULT_SEEN (s : Nat) : Fld := ⟨0x40080000 + (0x20 + 4 * s), 16, 16⟩
abbrev Reg.STG_FAULT_LATCH (s : Nat) : Fld := ⟨0x40080000 + (0x20 + 4 * s), 0, 16⟩
abbrev Reg.STG_CNT_REFRESH (s : Nat) : Fld := ⟨0x40080000 + (0x30 + 4 * s), 24, 8⟩
abbrev Reg.STG_CNT_CLAMP_EVT (s : Nat) : Fld := ⟨0x40080000 + (0x30 + 4 * s), 16, 8⟩
abbrev Reg.STG_CNT_STCMD (s : Nat) : Fld := ⟨0x40080000 + (0x30 + 4 * s), 8, 8⟩
abbrev Reg.STG_CNT_REARMS (s : Nat) : Fld := ⟨0x40080000 + (0x30 + 4 * s), 0, 8⟩
abbrev Reg.STG_GATE_VGS_RP (s : Nat) : Fld := ⟨0x40080000 + (0x40 + 4 * s), 24, 8⟩
abbrev Reg.STG_GATE_VGS_ISO (s : Nat) : Fld := ⟨0x40080000 + (0x40 + 4 * s), 16, 8⟩
abbrev Reg.STG_GATE_VBOOT (s : Nat) : Fld := ⟨0x40080000 + (0x40 + 4 * s), 8, 8⟩

/-! ### FLK -/

abbrev Reg.FLK_CFG_MARGIN : Fld := ⟨0x40090000, 16, 9⟩
abbrev Reg.FLK_CFG_RATE : Fld := ⟨0x40090000, 12, 2⟩
abbrev Reg.FLK_CFG_COLDSTART : Fld := ⟨0x40090000, 9, 1⟩
abbrev Reg.FLK_CFG_SYNC_NODE : Fld := ⟨0x40090000, 8, 1⟩
abbrev Reg.FLK_CFG_NODE : Fld := ⟨0x40090000, 0, 5⟩
abbrev Reg.FLK_STAT_SOURCES : Fld := ⟨0x40090004, 16, 5⟩
abbrev Reg.FLK_STAT_NET_SEEN : Fld := ⟨0x40090004, 15, 1⟩
abbrev Reg.FLK_STAT_FREE : Fld := ⟨0x40090004, 14, 1⟩
abbrev Reg.FLK_STAT_SCOPE : Fld := ⟨0x40090004, 13, 1⟩
abbrev Reg.FLK_STAT_STARTUP_DONE : Fld := ⟨0x40090004, 12, 1⟩
abbrev Reg.FLK_STAT_BELLWETHER : Fld := ⟨0x40090004, 11, 1⟩
abbrev Reg.FLK_STAT_CH_Y : Fld := ⟨0x40090004, 9, 1⟩
abbrev Reg.FLK_STAT_CH_X : Fld := ⟨0x40090004, 8, 1⟩
abbrev Reg.FLK_STAT_STATE : Fld := ⟨0x40090004, 0, 3⟩
abbrev Reg.FLK_TIME_TIME (h : Nat) : Fld := ⟨0x40090000 + (0x8 + 4 * h), 0, 32⟩
abbrev Reg.FLK_CYCLE_N : Fld := ⟨0x40090010, 0, 32⟩
abbrev Reg.FLK_SYNC_OFS : Fld := ⟨0x40090014, 16, 16⟩
abbrev Reg.FLK_SYNC_PASS_CNT : Fld := ⟨0x40090014, 8, 8⟩
abbrev Reg.FLK_RATE_RATE : Fld := ⟨0x40090018, 0, 32⟩
abbrev Reg.FLK_START_DURATION : Fld := ⟨0x4009001c, 16, 16⟩
abbrev Reg.FLK_START_DETAIL : Fld := ⟨0x4009001c, 8, 8⟩
abbrev Reg.FLK_START_LEADER : Fld := ⟨0x4009001c, 0, 8⟩
abbrev Reg.FLK_SCHED_SEL_CH : Fld := ⟨0x40090020, 16, 1⟩
abbrev Reg.FLK_SCHED_SEL_INDEX : Fld := ⟨0x40090020, 0, 12⟩
abbrev Reg.FLK_SCHED_WORD (h : Nat) : Fld := ⟨0x40090000 + (0x24 + 4 * h), 0, 32⟩
abbrev Reg.FLK_SCHED_DIG_DIG : Fld := ⟨0x4009002c, 0, 32⟩
abbrev Reg.FLK_TX_POST_LENGTH : Fld := ⟨0x40090030, 10, 11⟩
abbrev Reg.FLK_TX_POST_BUF : Fld := ⟨0x40090030, 0, 5⟩
abbrev Reg.FLK_CPI_ACK_ACK : Fld := ⟨0x40090034, 0, 16⟩
abbrev Reg.FLK_CPI_STAT_OVERRUN : Fld := ⟨0x40090038, 16, 16⟩
abbrev Reg.FLK_SYNC_DEV_SENDER (e : Nat) : Fld := ⟨0x40090000 + (0x40 + 4 * e), 24, 8⟩
abbrev Reg.FLK_SYNC_DEV_VALID (e : Nat) : Fld := ⟨0x40090000 + (0x40 + 4 * e), 23, 1⟩
abbrev Reg.FLK_SYNC_DEV_USED (e : Nat) : Fld := ⟨0x40090000 + (0x40 + 4 * e), 22, 1⟩
abbrev Reg.FLK_SYNC_DEV_DEV (e : Nat) : Fld := ⟨0x40090000 + (0x40 + 4 * e), 0, 16⟩
abbrev Reg.FLK_CPI_CFG_EN (p : Nat) : Fld := ⟨0x40090000 + (0x100 + 4 * p), 31, 1⟩
abbrev Reg.FLK_CPI_CFG_REP (p : Nat) : Fld := ⟨0x40090000 + (0x100 + 4 * p), 24, 3⟩
abbrev Reg.FLK_CPI_CFG_BASE (p : Nat) : Fld := ⟨0x40090000 + (0x100 + 4 * p), 16, 6⟩
abbrev Reg.FLK_CPI_CFG_OFFSET (p : Nat) : Fld := ⟨0x40090000 + (0x100 + 4 * p), 0, 12⟩
abbrev Reg.FLK_BUF_CFG_EN (b : Nat) : Fld := ⟨0x40090000 + (0x200 + 4 * b), 31, 1⟩
abbrev Reg.FLK_BUF_CFG_DIR (b : Nat) : Fld := ⟨0x40090000 + (0x200 + 4 * b), 30, 1⟩
abbrev Reg.FLK_BUF_CFG_CH (b : Nat) : Fld := ⟨0x40090000 + (0x200 + 4 * b), 28, 2⟩
abbrev Reg.FLK_BUF_CFG_WINDOW (b : Nat) : Fld := ⟨0x40090000 + (0x200 + 4 * b), 22, 6⟩
abbrev Reg.FLK_BUF_CFG_BASE (b : Nat) : Fld := ⟨0x40090000 + (0x200 + 4 * b), 16, 6⟩
abbrev Reg.FLK_BUF_CFG_REP (b : Nat) : Fld := ⟨0x40090000 + (0x200 + 4 * b), 12, 3⟩
abbrev Reg.FLK_BUF_CFG_SENDER (b : Nat) : Fld := ⟨0x40090000 + (0x200 + 4 * b), 0, 8⟩
abbrev Reg.FLK_BUF_STAT_SEQ (b : Nat) : Fld := ⟨0x40090000 + (0x300 + 4 * b), 16, 16⟩
abbrev Reg.FLK_BUF_STAT_LENGTH (b : Nat) : Fld := ⟨0x40090000 + (0x300 + 4 * b), 5, 11⟩
abbrev Reg.FLK_BUF_STAT_REPEAT (b : Nat) : Fld := ⟨0x40090000 + (0x300 + 4 * b), 4, 1⟩
abbrev Reg.FLK_BUF_STAT_ABSENT (b : Nat) : Fld := ⟨0x40090000 + (0x300 + 4 * b), 3, 1⟩
abbrev Reg.FLK_BUF_STAT_LOST (b : Nat) : Fld := ⟨0x40090000 + (0x300 + 4 * b), 2, 1⟩
abbrev Reg.FLK_BUF_STAT_NEW (b : Nat) : Fld := ⟨0x40090000 + (0x300 + 4 * b), 1, 1⟩
abbrev Reg.FLK_BUF_STAT_VALID (b : Nat) : Fld := ⟨0x40090000 + (0x300 + 4 * b), 0, 1⟩
abbrev Reg.FLK_BUF_DATA (b j : Nat) : Fld := ⟨0x40090000 + (0x8000 + 0x400 * b + 4 * j), 0, 32⟩
abbrev Reg.FLK_RING_STAT_HEALS : Fld := ⟨0x40090400, 16, 8⟩
abbrev Reg.FLK_RING_STAT_PORTS : Fld := ⟨0x40090400, 0, 16⟩
abbrev Reg.FLK_GUARD_STAT_Y : Fld := ⟨0x40090404, 16, 16⟩
abbrev Reg.FLK_GUARD_STAT_MUTED : Fld := ⟨0x40090404, 12, 1⟩
abbrev Reg.FLK_GUARD_STAT_SAT : Fld := ⟨0x40090404, 8, 4⟩
abbrev Reg.FLK_GUARD_STAT_STATE : Fld := ⟨0x40090404, 3, 3⟩
abbrev Reg.FLK_GUARD_STAT_SELFTEST : Fld := ⟨0x40090404, 2, 1⟩
abbrev Reg.FLK_GUARD_STAT_REPORT : Fld := ⟨0x40090404, 0, 1⟩
abbrev Reg.FLK_RING_DLY_DLY : Fld := ⟨0x40090408, 0, 32⟩
abbrev Reg.FLK_ARB_STAT_DROPPED : Fld := ⟨0x4009040c, 16, 16⟩
abbrev Reg.FLK_ARB_STAT_SENT : Fld := ⟨0x4009040c, 0, 16⟩
abbrev Reg.FLK_GUARD_CNT_TRUNC : Fld := ⟨0x40090410, 24, 8⟩
abbrev Reg.FLK_GUARD_CNT_RING_DROP : Fld := ⟨0x40090410, 16, 8⟩
abbrev Reg.FLK_GUARD_CNT_MUTE_RX : Fld := ⟨0x40090410, 8, 8⟩
abbrev Reg.FLK_GUARD_CNT_DUP_DIFF : Fld := ⟨0x40090410, 0, 8⟩
abbrev Reg.FLK_SKIM_CFG_EN (i : Nat) : Fld := ⟨0x40090000 + (0x420 + 4 * i), 31, 1⟩
abbrev Reg.FLK_SKIM_CFG_BUF (i : Nat) : Fld := ⟨0x40090000 + (0x420 + 4 * i), 24, 5⟩
abbrev Reg.FLK_SKIM_CFG_NFIELDS (i : Nat) : Fld := ⟨0x40090000 + (0x420 + 4 * i), 16, 6⟩
abbrev Reg.FLK_SKIM_RX_DECODE : Fld := ⟨0x40090430, 0, 32⟩
abbrev Reg.FLK_SKIM_STAT_ESCAPES : Fld := ⟨0x40090434, 16, 16⟩
abbrev Reg.FLK_SKIM_STAT_DECODE_ERR : Fld := ⟨0x40090434, 0, 16⟩
abbrev Reg.FLK_TX_PRIO_PRIORITY (b : Nat) : Fld := ⟨0x40090000 + (0x480 + 4 * b), 0, 16⟩
abbrev Reg.FLK_SKIM_FLD_Q (i f : Nat) : Fld := ⟨0x40090000 + (0x800 + 0x80 * i + 4 * f), 8, 3⟩
abbrev Reg.FLK_SKIM_FLD_SOURCE (i f : Nat) : Fld := ⟨0x40090000 + (0x800 + 0x80 * i + 4 * f), 0, 8⟩

/-! ### CAN -/

abbrev Reg.CAN_CFG_SP_D (c : CanId) : Fld := ⟨canBase c + (0x0), 24, 8⟩
abbrev Reg.CAN_CFG_SP_N (c : CanId) : Fld := ⟨canBase c + (0x0), 16, 8⟩
abbrev Reg.CAN_CFG_MBX (c : CanId) : Fld := ⟨canBase c + (0x0), 11, 1⟩
abbrev Reg.CAN_CFG_SILENCE_EN (c : CanId) : Fld := ⟨canBase c + (0x0), 10, 1⟩
abbrev Reg.CAN_CFG_AUTO_REC (c : CanId) : Fld := ⟨canBase c + (0x0), 9, 1⟩
abbrev Reg.CAN_CFG_TERM (c : CanId) : Fld := ⟨canBase c + (0x0), 8, 1⟩
abbrev Reg.CAN_CFG_AUTO (c : CanId) : Fld := ⟨canBase c + (0x0), 7, 1⟩
abbrev Reg.CAN_CFG_DRATE (c : CanId) : Fld := ⟨canBase c + (0x0), 4, 3⟩
abbrev Reg.CAN_CFG_NRATE (c : CanId) : Fld := ⟨canBase c + (0x0), 0, 2⟩
abbrev Reg.CAN_STAT_SIL_REMAIN (c : CanId) : Fld := ⟨canBase c + (0x4), 16, 16⟩
abbrev Reg.CAN_STAT_DET_FAIL (c : CanId) : Fld := ⟨canBase c + (0x4), 11, 1⟩
abbrev Reg.CAN_STAT_DET_DRATE (c : CanId) : Fld := ⟨canBase c + (0x4), 8, 3⟩
abbrev Reg.CAN_STAT_DET_NRATE (c : CanId) : Fld := ⟨canBase c + (0x4), 6, 2⟩
abbrev Reg.CAN_STAT_DOM (c : CanId) : Fld := ⟨canBase c + (0x4), 5, 1⟩
abbrev Reg.CAN_STAT_ERRP (c : CanId) : Fld := ⟨canBase c + (0x4), 4, 1⟩
abbrev Reg.CAN_STAT_MODE (c : CanId) : Fld := ⟨canBase c + (0x4), 0, 3⟩
abbrev Reg.CAN_ERR_TEC (c : CanId) : Fld := ⟨canBase c + (0x8), 16, 9⟩
abbrev Reg.CAN_ERR_REC (c : CanId) : Fld := ⟨canBase c + (0x8), 0, 8⟩
abbrev Reg.CAN_VIOL_CNT (c : CanId) (v : Nat) : Fld := ⟨canBase c + (0xc), 6 * v, 6⟩
abbrev Reg.CAN_CTL_RECOVER (c : CanId) : Fld := ⟨canBase c + (0x10), 0, 1⟩
abbrev Reg.CAN_TS_SLOT_TS (c : CanId) : Fld := ⟨canBase c + (0x14), 0, 32⟩
abbrev Reg.CAN_RX_REL_WCNT (c : CanId) : Fld := ⟨canBase c + (0x20), 8, 4⟩
abbrev Reg.CAN_RX_REL_BUF (c : CanId) : Fld := ⟨canBase c + (0x20), 0, 7⟩
abbrev Reg.CAN_TX_REQ_BUF (c : CanId) (w : Nat) : Fld := ⟨canBase c + (0x30 + 4 * w), 0, 32⟩
abbrev Reg.CAN_TX_ABORT_BUF (c : CanId) (w : Nat) : Fld := ⟨canBase c + (0x40 + 4 * w), 0, 32⟩
abbrev Reg.CAN_TX_PEND_BUF (c : CanId) (w : Nat) : Fld := ⟨canBase c + (0x50 + 4 * w), 0, 32⟩
abbrev Reg.CAN_BUF_FLT_EN (c : CanId) (b : Nat) : Fld := ⟨canBase c + (0x800 + 8 * b), 31, 1⟩
abbrev Reg.CAN_BUF_FLT_DIR (c : CanId) (b : Nat) : Fld := ⟨canBase c + (0x800 + 8 * b), 30, 1⟩
abbrev Reg.CAN_BUF_FLT_OVW (c : CanId) (b : Nat) : Fld := ⟨canBase c + (0x800 + 8 * b), 29, 1⟩
abbrev Reg.CAN_BUF_FLT_FILTER (c : CanId) (b : Nat) : Fld := ⟨canBase c + (0x800 + 8 * b), 0, 29⟩
abbrev Reg.CAN_BUF_FLT_IDE (c : CanId) (b : Nat) : Fld := ⟨canBase c + (0x804 + 8 * b), 31, 1⟩
abbrev Reg.CAN_BUF_FLT_MASK (c : CanId) (b : Nat) : Fld := ⟨canBase c + (0x804 + 8 * b), 0, 29⟩
abbrev Reg.CAN_BUF_ID_IDE (c : CanId) (b : Nat) : Fld := ⟨canBase c + (0x1000 + 0x80 * b), 31, 1⟩
abbrev Reg.CAN_BUF_ID_ID (c : CanId) (b : Nat) : Fld := ⟨canBase c + (0x1000 + 0x80 * b), 0, 29⟩
abbrev Reg.CAN_BUF_CTRL_CTRL (c : CanId) (b : Nat) : Fld := ⟨canBase c + (0x1004 + 0x80 * b), 0, 8⟩
abbrev Reg.CAN_BUF_TS_TS (c : CanId) (b : Nat) : Fld := ⟨canBase c + (0x1008 + 0x80 * b), 0, 32⟩
abbrev Reg.CAN_BUF_STAT_WCNT (c : CanId) (b : Nat) : Fld := ⟨canBase c + (0x100c + 0x80 * b), 4, 4⟩
abbrev Reg.CAN_BUF_STAT_TX_DONE (c : CanId) (b : Nat) : Fld := ⟨canBase c + (0x100c + 0x80 * b), 2, 1⟩
abbrev Reg.CAN_BUF_STAT_OVR (c : CanId) (b : Nat) : Fld := ⟨canBase c + (0x100c + 0x80 * b), 1, 1⟩
abbrev Reg.CAN_BUF_STAT_NEW_DATA (c : CanId) (b : Nat) : Fld := ⟨canBase c + (0x100c + 0x80 * b), 0, 1⟩
abbrev Reg.CAN_BUF_DATA_DATA (c : CanId) (b j : Nat) : Fld := ⟨canBase c + (0x1010 + 0x80 * b + 4 * j), 0, 32⟩

/-! ### AUX -/

abbrev Reg.AUX_CUR_THOLD : Fld := ⟨0x400c0000, 24, 8⟩
abbrev Reg.AUX_CUR_IHOLD : Fld := ⟨0x400c0000, 16, 8⟩
abbrev Reg.AUX_CUR_IRUN : Fld := ⟨0x400c0000, 0, 12⟩
abbrev Reg.AUX_MODE_CFG_STANDSTILL : Fld := ⟨0x400c0004, 30, 2⟩
abbrev Reg.AUX_MODE_CFG_TOFF : Fld := ⟨0x400c0004, 24, 6⟩
abbrev Reg.AUX_MODE_CFG_VQUIET : Fld := ⟨0x400c0004, 0, 20⟩
abbrev Reg.AUX_RCOIL_RCOIL : Fld := ⟨0x400c0008, 0, 16⟩
abbrev Reg.AUX_RAMP_V_VSTOP : Fld := ⟨0x400c000c, 16, 16⟩
abbrev Reg.AUX_RAMP_V_VSTART : Fld := ⟨0x400c000c, 0, 16⟩
abbrev Reg.AUX_VMAX_VMAX : Fld := ⟨0x400c0010, 0, 20⟩
abbrev Reg.AUX_RAMP_A_DECEL : Fld := ⟨0x400c0014, 16, 16⟩
abbrev Reg.AUX_RAMP_A_ACCEL : Fld := ⟨0x400c0014, 0, 16⟩
abbrev Reg.AUX_LIM_CFG_HOME_SW : Fld := ⟨0x400c0018, 4, 1⟩
abbrev Reg.AUX_LIM_CFG_POL2 : Fld := ⟨0x400c0018, 3, 1⟩
abbrev Reg.AUX_LIM_CFG_POL1 : Fld := ⟨0x400c0018, 2, 1⟩
abbrev Reg.AUX_LIM_CFG_EN2 : Fld := ⟨0x400c0018, 1, 1⟩
abbrev Reg.AUX_LIM_CFG_EN1 : Fld := ⟨0x400c0018, 0, 1⟩
abbrev Reg.AUX_HOME_V_VSLOW : Fld := ⟨0x400c001c, 16, 16⟩
abbrev Reg.AUX_HOME_V_VFAST : Fld := ⟨0x400c001c, 0, 16⟩
abbrev Reg.AUX_HOME_CFG_TMO : Fld := ⟨0x400c0020, 16, 16⟩
abbrev Reg.AUX_HOME_CFG_BACKOFF : Fld := ⟨0x400c0020, 0, 16⟩
abbrev Reg.AUX_HOME_OFS_OFS : Fld := ⟨0x400c0024, 0, 32⟩
abbrev Reg.AUX_TARGET_TARGET : Fld := ⟨0x400c0040, 0, 32⟩
abbrev Reg.AUX_CMD_KEY : Fld := ⟨0x400c0044, 16, 16⟩
abbrev Reg.AUX_CMD_CMD : Fld := ⟨0x400c0044, 0, 3⟩
abbrev Reg.AUX_STAT_REJECT : Fld := ⟨0x400c0048, 24, 8⟩
abbrev Reg.AUX_STAT_CMD_REJ : Fld := ⟨0x400c0048, 23, 1⟩
abbrev Reg.AUX_STAT_FREE : Fld := ⟨0x400c0048, 22, 1⟩
abbrev Reg.AUX_STAT_TBL_EQ : Fld := ⟨0x400c0048, 21, 1⟩
abbrev Reg.AUX_STAT_STRONG : Fld := ⟨0x400c0048, 20, 1⟩
abbrev Reg.AUX_STAT_REF : Fld := ⟨0x400c0048, 18, 2⟩
abbrev Reg.AUX_STAT_COILS : Fld := ⟨0x400c0048, 16, 2⟩
abbrev Reg.AUX_STAT_STATE : Fld := ⟨0x400c0048, 0, 3⟩
abbrev Reg.AUX_POS_VALUE : Fld := ⟨0x400c004c, 0, 32⟩
abbrev Reg.AUX_VEL_VALUE : Fld := ⟨0x400c0050, 0, 32⟩
abbrev Reg.AUX_LIM_STAT_CHATTER : Fld := ⟨0x400c0054, 16, 16⟩
abbrev Reg.AUX_LIM_STAT_LIM2 : Fld := ⟨0x400c0054, 1, 1⟩
abbrev Reg.AUX_LIM_STAT_LIM1 : Fld := ⟨0x400c0054, 0, 1⟩
abbrev Reg.AUX_HOME_CAP_P1 : Fld := ⟨0x400c0058, 0, 32⟩
abbrev Reg.AUX_COIL_STAT_COIL_B : Fld := ⟨0x400c005c, 3, 3⟩
abbrev Reg.AUX_COIL_STAT_COIL_A : Fld := ⟨0x400c005c, 0, 3⟩
abbrev Reg.AUX_MSTEP_TBL_T (i : Nat) : Fld := ⟨0x400c0000 + (0x400 + 4 * i), 0, 12⟩

/-! ### CHN -/

abbrev Reg.CHN_CFG_EN : Fld := ⟨0x400d0000, 0, 1⟩
abbrev Reg.CHN_STAT_TK_STAGE : Fld := ⟨0x400d0004, 25, 2⟩
abbrev Reg.CHN_STAT_TAKEOVER : Fld := ⟨0x400d0004, 24, 1⟩
abbrev Reg.CHN_STAT_OVERDUE : Fld := ⟨0x400d0004, 23, 1⟩
abbrev Reg.CHN_STAT_SLICES : Fld := ⟨0x400d0004, 0, 11⟩
abbrev Reg.CHN_LAST_PARTITION : Fld := ⟨0x400d0008, 29, 3⟩
abbrev Reg.CHN_LAST_SEGMENT : Fld := ⟨0x400d0008, 19, 10⟩
abbrev Reg.CHN_LAST_RESULT : Fld := ⟨0x400d0008, 16, 3⟩
abbrev Reg.CHN_LAST_REASON : Fld := ⟨0x400d0008, 12, 4⟩
abbrev Reg.CHN_LAST_DURATION : Fld := ⟨0x400d0008, 0, 12⟩
abbrev Reg.CHN_CYCLE_CYCLES : Fld := ⟨0x400d000c, 16, 16⟩
abbrev Reg.CHN_CYCLE_LAST_MS : Fld := ⟨0x400d000c, 0, 16⟩
abbrev Reg.CHN_RETRY_FORGONE : Fld := ⟨0x400d0010, 16, 16⟩
abbrev Reg.CHN_RETRY_RETRIES : Fld := ⟨0x400d0010, 0, 16⟩
abbrev Reg.CHN_UNITS_COM_SPARE : Fld := ⟨0x400d0014, 14, 2⟩
abbrev Reg.CHN_UNITS_SEQ_SPARE : Fld := ⟨0x400d0014, 12, 2⟩
abbrev Reg.CHN_UNITS_COPY_FAIL : Fld := ⟨0x400d0014, 8, 1⟩
abbrev Reg.CHN_UNITS_STG_ACTIVE : Fld := ⟨0x400d0014, 0, 1⟩
abbrev Reg.CHN_SLICE_CRC_CRC : Fld := ⟨0x400d0018, 0, 32⟩
abbrev Reg.CHN_KEY_RELOADS : Fld := ⟨0x400d001c, 16, 16⟩
abbrev Reg.CHN_KEY_RELOAD_OK : Fld := ⟨0x400d001c, 1, 1⟩
abbrev Reg.CHN_KEY_ZERO_OK : Fld := ⟨0x400d001c, 0, 1⟩

/-! ### SEC -/

abbrev Reg.SEC_LC_LC_SEQ : Fld := ⟨0x400e0000, 16, 8⟩
abbrev Reg.SEC_LC_SVC_LEFT : Fld := ⟨0x400e0000, 12, 4⟩
abbrev Reg.SEC_LC_TEST_MODE : Fld := ⟨0x400e0000, 8, 1⟩
abbrev Reg.SEC_LC_INJ_FUSE : Fld := ⟨0x400e0000, 7, 1⟩
abbrev Reg.SEC_LC_SCAN_FUSE : Fld := ⟨0x400e0000, 6, 1⟩
abbrev Reg.SEC_LC_STATE : Fld := ⟨0x400e0000, 0, 3⟩
abbrev Reg.SEC_KEY_STAT_GROUP_KCV : Fld := ⟨0x400e0004, 16, 16⟩
abbrev Reg.SEC_KEY_STAT_PENDING : Fld := ⟨0x400e0004, 12, 1⟩
abbrev Reg.SEC_KEY_STAT_POLICY : Fld := ⟨0x400e0004, 10, 2⟩
abbrev Reg.SEC_KEY_STAT_PROV : Fld := ⟨0x400e0004, 9, 1⟩
abbrev Reg.SEC_KEY_STAT_PASSWORD : Fld := ⟨0x400e0004, 8, 1⟩
abbrev Reg.SEC_KEY_STAT_OWNER : Fld := ⟨0x400e0004, 7, 1⟩
abbrev Reg.SEC_KEY_STAT_SESSION : Fld := ⟨0x400e0004, 6, 1⟩
abbrev Reg.SEC_KEY_STAT_HMK : Fld := ⟨0x400e0004, 5, 1⟩
abbrev Reg.SEC_KEY_STAT_GROUP : Fld := ⟨0x400e0004, 4, 1⟩
abbrev Reg.SEC_KEY_STAT_PAIR_HI : Fld := ⟨0x400e0004, 3, 1⟩
abbrev Reg.SEC_KEY_STAT_PAIR_LO : Fld := ⟨0x400e0004, 2, 1⟩
abbrev Reg.SEC_KEY_STAT_MSK : Fld := ⟨0x400e0004, 1, 1⟩
abbrev Reg.SEC_KEY_STAT_IDENT : Fld := ⟨0x400e0004, 0, 1⟩
abbrev Reg.SEC_RIND_STAT_GLITCH_CNT : Fld := ⟨0x400e0008, 24, 8⟩
abbrev Reg.SEC_RIND_STAT_ALARM : Fld := ⟨0x400e0008, 16, 1⟩
abbrev Reg.SEC_RIND_STAT_FIRST : Fld := ⟨0x400e0008, 12, 4⟩
abbrev Reg.SEC_RIND_STAT_SRC : Fld := ⟨0x400e0008, 0, 7⟩
abbrev Reg.SEC_DBG_STAT_CHAL : Fld := ⟨0x400e000c, 11, 1⟩
abbrev Reg.SEC_DBG_STAT_LEVEL : Fld := ⟨0x400e000c, 9, 2⟩
abbrev Reg.SEC_DBG_STAT_PERM : Fld := ⟨0x400e000c, 8, 1⟩
abbrev Reg.SEC_DBG_STAT_CONSEC : Fld := ⟨0x400e000c, 4, 4⟩
abbrev Reg.SEC_DBG_STAT_TOTAL : Fld := ⟨0x400e000c, 0, 4⟩
abbrev Reg.SEC_BOOTCNT_COUNT : Fld := ⟨0x400e0010, 0, 32⟩

/-! ### MBX -/

abbrev Reg.MBX_STAT_LAST_NAK : Fld := ⟨0x400f0000, 8, 8⟩
abbrev Reg.MBX_STAT_RPL_READY : Fld := ⟨0x400f0000, 3, 1⟩
abbrev Reg.MBX_STAT_BUSY : Fld := ⟨0x400f0000, 2, 1⟩
abbrev Reg.MBX_STAT_SESSION : Fld := ⟨0x400f0000, 1, 1⟩
abbrev Reg.MBX_STAT_SHEP_UP : Fld := ⟨0x400f0000, 0, 1⟩
abbrev Reg.MBX_POST_KEY : Fld := ⟨0x400f0004, 16, 16⟩
abbrev Reg.MBX_POST_POST : Fld := ⟨0x400f0004, 0, 1⟩
abbrev Reg.MBX_RPL_REL_REL : Fld := ⟨0x400f0008, 0, 1⟩
abbrev Reg.MBX_SESSION_SESSION : Fld := ⟨0x400f000c, 0, 32⟩
abbrev Reg.MBX_HOST_REQUESTER : Fld := ⟨0x400f0010, 0, 32⟩
abbrev Reg.MBX_VIOL_RATE : Fld := ⟨0x400f0014, 24, 6⟩
abbrev Reg.MBX_VIOL_AUTH : Fld := ⟨0x400f0014, 18, 6⟩
abbrev Reg.MBX_VIOL_UNKNOWN : Fld := ⟨0x400f0014, 12, 6⟩
abbrev Reg.MBX_VIOL_SEQUENCE : Fld := ⟨0x400f0014, 6, 6⟩
abbrev Reg.MBX_VIOL_LENGTH : Fld := ⟨0x400f0014, 0, 6⟩
abbrev Reg.MBX_QUAR_COUNT : Fld := ⟨0x400f0018, 16, 16⟩
abbrev Reg.MBX_QUAR_ACTIVE : Fld := ⟨0x400f0018, 8, 8⟩
abbrev Reg.MBX_CONFIRM_DIGEST : Fld := ⟨0x400f001c, 16, 16⟩
abbrev Reg.MBX_CONFIRM_VALID : Fld := ⟨0x400f001c, 15, 1⟩
abbrev Reg.MBX_CONFIRM_PENDING : Fld := ⟨0x400f001c, 8, 4⟩
abbrev Reg.MBX_CONFIRM_TIMEOUTS : Fld := ⟨0x400f001c, 0, 8⟩
abbrev Reg.MBX_CROOK_KEY : Fld := ⟨0x400f0020, 16, 16⟩
abbrev Reg.MBX_CROOK_AUX : Fld := ⟨0x400f0020, 1, 1⟩
abbrev Reg.MBX_CROOK_MAILBOX : Fld := ⟨0x400f0020, 0, 1⟩
abbrev Reg.MBX_CROOK_STAT_DURATION : Fld := ⟨0x400f0024, 20, 12⟩
abbrev Reg.MBX_CROOK_STAT_SOURCE : Fld := ⟨0x400f0024, 12, 4⟩
abbrev Reg.MBX_CROOK_STAT_AUX : Fld := ⟨0x400f0024, 4, 4⟩
abbrev Reg.MBX_CROOK_STAT_MAILBOX : Fld := ⟨0x400f0024, 0, 4⟩
abbrev Reg.MBX_REQ_HDR_WORD (j : Nat) : Fld := ⟨0x400f0000 + (0x100 + 4 * j), 0, 32⟩
abbrev Reg.MBX_RPL_HDR_WORD (j : Nat) : Fld := ⟨0x400f0000 + (0x200 + 4 * j), 0, 32⟩
abbrev Reg.MBX_REQ_DATA_DATA (j : Nat) : Fld := ⟨0x400f0000 + (0x1000 + 4 * j), 0, 32⟩
abbrev Reg.MBX_RPL_DATA_DATA (j : Nat) : Fld := ⟨0x400f0000 + (0x2000 + 4 * j), 0, 32⟩

/-! ### SAFE -/

abbrev Reg.SAFE_CFG_START_RESET : Fld := ⟨0x40100000, 2, 1⟩
abbrev Reg.SAFE_CFG_FOLD_STOP : Fld := ⟨0x40100000, 0, 1⟩
abbrev Reg.SAFE_SS1_CFG_DECEL : Fld := ⟨0x40100004, 16, 16⟩
abbrev Reg.SAFE_SS1_CFG_DELAY : Fld := ⟨0x40100004, 0, 8⟩
abbrev Reg.SAFE_SS1_CFG2_TMAX : Fld := ⟨0x40100008, 16, 16⟩
abbrev Reg.SAFE_SS1_CFG2_MARGIN : Fld := ⟨0x40100008, 8, 8⟩
abbrev Reg.SAFE_SS1_CFG2_VSTOP : Fld := ⟨0x40100008, 0, 8⟩
abbrev Reg.SAFE_REQ_KEY : Fld := ⟨0x4010000c, 16, 16⟩
abbrev Reg.SAFE_REQ_CLR : Fld := ⟨0x4010000c, 8, 3⟩
abbrev Reg.SAFE_REQ_SS1 : Fld := ⟨0x4010000c, 4, 3⟩
abbrev Reg.SAFE_REQ_STO : Fld := ⟨0x4010000c, 0, 3⟩
abbrev Reg.SAFE_STAT_SS1_ACT : Fld := ⟨0x40100010, 21, 3⟩
abbrev Reg.SAFE_STAT_STO_ACT : Fld := ⟨0x40100010, 18, 3⟩
abbrev Reg.SAFE_STAT_FORCED_OFF : Fld := ⟨0x40100010, 15, 3⟩
abbrev Reg.SAFE_STAT_EXT : Fld := ⟨0x40100010, 12, 3⟩
abbrev Reg.SAFE_STAT_RESET_PEND : Fld := ⟨0x40100010, 7, 1⟩
abbrev Reg.SAFE_STAT_LATCH : Fld := ⟨0x40100010, 6, 1⟩
abbrev Reg.SAFE_STAT_LINE : Fld := ⟨0x40100010, 5, 1⟩
abbrev Reg.SAFE_SS1_STAT_LIMIT : Fld := ⟨0x40100014, 16, 16⟩
abbrev Reg.SAFE_SS1_STAT_ELAPSED : Fld := ⟨0x40100014, 0, 16⟩
abbrev Reg.SAFE_CNT_REJECTED : Fld := ⟨0x40100018, 16, 8⟩
abbrev Reg.SAFE_CNT_RESETS : Fld := ⟨0x40100018, 8, 8⟩
abbrev Reg.SAFE_CNT_PULSES : Fld := ⟨0x40100018, 0, 8⟩

/-! ### DBG -/

abbrev Reg.DBG_CHK_STAT_LVQ_HWM : Fld := ⟨0x40110000, 16, 4⟩
abbrev Reg.DBG_CHK_STAT_SCB_HWM : Fld := ⟨0x40110000, 10, 3⟩
abbrev Reg.DBG_CHK_STAT_SPLIT_REFUSED : Fld := ⟨0x40110000, 7, 1⟩
abbrev Reg.DBG_CHK_STAT_LAST_MIS : Fld := ⟨0x40110000, 6, 1⟩
abbrev Reg.DBG_CHK_STAT_CORE_MODE : Fld := ⟨0x40110000, 0, 1⟩
abbrev Reg.DBG_MIS_PC_PC : Fld := ⟨0x40110004, 0, 32⟩
abbrev Reg.DBG_MIS_INFO_SOURCE : Fld := ⟨0x40110008, 16, 16⟩
abbrev Reg.DBG_MIS_INFO_DIFF_CNT : Fld := ⟨0x40110008, 8, 6⟩
abbrev Reg.DBG_MIS_INFO_CLASS : Fld := ⟨0x40110008, 0, 4⟩
abbrev Reg.DBG_SESSION_HALT_REFUSED : Fld := ⟨0x4011000c, 8, 8⟩
abbrev Reg.DBG_SESSION_TRACE : Fld := ⟨0x4011000c, 2, 1⟩
abbrev Reg.DBG_SESSION_UNLOCKED : Fld := ⟨0x4011000c, 1, 1⟩
abbrev Reg.DBG_SESSION_OPEN : Fld := ⟨0x4011000c, 0, 1⟩
abbrev Reg.DBG_JOURNAL_BUSY_CNT : Fld := ⟨0x40110010, 8, 8⟩
abbrev Reg.DBG_JOURNAL_LAST_COUNT : Fld := ⟨0x40110010, 0, 7⟩
abbrev Reg.DBG_PERF_RETIRED : Fld := ⟨0x40110014, 0, 32⟩
abbrev Reg.DBG_STALL_CYCLES : Fld := ⟨0x40110018, 0, 32⟩

/-! ### Reset values (the Reset columns) -/

/-- Registers whose word is not zero at reset: first address, how many, how far apart, word. -/
def resetRows : List (Nat × Nat × Nat × Nat) :=
  [(0x40000000, 1, 4, 0x100),
   (0x40000004, 1, 4, 0x202),
   (0x40000014, 1, 4, 0x7),
   (0x40000018, 1, 4, 0x2825),
   (0x40000028, 1, 4, 0x10),
   (0x4002001c, 1, 4, 0x20000000),
   (0x40030008, 1, 4, 0x50),
   (0x40030010, 1, 4, 0x1000),
   (0x40030014, 1, 4, 0x1000),
   (0x40030018, 1, 4, 0x1000),
   (0x40040000, 1, 4, 0x40190),
   (0x40040040, 1, 4, 0x10320),
   (0x40050010, 1, 4, 0x200000),
   (0x40050014, 1, 4, 0x20),
   (0x40050024, 1, 4, 0x27000000),
   (0x4005002c, 1, 4, 0x100214),
   (0x40050034, 1, 4, 0x14005b),
   (0x40050044, 1, 4, 0x140a00),
   (0x40060000, 1, 4, 0x7003),
   (0x40060004, 1, 4, 0x400),
   (0x40060010, 1, 4, 0x4000199a),
   (0x40060014, 1, 4, 0x6666),
   (0x40060018, 1, 4, 0x30001800),
   (0x4006001c, 1, 4, 0x7d01420),
   (0x40060020, 1, 4, 0x140a1414),
   (0x40060024, 1, 4, 0x271007d0),
   (0x40060028, 1, 4, 0x51f0440),
   (0x4006002c, 1, 4, 0x20400000),
   (0x40062000, 1152, 4, 0x80000000),
   (0x40200000, 16384, 4, 0x80000000),
   (0x40210000, 16384, 4, 0x80000000),
   (0x40220000, 16384, 4, 0x80000000),
   (0x40080000, 1, 4, 0x5a0010),
   (0x40100000, 1, 4, 0x5),
   (0x40100004, 1, 4, 0x3e80014),
   (0x40100008, 1, 4, 0x7d00a02),
   (0x40100010, 1, 4, 0x40),
   (0x40010014, 1, 4, 0x1872),
   (0x400d0000, 1, 4, 0x1),
   (0x400d0014, 1, 4, 0xf000),
   (0x40090000, 1, 4, 0x12c2000),
   (0x40090420, 4, 4, 0x10000),
   (0x400a0000, 1, 4, 0x4b500280),
   (0x400b0000, 1, 4, 0x4b500280),
   (0x400e0000, 1, 4, 0x8000),
   (0x400e0004, 1, 4, 0x400),
   (0x400c0000, 1, 4, 0x14320000),
   (0x400c0004, 1, 4, 0x8000000),
   (0x400c0020, 1, 4, 0x7d00000),
   (0x400c0048, 1, 4, 0x210000)]

/-- Whether `addr` is one of `count` registers from `base` on, `stride` apart. -/
def inArray (addr base count stride : Nat) : Bool :=
  decide (base ≤ addr) && decide (addr < base + count * stride) && decide ((addr - base) % stride = 0)

/-- The word of the register at `addr` at reset, 0 where its table gives 0. -/
def resetWordIn : List (Nat × Nat × Nat × Nat) → Nat → Word
  | [], _ => 0#32
  | (b, c, s, v) :: r, a => if inArray a b c s then BitVec.ofNat 32 v else resetWordIn r a

/-- The word of the register at `addr` right after reset. -/
def resetWord (addr : Nat) : Word := resetWordIn resetRows addr

/-! ### The register lists, by block -/

/-- The SYS block. Where R88 gives a class S register other than SYS_STATE no instant of its own, it freezes at the slot start
(log entry 88, DESIGN CHOICE). -/
def rowsSYS : List RegRow :=
  [⟨0x0, 1, 4, .never, [⟨0, 2, .ro, false, 0, 3⟩, ⟨8, 8, .ro, false, 0, 255⟩]⟩,
   ⟨0x4, 1, 4, .stgA, [⟨0, 3, .ro, false, 0, 7⟩, ⟨4, 2, .ro, false, 0, 3⟩, ⟨8, 3, .ro, false, 0, 7⟩, ⟨12, 2, .ro, false, 0, 3⟩, ⟨16, 3, .ro, false, 0, 7⟩, ⟨19, 1, .ro, false, 0, 1⟩, ⟨24, 3, .ro, false, 0, 7⟩]⟩,
   ⟨0x8, 1, 4, .never, [⟨0, 3, .wo, false, 0, 7⟩, ⟨16, 16, .wo, false, 0, 65535⟩]⟩,
   ⟨0xc, 1, 4, .slot, [⟨0, 3, .ro, false, 0, 7⟩, ⟨8, 8, .ro, false, 0, 255⟩, ⟨16, 5, .ro, false, 0, 31⟩, ⟨24, 8, .ro, false, 0, 255⟩]⟩,
   ⟨0x10, 1, 4, .slot, [⟨0, 2, .ro, false, 0, 3⟩, ⟨2, 2, .ro, false, 0, 3⟩, ⟨4, 2, .ro, false, 0, 3⟩, ⟨6, 2, .ro, false, 0, 3⟩, ⟨8, 2, .ro, false, 0, 3⟩, ⟨10, 2, .ro, false, 0, 3⟩, ⟨12, 2, .ro, false, 0, 3⟩, ⟨14, 2, .ro, false, 0, 3⟩, ⟨16, 2, .ro, false, 0, 3⟩, ⟨18, 2, .ro, false, 0, 3⟩, ⟨20, 2, .ro, false, 0, 3⟩, ⟨22, 2, .ro, false, 0, 3⟩, ⟨24, 2, .ro, false, 0, 3⟩, ⟨26, 2, .ro, false, 0, 3⟩, ⟨28, 2, .ro, false, 0, 3⟩, ⟨30, 2, .ro, false, 0, 3⟩]⟩,
   ⟨0x14, 1, 4, .never, [⟨0, 2, .ro, false, 0, 3⟩, ⟨2, 2, .ro, false, 0, 3⟩]⟩,
   ⟨0x18, 1, 4, .never, [⟨0, 1, .rw, true, 0, 1⟩, ⟨1, 1, .rw, true, 0, 1⟩, ⟨2, 1, .rw, true, 0, 1⟩, ⟨3, 1, .rw, true, 0, 1⟩, ⟨4, 1, .rw, true, 0, 1⟩, ⟨5, 1, .rw, true, 0, 1⟩, ⟨8, 8, .rw, true, 10, 100⟩]⟩,
   ⟨0x1c, 1, 4, .slot, [⟨0, 1, .w1c, false, 0, 1⟩, ⟨1, 1, .w1c, false, 0, 1⟩, ⟨2, 1, .w1c, false, 0, 1⟩, ⟨3, 1, .w1c, false, 0, 1⟩, ⟨4, 1, .w1c, false, 0, 1⟩, ⟨5, 1, .w1c, false, 0, 1⟩, ⟨6, 1, .w1c, false, 0, 1⟩, ⟨8, 1, .w1c, false, 0, 1⟩]⟩,
   ⟨0x20, 1, 4, .never, [⟨0, 32, .rw, true, 0, 4294967295⟩]⟩,
   ⟨0x24, 1, 4, .slot, [⟨0, 1, .ro, false, 0, 1⟩, ⟨1, 1, .ro, false, 0, 1⟩, ⟨2, 1, .ro, false, 0, 1⟩, ⟨3, 1, .ro, false, 0, 1⟩, ⟨4, 2, .ro, false, 0, 3⟩, ⟨8, 2, .ro, false, 0, 3⟩]⟩,
   ⟨0x28, 1, 4, .slot, [⟨0, 2, .ro, false, 0, 3⟩, ⟨4, 1, .ro, false, 0, 1⟩, ⟨5, 1, .ro, false, 0, 1⟩, ⟨16, 16, .ro, false, 0, 65535⟩]⟩,
   ⟨0x2c, 1, 4, .never, [⟨0, 8, .rw, true, 0, 255⟩]⟩,
   ⟨0x30, 1, 4, .slot, [⟨0, 1, .ro, false, 0, 1⟩, ⟨1, 4, .w1c, false, 0, 15⟩]⟩,
   ⟨0x34, 1, 4, .slot, [⟨0, 2, .ro, false, 0, 3⟩, ⟨2, 2, .ro, false, 0, 3⟩, ⟨4, 2, .ro, false, 0, 3⟩]⟩,
   ⟨0x800, 384, 4, .never, [⟨2, 20, .ro, false, 0, 1048575⟩, ⟨23, 9, .ro, false, 0, 511⟩]⟩,
   ⟨0xe00, 128, 4, .never, [⟨2, 20, .rw, true, 0, 1048575⟩, ⟨23, 9, .rw, true, 0, 511⟩]⟩]

/-- The FC block. -/
def rowsFC : List RegRow :=
  [⟨0x0, 1, 4, .slot, [⟨0, 1, .ro, false, 0, 1⟩, ⟨1, 15, .w1c, false, 0, 32767⟩, ⟨16, 1, .ro, false, 0, 1⟩, ⟨17, 15, .ro, false, 0, 32767⟩]⟩,
   ⟨0x4, 1, 4, .slot, [⟨0, 16, .ro, false, 0, 65535⟩, ⟨16, 8, .ro, false, 0, 255⟩, ⟨24, 3, .ro, false, 0, 7⟩]⟩,
   ⟨0x8, 2, 4, .slot, [⟨0, 32, .ro, false, 0, 4294967295⟩]⟩,
   ⟨0x10, 1, 4, .never, [⟨0, 1, .wo, false, 0, 1⟩, ⟨1, 15, .wo, false, 0, 32767⟩, ⟨16, 16, .wo, false, 0, 65535⟩]⟩,
   ⟨0x14, 1, 4, .never, [⟨1, 15, .ro, false, 0, 32767⟩]⟩,
   ⟨0x18, 1, 4, .slot, [⟨0, 1, .ro, false, 0, 1⟩, ⟨1, 1, .ro, false, 0, 1⟩, ⟨2, 3, .ro, false, 0, 7⟩, ⟨5, 3, .ro, false, 0, 7⟩, ⟨8, 3, .ro, false, 0, 7⟩, ⟨11, 3, .ro, false, 0, 7⟩, ⟨14, 2, .ro, false, 0, 3⟩]⟩,
   ⟨0x1c, 1, 4, .slot, [⟨0, 16, .ro, false, 0, 65535⟩, ⟨16, 1, .ro, false, 0, 1⟩]⟩,
   ⟨0x20, 1, 4, .slot, [⟨0, 5, .ro, false, 0, 31⟩, ⟨8, 8, .ro, false, 0, 255⟩, ⟨16, 16, .ro, false, 0, 65535⟩]⟩,
   ⟨0x24, 1, 4, .never, [⟨8, 8, .wo, false, 0, 255⟩, ⟨16, 16, .wo, false, 0, 65535⟩]⟩,
   ⟨0x44, 15, 4, .slot, [⟨0, 12, .ro, false, 0, 4095⟩, ⟨12, 12, .ro, false, 0, 4095⟩, ⟨29, 3, .ro, false, 0, 7⟩]⟩,
   ⟨0x100, 64, 4, .never, [⟨0, 16, .ro, false, 0, 65535⟩, ⟨16, 3, .ro, false, 0, 7⟩, ⟨31, 1, .ro, false, 0, 1⟩]⟩]

/-- The AGR block. -/
def rowsAGR : List RegRow :=
  [⟨0x0, 1, 4, .vote, [⟨1, 1, .ro, false, 0, 1⟩, ⟨2, 1, .ro, false, 0, 1⟩, ⟨3, 1, .ro, false, 0, 1⟩, ⟨4, 1, .ro, false, 0, 1⟩, ⟨5, 1, .ro, false, 0, 1⟩, ⟨9, 3, .ro, false, 0, 7⟩, ⟨12, 3, .ro, false, 0, 7⟩, ⟨15, 3, .ro, false, 0, 7⟩, ⟨18, 3, .ro, false, 0, 7⟩, ⟨21, 3, .ro, false, 0, 7⟩, ⟨24, 8, .ro, false, 0, 255⟩]⟩,
   ⟨0x4, 1, 4, .vote, [⟨0, 16, .ro, false, 0, 65535⟩, ⟨16, 3, .ro, false, 0, 7⟩]⟩,
   ⟨0x8, 2, 4, .vote, [⟨0, 32, .ro, false, 0, 4294967295⟩]⟩,
   ⟨0x10, 2, 4, .vote, [⟨0, 32, .ro, false, 0, 4294967295⟩]⟩,
   ⟨0x18, 1, 4, .vote, [⟨0, 3, .ro, false, 0, 7⟩, ⟨7, 1, .ro, false, 0, 1⟩, ⟨8, 2, .ro, false, 0, 3⟩, ⟨16, 8, .ro, false, 0, 255⟩]⟩,
   ⟨0x1c, 1, 4, .never, [⟨2, 30, .rw, true, 0x8000000, 0x807FFFF⟩]⟩,
   ⟨0x20, 1, 4, .never, [⟨0, 14, .rw, true, 0, 16383⟩]⟩,
   ⟨0x24, 1, 4, .never, [⟨0, 16, .rw, false, 0, 65535⟩, ⟨16, 1, .ro, false, 0, 1⟩]⟩,
   ⟨0x28, 1, 4, .basic, [⟨0, 8, .ro, false, 0, 255⟩, ⟨8, 8, .ro, false, 0, 255⟩, ⟨16, 8, .ro, false, 0, 255⟩]⟩,
   ⟨0x100, 48, 4, .never, [⟨0, 24, .ro, false, 0, 16777215⟩, ⟨26, 1, .ro, false, 0, 1⟩, ⟨27, 1, .ro, false, 0, 1⟩, ⟨28, 2, .ro, false, 0, 3⟩, ⟨30, 2, .ro, false, 0, 3⟩]⟩,
   ⟨0x200, 48, 4, .never, [⟨2, 20, .ro, false, 0, 1048575⟩]⟩,
   ⟨0x300, 48, 4, .never, [⟨0, 32, .rw, false, 0, 4294967295⟩]⟩,
   ⟨0x400, 48, 4, .vote, [⟨0, 32, .ro, false, 0, 4294967295⟩]⟩,
   ⟨0x500, 50, 4, .never, [⟨0, 32, .ro, false, 0, 4294967295⟩]⟩]

/-- The CLM block. -/
def rowsCLM : List RegRow :=
  [⟨0x0, 1, 4, .never, [⟨0, 27, .ro, false, 0, 134217727⟩]⟩,
   ⟨0x4, 1, 4, .stgA, [⟨0, 9, .ro, false, 0, 511⟩, ⟨12, 4, .ro, false, 0, 15⟩, ⟨16, 3, .ro, false, 0, 7⟩]⟩,
   ⟨0x8, 1, 4, .never, [⟨0, 8, .ro, false, 0, 255⟩]⟩,
   ⟨0x10, 1, 4, .stgA, [⟨0, 2, .ro, false, 0, 3⟩, ⟨11, 1, .ro, false, 0, 1⟩, ⟨12, 1, .ro, false, 0, 1⟩, ⟨13, 1, .ro, false, 0, 1⟩, ⟨14, 3, .ro, false, 0, 7⟩, ⟨17, 3, .ro, false, 0, 7⟩, ⟨24, 8, .ro, false, 0, 255⟩]⟩,
   ⟨0x14, 1, 4, .stgB, [⟨0, 2, .ro, false, 0, 3⟩, ⟨11, 1, .ro, false, 0, 1⟩, ⟨12, 1, .ro, false, 0, 1⟩, ⟨13, 1, .ro, false, 0, 1⟩, ⟨14, 3, .ro, false, 0, 7⟩, ⟨17, 3, .ro, false, 0, 7⟩, ⟨24, 8, .ro, false, 0, 255⟩]⟩,
   ⟨0x18, 1, 4, .stgC, [⟨0, 2, .ro, false, 0, 3⟩, ⟨11, 1, .ro, false, 0, 1⟩, ⟨12, 1, .ro, false, 0, 1⟩, ⟨13, 1, .ro, false, 0, 1⟩, ⟨14, 3, .ro, false, 0, 7⟩, ⟨17, 3, .ro, false, 0, 7⟩, ⟨24, 8, .ro, false, 0, 255⟩]⟩,
   ⟨0x20, 1, 4, .basic, [⟨0, 8, .ro, false, 0, 255⟩, ⟨8, 8, .ro, false, 0, 255⟩, ⟨16, 8, .ro, false, 0, 255⟩]⟩]

/-- The MEAS block. -/
def rowsMEAS : List RegRow :=
  [⟨0x0, 1, 4, .never, [⟨0, 16, .rw, true, 100, 2000⟩, ⟨16, 8, .rw, false, 1, 64⟩]⟩,
   ⟨0x4, 1, 4, .slot, [⟨0, 3, .ro, false, 0, 7⟩, ⟨3, 3, .ro, false, 0, 7⟩, ⟨6, 3, .ro, false, 0, 7⟩, ⟨9, 3, .ro, false, 0, 7⟩]⟩,
   ⟨0x10, 3, 4, .slot, [⟨0, 8, .ro, false, 0, 255⟩, ⟨8, 8, .ro, false, 0, 255⟩, ⟨16, 8, .ro, false, 0, 255⟩]⟩,
   ⟨0x40, 1, 4, .never, [⟨0, 12, .rw, true, 800, 3200⟩, ⟨16, 1, .rw, false, 0, 1⟩]⟩,
   ⟨0x44, 1, 4, .slot, [⟨0, 3, .ro, false, 0, 7⟩, ⟨3, 3, .ro, false, 0, 7⟩, ⟨6, 3, .ro, false, 0, 7⟩]⟩,
   ⟨0x50, 3, 4, .slot, [⟨0, 2, .ro, false, 0, 3⟩, ⟨2, 2, .ro, false, 0, 3⟩, ⟨4, 2, .ro, false, 0, 3⟩, ⟨6, 2, .ro, false, 0, 3⟩, ⟨8, 2, .ro, false, 0, 3⟩, ⟨10, 2, .ro, false, 0, 3⟩, ⟨12, 2, .ro, false, 0, 3⟩, ⟨14, 2, .ro, false, 0, 3⟩, ⟨16, 2, .ro, false, 0, 3⟩, ⟨18, 2, .ro, false, 0, 3⟩, ⟨20, 2, .ro, false, 0, 3⟩, ⟨22, 2, .ro, false, 0, 3⟩]⟩,
   ⟨0x5c, 1, 4, .slot, [⟨0, 16, .ro, false, 0, 65535⟩, ⟨16, 3, .ro, false, 0, 7⟩]⟩,
   ⟨0x80, 3, 4, .slot, [⟨0, 16, .ro, false, 0, 65535⟩, ⟨16, 1, .ro, false, 0, 1⟩]⟩,
   ⟨0x100, 3, 4, .slot, [⟨0, 32, .ro, false, 0, 4294967295⟩]⟩,
   ⟨0x110, 3, 4, .slot, [⟨0, 32, .ro, false, 0, 4294967295⟩]⟩,
   ⟨0x120, 3, 4, .slot, [⟨0, 32, .ro, false, 0, 4294967295⟩]⟩,
   ⟨0x140, 3, 4, .slot, [⟨0, 32, .ro, false, 0, 4294967295⟩]⟩,
   ⟨0x150, 3, 4, .slot, [⟨0, 32, .ro, false, 0, 4294967295⟩]⟩,
   ⟨0x160, 3, 4, .slot, [⟨0, 32, .ro, false, 0, 4294967295⟩]⟩,
   ⟨0x180, 3, 4, .slot, [⟨0, 16, .ro, false, 0, 65535⟩, ⟨16, 1, .ro, false, 0, 1⟩]⟩,
   ⟨0x190, 3, 4, .slot, [⟨0, 16, .ro, false, 0, 65535⟩, ⟨16, 1, .ro, false, 0, 1⟩]⟩,
   ⟨0x1a0, 3, 4, .slot, [⟨0, 16, .ro, false, 0, 65535⟩, ⟨16, 1, .ro, false, 0, 1⟩]⟩,
   ⟨0x200, 6, 4, .never, [⟨0, 16, .ro, false, 0, 65535⟩]⟩,
   ⟨0x220, 6, 4, .never, [⟨0, 16, .ro, false, 0, 65535⟩]⟩,
   ⟨0x240, 6, 4, .never, [⟨0, 16, .ro, false, 0, 65535⟩]⟩,
   ⟨0x340, 16, 4, .slot, [⟨14, 1, .ro, false, 0, 1⟩, ⟨15, 1, .ro, false, 0, 1⟩, ⟨16, 16, .ro, false, 0, 65535⟩]⟩]

/-- The POS block. -/
def rowsPOS : List RegRow :=
  [⟨0x0, 1, 4, .slot, [⟨0, 6, .ro, false, 0, 63⟩, ⟨8, 1, .ro, false, 0, 1⟩, ⟨9, 1, .ro, false, 0, 1⟩]⟩,
   ⟨0x4, 1, 4, .never, [⟨0, 1, .wo, false, 0, 1⟩]⟩,
   ⟨0x8, 1, 4, .slot, [⟨0, 6, .ro, false, 0, 63⟩, ⟨8, 3, .w1c, false, 0, 7⟩]⟩,
   ⟨0x10, 1, 4, .never, [⟨0, 20, .ro, false, 0, 1048575⟩, ⟨20, 2, .ro, false, 0, 3⟩, ⟨22, 6, .ro, false, 0, 63⟩, ⟨28, 1, .ro, false, 0, 1⟩, ⟨29, 2, .ro, false, 0, 3⟩]⟩,
   ⟨0x14, 1, 4, .never, [⟨0, 2, .ro, false, 0, 3⟩, ⟨4, 4, .ro, false, 0, 15⟩, ⟨12, 20, .ro, false, 0, 1048575⟩]⟩,
   ⟨0x18, 1, 4, .never, [⟨0, 1, .wo, false, 0, 1⟩]⟩,
   ⟨0x1c, 1, 4, .slot, [⟨0, 2, .ro, false, 0, 3⟩, ⟨2, 1, .ro, false, 0, 1⟩, ⟨8, 8, .ro, false, 0, 255⟩, ⟨16, 16, .ro, false, 0, 65535⟩]⟩,
   ⟨0x20, 1, 4, .slot, [⟨0, 16, .ro, false, 0, 65535⟩, ⟨16, 1, .ro, false, 0, 1⟩]⟩,
   ⟨0x24, 1, 4, .never, [⟨0, 24, .ro, false, 0, 16777215⟩, ⟨24, 6, .ro, false, 0, 63⟩, ⟨30, 1, .ro, false, 0, 1⟩]⟩,
   ⟨0x28, 1, 4, .slot, [⟨0, 3, .ro, false, 0, 7⟩, ⟨4, 3, .ro, false, 0, 7⟩, ⟨7, 1, .ro, false, 0, 1⟩, ⟨8, 8, .ro, false, 0, 255⟩, ⟨16, 8, .ro, false, 0, 255⟩]⟩,
   ⟨0x2c, 1, 4, .never, [⟨0, 8, .ro, false, 0, 255⟩, ⟨8, 8, .ro, false, 0, 255⟩, ⟨16, 8, .ro, false, 0, 255⟩]⟩,
   ⟨0x30, 1, 4, .slot, [⟨0, 2, .ro, false, 0, 3⟩, ⟨2, 2, .ro, false, 0, 3⟩, ⟨4, 2, .ro, false, 0, 3⟩]⟩,
   ⟨0x34, 1, 4, .never, [⟨0, 12, .ro, false, 0, 4095⟩, ⟨12, 4, .ro, false, 0, 15⟩, ⟨16, 8, .ro, false, 0, 255⟩, ⟨24, 1, .ro, false, 0, 1⟩]⟩,
   ⟨0x38, 1, 4, .never, [⟨0, 16, .ro, false, 0, 65535⟩]⟩,
   ⟨0x3c, 1, 4, .never, [⟨0, 4, .ro, false, 0, 15⟩, ⟨4, 4, .ro, false, 0, 15⟩, ⟨10, 6, .ro, false, 0, 63⟩, ⟨16, 6, .ro, false, 0, 63⟩]⟩,
   ⟨0x40, 1, 4, .never, [⟨0, 6, .ro, false, 0, 63⟩, ⟨6, 1, .ro, false, 0, 1⟩, ⟨12, 2, .ro, false, 0, 3⟩, ⟨14, 6, .ro, false, 0, 63⟩, ⟨20, 6, .ro, false, 0, 63⟩]⟩,
   ⟨0x44, 1, 4, .never, [⟨0, 1, .rw, false, 0, 1⟩, ⟨8, 8, .rw, false, 0, 255⟩, ⟨16, 8, .rw, false, 0, 255⟩]⟩,
   ⟨0x48, 1, 4, .slot, [⟨0, 8, .ro, false, 0, 255⟩, ⟨8, 2, .ro, false, 0, 3⟩, ⟨10, 1, .w1c, false, 0, 1⟩, ⟨11, 1, .ro, false, 0, 1⟩, ⟨16, 8, .ro, false, 0, 255⟩]⟩,
   ⟨0x80, 3, 4, .slot, [⟨0, 32, .ro, false, 0, 4294967295⟩]⟩,
   ⟨0x90, 3, 4, .ext, [⟨0, 32, .ro, false, 0, 4294967295⟩]⟩,
   ⟨0xa0, 4, 4, .slot, [⟨0, 32, .ro, false, 0, 4294967295⟩]⟩,
   ⟨0xb0, 1, 4, .slot, [⟨0, 16, .ro, false, 0, 65535⟩, ⟨16, 16, .ro, false, 0, 65535⟩]⟩,
   ⟨0xb4, 1, 4, .slot, [⟨0, 32, .ro, false, 0, 4294967295⟩]⟩,
   ⟨0xb8, 1, 4, .slot, [⟨0, 16, .ro, false, 0, 65535⟩, ⟨16, 16, .ro, false, 0, 65535⟩]⟩,
   ⟨0xc0, 2, 4, .slot, [⟨0, 32, .ro, false, 0, 4294967295⟩]⟩] ++
  [⟨0xd0, 2, 4, .slot, [⟨0, 16, .ro, false, 0, 65535⟩, ⟨16, 16, .ro, false, 0, 65535⟩]⟩,
   ⟨0xd8, 2, 4, .slot, [⟨0, 16, .ro, false, 0, 65535⟩, ⟨16, 8, .ro, false, 0, 255⟩]⟩,
   ⟨0xe0, 1, 4, .slot, [⟨0, 16, .ro, false, 0, 65535⟩, ⟨16, 16, .ro, false, 0, 65535⟩]⟩,
   ⟨0xe4, 1, 4, .slot, [⟨0, 32, .ro, false, 0, 4294967295⟩]⟩,
   ⟨0xe8, 1, 4, .slot, [⟨0, 1, .ro, false, 0, 1⟩, ⟨8, 8, .ro, false, 0, 255⟩]⟩,
   ⟨0x100, 16, 4, .never, [⟨0, 16, .ro, false, 0, 65535⟩]⟩]

/-- The COM block. -/
def rowsCOM : List RegRow :=
  [⟨0x0, 1, 4, .slot, [⟨0, 2, .ro, false, 0, 3⟩, ⟨5, 1, .ro, false, 0, 1⟩, ⟨6, 3, .ro, false, 0, 7⟩, ⟨9, 3, .ro, false, 0, 7⟩, ⟨12, 3, .ro, false, 0, 7⟩, ⟨15, 3, .ro, false, 0, 7⟩, ⟨18, 3, .ro, false, 0, 7⟩, ⟨21, 3, .ro, false, 0, 7⟩]⟩,
   ⟨0x4, 1, 4, .never, [⟨8, 1, .ro, false, 0, 1⟩, ⟨9, 1, .ro, false, 0, 1⟩, ⟨10, 2, .ro, false, 0, 3⟩, ⟨16, 12, .ro, false, 0, 4095⟩]⟩,
   ⟨0x8, 1, 4, .never, [⟨0, 16, .ro, false, 0, 65535⟩, ⟨16, 16, .ro, false, 0, 65535⟩]⟩,
   ⟨0xc, 1, 4, .never, [⟨0, 16, .ro, false, 0, 65535⟩, ⟨16, 16, .ro, false, 0, 65535⟩]⟩,
   ⟨0x10, 1, 4, .never, [⟨0, 16, .ro, false, 0, 65535⟩, ⟨16, 16, .ro, false, 0, 65535⟩]⟩,
   ⟨0x14, 1, 4, .never, [⟨0, 16, .ro, false, 0, 65535⟩]⟩,
   ⟨0x18, 1, 4, .never, [⟨0, 16, .ro, false, 0, 65535⟩, ⟨16, 16, .ro, false, 0, 65535⟩]⟩,
   ⟨0x1c, 1, 4, .never, [⟨0, 8, .ro, false, 0, 255⟩, ⟨8, 8, .ro, false, 0, 255⟩, ⟨16, 16, .ro, false, 0, 65535⟩]⟩,
   ⟨0x20, 1, 4, .never, [⟨0, 8, .ro, false, 0, 255⟩, ⟨8, 8, .ro, false, 0, 255⟩, ⟨16, 8, .ro, false, 0, 255⟩, ⟨24, 8, .ro, false, 0, 255⟩]⟩,
   ⟨0x24, 1, 4, .never, [⟨0, 16, .ro, false, 0, 65535⟩, ⟨16, 16, .ro, false, 0, 65535⟩]⟩,
   ⟨0x28, 1, 4, .never, [⟨0, 8, .ro, false, 0, 255⟩, ⟨8, 8, .ro, false, 0, 255⟩, ⟨16, 16, .ro, false, 0, 65535⟩]⟩,
   ⟨0x2c, 1, 4, .never, [⟨16, 8, .ro, false, 0, 255⟩, ⟨24, 8, .ro, false, 0, 255⟩]⟩,
   ⟨0x30, 1, 4, .never, [⟨0, 32, .ro, false, 0, 4294967295⟩]⟩,
   ⟨0x34, 1, 4, .slot, [⟨0, 3, .ro, false, 0, 7⟩, ⟨8, 8, .ro, false, 0, 255⟩, ⟨16, 8, .ro, false, 0, 255⟩]⟩,
   ⟨0x38, 1, 4, .slot, [⟨0, 1, .ro, false, 0, 1⟩, ⟨1, 1, .ro, false, 0, 1⟩, ⟨16, 11, .ro, false, 0, 2047⟩]⟩,
   ⟨0x3c, 1, 4, .never, [⟨0, 1, .rw, true, 0, 1⟩]⟩,
   ⟨0x40, 3, 4, .never, [⟨0, 6, .ro, false, 0, 63⟩, ⟨8, 6, .ro, false, 0, 63⟩]⟩,
   ⟨0x100, 3, 16, .never, [⟨0, 3, .rw, false, 0, 7⟩]⟩,
   ⟨0x104, 3, 16, .never, [⟨0, 32, .rw, false, 0, 4294967295⟩]⟩,
   ⟨0x108, 3, 16, .never, [⟨0, 16, .rw, false, 0, 65535⟩]⟩,
   ⟨0x10c, 3, 16, .never, [⟨0, 16, .rw, false, 0, 65535⟩, ⟨16, 16, .rw, false, 0, 65535⟩]⟩,
   ⟨0x130, 1, 4, .never, [⟨0, 1, .wo, false, 0, 1⟩]⟩,
   ⟨0x134, 1, 4, .slot, [⟨0, 1, .ro, false, 0, 1⟩, ⟨16, 16, .ro, false, 0, 65535⟩]⟩,
   ⟨0x140, 3, 4, .slot, [⟨0, 3, .ro, false, 0, 7⟩, ⟨8, 2, .ro, false, 0, 3⟩, ⟨12, 1, .ro, false, 0, 1⟩, ⟨13, 1, .ro, false, 0, 1⟩, ⟨16, 16, .ro, false, 0, 65535⟩]⟩,
   ⟨0x150, 3, 4, .slot, [⟨0, 32, .ro, false, 0, 4294967295⟩]⟩] ++
  [⟨0x160, 3, 4, .slot, [⟨0, 16, .ro, false, 0, 65535⟩, ⟨16, 16, .ro, false, 0, 65535⟩]⟩,
   ⟨0x1000, 33, 4, .never, [⟨0, 16, .ro, false, 0, 65535⟩]⟩,
   ⟨0x1100, 33, 4, .never, [⟨0, 16, .ro, false, 0, 65535⟩]⟩,
   ⟨0x1200, 33, 4, .never, [⟨0, 16, .ro, false, 0, 65535⟩]⟩,
   ⟨0x1400, 64, 4, .never, [⟨0, 16, .ro, false, 0, 65535⟩]⟩,
   ⟨0x2000, 1152, 4, .never, [⟨0, 16, .ro, false, 0, 65535⟩, ⟨16, 16, .ro, false, 0, 65535⟩]⟩,
   ⟨0x3400, 32, 4, .matrix, [⟨0, 16, .ro, false, 0, 65535⟩, ⟨16, 16, .ro, false, 0, 65535⟩]⟩]

/-- The TMAP block. -/
def rowsTMAP : List RegRow :=
  [⟨0x0, 16384, 4, .never, [⟨0, 16, .ro, false, 0, 65535⟩, ⟨16, 16, .ro, false, 0, 65535⟩]⟩,
   ⟨0x10000, 16384, 4, .never, [⟨0, 16, .ro, false, 0, 65535⟩, ⟨16, 16, .ro, false, 0, 65535⟩]⟩,
   ⟨0x20000, 16384, 4, .never, [⟨0, 16, .ro, false, 0, 65535⟩, ⟨16, 16, .ro, false, 0, 65535⟩]⟩]

/-- The STG block. -/
def rowsSTG : List RegRow :=
  [⟨0x0, 1, 4, .never, [⟨0, 6, .ro, false, 0, 63⟩, ⟨16, 8, .ro, false, 0, 255⟩, ⟨24, 6, .ro, false, 0, 63⟩]⟩,
   ⟨0x4, 1, 4, .never, [⟨0, 3, .wo, false, 0, 7⟩, ⟨16, 16, .wo, false, 0, 65535⟩]⟩,
   ⟨0x10, 1, 4, .stgA, [⟨0, 3, .ro, false, 0, 7⟩, ⟨7, 3, .ro, false, 0, 7⟩, ⟨10, 1, .ro, false, 0, 1⟩, ⟨11, 1, .ro, false, 0, 1⟩, ⟨12, 1, .ro, false, 0, 1⟩, ⟨13, 3, .ro, false, 0, 7⟩, ⟨16, 1, .ro, false, 0, 1⟩, ⟨17, 1, .ro, false, 0, 1⟩, ⟨18, 1, .ro, false, 0, 1⟩, ⟨19, 1, .ro, false, 0, 1⟩, ⟨24, 8, .ro, false, 0, 255⟩]⟩,
   ⟨0x14, 1, 4, .stgB, [⟨0, 3, .ro, false, 0, 7⟩, ⟨7, 3, .ro, false, 0, 7⟩, ⟨10, 1, .ro, false, 0, 1⟩, ⟨11, 1, .ro, false, 0, 1⟩, ⟨12, 1, .ro, false, 0, 1⟩, ⟨13, 3, .ro, false, 0, 7⟩, ⟨16, 1, .ro, false, 0, 1⟩, ⟨17, 1, .ro, false, 0, 1⟩, ⟨18, 1, .ro, false, 0, 1⟩, ⟨19, 1, .ro, false, 0, 1⟩, ⟨24, 8, .ro, false, 0, 255⟩]⟩,
   ⟨0x18, 1, 4, .stgC, [⟨0, 3, .ro, false, 0, 7⟩, ⟨7, 3, .ro, false, 0, 7⟩, ⟨10, 1, .ro, false, 0, 1⟩, ⟨11, 1, .ro, false, 0, 1⟩, ⟨12, 1, .ro, false, 0, 1⟩, ⟨13, 3, .ro, false, 0, 7⟩, ⟨16, 1, .ro, false, 0, 1⟩, ⟨17, 1, .ro, false, 0, 1⟩, ⟨18, 1, .ro, false, 0, 1⟩, ⟨19, 1, .ro, false, 0, 1⟩, ⟨24, 8, .ro, false, 0, 255⟩]⟩,
   ⟨0x20, 1, 4, .stgA, [⟨0, 16, .ro, false, 0, 65535⟩, ⟨16, 16, .w1c, false, 0, 65535⟩]⟩,
   ⟨0x24, 1, 4, .stgB, [⟨0, 16, .ro, false, 0, 65535⟩, ⟨16, 16, .w1c, false, 0, 65535⟩]⟩,
   ⟨0x28, 1, 4, .stgC, [⟨0, 16, .ro, false, 0, 65535⟩, ⟨16, 16, .w1c, false, 0, 65535⟩]⟩,
   ⟨0x30, 3, 4, .basic, [⟨0, 8, .ro, false, 0, 255⟩, ⟨8, 8, .ro, false, 0, 255⟩, ⟨16, 8, .ro, false, 0, 255⟩, ⟨24, 8, .ro, false, 0, 255⟩]⟩,
   ⟨0x40, 1, 4, .stgA, [⟨8, 8, .ro, false, 0, 255⟩, ⟨16, 8, .ro, false, 0, 255⟩, ⟨24, 8, .ro, false, 0, 255⟩]⟩,
   ⟨0x44, 1, 4, .stgB, [⟨8, 8, .ro, false, 0, 255⟩, ⟨16, 8, .ro, false, 0, 255⟩, ⟨24, 8, .ro, false, 0, 255⟩]⟩,
   ⟨0x48, 1, 4, .stgC, [⟨8, 8, .ro, false, 0, 255⟩, ⟨16, 8, .ro, false, 0, 255⟩, ⟨24, 8, .ro, false, 0, 255⟩]⟩]

/-- The FLK block. -/
def rowsFLK : List RegRow :=
  [⟨0x0, 1, 4, .never, [⟨0, 5, .ro, false, 0, 31⟩, ⟨8, 1, .ro, false, 0, 1⟩, ⟨9, 1, .ro, false, 0, 1⟩, ⟨12, 2, .ro, false, 0, 3⟩, ⟨16, 9, .ro, false, 0, 511⟩]⟩,
   ⟨0x4, 1, 4, .slot, [⟨0, 3, .ro, false, 0, 7⟩, ⟨8, 1, .ro, false, 0, 1⟩, ⟨9, 1, .ro, false, 0, 1⟩, ⟨11, 1, .ro, false, 0, 1⟩, ⟨12, 1, .ro, false, 0, 1⟩, ⟨13, 1, .ro, false, 0, 1⟩, ⟨14, 1, .ro, false, 0, 1⟩, ⟨15, 1, .ro, false, 0, 1⟩, ⟨16, 5, .ro, false, 0, 31⟩]⟩,
   ⟨0x8, 2, 4, .slot, [⟨0, 32, .ro, false, 0, 4294967295⟩]⟩,
   ⟨0x10, 1, 4, .slot, [⟨0, 32, .ro, false, 0, 4294967295⟩]⟩,
   ⟨0x14, 1, 4, .slot, [⟨8, 8, .ro, false, 0, 255⟩, ⟨16, 16, .ro, false, 0, 65535⟩]⟩,
   ⟨0x18, 1, 4, .slot, [⟨0, 32, .ro, false, 0, 4294967295⟩]⟩,
   ⟨0x1c, 1, 4, .slot, [⟨0, 8, .ro, false, 0, 255⟩, ⟨8, 8, .ro, false, 0, 255⟩, ⟨16, 16, .ro, false, 0, 65535⟩]⟩,
   ⟨0x20, 1, 4, .never, [⟨0, 12, .rw, false, 0, 4095⟩, ⟨16, 1, .rw, false, 0, 1⟩]⟩,
   ⟨0x24, 2, 4, .never, [⟨0, 32, .ro, false, 0, 4294967295⟩]⟩,
   ⟨0x2c, 1, 4, .never, [⟨0, 32, .ro, false, 0, 4294967295⟩]⟩,
   ⟨0x30, 1, 4, .never, [⟨0, 5, .wo, false, 0, 31⟩, ⟨10, 11, .wo, false, 0, 2047⟩]⟩,
   ⟨0x34, 1, 4, .never, [⟨0, 16, .wo, false, 0, 65535⟩]⟩,
   ⟨0x38, 1, 4, .slot, [⟨16, 16, .w1c, false, 0, 65535⟩]⟩,
   ⟨0x40, 16, 4, .slot, [⟨0, 16, .ro, false, 0, 65535⟩, ⟨22, 1, .ro, false, 0, 1⟩, ⟨23, 1, .ro, false, 0, 1⟩, ⟨24, 8, .ro, false, 0, 255⟩]⟩,
   ⟨0x100, 16, 4, .never, [⟨0, 12, .rw, false, 0, 4095⟩, ⟨16, 6, .rw, false, 0, 63⟩, ⟨24, 3, .rw, false, 0, 7⟩, ⟨31, 1, .rw, false, 0, 1⟩]⟩,
   ⟨0x200, 32, 4, .never, [⟨0, 8, .rw, false, 0, 255⟩, ⟨12, 3, .rw, false, 0, 7⟩, ⟨16, 6, .rw, false, 0, 63⟩, ⟨22, 6, .rw, false, 0, 47⟩, ⟨28, 2, .rw, false, 0, 3⟩, ⟨30, 1, .rw, false, 0, 1⟩, ⟨31, 1, .rw, true, 0, 1⟩]⟩,
   ⟨0x300, 32, 4, .slot, [⟨0, 1, .ro, false, 0, 1⟩, ⟨1, 1, .ro, false, 0, 1⟩, ⟨2, 1, .ro, false, 0, 1⟩, ⟨3, 1, .ro, false, 0, 1⟩, ⟨4, 1, .ro, false, 0, 1⟩, ⟨5, 11, .ro, false, 0, 2047⟩, ⟨16, 16, .ro, false, 0, 65535⟩]⟩,
   ⟨0x8000, 8192, 4, .slot, [⟨0, 32, .txOnly, false, 0, 4294967295⟩]⟩,
   ⟨0x400, 1, 4, .slot, [⟨0, 16, .ro, false, 0, 65535⟩, ⟨16, 8, .ro, false, 0, 255⟩]⟩,
   ⟨0x404, 1, 4, .slot, [⟨0, 1, .ro, false, 0, 1⟩, ⟨2, 1, .ro, false, 0, 1⟩, ⟨3, 3, .ro, false, 0, 7⟩, ⟨8, 4, .ro, false, 0, 15⟩, ⟨12, 1, .ro, false, 0, 1⟩, ⟨16, 16, .ro, false, 0, 65535⟩]⟩,
   ⟨0x408, 1, 4, .slot, [⟨0, 32, .ro, false, 0, 4294967295⟩]⟩,
   ⟨0x40c, 1, 4, .slot, [⟨0, 16, .ro, false, 0, 65535⟩, ⟨16, 16, .ro, false, 0, 65535⟩]⟩,
   ⟨0x410, 1, 4, .slot, [⟨0, 8, .ro, false, 0, 255⟩, ⟨8, 8, .ro, false, 0, 255⟩, ⟨16, 8, .ro, false, 0, 255⟩, ⟨24, 8, .ro, false, 0, 255⟩]⟩,
   ⟨0x420, 4, 4, .never, [⟨16, 6, .rw, false, 0, 63⟩, ⟨24, 5, .rw, false, 0, 31⟩, ⟨31, 1, .rw, true, 0, 1⟩]⟩,
   ⟨0x430, 1, 4, .never, [⟨0, 32, .rw, true, 0, 4294967295⟩]⟩,
   ⟨0x434, 1, 4, .slot, [⟨0, 16, .ro, false, 0, 65535⟩, ⟨16, 16, .ro, false, 0, 65535⟩]⟩,
   ⟨0x480, 32, 4, .never, [⟨0, 16, .rw, false, 0, 65535⟩]⟩,
   ⟨0x800, 128, 4, .never, [⟨0, 8, .rw, false, 0, 255⟩, ⟨8, 3, .rw, true, 0, 7⟩]⟩]

/-- The CAN block. -/
def rowsCAN : List RegRow :=
  [⟨0x0, 1, 4, .never, [⟨0, 2, .ro, false, 0, 3⟩, ⟨4, 3, .ro, false, 0, 7⟩, ⟨7, 1, .ro, false, 0, 1⟩, ⟨8, 1, .ro, false, 0, 1⟩, ⟨9, 1, .ro, false, 0, 1⟩, ⟨10, 1, .ro, false, 0, 1⟩, ⟨11, 1, .ro, false, 0, 1⟩, ⟨16, 8, .ro, false, 0, 255⟩, ⟨24, 8, .ro, false, 0, 255⟩]⟩,
   ⟨0x4, 1, 4, .slot, [⟨0, 3, .ro, false, 0, 7⟩, ⟨4, 1, .ro, false, 0, 1⟩, ⟨5, 1, .ro, false, 0, 1⟩, ⟨6, 2, .ro, false, 0, 3⟩, ⟨8, 3, .ro, false, 0, 7⟩, ⟨11, 1, .ro, false, 0, 1⟩, ⟨16, 16, .ro, false, 0, 65535⟩]⟩,
   ⟨0x8, 1, 4, .slot, [⟨0, 8, .ro, false, 0, 255⟩, ⟨16, 9, .ro, false, 0, 511⟩]⟩,
   ⟨0xc, 1, 4, .slot, [⟨0, 6, .ro, false, 0, 63⟩, ⟨6, 6, .ro, false, 0, 63⟩, ⟨12, 6, .ro, false, 0, 63⟩, ⟨18, 6, .ro, false, 0, 63⟩, ⟨24, 6, .ro, false, 0, 63⟩]⟩,
   ⟨0x10, 1, 4, .never, [⟨0, 1, .wo, false, 0, 1⟩]⟩,
   ⟨0x14, 1, 4, .slot, [⟨0, 32, .ro, false, 0, 4294967295⟩]⟩,
   ⟨0x20, 1, 4, .never, [⟨0, 7, .wo, false, 0, 127⟩, ⟨8, 4, .wo, false, 0, 15⟩]⟩,
   ⟨0x30, 4, 4, .never, [⟨0, 32, .wo, false, 0, 4294967295⟩]⟩,
   ⟨0x40, 4, 4, .never, [⟨0, 32, .wo, false, 0, 4294967295⟩]⟩,
   ⟨0x50, 4, 4, .slot, [⟨0, 32, .ro, false, 0, 4294967295⟩]⟩,
   ⟨0x800, 128, 8, .never, [⟨0, 29, .rw, false, 0, 536870911⟩, ⟨29, 1, .rw, false, 0, 1⟩, ⟨30, 1, .rw, false, 0, 1⟩, ⟨31, 1, .rw, true, 0, 1⟩]⟩,
   ⟨0x804, 128, 8, .never, [⟨0, 29, .rw, false, 0, 536870911⟩, ⟨31, 1, .rw, false, 0, 1⟩]⟩,
   ⟨0x1000, 128, 128, .never, [⟨0, 29, .txOnly, false, 0, 536870911⟩, ⟨31, 1, .txOnly, false, 0, 1⟩]⟩,
   ⟨0x1004, 128, 128, .never, [⟨0, 8, .txOnly, false, 0, 255⟩]⟩,
   ⟨0x1008, 128, 128, .never, [⟨0, 32, .ro, false, 0, 4294967295⟩]⟩,
   ⟨0x100c, 128, 128, .never, [⟨0, 1, .ro, false, 0, 1⟩, ⟨1, 1, .ro, false, 0, 1⟩, ⟨2, 1, .ro, false, 0, 1⟩, ⟨4, 4, .ro, false, 0, 15⟩]⟩,
   ⟨0x1010, 128, 128, .never, [⟨0, 32, .txOnly, false, 0, 4294967295⟩]⟩,
   ⟨0x1014, 128, 128, .never, [⟨0, 32, .txOnly, false, 0, 4294967295⟩]⟩,
   ⟨0x1018, 128, 128, .never, [⟨0, 32, .txOnly, false, 0, 4294967295⟩]⟩,
   ⟨0x101c, 128, 128, .never, [⟨0, 32, .txOnly, false, 0, 4294967295⟩]⟩,
   ⟨0x1020, 128, 128, .never, [⟨0, 32, .txOnly, false, 0, 4294967295⟩]⟩,
   ⟨0x1024, 128, 128, .never, [⟨0, 32, .txOnly, false, 0, 4294967295⟩]⟩,
   ⟨0x1028, 128, 128, .never, [⟨0, 32, .txOnly, false, 0, 4294967295⟩]⟩,
   ⟨0x102c, 128, 128, .never, [⟨0, 32, .txOnly, false, 0, 4294967295⟩]⟩,
   ⟨0x1030, 128, 128, .never, [⟨0, 32, .txOnly, false, 0, 4294967295⟩]⟩] ++
  [⟨0x1034, 128, 128, .never, [⟨0, 32, .txOnly, false, 0, 4294967295⟩]⟩,
   ⟨0x1038, 128, 128, .never, [⟨0, 32, .txOnly, false, 0, 4294967295⟩]⟩,
   ⟨0x103c, 128, 128, .never, [⟨0, 32, .txOnly, false, 0, 4294967295⟩]⟩,
   ⟨0x1040, 128, 128, .never, [⟨0, 32, .txOnly, false, 0, 4294967295⟩]⟩,
   ⟨0x1044, 128, 128, .never, [⟨0, 32, .txOnly, false, 0, 4294967295⟩]⟩,
   ⟨0x1048, 128, 128, .never, [⟨0, 32, .txOnly, false, 0, 4294967295⟩]⟩,
   ⟨0x104c, 128, 128, .never, [⟨0, 32, .txOnly, false, 0, 4294967295⟩]⟩]

/-- The AUX block. -/
def rowsAUX : List RegRow :=
  [⟨0x0, 1, 4, .never, [⟨0, 12, .ro, false, 0, 4095⟩, ⟨16, 8, .ro, false, 0, 255⟩, ⟨24, 8, .ro, false, 0, 255⟩]⟩,
   ⟨0x4, 1, 4, .never, [⟨0, 20, .ro, false, 0, 1048575⟩, ⟨24, 6, .ro, false, 0, 63⟩, ⟨30, 2, .ro, false, 0, 3⟩]⟩,
   ⟨0x8, 1, 4, .never, [⟨0, 16, .ro, false, 0, 65535⟩]⟩,
   ⟨0xc, 1, 4, .never, [⟨0, 16, .ro, false, 0, 65535⟩, ⟨16, 16, .ro, false, 0, 65535⟩]⟩,
   ⟨0x10, 1, 4, .never, [⟨0, 20, .ro, false, 0, 1048575⟩]⟩,
   ⟨0x14, 1, 4, .never, [⟨0, 16, .ro, false, 0, 65535⟩, ⟨16, 16, .ro, false, 0, 65535⟩]⟩,
   ⟨0x18, 1, 4, .never, [⟨0, 1, .ro, false, 0, 1⟩, ⟨1, 1, .ro, false, 0, 1⟩, ⟨2, 1, .ro, false, 0, 1⟩, ⟨3, 1, .ro, false, 0, 1⟩, ⟨4, 1, .ro, false, 0, 1⟩]⟩,
   ⟨0x1c, 1, 4, .never, [⟨0, 16, .ro, false, 0, 65535⟩, ⟨16, 16, .ro, false, 0, 65535⟩]⟩,
   ⟨0x20, 1, 4, .never, [⟨0, 16, .ro, false, 0, 65535⟩, ⟨16, 16, .ro, false, 0, 65535⟩]⟩,
   ⟨0x24, 1, 4, .never, [⟨0, 32, .ro, false, 0, 4294967295⟩]⟩,
   ⟨0x40, 1, 4, .never, [⟨0, 32, .rw, false, 0, 4294967295⟩]⟩,
   ⟨0x44, 1, 4, .never, [⟨0, 3, .wo, false, 0, 7⟩, ⟨16, 16, .wo, false, 0, 65535⟩]⟩,
   ⟨0x48, 1, 4, .slot, [⟨0, 3, .ro, false, 0, 7⟩, ⟨16, 2, .ro, false, 0, 3⟩, ⟨18, 2, .ro, false, 0, 3⟩, ⟨20, 1, .ro, false, 0, 1⟩, ⟨21, 1, .ro, false, 0, 1⟩, ⟨22, 1, .ro, false, 0, 1⟩, ⟨23, 1, .w1c, false, 0, 1⟩, ⟨24, 8, .ro, false, 0, 255⟩]⟩,
   ⟨0x4c, 1, 4, .slot, [⟨0, 32, .ro, false, 0, 4294967295⟩]⟩,
   ⟨0x50, 1, 4, .slot, [⟨0, 32, .ro, false, 0, 4294967295⟩]⟩,
   ⟨0x54, 1, 4, .slot, [⟨0, 1, .ro, false, 0, 1⟩, ⟨1, 1, .ro, false, 0, 1⟩, ⟨16, 16, .ro, false, 0, 65535⟩]⟩,
   ⟨0x58, 1, 4, .slot, [⟨0, 32, .ro, false, 0, 4294967295⟩]⟩,
   ⟨0x5c, 1, 4, .slot, [⟨0, 3, .ro, false, 0, 7⟩, ⟨3, 3, .ro, false, 0, 7⟩]⟩,
   ⟨0x400, 256, 4, .never, [⟨0, 12, .rw, true, 0, 4095⟩]⟩]

/-- The CHN block. -/
def rowsCHN : List RegRow :=
  [⟨0x0, 1, 4, .never, [⟨0, 1, .ro, false, 0, 1⟩]⟩,
   ⟨0x4, 1, 4, .slot, [⟨0, 11, .ro, false, 0, 2047⟩, ⟨23, 1, .ro, false, 0, 1⟩, ⟨24, 1, .ro, false, 0, 1⟩, ⟨25, 2, .ro, false, 0, 3⟩]⟩,
   ⟨0x8, 1, 4, .slot, [⟨0, 12, .ro, false, 0, 4095⟩, ⟨12, 4, .ro, false, 0, 15⟩, ⟨16, 3, .ro, false, 0, 7⟩, ⟨19, 10, .ro, false, 0, 1023⟩, ⟨29, 3, .ro, false, 0, 7⟩]⟩,
   ⟨0xc, 1, 4, .slot, [⟨0, 16, .ro, false, 0, 65535⟩, ⟨16, 16, .ro, false, 0, 65535⟩]⟩,
   ⟨0x10, 1, 4, .slot, [⟨0, 16, .ro, false, 0, 65535⟩, ⟨16, 16, .ro, false, 0, 65535⟩]⟩,
   ⟨0x14, 1, 4, .slot, [⟨0, 1, .ro, false, 0, 1⟩, ⟨8, 1, .ro, false, 0, 1⟩, ⟨12, 2, .ro, false, 0, 3⟩, ⟨14, 2, .ro, false, 0, 3⟩]⟩,
   ⟨0x18, 1, 4, .slot, [⟨0, 32, .ro, false, 0, 4294967295⟩]⟩,
   ⟨0x1c, 1, 4, .slot, [⟨0, 1, .ro, false, 0, 1⟩, ⟨1, 1, .ro, false, 0, 1⟩, ⟨16, 16, .ro, false, 0, 65535⟩]⟩]

/-- The SEC block. -/
def rowsSEC : List RegRow :=
  [⟨0x0, 1, 4, .never, [⟨0, 3, .ro, false, 0, 7⟩, ⟨6, 1, .ro, false, 0, 1⟩, ⟨7, 1, .ro, false, 0, 1⟩, ⟨8, 1, .ro, false, 0, 1⟩, ⟨12, 4, .ro, false, 0, 15⟩, ⟨16, 8, .ro, false, 0, 255⟩]⟩,
   ⟨0x4, 1, 4, .slot, [⟨0, 1, .ro, false, 0, 1⟩, ⟨1, 1, .ro, false, 0, 1⟩, ⟨2, 1, .ro, false, 0, 1⟩, ⟨3, 1, .ro, false, 0, 1⟩, ⟨4, 1, .ro, false, 0, 1⟩, ⟨5, 1, .ro, false, 0, 1⟩, ⟨6, 1, .ro, false, 0, 1⟩, ⟨7, 1, .ro, false, 0, 1⟩, ⟨8, 1, .ro, false, 0, 1⟩, ⟨9, 1, .ro, false, 0, 1⟩, ⟨10, 2, .ro, false, 0, 3⟩, ⟨12, 1, .ro, false, 0, 1⟩, ⟨16, 16, .ro, false, 0, 65535⟩]⟩,
   ⟨0x8, 1, 4, .slot, [⟨0, 7, .ro, false, 0, 127⟩, ⟨12, 4, .ro, false, 0, 15⟩, ⟨16, 1, .ro, false, 0, 1⟩, ⟨24, 8, .ro, false, 0, 255⟩]⟩,
   ⟨0xc, 1, 4, .slot, [⟨0, 4, .ro, false, 0, 15⟩, ⟨4, 4, .ro, false, 0, 15⟩, ⟨8, 1, .ro, false, 0, 1⟩, ⟨9, 2, .ro, false, 0, 3⟩, ⟨11, 1, .ro, false, 0, 1⟩]⟩,
   ⟨0x10, 1, 4, .never, [⟨0, 32, .ro, false, 0, 4294967295⟩]⟩]

/-- The MBX block. -/
def rowsMBX : List RegRow :=
  [⟨0x0, 1, 4, .slot, [⟨0, 1, .ro, false, 0, 1⟩, ⟨1, 1, .ro, false, 0, 1⟩, ⟨2, 1, .ro, false, 0, 1⟩, ⟨3, 1, .ro, false, 0, 1⟩, ⟨8, 8, .ro, false, 0, 255⟩]⟩,
   ⟨0x4, 1, 4, .never, [⟨0, 1, .wo, false, 0, 1⟩, ⟨16, 16, .wo, false, 0, 65535⟩]⟩,
   ⟨0x8, 1, 4, .never, [⟨0, 1, .wo, false, 0, 1⟩]⟩,
   ⟨0xc, 1, 4, .slot, [⟨0, 32, .ro, false, 0, 4294967295⟩]⟩,
   ⟨0x10, 1, 4, .slot, [⟨0, 32, .ro, false, 0, 4294967295⟩]⟩,
   ⟨0x14, 1, 4, .slot, [⟨0, 6, .ro, false, 0, 63⟩, ⟨6, 6, .ro, false, 0, 63⟩, ⟨12, 6, .ro, false, 0, 63⟩, ⟨18, 6, .ro, false, 0, 63⟩, ⟨24, 6, .ro, false, 0, 63⟩]⟩,
   ⟨0x18, 1, 4, .slot, [⟨8, 8, .ro, false, 0, 255⟩, ⟨16, 16, .ro, false, 0, 65535⟩]⟩,
   ⟨0x1c, 1, 4, .slot, [⟨0, 8, .ro, false, 0, 255⟩, ⟨8, 4, .ro, false, 0, 15⟩, ⟨15, 1, .ro, false, 0, 1⟩, ⟨16, 16, .ro, false, 0, 65535⟩]⟩,
   ⟨0x20, 1, 4, .never, [⟨0, 1, .wo, false, 0, 1⟩, ⟨1, 1, .wo, false, 0, 1⟩, ⟨16, 16, .wo, false, 0, 65535⟩]⟩,
   ⟨0x24, 1, 4, .slot, [⟨0, 4, .ro, false, 0, 15⟩, ⟨4, 4, .ro, false, 0, 15⟩, ⟨12, 4, .ro, false, 0, 15⟩, ⟨20, 12, .ro, false, 0, 4095⟩]⟩,
   ⟨0x100, 4, 4, .never, [⟨0, 32, .rw, false, 0, 4294967295⟩]⟩,
   ⟨0x200, 4, 4, .slot, [⟨0, 32, .ro, false, 0, 4294967295⟩]⟩,
   ⟨0x1000, 1024, 4, .never, [⟨0, 32, .rw, false, 0, 4294967295⟩]⟩,
   ⟨0x2000, 1024, 4, .slot, [⟨0, 32, .ro, false, 0, 4294967295⟩]⟩]

/-- The SAFE block. -/
def rowsSAFE : List RegRow :=
  [⟨0x0, 1, 4, .never, [⟨0, 1, .ro, false, 0, 1⟩, ⟨2, 1, .ro, false, 0, 1⟩]⟩,
   ⟨0x4, 1, 4, .never, [⟨0, 8, .ro, false, 0, 255⟩, ⟨16, 16, .ro, false, 0, 65535⟩]⟩,
   ⟨0x8, 1, 4, .never, [⟨0, 8, .ro, false, 0, 255⟩, ⟨8, 8, .ro, false, 0, 255⟩, ⟨16, 16, .ro, false, 0, 65535⟩]⟩,
   ⟨0xc, 1, 4, .never, [⟨0, 3, .wo, false, 0, 7⟩, ⟨4, 3, .wo, false, 0, 7⟩, ⟨8, 3, .wo, false, 0, 7⟩, ⟨16, 16, .wo, false, 0, 65535⟩]⟩,
   ⟨0x10, 1, 4, .vote, [⟨5, 1, .ro, false, 0, 1⟩, ⟨6, 1, .ro, false, 0, 1⟩, ⟨7, 1, .ro, false, 0, 1⟩, ⟨12, 3, .ro, false, 0, 7⟩, ⟨15, 3, .ro, false, 0, 7⟩, ⟨18, 3, .ro, false, 0, 7⟩, ⟨21, 3, .ro, false, 0, 7⟩]⟩,
   ⟨0x14, 1, 4, .vote, [⟨0, 16, .ro, false, 0, 65535⟩, ⟨16, 16, .ro, false, 0, 65535⟩]⟩,
   ⟨0x18, 1, 4, .vote, [⟨0, 8, .ro, false, 0, 255⟩, ⟨8, 8, .ro, false, 0, 255⟩, ⟨16, 8, .ro, false, 0, 255⟩]⟩]

/-- The DBG block. -/
def rowsDBG : List RegRow :=
  [⟨0x0, 1, 4, .basic, [⟨0, 1, .ro, false, 0, 1⟩, ⟨6, 1, .w1c, false, 0, 1⟩, ⟨7, 1, .ro, false, 0, 1⟩, ⟨10, 3, .ro, false, 0, 7⟩, ⟨16, 4, .ro, false, 0, 15⟩]⟩,
   ⟨0x4, 1, 4, .never, [⟨0, 32, .ro, false, 0, 4294967295⟩]⟩,
   ⟨0x8, 1, 4, .never, [⟨0, 4, .ro, false, 0, 15⟩, ⟨8, 6, .ro, false, 0, 63⟩, ⟨16, 16, .ro, false, 0, 65535⟩]⟩,
   ⟨0xc, 1, 4, .basic, [⟨0, 1, .ro, false, 0, 1⟩, ⟨1, 1, .ro, false, 0, 1⟩, ⟨2, 1, .ro, false, 0, 1⟩, ⟨8, 8, .ro, false, 0, 255⟩]⟩,
   ⟨0x10, 1, 4, .basic, [⟨0, 7, .ro, false, 0, 127⟩, ⟨8, 8, .ro, false, 0, 255⟩]⟩,
   ⟨0x14, 1, 4, .basic, [⟨0, 32, .ro, false, 0, 4294967295⟩]⟩,
   ⟨0x18, 1, 4, .basic, [⟨0, 32, .ro, false, 0, 4294967295⟩]⟩]

/-- The register list and base of the block that holds `addr` (R28). -/
def blockOf (addr : Nat) : Nat × List RegRow :=
  match addr / 0x10000 with
  | 0x4000 => (0x40000000, rowsSYS)
  | 0x4001 => (0x40010000, rowsFC)
  | 0x4002 => (0x40020000, rowsAGR)
  | 0x4003 => (0x40030000, rowsCLM)
  | 0x4004 => (0x40040000, rowsMEAS)
  | 0x4005 => (0x40050000, rowsPOS)
  | 0x4006 => (0x40060000, rowsCOM)
  | 0x4008 => (0x40080000, rowsSTG)
  | 0x4009 => (0x40090000, rowsFLK)
  | 0x400A => (0x400A0000, rowsCAN)
  | 0x400B => (0x400B0000, rowsCAN)
  | 0x400C => (0x400C0000, rowsAUX)
  | 0x400D => (0x400D0000, rowsCHN)
  | 0x400E => (0x400E0000, rowsSEC)
  | 0x400F => (0x400F0000, rowsMBX)
  | 0x4010 => (0x40100000, rowsSAFE)
  | 0x4011 => (0x40110000, rowsDBG)
  | 0x4020 => (0x40200000, rowsTMAP)
  | 0x4021 => (0x40200000, rowsTMAP)
  | 0x4022 => (0x40200000, rowsTMAP)
  | _ => (0, [])

/-- The row of the register at `addr`, if the block has a register there. -/
def rowAt (addr : Nat) : Option RegRow :=
  let b := blockOf addr
  b.2.find? fun r => inArray addr (b.1 + r.off) r.count r.stride

/-- The instant at which the register at `addr` is frozen (R8). -/
def freezeOf (addr : Nat) : Freeze :=
  match rowAt addr with
  | some r => r.freeze
  | none => .never

end Sys2Proof.Machine
end

