-- ==== Sys2Proof/Machine/State.lean ====
section
/-! DEFINITION. The state of the module: three lanes, three drive stages, two guardians, and the queue of waiting
commands. Whatever the spec gives a register has its home in a lane's register file (`LaneSt.regs`, addresses and
fields of Machine/RegMap.lean); everything else the chapters give a lane, a stage or a guardian is a named field. -/
namespace Sys2Proof.Machine

/-! ## Faults and refusals of the model -/

/-- Why a step can stop the model. The module has no such stop: what the spec calls a fault is state of the fault
collector (R289 to R311), and a bus error is taken by the core (R31). `bug` is raised by no meaning; the type only
keeps the host's interface non-empty, and is safe. -/
inductive Fault where
  | bug
deriving DecidableEq, Repr

/-- Why a step can be refused. `notModelled` is raised by an arm of `exec` for a command that has no meaning yet,
under its mnemonic; it is safe. -/
inductive Refusal where
  | notModelled (mnemonic : String)
deriving DecidableEq, Repr

/-- Sparse storage in canonical form: addresses strictly rising, no entry equal to what an unlisted address reads. -/
abbrev Cells (α : Type) := List (Nat × α)

/-! ## Fault collector (12) -/

/-- The fault collector's state beyond its registers. -/
structure FcSt where
  /-- Under L3 (R296): from an L3 reaction until the lane is CHECKED again. -/
  under3 : Bool
  /-- Held SILENT until the next start (R296). -/
  hold : Bool
  /-- SILENT after 0x0E06, waiting for R296's cool second. -/
  thermal : Bool
  /-- An L3 reaction makes the lane SILENT at the next slot start (R295). -/
  silentNext : Bool
  /-- Core, Shepherd and engines reset once the fault record is written (R131, R295). -/
  resetDue : Bool
  /-- FC interrupt to the control core, raised at the next slot start (R295). -/
  irq : Bool
  /-- Claims held at 0 by R460: class, and mask of stages, until the class is acknowledged. -/
  withdraw : List (Nat × Nat)
  /-- Consequence masks whose reaction has ended: bit of FC_SHADOW, time at which it closes (R300). -/
  closing : List (Nat × Nat)
  /-- Fault records waiting to be written, oldest first, 128 words each (R302). -/
  queue : List (List Word)
  /-- Next place in the ring of 1,024 records (R301). -/
  nextRec : Nat
  /-- Sources whose line failed and reads as fault until the next start (R290). -/
  stuck : List (BitVec 16)
  /-- What the lane drives on its inter-lane fault line: 0 normal, 1 lane failed, 2 wake failure (R291). -/
  line : Nat
  /-- FAULT_x conducts (R45). -/
  faultX : Bool
  /-- The Shepherd's log of events at L1 and above: source, level, time, newest first (R295); how many of them are in the log region
  of the data region, and the next place in it (R96). -/
  log : List (BitVec 16 × Nat × Nat)
  logDone : Nat
  nextLog : Nat
deriving DecidableEq, Repr

/-! ## Supplies and module states (02, 03, 04) -/

/-- The lane's supply and hold-up state. -/
structure PwrSt where
  /-- SUP_x lost, running from hold-up (R52, R54). -/
  lost : Bool
  /-- Time of detection, ns. -/
  lostAt : Nat
  /-- Claims and frames wait for the stage to report READY after R53. -/
  returning : Bool
  /-- GND_x more than 1.0 V from the star point (R37). -/
  gndLost : Bool
  /-- SUP_x above 57.0 V (R38). -/
  overvolt : Bool
  /-- SNS5_x on (R43). -/
  sns5 : Bool
  /-- AUX_x driver supplied (R51). -/
  auxOn : Bool
  /-- Last SUP_x voltage told to the lane, mV. -/
  supMv : Int
  /-- Regulator enabled and ready (R83). -/
  regulator : Bool
  /-- The wake-failure flag of the always-on domain (R85). -/
  wakeFail : Bool
  /-- A supply loss in PARK, recorded in the always-on domain (R55). The spec gives the record no place in the retention SRAM and no
  form: the model's is this flag, which no address shows (log entry 103, DESIGN CHOICE). -/
  parkLoss : Bool
deriving DecidableEq, Repr

/-- What the lane is doing between OFF or PARK and STANDBY. -/
inductive BootPhase where
  | none | wake | woken | romRecovery
deriving DecidableEq, Repr

/-- The state controller beyond the SYS registers. -/
structure SysSt where
  /-- Requested target that the lane carries in its rounds and that is not yet agreed (R59, R60). -/
  want : Option Nat
  /-- FOLD carried as target (R61). -/
  fold : Bool
  /-- Time the transition in flight started, and that of its first handshake round (R62, R66). -/
  started : Nat
  /-- Time of each block's first DELAY in this handshake, and the blocks past their declared delay, which answer REFUSE (R66). -/
  delayAt : List (Nat × Nat)
  exceeded : List Nat
  /-- The lane's answers of this slot, one for each block (1 ACCEPT, 2 DELAY, 3 REFUSE, with its reason), and the precondition of R63
  that does not hold in it, as they travel with its message (R59, R65; log entry 101). -/
  said : List (Nat × Nat)
  saidWhy : Nat
  /-- Block of a step of R64 that failed in this lane (R64). -/
  stepFail : Option Nat
  /-- Target that a round agreed on while this lane did not carry it, and the time (R60). -/
  recent : Option (Nat × Nat)
  /-- Steps of R64 completed: bit 0 bias, 1 self-test, 2 open-wire test, 3 offset calibration, 4 SP detection. -/
  armDone : BitVec 5
  /-- A clock or bias change waits for the bias to settle; the core frequency that follows (R79). -/
  freqNext : Option Nat
  /-- Start-up phase. -/
  boot : BootPhase
  /-- Attempts at starting the regulator in this wake (R85). -/
  tries : Nat
  /-- Time of PARK entry (R81). -/
  parkAt : Nat
  /-- The FOLD-entry reaction has run (R61). -/
  folded : Bool
  /-- Fast-task interrupt pending at the control core (R24). -/
  fastIrq : Bool
  /-- Fault collector's interrupt pending at the control core (R295). -/
  fcIrq : Bool
  /-- Interrupt of the slow task or a block, pending at the core: cause numbers. -/
  irqs : List Nat
  /-- RWS fields written since the cold boot, which the first write locked: address and lowest bit (R5). -/
  locks : List (Nat × Nat)
deriving DecidableEq, Repr

/-- State of a firmware bank (R93). -/
inductive BankState where
  | empty | trial | committed | rejected
deriving DecidableEq, Repr

/-- A bank control record (R93), and the facts FW_VERIFY established about what the bank holds. -/
structure Bank where
  state : BankState
  seq : Nat
  svn : Nat
  len : Nat
  verified : Bool
  digest : List Word
deriving DecidableEq, Repr

/-- A Malxa slot record (R102): written last in a commit. -/
structure SlotRec where
  seq : Nat
  digest : List Word
deriving DecidableEq, Repr

/-- A Malxa slot beside its bytes and its record in the data region (R96, R101): what verifying its content gave (R98), and the length
that IMG_BEGIN gave. -/
structure Slot where
  facts : Option ImgFacts
  len : Nat
deriving DecidableEq, Repr

/-- Non-volatile items of a lane outside its memory map: banks, slots, key store, Tally (R93 to R105, R415). -/
structure NvmSt where
  bankA : Bank
  bankB : Bank
  /-- Bank B runs. -/
  runB : Bool
  /-- The running bank was booted as a trial and is not yet committed (R94, R403). -/
  trial : Bool
  /-- Rollback counter (R93). -/
  rollback : Nat
  slot0 : Slot
  slot1 : Slot
  /-- The slot chosen at this start, if any (R101). -/
  chosen : Option Bool
  /-- The image in force is settled, and there is one (R101). -/
  inForce : Bool
  /-- The check of R101 against the voting lanes: rounds of CONFIG still to compare, words 0 that differed, and the flag that the
  lane started together with others. -/
  checkLeft : Nat
  checkBad : Nat
  together : Bool
  /-- Tally: number of entries so far, LINK of the last one, ANCHOR (R105). -/
  tallySeq : Nat
  tallyLink : List (BitVec 8)
  anchor : List (BitVec 8)
  /-- Password failures in this boot (R104). -/
  pwFails : Nat
  /-- Learned calibration stored: angle harmonics and zero (R217), map corrections (R242). -/
  calCoef : List Int
  calZero : Option Nat
  /-- Map corrections stored: address in TMAP, word; the digest of the MAPS group that they correct (R240). -/
  overlay : List (Nat × Word)
  mapsDig : List Byte
  /-- In-field offsets stored in the learned-calibration region, index 6s + 2k + c, 2^-16 A (R191). -/
  ofs : List Int
deriving DecidableEq, Repr

/-! ## Agreement (06) -/

/-- A round held in history (R158). -/
structure Round where
  seq : Nat
  valid : BitVec 48
  vec : List Word
deriving DecidableEq, Repr

/-- The agreement unit beyond its registers. -/
structure AgrSt where
  /-- Message sent in sub-round 1 of this slot. -/
  own : Option AgrMsg
  /-- Verified direct and relayed copies of this round, by sender (R145). -/
  direct : Tri (Option AgrMsg)
  relayed : Tri (Option AgrMsg)
  /-- Direct messages received in time, whatever their tag, and those this lane relayed in sub-round 2, by sender (R144). -/
  heard : Tri (Option AgrMsg)
  sent : Tri (Option AgrMsg)
  /-- First round after this lane's start (R101, R146). -/
  first : Bool
  /-- Lanes excluded as odd until they send RESYNC (R150). -/
  odd : Tri Bool
  /-- Lanes treated as SILENT after two missing rounds (R154). -/
  gone : Tri Bool
  /-- Consecutive rounds of command disagreement, of a differing target, and missing, by lane (R149, R154). -/
  disCmd : Tri Nat
  disTgt : Tri Nat
  missed : Tri Nat
  /-- Input fields marked in the last round, by lane, and own fields held invalid (R148). -/
  disIn : Tri (BitVec 48)
  ownInvalid : BitVec 48
  /-- Slot start to which the agreed values belong, ns (R236). -/
  agreedAt : Nat
  /-- Last 64 agreed rounds, newest first (R158). -/
  hist : List Round
  /-- Agreed holder of the Churn token for this basic cycle: 0 none, 1 to 3 (R151). -/
  token : Nat
  /-- Errors on the links AB, BC, CA in this basic cycle. -/
  linkErr : Tri Nat
  /-- The CHURN_READY bits of the slot-0 round (R313). -/
  ready : Tri Bool
  /-- The catch-up frame this lane sends for the slot-2 round (R153), and the copies it has received; none for a copy that does not
  verify. -/
  caught : Option AgrMsg
  catchup : List (Option AgrMsg)
  /-- Winding temperatures of field 7 used in the last round, signed 0.125 degrees C (R41). -/
  ntc : Tri (Option Int)
  /-- Basic cycle in which this lane first sent RESYNC, resync point, packages by sender, receipt of the last, catch-up complete, and
  the packages copied for resyncing lanes (R155, R156). -/
  rsyncSent : Option Nat
  nr : Option Nat
  pkg : Tri (Option Package)
  pkgAt : Nat
  caughtUp : Bool
  copied : Tri (Option Package)
  /-- Times of failed attempts in the last 10 s, and earliest next attempt (R159). -/
  fails : List Nat
  retryAt : Option Nat
  /-- Basic cycles of shadowing left (R155), and this lane's own counts of consecutive rounds while it shadows: commands, target
  (R158). -/
  shadow : Nat
  shadowDis : Nat
  shadowTgt : Nat
  /-- Version ranges, boot counters and lifecycles received at boot, by lane (R108). -/
  ranges : Tri (Option (Nat × Nat))
  boots : Tri (Option Nat)
  lcs : Tri (Option Nat)
  /-- Lanes whose exchange does not verify (R417). -/
  unverified : Tri Bool
  /-- What SEQ counts beyond the slots of global time (R344), and rounds stopped for the rejoin. -/
  seqOfs : Nat
  paused : Bool
  vmin : Nat
  vmax : Nat
deriving DecidableEq, Repr

/-! ## Stages with their arbiters (06, 10, 07) -/

/-- A drive stage: its arbiter, its switches, its latches, and what its converters hand over. -/
structure StageSt where
  /-- STATE of STG_STAT: 0 UNPOWERED to 5 ISOLATING. -/
  st : Nat
  rp : Bool
  iso : Tri Bool
  bootOk : Tri Bool
  vboot : Tri Nat
  vgsRp : Nat
  vgsIso : Nat
  tj : Int
  vdc : Nat
  /-- Faults latched (bit n of R274; bit 15 lockout). -/
  latch : BitVec 16
  /-- Faults that occurred and that the lane's status frames have not yet reported, by lane (R274). -/
  seen : Tri (BitVec 16)
  /-- CLM sources of the arbiter not yet reported, by lane: bit n is source 0x030n (R170). -/
  clmSeen : Tri (BitVec 8)
  /-- CLM_TOL and the PWM period in microticks, as loaded with the image (R167, R22). -/
  tol : Nat
  per : Nat
  lockout : Bool
  /-- Times of short-group latches (R267). -/
  shorts : List Nat
  /-- Last desaturation trip: leg and time (R266). -/
  lastDesat : Option (Leg × Nat)
  clamp : Bool
  clampOff : Bool
  /-- All six off for the rest of the period (R268). -/
  restOff : Bool
  /-- Leg held off this period by R259 to R261. -/
  legOff : Tri Bool
  /-- High side held off this period for want of bootstrap voltage (R261). -/
  highOff : Tri Bool
  /-- Isolation under way, and its start (R273). -/
  isolating : Bool
  /-- The reverse-polarity switch opens once the isolation switches have (R264). -/
  rpDue : Bool
  /-- STO input and lane enable (R269); the rising edge of EN has been taken (R270). -/
  stoIn : Bool
  laneEn : Bool
  enSeen : Bool
  /-- Shunt comparator level, A (R265). -/
  ocLevel : Nat
  /-- Blanking of the normal desaturation level, 25 ns (R265). -/
  blank : Nat
  /-- Start of the energise under way (R262). -/
  energiseAt : Nat
  /-- An EN pulse in ARM or DRIVE has ended while a fault was latched: the edge that clears the latch energises (R270, R272). -/
  pulseAsk : Bool
  /-- Stage supply lost (R52). -/
  supLost : Bool
  /-- Stage supply above 57.0 V: STO (R38). -/
  supHigh : Bool
  /-- Frames received for the coming period, references, and the last valid frame, by lane (R163). -/
  frames : Tri (Option XFrame)
  refs : Tri (Option (Nat × Nat))
  lastGood : Tri (Option XFrame)
  acc : Option Lane
  /-- One period on the last good command has been held, and the current one is (R164). -/
  held : Bool
  holdNow : Bool
  wPrev : Option Lane
  /-- The gate command applied; none: all six off. -/
  cmd : Option GateCmd
  tie : Bool
  unhealthy : Tri Bool
  differ : Tri Nat
  /-- Consecutive periods in which both standbys differ but agree with each other (R168). -/
  flagged : Nat
  /-- Periods since the last handover, for R167. -/
  since : Nat
  handovers : Nat
  okMask : Nat
  noFrame : Nat
  isoRun : Nat
  /-- Senders with an invalid frame not yet reported to them. -/
  badNow : Tri Bool
  /-- Carrier phase, microticks, modulo the period (R257). -/
  phase : Int
  /-- Period number of the results below. -/
  p : Nat
  /-- Leg under an open-wire test step in the period, which its results carry as TEST (R174, R188). -/
  test : Option Leg
  /-- Raw results, window lengths and converters of the period (R174 to R176, R181). -/
  d : Tri (Option Int)
  w : Tri Nat
  conv : Tri Nat
  /-- Event counts modulo 256, and the stage's consecutive-period counts. -/
  stcmd : Nat
  stcmdRun : Nat
  stcmdAt : Option Nat
  bootRun : Tri Nat
  clampEvt : Nat
  rearms : Nat
  /-- Continuous high-side on time of each leg, microticks (R261). -/
  highOn : Tri Nat
  /-- A refresh pulse at this period boundary, by leg (R261). -/
  pulse : Tri Bool
  /-- Active copy of the tested stage logic: false P, true Q; a copy failed (R318). -/
  copyQ : Bool
  copyFail : Bool
  /-- A lane has asked for energising at the end of an EN pulse (R272), or the step of R64 has. -/
  energiseReq : Bool
deriving DecidableEq, Repr

/-! ## Measurement (07) -/

/-- A factory calibration record (R190): g0 in 2^-30, c1 and c2 in 2^-30 per degree and per degree squared. -/
structure CalRec where
  g0 : Int
  c1 : Int
  c2 : Int
deriving DecidableEq, Repr

/-- Open-wire test cycle of one stage in DRIVE (R188). -/
structure OwCycle where
  /-- Start of the cycle, if one runs; next step 0 to 11; result of the + step of the line under test. -/
  start : Option Nat
  step : Nat
  plus : Option (Int × Int)
  missed : Bool
  incomplete : Nat
deriving DecidableEq, Repr

/-- The results of one period of a stage, as the commutation engine takes them (R228): the period, currents in 2^-16 A, no valid stage
result, all-off applied, the command applied. -/
structure PerRes where
  p : Nat
  cur : Tri Int
  bad : Bool
  off : Bool
  applied : Option GateCmd
deriving DecidableEq, Repr

/-- The converter sequencer beyond the MEAS registers. Currents here are in 2^-32 A. -/
structure MeasSt where
  /-- Records of the 18 stage converters, index 6s + 2k + c, and after them of the six general-purpose converters, index 18 + 2 lane + c;
  the stages whose records are not valid (R190). -/
  cal : List CalRec
  calBad : Tri Bool
  /-- Window means of the two previous periods, by stage and leg (R181). -/
  mean1 : Tri (Tri (Option Int))
  mean2 : Tri (Tri (Option Int))
  /-- Consecutive periods without a valid status frame, by stage (R175). -/
  lost : Tri Nat
  /-- Frame errors of each stage in this basic cycle, refresh pulses in it (CLM_LINKERR, STG_CNT). -/
  linkErr : Tri Nat
  refresh : Tri Nat
  /-- Stage supplies reported lost (R299, 0x0505). -/
  supLost : Tri Bool
  /-- Stages whose status shows a failed copy of their logic (R318). -/
  copyFail : Tri Bool
  kirchRun : Tri Nat
  novalidRun : Tri Nat
  satRun : Tri (Tri Bool)
  lineFault : Tri (Tri Bool)
  /-- The stage's last reported command is all-off (R184). -/
  allOff : Tri Bool
  /-- The results of the last four periods of each stage, newest first (R228). -/
  res : Tri (List PerRes)
  /-- Stages removed from service since the transition to ARM began (R185). -/
  removed : Tri Bool
  /-- Offset calibration: results received per converter since it began, newest first, at most 128 (R191). -/
  ofsWin : List (List Int)
  ow : Tri OwCycle
  /-- General-purpose inputs: last conversion by G0, by G1, and consecutive differences (R193, R194). -/
  g0 : List (Option Int)
  g1 : List (Option Int)
  diffs : List Nat
  g0Bad : Bool
  g1Bad : Bool
  /-- The inputs whose value in MEAS_GP G1 made (R194). -/
  byG1 : List Bool
  /-- NTC_x is classified open or shorted (R41). -/
  ntcBad : Bool
  /-- The lane's slot count (R193). -/
  slot : Nat
deriving DecidableEq, Repr

/-! ## Position (08) -/

/-- One recorded edge (R200, R205). -/
structure EdgeRec where
  t : Nat
  dir : Int
deriving DecidableEq, Repr

/-- Speed record of an edge source (R205): newest edges first, run length, direction, time of the last edge. -/
structure SpdRec where
  edges : List EdgeRec
  run : Nat
  dir : Int
  last : Nat
  /-- Edges in the current slot, and the last edge before it. -/
  slotN : Nat
  tRef : Nat
deriving DecidableEq, Repr

/-- State of an SP port's frame checks (R219, R109). -/
structure SpPort where
  bad : Nat
  good : Nat
  lastAt : Nat
  /-- Frames seen towards detection (R109), SENT or PSI5 in a row; the mode detected, 0 none yet; PSI5 supply applied. -/
  det : Nat
  found : Nat
  psi5On : Bool
  /-- Invalid until three valid frames in a row (R219). -/
  out : Bool
  /-- Detected or fixed mode in use, sent in field 4 (R109): 0 none, 1 SENT, 2 and 3 PSI5. -/
  mode : Nat
  /-- Rate of the last frame: the tick in ns (SENT), the bit rate in kbit/s (PSI5). -/
  rate : Nat
deriving DecidableEq, Repr

/-- A sample of a revolution of self-calibration (R217): time, raw angle, extended TMR count, encoder angle (2^-32 rev), magnitude of
the speed (2^-16 rev/s), and whether the encoder is in fusion. -/
structure RevSample where
  t : Nat
  raw : Nat
  ext : Int
  enc : Int
  spd : Nat
  fused : Bool
deriving DecidableEq, Repr

/-- The position front end and the feedback engine beyond the POS registers. -/
structure PosSt where
  /-- Last levels of encoder lines A and B. -/
  encA : Bool
  encB : Bool
  /-- Edge records (R205). -/
  enc : SpdRec
  hall : SpdRec
  encValid : Bool
  encBarred : Bool
  sigLoss : Bool
  /-- Encoder excluded from fusion until the next ARM (R215), samples beyond LIM in a row. -/
  excluded : Bool
  apart : Nat
  inFusion : Bool
  /-- Encoder counts since lane start without wrapping, and the value at the last index (R209). -/
  encTotal : Int
  idxAt : Option Int
  /-- Counts of travel since the last quadrature error, if one occurred (R210). -/
  qTravel : Option Nat
  /-- Net wraps of each counter since the last extension snapshot; snapshot requested (R203). -/
  wraps : Tri Int
  snapReq : Bool
  /-- Hall: valid, consecutive invalid evaluations, legal transitions in a row, skips in the last six (R211, R212). -/
  hallValid : Bool
  hallBad : Nat
  hallGood : Nat
  hallSkips : List Bool
  /-- A valid pattern has been seen since the start. -/
  hallInit : Bool
  /-- Angle sensor: valid, samples out of range and in range in a row; a first sample was taken (R213, R202). -/
  tmrValid : Bool
  tmrBad : Nat
  tmrGood : Nat
  tmrSeen : Bool
  /-- Extended counts of ENC and HALL (R203, R204). -/
  encExt : Int
  hallExt : Int
  /-- Time of the last sample, its raw angle, and its calibrated angle, 2^-32 rev. -/
  tmrAt : Nat
  tmrRaw : Nat
  thCal : Nat
  /-- Extended TMR counts at the last slot starts, newest first, at most 9 (R207). -/
  tmrExt : Int
  tmrHist : List Int
  /-- Offset between the encoder angle and the calibrated angle, 2^-32 rev (R214), and the learned zero. -/
  ofs : Nat
  zero : Option Nat
  /-- Self-calibration (R217, R218): the samples of the revolution under way, newest first; the first error with the encoder as
  reference, from which the others count; sum (2^-32 rev) and count of each of the 256 bins; result waiting to be applied. -/
  rev : List RevSample
  calBase : Int
  bins : List (Int × Nat)
  calWait : Option (List Int × Option Nat)
  sp1 : SpPort
  sp2 : SpPort
  ssiBad : Nat
  ssiGood : Nat
  ssiOut : Bool
  /-- Time of the last valid SSI value, and its age at the last slot start, ns (R201). -/
  ssiAt : Nat
  ssiAge : Nat
deriving DecidableEq, Repr

/-! ## Commutation (09) -/

/-- A transfer in progress (R231); angles and span in 1/65,536 sector and 2^-16 rev. -/
structure Transfer where
  centre : Int
  span : Nat
  profile : Nat
  sigma : Int
  into : Nat
  accOut : Int
  accIn : Int
  /-- Duties of the outgoing and the incoming leg in the last period. -/
  dOut : Int
  dIn : Int
  x : Int
deriving DecidableEq, Repr

/-- A flying start (R248): start time, ramped reference (2^-32 A). -/
structure Flying where
  since : Nat
  ramp : Nat
deriving DecidableEq, Repr

/-- One stage as a lane's commutation engine sees it. Volts in 2^-32, amperes and duties in 2^-16. -/
structure ComStg where
  acc : Int
  duty : Nat
  transfer : Option Transfer
  emf : Int
  ih : Option Int
  /-- Results that the period computed uses; valley to which the observer's angle belongs, ns. -/
  now : PerRes
  obsAt : Nat
  /-- Residual of the last period, if it had one, periods above and below THR in a row (R245). -/
  resid : Option Nat
  overRun : Nat
  underRun : Nat
  /-- Coasting: electrical angle travelled since t0, 2^-16 rev; locked speed, 0.1 Hz (R246). -/
  coast : Option Nat
  coastSpeed : Int
  floatAt : Option Nat
  capture : Bool
  crossings : Nat
  /-- Held all-off by 0x0712 until the next ARM, by 0x0713 until MODE is written (R246, R248). -/
  barredArm : Bool
  barredMode : Bool
  fly : Option Flying
  /-- Line-to-line back-EMF amplitude that the phase-voltage comparators last told, 0.1 V (R247). -/
  bemf : Nat
  /-- DTC flux (R250). -/
  psiA : Int
  psiB : Int
  /-- Gate command computed for the next period, none for all-off; the cross-strap frame formed for that period (R163). -/
  cmd : Option GateCmd
  frame : Option XFrame
  /-- Intervals of the last 10 s in which the reference exceeded 25 A, newest first, ns (R225). -/
  peakRuns : List (Nat × Nat)
  lastMode : Nat
  /-- Observer disturbance of the period, 2^-16 A, for Graze. -/
  dist : Int
  /-- Angle at the last valley computed, 2^-16 rev (R246). -/
  theta : Int
  /-- Comparator outputs of direct torque control (R250), and the slot in which 0x0D20 was raised (R249). -/
  dtcT : Int
  dtcF : Bool
  dtcAt : Option Nat
deriving DecidableEq, Repr

/-- A map-learning run (R241, R242). -/
structure Learn where
  at_ : Nat
  running : Bool
  jc : Nat
  tc : Nat
  icmd : List Int
  prevV : Option Int
  lastW : Option Nat
  acc : List Int
  cnt : List Nat
  revMean : Option Int
  revSum : Int
  revCnt : Nat
  done : Bool
deriving DecidableEq, Repr

/-- Values of the MOTOR group that no register holds (R456, R457): limits in degrees C, thermal resistance in mK/W and
capacity in mJ/K. -/
structure Motor where
  tWarn : Int
  tTrip : Int
  rth : Nat
  cth : Nat
  /-- B constant of the thermistors, K (R41). -/
  beta : Nat
deriving DecidableEq, Repr

/-- The commutation engine beyond the COM registers. -/
structure ComSt where
  /-- Commands posted in this slot, words posted in the previous slot (sent in agreement), words in force (R223). -/
  posted : Bool
  /-- The last slot's deadline was missed (R25). -/
  late : Bool
  words : List Word
  sent : List Word
  /-- Words of the last posting; and the last two postings, newest first, with the time from which a period that starts takes them
  (R24). -/
  next : List Word
  posts : List (Nat × List Word)
  stg : Tri ComStg
  learn : Option Learn
  /-- Learned entries not yet in MRAM: TMAP address and word (R242). -/
  pending : List (Nat × Word)
  /-- Graze: last 128 samples, newest first; high-pass state (R252). -/
  graze : List Int
  grazeHp : Int
  grazeIn : Int
  grazeSeq : Nat
  /-- Sum of the disturbance estimates of this basic cycle. -/
  distSum : Int
  /-- T_W by stage, 2^-16 degrees C, and whether the winding model gives it (R41, R457). -/
  tw : Tri Int
  twModel : Tri Bool
  motor : Motor
  /-- Stage die above 140 degrees C, winding above T_WARN (R455, R456). -/
  tjHot : Tri Bool
  twHot : Tri Bool
  /-- Stage die Tj at the slot start; since when the die is above 150 degrees C and the winding above T_TRIP (R299, R455, R456). -/
  tjSlot : Tri Int
  tjOver : Tri (Option Nat)
  twOver : Tri (Option Nat)
deriving DecidableEq, Repr

/-! ## Safe stop (11) -/

/-- Who asked for an SS1 (R276). -/
inductive StopSrc where
  | app | mbx | fold
deriving DecidableEq, Repr

/-- An SS1 in progress on a stage (R280): source, effect time, speed then, slots at standstill. -/
structure Ss1 where
  src : StopSrc
  t0 : Nat
  v0 : Int
  still : Nat
deriving DecidableEq, Repr

/-- Safe stops of one lane beyond the SAFE registers, by stage (R276). -/
structure SafeSt where
  app : Tri Bool
  mbx : Tri Bool
  viol : Tri Bool
  fold : Tri Bool
  /-- FOLD was entered from an unresolved conflict of two lanes (R283). -/
  lone : Bool
  ss1 : Tri (Option Ss1)
  /-- SS1 requests waiting for a vote completion (R280): source and stages. -/
  ss1Req : List (StopSrc × BitVec 3)
  /-- STO_x filter counter, ns, since when the line has had its level, and that level (R279). -/
  filter : Nat
  lineSince : Nat
  high : Bool
  /-- The reset that is pending has acted (R285). -/
  acted : Bool
  /-- SAFE_ACK_x: an edge that met its low time waits to be qualified; start of the lane (R284). -/
  ackEdge : Option Nat
  laneStart : Nat
  pendAt : Nat
  /-- STATE bits [11:8] of each lane, as last used (R278). -/
  view : Tri (BitVec 4)
  /-- Mailbox reset armed: challenge, session, time (R284). -/
  armed : Option (BitVec 16 × Word × Nat)
  /-- Stage interface: EN sent, periods of an EN pulse left, frame SEQ (R163, R271). -/
  en : Tri Bool
  pulse : Tri Nat
  seq : Tri Nat
deriving DecidableEq, Repr

/-! ## Churn (13) -/

/-- The Churn controller beyond the CHN registers. -/
structure ChnSt where
  /-- A slice is due or in progress in this slot 2 (R69, R315). -/
  active : Bool
  /-- Basic cycle in which a slice was aborted (R314). -/
  aborted : Option Nat
  /-- Slot-count and partition of the last slice (R312). -/
  sliced : Option (Nat × Nat)
  /-- Segments passed, and those with a first mismatch, in the current cycle: a mask for each partition (R321, R322). -/
  passed : List Nat
  missed : List Nat
  /-- Start of the current cycle. -/
  since : Nat
  /-- Stage units: the unit assigned to each stage, the stage whose unit goes next, and the spare's segments passed since it became
  the spare, for partitions 2 and 3 (R317). -/
  units2 : Tri Nat
  units3 : Tri Nat
  next2 : Nat
  next3 : Nat
  done2 : Nat
  done3 : Nat
  /-- Segments of the idle stage copies passed since the last swap: own stage, stage taken over (R318). -/
  copyOwn : Nat
  copyTk : Nat
  /-- CHN_CYCLE.CYCLES at the start of the lane (R403). -/
  cyc0 : Nat
deriving DecidableEq, Repr

/-- Churn at reset. -/
def ChnSt.reset : ChnSt :=
  { active := false, aborted := none, sliced := none, passed := List.replicate 8 0, missed := List.replicate 8 0, since := 0
    units2 := ⟨0, 1, 2⟩, units3 := ⟨0, 1, 2⟩, next2 := 0, next3 := 0, done2 := 0, done3 := 0, copyOwn := 0, copyTk := 0, cyc0 := 0 }

/-! ## Mailboxes (17) -/

/-- A reply of the Shepherd (R389 to R391): a NAK carries its code; over CAN it leaves under the lane's response identifier (R394). -/
structure Reply where
  code : Nat
  mbox : Nat
  seq : BitVec 16
  requester : Word
  session : Word
  transport : Transport
  nak : Option Nat
  more : Bool
  payload : List Byte
  tag : BitVec 64
  canId : Nat
deriving DecidableEq, Repr

/-- What a lane keeps of the last request of a requester in a mailbox (R393): its requester key, the request, the bytes of its header
and payload, whether it was a HELLO, and its final reply. -/
structure SeqRec where
  key : Nat
  req : Req
  msg : List Byte
  hello : Bool
  reply : Option Reply
deriving DecidableEq, Repr

/-- The module-addressed commands with their arguments (R400). -/
inductive ModCmd where
  | reqState (target : BitVec 3)
  | safeStop (mask : BitVec 3) (ss1 : Bool)
  | resetArm
  | resetConfirm (challenge : BitVec 16) (stoHigh : Bool)
  | imgCommit (digest : List Word) (f : ImgFacts)
  | learnStart (n : Nat)
  | calSave
  | fcAck (classes : BitVec 16) (rearm : Bool)
  | fwTrial (digest : List Word)
  | fwCommit
  | lifecycle (op : Nat) (a : LcArgs)
deriving DecidableEq, Repr

/-- A module-addressed command a lane holds (R397, R398): time of receipt, DIGEST, whether it is confirmed, and, once it has
acted, SYS_TRANS_STAT.SEQ from before. -/
structure Held where
  req : Req
  code : Nat
  cmd : ModCmd
  at_ : Nat
  digest : BitVec 16
  confirmed : Bool
  named : Bool
  before : Nat
deriving DecidableEq, Repr

/-- A running tap (R401): a Skim stream, or Graze; decimation, end, deliveries, and the basic cycle of the last. -/
structure Tap where
  req : Req
  code : Nat
  stream : Option Nat
  dec : Nat
  endAt : Nat
  count : Nat
  last : Nat
deriving DecidableEq, Repr

/-- A CROOK (R404, R405): receipt of the first that named each function, and how each ended: 0 not yet, 1 orderly, 2 forced. -/
structure CrookSt where
  req : Req
  at_ : Nat
  mbxAt : Option Nat
  auxAt : Option Nat
  mbxDone : Nat
  auxDone : Nat
deriving DecidableEq, Repr

/-- The Shepherd's mailboxes beyond the MBX registers. -/
structure MbxSt where
  /-- Replies that the last command made the lane send, and those waiting to become visible in MBX_RPL (R410). -/
  out : List Reply
  inner : List Reply
  seqs : List SeqRec
  /-- Module-addressed commands not yet acted on, oldest first; those that acted and wait for their result (REQ_STATE). -/
  waiting : List Held
  asked : List Held
  taps : List Tap
  /-- A Malxa or firmware commit in progress: past its checks, its last write due (R102, R403). -/
  commit : Option Held
  /-- A load begun: Malxa slot, firmware bank (false the lower one). -/
  img : Option Bool
  fw : Option Bool
  /-- Violations of the last second and requests of the last 100 ms by requester key; quarantined keys and their release. -/
  viols : List (Nat × Nat)
  rates : List (Nat × Nat)
  quar : List (Nat × Nat)
  /-- Messages whose segments are still arriving: transport key, number of the message, first segment's time, segments missing (R394). -/
  segs : List (Nat × Nat × Nat × Nat)
  /-- The session's roles, password and last command (R104, R422); it ends with the reply to REQ_STATE (R396). -/
  roles : BitVec 16
  pwOk : Bool
  lastCmd : Nat
  endDue : Bool
  /-- Identifier and key of an ended session of which a request is still in progress (R396). -/
  ended : List (Word × List Byte)
  /-- NONCEs of the last 64 HELLOs accepted (R421). -/
  nonces : List (List Byte)
  /-- DIGEST carried in this slot's message. -/
  carried : Option (BitVec 16)
  crook : Option CrookSt
  /-- MUTE hosts of the FLOCK group (R390). -/
  hosts : List Nat
deriving DecidableEq, Repr

/-- Mailboxes at reset. -/
def MbxSt.reset : MbxSt :=
  { out := [], inner := [], seqs := [], waiting := [], asked := [], taps := [], commit := none, img := none, fw := none
    viols := [], rates := [], quar := [], segs := [], roles := 0, pwOk := false, lastCmd := 0, endDue := false, ended := []
    nonces := [], carried := none, crook := none, hosts := [] }

/-! ## Security (18) -/

/-- An outstanding unlock challenge (R429): session, level, time, its 32 bytes. -/
structure Challenge where
  session : Word
  level : Nat
  at_ : Nat
  bytes : List Byte
deriving DecidableEq, Repr

/-- The secret and private items of the key store, as bytes; an empty list is an empty slot (R415). The pair keys are those with the
other lane of the lower and of the higher letter (R417). -/
structure KeyStore where
  pk : List Byte
  msk : List Byte
  pmkLo : List Byte
  pmkHi : List Byte
  lpkLo : List Byte
  lpkHi : List Byte
  group : List Byte
  owner : List Byte
  pwSalt : List Byte
  pwHash : List Byte
  hmk : List Byte
  sk : List Byte
deriving DecidableEq, Repr

/-- An empty key store. -/
def KeyStore.reset : KeyStore :=
  { pk := [], msk := [], pmkLo := [], pmkHi := [], lpkLo := [], lpkHi := [], group := [], owner := [], pwSalt := [], pwHash := []
    hmk := [], sk := [] }

/-- The security block beyond the SEC registers. -/
structure SecSt where
  keys : KeyStore
  /-- An erasure that started at once runs until then (R416, R426). -/
  eraseEnd : Nat
  /-- FIELD and SERVICE fuses blown, of seventeen (R412). -/
  fuses : Nat
  /-- Owner public key loaded under slot 1, until TAKEOVER makes it the owner key (R412, R418). -/
  ownerNext : List Byte
  challenge : Option Challenge
  /-- Measurements 0 to 4, taken at boot (R419). -/
  meas : List (List Byte)
deriving DecidableEq, Repr

/-- Security at reset. -/
def SecSt.reset : SecSt := { keys := .reset, eraseEnd := 0, fuses := 0, ownerNext := [], challenge := none, meas := [] }

/-! ## Auxiliary axes (19) -/

/-- What the axis does: a ramp to a target, a deceleration to rest, or a phase 1 to 4 of homing (R436, R442). -/
inductive AuxRun where
  | idle | move | stopping
  | home (phase : Nat)
deriving DecidableEq, Repr

/-- A command that waits for the planner: MOVE to a target, HOME given at a time (R437). -/
inductive AuxWish where
  | move (goal : Int)
  | home (t : Nat)
deriving DecidableEq, Repr

/-- The Drover axis beyond the AUX registers. -/
structure AuxSt where
  run : AuxRun
  /-- Velocity in 1/625 microstep per second, signed: one step of ACCEL per planner period is one unit. -/
  v : Int
  /-- Target of the ramp, and whether the axis stands on its target. -/
  goal : Int
  onGoal : Bool
  /-- Stop at the next microstep; the coils then take HOLD (R444). -/
  halt : Bool
  haltHold : Bool
  /-- The command that the planner takes at its next period, and whether a STOP or HARDSTOP came in this one (R437). -/
  wish : Option AuxWish
  stopped : Bool
  /-- When the axis came to rest (R439). -/
  restAt : Nat
  /-- Microsteps of the last 2 ms, newest first: time, and the position that the step left (R442). -/
  steps : List (Nat × Int)
  /-- Active microstep table, none for the default table; table that becomes active at the next full step (R435). -/
  table : Option (List Nat)
  nextTable : Option (List Nat)
  /-- Mode that the driver takes at the next full step: strong (R438). -/
  nextStrong : Option Bool
  /-- Homing: start of HOME, start position, capture of phase 4 (R442). -/
  homeAt : Nat
  homeFrom : Int
  p2 : Int
  /-- Times of the debounced transitions of the two limit inputs, newest first (R441). -/
  moves1 : List Nat
  moves2 : List Nat
  /-- Coil currents in mA and, in quiet mode, coil voltages in microvolts (R434, R438). -/
  ia : Int
  ib : Int
  va : Int
  vb : Int
  /-- Position and reference state held through PARK (R444). -/
  parked : Option (Nat × Nat)
deriving DecidableEq, Repr

/-- The axis at reset: at standstill, the default table active. -/
def AuxSt.reset : AuxSt :=
  { run := .idle, v := 0, goal := 0, onGoal := true, halt := false, haltHold := false, wish := none, stopped := false, restAt := 0, steps := []
    table := none
    nextTable := none, nextStrong := none, homeAt := 0, homeFrom := 0, p2 := 0, moves1 := [], moves2 := []
    ia := 0, ib := 0, va := 0, vb := 0, parked := none }

/-! ## Checked cores (05) -/

/-- A core: the lead's registers and Lamb's, which hold their complements (R113, R114). Registers not listed hold 0 in the
lead and all ones in Lamb. -/
structure Hart where
  pc : Word
  npc : Word
  x : Cells Word
  nx : Cells Word
  f : Cells Word
  nf : Cells Word
  csr : Cells Word
  ncsr : Cells Word
deriving DecidableEq, Repr

/-- A core at reset. -/
def Hart.reset : Hart := { pc := 0, npc := 0xFFFFFFFF, x := [], nx := [], f := [], nf := [], csr := [], ncsr := [] }

/-- Hart 2 of split mode at reset: its mhartid is 1 (R132). -/
def Hart.second : Hart := { Hart.reset with csr := [(0xF14, 1#32)] }

/-- An entry of the load-value queue (R118): address, bytes, raw data. -/
structure LvqEntry where
  addr : Word
  size : Nat
  data : Word
deriving DecidableEq, Repr

/-- The control core, the Shepherd core and their debug (R110 to R139). -/
structure CoreSt where
  cpu : Hart
  /-- Hart 2 of split mode, on true values: the lead's fields of `Hart` are its registers (R132). -/
  cpu2 : Hart
  shep : Hart
  /-- Load-value queue and store compare buffer, oldest first. -/
  lvq : List LvqEntry
  scb : List LvqEntry
  /-- Halted after a mismatch, until the core reset (R130, R131). -/
  halted : Bool
  /-- The halt was a mismatch: LAST_MIS is set by the reset. -/
  mismatch : Bool
  /-- Halted by the debugger (R136). -/
  debug : Bool
  /-- A halt waits until no arbiter has the lane accepted (R431). -/
  haltDue : Bool
  /-- Debug journal, oldest first (R137). -/
  journal : List (DbgReg × Word)
  /-- Reservation of LR (R123). -/
  resv : Option Nat
  resv2 : Option Nat
  /-- Entry points of the application and of hart 2, from the application header (R132). -/
  entry : Word
  entry2 : Word
  /-- Instructions retired, and highest occupancies, in this basic cycle (DBG_PERF, DBG_CHK_STAT). -/
  retired : Nat
  lvqHigh : Nat
  scbHigh : Nat
  instret : Nat
  instret2 : Nat
  /-- Stall cycles in this basic cycle (DBG_STALL). -/
  stalled : Nat
  /-- The debug module (R135): data of the last abstract read, cmderr, data of the last System Bus Access read, sberror. -/
  data0 : Word
  cmderr : Nat
  sbdata : Word
  sberror : Nat
deriving DecidableEq, Repr

/-- Cores at reset. -/
def CoreSt.reset : CoreSt :=
  { cpu := .reset, cpu2 := .second, shep := .reset, lvq := [], scb := [], halted := false, mismatch := false, debug := false, haltDue := false, journal := []
    resv := none, resv2 := none, entry := 0, entry2 := 0, retired := 0, lvqHigh := 0, scbHigh := 0, instret := 0, instret2 := 0, stalled := 0
    data0 := 0, cmderr := 0, sbdata := 0, sberror := 0 }

/-! ## Flock: time keepers, lanes' engines and guardians (14, 15) -/

/-- A time keeper (R325, R340). -/
structure KeeperSt where
  /-- 0 LISTEN, 1 COLDSTART, 2 INTEGRATE, 3 SYNCED, 4 PASSIVE, 5 REJOIN. -/
  st : Nat
  /-- On local time (R326). -/
  onLocal : Bool
  /-- Entry into LISTEN, moved along with every adopted time (R341). -/
  since : Int
  /-- Sender ID adopted from, 0 none; it was a Bellwether; basic cycle of the adoption; adopted from a COLDSTART frame (R343). -/
  leader : Nat
  bell : Bool
  adoptAt : Option Nat
  fromCold : Bool
  /-- Start-up was under way in the frame adopted from. -/
  inStartup : Bool
  /-- Consistent cycles so far; a TX_TIME in this cycle did not fit its window (R343). -/
  good : Nat
  misfit : Bool
  /-- Copies received in this cycle: sender, on channel Y, deviation in ns (R335); the keeper sent its own SYNC. -/
  copies : List (Nat × Bool × Int)
  sentSync : Bool
  /-- Deviations taken and corrections applied, newest cycle first, at most nine cycles (R337). -/
  devs : List (List (Nat × Int))
  applied : List Int
  /-- Correction slewed in this cycle, ns, and rate correction, ppb. -/
  slew : Int
  rate : Int
  /-- Basic cycles in PASSIVE (R345). -/
  passive : Nat
  /-- Its cold start, ns (R342); listens only until its next start after a duplicate ID. -/
  coldAt : Option Nat
  barred : Bool
  /-- 0x0909 for time has been raised (R341). -/
  late : Bool
  /-- Start-up complete; basic cycle in which the keeper became SYNCED (R343); cycle whose corrections have been computed, until its end
  (R337). -/
  done : Bool
  syncAt : Nat
  corrAt : Option Nat
deriving DecidableEq, Repr

/-- A keeper that starts to listen. -/
def KeeperSt.reset : KeeperSt :=
  { st := 0, onLocal := false, since := 0, leader := 0, bell := false, adoptAt := none, fromCold := false, inStartup := false, good := 0
    misfit := false, copies := [], sentSync := false, devs := [], applied := [], slew := 0, rate := 0, passive := 0
    coldAt := none, barred := false, late := false, done := false, syncAt := 0, corrAt := none }

/-- Content of a transmit buffer: payload and time of post; content posted before; not yet sent since the post (R349). -/
structure TxBuf where
  data : List Byte
  postAt : Nat
  prev : List Byte
  unsent : Bool
deriving DecidableEq, Repr

/-- A frame taken for a receive buffer: buffer, basic cycle, channel, payload, SEQ (R348). -/
structure RxGot where
  buf : Nat
  cyc : Nat
  chY : Bool
  seq : Nat
  data : List Byte
deriving DecidableEq, Repr

/-- What the last status words of a guardian told a lane (R368). -/
structure GWord where
  missing : Nat
  apart : Nat
  trunc : Nat
  drops : Nat
  mutes : Nat
  heals : Nat
deriving DecidableEq, Repr

/-- The values of one stage's period that Skim samples: end of the period in ns, then by source code (R369). -/
structure SkimRec where
  stopAt : Nat
  vals : List (Nat × Int)
deriving DecidableEq, Repr

/-- A lane's Flock engine beyond the FLK registers. -/
structure FlkSt where
  keeper : KeeperSt
  /-- Schedule: word `k` of entry `e` of channel `c` at 6,144 c + 2 e + k (R327); its digest (R330). -/
  sched : Cells Word
  digest : BitVec 64
  /-- Valid frames in this basic cycle, by channel. -/
  heardX : Bool
  heardY : Bool
  /-- Basic cycle of the last network SYNC heard on local time (R344). -/
  netAt : Option Nat
  netRun : Nat
  /-- The lanes have stopped their rounds to rejoin: time of the last round (R344). -/
  rejoinAt : Option Nat
  /-- Cycle points: pending, configuration in force in this basic cycle, cycle in which each last fired (R347). -/
  cpiPend : BitVec 16
  cpiCfg : Cells Word
  cpiLast : Cells Nat
  /-- Frames taken in this and the last cycle; those not yet visible. -/
  got : List RxGot
  due : List RxGot
  /-- Transmit buffers by number, and the frame sent last: count, buffer, basic cycle. -/
  tx : List (Nat × TxBuf)
  seq : Nat
  lastTx : Option (Nat × Nat)
  /-- What the lane sent last, a frame for each channel. -/
  wire : List FlockFrame
  /-- Escapes of this basic cycle (R371), period values of each stage. -/
  escapes : Nat
  /-- Transmit buffer of the window that the FLOCK group assigns to Graze, and the spectrum sent last (R253). -/
  grazeBuf : Option Nat
  grazeSent : Nat
  /-- Mailbox traffic, from the FLOCK group: the transmit buffers of the replies, and windows listed for requests in DATA frames
  (R394). -/
  mbxBufs : Word
  mbxWins : List Nat
  hist : Tri (List SkimRec)
  gx : GWord
  gy : GWord
deriving DecidableEq, Repr

/-- No status word yet. -/
def GWord.reset : GWord := { missing := 0, apart := 0, trunc := 0, drops := 0, mutes := 0, heals := 0 }

/-- A lane's Flock engine at reset. -/
def FlkSt.reset : FlkSt :=
  { keeper := .reset, sched := [], digest := 0, heardX := false, heardY := false, netAt := none, netRun := 0, rejoinAt := none
    cpiPend := 0, cpiCfg := [], cpiLast := [], got := [], due := [], tx := [], seq := 0, lastTx := none, wire := []
    escapes := 0, grazeBuf := none, grazeSent := 0, mbxBufs := 0, mbxWins := [], hist := .all [], gx := .reset, gy := .reset }

/-- A ring port of a guardian (R354, R356, R360). -/
structure PortSt where
  link : Bool
  rateLow : Bool
  broken : Bool
  loop : Bool
  blocked : Option Nat
  /-- Earliest retry of the link (R106). -/
  retryAt : Option Nat
  /-- Frames that failed in this basic cycle, and that cycle. -/
  fails : Nat
  failAt : Nat
  /-- PDELAY: outstanding request, exchanges unanswered and answered in a row, last 16 delays in microticks. -/
  req : Option (Nat × Nat)
  missed : Nat
  answered : Nat
  delays : List Nat
deriving DecidableEq, Repr

/-- A satellite port (R366): link and HELLO agreed, version, capabilities, answers missed, drops not yet told, earliest retry (R106),
matrix cycle of the last HELLO. -/
structure SatSt where
  up : Bool
  version : Nat
  caps : BitVec 32
  missed : Nat
  dropped : Nat
  retryAt : Option Nat
  helloAt : Option Nat
deriving DecidableEq, Repr

/-- A frame queued for an egress in an arbitrating window (R361). -/
structure Queued where
  egress : Egress
  frame : FlockFrame
  arrival : Nat
deriving DecidableEq, Repr

/-- A mute (R364): target, mask, matrix cycles, first basic cycle in force, basic cycle at which it ends once in force. -/
structure Mute where
  target : Nat
  mask : Nat
  cycles : Nat
  startAt : Nat
  endAt : Option Nat
deriving DecidableEq, Repr

/-- A source's truncations: sender, last basic cycle, consecutive cycles, basic cycle until which it is blocked (R359). -/
structure TruncRec where
  sender : Nat
  lastAt : Nat
  run : Nat
  blockedTo : Option Nat
deriving DecidableEq, Repr

/-- A guardian (R13, R351 to R368). -/
structure GuardianSt where
  powered : Bool
  keeper : KeeperSt
  time : Nat
  /-- Loaded with the FLOCK and SECPOL groups: schedule, digest, node, design rate, margin, MUTE hosts, windows that the satellites
  are given, satellite capabilities offered. -/
  sched : Cells Word
  digest : BitVec 64
  node : Nat
  rate : Nat
  margin : Nat
  hosts : List Nat
  satWins : List (Nat × Nat)
  offered : BitVec 32
  east : PortSt
  west : PortSt
  /-- Frames held while a loop is set up: the broken port, the frame, its arrival (R354). -/
  held : List (Port × FlockFrame × Nat)
  /-- PSEQ of the last PDELAY request, and the guardian's own frame count. -/
  pseq : Nat
  seq : Nat
  sats : List SatSt
  queue : List Queued
  mutes : List Mute
  truncs : List TruncRec
  /-- Transmissions being forwarded that have not ended at their window's end (R358). -/
  running : List (Src × Nat × Nat)
  trunc : Nat
  drops : Nat
  muteRx : Nat
  heals : Nat
  /-- What the last command made the guardian send, by egress. -/
  out : List (Egress × FlockFrame)
  /-- Wake signalled on its links to the lanes, by lane, and sleep (R82, R87). -/
  waking : Tri Bool
  asleep : Bool
  free : Nat
deriving DecidableEq, Repr

/-- A ring port at reset: up at the design rate. -/
def PortSt.reset : PortSt :=
  { link := true, rateLow := false, broken := false, loop := false, blocked := none, retryAt := none, fails := 0, failAt := 0
    req := none, missed := 0, answered := 0, delays := [] }

/-- A satellite port at reset: without a satellite. -/
def SatSt.reset : SatSt := { up := false, version := 0, caps := 0, missed := 0, dropped := 0, retryAt := none, helloAt := none }

/-- A guardian at reset: powered, listening. -/
def GuardianSt.reset : GuardianSt :=
  { powered := true, keeper := .reset, time := 0, sched := [], digest := 0, node := 0, rate := 2, margin := 300, hosts := []
    satWins := [], offered := 0x1F, east := .reset, west := .reset, held := [], pseq := 0, seq := 0, sats := List.replicate 4 .reset
    queue := [], mutes := [], truncs := [], running := [], trunc := 0, drops := 0, muteRx := 0, heals := 0, out := []
    waking := .all false, asleep := false, free := 0 }

/-! ## CAN (16) -/

/-- A CAN controller beyond its registers. -/
structure CanSt where
  /-- 0 off, 1 detecting, 2 active, 3 listen-only; bus-off and silence apart (R377). -/
  run : Nat
  off : Bool
  recovering : Bool
  /-- End of the silence in ns of global time (R384). -/
  silence : Option Nat
  /-- Rate detection: candidate and error-free frames; data rate candidate and error-free frames (R377). -/
  nominal : Option Nat
  good : Nat
  dataCand : Option Nat
  dataGood : Nat
  /-- Lane start on the lane's time, and whether detection has failed for 1 s since. -/
  startAt : Nat
  failed : Bool
  /-- Buffer of a frame on the bus whose request is aborted (R382). -/
  aborting : Option Nat
  /-- Kinds of violation logged in their last basic cycle (R386). -/
  logged : List (Nat × Nat)
  /-- Identifiers of the mailbox transport: requests, and the lane's responses, 0 for the factory's (R100, R376). -/
  mbxReq : Nat
  mbxRsp : Nat
deriving DecidableEq, Repr

/-- A controller at reset. -/
def CanSt.reset : CanSt :=
  { run := 0, off := false, recovering := false, silence := none, nominal := none, good := 0, dataCand := none, dataGood := 0
    startAt := 0, failed := false, aborting := none, logged := [], mbxReq := 0x6F0, mbxRsp := 0 }

/-! ## The module -/

/-- A lane. -/
structure LaneSt where
  /-- Live values of the registers (R4): the home of every register field. -/
  regs : Cells Word
  /-- Frozen values of the class S registers, as checked code reads them (R8). -/
  snap : Cells Word
  /-- Memory below 0x4000_0000 (R28): MRAM, SRAM and retention SRAM. -/
  mem : Cells Byte
  /-- The Shepherd core's own 256 KiB SRAM (R11), at 0x2000_0000 of its bus (log entry 90). -/
  shepMem : Cells Byte
  /-- The lane's global time, ns (R16). -/
  time : Nat
  fc : FcSt
  pwr : PwrSt
  sys : SysSt
  nvm : NvmSt
  agr : AgrSt
  meas : MeasSt
  pos : PosSt
  com : ComSt
  safe : SafeSt
  chn : ChnSt
  mbx : MbxSt
  sec : SecSt
  aux : AuxSt
  core : CoreSt
  flk : FlkSt
  can1 : CanSt
  can2 : CanSt
  /-- The model's own: how many free values this lane has used. -/
  free : Nat
deriving DecidableEq, Repr

/-- The module: lanes, stages, guardians, and the commands waiting, first in, first out. -/
structure State where
  lanes : Tri LaneSt
  stages : Tri StageSt
  gX : GuardianSt
  gY : GuardianSt
  pending : List Instr
deriving DecidableEq, Repr

/-! ## The module right after reset -/

/-- Fault collector at reset. -/
def FcSt.reset : FcSt :=
  { under3 := false, hold := false, thermal := false, silentNext := false, resetDue := false, irq := false
    withdraw := [], closing := [], queue := [], nextRec := 0, stuck := [], line := 0, faultX := true, log := [], logDone := 0, nextLog := 0 }

/-- Supplies at reset: present, SNS5_x and AUX_x on (R43). -/
def PwrSt.reset : PwrSt :=
  { lost := false, lostAt := 0, returning := false, gndLost := false, overvolt := false, sns5 := true, auxOn := true
    supMv := 48000, regulator := true, wakeFail := false, parkLoss := false }

/-- State controller at reset. -/
def SysSt.reset : SysSt :=
  { want := none, fold := false, started := 0, delayAt := [], exceeded := [], said := [], saidWhy := 0, stepFail := none, recent := none, armDone := 0, freqNext := none, boot := .none
    tries := 0, parkAt := 0, folded := false, fastIrq := false, fcIrq := false, irqs := [], locks := [] }

/-- An empty firmware bank and an empty Malxa slot. -/
def Bank.blank : Bank := { state := .empty, seq := 0, svn := 0, len := 0, verified := false, digest := [] }

/-- An empty Malxa slot. -/
def Slot.blank : Slot := { facts := none, len := 0 }

/-- Non-volatile items of a blank module; bank A holds the running firmware. -/
def NvmSt.reset : NvmSt :=
  { bankA := { Bank.blank with state := .committed, seq := 1, verified := true }, bankB := Bank.blank
    runB := false, trial := false, rollback := 0, slot0 := Slot.blank, slot1 := Slot.blank, chosen := none
    inForce := false, checkLeft := 0, checkBad := 0, together := false, tallySeq := 0, tallyLink := [], anchor := []
    pwFails := 0, calCoef := [], calZero := none, overlay := [], mapsDig := [], ofs := List.replicate 18 0 }

/-- Agreement at reset. -/
def AgrSt.reset : AgrSt :=
  { own := none, direct := .all none, relayed := .all none, heard := .all none, sent := .all none, first := true
    odd := .all false, gone := .all false, disCmd := .all 0, disTgt := .all 0, missed := .all 0
    disIn := .all 0, ownInvalid := 0, agreedAt := 0, hist := [], token := 0, linkErr := .all 0, ready := .all false, caught := none, catchup := []
    ntc := .all none, rsyncSent := none, nr := none, pkg := .all none, pkgAt := 0, caughtUp := false, copied := .all none, fails := []
    retryAt := none, shadow := 0, shadowDis := 0, shadowTgt := 0
    ranges := .all none, boots := .all none, lcs := .all none, unverified := .all false, seqOfs := 0, paused := false, vmin := 1, vmax := 1 }

/-- A stage at reset: powered, de-energised, nothing latched, no lane accepted. -/
def StageSt.reset : StageSt :=
  { st := 1, rp := false, iso := .all false, bootOk := .all false, vboot := .all 0, vgsRp := 0, vgsIso := 0
    tj := 25, vdc := 0, latch := 0, seen := .all 0, clmSeen := .all 0, tol := 80, per := 20000, lockout := false, shorts := [], lastDesat := none
    clamp := false, clampOff := false, restOff := false, legOff := .all false, highOff := .all false, isolating := false, rpDue := false
    stoIn := false, laneEn := false, enSeen := false, ocLevel := 90, blank := 16, energiseAt := 0, pulseAsk := false, supLost := false, supHigh := false, frames := .all none, refs := .all none
    lastGood := .all none, acc := none, held := false, holdNow := false, wPrev := none, cmd := none, tie := false
    unhealthy := .all false, differ := .all 0, flagged := 0, since := 0, handovers := 0, okMask := 0
    noFrame := 0, isoRun := 0, badNow := .all false, phase := 0, p := 0
    test := none, d := .all none, w := .all 0, conv := .all 0
    stcmd := 0, stcmdRun := 0, stcmdAt := none, bootRun := .all 0, clampEvt := 0, rearms := 0
    highOn := .all 0, pulse := .all false, copyQ := false, copyFail := false, energiseReq := false }

/-- An open-wire cycle at reset. -/
def OwCycle.reset : OwCycle := { start := none, step := 0, plus := none, missed := false, incomplete := 0 }

/-- No results of a period. -/
def PerRes.reset : PerRes := { p := 0, cur := .all 0, bad := true, off := true, applied := none }

/-- Measurement at reset. -/
def MeasSt.reset : MeasSt :=
  { cal := List.replicate 24 { g0 := 0x40000000, c1 := 0, c2 := 0 }, calBad := .all false
    mean1 := .all (.all none), mean2 := .all (.all none), lost := .all 0, linkErr := .all 0
    refresh := .all 0, supLost := .all false, copyFail := .all false, kirchRun := .all 0
    novalidRun := .all 0, satRun := .all (.all false), lineFault := .all (.all false), allOff := .all true, res := .all []
    removed := .all false, ofsWin := List.replicate 18 [], ow := .all OwCycle.reset
    g0 := List.replicate 16 none, g1 := List.replicate 16 none, diffs := List.replicate 16 0
    g0Bad := false, g1Bad := false, byG1 := List.replicate 16 false, ntcBad := false, slot := 0 }

/-- A speed record with no edge. -/
def SpdRec.reset : SpdRec := { edges := [], run := 0, dir := 0, last := 0, slotN := 0, tRef := 0 }

/-- An SP port without a mode. -/
def SpPort.reset : SpPort := { bad := 0, good := 0, lastAt := 0, det := 0, found := 0, psi5On := false, out := false, mode := 0, rate := 0 }

/-- Position at reset. -/
def PosSt.reset : PosSt :=
  { encA := false, encB := false, enc := .reset, hall := .reset, encValid := true, encBarred := false
    sigLoss := false, excluded := false, apart := 0, inFusion := false, encTotal := 0, idxAt := none
    qTravel := none, wraps := .all 0, snapReq := false, hallValid := true, hallBad := 0, hallGood := 0
    hallSkips := [], hallInit := false, tmrValid := true, tmrBad := 0, tmrGood := 0, tmrSeen := false, encExt := 0, hallExt := 0, tmrAt := 0, tmrRaw := 0, thCal := 0, tmrExt := 0, tmrHist := []
    ofs := 0, zero := none, rev := [], calBase := 0, bins := List.replicate 256 (0, 0), calWait := none, sp1 := .reset, sp2 := .reset
    ssiBad := 0, ssiGood := 0, ssiOut := false, ssiAt := 0, ssiAge := 0 }

/-- One stage in the commutation engine at reset. -/
def ComStg.reset : ComStg :=
  { acc := 0, duty := 0, transfer := none, emf := 0, ih := none, now := .reset, obsAt := 0, resid := none, overRun := 0, underRun := 0
    coast := none, coastSpeed := 0, floatAt := none, capture := false, crossings := 0, barredArm := false
    barredMode := false, fly := none, bemf := 0, psiA := 0, psiB := 0, cmd := none, frame := none, peakRuns := []
    lastMode := 0, dist := 0, theta := 0, dtcT := 0, dtcF := false, dtcAt := none }

/-- Commutation at reset. -/
def ComSt.reset : ComSt :=
  { posted := false, late := false, words := List.replicate 12 0, sent := List.replicate 12 0, next := List.replicate 12 0, posts := [], stg := .all ComStg.reset
    learn := none, pending := [], graze := [], grazeHp := 0, grazeIn := 0, grazeSeq := 0, distSum := 0
    tw := .all (25 * 65536), twModel := .all false, motor := { tWarn := 200, tTrip := 210, rth := 0, cth := 0, beta := 3300 }
    tjSlot := .all 0, tjOver := .all none, twOver := .all none, tjHot := .all false, twHot := .all false }

/-- Safe stop at reset: the STO latch is set in SAFE_STAT (R279); EN is 0 on every stage. -/
def SafeSt.reset : SafeSt :=
  { app := .all false, mbx := .all false, viol := .all false, fold := .all false, lone := false, ss1 := .all none, ss1Req := []
    filter := 0, lineSince := 0, high := true, acted := false, ackEdge := none, laneStart := 0, pendAt := 0, view := .all 0, armed := none
    en := .all false, pulse := .all 0, seq := .all 0 }

/-- A lane at reset. SYS_ID.LANE is wired: 1, 2 or 3. -/
def LaneSt.reset (id : Nat) : LaneSt :=
  { regs := [(0x40000000, BitVec.ofNat 32 (0x100 + id))], snap := [(0x40000000, BitVec.ofNat 32 (0x100 + id))]
    mem := [], shepMem := [], time := 0, fc := .reset, pwr := .reset, sys := .reset, nvm := .reset, agr := .reset
    meas := .reset, pos := .reset, com := .reset, safe := .reset, chn := .reset, mbx := .reset, sec := .reset, aux := .reset, core := .reset, flk := .reset, can1 := .reset, can2 := .reset, free := 0 }

/-- The module right after reset: every register at the value its table gives, nothing waiting. -/
def State.reset : State :=
  { lanes := ⟨.reset 1, .reset 2, .reset 3⟩, stages := .all .reset, gX := .reset, gY := .reset, pending := [] }

end Sys2Proof.Machine
end

