-- ==== Sys2Proof/Machine/Ops.lean ====
section
/-! DEFINITION. The named operations over registers, memory, lanes and stages. -/
namespace Sys2Proof.Machine

/-! ## Three of a kind -/

/-- Element `i`: 0, 1, or anything above for the third. -/
def nth {α : Type} (x : Tri α) : Nat → α
  | 0 => x.a
  | 1 => x.b
  | _ => x.c

/-- Replace element `i`. -/
def setNth {α : Type} (x : Tri α) (i : Nat) (v : α) : Tri α :=
  match i with
  | 0 => { x with a := v }
  | 1 => { x with b := v }
  | _ => { x with c := v }

/-- Change element `i`. -/
def updNth {α : Type} (x : Tri α) (i : Nat) (f : α → α) : Tri α := setNth x i (f (nth x i))

/-- The three elements in order. -/
def triList {α : Type} (x : Tri α) : List α := [x.a, x.b, x.c]

/-- Lane index: 0 A, 1 B, 2 C. -/
def laneIx : Lane → Nat
  | .A => 0
  | .B => 1
  | .C => 2

/-- Lane of an index. -/
def laneOf : Nat → Lane
  | 0 => .A
  | 1 => .B
  | _ => .C

/-- Stage index: 0 A, 1 B, 2 C. -/
def stgIx : Stg → Nat
  | .A => 0
  | .B => 1
  | .C => 2

/-- Leg index: 0 U, 1 V, 2 W. -/
def legIx : Leg → Nat
  | .U => 0
  | .V => 1
  | .W => 2

/-- The two lanes other than `l`, lower letter first. -/
def otherLanes : Lane → Lane × Lane
  | .A => (.B, .C)
  | .B => (.A, .C)
  | .C => (.A, .B)

/-! ## Sparse storage -/

/-- What address `a` reads as. -/
def cellGet {α : Type} (dflt : Nat → α) : Cells α → Nat → α
  | [], a => dflt a
  | (b, x) :: m, a => if a = b then x else cellGet dflt m a

/-- Insert an entry in front of the first higher address. -/
def cellInsert {α : Type} (a : Nat) (v : α) : Cells α → Cells α
  | [] => [(a, v)]
  | (b, x) :: m => if a < b then (a, v) :: (b, x) :: m else (b, x) :: cellInsert a v m

/-- Write `v` at `a`; a value that an unlisted address reads as is not listed. -/
def cellPut {α : Type} [DecidableEq α] (dflt : Nat → α) (m : Cells α) (a : Nat) (v : α) : Cells α :=
  let m' := m.filter fun e => e.1 ≠ a
  if v = dflt a then m' else cellInsert a v m'

/-- Addresses strictly rising, no entry equal to what an unlisted address reads as. -/
def cellsWf {α : Type} [DecidableEq α] (dflt : Nat → α) : Cells α → Bool
  | [] => true
  | (a, v) :: m =>
    decide (v ≠ dflt a) && (match m with
      | [] => true
      | (b, _) :: _ => decide (a < b)) && cellsWf dflt m

/-- What an unlisted byte of memory reads as: the boot ROM its content (R31); the control record of bank A COMMITTED with SEQUENCE 1, as
a module leaves the factory (log entry 21); everything else 0 (log entry 2). -/
def memDefault (a : Nat) : Byte :=
  if a < 0x10000 then Config.bootRom a else if a = 0x106B0000 then 2#8 else if a = 0x106B0004 then 1#8 else 0#8

/-! ## Fields of a word -/

/-- Bits set in a field's place. -/
def Fld.mask (f : Fld) : Word := BitVec.ofNat 32 (2 ^ f.w - 1) <<< f.lo

/-- The value of field `f` in the word `x`. -/
def Fld.get (f : Fld) (x : Word) : Nat := (x >>> f.lo).toNat % 2 ^ f.w

/-- The word `x` with field `f` at `v`, cut to the field's width. -/
def Fld.set (f : Fld) (x : Word) (v : Nat) : Word :=
  (x &&& ~~~ f.mask) ||| (BitVec.ofNat 32 (v % 2 ^ f.w) <<< f.lo)

/-! ## A lane's registers -/

/-- Live word of the register at `a`. -/
def LaneSt.reg (L : LaneSt) (a : Nat) : Word := cellGet resetWord L.regs a

/-- Word of the register at `a` as frozen at its last instant (R8). -/
def LaneSt.snapReg (L : LaneSt) (a : Nat) : Word := cellGet resetWord L.snap a

/-- Set the live word of the register at `a`. -/
def LaneSt.setReg (L : LaneSt) (a : Nat) (v : Word) : LaneSt := { L with regs := cellPut resetWord L.regs a v }

/-- Read a field. -/
def LaneSt.rd (L : LaneSt) (f : Fld) : Nat := f.get (L.reg f.addr)

/-- Write a field. -/
def LaneSt.wr (L : LaneSt) (f : Fld) (v : Nat) : LaneSt := L.setReg f.addr (f.set (L.reg f.addr) v)

/-- A one-bit field as a Bool; a wider field is true when it is not 0. -/
def LaneSt.on (L : LaneSt) (f : Fld) : Bool := L.rd f != 0

/-- Write a one-bit field. -/
def LaneSt.put (L : LaneSt) (f : Fld) (b : Bool) : LaneSt := L.wr f (if b then 1 else 0)

/-- Add to a field that counts modulo its width. -/
def LaneSt.inc (L : LaneSt) (f : Fld) (k : Nat := 1) : LaneSt := L.wr f (L.rd f + k)

/-- Add to a field that saturates at its width. -/
def LaneSt.incSat (L : LaneSt) (f : Fld) (k : Nat := 1) : LaneSt := L.wr f (min (L.rd f + k) (2 ^ f.w - 1))

/-- Signed value of a two's-complement number of `w` bits. -/
def signedOf (w n : Nat) : Int := if n % 2 ^ w < 2 ^ (w - 1) then (n % 2 ^ w : Nat) else (n % 2 ^ w : Nat) - (2 ^ w : Nat)

/-- The `w` bits of a number, two's complement. -/
def bitsOf (w : Nat) (i : Int) : Nat := (i % (2 ^ w : Nat)).toNat

/-- Read a field as signed. -/
def LaneSt.rdS (L : LaneSt) (f : Fld) : Int := signedOf f.w (L.rd f)

/-- Write a signed number into a field. -/
def LaneSt.wrS (L : LaneSt) (f : Fld) (i : Int) : LaneSt := L.wr f (bitsOf f.w i)

/-- Freeze the class S registers of the group `g` (R8). -/
def LaneSt.freeze (L : LaneSt) (g : Freeze) : LaneSt :=
  let keep := L.snap.filter fun e => freezeOf e.1 ≠ g
  let now := L.regs.filter fun e => freezeOf e.1 = g
  { L with snap := now.foldl (fun m e => cellPut resetWord m e.1 e.2) keep }

/-- All registers at their reset values; the wired identity stays (SYS_ID). -/
def LaneSt.resetRegs (L : LaneSt) (keep : Nat → Bool) : LaneSt :=
  { L with
    regs := L.regs.filter fun e => keep e.1 || e.1 == 0x40000000
    snap := L.snap.filter fun e => keep e.1 || e.1 == 0x40000000 }

/-! ## A lane's memory -/

/-- Byte at `a`. -/
def LaneSt.byte (L : LaneSt) (a : Nat) : Byte := cellGet memDefault L.mem a

/-- Store a byte. -/
def LaneSt.setByte (L : LaneSt) (a : Nat) (v : Byte) : LaneSt := { L with mem := cellPut memDefault L.mem a v }

/-- Store bytes from `a` on. -/
def LaneSt.setBytes (L : LaneSt) (a : Nat) : List Byte → LaneSt
  | [] => L
  | b :: bs => (L.setByte a b).setBytes (a + 1) bs

/-- The `n` bytes from `a` on. -/
def LaneSt.bytes (L : LaneSt) (a n : Nat) : List Byte := (List.range n).map fun i => L.byte (a + i)

/-- The four bytes of a word, little-endian (R4). -/
def wordBytes (w : Word) : List Byte := [w.extractLsb' 0 8, w.extractLsb' 8 8, w.extractLsb' 16 8, w.extractLsb' 24 8]

/-- The word of up to four little-endian bytes. -/
def bytesWord (bs : List Byte) : Word := BitVec.ofNat 32 (bs.foldr (fun b n => b.toNat + 256 * n) 0)

/-- Store a word. -/
def LaneSt.setWord (L : LaneSt) (a : Nat) (w : Word) : LaneSt := L.setBytes a (wordBytes w)

/-- The word at `a`. -/
def LaneSt.word (L : LaneSt) (a : Nat) : Word := bytesWord (L.bytes a 4)

/-- Store words from `a` on. -/
def LaneSt.setWords (L : LaneSt) (a : Nat) : List Word → LaneSt
  | [] => L
  | w :: ws => (L.setWord a w).setWords (a + 4) ws

/-! ## Lanes and stages of the module -/

/-- The lane `l`. -/
def State.lane (s : State) (l : Lane) : LaneSt := nth s.lanes (laneIx l)

/-- Change the lane `l`. -/
def State.updLane (s : State) (l : Lane) (f : LaneSt → LaneSt) : State := { s with lanes := updNth s.lanes (laneIx l) f }

/-- The stage `g`. -/
def State.stage (s : State) (g : Stg) : StageSt := nth s.stages (stgIx g)

/-- Change the stage `g`. -/
def State.updStage (s : State) (g : Stg) (f : StageSt → StageSt) : State :=
  { s with stages := updNth s.stages (stgIx g) f }

/-- Note the global time of an event at the lane: a lane's time does not run backwards. -/
def LaneSt.tick (L : LaneSt) (t : Nat) : LaneSt := { L with time := max L.time t }

/-- A fresh free value, and the lane with its counter moved on (log entry 5). -/
def LaneSt.fresh (L : LaneSt) : BitVec 32 × LaneSt := (Config.freeValue L.free, { L with free := L.free + 1 })

/-! ## Module states (R58, R88) -/

abbrev stOff : Nat := 0
abbrev stPark : Nat := 1
abbrev stStandby : Nat := 2
abbrev stArm : Nat := 3
abbrev stDrive : Nat := 4
abbrev stFold : Nat := 5

/-- The module state as the lane holds it. -/
def LaneSt.st (L : LaneSt) : Nat := L.rd Reg.SYS_STATE_MODULE

/-- The lane's CPU, Shepherd, engine and analog domains are powered: STANDBY, ARM, DRIVE or FOLD (R58, R72). -/
def LaneSt.up (L : LaneSt) : Bool := decide (stStandby ≤ L.st)

/-- Lane modes: 0 CHECKED, 1 SPLIT, 2 RESYNC, 3 SILENT (SYS_STATE). -/
def LaneSt.mode (L : LaneSt) : Nat := L.rd Reg.SYS_STATE_LANE_MODE

/-- The lane is CHECKED and among the voting lanes. -/
def LaneSt.voting (L : LaneSt) (l : Lane) : Bool :=
  L.mode == 0 && L.on (Reg.SYS_STATE_VOTING.bit (laneIx l))

/-- FAULT_x conducts while the lane is powered, CHECKED, not under L3 or L4, and the module is not in FOLD (R45). -/
def LaneSt.driveFaultX (L : LaneSt) : LaneSt :=
  { L with fc := { L.fc with faultX := L.up && L.mode == 0 && !L.fc.under3 && !L.sys.fold && L.st != stFold } }

/-- The stage's period in microticks: PWM field of COM_CFG (R22, R23). -/
def LaneSt.period (L : LaneSt) : Nat :=
  match L.rd Reg.COM_CFG_PWM with
  | 0 => 40000
  | 1 => 20000
  | _ => 10000

end Sys2Proof.Machine
end

