-- ==== Sys2Proof/Machine/Operands.lean ====
section
/-! DEFINITION. The number forms and codes that the chapters share: clamping, saturation, interpolation, CRC-32C
(R75), Gray code (R220), and the modular arithmetic of the time base. -/
namespace Sys2Proof.Machine

/-- Clamp to `lo` to `hi`. -/
def clampI (x lo hi : Int) : Int := if x < lo then lo else if hi < x then hi else x

/-- Saturate to a signed number of `w` bits. -/
def satS (w : Nat) (x : Int) : Int := clampI x (-(2 ^ (w - 1) : Nat)) ((2 ^ (w - 1) : Nat) - 1)

/-- Magnitude. -/
def absN (x : Int) : Nat := x.natAbs

/-- One step of CRC-32C (polynomial 0x1EDC_6F41, reflected) over one bit. -/
def crcBit (c : BitVec 32) : BitVec 32 := if c.getLsbD 0 then (c >>> 1) ^^^ 0x82F63B78#32 else c >>> 1

/-- CRC-32C over one byte. -/
def crcByte (c : BitVec 32) (b : Byte) : BitVec 32 :=
  let c := c ^^^ b.setWidth 32
  crcBit (crcBit (crcBit (crcBit (crcBit (crcBit (crcBit (crcBit c)))))))

/-- CRC-32C: initial value and final XOR 0xFFFF_FFFF (R75). -/
def crc32c (bs : List Byte) : BitVec 32 := (bs.foldl crcByte 0xFFFFFFFF#32) ^^^ 0xFFFFFFFF#32

/-- The bytes of words, little-endian. -/
def bytesOf (ws : List Word) : List Byte := ws.flatMap wordBytes

/-- Binary value of a Gray code of at most 32 bits. -/
def grayDecode (g : BitVec 32) : BitVec 32 :=
  let g := g ^^^ (g >>> 16)
  let g := g ^^^ (g >>> 8)
  let g := g ^^^ (g >>> 4)
  let g := g ^^^ (g >>> 2)
  g ^^^ (g >>> 1)

/-- Linear interpolation between two points, `num / den` of the way, truncated toward zero. -/
def lerp (a b num den : Int) : Int := a + ((b - a) * num).tdiv den

/-- Basic-cycle number of a global time in ns (R27). -/
def cycleOf (t : Nat) : Nat := t / 250000

/-- Fast-task slot of a global time in ns (R24). -/
def slotOf (t : Nat) : Nat := (t % 250000) / 50000

/-! ## Sine and cosine (R213, R217, R236); the working precision is the model's (log entry 13). -/

/-- An angle of `r` / 65,536 turn in radians, 2^-40; 2 pi is 6,908,435,304,715 there. -/
def rad40 (r : Int) : Int := (r * 6908435304715).tdiv 65536

/-- Product of two 2^-40 numbers. -/
def mul40 (a b : Int) : Int := (a * b).tdiv 0x10000000000

/-- Sine and cosine of an angle up to an eighth of a turn, 2^-40, by their series. -/
def sin40 (x : Int) : Int :=
  let q := mul40 x x
  let t := fun (acc : Int) (n : Int) => 0x10000000000 - (mul40 q acc).tdiv n
  mul40 x (t (t (t (t (t 0x10000000000 110) 72) 42) 20) 6)
def cos40 (x : Int) : Int :=
  let q := mul40 x x
  let t := fun (acc : Int) (n : Int) => 0x10000000000 - (mul40 q acc).tdiv n
  t (t (t (t (t (t 0x10000000000 132) 90) 56) 30) 12) 2

/-- Cosine of `a` / 65,536 turn, 2^-40. -/
def cosTurn (a : Int) : Int :=
  let r := a % 65536
  let e := (r + 8192) / 16384
  let x := rad40 (r - 16384 * e)
  match (e % 4).toNat with
  | 0 => cos40 x
  | 1 => -(sin40 x)
  | 2 => -(cos40 x)
  | _ => sin40 x

/-- Sine of `a` / 65,536 turn, 2^-40. -/
def sinTurn (a : Int) : Int := cosTurn (a - 16384)

/-- Middle of three. -/
def mid3 (a b c : Int) : Int := max (min a b) (min (max a b) c)

/-- Bit `i` of a mask held as a number. -/
def bitN (m i : Nat) : Bool := m.testBit i

/-- A mask of the indices 0 to 2 that satisfy `p`. -/
def mask3 (p : Nat → Bool) : Nat := (if p 0 then 1 else 0) + (if p 1 then 2 else 0) + (if p 2 then 4 else 0)

/-- Apply `f` for the indices 0, 1 and 2 in turn. -/
def for3 {σ : Type} (f : Nat → σ → σ) (s : σ) : σ := f 2 (f 1 (f 0 s))

/-- Apply `f` for the indices 0 to n - 1 in turn. -/
def forN {σ : Type} (n : Nat) (f : Nat → σ → σ) (s : σ) : σ := (List.range n).foldl (fun s i => f i s) s

end Sys2Proof.Machine
end

