-- ==== Sys2Proof/Machine/Flags.lean ====
section
/-! DEFINITION. The flags of the module: the fault collector (R289 to R302). `raise` is the one operation by which
any detector of a lane reports a source. -/
namespace Sys2Proof.Machine

/-- Default reaction level of a source (R129, R170, R196, R221, R254, R274, R287, R299). A source in no table has
level 1, the least that is recorded. -/
def defaultLevel (id : Nat) : Nat :=
  let c := id / 256
  let n := id % 256
  match c with
  | 0x01 => if n = 0x0A then 0 else 3
  | 0x02 => match n with
    | 0x01 | 0x03 | 0x04 | 0x07 | 0x0B | 0x0C => 1
    | 0x02 | 0x09 => 3
    | 0x05 => 0
    | 0x06 => 4
    | _ => 2
  | 0x03 => if n = 4 then 0 else 2
  | 0x04 => match n with
    | 0x01 | 0x02 | 0x04 | 0x81 => 1
    | 0x03 => 3
    | 0x84 | 0x86 => 0
    | 0x82 | 0x83 | 0x85 => 2
    | _ => match n % 16 with
      | 5 | 6 | 9 | 10 | 13 => 1
      | _ => 2
  | 0x05 => if n = 3 then 1 else 2
  | 0x06 => match n with
    | 1 => 2
    | 2 | 3 => 3
    | _ => 1
  | 0x07 => match n with
    | 0x0E | 0x12 | 0x13 => 2
    | _ => 1
  | 0x08 => match n with
    | 0x05 | 0x08 | 0x0B => 1
    | _ => 2
  | 0x09 => match n with
    | 0x03 | 0x04 => 2
    | 0x05 => 0
    | _ => 1
  | 0x0A => match n with
    | 0x02 | 0x04 | 0x06 => 0
    | _ => 1
  | 0x0B => match n with
    | 0x02 => 2
    | 0x03 | 0x06 => 3
    | _ => 1
  | 0x0C => match n with
    | 0x03 | 0x06 | 0xFE => 2
    | _ => 3
  | 0x0D => match n with
    | 0x02 | 0x03 => 3
    | _ => 1
  | 0x0E => match n with
    | 0x02 | 0x04 => 2
    | 0x05 => 0
    | 0x06 => 3
    | _ => 1
  | _ => 1

/-- Overrides of the SAFETY group (R297): level of the valid FC_LVL_OVR entry that names the source. -/
def LaneSt.override (L : LaneSt) (id : Nat) : Option Nat :=
  ((List.range 64).find? fun n => L.on (Reg.FC_LVL_OVR_VALID n) && L.rd (Reg.FC_LVL_OVR_ID n) == id).map
    fun n => L.rd (Reg.FC_LVL_OVR_LEVEL n)

/-- The source's own level: the default after override; a source whose default is L3 or L4 is not lowered (R297). -/
def LaneSt.ownLevel (L : LaneSt) (id : Nat) : Nat :=
  match L.override id with
  | some v => if 3 ≤ defaultLevel id then max v (defaultLevel id) else min v 4
  | none => defaultLevel id

/-- Sources whose detail byte names a stage (R461). -/
def stageKind (id : Nat) : Bool :=
  (decide (0x0301 ≤ id) && decide (id ≤ 0x0305)) || (decide (0x0441 ≤ id) && decide (id ≤ 0x046D)) || id == 0x0505 ||
  (decide (0x0710 ≤ id) && decide (id ≤ 0x0713)) || (decide (0x0801 ≤ id) && decide (id ≤ 0x0808)) || id == 0x080A ||
  id == 0x0C06 || id == 0x0D20 || (decide (0x0E01 ≤ id) && decide (id ≤ 0x0E04)) || id == 0x0E07

/-- The detail byte of a source (R461): a value of its kind, else 0xFF, none. -/
def detailOf (id d : Nat) : Nat :=
  let ok :=
    if stageKind id then decide (d < 3)
    else if [0x0203, 0x0204, 0x0205, 0x020B, 0x020C, 0x0402].contains id then decide (1 ≤ d) && decide (d ≤ 3)
    else if [0x0901, 0x0902, 0x0904, 0x0906].contains id then decide (d / 16 < 2) && (decide (d % 16 ≤ 5) || d % 16 == 15)
    else if id = 0x0908 then true
    else if id = 0x0C02 ∨ id = 0x0C05 then decide (d < 8)
    else if 0x0A01 ≤ id ∧ id ≤ 0x0A06 then d == 1 || d == 2
    else if id = 0x0F01 ∨ id = 0x0F02 ∨ id = 0x0708 then d == 1 || d == 2
    else if id = 0x0F04 then decide (d < 2)
    else if id = 0x070B then decide (d < 48)
    else if id = 0x070C then decide (d < 3)
    else if id = 0x0909 then d == 1 || d == 2 || d == 4
    else false
  if ok then d else 0xFF

/-- The sources masked by the consequence mask of bit `b` of FC_SHADOW, for the detail `d` (R300). Bits: 0 core halt,
1 own supply loss, 2 to 4 stage latched, 5 to 7 active short circuit, 8 to 10 stage removed, 11 to 13 lane failed,
14 and 15 guardian. -/
def maskCovers (b id d : Nat) : Bool :=
  if b = 0 then [0x0111, 0x0201, 0x0304, 0x0A06].contains id
  else if b = 1 then [0x0503, 0x0703, 0x0704, 0x0705, 0x0706, 0x0708, 0x0709, 0x070A, 0x0F04].contains id
  else if b ≤ 4 then
    d == b - 2 && [0x0710, 0x0711, 0x0801, 0x0805, 0x0807, 0x0808, 0x0446 + 0x10 * (b - 2), 0x0447 + 0x10 * (b - 2),
      0x044D + 0x10 * (b - 2)].contains id
  else if b ≤ 7 then d == b - 5 && [0x0710, 0x0711].contains id
  else if b ≤ 10 then d == b - 8 && [0x0710, 0x0711, 0x0712, 0x0807, 0x0808].contains id
  else if b ≤ 13 then d == b - 10 && [0x0204, 0x0205].contains id
  else d / 16 == b - 14 && d != 0xFF && [0x0901, 0x0902, 0x0906].contains id

/-- Address of FC_SHADOW as a field of 16 bits. -/
abbrev shadowFld : Fld := ⟨0x40010018, 0, 16⟩

/-- A source is masked while an open mask covers it (R300). -/
def LaneSt.masked (L : LaneSt) (id d : Nat) : Bool :=
  (List.range 16).any fun b => L.on (shadowFld.bit b) && maskCovers b id d

/-- Open the consequence mask of bit `b`; a reaction that starts again runs from its later start (R300). -/
def LaneSt.openMask (L : LaneSt) (b : Nat) : LaneSt :=
  let L := L.put (shadowFld.bit b) true
  { L with fc := { L.fc with closing := L.fc.closing.filter fun c => c.1 ≠ b } }

/-- The reaction of mask `b` ends: the mask closes 10 µs later (R300). -/
def LaneSt.endMask (L : LaneSt) (b : Nat) : LaneSt :=
  if L.on (shadowFld.bit b) then
    { L with fc := { L.fc with closing := (b, L.time + 10000) :: L.fc.closing.filter fun c => c.1 ≠ b } }
  else L

/-- The claim that the lane presents on stage `s`, 0 when withdrawn (R162). -/
abbrev Reg.CLAIM_OF (s : Nat) : Fld := ⟨0x40030004, 3 * s, 3⟩

/-- Present claim 0 on the stages of `m`, with the WITHDRAW reason `why`. -/
def LaneSt.zeroClaims (L : LaneSt) (m why : Nat) : LaneSt :=
  (for3 (fun s L => if bitN m s then L.wr (Reg.CLAIM_OF s) 0 else L) L).wr Reg.CLM_PRESENT_WITHDRAW why

/-- The words of a fault record for the reaction `r` to the source (R302). -/
def LaneSt.recordWords (L : LaneSt) (id d r : Nat) : List Word :=
  let w := fun (x : Nat) => BitVec.ofNat 32 x
  let head : List Word :=
    [ w (L.rd Reg.FC_FIRST_ID + 0x10000 * L.rd Reg.FC_FIRST_LEVEL + 0x1000000 * L.rd Reg.FC_FIRST_DETAIL)
    , L.reg 0x40010008, L.reg 0x4001000C
    , w (id + 0x10000 * r + 0x1000000 * d)
    , w L.time, w (L.time / 0x100000000)
    , L.reg 0x400E0010, L.reg 0x40010000 ]
  let counts := (List.range 15).map fun i => L.reg (0x40010044 + 4 * i)
  let mid : List Word := [L.reg 0x40010018, L.reg 0x40000004, L.reg 0x40110004, L.reg 0x40110008, L.snapReg 0x40020004,
    L.snapReg 0x40020008, L.snapReg 0x4002000C]
  let vec := (List.range 48).map fun f => L.snapReg (0x40020400 + 4 * f)
  let body := head ++ counts ++ mid ++ vec ++ List.replicate 49 0#32
  body ++ [crc32c (bytesOf body)]

/-- Queue the record of a reaction at L2 or above, or count it as dropped (R302). -/
def LaneSt.queueRecord (L : LaneSt) (id d r : Nat) : LaneSt :=
  if L.fc.queue.length < 16 then
    let L := { L with fc := { L.fc with queue := L.fc.queue ++ [L.recordWords id d r] } }
    L.wr Reg.FC_REC_QUEUED L.fc.queue.length
  else L.incSat Reg.FC_REC_DROPPED

/-- Sources that hold a lane SILENT until its next start (R296). -/
def holdsSilent (id : Nat) : Bool := [0x0209, 0x0B03, 0x0C01, 0x0D02, 0x0D03].contains id

/-- Whether the degradation at L2 includes claim 0 (R460). -/
def withdrawsAtL2 (L : LaneSt) (id : Nat) : Bool :=
  id == 0x0B02 || id == 0x0CFE || defaultLevel id != 2 || L.ownLevel id != 2

/-- Actions of the L2 reaction: record, and the claim withdrawal of R460. -/
def LaneSt.reactL2 (L : LaneSt) (id d : Nat) : LaneSt :=
  if withdrawsAtL2 L id then
    let m := if stageKind id && decide (d < 3) then 2 ^ d else 7
    let L := L.zeroClaims m 5
    { L with fc := { L.fc with withdraw := (id / 256, m) :: L.fc.withdraw } }
  else L

/-! ## Coil currents (R434, R438) -/

/-- Default microstep table: round(4,095 sin(i 90°/256)). -/
def defaultMicro (i : Nat) : Nat := ((4095 * sinTurn (64 * i) + 0x8000000000) / 0x10000000000).toNat

/-- Entry `i` of the active table; entry 256 is 4,095. -/
def LaneSt.micro (L : LaneSt) (i : Nat) : Int :=
  if 256 ≤ i then 4095
  else match L.aux.table with
    | some t => ((t.getD i 0 : Nat) : Int)
    | none => ((defaultMicro i : Nat) : Int)

/-- coils(p) of R434, in mA for a peak current `cur`. -/
def LaneSt.coils (L : LaneSt) (p : Int) (cur : Int) : Int × Int :=
  let e := (p % 1024).toNat
  let i := e % 256
  let x := L.micro i
  let y := L.micro (256 - i)
  let ab := match e / 256 with
    | 0 => (x, y)
    | 1 => (y, -x)
    | 2 => (-x, -y)
    | _ => (-y, x)
  ((ab.1 * cur).tdiv 4095, (ab.2 * cur).tdiv 4095)

/-- Position of the axis. -/
def LaneSt.auxPos (L : LaneSt) : Int := L.rdS Reg.AUX_POS_VALUE

/-- Drive the coils at the present position with the peak current `cur`; quiet mode sets voltages (R438). -/
def LaneSt.driveCoils (L : LaneSt) (cur : Int) : LaneSt :=
  let (a, b) := L.coils L.auxPos cur
  let r : Int := if L.on Reg.AUX_STAT_STRONG then 0 else ((L.rd Reg.AUX_RCOIL_RCOIL : Nat) : Int)
  { L with aux := { L.aux with ia := a, ib := b, va := a * r, vb := b * r } }

/-- The HOLD current: IHOLD percent of IRUN (R439). -/
def LaneSt.holdCoils (L : LaneSt) : LaneSt :=
  (L.wr Reg.AUX_STAT_COILS 2).driveCoils (((L.rd Reg.AUX_CUR_IRUN * L.rd Reg.AUX_CUR_IHOLD) / 100 : Nat) : Int)

/-- The axis is aborted and UNREFERENCED: at once (`hold` false, coils FREEWHEEL, R444: supply loss, engine reset), or at the
next microstep with coils HOLD (L3 reaction). -/
def LaneSt.auxAbort (L : LaneSt) (hold : Bool) : LaneSt :=
  let run := L.aux.v != 0
  let L := (L.wr Reg.AUX_STAT_REF 0).wr Reg.AUX_STAT_STATE (if hold && run then 2 else 0)
  if hold then
    let L := if run then L else L.holdCoils
    { L with aux := { L.aux with run := .idle, wish := none, halt := run, haltHold := run, onGoal := false } }
  else
    let L := ((L.wr Reg.AUX_STAT_COILS 1).put Reg.AUX_STAT_FREE true).wr Reg.AUX_VEL_VALUE 0
    { L with aux := { L.aux with run := .idle, wish := none, v := 0, halt := false, haltHold := false, onGoal := false
                                 ia := 0, ib := 0, va := 0, vb := 0 } }

/-- Actions of the L3 reaction (R295): claims zeroed, lane failed on the fault line, SILENT at the next slot start,
FAULT_x released; core, Shepherd and engines reset after the record. -/
def LaneSt.reactL3 (L : LaneSt) (id : Nat) : LaneSt :=
  let L := (L.zeroClaims 7 5).auxAbort true
  let fc := { L.fc with under3 := true, silentNext := true, faultX := false, resetDue := true, line := 1
                        hold := L.fc.hold || holdsSilent id, thermal := L.fc.thermal || id == 0x0E06 }
  { L with fc := fc }

/-- Actions of the L4 reaction (R61): the lane carries FOLD as its target and FOLD_ENTRY is due. -/
def LaneSt.reactL4 (L : LaneSt) : LaneSt :=
  { L with sys := { L.sys with fold := true }, fc := { L.fc with faultX := false } }

/-- React at level `r` (R295): each level adds to those below it. -/
def LaneSt.react (L : LaneSt) (id d r : Nat) : LaneSt :=
  let L := { L with fc := { L.fc with irq := true, log := (BitVec.ofNat 16 id, r, L.time) :: L.fc.log } }
  let L := if r = 2 then L.reactL2 id d else L
  let L := if r = 3 then L.reactL3 id else L
  let L := if 4 ≤ r then L.reactL4 else L
  if 2 ≤ r then L.queueRecord id d r else L

/-- Latch the first source, or set OVF (R293). -/
def LaneSt.latchFirst (L : LaneSt) (id d r : Nat) : LaneSt :=
  if L.on Reg.FC_STAT_FIRST_VALID then L.put Reg.FC_STAT_OVF true
  else
    ((((((L.put Reg.FC_STAT_FIRST_VALID true).wr Reg.FC_FIRST_ID id).wr Reg.FC_FIRST_DETAIL d).wr
      Reg.FC_FIRST_LEVEL r).wr (Reg.FC_FIRST_T_TIME 0) L.time).wr (Reg.FC_FIRST_T_TIME 1) (L.time / 0x100000000))

/-- The class registers of class `c`: OPEN and NEW bits of FC_STAT, ESC bit of FC_MODE. -/
abbrev Reg.FC_OPEN (c : Nat) : Fld := ⟨0x40010000, 16 + c, 1⟩
abbrev Reg.FC_NEW (c : Nat) : Fld := ⟨0x40010000, c, 1⟩
abbrev Reg.FC_ESC (c : Nat) : Fld := ⟨0x40010014, c, 1⟩

/-- The reaction level that a source of own level `lv` in class `c` asks for, and whether it reacts at all (R298). -/
def LaneSt.reaction (L : LaneSt) (lv c : Nat) : Nat × Bool :=
  if L.fc.under3 then (lv, false)
  else if L.on (Reg.FC_OPEN c) then
    let cur := L.rd (Reg.FC_CNT_LEVEL c)
    if L.on (Reg.FC_ESC c) then (min (max lv (cur + 1)) 4, true)
    else (lv, decide (cur < lv))
  else (lv, true)

/-- Open the class and record the highest reaction taken in it (R293). -/
def LaneSt.openClass (L : LaneSt) (c r : Nat) : LaneSt :=
  ((L.put (Reg.FC_OPEN c) true).wr (Reg.FC_CNT_LEVEL c) (max (L.rd (Reg.FC_CNT_LEVEL c)) r)).put (Reg.FC_NEW c) true

/-- A source that passes the masks, at its own level `lv` (R298). The spec says nothing of an identifier whose high byte is no class
of R9 (0x00, 0x10 and up): the model treats it like a source of a class, with the register place of that number (log entry 89,
DESIGN CHOICE). -/
def LaneSt.raiseAt (L : LaneSt) (id d lv : Nat) : LaneSt :=
  let c := id / 256
  let L := L.incSat (Reg.FC_CNT_COUNT c)
  if lv = 0 then L
  else
    let (r, act) := L.reaction lv c
    let L := L.latchFirst id d r
    if act then (L.openClass c r).react id d r else L

/-- A source asserts at the collector (R298), its line sound. `d` is its detail byte, of the source's kind (R461). -/
def LaneSt.assert (L : LaneSt) (id d : Nat) : LaneSt :=
  if L.masked id d then L.incSat (Reg.FC_CNT_CONSEQ (id / 256))
  else L.raiseAt id d (L.ownLevel id)

/-- A source asserts. One whose line has failed reads as fault from then on, and so asserts no more (R290, log entry 117). -/
def LaneSt.raise (L : LaneSt) (id : Nat) (d : Nat := 0xFF) : LaneSt :=
  if L.fc.stuck.contains (BitVec.ofNat 16 id) then L else L.assert id (detailOf id d)

/-- Raise when a condition holds. -/
def LaneSt.raiseIf (L : LaneSt) (b : Bool) (id : Nat) (d : Nat := 0xFF) : LaneSt := if b then L.raise id d else L

/-- 0x0D04: a register write refused (R88, R311, R410, R445, R458, R459). -/
def LaneSt.refuseWrite (L : LaneSt) : LaneSt := L.raise 0x0D04

end Sys2Proof.Machine
end

