-- ==== Sys2Proof/Machine/Shared.lean ====
section
/-! DEFINITION. What several chapters do to a lane: presenting claims (R162), removing a stage from service (R185),
counting the stages in service (R234), entering RESYNC (R155) and going SILENT (R295). -/
namespace Sys2Proof.Machine

/-- The three outcomes of a command. -/
abbrev Out := Host.Outcome State Fault Refusal

/-- A command that acts on one powered lane (STANDBY, ARM, DRIVE or FOLD, R58); otherwise it has no effect. -/
def onLane (l : Lane) (t : Nat) (s : State) (f : LaneSt → LaneSt) : Out :=
  .next (s.updLane l fun L => if L.up then f (L.tick t) else L)

/-- A command that acts on one powered lane and carries no time of its own. -/
def onLaneNow (l : Lane) (s : State) (f : LaneSt → LaneSt) : Out :=
  .next (s.updLane l fun L => if L.up then f L else L)

/-- The lane's engines and links run (R83, R95): powered and not in ROM recovery, or woken with its domains restored. -/
def LaneSt.linked (L : LaneSt) : Bool := (L.up && L.sys.boot != .romRecovery) || L.sys.boot == .woken

/-- A command that acts on one lane whose links run. -/
def onLinked (l : Lane) (t : Nat) (s : State) (f : LaneSt → LaneSt) : Out :=
  .next (s.updLane l fun L => if L.linked then f (L.tick t) else L)

/-- The same, without a time of its own. -/
def onLinkedNow (l : Lane) (s : State) (f : LaneSt → LaneSt) : Out :=
  .next (s.updLane l fun L => if L.linked then f L else L)

/-- A controller of the lane. -/
def LaneSt.can (L : LaneSt) (c : CanId) : CanSt :=
  match c with
  | .can1 => L.can1
  | .can2 => L.can2

/-- A controller carries the mailbox transport: as the CAN group says, and CAN1 with no image in force (R100, R378). -/
def LaneSt.carriesMbx (L : LaneSt) (c : CanId) : Bool := if L.nvm.inForce then L.on (Reg.CAN_CFG_MBX c) else c == .can1

/-- Request identifier of the mailbox transport on a controller: 0x6F0 with no image in force (R100, R376). -/
def LaneSt.requestId (L : LaneSt) (c : CanId) : Nat := if L.nvm.inForce then (L.can c).mbxReq else 0x6F0

/-- All six switches off: every leg at the floating pair (R229). -/
def offCmd : GateCmd := .all { lon := 0xFFFF, loff := 0xFFFF }

/-- Field of the ownership matrix: claim of lane index `i` on stage `s` (R161). -/
abbrev matrixFld (s i : Nat) : Fld := ⟨0x40030000, 9 * s + 3 * i, 3⟩

/-- The lane's copies of stage `s`: EN set, no latch, a lane accepted; the stage is then not in STO (R269). -/
def LaneSt.stageLive (L : LaneSt) (s : Nat) : Bool :=
  L.on (Reg.STG_STAT_EN s) && !L.on (Reg.STG_STAT_LATCHED s) && L.on (Reg.CLM_STG_ACCEPTED s)

/-- Why the lane presents claim 0 on stage `s`, 0 for no reason (R162, R190, R295); codes of WITHDRAW. After a supply has returned, every
claim waits for the lane's own stage to report READY (R53). -/
def LaneSt.withdrawWhy (L : LaneSt) (l : Lane) (s : Nat) : Nat :=
  let stateOk := L.st == stArm || L.st == stDrive || (L.st == stFold && L.stageLive s)
  if !stateOk then 1
  else if !L.voting l || L.fc.under3 then 2
  else if L.pwr.lost || L.pwr.returning then 3
  else if L.on Reg.SYS_CLK_STAT_RC_FALLBACK then 4
  else if L.fc.withdraw.any (fun w => bitN w.2 s) || nth L.meas.calBad s then 5
  else 0

/-- Present each stage's matrix claim, or 0 with its reason (R162). -/
def LaneSt.refreshClaims (L : LaneSt) (l : Lane) : LaneSt :=
  for3 (fun s L =>
    let m := L.rd (matrixFld s (laneIx l))
    let why := L.withdrawWhy l s
    if why = 0 then L.wr (Reg.CLAIM_OF s) m
    else if L.rd (Reg.CLAIM_OF s) = 0 then L
    else L.zeroClaims (2 ^ s) why) L

/-- Remove stage `s` from service until the module next passes from STANDBY to ARM (R185): out of service, its consequence mask opens,
and the lane's frames carry ISO for it (R273). -/
def LaneSt.removeStage (L : LaneSt) (s : Nat) : LaneSt :=
  let L := { L with meas := { L.meas with removed := setNth L.meas.removed s true } }
  ((L.put (Reg.MEAS_STAT_OUT_OF_SERVICE.bit s) true).put (Reg.COM_STAT_OUT.bit s) true).openMask (8 + s)

/-- MODE in force on stage `s`: bits [2:0] of its posted first word, 4 to 7 treated as OFF (R224). -/
def LaneSt.modeOf (L : LaneSt) (s : Nat) : Nat :=
  let m := (L.com.words.getD (4 * s) 0#32).toNat % 8
  if m < 4 then m else 0

/-- The command words in force on stage `s`: ICMD, ADV, LIM (R223). -/
def LaneSt.icmdOf (L : LaneSt) (s : Nat) : Int := (L.com.words.getD (4 * s + 1) 0#32).toInt
def LaneSt.advOf (L : LaneSt) (s : Nat) : Int := signedOf 16 (L.com.words.getD (4 * s + 2) 0#32).toNat
def LaneSt.limOf (L : LaneSt) (s : Nat) : Nat := (L.com.words.getD (4 * s + 3) 0#32).toNat % 0x10000
def LaneSt.psiRefOf (L : LaneSt) (s : Nat) : Nat := (L.com.words.getD (4 * s + 3) 0#32).toNat / 0x10000

/-- Stage `s` is in service (R234). -/
def LaneSt.serves (L : LaneSt) (s : Nat) : Bool :=
  let c := nth L.com.stg s
  L.modeOf s == 1 && L.stageLive s && !L.on (Reg.MEAS_STAT_OUT_OF_SERVICE.bit s) && c.coast.isNone &&
  c.floatAt.isNone && !c.barredArm && !c.barredMode

/-- Count the stages in service and select the shaping (R234): COM_STAT.OUT and SHAPE; AXLE has simplex shaping (R236). -/
def LaneSt.refreshService (L : LaneSt) : LaneSt :=
  let L := for3 (fun s L => L.put (Reg.COM_STAT_OUT.bit s) (!L.serves s)) L
  let n := (if L.serves 0 then 1 else 0) + (if L.serves 1 then 1 else 0) + (if L.serves 2 then 1 else 0)
  L.wr Reg.COM_STAT_SHAPE (if L.on Reg.COM_CFG_PROFILE && n != 0 then 2 else 3 - n)

/-- End a learning run with a result (R241). -/
def LaneSt.endLearn (L : LaneSt) (result : Nat) : LaneSt :=
  { ((L.wr Reg.COM_LEARN_STAT_RESULT result).put Reg.COM_STAT_LEARN false) with com := { L.com with learn := none } }

/-- A lane's RESYNC abandons a run that is under way or asked for (R242). -/
def LaneSt.learnResync (L : LaneSt) : LaneSt := if L.com.learn.isSome then L.endLearn 4 else L

/-- Reset of a lane's control state (R150, R159): commands, regulators, transfers and pending learning. -/
def LaneSt.resetControl (L : LaneSt) : LaneSt :=
  let L := L.learnResync
  { L with com := { L.com with
      posted := false, words := List.replicate 12 0#32, sent := List.replicate 12 0#32
      next := List.replicate 12 0#32, posts := []
      stg := .all ComStg.reset
      learn := none } }

/-- Enter RESYNC (R155); a lane in split mode stays in it until its next start (R134): claims 0, control state reset, messages carry RESYNC; the fault line returns to normal
when RESYNC is sent (R291). Lanes held SILENT stay so (R296). -/
def LaneSt.enterResync (L : LaneSt) : LaneSt :=
  if L.fc.hold then L
  else
    let L := (L.zeroClaims 7 2).resetControl
    let L := if L.on Reg.DBG_CHK_STAT_CORE_MODE then L.wr Reg.SYS_STATE_LANE_MODE 1
      else (L.wr Reg.SYS_STATE_LANE_MODE 2).wr Reg.AGR_RSYNC_PHASE 1
    let L := { L with
      fc := { L.fc with under3 := false, thermal := false, silentNext := false, line := 0 }
      agr := { L.agr with
        rsyncSent := none, nr := none, pkg := .all none, caughtUp := false, shadow := 0, shadowDis := 0, shadowTgt := 0, ownInvalid := 0 } }
    (L.endMask 0).driveFaultX

/-- Become SILENT (R295, R52): no votes, no claims, lane failed on the fault line, FAULT_x released; the supply-loss mask ends (R300). -/
def LaneSt.goSilent (L : LaneSt) : LaneSt :=
  let L := ((L.wr Reg.SYS_STATE_LANE_MODE 3).zeroClaims 7 2).endMask 1
  { L with fc := { L.fc with silentNext := false, line := 1, faultX := false } }

/-- Result of a request or transition (SYS_TRANS_STAT): result code, reason, block; SEQ counts up. -/
def LaneSt.report (L : LaneSt) (result : Nat) (reason : Nat := 0) (block : Nat := 0x1F) : LaneSt :=
  (((L.wr Reg.SYS_TRANS_STAT_RESULT result).wr Reg.SYS_TRANS_STAT_REASON reason).wr
    Reg.SYS_TRANS_STAT_BLOCK block).inc Reg.SYS_TRANS_STAT_SEQ

/-- SYS_SIBLING field of lane index `i`. -/
abbrev siblingFld (i : Nat) : Fld := ⟨0x40000034, 2 * i, 2⟩

/-- Stage `s` is assigned: some lane holds a claim on it in the ownership matrix (R63, R161). -/
def LaneSt.assigned (L : LaneSt) (s : Nat) : Bool := L.rd ⟨0x40030000, 9 * s, 9⟩ != 0

/-- Configured mode of SP port `i`: 0 off, 1 AUTO, 2 SENT, 3 PSI5. -/
def LaneSt.spMode (L : LaneSt) (i : Nat) : Nat :=
  if i = 0 then L.rd Reg.POS_SP_CFG_PORT1 % 4 else L.rd Reg.POS_SP_CFG_PORT2 % 4

/-- SP port `i`. -/
def LaneSt.sp (L : LaneSt) (i : Nat) : SpPort := if i = 0 then L.pos.sp1 else L.pos.sp2
def LaneSt.setSp (L : LaneSt) (i : Nat) (p : SpPort) : LaneSt :=
  if i = 0 then { L with pos := { L.pos with sp1 := p } } else { L with pos := { L.pos with sp2 := p } }

/-- Mode in which SP port `i` runs (R219): the one that FEEDBACK fixes, synchronous PSI5 until a frame shows otherwise, or the one
detected. -/
def LaneSt.spUse (L : LaneSt) (i : Nat) : Nat :=
  match L.spMode i with
  | 0 => 0
  | 1 => (L.sp i).mode
  | 2 => 1
  | _ => if (L.sp i).mode < 2 then 2 else (L.sp i).mode

/-- POS_SP_STAT field of port `i`. -/
abbrev spStat (i : Nat) : Fld := if i = 0 then Reg.POS_SP_STAT_PORT1 else Reg.POS_SP_STAT_PORT2

/-- SP port `i` is invalid from now on, until three valid frames in a row. -/
def LaneSt.spInvalid (L : LaneSt) (i : Nat) : LaneSt :=
  (L.setSp i { (L.sp i) with out := true, good := 0, bad := 0 }).put ((spStat i).bit 0) false

/-- Owner of stage `s` by STG_CFG.STO_SRC: 0 unassigned, 1 to 3 (R269). -/
def LaneSt.stoSrc (L : LaneSt) (s : Nat) : Nat := L.rd ⟨0x40080000, 24 + 2 * s, 2⟩

end Sys2Proof.Machine
end

