-- ==== Sys2Proof/Machine/Fpu.lean ====
section
/-! DEFINITION. The floating-point unit of the checked core: RV32F (R2), single precision of IEEE 754 as the RISC-V
unprivileged ISA uses it. A finite number is exact as a whole number times a power of two; every operation is exact and
is rounded once. -/
namespace Sys2Proof.Machine

/-- A finite number's sign, its whole number and the power of two it stands for. -/
structure FNum where
  neg : Bool
  m : Nat
  e : Int
deriving DecidableEq, Repr

/-- Exception flags of fcsr: inexact, underflow, overflow, division by zero, invalid. -/
abbrev fNX : Word := 1#32
abbrev fUF : Word := 2#32
abbrev fOF : Word := 4#32
abbrev fDZ : Word := 8#32
abbrev fNV : Word := 16#32

/-- The canonical NaN. -/
abbrev fNaN : Word := 0x7FC00000#32

/-- Sign, exponent and fraction of a word. -/
def fSign (w : Word) : Bool := w.getLsbD 31
def fExp (w : Word) : Nat := (w.extractLsb' 23 8).toNat
def fFrac (w : Word) : Nat := (w.extractLsb' 0 23).toNat

/-- The classes of a word. -/
def fIsNaN (w : Word) : Bool := fExp w == 255 && fFrac w != 0
def fIsSNaN (w : Word) : Bool := fIsNaN w && !w.getLsbD 22
def fIsInf (w : Word) : Bool := fExp w == 255 && fFrac w == 0
def fIsZero (w : Word) : Bool := fExp w == 0 && fFrac w == 0

/-- The number a finite word stands for. -/
def fUnpack (w : Word) : FNum :=
  if fExp w = 0 then ⟨fSign w, fFrac w, -149⟩ else ⟨fSign w, fFrac w + 0x800000, (fExp w : Int) - 150⟩

/-- The sign bit. -/
def fSignBit (neg : Bool) : Word := if neg then 0x80000000#32 else 0#32

/-- Zero, infinity and the largest finite number of a sign. -/
def fZero (neg : Bool) : Word := fSignBit neg
def fInf (neg : Bool) : Word := fSignBit neg ||| 0x7F800000#32
def fMax (neg : Bool) : Word := fSignBit neg ||| 0x7F7FFFFF#32

/-- Whether a magnitude `q` with the remainder `r` of `d` parts (and more below it, if `sticky`) is rounded up. Modes: 0 to nearest,
ties to even; 1 toward zero; 2 down; 3 up; 4 to nearest, ties away. -/
def fRoundsUp (rm : Nat) (neg : Bool) (q r d : Nat) (sticky : Bool) : Bool :=
  let inexact := r != 0 || sticky
  match rm with
  | 0 => decide (d < 2 * r) || (2 * r == d && (sticky || q % 2 == 1))
  | 1 => false
  | 2 => neg && inexact
  | 3 => !neg && inexact
  | _ => decide (d ≤ 2 * r)

/-- The word for overflow. -/
def fOverflow (rm : Nat) (neg : Bool) : Word :=
  match rm with
  | 1 => fMax neg
  | 2 => if neg then fInf true else fMax false
  | 3 => if neg then fMax true else fInf false
  | _ => fInf neg

/-- The magnitude `m` times 2^`e`, rounded to the quantum 2^`q`: the whole number of quanta, and whether it was inexact. -/
def fQuanta (rm : Nat) (neg : Bool) (m : Nat) (e q : Int) (sticky : Bool) : Nat × Bool :=
  if q ≤ e then (m * 2 ^ (e - q).toNat, sticky)
  else
    let d := 2 ^ (q - e).toNat
    let k := m / d
    let r := m % d
    (if fRoundsUp rm neg k r d sticky then k + 1 else k, r != 0 || sticky)

/-- Round a number to a word, with its flags. Tininess is judged after rounding. `sticky` says that the magnitude is a little above
`m` times 2^`e`; `m` then has more bits than a significand. -/
def fRound (rm : Nat) (x : FNum) (sticky : Bool) : Word × Word :=
  if x.m = 0 then (fZero x.neg, 0#32)
  else
    let top := x.e + (Nat.log2 x.m : Int)
    let q := max (top - 23) (-149)
    let r := fQuanta rm x.neg x.m x.e q sticky
    let (k, q) := if r.1 = 0x1000000 then (0x800000, q + 1) else (r.1, q)
    let free := fQuanta rm x.neg x.m x.e (top - 23) sticky
    let tiny := decide (top < -127) || (decide (top = -127) && decide (free.1 < 0x1000000))
    if 0x800000 ≤ k ∧ 104 < q then (fOverflow rm x.neg, fOF ||| fNX)
    else
      let bits := if k < 0x800000 then k else (q + 150).toNat * 0x800000 + (k - 0x800000)
      (fSignBit x.neg ||| BitVec.ofNat 32 bits, (if r.2 then fNX else 0#32) ||| (if tiny && r.2 then fUF else 0#32))

/-- The NaN result of an operation on words of which one is a NaN. -/
def fNanOf (l : List Word) : Word × Word := (fNaN, if l.any fIsSNaN then fNV else 0#32)

/-- The signed whole number of quanta 2^`q` in a finite number. -/
def fInt (x : FNum) (q : Int) : Int :=
  let n : Int := x.m * 2 ^ (x.e - q).toNat
  if x.neg then -n else n

/-- The exact sum of two finite numbers, rounded; an exact zero of unlike signs is positive but in mode 2. -/
def fSum (rm : Nat) (x y : FNum) : Word × Word :=
  let q := min x.e y.e
  let s := fInt x q + fInt y q
  if s = 0 then (fZero (if x.neg == y.neg then x.neg else rm == 2), 0#32)
  else fRound rm ⟨decide (s < 0), s.natAbs, q⟩ false

/-- Addition. -/
def fAdd (rm : Nat) (a b : Word) : Word × Word :=
  if fIsNaN a || fIsNaN b then fNanOf [a, b]
  else if fIsInf a then (if fIsInf b && fSign a != fSign b then (fNaN, fNV) else (a, 0#32))
  else if fIsInf b then (b, 0#32)
  else fSum rm (fUnpack a) (fUnpack b)

/-- The word with its sign changed. -/
def fNeg (a : Word) : Word := a ^^^ 0x80000000#32

/-- Multiplication. -/
def fMul (rm : Nat) (a b : Word) : Word × Word :=
  let neg := fSign a != fSign b
  if fIsNaN a || fIsNaN b then fNanOf [a, b]
  else if fIsInf a || fIsInf b then (if fIsZero a || fIsZero b then (fNaN, fNV) else (fInf neg, 0#32))
  else fRound rm ⟨neg, (fUnpack a).m * (fUnpack b).m, (fUnpack a).e + (fUnpack b).e⟩ false

/-- Division. -/
def fDiv (rm : Nat) (a b : Word) : Word × Word :=
  let neg := fSign a != fSign b
  if fIsNaN a || fIsNaN b then fNanOf [a, b]
  else if (fIsInf a && fIsInf b) || (fIsZero a && fIsZero b) then (fNaN, fNV)
  else if fIsInf a then (fInf neg, 0#32)
  else if fIsInf b then (fZero neg, 0#32)
  else if fIsZero b then (fInf neg, fDZ)
  else
    let n := (fUnpack a).m * 2 ^ 60
    let d := (fUnpack b).m
    fRound rm ⟨neg, n / d, (fUnpack a).e - (fUnpack b).e - 60⟩ (n % d != 0)

/-- The whole square root of a number below 2^88. -/
def natRoot (n : Nat) : Nat :=
  (List.range 44).foldl (fun r i => if (r + 2 ^ (43 - i)) * (r + 2 ^ (43 - i)) ≤ n then r + 2 ^ (43 - i) else r) 0

/-- Square root. -/
def fSqrt (rm : Nat) (a : Word) : Word × Word :=
  if fIsNaN a then fNanOf [a]
  else if fIsZero a then (a, 0#32)
  else if fSign a then (fNaN, fNV)
  else if fIsInf a then (a, 0#32)
  else
    let x := fUnpack a
    let m := (if x.e % 2 = 0 then x.m else 2 * x.m) * 2 ^ 60
    let r := natRoot m
    fRound rm ⟨false, r, x.e / 2 - 30⟩ (r * r != m)

/-- Fused multiply and add: a times b plus c, rounded once. -/
def fFma (rm : Nat) (a b c : Word) : Word × Word :=
  let neg := fSign a != fSign b
  let bad := (fIsInf a && fIsZero b) || (fIsZero a && fIsInf b)
  if fIsNaN a || fIsNaN b || fIsNaN c || bad then
    (fNaN, if [a, b, c].any fIsSNaN || bad then fNV else 0#32)
  else if fIsInf a || fIsInf b then (if fIsInf c && fSign c != neg then (fNaN, fNV) else (fInf neg, 0#32))
  else if fIsInf c then (c, 0#32)
  else fSum rm ⟨neg, (fUnpack a).m * (fUnpack b).m, (fUnpack a).e + (fUnpack b).e⟩ (fUnpack c)

/-- Order of two words that are no NaN: a below b; minus zero counts as below plus zero only where `zeros` says so. -/
def fLess (zeros : Bool) (a b : Word) : Bool :=
  let ka : Int := if fSign a then -((a &&& 0x7FFFFFFF#32).toNat : Int) else (a &&& 0x7FFFFFFF#32).toNat
  let kb : Int := if fSign b then -((b &&& 0x7FFFFFFF#32).toNat : Int) else (b &&& 0x7FFFFFFF#32).toNat
  decide (ka < kb) || (zeros && ka == kb && fSign a && !fSign b)

/-- Minimum and maximum: a number wins over a NaN. -/
def fMinMax (greater : Bool) (a b : Word) : Word × Word :=
  let fl := if fIsSNaN a || fIsSNaN b then fNV else 0#32
  let r := if fIsNaN a && fIsNaN b then fNaN
    else if fIsNaN a then b
    else if fIsNaN b then a
    else if fLess true a b != greater then a else b
  (r, fl)

/-- A truth value as a word. -/
def fBool (b : Bool) : Word := if b then 1#32 else 0#32

/-- Comparisons: equality is quiet, the others are not. -/
def fEq (a b : Word) : Word × Word :=
  if fIsNaN a || fIsNaN b then (0#32, if fIsSNaN a || fIsSNaN b then fNV else 0#32)
  else (fBool (!fLess false a b && !fLess false b a), 0#32)
def fLt (a b : Word) : Word × Word := if fIsNaN a || fIsNaN b then (0#32, fNV) else (fBool (fLess false a b), 0#32)
def fLe (a b : Word) : Word × Word := if fIsNaN a || fIsNaN b then (0#32, fNV) else (fBool (!fLess false b a), 0#32)

/-- The class of a word, one of ten bits. -/
def fClass (a : Word) : Word :=
  let n := fSign a
  let k := if fIsSNaN a then 8
    else if fIsNaN a then 9
    else if fIsInf a then (if n then 0 else 7)
    else if fIsZero a then (if n then 3 else 4)
    else if fExp a = 0 then (if n then 2 else 5)
    else if n then 1 else 6
  1#32 <<< k

/-- Conversion to an integer from `lo` to `hi`; what does not fit gives the nearer end and is invalid, a NaN the upper end. -/
def fToInt (rm : Nat) (a : Word) (lo hi : Int) : Word × Word :=
  if fIsNaN a then (BitVec.ofInt 32 hi, fNV)
  else if fIsInf a then (BitVec.ofInt 32 (if fSign a then lo else hi), fNV)
  else
    let x := fUnpack a
    let r := fQuanta rm x.neg x.m x.e 0 false
    let i : Int := if x.neg then -(r.1 : Int) else r.1
    if i < lo then (BitVec.ofInt 32 lo, fNV)
    else if hi < i then (BitVec.ofInt 32 hi, fNV)
    else (BitVec.ofInt 32 i, if r.2 then fNX else 0#32)

/-- Conversion from an integer. -/
def fFromInt (rm : Nat) (i : Int) : Word × Word := fRound rm ⟨decide (i < 0), i.natAbs, 0⟩ false

/-- Sign injection: the magnitude of `a` under the sign `neg`. -/
def fInject (a : Word) (neg : Bool) : Word := (a &&& 0x7FFFFFFF#32) ||| fSignBit neg

/-- The unit: result and flags of an operation in the rounding mode `rm`. -/
def fpuExec (op : FpuOp) (rm : Nat) (a b c : Word) : Word × Word :=
  match op with
  | .add => fAdd rm a b
  | .sub => fAdd rm a (if fIsNaN b then b else fNeg b)
  | .mul => fMul rm a b
  | .div => fDiv rm a b
  | .sqrt => fSqrt rm a
  | .sgnj => (fInject a (fSign b), 0#32)
  | .sgnjn => (fInject a (!fSign b), 0#32)
  | .sgnjx => (fInject a (fSign a != fSign b), 0#32)
  | .min => fMinMax false a b
  | .max => fMinMax true a b
  | .madd => fFma rm a b c
  | .msub => fFma rm a b (if fIsNaN c then c else fNeg c)
  | .nmsub => fFma rm (if fIsNaN a then a else fNeg a) b c
  | .nmadd => fFma rm (if fIsNaN a then a else fNeg a) b (if fIsNaN c then c else fNeg c)
  | .cvtWS => fToInt rm a (-2147483648) 2147483647
  | .cvtWUS => fToInt rm a 0 4294967295
  | .cvtSW => fFromInt rm a.toInt
  | .cvtSWU => fFromInt rm a.toNat
  | .eq => fEq a b
  | .lt => fLt a b
  | .le => fLe a b
  | .cls => (fClass a, 0#32)

/-- The unit with its first two ports swapped: it restores the order of the operands (R114). -/
def fpuSwapped (op : FpuOp) (rm : Nat) (port1 port2 c : Word) : Word × Word := fpuExec op rm port2 port1 c

/-- Lamb's use of the unit: true operands on swapped ports, result and flags complemented (R114). -/
def lambFpu (op : FpuOp) (rm : Nat) (na nb nc : Word) : Word × Word :=
  let r := fpuSwapped op rm (~~~nb) (~~~na) (~~~nc)
  (~~~r.1, ~~~r.2)

/-- The operation reads its first operand from an integer register; it writes an integer register; it rounds. -/
def fpuFromInt : FpuOp → Bool
  | .cvtSW | .cvtSWU => true
  | _ => false
def fpuToInt : FpuOp → Bool
  | .cvtWS | .cvtWUS | .eq | .lt | .le | .cls => true
  | _ => false
def fpuRounds : FpuOp → Bool
  | .sgnj | .sgnjn | .sgnjx | .min | .max | .eq | .lt | .le | .cls => false
  | _ => true

end Sys2Proof.Machine
end

