-- ==== Sys2Proof/Machine/Keccak.lean ====
section
/-! DEFINITION. The crypto engine's hash functions (R2): Keccak-f[1600], SHAKE256 (FIPS 202) and KMAC128 (NIST SP 800-185), on
byte strings. A state is 25 words of 64 bits, word x + 5 y being the standard's lane (x, y). -/
namespace Sys2Proof.Machine

/-- A word of the state, a number below 2^64. -/
abbrev KWord := Nat

/-- Word `i` of a state. -/
def kGet : List KWord → Nat → KWord
  | [], _ => 0
  | w :: _, 0 => w
  | _ :: s, i + 1 => kGet s i

/-- Rotation of a word to the left. -/
def kRot (w n : Nat) : KWord := (w <<< n) % 0x10000000000000000 ||| (w >>> (64 - n))

/-- Rotation offsets of the step rho, by word. -/
def kRho : List Nat :=
  [0, 1, 62, 28, 27, 36, 44, 6, 55, 20, 3, 10, 43, 25, 39, 41, 45, 15, 21, 8, 18, 2, 61, 56, 14]

/-- Where the step pi takes word i from. -/
def kPi : List Nat :=
  [0, 6, 12, 18, 24, 3, 9, 10, 16, 22, 1, 7, 13, 19, 20, 4, 5, 11, 17, 23, 2, 8, 14, 15, 21]

/-- Round constants of the step iota. -/
def kIota : List KWord :=
  [0x0000000000000001, 0x0000000000008082, 0x800000000000808A, 0x8000000080008000,
   0x000000000000808B, 0x0000000080000001, 0x8000000080008081, 0x8000000000008009,
   0x000000000000008A, 0x0000000000000088, 0x0000000080008009, 0x000000008000000A] ++
  [0x000000008000808B, 0x800000000000008B, 0x8000000000008089, 0x8000000000008003,
   0x8000000000008002, 0x8000000000000080, 0x000000000000800A, 0x800000008000000A,
   0x8000000080008081, 0x8000000000008080, 0x0000000080000001, 0x8000000080008008]

/-- Exclusive or of two states, word by word; a missing word of the second is 0. -/
def kXor : List KWord → List KWord → List KWord
  | [], _ => []
  | a, [] => a
  | a :: s, b :: t => (a ^^^ b) :: kXor s t

/-- Theta: every word takes the parities of two columns. -/
def kTheta (s : List KWord) : List KWord :=
  let c := kXor (s.take 5) (kXor ((s.drop 5).take 5) (kXor ((s.drop 10).take 5) (kXor ((s.drop 15).take 5) (s.drop 20))))
  let d := [0, 1, 2, 3, 4].map fun x => kGet c ((x + 4) % 5) ^^^ kRot (kGet c ((x + 1) % 5)) 1
  kXor s (d ++ d ++ d ++ d ++ d)

/-- Rho and pi: rotate each word and move it. -/
def kRhoPi (s : List KWord) : List KWord :=
  let r := s.zipWith kRot kRho
  kPi.map (kGet r)

/-- Chi, on one row of five words: the one nonlinear step. -/
def kRow : List KWord → List KWord
  | [a, b, c, d, e] =>
    let n := fun (w : KWord) => 0xFFFFFFFFFFFFFFFF ^^^ w
    [a ^^^ (n b &&& c), b ^^^ (n c &&& d), c ^^^ (n d &&& e), d ^^^ (n e &&& a), e ^^^ (n a &&& b)]
  | s => s

/-- Chi. -/
def kChi (s : List KWord) : List KWord :=
  kRow (s.take 5) ++ kRow ((s.drop 5).take 5) ++ kRow ((s.drop 10).take 5) ++ kRow ((s.drop 15).take 5) ++ kRow (s.drop 20)

/-- One round. -/
def kRound (s : List KWord) (c : KWord) : List KWord := kXor (kChi (kRhoPi (kTheta s))) [c]

/-- Keccak-f[1600]. -/
def keccakF (s : List KWord) : List KWord := kIota.foldl kRound s

/-- The word of eight little-endian bytes. -/
def kWordOf (bs : List Byte) : KWord := bs.foldr (fun b n => b.toNat + 256 * n) 0

/-- The first `n` words of a byte string. -/
def kWords : Nat → List Byte → List KWord
  | 0, _ => []
  | n + 1, bs => kWordOf (bs.take 8) :: kWords n (bs.drop 8)

/-- The bytes of words. -/
def kBytes (s : List KWord) : List Byte := s.flatMap fun w => (List.range 8).map fun i => BitVec.ofNat 8 (w / 256 ^ i)

/-- Absorb `k` blocks of `rate` words. -/
def kAbsorb (rate : Nat) : Nat → List KWord → List Byte → List KWord
  | 0, s, _ => s
  | k + 1, s, bs => kAbsorb rate k (keccakF (kXor s (kWords rate bs))) (bs.drop (8 * rate))

/-- Squeeze `k` blocks of `rate` words. -/
def kSqueeze (rate : Nat) : Nat → List KWord → List Byte
  | 0, _ => []
  | k + 1, s => kBytes (s.take rate) ++ kSqueeze rate k (keccakF s)

/-- The sponge: `rate` words, domain byte `pad`, `n` bytes of output. -/
def kSponge (rate : Nat) (pad : Byte) (m : List Byte) (n : Nat) : List Byte :=
  let r := 8 * rate
  let z := r - 1 - m.length % r
  let tail : List Byte := if z = 0 then [pad ||| 0x80#8] else pad :: (List.replicate (z - 1) 0#8 ++ [0x80#8])
  let p := m ++ tail
  (kSqueeze rate ((n + r - 1) / r) (kAbsorb rate (p.length / r) (List.replicate 25 0) p)).take n

/-- SHAKE256 (R105, R397, R419, R420): `n` bytes. -/
def shake256 (n : Nat) (m : List Byte) : List Byte := kSponge 17 0x1F#8 m n

/-- The bytes of a number, most significant first, without leading zeros but at least one. -/
def beBytes (x : Nat) : List Byte :=
  let bs := ((List.range 4).map fun i => BitVec.ofNat 8 (x / 256 ^ (3 - i)))
  match bs.dropWhile (· == 0#8) with
  | [] => [0#8]
  | l => l

/-- left_encode and right_encode of SP 800-185. -/
def leftEncode (x : Nat) : List Byte := BitVec.ofNat 8 (beBytes x).length :: beBytes x
def rightEncode (x : Nat) : List Byte := beBytes x ++ [BitVec.ofNat 8 (beBytes x).length]

/-- encode_string, and bytepad to blocks of `w` bytes. -/
def encodeString (s : List Byte) : List Byte := leftEncode (8 * s.length) ++ s
def bytepad (w : Nat) (x : List Byte) : List Byte :=
  let y := leftEncode w ++ x
  y ++ List.replicate ((w - y.length % w) % w) 0#8

/-- KMAC128 of a message under a key, `n` bytes, with the customization string `c`. -/
def kmac128 (key m : List Byte) (n : Nat) (c : List Byte) : List Byte :=
  let name : List Byte := [0x4B#8, 0x4D#8, 0x41#8, 0x43#8]
  let x := bytepad 168 (encodeString key) ++ m ++ rightEncode (8 * n)
  kSponge 21 0x04#8 (bytepad 168 (encodeString name ++ encodeString c) ++ x) n

/-- KMACXOF128 of a message under a key, `n` bytes, with the customization string `c`. -/
def kmacxof128 (key m : List Byte) (n : Nat) (c : List Byte) : List Byte :=
  let name : List Byte := [0x4B#8, 0x4D#8, 0x41#8, 0x43#8]
  let x := bytepad 168 (encodeString key) ++ m ++ rightEncode 0
  kSponge 21 0x04#8 (bytepad 168 (encodeString name ++ encodeString c) ++ x) n

/-- A tag: KMAC128 with 64 bits of output and the customization `c` (log entry 96); an empty slot makes none. -/
def tag64 (key m c : List Byte) : BitVec 64 := if key.isEmpty then 0 else BitVec.ofNat 64 (kWordOf (kmac128 key m 8 c))

/-- The bytes of an ASCII string. -/
def ascii (x : String) : List Byte := x.toList.map fun c => BitVec.ofNat 8 c.toNat

end Sys2Proof.Machine
end

