-- ==== Sys2Proof/Machine/Nvm.lean ====
section
/-! DEFINITION. Non-volatile operations: the Tally (R105), the retention save and restore (R73 to R77), and what a lane
keeps through PARK and through loss of power. -/
namespace Sys2Proof.Machine

/-- Little-endian bytes of a number. -/
def leBytes : Nat → Nat → List Byte
  | 0, _ => []
  | k + 1, n => BitVec.ofNat 8 n :: leBytes k (n / 256)

/-- The lane's time is Flock global time: its keeper is SYNCED, and not on local time (R326). -/
def LaneSt.flockTime (L : LaneSt) : Bool := L.flk.keeper.st == 3 && !L.flk.keeper.onLocal

/-- TIME of a Tally entry: global time, or the count of the 32.768 kHz always-on clock, which the model lets begin at its time 0
(log entry 105). -/
def LaneSt.tallyTime (L : LaneSt) : Nat := if L.flockTime then L.time else L.time * 32768 / 1000000000

/-- Bytes 0 to 31 of a Tally entry (R105). FLAGS bit 0: TIME is Flock global time; bit 1: change refused. -/
def tallyHead (L : LaneSt) (l : Lane) (typ requester : Nat) (detail : List Byte) (no : Bool) : List Byte :=
  leBytes 4 L.nvm.tallySeq ++ leBytes 2 typ ++ leBytes 1 (laneIx l + 1) ++
  leBytes 1 ((if no then 2 else 0) + if L.flockTime then 1 else 0) ++
  leBytes 4 (L.rd Reg.SEC_BOOTCNT_COUNT) ++ leBytes 4 requester ++ leBytes 8 L.tallyTime ++
  (detail ++ List.replicate 8 0#8).take 8

/-- Append a Tally entry (R105): the ring of 1,024 entries of 64 bytes; the LINK of an overwritten entry becomes the
ANCHOR. -/
def LaneSt.tally (L : LaneSt) (l : Lane) (typ : Nat) (requester : Nat := 0) (detail : List Byte := [])
    (no : Bool := false) : LaneSt :=
  let a := 0x106A0000 + 64 * (L.nvm.tallySeq % 1024)
  let head := tallyHead L l typ requester detail no
  let prev := if L.nvm.tallySeq = 0 then shake256 32 (Config.identityKey (laneIx l)) else L.nvm.tallyLink
  let link := shake256 32 (prev ++ head)
  let anchor := if 1024 ≤ L.nvm.tallySeq then L.bytes (a + 32) 32 else L.nvm.anchor
  let L := L.setBytes a (head ++ link)
  { L with nvm := { L.nvm with tallySeq := L.nvm.tallySeq + 1, tallyLink := link, anchor := anchor } }

/-! ## Retention (R73 to R76) -/

/-- Fields of a retention entry (R73): domain, PARK, CHURN, partition, register address. -/
def retDomain (e : Word) : Nat := e.toNat / 2 ^ 28
def retPark (e : Word) : Bool := e.getLsbD 27
def retChurn (e : Word) : Bool := e.getLsbD 26
def retPartition (e : Word) : Nat := (e.toNat / 2 ^ 23) % 8
def retAddr (e : Word) : Nat := 0x40000000 + (e.toNat / 4 % 2 ^ 20) * 4

/-- Entry `n` of the list. -/
def LaneSt.retEntry (L : LaneSt) (n : Nat) : Word := L.reg (0x40000800 + 4 * n)

/-- Entry `n` is in use: the user's entries only up to USER_COUNT (R73). -/
def LaneSt.retUsed (L : LaneSt) (n : Nat) : Bool :=
  decide (n < 384) || decide (n < 384 + L.rd Reg.SYS_RET_CFG_USER_COUNT)

/-- The entries saved on entry to PARK for domain `d`, in ascending order. -/
def LaneSt.parkEntries (L : LaneSt) (d : Nat) : List Nat :=
  (List.range 512).filter fun n => L.retUsed n && retPark (L.retEntry n) && retDomain (L.retEntry n) == d

/-- CRC-32C over the saved values of domain `d` (R75). -/
def LaneSt.parkCrc (L : LaneSt) (d : Nat) : Word :=
  crc32c ((L.parkEntries d).flatMap fun n => wordBytes (L.word (0x2800F000 + 4 * n)))

/-- The save engine on entry to PARK (R75). -/
def LaneSt.parkSave (L : LaneSt) : LaneSt :=
  let L := ([1, 2, 3, 4].flatMap L.parkEntries).foldl
    (fun M n => M.setWord (0x2800F000 + 4 * n) (M.reg (retAddr (M.retEntry n)))) L
  [1, 2, 3, 4].foldl (fun M d => M.setWord (0x2800FFF0 + 4 * (d - 1)) (M.parkCrc d)) L

/-- The register at `a` belongs to the block at `base`. -/
def inBlock (a base : Nat) : Bool := a / 0x10000 == base / 0x10000

/-- Domain of a register that keeps its value in PARK and is none of the always-on domain's or the key store's (R72): the debug block
in CPU, the mailboxes in SHP, the fault collector and the Churn controller in ENG; else 0. -/
def keptDomain (a : Nat) : Nat :=
  if inBlock a 0x40110000 then 1 else if inBlock a 0x400F0000 then 2 else if inBlock a 0x40010000 || inBlock a 0x400D0000 then 3 else 0

/-- The registers of domain `d` that PARK kept take their reset values (R76). -/
def LaneSt.coldInit (L : LaneSt) (d : Nat) : LaneSt :=
  { L with regs := L.regs.filter (fun e => keptDomain e.1 ≠ d), snap := L.snap.filter fun e => keptDomain e.1 ≠ d }

/-- Restore domain `d` on wake (R75, R76): write the values back if the CRC matches, else flag the domain and raise
0x0401; its registers then have their reset values. -/
def LaneSt.restoreDomain (L : LaneSt) (intact : Bool) (d : Nat) : LaneSt :=
  if intact && L.word (0x2800FFF0 + 4 * (d - 1)) == L.parkCrc d then
    (L.parkEntries d).foldl (fun M n => M.setReg (retAddr (M.retEntry n)) (M.word (0x2800F000 + 4 * n))) L
  else ((L.coldInit d).put (Reg.SYS_RET_STAT_CRC_FAIL.bit (d - 1)) true).raise 0x0401

/-! ## What is kept when domains lose power -/

/-- Kept without any supply: the key-store items that the SEC block shows. -/
def keepOff (a : Nat) : Bool := inBlock a 0x400E0000

/-- Kept in PARK: the state controller, the key store, and what a table says is cleared at cold boot only. -/
def keepPark (a : Nat) : Bool :=
  inBlock a 0x40000000 || keepOff a || a == 0x40110004 || a == 0x40110008 || (decide (0x40010044 ≤ a) &&
  decide (a < 0x40010080)) || [0x40010020, 0x400D000C, 0x400D0010, 0x400D001C, 0x400F0018].contains a

/-- Memory kept without any supply: MRAM. -/
def memOff (a : Nat) : Bool := decide (0x10000000 ≤ a) && decide (a < 0x10800000)

/-- Memory kept in PARK: MRAM and retention SRAM (R72). -/
def memPark (a : Nat) : Bool := memOff a || (decide (0x28000000 ≤ a) && decide (a < 0x28010000))

/-- Engines, cores and interfaces lose their state; what `keep` and `keepMem` name stays. -/
def LaneSt.powerDown (L : LaneSt) (keep keepMem : Nat → Bool) : LaneSt :=
  let L := L.resetRegs keep
  { L with
    mem := L.mem.filter fun e => keepMem e.1
    shepMem := []
    fc := { FcSt.reset with nextRec := L.fc.nextRec, log := L.fc.log, logDone := L.fc.logDone, nextLog := L.fc.nextLog, faultX := false }
    agr := AgrSt.reset
    meas := { MeasSt.reset with cal := L.meas.cal, calBad := L.meas.calBad }
    pos := PosSt.reset
    com := { ComSt.reset with motor := L.com.motor }
    safe := SafeSt.reset
    chn := ChnSt.reset
    mbx := { MbxSt.reset with hosts := L.mbx.hosts }
    sec := { L.sec with challenge := none, meas := [] }
    core := CoreSt.reset
    flk := { FlkSt.reset with
      sched := L.flk.sched, digest := L.flk.digest, grazeBuf := L.flk.grazeBuf, mbxBufs := L.flk.mbxBufs, mbxWins := L.flk.mbxWins }
    can1 := CanSt.reset
    can2 := CanSt.reset
    aux := { AuxSt.reset with parked := L.aux.parked } }

end Sys2Proof.Machine
end

