-- ==== Sys2Proof/Machine/Schedule.lean ====
section
/-! DEFINITION. The items of an image that no register holds, and the Flock schedule among them: its entries, its digest and the rules
that it must keep (R327 to R330). -/
namespace Sys2Proof.Machine

/-- Value of an image item, by its register or place (log entry 23). -/
def imgItem (regs : List (Nat × Word)) (a : Nat) : Option Nat := (regs.find? fun e => e.1 == a).map (·.2.toNat)

/-- The word that an image gives the register at `a`, or its reset value. -/
def imgWord (regs : List (Nat × Word)) (a : Nat) : Nat := (imgItem regs a).getD (resetWord a).toNat

/-- The number of `n` little-endian bytes. -/
def leNum (bs : List Byte) : Nat := bs.foldr (fun b n => b.toNat + 256 * n) 0

/-! ## The schedule (R327) -/

/-- A schedule entry. -/
structure Win where
  start : Nat
  len : Nat
  typ : Nat
  sender : Nat
  maxlen : Nat

/-- Entry of window `w` at matrix position `m` on a channel. -/
def winOf (sched : Cells Word) (chY : Bool) (m w : Nat) : Win :=
  let e := (if chY then 6144 else 0) + 2 * (48 * m + w)
  let a := (cellGet (fun _ => 0#32) sched e).toNat
  let b := (cellGet (fun _ => 0#32) sched (e + 1)).toNat
  { start := a % 0x1000, len := a / 0x1000 % 0x1000, typ := a / 0x1000000 % 8, sender := b % 0x100, maxlen := b / 0x100 % 0x800 }

/-- Window types of R327. -/
abbrev wExclusive : Nat := 1
abbrev wArb : Nat := 2
abbrev wSync : Nat := 3
abbrev wCommand : Nat := 4
abbrev wChurn : Nat := 5

/-- The schedule words of an image, and its digest (R327, R330). -/
def imgSched (regs : List (Nat × Word)) : Cells Word :=
  (regs.filter fun e => decide (0x50000000 ≤ e.1) && decide (e.1 < 0x5000C000)).foldl
    (fun m e => cellPut (fun _ => 0#32) m ((e.1 - 0x50000000) / 4) e.2) []
def schedDigest (s : Cells Word) : BitVec 64 :=
  let bs := shake256 8 ((List.range 12288).flatMap fun i => wordBytes (cellGet (fun _ => 0#32) s i))
  BitVec.ofNat 64 (bs.foldr (fun b n => b.toNat + 256 * n) 0)

/-! ## The rules of a schedule (R329) -/

/-- The window overlaps macroticks 1,000 to 1,500, fast-task slot 2. -/
def inSlot2 (w : Win) : Bool := decide (w.start < 1500) && decide (1000 < w.start + w.len)

/-- A source 1 to 3 is a lane (R331). -/
def laneSender (id : Nat) : Bool := decide (1 ≤ id % 8) && decide (id % 8 ≤ 3)

/-- Frame time of rule 3 in tenths of a nanosecond, at the sender's attachment: a satellite, a lane, or a guardian at the design rate. -/
def schedFrameTime (rate : Nat) (w : Win) : Nat :=
  let bits := (max w.maxlen 14 + 70) * 8
  let src := w.sender % 8
  if 4 ≤ src then bits * 100
  else if 1 ≤ src then bits * 10
  else match rate with
    | 0 => bits * 100
    | 1 => bits * 10
    | _ => bits * 4

/-- Rules 2 to 7 for one used window of matrix position `m`, and the ranges of its fields. -/
def winOk (cfg m : Nat) (w : Win) : Bool :=
  let margin := cfg / 0x10000 % 512
  let node := cfg % 32
  decide (w.start ≤ 2499) && decide (20 ≤ w.len) && decide (w.maxlen ≤ 1024) && decide (w.start + w.len ≤ 2390) && decide (w.typ < 6) &&
  (w.typ == wArb || decide (schedFrameTime (cfg / 0x1000 % 4) w + 20 * margin ≤ w.len * 1000)) &&
  (w.typ != wSync || (decide (w.start + w.len ≤ 2000) && !inSlot2 w && laneSender w.sender &&
    (w.sender / 8 != node || cfg / 0x100 % 2 == 1))) &&
  (w.typ == wArb || !laneSender w.sender || !inSlot2 w || w.typ == wChurn) &&
  (w.typ != wArb || w.sender == 0) && (m != 0 || decide (30 ≤ w.start))

/-- Rule 1 for two windows of one position. -/
def winsApart (a b : Win) : Bool := decide (a.start + a.len + 10 ≤ b.start) || decide (b.start + b.len + 10 ≤ a.start)

/-- Rule 1: every two windows of a list keep the gap. -/
def allApart : List Win → Bool
  | [] => true
  | a :: ws => ws.all (winsApart a) && allApart ws

/-- The windows used at a matrix position of a channel. -/
def usedWins (sched : Cells Word) (chY : Bool) (m : Nat) : List Win :=
  ((List.range 48).map fun w => winOf sched chY m w).filter fun w => w.typ != 0

/-- Reserved bits of an entry's words are 0, and so are LEN and SENDER of an IDLE entry (R327). -/
def entriesOk (sched : Cells Word) : Bool :=
  sched.all fun e =>
    if e.1 % 2 = 0 then e.2.toNat < 0x8000000 && (e.2.toNat / 0x1000000 != 0 || e.2.toNat / 0x1000 == 0)
    else e.2.toNat < 0x80000 && (e.2.toNat % 0x100 == 0 || (cellGet (fun _ => 0#32) sched (e.1 - 1)).toNat / 0x1000000 % 8 != 0)

/-- The schedule of an image keeps R329. Nodes that send SYNC stand for the nodes that set SYNC_NODE, which other modules' images hold
(log entry 120). -/
def scheduleOk (regs : List (Nat × Word)) : Bool :=
  let sched := imgSched regs
  let cfg := imgWord regs 0x40090000
  let each := fun (f : Bool → Nat → Bool) => [false, true].all fun c => (List.range 64).all (f c)
  let nodes := [false, true].flatMap fun c => (List.range 64).flatMap fun m =>
    ((usedWins sched c m).filter fun w => w.typ == wSync).map fun w => w.sender / 8
  decide ((imgItem regs 0x5010031C).getD 0 ≤ 16) &&
  (sched.isEmpty || (entriesOk sched && each (fun c m => (usedWins sched c m).all (winOk cfg m) && allApart (usedWins sched c m)) &&
    decide (nodes.eraseDups.length ≤ 4)))

end Sys2Proof.Machine
end

