-- ==== Sys2Proof/Machine/Image.lean ====
section
/-! DEFINITION. The MRAM data region (R96): the Malxa slots and the bytes of an image in them (R97, R98), the slot and bank control
records (R93, R102), the learned calibration and the log. Where the spec gives a record no layout, log entry 21 gives the model's. -/
namespace Sys2Proof.Machine

/-! ## Slots and images (R96, R97) -/

/-- Slot `b` (true: slot 1) and its base. -/
def slotBase (b : Bool) : Nat := if b then 0x10640000 else 0x10600000
def LaneSt.slot (L : LaneSt) (b : Bool) : Slot := if b then L.nvm.slot1 else L.nvm.slot0
def LaneSt.setSlot (L : LaneSt) (b : Bool) (x : Slot) : LaneSt :=
  if b then { L with nvm := { L.nvm with slot1 := x } } else { L with nvm := { L.nvm with slot0 := x } }

/-- Erase a range of memory. -/
def LaneSt.eraseMem (L : LaneSt) (a n : Nat) : LaneSt :=
  { L with mem := L.mem.filter fun e => decide (e.1 < a) || decide (a + n ≤ e.1) }

/-- The number at offset `o` of the image in slot `b`, `n` bytes long. -/
def LaneSt.imgNum (L : LaneSt) (b : Bool) (o n : Nat) : Nat := leNum (L.bytes (slotBase b + o) n)

/-- LENGTH and IMAGE_SEQ. -/
def LaneSt.imgLength (L : LaneSt) (b : Bool) : Nat := L.imgNum b 0x08 4
def LaneSt.imgSeq (L : LaneSt) (b : Bool) : Nat := L.imgNum b 0x0C 4

/-- The directory entries in use: group ID, offset, length. -/
def LaneSt.imgGroups (L : LaneSt) (b : Bool) : List (Nat × Nat × Nat) :=
  (List.range (min (L.imgNum b 0x06 2) 16)).map fun i =>
    (L.imgNum b (0x40 + 12 * i) 2, L.imgNum b (0x44 + 12 * i) 4, L.imgNum b (0x48 + 12 * i) 4)

/-- The 32 bytes of the image's digest, the last before LENGTH. -/
def LaneSt.imgDigestBytes (L : LaneSt) (b : Bool) : List Byte := L.bytes (slotBase b + (L.imgLength b - 32)) 32

/-- The words of a byte string. -/
def wordsOf : List Byte → List Word
  | a :: b :: c :: d :: r => bytesWord [a, b, c, d] :: wordsOf r
  | [] => []
  | r => [bytesWord r]

/-- The digest as eight words. -/
def LaneSt.imgDigest (L : LaneSt) (b : Bool) : List Word := wordsOf (L.imgDigestBytes b)

/-- MAGIC, FORMAT, GROUPS and LENGTH are as R97 says, and the directory's groups follow each other up to the digest. -/
def LaneSt.imgHeadOk (L : LaneSt) (b : Bool) : Bool :=
  let gs := L.imgGroups b
  let n := L.imgNum b 0x06 2
  let len := L.imgLength b
  L.bytes (slotBase b) 4 == [0x4D#8, 0x4C#8, 0x58#8, 0x41#8] && [1, 2].contains (L.imgNum b 0x04 2) &&
  decide (1 ≤ n) && decide (n ≤ 16) && decide (0x100 + 32 ≤ len) && decide (len ≤ 0x40000 - 3309) &&
  gs.all (fun g => decide (0x100 ≤ g.2.1) && decide (g.2.1 + g.2.2 + 32 ≤ len)) &&
  (gs.zip gs.tail).all (fun p => decide (p.1.2.1 + p.1.2.2 ≤ p.2.2.1))

/-- The digest covers offset 0 to the last byte of the last group (R97). -/
def LaneSt.imgDigestOk (L : LaneSt) (b : Bool) : Bool :=
  shake256 32 (L.bytes (slotBase b) (L.imgLength b - 32)) == L.imgDigestBytes b

/-- OWNER_KEY is the digest of the owner public key in the key store. -/
def LaneSt.imgOwnerOk (L : LaneSt) (b : Bool) : Bool :=
  L.on Reg.SEC_KEY_STAT_OWNER && L.bytes (slotBase b + 0x18) 32 == shake256 32 L.sec.keys.owner

/-- MODULE_ID is 0 or this module's serial number. -/
def LaneSt.imgModuleOk (L : LaneSt) (b : Bool) : Bool :=
  L.imgNum b 0x10 8 == 0 || L.imgNum b 0x10 8 == Config.serial.toNat

/-- Every mandatory group, IDs 1 to 6, is present (R99). -/
def LaneSt.imgGroupsOk (L : LaneSt) (b : Bool) : Bool :=
  [1, 2, 3, 4, 5, 6].all fun g => (L.imgGroups b).any fun e => e.1 == g

/-- The bytes of group `g` of slot `b`, if present. -/
def LaneSt.groupBytes (L : LaneSt) (b : Bool) (g : Nat) : Option (List Byte) :=
  ((L.imgGroups b).find? fun e => e.1 == g).map fun e => L.bytes (slotBase b + e.2.1) e.2.2

/-- Fields of registers loaded from the image whose tables state a range: address, place, width, least, most. -/
def imgRanges : List (Nat × Nat × Nat × Nat × Nat) :=
  [(0x40030008, 0, 8, 8, 255), (0x40050014, 4, 4, 1, 15), (0x4005002C, 0, 8, 1, 200), (0x40050034, 16, 8, 1, 255),
   (0x40050034, 12, 4, 1, 15), (0x40050040, 20, 6, 1, 63), (0x40050040, 14, 6, 5, 45), (0x40050040, 0, 6, 8, 32),
   (0x40060004, 16, 12, 1, 1500), (0x40060004, 10, 2, 0, 2), (0x40060010, 16, 16, 0, 32768), (0x40060010, 0, 16, 0, 32768),
   (0x40060014, 0, 16, 0, 32768), (0x40060018, 16, 16, 0x1000, 0x3000), (0x40060018, 0, 16, 0x1000, 0x1800)] ++
  [(0x4006001C, 8, 8, 5, 100), (0x4006001C, 0, 8, 1, 255), (0x40060028, 0, 8, 56, 120), (0x4006002C, 24, 8, 8, 255),
   (0x40080000, 16, 8, 70, 120), (0x40080000, 0, 6, 10, 40), (0x40090000, 16, 9, 100, 450), (0x400C0000, 24, 8, 1, 255),
   (0x400C0000, 16, 8, 0, 100), (0x400C0000, 0, 12, 100, 2830), (0x400C0004, 24, 6, 2, 32), (0x400C0004, 30, 2, 0, 2)] ++
  ((List.range 64).map fun n => (0x40061400 + 4 * n, 0, 16, 0, 32768)) ++
  (List.range 3).flatMap fun n => [(Reg.COM_AXLE_CFG_ANG_FIELD n |>.addr, 0, 6, 8, 35), (Reg.COM_AXLE_CFG_ANG_FIELD n |>.addr, 8, 6, 8, 35)]

/-- VSTART and VSTOP do not exceed VMAX (R436). -/
def axisOk (regs : List (Nat × Word)) : Bool :=
  let v := imgWord regs 0x400C000C
  let vmax := imgWord regs 0x400C0010 % 0x100000
  decide (v % 0x10000 ≤ vmax) && decide (v / 0x10000 % 0x10000 ≤ vmax)

/-- T_TRIP is at least 10 K above T_WARN (R456), where the image gives them. -/
def motorOk (regs : List (Nat × Word)) : Bool :=
  match imgItem regs 0x50100300, imgItem regs 0x50100304 with
  | some w, some x => decide (w + 10 ≤ x)
  | _, _ => true

/-- A field lies in its range, or keeps its reset value (log entry 109). -/
def imgFieldOk (regs : List (Nat × Word)) (x : Nat × Nat × Nat × Nat × Nat) : Bool :=
  match imgItem regs x.1 with
  | none => true
  | some w =>
    let f : Fld := ⟨x.1, x.2.1, x.2.2.1⟩
    let v := f.get (BitVec.ofNat 32 w)
    v == f.get (resetWord x.1) || (decide (x.2.2.2.1 ≤ v) && decide (v ≤ x.2.2.2.2))

/-- The non-zero claims on each stage differ from each other (R161). -/
def matrixOk (m : Nat) : Bool :=
  [0, 1, 2].all fun s =>
    let c := fun (l : Nat) => m / 2 ^ (9 * s + 3 * l) % 8
    let apart := fun (a b : Nat) => a == 0 || b == 0 || a != b
    apart (c 0) (c 1) && apart (c 1) (c 2) && apart (c 0) (c 2)

/-- POS_HALL_CFG.MAP: 0b000 and 0b111 map to 7, the six others to distinct sectors (R211). -/
def hallMapOk (w : Nat) : Bool :=
  let m := fun (n : Nat) => w / 2 ^ (3 * n) % 8
  m 0 == 7 && m 7 == 7 && (List.range 6).all fun s => [1, 2, 3, 4, 5, 6].any fun n => m n == s

/-- (BITS + 1) clock periods plus MONO do not exceed LEAD (R220); in 0.5 microseconds. -/
def ssiOk (w : Nat) : Bool :=
  w % 64 == 0 || decide ((w % 64 + 1) * 8 / 2 ^ (w / 4096 % 4) + 2 * (w / 0x100000 % 64) ≤ 2 * (w / 0x4000 % 64))

/-- Profile `q` of COM_EDGE_TBL begins at 0, ends at 0xFFFF and does not decrease (R232). -/
def edgesOk (regs : List (Nat × Word)) (q : Nat) : Bool :=
  let p := fun (n : Nat) => imgWord regs (0x40061000 + 0x100 * q + 4 * n) % 0x10000
  !((List.range 33).any fun n => (imgItem regs (0x40061000 + 0x100 * q + 4 * n)).isSome) ||
  (p 0 == 0 && p 32 == 0xFFFF && (List.range 32).all fun n => decide (p n ≤ p (n + 1)))

/-- No override lowers a source whose default is L3 or L4 (R297). -/
def overridesOk (regs : List (Nat × Word)) : Bool :=
  (List.range 64).all fun n =>
    let w := imgWord regs (0x40010100 + 4 * n)
    w / 0x80000000 == 0 || (decide (w / 0x10000 % 8 ≤ 4) &&
      (decide (defaultLevel (w % 0x10000) < 3) || decide (defaultLevel (w % 0x10000) ≤ w / 0x10000 % 8)))

/-- The range checks of the groups, as far as registers hold their values (R98). -/
def imgRangesOk (regs : List (Nat × Word)) : Bool :=
  imgRanges.all (imgFieldOk regs) && matrixOk ((imgItem regs 0x40030000).getD 0) &&
  (imgItem regs 0x40050024).all hallMapOk && (imgItem regs 0x40050040).all ssiOk &&
  [0, 1, 2].all (edgesOk regs) && overridesOk regs && scheduleOk regs && axisOk regs && motorOk regs &&
  (imgItem regs 0x50100318).all fun b => decide (3300 ≤ b) && decide (b ≤ 4300)

/-- An image is valid in a lane (R98): what the slot's bytes show, its signature, and the ranges of its values. -/
def LaneSt.imageOk (L : LaneSt) (b : Bool) (f : ImgFacts) : Bool :=
  L.imgHeadOk b && L.imgDigestOk b && f.sigOk && L.imgOwnerOk b && L.imgModuleOk b && L.imgGroupsOk b && f.rangesOk &&
  imgRangesOk f.regs

/-- Digest of the MAPS group of the image that the lane chose (R240). -/
def LaneSt.mapsDigest (L : LaneSt) : List Byte :=
  match L.nvm.chosen with
  | some b => shake256 32 ((L.groupBytes b 3).getD [])
  | none => []

/-- Groups in which slot `b` differs from the image in force in the other slot, a bit for each group ID; with none in force, the
groups present (log entry 104). -/
def LaneSt.imgChanged (L : LaneSt) (b : Bool) : BitVec 16 :=
  let base := L.nvm.inForce && L.nvm.chosen == some (!b)
  (List.range 12).foldl (fun m g =>
    let old := if base then L.groupBytes (!b) g else none
    if L.groupBytes b g = old then m else m ||| (1#16 <<< g)) 0#16

/-- Groups whose change needs the safety password, a bit for each group ID (R99). -/
abbrev safetyGroups : BitVec 16 := 0x0876#16

/-- ENTITLE of the image in slot `b`. -/
def LaneSt.imgEntitle (L : LaneSt) (b : Bool) : Nat := L.imgNum b 0x38 8

/-! ## The slot record (R102) -/

/-- Place of the record of slot `b` (log entry 21). -/
def slotRecAt (b : Bool) : Nat := if b then 0x106B1040 else 0x106B1000

/-- The record's 36 bytes before its CRC-32C: IMAGE_SEQ and the digest. -/
def slotRecBody (r : SlotRec) : List Byte := leBytes 4 r.seq ++ bytesOf r.digest

/-- The record of slot `b`, if its CRC-32C holds. -/
def LaneSt.slotRec (L : LaneSt) (b : Bool) : Option SlotRec :=
  let body := L.bytes (slotRecAt b) 36
  if crc32c body = L.word (slotRecAt b + 36) then some { seq := leNum (body.take 4), digest := wordsOf (body.drop 4) } else none

/-- Write, or erase, the record of slot `b`. -/
def LaneSt.writeSlotRec (L : LaneSt) (b : Bool) (r : SlotRec) : LaneSt :=
  let body := slotRecBody r
  (L.setBytes (slotRecAt b) body).setWord (slotRecAt b + 36) (crc32c body)
def LaneSt.eraseSlotRec (L : LaneSt) (b : Bool) : LaneSt := L.eraseMem (slotRecAt b) 40

/-! ## Banks (R93) -/

/-- STATE of a bank control record as a byte. -/
def Bank.code (b : Bank) : Nat :=
  match b.state with
  | .empty => 0
  | .trial => 1
  | .committed => 2
  | .rejected => 3

/-- A bank control record: STATE, a byte of 0, SVN, SEQUENCE (log entry 21). -/
def Bank.wire (b : Bank) : List Byte := leBytes 1 b.code ++ leBytes 1 0 ++ leBytes 2 b.svn ++ leBytes 4 b.seq

/-- Place of the record of bank `b` (true: B). -/
def bankRecAt (b : Bool) : Nat := if b then 0x106B0010 else 0x106B0000

/-- Bank `b` and its replacement, which writes its record: SEQUENCE has 32 bits, SVN 16. -/
def LaneSt.bank (L : LaneSt) (b : Bool) : Bank := if b then L.nvm.bankB else L.nvm.bankA
def LaneSt.setBank (L : LaneSt) (b : Bool) (x : Bank) : LaneSt :=
  let x := { x with seq := x.seq % 0x100000000, svn := x.svn % 0x10000 }
  let L := if b then { L with nvm := { L.nvm with bankB := x } } else { L with nvm := { L.nvm with bankA := x } }
  L.setBytes (bankRecAt b) x.wire
def bankBase (b : Bool) : Nat := if b then 0x10300000 else 0x10000000

/-! ## Learned calibration and the log (R96) -/

/-- The learned calibration as bytes: the number of harmonic coefficients and they, the zero and whether there is one, the in-field
offsets, the number of map corrections and they, each four bytes, the MAPS digest (log entry 21). -/
def LaneSt.calBytes (L : LaneSt) : List Byte :=
  let w := fun (i : Int) => leBytes 4 (bitsOf 32 i)
  let n := L.nvm
  w n.calCoef.length ++ n.calCoef.flatMap w ++ w (if n.calZero.isSome then 1 else 0) ++ w (n.calZero.getD 0) ++ n.ofs.flatMap w ++
  w n.overlay.length ++ n.overlay.flatMap (fun e => leBytes 4 e.1 ++ wordBytes e.2) ++ n.mapsDig

/-- Change the learned calibration, in its region too. -/
def LaneSt.updCal (L : LaneSt) (f : NvmSt → NvmSt) : LaneSt :=
  let L := { L with nvm := f L.nvm }
  (L.eraseMem 0x10690000 0x10000).setBytes 0x10690000 (L.calBytes.take 0x10000)

/-- An entry of the log: source, level, a byte of 0, time. -/
def logEntryBytes (e : BitVec 16 × Nat × Nat) : List Byte :=
  leBytes 2 e.1.toNat ++ leBytes 1 e.2.1 ++ leBytes 1 0 ++ leBytes 4 0 ++ leBytes 8 e.2.2

/-- The Shepherd writes what the log does not hold yet to its region, the 768 KiB after the fault records, as a ring of 49,152 entries
(log entry 21). -/
def LaneSt.flushLog (L : LaneSt) : LaneSt :=
  let new := (L.fc.log.take (L.fc.log.length - L.fc.logDone)).reverse
  let L := new.foldl (fun L e =>
    let n := L.fc.nextLog
    { L.setBytes (0x10740000 + 16 * (n % 49152)) (logEntryBytes e) with fc := { L.fc with nextLog := (n + 1) % 49152 } }) L
  { L with fc := { L.fc with logDone := L.fc.log.length } }

end Sys2Proof.Machine
end

