-- ==== Sys2Proof/Machine/Hart.lean ====
section
/-! DEFINITION. The two copies of a checked core (R113, R114): what the lead and Lamb compute, the registers and CSRs they keep,
and the debugger's writes to them (R137). -/
namespace Sys2Proof.Machine

/-! ## The complement domain (R114) -/

/-- The lead's integer operations. -/
def leadOp (op : AluOp) (a b : Word) : Word :=
  match op with
  | .add => a + b
  | .sub => a - b
  | .and => a &&& b
  | .or => a ||| b
  | .xor => a ^^^ b
  | .slt => if a.slt b then 1#32 else 0#32
  | .sltu => if a.ult b then 1#32 else 0#32
  | .sll => a <<< (b.toNat % 32)
  | .srl => a >>> (b.toNat % 32)
  | .sra => a.sshiftRight (b.toNat % 32)

/-- Lamb's, from the complements of the operands: `lamb_op` of R114. -/
def lambOp (op : AluOp) (na nb : Word) : Word :=
  match op with
  | .add => na + nb + 1#32
  | .sub => na + ~~~nb
  | .and => na ||| nb
  | .or => na &&& nb
  | .xor => ~~~(na ^^^ nb)
  | .slt => ~~~(if nb.slt na then 1#32 else 0#32)
  | .sltu => ~~~(if nb.ult na then 1#32 else 0#32)
  | .sll => (na <<< ((~~~nb).toNat % 32)) ||| ((1#32 <<< ((~~~nb).toNat % 32)) - 1#32)
  | .srl => (na >>> ((~~~nb).toNat % 32)) ||| ~~~(0xFFFFFFFF#32 >>> ((~~~nb).toNat % 32))
  | .sra => na.sshiftRight ((~~~nb).toNat % 32)

/-- The lead's branch decisions. -/
def leadBr (op : BrOp) (a b : Word) : Bool :=
  match op with
  | .beq => a == b
  | .bne => a != b
  | .blt => a.slt b
  | .bge => !a.slt b
  | .bltu => a.ult b
  | .bgeu => !a.ult b

/-- Lamb's: compares swap their operands (R114). -/
def lambBr (op : BrOp) (na nb : Word) : Bool :=
  match op with
  | .beq => na == nb
  | .bne => na != nb
  | .blt => nb.slt na
  | .bge => !nb.slt na
  | .bltu => nb.ult na
  | .bgeu => !nb.ult na

/-- The high word of a 64-bit product. -/
def highWord (x : Int) : Word := BitVec.ofInt 32 (x / 0x100000000)

/-- The multiplier and the divider (RV32M): a division by zero gives all ones or the dividend, the signed overflow the dividend
or 0. -/
def unitExec (op : MulOp) (a b : Word) : Word :=
  match op with
  | .mul => a * b
  | .mulh => highWord (a.toInt * b.toInt)
  | .mulhsu => highWord (a.toInt * (b.toNat : Int))
  | .mulhu => highWord ((a.toNat : Int) * (b.toNat : Int))
  | .div => if b = 0#32 then 0xFFFFFFFF#32 else BitVec.ofInt 32 (a.toInt.tdiv b.toInt)
  | .divu => if b = 0#32 then 0xFFFFFFFF#32 else BitVec.ofNat 32 (a.toNat / b.toNat)
  | .rem => if b = 0#32 then a else BitVec.ofInt 32 (a.toInt.tmod b.toInt)
  | .remu => if b = 0#32 then a else BitVec.ofNat 32 (a.toNat % b.toNat)

/-- The unit with its ports swapped: it restores the order of the operands (R114). -/
def unitSwapped (op : MulOp) (port1 port2 : Word) : Word := unitExec op port2 port1

/-- Lamb's use of the unit. -/
def lambUnit (op : MulOp) (na nb : Word) : Word := ~~~(unitSwapped op (~~~nb) (~~~na))

/-- Extension of a load's raw data, as the lead does it. -/
def leadExt (w : Width) (signed : Bool) (raw : Word) : Word :=
  match w with
  | .byte => if signed then (raw.setWidth 8).signExtend 32 else (raw.setWidth 8).setWidth 32
  | .half => if signed then (raw.setWidth 16).signExtend 32 else (raw.setWidth 16).setWidth 32
  | .word => raw

/-- And as Lamb does it on the complement (R119): sign extension, or upper bits filled with ones. -/
def lambExt (w : Width) (signed : Bool) (nraw : Word) : Word :=
  match w with
  | .byte => if signed then (nraw.setWidth 8).signExtend 32 else nraw ||| 0xFFFFFF00#32
  | .half => if signed then (nraw.setWidth 16).signExtend 32 else nraw ||| 0xFFFF0000#32
  | .word => nraw

/-- The value an atomic operation stores, from the old one and its operand. -/
def amoOp (op : AmoOp) (x b : Word) : Word :=
  match op with
  | .swap => b
  | .add => x + b
  | .xor => x ^^^ b
  | .and => x &&& b
  | .or => x ||| b
  | .min => if x.slt b then x else b
  | .max => if x.slt b then b else x
  | .minu => if x.ult b then x else b
  | .maxu => if x.ult b then b else x

/-! ## Registers of both copies -/

/-- Bits set in a word (DIFF_CNT). -/
def bitCount (w : Word) : Nat := ((List.range 32).filter fun i => w.getLsbD i).length

/-- The lane is in split mode: the comparisons are off (R134). -/
def LaneSt.isSplit (L : LaneSt) : Bool := L.on Reg.DBG_CHK_STAT_CORE_MODE

/-- Lead's and Lamb's copy of an integer or floating-point register; x0 is 0. -/
def Hart.getX (h : Hart) (fp : Bool) (n : Nat) : Word :=
  if fp then cellGet (fun _ => 0#32) h.f n else if n = 0 then 0#32 else cellGet (fun _ => 0#32) h.x n
def Hart.getN (h : Hart) (fp : Bool) (n : Nat) : Word :=
  if fp then cellGet (fun _ => 0xFFFFFFFF#32) h.nf n
  else if n = 0 then 0xFFFFFFFF#32 else cellGet (fun _ => 0xFFFFFFFF#32) h.nx n

/-- Write the lead's copy, Lamb's copy. -/
def Hart.putX (h : Hart) (fp : Bool) (n : Nat) (v : Word) : Hart :=
  if fp then { h with f := cellPut (fun _ => 0#32) h.f n v }
  else if n = 0 then h else { h with x := cellPut (fun _ => 0#32) h.x n v }
def Hart.putN (h : Hart) (fp : Bool) (n : Nat) (v : Word) : Hart :=
  if fp then { h with nf := cellPut (fun _ => 0xFFFFFFFF#32) h.nf n v }
  else if n = 0 then h else { h with nx := cellPut (fun _ => 0xFFFFFFFF#32) h.nx n v }

/-- Change the core's state, the control core. -/
def LaneSt.updCore (L : LaneSt) (f : CoreSt → CoreSt) : LaneSt := { L with core := f L.core }
def LaneSt.updCpu (L : LaneSt) (f : Hart → Hart) : LaneSt := L.updCore fun c => { c with cpu := f c.cpu }

/-- Write a register in both copies; in split mode Lamb keeps none (R132). -/
def LaneSt.putReg (L : LaneSt) (fp : Bool) (n : Nat) (v nv : Word) : LaneSt :=
  L.updCpu fun h => if L.isSplit then h.putX fp n v else (h.putX fp n v).putN fp n nv

/-! ## CSRs (R116, R117; the set is the model's, log entry 8) -/

/-- The CSRs of the core: fflags, frm, fcsr, machine trap registers, triggers, counters, identity. -/
def csrKnown (n : Nat) : Bool :=
  [1, 2, 3, 0x300, 0x301, 0x304, 0x305, 0x340, 0x341, 0x342, 0x343, 0x344, 0x7A0, 0x7A1, 0x7A2, 0xC00, 0xC01, 0xC02, 0xC80, 0xC81,
    0xC82, 0xF11, 0xF12, 0xF13, 0xF14].contains n

/-- CSRs that exist once, or hold no writable state: both copies take the same sample. -/
def csrSampled (n : Nat) : Bool := decide (0xC00 ≤ n) || n == 0x301 || n == 0x344

/-- Where a CSR's value is held: fflags and frm are parts of fcsr, the trigger registers those of the selected trigger. -/
def csrHome (tsel : Word) (n : Nat) : Nat :=
  if n = 1 ∨ n = 2 then 3 else if n = 0x7A1 ∨ n = 0x7A2 then n + 0x10000 * (tsel.toNat % 4) else n

/-- The CSR as read from its home, and its home after a write of `v`. -/
def csrView (n : Nat) (x : Word) : Word :=
  if n = 1 then x &&& 0x1F#32 else if n = 2 then (x >>> 5) &&& 7#32 else if n = 0x300 then x ||| 0x1800#32 else x
def csrMerge (n : Nat) (x v : Word) : Word :=
  if n = 1 then (x &&& 0xE0#32) ||| (v &&& 0x1F#32)
  else if n = 2 then (x &&& 0x1F#32) ||| ((v &&& 7#32) <<< 5)
  else if n = 3 then v &&& 0xFF#32
  else if n = 0x300 then v &&& 0x88#32
  else if n = 0x305 then v &&& 0xFFFFFFFD#32
  else if n = 0x341 then v &&& 0xFFFFFFFE#32
  else if n = 0x7A0 then v &&& 3#32
  else v

/-- CSR file of the lead and of Lamb. -/
def Hart.csrAt (h : Hart) (k : Nat) : Word := cellGet (fun _ => 0#32) h.csr k
def Hart.ncsrAt (h : Hart) (k : Nat) : Word := cellGet (fun _ => 0xFFFFFFFF#32) h.ncsr k
def Hart.putCsr (h : Hart) (k : Nat) (v : Word) : Hart := { h with csr := cellPut (fun _ => 0#32) h.csr k v }
def Hart.putNcsr (h : Hart) (k : Nat) (v : Word) : Hart := { h with ncsr := cellPut (fun _ => 0xFFFFFFFF#32) h.ncsr k v }

/-- Home of CSR `n` now. -/
def LaneSt.csrHome (L : LaneSt) (n : Nat) : Nat := Machine.csrHome (L.core.cpu.csrAt 0x7A0) n

/-- Write the homes in both copies. -/
def LaneSt.putCsr (L : LaneSt) (k : Nat) (v nv : Word) : LaneSt :=
  L.updCpu fun h => if L.isSplit then h.putCsr k v else (h.putCsr k v).putNcsr k nv

/-! ## The debug journal (R137) -/

/-- Write a debugger's value to the lead's copy (R137). -/
def LaneSt.debugLead (L : LaneSt) (r : DbgReg) (v : Word) : LaneSt :=
  match r with
  | .x n => L.updCpu fun h => h.putX false (n % 32) v
  | .f n => L.updCpu fun h => h.putX true (n % 32) v
  | .csr n => if csrKnown n && !csrSampled n then L.updCpu fun h => h.putCsr (L.csrHome n) (csrMerge n (h.csrAt (L.csrHome n)) v) else L
  | .dpc => L.updCpu fun h => { h with pc := v }
  | .abstractcs | .sbcs => L

/-- The same value, complemented, to Lamb's copy. -/
def Hart.debugLamb (h : Hart) (r : DbgReg) (v : Word) : Hart :=
  match r with
  | .x n => h.putN false (n % 32) (~~~v)
  | .f n => h.putN true (n % 32) (~~~v)
  | .csr n =>
    let k := Machine.csrHome (~~~(h.ncsrAt 0x7A0)) n
    if csrKnown n && !csrSampled n then h.putNcsr k (~~~(csrMerge n (~~~(h.ncsrAt k)) v)) else h
  | .dpc => { h with npc := ~~~v }
  | .abstractcs | .sbcs => h

/-- Replay the journal into Lamb and empty it (R137). -/
def LaneSt.replay (L : LaneSt) : LaneSt :=
  let j := L.core.journal
  let L := L.wr Reg.DBG_JOURNAL_LAST_COUNT j.length
  L.updCore fun c => { c with journal := [], cpu := if L.isSplit then c.cpu else j.foldl (fun h e => h.debugLamb e.1 e.2) c.cpu }

end Sys2Proof.Machine
end

