-- ==== Sys2Proof/Machine/Hooks.lean ====
section
/-! DEFINITION. Churn slices that are aborted, the mailboxes' replies and sessions, and the erasure of keys: what the
state controller and several chapters ask of Churn (13), the Shepherd (17) and the security block (18). -/
namespace Sys2Proof.Machine

/-- Abort a slice in progress (R61, R77, R316): the restore runs at once, a mismatch raising 0x0C05, whose partition the model does not
know before the slice's end (log entry 106); the slice is not counted, and the lane is not ready again in this basic cycle. -/
def LaneSt.abortSlice (L : LaneSt) (crcOk : Bool) : LaneSt :=
  if L.chn.active then
    let L := ((L.wr Reg.CHN_LAST_RESULT 4).wr Reg.CHN_LAST_REASON 3).raiseIf (!crcOk) 0x0C05
    { L with chn := { L.chn with active := false, aborted := some (cycleOf L.time) } }
  else L

/-! ## Replies (R389, R391, R393, R410) -/

/-- Change the mailboxes. -/
def LaneSt.updMbx (L : LaneSt) (f : MbxSt → MbxSt) : LaneSt := { L with mbx := f L.mbx }

/-- Change the security block. -/
def LaneSt.updSec (L : LaneSt) (f : SecSt → SecSt) : LaneSt := { L with sec := f L.sec }

/-- Change the key store. -/
def LaneSt.updKeys (L : LaneSt) (f : KeyStore → KeyStore) : LaneSt := L.updSec fun x => { x with keys := f x.keys }

/-- The 16 bytes of a request's header (R389). -/
def headerBytes (code : Nat) (r : Req) : List Byte :=
  leBytes 2 code ++ leBytes 1 (if r.module then 1 else 0) ++ leBytes 1 (r.mbox % 16 + 16 * r.lanes.toNat) ++
  leBytes 2 r.length ++ leBytes 2 r.seq.toNat ++ leBytes 4 r.requester.toNat ++ leBytes 4 r.session.toNat

/-- The key of a tag of R390: of the open session, of one that has ended with a request in progress, or, with SESSION 0, the Flock
group key. -/
def LaneSt.mbxKey (L : LaneSt) (session : Word) : List Byte :=
  if session = 0#32 then L.sec.keys.group
  else if session = L.reg 0x400F000C then L.sec.keys.sk
  else ((L.mbx.ended.find? fun e => e.1 == session).map (·.2)).getD []

/-- The tag of a header and payload: customisation string "MBX". -/
def LaneSt.mbxTag (L : LaneSt) (session : Word) (msg : List Byte) : BitVec 64 := tag64 (L.mbxKey session) msg (ascii "MBX")

/-- A request's tag verifies; one whose key's slot is empty does not. -/
def LaneSt.tagOk (L : LaneSt) (r : Req) (msg : List Byte) : Bool :=
  !(L.mbxKey r.session).isEmpty && r.tag == L.mbxTag r.session msg

/-- The header of a reply, as lane `i` sends it. -/
def replyHead (i : Nat) (p : Reply) : List Byte :=
  let flags := 2 + (if p.nak.isSome then 4 else 0) + (if p.more then 8 else 0)
  leBytes 2 p.code ++ leBytes 1 flags ++ leBytes 1 (p.mbox % 16 + 16 * 2 ^ i) ++ leBytes 2 p.payload.length ++
  leBytes 2 p.seq.toNat ++ wordBytes p.requester ++ wordBytes p.session

/-- Send a reply over the request's transport: on the internal one it waits for MBX_RPL. -/
def LaneSt.sendReply (L : LaneSt) (p : Reply) : LaneSt :=
  if p.transport = .internal then L.updMbx fun m => { m with inner := m.inner ++ [p] }
  else L.updMbx fun m => { m with out := m.out ++ [p] }

/-- The lane's response identifier on CAN1 or CAN2: 0x6F1 to 0x6F3 of lanes A to C unless the CAN group assigns another (R100, R376). -/
def LaneSt.responseId (L : LaneSt) (c : Nat) : Nat :=
  let x := if c = 2 then L.can2.mbxRsp else L.can1.mbxRsp
  if x = 0 ∨ !L.nvm.inForce then 0x6F0 + L.rd Reg.SYS_ID_LANE else x

/-- A reply to `r`, with a tag under the request's key; the reply to a request without a tag has none (log entry 110). -/
def LaneSt.replyTo (L : LaneSt) (code : Nat) (r : Req) (nak : Option Nat) (more : Bool) (payload : List Byte) : Reply :=
  let p : Reply := { code := code, mbox := r.mbox, seq := r.seq, requester := r.requester, session := r.session
                     transport := r.transport, nak := nak, more := more, payload := payload, tag := 0
                     canId := if r.transport = .can then L.responseId (r.key / 0x40000000) else 0 }
  if r.tag = 0#64 then p else { p with tag := L.mbxTag r.session (replyHead (L.rd Reg.SYS_ID_LANE - 1) p ++ payload) }

/-- Mailbox 0's request has had its final reply. -/
def LaneSt.freeInner (L : LaneSt) (r : Req) : LaneSt :=
  if r.transport = .internal then L.put Reg.MBX_STAT_BUSY false else L

/-- Keep the final reply of a request for a retransmission (R393). -/
def LaneSt.keepReply (L : LaneSt) (r : Req) (p : Reply) : LaneSt :=
  L.updMbx fun m => { m with seqs := m.seqs.map fun e => if e.req = r then { e with reply := some p } else e }

/-- The final reply of a request (R392). -/
def LaneSt.finish (L : LaneSt) (code : Nat) (r : Req) (payload : List Byte) : LaneSt :=
  let p := L.replyTo code r none false payload
  ((L.sendReply p).keepReply r p).freeInner r

/-- Payload of a NAK (R391). -/
def nakPayload (nak detail want : Nat) : List Byte := leBytes 1 nak ++ leBytes 1 detail ++ leBytes 2 want

/-- A NAK as the final reply of a request. -/
def LaneSt.refuse (L : LaneSt) (code : Nat) (r : Req) (nak : Nat) (detail : Nat := 0) : LaneSt :=
  let p := L.replyTo code r (some nak) false (nakPayload nak detail 0)
  ((L.sendReply p).keepReply r p).freeInner r

/-- The NAK codes. -/
abbrev nakLength : Nat := 1
abbrev nakSequence : Nat := 2
abbrev nakUnknown : Nat := 3
abbrev nakAuth : Nat := 4
abbrev nakRate : Nat := 5
abbrev nakQuarantined : Nat := 6
abbrev nakBusy : Nat := 7
abbrev nakSession : Nat := 8
abbrev nakState : Nat := 9
abbrev nakArgument : Nat := 10
abbrev nakPassword : Nat := 11
abbrev nakNotConfirmed : Nat := 12
abbrev nakVerify : Nat := 13
abbrev nakRefused : Nat := 14
abbrev nakAborted : Nat := 15
abbrev nakLocked : Nat := 16
abbrev nakVersion : Nat := 17
abbrev nakSelftest : Nat := 18
abbrev nakLifecycle : Nat := 19
abbrev nakChallenge : Nat := 20

/-- The request's LANES names lane `l`. -/
def named (r : Req) (l : Lane) : Bool := r.lanes.getLsbD (laneIx l)

/-- A tap ends with its final reply (R401). -/
def LaneSt.endTap (L : LaneSt) (x : Tap) : LaneSt := L.finish x.code x.req []

/-! ## Segments (R394) -/

/-- Segment `index` of `count` of message `msg` from the transport key: a first one starts it, the next in order brings it on, the last
completes it. -/
def LaneSt.segment (L : LaneSt) (key msg index count : Nat) : LaneSt :=
  let mine := fun (x : Nat × Nat × Nat × Nat) => x.1 == key && x.2.1 == msg
  if index = 0 then
    if count ≤ 1 then L
    else L.updMbx fun m => { m with segs := (key, msg, L.time, count - 1) :: m.segs.filter fun x => !mine x }
  else L.updMbx fun m => { m with
    segs := (m.segs.map fun x =>
      if mine x && index + x.2.2.2 == count then (x.1, x.2.1, x.2.2.1, x.2.2.2 - 1) else x).filter fun x => x.2.2.2 ≠ 0 }

/-! ## Sessions (R104, R396) -/

/-- The open session ends: module-addressed commands not yet acted on are answered SESSION, its taps end, its records, its password
and its unlock challenge are gone. -/
def LaneSt.closeSession (L : LaneSt) : LaneSt :=
  let id := L.reg 0x400F000C
  if id = 0#32 then L
  else
    let mine := fun (r : Req) => r.session == id && r.transport != .internal
    let L := (L.mbx.waiting.filter fun h => h.named && mine h.req).foldl (fun L h => L.refuse h.code h.req nakSession) L
    let L := (L.mbx.taps.filter fun x => mine x.req).foldl (fun L x => L.endTap x) L
    let busy := L.mbx.asked.any (fun h => mine h.req) || L.mbx.commit.any fun h => mine h.req
    let L := ((L.setReg 0x400F000C 0#32).setReg 0x400F0010 0#32).put Reg.MBX_STAT_SESSION false
    let L := L.updMbx fun m => { m with
      ended := if busy then [(id, L.sec.keys.sk)] else []
      waiting := m.waiting.filter fun h => !mine h.req
      taps := m.taps.filter fun x => !mine x.req
      seqs := m.seqs.filter fun e => !mine e.req
      roles := 0, pwOk := false, endDue := false }
    (L.put Reg.SEC_DBG_STAT_CHAL false).updSec fun x => { x with challenge := none }

/-- The session ends; while a REQ_STATE of it waits for its result, after that reply (R396). -/
def LaneSt.endSession (L : LaneSt) : LaneSt :=
  if L.mbx.asked.isEmpty then L.closeSession else L.updMbx fun m => { m with endDue := true }

/-! ## Erasure of keys (R415, R416) -/

/-- An erased class or item makes a Tally entry; the erasure takes at most `us`. -/
def LaneSt.erased (L : LaneSt) (l : Lane) (us : Nat) : LaneSt :=
  (L.tally l 0x000A).updSec fun x => { x with eraseEnd := max x.eraseEnd L.time + 1000 * us }

/-- Class EXT: host master key and session key. -/
def LaneSt.eraseExt (L : LaneSt) (l : Lane) : LaneSt :=
  let L := (L.updKeys fun k => { k with hmk := [], sk := [] }).updMbx fun m => { m with ended := [] }
  ((L.put Reg.SEC_KEY_STAT_HMK false).put Reg.SEC_KEY_STAT_SESSION false).erased l 500

/-- The group key. -/
def LaneSt.dropGroup (L : LaneSt) : LaneSt :=
  ((L.put Reg.SEC_KEY_STAT_GROUP false).wr Reg.SEC_KEY_STAT_GROUP_KCV 0).updKeys fun k => { k with group := [] }

/-- Class CONTROL: module secret, lane-pair keys, group key; nothing stays deferred. -/
def LaneSt.eraseControl (L : LaneSt) (l : Lane) : LaneSt :=
  let L := ((L.put Reg.SEC_KEY_STAT_MSK false).put Reg.SEC_KEY_STAT_PAIR_LO false).put Reg.SEC_KEY_STAT_PAIR_HI false
  let L := L.updKeys fun k => { k with msk := [], pmkLo := [], pmkHi := [], lpkLo := [], lpkHi := [] }
  (L.dropGroup.put Reg.SEC_KEY_STAT_PENDING false).erased l 500

/-- Class OWNER: owner public key, and the safety password. -/
def LaneSt.eraseOwner (L : LaneSt) (l : Lane) : LaneSt :=
  let L := (L.put Reg.SEC_KEY_STAT_OWNER false).put Reg.SEC_KEY_STAT_PASSWORD false
  let L := L.updKeys fun k => { k with owner := [], pwSalt := [], pwHash := [] }
  (L.updSec fun x => { x with ownerNext := [] }).erased l 500

/-- Classes IDENT and PROV. -/
def LaneSt.eraseIdent (L : LaneSt) (l : Lane) : LaneSt := (L.put Reg.SEC_KEY_STAT_IDENT false).erased l 2000
def LaneSt.eraseProv (L : LaneSt) (l : Lane) : LaneSt :=
  ((L.put Reg.SEC_KEY_STAT_PROV false).updKeys fun k => { k with pk := [] }).erased l 500

/-- Run a deferred erasure (R426). -/
def LaneSt.deferredErase (L : LaneSt) (l : Lane) : LaneSt :=
  if L.on Reg.SEC_KEY_STAT_PENDING then L.eraseControl l else L

/-! ## The Rind alarm (R424, R425) -/

/-- The debug session ends (R431). -/
def LaneSt.closeDebug (L : LaneSt) : LaneSt :=
  (L.put Reg.DBG_SESSION_OPEN false).put Reg.DBG_SESSION_TRACE false

/-- A core halted by the debugger resumes: the journal is replayed into Lamb, and the lane resyncs (R137, R431). A core that a
mismatch has halted stays halted (R131). -/
def LaneSt.debugRun (L : LaneSt) : LaneSt :=
  if L.core.debug && !L.core.halted then (L.replay.updCore fun c => { c with debug := false }).enterResync else L

/-- Debug locked: the session closes, and a halted core resumes and the lane resyncs. -/
def LaneSt.lockDebug (L : LaneSt) : LaneSt :=
  (((L.wr Reg.SEC_DBG_STAT_LEVEL 0).put Reg.DBG_SESSION_UNLOCKED false).closeDebug).debugRun

/-- Both harts begin at their entry points (R132). -/
def CoreSt.startAt (c : CoreSt) (a b : Word) : CoreSt :=
  { c with cpu := { Hart.reset with pc := a, npc := ~~~a }, cpu2 := { Hart.second with pc := b, npc := ~~~b }
           resv := none, resv2 := none, entry := a, entry2 := b }

/-- Latch the alarm, `first` telling what latched it: debug, mailbox and keys as R425 says for the state and the policy. -/
def LaneSt.latchRind (L : LaneSt) (l : Lane) (first : Nat) : LaneSt :=
  if L.on Reg.SEC_RIND_STAT_ALARM then L
  else
    let policy := L.rd Reg.SEC_KEY_STAT_POLICY
    let rest := decide (L.st ≤ stStandby)
    let L := ((L.put Reg.SEC_RIND_STAT_ALARM true).wr Reg.SEC_RIND_STAT_FIRST first).raise 0x0B01
    let L := (L.lockDebug.closeSession).eraseExt l
    let L := if policy = 0 then L else if rest then L.eraseControl l else L.put Reg.SEC_KEY_STAT_PENDING true
    if policy = 2 then L.eraseIdent l else L

end Sys2Proof.Machine
end

