-- ==== Sys2Proof/Machine/Can.lean ====
section
/-! DEFINITION. The CAN FD controllers (16). -/
namespace Sys2Proof.Machine

/-- Change a controller of the lane. -/
def LaneSt.updCan (L : LaneSt) (c : CanId) (f : CanSt → CanSt) : LaneSt :=
  match c with
  | .can1 => { L with can1 := f L.can1 }
  | .can2 => { L with can2 := f L.can2 }

/-- Detail byte: 1 or 2 (R386). -/
def canDetail : CanId → Nat
  | .can1 => 1
  | .can2 => 2

/-- MODE as CAN_STAT shows it: bus-off, silenced, listen-only while detection keeps failing, or how the controller runs (log entry
121). -/
def CanSt.mode (x : CanSt) : Nat := if x.off then 4 else if x.silence.isSome then 5 else if x.run = 1 ∧ x.failed then 3 else x.run

/-- Change a controller and show its mode. -/
def LaneSt.setCan (L : LaneSt) (c : CanId) (f : CanSt → CanSt) : LaneSt :=
  let L := L.updCan c f
  L.wr (Reg.CAN_STAT_MODE c) (L.can c).mode

/-- Field `f` of a controller's buffer written by the Shepherd: an identifier with its IDE bit. -/
def LaneSt.canIdent (L : LaneSt) (c : CanId) (b id : Nat) : LaneSt :=
  (L.put (Reg.CAN_BUF_ID_IDE c b) (decide (0x800 ≤ id))).wr (Reg.CAN_BUF_ID_ID c b) id

/-- The Shepherd's buffers (R378): 120 receives requests, 121 sends flow control; the use of each is the model's (log entry 121). -/
def LaneSt.canMailbox (L : LaneSt) (c : CanId) : LaneSt :=
  if L.carriesMbx c then
    let id := L.requestId c
    let ext := decide (0x800 ≤ id)
    let L := ((L.put (Reg.CAN_BUF_FLT_EN c 120) true).put (Reg.CAN_BUF_FLT_DIR c 120) false).put (Reg.CAN_BUF_FLT_OVW c 120) true
    let L := (L.wr (Reg.CAN_BUF_FLT_FILTER c 120) id).put (Reg.CAN_BUF_FLT_IDE c 120) ext
    let L := L.wr (Reg.CAN_BUF_FLT_MASK c 120) (if ext then 0x1FFFFFFF else 0x7FF)
    (L.put (Reg.CAN_BUF_FLT_EN c 121) true).put (Reg.CAN_BUF_FLT_DIR c 121) true
  else L

/-- A lane start or wake (R377, R387): detection where AUTO says so or no image is in force, else active at the configured rates. -/
def LaneSt.canStart (L : LaneSt) (c : CanId) : LaneSt :=
  let auto := L.on (Reg.CAN_CFG_AUTO c) || !L.nvm.inForce
  let L := if auto then L
    else (L.wr (Reg.CAN_STAT_DET_NRATE c) (L.rd (Reg.CAN_CFG_NRATE c))).wr (Reg.CAN_STAT_DET_DRATE c) (L.rd (Reg.CAN_CFG_DRATE c))
  let L := L.setCan c fun x =>
    { CanSt.reset with run := if auto then 1 else 2, startAt := L.time, mbxReq := x.mbxReq, mbxRsp := x.mbxRsp }
  L.canMailbox c

/-- The controller takes part in bus traffic as a receiver (R377, R384). -/
def CanSt.receives (x : CanSt) : Bool := (x.run == 2 || x.run == 3) && !x.off

/-- The controller may send (R382, R385). -/
def LaneSt.canSends (L : LaneSt) (c : CanId) : Bool := (L.can c).mode == 2 && !L.on (Reg.CAN_STAT_DOM c)

/-! ## Receiving (R376, R379 to R381) -/

/-- Buffer `b` is an enabled receive buffer whose filter the frame matches. -/
def LaneSt.canMatch (L : LaneSt) (c : CanId) (f : CanFrame) (b : Nat) : Bool :=
  let mask := L.rd (Reg.CAN_BUF_FLT_MASK c b)
  L.on (Reg.CAN_BUF_FLT_EN c b) && !L.on (Reg.CAN_BUF_FLT_DIR c b) && L.on (Reg.CAN_BUF_FLT_IDE c b) == f.ide &&
  Nat.land f.id mask == Nat.land (L.rd (Reg.CAN_BUF_FLT_FILTER c b)) mask

/-- It can take the frame: it holds no unreleased one, or may be overwritten. -/
def LaneSt.canTakes (L : LaneSt) (c : CanId) (b : Nat) : Bool :=
  !L.on (Reg.CAN_BUF_STAT_NEW_DATA c b) || L.on (Reg.CAN_BUF_FLT_OVW c b)

/-- Payload bytes of a frame (R374): classical up to 8, CAN FD up to 64; a remote frame has none. -/
def canBytes (ctrl : BitVec 8) : Nat :=
  let dlc := (ctrl.extractLsb' 0 4).toNat
  if ctrl.getLsbD 4 then [0, 1, 2, 3, 4, 5, 6, 7, 8, 12, 16, 20, 24, 32, 48, 64].getD dlc 0
  else if ctrl.getLsbD 7 then 0
  else min dlc 8

/-- A frame that the controller can receive: a remote frame or bit-rate switching only in the format that has it (R374). -/
def canFormOk (f : CanFrame) : Bool := if f.ctrl.getLsbD 4 then !f.ctrl.getLsbD 7 else !f.ctrl.getLsbD 5 && !f.ctrl.getLsbD 6

/-- Store a frame: ID, CTRL, TS and DATA, then STAT (R380). -/
def LaneSt.canStore (L : LaneSt) (c : CanId) (f : CanFrame) (b : Nat) : LaneSt :=
  let L := ((L.put (Reg.CAN_BUF_ID_IDE c b) f.ide).wr (Reg.CAN_BUF_ID_ID c b) f.id).wr (Reg.CAN_BUF_CTRL_CTRL c b) f.ctrl.toNat
  let L := L.wr (Reg.CAN_BUF_TS_TS c b) f.ts.toNat
  let L := forN ((canBytes f.ctrl + 3) / 4) (fun j L => L.wr (Reg.CAN_BUF_DATA_DATA c b j) (f.data.getD j 0#32).toNat) L
  let L := if L.on (Reg.CAN_BUF_STAT_NEW_DATA c b) then L.put (Reg.CAN_BUF_STAT_OVR c b) true else L
  (L.put (Reg.CAN_BUF_STAT_NEW_DATA c b) true).inc (Reg.CAN_BUF_STAT_WCNT c b)

/-- The receive counter after a good frame: one less; above 127 it becomes a value of 119 to 127, which one the rules of ISO 11898-1
leave open (log entry 5). -/
def LaneSt.recGood (L : LaneSt) (c : CanId) : LaneSt :=
  let r := L.rd (Reg.CAN_ERR_REC c)
  let L := if 127 < r then
      let x := L.fresh
      x.2.wr (Reg.CAN_ERR_REC c) (119 + x.1.toNat % 9)
    else L.wr (Reg.CAN_ERR_REC c) (r - 1)
  if L.rd (Reg.CAN_ERR_TEC c) ≤ 127 then L.put (Reg.CAN_STAT_ERRP c) false else L

/-- Flow control for a first frame: clear to send, block size 0, STmin 0, padded with 0xCC, with bit-rate switching when a data rate is
in use (R394). -/
def LaneSt.flowControl (L : LaneSt) (c : CanId) : LaneSt :=
  let L := L.canIdent c 121 (L.responseId (canDetail c))
  let L := L.wr (Reg.CAN_BUF_CTRL_CTRL c 121) (if L.rd (Reg.CAN_STAT_DET_DRATE c) = 0 then 0x18 else 0x38)
  let L := (L.wr (Reg.CAN_BUF_DATA_DATA c 121 0) 0xCC000030).wr (Reg.CAN_BUF_DATA_DATA c 121 1) 0xCCCCCCCC
  (L.put ((Reg.CAN_TX_PEND_BUF c 3).bit 25) true).put (Reg.CAN_BUF_STAT_TX_DONE c 121) false

/-- A frame of a segmented mailbox message in buffer 120 (R394, ISO 15765-2): a first frame, which is answered with flow control, or the
next consecutive one, by its sequence number. Its transport key is the controller and the identifier; the message's length stands for
its number of segments. -/
def LaneSt.canSegment (L : LaneSt) (c : CanId) (f : CanFrame) (b : Nat) : LaneSt :=
  let bytes := ((bytesOf f.data).map (·.toNat)).take (canBytes f.ctrl)
  let key := 0x40000000 * (canDetail c) + f.id
  match bytes with
  | p :: q :: _ =>
    let n := bytes.length
    let total := 1 + ((p % 16 * 256 + q + 2 - n) + (n - 2)) / (n - 1)
    if b < 120 then L
    else if p / 16 = 1 then
      ((L.updMbx fun m => { m with segs := m.segs.filter fun x => x.1 ≠ key }).segment key total 0 total).flowControl c
    else if p / 16 = 2 then
      match L.mbx.segs.find? fun x => x.1 == key with
      | some x =>
        let i := x.2.1 - x.2.2.2
        if p % 16 = i % 16 then L.segment key x.2.1 i x.2.1 else L
      | none => L
    else L
  | _ => L

/-- CAN_FRAME_RECEIVE (R379): base identifier 0x001 goes to no buffer; a frame that none can take is an overrun, 0x0A06. -/
def execCanFrameReceive (l : Lane) (c : CanId) (f : CanFrame) (s : State) : Out :=
  onLinkedNow l s fun L =>
    if !(L.can c).receives || !canFormOk f then L
    else
      let L := L.recGood c
      if f.id = 1 && !f.ide then L
      else match (List.range 128).find? fun b => L.canMatch c f b && L.canTakes c b with
        | some b => (L.canStore c f b).canSegment c f b
        | none => L.raise 0x0A06 (canDetail c)

/-- CAN_RX_RELEASE (R381). -/
def execCanRxRelease (l : Lane) (c : CanId) (buf wcnt : Nat) (s : State) : Out :=
  onLinkedNow l s fun L =>
    if buf < 128 ∧ L.rd (Reg.CAN_BUF_STAT_WCNT c buf) = wcnt then
      (L.put (Reg.CAN_BUF_STAT_NEW_DATA c buf) false).put (Reg.CAN_BUF_STAT_OVR c buf) false
    else L

/-! ## Rate detection (R377) -/

/-- The candidate within 3 % of a shortest interval in ns, by code. -/
def rateOf (periods : List Nat) (ns : Nat) : Option Nat :=
  periods.findIdx? fun p => decide (100 * absN ((ns : Int) - p) ≤ 3 * p)

/-- Nominal bit times, 125 kbit/s to 1 Mbit/s, and data bit times, 2 to 8 Mbit/s, in ns. -/
def nominalTimes : List Nat := [8000, 4000, 2000, 1000]
def dataTimes : List Nat := [500, 250, 200, 125]

/-- detect(): a frame seen while listening. -/
def LaneSt.detect (L : LaneSt) (c : CanId) (ns : Nat) (ok : Bool) : LaneSt :=
  match rateOf nominalTimes ns with
  | none => L
  | some r =>
    if !ok then L.setCan c fun x => { x with good := 0, nominal := none }
    else
      let n := (L.can c).good + 1
      if n < 3 then L.setCan c fun x => { x with good := n, nominal := some r }
      else (L.wr (Reg.CAN_STAT_DET_NRATE c) r).setCan c fun x => { x with good := n, nominal := some r, run := 2 }

/-- learn_data(): a frame with bit-rate switching seen while active, until a data rate is learned. -/
def LaneSt.learnData (L : LaneSt) (c : CanId) (ns : Nat) (ok : Bool) : LaneSt :=
  match rateOf dataTimes ns with
  | none => L
  | some r =>
    if !ok then L.setCan c fun x => { x with dataGood := 0, dataCand := none }
    else
      let n := if (L.can c).dataCand = some r then (L.can c).dataGood + 1 else 1
      let L := L.setCan c fun x => { x with dataGood := n, dataCand := some r }
      if 3 ≤ n then L.wr (Reg.CAN_STAT_DET_DRATE c) (r + 1) else L

/-- RATE_DETECT: `interval` is the shortest edge interval in ns, of the nominal phase while detecting, of the data phase while
active. -/
def execRateDetect (l : Lane) (c : CanId) (interval : Nat) (errorFree : Bool) (s : State) : Out :=
  onLinkedNow l s fun L =>
    let x := L.can c
    if x.run = 1 then L.detect c interval errorFree
    else if x.run = 2 ∧ x.nominal.isSome ∧ L.rd (Reg.CAN_STAT_DET_DRATE c) = 0 then L.learnData c interval errorFree
    else L

/-- RATE_DETECT_TIMEOUT: 1 s without success; the controller keeps detecting. -/
def execRateDetectTimeout (l : Lane) (c : CanId) (t : Nat) (s : State) : Out :=
  onLinked l t s fun L =>
    if (L.can c).run = 1 ∧ (L.can c).startAt + 1000000000 ≤ t ∧ !(L.can c).failed then
      ((L.put (Reg.CAN_STAT_DET_FAIL c) true).setCan c fun x => { x with failed := true }).raise 0x0A03 (canDetail c) else L

/-! ## Sending (R382) -/

/-- Buffer `b` is pending. -/
def LaneSt.canPending (L : LaneSt) (c : CanId) (b : Nat) : Bool := L.on ((Reg.CAN_TX_PEND_BUF c (b / 32)).bit (b % 32))

/-- Set or clear a pending bit. -/
def LaneSt.setPending (L : LaneSt) (c : CanId) (b : Nat) (v : Bool) : LaneSt :=
  L.put ((Reg.CAN_TX_PEND_BUF c (b / 32)).bit (b % 32)) v

/-- CAN_TX_REQUEST: an enabled transmit buffer becomes pending. -/
def execCanTxRequest (l : Lane) (c : CanId) (buf : Nat) (s : State) : Out :=
  onLinkedNow l s fun L =>
    if buf < 128 ∧ L.on (Reg.CAN_BUF_FLT_EN c buf) ∧ L.on (Reg.CAN_BUF_FLT_DIR c buf) then
      (L.setPending c buf true).put (Reg.CAN_BUF_STAT_TX_DONE c buf) false
    else L

/-- Arbitration key of a buffer, lower wins: base identifier, then IDE, then the identifier extension (ISO 11898-1). -/
def LaneSt.canKey (L : LaneSt) (c : CanId) (b : Nat) : Nat :=
  let id := L.rd (Reg.CAN_BUF_ID_ID c b)
  if L.on (Reg.CAN_BUF_ID_IDE c b) then (id / 0x40000) * 0x80000 + 0x40000 + id % 0x40000 else id * 0x80000

/-- The controller may send buffer `b`: never base identifier 0x001 (R376), and without a data rate no frame with bit-rate switching
(R375, R377). -/
def LaneSt.canEligible (L : LaneSt) (c : CanId) (b : Nat) : Bool :=
  L.canPending c b && !(L.rd (Reg.CAN_BUF_ID_ID c b) == 1 && !L.on (Reg.CAN_BUF_ID_IDE c b)) &&
  !(L.on ((Reg.CAN_BUF_CTRL_CTRL c b).bit 5) && L.rd (Reg.CAN_STAT_DET_DRATE c) == 0)

/-- The pending buffer that wins: lowest key, then lowest number. -/
def LaneSt.canWinner (L : LaneSt) (c : CanId) : Option Nat :=
  ((List.range 128).filter (L.canEligible c)).foldl (fun best b =>
    match best with
    | none => some b
    | some a => if L.canKey c b < L.canKey c a then some b else some a) none

/-- CAN_TX_ABORT: the request is removed; a frame already on the bus, which only the winner's can be, completes or fails first. -/
def execCanTxAbort (l : Lane) (c : CanId) (buf : Nat) (onBus : Bool) (s : State) : Out :=
  onLinkedNow l s fun L =>
    if 128 ≤ buf then L
    else if onBus && L.canSends c && L.canWinner c == some buf then L.updCan c fun x => { x with aborting := some buf }
    else L.setPending c buf false

/-- The frame that an aborted request had on the bus has failed. -/
def LaneSt.dropAborted (L : LaneSt) (c : CanId) : LaneSt :=
  match (L.can c).aborting with
  | some b => (L.setPending c b false).updCan c fun x => { x with aborting := none }
  | none => L

/-- CAN_TX_DONE: the frame of the winning buffer, or of an aborted request on the bus, is sent; `ts` is its start-of-frame counter. -/
def execCanTxDone (l : Lane) (c : CanId) (ts : BitVec 32) (s : State) : Out :=
  onLinkedNow l s fun L =>
    if L.canSends c then
      match (L.can c).aborting.or (L.canWinner c) with
      | some b =>
        let L := L.updCan c fun x => { x with aborting := none }
        let L := ((L.setPending c b false).wr (Reg.CAN_BUF_TS_TS c b) ts.toNat).put (Reg.CAN_BUF_STAT_TX_DONE c b) true
        let L := L.wr (Reg.CAN_ERR_TEC c) (L.rd (Reg.CAN_ERR_TEC c) - 1)
        if L.rd (Reg.CAN_ERR_TEC c) ≤ 127 ∧ L.rd (Reg.CAN_ERR_REC c) ≤ 127 then L.put (Reg.CAN_STAT_ERRP c) false else L
      | none => L
    else L

/-! ## Silence and a dominant bus (R384, R385) -/

/-- Silence remaining in 16 ms units. -/
def LaneSt.showSilence (L : LaneSt) (c : CanId) : LaneSt :=
  match (L.can c).silence with
  | some u => L.wr (Reg.CAN_STAT_SIL_REMAIN c) ((u - L.time + 15999999) / 16000000)
  | none => L.wr (Reg.CAN_STAT_SIL_REMAIN c) 0

/-- The tag of a silence request, over the identifier, as two bytes, and bytes 0 to 7 (R384, log entry 121). -/
def silenceTag (key : List Byte) (target duration timeMs : Nat) : BitVec 64 :=
  tag64 key (leBytes 2 1 ++ leBytes 1 target ++ leBytes 1 0 ++ leBytes 2 duration ++ leBytes 4 timeMs) (ascii "CAN")

/-- SILENCE_REQUEST: TIME is global time in ms, low 32 bits. -/
def execSilenceRequest (l : Lane) (c : CanId) (target duration timeMs : Nat) (tag : BitVec 64) (t : Nat) (s : State) : Out :=
  onLinked l t s fun L =>
    let mine := decide (target = 0xFF) || decide (target = L.rd Reg.FLK_CFG_NODE)
    let near := decide (absN (signedOf 32 (bitsOf 32 ((timeMs : Int) - (t / 1000000 : Nat)))) ≤ 50)
    if L.on (Reg.CAN_CFG_SILENCE_EN c) ∧ (L.can c).receives ∧ !L.sec.keys.group.isEmpty ∧
        tag = silenceTag L.sec.keys.group target duration timeMs ∧ mine ∧ near ∧ duration ≤ 1000 then
      (L.setCan c fun x => { x with silence := if duration = 0 then none else some (t + duration * 16000000) }).showSilence c
    else L

/-- SILENCE_EXPIRY. -/
def execSilenceExpiry (l : Lane) (c : CanId) (t : Nat) (s : State) : Out :=
  onLinked l t s fun L =>
    match (L.can c).silence with
    | some u => if u ≤ t then (L.setCan c fun x => { x with silence := none }).showSilence c else L
    | none => L

/-- BUS_DOMINANT: 1 ms. -/
def execBusDominant (l : Lane) (c : CanId) (us t : Nat) (s : State) : Out :=
  onLinked l t s fun L =>
    if 1000 ≤ us ∧ !L.on (Reg.CAN_STAT_DOM c) then (L.put (Reg.CAN_STAT_DOM c) true).raise 0x0A05 (canDetail c) else L

/-- BUS_RECESSIVE_RESUME: 11 recessive bit times. -/
def execBusRecessiveResume (l : Lane) (c : CanId) (bits : Nat) (s : State) : Out :=
  onLinkedNow l s fun L => if 11 ≤ bits then L.put (Reg.CAN_STAT_DOM c) false else L

/-! ## Errors (R386) -/

/-- Kind number of an error. -/
def errIx : CanErr → Nat
  | .stuff => 0
  | .form => 1
  | .crc => 2
  | .bit => 3
  | .ack => 4

/-- The error counters of ISO 11898-1 (log entry 20): a transmitter adds 8, an ACK error in error passive nothing; a receiver
adds 1, for a bit error 8. -/
def LaneSt.countError (L : LaneSt) (c : CanId) (kind : CanErr) (tx : Bool) : LaneSt :=
  if tx then
    if kind == .ack && L.on (Reg.CAN_STAT_ERRP c) then L else L.incSat (Reg.CAN_ERR_TEC c) 8
  else L.incSat (Reg.CAN_ERR_REC c) (if kind == .bit then 8 else 1)

/-- The Shepherd logs a kind of violation once in a basic cycle (R386). -/
def LaneSt.logViol (L : LaneSt) (c : CanId) (kind : Nat) : LaneSt :=
  let n := cycleOf L.time
  if (L.can c).logged.contains (kind, n) then L
  else { L with fc := { L.fc with log := (0x0A04#16, 0, L.time) :: L.fc.log } }.updCan c fun x =>
    { x with logged := (kind, n) :: x.logged.filter fun e => e.1 ≠ kind }

/-- CAN_BUS_ERROR: counted in CAN_VIOL, 0x0A04; an active controller's counters follow, and 0x0A02 tells of error passive. -/
def execCanBusError (l : Lane) (c : CanId) (kind : CanErr) (tx : Bool) (t : Nat) (s : State) : Out :=
  onLinked l t s fun L =>
    let x := L.can c
    if x.run = 0 ∨ x.off then L
    else
      let L := ((L.inc (Reg.CAN_VIOL_CNT c (errIx kind))).raise 0x0A04 (canDetail c)).logViol c (errIx kind)
      let L := if tx then L.dropAborted c else L
      if x.run = 1 then L.setCan c fun x => { x with good := 0, nominal := none }
      else
        let L := L.countError c kind tx
        let high := decide (127 < L.rd (Reg.CAN_ERR_TEC c)) || decide (127 < L.rd (Reg.CAN_ERR_REC c))
        if high && !L.on (Reg.CAN_STAT_ERRP c) then (L.put (Reg.CAN_STAT_ERRP c) true).raise 0x0A02 (canDetail c) else L

/-- BUS_OFF: the transmit counter exceeds 255; recovery begins by itself when AUTO_REC is set. -/
def execBusOff (l : Lane) (c : CanId) (t : Nat) (s : State) : Out :=
  onLinked l t s fun L =>
    if 255 < L.rd (Reg.CAN_ERR_TEC c) ∧ (L.can c).run = 2 ∧ !(L.can c).off then
      (L.setCan c fun x => { x with off := true, recovering := L.on (Reg.CAN_CFG_AUTO_REC c) }).raise 0x0A01 (canDetail c)
    else L

/-- RECOVER: a write of CAN_CTL. -/
def execRecover (l : Lane) (c : CanId) (v : BitVec 32) (s : State) : Out :=
  onLinkedNow l s fun L =>
    if v.getLsbD 0 && (L.can c).off then L.setCan c fun x => { x with recovering := true } else L

/-- BUS_OFF_RECOVERY: 128 occurrences of 11 recessive bits. -/
def execBusOffRecovery (l : Lane) (c : CanId) (occurrences : Nat) (s : State) : Out :=
  onLinkedNow l s fun L =>
    if (L.can c).off ∧ (L.can c).recovering ∧ 128 ≤ occurrences then
      (((L.wr (Reg.CAN_ERR_TEC c) 0).wr (Reg.CAN_ERR_REC c) 0).put (Reg.CAN_STAT_ERRP c) false).setCan c fun x =>
        { x with off := false, recovering := false }
    else L

/-- What a slot start captures (R383): the 40 MHz counter, and the silence that remains. -/
def LaneSt.canSlot (L : LaneSt) (t0 : Nat) : LaneSt :=
  let f := fun (c : CanId) (L : LaneSt) => (L.wr (Reg.CAN_TS_SLOT_TS c) (t0 / 25)).showSilence c
  f .can2 (f .can1 L)

end Sys2Proof.Machine
end

