-- ==== Sys2Proof/Machine/Stage.lean ====
section
/-! DEFINITION. Commands of the drive stages and their protection (10), the arbiter apart. -/
namespace Sys2Proof.Machine

/-! ## What a stage does to its switches -/

/-- A stage is energised while its reverse-polarity switch or an isolation switch is on (R263). -/
def StageSt.energised (g : StageSt) : Bool := g.rp || g.iso.a || g.iso.b || g.iso.c

/-- All three isolation switches are on. -/
def StageSt.isoOn (g : StageSt) : Bool := g.iso.a && g.iso.b && g.iso.c

/-- All three isolation switches are open. -/
def StageSt.isolated (g : StageSt) : Bool := !g.iso.a && !g.iso.b && !g.iso.c

/-- The stage's EN (R269). -/
def StageSt.en (g : StageSt) : Bool := g.stoIn && g.laneEn && !g.supLost && !g.supHigh

/-- STATE that a stage with nothing in progress reports: FAULT while latched, READY when all series switches are on,
else DEENERGISED (STG_STAT). -/
def StageSt.settle (g : StageSt) : StageSt :=
  if g.st = 0 then g
  else if g.latch ≠ 0 then { g with st := 4 }
  else if g.isolating then { g with st := 5 }
  else if g.isoOn && g.rp then { g with st := 3 }
  else { g with st := 1 }

/-- Open the isolation switches under R273: each phase when its current allows. -/
def StageSt.startIsolation (g : StageSt) : StageSt :=
  if g.isolated then { g with isolating := false, rp := g.rp && !g.rpDue, rpDue := false }
  else { g with isolating := true }

/-- De-energise (R264): inverter off, isolation switches under R273, then the reverse-polarity switch. -/
def StageSt.deEnergise (g : StageSt) : StageSt :=
  if g.st = 0 then g
  else
    { g with cmd := none, rpDue := true, energiseReq := false, bootOk := .all false, clamp := false }.startIsolation.settle

/-- Fault numbers whose latch opens the isolation switches, and those that also open the reverse-polarity switch
(R274). -/
def isolatingFault (n : Nat) : Bool := [1, 2, 3, 4].contains n
def deEnergisingFault (n : Nat) : Bool := [8, 11, 12].contains n

/-- Bit `n` of a fault word. -/
def faultBit (n : Nat) : BitVec 16 := 1#16 <<< n

/-- Fault `n` occurred: recorded as seen until the next status frame. -/
def StageSt.see (g : StageSt) (n : Nat) : StageSt :=
  { g with seen := ⟨g.seen.a ||| faultBit n, g.seen.b ||| faultBit n, g.seen.c ||| faultBit n⟩ }

/-- Latch fault `n` (R274): STO, and what the table's actions add. -/
def StageSt.latchFault (g : StageSt) (n : Nat) : StageSt :=
  let g := { (g.see n) with latch := g.latch ||| faultBit n, cmd := none }
  let g := if isolatingFault n then g.startIsolation else g
  let g := if deEnergisingFault n then g.deEnergise else g
  g.settle

/-- A short-group latch (R266, R267): the clamp ends and is inhibited until the next energise (R268); the second
latch within 10 s locks the stage out. -/
def StageSt.latchShort (g : StageSt) (n t : Nat) : StageSt :=
  let again := g.shorts.any fun u => decide (t ≤ u + 10000000000)
  let g := { g with clamp := false, clampOff := g.clampOff || g.clamp, shorts := t :: g.shorts }
  let g := if again then { g with lockout := true, latch := g.latch ||| faultBit 15 } else g
  g.latchFault n

/-- A short-group fault is latched. -/
def StageSt.shortLatched (g : StageSt) : Bool := (g.latch &&& 0x001E#16) != 0

/-! ## Energising (R262) -/

/-- ENERGISE: gate supply on, current-limited precharge. The stage starts only when an energise was asked for (R64,
R272), nothing is latched, its supply is not lost (R37, R52), and SUP_x lies between 18.0 and 56.0 V. -/
def execEnergise (g : Stg) (mv : Int) (t : Nat) (s : State) : Out :=
  .next (s.updStage g fun g =>
    if g.energiseReq ∧ g.st = 1 ∧ g.latch = 0 ∧ !g.supLost ∧ 18000 ≤ mv ∧ mv ≤ 56000 then
      { g with st := 2, energiseReq := false, clampOff := false, energiseAt := t } else g)

/-- PRECHARGE_COMPLETE: the DC link is within 2 V of SUP_x and the reverse-polarity switch is fully on; at 7.9 ms without it the
precharge fault latches and the switch opens. -/
def execPrechargeComplete (g : Stg) (vdcMv supMv : Int) (t : Nat) (s : State) : Out :=
  .next (s.updStage g fun g =>
    if g.st = 2 then
      if absN (vdcMv - supMv) ≤ 2000 then { g with rp := true, vdc := (vdcMv / 10).toNat }
      else if g.energiseAt + 7900000 ≤ t then { g with rp := false }.latchFault 11
      else g
    else g)

/-- ISOLATION_SWITCHES_ON: each isolation gate is verified at 11 V (gates in 0.1 V), or the isolation fault latches. -/
def execIsolationSwitchesOn (g : Stg) (gates : Tri Nat) (s : State) : Out :=
  .next (s.updStage g fun g =>
    if g.st = 2 ∧ g.rp then
      let low := min gates.a (min gates.b gates.c)
      if 110 ≤ low then { g with iso := .all true, vgsIso := low, vgsRp := max g.vgsRp 120 }
      else g.latchFault 12
    else g)

/-- BOOTSTRAPS_CHARGED: after 16 all-low pulses the stage reports READY. -/
def execBootstrapsCharged (g : Stg) (pulses : Nat) (s : State) : Out :=
  .next (s.updStage g fun g =>
    if g.st = 2 ∧ g.isoOn ∧ 16 ≤ pulses then { g with bootOk := .all true, st := 3 } else g)

/-- GATE_DROOP (R263): a series gate below 10.0 V for 10 µs in an energised stage; everything is pulled off and the
fault latches. -/
def execGateDroop (g : Stg) (mv us : Nat) (s : State) : Out :=
  .next (s.updStage g fun g =>
    if g.energised ∧ mv < 10000 ∧ 10 ≤ us then
      { g with iso := .all false, rp := false, isolating := false }.latchFault 8 else g)

/-- DE_ENERGISE (R264). -/
def execDeEnergise (g : Stg) (s : State) : Out := .next (s.updStage g StageSt.deEnergise)

/-! ## Protection (R260, R265 to R268) -/

/-- DESATURATION (R266): soft turn-off of the tripped switch and latch 1 or 2; a second leg within 500 ns latches the
dual short. While a short-group fault is latched a further detection is recorded as seen. -/
def StageSt.desat (g : StageSt) (k : Leg) (hard : Bool) (t : Nat) : StageSt :=
  let n := if hard then 2 else 1
  let dual := match g.lastDesat with
    | some (k', u) => decide (k' ≠ k) && decide (t ≤ u + 500)
    | none => false
  let g := { g with lastDesat := some (k, t) }
  if dual then (g.see n).latchFault 4
  else if g.shortLatched then g.see n
  else g.latchShort n t

/-- DESATURATION (R265): VDS of a conducting switch of leg `k` at `mv`, `ns` after its turn-on: the hard-short level of 6.0 V counts from
100 ns, the normal level of 2.0 V from the blanking time. A stage without power in its bridge trips nothing. -/
def execDesaturation (g : Stg) (k : Leg) (mv ns t : Nat) (s : State) : Out :=
  .next (s.updStage g fun g =>
    if !g.energised then g
    else if 6000 < mv ∧ 100 ≤ ns then g.desat k true t
    else if 2000 < mv ∧ 25 * g.blank ≤ ns then g.desat k false t
    else g)

/-- SHUNT_OVERCURRENT (R265, R266): the comparator trips above OC_LEVEL. -/
def execShuntOvercurrent (g : Stg) (amps t : Nat) (s : State) : Out :=
  .next (s.updStage g fun g =>
    if g.st ≠ 0 ∧ g.ocLevel < amps then
      if g.shortLatched then g.see 3 else g.latchShort 3 t
    else g)

/-- SHOOT_THROUGH_COMMAND (R260): both requests of leg `k` on for longer than 5 ns turn both switches off while that lasts, whichever leg it
is; events in 4 consecutive periods latch fault 5. -/
def execShootThroughCommand (g : Stg) (_k : Leg) (ns : Nat) (s : State) : Out :=
  .next (s.updStage g fun g =>
    if 5 < ns then
      let run := match g.stcmdAt with
        | some q => if q = g.p then g.stcmdRun else if q + 1 = g.p then g.stcmdRun + 1 else 1
        | none => 1
      let g := { (g.see 5) with stcmd := (g.stcmd + 1) % 256, stcmdRun := run, stcmdAt := some g.p }
      if 4 ≤ run then g.latchFault 5 else g
    else g)

/-- GATE_SUPPLY_UNDERVOLTAGE (R274): the low-side driver supply below 10.0 V for 1 µs. -/
def execGateSupplyUndervoltage (g : Stg) (mv ns : Nat) (s : State) : Out :=
  .next (s.updStage g fun g => if g.st ≠ 0 ∧ mv < 10000 ∧ 1000 ≤ ns then g.latchFault 7 else g)

/-- CLAMP_ENGAGE (R268): DC link above 58 V in an energised stage, unless the clamp is inhibited. -/
def execClampEngage (g : Stg) (mv : Nat) (s : State) : Out :=
  .next (s.updStage g fun g =>
    if g.energised ∧ 58000 < mv ∧ !g.clampOff ∧ !g.clamp then
      { (g.see 9) with clamp := true, clampEvt := (g.clampEvt + 1) % 256, highOn := .all 0 } else g)

/-- CLAMP_RELEASE (R268): DC link below 54 V; all six off for the rest of the period. -/
def execClampRelease (g : Stg) (mv : Nat) (s : State) : Out :=
  .next (s.updStage g fun g => if g.clamp ∧ mv < 54000 then { g with clamp := false, restOff := true } else g)

/-! ## Enable and re-arming (R269 to R272) -/

/-- The latches that a rising edge of EN leaves: those whose condition remains (`cond`), and every event fault of a
locked-out stage (R267, R270). Bits 1 to 5 are event faults without a standing condition. -/
def StageSt.remaining (g : StageSt) (cond : BitVec 16) : BitVec 16 :=
  let standing := g.latch &&& cond &&& 0x3FC0#16
  if g.lockout then standing ||| (g.latch &&& 0x803E#16) else standing

/-- The module is in ARM or DRIVE, as its powered lanes hold it. -/
def State.mayEnergise (s : State) : Bool :=
  (triList s.lanes).any fun L => L.up && L.mode != 3 && (L.st == stArm || L.st == stDrive)

/-- The rising edge of EN after at least 20 µs low. `may`: the module is in ARM or DRIVE. -/
def StageSt.rearm (g : StageSt) (may : Bool) (cond : BitVec 16) (mv : Int) : StageSt :=
  let had := g.latch
  let ask := g.rp || g.pulseAsk
  let g := { g with latch := g.remaining cond, tie := false, unhealthy := .all false, rearms := (g.rearms + 1) % 256, pulseAsk := false }
  let g := if g.st = 2 then g else g.settle
  if may && ask && had != 0 && g.latch == 0 && !g.isoOn && decide (18000 ≤ mv) && decide (mv ≤ 56000) then
    { g with energiseReq := true } else g

/-- EN_RISING_EDGE (R270): EN has risen. After at least 20 µs low it clears latches whose condition is gone, TIE and the
unhealthy flags; in ARM or DRIVE a stage isolated by a latch that it clears starts to energise (R272). -/
def execEnRisingEdge (g : Stg) (lowUs : Nat) (cond : BitVec 16) (mv : Int) (s : State) : Out :=
  let may := s.mayEnergise
  .next (s.updStage g fun g =>
    if g.en && !g.enSeen then
      let g := { g with enSeen := true }
      if 20 ≤ lowUs then g.rearm may cond mv else g
    else g)

/-- Start an EN pulse on the stages of `m`: EN = 0 in the lane's next two frames of each (R271). The count 1 stands for the frames sent,
with EN_PULSE_END still to come. -/
def LaneSt.startPulse (L : LaneSt) (m : Nat) : LaneSt :=
  for3 (fun i L =>
    if bitN m i then { L with safe := { L.safe with pulse := setNth L.safe.pulse i 3 } } else L) L

/-- STG_REARM (R271): a keyed write; ignored unless the module is in ARM or DRIVE, or in STANDBY for clearing alone. -/
def execStgRearm (l : Lane) (key : BitVec 16) (mask : BitVec 3) (s : State) : Out :=
  onLaneNow l s fun L =>
    if key = 0x3C96#16 then
      if L.st = stArm ∨ L.st = stDrive ∨ L.st = stStandby then L.startPulse mask.toNat else L
    else L.refuseWrite

/-- What the end of an EN pulse of any one lane asks of a stage (R272): de-energised with nothing latched, to energise; latched, to do so
when the edge clears the latch. -/
def StageSt.askEnergise (g : StageSt) (mv : Int) : StageSt :=
  if g.latch ≠ 0 then { g with pulseAsk := true }
  else if g.st = 1 ∧ 18000 ≤ mv ∧ mv ≤ 56000 then { g with energiseReq := true } else g

/-! ## Isolating a winding set (R273) -/

/-- An isolation switch of leg `k` opens; when it is the last, isolation is complete and a due reverse-polarity switch
opens. -/
def StageSt.openPhase (g : StageSt) (k : Leg) : StageSt :=
  ({ g with iso := setNth g.iso (legIx k) false } : StageSt).startIsolation.settle

/-- PHASE_ISOLATE (R273): an isolating phase opens at the first instant its current is below 2 A. -/
def execPhaseIsolate (g : Stg) (k : Leg) (ma : Nat) (s : State) : Out :=
  .next (s.updStage g fun g =>
    if g.isolating ∧ nth g.iso (legIx k) ∧ ma < 2000 then g.openPhase k else g)

/-- ISOLATION_TIMEOUT (R273, R274): a phase still above 2 A after 5 ms opens through its clamp, which is fault 12. -/
def execIsolationTimeout (g : Stg) (k : Leg) (us : Nat) (s : State) : Out :=
  .next (s.updStage g fun g =>
    if g.isolating ∧ nth g.iso (legIx k) ∧ 5000 ≤ us then (g.openPhase k).latchFault 12 else g)

end Sys2Proof.Machine
end

