-- ==== Sys2Proof/Machine/Arbiter.lean ====
section
/-! DEFINITION. The claim arbiter of a stage (R163 to R168), its carrier (R257), its bootstraps (R261) and the
conduction windows of the period it starts (R176). -/
namespace Sys2Proof.Machine

/-- SEQ follows on: the reference plus the number of periods between the frames, modulo 16; a sender without reference
is taken as it comes (R163). -/
def seqFollows (ref : Option (Nat × Nat)) (seq p : Nat) : Bool :=
  match ref with
  | none => true
  | some (q, pq) => seq % 16 == (q + (p - pq)) % 16

/-- A frame arrives from lane index `i` for period `p` (R163). -/
def StageSt.takeFrame (g : StageSt) (i : Nat) (f : XFrame) (p : Nat) (crcOk inTime : Bool) : StageSt :=
  let valid := crcOk && inTime && seqFollows (nth g.refs i) f.seq p
  let g := if crcOk then { g with refs := setNth g.refs i (some (f.seq % 16, p)) } else g
  if valid then { g with
    frames := setNth g.frames i (some f), lastGood := if f.claim % 8 = 0 then g.lastGood else setNth g.lastGood i (some f) }
  else { g with frames := setNth g.frames i none, badNow := setNth g.badNow i true }

/-- CROSS_STRAP_FRAME (R163): the frame of lane `l` for period `p` of the stage: the one that the lane's engine has formed, or, where a
fault on the way or in the lane changes it, `f`. The stage tells where the period start that it marks lies. An unpowered stage takes
none, and a lane that has formed none sends none. -/
def execCrossStrapFrame (g : Stg) (l : Lane) (f : Option XFrame) (mark : Int) (p : Nat) (crcOk inTime : Bool) (s : State) : Out :=
  match f.or (nth (s.lane l).com.stg (stgIx g)).frame with
  | none => .next s
  | some f => .next (s.updStage g fun g => if g.st = 0 then g else g.takeFrame (laneIx l) { f with mark := mark } p crcOk inTime)

/-- The frame of lane index `i` vetoes lane index `j`. -/
def StageSt.vetoes (g : StageSt) (i j : Nat) : Bool :=
  match nth g.frames i with
  | some f => f.veto.getLsbD j
  | none => false

/-- The claim of an ok lane, 0 otherwise (R164). -/
def StageSt.okClaim (g : StageSt) (i : Nat) : Nat :=
  match nth g.frames i with
  | none => 0
  | some f =>
    let j := (i + 1) % 3
    let k := (i + 2) % 3
    if nth g.unhealthy i || (g.vetoes j i && g.vetoes k i) then 0 else f.claim % 8

/-- Highest claim among ok lanes. -/
def StageSt.topClaim (g : StageSt) : Nat := max (g.okClaim 0) (max (g.okClaim 1) (g.okClaim 2))

/-- Lanes, as indices, that carry the highest claim; none when no lane is ok. -/
def StageSt.topLanes (g : StageSt) : List Nat :=
  if g.topClaim = 0 then [] else [0, 1, 2].filter fun i => g.okClaim i == g.topClaim

/-- Report CLM source 0x030`n` to every lane. -/
def StageSt.clmEvent (g : StageSt) (n : Nat) : StageSt :=
  let b : BitVec 8 := 1#8 <<< n
  { g with clmSeen := ⟨g.clmSeen.a ||| b, g.clmSeen.b ||| b, g.clmSeen.c ||| b⟩ }

/-- The gate command in the frame of lane `l`. -/
def cmdOf (f : Option XFrame) : Option GateCmd := f.map fun f => f.cmd

/-- Lane `l` still sends a valid frame with a claim. -/
def StageSt.stillClaims (g : StageSt) (l : Lane) : Bool :=
  match nth g.frames (laneIx l) with
  | some f => f.claim % 8 != 0
  | none => false

/-- No lane accepted: all six off; 0x0305 once when an accepted lane is lost (R164, R166). -/
def StageSt.loseLane (g : StageSt) : StageSt :=
  let g := if g.acc.isSome then g.clmEvent 5 else g
  { g with acc := none, cmd := none, held := false, holdNow := false, wPrev := none }

/-- Apply the command of lane `w`, which is or becomes the accepted lane. -/
def StageSt.applyLane (g : StageSt) (w : Lane) (handover : Bool) : StageSt :=
  { g with acc := some w, cmd := cmdOf (nth g.frames (laneIx w)), held := false, holdNow := false, wPrev := some w
           handovers := if handover then (g.handovers + 1) % 256 else g.handovers
           since := if handover then 0 else g.since + 1 }

/-- The procedure of R164 when `w` is the lane with the highest claim, if any. -/
def StageSt.choose (g : StageSt) (w : Option Lane) : StageSt :=
  if w.isSome && w == g.acc then
    match w with
    | some x => g.applyLane x false
    | none => g
  else if w.isSome && w == g.wPrev then
    match w with
    | some x => g.applyLane x true
    | none => g
  else
    match g.acc with
    | none => { g.loseLane with wPrev := w }
    | some a =>
      if g.stillClaims a then
        { g with cmd := cmdOf (nth g.frames (laneIx a)), holdNow := false, wPrev := w, since := g.since + 1 }
      else if !g.held then
        { g with cmd := cmdOf (nth g.lastGood (laneIx a)), held := true, holdNow := true, wPrev := w, since := g.since + 1 }
      else { g.loseLane with wPrev := w }

/-- Accept a lane for the coming period: equal highest claims latch TIE and raise 0x0301 (R165). -/
def StageSt.arbitrate (g : StageSt) : StageSt :=
  let g := { g with okMask := mask3 fun i => g.okClaim i != 0 }
  match g.topLanes with
  | [] => g.choose none
  | [i] => g.choose (some (laneOf i))
  | _ =>
    let g := if g.tie then g else g.clmEvent 1
    { g with tie := true, acc := none, cmd := none, held := false, holdNow := false, wPrev := none }

/-- Two edges differ beyond the tolerance. -/
def edgesDiffer (tol : Nat) (a b : Edges) : Bool :=
  decide (tol < absN ((a.lon : Int) - b.lon)) || decide (tol < absN ((a.loff : Int) - b.loff))

/-- Two gate commands differ on any edge beyond the tolerance (R167). -/
def cmdsDiffer (tol : Nat) (x y : GateCmd) : Bool :=
  edgesDiffer tol x.a y.a || edgesDiffer tol x.b y.b || edgesDiffer tol x.c y.c

/-- Lane index `i` is an ok lane that is not accepted. -/
def StageSt.standby (g : StageSt) (i : Nat) : Bool := bitN g.okMask i && g.acc != some (laneOf i)

/-- Standby `i` differs from the applied command. -/
def StageSt.strays (g : StageSt) (i : Nat) : Bool :=
  match nth g.frames i, g.cmd with
  | some f, some c => g.standby i && cmdsDiffer g.tol f.cmd c
  | _, _ => false

/-- The two standbys agree with each other within tolerance while both differ from the applied command (R168). -/
def StageSt.bothStray (g : StageSt) : Bool :=
  match g.acc with
  | none => false
  | some a =>
    let (j, k) := otherLanes a
    g.strays (laneIx j) && g.strays (laneIx k) &&
    (match nth g.frames (laneIx j), nth g.frames (laneIx k) with
     | some x, some y => !cmdsDiffer g.tol x.cmd y.cmd
     | _, _ => false)

/-- Count standby `i` and flag it after 8 periods (R167). -/
def StageSt.watch (g : StageSt) (i : Nat) : StageSt :=
  let n := if g.strays i then nth g.differ i + 1 else 0
  if 8 ≤ n then { (g.clmEvent 2) with differ := setNth g.differ i 0, unhealthy := setNth g.unhealthy i true }
  else { g with differ := setNth g.differ i n }

/-- Standby health (R167, R168): not in a held period, in the period of a handover, or in the two after it. -/
def StageSt.health (g : StageSt) : StageSt :=
  match g.acc with
  | none => g
  | some a =>
    if g.holdNow || decide (g.since < 3) then g
    else
      let n := if g.bothStray then g.flagged + 1 else 0
      if 8 ≤ n then
        { (g.clmEvent 3) with flagged := 0, differ := .all 0, unhealthy := setNth g.unhealthy (laneIx a) true }
      else for3 (fun i g => g.watch i) { g with flagged := n }

/-- The lane enable (R269). -/
def StageSt.laneEnable (g : StageSt) : Bool :=
  match g.acc with
  | some a =>
    match nth g.frames (laneIx a), nth g.lastGood (laneIx a) with
    | some f, _ => f.en
    | none, some f => f.en
    | none, none => false
  | none =>
    let ens := (triList g.frames).filterMap fun f => f.map fun f => f.en
    decide (2 ≤ (ens.filter id).length) || ens == [true]

/-- Take the lane enable; a fall of EN makes the next rise an edge (R270). -/
def StageSt.takeEn (g : StageSt) : StageSt :=
  let g := { g with laneEn := g.laneEnable }
  { g with enSeen := g.enSeen && g.en }

/-- ISO in the frames of the accepted lane and of every other ok lane (R273). -/
def StageSt.allIso (g : StageSt) : Bool :=
  g.acc.isSome && [0, 1, 2].all fun i =>
    match nth g.frames i with
    | some f => f.iso || !(bitN g.okMask i || g.acc == some (laneOf i))
    | none => g.acc != some (laneOf i)

/-- Isolate after 8 consecutive periods of ISO (R273). -/
def StageSt.countIso (g : StageSt) : StageSt :=
  let n := if g.allIso then g.isoRun + 1 else 0
  if n = 8 then { g with isoRun := n }.startIsolation.settle else { g with isoRun := n }

/-- Frame loss: no valid frame for 8 consecutive periods is fault 13 (R274). -/
def StageSt.countLoss (g : StageSt) : StageSt :=
  if (triList g.frames).all (fun f => f.isNone) then
    let g := { g with noFrame := g.noFrame + 1 }
    if g.noFrame = 8 then g.see 13 else g
  else { g with noFrame := 0 }

/-- Median of the marks in the valid frames. -/
def StageSt.markMedian (g : StageSt) : Option Int :=
  match (triList g.frames).filterMap fun f => f.map fun f => f.mark with
  | [x] => some x
  | [x, y] => some ((x + y) / 2)
  | [x, y, z] => some (mid3 x y z)
  | _ => none

/-- Move the carrier towards the median by at most 8 microticks (R257). -/
def StageSt.moveCarrier (g : StageSt) : StageSt :=
  match g.markMedian with
  | some m => { g with phase := g.phase + clampI (m - g.phase) (-8) 8 }
  | none => g

/-- An edge as applied: 1 to 35 is 0, T - 35 to T - 1 is T (R259). -/
def snapEdge (T e : Nat) : Nat := if 0 < e ∧ e < 36 then 0 else if T < e + 36 ∧ e < T then T else e

/-- A leg command is the floating pair. -/
def edgeFloats (e : Edges) : Bool := e.lon == 0xFFFF && e.loff == 0xFFFF

/-- A leg command that R259 calls invalid. -/
def edgeInvalid (T : Nat) (e : Edges) : Bool :=
  !edgeFloats e && (decide (e.loff < e.lon) || decide (T < e.lon) || decide (T < e.loff))

/-- The stage applies its gate command: EN high, a lane accepted, nothing latched, no TIE, READY (R165, R269). -/
def StageSt.drives (g : StageSt) : Bool := g.en && g.acc.isSome && g.latch == 0 && !g.tie && g.st == 3

/-- One leg at the start of a period: command error (R259), refresh pulse and bootstrap undervoltage (R261). While the clamp is engaged
the arbiter's output is ignored (R268). -/
def StageSt.startLeg (g : StageSt) (k : Nat) : StageSt :=
  match if g.clamp then none else g.cmd with
  | none => { g with highOn := setNth g.highOn k 0, pulse := setNth g.pulse k false, bootRun := setNth g.bootRun k 0 }
  | some c =>
    let e := nth c k
    if edgeInvalid g.per e then
      { (g.see 10) with legOff := setNth g.legOff k true, highOn := setNth g.highOn k 0, pulse := setNth g.pulse k false }
    else if edgeFloats e then { g with highOn := setNth g.highOn k 0, pulse := setNth g.pulse k false }
    else
      let high := decide (0 < snapEdge g.per e.lon)
      let low := nth g.vboot k
      let need := decide (low < 105) || decide (1600000 ≤ nth g.highOn k)
      let pulse := need && high && decide (0 < nth g.highOn k)
      let g := { g with pulse := setNth g.pulse k pulse }
      let on := if snapEdge g.per e.loff ≤ snapEdge g.per e.lon then (if pulse then 0 else nth g.highOn k) + g.per
                else g.per - snapEdge g.per e.loff
      let g := { g with highOn := setNth g.highOn k on }
      if decide (low < 90) && (high || decide (snapEdge g.per e.loff < g.per)) then
        let n := nth g.bootRun k + 1
        let g := { (g.see 6) with bootRun := setNth g.bootRun k n, highOff := setNth g.highOff k true, highOn := setNth g.highOn k 0 }
        if 8 ≤ n then g.latchFault 6 else g
      else { g with bootRun := setNth g.bootRun k 0 }

/-- Half of the longest window (R176). -/
def StageSt.hMax (g : StageSt) : Nat := g.per / 2 - 2000

/-- The stage applies the all-off command: no command, or one with every leg off (R180). -/
def StageSt.allOff (g : StageSt) : Bool :=
  !g.clamp && (match g.cmd with
    | none => true
    | some c => edgeFloats c.a && edgeFloats c.b && edgeFloats c.c)

/-- The window length of leg `k` in the period (R176, R180, R268). -/
def StageSt.window (g : StageSt) (k : Nat) : Nat :=
  if g.clamp || g.allOff then 2 * g.hMax
  else
    match g.cmd with
    | none => 2 * g.hMax
    | some c =>
      let e := nth c k
      if edgeFloats e || nth g.legOff k then 0
      else
        let v : Int := (g.per / 2 : Nat)
        let a := snapEdge g.per e.lon
        let b := snapEdge g.per e.loff
        let start : Int := if a = 0 then 0 else (a : Int) + 36
        let stop : Int := if b = g.per then b else (b : Int) - 36
        if start ≤ v ∧ v ≤ stop then
          2 * (min (min (v - (start + 120)) ((stop - 40) - v)) g.hMax).toNat
        else 0

/-- Windows and converters of the period `p` (R176, R181); no results yet. -/
def StageSt.openWindows (g : StageSt) : StageSt :=
  { g with w := ⟨g.window 0, g.window 1, g.window 2⟩, test := none, conv := .all (g.p % 2), d := .all none }

/-- The start of period `p` of a stage (R164 to R168, R257 to R261, R269, R273, R176). The frames used are spent. -/
def StageSt.periodStart (g : StageSt) (i : PeriodIn) : StageSt :=
  let g := { g with p := i.p, vdc := i.vdc, tj := i.tj, vboot := i.vboot, restOff := false, legOff := .all false, highOff := .all false }
  let g := { g with bootOk := ⟨decide (105 ≤ i.vboot.a), decide (105 ≤ i.vboot.b), decide (105 ≤ i.vboot.c)⟩ }
  let g := if g.tie then { g with acc := none, cmd := none, held := false, holdNow := false, wPrev := none
                                  okMask := mask3 fun i => g.okClaim i != 0 } else g.arbitrate
  let g := g.health.takeEn.countIso.countLoss.moveCarrier
  let g := if g.drives then g else { g with cmd := none }
  let g := for3 (fun k g => g.startLeg k) g
  { g.openWindows with frames := .all none }

/-- Group of registers frozen at the period start of a stage. -/
def stageFreeze : Stg → Freeze
  | .A => .stgA
  | .B => .stgB
  | .C => .stgC

/-- PWM_PERIOD_START (R164): the stage's arbiter and switches take the new period, and each powered lane freezes the
registers that its tables tie to a period of that stage (R8). -/
def execPwmPeriodStart (g : Stg) (i : PeriodIn) (s : State) : Out :=
  let s := s.updStage g fun g => if g.st = 0 then g else g.periodStart i
  let fr := fun (L : LaneSt) => if L.up then L.freeze (stageFreeze g) else L
  .next { s with lanes := ⟨fr s.lanes.a, fr s.lanes.b, fr s.lanes.c⟩ }

end Sys2Proof.Machine
end

