-- ==== Sys2Proof/Machine/System.lean ====
section
/-! DEFINITION. The state controller: requests, transitions, handshake, clocks and bias (03). -/
namespace Sys2Proof.Machine

/-- Result codes of SYS_TRANS_STAT. -/
abbrev rDone : Nat := 1
abbrev rMerged : Nat := 2
abbrev rReplaced : Nat := 3
abbrev rRefused : Nat := 4
abbrev rAbandoned : Nat := 5
abbrev rFailed : Nat := 6
abbrev rPreempted : Nat := 7

/-- No transition is in flight (SYS_STATE.PHASE). -/
def LaneSt.idle (L : LaneSt) : Bool := L.rd Reg.SYS_STATE_PHASE == 0

/-- Empty the pending slot; a request in it is replaced (R70). -/
def LaneSt.dropPending (L : LaneSt) : LaneSt :=
  if L.on Reg.SYS_STATE_PEND_VALID then (L.put Reg.SYS_STATE_PEND_VALID false).report rReplaced else L

/-- End the transition in flight without a change of state: result, and the pending request discarded (R70). -/
def LaneSt.endTransition (L : LaneSt) (result reason block : Nat) : LaneSt :=
  let L := (L.wr Reg.SYS_STATE_PHASE 0).wr Reg.SYS_STATE_TARGET L.st
  (L.report result reason block).dropPending

/-! ## Requests (R70, R71) -/

/-- The request is that of a round that has agreed on it without this lane, up to four rounds ago: the skew of R60. -/
def LaneSt.late (L : LaneSt) (target : Nat) : Bool :=
  match L.sys.recent with
  | some (w, at_) => w == target && decide (L.time < at_ + 200000)
  | none => false

/-- A request for the state `target` from the application or a host: FOLD at once (R61); otherwise it is carried in
the next round, and of two requests in one round the lower state wins (R70). In FOLD only PARK is accepted (R71). -/
def LaneSt.request (L : LaneSt) (target : Nat) : LaneSt :=
  if target = stFold then { L with sys := { L.sys with fold := true } }
  else if target = stOff ∨ stFold < target ∨ (L.st = stFold ∧ target ≠ stPark) then L.report rRefused 0x05
  else
    match L.sys.want with
    | none =>
      if L.late target then { L with sys := { L.sys with recent := none } }
      else { L with sys := { L.sys with want := some target } }
    | some w =>
      if w = target then L
      else { L with sys := { L.sys with want := some (min w target) } }.report rReplaced

/-- SYS_REQ (R70, R88): a keyed write of the target. -/
def execSysReq (l : Lane) (key : BitVec 16) (target : BitVec 3) (s : State) : Out :=
  onLaneNow l s fun L => if key = 0x5A17#16 then L.request target.toNat else L.refuseWrite

/-! ## Transitions (R62, R63) -/

/-- The transitions of R62 that a request can start. -/
def canGo (src dst : Nat) : Bool :=
  [(2, 1), (2, 3), (3, 4), (3, 2), (3, 1), (4, 3), (4, 2), (4, 1), (5, 1)].contains (src, dst)

/-- SUP_x as the lane measures it (R193), or as it was last told. -/
def LaneSt.supNow (L : LaneSt) : Int :=
  if L.on (Reg.MEAS_GP_VALID 0) then 10 * L.rdS (Reg.MEAS_GP_VALUE 0) else L.pwr.supMv

/-- Channels on which Flock integration holds. -/
def LaneSt.channels (L : LaneSt) : Nat :=
  if L.rd Reg.FLK_STAT_STATE = 3 then
    (if L.on Reg.FLK_STAT_CH_X then 1 else 0) + (if L.on Reg.FLK_STAT_CH_Y then 1 else 0)
  else 0

/-- The first precondition of R63 that does not hold in lane `l`, as its reason code; 0 when all hold. `voters` lanes vote. Each lane
measures the supply of its own stage and its own die; latches, lost supplies, STO inputs and the stages' dies it sees in the stages'
status. -/
def LaneSt.armRefusal (L : LaneSt) (l : Lane) (voters : Nat) : Nat :=
  let assigned := [0, 1, 2].filter L.assigned
  if !L.nvm.inForce then 0x07
  else if voters < L.rd Reg.SYS_POLICY_MIN_LANES_ARM then 0x08
  else if L.channels < L.rd Reg.SYS_POLICY_NET_ARM then 0x09
  else if assigned.any (fun s => L.on (Reg.STG_STAT_LATCHED s) || nth L.meas.supLost s) then 0x0A
  else if L.assigned (laneIx l) && (decide (L.supNow < 18000) || decide (56000 < L.supNow)) then 0x0A
  else if assigned.any (fun s => !L.on (Reg.STG_STAT_STO_IN s)) || L.on Reg.SAFE_STAT_EXT then 0x0B
  else if decide (145 * 8 ≤ L.rdS Reg.SYS_BIAS_TJ) ||
      [0, 1, 2].any (fun s => decide (145 + 64 ≤ L.rd (Reg.STG_STAT_TJ s))) then 0x0C
  else 0

/-- What a round brings to a decision on a target: the lanes that vote, and the first precondition of R63 that does not hold in one of
the other lanes, 0 for none. -/
structure Ballot where
  voters : Nat
  why : Nat

/-- The lower of two reasons other than 0. -/
def firstWhy (a b : Nat) : Nat := if a = 0 then b else if b = 0 then a else min a b

/-- The transition to `t` starts; it ends the session (R104). -/
def LaneSt.beginTransition (L : LaneSt) (t : Nat) : LaneSt :=
  let up := (t = stArm ∧ L.st = stStandby) ∨ t = stDrive
  let L := (L.wr Reg.SYS_STATE_TARGET t).wr Reg.SYS_STATE_PHASE (if up then 2 else 1)
  let L := L.setReg 0x40000010 0#32
  { L with sys := { L.sys with started := L.time, delayAt := [], exceeded := [], stepFail := none, armDone := 0 } }.endSession

/-- Start the transition to `t`, or refuse it (R62, R63, R103). -/
def LaneSt.startTransition (L : LaneSt) (l : Lane) (t : Nat) (b : Ballot) : LaneSt :=
  if !canGo L.st t then L.report rRefused 0x05
  else
    let why := if t = stArm ∧ L.st = stStandby then
        (if L.mbx.commit.isSome then 0x04 else firstWhy (L.armRefusal l b.voters) b.why) else 0
    if why ≠ 0 then L.report rRefused why else L.beginTransition t

/-- A target agreed by the round (R60, R70): merged into the transition in flight, placed in the pending slot, or
started. -/
def LaneSt.agreeTarget (L : LaneSt) (l : Lane) (t : Nat) (b : Ballot) : LaneSt :=
  if L.idle then L.startTransition l t b
  else if t = L.rd Reg.SYS_STATE_TARGET then L.report rMerged
  else (L.dropPending.wr Reg.SYS_STATE_PENDING t).put Reg.SYS_STATE_PEND_VALID true

/-- A pending request starts at the slot after a transition has completed (R70). -/
def LaneSt.startPending (L : LaneSt) (l : Lane) (b : Ballot) : LaneSt :=
  if L.idle && L.on Reg.SYS_STATE_PEND_VALID then
    (L.put Reg.SYS_STATE_PEND_VALID false).startTransition l (L.rd Reg.SYS_STATE_PENDING) b
  else L

/-! ## The handshake (R65 to R69) -/

/-- Any stage phase current above 1 A (R69). -/
def LaneSt.currentFlows (L : LaneSt) : Bool :=
  [0, 1, 2].any fun s => [0, 1, 2].any fun k => decide (65536 < absN (L.rdS (Reg.MEAS_I_I s k)))

/-- Speed above the standstill limit: the agreed SPEED, in 0.1 Hz, against VSTOP (R69, R280). -/
def LaneSt.moves (L : LaneSt) : Bool :=
  decide (L.rd Reg.SAFE_SS1_CFG2_VSTOP < absN (L.rdS (Reg.AGR_VEC_VALUE 6)))

/-- Answer of block `b` to the target `t`: 1 ACCEPT, 2 DELAY, 3 REFUSE, and the reason (R69). -/
def LaneSt.answer (L : LaneSt) (t b : Nat) : Nat × Nat :=
  match b with
  | 0 => if L.fc.queue.isEmpty then (1, 0) else (2, 0)
  | 4 => if t = stPark ∧ L.moves then (3, 0x01) else (1, 0)
  | 5 => if L.currentFlows then (2, 0x02) else (1, 0)
  | 10 =>
    if L.rd Reg.AUX_STAT_STATE = 3 then (3, 0x0D)
    else if L.rd Reg.AUX_STAT_STATE = 1 ∨ L.rd Reg.AUX_STAT_STATE = 2 then (2, 0) else (1, 0)
  | 11 => if L.chn.active then (2, 0) else (1, 0)
  | 12 => if L.time < L.sec.eraseEnd then (2, 0) else (1, 0)
  | 13 => if L.mbx.commit.isSome then (3, 0x04) else if !L.mbx.segs.isEmpty then (2, 0) else (1, 0)
  | 15 => if t = stPark ∧ L.on Reg.DBG_SESSION_OPEN then (3, 0x03) else (1, 0)
  | _ => (1, 0)

/-- The transition to ARM is in its execution steps. -/
def LaneSt.arming (L : LaneSt) : Bool :=
  L.rd Reg.SYS_STATE_PHASE == 2 && L.rd Reg.SYS_STATE_TARGET == stArm && L.st == stStandby

/-- The sixteen answers of a lane in this slot. A block past its declared delay refuses, COM with reason CURRENT (R66, R69); in the
steps of R64 the block of a failed step does, with STEP_FAIL. -/
def LaneSt.answers (L : LaneSt) : List (Nat × Nat) :=
  (List.range 16).map fun b =>
    if L.arming then (if L.sys.stepFail = some b then (3, 0x0F) else (1, 0))
    else if L.sys.exceeded.contains b then (3, if b = 5 then 0x02 else 0x06)
    else L.answer (L.rd Reg.SYS_STATE_TARGET) b

/-- The answers that go with the slot's message. -/
def LaneSt.speak (L : LaneSt) (l : Lane) : LaneSt :=
  { L with sys := { L.sys with said := L.answers, saidWhy := L.armRefusal l 3 } }

/-- Record the lane's answers in SYS_HS_STAT, and the time of each block's first DELAY. -/
def LaneSt.noteAnswers (L : LaneSt) (a : List (Nat × Nat)) : LaneSt :=
  let L := forN 16 (fun b L => L.wr (Reg.SYS_HS_STAT_ANS b) (a.getD b (1, 0)).1) L
  let fresh := (List.range 16).filter fun b => (a.getD b (1, 0)).1 == 2 && !(L.sys.delayAt.any fun d => d.1 == b)
  { L with sys := { L.sys with delayAt := L.sys.delayAt ++ fresh.map fun b => (b, L.time) } }

/-- The first REFUSE among the answers of the lanes: block and reason. -/
def refusal (all : List (List (Nat × Nat))) : Option (Nat × Nat) :=
  all.findSome? fun a => ((List.range 16).find? fun b => (a.getD b (1, 0)).1 == 3).map fun b => (b, (a.getD b (1, 0)).2)

/-- HANDSHAKE_DELAY_EXCEEDED (R66, R69): a block answering DELAY 10 ms after its first DELAY is treated as REFUSE, which its lane
answers in the next round. -/
def execHandshakeDelayExceeded (l : Lane) (block : Nat) (t : Nat) (s : State) : Out :=
  onLane l t s fun L =>
    let late := L.sys.delayAt.any fun d => d.1 == block && decide (d.2 + 10000000 ≤ t)
    if L.rd Reg.SYS_STATE_PHASE = 1 ∧ block < 16 ∧ L.rd (Reg.SYS_HS_STAT_ANS block) = 2 ∧ late then
      { L with sys := { L.sys with exceeded := block :: L.sys.exceeded } }
    else L

/-! ## Clocks and bias (R78 to R80) -/

/-- Raise bias to +0.3 V, then the core clock to 800 MHz once it has settled (R79). -/
def LaneSt.clockUp (L : LaneSt) : LaneSt :=
  let L := (L.wr Reg.SYS_BIAS_BIAS 1).put Reg.SYS_BIAS_SETTLED false
  { L with sys := { L.sys with freqNext := some 2 } }

/-- Lower the core clock to `f`, then the bias to zero (R79). -/
def LaneSt.clockDown (L : LaneSt) (f : Nat) : LaneSt :=
  let L := ((L.wr Reg.SYS_CLK_STAT_CORE_FREQ f).wr Reg.SYS_BIAS_BIAS 0).put Reg.SYS_BIAS_SETTLED false
  { L with sys := { L.sys with freqNext := none } }

/-- BIAS_SETTLED (R79): the dependent clock change takes effect. -/
def execBiasSettled (l : Lane) (t : Nat) (s : State) : Out :=
  onLane l t s fun L =>
    if L.on Reg.SYS_BIAS_SETTLED then L
    else
      let L := L.put Reg.SYS_BIAS_SETTLED true
      let L := match L.sys.freqNext with
        | some f => L.wr Reg.SYS_CLK_STAT_CORE_FREQ f
        | none => L
      { L with sys := { L.sys with freqNext := none, armDone := L.sys.armDone ||| 1#5 } }

/-- The core runs at 800 MHz, or is about to. -/
def LaneSt.fastCore (L : LaneSt) : Bool := L.rd Reg.SYS_CLK_STAT_CORE_FREQ == 2 || L.sys.freqNext == some 2

/-- THERMAL_CLOCK_DOWN (R78, R80): Tj above 140 °C, which TJ_HOT shows in every powered state. A core at 800 MHz, as in ARM, DRIVE and
FOLD, drops to 600 MHz, then its bias to zero; that raises 0x0E05. -/
def execThermalClockDown (l : Lane) (tj : Int) (t : Nat) (s : State) : Out :=
  onLane l t s fun L =>
    if 140 < tj then
      let L := (L.wrS Reg.SYS_BIAS_TJ (8 * tj)).put Reg.SYS_BIAS_TJ_HOT true
      if L.fastCore then (L.clockDown 1).raise 0x0E05 else L
    else L

/-- THERMAL_CLOCK_UP (R80): Tj below 135 °C: forward bias, then 800 MHz, in a lane that was at 600 MHz. -/
def execThermalClockUp (l : Lane) (tj : Int) (t : Nat) (s : State) : Out :=
  onLane l t s fun L =>
    if L.on Reg.SYS_BIAS_TJ_HOT ∧ tj < 135 then
      let L := (L.wrS Reg.SYS_BIAS_TJ (8 * tj)).put Reg.SYS_BIAS_TJ_HOT false
      if L.rd Reg.SYS_CLK_STAT_CORE_FREQ = 1 then L.clockUp else L
    else L

/-! ## STANDBY to ARM (R64) -/

/-- The clock and bias of ARM (R78): 800 MHz and forward bias, or, with Tj above 140 °C, 600 MHz at zero bias, which needs no settling. -/
def LaneSt.armClock (L : LaneSt) : LaneSt :=
  if L.on Reg.SYS_BIAS_TJ_HOT then
    { L.wr Reg.SYS_CLK_STAT_CORE_FREQ 1 with sys := { L.sys with armDone := 1#5, freqNext := none } }
  else { L.clockUp with sys := { L.clockUp.sys with armDone := 0 } }

/-- What starts with the transition in one lane (R64, R109, R191). -/
def LaneSt.beginArm (L : LaneSt) : LaneSt :=
  let L := L.armClock
  { L with
    meas := { L.meas with ofsWin := List.replicate 18 [], removed := .all false }
    pos := { L.pos with sp1 := { L.pos.sp1 with det := 0, found := 0, psi5On := false, mode := 0 }
                        sp2 := { L.pos.sp2 with det := 0, found := 0, psi5On := false, mode := 0 } } }

/-- ARM_SEQUENCE (R64): forward bias; every assigned stage is asked to precharge. -/
def execArmSequence (l : Lane) (t : Nat) (s : State) : Out :=
  let L := s.lane l
  if L.up && L.arming then
    let s := s.updLane l fun L => (L.tick t).beginArm
    let ask := fun (i : Nat) (g : StageSt) => if L.assigned i then { g with energiseReq := true } else g
    .next { s with stages := ⟨ask 0 s.stages.a, ask 1 s.stages.b, ask 2 s.stages.c⟩ }
  else .next s

/-- The transition to ARM ends in STANDBY: clock and bias as there. -/
def LaneSt.failArm (L : LaneSt) (why block : Nat) : LaneSt := (L.clockDown 0).endTransition rFailed why block

/-- A step of R64 failed in this lane: its block refuses in the next round, and every lane returns to STANDBY (R64). -/
def LaneSt.stepFailed (L : LaneSt) (block : Nat) : LaneSt :=
  if L.sys.stepFail.isSome then L else { L with sys := { L.sys with stepFail := some block } }

/-- One handshake round (R65, R67): `all` holds the answers of every voting lane. A REFUSE abandons, all ACCEPT proceeds to execution.
In the steps of R64 the block of a failed step ends the transition. -/
def LaneSt.handshake (L : LaneSt) (all : List (List (Nat × Nat))) : LaneSt :=
  if L.rd Reg.SYS_STATE_PHASE = 1 then
    let L := L.noteAnswers L.sys.said
    match refusal all with
    | some (b, why) => L.endTransition rRefused why b
    | none => if all.all (fun a => a.all fun x => x.1 == 1) then L.wr Reg.SYS_STATE_PHASE 2 else L
  else if L.arming then
    match refusal all with
    | some (b, why) => L.failArm why b
    | none => L
  else L

/-- A step of R64 is complete: bit `i` of the steps done. -/
def LaneSt.armStep (L : LaneSt) (i : Nat) : LaneSt :=
  { L with sys := { L.sys with armDone := L.sys.armDone ||| (1#5 <<< i) } }

/-- Lane `l` tests the copies of stage `i`'s logic: its own stage's, or the one that it has taken over (R318). -/
def LaneSt.testsStage (L : LaneSt) (l : Lane) (i : Nat) : Bool :=
  i == laneIx l || (L.on Reg.CHN_STAT_TAKEOVER && L.rd Reg.CHN_STAT_TK_STAGE == i)

/-- A copy of stage `i`'s logic has failed (R318, R321): 0x0C06; the stage is removed from service. -/
def LaneSt.copyFailed (L : LaneSt) (i : Nat) : LaneSt :=
  let L := ((L.put Reg.CHN_UNITS_COPY_FAIL true).raise 0x0C06 i).removeStage i
  { L with meas := { L.meas with copyFail := setNth L.meas.copyFail i true } }

/-- The stage tells in its status whether the copy that lane `l` tests has failed; `m` is the stages tested. -/
def State.noteCopies (s : State) (l : Lane) (m : Nat) : State :=
  let L := s.lane l
  let note := fun (i : Nat) (g : StageSt) => if bitN m i then { g with copyFail := nth L.meas.copyFail i } else g
  { s with stages := ⟨note 0 s.stages.a, note 1 s.stages.b, note 2 s.stages.c⟩ }

/-- The copies that a lane has tested in the step of R64: a failed one that now passes may arm again (R318). -/
def LaneSt.armCopies (L : LaneSt) (l : Lane) (copyOk : Tri Bool) : LaneSt :=
  for3 (fun i L =>
    if !L.testsStage l i then L
    else if nth copyOk i then
      { L.put Reg.CHN_UNITS_COPY_FAIL false with meas := { L.meas with copyFail := setNth L.meas.copyFail i false } }
    else L.copyFailed i) L

/-- ARM_SELFTEST_COMPLETE (R64, R200, R290, R318): the collector's, Churn controller's and position front end's
self-tests. A failure fails the step with its block; 0x0C04 for the first two. `copyOk` tells of the stages whose copies the lane tests. -/
def execArmSelftestComplete (l : Lane) (fcOk chnOk posOk : Bool) (copyOk : Tri Bool) (t : Nat) (s : State) : Out :=
  let L := s.lane l
  if L.up && L.arming then
    let s := s.updLane l fun L =>
      let L := (L.tick t).armCopies l copyOk
      if !fcOk then (L.stepFailed 0).raise 0x0C04
      else if !chnOk then (L.stepFailed 11).raise 0x0C04
      else if !posOk then L.stepFailed 4
      else L.armStep 1
    .next (s.noteCopies l (mask3 fun i => L.testsStage l i))
  else .next s

/-- The front end records the index count while MODE is not OFF and the state not IGNORED (R209). -/
def LaneSt.recordsIndex (L : LaneSt) : Bool := L.rd Reg.POS_IDX_CFG_MODE != 0 && L.rd Reg.POS_IDX_STAT_STATE != 2

/-- Forget a stage's loss of lock at a passage from STANDBY to ARM (R246). -/
def LaneSt.forgetLock (L : LaneSt) (s : Nat) : LaneSt :=
  let L := ((L.put (Reg.COM_STAT_COAST.bit s) false).put (Reg.COM_STAT_FLOAT.bit s) false).wr (Reg.COM_STG_STAT_OBS s) 0
  { L with com := { L.com with stg := updNth L.com.stg s fun c =>
    { c with barredArm := false, floatAt := none, coast := none, capture := false, crossings := 0 } } }

/-- Into ARM. From STANDBY every stage not removed in the transition itself, and without a failed copy (R318), is in service again (R185); the index record is
taken anew (R209), and an excluded encoder may join fusion again (R215). -/
def LaneSt.enterArm (L : LaneSt) : LaneSt :=
  let L := if L.st = stStandby then
      for3 (fun s L => (if nth L.meas.removed s || nth L.meas.copyFail s then L
        else (L.put (Reg.MEAS_STAT_OUT_OF_SERVICE.bit s) false).endMask (8 + s)).forgetLock s) L else L
  let L := if L.recordsIndex then { L with pos := { L.pos with idxAt := some L.pos.encTotal } } else L
  let L := { L with pos := { L.pos with excluded := false, apart := 0 } }
  L.wr Reg.SYS_STATE_MODULE stArm

/-- End of the detection of R109: no mode, or one that differs from a fixed one, makes the port invalid. -/
def LaneSt.settlePort (L : LaneSt) (i : Nat) : LaneSt :=
  let d := (L.sp i).found
  let ok := match L.spMode i with
    | 0 => true
    | 1 => d != 0
    | 2 => d == 1
    | _ => d == 2 || d == 3
  if ok then L else (L.spInvalid i).raise 0x0708

/-- The detection on SP port `i` is over (R109): a mode is found, or 22 ms of the transition have passed. -/
def LaneSt.spSettled (L : LaneSt) (t i : Nat) : Bool :=
  L.spMode i == 0 || (L.sp i).found != 0 || decide (L.sys.started + 22000000 ≤ t)

/-- End of the detection of both ports. -/
def LaneSt.settleSp (L : LaneSt) : LaneSt := (L.settlePort 0).settlePort 1

/-! ## Steps that all lanes take in one slot (R58, R59) -/

/-- Lane `k` is in the same phase of the same transition as lane `l`, not SILENT. -/
def State.inStep (s : State) (l k : Lane) : Bool :=
  let L := s.lane l
  let K := s.lane k
  k == l || (K.up && K.mode != 3 && K.st == L.st && K.rd Reg.SYS_STATE_PHASE == L.rd Reg.SYS_STATE_PHASE &&
    K.rd Reg.SYS_STATE_TARGET == L.rd Reg.SYS_STATE_TARGET)

/-- Every lane in step with lane `l` does `f`. -/
def State.stepTogether (s : State) (l : Lane) (f : Lane → LaneSt → LaneSt) : State :=
  [Lane.A, .B, .C].foldl (fun s' k => if s.inStep l k then s'.updLane k (f k) else s') s

/-- The stages at rest (R58): de-energised. -/
def State.restStages (s : State) : State :=
  { s with stages := ⟨s.stages.a.deEnergise, s.stages.b.deEnergise, s.stages.c.deEnergise⟩ }

/-- Lane `l`, which was `was`, has just come to STANDBY from a higher state, or its transition to ARM has just ended there (R58, R64): the
stages' isolation and reverse-polarity switches turn off. -/
def State.restAfter (s : State) (was : LaneSt) (l : Lane) : State :=
  let L := s.lane l
  if L.st = stStandby ∧ ((stArm ≤ was.st) ∨ (was.arming ∧ !L.arming)) then s.restStages else s

/-- Every step of R64 is done in the lane, and every assigned stage is READY. -/
def LaneSt.armReady (L : LaneSt) (t : Nat) : Bool :=
  L.arming && L.spSettled t 0 && L.spSettled t 1 && L.sys.armDone == 0b11111#5 && L.sys.stepFail.isNone &&
  [0, 1, 2].all fun i => !L.assigned i || L.rd (Reg.STG_STAT_STATE i) == 3

/-- ARM_COMPLETE (R59, R64): at a slot start, once every step is done in every lane that arms: the module is in ARM, claims are
presented. -/
def execArmComplete (l : Lane) (t : Nat) (s : State) : Out :=
  if (s.lane l).up && t % 50000 == 0 && [Lane.A, .B, .C].all (fun k => !s.inStep l k || (s.lane k).armReady t) then
    .next (s.stepTogether l fun k L => (((L.tick t).enterArm.wr Reg.SYS_STATE_PHASE 0).report rDone).settleSp.refreshClaims k)
  else .next s

/-- The limit of the transition in flight has passed (R62, R66): 20 ms after its first handshake round a downward one is abandoned; an
upward one fails at its limit: 30 ms to ARM, 5 ms to DRIVE and from FOLD to STANDBY. -/
def LaneSt.timeOut (L : LaneSt) (t : Nat) : LaneSt :=
  let tgt := L.rd Reg.SYS_STATE_TARGET
  if L.rd Reg.SYS_STATE_PHASE = 1 then
    if L.sys.started + 20000000 ≤ t then L.endTransition rAbandoned 0x0E 0x1F else L
  else if L.arming then
    if L.sys.started + 30000000 ≤ t then L.failArm 0x0E 0x1F else L
  else if L.rd Reg.SYS_STATE_PHASE = 2 ∧ (tgt = stDrive ∨ (L.st = stFold ∧ tgt = stStandby)) ∧
      L.sys.started + 5000000 ≤ t then L.endTransition rFailed 0x0E 0x1F
  else L

/-- TRANSITION_TIMEOUT: in every lane in step (R59). -/
def execTransitionTimeout (l : Lane) (t : Nat) (s : State) : Out :=
  if (s.lane l).up then .next ((s.stepTogether l fun _ L => (L.tick t).timeOut t).restAfter (s.lane l) l) else .next s

/-! ## Execution of a transition (R58, R62) -/

/-- A transition is complete. -/
def LaneSt.done (L : LaneSt) : LaneSt := (L.wr Reg.SYS_STATE_PHASE 0).report rDone

/-- Into STANDBY: claims withdrawn, EN 0, 400 MHz and zero bias (R58, R78); leaving FOLD ends its safe stop (R276). -/
def LaneSt.toStandby (L : LaneSt) : LaneSt :=
  let L := (L.zeroClaims 7 1).clockDown 0
  let L := L.wr Reg.SYS_STATE_MODULE stStandby
  { L with
    safe := { L.safe with en := .all false, pulse := .all 0, fold := .all false }
    sys := { L.sys with fold := false, folded := false } }.driveFaultX

/-- Into PARK: the deferred erasure of R426, the save of R75, then every domain but the always-on one loses power
(R58, R72); the failed resyncs are forgotten (R87). -/
def LaneSt.toPark (L : LaneSt) (l : Lane) : LaneSt :=
  let L := L.toStandby.deferredErase l
  let L := L.parkSave
  let L := (L.wr Reg.SYS_STATE_MODULE stPark).wr Reg.SYS_BIAS_BIAS 2
  let L := (((L.wr Reg.SYS_CLK_STAT_CORE_FREQ 0).put Reg.SYS_CLK_STAT_CPLL_LOCK false).put
    Reg.SYS_CLK_STAT_TPLL_LOCK false).wr Reg.SYS_STATE_VOTING 0
  let L := L.powerDown keepPark memPark
  { L with
    sys := { SysSt.reset with parkAt := L.time }
    pwr := { L.pwr with sns5 := false, auxOn := false, regulator := false } }

/-! ## FOLD (R61, R68, R70) -/

/-- FOLD preempts a transition in flight and empties the pending slot (R70). Clock and bias of a transition to ARM fall back to those of
STANDBY, from which FOLD is entered (R78). -/
def LaneSt.preempt (L : LaneSt) : LaneSt :=
  let L := if L.arming then L.clockDown 0 else L
  let L := if L.idle then L else (L.wr Reg.SYS_STATE_PHASE 0).report rPreempted
  L.dropPending

/-- Stages on which lane `l` is accepted, as a mask. -/
def LaneSt.holds (L : LaneSt) (l : Lane) : Nat := mask3 fun s => L.rd (Reg.CLM_STG_ACCEPTED s) == laneIx l + 1

/-- The safe-stop reaction of FOLD (R283): STO at once, or an SS1 request, on the stages the lane is accepted on; in
TRIPLEX a FOLD SS1 is one SS1 of all three stages (R277). -/
def LaneSt.foldStop (L : LaneSt) (l : Lane) : LaneSt :=
  let m := L.holds l
  if L.on Reg.SAFE_CFG_FOLD_STOP then
    let m := if L.on Reg.COM_CFG_PROFILE || m == 0 then m else 7
    { L with safe := { L.safe with ss1Req := L.safe.ss1Req ++ [(.fold, BitVec.ofNat 3 m)] } }
  else
    { L with safe := { L.safe with fold := ⟨L.safe.fold.a || bitN m 0, L.safe.fold.b || bitN m 1,
                                            L.safe.fold.c || bitN m 2⟩ } }

/-- Enter FOLD (R61): preempt, abort a slice with its restore (R77), end the session (R104), start the safe-stop reaction, carry FOLD.
FAULT_x is released (R45). `crcOk` tells whether the slice's restore matches. -/
def LaneSt.enterFold (L : LaneSt) (l : Lane) (crcOk : Bool := true) : LaneSt :=
  let L := (L.preempt.abortSlice crcOk).endSession
  let L := (L.wr Reg.SYS_STATE_MODULE stFold).wr Reg.SYS_STATE_TARGET stFold
  let L := { L with sys := { L.sys with fold := true, folded := true, want := none }, safe := { L.safe with lone := false } }
  (L.foldStop l).driveFaultX

/-- FOLD_ENTRY (R61): takes effect in a lane of which L4, the application or the Shepherd has asked FOLD. -/
def execFoldEntry (l : Lane) (crcOk : Bool) (t : Nat) (s : State) : Out :=
  onLane l t s fun L => if L.sys.fold ∧ !L.sys.folded ∧ L.st ≠ stFold then L.enterFold l crcOk else L

end Sys2Proof.Machine
end

