-- ==== Sys2Proof/Machine/Pos.lean ====
section
/-! DEFINITION. Position and speed feedback (08). -/
namespace Sys2Proof.Machine

/-- Change the position state. -/
def LaneSt.updPos (L : LaneSt) (f : PosSt → PosSt) : LaneSt := { L with pos := f L.pos }

/-- Counts per revolution of the encoder (POS_ENC_CFG.CPR holds it minus 1). -/
def LaneSt.cpr (L : LaneSt) : Nat := L.rd Reg.POS_ENC_CFG_CPR + 1

/-- Move counter `i` (0 ENC, 1 HALL, 2 TMR) by `d`; it wraps at 32 bits, and net wraps are kept for R203. -/
def LaneSt.bump (L : LaneSt) (i : Nat) (d : Int) : LaneSt :=
  let c : Int := (L.rd (Reg.POS_CNT_COUNT i) : Int) + d
  let w : Int := if c < 0 then -1 else if 0x100000000 ≤ c then 1 else 0
  (L.wrS (Reg.POS_CNT_COUNT i) c).updPos fun p => { p with
    wraps := updNth p.wraps i (· + w), encExt := if i = 0 then p.encExt + d else p.encExt
    hallExt := if i = 1 then p.hallExt + d else p.hallExt }

/-! ## Edges and speed (R205, R206) -/

/-- Speed state of ENC (0) or HALL (1): 0 STANDSTILL, 1 ACQUIRING, 2 REVERSED, 3 VALID. -/
abbrev spdState (i : Nat) : Fld := if i = 0 then Reg.POS_SPD_STAT_ENC else Reg.POS_SPD_STAT_HALL

/-- Record of source `i`. -/
def LaneSt.spd (L : LaneSt) (i : Nat) : SpdRec := if i = 0 then L.pos.enc else L.pos.hall
def LaneSt.setSpd (L : LaneSt) (i : Nat) (r : SpdRec) : LaneSt :=
  L.updPos fun p => if i = 0 then { p with enc := r } else { p with hall := r }

/-- on_edge of R205: the record of the last eight edges. -/
def LaneSt.onEdge (L : LaneSt) (i : Nat) (d : Int) (t : Nat) : LaneSt :=
  let r := L.spd i
  let (st, run) := if L.rd (spdState i) = 0 then (1, 1)
    else if 0 < r.run ∧ d ≠ r.dir then (2, 1) else (L.rd (spdState i), r.run + 1)
  let r' : SpdRec := { edges := (⟨t, d⟩ :: r.edges).take 8, run := run, dir := d, last := t
                       slotN := r.slotN + 1, tRef := r.tRef }
  ((L.wr (spdState i) st).setSpd i r').wr (Reg.POS_TS_TIME i) t

/-- Like edges are `span` counts apart (R205). -/
def LaneSt.span (L : LaneSt) (i : Nat) : Nat :=
  if i = 0 then 2 ^ min (L.rd Reg.POS_ENC_CFG_DECODE) 2 else 6

/-- Counts per mechanical revolution of source `i` (R205). -/
def LaneSt.countsPerRev (L : LaneSt) (i : Nat) : Nat := if i = 0 then L.cpr else 6 * max (L.rd Reg.POS_FUSE_CFG_PP) 1

/-- A non-negative quotient. -/
structure Ratio where
  num : Nat
  den : Nat

/-- The lesser of two quotients. -/
def Ratio.least (a b : Ratio) : Ratio := if b.num * a.den < a.num * b.den then b else a

/-- Period speed vp of R205 at `t0`, in 2^-16 rev/s. -/
def periodSpeed (r : SpdRec) (span cpr t0 : Nat) : Ratio :=
  let k := min span (r.run - 1)
  let back := match r.edges[k]? with
    | some e => e.t
    | none => r.last
  let vp : Ratio := ⟨65536 * k * 1000000000, cpr * max (r.last - back) 5⟩
  if r.last < t0 then vp.least ⟨65536 * 1000000000, cpr * (t0 - r.last)⟩ else vp

/-- Speed magnitude of R205 once the source is valid: vp and vc blended by the edges of the slot; truncated. -/
def blendSpeed (r : SpdRec) (span cpr nlo nhi t0 : Nat) : Nat :=
  let vp := periodSpeed r span cpr t0
  let n := r.slotN
  if 2 ≤ n ∧ n < r.run ∧ r.tRef < r.last then
    let den := max (nhi - nlo) 1
    let w := min (n - nlo) den
    let vc : Ratio := ⟨65536 * n * 1000000000, cpr * (r.last - r.tRef)⟩
    ((den - w) * vp.num * vc.den + w * vc.num * vp.den) / (den * vp.den * vc.den)
  else vp.num / vp.den

/-- TIMEOUT in ns. -/
def LaneSt.spdTimeout (L : LaneSt) : Nat := L.rd Reg.POS_SPD_CFG_TIMEOUT * 1000000

/-- Set source `i` to STANDSTILL. -/
def LaneSt.stand (L : LaneSt) (i : Nat) : LaneSt :=
  ((L.wr (spdState i) 0).setSpd i { (L.spd i) with run := 0 }).wr (Reg.POS_SPEED_SPEED i) 0

/-- speed(t0) of R205 for source `i`; a speed beyond its 32 bits saturates (log entry 113). -/
def LaneSt.speedSlot (L : LaneSt) (i t0 : Nat) : LaneSt :=
  let r := L.spd i
  let L := L.setSpd i { r with slotN := 0, tRef := r.last }
  if r.run = 0 ∨ r.last + L.spdTimeout ≤ t0 then L.stand i
  else if r.run < 2 then L.wr (Reg.POS_SPEED_SPEED i) 0
  else
    let v := blendSpeed r (L.span i) (L.countsPerRev i) (L.rd Reg.POS_SPD_CFG_N_LO) (L.rd Reg.POS_SPD_CFG_N_HI) t0
    (L.wr (spdState i) 3).wrS (Reg.POS_SPEED_SPEED i) (satS 32 (r.dir * v))

/-- TMR speed at a slot start (R207). -/
def LaneSt.tmrSpeed (L : LaneSt) : LaneSt :=
  let h := (L.pos.tmrExt :: L.pos.tmrHist).take 9
  let L := L.updPos fun p => { p with tmrHist := h }
  match h[8]? with
  | none => (L.wr Reg.POS_SPD_STAT_TMR 0).wr (Reg.POS_SPEED_SPEED 2) 0
  | some old =>
    let d := L.pos.tmrExt - old
    if absN d < 2 then (L.wr Reg.POS_SPD_STAT_TMR 0).wr (Reg.POS_SPEED_SPEED 2) 0
    else (L.wr Reg.POS_SPD_STAT_TMR 3).wrS (Reg.POS_SPEED_SPEED 2) (satS 32 (d * 2500))

/-- STANDSTILL_TIMEOUT (R206). -/
def execStandstillTimeout (l : Lane) (src : EdgeSrc) (t : Nat) (s : State) : Out :=
  let i := match src with
    | .enc => 0
    | .hall => 1
  onLane l t s fun L =>
    if L.rd (spdState i) ≠ 0 ∧ (L.spd i).last + L.spdTimeout ≤ t then L.stand i else L

/-! ## Encoder (R202, R208 to R210) -/

/-- Quadrature position of the two lines: 00, 10, 11, 01 in the order of increasing count (A leads B). -/
def quad (a b : Bool) : Nat := if a then (if b then 2 else 1) else (if b then 3 else 0)

/-- Whether the move between two adjacent quadrature states counts under DECODE: 4x every edge, 2x the edges of A, 1x the
edges of A with B low (log entry 14). -/
def decodes (mode : Nat) (wasA a b : Bool) : Bool :=
  match mode with
  | 0 => (wasA != a) && !b
  | 1 => wasA != a
  | _ => true

/-- The check for a missing index (R209). -/
def LaneSt.indexMissing (L : LaneSt) : LaneSt :=
  match L.pos.idxAt with
  | none => L
  | some c =>
    if L.recordsIndex ∧ !L.on Reg.POS_IDX_STAT_MISSING ∧
        3 * L.cpr < 2 * absN (L.pos.encTotal - c) then
      (L.put Reg.POS_IDX_STAT_MISSING true).raise 0x0702
    else L

/-- One decoded count (R202). -/
def LaneSt.encCount (L : LaneSt) (d : Int) (t : Nat) : LaneSt :=
  let L := (L.bump 0 d).updPos fun p => { p with encTotal := p.encTotal + d, qTravel := p.qTravel.map (· + 1) }
  (L.onEdge 0 d t).indexMissing

/-- A quadrature error (R210). -/
def LaneSt.quadError (L : LaneSt) : LaneSt :=
  let near := match L.pos.qTravel with
    | some n => decide (n < L.cpr)
    | none => false
  let L := (L.incSat Reg.POS_ENC_STAT_QERR_CNT).updPos fun p => { p with qTravel := some 0 }
  if near then (L.updPos fun p => { p with encBarred := true, encValid := false, inFusion := false }).raise 0x0705 else L

/-- A level held for `ns` passes a filter of (FILT + 1) x 25 ns (R199). -/
def filtered (filt ns : Nat) : Bool := decide ((filt + 1) * 25 ≤ ns)

/-- ENCODER_EDGE (R199, R202, R210): the levels of A and B, held for `ns` after an edge stamped `t`. During a loss of signal no edge is
decoded. -/
def execEncoderEdge (l : Lane) (a b : Bool) (ns t : Nat) (s : State) : Out :=
  onLane l t s fun L =>
    if !L.on Reg.POS_ENC_CFG_ENABLE || !filtered (L.rd Reg.POS_ENC_CFG_FILT) ns then L
    else if L.pos.sigLoss then L.updPos fun p => { p with encA := a, encB := b }
    else
      let wasA := L.pos.encA
      let q := (4 + quad a b - quad wasA L.pos.encB) % 4
      let L := L.updPos fun p => { p with encA := a, encB := b }
      if q = 2 then L.quadError
      else if q ≠ 0 ∧ decodes (L.rd Reg.POS_ENC_CFG_DECODE) wasA a b then L.encCount (if q = 1 then 1 else -1) (t / 5 * 5)
      else L

/-- Index error of R208, in (-CPR/2, CPR/2]. -/
def indexError (c ref cpr : Nat) : Int :=
  let e := ((c : Int) - ref) % cpr
  if (cpr : Int) < 2 * e then e - cpr else e

/-- Correct the count by the error `e`. -/
def LaneSt.correct (L : LaneSt) (e : Int) : LaneSt :=
  let L := (L.bump 0 (-e)).updPos fun p => { p with encTotal := p.encTotal - e }
  let L := if e ≠ 0 then L.inc Reg.POS_IDX_STAT_CORR_CNT else L
  L.wrS Reg.POS_IDX_STAT_LAST_ERR (clampI e (-32767) 32767)

/-- A qualified index (R208, R209); in state IGNORED it has no effect. -/
def LaneSt.index (L : LaneSt) : LaneSt :=
  if L.rd Reg.POS_IDX_STAT_STATE = 2 then L else
  let L := L.put Reg.POS_IDX_STAT_MISSING false
  let c := L.rd (Reg.POS_CNT_COUNT 0)
  let e := indexError c (L.rd Reg.POS_IDX_CFG_REF) L.cpr
  let L := match L.rd Reg.POS_IDX_STAT_STATE with
    | 0 =>
      let L := L.wr Reg.POS_IDX_STAT_STATE 1
      if L.rd Reg.POS_IDX_CFG_MODE = 1 then L.wr Reg.POS_IDX_CFG_REF (c % L.cpr) else L.correct e
    | 1 =>
      if absN e ≤ L.rd Reg.POS_IDX_CFG_TOL then L.correct e
      else ((L.wr Reg.POS_IDX_STAT_STATE 2).wrS Reg.POS_IDX_STAT_LAST_ERR (clampI e (-32767) 32767)).raise 0x0701
    | _ => L
  if L.recordsIndex then L.updPos fun p => { p with idxAt := some p.encTotal } else L

/-- INDEX_EDGE (R208): an edge of Z with the levels of A and B. It qualifies rising in the positive and falling in the
negative direction, under ZGATE. -/
def execIndexEdge (l : Lane) (a b rising : Bool) (ns t : Nat) (s : State) : Out :=
  onLane l t s fun L =>
    let gate := match L.rd Reg.POS_ENC_CFG_ZGATE with
      | 0 => true
      | 1 => a
      | _ => a && b
    let way := if rising then L.pos.enc.dir == 1 else L.pos.enc.dir == -1
    if L.on Reg.POS_ENC_CFG_ENABLE && filtered (L.rd Reg.POS_ENC_CFG_FILT) ns && L.rd Reg.POS_IDX_CFG_MODE != 0 && !L.pos.sigLoss && gate && way then L.index else L

/-- REREF (R208): a write of POS_IDX_CTL. -/
def execReref (l : Lane) (v : BitVec 32) (s : State) : Out :=
  onLaneNow l s fun L => if v.getLsbD 0 then L.wr Reg.POS_IDX_STAT_STATE 0 else L

/-- ENCODER_SIGNAL_LOSS (R210): a pair reads `mv` for `us`. No edge is decoded from the start of the loss. -/
def execEncoderSignalLoss (l : Lane) (mv us t : Nat) (s : State) : Out :=
  onLane l t s fun L =>
    if L.on Reg.POS_ENC_CFG_ENABLE && decide (mv < 200) then
      let L := (L.put Reg.POS_ENC_STAT_SIGLOSS true).updPos fun p => { p with sigLoss := true }
      if 1 ≤ us then (L.updPos fun p => { p with encValid := false, inFusion := false }).raise 0x0706 else L
    else L

/-- ENCODER_SIGNAL_RESTORED (R210): both pairs have read at least 200 mV for `ms`. -/
def execEncoderSignalRestored (l : Lane) (ms t : Nat) (s : State) : Out :=
  onLane l t s fun L =>
    let L := (L.put Reg.POS_ENC_STAT_SIGLOSS false).updPos fun p => { p with sigLoss := false }
    if 10 ≤ ms && !L.pos.encValid && !L.pos.encBarred then
      (L.wr Reg.POS_IDX_STAT_STATE 0).updPos fun p => { p with encValid := true }
    else L

/-! ## Hall switches (R211, R212) -/

/-- Sector of a pattern under MAP. -/
def LaneSt.hallSector (L : LaneSt) (pattern : Nat) : Nat := L.rd ⟨0x40050024, 3 * (pattern % 8), 3⟩

/-- An invalid evaluation; two in a row make the source invalid, and a run of legal transitions ends (R211). -/
def LaneSt.hallInvalid (L : LaneSt) : LaneSt :=
  let n := L.pos.hallBad + 1
  let L := ((L.put Reg.POS_HALL_STAT_INVALID true).inc Reg.POS_HALL_STAT_INV_CNT).updPos fun p => { p with hallBad := n, hallGood := 0 }
  if n = 2 then (L.updPos fun p => { p with hallValid := false }).raise 0x0703 else L

/-- A valid pattern is read. -/
def LaneSt.hallReadOk (L : LaneSt) : LaneSt :=
  (L.put Reg.POS_HALL_STAT_INVALID false).updPos fun p => { p with hallBad := 0 }

/-- A legal transition: six in a row make the source valid again. -/
def LaneSt.hallLegal (L : LaneSt) (d : Int) (t : Nat) : LaneSt :=
  ((L.bump 1 d).updPos fun p => { p with
    hallSkips := (false :: p.hallSkips).take 6, hallGood := p.hallGood + 1
    hallValid := p.hallValid || decide (6 ≤ p.hallGood + 1) }).onEdge 1 d t

/-- A skip, by `d` counts in the shorter way or 0 to the opposite sector (R212). -/
def LaneSt.hallSkip (L : LaneSt) (d : Int) (t : Nat) : LaneSt :=
  let L := (L.inc Reg.POS_HALL_STAT_SKIP_CNT).bump 1 d
  let L := L.updPos fun p => { p with hallSkips := (true :: p.hallSkips).take 6, hallGood := 0 }
  let L := if d = 0 then L else (L.onEdge 1 (d / 2) t).onEdge 1 (d / 2) t
  if 2 ≤ (L.pos.hallSkips.filter id).length then (L.updPos fun p => { p with hallValid := false }).raise 0x0704 else L

/-- Move from the last valid sector to `b`. -/
def LaneSt.hallMove (L : LaneSt) (b t : Nat) : LaneSt :=
  let a := L.rd Reg.POS_HALL_STAT_SECTOR
  let L := L.wr Reg.POS_HALL_STAT_SECTOR b
  if !L.pos.hallInit then L.updPos fun p => { p with hallInit := true }
  else
    match (6 + b - a) % 6 with
    | 0 => L
    | 1 => L.hallLegal 1 t
    | 5 => L.hallLegal (-1) t
    | 2 => L.hallSkip 2 t
    | 4 => L.hallSkip (-2) t
    | _ => L.hallSkip 0 t

/-- HALL_TRANSITION (R199, R211, R212): the pattern, held for `ns` after a transition stamped `t`. -/
def execHallTransition (l : Lane) (pattern ns t : Nat) (s : State) : Out :=
  onLane l t s fun L =>
    if L.on Reg.POS_HALL_CFG_ENABLE && decide (pattern < 8) && filtered (L.rd Reg.POS_HALL_CFG_FILT) ns then
      let L := L.wr Reg.POS_HALL_STAT_PATTERN pattern
      let b := L.hallSector pattern
      if b < 6 then L.hallReadOk.hallMove b (t / 5 * 5) else L.hallInvalid
    else L

/-! ## Angle sensor and fusion (R213 to R215) -/

/-- Coefficient a_k (`j` = 2(k - 1)) or b_k (`j` + 1), 2^-22 rev. -/
def LaneSt.calCoef (L : LaneSt) (j : Nat) : Int := L.rdS (Reg.POS_CAL_COEF_COEF j)

/-- The sum of harmonics of R213 at the raw angle, 2^-32 rev. -/
def LaneSt.harmonics (L : LaneSt) (raw : Nat) : Int :=
  ((List.range 8).foldl (fun acc k =>
    acc + L.calCoef (2 * k) * cosTurn ((k + 1) * raw) + L.calCoef (2 * k + 1) * sinTurn ((k + 1) * raw)) 0).tdiv 0x40000000

/-- The encoder takes part in fusion (R215). -/
def LaneSt.encFuses (L : LaneSt) : Bool :=
  L.on Reg.POS_ENC_CFG_ENABLE && L.pos.encValid && L.on Reg.POS_FUSE_CFG_ENC_EN && !L.pos.excluded

/-- th_enc (R214), 2^-32 rev. -/
def LaneSt.thEnc (L : LaneSt) : Int := (((L.rd (Reg.POS_CNT_COUNT 0)) * 0x100000000 / L.cpr % 0x100000000 : Nat) : Int)

/-- ofs at a sample with the encoder in fusion (R214). -/
def LaneSt.nextOfs (L : LaneSt) (thCal : Int) : Nat :=
  let e := L.thEnc
  match L.rd Reg.POS_IDX_STAT_STATE == 1, L.pos.zero with
  | true, some z => z
  | _, _ =>
    if !L.pos.inFusion then bitsOf 32 (thCal - e)
    else
      let dl := signedOf 32 (bitsOf 32 (thCal - e - L.pos.ofs))
      bitsOf 32 (L.pos.ofs + (dl * 2500).tdiv ((max (L.rd Reg.POS_FUSE_CFG_TAU) 1 : Nat) * 1000000))

/-- Enter the fused angle: POS_ANGLE_FUSED and POS_ANGLE_ELEC (R214). -/
def LaneSt.setFused (L : LaneSt) (f : Nat) : LaneSt :=
  let L := L.wr Reg.POS_ANGLE_FUSED_ANGLE f
  L.wr Reg.POS_ANGLE_ELEC_ELEC (f * L.rd Reg.POS_FUSE_CFG_PP / 65536 + L.rd Reg.POS_ELEC_OFS_ELEC_OFS)

/-- Form the fused angle; eight samples beyond LIM exclude the encoder (R215). -/
def LaneSt.fuse (L : LaneSt) (thCal : Nat) : LaneSt :=
  if !L.encFuses then (L.updPos fun p => { p with inFusion := false, apart := 0 }).setFused thCal
  else
    let o := L.nextOfs thCal
    let f := bitsOf 32 (L.thEnc + o)
    let far := decide (L.rd Reg.POS_FUSE_CFG_LIM * 65536 < absN (signedOf 32 (bitsOf 32 ((thCal : Int) - f))))
    let n := if far then L.pos.apart + 1 else 0
    let L := L.updPos fun p => { p with ofs := o, inFusion := true, apart := n }
    if 8 ≤ n then
      ((L.updPos fun p => { p with excluded := true, inFusion := false, apart := 0 }).setFused thCal).raise 0x070D
    else L.setFused f

/-- The field magnitude of a sample, in 0.01 mT (R213). -/
def LaneSt.fieldCheck (L : LaneSt) (field : Nat) : LaneSt :=
  let ok := decide (2000 ≤ field) && decide (field ≤ 8000)
  let bad := if ok then 0 else L.pos.tmrBad + 1
  let good := if ok then L.pos.tmrGood + 1 else 0
  let was := L.pos.tmrValid
  let now := if was then decide (bad < 8) else decide (8 ≤ good)
  ((L.updPos fun p => { p with tmrBad := bad, tmrGood := good, tmrValid := now }).wr Reg.POS_ANGLE_ELEC_FIELD
    (min field 0xFFFF)).raiseIf (was && !now) 0x0707

/-- NO_ANGLE and 0x070E (R215). -/
def LaneSt.noAngle (L : LaneSt) : LaneSt :=
  let n := !L.pos.tmrValid && !(L.on Reg.POS_ENC_CFG_ENABLE && L.pos.encValid)
  let was := L.on Reg.POS_SRC_STAT_NO_ANGLE
  (L.put Reg.POS_SRC_STAT_NO_ANGLE n).raiseIf (n && !was) 0x070E

/-- A sample of the revolution under way (R217), while collection is enabled and the sensor valid. -/
def LaneSt.collectRev (L : LaneSt) (t : Nat) : LaneSt :=
  let p := L.pos
  let r := ⟨t, p.tmrRaw, p.tmrExt, L.thEnc, absN (L.rdS (Reg.POS_SPEED_SPEED 3)), p.inFusion⟩
  L.updPos fun p => { p with rev := if L.on Reg.POS_CAL_CTL_EN && p.tmrValid then r :: p.rev else [] }

/-- TMR_SAMPLE (R202, R213 to R215): at every multiple of 2.5 µs. -/
def execTmrSample (l : Lane) (raw : BitVec 16) (field t : Nat) (s : State) : Out :=
  onLane l t s fun L =>
    if t % 2500 ≠ 0 then L
    else
      let r := raw.toNat
      let L := if L.pos.tmrSeen then
          let d := signedOf 16 (bitsOf 16 ((r : Int) - L.pos.tmrRaw))
          (L.bump 2 d).updPos fun p => { p with tmrExt := p.tmrExt + d }
        else (L.wr (Reg.POS_CNT_COUNT 2) r).updPos fun p => { p with tmrSeen := true, tmrExt := r }
      let cal := bitsOf 32 ((r * 65536 : Nat) - L.harmonics r)
      let L := ((L.wr Reg.POS_ANGLE_TMR_RAW r).wr Reg.POS_ANGLE_TMR_CAL (cal / 65536)).updPos fun p =>
        { p with tmrAt := t, tmrRaw := r, thCal := cal }
      (((L.fieldCheck field).fuse cal).noAngle).collectRev t

/-! ## Extension snapshots (R203) -/

/-- POS_SNAP (R203): a write of REQ. -/
def execPosSnap (l : Lane) (v : BitVec 32) (s : State) : Out :=
  onLaneNow l s fun L => if v.getLsbD 0 then L.updPos fun p => { p with snapReq := true } else L

/-- Counter `i` into its snapshot; net wraps beyond ±1 read 0, set WRAP_OVF and raise 0x070C. -/
def LaneSt.snapCounter (L : LaneSt) (i : Nat) : LaneSt :=
  let w := nth L.pos.wraps i
  let L := (L.wr (Reg.POS_EXT_COUNT i) (L.rd (Reg.POS_CNT_COUNT i))).updPos fun p => { p with wraps := setNth p.wraps i 0 }
  if absN w ≤ 1 then L.wrS (Reg.POS_EXT_STAT_WRAP.part (2 * i) 2) w
  else ((L.wr (Reg.POS_EXT_STAT_WRAP.part (2 * i) 2) 0).put (Reg.POS_EXT_STAT_WRAP_OVF.bit i) true).raise 0x070C

/-- The lane's time stands at a slot start. -/
def LaneSt.atSlot (L : LaneSt) : Bool := L.time % 50000 == 0

/-- EXTENSION_SNAPSHOT (R203): at the slot start after a request. -/
def execExtensionSnapshot (l : Lane) (s : State) : Out :=
  onLaneNow l s fun L =>
    if L.pos.snapReq ∧ L.atSlot then
      (for3 (fun i L => L.snapCounter i) (L.updPos fun p => { p with snapReq := false })).freeze .ext
    else L

/-! ## Self-calibration (R217, R218) -/

/-- A revolution qualifies (R217); speeds in 2^-16 rev/s. -/
def LaneSt.calQualifies (L : LaneSt) (vmin vmean vmax : Nat) : Bool :=
  L.on Reg.POS_CAL_CTL_EN && L.pos.tmrValid && decide (L.rd Reg.POS_CAL_CTL_VMIN * 65536 ≤ vmin * 10) &&
  decide (vmax ≤ L.rd Reg.POS_CAL_CTL_VMAX * 65536) && decide ((vmax - vmean) * 100 ≤ vmean) &&
  decide ((vmean - vmin) * 100 ≤ vmean)

/-- Mean error of each bin, 2^-32 rev. -/
def binMeans (b : List (Int × Nat)) : List Int := b.map fun x => if x.2 = 0 then 0 else x.1.tdiv x.2

/-- Coefficient of the discrete Fourier transform of the bins, 2^-22 rev: `f` is cosTurn or sinTurn (R217). -/
def dftCoef (m : List Int) (f : Int → Int) (k : Nat) : Int :=
  ((m.zipIdx).foldl (fun acc x => acc + x.1 * f ((k * x.2 * 256 : Nat) : Int)) 0).tdiv (128 * 0x4000000000000)

/-- a_1, b_1, ... a_8, b_8 of the bins. -/
def dftAll (m : List Int) : List Int :=
  (List.range 8).flatMap fun k => [dftCoef m cosTurn (k + 1), dftCoef m sinTurn (k + 1)]

/-- An amplitude above 2.0 degrees: a^2 + b^2 over (2/360)^2, in 2^-22 rev (R218). -/
def tooLarge (c : List Int) : Bool :=
  (List.range 8).any fun k =>
    let a := c.getD (2 * k) 0
    let b := c.getD (2 * k + 1) 0
    decide ((2 ^ 44 : Int) < (a * a + b * b) * 32400)

/-- A coefficient moved by more than 0.01 degree (R218). -/
def coefMoved (c old : List Int) : Bool :=
  (List.range 16).any fun j => decide ((2 ^ 22 : Nat) < absN (c.getD j 0 - old.getD j 0) * 36000)

/-- Sixteen revolutions are collected: the result is rejected, or stored and pending (R217, R218). -/
def LaneSt.calResult (L : LaneSt) (l : Lane) : LaneSt :=
  let m := binMeans L.pos.bins
  let c := dftAll m
  let zero := if L.on Reg.POS_CAL_STAT_REF then some (bitsOf 32 (L.pos.calBase + (m.foldl (· + ·) 0).tdiv 256)) else none
  let L := (L.wr Reg.POS_CAL_STAT_REVS 0).updPos fun p => { p with bins := List.replicate 256 (0, 0) }
  if tooLarge c then (L.put Reg.POS_CAL_STAT_REJECT true).raise 0x070F
  else
    let L := (if coefMoved c L.nvm.calCoef then L.tally l 0x0008 else L).put Reg.POS_CAL_STAT_REJECT false
    let L := L.updCal fun n => { n with calCoef := c, calZero := if zero.isSome then zero else n.calZero }
    (L.wr Reg.POS_CAL_STAT_STATE 2).updPos fun p => { p with calWait := some (c, zero) }

/-- Add a revolution's errors to the bins. -/
def addBins (b : List (Int × Nat)) (errs : List (Nat × Int)) : List (Int × Nat) :=
  errs.foldl (fun b e => b.modify e.1 fun x => (x.1 + e.2, x.2 + 1)) b

/-- The reference angle at a sample of the revolution from `y` to `x` (R217), 2^-32 rev: the encoder's, or linear in time. -/
def revRef (enc : Bool) (x y r : RevSample) : Int :=
  if enc then r.enc
  else y.raw * 65536 + ((x.ext - y.ext) * 65536 * ((r.t - y.t : Nat) : Int)).tdiv ((max (x.t - y.t) 1 : Nat) : Int)

/-- The errors of a revolution as bin and th_raw - th_ref - `base`, 2^-32 rev. -/
def revErrors (enc : Bool) (base : Int) (x y : RevSample) (rs : List RevSample) : List (Nat × Int) :=
  rs.map fun r => (r.raw / 256 % 256, signedOf 32 (bitsOf 32 (r.raw * 65536 - revRef enc x y r - base)))

/-- A revolution is collected (R217): `x` its last sample, `y` its first. -/
def LaneSt.takeRev (L : LaneSt) (l : Lane) (x y : RevSample) (rs : List RevSample) : LaneSt :=
  let enc := rs.all fun r => r.fused
  let base := if L.rd Reg.POS_CAL_STAT_REVS = 0 then (if enc then (y.raw * 65536 : Int) - y.enc else 0) else L.pos.calBase
  let L := (L.updPos fun p => { p with calBase := base, bins := addBins p.bins (revErrors enc base x y rs) }).inc
    Reg.POS_CAL_STAT_REVS
  let L := (L.put Reg.POS_CAL_STAT_REF enc).wr Reg.POS_CAL_STAT_STATE (if L.pos.calWait.isSome then 2 else 1)
  if 16 ≤ L.rd Reg.POS_CAL_STAT_REVS then L.calResult l else L

/-- CAL_REVOLUTION (R217): the samples held since the last one span a revolution; it is collected if it qualifies, and the next one
begins. -/
def execCalRevolution (l : Lane) (s : State) : Out :=
  onLaneNow l s fun L =>
    match L.pos.rev, L.pos.rev.getLast? with
    | x :: _, some y =>
      let d := absN (x.ext - y.ext)
      if d < 65536 then L
      else
        let rs := L.pos.rev
        let v := rs.map fun r => r.spd
        let mean := d * 1000000000 / max (x.t - y.t) 1
        let L := if L.calQualifies (v.foldl min x.spd) mean (v.foldl max 0) then L.takeRev l x y rs else L
        L.updPos fun p => { p with rev := [x] }
    | _, _ => L

/-- Write coefficients into POS_CAL_COEF. -/
def LaneSt.setCoefs (L : LaneSt) (c : List Int) : LaneSt :=
  forN 16 (fun j L => L.wrS (Reg.POS_CAL_COEF_COEF j) (c.getD j 0)) L

/-- CAL_APPLY (R218): at a slot start, or in a transition to ARM, with TMR at STANDSTILL; never during motion. -/
def execCalApply (l : Lane) (s : State) : Out :=
  onLaneNow l s fun L =>
    match L.pos.calWait with
    | none => L
    | some (c, z) =>
      if L.rd Reg.POS_SPD_STAT_TMR = 0 ∧ (L.atSlot ∨ L.arming) then
        (((L.setCoefs c).inc Reg.POS_CAL_STAT_APPLIED).wr Reg.POS_CAL_STAT_STATE 3).updPos fun p =>
          { p with calWait := none, zero := if z.isSome then z else p.zero }
      else L

/-! ## SENT, PSI5 and SSI (R109, R219, R220) -/

/-- The four-bit CRC of SAE J2716 over nibbles (log entry 115). -/
def sentCrc (ns : List Nat) : Nat :=
  let tbl := fun (c : Nat) => [0, 13, 7, 10, 14, 3, 9, 4, 1, 12, 6, 11, 15, 2, 8, 5].getD c 0
  tbl (ns.foldl (fun c n => tbl c ^^^ n) 5)

/-- Two ticks agree within a 64th (log entry 115). -/
def sameTick (a b : Nat) : Bool := decide (64 * absN ((a : Int) - b) ≤ b)

/-- The data nibbles of a SENT frame. -/
def spData (f : SpIn) : List Nat := ((f.nibbles.drop 1).take 6).map (· - 12)

/-- A frame passes the checks of R219 that need no other frame: of SENT eight nibbles of 12 to 27 ticks, pause pulse and CRC; of PSI5
parity or CRC, and timing. -/
def spSound (f : SpIn) : Bool :=
  if f.psi5 then f.checkOk && f.timeOk
  else f.nibbles.length == 8 && f.nibbles.all (fun n => decide (12 ≤ n) && decide (n ≤ 27)) && f.pauseOk &&
    f.nibbles.getD 7 0 == sentCrc (spData f) + 12

/-- Rate of a frame: tick in ns, or bit rate in kbit/s. -/
def spRate (f : SpIn) : Nat := if f.psi5 then f.kbit else f.tick

/-- Detection in a transition to ARM (R109): three frames in a row with one tick of 1.5 to 6 µs select SENT; three at 125 or 189 kbit/s
select PSI5 once its supply is on. An AUTO port (`auto`) then runs in the mode found. -/
def SpPort.detect (p : SpPort) (f : SpIn) (auto : Bool) : SpPort :=
  let fit := if f.psi5 then f.kbit == 125 || f.kbit == 189 else decide (1500 ≤ f.tick) && decide (f.tick ≤ 6000)
  if p.found ≠ 0 then p
  else if spSound f && f.psi5 == p.psi5On && fit then
    let same := if f.psi5 then p.rate == f.kbit else sameTick f.tick p.rate
    let n := if p.det = 0 || !same then 1 else p.det + 1
    if n < 3 then { p with det := n, rate := spRate f }
    else
      let m := if f.psi5 then (if f.sync then 2 else 3) else 1
      { p with det := 0, rate := spRate f, found := m, mode := if auto then m else p.mode, out := p.out && !auto }
  else { p with det := 0 }

/-- The detection of R109 listens at `t`: with the pull-up from 20 µs to 8 ms of the transition, with the PSI5 supply up to 22 ms. -/
def LaneSt.spListens (L : LaneSt) (i t : Nat) : Bool :=
  L.arming && decide (L.sys.started + 20000 ≤ t) && decide (t ≤ L.sys.started + (if (L.sp i).psi5On then 22000000 else 8000000))

/-- A frame fits the mode in which port `i` runs, and, of SENT, the sync pulse of the frame before (R219). -/
def LaneSt.spFits (L : LaneSt) (i : Nat) (f : SpIn) : Bool :=
  let p := L.sp i
  spSound f && (match L.spUse i with
    | 1 => !f.psi5 && (p.rate == 0 || sameTick f.tick p.rate)
    | 2 | 3 => f.psi5
    | _ => false)

/-- The values of a frame under FMT (R219): one of 12 bits, two of 12, one of 16, or the PSI5 data word; nibbles with the most significant
first (log entry 115). -/
def spValues (fmt : Nat) (f : SpIn) : Nat × Nat :=
  let d := spData f
  let join := fun (a n : Nat) => ((d.drop a).take n).foldl (fun x k => 16 * x + k) 0
  if f.psi5 then
    match fmt with
    | 0 => (f.word % 0x1000, 0)
    | 1 => (f.word % 0x1000, f.word / 0x1000 % 0x1000)
    | _ => (f.word % 0x10000, 0)
  else
    match fmt with
    | 0 => (join 0 3, 0)
    | 1 => (join 0 3, join 3 3)
    | _ => (join 0 4, 0)

/-- Store a valid frame (R219). -/
def LaneSt.spStore (L : LaneSt) (i : Nat) (f : SpIn) : LaneSt :=
  let v := spValues ((if i = 0 then L.rd Reg.POS_SP_CFG_PORT1 else L.rd Reg.POS_SP_CFG_PORT2) / 4) f
  let L := (L.wr (Reg.POS_SP_VALUE1 i) v.1).wr (Reg.POS_SP_VALUE2 i) v.2
  match f.ser with
  | some (id, data) => (L.wr (Reg.POS_SP_SER_ID i) id).wr (Reg.POS_SP_SER_DATA i) data
  | none => L

/-- A frame on a port with a mode (R219). -/
def LaneSt.spTake (L : LaneSt) (i : Nat) (f : SpIn) (t : Nat) : LaneSt :=
  let p := { L.sp i with rate := spRate f }
  if L.spFits i f then
    let good := p.good + 1
    let out := p.out && decide (good < 3)
    let m := if f.psi5 then (if f.sync then 2 else 3) else p.mode
    let L := (L.setSp i { p with bad := 0, good := good, out := out, lastAt := t, mode := m }).spStore i f
    L.put ((spStat i).bit 0) !out
  else
    let bad := p.bad + 1
    let L := (L.setSp i { p with bad := bad, good := 0 }).inc ((spStat i).part 3 5)
    if 3 ≤ bad && !p.out then (L.spInvalid i).raise 0x0708 else L

/-- The line held each level of the frame for its filter time (R199). -/
def LaneSt.spHeld (L : LaneSt) (i : Nat) (f : SpIn) : Bool :=
  filtered (if i = 0 then L.rd Reg.POS_SP_CFG_FILT1 else L.rd Reg.POS_SP_CFG_FILT2) f.hold

/-- SP_FRAME (R109, R219): port 0 is SP_x1, port 1 is SP_x2. In a transition to ARM the frame also counts towards the detection. -/
def execSpFrame (l : Lane) (port : Nat) (f : SpIn) (t : Nat) (s : State) : Out :=
  onLane l t s fun L =>
    if 2 ≤ port || L.spMode port == 0 || !L.spHeld port f then L
    else
      let L := if L.spUse port = 0 then L else L.spTake port f t
      if L.spListens port t then L.setSp port ((L.sp port).detect f (L.spMode port == 1)) else L

/-- SP_TIMEOUT (R219): no valid frame for 3 frame periods, at least 1 ms. -/
def execSpTimeout (l : Lane) (port periods t : Nat) (s : State) : Out :=
  onLane l t s fun L =>
    if port < 2 ∧ L.spUse port ≠ 0 ∧ 3 ≤ periods ∧ (L.sp port).lastAt + 1000000 ≤ t ∧ !(L.sp port).out then
      (L.spInvalid port).raise 0x0708 else L

/-- SP_PSI5_PHASE (R109): from 8 ms of the transition an undetected port applies its PSI5 supply. -/
def execSpPsi5Phase (l : Lane) (t : Nat) (s : State) : Out :=
  onLane l t s fun L =>
    if L.arming ∧ L.sys.started + 8000000 ≤ t then
      let on := fun (i : Nat) (p : SpPort) => if L.spMode i ≠ 0 ∧ p.found = 0 then { p with psi5On := true, det := 0 } else p
      (L.updPos fun p => { p with sp1 := on 0 p.sp1, sp2 := on 1 p.sp2 }).armStep 4
    else L

/-- SSI_TRANSACTION (R220): DAT before the first clock, DAT for MONO after the last bit, and the bits read. -/
def execSsiTransaction (l : Lane) (idleHigh monoLow : Bool) (raw : BitVec 32) (s : State) : Out :=
  onLaneNow l s fun L =>
    let n := min (L.rd Reg.POS_SSI_CFG_BITS) 32
    if n = 0 then L
    else if idleHigh && monoLow then
      let v := BitVec.ofNat 32 (raw.toNat % 2 ^ n)
      let v := if L.on Reg.POS_SSI_CFG_GRAY then grayDecode v else v
      let good := L.pos.ssiGood + 1
      let out := L.pos.ssiOut && decide (good < 3)
      ((L.wr Reg.POS_SSI_VALUE v.toNat).put Reg.POS_SSI_STAT_VALID !out).updPos fun p =>
        { p with ssiGood := good, ssiBad := 0, ssiOut := out, ssiAt := L.time }
    else
      let bad := L.pos.ssiBad + 1
      let L := (L.inc Reg.POS_SSI_STAT_ERR_CNT).updPos fun p => { p with ssiBad := bad, ssiGood := 0 }
      if bad = 3 && !L.pos.ssiOut then
        ((L.put Reg.POS_SSI_STAT_VALID false).updPos fun p => { p with ssiOut := true }).raise 0x0709
      else L

/-! ## Slot starts (R201) -/

/-- Validity of the sources (POS_SRC_STAT). -/
def LaneSt.srcStat (L : LaneSt) : LaneSt :=
  let b := fun (x : Bool) (n : Nat) => if x then n else 0
  let v := b (L.pos.tmrValid && L.pos.tmrSeen) 1 + b (L.on Reg.POS_ENC_CFG_ENABLE && L.pos.encValid) 2 +
    b (L.on Reg.POS_HALL_CFG_ENABLE && L.pos.hallValid) 4 + b (L.on ((spStat 0).bit 0)) 8 + b (L.on ((spStat 1).bit 0)) 16 +
    b (L.on Reg.POS_SSI_STAT_VALID) 32
  (L.wr Reg.POS_SRC_STAT_VALID v).put Reg.POS_SRC_STAT_ENC_FUSED L.pos.inFusion

/-- Age and mode of an SP port at a slot start. -/
def LaneSt.spAge (L : LaneSt) (i t0 : Nat) : LaneSt :=
  (L.wr ((spStat i).part 8 8) (min ((t0 - (L.sp i).lastAt) / 10000) 255)).wr ((spStat i).part 1 2) (L.spUse i)

/-- The TMR angle at t0: its last sample carried on at the TMR speed over at most 2.5 µs (R201). -/
def LaneSt.carryTmr (L : LaneSt) (t0 : Nat) : LaneSt :=
  let dt := min (t0 - L.pos.tmrAt) 2500
  if dt = 0 then L
  else
    let d := (L.rdS (Reg.POS_SPEED_SPEED 2) * dt).tdiv 1000000000
    (L.wr Reg.POS_ANGLE_TMR_CAL (bitsOf 16 ((L.pos.thCal / 65536 : Nat) + d))).wr Reg.POS_ANGLE_TMR_RAW
      (bitsOf 16 ((L.pos.tmrRaw : Nat) + d))

/-- The state of the self-calibration (POS_CAL_STAT) follows EN while nothing is pending or applied. -/
def LaneSt.calState (L : LaneSt) : LaneSt :=
  if L.rd Reg.POS_CAL_STAT_STATE < 2 then L.wr Reg.POS_CAL_STAT_STATE (if L.on Reg.POS_CAL_CTL_EN then 1 else 0) else L

/-- POS at the slot start `t0`: evaluations, speeds, status (R201, R205, R207, R211). -/
def LaneSt.posSlot (L : LaneSt) (t0 : Nat) : LaneSt :=
  let L := if L.on Reg.POS_HALL_CFG_ENABLE then
      (if L.hallSector (L.rd Reg.POS_HALL_STAT_PATTERN) < 6 then L.hallReadOk else L.hallInvalid) else L
  let L := ((L.speedSlot 0 t0).speedSlot 1 t0).tmrSpeed
  let L := L.wr (Reg.POS_SPEED_SPEED 3) (L.rd (Reg.POS_SPEED_SPEED (if L.pos.inFusion then 0 else 2)))
  let L := L.updPos fun p => { p with ssiAge := t0 - p.ssiAt }
  (((L.carryTmr t0).spAge 0 t0).spAge 1 t0).srcStat.calState

end Sys2Proof.Machine
end

