-- ==== Sys2Proof/Machine/Com.lean ====
section
/-! DEFINITION. The commutation engine: one period of a stage (09, 20). Volts are in 2^-32 V, currents in 2^-16 A,
duties in 2^-16, angles in 2^-16 electrical revolution, sector angles in 1/65,536 of 60 degrees. -/
namespace Sys2Proof.Machine

/-- Change the commutation engine's view of stage `i`. -/
def LaneSt.updCom (L : LaneSt) (i : Nat) (f : ComStg → ComStg) : LaneSt :=
  { L with com := { L.com with stg := updNth L.com.stg i f } }

/-- The commutation engine's view of stage `i`. -/
def LaneSt.cst (L : LaneSt) (i : Nat) : ComStg := nth L.com.stg i

/-! ## Time and angle (R22, R23, R226) -/

/-- Offset of the stage's period start in microticks (R23). -/
def stageOffset (T i : Nat) : Nat := if i = 0 then 0 else (i * T + 1) / 3

/-- Global time of the start of period `p` and of its valley, ns. -/
def LaneSt.periodNs (L : LaneSt) (i p : Nat) : Nat := (stageOffset L.period i + p * L.period) * 5 / 4
def LaneSt.valleyNs (L : LaneSt) (i p : Nat) : Nat := (stageOffset L.period i + p * L.period + L.period / 2) * 5 / 4

/-- The profile is AXLE. -/
def LaneSt.axle (L : LaneSt) : Bool := L.on Reg.COM_CFG_PROFILE

/-- Agreed field `f` is valid. -/
def LaneSt.agreedOk (L : LaneSt) (f : Nat) : Bool := L.on ((Reg.AGR_VALID_VALID (f / 32)).bit (f % 32))

/-- Stage `i` has an angle source (R226, R236). -/
def LaneSt.hasAngle (L : LaneSt) (i : Nat) : Bool :=
  if L.axle then L.agreedOk (L.rd (Reg.COM_AXLE_CFG_ANG_FIELD i)) && L.agreedOk (L.rd (Reg.COM_AXLE_CFG_SPD_FIELD i))
  else !L.on Reg.POS_SRC_STAT_NO_ANGLE

/-- Electrical frequency of the source of stage `i`, 2^-16 Hz: the fused speed times the pole pairs, the agreed field of
AXLE, or the observer speed; while coasting, the last locked speed (R246). -/
def LaneSt.freq (L : LaneSt) (i : Nat) : Int :=
  if (L.cst i).coast.isSome then (L.cst i).coastSpeed * 65536 / 10
  else if !L.hasAngle i then L.rdS (Reg.COM_OBS_SPEED (if L.axle then i else 0)) * 65536 / 10
  else if L.axle then L.rdS (Reg.AGR_VEC_VALUE (L.rd (Reg.COM_AXLE_CFG_SPD_FIELD i)))
  else L.rdS (Reg.POS_SPEED_SPEED 3) * L.rd Reg.POS_FUSE_CFG_PP

/-- An angle carried on at the frequency `f` for `dt` ns. -/
def carryAngle (th f : Int) (dt : Int) : Int := (th + (f * dt).tdiv 1000000000) % 65536

/-- The angle of stage `i` at the valley of period `p` (R226, R236); while coasting, at the last locked speed (R246). -/
def LaneSt.angle (L : LaneSt) (i p : Nat) : Int :=
  let v : Int := L.valleyNs i p
  if (L.cst i).coast.isSome then
    carryAngle (L.cst i).theta ((L.cst i).coastSpeed * 65536 / 10) (L.period * 5 / 4 : Nat)
  else if !L.hasAngle i then
    let j := if L.axle then i else 0
    (carryAngle (L.rd (Reg.COM_OBS_ANGLE j)) (L.freq i) (v - (L.cst j).obsAt) - (if L.axle then 0 else 3641 * i : Int)) % 65536
  else if L.axle then
    carryAngle (L.rd (Reg.AGR_VEC_VALUE (L.rd (Reg.COM_AXLE_CFG_ANG_FIELD i))) % 65536 : Nat) (L.freq i)
      (v - L.agr.agreedAt)
  else (carryAngle (L.rd Reg.POS_ANGLE_ELEC_ELEC) (L.freq i) (v - L.pos.tmrAt) - 3641 * i) % 65536

/-- Direction of rotation (R231): sign of the frequency, at 0 that of COM_ICMD, at 0 positive. -/
def rotation (f icmd : Int) : Int := if 0 < f then 1 else if f < 0 then -1 else if icmd < 0 then -1 else 1

/-- Entry `n` of the phase-advance table. -/
def LaneSt.advEntry (L : LaneSt) (n : Nat) : Int := L.rd (Reg.COM_ADV_TBL_ADV n)

/-- The advance (R243). -/
def LaneSt.advance (L : LaneSt) (i : Nat) : Int :=
  let f := absN (L.freq i)
  let step := 25 * 65536
  let n := f / step
  let t := if 63 ≤ n then L.advEntry 63 else lerp (L.advEntry n) (L.advEntry (n + 1)) (f % step) step
  clampI (t + L.advOf i) 0 32768

/-! ## Shaping, share and the torque map (R234 to R239) -/

/-- Shaping of stage `i`: span, profile, share in 2^-12, shape table. -/
def LaneSt.shaping (L : LaneSt) (i : Nat) : Nat × Nat × Nat × Option Nat :=
  let solo := fun (sh : Nat) => (L.rd Reg.COM_SPAN2_SPAN_SOLO, 2, sh, some (6 + i))
  if L.axle then solo 4096
  else
    match L.rd Reg.COM_STAT_SHAPE with
    | 0 => (L.rd Reg.COM_SPAN_SPAN_TRI, 0, 4096, none)
    | 1 =>
      let others := [0, 1, 2].filter fun j => j != i
      let missing := others.find? fun j => L.on (Reg.COM_STAT_OUT.bit j)
      (L.rd Reg.COM_SPAN_SPAN_DUO, 1, L.rd Reg.COM_SHARE_SHARE2,
        some (2 * i + (if missing = others.head? then 0 else 1)))
    | _ => solo (L.rd Reg.COM_SHARE_SHARE1)

/-- tmap() of R238 over the entries `e`. -/
def bilinear (e : Nat → Nat → Int) (th : Int) (i : Nat) : Int :=
  let fa := (th % 65536).toNat * 128
  let ia := fa / 65536
  let ta : Int := (fa % 65536 : Nat)
  let ib := (ia + 1) % 128
  let jc := min (i / 32768) 127
  let tc : Int := if 127 ≤ i / 32768 then 0 else (i % 32768 * 2 : Nat)
  let jd := min (jc + 1) 127
  let v := e ia jc * (65536 - ta) * (65536 - tc) + e ib jc * ta * (65536 - tc) +
    e ia jd * (65536 - ta) * tc + e ib jd * ta * tc
  (v + 0x80000000) / 0x100000000

/-- Shape-table entry interpolated in angle alone (R239). -/
def linearAngle (e : Nat → Int) (th : Int) : Int := bilinear (fun i _ => e i) th 0

/-- SCALE and EDGE of stage `i`: map combined with the shape table (R238, R239). -/
def LaneSt.mapAt (L : LaneSt) (i : Nat) (th : Int) (cur : Nat) (table : Option Nat) : Int × Int :=
  let sc := bilinear (fun a j => L.rd (Reg.TMAP_SCALE i (128 * j + a))) th cur
  let ec := bilinear (fun a j => L.rdS (Reg.TMAP_EDGE i (128 * j + a))) th cur
  match table with
  | none => (sc, ec)
  | some t =>
    (sc * linearAngle (fun a => L.rd (Reg.COM_SHAPE_MAP_SCALE t a)) th / 32768,
      ec + linearAngle (fun a => L.rdS (Reg.COM_SHAPE_MAP_EDGE t a)) th)

/-! ## Current limits (R225, R455, R456) -/

/-- Stage die Tj as the lane holds it, degrees C. -/
def LaneSt.stageTj (L : LaneSt) (i : Nat) : Int := (L.rd (Reg.STG_STAT_TJ i) : Int) - 64

/-- Limit of R455 in 2^-16 A. -/
def tjLimit (tj : Int) (peak : Bool) : Int :=
  if tj ≤ 140 then (if peak then 25 else 60) * 65536
  else if 150 < tj then 10 * 65536
  else
    let c := 25 * 65536 - (tj - 140) * 98304
    if peak then c else max (60 * 65536 - (tj - 140) * 327680) c

/-- Factor k of R456 on a limit: not below one half. -/
def windingLimit (m : Motor) (tw : Int) (lim : Int) : Int :=
  if tw ≤ m.tWarn * 65536 then lim
  else if m.tTrip ≤ m.tWarn then lim / 2
  else
    let span := (m.tTrip - m.tWarn) * 65536 * 2
    max ((lim * (span - (tw - m.tWarn * 65536))).tdiv span) (lim / 2)

/-- The smallest limit on the reference of stage `i`. -/
def LaneSt.currentLimit (L : LaneSt) (i : Nat) : Int :=
  let peak := L.on (Reg.COM_STG_STAT_PEAKLIM i)
  let lim : Int := (L.limOf i * 65536 / 1000 : Nat)
  let lim := min lim (if peak then 25 * 65536 else 60 * 65536)
  min lim (windingLimit L.com.motor (nth L.com.tw i) (tjLimit (nth L.com.tjSlot i) peak))

/-! ## Roles (R227) -/

/-- Positive and negative leg of a sector for positive COM_ICMD. -/
def sectorLegs : Nat → Nat × Nat
  | 0 => (0, 1)
  | 1 => (0, 2)
  | 2 => (1, 2)
  | 3 => (1, 0)
  | 4 => (2, 0)
  | _ => (2, 1)

/-- The two legs for the sign of COM_ICMD. -/
def rolesOf (k : Nat) (icmd : Int) : Nat × Nat :=
  let (p, n) := sectorLegs k
  if icmd < 0 then (n, p) else (p, n)

/-- Sector of an angle shifted by the advance (R227). -/
def sectorOf (th adv sigma : Int) : Nat := ((th * 6 + sigma * adv) % 393216 / 65536).toNat

/-! ## The regulator (R228, R230) -/

/-- DC-link voltage of stage `i`. -/
def LaneSt.vdc32 (L : LaneSt) (i : Nat) : Int := (L.rd (Reg.MEAS_VDC_VDC i) : Int) * 0x100000000 / 100

/-- d_max (R230). -/
def LaneSt.dMax (L : LaneSt) : Int :=
  ((L.period - (L.rd Reg.MEAS_WIN_CFG_MIN_WIN + 312) : Nat) * 65536 / L.period : Nat)

/-- Results of the stage that the computation of period `p` uses: those of period p - 2 (R228, in whose words period p + 1 is computed
from period p - 1). -/
def LaneSt.resultFor (L : LaneSt) (i p : Nat) : PerRes :=
  ((nth L.meas.res i).find? fun x => decide (x.p + 2 ≤ p)).getD .reset

/-- Measured current of a leg. -/
def LaneSt.legCur (L : LaneSt) (i k : Nat) : Int := nth (L.cst i).now.cur k

/-- One step of a regulator: integrator and output u for the reference `iref` and the measured amplitude `ia`. -/
def LaneSt.regulate (L : LaneSt) (i : Nat) (acc iref ia : Int) : Int × Int :=
  let e := iref - ia
  let acc := clampI (acc + L.rd Reg.COM_REG_CFG_KI * e) 0 (L.vdc32 i)
  (acc, L.rd Reg.COM_REG_CFG_KP * e * 256 + acc + (L.rd Reg.COM_RL_CFG_R * iref * 65536).tdiv 10000 + (L.cst i).emf)

/-- u over vdc as a duty; with no DC-link voltage the quotient is stated nowhere: a free value (log entry 15). -/
def LaneSt.toDuty (L : LaneSt) (i : Nat) (u : Int) : Int :=
  if L.vdc32 i = 0 then Config.divZero u else (u * 65536).tdiv (L.vdc32 i)

/-- Clamp to 0 to d_max. -/
def LaneSt.duty (L : LaneSt) (i : Nat) (u : Int) : Int := clampI (L.toDuty i u) 0 L.dMax

/-! ## The observer (R244, R245) -/

/-- Voltage of leg `k` from the applied edges, as a fraction of the period in microticks. -/
def highTicks (T : Nat) (c : GateCmd) (k : Nat) : Int :=
  let e := nth c k
  if edgeFloats e then 0 else (e.lon : Int) + T - e.loff

/-- Prediction ih of the pair current for the next period; L = 0 leaves the quotient open (log entry 15). -/
def LaneSt.predict (L : LaneSt) (ip u emf : Int) : Int :=
  let l := L.rd Reg.COM_RL_CFG_L
  if l = 0 then ip + Config.divZero (u - emf)
  else ip + ((L.period : Int) * (u - (2 * L.rd Reg.COM_RL_CFG_R * ip * 65536).tdiv 10000 - emf)).tdiv ((160 * 65536 * l : Nat) : Int)

/-- Observer step of stage `i` for the pair (pos, neg) (R244): back-EMF, prediction, residual. -/
def LaneSt.observe (L : LaneSt) (i pos neg : Nat) : LaneSt :=
  let c := L.cst i
  if c.now.bad then L.updCom i fun c => { c with ih := none, resid := none }
  else
    let u := match c.now.applied with
      | none => 0
      | some g => ((highTicks L.period g pos - highTicks L.period g neg) * L.vdc32 i).tdiv L.period
    let ip := (L.legCur i pos - L.legCur i neg).tdiv 2
    let emf := match c.ih with
      | some h => c.emf - (L.rd Reg.COM_OBS_CFG_GAIN * (ip - h) * 65536).tdiv 100
      | none => c.emf
    let res := c.ih.map fun h => absN (ip - h)
    let ih := L.predict ip u emf
    L.updCom i fun c => { c with emf := emf, ih := some ih, resid := res }

/-- The observer's angle, speed and disturbance from the results of period `q`: the spec gives no formula, so they are free values, the
same in all lanes (log entry 15). -/
def LaneSt.observeFree (L : LaneSt) (i q : Nat) : LaneSt :=
  let x := Config.observer i q
  ((L.wr (Reg.COM_OBS_ANGLE i) x.toNat).wr (Reg.COM_OBS_SPEED i) (x.toNat / 65536)).updCom i fun c =>
    { c with dist := (Config.disturbance i q).toInt, obsAt := L.valleyNs i q }

/-- Residual threshold in 2^-16 A. -/
def LaneSt.obsThr (L : LaneSt) : Nat := L.rd Reg.COM_OBS_CFG_THR * 65536 / 1000

/-- Count periods above and below THR (R245, R246); a period without a residual counts as neither. -/
def LaneSt.countResid (L : LaneSt) (i : Nat) : LaneSt :=
  match (L.cst i).resid with
  | none => L
  | some r =>
  let above := decide (L.obsThr < r) && decide (L.rd Reg.COM_CFG_F_MAX * 65536 < absN (L.freq i) * 5)
  let below := decide (r < L.obsThr)
  L.updCom i fun c => { c with overRun := if above then c.overRun + 1 else 0, underRun := if below then c.underRun + 1 else 0 }

/-- Locked again: OBS 0. -/
def LaneSt.lock (L : LaneSt) (i : Nat) : LaneSt :=
  ((L.wr (Reg.COM_STG_STAT_OBS i) 0).put (Reg.COM_STAT_COAST.bit i) false).updCom i fun c => { c with coast := none }

/-- Loss of lock and recovery (R245, R246). -/
def LaneSt.lockState (L : LaneSt) (i : Nat) : LaneSt :=
  let L := L.countResid i
  let c := L.cst i
  match L.rd (Reg.COM_STG_STAT_OBS i) with
  | 0 =>
    if c.overRun = 3 then
      if L.hasAngle i then (L.wr (Reg.COM_STG_STAT_OBS i) 1).raise 0x0710 i
      else
        let L := ((L.wr (Reg.COM_STG_STAT_OBS i) 2).put (Reg.COM_STAT_COAST.bit i) true).updCom i fun c =>
          { c with coast := some 0, coastSpeed := L.rdS (Reg.COM_OBS_SPEED i) }
        (L.raise 0x0711 i).refreshService
    else L
  | 1 => if 3 ≤ c.underRun then L.lock i else L
  | 2 => if 3 ≤ c.underRun then (L.lock i).refreshService else L
  | _ => L

/-- Electrical angle travelled while coasting (R246). -/
def LaneSt.coastOn (L : LaneSt) (i : Nat) : LaneSt :=
  let step := fun (c : ComStg) => absN ((c.coastSpeed * 65536 * ((L.period * 5 / 4 : Nat) : Int)).tdiv 10000000000)
  L.updCom i fun c => { c with coast := c.coast.map (· + step c) }

/-! ## Gate edges (R229) -/

/-- A PWM leg at duty `d`. -/
def pwmEdges (T : Nat) (d : Int) : Edges :=
  let x := ((d * T + 65536) / 131072).toNat
  { lon := x, loff := T - x }

/-- Low side on for the whole period; both switches off. -/
def lowEdges (T : Nat) : Edges := { lon := 0, loff := T }
def floatEdges : Edges := { lon := 0xFFFF, loff := 0xFFFF }

/-- A gate command with the legs of `p` set, the others floating. -/
def legsCmd (p : List (Nat × Edges)) : GateCmd := p.foldl (fun g x => setNth g x.1 x.2) (.all floatEdges)

/-! ## Transfers (R231, R232) -/

/-- Profile `q` at x = `num` / `den`, as a fraction of 65535 x 65536. -/
def LaneSt.profileAt (L : LaneSt) (q : Nat) (num den : Int) : Int :=
  if num ≤ 0 then 0
  else if den ≤ num then 65535 * 65536
  else
    let n := (32 * num / den).toNat
    let r := 32 * num % den
    let a : Int := L.rd (Reg.COM_EDGE_TBL_F q n)
    let b : Int := L.rd (Reg.COM_EDGE_TBL_F q (n + 1))
    a * 65536 + (b - a) * r * 65536 / den

/-- Difference of two sector angles, in (-180, 180] degrees. -/
def sectorDiff (a b : Int) : Int :=
  let d := (a - b) % 393216
  if 196608 < d then d - 393216 else d

/-- Centre of the transfer from sector `k` on, and the sector entered (R231). -/
def transferInto (k : Nat) (sigma adv ec : Int) : Int × Nat :=
  if 0 ≤ sigma then (65536 * ((k + 1) % 6 : Nat) - adv + ec, (k + 1) % 6)
  else (65536 * (k : Int) + adv + ec, (k + 5) % 6)

/-- Begin a transfer when the valley angle has reached its start. A span of 0 has no transfer periods. -/
def LaneSt.tryTransfer (L : LaneSt) (i : Nat) (th sigma adv ec : Int) (span q : Nat) : LaneSt :=
  let k := L.rd (Reg.COM_STG_STAT_SECTOR i)
  let (c, into) := transferInto k sigma adv ec
  let gone := sigma * sectorDiff (th * 6) (c - sigma * (span / 2 : Nat))
  if gone < 0 ∨ 131072 < gone then L
  else if gone < span then
    (L.put (Reg.COM_STG_STAT_TRANSFER i) true).updCom i fun s =>
      { s with transfer := some { centre := c, span := span, profile := q, sigma := sigma, into := into
                                  accOut := s.acc, accIn := 0, dOut := s.duty, dIn := 0, x := gone } }
  else (L.wr (Reg.COM_STG_STAT_SECTOR i) into).updCom i fun s => { s with ih := none }

/-- Carry a transfer on to the angle `th`: it ends at x of at least 1 (R231 step 5). -/
def LaneSt.moveTransfer (L : LaneSt) (i : Nat) (th : Int) : LaneSt :=
  match (L.cst i).transfer with
  | none => L
  | some t =>
    let x := t.sigma * sectorDiff (th * 6) (t.centre - t.sigma * (t.span / 2 : Nat))
    if (t.span : Int) ≤ x then
      ((L.wr (Reg.COM_STG_STAT_SECTOR i) t.into).put (Reg.COM_STG_STAT_TRANSFER i) false).updCom i fun s =>
        { s with transfer := none, acc := t.accIn, ih := none }
    else L.updCom i fun s => { s with transfer := some { t with x := x } }

/-- Legs of a transfer between two pairs: outgoing, incoming, common, and whether the common leg is the positive leg. -/
def transferLegs (a b : Nat × Nat) : Nat × Nat × Nat × Bool :=
  if a.1 = b.1 then (a.2, b.2, a.1, true) else (a.1, b.1, a.2, false)

/-- The period of a transfer (R231 steps 3 and 4) with the stage duty `d`; without a valid stage result both legs hold integrator and duty,
in the form of R228. -/
def LaneSt.transferCmd (L : LaneSt) (i : Nat) (t : Transfer) (icmd iref d : Int) : LaneSt × GateCmd :=
  let (out, inc, com, comPos) := transferLegs (rolesOf (L.rd (Reg.COM_STG_STAT_SECTOR i)) icmd) (rolesOf t.into icmd)
  let f := L.profileAt t.profile t.x (max t.span 1)
  let full : Int := 65535 * 65536
  let (ao, uo) := L.regulate i t.accOut ((iref * (full - f)).tdiv full) (absN (L.legCur i out))
  let (ai, ui) := L.regulate i t.accIn ((iref * f).tdiv full) (absN (L.legCur i inc))
  let T := L.period
  let leg := fun (u : Int) =>
    if comPos then clampI (d - L.toDuty i u) 0 L.dMax else L.duty i u
  let t := if (L.cst i).now.bad then t else { t with accOut := ao, accIn := ai, dOut := leg uo, dIn := leg ui }
  let g := legsCmd [(com, if comPos then pwmEdges T d else lowEdges T), (out, pwmEdges T t.dOut), (inc, pwmEdges T t.dIn)]
  (L.updCom i fun s => { s with transfer := some t }, g)

/-! ## Flying start (R247, R248) -/

/-- The motor is turning (R247): above START_THR, or, without an angle source, by a back-EMF above BEMF_THR. -/
def LaneSt.turning (L : LaneSt) (i : Nat) : Bool :=
  if L.hasAngle i then decide (L.rd Reg.COM_FLY_CFG_START_THR * L.rd Reg.COM_CFG_F_MAX * 65536 < absN (L.freq i) * 1000)
  else decide (L.rd Reg.COM_FLY_CFG_BEMF_THR < (L.cst i).bemf)

/-- Motion against the commanded direction (R248). -/
def LaneSt.against (L : LaneSt) (i : Nat) (icmd : Int) : Bool :=
  let f := L.freq i
  L.turning i &&
  ((decide (0 < f) && decide (icmd < 0)) || (decide (f < 0) && decide (0 < icmd)))

/-- |f_el| at or above CATCH. -/
def LaneSt.fast (L : LaneSt) (i : Nat) : Bool :=
  decide (L.rd Reg.COM_FLY_CFG_CATCH * L.rd Reg.COM_CFG_F_MAX * 65536 ≤ absN (L.freq i) * 100)

/-- The reference in a flying start (R248): the ramp, I_CATCH, or braking with the DC link held below 56.0 V. -/
def LaneSt.flyRef (L : LaneSt) (i : Nat) (icmd iref : Int) : LaneSt × Int :=
  match (L.cst i).fly with
  | none => (L, iref)
  | some fl =>
    if L.against i icmd then
      if L.fast i then (L, if 5600 ≤ L.rd (Reg.MEAS_VDC_VDC i) then 0 else iref)
      else (L, min iref (L.rd Reg.COM_FLY_CFG2_I_CATCH * 65536 / 1000 : Nat))
    else
      let ramp := fl.ramp + L.rd Reg.COM_FLY_CFG_RAMP * (L.period * 5 / 4) * 0x100000000 / 10000000
      if iref ≤ (ramp / 65536 : Nat) then
        ((L.put (Reg.COM_STAT_FLY.bit i) false).updCom i fun s => { s with fly := none }, iref)
      else (L.updCom i fun s => { s with fly := some { fl with ramp := ramp } }, (ramp / 65536 : Nat))

/-- A change of MODE to RUN begins a flying start, synchronised to the angle. -/
def LaneSt.startRun (L : LaneSt) (i : Nat) (th adv sigma : Int) : LaneSt :=
  (((L.put (Reg.COM_STAT_FLY.bit i) true).wr (Reg.COM_STG_STAT_SECTOR i) (sectorOf th adv sigma)).put
    (Reg.COM_STG_STAT_TRANSFER i) false).updCom i fun s =>
      { s with fly := some { since := L.time, ramp := 0 }, transfer := none, acc := 0, emf := 0, ih := none }

/-! ## Direct torque control (R249, R250) -/

/-- DTC is permitted: 80 kHz, and in TRIPLEX every stage not in OFF is in DTC (R249). -/
def LaneSt.dtcOk (L : LaneSt) : Bool :=
  L.rd Reg.COM_CFG_PWM == 2 && (L.axle || [0, 1, 2].all fun j => L.modeOf j == 0 || L.modeOf j == 2)

/-- The square root of 3 in 2^-32. -/
abbrev root3 : Int := 7439101573

/-- Integrate the stator flux (R250 step 1), in 2^-32 V microticks: alpha, and beta times the square root of 3. -/
def LaneSt.dtcFlux (L : LaneSt) (i : Nat) : LaneSt :=
  let T := L.period
  let v := fun k => match (L.cst i).now.applied with
    | none => 0
    | some g => (highTicks T g k * L.vdc32 i).tdiv T - (L.rd Reg.COM_RL_CFG_R * L.legCur i k * 65536).tdiv 10000
  let va := (2 * v 0 - v 1 - v 2).tdiv 3
  let vb := v 1 - v 2
  L.updCom i fun s => { s with psiA := s.psiA + va * T, psiB := s.psiB + vb * T }

/-- Torque (R250 step 2) in 2^-16 of the rated torque. -/
def LaneSt.dtcTorque (L : LaneSt) (i : Nat) : Int :=
  let c := L.cst i
  let ia := (2 * L.legCur i 0 - L.legCur i 1 - L.legCur i 2).tdiv 3
  let ib := L.legCur i 1 - L.legCur i 2
  let x := (c.psiA * ib - c.psiB * ia) * 0x100000000
  (3 * L.rd Reg.POS_FUSE_CFG_PP * x * 65536).tdiv (2 * root3 * 0x100000000 * 800000000 * (if Config.ratedTorque = 0 then 1 else Config.ratedTorque))

/-- The comparators (R250 step 3): torque -1, 0 or 1, flux up or down. -/
def LaneSt.dtcCompare (L : LaneSt) (i : Nat) : Int × Bool :=
  let c := L.cst i
  let e := L.icmdOf i - L.dtcTorque i
  let b : Int := L.rd Reg.COM_DTC_CFG_T_HYS
  let t := if b < e then 1 else if e < -b then -1 else if c.dtcT = 1 ∧ 0 < e then 1 else if c.dtcT = -1 ∧ e < 0 then -1 else 0
  let ref : Int := (L.psiRefOf i : Int) * 8000 * 0x100000000
  let m := 3 * c.psiA * c.psiA + c.psiB * c.psiB
  let h : Int := L.rd Reg.COM_DTC_CFG_F_HYS
  let edge := fun (n : Int) => 3 * ref * ref * n * n
  let f := if m * 160000 < edge (400 - h) then true else if edge (400 + h) < m * 160000 then false else c.dtcF
  (t, f)

/-- Flux sector 0 to 5, centred on the six active vectors. -/
def dtcSector (a b : Int) : Nat :=
  if 0 ≤ a then (if absN b ≤ absN a then 0 else if 0 < b then 1 else 5)
  else (if absN b ≤ absN a then 3 else if 0 < b then 2 else 4)

/-- Legs high in active vector `n` (0 is U alone, 1 U and V, ...). -/
def vectorLegs (n : Nat) : List Nat := [[0], [0, 1], [1], [1, 2], [2], [0, 2]].getD n []

/-- The classic switching table (R250 step 4, log entry 16); none is the zero vector. -/
def dtcVector (sector : Nat) (t : Int) (up : Bool) : Option Nat :=
  if t = 0 then none
  else if 0 < t then some ((sector + (if up then 1 else 2)) % 6)
  else some ((sector + (if up then 5 else 4)) % 6)

/-- The gate command of a vector: the whole period but an all-low interval centred on the valley (R250 step 5). -/
def dtcCmd (T gap : Nat) (v : Option Nat) : GateCmd :=
  let hi : Edges := { lon := T / 2 - gap / 2, loff := T / 2 + gap / 2 }
  let legs := match v with
    | some n => vectorLegs n
    | none => []
  ⟨if legs.contains 0 then hi else lowEdges T, if legs.contains 1 then hi else lowEdges T,
    if legs.contains 2 then hi else lowEdges T⟩

/-- One period of DTC. -/
def LaneSt.dtcPeriod (L : LaneSt) (i : Nat) : LaneSt × Option GateCmd :=
  let L := L.dtcFlux i
  let (t, f) := L.dtcCompare i
  let c := L.cst i
  let g := dtcCmd L.period (20 * L.rd Reg.COM_DTC_CFG_ZERO) (dtcVector (dtcSector c.psiA c.psiB) t f)
  (L.updCom i fun s => { s with dtcT := t, dtcF := f }, some g)

/-! ## One period (R228) -/

/-- Take the newest posted words of stage `i` whose slot ends at or before the start of period `p` (R24). -/
def LaneSt.takeWords (L : LaneSt) (i p : Nat) : LaneSt :=
  match L.com.posts.find? fun x => decide (x.1 ≤ L.periodNs i p) with
  | none => L
  | some x =>
    let w := fun (n : Nat) => x.2.getD n 0#32
    let ws := (((L.com.words.set (4 * i) (w (4 * i))).set (4 * i + 1) (w (4 * i + 1))).set (4 * i + 2) (w (4 * i + 2))).set
      (4 * i + 3) (w (4 * i + 3))
    { L with com := { L.com with words := ws } }

/-- MODE in force on stage `i`, OFF while forced (R278), removed, floating or barred, and outside DRIVE and FOLD (R58, R185,
R246, R248). -/
def LaneSt.modeNow (L : LaneSt) (i : Nat) : Nat :=
  let c := L.cst i
  if L.on (Reg.SAFE_STAT_FORCED_OFF.bit i) || L.on (Reg.MEAS_STAT_OUT_OF_SERVICE.bit i) || c.floatAt.isSome ||
      c.barredArm || c.barredMode || (L.st != stDrive && L.st != stFold) then 0
  else L.modeOf i

/-- The reference before the flying start (R228, R235, R246): halved while coasting. -/
def LaneSt.reference (L : LaneSt) (i share : Nat) (sc : Int) : Int :=
  let x := ((absN (L.icmdOf i) : Int) * share * sc).tdiv (4096 * 32768)
  let x := min x (L.currentLimit i)
  if (L.cst i).coast.isSome then x / 2 else x

/-- Regulate the stage current (R228); no valid result holds acc and d; out of service or all-off gives acc 0. -/
def LaneSt.stageDuty (L : LaneSt) (i : Nat) (iref : Int) : LaneSt :=
  let idle := !L.serves i || (L.cst i).now.off
  let L := if idle then L.updCom i fun s => { s with acc := 0, emf := 0, ih := none } else L
  let L := if (L.cst i).now.bad then L
    else
      let ia := ((absN (L.legCur i 0) + absN (L.legCur i 1) + absN (L.legCur i 2) : Nat) : Int) / 2
      let (acc, u) := L.regulate i (L.cst i).acc iref ia
      let d := L.duty i u
      L.updCom i fun s => { s with acc := if idle then 0 else acc, duty := d.toNat }
  let d := (L.cst i).duty
  (L.wr (Reg.COM_STG_STAT_DUTY i) (min d 0xFFFF)).put (Reg.COM_STAT_VLIM.bit i) (decide (L.dMax ≤ d))

/-- Note whether the reference exceeds 25 A in the period from `t` to `u` (R225). -/
def LaneSt.notePeak (L : LaneSt) (i : Nat) (iref : Int) (t u : Nat) : LaneSt :=
  L.updCom i fun s =>
    let runs := s.peakRuns.filter fun x => decide (t ≤ x.2 + 10000000000)
    { s with peakRuns :=
        if iref ≤ 25 * 65536 then runs
        else match runs with
          | (a, b) :: r => if b = t then (a, u) :: r else (t, u) :: runs
          | [] => [(t, u)] }

/-- The gate command of RUN from roles, transfer and duty (R229, R231). -/
def LaneSt.runCmd (L : LaneSt) (i : Nat) (icmd iref : Int) : LaneSt × Option GateCmd :=
  let d : Int := (L.cst i).duty
  match (L.cst i).transfer with
  | some t => let (L, g) := L.transferCmd i t icmd iref d; (L, some g)
  | none =>
    let (p, n) := rolesOf (L.rd (Reg.COM_STG_STAT_SECTOR i)) icmd
    (L, some (legsCmd [(p, pwmEdges L.period d), (n, lowEdges L.period)]))

/-- One period of RUN. -/
def LaneSt.runPeriod (L : LaneSt) (i p : Nat) : LaneSt × Option GateCmd :=
  let icmd := L.icmdOf i
  let th := L.angle i p
  let sigma := rotation (L.freq i) icmd
  let adv := L.advance i
  let (span, q, share, table) := L.shaping i
  let (sc, ec) := L.mapAt i th (absN icmd) table
  let L := if (L.cst i).lastMode ≠ 1 then L.startRun i th adv sigma else L
  let (pos, neg) := rolesOf (L.rd (Reg.COM_STG_STAT_SECTOR i)) icmd
  let L := (((L.observe i pos neg).observeFree i (p - 2)).lockState i).coastOn i
  let (L, iref) := L.flyRef i icmd (L.reference i share sc)
  let L := L.wrS (Reg.COM_IREF_IREF i) (if icmd < 0 then -iref else iref)
  let L := (L.notePeak i iref (L.periodNs i p) (L.periodNs i (p + 1))).stageDuty i iref
  let L := if (L.cst i).transfer.isSome then L.moveTransfer i th else L.tryTransfer i th sigma adv ec span q
  (L.updCom i fun s => { s with theta := th }).runCmd i icmd iref

/-- The stage leaves RUN: a transfer is abandoned, integrator and observer start anew (R224, R228). -/
def LaneSt.leaveRun (L : LaneSt) (i : Nat) : LaneSt :=
  ((((L.put (Reg.COM_STAT_FLY.bit i) false).put (Reg.COM_STG_STAT_TRANSFER i) false).put (Reg.COM_STAT_VLIM.bit i) false).wr
    (Reg.COM_IREF_IREF i) 0).updCom i fun s => { s with transfer := none, acc := 0, emf := 0, ih := none, fly := none, duty := 0 }

/-- DTC refused: 0x0D20 once a slot, driven as OFF (R249). -/
def LaneSt.dtcRefuse (L : LaneSt) (i : Nat) : LaneSt :=
  if (L.cst i).dtcAt = some L.meas.slot then L
  else (L.updCom i fun s => { s with dtcAt := some L.meas.slot }).raise 0x0D20 i

/-- The command of stage `i` for period `p` by MODE (R224). -/
def LaneSt.modePeriod (L : LaneSt) (i p : Nat) : LaneSt × Option GateCmd :=
  match L.modeNow i with
  | 1 => L.runPeriod i p
  | 2 => if L.dtcOk then (L.leaveRun i).dtcPeriod i else ((L.leaveRun i).dtcRefuse i, none)
  | 3 => (L.leaveRun i, some (.all (lowEdges L.period)))
  | _ => (L.leaveRun i, none)

/-- Store the command that the lane's next frame for the stage carries (R163). -/
def LaneSt.comPeriod (L : LaneSt) (i p : Nat) : LaneSt :=
  let L := (L.takeWords i p).updCom i fun c => { c with now := L.resultFor i p }
  let m := L.modeNow i
  let (L, g) := L.modePeriod i p
  let L := L.put (Reg.COM_STAT_DTC.bit i) (m == 2 && L.dtcOk)
  let d := if L.serves i then (L.cst i).dist else 0
  let L := { L with com := { L.com with distSum := L.com.distSum + d } }
  (L.updCom i fun s => { s with cmd := g, lastMode := m }).refreshService

/-- The quantities that Skim samples of stage `i`, by source code (R369): currents and iref in 10 mA, DC link in 10 mV, duty in
2^-15; with stage A go the fused and electrical angle and the fused speed in 0.01 rev/s. -/
def LaneSt.skimVals (L : LaneSt) (i : Nat) : List (Nat × Int) :=
  let amps := fun (x : Int) => satS 16 ((x * 100).tdiv 65536)
  let ph := fun (k : Nat) => (1 + 3 * i + k, amps (L.rdS (Reg.MEAS_I_I i k)))
  let own := [ph 0, ph 1, ph 2, (0x0A + i, satS 16 ((L.rd (Reg.MEAS_VDC_VDC i) : Nat) : Int)),
    (0x0D + i, amps (L.rdS (Reg.COM_IREF_IREF i))), (0x13 + i, satS 16 (((L.rd (Reg.COM_STG_STAT_DUTY i) / 2 : Nat)) : Int)),
    (0x16 + i, amps (L.cst i).dist)]
  if i = 0 then
    own ++ [(0x10, signedOf 16 (L.rd Reg.POS_ANGLE_FUSED_ANGLE / 65536)), (0x11, signedOf 16 (L.rd Reg.POS_ANGLE_ELEC_ELEC)),
      (0x12, satS 16 ((L.rdS (Reg.POS_SPEED_SPEED 3) * 100).tdiv 65536))]
  else own

/-- Keep the results of the period of stage `i` that ends where period `p` starts, for Skim. -/
def LaneSt.skimNote (L : LaneSt) (i p : Nat) : LaneSt :=
  let r : SkimRec := { stopAt := L.periodNs i p, vals := L.skimVals i }
  { L with flk := { L.flk with hist := updNth L.flk.hist i fun h => (r :: h).take 48 } }

/-- Form the lane's cross-strap frame of stage `i` for the coming period (R163): SEQ counts on, claim and veto as presented, EN as the
safe stops and two periods of an EN pulse leave it (R271), ISO while the stage is removed from service, and the command computed. -/
def LaneSt.formFrame (L : LaneSt) (i : Nat) : LaneSt :=
  let n := (nth L.safe.seq i + 1) % 16
  let left := nth L.safe.pulse i
  let f : XFrame :=
    { seq := n, claim := L.rd (Reg.CLAIM_OF i), veto := BitVec.ofNat 3 (L.rd Reg.CLM_PRESENT_VETO), en := nth L.safe.en i && decide (left ≤ 1)
      iso := L.on (Reg.MEAS_STAT_OUT_OF_SERVICE.bit i), cmd := (L.cst i).cmd.getD offCmd, mark := 0 }
  { L.updCom i (fun c => { c with frame := some f }) with safe := { L.safe with
    seq := setNth L.safe.seq i n, pulse := setNth L.safe.pulse i (if left ≤ 1 then left else left - 1) } }

/-- COMMUTATION_PERIOD (R228, R163): the lane computes its command of the stage for period `p` and forms its frame; `bemf` is what the
phase-voltage comparators tell (R247). -/
def execCommutationPeriod (l : Lane) (g : Stg) (bemf p : Nat) (s : State) : Out :=
  onLaneNow l s fun L =>
    (((L.skimNote (stgIx g) p).updCom (stgIx g) fun c => { c with bemf := bemf }).comPeriod (stgIx g) p).formFrame (stgIx g)

end Sys2Proof.Machine
end

