-- ==== Sys2Proof/Machine/ComCmd.lean ====
section
/-! DEFINITION. Commands of commutation other than the period itself: posting, peak limit, loss of lock, flying start,
learning, Graze, derating (09, 20). -/
namespace Sys2Proof.Machine

/-! ## Posting (R24, R25, R223, R278) -/

/-- The twelve command registers. -/
def LaneSt.commandRegs (L : LaneSt) : List Word := (List.range 12).map fun n => L.reg (0x40060100 + 4 * n)

/-- MODE of stage `i` as written. -/
def LaneSt.writtenMode (L : LaneSt) (i : Nat) : Nat := L.rd (Reg.COM_MODE_MODE i)

/-- Replace the MODE word of a forced stage by OFF (R278). -/
def LaneSt.maskForced (L : LaneSt) (ws : List Word) : List Word :=
  [0, 1, 2].foldl (fun ws i => if L.on (Reg.SAFE_STAT_FORCED_OFF.bit i) then ws.set (4 * i) 0#32 else ws) ws

/-- A posting of MODE OFF on a stage whose safe stop has cleared ends its forced OFF (R278). -/
def LaneSt.releaseForced (L : LaneSt) : LaneSt :=
  for3 (fun i L =>
    if L.on (Reg.SAFE_STAT_FORCED_OFF.bit i) && !L.on (Reg.SAFE_STAT_STO_ACT.bit i) && L.writtenMode i == 0 then
      L.put (Reg.SAFE_STAT_FORCED_OFF.bit i) false else L) L

/-- Post the command registers in the slot of `t`. -/
def LaneSt.post (L : LaneSt) (t : Nat) : LaneSt :=
  let ws := L.maskForced L.commandRegs
  let at_ := (t / 50000 + 1) * 50000
  let posts := ((at_, ws) :: L.com.posts.filter fun x => x.1 != at_).take 2
  ({ L with com := { L.com with posted := true, next := ws, posts := posts } }).releaseForced

/-- COMMIT (R25, R223): after 44 µs of the slot it posts nothing. -/
def execCommit (l : Lane) (t : Nat) (s : State) : Out :=
  onLane l t s fun L => if t % 50000 ≤ 44000 then L.post t else L

/-- COMMAND_DEADLINE (R25): a lane, CHECKED or shadowing (R155), that has posted nothing, and is not in a Churn slice, holds its
commands: 0x0201, and the next round counts it as disagreeing on every commanded field. -/
def execCommandDeadline (l : Lane) (s : State) : Out :=
  onLaneNow l s fun L =>
    let slice := match L.chn.sliced with
      | some (n, _) => n == L.meas.slot
      | none => false
    let computes := L.mode == 0 || (L.mode == 2 && L.rd Reg.AGR_RSYNC_PHASE == 4)
    if L.com.posted || slice || !computes then L
    else
      let L := (L.inc Reg.COM_POST_STAT_LATE_CNT).put Reg.AGR_STAT_DEADLINE true
      ({ L with com := { L.com with late := true } }).raise 0x0201

/-! ## Peak limit (R225) -/

/-- Time above 25 A within the 10 s before `t`, ns. -/
def peakTotal (runs : List (Nat × Nat)) (t : Nat) : Nat :=
  (runs.map fun x => min x.2 t - max x.1 (t - 10000000000)).foldl (· + ·) 0

/-- PEAK_LIMIT_ENGAGE: the reference exceeded 25 A for 2 s in total within the last 10 s. -/
def execPeakLimitEngage (l : Lane) (g : Stg) (t : Nat) (s : State) : Out :=
  onLane l t s fun L =>
    if 2000000000 ≤ peakTotal (L.cst (stgIx g)).peakRuns t then L.put (Reg.COM_STG_STAT_PEAKLIM (stgIx g)) true else L

/-- PEAK_LIMIT_LIFT: the reference has stayed at or below 25 A for 10 s. -/
def execPeakLimitLift (l : Lane) (g : Stg) (t : Nat) (s : State) : Out :=
  onLane l t s fun L =>
    if peakTotal (L.cst (stgIx g)).peakRuns t = 0 then L.put (Reg.COM_STG_STAT_PEAKLIM (stgIx g)) false else L

/-! ## Loss of lock (R246) -/

/-- OBSERVER_FLOAT: one electrical revolution of coasting without lock. -/
def execObserverFloat (l : Lane) (g : Stg) (t : Nat) (s : State) : Out :=
  let i := stgIx g
  onLane l t s fun L =>
    match (L.cst i).coast with
    | some x =>
      if 65536 ≤ x then
        let L := ((L.wr (Reg.COM_STG_STAT_OBS i) 3).put (Reg.COM_STAT_COAST.bit i) false).put (Reg.COM_STAT_FLOAT.bit i) true
        (L.updCom i fun c => { c with coast := none, floatAt := some t, capture := false, crossings := 0 }).refreshService
      else L
    | none => L

/-- BEMF_CAPTURE_START: 2 ms after floating. -/
def execBemfCaptureStart (l : Lane) (g : Stg) (t : Nat) (s : State) : Out :=
  let i := stgIx g
  onLane l t s fun L =>
    match (L.cst i).floatAt with
    | some t0 => if t0 + 2000000 ≤ t then L.updCom i fun c => { c with capture := true, crossings := 0 } else L
    | none => L

/-- Lock regained by crossings: the stage restarts as a forward flying start. -/
def LaneSt.relock (L : LaneSt) (i t : Nat) : LaneSt :=
  let L := ((L.wr (Reg.COM_STG_STAT_OBS i) 0).put (Reg.COM_STAT_FLOAT.bit i) false).put (Reg.COM_STAT_FLY.bit i) true
  (L.updCom i fun c => { c with floatAt := none, capture := false, crossings := 0, fly := some { since := t, ramp := 0 } }).refreshService

/-- BEMF_ZERO_CROSSING: three consistent crossings within one revolution regain lock. -/
def execBemfZeroCrossing (l : Lane) (g : Stg) (consistent : Bool) (t : Nat) (s : State) : Out :=
  let i := stgIx g
  onLane l t s fun L =>
    if (L.cst i).capture then
      let n := if consistent then (L.cst i).crossings + 1 else 0
      if 3 ≤ n then L.relock i t else L.updCom i fun c => { c with crossings := n }
    else L

/-- REACQ_TIMEOUT: no lock by float + REACQ: 0x0712, all-off until the next STANDBY to ARM. -/
def execReacqTimeout (l : Lane) (g : Stg) (t : Nat) (s : State) : Out :=
  let i := stgIx g
  onLane l t s fun L =>
    match (L.cst i).floatAt with
    | some t0 =>
      if t0 + L.rd Reg.COM_OBS_CFG_REACQ * 1000000 ≤ t ∧ !(L.cst i).barredArm then
        ((L.updCom i fun c => { c with capture := false, barredArm := true }).raise 0x0712 i).refreshService
      else L
    | none => L

/-- FLYING_START_TIMEOUT (R248): the motion has not reached the commanded direction within TMO: 0x0713, all-off until
MODE is written again. -/
def execFlyingStartTimeout (l : Lane) (g : Stg) (t : Nat) (s : State) : Out :=
  let i := stgIx g
  onLane l t s fun L =>
    match (L.cst i).fly with
    | some f =>
      if f.since + L.rd Reg.COM_FLY_CFG2_TMO * 1000000 ≤ t ∧ L.against i (L.icmdOf i) then
        (((L.put (Reg.COM_STAT_FLY.bit i) false).updCom i fun c => { c with fly := none, barredMode := true }).raise 0x0713
          i).refreshService
      else L
    | none => L

/-! ## Learning (R241, R242) -/

/-- Conditions of a run on the state: DRIVE, TRIPLEX, three stages in service (R241). -/
def LaneSt.learnState (L : LaneSt) : Bool :=
  L.st == stDrive && !L.axle && L.serves 0 && L.serves 1 && L.serves 2

/-- LEARNING_RUN_START (R241): at the basic-cycle number that the calibration command gave. The round before is v(k-1) of the first one
(R242). -/
def execLearningRunStart (l : Lane) (n : Nat) (s : State) : Out :=
  onLaneNow l s fun L =>
    match L.com.learn with
    | some r =>
      if r.at_ = n ∧ !r.running then
        if L.learnState && decide (L.com.pending.length ≤ 256) && L.rd Reg.COM_LEARN_REF_ACC_REF != 0 then
          let i := absN (L.icmdOf 0)
          let r' := { r with running := true, jc := min (i / 32768) 127
                             tc := if 127 ≤ i / 32768 then 0 else i % 32768 * 2
                             icmd := [L.icmdOf 0, L.icmdOf 1, L.icmdOf 2].map fun x => ((absN x : Nat) : Int)
                             prevV := if L.agreedOk 6 then some (L.rdS (Reg.AGR_VEC_VALUE 6)) else none
                             lastW := if L.agreedOk 5 then some (L.rd (Reg.AGR_VEC_VALUE 5) % 65536) else none }
          let L := (L.wr Reg.COM_LEARN_STAT_REVS 0).wr Reg.COM_LEARN_STAT_RESULT 1
          { (L.put Reg.COM_STAT_LEARN true) with com := { L.com with learn := some r' } }
        else L.endLearn 3
      else L
    | none => L

/-- A round that aborts the run (R241): `v` is the agreed SPEED in 0.1 Hz. -/
def LaneSt.learnBreaks (L : LaneSt) (r : Learn) (v : Int) (ok : Bool) : Bool :=
  let moved := [0, 1, 2].any fun j => decide (32768 < absN ((absN (L.icmdOf j) : Int) - r.icmd.getD j 0))
  let range := decide (absN v < 20) || decide (1000 < absN v)
  let drift := match r.revMean with
    | some m => decide (absN m < absN (v - m) * 50)
    | none => false
  !L.learnState || moved || !ok || range || drift

/-- Add one agreed round (R242). -/
def Learn.add (r : Learn) (w : Nat) (v : Int) : Learn :=
  let b := w * 128 / 65536 % 128
  let r := match r.prevV with
    | some p => { r with acc := r.acc.modify b (· + (v - p)), cnt := r.cnt.modify b (· + 1) }
    | none => r
  let wrap := match r.lastW with
    | some p => decide (32768 < absN ((w : Int) - p))
    | none => false
  let r := { r with prevV := some v, lastW := some w, revSum := r.revSum + v, revCnt := r.revCnt + 1 }
  if wrap then { r with revMean := some (r.revSum.tdiv (r.revCnt : Int)), revSum := 0, revCnt := 0 } else r

/-- The run sees an agreed round: fields 5 and 6 (R242). -/
def LaneSt.learnRound (L : LaneSt) (w : Nat) (v : Int) (ok : Bool) : LaneSt :=
  match L.com.learn with
  | none => L
  | some r =>
    if !r.running || r.done then L
    else if L.learnBreaks r v ok then L.endLearn 3
    else
      let wrapped := match r.lastW with
        | some p => decide (32768 < absN ((w : Int) - p))
        | none => false
      let r := r.add w v
      let L := if wrapped then L.incSat Reg.COM_LEARN_STAT_REVS else L
      let r := { r with done := decide (L.rd Reg.COM_LEARN_CFG_N_REV ≤ L.rd Reg.COM_LEARN_STAT_REVS) }
      { L with com := { L.com with learn := some r } }

/-- The correction d of bin `b` (R242). -/
def LaneSt.learnDelta (L : LaneSt) (r : Learn) (b : Nat) : Int :=
  let n := r.cnt.getD b 0
  let total : Nat := r.cnt.foldl (· + ·) 0
  let m : Int := if total = 0 then 0 else (r.acc.foldl (· + ·) 0).tdiv total
  if n = 0 then 0
  else
    let q := (r.acc.getD b 0).tdiv n
    clampI ((-(L.rd Reg.COM_LEARN_CFG_LGAIN * (q - m) * 0x8000)).tdiv (256 * 3 * L.rd Reg.COM_LEARN_REF_ACC_REF : Nat)) (-0x400) 0x400

/-- Change one SCALE by `x`, clamped, and note the entry as pending. -/
def LaneSt.adjustScale (L : LaneSt) (i j a : Nat) (x : Int) : LaneSt :=
  let e := 128 * j + a
  let v := clampI ((L.rd (Reg.TMAP_SCALE i e) : Int) + x) 0 0xFFFF
  if v = L.rd (Reg.TMAP_SCALE i e) then L
  else
    let L := L.wr (Reg.TMAP_SCALE i e) v.toNat
    let p := (Reg.TMAP_SCALE i e).addr
    let rest := L.com.pending.filter fun y => y.1 ≠ p
    { L with com := { L.com with pending := (p, L.reg p) :: rest } }

/-- Apply a run to stage `i`. -/
def LaneSt.applyStage (L : LaneSt) (r : Learn) (i : Nat) : LaneSt :=
  forN 128 (fun a L =>
    let d := L.learnDelta r ((a + 7 * i) % 128)
    (L.adjustScale i r.jc a ((d * (65536 - r.tc)).tdiv 65536)).adjustScale i (min (r.jc + 1) 127) a ((d * r.tc).tdiv 65536)) L

/-- LEARNING_APPLY (R242): at the basic-cycle boundary after N_REV revolutions. -/
def execLearningApply (l : Lane) (s : State) : Out :=
  onLaneNow l s fun L =>
    match L.com.learn with
    | some r =>
      if r.running && r.done then
        let L := ((L.applyStage r 0).applyStage r 1).applyStage r 2
        ((L.wr Reg.COM_MAP_STAT_PENDING L.com.pending.length).inc Reg.COM_LEARN_STAT_RUNS).endLearn 2
      else L
    | none => L

/-! ## Graze (R252) -/

/-- The sample of a basic cycle: mean disturbance of the stages in service, high-passed at 20 Hz; the coefficient is
0.969549 (log entry 17). -/
def LaneSt.grazeSample (L : LaneSt) : LaneSt :=
  let c := L.com
  let x := c.distSum.tdiv (200000 / L.period : Nat)
  let y := ((c.grazeHp + x - c.grazeIn) * 63540).tdiv 65536
  let c := { c with distSum := 0 }
  if L.on Reg.COM_GRAZE_CFG_EN && !L.axle && (L.serves 0 || L.serves 1 || L.serves 2) then
    { L with com := { c with grazeHp := y, grazeIn := x, graze := (y :: c.graze).take 128 } }
  else { L with com := c }

/-- Square root of a number below 2^64, rounded down. -/
def isqrt (n : Nat) : Nat :=
  (List.range 40).foldl (fun r k => let c := r + 2 ^ (39 - k); if c * c ≤ n then c else r) 0

/-- The windowed samples, oldest first, 2^-16 A. -/
def grazeWindow (x : List Int) : List Int :=
  (x.reverse.zipIdx).map fun p => (p.1 * (0x10000000000 - cosTurn ((512 * p.2 : Nat) : Int))).tdiv 0x20000000000

/-- Amplitude of bin `b` in mA RMS, saturated (R252). -/
def grazeBin (x : List Int) (b : Nat) : Nat :=
  let sum := fun (f : Int → Int) => ((x.zipIdx).foldl (fun a p => a + p.1 * f ((b * p.2 * 512 : Nat) : Int)) 0).tdiv 0x10000000000
  let re := sum cosTurn
  let im := sum sinTurn
  let p := (re * re + im * im).toNat
  let a := if b < 64 then isqrt (2 * p * 1000000) else isqrt (p * 1000000)
  min (a / (64 * 65536)) 65535

/-- GRAZE_SPECTRUM (R252): at a matrix-cycle end, from the last 128 samples. -/
def execGrazeSpectrum (l : Lane) (s : State) : Out :=
  onLaneNow l s fun L =>
    if L.on Reg.COM_GRAZE_CFG_EN && L.com.graze.length == 128 then
      let x := grazeWindow L.com.graze
      let L := forN 32 (fun n L => (L.wr (Reg.COM_GRAZE_BIN_LO n) (grazeBin x (2 * n + 1))).wr (Reg.COM_GRAZE_BIN_HI n)
        (grazeBin x (2 * n + 2))) L
      ({ L with com := { L.com with grazeSeq := L.com.grazeSeq + 1 } }).freeze .matrix
    else L

/-! ## Temperatures (R41, R455 to R457) -/

/-- Since when a condition holds without a break. -/
def sinceWhen (now : Bool) (was : Option Nat) (t : Nat) : Option Nat := if now then some (was.getD t) else none

/-- The temperatures of stage `i` at a slot start: the die Tj of its status frame for R455, warnings on entry above 140 °C and above
T_WARN, and since when the trip limits are passed. -/
def LaneSt.tempWarn (L : LaneSt) (i : Nat) : LaneSt :=
  let hot := decide (140 < L.stageTj i)
  let warm := decide (L.com.motor.tWarn * 65536 < nth L.com.tw i)
  let was := nth L.com.tjHot i
  let wasW := nth L.com.twHot i
  let L := { L with com := { L.com with
    tjHot := setNth L.com.tjHot i hot, twHot := setNth L.com.twHot i warm, tjSlot := setNth L.com.tjSlot i (L.stageTj i)
    tjOver := setNth L.com.tjOver i (sinceWhen (decide (150 < L.stageTj i)) (nth L.com.tjOver i) L.time)
    twOver := setNth L.com.twOver i (sinceWhen (decide (L.com.motor.tTrip * 65536 < nth L.com.tw i)) (nth L.com.twOver i) L.time) } }
  (L.raiseIf (hot && !was) 0x0E01 i).raiseIf (warm && !wasW) 0x0E03 i

/-- T_W of stage `i` from the NTC values used in the round (R41); none: the model. -/
def LaneSt.ntcOf (L : LaneSt) (i : Nat) : Option Int :=
  match nth L.agr.ntc i with
  | some x => some x
  | none =>
    if L.axle then none
    else
      match (triList L.agr.ntc).filterMap id with
      | [] => none
      | x :: xs => some (xs.foldl max x)

/-- Enter T_W at a vote completion. -/
def LaneSt.takeNtc (L : LaneSt) : LaneSt :=
  for3 (fun i L =>
    match L.ntcOf i with
    | some x => { L with com := { L.com with tw := setNth L.com.tw i (x * 8192), twModel := setNth L.com.twModel i false } }
    | none => L) L

/-- The winding model of R457 for stage `i`, once per basic cycle. -/
def LaneSt.windingModel (L : LaneSt) (i : Nat) : LaneSt :=
  if (L.ntcOf i).isSome then L
  else
    let tj := L.stageTj i * 65536
    let tw := if nth L.com.twModel i then nth L.com.tw i else tj + 30 * 65536
    let cur := L.rdS (Reg.COM_IREF_IREF i)
    -- 2^-16 W
    let p := (2 * L.rd Reg.COM_RL_CFG_R * (cur * cur)).tdiv (10000 * 65536)
    let m := L.com.motor
    let loss := if m.rth = 0 then Config.divZero (tw - tj) else ((tw - tj) * 1000).tdiv m.rth
    let step := if m.cth = 0 then Config.divZero (p - loss) else (p - loss).tdiv (4 * m.cth)
    { L with com := { L.com with tw := setNth L.com.tw i (tw + step), twModel := setNth L.com.twModel i true } }

end Sys2Proof.Machine
end

