-- ==== Sys2Proof/Machine/Stop.lean ====
section
/-! DEFINITION. Safe stop and torque removal (11). -/
namespace Sys2Proof.Machine

/-- Change the safe-stop state. -/
def LaneSt.updSafe (L : LaneSt) (f : SafeSt → SafeSt) : LaneSt := { L with safe := f L.safe }

/-- Set or clear the stages of the mask `m`. -/
def setMask (x : Tri Bool) (m : Nat) (b : Bool) : Tri Bool :=
  ⟨if bitN m 0 then b else x.a, if bitN m 1 then b else x.b, if bitN m 2 then b else x.c⟩

/-! ## What is in force (R276, R278) -/

/-- The STO latch of stage `i`'s owner, as lane `l` sees it (R278). -/
def LaneSt.ownerLatch (L : LaneSt) (l : Lane) (i : Nat) : Bool :=
  match L.stoSrc i with
  | 0 => false
  | n + 1 => if n = laneIx l then L.on Reg.SAFE_STAT_LATCH else (nth L.safe.view n).getLsbD 0

/-- A stop in STO is in force on stage `i`. -/
def LaneSt.stopped (L : LaneSt) (l : Lane) (i : Nat) : Bool :=
  nth L.safe.app i || nth L.safe.mbx i || nth L.safe.viol i || nth L.safe.fold i || L.ownerLatch l i

/-- A stop that needs a reset is in force on stage `i`. -/
def LaneSt.needsReset (L : LaneSt) (l : Lane) (i : Nat) : Bool :=
  nth L.safe.mbx i || nth L.safe.viol i || L.ownerLatch l i

/-- The module state lets a stage be enabled (R58). -/
def LaneSt.enables (L : LaneSt) : Bool := decide (stArm ≤ L.st) && decide (L.st ≤ stFold)

/-- Bring SAFE_STAT, forced OFF and the EN bits up to date; an STO ends an SS1 on its stage (R278, R282). -/
def LaneSt.refreshSafe (L : LaneSt) (l : Lane) : LaneSt :=
  for3 (fun i L =>
    let x := L.stopped l i
    let L := L.updSafe fun s => { s with
      ss1 := setNth s.ss1 i (if x then none else nth s.ss1 i)
      en := setNth s.en i (L.enables && !x) }
    let L := (L.put (Reg.SAFE_STAT_STO_ACT.bit i) x).put (Reg.SAFE_STAT_EXT.bit i) (L.needsReset l i)
    let L := L.put (Reg.SAFE_STAT_SS1_ACT.bit i) (nth L.safe.ss1 i).isSome
    if x then L.put (Reg.SAFE_STAT_FORCED_OFF.bit i) true else L) L

/-- STO inputs of the stages that lane `l` owns follow its latch (R269, R279); a stage in STO has all six off. -/
def State.driveSto (s : State) (l : Lane) : State :=
  let L := s.lane l
  let inp := L.up && !L.on Reg.SAFE_STAT_LATCH
  for3 (fun i s => if L.stoSrc i = laneIx l + 1 then
      { s with stages := updNth s.stages i fun g => { g with stoIn := inp, cmd := if inp then g.cmd else none
                                                             enSeen := g.enSeen && inp } }
    else s) s

/-- EN_PULSE_END (R271, R272): the two periods of EN = 0 have been sent; the lane sends EN = 1 unless a safe stop is in force, in STANDBY
too, where it may only clear latches. In ARM or DRIVE a de-energised stage starts to energise, a latched one once the edge has cleared
its latch. -/
def execEnPulseEnd (l : Lane) (g : Stg) (mv : Int) (s : State) : Out :=
  let L := s.lane l
  let i := stgIx g
  if L.up && nth L.safe.pulse i == 1 then
    let s := s.updLane l fun L => { L with safe := { L.safe with
      pulse := setNth L.safe.pulse i 0, en := setNth L.safe.en i ((L.enables || L.st == stStandby) && !L.stopped l i) } }
    if L.st = stArm ∨ L.st = stDrive then .next (s.updStage g fun g => g.askEnergise mv) else .next s
  else .next s

/-! ## STO_x (R279) -/

/-- Count at which the latch sets, ns. -/
abbrev stoLimit : Nat := 1100000

/-- The filter counter at `t`. -/
def LaneSt.stoCount (L : LaneSt) (t : Nat) : Nat :=
  let dt := t - L.safe.lineSince
  if L.safe.high then L.safe.filter - dt / 4 else min stoLimit (L.safe.filter + dt)

/-- The line's level from `t` on, with the counter at `c`. -/
def LaneSt.stoLine (L : LaneSt) (high : Bool) (c t : Nat) : LaneSt :=
  (L.put Reg.SAFE_STAT_LINE high).updSafe fun s => { s with high := high, filter := c, lineSince := t }

/-- The counter after the line has been low for `us` up to `t`. -/
def LaneSt.stoAfter (L : LaneSt) (us t : Nat) : Nat :=
  if L.safe.high then min stoLimit (L.stoCount (t - us * 1000) + us * 1000) else L.stoCount t

/-- Set the latch: 0x0481. -/
def LaneSt.setLatch (L : LaneSt) (l : Lane) : LaneSt :=
  if L.on Reg.SAFE_STAT_LATCH then L else ((L.put Reg.SAFE_STAT_LATCH true).raise 0x0481).refreshSafe l

/-- A command on one powered lane after which the stages it owns follow its latch. -/
def onLaneSto (l : Lane) (t : Nat) (s : State) (f : LaneSt → LaneSt) : Out :=
  .next ((s.updLane l fun L => if L.up then f (L.tick t) else L).driveSto l)

/-- STO_LATCH_SET: the line has been low for `lowUs` and the counter has reached 1.10 ms. -/
def execStoLatchSet (l : Lane) (lowUs t : Nat) (s : State) : Out :=
  onLaneSto l t s fun L =>
    let c := L.stoAfter lowUs t
    let L := L.stoLine false c t
    if stoLimit ≤ c then L.setLatch l else L

/-- STO_TEST_PULSE: a low of `lowUs` ends at `t`; below the limit it is a tolerated pulse. -/
def execStoTestPulse (l : Lane) (lowUs t : Nat) (s : State) : Out :=
  onLaneSto l t s fun L =>
    let c := L.stoAfter lowUs t
    let L := L.stoLine true c t
    if stoLimit ≤ c then L.setLatch l else L.inc Reg.SAFE_CNT_PULSES

/-! ## Requests (R276, R277, R280, R288) -/

/-- Key of SAFE_REQ. -/
abbrev safeKey : BitVec 16 := 0xC3A5#16

/-- Stages of an SS1 request: all three in TRIPLEX (R277). -/
def LaneSt.ss1Stages (L : LaneSt) (m : Nat) : Nat := if L.axle || m == 0 then m else 7

/-- Ask for an SS1; it takes effect at a vote completion. -/
def LaneSt.askSs1 (L : LaneSt) (src : StopSrc) (m : Nat) : LaneSt :=
  L.updSafe fun s => { s with ss1Req := s.ss1Req ++ [(src, BitVec.ofNat 3 (L.ss1Stages m))] }

/-- SAFE_REQ_STO. -/
def execSafeReqSto (l : Lane) (key : BitVec 16) (mask : BitVec 3) (s : State) : Out :=
  onLaneNow l s fun L =>
    if key = safeKey then (L.updSafe fun s => { s with app := setMask s.app mask.toNat true }).refreshSafe l
    else L.refuseWrite

/-- SAFE_REQ_SS1. -/
def execSafeReqSs1 (l : Lane) (key : BitVec 16) (mask : BitVec 3) (s : State) : Out :=
  onLaneNow l s fun L => if key = safeKey then L.askSs1 .app mask.toNat else L.refuseWrite

/-- The application's SS1 on the stages of `m` ends. -/
def LaneSt.dropSs1 (L : LaneSt) (m : Nat) : LaneSt :=
  for3 (fun i L => match nth L.safe.ss1 i with
    | some x => if bitN m i && x.src == .app then L.updSafe fun s => { s with ss1 := setNth s.ss1 i none } else L
    | none => L) L

/-- SAFE_REQ_CLR: the application's requests on the named stages clear. -/
def execSafeReqClr (l : Lane) (key : BitVec 16) (mask : BitVec 3) (s : State) : Out :=
  onLaneNow l s fun L =>
    if key = safeKey then
      let keep := (L.safe.ss1Req.map fun r => if r.1 = .app then (r.1, r.2 &&& ~~~mask) else r).filter fun r => r.2 != 0
      ((L.updSafe fun s => { s with app := setMask s.app mask.toNat false, ss1Req := keep }).dropSs1 mask.toNat).refreshSafe l
    else L.refuseWrite

/-! ## The envelope (R280 to R283) -/

/-- The SS1 of a FOLD that was entered from an unresolved conflict, or in which one lane votes: it goes by the observer of the stage that
the lane holds (R283). -/
def LaneSt.ss1Alone (L : LaneSt) (src : StopSrc) : Bool :=
  L.st == stFold && src == .fold && (L.safe.lone || [1, 2, 4].contains (L.rd Reg.AGR_STAT_VOTERS))

/-- The stage whose observer stands for stage `i` in such a SS1: itself, or in TRIPLEX, where the motor is one, one that the lane holds. -/
def LaneSt.heldFor (L : LaneSt) (l : Lane) (i : Nat) : Option Nat :=
  let m := L.holds l
  if bitN m i then some i else if L.axle then none else [0, 1, 2].find? (bitN m ·)

/-- Speed of the envelope of stage `i` in 0.1 Hz, none when agreed invalid, or when the observer has no lock (R280, R283). -/
def LaneSt.ss1Speed (L : LaneSt) (l : Lane) (i : Nat) (src : StopSrc) : Option Int :=
  if L.ss1Alone src then
    match L.heldFor l i with
    | some j => if (L.cst j).lastMode = 1 ∧ L.rd (Reg.COM_STG_STAT_OBS j) = 0 then some (L.rdS (Reg.COM_OBS_SPEED j)) else none
    | none => none
  else if L.axle then
    let f := L.rd (Reg.COM_AXLE_CFG_SPD_FIELD i)
    if L.agreedOk f then some ((L.rdS (Reg.AGR_VEC_VALUE f) * 10).tdiv 65536) else none
  else if L.agreedOk 6 then some (L.rdS (Reg.AGR_VEC_VALUE 6)) else none

/-- limit(t) of R280 times 10^8, in 0.1 Hz; `dt` in ns. -/
def LaneSt.ss1Limit (L : LaneSt) (v0 : Int) (dt : Nat) : Int :=
  let fall : Int := (L.rd Reg.SAFE_SS1_CFG_DECEL * (dt - L.rd Reg.SAFE_SS1_CFG_DELAY * 1000000) : Nat)
  max (((absN v0 + 10 * L.rd Reg.SAFE_SS1_CFG2_MARGIN : Nat) : Int) * 100000000 - fall)
    (L.rd Reg.SAFE_SS1_CFG2_VSTOP * 100000000 : Nat)

/-- End an SS1 in STO, latched as a violation. -/
def LaneSt.violate (L : LaneSt) (i : Nat) : LaneSt :=
  L.updSafe fun s => { s with viol := setNth s.viol i true, ss1 := setNth s.ss1 i none }

/-- What the envelope says of stage `i` at a vote: 0 nothing, 1 violation, 2 speed invalid, 3 no observer speed where R283 needs it. -/
def LaneSt.ss1Check (L : LaneSt) (l : Lane) (i : Nat) : Nat :=
  match nth L.safe.ss1 i with
  | none => 0
  | some x =>
    match L.ss1Speed l i x.src with
    | none => if L.ss1Alone x.src then 3 else 2
    | some v => if L.ss1Limit x.v0 (L.time - x.t0) < (absN v * 100000000 : Nat) then 1 else 0

/-- Standstill count and SAFE_SS1_STAT of stage `i`. -/
def LaneSt.ss1Note (L : LaneSt) (l : Lane) (i : Nat) : LaneSt :=
  match nth L.safe.ss1 i with
  | none => L
  | some x =>
    let still := match L.ss1Speed l i x.src with
      | some v => if absN v ≤ L.rd Reg.SAFE_SS1_CFG2_VSTOP then x.still + 1 else 0
      | none => 0
    let L := L.updSafe fun s => { s with ss1 := setNth s.ss1 i (some { x with still := still }) }
    (L.wr Reg.SAFE_SS1_STAT_LIMIT (min (L.ss1Limit x.v0 (L.time - x.t0) / 100000000).toNat 0xFFFF)).wr
      Reg.SAFE_SS1_STAT_ELAPSED (min ((L.time - x.t0) / 1000000) 0xFFFF)

/-- Start the SS1 that a request names on stage `i`: not in STO, no SS1 running (R282). -/
def LaneSt.ss1Start (L : LaneSt) (l : Lane) (src : StopSrc) (i : Nat) : LaneSt :=
  if L.stopped l i || (nth L.safe.ss1 i).isSome then L
  else
    let v0 := (L.ss1Speed l i src).getD 0
    L.updSafe fun s => { s with ss1 := setNth s.ss1 i (some { src := src, t0 := L.time, v0 := v0, still := 0 }) }

/-- Requests that have waited for this vote completion (R280). -/
def LaneSt.ss1Begin (L : LaneSt) (l : Lane) : LaneSt :=
  let q := L.safe.ss1Req
  let L := L.updSafe fun s => { s with ss1Req := [] }
  q.foldl (fun L r => for3 (fun i L => if r.2.getLsbD i then L.ss1Start l r.1 i else L) L) L

/-- The stop that an SS1 of a source ends in, cleared as its source (R281). -/
def LaneSt.endAsSource (L : LaneSt) (i : Nat) (src : StopSrc) : LaneSt :=
  L.updSafe fun s =>
    let s := { s with ss1 := setNth s.ss1 i none }
    match src with
    | .app => { s with app := setNth s.app i true }
    | .mbx => { s with mbx := setNth s.mbx i true }
    | .fold => { s with fold := setNth s.fold i true }

/-- Safe stop at a vote completion (R280, R281, R283): requests start, envelopes are checked. -/
def LaneSt.safeVote (L : LaneSt) (l : Lane) : LaneSt :=
  let L := L.ss1Begin l
  let c := (⟨L.ss1Check l 0, L.ss1Check l 1, L.ss1Check l 2⟩ : Tri Nat)
  let L := for3 (fun i L => L.ss1Note l i) L
  let L := for3 (fun i L => match nth c i with
    | 0 => L
    | 3 => L.endAsSource i .fold
    | _ => L.violate i) L
  let L := L.raiseIf ((triList c).contains 1) 0x0482
  let L := L.raiseIf ((triList c).contains 2) 0x0485
  (L.put Reg.SAFE_STAT_LINE L.safe.high).refreshSafe l

/-- SS1_STANDSTILL (R281): at or below VSTOP in every slot for 10 ms, 200 slots. -/
def execSs1Standstill (l : Lane) (t : Nat) (s : State) : Out :=
  onLane l t s fun L =>
    (for3 (fun i L => match nth L.safe.ss1 i with
      | some x => if 200 ≤ x.still then L.endAsSource i x.src else L
      | none => L) L).refreshSafe l

/-- The SS1 of stage `i` has run for TMAX. -/
def LaneSt.ss1Late (L : LaneSt) (i t : Nat) : Bool :=
  match nth L.safe.ss1 i with
  | some x => decide (x.t0 + L.rd Reg.SAFE_SS1_CFG2_TMAX * 1000000 ≤ t)
  | none => false

/-- SS1_TIMEOUT (R281): TMAX without standstill: STO, latched, 0x0483. -/
def execSs1Timeout (l : Lane) (t : Nat) (s : State) : Out :=
  onLane l t s fun L =>
    let late := mask3 fun i => L.ss1Late i t
    if late = 0 then L
    else ((for3 (fun i L => if bitN late i then L.violate i else L) L).raise 0x0483).refreshSafe l

/-- An SS1 of a FOLD that is undone ends (R61). -/
def LaneSt.dropFoldSs1 (L : LaneSt) : LaneSt :=
  let keep := fun (x : Option Ss1) => match x with
    | some y => if y.src == .fold then none else x
    | none => none
  L.updSafe fun s => { s with ss1 := ⟨keep s.ss1.a, keep s.ss1.b, keep s.ss1.c⟩ }

/-! ## Reset (R284, R285) -/

/-- SAFE_ACK_EDGE: qualifies after 10 ms of low, counted from the lane's start. -/
def execSafeAckEdge (l : Lane) (lowUs t : Nat) (s : State) : Out :=
  onLane l t s fun L =>
    if 10000 ≤ lowUs ∧ L.safe.laneStart + 10000000 ≤ t then L.updSafe fun s => { s with ackEdge := some t }
    else L.updSafe fun s => { s with ackEdge := none }

/-- What lane `l` does for a qualified edge or mailbox confirm: clear the latch if STO_x is high and the counter 0, else
0x0484; reset pending for 200 ms. -/
def LaneSt.resetEdge (L : LaneSt) (l : Lane) (stoHigh : Bool) (t : Nat) : LaneSt :=
  let L := if stoHigh && L.stoCount t == 0 then L.put Reg.SAFE_STAT_LATCH false
    else (L.inc Reg.SAFE_CNT_REJECTED).raise 0x0484
  ((L.put Reg.SAFE_STAT_RESET_PEND true).updSafe fun s => { s with pendAt := t, ackEdge := none, acted := false }).refreshSafe l

/-- SAFE_ACK_QUALIFIED: high for 10 ms after the edge. -/
def execSafeAckQualified (l : Lane) (highUs : Nat) (stoHigh : Bool) (t : Nat) (s : State) : Out :=
  onLaneSto l t s fun L =>
    if L.safe.ackEdge.any (fun e => decide (e + 10000000 ≤ t)) ∧ 10000 ≤ highUs then L.resetEdge l stoHigh t else L

/-- RESET_PENDING_EXPIRY: 200 ms. -/
def execResetPendingExpiry (l : Lane) (t : Nat) (s : State) : Out :=
  onLane l t s fun L =>
    if L.on Reg.SAFE_STAT_RESET_PEND ∧ L.safe.pendAt + 200000000 ≤ t then L.put Reg.SAFE_STAT_RESET_PEND false else L

/-- All three stages are in STO, or have no accepted lane. -/
def LaneSt.allStopped (L : LaneSt) (l : Lane) : Bool := [0, 1, 2].all fun i => L.stopped l i || !L.stageLive i

/-- A reset acts (R285): it clears what needs it, and the application's requests, on every stage already in STO. -/
def LaneSt.actReset (L : LaneSt) (l : Lane) : LaneSt :=
  if L.safe.acted then L
  else
    let L := for3 (fun i L => if L.stopped l i then L.updSafe fun s => { s with
        app := setNth s.app i false, mbx := setNth s.mbx i false, viol := setNth s.viol i false } else L) L
    ((L.inc Reg.SAFE_CNT_RESETS).updSafe fun s => { s with acted := true }).refreshSafe l

/-- Bits [11:8] of field 0 (R278). -/
def LaneSt.safeBits (L : LaneSt) : Nat :=
  (if L.on Reg.SAFE_STAT_LATCH then 1 else 0) + (if L.on Reg.SAFE_STAT_RESET_PEND then 2 else 0) +
  (if L.rd Reg.SAFE_STAT_SS1_ACT ≠ 0 then 4 else 0) + (if L.safe.viol.a || L.safe.viol.b || L.safe.viol.c then 8 else 0)

end Sys2Proof.Machine
end

