-- ==== Sys2Proof/Machine/Agree.lean ====
section
/-! DEFINITION. Lane agreement (06): messages, the vote of a field, resync. The round itself is in Vote.lean. -/
namespace Sys2Proof.Machine

/-- Change the agreement unit. -/
def LaneSt.updAgr (L : LaneSt) (f : AgrSt → AgrSt) : LaneSt := { L with agr := f L.agr }

/-! ## Pair keys and tags (R143, R417) -/

/-- Index of the link between two lanes: 0 A-B, 1 B-C, 2 C-A. -/
def linkIx (a b : Nat) : Nat := if a + b = 1 then 0 else if a + b = 3 then 1 else 2

/-- The name of a pair of lanes: "AB", "BC" or "CA". -/
def pairName (a b : Nat) : List Byte := [[0x41#8, 0x42#8], [0x42#8, 0x43#8], [0x43#8, 0x41#8]].getD (linkIx a b) []

/-- pmk of R417: customization "PAIR". -/
def pairMaster (msk : List Byte) (a b : Nat) : List Byte := kmac128 msk (pairName a b) 32 [0x50#8, 0x41#8, 0x49#8, 0x52#8]

/-- lpk of R417: boot counters of the lane with the lower and of that with the higher letter, lifecycle; customization "LPK". -/
def lanePairKey (pmk : List Byte) (bootLo bootHi lc : Nat) : List Byte :=
  kmac128 pmk (leBytes 4 bootLo ++ leBytes 4 bootHi ++ leBytes 1 lc) 32 [0x4C#8, 0x50#8, 0x4B#8]

/-- Bytes 0 to 203 of a message (R142). -/
def msgBytes (m : AgrMsg) : List Byte :=
  let bit := fun (b : Bool) (n : Nat) => if b then n else 0
  leBytes 1 m.version ++ leBytes 1 (laneIx m.lane + 1) ++ leBytes 1 (m.cyc % 32 * 8 + m.slot % 8) ++
  leBytes 1 (bit m.resync 1 + bit m.supplyLoss 2 + bit m.first 4) ++ leBytes 6 m.valid.toNat ++ leBytes 2 m.seq.toNat ++
  (List.range 48).flatMap fun f => wordBytes (m.fields.getD f 0#32)

/-- The message as sent, with both tags (R142). -/
def msgWire (m : AgrMsg) : List Byte := msgBytes m ++ leBytes 8 m.tagLo.toNat ++ leBytes 8 m.tagHi.toNat

/-- Length of a message on the link (R142). -/
abbrev msgLength : Nat := 220

/-- The key that lane `l` shares with lane `o`. -/
def LaneSt.pairKey (L : LaneSt) (l o : Lane) : List Byte :=
  if o = (otherLanes l).1 then L.sec.keys.lpkLo else L.sec.keys.lpkHi

/-- Both tags of a message that the lane sends (R143). -/
def LaneSt.tagged (L : LaneSt) (m : AgrMsg) : AgrMsg :=
  { m with tagLo := tag64 L.sec.keys.lpkLo (msgBytes m) [], tagHi := tag64 L.sec.keys.lpkHi (msgBytes m) [] }

/-- The tag for lane `rx` verifies under the key that it shares with the sender. -/
def LaneSt.verifies (L : LaneSt) (rx : Lane) (m : AgrMsg) : Bool :=
  let key := L.pairKey rx m.lane
  !key.isEmpty && tag64 key (msgBytes m) [] == (if rx = (otherLanes m.lane).1 then m.tagLo else m.tagHi)

/-! ## A lane's message (R142, R146) -/

/-- The source register of a field captured at t0. -/
def LaneSt.srcAddr (L : LaneSt) (f : Nat) : Nat := 0x40000000 + 4 * L.rd (Reg.AGR_FIELD_SRC_ADDR f)

/-- The value behind the source register `a` is valid in this lane: POS and MEAS results by their own flags. -/
def LaneSt.srcValid (L : LaneSt) (a : Nat) : Bool :=
  let src := fun (n : Nat) => L.on (Reg.POS_SRC_STAT_VALID.bit n)
  if inBlock a 0x40050000 then
    match a % 0x10000 with
    | 0x80 | 0x90 | 0xA0 | 0xC0 => src 1
    | 0x84 | 0x94 | 0xA4 | 0xC4 => src 2
    | 0x88 | 0x98 | 0xA8 | 0xB0 => src 0
    | 0xAC | 0xB4 | 0xB8 => !L.on Reg.POS_SRC_STAT_NO_ANGLE
    | 0xD0 | 0xD8 => src 3
    | 0xD4 | 0xDC => src 4
    | 0xE4 => src 5
    | _ => true
  else if inBlock a 0x40040000 then
    let o := a % 0x10000
    if 0x100 ≤ o ∧ o < 0x130 then L.on ((Reg.MEAS_LEG_STAT_LEG ((o - 0x100) / 16) (o % 16 / 4)).bit 0)
    else if 0x340 ≤ o ∧ o < 0x380 then L.on (Reg.MEAS_GP_VALID ((o - 0x340) / 4))
    else if 0x80 ≤ o ∧ o < 0x8C then L.on (Reg.MEAS_VDC_VALID ((o - 0x80) / 4))
    else true
  else true

/-- The own value of an input field: AGR_OWN when SOFT, else the source register as frozen at t0. -/
def LaneSt.inputField (L : LaneSt) (f : Nat) : Word × Bool :=
  if L.on (Reg.AGR_FIELD_CFG_SOFT f) then (L.reg (Reg.AGR_OWN_VALUE f).addr, true)
  else (L.snapReg (L.srcAddr f), L.srcValid (L.srcAddr f))

/-- Digest of the image in force, or of the chosen image (R101); zeros with none. -/
def LaneSt.imageDigest (L : LaneSt) : List Word :=
  match L.nvm.chosen with
  | some b => L.imgDigest b
  | none => List.replicate 8 0#32

/-- The target that the lane carries (R59, R61, R285): in FOLD, STANDBY while a reset is pending, else FOLD or a requested PARK. -/
def LaneSt.carried (L : LaneSt) : Nat :=
  if L.st = stFold then (if L.on Reg.SAFE_STAT_RESET_PEND then stStandby else L.sys.want.getD stFold)
  else if L.sys.fold then stFold
  else L.sys.want.getD (L.rd Reg.SYS_STATE_TARGET)

/-- Mode exchanged for the SP ports in field 4: SP1 in bits [1:0], SP2 in [3:2] (log entry 18). -/
def LaneSt.spModes (L : LaneSt) : Nat := L.spUse 0 + 4 * L.spUse 1

/-- What a message says beyond the lane's own registers. Bits of field 0: CHURN_READY in slot 0 (R313), NET_SEEN (R344), the digest of a
module-addressed command (R398), RIND (R424). -/
structure StateBits where
  ready : Bool
  netSeen : Bool
  digest : Option (BitVec 16)
  rind : Bool
  /-- The lane returns from its Churn slice, in which it posted nothing: its command fields are not valid. -/
  back : Bool

/-- Field 0 (R146, R278). -/
def LaneSt.stateField (L : LaneSt) (b : StateBits) : Word :=
  let bit := fun (x : Bool) (n : Nat) => if x then 2 ^ n else 0
  let d := match b.digest with
    | some d => 0x4000 + d.toNat * 0x10000
    | none => 0
  BitVec.ofNat 32 (L.st + 16 * L.carried + 256 * L.safeBits + bit b.ready 12 + bit b.netSeen 13 + bit b.rind 15 + d)

/-- The internal angle sensor's electrical angle at the slot start: th_cal carried to t0 (R201), turned into an electrical angle as
R214 turns the fused one. -/
def LaneSt.tmrElec (L : LaneSt) : Nat :=
  let th := L.rd Reg.POS_ANGLE_TMR_CAL * 65536 + L.pos.thCal % 65536
  (th * L.rd Reg.POS_FUSE_CFG_PP / 65536 + L.rd Reg.POS_ELEC_OFS_ELEC_OFS) % 65536

/-- Fields and validity of the message for slot `k` of basic cycle `n`; `tok` is TOKEN. SPEED is the speed of stage A's observer, always
sent as valid (log entry 97). -/
def LaneSt.field (L : LaneSt) (n : Nat) (tok : Nat) (b : StateBits) (f : Nat) : Word × Bool :=
  let w := fun (x : Nat) => BitVec.ofNat 32 x
  match f with
  | 0 => (L.stateField b, true)
  | 1 => (w tok, true)
  | 2 => (w n, true)
  | 3 => (if L.nvm.inForce then L.imageDigest.getD (n % 8) 0#32 else 0#32, true)
  | 4 => (w L.spModes, true)
  | 5 => (w L.tmrElec, L.pos.tmrValid)
  | 6 => (w (bitsOf 32 (L.rdS (Reg.COM_OBS_SPEED 0))), true)
  | 7 => (w (L.rd (Reg.MEAS_GP_VALUE 4)), !L.meas.ntcBad && L.on (Reg.MEAS_GP_VALID 4))
  | _ =>
    if f < 36 then (if L.agr.first && f < 16 then (L.imageDigest.getD (f - 8) 0#32, true) else L.inputField f)
    else (if f % 4 == 0 && L.on (Reg.SAFE_STAT_FORCED_OFF.bit ((f - 36) / 4)) then 0#32 else L.com.sent.getD (f - 36) 0#32,
      !L.com.late && !b.back)

/-- The lane's message of a round (R142). A field held invalid (R148) is sent invalid; a missed deadline invalidates the
commands (R25, log entry 18). -/
def LaneSt.message (L : LaneSt) (l : Lane) (t tok : Nat) (b : StateBits) : AgrMsg :=
  let n := cycleOf t
  let fs := (List.range 48).map (L.field n tok b)
  let valid := fs.zipIdx.foldl (fun (v : BitVec 48) p =>
    if p.1.2 && !L.agr.ownInvalid.getLsbD p.2 then v ||| (1#48 <<< p.2) else v) 0#48
  { version := L.rd Reg.AGR_STAT_VERSION, lane := l, cyc := n % 32, slot := slotOf t, resync := L.mode == 2
    supplyLoss := L.pwr.lost, first := L.agr.first, valid := valid, seq := BitVec.ofNat 16 (t / 50000 + L.agr.seqOfs)
    fields := fs.map (·.1), tagLo := 0, tagHi := 0 }

/-! ## Receiving and relaying (R144, R145) -/

/-- Count an error on the link between lane indices `a` and `b`. -/
def LaneSt.linkError (L : LaneSt) (a b : Nat) : LaneSt :=
  L.updAgr fun g => { g with linkErr := updNth g.linkErr (linkIx a b) (· + 1) }

/-- The lane takes part in rounds: CHECKED or in RESYNC (R141), not BLANK (R15), and not between rounds of a rejoin (R344). -/
def LaneSt.inRounds (L : LaneSt) : Bool :=
  L.up && (L.mode == 0 || L.mode == 2) && !L.agr.paused && L.rd Reg.SEC_LC_STATE != 0

/-- A message is of the current round (R14, R142): its SLOT is this lane's, and its SEQ too while this lane votes. -/
def LaneSt.inSequence (L : LaneSt) (m : AgrMsg) : Bool :=
  m.slot == L.rd Reg.AGR_SEQ_SLOT && m.cyc % 32 == cycleOf L.time % 32 &&
  (L.mode != 0 || L.agr.first || m.seq.toNat == L.rd Reg.AGR_SEQ_ROUND)

/-- Keep a verified copy of a message. -/
def LaneSt.keepCopy (L : LaneSt) (relayed : Bool) (m : AgrMsg) : LaneSt :=
  if relayed then L.updAgr fun g => { g with relayed := setNth g.relayed (laneIx m.lane) (some m) }
  else L.updAgr fun g => { g with direct := setNth g.direct (laneIx m.lane) (some m) }

/-- AGREEMENT_MESSAGE (R143 to R145): a direct copy, or one relayed by the third lane, of `len` bytes. A copy received in time counts as
verified when it is of this round and its tag for this lane checks; any other raises 0x0205. What came directly is relayed, verified
or not. -/
def execAgreementMessage (rx : Lane) (relayed : Bool) (m : AgrMsg) (len : Nat) (inTime : Bool) (s : State) : Out :=
  .next (s.updLane rx fun L =>
    if !L.inRounds || m.lane == rx then L
    else if len != msgLength || !inTime then L.raise 0x0205 (laneIx m.lane + 1)
    else
      let L := if relayed then L else L.updAgr fun g => { g with heard := setNth g.heard (laneIx m.lane) (some m) }
      if L.inSequence m && L.verifies rx m then L.keepCopy relayed m else L.raise 0x0205 (laneIx m.lane + 1))

/-- SUBROUND2_RELAY (R144): each message received directly goes to the third lane, byte for byte. -/
def execSubround2Relay (l : Lane) (s : State) : Out :=
  .next (s.updLane l fun L => if L.inRounds then L.updAgr fun g => { g with sent := g.heard } else L)

/-- CATCHUP_FRAME (R153): a copy of the slot-2 vector reaches the absent lane; one whose tag fails raises 0x0205 (R170). -/
def execCatchupFrame (rx : Lane) (m : AgrMsg) (s : State) : Out :=
  .next (s.updLane rx fun L =>
    if L.inRounds && rx != m.lane && L.agr.token == laneIx rx + 1 && L.rd Reg.AGR_SEQ_SLOT == 2 then
      let ok := L.verifies rx m && m.slot == 2 && m.cyc % 32 == cycleOf L.time % 32
      (L.updAgr fun g => { g with catchup := g.catchup ++ [if ok then some m else none] }).raiseIf (!ok) 0x0205 (laneIx m.lane + 1)
    else L)

/-! ## The vote of one field (R147) -/

/-- Outcome of the vote of a field: its value, if valid; lane indices marked as disagreeing; whether it is a conflict of two;
whether it is agreed from one lane. -/
structure FieldVote where
  value : Option Int
  marks : List Nat
  conflict : Bool
  single : Bool

/-- Agreement without marks. -/
def FieldVote.ok (v : Int) : FieldVote := ⟨some v, [], false, false⟩

/-- EXACT. -/
def voteExact (v : List (Nat × Int)) : FieldVote :=
  match v with
  | [(_, a), (_, b)] => if a = b then .ok a else ⟨none, [], true, false⟩
  | [(_, a), (_, b), (_, c)] =>
    let pick := if a = b ∨ a = c then some a else if b = c then some b else none
    match pick with
    | some m => ⟨some m, (v.filter fun x => x.2 ≠ m).map (·.1), false, false⟩
    | none => ⟨none, v.map (·.1), false, false⟩
  | _ => ⟨none, [], false, false⟩

/-- MEDIAN. -/
def voteMedian (v : List (Nat × Int)) : FieldVote :=
  match v with
  | [(_, a), (_, b)] => .ok ((a + b) / 2)
  | [(_, a), (_, b), (_, c)] => .ok (mid3 a b c)
  | _ => ⟨none, [], false, false⟩

/-- MVS with tolerance. -/
def voteMvs (tol : Nat) (v : List (Nat × Int)) : FieldVote :=
  match v with
  | [(_, a), (_, b)] => if absN (a - b) ≤ tol then .ok ((a + b) / 2) else ⟨none, [], true, false⟩
  | [(_, a), (_, b), (_, c)] =>
    let m := mid3 a b c
    ⟨some m, (v.filter fun x => decide (tol < absN (x.2 - m))).map (·.1), false, false⟩
  | _ => ⟨none, [], false, false⟩

/-- vote() of R147 under rule 0 EXACT, 1 MEDIAN, 2 MVS. -/
def voteOf (rule tol : Nat) (v : List (Nat × Int)) : FieldVote :=
  match v with
  | [] => ⟨none, [], false, false⟩
  | [(_, a)] => ⟨some a, [], false, true⟩
  | _ => match rule with
    | 0 => voteExact v
    | 1 => voteMedian v
    | _ => voteMvs tol v

/-- The offset of a modular value from `b`. -/
def modOffset (x b : Int) : Int := signedOf 16 (bitsOf 16 (x - b))

/-- The vote with modular fields taken on offsets (R147). `v` is in lane order. -/
def voteField (rule tol : Nat) (modular : Bool) (v : List (Nat × Int)) : FieldVote :=
  match modular, v with
  | true, (_, b) :: _ =>
    let r := voteOf rule tol (v.map fun x => (x.1, modOffset x.2 b))
    { r with value := r.value.map fun x => (x + b) % 65536 }
  | _, _ => voteOf rule tol v

/-- Rule, tolerance, MOD16 and PREDICT of a field: fixed for fields 0 to 7 and the MODE fields (R146). -/
def LaneSt.fieldRule (L : LaneSt) (f : Nat) : Nat × Nat × Bool × Bool :=
  let tol := L.rd (Reg.AGR_FIELD_CFG_TOL f)
  if f ≤ 4 then (0, 0, false, false)
  else if f = 5 then (2, tol, true, true)
  else if f = 6 then (2, tol, false, true)
  else if f = 36 ∨ f = 40 ∨ f = 44 then (0, 0, false, false)
  else (L.rd (Reg.AGR_FIELD_CFG_RULE f), tol, L.on (Reg.AGR_FIELD_CFG_MOD16 f), L.rd (Reg.AGR_FIELD_CFG_PLAUS f) == 1)

/-- Agreed value of field `f` in the history round `k` rounds back, when valid. -/
def LaneSt.past (L : LaneSt) (k f : Nat) : Option Int :=
  match L.agr.hist[k]? with
  | some r => if r.valid.getLsbD f then some (r.vec.getD f 0#32).toInt else none
  | none => none

/-- PREDICT (R154): the one value within TOL of p, and the lane it sets aside. -/
def predictPick (tol : Nat) (modular : Bool) (v1 v2 : Int) (v : List (Nat × Int)) : Option (Int × List Nat) :=
  let p := 2 * v1 - v2
  let near := fun (x : Nat × Int) => decide ((if modular then absN (modOffset x.2 p) else absN (x.2 - p)) ≤ tol)
  match v.filter near with
  | [x] => some (x.2, (v.filter fun y => y.1 ≠ x.1).map (·.1))
  | _ => none

/-- Settle a conflict of two (R147, R152, R154): `voters` lanes vote, `absent` tells whether the third is absent. The last
component is whether it stays unresolved; the one before, whether the field was held. -/
def LaneSt.settle (L : LaneSt) (f : Nat) (voters : Nat) (absent : Bool) (v : List (Nat × Int)) (r : FieldVote) :
    FieldVote × Bool × Bool :=
  let (_, tol, m, pre) := L.fieldRule f
  if !r.conflict then (r, false, false)
  else if voters = 3 then ({ r with conflict := false }, false, false)
  else
    let pick := match pre, L.past 0 f, L.past 1 f with
      | true, some v1, some v2 => predictPick tol m v1 v2 v
      | _, _, _ => none
    match pick with
    | some (x, marks) => (⟨some x, marks, false, false⟩, false, false)
    | none => if absent then (⟨L.past 0 f, [], false, false⟩, true, false) else (r, false, true)

/-! ## Resync (R155 to R160) -/

/-- Number of other lanes that vote. -/
def LaneSt.otherVoters (L : LaneSt) (l : Lane) : Nat :=
  ((List.range 3).filter fun i => i != laneIx l && L.on (Reg.SYS_STATE_VOTING.bit i)).length

/-- Voting lanes whose packages a resync needs: two in ARM, DRIVE and FOLD, one in STANDBY (R160). -/
def LaneSt.sendersNeeded (L : LaneSt) : Nat := if L.st = stStandby then 1 else 2

/-- The bytes of the application section (R156). -/
def LaneSt.appSection (L : LaneSt) : List Byte :=
  L.bytes (4 * L.rd Reg.AGR_RSYNC_APP_ADDR) (min (L.rd Reg.AGR_RSYNC_LEN_LEN) 10240)

/-- The observer of stage `i` as the package carries it (R156). -/
def LaneSt.packObs (L : LaneSt) (i : Nat) : List Int :=
  let c := L.cst i
  let opt := fun (x : Option Int) => match x with
    | some v => [1, v]
    | none => [0, 0]
  [c.emf] ++ opt c.ih ++ opt (c.resid.map fun n => (n : Int)) ++ [(c.overRun : Int), (c.underRun : Int)] ++ opt (c.coast.map fun n => (n : Int)) ++
  [c.coastSpeed, c.dist, L.rd (Reg.COM_OBS_ANGLE i), L.rdS (Reg.COM_OBS_SPEED i), L.rd (Reg.COM_STG_STAT_OBS i),
    c.obsAt]

/-- Take over the observer of stage `i`. -/
def LaneSt.unpackObs (L : LaneSt) (i : Nat) (x : List Int) : LaneSt :=
  let g := fun (n : Nat) => x.getD n 0
  let opt := fun (n : Nat) => if g n = 0 then none else some (g (n + 1))
  let L := L.updCom i fun c => { c with
    emf := g 0, ih := opt 1, resid := (opt 3).map Int.toNat, overRun := (g 5).toNat, underRun := (g 6).toNat
    coast := (opt 7).map Int.toNat, coastSpeed := g 9, dist := g 10, obsAt := (g 14).toNat }
  ((L.wr (Reg.COM_OBS_ANGLE i) (g 11).toNat).wrS (Reg.COM_OBS_SPEED i) (g 12)).wr (Reg.COM_STG_STAT_OBS i) (g 13).toNat

/-- Regulator and edge state of stage `i` as the package carries it (R156): the integrators, duty, angle, flux, and a transfer in
progress. -/
def LaneSt.packReg (L : LaneSt) (i : Nat) : List Int :=
  let c := L.cst i
  [c.acc, c.duty, c.theta, c.lastMode, c.psiA, c.psiB, c.dtcT, if c.dtcF then 1 else 0] ++
  match c.transfer with
  | some x => [x.centre, x.span, x.profile, x.sigma, x.into, x.accOut, x.accIn, x.dOut, x.dIn, x.x]
  | none => []

/-- Take over regulator and edge state of stage `i`. -/
def LaneSt.unpackReg (L : LaneSt) (i : Nat) (x : List Int) : LaneSt :=
  let g := fun (n : Nat) => x.getD n 0
  let tr : Option Transfer :=
    if x.length < 18 then none
    else some { centre := g 8, span := (g 9).toNat, profile := (g 10).toNat, sigma := g 11, into := (g 12).toNat, accOut := g 13
                accIn := g 14, dOut := g 15, dIn := g 16, x := g 17 }
  L.updCom i fun c => { c with
    acc := g 0, duty := (g 1).toNat, theta := (g 2).toNat, lastMode := (g 3).toNat, psiA := g 4, psiB := g 5, dtcT := g 6
    dtcF := g 7 != 0, transfer := tr }

/-- The package that voting lane `l` copies at n_r for the lane `o` (R156). -/
def LaneSt.package (L : LaneSt) (l o : Lane) (nr : Nat) : Package :=
  let app := L.appSection
  let g := L.agr
  { version := L.rd Reg.AGR_STAT_VERSION, sender := l, target := o, nr := nr, length := 5448 + app.length
    ext := ⟨BitVec.ofInt 64 L.pos.encExt, BitVec.ofInt 64 L.pos.hallExt, BitVec.ofInt 64 L.pos.tmrExt⟩, wraps := L.pos.wraps
    observer := ⟨L.packObs 0, L.packObs 1, L.packObs 2⟩, regulator := ⟨L.packReg 0, L.packReg 1, L.packReg 2⟩
    learned := L.com.pending, churn := [g.token, if g.ready.a then 1 else 0, if g.ready.b then 1 else 0, if g.ready.c then 1 else 0]
    seq := BitVec.ofNat 16 (L.rd Reg.AGR_SEQ_ROUND), odd := triList g.disCmd ++ triList g.disTgt ++ triList g.missed, marks := g.disIn
    app := app }

/-- Copy packages for the lanes that do not vote. -/
def LaneSt.copyPackages (L : LaneSt) (l : Lane) (nr : Nat) : LaneSt :=
  for3 (fun i L => if i != laneIx l && !L.on (Reg.SYS_STATE_VOTING.bit i) then
      L.updAgr fun g => { g with copied := setNth g.copied i (some (L.package l (laneOf i) nr)) } else L) L

/-- RESYNC_POINT (R155, R160): at a basic-cycle boundary a voting lane copies its packages. A lane in RESYNC starts receiving at the
first one after the cycle in which it first sent RESYNC, or waits for senders; after a failure at the first one that RESYNC_RETRY
allows. -/
def execResyncPoint (l : Lane) (nr : Nat) (s : State) : Out :=
  onLaneNow l s fun L =>
    if nr ≠ cycleOf L.time then L
    else if L.mode = 0 then L.copyPackages l nr
    else
      let phase := L.rd Reg.AGR_RSYNC_PHASE
      let sent := match L.agr.rsyncSent with
        | some c => decide (c < nr)
        | none => false
      if L.mode = 2 ∧ (phase = 1 ∨ phase = 6) ∧ L.agr.retryAt.isNone ∧ sent = true then
        if L.sendersNeeded ≤ L.otherVoters l then
          (L.wr Reg.AGR_RSYNC_PHASE 2).updAgr fun g => { g with nr := some nr, pkg := .all none }
        else L.wr Reg.AGR_RSYNC_PHASE 6
      else L

/-- Failed attempts of the last 10 s. -/
def LaneSt.recentFails (L : LaneSt) (t : Nat) : List Nat := L.agr.fails.filter fun u => decide (t ≤ u + 10000000000)

/-- A resync attempt fails with a reason code (R159): 0x0207; the third failure within 10 s locks the lane out. -/
def LaneSt.resyncFail (L : LaneSt) (code t : Nat) : LaneSt :=
  let fails := t :: L.recentFails t
  let L := ((L.wr Reg.AGR_RSYNC_REASON code).wr Reg.AGR_RSYNC_FAILS (min fails.length 3)).raise 0x0207
  let L := (L.resetControl.wr Reg.AGR_RSYNC_PHASE 1).updAgr fun g =>
    { g with fails := fails, retryAt := some (t + 10000000), nr := none, pkg := .all none, caughtUp := false, shadow := 0 }
  if 3 ≤ fails.length then ((L.put Reg.AGR_RSYNC_LOCKOUT true).raise 0x0208).goSilent else L

/-- Take over the turn count of the TMR extension, and align those of ENC and HALL to it through the fused angle (R204). The turn count
is the one whose angle, with the lane's own fraction of a turn, lies nearest the extension received. -/
def LaneSt.alignExtensions (L : LaneSt) (ext : BitVec 64) : LaneSt :=
  let e := ext.toInt
  let own := L.pos.tmrExt
  let now := e + signedOf 16 (bitsOf 16 (own - e))
  let turn := now / 65536
  let fused : Int := (L.rd Reg.POS_ANGLE_FUSED_ANGLE : Nat)
  let align := fun (n : Nat) => turn * n + fused * n / 0x100000000
  L.updPos fun p => { p with
    tmrExt := now, tmrHist := p.tmrHist.map (· + (now - own)), encExt := align L.cpr, hallExt := align (6 * L.rd Reg.POS_FUSE_CFG_PP) }

/-- Restore what the packages carry (R155, R156, R204). The consecutive-round counts are not overwritten: the lane has counted every
round since n_r itself. -/
def LaneSt.restorePackage (L : LaneSt) (p : Package) (t : Nat) : LaneSt :=
  let L := L.alignExtensions p.ext.c
  let L := for3 (fun i L => (L.unpackObs i (nth p.observer i)).unpackReg i (nth p.regulator i)) L
  let L := L.setBytes (4 * L.rd Reg.AGR_RSYNC_APP_ADDR) (p.app.take 10240)
  let L := p.learned.foldl (fun L e => L.setReg e.1 e.2) { L with com := { L.com with pending := p.learned } }
  let L := L.wr Reg.COM_MAP_STAT_PENDING p.learned.length
  (L.wr Reg.AGR_RSYNC_PHASE 3).updAgr fun g => { g with
    token := p.churn.getD 0 0, seqOfs := (p.seq.toNat + 65536 - 5 * p.nr % 65536) % 65536, pkgAt := t, caughtUp := false }

/-- Two packages are identical in every byte other than SENDER, digest and tag (R157). -/
def samePackage (p q : Package) : Bool := { p with sender := q.sender } == q

/-- Check the packages once every sender's is there (R157). In STANDBY the lane awaits those of all voting lanes (log entry 98). -/
def LaneSt.checkPackages (L : LaneSt) (l : Lane) (t : Nat) : LaneSt :=
  let got := (triList L.agr.pkg).filterMap id
  if got.length < max L.sendersNeeded (L.otherVoters l) then L
  else
    match got with
    | [] => L
    | p :: rest =>
      if rest.any fun q => !samePackage q p then L.resyncFail 0x02 t
      else if p.version ≠ L.rd Reg.AGR_STAT_VERSION then L.resyncFail 0x06 t
      else L.restorePackage p t

/-- RESYNC_PACKAGE (R157): a package from lane `tx`. A tag or digest that fails is also a link error (R170). -/
def execResyncPackage (l tx : Lane) (p : Package) (tagOk digestOk : Bool) (t : Nat) (s : State) : Out :=
  onLane l t s fun L =>
    if L.mode = 2 ∧ L.rd Reg.AGR_RSYNC_PHASE = 2 ∧ tx ≠ l ∧ p.sender = tx ∧ p.target = l ∧ L.agr.nr = some p.nr then
      if p.nr * 250000 + 1000000 < t then L.resyncFail 0x01 t
      else if !tagOk || !digestOk then (L.raise 0x0205 (laneIx tx + 1)).resyncFail 0x03 t
      else (L.updAgr fun g => { g with pkg := setNth g.pkg (laneIx tx) (some p) }).checkPackages l t
    else L

/-- RESYNC_PACKAGE_TIMEOUT (R159): not complete within 1 ms of n_r. -/
def execResyncPackageTimeout (l : Lane) (t : Nat) (s : State) : Out :=
  onLane l t s fun L =>
    match L.agr.nr with
    | some n =>
      if L.mode = 2 ∧ L.rd Reg.AGR_RSYNC_PHASE = 2 ∧ n * 250000 + 1000000 ≤ t then L.resyncFail 0x01 t else L
    | none => L

/-- CATCHUP_COMPLETE (R155, R158): every round since n_r is replayed; a round no longer among the last 64 is an overrun, and so is more
than 2 ms since the last package (log entry 99). Shadowing begins at the next basic-cycle boundary. -/
def execCatchupComplete (l : Lane) (t : Nat) (s : State) : Out :=
  onLane l t s fun L =>
    match L.agr.nr with
    | some n =>
      if L.mode = 2 ∧ L.rd Reg.AGR_RSYNC_PHASE = 3 then
        if n * 250000 + 64 * 50000 < t ∨ L.agr.pkgAt + 2000000 < t then L.resyncFail 0x04 t
        else L.updAgr fun g => { g with caughtUp := true }
      else L
    | none => L

/-- Resync at a basic-cycle boundary: failures older than 10 s no longer count, shadowing begins or goes on (R155, R159, R171). -/
def LaneSt.resyncCycle (L : LaneSt) : LaneSt :=
  let fails := L.recentFails L.time
  let L := (L.updAgr fun g => { g with fails := fails, shadow := g.shadow - 1 }).wr Reg.AGR_RSYNC_FAILS (min fails.length 3)
  if L.mode = 2 ∧ L.rd Reg.AGR_RSYNC_PHASE = 3 then
    if L.agr.caughtUp then
      (L.wr Reg.AGR_RSYNC_PHASE 4).updAgr fun g => { g with caughtUp := false, shadow := 8, shadowDis := 0, shadowTgt := 0 }
    else if L.agr.pkgAt + 2000000 < L.time then L.resyncFail 0x04 L.time
    else L
  else L

/-- SHADOWING_END (R155, R167): after 8 basic cycles the lane is CHECKED, votes and presents claims; its unhealthy flags at the
stages clear. -/
def execShadowingEnd (l : Lane) (t : Nat) (s : State) : Out :=
  let L := s.lane l
  if L.up ∧ L.mode = 2 ∧ L.rd Reg.AGR_RSYNC_PHASE = 4 ∧ L.agr.shadow = 0 then
    let s := s.updLane l fun L =>
      let L := ((L.tick t).wr Reg.AGR_RSYNC_PHASE 5).wr Reg.SYS_STATE_LANE_MODE 0
      let L := L.put (Reg.SYS_STATE_VOTING.bit (laneIx l)) true
      (L.updAgr fun g => { g with nr := none, rsyncSent := none, ownInvalid := 0 }).driveFaultX.refreshClaims l
    let clear := fun (g : StageSt) => { g with unhealthy := setNth g.unhealthy (laneIx l) false }
    .next { s with stages := ⟨clear s.stages.a, clear s.stages.b, clear s.stages.c⟩ }
  else .next s

/-- RESYNC_RETRY (R159): the next attempt, 10 ms or more after the failure. -/
def execResyncRetry (l : Lane) (t : Nat) (s : State) : Out :=
  onLane l t s fun L =>
    match L.agr.retryAt with
    | some u => if u ≤ t ∧ L.mode = 2 ∧ !L.on Reg.AGR_RSYNC_LOCKOUT then L.updAgr fun g => { g with retryAt := none } else L
    | none => L

/-! ## Protocol versions at boot (R108) -/

/-- Highest version common to two ranges. -/
def shared (a b : Nat × Nat) : Option Nat :=
  let lo := max a.1 b.1
  let hi := min a.2 b.2
  if lo ≤ hi then some hi else none

/-- Version in force among lanes that start together, from the ranges known (R108). -/
def settleVersion (r : List (Nat × Nat)) : Option Nat :=
  match r with
  | [a] => some a.2
  | [a, b] => shared a b
  | [a, b, c] =>
    match shared (max a.1 b.1, min a.2 b.2) c with
    | some v => some v
    | none =>
      let p := [shared a b, shared a c, shared b c].filterMap id
      p.head?.map fun x => p.foldl max x
  | _ => none

/-- Enter the version in force; a lane whose range does not contain it stays out with 0x0209 (R91). -/
def LaneSt.takeVersion (L : LaneSt) (v : Option Nat) : LaneSt :=
  match v with
  | some v =>
    if L.agr.vmin ≤ v ∧ v ≤ L.agr.vmax then L.wr Reg.AGR_STAT_VERSION v else L.raise 0x0209
  | none => L.raise 0x0209

/-- Lane index `i` has answered the exchange of this start, verified or not. -/
def LaneSt.answered (L : LaneSt) (i : Nat) : Bool := (nth L.agr.ranges i).isSome || nth L.agr.unverified i

/-- A verified exchange of lane `o` completes the pair key with it (R417). -/
def LaneSt.completeKey (L : LaneSt) (l o : Lane) (boot lc : Nat) : LaneSt :=
  let own := L.rd Reg.SEC_BOOTCNT_COUNT
  let key := fun (pmk : List Byte) => if laneIx l < laneIx o then lanePairKey pmk own boot lc else lanePairKey pmk boot own lc
  if o = (otherLanes l).1 then
    (L.put Reg.SEC_KEY_STAT_PAIR_LO true).updKeys fun k => { k with lpkLo := key k.pmkLo }
  else (L.put Reg.SEC_KEY_STAT_PAIR_HI true).updKeys fun k => { k with lpkHi := key k.pmkHi }

/-- The decision of R108, once both partners have answered or no answer is awaited any longer. -/
def LaneSt.decideVersion (L : LaneSt) (l : Lane) (done : Bool) : LaneSt :=
  let (a, b) := otherLanes l
  if nth L.agr.unverified (laneIx a) && nth L.agr.unverified (laneIx b) then L.raise 0x0209
  else if done || (L.answered (laneIx a) && L.answered (laneIx b)) then
    L.takeVersion (settleVersion ((triList (setNth L.agr.ranges (laneIx l) (some (L.agr.vmin, L.agr.vmax)))).filterMap id))
  else L

/-- VERSION_EXCHANGE (R108, R417): a partner's range, boot counter and lifecycle; `tagOk` tells whether its tag verifies under the pair
key that results, which needs the partner's lifecycle to be this lane's and a module secret. `inForce` is the version of lanes that
vote already; `done` tells that no further answer is awaited. A lane that verifies neither partner's has no common version. -/
def execVersionExchange (l other : Lane) (vmin vmax boot lc : Nat) (tagOk : Bool) (inForce : Option Nat) (done : Bool) (s : State) : Out :=
  onLinkedNow l s fun L =>
    let i := laneIx other
    if other = l then L
    else if !tagOk || lc != L.rd Reg.SEC_LC_STATE || !L.on Reg.SEC_KEY_STAT_MSK then
      let L := L.updAgr fun g => { g with unverified := setNth g.unverified i true, ranges := setNth g.ranges i none }
      L.decideVersion l done
    else
      let L := (L.completeKey l other boot lc).updAgr fun g => { g with
        unverified := setNth g.unverified i false, ranges := setNth g.ranges i (some (vmin, vmax))
        boots := setNth g.boots i (some boot), lcs := setNth g.lcs i (some lc) }
      match inForce with
      | some v => L.takeVersion (some v)
      | none => L.decideVersion l done

end Sys2Proof.Machine
end

