-- ==== Sys2Proof/Machine/Keeper.lean ====
section
/-! DEFINITION. Flock time keepers and the lane's Flock engine (14). Global times are in ns; a deviation is t_rx − TX_TIME −
1.25 ns × CORR, cut to whole ns toward zero. -/
namespace Sys2Proof.Machine

abbrev kListen : Nat := 0
abbrev kCold : Nat := 1
abbrev kIntegrate : Nat := 2
abbrev kSynced : Nat := 3
abbrev kPassive : Nat := 4
abbrev kRejoin : Nat := 5

/-- Change the lane's Flock engine, or its keeper. -/
def LaneSt.updFlk (L : LaneSt) (f : FlkSt → FlkSt) : LaneSt := { L with flk := f L.flk }
def LaneSt.updKeeper (L : LaneSt) (f : KeeperSt → KeeperSt) : LaneSt :=
  { L with flk := { L.flk with keeper := f L.flk.keeper } }

/-- The entry that a frame's WINDOW field names on its channel. -/
def frWin (f : FlockFrame) (sched : Cells Word) : Win := winOf sched f.chY (f.matrix % 64) (f.window % 48)

/-- Start of the basic cycle that holds the global time `t`. -/
def cycleStart (t : Nat) : Nat := cycleOf t * 250000

/-- TX_TIME lies within the window the frame names, at its matrix position, ± `margin` ns (R353, R360). -/
def frInWindow (f : FlockFrame) (sched : Cells Word) (margin : Nat) : Bool :=
  let w := frWin f sched
  let c := cycleStart (f.txTime + margin)
  decide (w.typ ≠ 0) && decide (cycleOf (f.txTime + margin) % 64 = f.matrix % 64) &&
  decide (c + w.start * 100 ≤ f.txTime + margin) && decide (f.txTime ≤ c + (w.start + w.len) * 100 + margin)

/-- TX_TIME equals the start of the window the frame names, ± `margin` (R343). -/
def frOnStart (f : FlockFrame) (sched : Cells Word) (margin : Nat) : Bool :=
  let w := frWin f sched
  let c := cycleStart (f.txTime + margin)
  decide (absN ((f.txTime : Int) - ((c + w.start * 100 : Nat) : Int)) ≤ margin)

/-- The window that the frame names permits its sender (R328). -/
def frPermitted (f : FlockFrame) (sched : Cells Word) : Bool :=
  let w := frWin f sched
  decide (w.typ ≠ 0) && (w.typ == wArb || w.sender == f.sender)

/-! ## Frames (R331 to R334) -/

/-- SCHED, SFLAGS of a SYNC, COLDSTART or LOCAL_SYNC payload (R332). -/
def frSched (f : FlockFrame) : BitVec 64 := BitVec.ofNat 64 (leNum ((f.payload.drop 4).take 8))
def frSflags (f : FlockFrame) : Nat := (f.payload.getD 0 0#8).toNat

/-- Bytes 14 to 37 with FLAGS bits 1 and [7:4] and CORR zero, which the tag covers with the payload (R334). -/
def frHead (f : FlockFrame) : List Byte :=
  let b := fun (c : Bool) (n : Nat) => if c then n else 0
  leBytes 1 (16 * f.version + f.typ % 16) ++ leBytes 1 f.sender ++ leBytes 2 (b f.chY 1 + b f.localSync 4 + b f.startup 8) ++
  leBytes 2 (f.window % 64 + 64 * (f.matrix % 64)) ++ leBytes 2 f.payload.length ++ leBytes 8 f.txTime ++ leBytes 4 0 ++
  leBytes 2 f.priority ++ leBytes 2 f.seq

/-- The tag of a frame under a group key (R334). -/
def frTag (key : List Byte) (f : FlockFrame) : BitVec 64 := tag64 key (frHead f ++ f.payload) (ascii "FLK")

/-- The frame with its tag. -/
def sealFrame (key : List Byte) (f : FlockFrame) : FlockFrame := { f with tag := frTag key f }

/-- The frame arrived whole, its tag verifies, and VERSION, TYPE and LENGTH are of R331 and R332. -/
def frAuthentic (key : List Byte) (f : FlockFrame) : Bool := !key.isEmpty && f.tag == frTag key f

/-- VERSION and LENGTH as R331 has them; a SYNC, COLDSTART or LOCAL_SYNC payload has 16 bytes (R332). -/
def frFormOk (f : FlockFrame) : Bool :=
  f.fcsOk && f.version == 1 && decide (f.typ < 8) && decide (f.payload.length ≤ 1024) &&
  (!([1, 2, 7].contains f.typ) || f.payload.length == 16)

/-! ## What a keeper does (R335 to R345) -/

/-- The time at which a frame was sent, on the receiver's scale: TX_TIME + 1.25 ns × CORR. -/
def frArrival (f : FlockFrame) : Nat := f.txTime + f.corr * 5 / 4

/-- Deviation of a received frame, ns (R333). -/
def frDeviation (f : FlockFrame) (rx : Nat) : Int := (4 * ((rx : Int) - f.txTime) - 5 * f.corr).tdiv 4

/-- The sender is the Bellwether of a start-up (R332, R342). -/
def frBell (f : FlockFrame) : Bool := f.typ == 2 || frSflags f % 2 == 1

/-- A keeper takes a frame's time; its own start of listening moves along (R343). -/
def KeeperSt.adopt (k : KeeperSt) (f : FlockFrame) (now : Nat) (st : Nat) (cold : Bool) : KeeperSt :=
  { k with st := st, leader := f.sender, bell := frBell f, adoptAt := some (cycleOf (frArrival f)), fromCold := cold, inStartup := f.startup
           since := k.since + ((frArrival f : Nat) : Int) - now, good := 0, misfit := false, copies := [], coldAt := none
           corrAt := none }

/-- Note a copy of a SYNC frame, once per sender and channel (R335). -/
def KeeperSt.note (k : KeeperSt) (f : FlockFrame) (rx : Nat) (fits : Bool) : KeeperSt :=
  if k.copies.any fun c => c.1 == f.sender && c.2.1 == f.chY then k
  else { k with copies := k.copies ++ [(f.sender, f.chY, frDeviation f rx)], misfit := k.misfit || !fits }

/-- Insert into an ascending list. -/
def insertAsc (x : Nat × Int) : List (Nat × Int) → List (Nat × Int)
  | [] => [x]
  | y :: ys => if x.2 ≤ y.2 then x :: y :: ys else y :: insertAsc x ys

/-- Sort by value. -/
def sortAsc (xs : List (Nat × Int)) : List (Nat × Int) := xs.foldr insertAsc []

/-- The deviations of this cycle: the mean of two copies, left out when they differ by more than 400 ns (R335). -/
def KeeperSt.deviations (k : KeeperSt) : List (Nat × Int) :=
  let xs := k.copies.filter fun c => !c.2.1
  let ys := k.copies.filter fun c => c.2.1
  let fromX := xs.filterMap fun c =>
    match ys.find? fun d => d.1 == c.1 with
    | some d => if 400 < absN (c.2.2 - d.2.2) then none else some (c.1, (c.2.2 + d.2.2).tdiv 2)
    | none => some (c.1, c.2.2)
  fromX ++ (ys.filter fun d => !(xs.any fun c => c.1 == d.1)).map fun d => (d.1, d.2.2)

/-- How many extremes the midpoint discards at each end. -/
def ftmK (m : Nat) : Nat := if m ≤ 2 then 0 else if m ≤ 7 then 1 else 2

/-- Sum of the two values of the fault-tolerant midpoint, none without values (R336, R337). -/
def ftmSum (d : List (Nat × Int)) : Option Int :=
  let s := (sortAsc d).map (·.2)
  let k := ftmK s.length
  match s[k]?, s[s.length - k - 1]? with
  | some a, some b => some (a + b)
  | _, _ => none

/-- offset(n) of R336 before its clamp. -/
def ftmOffset (d : List (Nat × Int)) : Int :=
  match ftmSum d with
  | some x => (-x).tdiv 2
  | none => 0

/-- rate(n) of R337: the new rate from the sources known in n and n − 8. -/
def KeeperSt.newRate (k : KeeperSt) (limit : Int) : Int :=
  match k.devs[0]?, k.devs[8]? with
  | some now, some old =>
    let a := (k.applied.drop 1).take 8 |>.foldl (· + ·) 0
    let rs := now.filterMap fun d => (old.find? fun o => o.1 == d.1).map fun o => (d.1, 500 * (d.2 - o.2 - a))
    match ftmSum rs with
    | some q => clampI (k.rate - q.tdiv 2) (-limit) limit
    | none => k.rate
  | _, _ => k.rate

/-- The keeper measures: in every state but LISTEN. -/
def KeeperSt.measures (k : KeeperSt) : Bool := k.st != kListen && !(k.st == kRejoin && k.adoptAt.isNone)

/-- A keeper that integrates: INTEGRATE, or REJOIN once it has adopted. -/
def KeeperSt.integrating (k : KeeperSt) : Bool := k.st == kIntegrate || (k.st == kRejoin && k.adoptAt.isSome)

/-- Back to LISTEN. -/
def KeeperSt.listen (k : KeeperSt) (now : Nat) : KeeperSt :=
  { KeeperSt.reset with since := now, rate := k.rate, barred := k.barred, late := k.late }

/-- A keeper that follows a Bellwether missed its SYNC frame in one of the four cycles of its cold start (R343). One that has become
SYNCED before start-up is complete still integrates to it (log entry 120). -/
def KeeperSt.bellMissing (k : KeeperSt) (heard : List (Nat × Bool × Int)) (cyc : Nat) : Bool :=
  k.bell && k.inStartup && decide (cyc % 64 ≤ 3) && (k.integrating || k.st == kSynced) && !(heard.any fun c => c.1 == k.leader)

/-- The check of a cycle while integrating (R343). `d` holds the deviations of the cycle, the keeper's own apart, `heard` the copies. -/
def KeeperSt.check (k : KeeperSt) (d : List (Nat × Int)) (heard : List (Nat × Bool × Int)) (cyc now : Nat) : KeeperSt :=
  if k.adoptAt = some cyc ∧ !k.fromCold then { k with misfit := false }
  else if k.bellMissing heard cyc then k.listen now
  else if !k.integrating then k
  else if !d.isEmpty && !k.misfit && d.all (fun x => decide (absN x.2 ≤ 500)) then
    if 2 ≤ k.good + 1 then { k with st := kSynced, good := 2, done := k.done || !k.inStartup, syncAt := cyc }
    else { k with good := k.good + 1 }
  else k.listen now

/-- PASSIVE on entry and exit (R345): `c` is the correction before its clamp. -/
def KeeperSt.passiveStep (k : KeeperSt) (c : Int) : KeeperSt :=
  if k.st = kSynced ∧ 500 < absN c then { k with st := kPassive, passive := 0 }
  else if k.st = kPassive then
    if 2 ≤ k.passive + 1 ∧ absN c ≤ 500 then { k with st := kSynced, passive := 0 } else { k with passive := k.passive + 1 }
  else k

/-- OFFSET_CORRECTION of a keeper at global time `t`: the keeper, its deviations with its own, and the unclamped correction. -/
def KeeperSt.correct (k : KeeperSt) (own t : Nat) : KeeperSt × List (Nat × Int) × Int :=
  let d := k.deviations
  let all := if k.sentSync then d ++ [(own, 0)] else d
  let c := ftmOffset all
  let k1 := { k with devs := (d :: k.devs).take 9, applied := (clampI c (-500) 500 :: k.applied).take 9
                     slew := clampI c (-500) 500, corrAt := some (cycleOf t) }
  let k2 := (k1.passiveStep c).check d k.copies (cycleOf t) t
  ({ k2 with copies := [], sentSync := false, misfit := false }, all, c)

/-! ## The lane's keeper -/

/-- Own sender ID: node × 8 + source (R331). -/
def LaneSt.senderId (L : LaneSt) (l : Lane) : Nat := L.rd Reg.FLK_CFG_NODE * 8 + laneIx l + 1

/-- Copy the keeper to FLK_STAT and the registers beside it (R350). -/
def LaneSt.showKeeper (L : LaneSt) : LaneSt :=
  let k := L.flk.keeper
  let L := ((L.wr Reg.FLK_STAT_STATE k.st).put Reg.FLK_STAT_SCOPE k.onLocal).put Reg.FLK_STAT_STARTUP_DONE k.done
  (L.wrS Reg.FLK_RATE_RATE k.rate).wr Reg.FLK_START_LEADER (if k.bell then k.leader else 0)

/-- Enter LISTEN at a start, a wake or after an L3 reaction (R340). -/
def LaneSt.flkListen (L : LaneSt) : LaneSt :=
  let L := L.updFlk fun f => { f with keeper := { KeeperSt.reset with since := L.time }, netAt := none, netRun := 0, rejoinAt := none }
  ((L.put Reg.FLK_STAT_BELLWETHER false).put Reg.FLK_STAT_NET_SEEN false).showKeeper

/-- 0x0909 with its detail (R341, R350). -/
def LaneSt.startupFault (L : LaneSt) (d : Nat) : LaneSt := (L.wr Reg.FLK_START_DETAIL d).raise 0x0909 d

/-- Lifecycle BLANK has no group key (R334), and a lane without one treats frames as in BLANK (R418). -/
def LaneSt.blank (L : LaneSt) : Bool := L.rd Reg.SEC_LC_STATE == 0 || L.sec.keys.group.isEmpty

/-- A network frame that the lane checks: not used when it is discarded (R334). -/
def LaneSt.authentic (L : LaneSt) (f : FlockFrame) : LaneSt × Bool :=
  if L.blank || !f.fcsOk then (L, false)
  else if !frAuthentic L.sec.keys.group f then (L.raise 0x0905, false)
  else if !frFormOk f then (L, false)
  else (L.updFlk fun k => if f.chY then { k with heardY := true } else { k with heardX := true }, true)

/-- What a controller times moves along with an adopted time. -/
def CanSt.shift (x : CanSt) (d : Int) : CanSt :=
  { x with startAt := ((x.startAt : Int) + d).toNat, silence := x.silence.map fun u => ((u : Int) + d).toNat }

/-- The lane adopts the time of a frame (R326, R343). -/
def LaneSt.adoptTime (L : LaneSt) (f : FlockFrame) (rx st : Nat) (cold : Bool) : LaneSt :=
  let L := L.updKeeper fun k => k.adopt f rx st cold
  let d : Int := (frArrival f : Nat) - (rx : Int)
  { L with time := frArrival f, can1 := L.can1.shift d, can2 := L.can2.shift d }.showKeeper

/-- On local time in STANDBY: a second basic cycle running with network SYNC sets NET_SEEN (R344). -/
def LaneSt.noteNet (L : LaneSt) : LaneSt :=
  let n := cycleOf L.time
  let L := match L.flk.netAt with
    | some m =>
      if m = n then L
      else L.updFlk fun f => { f with netAt := some n, netRun := if m + 1 = n then f.netRun + 1 else 1 }
    | none => L.updFlk fun f => { f with netAt := some n, netRun := 1 }
  L.put Reg.FLK_STAT_NET_SEEN (L.st == stStandby && decide (2 ≤ L.flk.netRun))

/-- A SYNC frame at a lane (R335, R343). -/
def LaneSt.syncAt (L : LaneSt) (f : FlockFrame) (rx : Nat) : LaneSt :=
  let k := L.flk.keeper
  if frSched f ≠ L.flk.digest then L.startupFault 2
  else if k.onLocal && k.st != kRejoin then L.noteNet
  else if k.st = kListen ∨ (k.st = kRejoin ∧ k.adoptAt.isNone) then L.adoptTime f rx (if k.st = kRejoin then kRejoin else kIntegrate) false
  else if (frWin f L.flk.sched).typ == wSync && frPermitted f L.flk.sched then
    L.updKeeper fun k => k.note f rx (frOnStart f L.flk.sched (L.rd Reg.FLK_CFG_MARGIN))
  else L

/-- A COLDSTART frame at a lane (R342, R343). -/
def LaneSt.coldAt (L : LaneSt) (l : Lane) (f : FlockFrame) (rx : Nat) : LaneSt :=
  let k := L.flk.keeper
  if frSched f ≠ L.flk.digest then L.startupFault 2
  else if k.onLocal && k.st != kRejoin then L
  else if k.st = kListen ∨ (k.st = kRejoin ∧ k.adoptAt.isNone) then L.adoptTime f rx (if k.st = kRejoin then kRejoin else kIntegrate) true
  else if k.integrating then
    if k.adoptAt = some (cycleOf rx) ∧ f.sender < k.leader then L.adoptTime f rx k.st true else L
  else if k.st = kCold then
    let first := match k.coldAt with
      | some t => decide (rx < t + 250000)
      | none => false
    if !first then L
    else if f.sender < L.senderId l then (L.put Reg.FLK_STAT_BELLWETHER false).adoptTime f rx kIntegrate true
    else if f.sender = L.senderId l then
      let L := (L.put Reg.FLK_STAT_BELLWETHER false).updKeeper fun k => { k.listen rx with barred := true }
      L.showKeeper.startupFault 4
    else L
  else L

/-- LISTEN_TIMEOUT: cold-start capable (R341). -/
def LaneSt.coldCapable (L : LaneSt) : Bool :=
  L.nvm.inForce && L.on Reg.FLK_CFG_SYNC_NODE && L.on Reg.FLK_CFG_COLDSTART && L.rd Reg.FLK_CFG_NODE != 0 &&
  !L.on Reg.SYS_CLK_STAT_RC_FALLBACK && !L.flk.keeper.barred

/-- Listen time in ns (R341). -/
def LaneSt.listenTime (L : LaneSt) (l : Lane) : Nat :=
  if L.coldCapable then 500000 + L.senderId l * 5000 else 3000000 + (laneIx l + 1) * 5000

/-- A frame of the lane's own, its tag apart (R331). -/
def LaneSt.frameOf (L : LaneSt) (l : Lane) (typ w m t : Nat) (startup : Bool) (data : List Byte) : FlockFrame :=
  { version := 1, typ := typ, sender := L.senderId l, chY := false, looped := false, localSync := typ == 7, startup := startup
    hops := 0, window := w, matrix := m, txTime := t, corr := 0, priority := 0, seq := L.flk.seq, payload := data, tag := 0
    fcsOk := true }

/-- The payload of SYNC, COLDSTART and LOCAL_SYNC (R332). The Bellwether is a keeper in COLDSTART (R342). -/
def LaneSt.syncPayload (L : LaneSt) (startup : Bool) : List Byte :=
  let bell := L.flk.keeper.st == kCold
  leBytes 1 ((if bell then 1 else 0) + (if startup then 2 else 0)) ++ leBytes 1 (L.rd Reg.FLK_STAT_SOURCES) ++ leBytes 2 0 ++
  leBytes 8 L.flk.digest.toNat ++ leBytes 4 (bitsOf 32 L.flk.keeper.rate)

/-- The frame with the lane's tag: zero in lifecycle BLANK (R334). -/
def LaneSt.sealed (L : LaneSt) (f : FlockFrame) : FlockFrame := if L.blank then f else sealFrame L.sec.keys.group f

/-- Send a frame to both guardians, marked with their channels (R357): SEQ counts once. -/
def LaneSt.sendFlock (L : LaneSt) (f : FlockFrame) : LaneSt :=
  L.updFlk fun k => { k with wire := [L.sealed f, L.sealed { f with chY := true }], seq := (k.seq + 1) % 65536 }

/-- Cold start (R342): the next multiple of 16 ms becomes the time, and COLDSTART is sent. -/
def LaneSt.coldStart (L : LaneSt) (l : Lane) (t : Nat) : LaneSt :=
  let z := (t / 16000000 + 1) * 16000000
  let L := { L with time := z }.updKeeper fun k =>
    { k with st := kCold, coldAt := some z, since := k.since + ((z : Int) - t), leader := L.senderId l, bell := true, inStartup := true }
  ((L.put Reg.FLK_STAT_BELLWETHER true).showKeeper).sendFlock (L.frameOf l 2 0 0 z true (L.syncPayload true))

/-- LISTEN_TIMEOUT (R341, R342): the listen time has ended in silence. -/
def execListenTimeout (l : Lane) (t : Nat) (s : State) : Out :=
  onLinked l t s fun L =>
    if L.flk.keeper.st = kListen ∧ L.flk.keeper.since + (L.listenTime l : Nat) ≤ t then
      if L.coldCapable then L.coldStart l t
      else (L.updKeeper fun k => { k with st := kSynced, onLocal := true, syncAt := cycleOf t }).showKeeper
    else L

/-- LOCAL_SYNC_SEND (R341): at macrotick 2,400, 2,430 or 2,460. -/
def execLocalSyncSend (l : Lane) (t : Nat) (s : State) : Out :=
  onLinked l t s fun L =>
    if L.flk.keeper.onLocal ∧ L.flk.keeper.st = kSynced ∧ t % 250000 = 240000 + 3000 * laneIx l then
      (L.updKeeper fun k => { k with sentSync := true }).sendFlock
        (L.frameOf l 7 0 (cycleOf t % 64) t false (L.syncPayload false))
    else L

/-- LOCAL_SYNC_FRAME (R15, R334, R341): from another lane of the module. In BLANK the tag is not checked. The frames follow macrotick
2,000, so the next cycle's correction is the first to use them (R336). -/
def execLocalSyncFrame (l : Lane) (f : FlockFrame) (rx : Nat) (s : State) : Out :=
  onLinkedNow l s fun L =>
    if !L.blank && f.fcsOk && !frAuthentic L.sec.keys.group f then L.raise 0x0905
    else if f.typ ≠ 7 || !frFormOk f then L
    else
      let k := L.flk.keeper
      if k.st = kListen then
        (L.adoptTime f rx kIntegrate false).updKeeper (fun k => { k with onLocal := true, adoptAt := k.adoptAt.map (· + 1) }) |>.showKeeper
      else if k.onLocal && k.st != kRejoin then L.updKeeper fun k => k.note f rx true
      else L

/-- STARTUP_TIMEOUT (R341): a lane with a node number not SYNCED on network time 3 ms after it entered LISTEN. -/
def execStartupTimeout (l : Lane) (t : Nat) (s : State) : Out :=
  onLinked l t s fun L =>
    let k := L.flk.keeper
    let ok := (k.st == kSynced || k.st == kPassive) && !k.onLocal
    if L.rd Reg.FLK_CFG_NODE ≠ 0 ∧ !ok ∧ !k.late ∧ k.since + 3000000 ≤ t then
      (L.updKeeper fun k => { k with late := true }).startupFault 1
    else L

/-- FLK_SYNC_DEV of the last cycle: sender, VALID, USED, DEV (R350). -/
def LaneSt.showDevs (L : LaneSt) (d : List (Nat × Int)) : LaneSt :=
  let s := sortAsc d
  let k := ftmK s.length
  forN 16 (fun e L =>
    match s[e]? with
    | some (i, x) =>
      let L := ((L.wr (Reg.FLK_SYNC_DEV_SENDER e) i).wr (Reg.FLK_SYNC_DEV_VALID e) 1).wrS (Reg.FLK_SYNC_DEV_DEV e) (satS 16 x)
      L.put (Reg.FLK_SYNC_DEV_USED e) (decide (k ≤ e) && decide (e + k < s.length))
    | none => L.setReg (0x40090040 + 4 * e) 0#32) L

/-- SYNCED or not: what the end of an integration or a rejoin does (R343, R344, R350). -/
def LaneSt.afterCorrect (L : LaneSt) (was : KeeperSt) (t : Nat) : LaneSt :=
  let k := L.flk.keeper
  let L := if was.integrating ∧ k.st = kSynced then
      let d := ((t : Int) - k.since).toNat / 10000
      let L := L.wr Reg.FLK_START_DURATION (min d 0xFFFF)
      if was.st = kRejoin then
        (L.put Reg.FLK_STAT_NET_SEEN false).updFlk fun f => { f with keeper := { f.keeper with onLocal := false }, netRun := 0 }
      else L
    else L
  let L := if was.st = kRejoin ∧ k.st = kListen then L.updKeeper fun k => { k with st := kRejoin } else L
  let L := if was.st = kSynced ∧ k.st = kPassive then (L.inc Reg.FLK_SYNC_PASS_CNT).raise 0x0907 else L
  L.showKeeper

/-- OFFSET_CORRECTION at a lane. -/
def LaneSt.correctAt (L : LaneSt) (l : Lane) (t : Nat) : LaneSt :=
  let was := L.flk.keeper
  if !was.measures then L
  else
    let (k, d, c) := was.correct (L.senderId l) t
    let L := (L.updKeeper fun _ => k).wrS Reg.FLK_SYNC_OFS (satS 16 c)
    let L := ((L.put Reg.FLK_STAT_FREE d.isEmpty).wr Reg.FLK_STAT_SOURCES d.length).showDevs d
    L.afterCorrect was t

/-- The rate limit in ppb (R337). -/
def LaneSt.rateLimit (L : LaneSt) : Int := if L.on Reg.SYS_CLK_STAT_RC_FALLBACK then 25000000 else 300000

/-! ## The guardians' keepers -/

/-- A guardian. -/
def State.gdn (s : State) (g : Gdn) : GuardianSt :=
  match g with
  | .X => s.gX
  | .Y => s.gY

/-- Change a guardian. -/
def State.updGdn (s : State) (g : Gdn) (f : GuardianSt → GuardianSt) : State :=
  match g with
  | .X => { s with gX := f s.gX }
  | .Y => { s with gY := f s.gY }

/-- A command that acts on a powered guardian. -/
def onGdn (g : Gdn) (s : State) (f : GuardianSt → GuardianSt) : Out :=
  .next (s.updGdn g fun G => if G.powered then f G else G)

/-- Lanes that supply a guardian (R13). -/
def suppliers : Gdn → Lane × Lane
  | .X => (.A, .C)
  | .Y => (.B, .C)

/-- The Flock group key under which a guardian checks tags: that of the lanes that supply it (log entry 118). -/
def State.groupKey (s : State) (g : Gdn) : List Byte :=
  let (a, b) := suppliers g
  let k := (s.lane a).sec.keys.group
  if k.isEmpty then (s.lane b).sec.keys.group else k

/-- A guardian adopts the time of a frame. -/
def GuardianSt.adoptTime (G : GuardianSt) (f : FlockFrame) (rx : Nat) (cold : Bool) : GuardianSt :=
  { G with keeper := G.keeper.adopt f rx kIntegrate cold, time := frArrival f }

/-- A SYNC frame at a guardian: as at a lane; a guardian raises no fault of its own. -/
def GuardianSt.syncAt (G : GuardianSt) (f : FlockFrame) (rx : Nat) : GuardianSt :=
  if frSched f ≠ G.digest then G
  else if G.keeper.st = kListen then G.adoptTime f rx false
  else if (frWin f G.sched).typ == wSync && frPermitted f G.sched then
    { G with keeper := G.keeper.note f rx (frOnStart f G.sched G.margin) }
  else G

/-- A COLDSTART frame at a guardian, which never cold-starts (R340). -/
def GuardianSt.coldAt (G : GuardianSt) (f : FlockFrame) (rx : Nat) : GuardianSt :=
  if frSched f ≠ G.digest then G
  else if G.keeper.st = kListen then G.adoptTime f rx true
  else if G.keeper.integrating && G.keeper.adoptAt == some (cycleOf rx) && decide (f.sender < G.keeper.leader) then
    G.adoptTime f rx true
  else G

/-! ## Commands of both kinds of keeper -/

/-- SYNC_FRAME (R335, R343, R344). -/
def execSyncFrame (k : Keeper) (f : FlockFrame) (rx : Nat) (s : State) : Out :=
  match k with
  | .lane l => onLinkedNow l s fun L =>
    let (L, ok) := L.authentic f
    if ok && f.typ == 1 then L.syncAt f rx else L
  | .guardian g => onGdn g s fun G =>
    if frAuthentic (s.groupKey g) f && frFormOk f && f.typ == 1 then G.syncAt f rx else G

/-- COLDSTART_FRAME (R342, R343). -/
def execColdstartFrame (k : Keeper) (f : FlockFrame) (rx : Nat) (s : State) : Out :=
  match k with
  | .lane l => onLinkedNow l s fun L =>
    let (L, ok) := L.authentic f
    if ok && f.typ == 2 then L.coldAt l f rx else L
  | .guardian g => onGdn g s fun G =>
    if frAuthentic (s.groupKey g) f && frFormOk f && f.typ == 2 then G.coldAt f rx else G

/-- OFFSET_CORRECTION (R336, R343, R345): at macrotick 2,000. -/
def execOffsetCorrection (k : Keeper) (t : Nat) (s : State) : Out :=
  match k with
  | .lane l => onLinked l t s fun L => if t % 250000 = 200000 then L.correctAt l t else L
  | .guardian g => onGdn g s fun G =>
    if t % 250000 = 200000 ∧ G.keeper.measures then { G with time := t, keeper := (G.keeper.correct 0 t).1 } else G

/-- RATE_CORRECTION (R337): at the end of a basic cycle n with n mod 8 = 7. -/
def execRateCorrection (k : Keeper) (n : Nat) (s : State) : Out :=
  match k with
  | .lane l => onLinkedNow l s fun L =>
    if n % 8 = 7 ∧ L.flk.keeper.corrAt = some n then
      (L.updKeeper fun k => { k with rate := k.newRate L.rateLimit, corrAt := none }).showKeeper else L
  | .guardian g => onGdn g s fun G =>
    if n % 8 = 7 ∧ G.keeper.corrAt = some n then
      { G with keeper := { G.keeper with rate := G.keeper.newRate 300000, corrAt := none } } else G

/-- PASSIVE_TIMEOUT (R345): after 64 basic cycles in PASSIVE, in STANDBY. -/
def execPassiveTimeout (k : Keeper) (s : State) : Out :=
  match k with
  | .lane l => onLinkedNow l s fun L =>
    if L.flk.keeper.st = kPassive ∧ 64 ≤ L.flk.keeper.passive ∧ L.st = stStandby then
      (L.updKeeper fun k => k.listen L.time).showKeeper else L
  | .guardian g =>
    let standby := (triList s.lanes).all fun L => !L.up || L.st == stStandby
    onGdn g s fun G =>
      if G.keeper.st = kPassive ∧ 64 ≤ G.keeper.passive ∧ standby then { G with keeper := G.keeper.listen G.time } else G

/-- Basic cycle `n` is the last of the four of the cold start that the keeper leads or follows. -/
def KeeperSt.coldEnds (k : KeeperSt) (n : Nat) : Bool :=
  n % 64 == 3 &&
  match (if k.st = kCold then k.coldAt.map cycleOf else k.adoptAt) with
  | some a => decide (a ≤ n) && decide (n < a + 4)
  | none => false

/-- A keeper whose cold start is over at the end of basic cycle `n` (R343). -/
def KeeperSt.complete (k : KeeperSt) (n : Nat) : KeeperSt :=
  if !k.coldEnds n then k
  else if k.st = kCold then { k with st := kSynced, done := true, inStartup := false, syncAt := n }
  else if k.inStartup && (k.integrating || k.st == kSynced) then { k with done := true, inStartup := false, syncAt := max k.syncAt n }
  else k

/-- STARTUP_COMPLETE (R343): at the end of matrix position 3 after a cold start. -/
def execStartupComplete (k : Keeper) (n : Nat) (s : State) : Out :=
  match k with
  | .lane l => onLinkedNow l s fun L => (L.updKeeper fun k => k.complete n).showKeeper
  | .guardian g => onGdn g s fun G => { G with keeper := G.keeper.complete n }

/-! ## Cycle points (R347) -/

/-- Matrix position `m` is selected by REP and BASE. -/
def selects (rep base m : Nat) : Bool := m % 2 ^ (min rep 6) == base % 2 ^ (min rep 6)

/-- CYCLE_POINT: point `p` at global time `t`, once per selected cycle. -/
def execCyclePoint (l : Lane) (p t : Nat) (s : State) : Out :=
  onLinked l t s fun L =>
    let k := L.flk.keeper
    let c := cellGet (fun _ => 0#32) L.flk.cpiCfg p
    let ofs := (Reg.FLK_CPI_CFG_OFFSET p).get c
    let live := k.st == kSynced || k.st == kPassive || k.onLocal
    let sel := selects ((Reg.FLK_CPI_CFG_REP p).get c) ((Reg.FLK_CPI_CFG_BASE p).get c) (cycleOf t % 64)
    if p < 16 ∧ (Reg.FLK_CPI_CFG_EN p).get c = 1 ∧ ofs < 2500 ∧ t % 250000 = ofs * 100 ∧ live ∧ sel ∧
        cellGet (fun _ => 0) L.flk.cpiLast p ≠ cycleOf t + 1 then
      let L := if L.flk.cpiPend.getLsbD p then L.put (Reg.FLK_CPI_STAT_OVERRUN.bit p) true else L
      let L := L.updFlk fun f => { f with cpiPend := f.cpiPend ||| (1#16 <<< p)
                                          cpiLast := cellPut (fun _ => 0) f.cpiLast p (cycleOf t + 1) }
      { L with sys := { L.sys with irqs := (L.sys.irqs.filter (· != 16 + p)) ++ [16 + p] } }
    else L

/-- CPI_ACK: clear pending cycle points. -/
def execCpiAck (l : Lane) (mask : BitVec 16) (s : State) : Out :=
  onLinkedNow l s fun L =>
    let L := L.updFlk fun f => { f with cpiPend := f.cpiPend &&& ~~~mask }
    { L with sys := { L.sys with irqs := L.sys.irqs.filter fun c => !(decide (16 ≤ c) && decide (c < 32) && mask.getLsbD (c - 16)) } }

end Sys2Proof.Machine
end

