-- ==== Sys2Proof/Machine/Flock.lean ====
section
/-! DEFINITION. Message buffers and Skim of a lane's Flock engine (14, 15). -/
namespace Sys2Proof.Machine

/-! ## Skim coding (R370 to R372) -/

/-- The low 16 bits of a number, little-endian. -/
def put16 (x : Int) : List Byte := [BitVec.ofInt 8 x, BitVec.ofInt 8 (x / 256)]

/-- A source whose arithmetic is modulo 2^16 (R369). -/
def skimModular (src : Nat) : Bool := src == 0x10 || src == 0x11

/-- A source code that R369 lists. -/
def skimKnown (src : Nat) : Bool := decide (src ≤ 0x18)

/-- Reduce to 16 bits, signed, for a modular source. -/
def modIf (m : Bool) (x : Int) : Int := if m then signedOf 16 (bitsOf 16 x) else x

/-- The prediction from the last two decoded values; `b` is none for the first code (R371). -/
def skimPredict (a : Int) (b : Option Int) : Int :=
  match b with
  | none => a
  | some b => 2 * a - b

/-- The code of one residual. -/
def skimCode (m : Bool) (q : Nat) (x p : Int) : Int :=
  let r := modIf m (x - p)
  if q = 0 then r else (r + (2 ^ (q - 1) : Nat)) / (2 ^ q : Nat)

/-- Encode the samples after the first; `a` is the last decoded value, `b` the one before. Answers the bytes and the number of
escapes. -/
def skimCodes (m : Bool) (q : Nat) (a : Int) (b : Option Int) : List Int → List Byte × Nat
  | [] => ([], 0)
  | x :: xs =>
    let p := skimPredict a b
    let c := skimCode m q x p
    let v := modIf m (p + c * (2 ^ q : Nat))
    if decide (-127 ≤ c) && decide (c ≤ 127) && decide (-32768 ≤ v) && decide (v ≤ 32767) then
      let r := skimCodes m q v (some a) xs
      (BitVec.ofInt 8 c :: r.1, r.2)
    else
      let r := skimCodes m q x (some a) xs
      (0x80#8 :: put16 x ++ r.1, r.2 + 1)

/-- encode(x, q) of R371. -/
def skimEncode (m : Bool) (q : Nat) : List Int → List Byte × Nat
  | [] => ([], 0)
  | x :: xs =>
    let r := skimCodes m q x none xs
    (put16 x ++ r.1, r.2)

/-- Decode `n` codes: the decoded values, and the bytes left. -/
def skimDecodes (m : Bool) (q : Nat) : Nat → Int → Option Int → List Byte → Option (List Int × List Byte)
  | 0, _, _, bs => some ([], bs)
  | n + 1, a, b, c :: bs =>
    let p := skimPredict a b
    if c = 0x80#8 then
      match bs with
      | lo :: hi :: rest =>
        let x := signedOf 16 (lo.toNat + 256 * hi.toNat)
        (skimDecodes m q n x (some a) rest).map fun r => (x :: r.1, r.2)
      | _ => none
    else
      let v := modIf m (p + c.toInt * (2 ^ q : Nat))
      (skimDecodes m q n v (some a) bs).map fun r => (v :: r.1, r.2)
  | _ + 1, _, _, [] => none

/-- Decode the fields that the descriptors name, in order (R370, R372). -/
def skimFields : List (Nat × Nat) → List Byte → Option (List Byte × List Byte)
  | [], bs => some ([], bs)
  | (src, q) :: ds, bs =>
    match bs with
    | lo :: hi :: rest =>
      let x := signedOf 16 (lo.toNat + 256 * hi.toNat)
      match skimDecodes (skimModular src) q 9 x none rest with
      | some (xs, rest) => (skimFields ds rest).map fun r => ((x :: xs).flatMap put16 ++ r.1, r.2)
      | none => none
    | _ => none

/-- The decoded content of a Skim payload: header and descriptors as received, then the samples; none when it is malformed
(R372). -/
def skimDecode (bs : List Byte) : Option (List Byte) :=
  let n := (bs.getD 1 0#8).toNat
  let head := bs.take (12 + 2 * n)
  let ds := (List.range n).map fun f => ((bs.getD (12 + 2 * f) 0#8).toNat, (bs.getD (13 + 2 * f) 0#8).toNat % 8)
  if n = 0 || decide (32 < n) || decide (bs.length < 12 + 2 * n) || ds.any (fun d => decide (4 < d.2)) then none
  else
    match skimFields ds (bs.drop (12 + 2 * n)) with
    | some (xs, []) => some (head ++ xs)
    | _ => none

/-! ## Skim streams (R369) -/

/-- Stage to whose periods a source belongs. -/
def skimStage (src : Nat) : Nat :=
  if src < 0x0A then (src - 1) / 3
  else if src < 0x0D then src - 0x0A
  else if src < 0x10 then src - 0x0D
  else if src < 0x13 then 0
  else if src < 0x16 then src - 0x13
  else src - 0x16

/-- Value of a source at the instant `t`: that of the most recently completed period; 0 for source 0 or before any. -/
def LaneSt.skimAt (L : LaneSt) (src t : Nat) : Int :=
  if src = 0 then 0
  else match (nth L.flk.hist (skimStage src)).find? fun r => decide (r.stopAt ≤ t) with
    | some r => ((r.vals.find? fun v => v.1 == src).map (·.2)).getD 0
    | none => 0

/-- Header, descriptors and codes of a stream for the basic cycle that starts at `t0` (R370). -/
def LaneSt.skimPayload (L : LaneSt) (i t0 : Nat) : List Byte × Nat :=
  let n := L.rd (Reg.FLK_SKIM_CFG_NFIELDS i)
  let fs := (List.range n).map fun f => (L.rd (Reg.FLK_SKIM_FLD_SOURCE i f), L.rd (Reg.FLK_SKIM_FLD_Q i f))
  let head := [1#8, BitVec.ofNat 8 n] ++ put16 1000 ++ leBytes 8 t0
  let desc := fs.flatMap fun f => [BitVec.ofNat 8 f.1, BitVec.ofNat 8 f.2]
  let coded := fs.map fun f =>
    skimEncode (skimModular f.1) f.2 ((List.range 10).map fun k => L.skimAt f.1 (t0 + 25000 * k))
  (head ++ desc ++ coded.flatMap (·.1), (coded.map (·.2)).foldl (· + ·) 0)

/-! ## Transmit buffers (R349) -/

/-- Content of transmit buffer `b`. -/
def LaneSt.txBuf (L : LaneSt) (b : Nat) : Option TxBuf := (L.flk.tx.find? fun e => e.1 == b).map (·.2)

/-- Replace it. -/
def LaneSt.setTxBuf (L : LaneSt) (b : Nat) (x : TxBuf) : LaneSt :=
  L.updFlk fun f => { f with tx := (b, x) :: f.tx.filter fun e => e.1 != b }

/-- Post a content. -/
def LaneSt.postTx (L : LaneSt) (b : Nat) (data : List Byte) (t : Nat) : LaneSt :=
  let old := match L.txBuf b with
    | some x => x.data
    | none => []
  L.setTxBuf b { data := data, postAt := t, prev := old, unsent := true }

/-- Buffer `b` belongs to an enabled Skim stream (R369). -/
def LaneSt.skimBuf (L : LaneSt) (b : Nat) : Bool :=
  [0, 1, 2, 3].any fun i => L.on (Reg.FLK_SKIM_CFG_EN i) && L.rd (Reg.FLK_SKIM_CFG_BUF i) == b

/-- Bytes of buffer `b`'s registers. -/
def LaneSt.bufBytes (L : LaneSt) (b n : Nat) : List Byte :=
  ((List.range ((n + 3) / 4)).flatMap fun j => wordBytes (L.reg (0x40098000 + 0x400 * b + 4 * j))).take n

/-- TX_POST: a length above 1,024 ignores the write; a Skim stream's buffer takes no post. -/
def execTxPost (l : Lane) (buf len t : Nat) (s : State) : Out :=
  onLinked l t s fun L =>
    if buf < 32 ∧ len ≤ 1024 ∧ L.rd (Reg.FLK_BUF_CFG_DIR buf) = 1 ∧ !L.skimBuf buf ∧ !L.flk.mbxBufs.getLsbD buf then L.postTx buf (L.bufBytes buf len) t else L

/-- SKIM_ENCODE (R369, R371): at the start of basic cycle n the stream's ten samples of cycle n − 1 go to its buffer. -/
def execSkimEncode (l : Lane) (stream : Nat) (s : State) : Out :=
  onLinkedNow l s fun L =>
    if stream < 4 ∧ L.on (Reg.FLK_SKIM_CFG_EN stream) then
      let r := L.skimPayload stream (cycleStart L.time - 250000)
      (L.postTx (L.rd (Reg.FLK_SKIM_CFG_BUF stream)) r.1 (cycleStart L.time)).updFlk fun f => { f with escapes := f.escapes + r.2 }
    else L

/-- Buffer `b` is bound, in direction `dir`, to window `w` at matrix position `m` on the channel. -/
def LaneSt.bound (L : LaneSt) (b dir : Nat) (chY : Bool) (w m : Nat) : Bool :=
  L.on (Reg.FLK_BUF_CFG_EN b) && L.rd (Reg.FLK_BUF_CFG_DIR b) == dir &&
  bitN (L.rd (Reg.FLK_BUF_CFG_CH b)) (if chY then 1 else 0) && L.rd (Reg.FLK_BUF_CFG_WINDOW b) == w &&
  selects (L.rd (Reg.FLK_BUF_CFG_REP b)) (L.rd (Reg.FLK_BUF_CFG_BASE b)) m

/-- The keeper lets its lane send scheduled frames: SYNCED on network time, start-up complete, from the basic cycle after both (R343). -/
def KeeperSt.sends (k : KeeperSt) (cyc : Nat) : Bool := k.st == kSynced && !k.onLocal && k.done && decide (k.syncAt < cyc)

/-- The keeper lets its lane send SYNC frames: as the others, or as the Bellwether in the four cycles of its cold start (R342). -/
def KeeperSt.sendsSync (k : KeeperSt) (cyc : Nat) : Bool :=
  k.sends cyc || (k.st == kCold && decide (cyc % 64 ≤ 3) && (match k.coldAt with
    | some z => decide (cycleOf z ≤ cyc) && decide (cyc < cycleOf z + 4)
    | none => false))

/-- The window lets this lane send (R328, R349). -/
def LaneSt.maySend (L : LaneSt) (l : Lane) (chY : Bool) (m w : Nat) : Bool :=
  let e := winOf L.flk.sched chY m w
  e.typ == wArb || ((e.typ == wExclusive || e.typ == wChurn) && e.sender == L.senderId l)

/-- The lane holds the agreed Churn token in this basic cycle (R151). -/
def LaneSt.holdsToken (L : LaneSt) (l : Lane) : Bool := L.agr.token == laneIx l + 1

/-- SYNC in the lane's own SYNC window (R328, R335, R342); never on the RC fall-back (R337). A copy on the other channel in a window of
the same number carries the same SEQ (R357). -/
def LaneSt.transmitSync (L : LaneSt) (l : Lane) (chY : Bool) (w m t : Nat) : LaneSt :=
  let second := L.flk.lastTx == some (32 + w, cycleOf t) && L.flk.wire.all fun f => f.chY != chY
  let sq := if second then (L.flk.seq + 65535) % 65536 else L.flk.seq
  let startup := L.flk.keeper.st == kCold
  let f := { (L.frameOf l 1 w m t startup (L.syncPayload startup)) with chY := chY, seq := sq }
  (L.updKeeper fun k => { k with sentSync := true }).updFlk fun k =>
    { k with wire := [L.sealed f], lastTx := some (32 + w, cycleOf t), seq := (sq + 1) % 65536 }

/-- Content of transmit buffer `buf` in a selected window (R349): that posted at least 5 µs before its start, or the last one again. -/
def LaneSt.transmit (L : LaneSt) (l : Lane) (chY : Bool) (w m buf t : Nat) (x : TxBuf) : LaneSt :=
  let e := winOf L.flk.sched chY m w
  let start := cycleStart t + e.start * 100
  let ready := decide (x.postAt + 5000 ≤ start)
  let data := if ready then x.data else x.prev
  let second := L.flk.lastTx == some (buf, cycleOf t) && decide (L.rd (Reg.FLK_BUF_CFG_CH buf) = 3)
  let sq := if second then (L.flk.seq + 65535) % 65536 else L.flk.seq
  let f := { (L.frameOf l 0 w m t false data) with chY := chY, seq := sq
                                                   priority := if e.typ = wArb then L.rd (Reg.FLK_TX_PRIO_PRIORITY buf) else 0 }
  let L := L.updFlk fun k => { k with wire := [L.sealed f], lastTx := some (buf, cycleOf t), seq := (sq + 1) % 65536 }
  let rep := if second then L.on (Reg.FLK_BUF_STAT_REPEAT buf) else !(ready && x.unsent)
  let L := ((L.wr (Reg.FLK_BUF_STAT_SEQ buf) sq).wr (Reg.FLK_BUF_STAT_LENGTH buf) data.length).put (Reg.FLK_BUF_STAT_REPEAT buf) rep
  let L := ((L.put (Reg.FLK_BUF_STAT_NEW buf) true).put (Reg.FLK_BUF_STAT_VALID buf) true).setTxBuf buf
    { x with unsent := x.unsent && !ready }
  if e.typ = wArb then L.inc Reg.FLK_ARB_STAT_SENT else L

/-- FLOCK_TRANSMIT (R328, R343, R349): at the start of window `w` of matrix position `m`. A SYNC window of the lane takes its SYNC
frame, whatever `buf` is; the others take a transmit buffer that is bound to them. -/
def execFlockTransmit (l : Lane) (chY : Bool) (w m buf t : Nat) (s : State) : Out :=
  onLinked l t s fun L =>
    let k := L.flk.keeper
    let e := winOf L.flk.sched chY m w
    let here := decide (cycleOf t % 64 = m) && decide (t % 250000 = e.start * 100) && decide (w < 48)
    if !here then L
    else if e.typ = wSync then
      if e.sender = L.senderId l ∧ L.on Reg.FLK_CFG_SYNC_NODE ∧ !L.on Reg.SYS_CLK_STAT_RC_FALLBACK ∧ k.sendsSync (cycleOf t) then
        L.transmitSync l chY w m t else L
    else
      match L.txBuf buf with
      | some x =>
        if k.sends (cycleOf t) && decide (buf < 32) && L.bound buf 1 chY w m && L.maySend l chY m w &&
            !(e.typ == wChurn && L.holdsToken l) then L.transmit l chY w m buf t x else L
      | none => L

/-! ## Receive buffers (R348, R353, R357) -/

/-- Receive buffers that a valid frame fits. -/
def LaneSt.fits (L : LaneSt) (f : FlockFrame) : List Nat :=
  (List.range 32).filter fun b =>
    L.bound b 0 f.chY (f.window % 48) (f.matrix % 64) && L.rd (Reg.FLK_BUF_CFG_SENDER b) == f.sender &&
    frInWindow f L.flk.sched (L.rd Reg.FLK_CFG_MARGIN)

/-- Take a frame for buffer `b`: the first valid copy; a second that differs is counted (R357). -/
def LaneSt.takeFrame (L : LaneSt) (f : FlockFrame) (b : Nat) : LaneSt :=
  let n := cycleOf (f.txTime + L.rd Reg.FLK_CFG_MARGIN)
  match L.flk.got.find? fun r => r.buf == b && r.cyc == n with
  | some r => if r.chY != f.chY && r.data != f.payload then L.inc Reg.FLK_GUARD_CNT_DUP_DIFF else L
  | none =>
    let skim := L.on (Reg.FLK_SKIM_RX_DECODE.bit b)
    let data := if skim then skimDecode f.payload else some f.payload
    match data with
    | some d =>
      let r : RxGot := { buf := b, cyc := n, chY := f.chY, seq := f.seq, data := d }
      -- the raw payload decides whether two copies differ
      L.updFlk fun k => { k with got := { r with data := f.payload } :: (k.got.filter fun g => decide (n ≤ g.cyc + 1)), due := k.due ++ [r] }
    | none => L.inc Reg.FLK_SKIM_STAT_DECODE_ERR

/-- A COMMAND frame in its COMMAND window, or a DATA frame in an arbitrating window listed for mailbox traffic, carries a segment of a
mailbox message: MSG, INDEX, COUNT (R394). Its transport key is the sender ID. -/
def LaneSt.flockSegment (L : LaneSt) (f : FlockFrame) : LaneSt :=
  let w := frWin f L.flk.sched
  let here := frPermitted f L.flk.sched && frInWindow f L.flk.sched (L.rd Reg.FLK_CFG_MARGIN) &&
    ((f.typ == 3 && w.typ == wCommand) || (f.typ == 0 && w.typ == wArb && L.flk.mbxWins.contains (f.window % 48)))
  match f.payload with
  | a :: b :: i :: n :: _ => if here then L.segment f.sender (a.toNat + 256 * b.toNat) i.toNat n.toNat else L
  | _ => L

/-- FLOCK_FRAME_RECEIVE (R334, R348). On local time network frames are not used (R344). -/
def execFlockFrameReceive (l : Lane) (f : FlockFrame) (s : State) : Out :=
  onLinkedNow l s fun L =>
    let (L, ok) := L.authentic f
    if ok && !L.flk.keeper.onLocal then ((L.fits f).foldl (fun L b => L.takeFrame f b) L).flockSegment f else L

/-- Make a received frame visible (R348). -/
def LaneSt.showFrame (L : LaneSt) (r : RxGot) : LaneSt :=
  let L := forN ((r.data.length + 3) / 4) (fun j L =>
    L.setReg (0x40098000 + 0x400 * r.buf + 4 * j) (bytesWord ((r.data.drop (4 * j)).take 4))) L
  let L := ((L.wr (Reg.FLK_BUF_STAT_SEQ r.buf) r.seq).wr (Reg.FLK_BUF_STAT_LENGTH r.buf) r.data.length).put
    (Reg.FLK_BUF_STAT_VALID r.buf) true
  ((L.put (Reg.FLK_BUF_STAT_NEW r.buf) true).put (Reg.FLK_BUF_STAT_LOST r.buf) false).put (Reg.FLK_BUF_STAT_ABSENT r.buf) false

/-- The window of receive buffer `b` ended in the 50 µs before `t0` without a frame: its type, if so (R348). -/
def LaneSt.missedWin (L : LaneSt) (b t0 : Nat) : Option Nat :=
  let m := L.rd Reg.FLK_CFG_MARGIN
  let ch := L.rd (Reg.FLK_BUF_CFG_CH b)
  let n := cycleOf (t0 - 1)
  let w := L.rd (Reg.FLK_BUF_CFG_WINDOW b)
  let e := winOf L.flk.sched (!bitN ch 0) (n % 64) w
  let stop := n * 250000 + (e.start + e.len) * 100 + m
  if L.bound b 0 (!bitN ch 0) w (n % 64) && decide (stop ≤ t0) && decide (t0 < stop + 50000) &&
      !(L.flk.got.any fun r => r.buf == b && r.cyc == n) then some e.typ
  else none

/-- Receive buffers at a slot start: what arrived becomes visible, and missing frames are marked (R348). -/
def LaneSt.flkSlot (L : LaneSt) (t0 : Nat) : LaneSt :=
  let L := forN 32 (fun b L => if L.on (Reg.FLK_BUF_CFG_EN b) then
      let L := if L.rd (Reg.FLK_BUF_CFG_DIR b) = 0 then L.put (Reg.FLK_BUF_STAT_NEW b) false else L
      match L.missedWin b t0 with
      | some ty =>
        if ty = wExclusive ∨ ty = wSync then L.put (Reg.FLK_BUF_STAT_LOST b) true
        else if ty = wChurn then L.put (Reg.FLK_BUF_STAT_ABSENT b) true
        else L
      | none => L
    else L) L
  let L := L.flk.due.foldl (fun L r => L.showFrame r) L
  let L := L.updFlk fun f => { f with due := [] }
  ((L.wr (Reg.FLK_TIME_TIME 0) t0).wr (Reg.FLK_TIME_TIME 1) (t0 / 0x100000000)).wr Reg.FLK_CYCLE_N (cycleOf t0)

/-- The transmit buffers' NEW flags cover one slot. -/
def LaneSt.flkSlotEnd (L : LaneSt) : LaneSt :=
  forN 32 (fun b L => if L.rd (Reg.FLK_BUF_CFG_DIR b) = 1 then L.put (Reg.FLK_BUF_STAT_NEW b) false else L) L

/-- One channel without a valid frame for a basic cycle (R306, 0x0902). -/
def LaneSt.channelLost (L : LaneSt) (i : Nat) (was heard : Bool) : LaneSt :=
  L.raiseIf (was && !heard) 0x0902 (16 * i + 15)

/-- The Graze payload (R253): stages in service, number of the matrix cycle that has ended, 64 bins. -/
def LaneSt.grazePayload (L : LaneSt) : List Byte :=
  let stages := mask3 fun s => L.serves s
  [1#8, BitVec.ofNat 8 stages] ++ leBytes 2 (cycleOf L.time / 64 + 65535) ++ leBytes 4 0 ++
  bytesOf ((List.range 32).map fun n => L.reg (0x40063400 + 4 * n))

/-- A new spectrum goes to the buffer of the Graze window (R253). -/
def LaneSt.grazePost (L : LaneSt) : LaneSt :=
  match L.flk.grazeBuf with
  | some b =>
    if L.com.grazeSeq = L.flk.grazeSent then L
    else (L.postTx b L.grazePayload L.time).updFlk fun f => { f with grazeSent := L.com.grazeSeq }
  | none => L

/-- NET_SEEN stands in STANDBY only, while network SYNC keeps coming (R344). -/
def LaneSt.forgetNet (L : LaneSt) : LaneSt :=
  let heard := match L.flk.netAt with
    | some m => decide (cycleOf L.time ≤ m + 1)
    | none => false
  if heard && L.st == stStandby then L
  else (L.put Reg.FLK_STAT_NET_SEEN false).updFlk fun f => { f with netRun := 0, netAt := if heard then f.netAt else none }

/-- A basic cycle starts (R347, R350): the channels heard, the cycle points' configuration, and the Skim count. -/
def LaneSt.flkCycle (L : LaneSt) : LaneSt :=
  let L := L.grazePost
  let x := L.on Reg.FLK_STAT_CH_X
  let y := L.on Reg.FLK_STAT_CH_Y
  let hx := L.flk.heardX
  let hy := L.flk.heardY
  let L := ((L.channelLost 0 x hx).channelLost 1 y hy).raiseIf ((x || y) && !hx && !hy) 0x0903
  let L := (L.put Reg.FLK_STAT_CH_X hx).put Reg.FLK_STAT_CH_Y hy
  let L := L.forgetNet
  let L := L.wr Reg.FLK_SKIM_STAT_ESCAPES (min L.flk.escapes 0xFFFF)
  L.updFlk fun f => { f with
    heardX := false, heardY := false, escapes := 0
    cpiCfg := (List.range 16).foldl (fun m p => cellPut (fun _ => 0#32) m p (L.reg (0x40090100 + 4 * p))) [] }

end Sys2Proof.Machine
end

