-- ==== Sys2Proof/Machine/Guardian.lean ====
section
/-! DEFINITION. The guardians X and Y (15). Times are in the guardian's own clock. -/
namespace Sys2Proof.Machine

/-- Index of a guardian: 0 X, 1 Y (R461). -/
def gdnIx : Gdn → Nat
  | .X => 0
  | .Y => 1

/-- The port of a guardian, and the opposite one. -/
def GuardianSt.port (G : GuardianSt) (p : Port) : PortSt :=
  match p with
  | .east => G.east
  | .west => G.west
def GuardianSt.setPort (G : GuardianSt) (p : Port) (x : PortSt) : GuardianSt :=
  match p with
  | .east => { G with east := x }
  | .west => { G with west := x }
def otherPort : Port → Port
  | .east => .west
  | .west => .east

/-- Port code in a detail byte (R461). -/
def portCode : Port → Nat
  | .east => 0
  | .west => 1

/-- Detail byte of a guardian's port (R461). -/
def portDetail (g : Gdn) (code : Nat) : Nat := 16 * gdnIx g + code

/-- Raise a source in every powered lane of the module. -/
def State.raiseAll (s : State) (id d : Nat) : State :=
  let f := fun (L : LaneSt) => if L.up then L.raise id d else L
  { s with lanes := ⟨f s.lanes.a, f s.lanes.b, f s.lanes.c⟩ }

/-- A command of a powered guardian: what it sent last is forgotten, then `f` acts on the module. -/
def withGdn (g : Gdn) (s : State) (f : State → State) : Out :=
  if (s.gdn g).powered then .next (f (s.updGdn g fun G => { G with out := [] })) else .next s

/-- The egress can send: a ring port whose link is up and whose transmitter is not disabled (R360). -/
def GuardianSt.sends (G : GuardianSt) : Egress → Bool
  | .port p => (G.port p).link && (G.port p).blocked.isNone
  | _ => true

/-- The guardian sends a frame at an egress; what a dead port would send is lost. -/
def GuardianSt.send (G : GuardianSt) (e : Egress) (f : FlockFrame) : GuardianSt :=
  if G.sends e then { G with out := G.out ++ [(e, f)] } else G

/-- Number of a lane's or satellite's link at a guardian (Config.linkDelay). -/
def srcIx : Src → Nat
  | .lane l => laneIx l
  | .sat n => n + 2

/-- Add to CORR, a field of 32 bits (R333). -/
def addCorr (f : FlockFrame) (d : Nat) : FlockFrame := { f with corr := min (f.corr + d) 0xFFFFFFFF }

/-- Microticks from `a` to `b`, ns. -/
def ticksFrom (a b : Nat) : Nat := (b - a) * 4 / 5

/-- Sender ID of a source of this node (R331, R365). -/
def GuardianSt.srcId (G : GuardianSt) (src : Src) : Nat :=
  G.node * 8 + (match src with
    | .lane l => laneIx l + 1
    | .sat n => 3 + n)

/-- The node of a sender ID, and its source. -/
def idNode (id : Nat) : Nat := id / 8
def idSource (id : Nat) : Nat := id % 8

/-- A residence time in microticks: a measured value that the spec does not state, at most 1.2 µs (R333, R352). -/
def GuardianSt.residence (G : GuardianSt) : Nat × GuardianSt :=
  ((Config.freeValue G.free).toNat % 961, { G with free := G.free + 1 })

/-- Mean of the last delays of a port (R356). -/
def PortSt.delay (p : PortSt) : Nat := if p.delays.isEmpty then 0 else p.delays.foldl (· + ·) 0 / p.delays.length

/-! ## Mutes (R363, R364) -/

/-- A mute names the sender. -/
def muteHits (m : Mute) (sender : Nat) : Bool :=
  if m.mask = 0xF8 then idNode m.target == idNode sender else m.target == sender

/-- Two mutes name the same target. -/
def sameTarget (a b : Mute) : Bool :=
  a.mask == b.mask && (if a.mask = 0xF8 then idNode a.target == idNode b.target else a.target == b.target)

/-- The mute is in force. -/
def muteActive (m : Mute) : Bool := m.endAt.isSome

/-- The frame is muted: never a guardian's own, a COMMAND or a MUTE frame. -/
def GuardianSt.muted (G : GuardianSt) (f : FlockFrame) : Bool :=
  f.typ != 3 && f.typ != 4 && idSource f.sender != 0 && G.mutes.any fun m => muteActive m && muteHits m f.sender

/-- The Shepherd logs a mute of its lane, by the frame's TYPE at level 0 (R364, log entry 118). -/
def LaneSt.logMute (L : LaneSt) (b : Bool) : LaneSt :=
  if b then { L with fc := { L.fc with log := (0x0004#16, 0, L.time) :: L.fc.log } } else L

/-- MUTED bits of the lanes (R364), and the log. -/
def State.showMuted (s : State) (g : Gdn) : State :=
  let G := s.gdn g
  let f := fun (i : Nat) (L : LaneSt) =>
    let b := G.mutes.any fun m => muteActive m && muteHits m (G.node * 8 + i + 1)
    let fld := match g with
      | .X => Reg.FLK_GUARD_STAT_MUTED
      | .Y => Reg.FLK_GUARD_STAT_Y.bit 12
    if L.up then (L.logMute (b && !L.on fld)).put fld b else L
  { s with lanes := ⟨f 0 s.lanes.a, f 1 s.lanes.b, f 2 s.lanes.c⟩ }

/-- The 16-bit CYCLES of a MUTE payload. -/
def muteCycles (f : FlockFrame) : Nat := (f.payload.getD 2 0#8).toNat + 256 * (f.payload.getD 3 0#8).toNat

/-- A MUTE that may act (R363), under the group key `key`. -/
def GuardianSt.muteOk (G : GuardianSt) (key : List Byte) (f : FlockFrame) : Bool :=
  let w := frWin f G.sched
  let mask := (f.payload.getD 1 0#8).toNat
  frAuthentic key f && frFormOk f && f.typ == 4 && w.typ == wCommand && w.sender == f.sender && frInWindow f G.sched G.margin &&
  G.hosts.contains f.sender && f.payload.length == 4 && (mask == 0xFF || mask == 0xF8) && decide (muteCycles f ≤ 1000)

/-- Place of the mute that ends first. -/
def soonest (ms : List Mute) : Nat :=
  let key := fun (m : Mute) => m.endAt.getD ((m.startAt + 63) / 64 * 64 + 64 * m.cycles)
  let lo := (ms.map key).foldl min ((ms.map key).headD 0)
  (ms.findIdx? fun m => key m == lo).getD 0

/-- Hold a new mute: one of the same target replaces it at its start; a ninth replaces the one closest to expiry. -/
def GuardianSt.addMute (G : GuardianSt) (m : Mute) : GuardianSt :=
  let held := G.mutes.filter fun x => x.cycles != 0 && !(muteActive x && G.mutes.any fun y => !muteActive y && sameTarget x y)
  let ms := if decide (8 ≤ held.length) && m.cycles != 0 && !(G.mutes.any fun x => sameTarget x m)
    then G.mutes.eraseIdx (soonest G.mutes) else G.mutes
  { G with mutes := ms ++ [m], muteRx := (G.muteRx + 1) % 256 }

/-- MUTE_FRAME (R363): `n` is the basic cycle of its receipt. One that fails a check is dropped and counted. -/
def execMuteFrame (g : Gdn) (f : FlockFrame) (n : Nat) (s : State) : Out :=
  withGdn g s fun s => s.updGdn g fun G =>
    if G.muteOk (s.groupKey g) f then
      G.addMute { target := (f.payload.getD 0 0#8).toNat, mask := (f.payload.getD 1 0#8).toNat, cycles := muteCycles f
                  startAt := n + 1, endAt := none }
    else { G with drops := (G.drops + 1) % 256 }

/-- End of the CYCLES-th complete matrix cycle that follows the start (R364). -/
def Mute.endOf (m : Mute) : Nat := (m.startAt + 63) / 64 * 64 + 64 * m.cycles

/-- MUTE_START (R364): pending mutes take force at a basic-cycle start; CYCLES 0 cancels. -/
def GuardianSt.startMutes (G : GuardianSt) (n : Nat) : GuardianSt :=
  let due := G.mutes.filter fun m => !muteActive m && decide (m.startAt ≤ n)
  let rest := G.mutes.filter fun m => !(!muteActive m && decide (m.startAt ≤ n))
  let kept := rest.filter fun m => !(due.any fun d => sameTarget d m)
  { G with mutes := kept ++ (due.filter fun m => decide (m.cycles ≠ 0)).map fun m => { m with endAt := some m.endOf } }

/-- MUTE_START. -/
def execMuteStart (g : Gdn) (n : Nat) (s : State) : Out :=
  withGdn g s fun s => (s.updGdn g fun G => G.startMutes n).showMuted g

/-- MUTE_EXPIRY (R364). -/
def execMuteExpiry (g : Gdn) (n : Nat) (s : State) : Out :=
  withGdn g s fun s => (s.updGdn g fun G => { G with mutes := G.mutes.filter fun m =>
    match m.endAt with
    | some e => decide (n < e)
    | none => true }).showMuted g

/-! ## Delivery (R353, R361, R365) -/

/-- The frame's window is arbitrating. -/
def GuardianSt.arb (G : GuardianSt) (f : FlockFrame) : Bool := (frWin f G.sched).typ == wArb

/-- A frame goes to an egress: at once, or into the queue of its arbitrating window. -/
def GuardianSt.give (G : GuardianSt) (e : Egress) (f : FlockFrame) (t : Nat) : GuardianSt :=
  if G.arb f then { G with queue := G.queue ++ [{ egress := e, frame := f, arrival := t }] } else G.send e f

/-- Lanes to which a frame from the ring goes: always for SYNC, COLDSTART, COMMAND and MUTE; DATA where a buffer is bound. -/
def State.takers (s : State) (f : FlockFrame) : List Lane :=
  [Lane.A, Lane.B, Lane.C].filter fun l =>
    let L := s.lane l
    L.up && (f.typ != 0 || (List.range 32).any fun b => L.bound b 0 f.chY (f.window % 48) (f.matrix % 64))

/-- Satellites to which the guardian delivers a frame (R365). -/
def GuardianSt.satTakers (G : GuardianSt) (f : FlockFrame) : List Nat :=
  [1, 2, 3, 4].filter fun n =>
    (G.sats.getD (n - 1) .reset).up && (f.typ == 1 || f.typ == 2 || (f.typ == 0 && G.satWins.contains (n, f.window % 48)))

/-- Deliver to lanes and satellites: the delay of the link is added to CORR (R333). -/
def GuardianSt.deliver (G : GuardianSt) (g : Gdn) (ls : List Lane) (ns : List Nat) (f : FlockFrame) (t : Nat) : GuardianSt :=
  let out := fun (src : Src) => addCorr f (Config.linkDelay (gdnIx g) (srcIx src))
  let G := ls.foldl (fun G l => G.give (.lane l) (out (.lane l)) t) G
  ns.foldl (fun G n => G.give (.sat n) (out (.sat n)) t) G

/-- Hold a frame bound for a broken port, while the loop is set up, in the 16 KiB loop buffer (R354). -/
def GuardianSt.hold (G : GuardianSt) (p : Port) (f : FlockFrame) (t : Nat) : GuardianSt :=
  let used := (G.held.map fun h => h.2.1.payload.length + 50).foldl (· + ·) 0
  if used + f.payload.length + 50 ≤ 16384 then { G with held := G.held ++ [(p, f, t)] } else G

/-- Send a frame that is bound for east: east; out west with LOOPED when the east port is looped; held while that loop is set
up (R351, R354). The loop buffer has 16 KiB. -/
def GuardianSt.eastward (G : GuardianSt) (f : FlockFrame) (t : Nat) : GuardianSt :=
  if G.east.loop then G.give (.port .west) { f with looped := true } t
  else if G.east.broken then G.hold .east f t
  else G.give (.port .east) f t

/-! ## Ring ingress (R352, R360) -/

/-- Block a ring port for 100 ms (R360). -/
def GuardianSt.block (G : GuardianSt) (p : Port) (t : Nat) : GuardianSt :=
  G.setPort p { G.port p with blocked := some (t + 100000000) }

/-- A failed frame: dropped, counted; more than 8 in a basic cycle block the port. -/
def GuardianSt.failFrame (G : GuardianSt) (p : Port) (t : Nat) : GuardianSt :=
  let x := G.port p
  let n := if x.failAt = cycleOf t then x.fails + 1 else 1
  let G := { G.setPort p { x with fails := n, failAt := cycleOf t } with drops := (G.drops + 1) % 256 }
  if 8 < n then G.block p t else G

/-- Age at arrival above 50 µs (R352). -/
def GuardianSt.tooOld (G : GuardianSt) (f : FlockFrame) (t : Nat) : Bool := !G.arb f && decide (f.txTime + 50000 < t)

/-- The guardian is SYNCED, or PASSIVE: it checks windows. -/
def GuardianSt.synced (G : GuardianSt) : Bool := G.keeper.st == kSynced || G.keeper.st == kPassive

/-- The header checks of R360. A guardian that listens has no global time to measure an age by (log entry 118). -/
def GuardianSt.headerOk (G : GuardianSt) (f : FlockFrame) (t : Nat) : Bool :=
  let m := cycleOf t % 64
  f.version == 1 && decide (f.typ ≤ 4) &&
  (if G.synced then
    f.typ != 2 && frPermitted f G.sched && (f.matrix % 64 == m || f.matrix % 64 == (m + 63) % 64) &&
    frInWindow f G.sched G.margin && !G.tooOld f t
  else (f.typ == 1 || f.typ == 2) && (G.keeper.st == kListen || !G.tooOld f t))

/-- A frame as the guardian passes it on: residence and link delay added to CORR, HOPS counted (R333, R352). -/
def GuardianSt.pass (G : GuardianSt) (p : Port) (f : FlockFrame) : FlockFrame × GuardianSt :=
  let r := G.residence
  ({ (addCorr f (r.1 + (G.port p).delay)) with hops := min (f.hops + 1) 15 }, r.2)

/-- A frame from east at the guardian whose west port is looped: delivered, and back out east; its own is removed (R352). -/
def GuardianSt.loopBack (G : GuardianSt) (g : Gdn) (ls : List Lane) (f : FlockFrame) (t : Nat) : GuardianSt :=
  if idNode f.sender = G.node then G
  else (G.deliver g ls (G.satTakers f) f t).give (.port .east) { f with looped := true } t

/-- The routing table of R352. -/
def State.route (s : State) (g : Gdn) (p : Port) (f : FlockFrame) (t : Nat) : State :=
  let own := idNode f.sender == (s.gdn g).node
  let ls := s.takers f
  s.updGdn g fun G =>
    let x := G.pass p f
    let G := x.2
    let f := x.1
    match p with
    | .west => if own then G else (G.deliver g ls (G.satTakers f) f t).eastward f t
    | .east =>
      if G.west.loop then G.loopBack g ls f t
      else if G.west.broken then G.hold .west f t
      else G.give (.port .west) f t

/-- GUARDIAN_RING_FRAME: `bytes` is the length of the whole transmission. -/
def execGuardianRingFrame (g : Gdn) (p : Port) (f : FlockFrame) (bytes t : Nat) (s : State) : Out :=
  withGdn g s fun s =>
    let s := s.updGdn g fun G => { G with time := t }
    let G := s.gdn g
    if (G.port p).broken ∨ (G.port p).blocked.isSome then s
    else if 1100 < bytes then s.updGdn g fun G => G.block p t
    else if !G.headerOk f t then s.updGdn g fun G => G.failFrame p t
    else if G.muted f then s
    else s.route g p f t

/-- PORT_UNBLOCK (R360): after 100 ms; the link is then retried (R354). -/
def execPortUnblock (g : Gdn) (p : Port) (t : Nat) (s : State) : Out :=
  withGdn g s fun s => s.updGdn g fun G =>
    match (G.port p).blocked with
    | some u => if u ≤ t then G.setPort p { G.port p with blocked := none } else G
    | none => G

/-! ## Local ingress (R358, R359) -/

/-- The source is blocked. -/
def GuardianSt.srcBlocked (G : GuardianSt) (id : Nat) : Bool := G.truncs.any fun r => r.sender == id && r.blockedTo.isSome

/-- A truncation of source `id` in basic cycle `n` (R358, R359): three in a row block it to the end of the next matrix cycle. -/
def GuardianSt.truncate (G : GuardianSt) (id n : Nat) : GuardianSt :=
  let old := G.truncs.find? fun r => r.sender == id
  let run := match old with
    | some r => if r.lastAt = n then r.run else if r.lastAt + 1 = n then r.run + 1 else 1
    | none => 1
  let until_ := match old with
    | some r => r.blockedTo
    | none => none
  let r : TruncRec := { sender := id, lastAt := n, run := run, blockedTo := if 3 ≤ run then some ((n / 64 + 2) * 64) else until_ }
  { G with truncs := r :: G.truncs.filter fun x => x.sender != id, trunc := (G.trunc + 1) % 256 }

/-- A truncation, which every lane raises (R358). -/
def State.truncated (s : State) (g : Gdn) (id n : Nat) : State :=
  (s.updGdn g fun G => G.truncate id n).raiseAll 0x0908 id

/-- Lanes other than the source. -/
def otherThan (src : Src) : List Lane :=
  [Lane.A, Lane.B, Lane.C].filter fun l => src != .lane l

/-- Limits of the window that a frame names, at the basic cycle of `start`: earliest start and latest end (R346, R358). -/
def GuardianSt.limits (G : GuardianSt) (f : FlockFrame) (start : Nat) : Nat × Nat :=
  let w := frWin f G.sched
  let c := cycleStart (start + G.margin)
  (c + w.start * 100 - G.margin, c + (w.start + w.len) * 100 + G.margin)

/-- A frame of the node as the guardian passes it on: residence and the delay of its link (R333). -/
def GuardianSt.passLocal (G : GuardianSt) (g : Gdn) (src : Src) (f : FlockFrame) : FlockFrame × GuardianSt :=
  let r := G.residence
  (addCorr f (r.1 + Config.linkDelay (gdnIx g) (srcIx src)), r.2)

/-- Forward a frame of the node: to the other lanes and, as R365 lists, the other satellites at once, and onto the ring (R351, R353). -/
def GuardianSt.emit (G : GuardianSt) (g : Gdn) (src : Src) (f : FlockFrame) (t : Nat) : GuardianSt :=
  let x := G.passLocal g src f
  (x.2.deliver g (otherThan src) ((x.2.satTakers f).filter fun n => src != .sat n) x.1 t).eastward x.1 t

/-- What the guardian does with a transmission of its node from `start` to `stop`. One that still arrives at window end + MARGIN leaves
as copies with a complemented FCS; the end itself is WINDOW_END_CUTOFF (R358). -/
def State.localFrame (s : State) (g : Gdn) (src : Src) (f : FlockFrame) (start stop : Nat) : State :=
  let G := s.gdn g
  let id := G.srcId src
  let k := G.keeper.st
  if f.typ = 7 then s.updGdn g fun G =>
    let x := G.passLocal g src f
    x.2.deliver g (otherThan src) [] x.1 start
  else if G.srcBlocked id ∨ k = kPassive then s
  else if k ≠ kSynced then
    if f.sender = id ∧ (f.typ = 1 ∨ f.typ = 2) then s.updGdn g fun G => G.emit g src f start else s
  else if G.muted { f with sender := id } then s
  else
    let lim := G.limits f start
    let here := decide (cycleOf (start + G.margin) % 64 = f.matrix % 64) && frPermitted f G.sched && f.sender == id
    if !here ∨ start < lim.1 ∨ lim.2 < start then s.truncated g id (cycleOf start)
    else if stop ≤ lim.2 then s.updGdn g fun G => G.emit g src f start
    else s.updGdn g fun G =>
      { (G.emit g src { f with fcsOk := false } start) with running := G.running ++ [(src, f.window % 48, f.matrix % 64)] }

/-- GUARDIAN_LOCAL_FRAME. -/
def execGuardianLocalFrame (g : Gdn) (src : Src) (f : FlockFrame) (start stop : Nat) (s : State) : Out :=
  withGdn g s fun s => (s.updGdn g fun G => { G with time := start }).localFrame g src f start stop

/-- WINDOW_END_CUTOFF (R358): a transmission still arriving is cut off; its copies end with a complemented FCS. -/
def execWindowEndCutoff (g : Gdn) (src : Src) (w m t : Nat) (s : State) : Out :=
  withGdn g s fun s =>
    if (s.gdn g).running.contains (src, w, m) then
      (s.updGdn g fun G => { G with running := G.running.filter (· != (src, w, m)) }).truncated g ((s.gdn g).srcId src) (cycleOf t)
    else s

/-- SOURCE_UNBLOCK (R359): at basic cycle `n`. -/
def execSourceUnblock (g : Gdn) (src : Src) (n : Nat) (s : State) : Out :=
  withGdn g s fun s => s.updGdn g fun G => { G with truncs := G.truncs.filter fun r =>
    !(r.sender == G.srcId src && (match r.blockedTo with
      | some u => decide (u ≤ n)
      | none => false)) }

/-! ## Breaks and healing (R354 to R356) -/

/-- Copy a guardian's ports to the lanes (R373). -/
def portNibble (x : PortSt) : Nat :=
  let b := fun (c : Bool) (n : Nat) => if c then n else 0
  b (x.link && !x.broken) 1 + b x.loop 2 + b x.blocked.isSome 4 + b x.rateLow 8

/-- FLK_RING_STAT and FLK_RING_DLY of a powered lane. -/
def LaneSt.showPorts (L : LaneSt) (g : Gdn) (G : GuardianSt) : LaneSt :=
  let i := gdnIx g
  let put2 := fun (f : Fld) (k w a b : Nat) (L : LaneSt) => (L.wr (f.part (2 * w * k) w) a).wr (f.part (2 * w * k + w) w) b
  let L := put2 Reg.FLK_RING_STAT_PORTS i 4 (portNibble G.east) (portNibble G.west) L
  put2 Reg.FLK_RING_DLY_DLY i 8 (min G.east.delay 255) (min G.west.delay 255) L

/-- Show a guardian's ports in every powered lane. -/
def State.showPorts (s : State) (g : Gdn) : State :=
  let G := s.gdn g
  let f := fun (L : LaneSt) => if L.up then L.showPorts g G else L
  { s with lanes := ⟨f s.lanes.a, f s.lanes.b, f s.lanes.c⟩ }

/-- The port meets a condition of R354. -/
def breakHolds (x : PortSt) : BreakWhy → Bool
  | .noLock us => decide (2 ≤ us)
  | .belowRate => true
  | .pdelayLost => decide (2 ≤ x.missed)
  | .blocked => x.blocked.isSome

/-- PORT_BROKEN (R354): 0x0901 in the module's lanes. -/
def execPortBroken (g : Gdn) (p : Port) (why : BreakWhy) (t : Nat) (s : State) : Out :=
  withGdn g s fun s =>
    let x := (s.gdn g).port p
    if breakHolds x why ∧ !x.broken then
      let low := match why with
        | .belowRate => true
        | _ => x.rateLow
      ((s.updGdn g fun G => { G.setPort p { x with link := false, broken := true, rateLow := low, answered := 0
                                                   retryAt := some (t + 100000000) } with time := t }).raiseAll 0x0901
        (portDetail g (portCode p))).showPorts g
    else s

/-- LOOP_ESTABLISHED (R354): held frames not older than 50 µs are sent. -/
def execLoopEstablished (g : Gdn) (p : Port) (t : Nat) (s : State) : Out :=
  withGdn g s fun s =>
    (s.updGdn g fun G =>
      let x := G.port p
      if x.broken ∧ !x.loop then
        let G := { G.setPort p { x with loop := true } with time := t }
        let live := G.held.filter fun h => h.1 == p && decide (t ≤ h.2.1.txTime + 50000)
        live.foldl (fun G h =>
          let f := addCorr h.2.1 (ticksFrom h.2.2 t)
          match p with
          | .east => G.give (.port .west) { f with looped := true } t
          | .west => G.loopBack g (s.takers f) f t) { G with held := G.held.filter fun h => h.1 != p }
      else G).showPorts g

/-- LOOP_RELEASE (R356): at a matrix-cycle start `n`, once the link runs and two PDELAY exchanges have succeeded. -/
def execLoopRelease (g : Gdn) (p : Port) (n : Nat) (s : State) : Out :=
  withGdn g s fun s =>
    let x := (s.gdn g).port p
    if x.loop ∧ x.link ∧ !x.rateLow ∧ 2 ≤ x.answered ∧ n % 64 = 0 then
      let s := (s.updGdn g fun G => { G.setPort p { x with loop := false, broken := false } with heals := (G.heals + 1) % 256 }).showPorts g
      let f := fun (L : LaneSt) => if L.up then L.inc Reg.FLK_RING_STAT_HEALS else L
      { s with lanes := ⟨f s.lanes.a, f s.lanes.b, f s.lanes.c⟩ }
    else s

/-- RING_NEGOTIATION (R106): the rate that auto-negotiation gave, 0 to 2, against the design rate. -/
def execRingNegotiation (g : Gdn) (p : Port) (rate : Option Nat) (t : Nat) (s : State) : Out :=
  withGdn g s fun s =>
    let G := s.gdn g
    let x := G.port p
    let ok := decide (rate = some G.rate)
    let low := match rate with
      | some r => decide (r < G.rate)
      | none => false
    if ok then (s.updGdn g fun G => G.setPort p { x with link := true, rateLow := false, retryAt := none }).showPorts g
    else
      ((s.updGdn g fun G => G.setPort p { x with link := false, rateLow := low, broken := true, answered := 0
                                                 retryAt := some (t + 100000000) }).raiseAll 0x0901
        (portDetail g (portCode p))).showPorts g

/-- LINK_RETRY (R106): 100 ms after a failure the negotiation of a ring port starts anew, its next retry 100 ms on; at a satellite port
the next SATELLITE_HELLO may come. -/
def execLinkRetry (g : Gdn) (e : Egress) (t : Nat) (s : State) : Out :=
  withGdn g s fun s => s.updGdn g fun G =>
    match e with
    | .port p =>
      match (G.port p).retryAt with
      | some u => if u ≤ t then G.setPort p { G.port p with retryAt := some (t + 100000000), missed := 0, answered := 0 } else G
      | none => G
    | .sat n =>
      let x := G.sats.getD (n - 1) .reset
      match x.retryAt with
      | some u =>
        if u ≤ t ∧ 1 ≤ n ∧ n ≤ 4 then { G with sats := G.sats.set (n - 1) { x with retryAt := none, missed := 0 } } else G
      | none => G
    | .lane _ => G

/-- PDELAY_REQUEST (R356): at macrotick 2,420 on each ring port. A request still open has gone unanswered. -/
def PortSt.request (x : PortSt) (pseq t : Nat) : PortSt :=
  let lost := x.req.isSome
  { x with req := some (pseq, t), missed := if lost then x.missed + 1 else x.missed, answered := if lost then 0 else x.answered }

/-- A frame of the guardian's own, source 0, with its tag (R331, R334). -/
def GuardianSt.ownFrame (G : GuardianSt) (g : Gdn) (key : List Byte) (typ t : Nat) (data : List Byte) : FlockFrame :=
  sealFrame key
    { version := 1, typ := typ, sender := G.node * 8, chY := g == .Y, looped := false, localSync := false, startup := false, hops := 0
      window := 0, matrix := cycleOf t % 64, txTime := t, corr := 0, priority := 0, seq := G.seq, payload := data, tag := 0
      fcsOk := true }

/-- Send a frame of the guardian's own. -/
def GuardianSt.sendOwn (G : GuardianSt) (g : Gdn) (key : List Byte) (e : Egress) (typ t : Nat) (data : List Byte) : GuardianSt :=
  { (G.send e (G.ownFrame g key typ t data)) with seq := (G.seq + 1) % 65536 }

/-- The PDELAY payload: KIND, PSEQ, t1 of a request or t2 of a response, t3 (R356). -/
def pdelayBytes (kind pseq ta tb : Nat) : List Byte :=
  leBytes 1 kind ++ leBytes 1 0 ++ leBytes 2 pseq ++ leBytes 4 0 ++ leBytes 8 ta ++ leBytes 8 tb ++ leBytes 8 0

/-- PDELAY_REQUEST. -/
def execPdelayRequest (g : Gdn) (t : Nat) (s : State) : Out :=
  withGdn g s fun s => s.updGdn g fun G =>
    if t % 250000 = 242000 then
      let q := (G.pseq + 1) % 65536
      let G := { G with time := t, pseq := q, east := G.east.request q t, west := G.west.request q t }
      let key := s.groupKey g
      (G.sendOwn g key (.port .east) 6 t (pdelayBytes 1 q t 0)).sendOwn g key (.port .west) 6 t (pdelayBytes 1 q t 0)
    else G

/-- ((t4 − t1) − (t3 − t2)) / 2 in microticks (R356). -/
def linkDelay (t1 t2 t3 t4 : Nat) : Nat := (((t4 : Int) - t1 - ((t3 : Int) - t2)) * 4).toNat / 10

/-- A response that answers the request outstanding on a port: the delay is the mean of the last 16 exchanges (R356). -/
def PortSt.takeResponse (x : PortSt) (pseq t2 t3 t4 : Nat) : PortSt :=
  match x.req with
  | some (q, t1) =>
    if q = pseq then { x with req := none, missed := 0, answered := x.answered + 1, delays := (linkDelay t1 t2 t3 t4 :: x.delays).take 16 }
    else x
  | none => x

/-- PDELAY_FRAME (R356): answer a request at once, on the same port, or take a response. -/
def execPdelayFrame (g : Gdn) (p : Port) (f : FlockFrame) (t : Nat) (s : State) : Out :=
  withGdn g s fun s =>
    (s.updGdn g fun G =>
      let key := s.groupKey g
      let at_ := fun (o n : Nat) => leNum ((f.payload.drop o).take n)
      if !frAuthentic key f || !frFormOk f || f.typ != 6 || f.payload.length != 32 then G
      else if at_ 0 1 = 1 then { G with time := t }.sendOwn g key (.port p) 6 t (pdelayBytes 2 (at_ 2 2) t t)
      else if at_ 0 1 = 2 then G.setPort p ((G.port p).takeResponse (at_ 2 2) (at_ 8 8) (at_ 16 8) t)
      else G).showPorts g

/-! ## Arbitrating windows (R361, R362) -/

/-- `a` ranks above `b`: commands first, then higher PRIORITY, lower SENDER, earlier arrival. -/
def outranks (a b : Queued) : Bool :=
  let cmd := fun (q : Queued) => q.frame.typ == 3 || q.frame.typ == 4
  if cmd a != cmd b then cmd a
  else if a.frame.priority ≠ b.frame.priority then decide (b.frame.priority < a.frame.priority)
  else if a.frame.sender ≠ b.frame.sender then decide (a.frame.sender < b.frame.sender)
  else decide (a.arrival < b.arrival)

/-- The highest-ranking of a list. -/
def topRank : List Queued → Option Queued
  | [] => none
  | q :: qs => some (qs.foldl (fun best x => if outranks x best then x else best) q)

/-- Frame time at an egress in ns: 100 Mbit/s for a satellite, 1 Gbit/s for a lane, the design rate on the ring (R329). -/
def GuardianSt.frameTime (G : GuardianSt) (e : Egress) (f : FlockFrame) : Nat :=
  let bits := (max f.payload.length 14 + 70) * 8
  match e with
  | .sat _ => bits * 10
  | .lane _ => bits
  | .port _ => match G.rate with
    | 0 => bits * 10
    | 1 => bits
    | _ => bits * 2 / 5

/-- ARB_EGRESS_SEND: a free egress sends the highest-ranking frame whose last bit leaves by window end. -/
def execArbEgressSend (g : Gdn) (e : Egress) (t : Nat) (s : State) : Out :=
  withGdn g s fun s => s.updGdn g fun G =>
    match topRank (G.queue.filter fun q => q.egress == e) with
    | some q =>
      let w := frWin q.frame G.sched
      if t + G.frameTime e q.frame ≤ cycleStart t + (w.start + w.len) * 100 then
        { (G.send e (addCorr q.frame (ticksFrom q.arrival t))) with queue := G.queue.erase q, time := t } else G
    | none => G

/-- ARB_WINDOW_END: drop what is queued for the window, and report each drop to its sender of this module. -/
def execArbWindowEnd (g : Gdn) (w m : Nat) (s : State) : Out :=
  withGdn g s fun s =>
    let G := s.gdn g
    let hit := fun (q : Queued) => q.frame.window % 48 == w && q.frame.matrix % 64 == m
    let gone := G.queue.filter hit
    let count := fun (src : Nat) => (gone.filter fun q => q.frame.sender == G.node * 8 + src).length
    let s := s.updGdn g fun G => { G with
      queue := G.queue.filter fun q => !hit q
      sats := (List.range 4).map fun n =>
        let x := G.sats.getD n .reset
        { x with dropped := x.dropped + count (4 + n) } }
    let f := fun (i : Nat) (L : LaneSt) => if L.up then L.inc Reg.FLK_ARB_STAT_DROPPED (count (i + 1)) else L
    { s with lanes := ⟨f 0 s.lanes.a, f 1 s.lanes.b, f 2 s.lanes.c⟩ }

/-! ## Satellites (R107, R366) -/

/-- Replace satellite port `n`, 1 to 4. -/
def GuardianSt.setSat (G : GuardianSt) (n : Nat) (x : SatSt) : GuardianSt := { G with sats := G.sats.set (n - 1) x }

/-- The HELLO payload that the guardian sends at port `n` (R366). -/
def GuardianSt.helloBytes (G : GuardianSt) (n : Nat) : List Byte :=
  leBytes 1 1 ++ leBytes 1 1 ++ leBytes 1 n ++ leBytes 1 G.node ++ leBytes 4 0x1F ++
  leBytes 2 (min (G.sats.getD (n - 1) .reset).dropped 0xFFFF) ++ leBytes 2 0

/-- A port becomes one without a satellite, retried after 100 ms (R106). -/
def SatSt.gone (t : Nat) : SatSt := { SatSt.reset with retryAt := some (t + 100000000) }

/-- SATELLITE_HELLO (R107, R366): the guardian sends its HELLO at `t`, on link-up or once per matrix cycle, and takes the answer, its
versions and capabilities, after `ms`. The module supports version 1 only. -/
def execSatelliteHello (g : Gdn) (n vmin vmax : Nat) (caps : BitVec 32) (ms t : Nat) (s : State) : Out :=
  withGdn g s fun s =>
    let x := (s.gdn g).sats.getD (n - 1) .reset
    let early := if x.up then x.helloAt == some (cycleOf t / 64) else match x.retryAt with
      | some u => decide (t < u)
      | none => false
    if n < 1 ∨ 4 < n ∨ early then s
    else
      let s := s.updGdn g fun G => { G with time := t }.sendOwn g (s.groupKey g) (.sat n) 5 t (G.helloBytes n)
      let told := { x with dropped := 0, helloAt := some (cycleOf t / 64) }
      if 10 < ms then
        s.updGdn g fun G => G.setSat n (if x.up then { told with missed := x.missed + 1 } else .gone t)
      else if vmin ≤ 1 ∧ 1 ≤ vmax then
        s.updGdn g fun G =>
          G.setSat n { told with up := true, version := 1, caps := caps &&& 0x1F#32 &&& G.offered, missed := 0, retryAt := none }
      else (s.updGdn g fun G => G.setSat n (.gone t)).raiseAll 0x0906 (portDetail g (1 + n))

/-- SATELLITE_LOST (R366): three missed answers; the exchange of R107 then runs again. -/
def execSatelliteLost (g : Gdn) (n : Nat) (s : State) : Out :=
  withGdn g s fun s =>
    let x := (s.gdn g).sats.getD (n - 1) .reset
    if 1 ≤ n ∧ n ≤ 4 ∧ x.up ∧ 3 ≤ x.missed then
      (s.updGdn g fun G => G.setSat n { SatSt.gone G.time with retryAt := none }).raiseAll 0x0906 (portDetail g (1 + n))
    else s

/-! ## Status words (R368) and loss of power (R13, R48) -/

/-- What the lane holds of a guardian's last words. -/
def LaneSt.gword (L : LaneSt) (g : Gdn) : GWord :=
  match g with
  | .X => L.flk.gx
  | .Y => L.flk.gy
def LaneSt.setGword (L : LaneSt) (g : Gdn) (w : GWord) : LaneSt :=
  match g with
  | .X => L.updFlk fun f => { f with gx := w }
  | .Y => L.updFlk fun f => { f with gy := w }

/-- FLK_GUARD_STAT field of a guardian. -/
def guardFld (g : Gdn) (lo w : Nat) : Fld := ⟨0x40090404, 16 * gdnIx g + lo, w⟩

/-- Copy the word's content (R373). A guardian that passes its self-test ends its consequence mask (R300). -/
def LaneSt.takeWord (L : LaneSt) (g : Gdn) (G : GuardianSt) (selfOk : Bool) : LaneSt :=
  let L := ((L.wr (guardFld g 0 1) 1).wr (guardFld g 3 3) G.keeper.st).wr (guardFld g 8 4)
    ((List.range 4).foldl (fun n i => n + if (G.sats.getD i .reset).up then 2 ^ i else 0) 0)
  let L := (L.wr (guardFld g 2 1) (if selfOk then 1 else 0)).showPorts g G
  let L := L.setGword g { L.gword g with missing := 0, trunc := G.trunc, drops := G.drops, mutes := G.muteRx }
  let L := ((L.wr Reg.FLK_GUARD_CNT_TRUNC (L.flk.gx.trunc + L.flk.gy.trunc)).wr Reg.FLK_GUARD_CNT_RING_DROP
    (L.flk.gx.drops + L.flk.gy.drops)).wr Reg.FLK_GUARD_CNT_MUTE_RX (L.flk.gx.mutes + L.flk.gy.mutes)
  if selfOk && !(L.fc.closing.any fun c => c.1 == 14 + gdnIx g) then L.endMask (14 + gdnIx g) else L

/-- A failed guardian (R368, R300). -/
def LaneSt.guardFault (L : LaneSt) (g : Gdn) : LaneSt := (L.openMask (14 + gdnIx g)).raise 0x0904 (portDetail g 15)

/-- GUARDIAN_STATUS_WORD (R368): the word of this basic cycle, which the guardian sends at macrotick 2,480 of its own time `gt`, or its
absence; `t` is the lane's time. -/
def execGuardianStatusWord (l : Lane) (g : Gdn) (present selfOk : Bool) (gt t : Nat) (s : State) : Out :=
  let G := s.gdn g
  onLane l t s fun L =>
    if present && G.powered && gt % 250000 == 248000 then
      let L := L.takeWord g G selfOk
      let both := G.keeper.st == kSynced && L.flk.keeper.st == kSynced
      let far := both && decide (1000 < absN ((gt : Int) - t))
      let n := if far then (L.gword g).apart + 1 else 0
      let L := L.setGword g { L.gword g with apart := n }
      if !selfOk || n == 2 then L.guardFault g else L
    else
      let n := (L.gword g).missing + 1
      let L := (L.wr (guardFld g 0 1) 0).setGword g { L.gword g with missing := n }
      if n = 2 then L.guardFault g else L

/-- GUARDIAN_POWER_LOSS (R13, R48): both supplying lanes are unpowered; its ports go link-down and it sends nothing. One that sleeps
wakes no lane any more. -/
def execGuardianPowerLoss (g : Gdn) (s : State) : Out :=
  let (a, b) := suppliers g
  if (s.lane a).st = stOff ∧ (s.lane b).st = stOff ∧ ((s.gdn g).powered ∨ (s.gdn g).asleep) then
    let off := { PortSt.reset with link := false, broken := true }
    let s := s.updGdn g fun G => { G with
      powered := false, keeper := .reset, east := off, west := off, sats := List.replicate 4 .reset, held := [], queue := []
      mutes := [], truncs := [], running := [], out := [], waking := .all false, asleep := false }
    let f := fun (L : LaneSt) => if L.up then L.openMask (14 + gdnIx g) else L
    .next { s with lanes := ⟨f s.lanes.a, f s.lanes.b, f s.lanes.c⟩ }
  else .next s

/-- A guardian whose supply comes up listens anew (R340). -/
def GuardianSt.powerUp (G : GuardianSt) : GuardianSt :=
  if G.powered then G
  else { G with powered := true, keeper := { KeeperSt.reset with since := G.time }, east := .reset, west := .reset }

end Sys2Proof.Machine
end

