-- ==== Sys2Proof/Machine/Drover.lean ====
section
/-! DEFINITION. The auxiliary axis of a lane, Drover (19). Velocities are in 1/625 microstep per second, so that one planner
period of 25 µs at ACCEL (64 microsteps/s² per LSB) adds exactly ACCEL. -/
namespace Sys2Proof.Machine

/-- Change the axis. -/
def LaneSt.updAux (L : LaneSt) (f : AuxSt → AuxSt) : LaneSt := { L with aux := f L.aux }

/-- A velocity in microsteps per second. -/
def auxV (n : Nat) : Int := 625 * (n : Int)

/-- Both bridges off: the coils carry nothing. -/
def LaneSt.coilsOff (L : LaneSt) (coils : Nat) : LaneSt :=
  ((L.wr Reg.AUX_STAT_COILS coils).put Reg.AUX_STAT_FREE true).updAux fun x => { x with ia := 0, ib := 0, va := 0, vb := 0 }

/-! ## Rest -/

/-- The velocity register (R445). -/
def LaneSt.setVel (L : LaneSt) (v : Int) : LaneSt :=
  (L.wrS Reg.AUX_VEL_VALUE (v.tdiv 625)).updAux fun x => { x with v := v }

/-- The axis comes to rest. A homing stop keeps STATE until the next phase; a halt ends what ran. -/
def LaneSt.rest (L : LaneSt) (onGoal : Bool) : LaneSt :=
  let hold := L.aux.haltHold
  let L := L.setVel 0
  match L.aux.run with
  | .home _ => L.updAux fun x => { x with halt := false, onGoal := onGoal }
  | _ =>
    let L := if L.rd Reg.AUX_STAT_STATE = 4 then L else L.wr Reg.AUX_STAT_STATE 0
    let L := if hold then L.holdCoils else L
    L.updAux fun x => { x with run := .idle, halt := false, haltHold := false, onGoal := onGoal, restAt := L.time }

/-- A motion starts: IRUN is restored and the coils run (R439); with VQUIET at 0 in strong mode (R438). -/
def LaneSt.startMotion (L : LaneSt) (run : AuxRun) (state : Nat) (goal : Int) : LaneSt :=
  let L := ((L.wr Reg.AUX_STAT_STATE state).wr Reg.AUX_STAT_COILS 0).put Reg.AUX_STAT_FREE false
  let L := if L.rd Reg.AUX_MODE_CFG_VQUIET = 0 then L.put Reg.AUX_STAT_STRONG true else L
  (L.updAux fun x => { x with run := run, goal := goal, onGoal := false, halt := false, haltHold := false }).driveCoils
    (L.rd Reg.AUX_CUR_IRUN)

/-- End a homing without reference (R437, R443). -/
def LaneSt.unref (L : LaneSt) : LaneSt := L.wr Reg.AUX_STAT_REF 0

/-! ## Commands (R437) -/

/-- A rejected command. -/
def LaneSt.auxReject (L : LaneSt) (code : Nat) : LaneSt := (L.put Reg.AUX_STAT_CMD_REJ true).wr Reg.AUX_STAT_REJECT code

/-- Homing runs. -/
def LaneSt.homing (L : LaneSt) : Bool :=
  match L.aux.run with
  | .home _ => true
  | _ => false

/-- A coil fault is latched. -/
def LaneSt.coilFaulted (L : LaneSt) : Bool := L.rd Reg.AUX_COIL_STAT_COIL_A != 0 || L.rd Reg.AUX_COIL_STAT_COIL_B != 0

/-- The axis is at standstill. -/
def LaneSt.auxStill (L : LaneSt) : Bool := L.aux.v == 0 && L.aux.run == .idle

/-- The direction `d` leads towards a tripped switch (R440). -/
def LaneSt.limited (L : LaneSt) (d : Int) : Bool :=
  (decide (d < 0) && L.on Reg.AUX_LIM_STAT_LIM1) || (decide (0 < d) && L.on Reg.AUX_LIM_STAT_LIM2)

/-- The signed 32-bit distance to `g` (R436). -/
def LaneSt.auxDist (L : LaneSt) (g : Int) : Int := signedOf 32 (bitsOf 32 (g - L.auxPos))

/-- The driver is supplied: the lane is up and AUX_x on (R51). -/
def LaneSt.auxOk (L : LaneSt) : Bool := L.up && L.pwr.auxOn

/-- A keyed AUX_CMD write (R445). -/
def auxCmd (l : Lane) (key : BitVec 16) (s : State) (f : LaneSt → LaneSt) : Out :=
  onLaneNow l s fun L => if key = 0x4E71#16 then f L else L.refuseWrite

/-- MOVE: to AUX_TARGET as it stands. The planner takes the command at its next period; until then a later command of the same
period replaces it, and STOP and HARDSTOP of that period win. -/
def execMove (l : Lane) (key : BitVec 16) (s : State) : Out :=
  auxCmd l key s fun L =>
    let g := L.rdS Reg.AUX_TARGET_TARGET
    if L.homing then L.auxReject 1
    else if L.coilFaulted then L.auxReject 2
    else if L.limited (L.auxDist g) then L.auxReject 3
    else if L.aux.stopped || !L.pwr.auxOn then L
    else L.updAux fun x => { x with wish := some (.move g) }

/-- STOP: decelerate to VSTOP, then stop; homing is aborted. -/
def LaneSt.auxStop (L : LaneSt) : LaneSt :=
  let L := if L.homing then L.unref else L
  let L := L.updAux fun x => { x with stopped := true, wish := none }
  if L.aux.v = 0 then
    if L.aux.run = .idle then L else (L.updAux fun x => { x with run := .stopping }).rest false
  else (L.wr Reg.AUX_STAT_STATE 2).updAux fun x => { x with run := .stopping }

/-- STOP. -/
def execStop (l : Lane) (key : BitVec 16) (s : State) : Out := auxCmd l key s LaneSt.auxStop

/-- HARDSTOP: at the next microstep. -/
def execHardstop (l : Lane) (key : BitVec 16) (s : State) : Out :=
  auxCmd l key s fun L =>
    let L := L.auxStop
    if L.aux.v = 0 then L else L.updAux fun x => { x with halt := true }

/-- Direction towards the homing switch. -/
def LaneSt.homeDir (L : LaneSt) : Int := if L.on Reg.AUX_LIM_CFG_HOME_SW then 1 else -1

/-- A target far in the direction `d`. -/
def farGoal (p d : Int) : Int := p + d * 0x7FFFFFFF

/-- HOME: taken at the next planner period, as MOVE is. -/
def execHome (l : Lane) (key : BitVec 16) (t : Nat) (s : State) : Out :=
  auxCmd l key s fun L =>
    if L.homing then L.auxReject 1
    else if L.coilFaulted then L.auxReject 2
    else if !L.auxStill then L.auxReject 4
    else if L.limited L.homeDir then L.auxReject 3
    else if L.aux.stopped || !L.pwr.auxOn then L
    else (L.tick t).updAux fun x => { x with wish := some (.home t) }

/-- The planner takes the command that governs its period (R437): MOVE ramps to its target, HOME begins phase 1 of R442. A stop at the
next microstep that is still to come goes first; a command that a trip has overtaken moves nothing (R440). -/
def LaneSt.takeWish (L : LaneSt) : LaneSt :=
  if L.aux.halt then L
  else match L.aux.wish with
  | none => L
  | some w =>
    let L := L.updAux fun x => { x with wish := none }
    match w with
    | .move g => if L.limited (L.auxDist g) then L else L.startMotion .move 1 g
    | .home t =>
      if !L.auxStill || L.limited L.homeDir then L
      else (L.startMotion (.home 1) 3 (farGoal L.auxPos L.homeDir)).unref.updAux fun x =>
        { x with homeAt := t, homeFrom := L.auxPos }

/-- CLEAR: a coil fault whose condition has gone, and REJECT (R443). -/
def execClear (l : Lane) (key : BitVec 16) (condGone : Bool) (s : State) : Out :=
  auxCmd l key s fun L =>
    let L := L.wr Reg.AUX_STAT_REJECT 0
    if condGone ∧ L.coilFaulted then
      ((L.wr Reg.AUX_COIL_STAT_COIL_A 0).wr Reg.AUX_COIL_STAT_COIL_B 0).wr Reg.AUX_STAT_STATE 0
    else L

/-- The staged table. -/
def LaneSt.staged (L : LaneSt) : List Nat := (List.range 256).map fun i => L.rd (Reg.AUX_MSTEP_TBL_T i)

/-- A table is valid when it starts at 0 and does not fall (R435). -/
def microValid (t : List Nat) : Bool := t.headD 1 == 0 && (t.zip t.tail).all fun p => decide (p.1 ≤ p.2)

/-- The entries of the active table. -/
def LaneSt.activeTable (L : LaneSt) : List Nat := L.aux.table.getD ((List.range 256).map defaultMicro)

/-- Bring TBL_EQ up to date. -/
def LaneSt.refreshTbl (L : LaneSt) : LaneSt := L.put Reg.AUX_STAT_TBL_EQ (L.staged == L.activeTable)

/-- A table due at a full step becomes active there (R435); so does a change of mode (R438). -/
def LaneSt.fullStep (L : LaneSt) : LaneSt :=
  if L.auxPos % 256 ≠ 0 then L
  else
    let L := match L.aux.nextStrong with
      | some b => (L.put Reg.AUX_STAT_STRONG b).updAux fun x => { x with nextStrong := none }
      | none => L
    match L.aux.nextTable with
    | some t => (L.updAux fun x => { x with table := some t, nextTable := none }).refreshTbl
    | none => L

/-- COMMIT_TBL: accepted in STANDBY; a table that is invalid, or an axis that moves, raises 0x0F05. -/
def execCommitTbl (l : Lane) (key : BitVec 16) (s : State) : Out :=
  auxCmd l key s fun L =>
    if L.st ≠ stStandby then L.auxReject 5
    else if !microValid L.staged then (L.auxReject 6).raise 0x0F05
    else if !L.auxStill then (L.auxReject 4).raise 0x0F05
    else (L.updAux fun x => { x with nextTable := some L.staged }).fullStep

/-! ## The ramp (R436) -/

/-- The axis must brake now to reach VSTOP within the distance `d`. -/
def mustBrake (v vstop decel : Int) (d : Nat) : Bool :=
  decide (50000000 * decel * (d : Int) ≤ v * v - vstop * vstop)

/-- Magnitude of the next velocity in a ramp of direction-wise distance `d` ahead, at most `vmax`. -/
def LaneSt.rampTo (L : LaneSt) (v : Int) (vmax : Int) (d : Nat) : Int :=
  let vstop := min (auxV (L.rd Reg.AUX_RAMP_V_VSTOP)) vmax
  let decel := ((L.rd Reg.AUX_RAMP_A_DECEL : Nat) : Int)
  if vmax < v then max vmax (v - decel)
  else if vstop < v && mustBrake v vstop decel d then max vstop (v - decel)
  else min vmax (v + L.rd Reg.AUX_RAMP_A_ACCEL)

/-- One planner period of a ramp to `goal` with the limit `vmax`. A target behind is reached by decelerating to VSTOP,
reversing and restarting from VSTART. -/
def LaneSt.rampStep (L : LaneSt) (vmax : Int) : LaneSt :=
  let d := L.auxDist L.aux.goal
  let v := L.aux.v
  let sg : Int := if d < 0 then -1 else 1
  let vstop := min (auxV (L.rd Reg.AUX_RAMP_V_VSTOP)) vmax
  let decel := ((L.rd Reg.AUX_RAMP_A_DECEL : Nat) : Int)
  if d = 0 && v == 0 then L.rest true
  else if v = 0 then
    let v0 := min (auxV (L.rd Reg.AUX_RAMP_V_VSTART)) vmax
    L.setVel (sg * (if v0 = 0 then min vmax (L.rd Reg.AUX_RAMP_A_ACCEL) else v0))
  else if 0 ≤ sg * v then L.setVel (sg * L.rampTo (absN v) vmax (absN d))
  else if (absN v : Int) ≤ vstop then L.setVel 0
  else L.setVel (-sg * max vstop ((absN v : Int) - decel))

/-- One planner period of a deceleration at DECEL to VSTOP and to rest. -/
def LaneSt.brakeStep (L : LaneSt) : LaneSt :=
  let v := L.aux.v
  let vstop := auxV (L.rd Reg.AUX_RAMP_V_VSTOP)
  let sg : Int := if v < 0 then -1 else 1
  if (absN v : Int) ≤ vstop then L.rest false
  else
    let w := (absN v : Int) - L.rd Reg.AUX_RAMP_A_DECEL
    if w ≤ vstop && vstop == 0 then L.rest false else L.setVel (sg * max vstop w)

/-- Quiet or strong by the speed (R438). -/
def LaneSt.chooseMode (L : LaneSt) : LaneSt :=
  let q := auxV (L.rd Reg.AUX_MODE_CFG_VQUIET)
  let v := (absN L.aux.v : Int)
  if q = 0 ∨ q ≤ v then L.updAux fun x => { x with nextStrong := some true }
  else if 16 * v < 15 * q then L.updAux fun x => { x with nextStrong := some false }
  else L

/-- One planner period of what the axis does. -/
def LaneSt.plan (L : LaneSt) : LaneSt :=
  match L.aux.run with
  | .idle => L
  | .move => L.rampStep (auxV (L.rd Reg.AUX_VMAX_VMAX))
  | .stopping => L.brakeStep
  | .home 1 => L.rampStep (auxV (L.rd Reg.AUX_HOME_V_VFAST))
  | .home 2 => if L.aux.v = 0 then L else L.brakeStep
  | .home 3 => if L.aux.onGoal then L else L.rampStep (auxV (L.rd Reg.AUX_HOME_V_VSLOW))
  | .home 4 => L.rampStep (auxV (L.rd Reg.AUX_HOME_V_VSLOW))
  | .home _ => if L.aux.v = 0 then L else L.brakeStep

/-- PLANNER_TICK (R436): every 25 µs. `slice4`: the slice in progress tests partition 4; planning then waits for its end, the step
generator keeps its velocity, and goes on with a stop that it started itself (R442, R444). -/
def execPlannerTick (l : Lane) (slice4 : Bool) (t : Nat) (s : State) : Out :=
  onLane l t s fun L =>
    if !L.pwr.auxOn then L
    else if L.chn.active && slice4 then
      match L.aux.run with
      | .home 2 => L.plan
      | .home 5 => L.plan
      | _ => L
    else ((L.takeWish.updAux fun x => { x with stopped := false }).plan).chooseMode

/-! ## Microsteps (R434, R442) -/

/-- A homing fails (R443): 0x0F03, decelerate, UNREFERENCED. -/
def LaneSt.homeFail (L : LaneSt) : LaneSt :=
  let L := (L.raise 0x0F03).unref
  if L.aux.v = 0 then (L.updAux fun x => { x with run := .stopping }).rest false
  else (L.wr Reg.AUX_STAT_STATE 2).updAux fun x => { x with run := .stopping }

/-- Phase 1 has travelled HOME_TMO × HOME_VFAST / 1,000 microsteps without a trip (R443). -/
def LaneSt.homeTooFar (L : LaneSt) : Bool :=
  L.aux.run == .home 1 &&
  decide (L.rd Reg.AUX_HOME_CFG_TMO * L.rd Reg.AUX_HOME_V_VFAST ≤
    1000 * absN (signedOf 32 (bitsOf 32 (L.auxPos - L.aux.homeFrom))))

/-- The axis has reached its target slowly enough to stop on it: at VSTOP, one planner period of DECEL allowed for the period
in which it arrives (log entry 19). -/
def LaneSt.arrives (L : LaneSt) : Bool :=
  let ramp := match L.aux.run with
    | .move => true
    | .home 3 => true
    | _ => false
  ramp && L.auxDist L.aux.goal == 0 &&
  decide ((absN L.aux.v : Int) ≤ auxV (L.rd Reg.AUX_RAMP_V_VSTOP) + 2 * L.rd Reg.AUX_RAMP_A_DECEL)

/-- After a microstep: a halt, an arrival, or too long a search. -/
def LaneSt.afterStep (L : LaneSt) : LaneSt :=
  if L.aux.halt then L.rest false
  else if L.arrives then L.rest true
  else if L.homeTooFar then L.homeFail
  else L

/-- Note the microstep that leaves position `p`; 2 ms of steps are kept, for the captures of R442. -/
def LaneSt.noteStep (L : LaneSt) (p : Int) (t : Nat) : LaneSt :=
  L.updAux fun x => { x with steps := (t, p) :: x.steps.filter fun e => decide (t ≤ e.1 + 2000000) }

/-- Position at `t` (R442). -/
def LaneSt.posAt (L : LaneSt) (t : Nat) : Int :=
  match (L.aux.steps.filter fun e => decide (t < e.1)).getLast? with
  | some e => e.2
  | none => L.auxPos

/-- MICROSTEP (R434): the position moves by one in the direction of motion, wrapping, and the coil currents follow. The step is placed
to 5 ns (R436). -/
def execMicrostep (l : Lane) (t : Nat) (s : State) : Out :=
  onLane l t s fun L =>
    if L.pwr.auxOn && L.aux.v != 0 then
      let L := (L.noteStep L.auxPos (t / 5 * 5)).wrS Reg.AUX_POS_VALUE (L.auxPos + (if L.aux.v < 0 then -1 else 1))
      (L.fullStep.driveCoils (L.rd Reg.AUX_CUR_IRUN)).afterStep
    else L

/-- STANDSTILL_ENTRY (R439): after THOLD on the target the coils take the STANDSTILL setting. -/
def execStandstillEntry (l : Lane) (t : Nat) (s : State) : Out :=
  onLane l t s fun L =>
    if L.pwr.auxOn ∧ L.auxStill ∧ L.aux.onGoal ∧ L.rd Reg.AUX_STAT_COILS = 0 ∧
        L.aux.restAt + 10000000 * L.rd Reg.AUX_CUR_THOLD ≤ t then
      match L.rd Reg.AUX_MODE_CFG_STANDSTILL with
      | 1 => L.coilsOff 1
      | 2 => L.coilsOff 3
      | _ => L.holdCoils
    else L

/-! ## Limit switches and homing (R440 to R443) -/

/-- Count a debounced transition at `t`; more than eight within 100 ms are chatter (R441). -/
def LaneSt.countLimit (L : LaneSt) (sw t : Nat) : LaneSt :=
  let was := if sw = 0 then L.aux.moves1 else L.aux.moves2
  let now := t :: (was.filter fun u => decide (t ≤ u + 100000000))
  let L := L.updAux fun x => if sw = 0 then { x with moves1 := now } else { x with moves2 := now }
  if 8 < now.length then (L.inc Reg.AUX_LIM_STAT_CHATTER).raise 0x0F02 (sw + 1) else L

/-- A trip of the homing switch (R442): P1 in phase 1, P2 in phase 4; ignored otherwise. -/
def LaneSt.homeTrip (L : LaneSt) (raw : Int) : LaneSt :=
  match L.aux.run with
  | .home 1 => (L.wrS Reg.AUX_HOME_CAP_P1 raw).updAux fun x => { x with run := .home 2 }
  | .home 4 =>
    let slow := decide (L.rd Reg.AUX_HOME_V_VSLOW ≤ L.rd Reg.AUX_RAMP_V_VSTOP)
    L.updAux fun x => { x with run := .home 5, p2 := raw, halt := slow }
  | _ => L

/-- A trip outside homing, or of the other switch during it (R440, R442): 0x0F01; a motion towards the switch stops at the
next microstep; homing is aborted. -/
def LaneSt.limitTrip (L : LaneSt) (sw : Nat) : LaneSt :=
  let toward := if sw = 0 then decide (L.aux.v < 0) else decide (0 < L.aux.v)
  let L := L.raise 0x0F01 (sw + 1)
  if L.homing then
    let L := L.unref
    if L.aux.v = 0 then (L.updAux fun x => { x with run := .stopping }).rest false
    else (L.wr Reg.AUX_STAT_STATE 2).updAux fun x => { x with run := .stopping, halt := toward }
  else if toward then L.updAux fun x => { x with halt := true }
  else if L.aux.run == .move && L.aux.v == 0 && L.limited (L.auxDist L.aux.goal) then L.rest false
  else L

/-- LIMIT_SWITCH_TRANSITION (R440 to R442): a transition of switch 0 or 1 that has held `us` and so is accepted at `t`. The step generator
knows the position at the raw transition. -/
def execLimitSwitchTransition (l : Lane) (sw : Nat) (high : Bool) (us t : Nat) (s : State) : Out :=
  onLane l t s fun L =>
    let used := if sw = 0 then L.on Reg.AUX_LIM_CFG_EN1 else L.on Reg.AUX_LIM_CFG_EN2
    if sw < 2 && used && decide (1000 ≤ us) then
      let pol := if sw = 0 then L.on Reg.AUX_LIM_CFG_POL1 else L.on Reg.AUX_LIM_CFG_POL2
      let trip := high == pol
      let L := (L.put (if sw = 0 then Reg.AUX_LIM_STAT_LIM1 else Reg.AUX_LIM_STAT_LIM2) trip).countLimit sw t
      if !trip then L
      else if L.homing && L.rd Reg.AUX_LIM_CFG_HOME_SW == sw then L.homeTrip (L.posAt (t - 1000 * us))
      else L.limitTrip sw
    else L

/-- The homing switch reads tripped. -/
def LaneSt.homeTripped (L : LaneSt) : Bool :=
  if L.on Reg.AUX_LIM_CFG_HOME_SW then L.on Reg.AUX_LIM_STAT_LIM2 else L.on Reg.AUX_LIM_STAT_LIM1

/-- HOMING_STOP_COMPLETE (R442): the axis stands after phase 2, 3 or 4: back off, approach again, or take the reference. -/
def execHomingStopComplete (l : Lane) (t : Nat) (s : State) : Out :=
  onLane l t s fun L =>
    if L.aux.v ≠ 0 then L
    else match L.aux.run with
      | .home 2 =>
        L.updAux fun x => { x with run := .home 3, onGoal := false
                                   goal := L.auxPos - L.homeDir * L.rd Reg.AUX_HOME_CFG_BACKOFF }
      | .home 3 =>
        if !L.aux.onGoal then L
        else if L.homeTripped then L.homeFail
        else L.updAux fun x => { x with run := .home 4, onGoal := false, goal := farGoal L.auxPos L.homeDir }
      | .home 5 =>
        let L := L.wrS Reg.AUX_POS_VALUE (L.rdS Reg.AUX_HOME_OFS_OFS + (L.auxPos - L.aux.p2))
        ((L.wr Reg.AUX_STAT_REF 1).updAux fun x => { x with run := .idle }).rest true
      | _ => L

/-- HOMING_TIMEOUT (R443): HOME_TMO after the HOME command. -/
def execHomingTimeout (l : Lane) (t : Nat) (s : State) : Out :=
  onLane l t s fun L =>
    if L.homing && decide (L.aux.homeAt + 1000000 * L.rd Reg.AUX_HOME_CFG_TMO ≤ t) then L.homeFail else L

/-- COIL_FAULT (R443): coil 0 A or 1 B; kind 0 overcurrent, 1 short, 2 open, the last in strong mode only. -/
def execCoilFault (l : Lane) (coil kind : Nat) (t : Nat) (s : State) : Out :=
  onLane l t s fun L =>
    if L.pwr.auxOn ∧ coil < 2 ∧ kind < 3 ∧ (kind < 2 ∨ L.on Reg.AUX_STAT_STRONG) then
      let f := if coil = 0 then Reg.AUX_COIL_STAT_COIL_A else Reg.AUX_COIL_STAT_COIL_B
      let L := ((L.put (f.bit kind) true).raise 0x0F04 coil).unref
      let L := (L.setVel 0).updAux fun x => { x with run := .idle, wish := none, halt := false, haltHold := false, onGoal := false }
      (L.coilsOff 1).wr Reg.AUX_STAT_STATE 4
    else L

end Sys2Proof.Machine
end

