-- ==== Sys2Proof/Machine/Faults.lean ====
section
/-! DEFINITION. Commands of the fault collector (12). -/
namespace Sys2Proof.Machine

/-- FAULT_RAISE (R298): a source asserts. -/
def execFaultRaise (l : Lane) (id : BitVec 16) (detail : BitVec 8) (t : Nat) (s : State) : Out :=
  onLane l t s fun L => L.raise id.toNat detail.toNat

/-- Record a failed line (R290): FC_LINE names the first failed source, and the line reads as fault from now on. -/
def LaneSt.markLine (L : LaneSt) (id : Nat) : LaneSt :=
  let L := if L.on Reg.FC_LINE_VALID then L else (L.wr Reg.FC_LINE_ID id).put Reg.FC_LINE_VALID true
  { L with fc := { L.fc with stuck := BitVec.ofNat 16 id :: L.fc.stuck } }

/-- Raise 0x0CFE for the source `id` at level `lv`, and the source itself, which its failed line asserts. The higher
level goes first, of equal levels the lower identifier (R290, R292). -/
def LaneSt.raiseLine (L : LaneSt) (id lv : Nat) : LaneSt :=
  if decide (lv ≤ L.ownLevel id) && decide (id < 0x0CFE) then (L.raise id).raiseAt 0x0CFE 0xFF lv
  else (L.raiseAt 0x0CFE 0xFF lv).raise id

/-- A dual-rail line failed (R290): 0x0CFE at the source's own level, or L2 if that is lower. A line fails once. -/
def LaneSt.lineFailed (L : LaneSt) (id : Nat) : LaneSt :=
  if L.fc.stuck.contains (BitVec.ofNat 16 id) then L else (L.raiseLine id (max (L.ownLevel id) 2)).markLine id

/-- LINE_FAULT (R289, R290): the pair read 00 or 11 for `ns`; less than two collector clocks is no fault. -/
def execLineFault (l : Lane) (id : BitVec 16) (ns : Nat) (t : Nat) (s : State) : Out :=
  onLane l t s fun L => if 10 ≤ ns then L.lineFailed id.toNat else L

/-- What the collectors of lane `l` do at a change of the fault line of lane index `i` to `pattern` (R291, R85). -/
def LaneSt.siblingLine (L : LaneSt) (i pattern : Nat) : LaneSt :=
  let was := L.rd (siblingFld i)
  if pattern = was then L
  else
    let L := L.wr (siblingFld i) pattern
    match pattern with
    | 1 => (L.openMask (11 + i)).raise 0x020B (i + 1)
    | 2 => L.raise 0x0402 (i + 1)
    | 3 => L.raiseIf (was != 1) 0x020C (i + 1)
    | _ => L.endMask (11 + i)

/-- SIBLING_LINE_CHANGE (R291): another lane's line shows 0 normal, 1 lane failed, 2 wake failure, 3 line fault. A
lane's own field stays 0. -/
def execSiblingLineChange (l other : Lane) (pattern : Nat) (t : Nat) (s : State) : Out :=
  onLane l t s fun L => if other = l ∨ 4 ≤ pattern then L else L.siblingLine (laneIx other) pattern

/-- LANE_SILENT (R295): at the slot start after an L3 reaction. -/
def execLaneSilent (l : Lane) (t : Nat) (s : State) : Out :=
  onLane l t s fun L => if L.fc.silentNext ∧ t % 50000 = 0 then L.goSilent else L

/-- Acknowledge class `c`: closed, LEVEL 0, its claim withdrawals end; counts are kept (R294, R295). -/
def LaneSt.ackClass (L : LaneSt) (c : Nat) : LaneSt :=
  let L := (L.put (Reg.FC_OPEN c) false).wr (Reg.FC_CNT_LEVEL c) 0
  { L with fc := { L.fc with withdraw := L.fc.withdraw.filter fun w => w.1 ≠ c } }

/-- Acknowledge every class whose bit is set; bit i of `m` is class i + 1. -/
def LaneSt.ackClasses (L : LaneSt) (l : Lane) (m : Nat) : LaneSt :=
  (forN 15 (fun i L => if bitN m i then L.ackClass (i + 1) else L) L).refreshClaims l

/-- REARM: clears FC_FIRST, OVF and FC_LINE.VALID (R294). -/
def LaneSt.rearmFirst (L : LaneSt) : LaneSt :=
  (((L.setReg 0x40010004 0#32).put Reg.FC_STAT_FIRST_VALID false).put Reg.FC_STAT_OVF false).put Reg.FC_LINE_VALID false

/-- ACKNOWLEDGE_CLASS (R294, R311): a keyed FC_ACK write. -/
def execAcknowledgeClass (l : Lane) (key : BitVec 16) (classes : BitVec 15) (s : State) : Out :=
  onLaneNow l s fun L => if key = 0x6C1E#16 then L.ackClasses l classes.toNat else L.refuseWrite

/-- REARM (R294, R311): a keyed FC_ACK write with REARM set. -/
def execRearm (l : Lane) (key : BitVec 16) (s : State) : Out :=
  onLaneNow l s fun L => if key = 0x6C1E#16 then L.rearmFirst else L.refuseWrite

/-- Place of record `i` in the fault record region (R96, R301). -/
def recordAddr (i : Nat) : Nat := 0x106C0000 + 512 * i

/-- The oldest queued record is written to its place in the ring (R301, R302). -/
def LaneSt.writeRecord (L : LaneSt) : LaneSt :=
  match L.fc.queue with
  | [] => L
  | r :: q =>
    let L := L.setWords (recordAddr L.fc.nextRec) r
    let L := { L with fc := { L.fc with queue := q, nextRec := (L.fc.nextRec + 1) % 1024 } }
    (L.inc Reg.FC_REC_WRITTEN).wr Reg.FC_REC_QUEUED q.length

/-- FAULT_RECORD_WRITTEN (R302): the oldest queued record is in MRAM. -/
def execFaultRecordWritten (l : Lane) (t : Nat) (s : State) : Out := onLane l t s fun L => L.writeRecord

/-- Close the masks whose time has come (R300). -/
def LaneSt.closeMasks (L : LaneSt) (t : Nat) : LaneSt :=
  let due := L.fc.closing.filter fun c => c.2 ≤ t
  let L := due.foldl (fun L c => L.put (shadowFld.bit c.1) false) L
  { L with fc := { L.fc with closing := L.fc.closing.filter fun c => t < c.2 } }

/-- MASK_CLOSE (R300): masks close 10 µs after their reaction ended. -/
def execMaskClose (l : Lane) (t : Nat) (s : State) : Out := onLane l t s fun L => L.closeMasks t

/-- Fault injection is open: BLANK or PROVISIONED, factory test mode, fuse not blown (R310). -/
def LaneSt.injectOpen (L : LaneSt) : Bool :=
  L.on Reg.SEC_LC_TEST_MODE && decide (L.rd Reg.SEC_LC_STATE ≤ 1) && !L.on Reg.SEC_LC_INJ_FUSE

/-- FAULT_INJECT (R310): a write of FC_INJ raises the source, or is ignored and raises 0x0B07. -/
def execFaultInject (l : Lane) (id : BitVec 16) (detail : BitVec 8) (t : Nat) (s : State) : Out :=
  onLane l t s fun L => if L.injectOpen then L.raise id.toNat detail.toNat else L.raise 0x0B07

/-- THERMAL_REJOIN (R296): after 0x0E06, die Tj below 135 °C for 1 s. -/
def execThermalRejoin (l : Lane) (tj : Int) (ms : Nat) (t : Nat) (s : State) : Out :=
  onLane l t s fun L => if L.fc.thermal ∧ tj < 135 ∧ 1000 ≤ ms then L.enterResync else L

/-- LANE_THERMAL_TRIP (R299): lane die above 150 °C for 10 ms raises 0x0E06. -/
def execLaneThermalTrip (l : Lane) (tj : Int) (ms : Nat) (t : Nat) (s : State) : Out :=
  onLane l t s fun L => L.raiseIf (decide (150 < tj) && decide (10 ≤ ms)) 0x0E06

/-- A condition has held for 10 ms at `t`. -/
def held10ms (since : Option Nat) (t : Nat) : Bool :=
  match since with
  | some u => decide (u + 10000000 ≤ t)
  | none => false

/-- STAGE_THERMAL_TRIP (R299, R455): stage die above 150 °C for 10 ms: 0x0E02, stage removed from service. -/
def execStageThermalTrip (l : Lane) (g : Stg) (t : Nat) (s : State) : Out :=
  onLane l t s fun L =>
    if held10ms (nth L.com.tjOver (stgIx g)) t then (L.raise 0x0E02 (stgIx g)).removeStage (stgIx g) else L

/-- WINDING_THERMAL_TRIP (R456): T_W above T_TRIP for 10 ms: 0x0E04, stage removed from service. -/
def execWindingThermalTrip (l : Lane) (g : Stg) (t : Nat) (s : State) : Out :=
  onLane l t s fun L =>
    if held10ms (nth L.com.twOver (stgIx g)) t then (L.raise 0x0E04 (stgIx g)).removeStage (stgIx g) else L

/-- A clock fault (R299, R304): 1 crystal failure, the lane goes to its RC with claims 0 (R162); 2 the timing PLL, 4 the core PLL has lost
lock; any other: core and timing clock disagree. -/
def LaneSt.clockFault (L : LaneSt) (l : Lane) (kind : Nat) : LaneSt :=
  match kind with
  | 1 => (((L.put Reg.SYS_CLK_STAT_XTAL_OK false).put Reg.SYS_CLK_STAT_RC_FALLBACK true).raise 0x0601).refreshClaims l
  | 2 => (L.put Reg.SYS_CLK_STAT_TPLL_LOCK false).raise 0x0602
  | 4 => (L.put Reg.SYS_CLK_STAT_CPLL_LOCK false).raise 0x0602
  | _ => L.raise 0x0603

/-- CLOCK_FAULT (R304): a deviation above ±1 %, or no edges (1,000 per mille), in two consecutive windows. -/
def execClockFault (l : Lane) (kind permille windows : Nat) (t : Nat) (s : State) : Out :=
  onLane l t s fun L => if 10 < permille ∧ 2 ≤ windows then L.clockFault l kind else L

end Sys2Proof.Machine
end

