-- ==== Sys2Proof/Machine/Power.lean ====
section
/-! DEFINITION. Supplies and hold-up (02). -/
namespace Sys2Proof.Machine

/-- Change the supply state. -/
def LaneSt.updPwr (L : LaneSt) (f : PwrSt → PwrSt) : LaneSt := { L with pwr := f L.pwr }

/-- SP port `i` is fed by SNS5_x: it has no PSI5 supply of its own (R43). -/
def LaneSt.spDies (L : LaneSt) (i : Nat) : LaneSt :=
  if (L.sp i).psi5On then L else L.spInvalid i

/-- Mark invalid every sensor that SNS5_x feeds (R43, R52). -/
def LaneSt.dropSensors (L : LaneSt) : LaneSt :=
  let L := ((L.spDies 0).spDies 1).put Reg.POS_SSI_STAT_VALID false
  (L.updPos fun p => { p with encValid := false, inFusion := false, hallValid := false, hallGood := 0
                              ssiOut := true, ssiGood := 0 }).srcStat

/-- What a loss of SUP_x, or of GND_x, starts in the lane (R37, R52, R54, R444). -/
def LaneSt.loseSupply (L : LaneSt) (id t : Nat) : LaneSt :=
  let L := (L.raise id).openMask 1
  let L := (L.zeroClaims 7 3).updPwr fun p => { p with lost := true, lostAt := t, returning := false, sns5 := false, auxOn := false }
  (L.auxAbort false).dropSensors

/-- What it does to the stage of the same supply: STO and de-energising (R52, R264). -/
def StageSt.loseSupply (g : StageSt) : StageSt := { g with supLost := true, enSeen := false }.deEnergise

/-- Lane `l` treats its supply as lost. -/
def State.loseSupply (s : State) (l : Lane) (id t : Nat) : State :=
  let s := s.updLane l fun L => (L.tick t).loseSupply id t
  { s with stages := updNth s.stages (laneIx l) StageSt.loseSupply }

/-- The lane is powered and its supply is not yet noted as lost. -/
def LaneSt.supplied (L : LaneSt) : Bool := L.up && !L.pwr.lost

/-- SUPPLY_LOSS (R52, R54): SUP_x below 16.0 V. -/
def execSupplyLoss (l : Lane) (mv : Int) (t : Nat) (s : State) : Out :=
  if (s.lane l).supplied && decide (mv < 16000) then .next (s.loseSupply l 0x0501 t) else .next s

/-- GROUND_LOSS (R37): GND_x more than 1.0 V from the star point for 10 µs: a loss of SUP_x, with its own fault; a lane that runs from
hold-up already raises the fault alone. -/
def execGroundLoss (l : Lane) (mv : Int) (us t : Nat) (s : State) : Out :=
  let L := s.lane l
  if L.up && !L.pwr.gndLost && decide (1000 < absN mv) && decide (10 ≤ us) then
    let s := if L.pwr.lost then s.updLane l fun L => (L.tick t).raise 0x0502 else s.loseSupply l 0x0502 t
    .next (s.updLane l fun L => L.updPwr fun p => { p with gndLost := true })
  else .next s

/-- SUPPLY_LOSS_TIMEOUT (R52, R54): 15 ms after detection the lane writes its fault record, signals lane failed and enters
SILENT. -/
def execSupplyLossTimeout (l : Lane) (t : Nat) (s : State) : Out :=
  onLane l t s fun L =>
    if L.pwr.lost ∧ L.mode ≠ 3 ∧ L.pwr.lostAt + 15000000 ≤ t then L.writeRecord.goSilent else L

/-- Some lane's logic rail feeds the stages (R12). -/
def State.logicOn (s : State) : Bool := (triList s.lanes).any LaneSt.up

/-- A stage whose logic loses or regains its rail (R12, R58). Without it every switch is off and the latches, the lockout and
the arbiter's state are gone; what the image loaded stays. -/
def StageSt.power (g : StageSt) (on : Bool) : StageSt :=
  if on then (if g.st = 0 then { g with st := 1 } else g)
  else { StageSt.reset with st := 0, tol := g.tol, per := g.per, ocLevel := g.ocLevel, blank := g.blank, supLost := g.supLost }

/-- Bring the stages' supply up to date. -/
def State.powerStages (s : State) : State :=
  let on := s.logicOn
  { s with stages := ⟨s.stages.a.power on, s.stages.b.power on, s.stages.c.power on⟩ }

/-- Into OFF (R58, R54): everything but non-volatile storage is lost, and the fault line reads as a line fault (R291). -/
def LaneSt.unpower (L : LaneSt) : LaneSt :=
  let L := L.powerDown keepOff memOff
  let L := L.wr Reg.SYS_STATE_MODULE stOff
  { L with
    fc := { L.fc with log := [], logDone := 0, line := 3 }
    sys := SysSt.reset
    aux := AuxSt.reset
    pwr := { L.pwr with lost := true, gndLost := false, returning := false, sns5 := false, auxOn := false, regulator := false, parkLoss := false } }

/-- Re-arming of the lane's own stage, by an EN pulse (R53, R271, R272). -/
def LaneSt.rearmOwn (L : LaneSt) (l : Lane) : LaneSt :=
  if stArm ≤ L.st ∧ L.st ≤ stDrive then L.startPulse (2 ^ laneIx l) else L

/-- SUPPLY_RETURN (R53 to R55): SUP_x above 17.0 V for 1 ms, before the lane is SILENT. In ARM, DRIVE and FOLD all its claims return
when its own stage reports READY (R53). -/
def LaneSt.regainSupply (L : LaneSt) (l : Lane) (mv : Int) : LaneSt :=
  let back := decide (stArm ≤ L.st) && L.assigned (laneIx l)
  let L := (L.updPwr fun p => { p with lost := false, gndLost := false, returning := back, sns5 := true, auxOn := true, supMv := mv }).endMask 1
  L.rearmOwn l

/-- The supply of lane `l`'s stage is back. -/
def State.stageSupplied (s : State) (l : Lane) : State :=
  { s with stages := updNth s.stages (laneIx l) fun g => { g with supLost := false } }

/-- SUPPLY_RETURN, with GND_x `gnd` mV from the star point, which must be within 1.0 V of it (R37). A lane in PARK stays there with its
retention intact. A lane that is SILENT by now drops to OFF, from which COLD_BOOT starts it (R53, R54). -/
def execSupplyReturn (l : Lane) (mv gnd : Int) (us t : Nat) (s : State) : Out :=
  let L := s.lane l
  if L.pwr.lost && decide (17000 < mv) && decide (absN gnd ≤ 1000) && decide (1000 ≤ us) then
    if L.up && L.mode == 3 then .next ((s.updLane l fun L => (L.tick t).unpower).driveSto l).powerStages
    else if L.up then .next ((s.updLane l fun L => (L.tick t).regainSupply l mv).stageSupplied l)
    else if L.st = stPark then
      .next ((s.updLane l fun L => L.updPwr fun p => { p with lost := false, gndLost := false, supMv := mv }).stageSupplied l)
    else .next s
  else .next s

/-- PARK_SUPPLY_LOSS (R55): recorded in the always-on domain, as `PwrSt.parkLoss` says (log entry 103). -/
def execParkSupplyLoss (l : Lane) (mv : Int) (t : Nat) (s : State) : Out :=
  .next (s.updLane l fun L =>
    if L.st = stPark ∧ mv < 16000 ∧ !L.pwr.lost then
      (L.tick t).updPwr fun p => { p with lost := true, lostAt := t, parkLoss := true } else L)

/-- HOLDUP_EXHAUSTED (R51, R54, R55): a lane that runs from hold-up becomes unpowered, not before 20 ms. -/
def execHoldupExhausted (l : Lane) (t : Nat) (s : State) : Out :=
  if (s.lane l).pwr.lost && decide ((s.lane l).pwr.lostAt + 20000000 ≤ t) then .next ((s.updLane l LaneSt.unpower).driveSto l).powerStages else .next s

/-- UNDERVOLTAGE_WARNING (R38): 16.0 to 18.0 V for 100 µs. -/
def execUndervoltageWarning (l : Lane) (mv : Int) (us t : Nat) (s : State) : Out :=
  onLane l t s fun L => L.raiseIf (decide (16000 ≤ mv) && decide (mv < 18000) && decide (100 ≤ us)) 0x0503

/-- SUPPLY_OVERVOLTAGE (R38, R264): above 57.0 V. -/
def execSupplyOvervoltage (l : Lane) (mv : Int) (t : Nat) (s : State) : Out :=
  let L := s.lane l
  if L.up && decide (57000 < mv) && !L.pwr.overvolt then
    let s := s.updLane l fun L => ((L.tick t).raise 0x0504).updPwr fun p => { p with overvolt := true, supMv := mv }
    .next { s with stages := updNth s.stages (laneIx l) fun g => { g with supHigh := true, enSeen := false }.deEnergise }
  else .next s

/-- OVERVOLTAGE_RECOVERY (R272): below 56.0 V for 10 ms: the lane asks its stage to energise again. -/
def execOvervoltageRecovery (l : Lane) (mv : Int) (us t : Nat) (s : State) : Out :=
  let L := s.lane l
  if L.up && L.pwr.overvolt && decide (mv < 56000) && decide (10000 ≤ us) then
    let s := s.updLane l fun L => ((L.tick t).updPwr fun p => { p with overvolt := false, supMv := mv }).rearmOwn l
    .next { s with stages := updNth s.stages (laneIx l) fun g => { g with supHigh := false } }
  else .next s

/-- SENSOR_SUPPLY_FAULT (R43): SNS5_x outside 4.75 to 5.25 V for 100 µs. -/
def execSensorSupplyFault (l : Lane) (mv us t : Nat) (s : State) : Out :=
  onLane l t s fun L =>
    if (mv < 4750 ∨ 5250 < mv) ∧ 100 ≤ us then (L.raise 0x070A).dropSensors else L

end Sys2Proof.Machine
end

