-- ==== Sys2Proof/Machine/Mailbox.lean ====
section
/-! DEFINITION. Shepherd mailboxes (17): how a lane receives a request, confirms the module-addressed ones, and answers; taps
and CROOK. The commands themselves are in Commands.lean and Security.lean. -/
namespace Sys2Proof.Machine

/-! ## The command table (R400, R422, R427) -/

/-- A row of the command table: module-addressed; accepted on the internal transport; in STANDBY only; accepted while a Rind
alarm is latched, and then on DBG_x without the group key (R427); on DBG_x without a host master key (R422). -/
structure CmdRow where
  code : Nat
  module : Bool
  inner : Bool
  standby : Bool
  alarm : Bool
  bare : Bool
  noHmk : Bool

/-- A lane-addressed read marked I. -/
abbrev rowRead (code : Nat) : CmdRow := ⟨code, false, true, false, false, false, false⟩

/-- A lane-addressed command of STANDBY. -/
abbrev rowSb (code : Nat) : CmdRow := ⟨code, false, false, true, false, false, false⟩

/-- A module-addressed command. -/
abbrev rowMod (code : Nat) (standby alarm : Bool) : CmdRow := ⟨code, true, false, standby, alarm, false, false⟩

/-- R400. HELLO is apart. -/
def cmdRows : List CmdRow :=
  [ { rowRead 0x0101 with alarm := true, bare := true, noHmk := true }
  , rowRead 0x0102, rowRead 0x0103
  , { rowRead 0x0200 with alarm := true, bare := true, noHmk := true }
  , rowMod 0x0201 false true, rowMod 0x0202 false true, rowMod 0x0203 false true, rowMod 0x0204 false true
  , rowSb 0x0300, rowSb 0x0301, rowSb 0x0302, rowMod 0x0303 true false, rowRead 0x0304
  , rowMod 0x0400 false false, rowRead 0x0401, rowMod 0x0402 false false
  , { rowRead 0x0500 with alarm := true, bare := true }
  , rowMod 0x0501 false true
  , { rowRead 0x0502 with alarm := true }
  , rowRead 0x0503, rowRead 0x0504, rowRead 0x0505
  , rowSb 0x0600, rowSb 0x0601, rowSb 0x0602, rowMod 0x0603 true false, rowMod 0x0604 true false
  , { rowRead 0x0605 with noHmk := true } ] ++
  [ { rowSb 0x0700 with standby := false, noHmk := true }
  , { rowSb 0x0701 with standby := false, noHmk := true }
  , { rowSb 0x0702 with standby := false, noHmk := true }
  , { rowMod 0x0703 true true with bare := true, noHmk := true }
  , { rowSb 0x0704 with noHmk := true }
  , { rowRead 0x0705 with alarm := true, bare := true, noHmk := true }
  , rowRead 0x0800, rowRead 0x0801, rowRead 0x0802
  , { rowRead 0x0F00 with alarm := true } ]

/-- The row of a code. -/
def cmdRow (code : Nat) : Option CmdRow := cmdRows.find? fun c => c.code == code

/-- Bit of ROLES that grants the group of a code (R422). -/
def roleBit (code : Nat) : Nat :=
  match code / 256 with
  | 0x02 | 0x0F => 1
  | 0x03 | 0x04 => 2
  | 0x06 => 3
  | 0x07 => 4
  | 0x08 => 5
  | 0x05 => 6
  | _ => 0

/-- The session's roles grant the command: the group's bit, or bit 0 for the commands marked I. -/
def LaneSt.granted (L : LaneSt) (c : CmdRow) : Bool :=
  (c.inner && L.mbx.roles.getLsbD 0) || (roleBit c.code != 0 && L.mbx.roles.getLsbD (roleBit c.code))

/-! ## Receipt (R389 to R393, R406 to R409) -/

/-- DIGEST of a module-addressed command (R397): of the bytes of its header and payload. -/
def digestOf (msg : List Byte) : BitVec 16 :=
  match shake256 2 msg with
  | a :: b :: _ => BitVec.ofNat 16 (a.toNat + 256 * b.toNat)
  | _ => 0#16

/-- A tag under the group key, with SESSION 0, from a MUTE host (R390, R427). -/
def LaneSt.groupOk (L : LaneSt) (r : Req) (msg : List Byte) : Bool :=
  r.session == 0#32 && L.on Reg.SEC_KEY_STAT_GROUP && L.mbx.hosts.contains r.requester.toNat && L.tagOk r msg

/-- A tag under the open session's key. -/
def LaneSt.sessionOk (L : LaneSt) (r : Req) (msg : List Byte) : Bool :=
  r.session != 0#32 && r.session == L.reg 0x400F000C && L.tagOk r msg

/-- Requester key of a request (R407): 2n + 1 for the requester n whose tag verifies, else 2k for the transport source k. -/
def LaneSt.reqKey (L : LaneSt) (r : Req) (msg : List Byte) : Nat :=
  if L.sessionOk r msg || L.groupOk r msg then 2 * r.requester.toNat + 1 else 2 * r.key

/-- The request may act for who sent it (R390, R413, R422, R427). -/
def LaneSt.mayAsk (L : LaneSt) (c : CmdRow) (r : Req) (msg : List Byte) : Bool :=
  let alarm := L.on Reg.SEC_RIND_STAT_ALARM
  let bare := r.session == 0#32 && r.tag == 0#64
  let local_ := r.transport == .debug && bare
  r.transport == .internal || (c.code == 0x0703 && bare) ||
  (local_ && c.noHmk && !L.on Reg.SEC_KEY_STAT_HMK) || (local_ && alarm && c.bare && !L.on Reg.SEC_KEY_STAT_GROUP) ||
  (alarm && L.groupOk r msg) || (L.sessionOk r msg && L.granted c)

/-- What a lane makes of a request: carry it out, leave it, send the stored reply again, or NAK with code, detail, expected SEQ. -/
inductive Verdict where
  | go | nothing
  | again (p : Reply)
  | nak (code detail want : Nat)

/-- A mailbox holds a request (R392). -/
def LaneSt.holdsBox (L : LaneSt) (m : Nat) : Bool :=
  (L.mbx.waiting ++ L.mbx.asked).any (fun h => h.named && h.req.mbox == m) || L.mbx.taps.any (fun x => x.req.mbox == m) ||
  (match L.mbx.commit with
    | some h => h.req.mbox == m
    | none => false)

/-- The record of the requester in this mailbox. -/
def LaneSt.seqRec (L : LaneSt) (key mbox : Nat) : Option SeqRec :=
  L.mbx.seqs.find? fun e => e.key == key && e.req.mbox == mbox

/-- SEQ and BUSY (R392, R393). -/
def LaneSt.order (L : LaneSt) (key : Nat) (r : Req) (msg : List Byte) : Verdict :=
  let busy := if L.holdsBox r.mbox then Verdict.nak nakBusy 0 0 else .go
  match L.seqRec key r.mbox with
  | none => busy
  | some e =>
    if e.msg == msg then
      match e.reply with
      | some p => .again p
      | none => .nothing
    else if e.hello || r.seq == e.req.seq + 1 then busy
    else .nak nakSequence 0 (e.req.seq + 1).toNat

/-- The mailbox and transport fit the code (R392, R394). -/
def placeOk (c : CmdRow) (r : Req) : Bool :=
  if r.transport = .internal then r.mbox == 0 && c.inner && !r.module
  else r.mbox != 0 && r.mbox != 15 && c.code != 0x0F00 && c.module == r.module

/-- The first checks of every request: quarantine, rate, length; the NAK code. -/
def LaneSt.gate (L : LaneSt) (key : Nat) (r : Req) (body : List Byte) : Option Nat :=
  if L.mbx.quar.any (fun q => q.1 == key) then some nakQuarantined
  else if 32 < (L.mbx.rates.filter fun x => x.1 == key).length then some nakRate
  else if 4096 < r.length || r.length != body.length then some nakLength
  else none

/-- The lane's checks of a request other than HELLO and CROOK, in order. -/
def LaneSt.verdict (L : LaneSt) (c : Option CmdRow) (code key : Nat) (r : Req) (body : List Byte) : Verdict :=
  let msg := headerBytes code r ++ body
  match L.gate key r body, c with
  | some n, _ => .nak n 0 0
  | none, none => .nak nakUnknown 0 0
  | none, some c =>
      if !placeOk c r then .nak nakUnknown 0 0
      else if !L.mayAsk c r msg then .nak nakAuth 0 0
      else if L.on Reg.SEC_RIND_STAT_ALARM && !c.alarm then .nak nakLifecycle 1 0
      else L.order key r msg

/-- Counter of violations of a V code (R391, MBX_VIOL). -/
def violFld (nak : Nat) : Fld := ⟨0x400F0014, 6 * (nak - 1), 6⟩

/-- Quarantine a key for 1 s; a 33rd replaces the one closest to release (R408). -/
def LaneSt.quarantine (L : LaneSt) (key : Nat) : LaneSt :=
  let q := if L.mbx.quar.length < 32 then L.mbx.quar
    else
      let first := L.mbx.quar.foldl (fun n x => min n x.2) (L.time + 1000000000)
      match L.mbx.quar.find? fun x => x.2 == first with
      | some x => L.mbx.quar.erase x
      | none => L.mbx.quar
  let q := q ++ [(key, L.time + 1000000000)]
  ((L.inc Reg.MBX_QUAR_COUNT).wr Reg.MBX_QUAR_ACTIVE q.length).updMbx fun m =>
    { m with quar := q, viols := m.viols.filter fun v => v.1 ≠ key }

/-- A violation of the requester key (R406 to R408), logged with its code at level 0 (log entry 21). -/
def LaneSt.violation (L : LaneSt) (key nak : Nat) : LaneSt :=
  let L := { L with fc := { L.fc with log := (BitVec.ofNat 16 nak, 0, L.time) :: L.fc.log } }
  let L := (L.inc (violFld nak)).updMbx fun m =>
    { m with viols := (key, L.time) :: m.viols.filter fun v => L.time < v.2 + 1000000000 }
  if 16 ≤ (L.mbx.viols.filter fun v => v.1 == key).length then L.quarantine key else L

/-- Send a NAK that is not a final reply of a request in progress. -/
def LaneSt.sendNak (L : LaneSt) (code : Nat) (r : Req) (nak detail want : Nat) : LaneSt :=
  (L.sendReply (L.replyTo code r (some nak) false (nakPayload nak detail want))).freeInner r

/-- Answer a request that fails a check: codes 1 to 5 are violations. -/
def LaneSt.turnAway (L : LaneSt) (code key : Nat) (r : Req) (nak detail want : Nat) : LaneSt :=
  (if nak ≤ nakRate then L.violation key nak else L).sendNak code r nak detail want

/-- Note an accepted request (R104, R393). -/
def LaneSt.noteReq (L : LaneSt) (key : Nat) (r : Req) (msg : List Byte) (hello : Bool) : LaneSt :=
  L.updMbx fun m => { m with
    lastCmd := if r.transport = .internal then m.lastCmd else L.time
    seqs := ⟨key, r, msg, hello, none⟩ :: m.seqs.filter fun e => !(e.key == key && e.req.mbox == r.mbox) }

/-- Count a request for RATE (R409). -/
def LaneSt.noteRate (L : LaneSt) (key : Nat) : LaneSt :=
  L.updMbx fun m => { m with rates := (key, L.time) :: m.rates.filter fun x => L.time < x.2 + 100000000 }

/-- The Shepherd hears its mailboxes: powered, running, not in ROM recovery. -/
def LaneSt.hears (L : LaneSt) : Bool := L.up && L.on Reg.MBX_STAT_SHEP_UP && L.sys.boot == .none

/-- The request in MBX_REQ is this one (R410): BUSY since MBX_POST, header and payload as written. -/
def LaneSt.posted0 (L : LaneSt) (code : Nat) (r : Req) (body : List Byte) : Bool :=
  let hdr := (List.range 4).flatMap fun j => wordBytes (L.reg (0x400F0100 + 4 * j))
  let data := ((List.range ((body.length + 3) / 4)).flatMap fun j => wordBytes (L.reg (0x400F1000 + 4 * j))).take body.length
  L.on Reg.MBX_STAT_BUSY && hdr == headerBytes code r && data == body

/-- A request over CAN comes under the request identifier of a controller that carries the mailbox transport and is active, a key of
the controller and the identifier (R100, R378, R394, R407). -/
def LaneSt.canReaches (L : LaneSt) (key : Nat) : Bool :=
  let c := if key / 0x40000000 = 2 then CanId.can2 else .can1
  (key / 0x40000000 == 1 || key / 0x40000000 == 2) && L.carriesMbx c && (L.can c).run == 2 && key % 0x40000000 == L.requestId c

/-- The request reaches lane `l`: on the internal transport it is the one posted; a lane not named only confirms. -/
def LaneSt.reaches (L : LaneSt) (l : Lane) (code : Nat) (r : Req) (body : List Byte) : Bool :=
  L.hears && (r.transport != .internal || L.posted0 code r body) && (r.transport != .can || L.canReaches r.key) && (named r l || r.module)

/-- Receive a request; `f` carries out one that passes its checks. A lane not named sends no NAK. -/
def LaneSt.receive (L : LaneSt) (l : Lane) (code : Nat) (r : Req) (body : List Byte) (f : LaneSt → LaneSt) : LaneSt :=
  let L := L.updMbx fun m => { m with out := [] }
  if !L.reaches l code r body then L
  else
    let msg := headerBytes code r ++ body
    let key := L.reqKey r msg
    let L := L.noteRate key
    match L.verdict (cmdRow code) code key r body with
    | .nothing => L
    | .again p => if named r l then L.sendReply p else L
    | .nak n d w => if named r l then L.turnAway code key r n d w else L
    | .go => f (L.noteReq key r msg false)

/-- The command is permitted in the module state (R400): STANDBY to FOLD, or STANDBY only. -/
def stateOk (L : LaneSt) (code : Nat) : Bool :=
  match cmdRow code with
  | some c => !c.standby || L.st == stStandby
  | none => false

/-- A lane-addressed command: answered STATE in a state the table excludes. -/
def laneCmd (l : Lane) (code : Nat) (r : Req) (body : List Byte) (t : Nat) (s : State) (f : LaneSt → LaneSt) : Out :=
  onLane l t s fun L => L.receive l code r body fun L =>
    if stateOk L code then f L else L.refuse code r nakState L.st

/-- A lane-addressed read without arguments: its reply leaves nothing else changed. -/
def readCmd (l : Lane) (code : Nat) (r : Req) (t : Nat) (s : State) (f : LaneSt → List Byte) : Out :=
  laneCmd l code r [] t s fun L => L.finish code r (f L)

/-! ## Module-addressed commands (R397 to R399) -/

/-- Commands not confirmed yet. -/
def LaneSt.unconfirmed (L : LaneSt) : List Held := L.mbx.waiting.filter fun h => !h.confirmed

/-- MBX_CONFIRM.PENDING. -/
def LaneSt.showPending (L : LaneSt) : LaneSt := L.wr Reg.MBX_CONFIRM_PENDING L.unconfirmed.length

/-- Hold a module-addressed command until it is confirmed (R397). -/
def moduleCmd (l : Lane) (code : Nat) (r : Req) (body : List Byte) (cmd : ModCmd) (t : Nat) (s : State) : Out :=
  onLane l t s fun L => L.receive l code r body fun L =>
    (L.updMbx fun m => { m with waiting := m.waiting ++ [
      { req := r, code := code, cmd := cmd, at_ := L.time, digest := digestOf (headerBytes code r ++ body), confirmed := false
        named := named r l, before := 0 }] }).showPending

/-- The DIGEST a lane carries: that of its oldest unconfirmed command (R397). -/
def LaneSt.digest? (L : LaneSt) : Option (BitVec 16) := L.unconfirmed.head?.map (·.digest)

/-- The lane sends its message with or without a DIGEST: MBX_CONFIRM. -/
def LaneSt.noteCarried (L : LaneSt) (d : Option (BitVec 16)) : LaneSt :=
  let L := (L.put Reg.MBX_CONFIRM_VALID d.isSome).wr Reg.MBX_CONFIRM_DIGEST (d.getD 0#16).toNat
  L.updMbx fun m => { m with carried := d }

/-- Confirm at vote completion (R398): the DIGESTs carried by the used messages; `alone` when one lane sends messages. -/
def LaneSt.confirm (L : LaneSt) (ds : List (BitVec 16)) (alone : Bool) : LaneSt :=
  let ok := fun (d : BitVec 16) => decide (2 ≤ ds.count d) || (alone && L.mbx.carried == some d)
  (L.updMbx fun m => { m with waiting := m.waiting.map fun h => if ok h.digest then { h with confirmed := true } else h }).showPending

/-- CONFIRM_TIMEOUT (R398): 20 ms after receipt. -/
def execConfirmTimeout (l : Lane) (t : Nat) (s : State) : Out :=
  onLane l t s fun L =>
    let L := L.updMbx fun m => { m with out := [] }
    let late := L.unconfirmed.filter fun h => decide (h.at_ + 20000000 ≤ t)
    let L := late.foldl (fun L h => if h.named then (L.refuse h.code h.req nakNotConfirmed).inc Reg.MBX_CONFIRM_TIMEOUTS else L) L
    (L.updMbx fun m => { m with waiting := m.waiting.filter fun h => h.confirmed || decide (t < h.at_ + 20000000) }).showPending

/-- SEGMENT_TIMEOUT (R394): a message of transport key `key` not complete 100 ms after its first segment: LENGTH. -/
def execSegmentTimeout (l : Lane) (key : Nat) (t : Nat) (s : State) : Out :=
  onLane l t s fun L =>
    if L.mbx.segs.any fun x => x.1 == key && decide (x.2.2.1 + 100000000 ≤ t) then
      (L.updMbx fun m => { m with segs := m.segs.filter fun x => !(x.1 == key && decide (x.2.2.1 + 100000000 ≤ t)) }).violation (2 * key) nakLength
    else L

/-- QUARANTINE_END (R408). -/
def execQuarantineEnd (l : Lane) (key : Nat) (t : Nat) (s : State) : Out :=
  onLane l t s fun L =>
    let L := L.updMbx fun m => { m with quar := m.quar.filter fun q => !(q.1 == key && decide (q.2 ≤ t)) }
    L.wr Reg.MBX_QUAR_ACTIVE L.mbx.quar.length

/-- UNKNOWN_REQUEST (R391, R392): a code not in the table, or not permitted on its transport or mailbox. -/
def execUnknownRequest (l : Lane) (r : Req) (code : Nat) (body : List (BitVec 8)) (t : Nat) (s : State) : Out :=
  onLane l t s fun L =>
    let fits := match cmdRow code with
      | some c => placeOk c r
      | none => false
    let hello := code == 0x0100 && r.mbox != 0 && r.mbox != 15 && r.transport != .internal && !r.module
    let crook := code == 0x0F00 && r.mbox == 15
    if fits || hello || crook then L else L.receive l code r body fun L => L

/-! ## The internal transport (R410) -/

/-- Header words of a reply. -/
def replyHeader (l : Lane) (p : Reply) : List Word :=
  let b := replyHead (laneIx l) p
  [bytesWord (b.take 4), bytesWord ((b.drop 4).take 4), bytesWord ((b.drop 8).take 4), bytesWord ((b.drop 12).take 4)]

/-- The next internal reply becomes visible, at a slot start. -/
def LaneSt.showReply (L : LaneSt) (l : Lane) : LaneSt :=
  match L.mbx.inner with
  | [] => L
  | p :: rest =>
    if L.on Reg.MBX_STAT_RPL_READY then L
    else
      let L := (replyHeader l p).zipIdx.foldl (fun L w => L.wr (Reg.MBX_RPL_HDR_WORD w.2) w.1.toNat) L
      let L := forN ((p.payload.length + 3) / 4) (fun j L =>
        L.setReg (0x400F2000 + 4 * j) (bytesWord ((p.payload.drop (4 * j)).take 4))) L
      let L := (L.put Reg.MBX_STAT_RPL_READY true).wr Reg.MBX_STAT_LAST_NAK (p.nak.getD 0)
      L.updMbx fun m => { m with inner := rest }

/-- MBX_REPLY_RELEASE. -/
def execMbxReplyRelease (l : Lane) (v : BitVec 32) (s : State) : Out :=
  onLaneNow l s fun L =>
    if v.getLsbD 0 then (L.put Reg.MBX_STAT_RPL_READY false).wr Reg.MBX_STAT_LAST_NAK 0 else L

/-! ## Taps (R401) -/

/-- Start a tap, or answer ARGUMENT. -/
def LaneSt.startTap (L : LaneSt) (code : Nat) (r : Req) (stream : Option Nat) (dec dur : Nat) (bad : Option Nat) : LaneSt :=
  match bad with
  | some d => L.refuse code r nakArgument d
  | none =>
    L.updMbx fun m => { m with taps := m.taps ++ [
      { req := r, code := code, stream := stream, dec := dec, endAt := L.time + dur * 1000000000, count := 0
        last := cycleOf L.time }] }

/-- First of a list of checks that fails: the argument offset. -/
def firstBad (cs : List (Bool × Nat)) : Option Nat := (cs.find? fun c => !c.1).map (·.2)

/-- GRAZE_TAP. -/
def execGrazeTap (l : Lane) (r : Req) (decimation duration : Nat) (t : Nat) (s : State) : Out :=
  laneCmd l 0x0800 r (leBytes 1 decimation ++ leBytes 2 duration) t s fun L => L.startTap 0x0800 r none (64 * decimation) duration (firstBad
    [(decide (1 ≤ decimation) && decide (decimation ≤ 255), 0), (decide (1 ≤ duration) && decide (duration ≤ 600), 1)])

/-- SKIM_TAP. -/
def execSkimTap (l : Lane) (r : Req) (stream decimation duration : Nat) (t : Nat) (s : State) : Out :=
  laneCmd l 0x0801 r (leBytes 1 stream ++ leBytes 1 decimation ++ leBytes 2 duration) t s fun L => L.startTap 0x0801 r (some stream) decimation duration (firstBad
    [(decide (stream < 4) && L.on (Reg.FLK_SKIM_CFG_EN stream), 0), (decide (1 ≤ decimation) && decide (decimation ≤ 255), 1),
     (decide (1 ≤ duration) && decide (duration ≤ 600), 2)])

/-- The tap of mailbox `m` ends with its final reply. -/
def LaneSt.dropTap (L : LaneSt) (m : Nat) : LaneSt :=
  let L := (L.mbx.taps.filter fun x => x.req.mbox == m).foldl (fun L x => L.endTap x) L
  L.updMbx fun b => { b with taps := b.taps.filter fun x => x.req.mbox ≠ m }

/-- TAP_STOP: ARGUMENT when no tap runs in that mailbox. -/
def execTapStop (l : Lane) (r : Req) (mbox : Nat) (t : Nat) (s : State) : Out :=
  laneCmd l 0x0802 r (leBytes 1 mbox) t s fun L =>
    if L.mbx.taps.any fun x => x.req.mbox == mbox then (L.dropTap mbox).finish 0x0802 r []
    else L.refuse 0x0802 r nakArgument 0

/-- Payload of a delivery: its count, and the Graze or Skim payload. -/
def LaneSt.tapPayload (L : LaneSt) (x : Tap) : List Byte :=
  leBytes 4 x.count ++ (match x.stream with
    | none => L.grazePayload
    | some i => (L.skimPayload i (cycleStart L.time - 250000)).1)

/-- TAP_DELIVERY: due every `dec` cycles; one that cannot be sent is skipped, and counts. -/
def execTapDelivery (l : Lane) (mbox : Nat) (canSend : Bool) (s : State) : Out :=
  onLaneNow l s fun L =>
    let L := L.updMbx fun m => { m with out := [] }
    match L.mbx.taps.find? fun x => x.req.mbox == mbox with
    | some x =>
      if x.last + x.dec ≤ cycleOf L.time then
        let L := if canSend then L.sendReply (L.replyTo x.code x.req none true (L.tapPayload x)) else L
        let y := { x with count := x.count + 1, last := cycleOf L.time }
        L.updMbx fun m => { m with taps := m.taps.map fun z => if z.req.mbox == mbox then y else z }
      else L
    | none => L

/-- TAP_END: at its duration. -/
def execTapEnd (l : Lane) (mbox : Nat) (t : Nat) (s : State) : Out :=
  onLane l t s fun L =>
    let L := L.updMbx fun m => { m with out := [] }
    if L.mbx.taps.any fun x => x.req.mbox == mbox && decide (x.endAt ≤ t) then L.dropTap mbox else L

/-! ## CROOK (R404, R405) -/

/-- Partial loads are discarded: slot or bank EMPTY. -/
def LaneSt.dropLoads (L : LaneSt) : LaneSt :=
  let L := match L.mbx.img with
    | some b => ((L.eraseMem (slotBase b) 0x40000).eraseSlotRec b).setSlot b Slot.blank
    | none => L
  let L := match L.mbx.fw with
    | some b => L.setBank b Bank.blank
    | none => L
  L.updMbx fun m => { m with img := none, fw := none }

/-- The mailbox functions end orderly: every request ends with ABORTED, taps end, unconfirmed commands and partial loads are
dropped; a commit runs on. -/
def LaneSt.abortMailbox (L : LaneSt) : LaneSt :=
  let L := (L.mbx.waiting ++ L.mbx.asked).foldl (fun L h => if h.named then L.refuse h.code h.req nakAborted else L) L
  let L := L.mbx.taps.foldl (fun L x => L.endTap x) L
  let L := if L.mbx.commit.isNone then L.dropLoads else L
  (L.updMbx fun m => { m with waiting := [], asked := [], taps := [], segs := [] }).showPending

/-- The axis stops at the next microstep with coils HOLD; its reference is unchanged (R444). -/
def LaneSt.abortAux (L : LaneSt) : LaneSt :=
  let ref := L.rd Reg.AUX_STAT_REF
  (L.auxAbort true).wr Reg.AUX_STAT_REF ref

/-- Note how a named function ended. -/
def LaneSt.crookDone (L : LaneSt) (f : CrookSt → CrookSt) : LaneSt :=
  let L := L.updMbx fun m => { m with crook := m.crook.map f }
  match L.mbx.crook with
  | some c => (L.wr Reg.MBX_CROOK_STAT_MAILBOX c.mbxDone).wr Reg.MBX_CROOK_STAT_AUX c.auxDone
  | none => L

/-- The orderly abort goes on: the mailbox functions once no slice runs and no commit is in progress, the axis once it stands. -/
def LaneSt.crookGoes (L : LaneSt) : LaneSt :=
  match L.mbx.crook with
  | none => L
  | some c =>
    let L := if c.mbxAt.isSome && c.mbxDone == 0 && !L.chn.active && L.mbx.commit.isNone then
        L.abortMailbox.crookDone fun c => { c with mbxDone := 1 } else L
    if c.auxAt.isSome && c.auxDone == 0 && !L.aux.halt then L.crookDone fun c => { c with auxDone := 1 } else L

/-- SOURCE of MBX_CROOK_STAT. -/
def crookSource : Transport → Nat
  | .flock => 1
  | .can => 2
  | .debug => 3
  | .internal => 4

/-- Start the abort of the named functions; a second CROOK adds its own. -/
def LaneSt.crookStart (L : LaneSt) (r : Req) (mailbox aux : Bool) : LaneSt :=
  let t := L.time
  let c := match L.mbx.crook with
    | some c => { c with mbxAt := if mailbox && c.mbxAt.isNone then some t else c.mbxAt
                         auxAt := if aux && c.auxAt.isNone then some t else c.auxAt }
    | none => { req := r, at_ := t, mbxAt := if mailbox then some t else none, auxAt := if aux then some t else none
                mbxDone := 0, auxDone := 0 }
  let new := aux && (match L.mbx.crook with
    | some d => d.auxAt.isNone
    | none => true)
  let L := L.updMbx fun m => { m with crook := some c }
  let L := (L.crookDone fun c => c).wr Reg.MBX_CROOK_STAT_SOURCE (crookSource r.transport)
  (if new then L.abortAux else L).crookGoes

/-- A CROOK's tag verifies (R390): in the open session with its role, under the group key from a MUTE host, or on the internal
transport, which carries none. -/
def LaneSt.crookOk (L : LaneSt) (r : Req) (msg : List Byte) : Bool :=
  r.transport == .internal || L.groupOk r msg ||
  (L.sessionOk r msg && (L.mbx.roles.getLsbD 0 || L.mbx.roles.getLsbD 1))

/-- CROOK: a verified one bypasses quarantine, rate and busy mailboxes; one that does not verify is an AUTH violation, and one that
is not in mailbox 15 is UNKNOWN (R392). -/
def execCrook (l : Lane) (r : Req) (mailbox aux : Bool) (t : Nat) (s : State) : Out :=
  onLane l t s fun L =>
    let L := L.updMbx fun m => { m with out := [] }
    let msg := headerBytes 0x0F00 r ++ leBytes 2 ((if mailbox then 1 else 0) + if aux then 2 else 0)
    if !named r l then L
    else if L.crookOk r msg && (r.mbox == 15 || r.transport == .internal) then L.crookStart r mailbox aux
    else if L.mbx.quar.any (fun q => q.1 == L.reqKey r msg) then L.sendNak 0x0F00 r nakQuarantined 0 0
    else L.turnAway 0x0F00 (L.reqKey r msg) r (if r.mbox = 15 then nakAuth else nakUnknown) 0 0

/-- The Shepherd core resets: every session and request is gone; an interrupted commit leaves the previous image or bank. -/
def LaneSt.resetShepherd (L : LaneSt) : LaneSt :=
  let L := (L.dropLoads.put Reg.MBX_STAT_SHEP_UP false).put Reg.MBX_STAT_BUSY false
  let L := ((L.setReg 0x400F000C 0#32).setReg 0x400F0010 0#32).put Reg.MBX_STAT_SESSION false
  let L := (L.put Reg.SEC_DBG_STAT_CHAL false).updSec fun x => { x with challenge := none }
  { L with
    core := { L.core with shep := Hart.reset }
    mbx := { MbxSt.reset with hosts := L.mbx.hosts, crook := L.mbx.crook, nonces := L.mbx.nonces, quar := L.mbx.quar } }.showPending

/-- CROOK_FORCED: 800 µs after a function was named and not ended. -/
def execCrookForced (l : Lane) (t : Nat) (s : State) : Out :=
  onLane l t s fun L =>
    let L := L.crookGoes
    match L.mbx.crook with
    | none => L
    | some c =>
      let late := fun (a : Option Nat) (d : Nat) => d == 0 && (match a with
        | some u => decide (u + 800000 ≤ t)
        | none => false)
      let L := if late c.mbxAt c.mbxDone then L.resetShepherd.crookDone fun c => { c with mbxDone := 2 } else L
      if late c.auxAt c.auxDone then (L.auxAbort false).crookDone fun c => { c with auxDone := 2 } else L

/-- CROOK_REPLY: 1.0 ms after receipt, when every named function has ended. -/
def execCrookReply (l : Lane) (t : Nat) (s : State) : Out :=
  onLane l t s fun L =>
    let L := L.updMbx fun m => { m with out := [] }
    match L.mbx.crook with
    | none => L
    | some c =>
      let first := min (c.mbxAt.getD c.at_) (c.auxAt.getD c.at_)
      let ended := (c.mbxAt.isNone || c.mbxDone != 0) && (c.auxAt.isNone || c.auxDone != 0)
      if first + 1000000 ≤ t ∧ ended then
        let L := L.wr Reg.MBX_CROOK_STAT_DURATION (min ((t - c.at_) / 1000) 4095)
        let L := L.sendReply (L.replyTo 0x0F00 c.req none false (wordBytes (L.reg 0x400F0024)))
        L.updMbx fun m => { m with crook := none }
      else L

/-- SHEPHERD_RESTART (R404). -/
def execShepherdRestart (l : Lane) (s : State) : Out :=
  onLaneNow l s fun L => if L.sys.boot = .none then L.put Reg.MBX_STAT_SHEP_UP true else L

end Sys2Proof.Machine
end

