-- ==== Sys2Proof/Machine/Commands.lean ====
section
/-! DEFINITION. The mailbox commands of groups 0x01 to 0x06 (R400): identity, state, image, calibration, diagnostics, firmware;
HELLO and its session; and what module-addressed commands do in their action slot. -/
namespace Sys2Proof.Machine

/-! ## HELLO (R395, R396, R421) -/

/-- Little-endian bytes of a register. -/
def LaneSt.regBytes (L : LaneSt) (a : Nat) : List Byte := wordBytes (L.reg a)

/-- SVN of the running bank. -/
def LaneSt.runSvn (L : LaneSt) : Nat := if L.nvm.runB then L.nvm.bankB.svn else L.nvm.bankA.svn

/-- The host key of a requester (R417). -/
def LaneSt.hostKey (L : LaneSt) (q : Word) : List Byte := kmac128 L.sec.keys.hmk (wordBytes q) 32 (ascii "HOST")

/-- The HELLO payload before SIG, and whole (R421). -/
def helloSigned (a : HelloArgs) : List Byte :=
  leBytes 1 a.vmin ++ leBytes 1 a.vmax ++ leBytes 2 0 ++ wordBytes a.session ++ (a.nonce ++ List.replicate 32 0#8).take 32 ++
  wordBytes a.requester ++ leBytes 2 a.roles.toNat ++ leBytes 2 0 ++ (a.certSig ++ List.replicate 3309 0#8).take 3309
def helloBody (a : HelloArgs) : List Byte := helloSigned a ++ (a.sig ++ List.replicate 32 0#8).take 32

/-- Certificate and signature verify (R395, R421): the owner's signature over the certificate, which names the requester, and SIG under
its host key. -/
def LaneSt.helloOk (L : LaneSt) (r : Req) (a : HelloArgs) : Bool :=
  a.certOk && a.requester == r.requester && L.on Reg.SEC_KEY_STAT_HMK &&
  a.sig == kmac128 (L.hostKey a.requester) (helloSigned a) 32 (ascii "HELLO")

/-- Open the session of a HELLO that is accepted: the one before ends, and the session key is derived (R417, R421). -/
def LaneSt.openSession (L : LaneSt) (r : Req) (a : HelloArgs) : LaneSt :=
  let L := L.closeSession
  let sk := kmac128 (L.hostKey r.requester) (wordBytes a.session ++ leBytes 8 Config.serial.toNat ++ a.nonce) 32 (ascii "SES")
  let L := ((L.setReg 0x400F000C a.session).setReg 0x400F0010 r.requester).put Reg.MBX_STAT_SESSION true
  let L := (L.put Reg.SEC_KEY_STAT_SESSION true).updKeys fun k => { k with sk := sk }
  L.updMbx fun m => { m with roles := a.roles, pwOk := false, lastCmd := L.time, nonces := (a.nonce :: m.nonces).take 64 }

/-- What HELLO answers beyond the checks of every request: NAK code and detail, 0 to accept. -/
def LaneSt.helloNak (L : LaneSt) (a : HelloArgs) (ok : Bool) : Nat × Nat :=
  if L.on Reg.SEC_RIND_STAT_ALARM then (nakLifecycle, 1)
  else if !ok || L.mbx.nonces.contains a.nonce then (nakAuth, 0)
  else if a.session = 0#32 then (nakArgument, 4)
  else if (shared (a.vmin, a.vmax) (1, 2)).isNone then (nakVersion, 0)
  else (0, 0)

/-- A HELLO in an accepted place. -/
def LaneSt.takeHello (L : LaneSt) (l : Lane) (key : Nat) (r : Req) (a : HelloArgs) (ok : Bool) : LaneSt :=
  let why := L.helloNak a ok
  if why.1 ≠ 0 then L.turnAway 0x0100 key r why.1 why.2 0
  else
    let v := (shared (a.vmin, a.vmax) (1, 2)).getD 1
    let L := (L.openSession r a).noteReq key r (headerBytes 0x0100 r ++ helloBody a) true
    L.finish 0x0100 r (leBytes 1 v ++ leBytes 1 (laneIx l + 1) ++ leBytes 8 Config.serial.toNat ++
      leBytes 1 (L.rd Reg.SEC_LC_STATE) ++ leBytes 2 L.runSvn)

/-- HELLO: its requester key is its transport source when its signature fails. Any SEQ will do (R393). -/
def execHello (l : Lane) (r : Req) (a : HelloArgs) (t : Nat) (s : State) : Out :=
  onLane l t s fun L =>
    let L := L.updMbx fun m => { m with out := [] }
    if !L.hears || !named r l || r.transport == .internal || (r.transport == .can && !L.canReaches r.key) then L
    else
      let ok := L.helloOk r a
      let key := if ok then 2 * r.requester.toNat + 1 else 2 * r.key
      let L := L.noteRate key
      match L.gate key r (helloBody a) with
      | some n => L.turnAway 0x0100 key r n 0 0
      | none =>
        if r.mbox = 0 ∨ r.mbox = 15 ∨ r.module then L.turnAway 0x0100 key r nakUnknown 0 0
        else if L.holdsBox r.mbox then L.turnAway 0x0100 key r nakBusy 0 0
        else match L.order key r (headerBytes 0x0100 r ++ helloBody a) with
          | .again p => L.sendReply p
          | .nothing => L
          | _ => L.takeHello l key r a ok

/-- SESSION_TIMEOUT (R104): 600 s without a command. -/
def execSessionTimeout (l : Lane) (t : Nat) (s : State) : Out :=
  onLane l t s fun L => if L.mbx.lastCmd + 600000000000 ≤ t then (L.updMbx fun m => { m with out := [] }).endSession else L

/-! ## Group 0x01 (R400, R414, R419, R420) -/

/-- IMAGE_SEQ of the image in force; 0 with none. -/
def LaneSt.imageSeq (L : LaneSt) : Nat :=
  if L.nvm.inForce then ((L.slotRec (L.nvm.chosen == some true)).map (·.seq)).getD 0 else 0

/-- GET_ID's reply; a decommissioned lane sends zeros for banks and image (R414). -/
def LaneSt.idBytes (L : LaneSt) : List Byte :=
  let gone := L.rd Reg.SEC_LC_STATE == 5
  leBytes 8 Config.serial.toNat ++ leBytes 1 Config.orderCode.toNat ++ leBytes 1 (L.rd Reg.SYS_ID_DIEREV) ++
  (if gone then leBytes 20 0 else L.nvm.bankA.wire ++ L.nvm.bankB.wire ++ leBytes 4 L.imageSeq) ++ leBytes 1 1 ++ leBytes 1 2

/-- GET_ID. A decommissioned lane answers it from its boot ROM over DBG_x, and nothing else (R414). -/
def execGetId (l : Lane) (r : Req) (t : Nat) (s : State) : Out :=
  let L := s.lane l
  if L.up && L.rd Reg.SEC_LC_STATE == 5 then
    onLane l t s fun L =>
      if r.transport = .debug ∧ named r l then (L.updMbx fun m => { m with out := [] }).finish 0x0101 r L.idBytes else L
  else readCmd l 0x0101 r t s fun L => L.idBytes

/-- Bytes of the running firmware bank (R29). -/
def LaneSt.bankBytes (L : LaneSt) : List Byte := L.bytes (if L.nvm.runB then 0x10300000 else 0x10000000) 0x300000

/-- What measurement `m` of those taken on request covers (R419): 5 factory calibration, 6 learned calibration, 7 LINK, 8 banks and
rollback counter, 9 security registers, 10 TMAP, 11 schedule digest. -/
def LaneSt.measured (L : LaneSt) (m : Nat) : List Byte :=
  match m with
  | 5 => L.bytes 0x10680000 0x10000
  | 6 => L.bytes 0x10690000 0x10000
  | 7 => L.nvm.tallyLink
  | 8 => L.nvm.bankA.wire ++ L.nvm.bankB.wire ++ leBytes 2 L.nvm.rollback
  | 9 => L.regBytes 0x400E0000 ++ L.regBytes 0x400E0004 ++ L.regBytes 0x400E0008
  | 10 => (List.range 49152).flatMap fun i => wordBytes (L.reg (0x40200000 + 4 * i))
  | _ => leBytes 8 L.flk.digest.toNat

/-- Measurement `m` (R419): 0 to 4 as taken at boot. -/
def LaneSt.measurement (L : LaneSt) (m : Nat) : List Byte :=
  if m < 5 then L.sec.meas.getD m [] else shake256 32 (L.measured m)

/-- The quote of R420. -/
def LaneSt.quote (L : LaneSt) (l : Lane) (nonce : List Byte) (mask : Word) : List Byte :=
  [0x51#8, 0x55#8, 0x4F#8, 0x54#8] ++ leBytes 1 (laneIx l + 1) ++ leBytes 1 (L.rd Reg.SEC_LC_STATE) ++
  leBytes 2 (L.rd Reg.SEC_LC_LC_SEQ) ++ leBytes 8 Config.serial.toNat ++ leBytes 4 (L.rd Reg.SEC_BOOTCNT_COUNT) ++
  wordBytes mask ++ leBytes 8 L.time ++ nonce.take 32 ++
  ((List.range 12).filter fun m => mask.getLsbD m).flatMap L.measurement

/-- ATTEST. -/
def execAttest (l : Lane) (r : Req) (nonce : List (BitVec 8)) (mask : BitVec 32) (t : Nat) (s : State) : Out :=
  laneCmd l 0x0102 r ((nonce ++ List.replicate 32 0#8).take 32 ++ wordBytes mask) t s fun L =>
    if L.on Reg.SEC_KEY_STAT_IDENT then
      let q := L.quote l nonce mask
      L.finish 0x0102 r (q ++ Config.sign (laneIx l) q)
    else L.refuse 0x0102 r nakLifecycle

/-- GET_KEY. -/
def execGetKey (l : Lane) (r : Req) (t : Nat) (s : State) : Out :=
  laneCmd l 0x0103 r [] t s fun L =>
    if L.on Reg.SEC_KEY_STAT_IDENT then L.finish 0x0103 r (Config.identityKey (laneIx l)) else L.refuse 0x0103 r nakLifecycle

/-! ## Group 0x02 -/

/-- GET_STATE. -/
def execGetState (l : Lane) (r : Req) (t : Nat) (s : State) : Out :=
  readCmd l 0x0200 r t s fun L =>
    [0x40000004, 0x4000000C, Reg.AGR_STAT_VERSION.addr, Reg.SAFE_STAT_LATCH.addr].flatMap L.regBytes

/-- REQ_STATE, SAFE_STOP, RESET_ARM, RESET_CONFIRM. -/
def execReqState (l : Lane) (r : Req) (target : BitVec 3) (t : Nat) (s : State) : Out :=
  moduleCmd l 0x0201 r (leBytes 1 target.toNat) (.reqState target) t s
def execSafeStop (l : Lane) (r : Req) (mask : BitVec 3) (ss1 : Bool) (t : Nat) (s : State) : Out :=
  moduleCmd l 0x0202 r (leBytes 1 mask.toNat ++ leBytes 1 (if ss1 then 1 else 0)) (.safeStop mask ss1) t s
def execResetArm (l : Lane) (r : Req) (t : Nat) (s : State) : Out := moduleCmd l 0x0203 r [] .resetArm t s
def execResetConfirm (l : Lane) (r : Req) (challenge : BitVec 16) (stoHigh : Bool) (t : Nat) (s : State) : Out :=
  moduleCmd l 0x0204 r (leBytes 2 challenge.toNat) (.resetConfirm challenge stoHigh) t s

/-- REQ_STATE acts: the request goes to the state controller; the reply follows its result. -/
def LaneSt.actReqState (L : LaneSt) (h : Held) (target : BitVec 3) : LaneSt :=
  let n := L.rd Reg.SYS_TRANS_STAT_SEQ
  (L.request target.toNat).updMbx fun m => { m with asked := m.asked ++ [{ h with before := n }] }

/-- The result of REQ_STATE is there (R400): SYS_TRANS_STAT has changed, or FOLD has been entered. -/
def LaneSt.hasResult (L : LaneSt) (h : Held) : Bool :=
  L.rd Reg.SYS_TRANS_STAT_SEQ != h.before || (h.cmd == .reqState 5#3 && L.st == stFold)

/-- Reply with RESULT, BLOCK and REASON, or REFUSED with the reason. -/
def LaneSt.answerState (L : LaneSt) (h : Held) : LaneSt :=
  if L.rd Reg.SYS_TRANS_STAT_RESULT = 4 then L.refuse h.code h.req nakRefused (L.rd Reg.SYS_TRANS_STAT_REASON)
  else L.finish h.code h.req (wordBytes (Reg.SYS_TRANS_STAT_SEQ.set (L.reg Reg.SYS_TRANS_STAT_SEQ.addr) 0))

/-- Answer the REQ_STATE commands whose result is there; a session that was to end ends now (R396). -/
def LaneSt.answerAsked (L : LaneSt) : LaneSt :=
  let ready := L.mbx.asked.filter L.hasResult
  let L := ready.foldl (fun L h => L.answerState h) L
  let L := L.updMbx fun m => { m with asked := m.asked.filter fun h => !ready.contains h }
  if L.mbx.endDue && L.mbx.asked.isEmpty then L.closeSession else L

/-- SAFE_STOP acts (R276, R277). -/
def LaneSt.actSafeStop (L : LaneSt) (l : Lane) (h : Held) (mask : BitVec 3) (ss1 : Bool) : LaneSt :=
  if L.st < stArm then L.refuse h.code h.req nakState L.st
  else
    let L := if ss1 then L.askSs1 .mbx mask.toNat
      else (L.updSafe fun s => { s with mbx := setMask s.mbx mask.toNat true }).refreshSafe l
    L.finish h.code h.req []

/-- The session of R284: the REQUESTER while a Rind alarm is latched (R427). -/
def LaneSt.resetSession (L : LaneSt) (r : Req) : Word := if L.on Reg.SEC_RIND_STAT_ALARM then r.requester else r.session

/-- RESET_ARM acts: the challenge of R400. -/
def LaneSt.actResetArm (L : LaneSt) (h : Held) : LaneSt :=
  let c := shake256 2 (wordBytes (L.resetSession h.req) ++ leBytes 2 h.req.seq.toNat ++ leBytes 8 (cycleOf L.time))
  let v := match c with
    | a :: b :: _ => BitVec.ofNat 16 (a.toNat + 256 * b.toNat)
    | _ => 0#16
  (L.updSafe fun s => { s with armed := some (v, L.resetSession h.req, h.at_) }).finish h.code h.req (leBytes 2 v.toNat)

/-- RESET_CONFIRM acts (R284): as a qualified edge; refused with 0x0486 when late, early, foreign or wrong. -/
def LaneSt.actResetConfirm (L : LaneSt) (l : Lane) (h : Held) (c : BitVec 16) (stoHigh : Bool) : LaneSt :=
  let ok := match L.safe.armed with
    | some (v, id, u) => v == c && id == L.resetSession h.req && decide (u + 50000000 ≤ h.at_) && decide (h.at_ ≤ u + 2000000000)
    | none => false
  let L := L.updSafe fun s => { s with armed := none }
  if ok then (L.resetEdge l stoHigh L.time).finish h.code h.req []
  else ((L.inc Reg.SAFE_CNT_REJECTED).raise 0x0486).refuse h.code h.req nakChallenge

/-! ## Group 0x03: images (R97 to R103) -/

/-- The slot not in force: the one not chosen at this start. With no slot in force, of which the spec says nothing, the model takes slot
0 (log entry 53, DESIGN CHOICE). -/
def LaneSt.freeSlot (L : LaneSt) : Bool := L.nvm.chosen == some false

/-- IMG_BEGIN. -/
def execImgBegin (l : Lane) (r : Req) (length : Nat) (t : Nat) (s : State) : Out :=
  laneCmd l 0x0300 r (leBytes 4 length) t s fun L =>
    if 0x40000 < length then L.refuse 0x0300 r nakArgument 0
    else
      let b := L.freeSlot
      let L := ((L.eraseMem (slotBase b) 0x40000).eraseSlotRec b).setSlot b { Slot.blank with len := length }
      (L.updMbx fun m => { m with img := some b }).finish 0x0300 r (leBytes 1 (if b then 1 else 0))

/-- IMG_WRITE. -/
def execImgWrite (l : Lane) (r : Req) (offset : Nat) (data : List (BitVec 8)) (t : Nat) (s : State) : Out :=
  laneCmd l 0x0301 r (leBytes 4 offset ++ data) t s fun L =>
    match L.mbx.img with
    | some b =>
      if (L.slot b).len < offset + data.length then L.refuse 0x0301 r nakArgument 0
      else ((L.setBytes (slotBase b + offset) data).setSlot b { L.slot b with facts := none }).finish 0x0301 r []
    | none => L.refuse 0x0301 r nakArgument 0

/-- IMG_VERIFY: an invalid image raises 0x0D01 and leaves the slot without facts. -/
def execImgVerify (l : Lane) (r : Req) (f : ImgFacts) (t : Nat) (s : State) : Out :=
  laneCmd l 0x0302 r [] t s fun L =>
    match L.mbx.img with
    | some b =>
      let ok := L.imageOk b f
      let L := (L.setSlot b { L.slot b with facts := if ok then some f else none }).raiseIf (!ok) 0x0D01
      L.finish 0x0302 r (leBytes 1 (if ok then 1 else 0) ++ L.imgDigestBytes b ++ leBytes 2 (L.imgChanged b).toNat ++
        leBytes 1 (if L.imgChanged b &&& safetyGroups = 0#16 then 0 else 1))
    | none => L.refuse 0x0302 r nakArgument 0

/-- IMG_COMMIT. -/
def execImgCommit (l : Lane) (r : Req) (digest : List (BitVec 32)) (f : ImgFacts) (t : Nat) (s : State) : Out :=
  moduleCmd l 0x0303 r (bytesOf digest) (.imgCommit digest f) t s

/-- Steps 1 to 3 of a commit (R102): the loaded image verifies, with that digest; the password where a safety group changes; the Tally
entries. Step 4 is due at the next slot start (log entry 22). -/
def LaneSt.actImgCommit (L : LaneSt) (l : Lane) (h : Held) (digest : List Word) (f : ImgFacts) : LaneSt :=
  if L.st ≠ stStandby then L.refuse h.code h.req nakState L.st
  else match L.mbx.img with
    | none => L.refuse h.code h.req nakVerify
    | some b =>
      let ok := L.imageOk b f
      let L := (L.setSlot b { L.slot b with facts := if ok then some f else none }).raiseIf (!ok) 0x0D01
      if !ok || L.imgDigest b != digest then L.refuse h.code h.req nakVerify
      else if L.imgChanged b &&& safetyGroups ≠ 0#16 ∧ !L.mbx.pwOk then L.refuse h.code h.req nakPassword
      else
        let d := (L.imgDigestBytes b).take 8
        let L := L.tally l 0x0001 h.req.requester.toNat d
        let L := if L.imgChanged b &&& safetyGroups = 0#16 then L else L.tally l 0x0002 h.req.requester.toNat d
        L.updMbx fun m => { m with commit := some h }

/-- Step 4 (R102): the slot record, as the last write. -/
def LaneSt.recordSlot (L : LaneSt) (h : Held) : LaneSt :=
  match L.mbx.img with
  | some b =>
    let n := L.imgSeq b
    let L := (L.writeSlotRec b { seq := n, digest := L.imgDigest b }).updMbx fun m => { m with img := none }
    L.finish h.code h.req (leBytes 4 n)
  | none => L.refuse h.code h.req nakVerify

/-- Bytes of a region of `size` at `base`, or ARGUMENT. -/
def LaneSt.readRange (L : LaneSt) (code : Nat) (r : Req) (size offset length at_ : Nat) (f : Nat → Byte) : LaneSt :=
  if size < offset + length ∨ 4096 < length then L.refuse code r nakArgument at_
  else L.finish code r ((List.range length).map fun i => f (offset + i))

/-- CFG_READ. -/
def execCfgRead (l : Lane) (r : Req) (slot offset length : Nat) (t : Nat) (s : State) : Out :=
  laneCmd l 0x0304 r (leBytes 1 slot ++ leBytes 4 offset ++ leBytes 2 length) t s fun L =>
    if 1 < slot then L.refuse 0x0304 r nakArgument 0
    else L.readRange 0x0304 r 0x40000 offset length 1 fun i => L.byte (slotBase (slot == 1) + i)

/-! ## Group 0x04: calibration (R240 to R242) -/

/-- LEARN_START. -/
def execLearnStart (l : Lane) (r : Req) (n : Nat) (t : Nat) (s : State) : Out := moduleCmd l 0x0400 r (leBytes 4 n) (.learnStart n) t s

/-- LEARN_START acts (R241, R400). -/
def LaneSt.actLearnStart (L : LaneSt) (h : Held) (n : Nat) : LaneSt :=
  if !L.learnState || decide (256 < L.com.pending.length) then L.refuse h.code h.req nakState L.st
  else if n < cycleOf L.time + 8 then L.refuse h.code h.req nakArgument 0
  else
    let run : Learn := { at_ := n, running := false, jc := 0, tc := 0, icmd := [], prevV := none, lastW := none
                         acc := List.replicate 128 0, cnt := List.replicate 128 0, revMean := none, revSum := 0, revCnt := 0
                         done := false }
    { L with com := { L.com with learn := some run } }.finish h.code h.req []

/-- CAL_READ. -/
def execCalRead (l : Lane) (r : Req) (offset length : Nat) (t : Nat) (s : State) : Out :=
  laneCmd l 0x0401 r (leBytes 4 offset ++ leBytes 2 length) t s fun L =>
    L.readRange 0x0401 r 0x10000 offset length 0 fun i => L.byte (0x10690000 + i)

/-- CAL_SAVE. -/
def execCalSave (l : Lane) (r : Req) (t : Nat) (s : State) : Out := moduleCmd l 0x0402 r [] .calSave t s

/-- CAL_SAVE acts: pending learned values go to MRAM, with a Tally entry. -/
def LaneSt.actCalSave (L : LaneSt) (l : Lane) (h : Held) : LaneSt :=
  let n := L.com.pending.length
  let old := L.nvm.overlay.filter fun e => !(L.com.pending.any fun p => p.1 == e.1)
  let new := L.com.pending
  let L := { L.updCal (fun n => { n with overlay := old ++ new, mapsDig := L.mapsDigest }) with com := { L.com with pending := [] } }
  ((L.wr Reg.COM_MAP_STAT_PENDING 0).tally l 0x0008 h.req.requester.toNat).finish h.code h.req (leBytes 2 n)

/-! ## Group 0x05: diagnostics -/

/-- FC_READ: FC_STAT to FC_REC, the write-only FC_ACK as 0, and the fifteen counts. -/
def execFcRead (l : Lane) (r : Req) (t : Nat) (s : State) : Out :=
  readCmd l 0x0500 r t s fun L =>
    (List.range 9).flatMap (fun i => if i = 4 then leBytes 4 0 else L.regBytes (0x40010000 + 4 * i)) ++
    (List.range 15).flatMap fun i => L.regBytes (0x40010044 + 4 * i)

/-- FC_ACK. -/
def execFcAck (l : Lane) (r : Req) (classes : BitVec 16) (rearm : Bool) (t : Nat) (s : State) : Out :=
  moduleCmd l 0x0501 r (leBytes 2 classes.toNat ++ leBytes 1 (if rearm then 1 else 0)) (.fcAck classes rearm) t s

/-- FC_ACK acts as a write of the register (R294): bit c of the mask is class c. -/
def LaneSt.actFcAck (L : LaneSt) (l : Lane) (h : Held) (classes : BitVec 16) (rearm : Bool) : LaneSt :=
  let L := L.ackClasses l (classes.toNat / 2)
  (if rearm then L.rearmFirst else L).finish h.code h.req []

/-- REC_READ. -/
def execRecRead (l : Lane) (r : Req) (index : Nat) (t : Nat) (s : State) : Out :=
  laneCmd l 0x0502 r (leBytes 2 index) t s fun L =>
    if 1024 ≤ index then L.refuse 0x0502 r nakArgument 0 else L.finish 0x0502 r (L.bytes (recordAddr index) 512)

/-- TALLY_READ: entries that are retained. -/
def execTallyRead (l : Lane) (r : Req) (first count : Nat) (t : Nat) (s : State) : Out :=
  laneCmd l 0x0503 r (leBytes 4 first ++ leBytes 1 count) t s fun L =>
    let n := L.nvm.tallySeq
    if count = 0 ∨ 63 < count then L.refuse 0x0503 r nakArgument 4
    else if n < first + count ∨ first + 1024 < n then L.refuse 0x0503 r nakArgument 0
    else L.finish 0x0503 r ((L.nvm.anchor ++ List.replicate 32 0#8).take 32 ++
      (List.range count).flatMap fun i => L.bytes (0x106A0000 + 64 * ((first + i) % 1024)) 64)

/-- LOG_READ. -/
def execLogRead (l : Lane) (r : Req) (offset length : Nat) (t : Nat) (s : State) : Out :=
  laneCmd l 0x0504 r (leBytes 4 offset ++ leBytes 2 length) t s fun L =>
    L.readRange 0x0504 r 0xC0000 offset length 0 fun i => L.byte (0x10740000 + i)

/-- MBX_STATS. -/
def execMbxStats (l : Lane) (r : Req) (t : Nat) (s : State) : Out :=
  readCmd l 0x0505 r t s fun L => [0x400F0014, 0x400F0018, 0x400F001C, 0x400F0024].flatMap L.regBytes

/-! ## Group 0x06: firmware (R93, R94, R402, R403) -/

/-- FW_BEGIN: the bank not running becomes EMPTY. -/
def execFwBegin (l : Lane) (r : Req) (length svn : Nat) (t : Nat) (s : State) : Out :=
  laneCmd l 0x0600 r (leBytes 4 length ++ leBytes 2 svn) t s fun L =>
    if 0x300000 < length then L.refuse 0x0600 r nakArgument 0
    else
      let b := !L.nvm.runB
      let L := L.setBank b { Bank.blank with svn := svn, len := length }
      (L.updMbx fun m => { m with fw := some b }).finish 0x0600 r (leBytes 1 (if b then 1 else 0))

/-- FW_WRITE. -/
def execFwWrite (l : Lane) (r : Req) (offset : Nat) (data : List (BitVec 8)) (t : Nat) (s : State) : Out :=
  laneCmd l 0x0601 r (leBytes 4 offset ++ data) t s fun L =>
    match L.mbx.fw with
    | some b =>
      if (L.bank b).len < offset + data.length then L.refuse 0x0601 r nakArgument 0
      else ((L.setBytes (bankBase b + offset) data).setBank b { L.bank b with verified := false }).finish 0x0601 r []
    | none => L.refuse 0x0601 r nakArgument 0

/-- FW_VERIFY: signature, and SVN at least the rollback counter (R94). -/
def execFwVerify (l : Lane) (r : Req) (f : FwFacts) (t : Nat) (s : State) : Out :=
  laneCmd l 0x0602 r [] t s fun L =>
    match L.mbx.fw with
    | some b =>
      let ok := f.sigOk && decide (L.nvm.rollback ≤ f.svn)
      let L := L.setBank b { L.bank b with verified := ok, svn := f.svn, digest := f.digest }
      L.finish 0x0602 r (leBytes 1 (if ok then 1 else 0) ++ leBytes 2 f.svn ++ bytesOf f.digest)
    | none => L.refuse 0x0602 r nakArgument 0

/-- FW_TRIAL, FW_COMMIT. -/
def execFwTrial (l : Lane) (r : Req) (digest : List (BitVec 32)) (t : Nat) (s : State) : Out :=
  moduleCmd l 0x0603 r (bytesOf digest) (.fwTrial digest) t s
def execFwCommit (l : Lane) (r : Req) (t : Nat) (s : State) : Out := moduleCmd l 0x0604 r [] .fwCommit t s

/-- FW_TRIAL acts (R402): the loaded bank, verified and of that digest, is TRIAL with the next SEQUENCE. -/
def LaneSt.actFwTrial (L : LaneSt) (h : Held) (digest : List Word) : LaneSt :=
  if L.st ≠ stStandby then L.refuse h.code h.req nakState L.st
  else
    let b := !L.nvm.runB
    let x := L.bank b
    if x.verified && x.digest == digest then
      let L := L.setBank b { x with state := .trial, seq := (L.bank L.nvm.runB).seq + 1 }
      (L.updMbx fun m => { m with fw := none }).finish h.code h.req []
    else L.refuse h.code h.req nakVerify

/-- The lane's self-test is complete (R403): a Churn cycle, and no reaction at L3 or above, in this start. -/
def LaneSt.selftested (L : LaneSt) : Bool :=
  L.rd Reg.CHN_CYCLE_CYCLES != L.chn.cyc0 &&
  !(L.fc.log.any fun e => decide (3 ≤ e.2.1) && decide (L.safe.laneStart ≤ e.2.2))

/-- FW_COMMIT acts (R403): its writes are due at the next slot start. -/
def LaneSt.actFwCommit (L : LaneSt) (h : Held) : LaneSt :=
  if L.st ≠ stStandby ∨ !L.nvm.trial then L.refuse h.code h.req nakState L.st
  else if !L.selftested then L.refuse h.code h.req nakSelftest
  else L.updMbx fun m => { m with commit := some h }

/-- The writes of FW_COMMIT: the bank COMMITTED, the rollback counter to its SVN if higher, a Tally entry for each. -/
def LaneSt.recordBank (L : LaneSt) (l : Lane) (h : Held) : LaneSt :=
  let b := L.nvm.runB
  let x := L.bank b
  let L := (L.setBank b { x with state := .committed }).tally l 0x0003 h.req.requester.toNat
  let L := if L.nvm.rollback < x.svn then { L with nvm := { L.nvm with rollback := x.svn } }.tally l 0x0004 h.req.requester.toNat
    else L
  { L with nvm := { L.nvm with trial := false } }.finish h.code h.req
    (leBytes 1 (if b then 1 else 0) ++ leBytes 4 x.seq ++ leBytes 2 L.nvm.rollback)

/-- FW_STATUS. -/
def execFwStatus (l : Lane) (r : Req) (t : Nat) (s : State) : Out :=
  readCmd l 0x0605 r t s fun L =>
    L.nvm.bankA.wire ++ L.nvm.bankB.wire ++ leBytes 2 L.nvm.rollback ++ leBytes 1 (if L.nvm.runB then 1 else 0) ++
    leBytes 1 (if L.nvm.trial then 1 else 0)

end Sys2Proof.Machine
end

