-- ==== Sys2Proof/Machine/Security.lean ====
section
/-! DEFINITION. Security (18): password, debug unlock and session, lifecycle, keys, the Rind alarm; and the action slot of the
module-addressed commands. -/
namespace Sys2Proof.Machine

/-- Lifecycle states of SEC_LC. -/
abbrev lcBlank : Nat := 0
abbrev lcProvisioned : Nat := 1
abbrev lcField : Nat := 2
abbrev lcService : Nat := 3
abbrev lcReturned : Nat := 4
abbrev lcDecommissioned : Nat := 5

/-- The lane's lifecycle state. -/
def LaneSt.lc (L : LaneSt) : Nat := L.rd Reg.SEC_LC_STATE

/-! ## PASSWORD (R104) -/

/-- The password is the one whose salt and hash the key store holds. -/
def LaneSt.passwordIs (L : LaneSt) (pw : List Byte) : Bool :=
  L.on Reg.SEC_KEY_STAT_PASSWORD && shake256 32 (L.sec.keys.pwSalt ++ pw) == L.sec.keys.pwHash

/-- A password that verifies, or one more failure; each makes a Tally entry. -/
def LaneSt.tryPassword (L : LaneSt) (l : Lane) (r : Req) (ok : Bool) : LaneSt :=
  let L := if ok then (L.updMbx fun m => { m with pwOk := true }).tally l 0x0006 r.requester.toNat
    else { L with nvm := { L.nvm with pwFails := L.nvm.pwFails + 1 } }.tally l 0x0007 r.requester.toNat
  L.finish 0x0700 r (leBytes 1 (5 - L.nvm.pwFails))

/-- PASSWORD: after five failures in one boot, LOCKED. -/
def execPassword (l : Lane) (r : Req) (pw : List (BitVec 8)) (t : Nat) (s : State) : Out :=
  laneCmd l 0x0700 r pw t s fun L =>
    if 5 ≤ L.nvm.pwFails then L.refuse 0x0700 r nakLocked
    else if pw.length < 8 ∨ 64 < pw.length then L.refuse 0x0700 r nakArgument 0
    else L.tryPassword l r (L.passwordIs pw)

/-! ## Debug unlock and session (R429 to R431) -/

/-- 32 random bytes (R429): free values. -/
def LaneSt.randomBytes (L : LaneSt) : Nat → List Byte × LaneSt
  | 0 => ([], L)
  | n + 1 =>
    let (w, L) := L.fresh
    let (bs, L) := L.randomBytes n
    (wordBytes w ++ bs, L)

/-- Issue a challenge: the open debug session ends. -/
def LaneSt.issueChallenge (L : LaneSt) (r : Req) (level : Nat) : LaneSt :=
  let L := L.closeDebug
  let (bs, L) := L.randomBytes 8
  let L := (L.put Reg.SEC_DBG_STAT_CHAL true).updSec fun x =>
    { x with challenge := some { session := r.session, level := level, at_ := L.time, bytes := bs } }
  L.finish 0x0701 r bs

/-- UNLOCK_REQ: LOCKED after the eighth failure; nobody signs for a DECOMMISSIONED lane (R411). -/
def execUnlockReq (l : Lane) (r : Req) (level : Nat) (t : Nat) (s : State) : Out :=
  laneCmd l 0x0701 r (leBytes 1 level) t s fun L =>
    if L.on Reg.SEC_DBG_STAT_PERM then L.refuse 0x0701 r nakLocked
    else if level = 0 ∨ 2 < level then L.refuse 0x0701 r nakArgument 0
    else L.issueChallenge r level

/-- No challenge is outstanding any more. -/
def LaneSt.dropChallenge (L : LaneSt) : LaneSt :=
  (L.put Reg.SEC_DBG_STAT_CHAL false).updSec fun x => { x with challenge := none }

/-- A failed response (R430): 0x0B05, a Tally entry with FLAGS bit 1, both counts; the fourth in a row latches the alarm, the eighth
locks DBG_x for life. -/
def LaneSt.unlockFailed (L : LaneSt) (l : Lane) (r : Req) : LaneSt :=
  let L := (L.dropChallenge.raise 0x0B05).tally l 0x0009 r.requester.toNat [] true
  let L := (L.wr Reg.SEC_DBG_STAT_CONSEC (min (L.rd Reg.SEC_DBG_STAT_CONSEC + 1) 4)).wr Reg.SEC_DBG_STAT_TOTAL
    (min (L.rd Reg.SEC_DBG_STAT_TOTAL + 1) 8)
  let L := if L.rd Reg.SEC_DBG_STAT_TOTAL = 8 then L.put Reg.SEC_DBG_STAT_PERM true else L
  let L := L.finish 0x0702 r [Config.resultByte false]
  if L.rd Reg.SEC_DBG_STAT_CONSEC = 4 then (L.put (Reg.SEC_RIND_STAT_SRC.bit 6) true).latchRind l 7 else L

/-- A valid response unlocks DBG_x at the level. -/
def LaneSt.unlocked (L : LaneSt) (l : Lane) (r : Req) (level : Nat) : LaneSt :=
  let L := ((L.dropChallenge.wr Reg.SEC_DBG_STAT_LEVEL level).put Reg.DBG_SESSION_UNLOCKED true).wr Reg.SEC_DBG_STAT_CONSEC 0
  (L.tally l 0x0009 r.requester.toNat).finish 0x0702 r [Config.resultByte true]

/-- UNLOCK_RESP: for the outstanding challenge, of its session and level, within 10 s, signed. -/
def execUnlockResp (l : Lane) (r : Req) (level : Nat) (sig : List (BitVec 8)) (sigOk : Bool) (t : Nat) (s : State) : Out :=
  laneCmd l 0x0702 r (leBytes 1 level ++ leBytes 3 0 ++ sig) t s fun L =>
    let ok := match L.sec.challenge with
      | some c => sigOk && c.level == level && c.session == r.session && decide (t < c.at_ + 10000000000) && L.lc != lcDecommissioned
      | none => false
    if ok && !L.on Reg.SEC_DBG_STAT_PERM then L.unlocked l r level else L.unlockFailed l r

/-- CHALLENGE_EXPIRY: 10 s. -/
def execChallengeExpiry (l : Lane) (t : Nat) (s : State) : Out :=
  onLane l t s fun L =>
    match L.sec.challenge with
    | some c => if c.at_ + 10000000000 ≤ t then L.put Reg.SEC_DBG_STAT_CHAL false else L
    | none => L

/-- DEBUG_SESSION_OPEN: on an unlocked DBG_x, STANDBY to FOLD. A session of level TRACE is a trace (log entry 81). -/
def execDebugSessionOpen (l : Lane) (s : State) : Out :=
  onLaneNow l s fun L =>
    if L.rd Reg.SEC_DBG_STAT_LEVEL ≠ 0 ∧ !L.on Reg.DBG_SESSION_OPEN then
      (((L.put Reg.DBG_SESSION_OPEN true).wr Reg.DBG_SESSION_HALT_REFUSED 0).wr Reg.DBG_JOURNAL_BUSY_CNT 0).put Reg.DBG_SESSION_TRACE
        (L.rd Reg.SEC_DBG_STAT_LEVEL == 1)
    else L

/-- DEBUG_SESSION_CLOSE. -/
def execDebugSessionClose (l : Lane) (s : State) : Out := onLaneNow l s fun L => L.closeDebug

/-- FACTORY_TEST_TOKEN (R310, R411): in BLANK or PROVISIONED. -/
def execFactoryTestToken (l : Lane) (sigOk : Bool) (s : State) : Out :=
  onLaneNow l s fun L => if sigOk ∧ L.lc ≤ lcProvisioned then L.put Reg.SEC_LC_TEST_MODE true else L

/-! ## Lifecycle (R411 to R413) -/

/-- FIELD and SERVICE fuses left. -/
def LaneSt.fusesLeft (L : LaneSt) : Nat := 17 - L.sec.fuses

/-- SVC_LEFT: rounds of SERVICE and FIELD still possible, the one under way included. -/
def LaneSt.showFuses (L : LaneSt) : LaneSt :=
  L.wr Reg.SEC_LC_SVC_LEFT (min 8 (if L.lc = lcService then (L.fusesLeft + 1) / 2 else L.fusesLeft / 2))

/-- Blow the fuse of state `x`. -/
def LaneSt.blow (L : LaneSt) (x : Nat) : LaneSt := (L.inc Reg.SEC_LC_LC_SEQ).wr Reg.SEC_LC_STATE x

/-- PROVISION (R412): a factory step, over DBG_x in BLANK; the key store generates its identity key pair and receives PK and MSK. -/
def execProvision (l : Lane) (tokenOk : Bool) (pk msk : List (BitVec 8)) (s : State) : Out :=
  onLaneNow l s fun L =>
    if tokenOk ∧ L.lc = lcBlank then
      let L := (L.blow lcProvisioned).put Reg.SEC_LC_SCAN_FUSE true
      let L := L.updKeys fun k => { k with pk := pk, msk := msk }
      ((L.put Reg.SEC_KEY_STAT_IDENT true).put Reg.SEC_KEY_STAT_MSK true).put Reg.SEC_KEY_STAT_PROV true
    else L

/-- Bytes 0 to 43 of a LIFECYCLE payload (R413). -/
def lcHead (op : Nat) (a : LcArgs) : List Byte :=
  leBytes 1 op ++ leBytes 1 0 ++ leBytes 2 a.lcSeq ++ leBytes 8 a.serial.toNat ++ (a.arg ++ List.replicate 32 0#8).take 32

/-- LIFECYCLE with operation `op`. -/
def lifecycle (l : Lane) (r : Req) (op : Nat) (a : LcArgs) (t : Nat) (s : State) : Out :=
  moduleCmd l 0x0703 r (lcHead op a ++ a.auth) (.lifecycle op a) t s

/-- TAKEOVER, FIELD, SERVICE, RETURN, DECOMMISSION, CLEAR_ALARM: operations 1 to 6 of LIFECYCLE. -/
def execTakeover (l : Lane) (r : Req) (a : LcArgs) (t : Nat) (s : State) : Out := lifecycle l r 1 a t s
def execField (l : Lane) (r : Req) (a : LcArgs) (t : Nat) (s : State) : Out := lifecycle l r 2 a t s
def execService (l : Lane) (r : Req) (a : LcArgs) (t : Nat) (s : State) : Out := lifecycle l r 3 a t s
def execReturn_ (l : Lane) (r : Req) (a : LcArgs) (t : Nat) (s : State) : Out := lifecycle l r 4 a t s
def execDecommission (l : Lane) (r : Req) (a : LcArgs) (t : Nat) (s : State) : Out := lifecycle l r 5 a t s
def execClearAlarm (l : Lane) (r : Req) (a : LcArgs) (t : Nat) (s : State) : Out := lifecycle l r 6 a t s

/-- The operation is permitted in the lifecycle state (R412, R428). Source 6, the unlock count, does not bar CLEAR_ALARM. -/
def LaneSt.lcAllowed (L : LaneSt) (op : Nat) : Bool :=
  let ps := L.lc == lcProvisioned || L.lc == lcService
  let owner := L.on Reg.SEC_KEY_STAT_OWNER
  match op with
  | 1 => ps && !owner
  | 2 => ps && owner && L.fusesLeft != 0
  | 3 => L.lc == lcField && decide (2 ≤ L.fusesLeft)
  | 4 => L.lc == lcField || L.lc == lcService
  | 5 => L.lc != lcBlank && L.lc != lcDecommissioned
  | 6 => L.on Reg.SEC_RIND_STAT_ALARM && L.rd Reg.SEC_RIND_STAT_SRC % 64 == 0
  | _ => false

/-- A FIELD or SERVICE fuse is blown. -/
def LaneSt.useFuse (L : LaneSt) : LaneSt := L.updSec fun x => { x with fuses := x.fuses + 1 }

/-- Steps 2 of R413: the fuse, and what the operation erases. -/
def LaneSt.lcEffect (L : LaneSt) (l : Lane) (op : Nat) : LaneSt :=
  match op with
  | 1 => (L.put Reg.SEC_KEY_STAT_OWNER true).updSec fun x => { x with keys := { x.keys with owner := x.ownerNext }, ownerNext := [] }
  | 2 => (L.blow lcField).useFuse.put Reg.SEC_LC_INJ_FUSE true
  | 3 => ((((L.blow lcService).useFuse.eraseOwner l).eraseExt l).dropGroup).erased l 500
  | 4 => (((L.blow lcReturned).eraseOwner l).eraseExt l).eraseControl l
  | 5 => ((((((L.blow lcDecommissioned).eraseOwner l).eraseExt l).eraseControl l).eraseIdent l).eraseProv l).put
      Reg.SEC_KEY_STAT_PENDING false
  | _ => ((L.put Reg.SEC_RIND_STAT_ALARM false).wr Reg.SEC_RIND_STAT_FIRST 0).wr Reg.SEC_DBG_STAT_CONSEC 0 |>.put
      (Reg.SEC_RIND_STAT_SRC.bit 6) false

/-- The lane loses power, to boot cold (R413): everything but what is kept without supply. -/
def LaneSt.restart (L : LaneSt) : LaneSt :=
  let out := L.mbx.out
  let L := (L.powerDown keepOff memOff).wr Reg.SYS_STATE_MODULE stOff
  { L with
    sys := SysSt.reset
    aux := AuxSt.reset
    fc := { L.fc with line := 3 }
    pwr := { PwrSt.reset with supMv := L.pwr.supMv } }.updMbx fun m => { m with out := out }

/-- AUTH verifies (R412, R413): for TAKEOVER KMAC128 under PK, else an ML-DSA-65 signature; the serial number, LC_SEQ and, for
TAKEOVER, the digest of the owner key loaded are right. -/
def LaneSt.lcAuth (L : LaneSt) (op : Nat) (a : LcArgs) : Bool :=
  let k := L.sec.keys.pk
  a.serial == Config.serial && a.lcSeq == L.rd Reg.SEC_LC_LC_SEQ && a.fuseOk &&
  (if op = 1 then
    !k.isEmpty && a.auth == kmac128 k (ascii "LCYC" ++ lcHead op a) 32 (ascii "LCTK") && !L.sec.ownerNext.isEmpty &&
    a.arg == shake256 32 L.sec.ownerNext
  else a.sigOk)

/-- LIFECYCLE acts (R413): LIFECYCLE where the state does not permit it, VERIFY where AUTH, serial, LC_SEQ, ARG or the fuse fails;
else fuse and erasure, Tally, reply, cold boot. -/
def LaneSt.actLifecycle (L : LaneSt) (l : Lane) (h : Held) (op : Nat) (a : LcArgs) : LaneSt :=
  if L.st ≠ stStandby then L.refuse h.code h.req nakState L.st
  else if !L.lcAllowed op then L.refuse h.code h.req nakLifecycle
  else if !L.lcAuth op a then L.refuse h.code h.req nakVerify
  else (((L.lcEffect l op).showFuses.tally l 0x0005 h.req.requester.toNat).finish h.code h.req [Config.resultByte true]).restart

/-! ## Keys (R418) -/

/-- Bytes of the item of a slot. -/
def keyLen (slot n : Nat) : Bool :=
  match slot with
  | 1 => n == 1952
  | 2 => decide (8 ≤ n) && decide (n ≤ 64)
  | _ => n == 32

/-- Why KEY_LOAD is refused before its checks: NAK code and detail; 0 for no reason. -/
def LaneSt.keyNak (L : LaneSt) (a : KeyArgs) : Nat × Nat :=
  let owner := L.on Reg.SEC_KEY_STAT_OWNER
  let field := L.lc == lcField
  if a.slot = 0 ∨ 5 < a.slot then (nakArgument, 0)
  else if 1 < a.wrap then (nakArgument, 1)
  else if !keyLen a.slot a.item.length then (nakArgument, 2)
  else if a.slot = 1 then (if (L.lc = lcProvisioned ∨ L.lc = lcService) ∧ !owner then (0, 0) else (nakLifecycle, 0))
  else if a.slot = 5 then (if L.lc = lcService then (if a.wrap = 1 then (0, 0) else (nakVerify, 0)) else (nakLifecycle, 0))
  else if !owner then (nakLifecycle, 0)
  else if (a.wrap == 1) == field then (nakVerify, 0)
  else if field && a.slot == 2 && !L.mbx.pwOk then (nakPassword, 0)
  else if field && a.slot != 2 && !L.mbx.roles.getLsbD 4 then (nakAuth, 0)
  else (0, 0)

/-- The KEY_LOAD payload before AUTH. -/
def keyHead (a : KeyArgs) : List Byte :=
  leBytes 1 a.slot ++ leBytes 1 a.wrap ++ leBytes 2 a.item.length ++ a.item ++ (a.check ++ List.replicate 8 0#8).take 8

/-- The item unwrapped (R417, R418): with the key that WRAP names, over serial, lane, slot and SEQ; slot 1 is sent in clear. -/
def LaneSt.unwrap (L : LaneSt) (l : Lane) (a : KeyArgs) (seq : BitVec 16) : List Byte :=
  let w := if a.wrap = 1 then L.sec.keys.pk else L.sec.keys.sk
  let ctx := leBytes 8 Config.serial.toNat ++ leBytes 1 (laneIx l + 1) ++ leBytes 1 a.slot ++ leBytes 2 seq.toNat
  if a.slot = 1 then a.item else a.item.zipWith (fun x y => x ^^^ y) (kmacxof128 w ctx a.item.length (ascii "WRAP"))

/-- CHECK of an item. -/
def keyCheck (item : List Byte) : List Byte := kmac128 item [] 8 (ascii "KCV")

/-- AUTH verifies (R418): KMAC128 under PK where the item is wrapped with PK or is the owner key, a signature for slot 5; under the
session key there is none. -/
def LaneSt.keyAuth (L : LaneSt) (a : KeyArgs) : Bool :=
  if a.slot = 5 then a.sigOk
  else if a.slot = 1 || a.wrap == 1 then a.auth == kmac128 L.sec.keys.pk (keyHead a) 32 (ascii "KLD")
  else true

/-- The item is in its slot; of the password the lane keeps a salt, which is a free value, and the hash. Replacing the host master key
revokes every host: the session ends. -/
def LaneSt.storeKey (L : LaneSt) (slot : Nat) (item : List Byte) : LaneSt :=
  match slot with
  | 1 => L.updSec fun x => { x with ownerNext := item }
  | 2 =>
    let (salt, L) := L.randomBytes 4
    (L.put Reg.SEC_KEY_STAT_PASSWORD true).updKeys fun k => { k with pwSalt := salt, pwHash := shake256 32 (salt ++ item) }
  | 3 =>
    let kcv := BitVec.toNat (bytesWord ((keyCheck item).take 2))
    ((L.put Reg.SEC_KEY_STAT_GROUP true).wr Reg.SEC_KEY_STAT_GROUP_KCV kcv).updKeys fun k => { k with group := item }
  | 4 => ((L.put Reg.SEC_KEY_STAT_HMK true).closeSession).updKeys fun k => { k with hmk := item }
  | _ => (L.put Reg.SEC_KEY_STAT_MSK true).updKeys fun k => { k with msk := item }

/-- KEY_LOAD. -/
def execKeyLoad (l : Lane) (r : Req) (a : KeyArgs) (t : Nat) (s : State) : Out :=
  laneCmd l 0x0704 r (keyHead a ++ a.auth) t s fun L =>
    let why := L.keyNak a
    let item := L.unwrap l a r.seq
    if why.1 ≠ 0 then L.refuse 0x0704 r why.1 why.2
    else if !L.keyAuth a || keyCheck item != a.check then L.refuse 0x0704 r nakVerify
    else (L.finish 0x0704 r [Config.resultByte true]).storeKey a.slot item

/-! ## Rind (R423 to R425, R432) -/

/-- RIND_STAT. -/
def execRindStat (l : Lane) (r : Req) (t : Nat) (s : State) : Out :=
  readCmd l 0x0705 r t s fun L => [0x400E0000, 0x400E0004, 0x400E0008, 0x400E000C].flatMap L.regBytes

/-- A lane watches a source (R423): 0 and 1 in PARK to FOLD, the others while powered. -/
def LaneSt.watches (L : LaneSt) (bit : Nat) : Bool := L.up || (decide (bit < 2) && L.st == stPark)

/-- A glitch detector (R424): 0x0B02 in ARM, DRIVE and FOLD, else the alarm. -/
def LaneSt.glitch (L : LaneSt) (l : Lane) (bit : Nat) : LaneSt :=
  if stArm ≤ L.st then (L.inc Reg.SEC_RIND_STAT_GLITCH_CNT).raise 0x0B02 else L.latchRind l (bit + 1)

/-- A command on a lane that is powered or in PARK. -/
def onAwake (l : Lane) (t : Nat) (s : State) (f : LaneSt → LaneSt) : Out :=
  .next (s.updLane l fun L => if stPark ≤ L.st then f (L.tick t) else L)

/-- Time in ns for which a source's condition must hold (R423). -/
def rindHold (bit : Nat) : Nat := [1000000, 100000, 1000000, 2].getD bit 0

/-- RIND_SOURCE: a source's condition has held for `ns`, or holds no longer (`active` false), which SRC shows (R428). Source 6 is
the lane's own count of failed unlocks, which CLEAR_ALARM ends. -/
def execRindSource (l : Lane) (bit : Nat) (active : Bool) (ns t : Nat) (s : State) : Out :=
  onAwake l t s fun L =>
    if 6 < bit || (active && decide (ns < rindHold bit)) || !L.watches bit || (bit == 6 && (!active || decide (L.rd Reg.SEC_DBG_STAT_CONSEC < 4))) then L
    else
      let L := L.put (Reg.SEC_RIND_STAT_SRC.bit bit) active
      if !active then L
      else if 3 ≤ bit ∧ bit ≤ 5 then L.glitch l bit
      else L.latchRind l (bit + 1)

/-- GLITCH_DETECT: sources 3 to 5. -/
def execGlitchDetect (l : Lane) (bit ns t : Nat) (s : State) : Out :=
  onAwake l t s fun L => if 3 ≤ bit ∧ bit ≤ 5 ∧ L.watches bit ∧ rindHold bit ≤ ns then L.glitch l bit else L

/-- Two used messages of other lanes carry RIND (R424). -/
def LaneSt.adoptRind (L : LaneSt) (l : Lane) (others : Nat) : LaneSt := if 2 ≤ others then L.latchRind l 8 else L

/-! ## The action slot (R398) -/

/-- A confirmed command acts. -/
def LaneSt.act (L : LaneSt) (l : Lane) (h : Held) : LaneSt :=
  match h.cmd with
  | .reqState target => L.actReqState h target
  | .safeStop mask ss1 => L.actSafeStop l h mask ss1
  | .resetArm => L.actResetArm h
  | .resetConfirm c stoHigh => L.actResetConfirm l h c stoHigh
  | .imgCommit d f => L.actImgCommit l h d f
  | .learnStart n => L.actLearnStart h n
  | .calSave => L.actCalSave l h
  | .fcAck classes rearm => L.actFcAck l h classes rearm
  | .fwTrial d => L.actFwTrial h d
  | .fwCommit => L.actFwCommit h
  | .lifecycle op a => L.actLifecycle l h op a

/-- The last write of a commit that passed its checks in the slot before (R102, R403). -/
def LaneSt.endCommit (L : LaneSt) (l : Lane) : LaneSt :=
  match L.mbx.commit with
  | none => L
  | some h =>
    let L := L.updMbx fun m => { m with commit := none }
    match h.cmd with
    | .fwCommit => L.recordBank l h
    | _ => L.recordSlot h

/-- Mailbox work of a slot start: commits end, confirmed commands act in the lanes named, results are answered, an internal reply
becomes visible. -/
def LaneSt.mbxSlot (L : LaneSt) (l : Lane) : LaneSt :=
  let L := (L.updMbx fun m => { m with out := [] }).endCommit l
  let due := L.mbx.waiting.filter (·.confirmed)
  let L := L.updMbx fun m => { m with waiting := m.waiting.filter fun h => !h.confirmed }
  let L := due.foldl (fun L h => if h.named && L.up then L.act l h else L) L
  (L.answerAsked.crookGoes.showPending.flushLog).showReply l

end Sys2Proof.Machine
end

