-- ==== Sys2Proof/Machine/Boot.lean ====
section
/-! DEFINITION. Execution of transitions, PARK, wake and start-up (03, 04). -/
namespace Sys2Proof.Machine

/-! ## Into PARK (R62, R72, R87, R367, R444) -/

/-- The axis keeps its position and reference through PARK. -/
def LaneSt.parkAux (L : LaneSt) : LaneSt :=
  L.updAux fun x => { x with parked := some (L.rd Reg.AUX_POS_VALUE, L.rd Reg.AUX_STAT_REF) }

/-- Sleep signalled by lane `l` on a guardian's links: the guardian powers down; a wake signalled to the lane before is over. -/
def GuardianSt.sleep (G : GuardianSt) (l : Lane) : GuardianSt :=
  { G with powered := false, asleep := true, waking := setNth G.waking (laneIx l) false, out := [] }

/-- PARK ends a stage's lockout (R267). -/
def StageSt.unlock (g : StageSt) : StageSt :=
  { g with lockout := false, latch := if g.lockout then g.latch &&& 0x7FFF#16 else g.latch }

/-- What the module does when lane `l` has entered PARK: sleep is signalled, the stages lose the lane's rail and its STO input, and a
lockout ends (R267). -/
def State.parked (s : State) (l : Lane) : State :=
  let s := ({ s with gX := s.gX.sleep l, gY := s.gY.sleep l }.driveSto l).powerStages
  { s with stages := ⟨s.stages.a.unlock, s.stages.b.unlock, s.stages.c.unlock⟩ }

/-- The execution steps of the transition in flight (R62), unless FOLD preempts it (R70). -/
def LaneSt.executeStep (L : LaneSt) (l : Lane) : LaneSt :=
  if L.rd Reg.SYS_STATE_PHASE = 2 ∧ !L.arming ∧ (!L.sys.fold ∨ L.st = stFold) then
    match L.rd Reg.SYS_STATE_TARGET with
    | 1 => (L.done.parkAux).toPark l
    | 2 => L.done.toStandby
    | 3 => L.enterArm.done.refreshClaims l
    | 4 => (L.wr Reg.SYS_STATE_MODULE stDrive).done.refreshClaims l
    | _ => L
  else L

/-- TRANSITION_EXECUTE (R59, R62): to ARM from DRIVE, to DRIVE, to STANDBY, or to PARK through STANDBY, at a slot start and in every lane
that is in step. STANDBY to ARM has its own commands. -/
def execTransitionExecute (l : Lane) (t : Nat) (s : State) : Out :=
  if (s.lane l).up && t % 50000 == 0 then
    let s' := s.stepTogether l fun k L => (L.tick t).executeStep k
    let s' := [Lane.A, .B, .C].foldl (fun x k => if (s.lane k).up && (x.lane k).st == stPark then x.parked k else x) s'
    .next (if (s.lane l).st ≠ stStandby ∧ (s'.lane l).st ≤ stStandby then s'.restStages else s')
  else .next s

/-- SLEEP_SIGNAL (R87): a SILENT lane enters PARK when a guardian link signals sleep. -/
def execSleepSignal (l : Lane) (g : Gdn) (s : State) : Out :=
  if (s.lane l).up && (s.lane l).mode == 3 && (s.gdn g).asleep then
    .next ((s.updLane l fun L => L.parkAux.toPark l).parked l)
  else .next s

/-! ## Wake (R81 to R85) -/

/-- A qualified source wakes a lane in PARK: reverse bias withdrawn, regulator enabled, SYS_WAKE_SRC. -/
def LaneSt.wakeBy (L : LaneSt) (bit : Nat) : LaneSt :=
  let L := L.setReg 0x4000001C (BitVec.ofNat 32 (2 ^ bit))
  let L := (L.wr Reg.SYS_BIAS_BIAS 0).wr Reg.SYS_CLK_STAT_REG_RETRY 0
  { L with sys := { L.sys with boot := .wake, tries := 0 } }

/-- A lane in PARK that no wake has reached yet. -/
def LaneSt.sleeps (L : LaneSt) : Bool := L.st == stPark && L.sys.boot == .none

/-- Some lane that powers guardian `g` has its always-on domain, from which the guardian's wake detectors draw (R13, R48, R82). -/
def State.supplies (s : State) (g : Gdn) : Bool :=
  let (a, b) := suppliers g
  (s.lane a).st != stOff || (s.lane b).st != stOff

/-- Wake signalled by lane `l` on its link: the guardian passes it on to the other lanes, whether it is up or asleep (R82). -/
def GuardianSt.wakeSignal (G : GuardianSt) (l : Lane) : GuardianSt :=
  let (a, b) := otherLanes l
  { G with waking := setNth (setNth G.waking (laneIx a) true) (laneIx b) true }

/-- The source is enabled, and, for the timer, has elapsed (R81). Sources 0 CAN1, 1 CAN2, 2 WAKE, 3 TIMER, 4 MOTION, 5 RING. -/
def LaneSt.wakeable (L : LaneSt) (src t : Nat) : Bool :=
  let p := L.rd Reg.SYS_WAKE_TIMER_PERIODS
  decide (src < 6) && (L.reg 0x40000018).getLsbD src &&
  (src != 3 || (p != 0 && decide (p * 1000000000 ≤ (t - L.sys.parkAt) * 32768)))

/-- The source qualifies (R44, R81): a wake-up pattern on the bus, WAKE_x high for 1 ms after its edge, or a line-to-line voltage of `mv`
above MOTION_THR for 2 ms. -/
def LaneSt.qualifies (L : LaneSt) (src mv us : Nat) (pattern : Bool) : Bool :=
  match src with
  | 0 | 1 => pattern
  | 2 => decide (1000 ≤ us)
  | 4 => decide (50 * L.rd Reg.SYS_WAKE_CFG_MOTION_THR < mv) && decide (2000 ≤ us)
  | _ => true

/-- Lane `l` wakes, and signals wake on its links to both guardians (R82); one that no lane powers passes nothing on (R48). The wake
signalled to the lane itself is taken. -/
def State.wakeLane (s : State) (l : Lane) (bit t : Nat) : State :=
  let s := s.updLane l fun L => (L.tick t).wakeBy bit
  let one := fun (g : Gdn) (G : GuardianSt) =>
    let G := { G with waking := setNth G.waking (laneIx l) false }
    if s.supplies g then G.wakeSignal l else G
  { s with gX := one .X s.gX, gY := one .Y s.gY }

/-- WAKE_SOURCE. -/
def execWakeSource (l : Lane) (src mv us : Nat) (pattern : Bool) (t : Nat) (s : State) : Out :=
  let L := s.lane l
  if L.sleeps && L.wakeable src t && L.qualifies src mv us pattern && src != 5 then .next (s.wakeLane l src t) else .next s

/-- SIBLING_WAKE (R82): signalled by another lane through guardian `g`; it cannot be disabled. -/
def execSiblingWake (l : Lane) (g : Gdn) (t : Nat) (s : State) : Out :=
  if (s.lane l).sleeps && nth (s.gdn g).waking (laneIx l) then .next (s.wakeLane l 6 t) else .next s

/-- RING_WAKE (R81, R82, R367): a TC10 wake on a ring port of a guardian that is powered; the lanes that power it wake where RING is
enabled, and the guardian passes their wake on to the others. -/
def execRingWake (g : Gdn) (_p : Port) (t : Nat) (s : State) : Out :=
  if s.supplies g then
    let (a, b) := suppliers g
    let one := fun (l : Lane) (s : State) => if (s.lane l).sleeps && (s.lane l).wakeable 5 t then s.wakeLane l 5 t else s
    .next (one b (one a s))
  else .next s

/-- Keys at a start (R92, R417, R426): the boot counter counts, a deferred erasure runs before any key is derived, session and lane-pair
keys are gone, the pair master keys are derived from the module secret. -/
def LaneSt.renewKeys (L : LaneSt) (l : Lane) : LaneSt :=
  let L := (L.incSat Reg.SEC_BOOTCNT_COUNT).deferredErase l
  let L := ((L.put Reg.SEC_KEY_STAT_SESSION false).put Reg.SEC_KEY_STAT_PAIR_LO false).put Reg.SEC_KEY_STAT_PAIR_HI false
  let (a, b) := otherLanes l
  let pmk := fun (k : KeyStore) (o : Lane) => if k.msk.isEmpty then [] else pairMaster k.msk (laneIx l) (laneIx o)
  L.updKeys fun k => { k with pmkLo := pmk k a, pmkHi := pmk k b, lpkLo := [], lpkHi := [], sk := [] }

/-- The PLLs have locked: the domains' retained values are restored (R75, R76, R83), and the lane's keeper listens. -/
def LaneSt.restoreDomains (L : LaneSt) (l : Lane) (crcOk : BitVec 4) : LaneSt :=
  let L := L.wr Reg.SYS_RET_STAT_CRC_FAIL 0
  let L := [1, 2, 3, 4].foldl (fun L d => L.restoreDomain (crcOk.getLsbD (d - 1)) d) L
  let L := L.put Reg.SYS_RET_STAT_RESTORED true
  let L := if L.on (Reg.SYS_RET_STAT_CRC_FAIL.bit 2) then L.updAux fun x => { x with parked := none } else L
  ({ L with sys := { L.sys with boot := .woken } }.renewKeys l).flkListen

/-- REGULATOR_READY (R83): with the crystal ready the PLLs lock and the domains are restored; else CRYSTAL_FALLBACK follows. -/
def execRegulatorReady (l : Lane) (xtalOk : Bool) (crcOk : BitVec 4) (t : Nat) (s : State) : Out :=
  .next (s.updLane l fun L =>
    if L.st = stPark ∧ L.sys.boot = .wake ∧ !L.pwr.regulator then
      let L := (L.tick t).updPwr fun p => { p with regulator := true }
      let L := ((L.put Reg.SYS_CLK_STAT_XTAL_OK xtalOk).put Reg.SYS_CLK_STAT_RC_FALLBACK false).put Reg.SYS_CLK_STAT_TPLL_LOCK xtalOk
      let L := L.put Reg.SYS_CLK_STAT_CPLL_LOCK xtalOk
      if xtalOk then L.restoreDomains l crcOk else L
    else L)

/-- REGULATOR_RETRY (R85, R90): an attempt fails; after the third the lane stays in PARK, at reverse bias (R78), or unpowered,
and signals wake failure. -/
def execRegulatorRetry (l : Lane) (t : Nat) (s : State) : Out :=
  .next (s.updLane l fun L =>
    if (L.st = stPark ∧ L.sys.boot = .wake ∧ !L.pwr.regulator) ∨ L.st = stOff then
      let n := L.sys.tries + 1
      let L := L.tick t
      if n < 3 then { L.wr Reg.SYS_CLK_STAT_REG_RETRY n with sys := { L.sys with tries := n } }
      else
        let L := if L.st = stPark then L.wr Reg.SYS_BIAS_BIAS 2 else L
        { L.updPwr fun p => { p with wakeFail := true } with
          sys := { L.sys with tries := 0, boot := .none }, fc := { L.fc with line := 2 } }
    else L)

/-- The lane runs from its RC oscillator (R18, R84): 0x0604. -/
def LaneSt.fallBack (L : LaneSt) : LaneSt :=
  ((L.put Reg.SYS_CLK_STAT_RC_FALLBACK true).put Reg.SYS_CLK_STAT_TPLL_LOCK true).put Reg.SYS_CLK_STAT_CPLL_LOCK true |>.raise 0x0604

/-- CRYSTAL_FALLBACK (R83, R84): the crystal is not ready 2 ms after the regulator; then as with the crystal. -/
def execCrystalFallback (l : Lane) (crcOk : BitVec 4) (t : Nat) (s : State) : Out :=
  .next (s.updLane l fun L =>
    if L.st = stPark ∧ L.sys.boot = .wake ∧ L.pwr.regulator ∧ !L.on Reg.SYS_CLK_STAT_XTAL_OK then
      (L.tick t).fallBack.restoreDomains l crcOk
    else L)

/-! ## Common to wake and cold boot -/

/-- The state controller, clocks, supplies and safe stop at a start. STO's latch is set by its reset value, and settled once the
image is loaded (R279). -/
def LaneSt.startBase (L : LaneSt) (stoHigh : Bool) : LaneSt :=
  let L := ((L.wr Reg.SYS_STATE_MODULE stStandby).wr Reg.SYS_STATE_TARGET stStandby).wr Reg.SYS_STATE_PHASE 0
  let L := ((L.wr Reg.SYS_STATE_LANE_MODE 0).wr Reg.SYS_STATE_VOTING 0).put Reg.SYS_STATE_PEND_VALID false
  let L := ((L.wr Reg.SYS_CLK_STAT_CORE_FREQ 0).wr Reg.SYS_BIAS_BIAS 0).put Reg.SYS_BIAS_SETTLED true
  let L := L.put Reg.SAFE_STAT_LINE stoHigh
  { L with
    sys := SysSt.reset
    pwr := { L.pwr with wakeFail := false, sns5 := true, auxOn := true, regulator := true, lost := false }
    nvm := { L.nvm with pwFails := 0, inForce := false, chosen := none }
    safe := { L.safe with laneStart := L.time, lineSince := L.time, high := stoHigh, filter := 0, ackEdge := none }
    fc := { L.fc with line := 0 } }

/-- Debug and the lid at a start (R310, R423, R431): debug is locked. -/
def LaneSt.startDebug (L : LaneSt) (l : Lane) (lidOpen : Bool) : LaneSt :=
  let L := ((L.wr Reg.SEC_DBG_STAT_LEVEL 0).put Reg.SEC_DBG_STAT_CHAL false).put Reg.SEC_LC_TEST_MODE false
  let L := L.wr Reg.SEC_RIND_STAT_SRC ((if lidOpen then 1 else 0) + (if L.rd Reg.SEC_DBG_STAT_CONSEC = 4 then 64 else 0))
  if lidOpen then L.latchRind l 1 else L

/-- A boot that fails ends SILENT with the source (R91). -/
def LaneSt.bootFails (L : LaneSt) (id : Nat) : LaneSt := (L.raise id).goSilent

/-- The lane stays in its boot ROM: ROM recovery (R95), or DECOMMISSIONED (R414). -/
def LaneSt.inRom (L : LaneSt) : LaneSt := { L.goSilent with sys := { L.sys with boot := .romRecovery } }

/-! ## Bank selection (R94) -/

/-- The bank that rules 1 and 2 choose: false A, true B. The spec does not say which of two banks in TRIAL, or of two COMMITTED banks of
one SEQUENCE, goes first: the model's choice is A (log entry 53, DESIGN CHOICE). -/
def pickBank (a b : Bank) : Option Bool :=
  if a.state = .trial then some false
  else if b.state = .trial then some true
  else match decide (a.state = .committed), decide (b.state = .committed) with
    | true, true => some (decide (a.seq < b.seq))
    | true, false => some false
    | false, true => some true
    | false, false => none

/-- Boot the bank chosen if it verifies, marking a trial REJECTED first; else reject it and try again. -/
def LaneSt.bootBank (L : LaneSt) (okA okB : Bool) : Nat → LaneSt × Bool
  | 0 => (L, false)
  | n + 1 =>
    match pickBank L.nvm.bankA L.nvm.bankB with
    | none => (L, false)
    | some b =>
      let x := L.bank b
      let trial := x.state == .trial
      let good := (if b then okB else okA) && decide (L.nvm.rollback ≤ x.svn)
      let L := if trial || !good then L.setBank b { x with state := .rejected } else L
      if good then ({ L with nvm := { L.nvm with runB := b, trial := trial } }, true) else L.bootBank okA okB n

/-! ## The image (R98 to R101) -/

/-- What verifying a slot that has a record finds: none for an empty or an invalid slot. -/
def LaneSt.validSlot (L : LaneSt) (b : Bool) (f : Option ImgFacts) : Option ImgFacts :=
  match L.slotRec b, f with
  | some r, some f => if L.imageOk b f && r.seq == L.imgSeq b && r.digest == L.imgDigest b then some f else none
  | _, _ => none

/-- Choose the valid slot with the higher IMAGE_SEQ; an invalid image raises 0x0D01. Of two images of one IMAGE_SEQ, of which the spec
says nothing, the model takes that of slot 0 (log entry 53, DESIGN CHOICE). -/
def LaneSt.chooseImage (L : LaneSt) (f0 f1 : Option ImgFacts) : LaneSt × Option (Bool × ImgFacts) :=
  let bad := fun (b : Bool) (f : Option ImgFacts) => (L.slotRec b).isSome && (L.validSlot b f).isNone
  let L' := (L.raiseIf (bad false f0) 0x0D01).raiseIf (bad true f1) 0x0D01
  match L.validSlot false f0, L.validSlot true f1 with
  | some a, some b => (L', some (if L.imgSeq false < L.imgSeq true then (true, b) else (false, a)))
  | some a, none => (L', some (false, a))
  | none, some b => (L', some (true, b))
  | none, none => (L', none)

/-- A list of items from `a` on: up to `n` of them. -/
def imgList (regs : List (Nat × Word)) (a n : Nat) : List Nat := (List.range n).filterMap fun i => imgItem regs (a + 4 * i)

/-- Bits of the register at `a` that a field of its table holds; the others are reserved (R7). -/
def fieldMask (a : Nat) : Word :=
  match rowAt a with
  | some r => r.fields.foldl (fun m f => m ||| Fld.mask ⟨a, f.lo, f.w⟩) 0#32
  | none => 0#32

/-- AGR_FIELD_CFG of fields 0 to 7, and the MODE command fields 36, 39, 42 and 45, whose rules are fixed (R146, R171). -/
def fixedRule (a : Nat) : Bool :=
  decide (0x40020100 ≤ a) && decide (a < 0x40020120) || [0x40020190, 0x4002019C, 0x400201A8, 0x400201B4].contains a

/-- Load one register from the image: its reserved bits read 0 (R7), and a fixed rule of AGR_FIELD_CFG stays (R171). -/
def LaneSt.loadReg (L : LaneSt) (a : Nat) (v : Word) : LaneSt := if fixedRule a then L else L.setReg a (v &&& fieldMask a)

/-- A matrix word: the claims of lanes A, B and C on each stage. -/
def claimsWord (a b c : Nat × Nat × Nat) : Word :=
  let row := fun (x : Nat × Nat × Nat) => x.1 + 8 * x.2.1 + 64 * x.2.2
  BitVec.ofNat 32 (row a + 512 * row b + 262144 * row c)

/-- The default ownership matrix (R161): TRIPLEX, or AXLE with or without an auxiliary motor on stage C. -/
def defaultMatrix (axle aux : Bool) : Word :=
  if axle then claimsWord (7, 3, 5) (3, 7, 5) (0, 0, if aux then 7 else 0) else claimsWord (7, 5, 3) (3, 7, 5) (5, 3, 7)

/-- Registers of the always-on domain that an image loads: SYS_POLICY, SYS_WAKE_CFG, SYS_WAKE_TIMER, SYS_RET_CFG, the user's retention
entries. At a wake they return to their defaults where the image has no value (R99, R100). -/
def aonLoaded : List Nat := [0x40000014, 0x40000018, 0x40000020, 0x4000002C] ++ (List.range 128).map fun n => 0x40000E00 + 4 * n

/-- Load an image's values (R100): registers and TMAP, and what no register holds. -/
def LaneSt.loadImage (L : LaneSt) (f : ImgFacts) : LaneSt :=
  let r := f.regs
  let L := (r.filter fun e => decide (e.1 < 0x50000000)).foldl (fun L e => L.loadReg e.1 e.2) L
  let L := if r.any (fun e => e.1 == 0x40030000) then L else L.setReg 0x40030000 (defaultMatrix (L.on Reg.COM_CFG_PROFILE)
    (L.on Reg.COM_CFG_AXLE_C))
  let m := L.com.motor
  let at_ := fun (a d : Nat) => (imgItem r a).getD d
  let motor : Motor := { tWarn := (at_ 0x50100300 m.tWarn.toNat : Nat), tTrip := (at_ 0x50100304 m.tTrip.toNat : Nat)
                         rth := at_ 0x50100308 m.rth, cth := at_ 0x5010030C m.cth, beta := at_ 0x50100318 m.beta }
  let L := L.wr Reg.SEC_KEY_STAT_POLICY (at_ 0x50100310 1)
  let buf := match at_ 0x50100314 0 with
    | 0 => none
    | n + 1 => some n
  { L with com := { L.com with motor := motor } }.updMbx (fun m => { m with hosts := imgList r 0x50100100 32 })
    |>.updFlk (fun k => { k with
      sched := imgSched r, digest := schedDigest (imgSched r), grazeBuf := buf, mbxBufs := BitVec.ofNat 32 (at_ 0x50100320 0)
      mbxWins := imgList r 0x50100380 48 })
    |>.updCan .can1 (fun c => { c with mbxReq := at_ 0x50100340 0x6F0, mbxRsp := at_ 0x50100348 0 })
    |>.updCan .can2 (fun c => { c with mbxReq := at_ 0x50100344 0x6F0, mbxRsp := at_ 0x5010034C 0 })
    |>.wr Reg.FLK_SCHED_DIG_DIG ((schedDigest (imgSched r)).toNat % 4294967296)

/-- Factory defaults again (R100, R101): the image is not in force. -/
def LaneSt.dropImage (L : LaneSt) (f : ImgFacts) : LaneSt :=
  let L := (f.regs.filter fun e => decide (e.1 < 0x50000000)).foldl (fun L e => L.setReg e.1 (resetWord e.1)) L
  let L := L.wr Reg.SEC_KEY_STAT_POLICY 1
  { L with com := { L.com with motor := ComSt.reset.motor }, nvm := { L.nvm with chosen := none, inForce := false } }.updMbx
    (fun m => { m with hosts := [] }) |>.updFlk (fun k => { k with sched := [], digest := 0, grazeBuf := none, mbxBufs := 0, mbxWins := [] })
    |>.updCan .can1 (fun c => { c with mbxReq := 0x6F0, mbxRsp := 0 }) |>.updCan .can2 (fun c => { c with mbxReq := 0x6F0, mbxRsp := 0 })
    |>.wr Reg.FLK_SCHED_DIG_DIG 0 |>.canMailbox .can1

/-- The learned overlay (R240): applied when its MAPS digest is the image's, else discarded with 0x0D21. -/
def LaneSt.overlayMaps (L : LaneSt) : LaneSt :=
  if L.nvm.overlay.isEmpty then L
  else if L.nvm.mapsDig = L.mapsDigest then (L.nvm.overlay.foldl (fun L e => L.setReg e.1 e.2) L).put Reg.COM_MAP_STAT_OVERLAY true
  else ((L.updCal fun n => { n with overlay := [] }).put Reg.COM_MAP_STAT_DISCARDED true).raise 0x0D21

/-- Split mode (R132, R133): a request of the PROFILE group, refused in FIELD without ENTITLE bit 0. -/
def LaneSt.startSplit (L : LaneSt) (l : Lane) (b : Bool) (f : ImgFacts) : LaneSt :=
  if !f.splitLanes.getLsbD (laneIx l) then L
  else if L.lc = lcField ∧ L.imgEntitle b % 2 = 0 then (L.put Reg.DBG_CHK_STAT_SPLIT_REFUSED true).raise 0x0D06
  else (L.wr Reg.SYS_STATE_LANE_MODE 1).put Reg.DBG_CHK_STAT_CORE_MODE true

/-! ## The engines (R190, R202, R218, R322, R340, R377, R435, R444) -/

/-- Factory calibration records (R190): a stage whose records fail is not claimed. -/
def LaneSt.startCal (L : LaneSt) (ok : Tri Bool) (cal : List (Int × Int × Int)) : LaneSt :=
  let L := { L with meas := { L.meas with cal := cal.map fun x => ⟨x.1, x.2.1, x.2.2⟩ } }
  for3 (fun s L =>
    if nth ok s then { L with meas := { L.meas with calBad := setNth L.meas.calBad s false } }.put (Reg.MEAS_CAL_STAT_FACT_BAD.bit s) false
    else ({ L with meas := { L.meas with calBad := setNth L.meas.calBad s true } }.put (Reg.MEAS_CAL_STAT_FACT_BAD.bit s) true).raise
      0x080A s) L

/-- The auxiliary axis: its table from the AUX group, and what PARK kept. -/
def LaneSt.startAux (L : LaneSt) : LaneSt :=
  let given := L.regs.any fun e => decide (0x400C0400 ≤ e.1) && decide (e.1 < 0x400C0800)
  let L := if !given then L
    else if microValid L.staged then L.updAux fun x => { x with table := some L.staged }
    else L.raise 0x0F05
  let L := match L.aux.parked with
    | some (p, r) => ((L.wr Reg.AUX_POS_VALUE p).wr Reg.AUX_STAT_REF (if r = 0 then 0 else 2)).put Reg.AUX_STAT_FREE true
    | none => L
  (L.updAux fun x => { x with parked := none }).refreshTbl

/-- The position front end reads its lines and takes the first angle (R198, R202). -/
def LaneSt.startPos (L : LaneSt) (f : BootFacts) : LaneSt :=
  let r := f.tmrAngle % 0x10000
  let L := L.setCoefs L.nvm.calCoef
  let L := (L.wr (Reg.POS_CNT_COUNT 2) r).updPos fun p => { p with
    zero := L.nvm.calZero, tmrExt := r, tmrRaw := r, tmrSeen := true, encA := f.encA, encB := f.encB }
  let L := L.wr Reg.POS_HALL_STAT_PATTERN f.hall
  if L.on Reg.POS_HALL_CFG_ENABLE ∧ L.hallSector f.hall < 6 then
    (L.wr Reg.POS_HALL_STAT_SECTOR (L.hallSector f.hall)).updPos fun p => { p with hallInit := true }
  else L

/-- Feedback, Churn, Flock, CAN and the Shepherd begin. -/
def LaneSt.startEngines (L : LaneSt) (f : BootFacts) : LaneSt :=
  let L := L.startPos f
  let L := { L with chn := { ChnSt.reset with since := L.time, cyc0 := L.rd Reg.CHN_CYCLE_CYCLES } }
  let L := ((L.canStart .can1).canStart .can2).put Reg.MBX_STAT_SHEP_UP true
  L.wr Reg.MBX_QUAR_ACTIVE 0

/-- Measurements 0 to 4 (R419). -/
def LaneSt.measureBoot (L : LaneSt) : LaneSt :=
  let bank := L.bankBytes
  let h := shake256 32
  L.updSec fun x => { x with meas := [h ((List.range 65536).map Config.bootRom), h (Config.bankPart 1 bank),
    h (Config.bankPart 2 bank), h (Config.bankPart 3 bank), bytesOf L.imageDigest] }

/-- The Shepherd sets entries 0 to 383 of the retention list (R73), and what the image loads into the always-on domain starts from its
defaults (R99). -/
def LaneSt.startLists (L : LaneSt) (es : List Word) : LaneSt :=
  let L := aonLoaded.foldl (fun L a => L.setReg a (resetWord a)) L
  forN 384 (fun n L => L.setReg (0x40000800 + 4 * n) (es.getD n 0#32 &&& 0xFFBFFFFC#32)) L

/-- A lane whose version exchange failed during the wake goes SILENT (R91, R108). -/
def LaneSt.keepHold (L : LaneSt) : LaneSt := if L.fc.hold then L.goSilent else L

/-- The chosen image comes into its slot's place and its values are loaded; a learned overlay goes over its maps. -/
def LaneSt.takeImage (L : LaneSt) (img : Option (Bool × ImgFacts)) : LaneSt :=
  match img with
  | some (b, g) =>
    (({ L with nvm := { L.nvm with chosen := some b } }.setSlot b { L.slot b with facts := some g }).loadImage g).overlayMaps
  | none => L

/-- The checks of R101 are due, the STO latch is as R279 says, calibration, axis and engines start, the start is measured. -/
def LaneSt.startParts (L : LaneSt) (f : BootFacts) (others : Bool) : LaneSt :=
  let L := { L with nvm := { L.nvm with together := !others, checkLeft := if others then 8 else 0, checkBad := 0 } }.put
    Reg.SAFE_STAT_LATCH (L.on Reg.SAFE_CFG_START_RESET || !f.stoHigh)
  (((L.startCal f.calOk f.cal).startAux).startEngines f).measureBoot

/-- What follows a booted bank (R91, R99 to R101): application, image, TMAP, engines. A lane that starts while another votes joins
through resync (R108). -/
def LaneSt.startRest (L : LaneSt) (l : Lane) (f : BootFacts) (others : Bool) : LaneSt :=
  if !f.appOk then L.bootFails 0x0B03
  else
    let (L, img) := (L.startLists f.retList).chooseImage f.slot0 f.slot1
    let L := (L.takeImage img).startParts f others
    match img with
    | some (b, g) =>
      if !f.tmapDigestOk then L.bootFails 0x0D03
      else
        let L := L.startSplit l b g
        (if others && L.mode == 0 then L.enterResync else L.driveFaultX).keepHold
    | none => (if others then L.enterResync else L.driveFaultX).keepHold

/-- A start, from the verification of firmware on. -/
def LaneSt.startLane (L : LaneSt) (l : Lane) (f : BootFacts) (others : Bool) : LaneSt :=
  let L := (L.startBase f.stoHigh).startDebug l f.lidOpen
  if L.lc = lcDecommissioned then L.inRom
  else
    let (L, booted) := L.bootBank f.bankAOk f.bankBOk 2
    if booted then { L with core := L.core.startAt f.entry f.entry2 }.startRest l f others else (L.raise 0x0B03).inRom

/-- Lanes other than `l` that vote. -/
def State.othersVote (s : State) (l : Lane) : Bool :=
  [Lane.A, .B, .C].any fun k => k != l && (s.lane k).up && (s.lane k).voting k

/-- A guardian comes up with a lane that powers it, and takes the FLOCK and SECPOL groups of the lane's image. -/
def GuardianSt.start (G : GuardianSt) (r : List (Nat × Word)) : GuardianSt :=
  let at_ := fun (a d : Nat) => (imgItem r a).getD d
  let G := { G with asleep := false }.powerUp
  if r.isEmpty then G
  else { G with
    sched := imgSched r, digest := schedDigest (imgSched r), margin := at_ 0x50100000 G.margin, node := at_ 0x50100004 G.node
    rate := at_ 0x50100008 G.rate, offered := BitVec.ofNat 32 (at_ 0x5010000C G.offered.toNat), hosts := imgList r 0x50100100 32
    satWins := (imgList r 0x50100200 32).map fun w => (w / 65536, w % 65536) }

/-- A guardian without an image: the factory defaults of the FLOCK and SECPOL groups. -/
def GuardianSt.forget (G : GuardianSt) : GuardianSt :=
  let d := GuardianSt.reset
  { G with sched := d.sched, digest := d.digest, node := d.node, rate := d.rate, margin := d.margin, hosts := d.hosts
           satWins := d.satWins, offered := d.offered }

/-- The image values of the slot that lane `l` chose. -/
def LaneSt.imageRegs (L : LaneSt) : List (Nat × Word) :=
  match L.nvm.chosen with
  | some b => ((L.slot b).facts.map (·.regs)).getD []
  | none => []

/-- Stages take CLM_TOL, the period and the comparator level with the image (R167, R22, R265). -/
def StageSt.configure (g : StageSt) (L : LaneSt) : StageSt :=
  { g with tol := L.rd Reg.CLM_TOL_TOL, per := L.period, ocLevel := L.rd Reg.STG_CFG_OC_LEVEL
           blank := L.rd Reg.STG_CFG_BLANK }

/-- Lane `l` has dropped its image: the stages, and the guardians it powers, run on factory defaults again (R100, R101). -/
def State.forgetImage (s : State) (l : Lane) : State :=
  let L := s.lane l
  let one := fun (g : Gdn) (G : GuardianSt) =>
    let (a, b) := suppliers g
    if l = a ∨ l = b then G.forget else G
  { s with stages := ⟨s.stages.a.configure L, s.stages.b.configure L, s.stages.c.configure L⟩, gX := one .X s.gX, gY := one .Y s.gY }

/-- What the module does when lane `l` has started: its guardians and the stages. -/
def State.started (s : State) (l : Lane) : State :=
  let L := s.lane l
  let up := fun (g : Gdn) (G : GuardianSt) =>
    let (a, b) := suppliers g
    if l = a ∨ l = b then G.start L.imageRegs else G
  let s := { s with gX := up .X s.gX, gY := up .Y s.gY }.powerStages
  let s := if L.nvm.chosen.isSome then
      { s with stages := ⟨s.stages.a.configure L, s.stages.b.configure L, s.stages.c.configure L⟩ } else s
  s.driveSto l

/-- WAKE_COMPLETE (R83): verification, version and Flock by listening; the lane is in STANDBY. -/
def execWakeComplete (l : Lane) (f : BootFacts) (t : Nat) (s : State) : Out :=
  let L := s.lane l
  if L.st = stPark ∧ L.sys.boot = .woken then
    let others := s.othersVote l
    .next ((s.updLane l fun L => (L.tick t).startLane l f others).started l)
  else .next s

/-- Clocks, keys and the cause of the start of a cold boot; the keeper listens; hold-up below its minimum raises 0x0404 (R89). -/
def LaneSt.coldClocks (L : LaneSt) (l : Lane) (f : BootFacts) : LaneSt :=
  let L := (L.setReg 0x4000001C 0x100#32).put Reg.SYS_RET_STAT_RESTORED false
  let L := if f.xtalOk then ((L.put Reg.SYS_CLK_STAT_XTAL_OK true).put Reg.SYS_CLK_STAT_TPLL_LOCK true).put Reg.SYS_CLK_STAT_CPLL_LOCK true
    else L.fallBack
  ((L.renewKeys l).flkListen).raiseIf (!f.holdupOk) 0x0404

/-- A cold boot (R89, R91). -/
def LaneSt.coldBootLane (L : LaneSt) (l : Lane) (f : BootFacts) (others : Bool) : LaneSt :=
  let L := L.coldClocks l f
  if f.memOk then L.startLane l f others else ((L.startBase f.stoHigh).startDebug l f.lidOpen).bootFails 0x0C01

/-- COLD_BOOT (R89, R90): SUP_x above 17.0 V in OFF. -/
def execColdBoot (l : Lane) (mv : Int) (f : BootFacts) (t : Nat) (s : State) : Out :=
  if (s.lane l).st = stOff ∧ 17000 < mv then
    let others := s.othersVote l
    let s := s.updLane l fun L => ((L.tick t).updPwr fun p => { p with lost := false, gndLost := false, supMv := mv }).coldBootLane l f others
    let s := { s with stages := updNth s.stages (laneIx l) fun g => { g with supLost := false } }
    .next (s.started l)
  else .next s

/-- ROM_RECOVERY_LOAD (R95): a firmware set that verifies ends the recovery; the lane then boots cold. -/
def execRomRecoveryLoad (l : Lane) (f : FwFacts) (bankB : Bool) (s : State) : Out :=
  .next ((s.updLane l fun L =>
    if L.up ∧ L.sys.boot = .romRecovery ∧ L.lc ≠ lcDecommissioned ∧ f.sigOk ∧ L.nvm.rollback ≤ f.svn then
      let n := max L.nvm.bankA.seq L.nvm.bankB.seq + 1
      (L.setBank bankB { state := .committed, seq := n, svn := f.svn, len := 0, verified := true, digest := f.digest }).restart
    else L).driveSto l).powerStages

end Sys2Proof.Machine
end

