-- ==== Sys2Proof/Machine/RegWrite.lean ====
section
/-! DEFINITION. A write to a register (R5 to R7, R458, R459): access codes, fields writable in STANDBY only, ranges, the registers
whose description gives a write an effect of its own, and the registers whose write is a command with a row of its own. -/
namespace Sys2Proof.Machine

/-! ## One field (R5, R7, R458, R459) -/

/-- The field is refused the value: it would change outside STANDBY, or the value is outside its range. -/
def FieldRow.refuses (f : FieldRow) (standby : Bool) (cur v : Nat) : Bool :=
  (f.standby && !standby && v != cur) || decide (v < f.least) || decide (f.most < v)

/-- What a write is made under: STANDBY, a transmit buffer (for a `txOnly` field), the RWS fields of the register that are
locked, by lowest bit, and the W1C bits that hardware sets in the same bus cycle (R6). -/
structure WriteCtx where
  standby : Bool
  tx : Bool
  locked : List Nat
  sets : Word
deriving DecidableEq, Repr

/-- The field's new value, and whether the write was refused. A W1C bit that hardware sets in the same bus cycle stays set (R6);
a locked RWS field keeps its value (R5). -/
def FieldRow.write (f : FieldRow) (x : WriteCtx) (sets cur v : Nat) : Nat × Bool :=
  match f.acc with
  | .ro => (cur, false)
  | .wo => (cur, false)
  | .w1c => ((cur &&& (v ^^^ (2 ^ f.w - 1))) ||| sets, false)
  | .rw => if f.refuses x.standby cur v then (cur, true) else (v, false)
  | .rws => if x.locked.contains f.lo then (cur, false) else if f.refuses x.standby cur v then (cur, true) else (v, false)
  | .txOnly => if !x.tx then (cur, false) else if f.refuses x.standby cur v then (cur, true) else (v, false)

/-- One field of the word `old` that the register at `a` holds, written with `v`: the new word, and the refusals so far. -/
def writeField (a : Nat) (x : WriteCtx) (old v : Word) (f : FieldRow) (acc : Word × Bool) : Word × Bool :=
  let p : Fld := ⟨a, f.lo, f.w⟩
  let r := f.write x (p.get x.sets) (p.get old) (p.get v)
  (p.set acc.1 r.1, acc.2 || r.2)

/-- The word after a write of `v`, and whether a field was refused. -/
def writeWord (a : Nat) (fields : List FieldRow) (x : WriteCtx) (old v : Word) : Word × Bool :=
  fields.foldl (fun acc f => writeField a x old v f acc) (old, false)

/-! ## Writes whose effect a description states -/

/-- CAN controller and offset of a CAN address. -/
def canOf (a : Nat) : Option (CanId × Nat) :=
  if inBlock a 0x400A0000 then some (.can1, a - 0x400A0000)
  else if inBlock a 0x400B0000 then some (.can2, a - 0x400B0000) else none

/-- Whether the buffer that the address belongs to is a transmit buffer (FLK_BUF, CAN_BUF). -/
def LaneSt.txBuffer (L : LaneSt) (a : Nat) : Bool :=
  match canOf a with
  | some (c, o) => decide (0x1000 ≤ o) && L.on (Reg.CAN_BUF_FLT_DIR c ((o - 0x1000) / 0x80))
  | none => decide (0x40098000 ≤ a) && L.on (Reg.FLK_BUF_CFG_DIR ((a - 0x40098000) / 0x400))

/-- The blocks whose registers a user's retention entry may name (R74). -/
def userBlock (a : Nat) : Bool :=
  inBlock a 0x40040000 || inBlock a 0x40050000 || inBlock a 0x40060000 || inBlock a 0x400A0000 || inBlock a 0x400B0000 ||
  inBlock a 0x400C0000

/-- A user's retention entry is unused, or names a class C register of those blocks in a domain 1 to 4 (R73, R74). -/
def retEntryOk (e : Word) : Bool :=
  retDomain e == 0 || (decide (retDomain e ≤ 4) && userBlock (retAddr e) && (rowAt (retAddr e)).isSome && freezeOf (retAddr e) == .never)

/-- What a write that is ignored as a whole does besides: raise 0x0D04 or nothing. -/
inductive Ignored where
  | quiet | raises
deriving DecidableEq, Repr

/-- CAN: the Shepherd's buffers 120 to 127 (R378), and the buffers with a request pending (R382). -/
def LaneSt.canIgnores (L : LaneSt) (c : CanId) (o : Nat) : Option Ignored :=
  let b := if 0x1000 ≤ o then (o - 0x1000) / 0x80 else (o - 0x800) / 8
  if o < 0x800 then none
  else if 120 ≤ b ∧ L.carriesMbx c then some .raises
  else if 0x1000 ≤ o ∧ L.canPending c b then some .quiet
  else none

/-- FLK: streams with another number of fields (FLK_SKIM_CFG), unknown sources and q (FLK_SKIM_FLD, R369), the buffers that Skim
fills (R369), and those of the mailbox replies (R394). -/
def LaneSt.flkIgnores (L : LaneSt) (a : Nat) (v : Word) : Option Ignored :=
  let n := (Reg.FLK_SKIM_CFG_NFIELDS 0).get v
  if 0x40090420 ≤ a ∧ a < 0x40090430 then
    (if n = 0 ∨ 32 < n then
      (if L.st ≠ stStandby ∧ Fld.get ⟨a, 31, 1⟩ v ≠ L.rd ⟨a, 31, 1⟩ then some .raises else some .quiet)
    else none)
  else if 0x40090800 ≤ a ∧ a < 0x40090A00 then
    (if 4 < (Reg.FLK_SKIM_FLD_Q 0 0).get v ∨ !skimKnown ((Reg.FLK_SKIM_FLD_SOURCE 0 0).get v) then some .raises else none)
  else if 0x40090200 ≤ a ∧ a < 0x40090280 ∧ L.flk.mbxBufs.getLsbD ((a - 0x40090200) / 4) then some .raises
  else if 0x40098000 ≤ a ∧ (L.skimBuf ((a - 0x40098000) / 0x400) || L.flk.mbxBufs.getLsbD ((a - 0x40098000) / 0x400)) then some .quiet
  else none

/-- SYS: USER_COUNT above 128 and the user's retention entries (R74). -/
def LaneSt.sysIgnores (L : LaneSt) (a : Nat) (v : Word) : Option Ignored :=
  if a = 0x4000002C then (if 128 < Reg.SYS_RET_CFG_USER_COUNT.get v then some .raises else none)
  else if 0x40000E00 ≤ a ∧ a < 0x40001000 then (if L.st ≠ stStandby ∨ !retEntryOk v then some .raises else none)
  else none

/-- The write is ignored as a whole (R74, R369, R378, R382, R410, AGR_RSYNC_LEN). -/
def LaneSt.ignores (L : LaneSt) (a : Nat) (v : Word) : Option Ignored :=
  match canOf a with
  | some (c, o) => L.canIgnores c o
  | none =>
    let len := Reg.AGR_RSYNC_LEN_LEN.get v
    if a = 0x40020020 then
      (if L.st ≠ stStandby then none else if 10240 < len then some .quiet else if len % 4 ≠ 0 then some .raises else none)
    else if inBlock a 0x400F0000 then
      (if (decide (0x400F0100 ≤ a) && decide (a < 0x400F0110) || decide (0x400F1000 ≤ a) && decide (a < 0x400F2000)) &&
        L.on Reg.MBX_STAT_BUSY then some .quiet else none)
    else if inBlock a 0x40090000 then L.flkIgnores a v
    else if inBlock a 0x40000000 then L.sysIgnores a v
    else none

/-! ## What follows a write -/

/-- AGR_HIST shows the round that AGR_HIST_SEL selects, if it is among the last 64 (R158). -/
def LaneSt.showHist (L : LaneSt) : LaneSt :=
  match L.agr.hist.find? fun r => r.seq == L.rd Reg.AGR_HIST_SEL_ROUND with
  | some r =>
    let w := r.vec.take 48 ++ List.replicate (48 - r.vec.length) 0#32 ++ [r.valid.setWidth 32, (r.valid >>> 32).setWidth 32]
    ((w.zipIdx).foldl (fun L x => L.setReg (0x40020500 + 4 * x.2) x.1) L).put Reg.AGR_HIST_SEL_PRESENT true
  | none => (forN 50 (fun f L => L.setReg (0x40020500 + 4 * f) 0#32) L).put Reg.AGR_HIST_SEL_PRESENT false

/-- FLK_SCHED_LO and FLK_SCHED_HI show the selected entry; an index above 3,071 reads entry 0. -/
def LaneSt.showSched (L : LaneSt) : LaneSt :=
  let i := L.rd Reg.FLK_SCHED_SEL_INDEX
  let e := (if L.on Reg.FLK_SCHED_SEL_CH then 6144 else 0) + 2 * (if i < 3072 then i else 0)
  (L.wr (Reg.FLK_SCHED_WORD 0) (cellGet (fun _ => 0#32) L.flk.sched e).toNat).wr (Reg.FLK_SCHED_WORD 1)
    (cellGet (fun _ => 0#32) L.flk.sched (e + 1)).toNat

/-- A transmit configuration of buffer `b` selects a window that is not this lane's to send in (R349). -/
def LaneSt.txWrong (L : LaneSt) (l : Lane) (b : Nat) : Bool :=
  let w := L.rd (Reg.FLK_BUF_CFG_WINDOW b)
  L.on (Reg.FLK_BUF_CFG_DIR b) && (List.range 64).any fun m =>
    selects (L.rd (Reg.FLK_BUF_CFG_REP b)) (L.rd (Reg.FLK_BUF_CFG_BASE b)) m &&
    ((L.rd (Reg.FLK_BUF_CFG_CH b) % 2 == 1 && !L.maySend l false m w) ||
     (decide (2 ≤ L.rd (Reg.FLK_BUF_CFG_CH b)) && !L.maySend l true m w))

/-- A write of MODE ends the bar of 0x0713 (R248). -/
def LaneSt.modeWritten (L : LaneSt) (a : Nat) : LaneSt :=
  if a = 0x40060100 ∨ a = 0x40060110 ∨ a = 0x40060120 then
    L.updCom ((a - 0x40060100) / 16) fun c => { c with barredMode := false }
  else L

/-- The new value of the register at `a` is a configuration that the spec refuses (R349). -/
def LaneSt.wrongConfig (L : LaneSt) (l : Lane) (a : Nat) : Bool :=
  decide (0x40090200 ≤ a) && decide (a < 0x40090280) && L.txWrong l ((a - 0x40090200) / 4)

/-- What follows from the new value of the register at `a`. -/
def LaneSt.afterWrite (L : LaneSt) (a : Nat) : LaneSt :=
  if a = 0x40020024 then L.showHist
  else if a = 0x40090020 then L.showSched
  else if 0x400C0400 ≤ a ∧ a < 0x400C0800 then L.refreshTbl
  else L.modeWritten a

/-- The RWS fields of the row at `a` that are locked, by lowest bit. -/
def LaneSt.lockedAt (L : LaneSt) (a : Nat) (r : RegRow) : List Nat :=
  (r.fields.filter fun f => L.sys.locks.contains (a, f.lo)).map (·.lo)

/-- A write of an RWS field (R5): the first locks it; a later one raises 0x0D05, once for the write. -/
def LaneSt.lockRws (L : LaneSt) (a : Nat) (r : RegRow) : LaneSt :=
  let mine := (r.fields.filter fun f => f.acc == .rws).map fun f => (a, f.lo)
  let again := mine.any fun k => L.sys.locks.contains k
  let L := { L with sys := { L.sys with locks := L.sys.locks ++ mine.filter fun k => !L.sys.locks.contains k } }
  L.raiseIf again 0x0D05

/-- A write of `v` to the register at `a`, of the row `r`, which is not a command of its own; hardware sets the W1C bits `sets` in
the same bus cycle (R6). One write raises 0x0D04 at most once (R458, R459). -/
def LaneSt.plainWrite (L : LaneSt) (l : Lane) (a : Nat) (r : RegRow) (v sets : Word) : LaneSt :=
  match L.ignores a v with
  | some .quiet => L
  | some .raises => L.refuseWrite
  | none =>
    let x := writeWord a r.fields ⟨L.st == stStandby, L.txBuffer a, L.lockedAt a r, sets⟩ (L.reg a) v
    let L := ((L.setReg a x.1).afterWrite a).lockRws a r
    L.raiseIf (x.2 || L.wrongConfig l a) 0x0D04

/-! ## Registers whose write is a command -/

/-- The state that a command leaves; a command that stops leaves the state as it was. -/
def outState (s : State) : Out → State
  | .next s' => s'
  | .fault _ => s
  | .refused _ => s

/-- Apply `f` for each bit set in `v`. -/
def forBits (v : Word) (f : Nat → State → Out) (s : State) : State :=
  forN 32 (fun j s => if v.getLsbD j then outState s (f j s) else s) s

/-- SAFE_REQ: one write may request STO and SS1 and clear requests (R277, R288). -/
def State.writeSafeReq (s : State) (l : Lane) (v : Word) : State :=
  let key := v.extractLsb' 16 16
  let s := outState s (execSafeReqSto l key (v.extractLsb' 0 3) s)
  if key = safeKey then
    let s := outState s (execSafeReqSs1 l key (v.extractLsb' 4 3) s)
    outState s (execSafeReqClr l key (v.extractLsb' 8 3) s)
  else s

/-- FC_ACK: classes, then the rearm (R294, R311). -/
def State.writeFcAck (s : State) (l : Lane) (v : Word) : State :=
  let key := v.extractLsb' 16 16
  let s := outState s (execAcknowledgeClass l key (v.extractLsb' 1 15) s)
  if v.getLsbD 0 && key == 0x6C1E#16 then outState s (execRearm l key s) else s

/-- AUX_CMD (R445): the command that CMD names; others are ignored. Whether a coil's fault condition is still present, which
CLEAR asks, is not part of the write: a free value (log entry 5). -/
def State.writeAuxCmd (s : State) (l : Lane) (v : Word) : State :=
  let key := v.extractLsb' 16 16
  let cmd := (v.extractLsb' 0 3).toNat
  if key ≠ 0x4E71#16 then s.updLane l LaneSt.refuseWrite
  else match cmd with
  | 1 => outState s (execMove l key s)
  | 2 => outState s (execStop l key s)
  | 3 => outState s (execHardstop l key s)
  | 4 => outState s (execHome l key (s.lane l).time s)
  | 5 =>
    let x := (s.lane l).fresh
    outState s (execClear l key (x.1.getLsbD 0) (s.updLane l fun _ => x.2))
  | 6 => outState s (execCommitTbl l key s)
  | _ => s

/-- MBX_POST (R410): the request in MBX_REQ goes to the Shepherd; it is BUSY until the final reply. -/
def LaneSt.mbxPost (L : LaneSt) (v : Word) : LaneSt :=
  if v.extractLsb' 16 16 ≠ 0x2D8B#16 then L.refuseWrite
  else if v.getLsbD 0 && L.on Reg.MBX_STAT_SHEP_UP then L.put Reg.MBX_STAT_BUSY true else L

/-- The CROOK that MBX_CROOK makes. -/
def innerCrook (l : Lane) : Req :=
  { module := false, mbox := 15, lanes := 1#3 <<< laneIx l, length := 0, seq := 0, requester := 0, session := 0
    transport := .internal, tag := 0, key := 0 }

/-- MBX_CROOK (R404, R410). -/
def LaneSt.mbxCrook (L : LaneSt) (l : Lane) (v : Word) : LaneSt :=
  if v.extractLsb' 16 16 ≠ 0x7B19#16 then L.refuseWrite
  else if v.getLsbD 0 || v.getLsbD 1 then L.crookStart (innerCrook l) (v.getLsbD 0) (v.getLsbD 1) else L

/-- CAN_TX_ABORT for each bit. Whether the frame is on the bus is not part of the write: a free value (log entry 5). -/
def State.canAbort (s : State) (l : Lane) (c : CanId) (b : Nat) (v : Word) : State :=
  let x := (s.lane l).fresh
  forBits v (fun j s => execCanTxAbort l c (b + j) (x.1.getLsbD 0) s) (s.updLane l fun _ => x.2)

/-- The command registers of a CAN controller. -/
def State.canTrigger (s : State) (l : Lane) (c : CanId) (o : Nat) (v : Word) : Option State :=
  if o = 0x10 then some (outState s (execRecover l c v s))
  else if o = 0x20 then
    some (outState s (execCanRxRelease l c (v.extractLsb' 0 7).toNat (v.extractLsb' 8 4).toNat s))
  else if 0x30 ≤ o ∧ o < 0x40 then some (forBits v (fun j s => execCanTxRequest l c (8 * (o - 0x30) + j) s) s)
  else if 0x40 ≤ o ∧ o < 0x50 then some (s.canAbort l c (8 * (o - 0x40)) v)
  else none

/-- The command registers of the other blocks; a write whose effect is a row of its own (R458). -/
def State.trigger (s : State) (l : Lane) (a : Nat) (v : Word) : Option State :=
  let t := (s.lane l).time
  let key := v.extractLsb' 16 16
  match a with
  | 0x40000008 => some (outState s (execSysReq l key (v.extractLsb' 0 3) s))
  | 0x40010010 => some (s.writeFcAck l v)
  | 0x40010024 => some (outState s (execFaultInject l key (v.extractLsb' 8 8) t s))
  | 0x40050004 => some (outState s (execPosSnap l v s))
  | 0x40050018 => some (outState s (execReref l v s))
  | 0x40060130 => some (if v.getLsbD 0 then outState s (execCommit l t s) else s)
  | 0x40080004 => some (outState s (execStgRearm l key (v.extractLsb' 0 3) s))
  | 0x4010000C => some (s.writeSafeReq l v)
  | 0x40090030 => some (outState s (execTxPost l (v.extractLsb' 0 5).toNat (v.extractLsb' 10 11).toNat t s))
  | 0x40090034 => some (outState s (execCpiAck l (v.extractLsb' 0 16) s))
  | 0x400C0044 => some (s.writeAuxCmd l v)
  | 0x400F0004 => some (s.updLane l fun L => L.mbxPost v)
  | 0x400F0008 => some (outState s (execMbxReplyRelease l v s))
  | 0x400F0020 => some (s.updLane l fun L => L.mbxCrook l v)
  | _ =>
    match canOf a with
    | some (c, o) => s.canTrigger l c o v
    | none => none

/-- A write of the word `v` by lane `l`'s control core, or by its debugger, to the address `a` of a register block (R31, R33). An
address without a register, a map entry and the SEC block take nothing; the last is recorded (0x0B04). -/
def State.regWrite (s : State) (l : Lane) (a : Nat) (v : Word) (sets : Word := 0) : State :=
  if inBlock a 0x400E0000 then s.updLane l fun L => L.raise 0x0B04
  else if 0x40200000 ≤ a then s
  else match rowAt a with
  | none => s
  | some r =>
    match s.trigger l a v with
    | some s' => s'
    | none => s.updLane l fun L => L.plainWrite l a r v sets

/-- REGISTER_WRITE (R458): `sets` names the W1C bits of the register that hardware sets in the same bus cycle (R6). -/
def execRegisterWrite (l : Lane) (addr : Nat) (v sets : BitVec 32) (s : State) : Out :=
  .next (if (s.lane l).up then s.regWrite l addr v sets else s)

end Sys2Proof.Machine
end

