-- ==== Sys2Proof/Machine/Lamb.lean ====
section
/-! DEFINITION. Checked execution in the control core (05): every instruction is carried out by the lead on true values and by
Lamb on their complements, and a difference between the two halts the core. Halting, debugging and interrupts take place at
instruction boundaries, where the load-value queue and the store compare buffer are empty (R121, R128, R136). -/
namespace Sys2Proof.Machine

/-- Set both program counters. -/
def LaneSt.goto (L : LaneSt) (pc npc : Word) : LaneSt :=
  L.updCpu fun h => { h with pc := pc, npc := if L.isSplit then h.npc else npc }

/-- The instruction retires and both copies go on: ~pc + ~length + 1 in Lamb. -/
def LaneSt.retire (L : LaneSt) (len : Nat) : LaneSt :=
  let n : Word := BitVec.ofNat 32 len
  let L := L.updCore fun c => { c with retired := c.retired + 1, instret := c.instret + 1 }
  L.goto (leadOp .add L.core.cpu.pc n) (lambOp .add L.core.cpu.npc (~~~n))

/-- The interrupt `cause` is pending: a cycle point (R347), the fast task's (R24) or the fault collector's (R295). -/
def LaneSt.irqPending (L : LaneSt) (cause : Nat) : Bool :=
  L.sys.irqs.contains cause || (L.sys.fastIrq && cause == Config.fastCause) || (L.sys.fcIrq && cause == Config.fcCause)

/-- The pending interrupts as mip. -/
def LaneSt.mip (L : LaneSt) : Word :=
  (List.range 32).foldl (fun w i => if L.irqPending i then w ||| (1#32 <<< i) else w) 0#32

/-- Sample a CSR of which there is one (R117): time and timeh are the lane's global time; a cycle count is free. -/
def LaneSt.sample (L : LaneSt) (n : Nat) : Word × LaneSt :=
  match n with
  | 0xC00 => L.fresh
  | 0xC80 => L.fresh
  | 0xC01 => (BitVec.ofNat 32 L.time, L)
  | 0xC81 => (BitVec.ofNat 32 (L.time / 0x100000000), L)
  | 0xC02 => (BitVec.ofNat 32 L.core.instret, L)
  | 0xC82 => (BitVec.ofNat 32 (L.core.instret / 0x100000000), L)
  | 0x301 => (0x40001125#32, L)
  | 0x344 => (L.mip, L)
  | 0xF14 => (L.core.cpu.csrAt 0xF14, L)
  | _ => (Config.csrReset n, L)

/-! ## Traps (R128) -/

/-- Both copies enter a trap with the same mepc, true in the lead and complemented in Lamb. -/
def LaneSt.trap (L : LaneSt) (cause : Word) (tval : Word) : LaneSt :=
  let st := L.core.cpu.csrAt 0x300
  let st' := if st.getLsbD 3 then 0x80#32 else 0#32
  let tv := L.core.cpu.csrAt 0x305
  let base := tv &&& 0xFFFFFFFC#32
  let pc := if cause.getLsbD 31 && tv.getLsbD 0 then base + 4#32 * (cause &&& 0x7FFFFFFF#32) else base
  let p := L.core.cpu.pc
  let L := (L.putCsr 0x341 p (~~~p)).putCsr 0x342 cause (~~~cause)
  let L := (L.putCsr 0x343 tval (~~~tval)).putCsr 0x300 st' (~~~st')
  { L.goto pc (~~~pc) with core := { (L.goto pc (~~~pc)).core with resv := none } }

/-- INTERRUPT_TAKEN (R128): a pending and enabled interrupt, at an instruction boundary. -/
def LaneSt.takeInterrupt (L : LaneSt) (cause : Nat) : LaneSt :=
  let h := L.core.cpu
  if L.irqPending cause && (h.csrAt 0x300).getLsbD 3 && (h.csrAt 0x304).getLsbD cause then
    let L := L.trap (0x80000000#32 ||| BitVec.ofNat 32 cause) 0#32
    { L with sys := { L.sys with fastIrq := L.sys.fastIrq && cause != Config.fastCause
                                 fcIrq := L.sys.fcIrq && cause != Config.fcCause } }
  else L

/-! ## Mismatches (R129 to R131) -/

/-- The control core and the Shepherd core halt, until the core reset (R131). -/
def LaneSt.haltCores (L : LaneSt) : LaneSt := (L.put Reg.MBX_STAT_SHEP_UP false).updCore fun c => { c with halted := true }

/-- A mismatch: record, halt, store compare buffer discarded, fault raised at L3; the core-halt mask opens (R300). -/
def LaneSt.mismatch (L : LaneSt) (id cls diff : Nat) : LaneSt :=
  let L := L.wr Reg.DBG_MIS_PC_PC L.core.cpu.pc.toNat
  let L := ((L.wr Reg.DBG_MIS_INFO_SOURCE id).wr Reg.DBG_MIS_INFO_DIFF_CNT diff).wr Reg.DBG_MIS_INFO_CLASS cls
  let L := L.haltCores.updCore fun c => { c with mismatch := true, scb := [], lvq := [] }
  (L.raise id).openMask 0

/-- Uncorrectable ECC (R122, R131): the same exception in both copies, the fault, and the core stays halted. -/
def LaneSt.eccFault (L : LaneSt) (cause : Nat) (tval : Word) : LaneSt :=
  let L := (L.trap (BitVec.ofNat 32 cause) tval).haltCores
  (L.raise 0x0109).openMask 0

/-- A mismatch of the Shepherd core (R131, R139): both cores halt. -/
def LaneSt.shepherdMismatch (L : LaneSt) : LaneSt :=
  (L.haltCores.raise 0x0111).openMask 0

/-- What the upset adds to Lamb's value of one compared quantity. -/
def upResult : Upset → Word
  | .result m => m
  | _ => 0#32
def upCsr : Upset → Word
  | .csrWrite m => m
  | _ => 0#32
def upLoadAddr : Upset → Word
  | .loadAddr m => m
  | _ => 0#32
def upStoreAddr : Upset → Word
  | .storeAddr m => m
  | _ => 0#32
def upStoreData : Upset → Word
  | .storeData m => m
  | _ => 0#32
def upRead : Upset → Word
  | .periphRead m => m
  | _ => 0#32

/-- Compare one quantity of the two copies (R116, R118, R121, R124): go on with `f`, or report `id`. In split mode nothing is
compared (R134). -/
def LaneSt.compare (L : LaneSt) (id cls : Nat) (v nv : Word) (f : LaneSt → LaneSt) : LaneSt :=
  if L.isSplit || ~~~nv == v then f L else L.mismatch id cls (bitCount (~~~nv ^^^ v))

/-- Compare the results and write them back. -/
def LaneSt.writeBack (L : LaneSt) (cls : Nat) (fp : Bool) (rd : Nat) (v nv : Word) (u : Upset) (f : LaneSt → LaneSt) : LaneSt :=
  let nv := nv ^^^ upResult u
  L.compare 0x0101 cls v nv fun L => f (L.putReg fp rd v nv)

/-! ## The bus (R28 to R34, R123, R124) -/

/-- An access of width `w` at `a` is aligned. -/
def aligned (w : Width) (a : Nat) : Bool :=
  match w with
  | .byte => true
  | .half => a % 2 == 0
  | .word => a % 4 == 0

/-- Number of bytes. -/
def widthSize : Width → Nat
  | .byte => 1
  | .half => 2
  | .word => 4

/-- Memory that the control core reads: boot ROM, MRAM, SRAM, retention SRAM. -/
def isMemory (a : Nat) : Bool :=
  decide (a < 0x10000) || (decide (0x10000000 ≤ a) && decide (a < 0x10800000)) ||
  (decide (0x20000000 ≤ a) && decide (a < 0x20200000)) || (decide (0x28000000 ≤ a) && decide (a < 0x28010000))

/-- SRAM and retention SRAM (R123). -/
def isSram (a : Nat) : Bool :=
  (decide (0x20000000 ≤ a) && decide (a < 0x20200000)) || (decide (0x28000000 ≤ a) && decide (a < 0x28010000))

/-- Memory that it writes: SRAM, and retention SRAM below the save area (R29, R31, R72). -/
def isRam (a : Nat) : Bool :=
  (decide (0x20000000 ≤ a) && decide (a < 0x20200000)) || (decide (0x28000000 ≤ a) && decide (a < 0x2800F000))

/-- The populated part of the TMAP window (R30). -/
def isMap (a : Nat) : Bool := decide (0x40200000 ≤ a) && decide (a < 0x40230000)

/-- A register block. -/
def isBlock (a : Nat) : Bool := decide (0x40000000 ≤ a) && !isMap a

/-- A SEC address that the application may not read (R33, R432). -/
def secClosed (a : Nat) : Bool := inBlock a 0x400E0000 && (rowAt a).isNone

/-- What checked code reads from a register (R8): a class S register as last frozen. -/
def LaneSt.regRead (L : LaneSt) (a : Nat) : Word := if freezeOf a = .never then L.reg a else L.snapReg a

/-- A read on the bus: raw data, or a bus error. -/
def LaneSt.busRead (L : LaneSt) (w : Width) (a : Nat) : Option Word :=
  if !aligned w a then none
  else if isMemory a then some (bytesWord (L.bytes a (widthSize w)))
  else if isMap a then some ((L.reg (a / 4 * 4) >>> (8 * (a % 4))) &&& BitVec.ofNat 32 (2 ^ (8 * widthSize w) - 1))
  else if w = .word ∧ (rowAt a).isSome then some (L.regRead a)
  else none

/-- A bus error, or a misaligned access to memory, is an exception of both copies (R31, R128): `mis` for a misaligned access, `err` for a
bus error. A restricted SEC access is recorded (R33). -/
def LaneSt.accessTrap (L : LaneSt) (w : Width) (a : Word) (mis err : Nat) : LaneSt :=
  let L := L.raiseIf (inBlock a.toNat 0x400E0000) 0x0B04
  L.trap (BitVec.ofNat 32 (if !aligned w a.toNat && !isBlock a.toNat then mis else err)) a

/-- A load's entry goes into the load-value queue; Lamb takes the oldest (R118). -/
def LaneSt.lvqPut (L : LaneSt) (a : Word) (w : Width) (raw : Word) : LaneSt :=
  L.updCore fun c => { c with lvq := c.lvq ++ [⟨a, widthSize w, raw⟩] }
def LaneSt.lvqTake (L : LaneSt) : LaneSt := L.updCore fun c => { c with lvq := c.lvq.drop 1 }

/-- A store's entry goes into the store compare buffer; once Lamb's store has agreed, the oldest leaves for the bus (R121). -/
def LaneSt.scbPut (L : LaneSt) (a : Word) (w : Width) (v : Word) : LaneSt :=
  L.updCore fun c => { c with scb := c.scb ++ [⟨a, widthSize w, v⟩] }
def LaneSt.scbTake (L : LaneSt) : LaneSt := L.updCore fun c => { c with scb := c.scb.drop 1 }

/-- What the store compare buffer holds for an access at `a` (R121): the youngest entry of that address and size. -/
def LaneSt.forwarded (L : LaneSt) (w : Width) (a : Word) : Option Word :=
  (L.core.scb.reverse.find? fun e => e.addr == a && e.size == widthSize w).map (·.data)

/-- A store of the low bytes of `v` reaches the bus; none is a bus error. -/
def State.busStore (s : State) (l : Lane) (w : Width) (a : Nat) (v : Word) : Option State :=
  if !aligned w a then none
  else if isRam a then some (s.updLane l fun L => L.setBytes a ((wordBytes v).take (widthSize w)))
  else if w = .word ∧ isBlock a ∧ (rowAt a).isSome ∧ !inBlock a 0x400E0000 then some (s.regWrite l a v)
  else none

/-! ## Instructions without a store -/

/-- Addresses of a load or store in the two copies (R114, address generation). -/
def LaneSt.leadAddr (L : LaneSt) (rs1 : Nat) (off : Word) : Word := leadOp .add (L.core.cpu.getX false rs1) off
def LaneSt.lambAddr (L : LaneSt) (rs1 : Nat) (off : Word) : Word := lambOp .add (L.core.cpu.getN false rs1) (~~~off)

/-- A load (R118, R119, R124): memory through the load-value queue, a register read twice. -/
def LaneSt.loadInstr (L : LaneSt) (w : Width) (signed fp : Bool) (rd rs1 : Nat) (off : Word) (len : Nat) (u : Upset) : LaneSt :=
  let a := L.leadAddr rs1 off
  let na := L.lambAddr rs1 off ^^^ upLoadAddr u
  let block := isBlock a.toNat
  L.compare 0x0106 (if block then 8 else 2) a na fun L =>
    if u = .queue ∧ !L.isSplit then L.mismatch 0x0108 (if block then 8 else 2) 0
    else match (L.forwarded w a).or (L.busRead w a.toNat) with
    | none => L.accessTrap w a 4 5
    | some raw =>
      let L := L.lvqPut a w raw
      if block then
        L.compare 0x0105 8 raw (~~~raw ^^^ upRead u) fun L =>
          L.writeBack 8 fp rd (leadExt w signed raw) (lambExt w signed (~~~raw)) u fun L => L.lvqTake.retire len
      else
        L.writeBack 2 fp rd (leadExt w signed raw) (lambExt w signed (~~~raw)) u fun L => L.lvqTake.retire len

/-- A jump with a link (R114): both copies compute link and target. -/
def LaneSt.jumpInstr (L : LaneSt) (rd : Nat) (t nt : Word) (len : Nat) (u : Upset) : LaneSt :=
  let n : Word := BitVec.ofNat 32 len
  let h := L.core.cpu
  L.writeBack 1 false rd (leadOp .add h.pc n) (lambOp .add h.npc (~~~n)) u fun L => (L.retire len).goto t nt

/-- A conditional branch: the copies decide apart; a difference is a control-flow mismatch (R113). -/
def LaneSt.branchInstr (L : LaneSt) (op : BrOp) (rs1 rs2 : Nat) (off : Word) (len : Nat) : LaneSt :=
  let h := L.core.cpu
  let b := leadBr op (h.getX false rs1) (h.getX false rs2)
  let nb := lambBr op (h.getN false rs1) (h.getN false rs2)
  if !L.isSplit && b != nb then L.mismatch 0x0102 1 0
  else if b then (L.retire len).goto (leadOp .add h.pc off) (lambOp .add h.npc (~~~off)) else L.retire len

/-- A CSR instruction: the old value to rd, the new one compared (0x0107) and written. A CSR that does not exist, or a write to one
that is read-only, is an illegal instruction. -/
def LaneSt.csrInstr (L : LaneSt) (op : CsrOp) (rd n rs1 len : Nat) (u : Upset) : LaneSt :=
  let h := L.core.cpu
  let writes := op == .rw || rs1 % 32 != 0
  if !csrKnown n || (writes && decide (0xC00 ≤ n)) then L.trap 2#32 0#32
  else
    let k := L.csrHome n
    let smp := L.sample n
    let L := if csrSampled n then smp.2 else L
    let old := if csrSampled n then smp.1 else csrView n (h.csrAt k)
    let nold := if csrSampled n then ~~~smp.1 else ~~~(csrView n (~~~(h.ncsrAt k)))
    let b := if 32 ≤ rs1 then BitVec.ofNat 32 (rs1 - 32) else h.getX false rs1
    let nb := if 32 ≤ rs1 then ~~~(BitVec.ofNat 32 (rs1 - 32)) else h.getN false rs1
    let new := match op with
      | .rw => b
      | .rs => old ||| b
      | .rc => old &&& ~~~b
    let nnew := (match op with
      | .rw => nb
      | .rs => nold &&& nb
      | .rc => nold ||| ~~~nb) ^^^ upCsr u
    L.writeBack 5 false rd old nold u fun L =>
      if writes && !csrSampled n then
        L.compare 0x0107 5 new nnew fun L =>
          (L.putCsr k (csrMerge n (h.csrAt k) new) (~~~(csrMerge n (~~~(h.ncsrAt k)) (~~~nnew)))).retire len
      else L.retire len

/-- The rounding mode of an operation: its own field, or frm for 7. -/
def roundMode (rm : Nat) (fcsr : Word) : Nat := if rm = 7 then ((fcsr >>> 5) &&& 7#32).toNat else rm

/-- A floating-point operation: the unit sees the true operands of both copies (R114, R115); its flags are kept in both fcsr, and a
difference there is a CSR write mismatch (R116). A reserved rounding mode is an illegal instruction. -/
def LaneSt.fpuInstr (L : LaneSt) (op : FpuOp) (rm fd fs1 fs2 fs3 len : Nat) (u : Upset) : LaneSt :=
  let h := L.core.cpu
  let md := roundMode rm (h.csrAt 3)
  if fpuRounds op && decide (4 < md) then L.trap 2#32 0#32
  else
    let r := fpuExec op md (h.getX (!fpuFromInt op) fs1) (h.getX true fs2) (h.getX true fs3)
    let nmd := roundMode rm (~~~(h.ncsrAt 3))
    let nr := lambFpu op nmd (h.getN (!fpuFromInt op) fs1) (h.getN true fs2) (h.getN true fs3)
    L.writeBack 7 (!fpuToInt op) fd r.1 nr.1 u fun L =>
      L.compare 0x0107 7 (h.csrAt 3 ||| r.2) ((h.ncsrAt 3 &&& nr.2) ^^^ upCsr u) fun L =>
        (L.putCsr 3 (h.csrAt 3 ||| r.2) (h.ncsrAt 3 &&& nr.2)).retire len

/-- LR (R123): only in SRAM and retention SRAM. -/
def LaneSt.lrInstr (L : LaneSt) (rd rs1 len : Nat) (u : Upset) : LaneSt :=
  let a := L.leadAddr rs1 0#32
  L.compare 0x0103 4 a (L.lambAddr rs1 0#32 ^^^ upStoreAddr u) fun L =>
    if !isSram a.toNat || !aligned .word a.toNat then L.accessTrap .word a 4 5
    else
      let v := L.word a.toNat
      L.writeBack 4 false rd v (~~~v) u fun L =>
        (L.updCore fun c => { c with resv := some a.toNat }).retire len

/-- Return from a trap: both copies take their own mepc. -/
def LaneSt.mretInstr (L : LaneSt) : LaneSt :=
  let h := L.core.cpu
  let st := if (h.csrAt 0x300).getLsbD 7 then 0x88#32 else 0x80#32
  let L := L.updCore fun c => { c with retired := c.retired + 1, instret := c.instret + 1 }
  (L.putCsr 0x300 st (~~~st)).goto (h.csrAt 0x341) (h.ncsrAt 0x341)

/-! ## Stores and atomic operations -/

/-- The lead's store enters the buffer, and Lamb's is compared with it (R121): address, size and data agree, or a mismatch. The two
sizes are the instruction's own, so only a disturbance makes them differ. -/
def LaneSt.storeAgree (L : LaneSt) (w : Width) (fp : Bool) (rs1 rs2 : Nat) (off : Word) (u : Upset) : LaneSt :=
  let mask : Word := BitVec.ofNat 32 (2 ^ (8 * widthSize w) - 1)
  let a := L.leadAddr rs1 off
  let na := L.lambAddr rs1 off ^^^ upStoreAddr u
  let v := L.core.cpu.getX fp rs2 &&& mask
  let nv := (L.core.cpu.getN fp rs2 ^^^ upStoreData u) ||| ~~~mask
  (L.scbPut a w v).compare 0x0103 3 a na fun L =>
    if u = .storeSize ∧ !L.isSplit then L.mismatch 0x0103 3 0
    else L.compare 0x0104 3 v nv fun L => L

/-- A store (R121): it leaves the core for the bus once the two copies agree. -/
def State.storeInstr (s : State) (l : Lane) (w : Width) (fp : Bool) (rs1 rs2 : Nat) (off : Word) (len : Nat) (u : Upset) : State :=
  let L := s.lane l
  let a := L.leadAddr rs1 off
  let v := L.core.cpu.getX fp rs2 &&& BitVec.ofNat 32 (2 ^ (8 * widthSize w) - 1)
  let s := s.updLane l fun L => L.storeAgree w fp rs1 rs2 off u
  if (s.lane l).core.halted then s
  else
    let s := s.updLane l LaneSt.scbTake
    match s.busStore l w a.toNat v with
    | none => s.updLane l fun L => L.accessTrap w a 6 7
    | some s' => s'.updLane l fun L => L.retire len

/-- Address and data of an atomic operation agree in both copies (R123). -/
def LaneSt.atomicPair (L : LaneSt) (rs1 rs2 : Nat) (u : Upset) (f : Word → Word → LaneSt → LaneSt) : LaneSt :=
  let h := L.core.cpu
  let a := L.leadAddr rs1 0#32
  L.compare 0x0103 4 a (L.lambAddr rs1 0#32 ^^^ upStoreAddr u) fun L =>
    L.compare 0x0104 4 (h.getX false rs2) (h.getN false rs2 ^^^ upStoreData u) fun L =>
      if !isRam a.toNat || !aligned .word a.toNat then L.accessTrap .word a 6 7 else f a (h.getX false rs2) L

/-- SC: stores while the reservation holds the address; the result is 0 or 1. -/
def LaneSt.scInstr (L : LaneSt) (rd rs1 rs2 len : Nat) (u : Upset) : LaneSt :=
  L.atomicPair rs1 rs2 u fun a b L =>
    let ok := L.core.resv == some a.toNat
    let r : Word := if ok then 0#32 else 1#32
    L.writeBack 4 false rd r (~~~r) u fun L =>
      let L := L.updCore fun c => { c with resv := none }
      (if ok then L.setWord a.toNat b else L).retire len

/-- AMO: once on the bus; the old value to rd. -/
def LaneSt.amoInstr (L : LaneSt) (op : AmoOp) (rd rs1 rs2 len : Nat) (u : Upset) : LaneSt :=
  L.atomicPair rs1 rs2 u fun a b L =>
    let x := L.word a.toNat
    L.writeBack 4 false rd x (~~~x) u fun L => (L.setWord a.toNat (amoOp op x b)).retire len

/-! ## One instruction -/

/-- Instructions that change the lane alone. -/
def LaneSt.laneInstr (L : LaneSt) (i : CoreInstr) (u : Upset) : LaneSt :=
  let h := L.core.cpu
  match i with
  | .alu op rd rs1 rs2 len =>
    L.writeBack 0 false rd (leadOp op (h.getX false rs1) (h.getX false rs2)) (lambOp op (h.getN false rs1) (h.getN false rs2)) u
      fun L => L.retire len
  | .aluImm op rd rs1 imm len =>
    L.writeBack 0 false rd (leadOp op (h.getX false rs1) imm) (lambOp op (h.getN false rs1) (~~~imm)) u fun L => L.retire len
  | .lui rd imm len => L.writeBack 0 false rd imm (~~~imm) u fun L => L.retire len
  | .auipc rd imm len => L.writeBack 0 false rd (leadOp .add h.pc imm) (lambOp .add h.npc (~~~imm)) u fun L => L.retire len
  | .jal rd off len => L.jumpInstr rd (leadOp .add h.pc off) (lambOp .add h.npc (~~~off)) len u
  | .jalr rd rs1 off len =>
    L.jumpInstr rd (L.leadAddr rs1 off &&& 0xFFFFFFFE#32) (L.lambAddr rs1 off ||| 1#32) len u
  | .branch op rs1 rs2 off len => L.branchInstr op rs1 rs2 off len
  | .muldiv op rd rs1 rs2 len =>
    L.writeBack 6 false rd (unitExec op (h.getX false rs1) (h.getX false rs2)) (lambUnit op (h.getN false rs1) (h.getN false rs2)) u
      fun L => L.retire len
  | .fpu op rm fd fs1 fs2 fs3 len => L.fpuInstr op rm fd fs1 fs2 fs3 len u
  | .fmvToInt rd fs len => L.writeBack 7 false rd (h.getX true fs) (h.getN true fs) u fun L => L.retire len
  | .fmvFromInt fd rs len => L.writeBack 7 true fd (h.getX false rs) (h.getN false rs) u fun L => L.retire len
  | .load w sg rd rs1 off len => L.loadInstr w sg false rd rs1 off len u
  | .loadF fd rs1 off len => L.loadInstr .word false true fd rs1 off len u
  | .lr rd rs1 len => L.lrInstr rd rs1 len u
  | .sc rd rs1 rs2 len => L.scInstr rd rs1 rs2 len u
  | .amo op rd rs1 rs2 len => L.amoInstr op rd rs1 rs2 len u
  | .csr op rd n rs1 len => L.csrInstr op rd n rs1 len u
  | .mret _ => L.mretInstr
  | .fence len => L.retire len
  | .ecall => L.trap 11#32 0#32
  | .ebreak => L.trap 3#32 h.pc
  | .store _ _ _ _ _ => L
  | .storeF _ _ _ _ => L

/-- Address, and cause of an access fault, of the instruction's read of memory: 5 for a load, 7 for an atomic operation. -/
def LaneSt.readOf (L : LaneSt) (i : CoreInstr) : Option (Nat × Word) :=
  match i with
  | .load _ _ _ rs1 off _ => some (5, L.leadAddr rs1 off)
  | .loadF _ rs1 off _ => some (5, L.leadAddr rs1 off)
  | .lr _ rs1 _ => some (5, L.leadAddr rs1 0#32)
  | .sc _ rs1 _ _ => some (7, L.leadAddr rs1 0#32)
  | .amo _ _ rs1 _ _ => some (7, L.leadAddr rs1 0#32)
  | _ => none

/-- Instruction class as DBG_MIS_INFO.CLASS codes it (R140). -/
def LaneSt.classOf (L : LaneSt) (i : CoreInstr) : Nat :=
  match i with
  | .alu _ _ _ _ _ | .aluImm _ _ _ _ _ | .lui _ _ _ | .auipc _ _ _ | .fence _ => 0
  | .jal _ _ _ | .jalr _ _ _ _ | .branch _ _ _ _ _ | .mret _ | .ecall | .ebreak => 1
  | .load _ _ _ rs1 off _ | .loadF _ rs1 off _ => if isBlock (L.leadAddr rs1 off).toNat then 8 else 2
  | .store _ _ _ _ _ | .storeF _ _ _ _ => 3
  | .lr _ _ _ | .sc _ _ _ _ | .amo _ _ _ _ _ => 4
  | .csr _ _ _ _ _ => 5
  | .muldiv _ _ _ _ _ => 6
  | .fpu _ _ _ _ _ _ _ | .fmvToInt _ _ _ | .fmvFromInt _ _ _ => 7

/-- Uncorrectable ECC of the fetch (cause 1) or of the instruction's read (R122). The spec gives no mtval: the model puts the pc for
the fetch, the address for the read (log entry 91, PRESUMED). -/
def LaneSt.eccDouble (L : LaneSt) (i : CoreInstr) (fetch : Bool) : LaneSt :=
  match fetch, L.readOf i with
  | false, some (cause, a) => L.eccFault cause a
  | _, _ => L.eccFault 1 L.core.cpu.pc

/-- The instruction's entries in the queues (R118, R120, R121, R123): highest occupancies, at most 8 and 4, and the cycles for which
the lead stalled on a full queue, a full buffer or an atomic operation. In split mode there is no queue (R134). -/
def LaneSt.issue (L : LaneSt) (i : CoreInstr) (q : IssueIn) : LaneSt :=
  if L.isSplit then L
  else match i with
  | .load _ _ _ _ _ _ | .loadF _ _ _ _ => L.updCore fun c =>
    { c with lvqHigh := max c.lvqHigh (min (q.lvq + 1) 8), stalled := c.stalled + (if 8 ≤ q.lvq then q.stall else 0) }
  | .store _ _ _ _ _ | .storeF _ _ _ _ => L.updCore fun c =>
    { c with scbHigh := max c.scbHigh (min (q.scb + 1) 4), stalled := c.stalled + (if 4 ≤ q.scb then q.stall else 0) }
  | .lr _ _ _ | .sc _ _ _ _ | .amo _ _ _ _ _ => L.updCore fun c =>
    { c with scbHigh := max c.scbHigh (min (q.scb + 1) 4), stalled := c.stalled + q.stall }
  | _ => L

/-- One instruction of both copies, with the upset `u` (R110 to R130). -/
def State.runInstr (s : State) (l : Lane) (i : CoreInstr) (u : Upset) (q : IssueIn) : State :=
  let s := s.updLane l fun L => L.issue i q
  let L := s.lane l
  let h := L.core.cpu
  if !L.isSplit && (u = .flow || ~~~h.npc != h.pc) then s.updLane l fun L => L.mismatch 0x0102 (L.classOf i) 0
  else if u = .eccDouble true ∨ u = .eccDouble false then s.updLane l fun L => L.eccDouble i (u == .eccDouble true)
  else
    let s := if u = .eccSingle then s.updLane l fun L => L.raise 0x010A else s
    match i with
    | .store w rs1 rs2 off len => s.storeInstr l w false rs1 rs2 off len u
    | .storeF rs1 fs2 off len => s.storeInstr l .word true rs1 fs2 off len u
    | i => s.updLane l fun L => L.laneInstr i u

/-! ## The Shepherd core (R139) -/

/-- The Shepherd core on its own bus, seen as a control core that is checked: its registers, its SRAM of 256 KiB in front. -/
def LaneSt.asShepherd (L : LaneSt) : LaneSt :=
  ({ L with mem := L.shepMem }.put Reg.DBG_CHK_STAT_CORE_MODE false).updCore fun c =>
    { c with cpu := c.shep, halted := false, mismatch := false, scb := [], lvq := [] }

/-- Outside the Shepherd's bus: SRAM past its 256 KiB, the retention SRAM and the torque maps. -/
def shepHole (a : Nat) : Bool := (decide (0x20040000 ≤ a) && decide (a < 0x30000000)) || isMap a

/-- One Shepherd instruction on that view: RV32IMC, without floating point and atomic operations. A store to a register block of its own
bus retires; what its firmware does there is the effect of the Shepherd's own commands (log entry 90). -/
def LaneSt.shepInstr (L : LaneSt) (i : CoreInstr) (u : Upset) : LaneSt :=
  let h := L.core.cpu
  if u = .flow || ~~~h.npc != h.pc then L.mismatch 0x0102 (L.classOf i) 0
  else match i with
  | .fpu _ _ _ _ _ _ _ | .fmvToInt _ _ _ | .fmvFromInt _ _ _ | .loadF _ _ _ _ | .storeF _ _ _ _ | .lr _ _ _ | .sc _ _ _ _ | .amo _ _ _ _ _ =>
    L.trap 2#32 0#32
  | .load w _ _ rs1 off _ =>
    if shepHole (L.leadAddr rs1 off).toNat then L.accessTrap w (L.leadAddr rs1 off) 4 5 else L.laneInstr i u
  | .store w rs1 rs2 off len =>
    let a := L.leadAddr rs1 off
    let v := h.getX false rs2 &&& BitVec.ofNat 32 (2 ^ (8 * widthSize w) - 1)
    let L := L.storeAgree w false rs1 rs2 off u
    if L.core.halted then L
    else if !aligned w a.toNat || shepHole a.toNat || !(isRam a.toNat || isBlock a.toNat) then L.scbTake.accessTrap w a 6 7
    else (if isRam a.toNat then L.scbTake.setBytes a.toNat ((wordBytes v).take (widthSize w)) else L.scbTake).retire len
  | i => L.laneInstr i u

/-- The lane after a Shepherd instruction: any mismatch raises 0x0111; otherwise the core and its SRAM have gone on. -/
def LaneSt.runShepherd (L : LaneSt) (i : CoreInstr) (u : Upset) : LaneSt :=
  if u = .eccDouble true ∨ u = .eccDouble false then (L.haltCores.raise 0x0109).openMask 0
  else
    let M := L.asShepherd.shepInstr i u
    if M.core.halted then L.shepherdMismatch
    else { L with core := { L.core with shep := M.core.cpu }, shepMem := M.mem }.raiseIf (u == Upset.eccSingle) 0x010A

/-! ## Debug (R135 to R138, R431) -/

/-- The session permits a halt in this state (R431). -/
def LaneSt.mayHalt (L : LaneSt) (l : Lane) : Bool :=
  L.on Reg.DBG_SESSION_OPEN && L.rd Reg.SEC_DBG_STAT_LEVEL == 2 &&
  (L.st == stStandby || L.st == stArm ||
   (L.st == stFold && [0, 1, 2].all fun i => L.rd (Reg.CLM_STG_ACCEPTED i) != laneIx l + 1 || !L.on (Reg.STG_STAT_EN i)))

/-- Halt at the boundary: RESYNC from the next round, claim 0 at once; the halt completes once no arbiter has the lane accepted. -/
def LaneSt.halt (L : LaneSt) (l : Lane) : LaneSt :=
  let free := L.holds l == 0
  L.enterResync.updCore fun c => { c with debug := free, haltDue := !free }

/-- A halt that waited completes (R431). -/
def LaneSt.completeHalt (L : LaneSt) (l : Lane) : LaneSt :=
  if L.core.haltDue && L.holds l == 0 then L.updCore fun c => { c with debug := true, haltDue := false } else L

/-- Lead's trigger `k` matches the instruction (R135): mcontrol's execute, store and load bits on address or data. -/
def LaneSt.triggerHits (L : LaneSt) (i : CoreInstr) (k : Nat) : Bool :=
  let h := L.core.cpu
  let t := h.csrAt (0x7A1 + 0x10000 * k)
  let v := h.csrAt (0x7A2 + 0x10000 * k)
  let sel := t.getLsbD 19
  let mem := fun (st ld : Bool) (a : Word) (d : Option Word) =>
    ((st && t.getLsbD 1) || (ld && t.getLsbD 0)) && (if sel then d == some v else a == v)
  t.extractLsb' 28 4 == 2#4 && t.extractLsb' 12 4 == 1#4 &&
  ((t.getLsbD 2 && !sel && h.pc == v) ||
   match i with
   | .load w _ _ rs1 off _ => mem false true (L.leadAddr rs1 off) (L.busRead w (L.leadAddr rs1 off).toNat)
   | .loadF _ rs1 off _ => mem false true (L.leadAddr rs1 off) (L.busRead .word (L.leadAddr rs1 off).toNat)
   | .store _ rs1 rs2 off _ => mem true false (L.leadAddr rs1 off) (some (h.getX false rs2))
   | .storeF rs1 fs2 off _ => mem true false (L.leadAddr rs1 off) (some (h.getX true fs2))
   | .lr _ rs1 _ => mem false true (h.getX false rs1) (some (L.word (h.getX false rs1).toNat))
   | .sc _ rs1 rs2 _ => mem true false (h.getX false rs1) (some (h.getX false rs2))
   | .amo _ _ rs1 rs2 _ => mem true true (h.getX false rs1) (some (h.getX false rs2))
   | _ => false)

/-- A halting trigger stops the lead before the instruction (R136); where a halt is refused it is a trace event (R431). -/
def LaneSt.triggered (L : LaneSt) (l : Lane) (i : CoreInstr) : Bool :=
  L.mayHalt l && (List.range 4).any fun k => L.triggerHits i k

/-- The control core runs: powered and started, not halted. -/
def LaneSt.runs (L : LaneSt) : Bool := L.up && L.sys.boot == .none && !L.core.halted

/-- The other hart's turn (R132). -/
def LaneSt.swapHarts (L : LaneSt) : LaneSt :=
  L.updCore fun c => { c with cpu := c.cpu2, cpu2 := c.cpu, resv := c.resv2, resv2 := c.resv, instret := c.instret2, instret2 := c.instret }

/-- What `f` does to the lane's hart: hart 2 exists in split mode only (R132), and DBG_PERF counts the lead (R140). -/
def State.onHart (s : State) (l : Lane) (second : Bool) (f : State → State) : State :=
  if !second then f s
  else if (s.lane l).isSplit then
    let n := (s.lane l).core.retired
    (f (s.updLane l LaneSt.swapHarts)).updLane l fun L => L.swapHarts.updCore fun c => { c with retired := n }
  else s

/-- CHECKED_INSTRUCTION (R110 to R130, R132 to R134, R139). -/
def execCheckedInstruction (l : Lane) (c : CoreSel) (i : CoreInstr) (u : Upset) (q : IssueIn) (s : State) : Out :=
  if c = .shepherd then .next (s.updLane l fun L => if L.runs && L.on Reg.MBX_STAT_SHEP_UP then L.runShepherd i u else L)
  else .next (s.onHart l (c == .hart2) fun s =>
    let L := s.lane l
    if L.runs && !L.core.debug then
      if c == .main && L.triggered l i then
        let s := s.updLane l fun L => L.halt l
        if (s.lane l).core.debug then s else s.runInstr l i u q
      else s.runInstr l i u q
    else s)

/-- INTERRUPT_TAKEN (R128). The spec lists no interrupt of the Shepherd core. -/
def execInterruptTaken (l : Lane) (c : CoreSel) (cause : Nat) (s : State) : Out :=
  if c = .shepherd then .next s
  else .next (s.onHart l (c == .hart2) fun s => s.updLane l fun L => if L.runs && !L.core.debug then L.takeInterrupt cause else L)

/-- Core, Shepherd and engines reset (R131, R295, R444): LAST_MIS tells how the run ended; the lane goes on to RESYNC (R155) unless it
is held SILENT (R296). -/
def LaneSt.coreReset (L : LaneSt) : LaneSt :=
  let L := if L.core.mismatch then L.put Reg.DBG_CHK_STAT_LAST_MIS true else L
  let L := ((L.resetShepherd.auxAbort false).flkListen).updCore fun c =>
    { CoreSt.reset with retired := c.retired, data0 := c.data0, cmderr := c.cmderr, sbdata := c.sbdata, sberror := c.sberror }.startAt
      c.entry c.entry2
  let L := { L with fc := { L.fc with resetDue := false } }
  if L.fc.thermal then L else L.enterResync

/-- CORE_RESET_AFTER_RECORD (R131): once the fault record is in MRAM and the lane is SILENT. -/
def execCoreResetAfterRecord (l : Lane) (s : State) : Out :=
  onLaneNow l s fun L =>
    if (L.fc.resetDue || L.core.halted) && L.fc.queue.isEmpty && !L.fc.silentNext then L.coreReset else L

/-- DEBUG_HALT_REQUEST (R136, R431): refused in DRIVE, at level TRACE, and in FOLD until its stages are in STO. -/
def execDebugHaltRequest (l : Lane) (s : State) : Out :=
  onLaneNow l s fun L =>
    if !L.on Reg.DBG_SESSION_OPEN || L.core.halted then L
    else if L.mayHalt l then (if L.core.debug then L else L.halt l)
    else L.incSat Reg.DBG_SESSION_HALT_REFUSED

/-- An abstract command names a register that the core has. -/
def dbgKnown (r : DbgReg) (write : Bool) : Bool :=
  match r with
  | .x n => decide (n < 32)
  | .f n => decide (n < 32)
  | .csr n => csrKnown n && !(write && decide (0xC00 ≤ n))
  | _ => true

/-- The lead's value of a register (R136). -/
def LaneSt.debugRead (L : LaneSt) (r : DbgReg) : Word × LaneSt :=
  match r with
  | .x n => (L.core.cpu.getX false (n % 32), L)
  | .f n => (L.core.cpu.getX true (n % 32), L)
  | .csr n => if csrSampled n then L.sample n else (csrView n (L.core.cpu.csrAt (L.csrHome n)), L)
  | .dpc => (L.core.cpu.pc, L)
  | .abstractcs => (BitVec.ofNat 32 (1 + 0x100 * L.core.cmderr), L)
  | .sbcs => (BitVec.ofNat 32 (0x20000404 + 0x1000 * L.core.sberror), L)

/-- An abstract command ends with an error (cmderr of the debug specification). -/
def LaneSt.cmdError (L : LaneSt) (e : Nat) : LaneSt := L.updCore fun c => { c with cmderr := e }

/-- A write of the debug module: abstractcs clears the bits of cmderr that are written as 1, sbcs those of sberror. -/
def LaneSt.debugModule (L : LaneSt) (r : DbgReg) (v : Word) : LaneSt :=
  match r with
  | .abstractcs => L.updCore fun c => { c with cmderr := c.cmderr &&& (7 - (v.extractLsb' 8 3).toNat) }
  | .sbcs => L.updCore fun c => { c with sberror := c.sberror &&& (7 - (v.extractLsb' 12 3).toNat) }
  | _ => L

/-- An abstract register write (R137): at once in the lead, and journalled; a sixty-fifth entry is refused with cmderr = 1. -/
def LaneSt.abstractWrite (L : LaneSt) (r : DbgReg) (v : Word) : LaneSt :=
  if 64 ≤ L.core.journal.length then (L.incSat Reg.DBG_JOURNAL_BUSY_CNT).cmdError 1
  else (L.debugLead r v).updCore fun c => { c with journal := c.journal ++ [(r, v)] }

/-- DEBUG_REGISTER_WRITE (R135 to R137): an abstract Access Register command that writes the value given, or reads where there is none;
or an access to a register of the debug module. An abstract command needs a core halted by the debugger (cmderr 4 otherwise), a
register it has (3 otherwise), and no error standing. The registers of a core halted after a mismatch are not readable (R130). -/
def execDebugRegisterWrite (l : Lane) (r : DbgReg) (v : Option (BitVec 32)) (s : State) : Out :=
  onLaneNow l s fun L =>
    if !L.on Reg.DBG_SESSION_OPEN then L
    else if r = .abstractcs ∨ r = .sbcs then
      match v with
      | some v => L.debugModule r v
      | none => (L.debugRead r).2.updCore fun c => { c with data0 := (L.debugRead r).1 }
    else if L.core.cmderr ≠ 0 then L
    else if !L.core.debug || L.core.halted then L.cmdError 4
    else if !dbgKnown r v.isSome then L.cmdError 3
    else match v with
      | some v => L.abstractWrite r v
      | none => (L.debugRead r).2.updCore fun c => { c with data0 := (L.debugRead r).1 }

/-- DEBUG_RESUME (R137, R431): replay, run, and resync. -/
def execDebugResume (l : Lane) (s : State) : Out := onLaneNow l s fun L => L.debugRun

/-- DEBUG_SINGLE_STEP (R136, R137): replay, then one instruction in both copies. -/
def execDebugSingleStep (l : Lane) (i : CoreInstr) (s : State) : Out :=
  let L := s.lane l
  if L.runs && L.core.debug then .next ((s.updLane l LaneSt.replay).runInstr l i .none ⟨0, 0, 0⟩) else .next s

/-- A System Bus Access ends with an error: 2 bad address (R138), 3 misaligned (debug specification). -/
def LaneSt.busError (L : LaneSt) (e : Nat) : LaneSt := L.updCore fun c => { c with sberror := e }

/-- System Bus Access takes the address (R138): SRAM and retention SRAM, and in STANDBY a register block. The torque maps are neither, and
an address without a register is none (log entry 92, DEDUCED). -/
def LaneSt.sbaTakes (L : LaneSt) (a : Nat) : Bool :=
  isSram a || (isBlock a && L.st == stStandby && (rowAt a).isSome && !inBlock a 0x400E0000)

/-- SYSTEM_BUS_ACCESS (R138): a write of the word given, or a read where there is none, at level HALT of an open session. -/
def execSystemBusAccess (l : Lane) (addr : Nat) (v : Option (BitVec 32)) (s : State) : Out :=
  let L := s.lane l
  if !(L.up && L.on Reg.DBG_SESSION_OPEN && L.rd Reg.SEC_DBG_STAT_LEVEL == 2) || L.core.sberror != 0 then .next s
  else if addr % 4 ≠ 0 then .next (s.updLane l fun L => L.busError 3)
  else if !L.sbaTakes addr then .next (s.updLane l fun L => L.busError 2)
  else match v with
    | none => .next (s.updLane l fun L => L.updCore fun c => { c with sbdata := if isSram addr then L.word addr else L.reg addr })
    | some v => .next (if isSram addr then s.updLane l fun L => L.setWord addr v else s.regWrite l addr v)

end Sys2Proof.Machine
end

