-- ==== Sys2Proof/Machine/Meas.lean ====
section
/-! DEFINITION. Current and voltage measurement (07). -/
namespace Sys2Proof.Machine

/-- One ampere in the sequencer's internal unit, 2^-32 A. -/
abbrev ampere : Int := 0x100000000

/-! ## Status frames: what a lane copies of a stage (R174, R274, R275) -/

/-- The lane's STG_STAT, STG_FAULT and CLM_STG copies of stage `i`. -/
def LaneSt.copyStat (L : LaneSt) (i : Nat) (g : StageSt) : LaneSt :=
  let L := (((L.wr (Reg.STG_STAT_TJ i) (bitsOf 8 (g.tj + 64))).put (Reg.STG_STAT_CLAMP i) g.clamp).put
    (Reg.STG_STAT_ISOLATED i) g.isolated).put (Reg.STG_STAT_LOCKOUT i) g.lockout
  let L := (((L.put (Reg.STG_STAT_LATCHED i) (g.latch != 0)).wr (Reg.STG_STAT_BOOT_OK i)
    (mask3 fun k => nth g.bootOk k)).put (Reg.STG_STAT_EN i) g.en).put (Reg.STG_STAT_STO_IN i) g.stoIn
  ((L.put (Reg.STG_STAT_RP_ON i) g.rp).wr (Reg.STG_STAT_ISO_ON i)
    (mask3 fun k => nth g.iso k)).wr (Reg.STG_STAT_STATE i) g.st

/-- Counters, gate voltages and fault words. -/
def LaneSt.copyCounts (L : LaneSt) (i : Nat) (g : StageSt) : LaneSt :=
  let low := min g.vboot.a (min g.vboot.b g.vboot.c)
  let L := (L.wr (Reg.STG_FAULT_LATCH i) g.latch.toNat).wr (Reg.STG_CNT_CLAMP_EVT i) g.clampEvt
  (((((L.wr (Reg.STG_CNT_STCMD i) g.stcmd).wr (Reg.STG_CNT_REARMS i) g.rearms).wr (Reg.STG_GATE_VGS_RP i) g.vgsRp).wr
    (Reg.STG_GATE_VGS_ISO i) g.vgsIso).wr (Reg.STG_GATE_VBOOT i) low)

/-- The arbiter's state as the lane shows it (R172). -/
def LaneSt.copyClm (L : LaneSt) (i : Nat) (g : StageSt) : LaneSt :=
  let L := ((L.wr (Reg.CLM_STG_HANDOVERS i) g.handovers).wr (Reg.CLM_STG_UNHEALTHY i)
    (mask3 fun k => nth g.unhealthy k)).wr (Reg.CLM_STG_OKCLAIM i) g.okMask
  (((L.put (Reg.CLM_STG_TIE i) g.tie).put (Reg.CLM_STG_NOCLAIM i) g.acc.isNone).put (Reg.CLM_STG_HOLD i) g.holdNow).wr
    (Reg.CLM_STG_ACCEPTED i) (match g.acc with
      | none => 0
      | some a => laneIx a + 1)

/-- Raise what the stage has latched or seen since the lane's last frame: 0x04hn (R274), 0x030n (R170), and 0x0505 for a
stage supply newly lost, unless it is the lane's own (R299). A failed copy of the stage's logic is 0x0C06 and removes the stage (R318). A
precharge or isolation fault of an assigned stage fails the step of R64 (R262). -/
def LaneSt.raiseStage (L : LaneSt) (l : Lane) (i : Nat) (g : StageSt) : LaneSt :=
  let seen := nth g.seen (laneIx l)
  let clm := nth g.clmSeen (laneIx l)
  let L := forN 8 (fun n L => L.raiseIf (clm.getLsbD n) (0x0300 + n) i) L
  let bad := nth g.badNow (laneIx l)
  let L := { L with meas := { L.meas with linkErr := updNth L.meas.linkErr i (· + if bad then 1 else 0) } }
  let L := L.raiseIf bad 0x0304 i
  let L := forN 16 (fun n L => L.raiseIf (seen.getLsbD n) (0x0400 + 16 * (4 + i) + n) i) L
  let was := nth L.meas.supLost i
  let L := { L with meas := { L.meas with supLost := setNth L.meas.supLost i g.supLost } }
  let L := if g.copyFail && !nth L.meas.copyFail i then (L.raise 0x0C06 i).removeStage i else L
  let L := { L with meas := { L.meas with copyFail := setNth L.meas.copyFail i g.copyFail } }
  let L := if L.arming && L.assigned i && (seen.getLsbD 11 || seen.getLsbD 12) then L.stepFailed 6 else L
  L.raiseIf (g.supLost && !was && i != laneIx l) 0x0505 i

/-- Consequence masks of stage `i` (R300): open while the stage is latched or de-energised, until READY; and while
its clamp is engaged. -/
def LaneSt.stageMasks (L : LaneSt) (i : Nat) (g : StageSt) : LaneSt :=
  let b := 2 + i
  let L := if g.latch ≠ 0 || g.supLost || g.supHigh then L.openMask b
    else if g.st = 3 ∧ L.on (shadowFld.bit b) ∧ !(L.fc.closing.any fun c => c.1 == b) then L.endMask b else L
  let c := 5 + i
  if g.clamp then L.openMask c
  else if L.on (shadowFld.bit c) ∧ !(L.fc.closing.any fun x => x.1 == c) then L.endMask c else L

/-! ## Currents (R181 to R186) -/

/-- What one leg of a frame gives: value and window mean, and the flags of MEAS_LEG_STAT. -/
structure LegRes where
  val : Option Int
  mean : Option Int
  cal : Option Int
  short : Bool
  sat : Bool
  off : Bool
  test : Bool
  line : Bool
  conv : Nat

/-- A leg whose result is used: measured, not saturated, no line fault, not under test (R182, R186, R188, R189). -/
def LegRes.good (r : LegRes) : Bool := r.val.isSome && !r.short && !r.sat && !r.test && !r.line

/-- The gain of converter `n` at the stage die temperature, 2^-30 (R190). -/
def LaneSt.gain (L : LaneSt) (n : Nat) (tj : Int) : Int :=
  match L.meas.cal[n]? with
  | some c => let dt := tj - 25; c.g0 + (c.g0 * (c.c1 * dt + c.c2 * dt * dt)).tdiv 0x40000000
  | none => 0x40000000

/-- Raw mean current over the window, before calibration, 2^-32 A (R181). -/
def rawMean (d : Int) (w : Nat) : Int := (160 * d * ampere).tdiv (256 * w : Nat)

/-- Curvature correction (R181): second difference of the window means times h^2 over 6 t^2. -/
def curvature (m0 m1 m2 : Int) (h t : Nat) : Int :=
  m0 - ((m0 - 2 * m1 + m2) * ((h * h : Nat) : Int)).tdiv ((6 * t * t : Nat) : Int)

/-- The procedure leg() of R181 for leg `k` of stage `i`. -/
def LaneSt.leg (L : LaneSt) (i k : Nat) (g : StageSt) : LegRes :=
  let w := nth g.w k
  let c := nth g.conv k
  let off := g.allOff
  let test := match g.test with
    | some x => legIx x == k
    | none => false
  let line := nth (nth L.meas.lineFault i) k
  match nth g.d k with
  | none => ⟨none, none, none, decide (w < L.rd Reg.MEAS_WIN_CFG_MIN_WIN), false, off, test, line, c⟩
  | some d =>
    if w = 0 ∨ w < L.rd Reg.MEAS_WIN_CFG_MIN_WIN then ⟨none, none, none, true, false, off, test, line, c⟩
    else
      let raw := rawMean d w
      let sat := decide (160 * 0x100000000 ≤ absN raw)
      let gr := (L.gain (6 * i + 2 * k + c) g.tj * clampI raw (-160 * ampere) (160 * ampere)).tdiv 0x40000000
      let mean := gr - L.rdS (Reg.MEAS_OFS_OFS i k c) * 0x10000
      let val := match L.on Reg.MEAS_WIN_CFG_CURV_EN, nth (nth L.meas.mean1 i) k, nth (nth L.meas.mean2 i) k with
        | true, some m1, some m2 => curvature mean m1 m2 (w / 2) g.per
        | _, _, _ => mean
      ⟨some val, if off || test || sat then none else some mean, some gr, false, sat, off, test, line, c⟩

/-- Currents and VALID, RECON flags of the three legs (R182): exactly one invalid leg is minus the sum of the others. -/
def reconstruct (r : Tri LegRes) : Tri (Option Int) × Tri Bool × Tri Bool :=
  let g := fun k => (nth r k).good
  let v := fun k => (nth r k).val
  let rec1 := fun (j k : Nat) => some (-((v j).getD 0 + (v k).getD 0))
  match g 0, g 1, g 2 with
  | true, true, true => (⟨v 0, v 1, v 2⟩, .all true, .all false)
  | false, true, true => (⟨rec1 1 2, v 1, v 2⟩, .all true, ⟨true, false, false⟩)
  | true, false, true => (⟨v 0, rec1 0 2, v 2⟩, .all true, ⟨false, true, false⟩)
  | true, true, false => (⟨v 0, v 1, rec1 0 1⟩, .all true, ⟨false, false, true⟩)
  | a, b, c => (⟨v 0, v 1, v 2⟩, ⟨a, b, c⟩, .all false)

/-- The 8 bits of MEAS_LEG_STAT for a leg. -/
def legBits (r : LegRes) (valid recon : Bool) : Nat :=
  let b := fun (x : Bool) (n : Nat) => if x then n else 0
  b valid 1 + b recon 2 + b r.short 4 + b r.sat 8 + b r.off 16 + b r.test 32 + b r.line 64 + (if r.conv = 1 then 128 else 0)

/-- Store one leg: MEAS_I in 2^-16 A truncated toward zero, MEAS_RAW, MEAS_WIN, MEAS_LEG_STAT. -/
def LaneSt.storeLeg (L : LaneSt) (i k : Nat) (g : StageSt) (r : LegRes) (cur : Option Int) (valid recon : Bool) : LaneSt :=
  let L := match cur with
    | some x => L.wrS (Reg.MEAS_I_I i k) (x.tdiv 0x10000)
    | none => L
  let L := match nth g.d k with
    | some d => L.wrS (Reg.MEAS_RAW_D i k) d
    | none => L
  ((L.wr (Reg.MEAS_WIN_CONV i k) r.conv).wr (Reg.MEAS_WIN_W i k) (nth g.w k)).wr (Reg.MEAS_LEG_STAT_LEG i k)
    (legBits r valid recon)

/-- The Kirchhoff check of R183: `checked` when all three legs are valid and measured in a period with switching. -/
def LaneSt.kirchhoff (L : LaneSt) (i : Nat) (checked : Bool) (sum : Int) : LaneSt :=
  let beyond := checked && decide ((L.rd Reg.MEAS_CFG_KIRCH_TOL * 0x100000000 : Nat) < absN sum * 1000)
  let L := L.put (Reg.MEAS_STAT_KIRCH.bit i) beyond
  if !checked then L
  else
    let n := if beyond then nth L.meas.kirchRun i + 1 else 0
    let hit := beyond && decide (L.rd Reg.MEAS_CFG_KIRCH_N ≤ n)
    let L := { L with meas := { L.meas with kirchRun := setNth L.meas.kirchRun i (if hit then 0 else n) } }
    if hit then (L.raise 0x0801 i).removeStage i else L

/-- A period without or with a valid stage result (R184). -/
def LaneSt.countNovalid (L : LaneSt) (i : Nat) (none_ : Bool) : LaneSt :=
  let n := if none_ && !nth L.meas.allOff i then nth L.meas.novalidRun i + 1 else 0
  let L := { (L.put (Reg.MEAS_STAT_NOVALID.bit i) none_) with
    meas := { L.meas with novalidRun := setNth L.meas.novalidRun i n } }
  if n = 8 then (L.raise 0x0807 i).removeStage i else L

/-- 0x0805 in the first period of a run of saturated results of a leg (R186). -/
def LaneSt.saturation (L : LaneSt) (i k : Nat) (sat : Bool) : LaneSt :=
  let was := nth (nth L.meas.satRun i) k
  let L := { L with meas := { L.meas with satRun := updNth L.meas.satRun i fun r => setNth r k sat } }
  L.raiseIf (sat && !was) 0x0805 i

/-- Move the window means on by one period (R181). -/
def LaneSt.shiftMeans (L : LaneSt) (i : Nat) (m : Tri (Option Int)) : LaneSt :=
  { L with meas := { L.meas with mean2 := setNth L.meas.mean2 i (nth L.meas.mean1 i), mean1 := setNth L.meas.mean1 i m } }

/-- Collect a result for the in-field offsets (R191): switches off, between 9 and 21 ms of the transition to ARM. -/
def LaneSt.collectOffset (L : LaneSt) (i k : Nat) (r : LegRes) : LaneSt :=
  match r.cal with
  | some x =>
    if L.arming && r.off && decide (L.sys.started + 9000000 ≤ L.time) && decide (L.time ≤ L.sys.started + 21000000) then
      let n := 6 * i + 2 * k + r.conv
      { L with meas := { L.meas with ofsWin := L.meas.ofsWin.modify n fun q => (x :: q).take 128 } }
    else L
  | none => L

/-- Keep the results of a period for the commutation engine (R228). -/
def LaneSt.pushRes (L : LaneSt) (i : Nat) (x : PerRes) : LaneSt :=
  { L with meas := { L.meas with res := updNth L.meas.res i fun q => (x :: q).take 4 } }

/-- Evaluate the legs of a valid frame (R181 to R186). -/
def LaneSt.evaluate (L : LaneSt) (i : Nat) (g : StageSt) (r : Tri LegRes) : LaneSt :=
  let (cur, valid, recon) := reconstruct r
  let L := { L with meas := { L.meas with 
    allOff := setNth L.meas.allOff i g.allOff } }
  let L := for3 (fun k L => ((L.storeLeg i k g (nth r k) (nth cur k) (nth valid k) (nth recon k)).saturation i k
    (nth r k).sat).collectOffset i k (nth r k)) L
  let all := valid.a && valid.b && valid.c
  let measured := all && !recon.a && !recon.b && !recon.c && !r.a.off
  let sum := cur.a.getD 0 + cur.b.getD 0 + cur.c.getD 0
  let L := ((L.kirchhoff i measured sum).countNovalid i !all).shiftMeans i ⟨r.a.mean, r.b.mean, r.c.mean⟩
  L.pushRes i { p := g.p, cur := ⟨L.rdS (Reg.MEAS_I_I i 0), L.rdS (Reg.MEAS_I_I i 1), L.rdS (Reg.MEAS_I_I i 2)⟩
                bad := !all, off := g.allOff, applied := g.cmd }

/-- After a return of its supply the lane presents its claims again once its own stage reports READY (R53). -/
def LaneSt.returnClaims (L : LaneSt) (l : Lane) (i : Nat) : LaneSt :=
  if L.pwr.returning && i == laneIx l && L.rd (Reg.STG_STAT_STATE i) == 3 then
    ({ L with pwr := { L.pwr with returning := false } } : LaneSt).refreshClaims l
  else L

/-- A valid status frame of stage index `i` (R174). -/
def LaneSt.takeStatus (L : LaneSt) (l : Lane) (i : Nat) (g : StageSt) : LaneSt :=
  let L := ((L.copyStat i g).copyCounts i g).copyClm i g
  let L := L.wr (Reg.STG_FAULT_SEEN i) (L.rd (Reg.STG_FAULT_SEEN i) ||| (nth g.seen (laneIx l)).toNat)
  let L := ((L.wr (Reg.MEAS_VDC_VDC i) g.vdc).put (Reg.MEAS_VDC_VALID i) true).put (Reg.MEAS_STAT_FRAME_LOST.bit i) false
  let L := { L with meas := { L.meas with
    lost := setNth L.meas.lost i 0
    refresh := updNth L.meas.refresh i fun n => n + mask3 (fun k => nth g.pulse k) % 2 + (mask3 (fun k => nth g.pulse k) / 2) % 2 +
      mask3 (fun k => nth g.pulse k) / 4 } }
  let L := (L.raiseStage l i g).stageMasks i g
  let L := L.evaluate i g ⟨L.leg i 0 g, L.leg i 1 g, L.leg i 2 g⟩
  L.refreshService.returnClaims l i

/-- No valid frame in a period (R175): the results are kept once, with what they say of a valid result (R184); from the second period on
every leg is invalid. The period has no window mean of its own (log entry 112). -/
def LaneSt.missStatus (L : LaneSt) (i : Nat) : LaneSt :=
  let n := nth L.meas.lost i + 1
  let L := { L with meas := { L.meas with
    lost := setNth L.meas.lost i n, linkErr := updNth L.meas.linkErr i (· + 1) } }
  let L := ((L.put (Reg.MEAS_STAT_FRAME_LOST.bit i) true).put (Reg.MEAS_VDC_VALID i) false).shiftMeans i (.all none)
  let L := if 2 ≤ n then
      (for3 (fun k L => L.put ((Reg.MEAS_LEG_STAT_LEG i k).bit 0) false) L).countNovalid i true
    else L.countNovalid i (L.on (Reg.MEAS_STAT_NOVALID.bit i))
  let x := (nth L.meas.res i).headD .reset
  L.pushRes i { x with p := x.p + 1, bad := x.bad || decide (2 ≤ n) }

/-- STATUS_FRAME (R174, R175): `valid` tells whether the lane received the frame. What the stage had to report to this
lane is then reported. -/
def execStatusFrame (l : Lane) (g : Stg) (valid : Bool) (s : State) : Out :=
  if (s.lane l).up then
    let i := stgIx g
    let S := s.stage g
    if valid && S.st != 0 then
      let s := s.updLane l fun L => L.takeStatus l i S
      .next (s.updStage g fun g => { g with
        seen := setNth g.seen (laneIx l) 0, clmSeen := setNth g.clmSeen (laneIx l) 0
        badNow := setNth g.badNow (laneIx l) false })
    else .next (s.updLane l fun L => L.missStatus i)
  else .next s

/-- WINDOW_CLOSE (R181): the converter of leg `k` sends its raw result `d`. A leg without a window has none (R176). -/
def execWindowClose (g : Stg) (k : Leg) (d : Int) (s : State) : Out :=
  .next (s.updStage g fun g =>
    if g.st ≠ 0 ∧ nth g.w (legIx k) ≠ 0 then { g with d := setNth g.d (legIx k) (some (satS 32 d)) } else g)

/-! ## Open-wire tests (R187 to R189) -/

/-- Segment codes of MEAS_OW_STAT. -/
abbrev segGood : Nat := 1
abbrev segOpen : Nat := 2
abbrev segShort : Nat := 3

/-- classify() of R188, for `ua` microamperes and microvolts: EXT and INT. 50 ohm is 100 x `ua` microvolts between
the steps. -/
def classify (ua : Int) (pinP pinN inP inN : Int) : Nat × Nat :=
  if 1000000 < absN (inP + inN) then (segShort, segShort)
  else
    let dExt := pinP - pinN
    let dInt := (inP - inN) - dExt
    (if 100 * ua < dExt then segOpen else segGood, if 100 * ua < dInt then segOpen else segGood)

/-- Enter the segments of line `n` (0 P, 1 N) of a leg, and their faults (R189). -/
def LaneSt.setLine (L : LaneSt) (i k n : Nat) (x : Nat × Nat) : LaneSt :=
  let L := (L.wr (Reg.MEAS_OW_STAT_SEG i (4 * k + 2 * n)) x.1).wr (Reg.MEAS_OW_STAT_SEG i (4 * k + 2 * n + 1)) x.2
  let L := L.raiseIf (x.1 == segOpen || x.2 == segOpen) 0x0802 i
  L.raiseIf (x.1 == segShort || x.2 == segShort) 0x0803 i

/-- Legs of a stage with LINEFAULT. -/
def LaneSt.badLegs (L : LaneSt) (i : Nat) : Nat :=
  let f := nth L.meas.lineFault i
  (if f.a then 1 else 0) + (if f.b then 1 else 0) + (if f.c then 1 else 0)

/-- Give leg `k` LINEFAULT; a second leg of the stage raises 0x0804 and removes the stage (R189). -/
def LaneSt.lineBad (L : LaneSt) (i k : Nat) : LaneSt :=
  if nth (nth L.meas.lineFault i) k then L
  else
    let L := { L with meas := { L.meas with lineFault := updNth L.meas.lineFault i fun r => setNth r k true } }
    if L.badLegs i = 2 then (L.raise 0x0804 i).removeStage i else L

/-- The four segment codes of a leg after the ARM test: classify() for both lines, then pair() (R187, R188). -/
def armLeg (m : OwLeg) : (Nat × Nat) × (Nat × Nat) :=
  let p := classify 100 m.p.pinPos m.p.pinNeg m.p.inPos m.p.inNeg
  let n := classify 100 m.n.pinPos m.n.pinNeg m.n.inPos m.n.inNeg
  if p = (segGood, segGood) ∧ n = (segGood, segGood) ∧ m.vdm < 5 then ((segShort, segGood), (segShort, segGood)) else (p, n)

/-- The four segments of a leg are GOOD. -/
def legGood (x : (Nat × Nat) × (Nat × Nat)) : Bool := x.1 == (segGood, segGood) && x.2 == (segGood, segGood)

/-- Enter the ARM test of a stage, all legs together: only here LINEFAULT clears; two legs with it remove the stage (R189). -/
def LaneSt.armTestStage (L : LaneSt) (i : Nat) (m : Tri OwLeg) : LaneSt :=
  let r := fun k => armLeg (nth m k)
  let L : LaneSt := for3 (fun k L => (L.setLine i k 0 (r k).1).setLine i k 1 (r k).2) L
  let L := { L with meas := { L.meas with
    lineFault := setNth L.meas.lineFault i ⟨!legGood (r 0), !legGood (r 1), !legGood (r 2)⟩ } }
  if 2 ≤ L.badLegs i then (L.raise 0x0804 i).removeStage i else L

/-- OPEN_WIRE_TEST_COMPLETE (R187): every assigned stage is classified; a stage with two bad legs fails the step with
block MEAS. -/
def execOpenWireTestComplete (l : Lane) (m : Tri (Tri OwLeg)) (t : Nat) (s : State) : Out :=
  onLane l t s fun L =>
    if L.arming then
      let L := for3 (fun i L => if L.assigned i then L.armTestStage i (nth m i) else L) L
      if [0, 1, 2].any (fun i => L.assigned i && decide (2 ≤ L.badLegs i)) then L.stepFailed 3 else L.armStep 2
    else L

/-- End the test cycle of stage `i` (R188). -/
def LaneSt.closeCycle (L : LaneSt) (i : Nat) : LaneSt :=
  let c := nth L.meas.ow i
  if c.start.isNone then L
  else
    let bad := c.missed || decide (c.step < 12)
    let n := if bad then c.incomplete + 1 else 0
    let L := { L with meas := { L.meas with ow := setNth L.meas.ow i { OwCycle.reset with incomplete := n } } }
    let L := if bad then L else L.inc Reg.MEAS_OW_CNT_CYCLES
    (L.put (Reg.MEAS_OW_CNT_OVERDUE.bit i) (decide (2 ≤ n))).raiseIf (n == 2) 0x0808 i

/-- OPEN_WIRE_CYCLE_START (R188): at every whole second of global time in DRIVE. -/
def execOpenWireCycleStart (l : Lane) (t : Nat) (s : State) : Out :=
  onLane l t s fun L =>
    if L.st = stDrive ∧ t % 1000000000 = 0 then
      for3 (fun i L =>
        let L := L.closeCycle i
        { L with meas := { L.meas with ow := updNth L.meas.ow i fun c => { c with start := some t } } }) L
    else L

/-- Skip the steps whose 50 ms have passed (R188). -/
def OwCycle.skipTo (c : OwCycle) (j : Nat) : OwCycle :=
  if c.step < j then { c with step := j, missed := true, plus := none } else c

/-- A step may run in this period (R188): the other two legs valid and no leg reconstructed, the stage not all-off, no
handover in the last two periods. -/
def LaneSt.stepAllowed (L : LaneSt) (i k : Nat) (since : Nat) : Bool :=
  let b := fun (j n : Nat) => L.on ((Reg.MEAS_LEG_STAT_LEG i j).bit n)
  b ((k + 1) % 3) 0 && b ((k + 2) % 3) 0 && !b 0 1 && !b 1 1 && !b 2 1 && !nth L.meas.allOff i && decide (2 < since)

/-- Run step `j` of the cycle of stage `i`: steps P+, P-, N+, N- for each leg. -/
def LaneSt.runStep (L : LaneSt) (i j : Nat) (m : LineMeas) : LaneSt :=
  let k := j / 4
  let c := nth L.meas.ow i
  let put := fun (c : OwCycle) (L : LaneSt) => { L with meas := { L.meas with ow := setNth L.meas.ow i c } }
  if j % 2 = 0 then put { c with step := j + 1, plus := some (m.pinPos, m.inPos) } L
  else
    let L := put { c with step := j + 1, plus := none } L
    match c.plus with
    | none => L
    | some (pinP, inP) =>
      let x := classify 10 pinP m.pinNeg inP m.inNeg
      let L := L.setLine i k ((j / 2) % 2) x
      if x = (segGood, segGood) then L else L.lineBad i k

/-- Step of the test cycle due at `t` in stage `i`. -/
def LaneSt.owStep (L : LaneSt) (i since : Nat) (m : LineMeas) (t : Nat) : LaneSt :=
  match (nth L.meas.ow i).start with
  | none => L
  | some t0 =>
    let j := (t - t0) / 50000000
    let L := { L with meas := { L.meas with ow := updNth L.meas.ow i fun c => c.skipTo (min j 12) } }
    let L := if (nth L.meas.ow i).step = j ∧ j < 12 ∧ L.stepAllowed i (j / 4) since then L.runStep i j m else L
    if 12 ≤ (nth L.meas.ow i).step then L.closeCycle i else L

/-- The leg that step `t` of the cycle of stage `i` would test now, if the step may run. -/
def LaneSt.owLeg (L : LaneSt) (i since t : Nat) : Option Leg :=
  match (nth L.meas.ow i).start with
  | none => none
  | some t0 =>
    let j := (t - t0) / 50000000
    if ((nth L.meas.ow i).skipTo (min j 12)).step = j ∧ j < 12 ∧ L.stepAllowed i (j / 4) since then
      some (if j / 4 = 0 then .U else if j / 4 = 1 then .V else .W)
    else none

/-- OPEN_WIRE_STEP (R188): the step due, or the skip of one not run within 50 ms. The stage's results of the period then carry TEST for
the leg, to every lane. -/
def execOpenWireStep (l : Lane) (g : Stg) (m : LineMeas) (t : Nat) (s : State) : Out :=
  let L := s.lane l
  let i := stgIx g
  let since := (s.stage g).since
  if L.up && L.st == stDrive then
    let s := s.updLane l fun L => (L.tick t).owStep i since m t
    match L.owLeg i since t with
    | some k => .next (s.updStage g fun g => { g with test := some k })
    | none => .next s
  else .next (s.updLane l fun L => if L.up then L.tick t else L)

/-! ## In-field offsets (R191) -/

/-- Mean of the windows received for converter `n`, 2^-16 A; none with fewer than 64. -/
def LaneSt.offsetOf (L : LaneSt) (n : Nat) : Option Int :=
  let q := L.meas.ofsWin.getD n []
  if q.length < 64 then none else some ((q.foldl (· + ·) 0).tdiv ((q.length : Int) * 0x10000))

/-- Beyond 200 mA; differing by more than 10 mA from the stored offset. -/
def ofsBeyond (x : Int) : Bool := decide (200 * 65536 < absN x * 1000)
def ofsMoved (x y : Int) : Bool := decide (10 * 65536 < absN (x - y) * 1000)

/-- Store the offsets of stage `i`, if every converter has one. -/
def LaneSt.storeOffsets (L : LaneSt) (i : Nat) : LaneSt :=
  let ns := [0, 1, 2, 3, 4, 5]
  let xs := ns.map fun j => L.offsetOf (6 * i + j)
  let done := xs.all Option.isSome
  let L := ns.foldl (fun L j => match L.offsetOf (6 * i + j) with
    | some x => L.wrS (Reg.MEAS_OFS_OFS i (j / 2) (j % 2)) (satS 16 x)
    | none => L) L
  let far := xs.any fun x => (x.map ofsBeyond).getD false
  let L := (L.put (Reg.MEAS_CAL_STAT_INFIELD_DONE.bit i) done).put (Reg.MEAS_CAL_STAT_OFS_LIMIT.bit i) far
  L.raiseIf far 0x0806 i

/-- The Shepherd writes the offsets to the learned-calibration region; a Tally entry 0x0008 when one moved by more than
10 mA. -/
def LaneSt.saveOffsets (L : LaneSt) (l : Lane) : LaneSt :=
  let now := (List.range 18).map fun n => L.rdS (Reg.MEAS_OFS_OFS (n / 6) (n / 2 % 3) (n % 2))
  let moved := (List.range 18).any fun n => ofsMoved (now.getD n 0) (L.nvm.ofs.getD n 0)
  let L := if moved then L.tally l 0x0008 else L
  L.updCal fun n => { n with ofs := now }

/-- OFFSET_CALIBRATION_COMPLETE (R191): a missing offset or one beyond ±200 mA fails the step with block MEAS. -/
def execOffsetCalibrationComplete (l : Lane) (t : Nat) (s : State) : Out :=
  onLane l t s fun L =>
    if L.arming then
      let L := for3 (fun i L => if L.assigned i then L.storeOffsets i else L) L
      let L := L.saveOffsets l
      let bad := [0, 1, 2].any fun i => L.assigned i &&
        (!L.on (Reg.MEAS_CAL_STAT_INFIELD_DONE.bit i) || L.on (Reg.MEAS_CAL_STAT_OFS_LIMIT.bit i))
      if bad then L.stepFailed 3 else L.armStep 3
    else L

/-! ## General-purpose inputs (R193, R194) -/

/-- Range of each input in units of MEAS_GP.VALUE (R193). -/
def gpRange (n : Nat) : Nat :=
  [8000, 8000, 8000, 6000, 1920, 4000, 1720, 12000, 12000, 12000, 8000, 20000, 20000, 40000, 20000, 20000].getD n 0

/-- Nominal value of a reference input: REFHI, REFLO, ZERO and VREF2, whose value the spec does not state. -/
def gpNominal (n : Nat) : Option Int :=
  match n with
  | 11 => some 15000
  | 12 => some 5000
  | 13 => some 0
  | 14 => some Config.vref2
  | _ => none

/-- A reference read outside 0.5 % of its nominal value; for ZERO, of its range (log entry 12). -/
def gpOff (n : Nat) (v : Int) : Bool :=
  match gpNominal n with
  | none => false
  | some x => decide (absN (if n = 13 then 40000 else x) < absN (v - x) * 200)

/-- Converter `c` (0 G0, 1 G1) has failed its reference check (R194). -/
def LaneSt.gpOut (L : LaneSt) (c : Nat) : Bool := if c = 0 then L.meas.g0Bad else L.meas.g1Bad

/-- The input that converter `c` (0 G0, 1 G1) converts in the lane's slot `n` (R193); when the other converter is out,
every input in alternate slots (R194). None: no conversion, as of a converter that is out or in a slot of partition 3. -/
def LaneSt.gpInput (L : LaneSt) (c : Nat) : Option Nat :=
  let n := L.meas.slot
  if L.gpOut c || L.chn.sliced == some (n, 3) then none
  else if L.gpOut (1 - c) then (if n % 2 = 0 then some (n / 2 % 16) else none)
  else some ((n + 8 * c) % 16)

/-- Keep a conversion, compare G1 with G0 (R194). -/
def LaneSt.gpStore (L : LaneSt) (c n : Nat) (v : Int) : LaneSt :=
  if c = 0 then { L with meas := { L.meas with g0 := L.meas.g0.set n (some v) } }
  else
    let L := { L with meas := { L.meas with g1 := L.meas.g1.set n (some v) } }
    match L.meas.g0.getD n none with
    | none => L
    | some x =>
      let d := decide (gpRange n < absN (v - x) * 500)
      let k := if d then L.meas.diffs.getD n 0 + 1 else 0
      let L := { L with meas := { L.meas with diffs := L.meas.diffs.set n k } }
      (L.put (Reg.MEAS_GP_MISMATCH n) (decide (2 ≤ k))).raiseIf (k == 2) 0x080B

/-- The reference check (R194): a converter that fails it converts no more, and its values are invalid, those in MEAS_GP too. -/
def LaneSt.gpCheck (L : LaneSt) (c n : Nat) (v : Int) : LaneSt :=
  if gpOff n v then
    let L := { L with meas := { L.meas with
      g0Bad := L.meas.g0Bad || c == 0, g1Bad := L.meas.g1Bad || c != 0
      g0 := if c = 0 then List.replicate 16 none else L.meas.g0 } }
    let L := forN 16 (fun k L => if L.meas.byG1.getD k false == (c != 0) then L.put (Reg.MEAS_GP_VALID k) false else L) L
    L.raise 0x080C
  else L

/-- NTC_x: above 500 kilohm open, below 50 ohm shorted (R41). -/
def LaneSt.gpNtc (L : LaneSt) (ohm : Nat) : LaneSt :=
  let bad := decide (500000 < ohm) || decide (ohm < 50)
  let was := L.meas.ntcBad
  ({ L with meas := { L.meas with ntcBad := bad } }).raiseIf (bad && !was) 0x0E07

/-- 16 fraction bits of the binary logarithm of `m`, which stands for m / 2^30 in 1 to 2. -/
def log2Frac (m : Nat) : Nat :=
  ((List.range 16).foldl (fun (x : Nat × Nat) _ =>
    let q := x.1 * x.1 / 0x40000000
    if 0x80000000 ≤ q then (q / 2, 2 * x.2 + 1) else (q, 2 * x.2)) (m, 0)).2

/-- The natural logarithm of a resistance over 10 kilohm, 2^-16. -/
def lnRatio (ohm : Nat) : Int :=
  let lg := fun (n : Nat) => (Nat.log2 n * 0x10000 + log2Frac (n * 0x40000000 / 2 ^ Nat.log2 n) : Nat)
  (((lg ohm : Int) - lg 10000) * 45426).tdiv 65536

/-- The temperature of an NTC of 10 kilohm at 25 degrees C with B constant `b`, in 0.125 degrees C (R41, log entry 102). -/
def ntcTemp (b ohm : Nat) : Int :=
  let x := lnRatio (max 1 (min ohm 1000000))
  let den : Int := 100 * b * 65536 + 29815 * x
  (10 * (8 * 29815 * b * 65536) - 21852 * den).tdiv (10 * den)

/-- A conversion of input `n`; the reading of the thermistor is its temperature (R41). -/
def LaneSt.gpTake (L : LaneSt) (c n : Nat) (v : Int) (ohm : Nat) : LaneSt :=
  let v := if n = 4 then ntcTemp L.com.motor.beta ohm else v
  let L := (L.gpStore c n v).gpCheck c n v
  let L := { L with meas := { L.meas with byG1 := L.meas.byG1.set n (c != 0) } }
  let L := (L.wrS (Reg.MEAS_GP_VALUE n) (satS 16 v)).put (Reg.MEAS_GP_VALID n) !L.gpOut c
  if n = 4 then L.gpNtc ohm
  else if n = 6 then L.wrS Reg.SYS_BIAS_TJ (satS 16 v)
  else L

/-- GP_CONVERSION_COMPLETE (R193): converter 0 (G0) or 1 (G1) reads `v`, in the unit of the slot's input; `ohm` is the
resistance at NTC_x when that is the input. -/
def execGpConversionComplete (l : Lane) (conv : Nat) (v : Int) (ohm t : Nat) (s : State) : Out :=
  onLane l t s fun L =>
    if conv < 2 then
      match L.gpInput conv with
      | some n => L.gpTake conv n v ohm
      | none => L
    else L

end Sys2Proof.Machine
end

