-- ==== Sys2Proof/Machine/Churn.lean ====
section
/-! DEFINITION. Online logic self-test, Churn (13). A slice is one event, at its end; its lane is `active` from the start of
slot 2 (R151). -/
namespace Sys2Proof.Machine

/-- Change the Churn controller. -/
def LaneSt.updChn (L : LaneSt) (f : ChnSt → ChnSt) : LaneSt := { L with chn := f L.chn }

/-- Slices per cycle of partition `p` (R312); a takeover adds 20 to partition 7 (R318). -/
def churnSlices (p : Nat) : Nat := [620, 240, 120, 60, 80, 110, 50, 20].getD p 0

/-- Segments of partition `p` in this lane's table. -/
def LaneSt.segments (L : LaneSt) (p : Nat) : Nat :=
  churnSlices p + (if p = 7 && L.on Reg.CHN_STAT_TAKEOVER then 20 else 0)

/-- Why the lane forgoes its turn, as CHN_LAST.REASON; 0 when CHURN_READY is set (R314). -/
def LaneSt.churnWhy (L : LaneSt) (n : Nat) : Nat :=
  if !L.on Reg.CHN_CFG_EN then 1
  else if L.mode = 1 then 7
  else if L.mode ≠ 0 then 4
  else if L.core.debug then 5
  else if L.chn.aborted = some n then 3
  else 0

/-- CHURN_READY in basic cycle `n` (R313, R314). -/
def LaneSt.churnReady (L : LaneSt) (n : Nat) : Bool := L.churnWhy n == 0

/-- The lane forgoes its turn (R313, R322). -/
def LaneSt.forgo (L : LaneSt) (why : Nat) : LaneSt :=
  let L := ((L.wr Reg.CHN_LAST_RESULT 5).wr Reg.CHN_LAST_REASON why).wr Reg.CHN_LAST_DURATION 0
  L.incSat Reg.CHN_RETRY_FORGONE

/-! ## The save of a slice (R77, R315) -/

/-- Entries saved in a slice of partition `p`. -/
def LaneSt.churnEntries (L : LaneSt) (p : Nat) : List Nat :=
  (List.range 512).filter fun n =>
    L.retUsed n && retChurn (L.retEntry n) && retPartition (L.retEntry n) == p && retDomain (L.retEntry n) != 0

/-- Registers 0 to 31 of a file. -/
def file32 (m : Cells Word) : List Word := (List.range 32).map (cellGet (fun _ => 0#32) m)

/-- fcsr of a core. -/
def Hart.fcsr (h : Hart) : Word := cellGet (fun _ => 0#32) h.csr 3

/-- The machine CSRs that software writes, in ascending number, beside fcsr. -/
def Hart.machineCsrs (h : Hart) : List Word := (h.csr.filter fun e => decide (0x300 ≤ e.1)).map (·.2)

/-- The architectural state that the save covers, in the order of the slice CRC (R315). -/
def LaneSt.archWords (L : LaneSt) (p : Nat) : List Word :=
  match p with
  | 0 => file32 L.core.cpu.x ++ file32 L.core.cpu.f ++ [L.core.cpu.fcsr, L.core.cpu.pc] ++ L.core.cpu.machineCsrs
  | 1 => file32 L.core.shep.x ++ [L.core.shep.pc] ++ L.core.shep.machineCsrs
  | _ => []

/-- The save engine's work: the entries to their slots, the lead's state from 0x2800_F800 on, or the Shepherd's into the reserved area of
its SRAM (log entry 90), and the slice CRC. -/
def LaneSt.sliceSave (L : LaneSt) (p : Nat) : LaneSt :=
  let es := L.churnEntries p
  let vals := es.map fun n => L.reg (retAddr (L.retEntry n))
  let L := (es.zip vals).foldl (fun M e => M.setWord (0x2800F000 + 4 * e.1) e.2) L
  let arch := L.archWords p
  let L := match p with
    | 0 => L.setWords 0x2800F800 (arch.take 128)
    | 1 => { L with shepMem := ({ L with mem := L.shepMem }.setWords 0x2003FE00 (arch.take 128)).mem }
    | _ => L
  L.setReg 0x400D0018 (crc32c (bytesOf (vals ++ arch)))

/-! ## The result (R316, R319 to R322) -/

/-- Segments passed in the current cycle. -/
def popCount (n : Nat) : Nat := ((List.range 640).filter fun i => n.testBit i).length

/-- A cycle has passed every segment: count it and start the next one (R322). -/
def LaneSt.cycleDone (L : LaneSt) (total : Nat) : LaneSt :=
  let n := (L.chn.passed.map popCount).foldl (· + ·) 0
  let L := L.wr Reg.CHN_STAT_SLICES n
  if n < total then L
  else
    let L := (L.inc Reg.CHN_CYCLE_CYCLES).wr Reg.CHN_CYCLE_LAST_MS (min ((L.time - L.chn.since) / 1000000) 0xFFFF)
    let L := ((L.wr Reg.CHN_STAT_SLICES 0).put Reg.CHN_STAT_OVERDUE false).wr Reg.CHN_RETRY_FORGONE 0
    L.updChn fun c => { c with passed := List.replicate 8 0, missed := List.replicate 8 0, since := L.time }

/-- Segments in a cycle of this lane. -/
def LaneSt.cycleTotal (L : LaneSt) : Nat := 1300 + (if L.on Reg.CHN_STAT_TAKEOVER then 20 else 0)

/-- A segment passed. -/
def LaneSt.segPass (L : LaneSt) (p seg : Nat) : LaneSt :=
  let L := L.updChn fun c => { c with
    passed := c.passed.set p (c.passed.getD p 0 ||| 2 ^ seg)
    done2 := c.done2 + (if p = 2 then 1 else 0), done3 := c.done3 + (if p = 3 then 1 else 0)
    copyOwn := c.copyOwn + (if p = 7 && decide (seg < 20) then 1 else 0)
    copyTk := c.copyTk + (if p = 7 && decide (20 ≤ seg) then 1 else 0) }
  (L.wr Reg.CHN_LAST_RESULT 1).cycleDone L.cycleTotal

/-- The stage whose copies segment `seg` of partition 7 tests. -/
def LaneSt.copyStage (L : LaneSt) (l : Lane) (seg : Nat) : Nat :=
  if seg < 20 then laneIx l else L.rd Reg.CHN_STAT_TK_STAGE

/-- A signature differs, or a slice ended without scan: a retry the first time, a failure the second (R319, R321). -/
def LaneSt.segMiss (L : LaneSt) (l : Lane) (p seg : Nat) : LaneSt :=
  if (L.chn.missed.getD p 0).testBit seg then
    let L := L.wr Reg.CHN_LAST_RESULT 3
    if p = 7 then L.copyFailed (L.copyStage l seg) else L.raise 0x0C02 p
  else
    let L := (L.wr Reg.CHN_LAST_RESULT 2).incSat Reg.CHN_RETRY_RETRIES
    L.updChn fun c => { c with missed := c.missed.set p (c.missed.getD p 0 ||| 2 ^ seg) }

/-- Key reload after a slice of partition 6 (R320). -/
def LaneSt.keyReload (L : LaneSt) (zeroOk keyOk : Bool) : LaneSt :=
  let L := ((L.put Reg.CHN_KEY_ZERO_OK zeroOk).put Reg.CHN_KEY_RELOAD_OK keyOk).inc Reg.CHN_KEY_RELOADS
  L.raiseIf (!keyOk) 0x0B06

/-- Lamb's registers as the restore sets them: the complement of every restored lead value (R315). -/
def Hart.relock (h : Hart) : Hart :=
  let inv := fun (m : Cells Word) => m.map fun e => (e.1, ~~~e.2)
  { h with npc := ~~~h.pc, nx := inv h.x, nf := inv h.f, ncsr := inv h.csr }

/-- The restore at the end of a slice of partition `p` (R315). -/
def LaneSt.sliceRestore (L : LaneSt) (p : Nat) : LaneSt :=
  if p = 0 then { L with core := { L.core with cpu := L.core.cpu.relock } } else L

/-- Restore CRC, key reload and signature, in the order of R315. A failed restore or reload is no pass whatever the
signature (R316). -/
def LaneSt.sliceEnd (L : LaneSt) (l : Lane) (p seg : Nat) (zeroOk sigOk crcOk keyOk : Bool) : LaneSt :=
  let scanned := p != 6 || zeroOk
  let sig := !scanned || !sigOk
  let L := L.wr Reg.CHN_LAST_REASON (if scanned then 0 else 6)
  let L := (if sig then L.segMiss l p seg else L).sliceRestore p
  let L := L.raiseIf (!crcOk) 0x0C05 p
  let L := if p = 6 then L.keyReload zeroOk keyOk else L
  if sig then L
  else if crcOk && (p != 6 || keyOk) then L.segPass p seg
  else L.wr Reg.CHN_LAST_RESULT 3

/-- The lane may run the slice: its turn, CHECKED, no PARK save or handshake under way (R313, R316), the segment not yet passed in the
cycle (R312). -/
def LaneSt.mayScan (L : LaneSt) (l : Lane) (p seg : Nat) : Bool :=
  L.up && L.chn.active && L.agr.token == laneIx l + 1 && L.mode == 0 && !L.core.debug && !(L.rd Reg.SYS_STATE_PHASE == 1 && L.rd Reg.SYS_STATE_TARGET == stPark) &&
  decide (p < 8) && decide (seg < L.segments p) && !(L.chn.passed.getD p 0).testBit seg

/-- A slice that FOLD ends (R77, R316): the restore, and the key reload, run at once. -/
def LaneSt.sliceFold (L : LaneSt) (p : Nat) (zeroOk crcOk keyOk : Bool) : LaneSt :=
  let L := ((L.wr Reg.CHN_LAST_RESULT 4).wr Reg.CHN_LAST_REASON 3).sliceRestore p
  let L := L.raiseIf (!crcOk) 0x0C05 p
  let L := if p = 6 then L.keyReload zeroOk keyOk else L
  L.updChn fun c => { c with aborted := some (L.meas.slot / 5) }

/-- CHURN_SLICE (R315): `dur` is the slice's length in ns, at most 40 µs; `fold` says that FOLD arrived during it. -/
def execChurnSlice (l : Lane) (part seg : Nat) (zeroOk sigOk crcOk keyOk : Bool) (dur : Nat) (fold : Bool) (s : State) :
    Out :=
  let L := s.lane l
  if L.mayScan l part seg && decide (dur ≤ 40000) then
    let s := s.updLane l fun L =>
      let L := L.sliceSave part
      let L := ((L.wr Reg.CHN_LAST_PARTITION part).wr Reg.CHN_LAST_SEGMENT seg).wr Reg.CHN_LAST_DURATION (min (dur / 10) 0xFFF)
      let L := L.updChn fun c => { c with active := false, sliced := some (L.meas.slot, part) }
      if fold then L.sliceFold part zeroOk crcOk keyOk else L.sliceEnd l part seg zeroOk sigOk crcOk keyOk
    .next (if part = 7 then s.noteCopies l (2 ^ L.copyStage l seg) else s)
  else .next s

/-- ZEROISE_TIMEOUT (R319): ZEROISED not set within 1 µs: the slice ends without scan. -/
def execZeroiseTimeout (l : Lane) (seg us : Nat) (s : State) : Out :=
  .next (s.updLane l fun L =>
    if L.mayScan l 6 seg ∧ 1 ≤ us then
      let L := ((L.sliceSave 6).wr Reg.CHN_LAST_PARTITION 6).wr Reg.CHN_LAST_SEGMENT seg
      let L := L.updChn fun c => { c with active := false, sliced := some (L.meas.slot, 6) }
      L.sliceEnd l 6 seg false true true true
    else L)

/-- CHURN_COVERAGE_OVERDUE (R322): once per cycle, 1.0 s after its start. -/
def execChurnCoverageOverdue (l : Lane) (t : Nat) (s : State) : Out :=
  onLane l t s fun L =>
    if L.chn.since + 1000000000 ≤ t ∧ !L.on Reg.CHN_STAT_OVERDUE then (L.put Reg.CHN_STAT_OVERDUE true).raise 0x0C03 else L

/-! ## Spare units and stage copies (R317, R318) -/

/-- SPARE_UNIT_HANDOVER (R317): the spare of partition 2 or 3 that has passed all of its segments takes over, if its outputs are
equal. -/
def execSpareUnitHandover (l : Lane) (part : Nat) (equal : Bool) (s : State) : Out :=
  onLaneNow l s fun L =>
    if part = 2 ∧ 30 ≤ L.chn.done2 then
      let L' := L.updChn fun c => { c with done2 := 0 }
      if equal then
        let i := L.chn.next2
        (L'.wr Reg.CHN_UNITS_COM_SPARE (nth L.chn.units2 i)).updChn fun c =>
          { c with units2 := setNth c.units2 i (L.rd Reg.CHN_UNITS_COM_SPARE), next2 := (i + 1) % 3 }
      else L'.raise 0x0C02 2
    else if part = 3 ∧ 15 ≤ L.chn.done3 then
      let L' := L.updChn fun c => { c with done3 := 0 }
      if equal then
        let i := L.chn.next3
        (L'.wr Reg.CHN_UNITS_SEQ_SPARE (nth L.chn.units3 i)).updChn fun c =>
          { c with units3 := setNth c.units3 i (L.rd Reg.CHN_UNITS_SEQ_SPARE), next3 := (i + 1) % 3 }
      else L'.raise 0x0C02 3
    else L

/-- The lane tests the idle copy of stage `i`: its own, or the one it has taken over. -/
def LaneSt.testsCopy (L : LaneSt) (l : Lane) (i : Nat) : Bool :=
  (i == laneIx l && decide (10 ≤ L.chn.copyOwn)) ||
  (i != laneIx l && L.on Reg.CHN_STAT_TAKEOVER && L.rd Reg.CHN_STAT_TK_STAGE == i && decide (10 ≤ L.chn.copyTk))

/-- STAGE_COPY_SWAP (R318): after 8 equal periods of a copy that has passed its segments the roles swap. Outputs that differ, in any
period, fail the copy. -/
def execStageCopySwap (l : Lane) (g : Stg) (equal : Bool) (s : State) : Out :=
  let i := stgIx g
  let L := s.lane l
  let fresh := fun (L : LaneSt) => L.updChn fun c => if i = laneIx l then { c with copyOwn := 0 } else { c with copyTk := 0 }
  if !L.up then .next s
  else if equal then
    if L.testsCopy l i then
      let q := !(s.stage g).copyQ
      let s := s.updLane l fun L => if i = laneIx l then (fresh L).put Reg.CHN_UNITS_STG_ACTIVE q else fresh L
      .next (s.updStage g fun g => { g with copyQ := q })
    else .next s
  else if L.testsStage l i then .next ((s.updLane l fun L => (fresh L).copyFailed i).noteCopies l (2 ^ i))
  else .next s

/-- The matrix claim of lane index `i` on stage `s`. -/
def LaneSt.claimOf (L : LaneSt) (s i : Nat) : Nat := L.rd (matrixFld s i)

/-- Lane index `i` votes. -/
def LaneSt.votes (L : LaneSt) (i : Nat) : Bool := L.on (Reg.SYS_STATE_VOTING.bit i)

/-- The lane has the highest matrix claim on stage `s` among the voting lanes. -/
def LaneSt.heirOf (L : LaneSt) (l : Lane) (s : Nat) : Bool :=
  L.votes (laneIx l) && !L.votes s && decide (0 < L.claimOf s (laneIx l)) &&
  [0, 1, 2].all fun i => i == laneIx l || !L.votes i || decide (L.claimOf s i < L.claimOf s (laneIx l))

/-- Take over, or give back, the test of a stage whose lane does not vote (R318); a stage given back leaves the cycle. -/
def LaneSt.takeover (L : LaneSt) (l : Lane) : LaneSt :=
  match [0, 1, 2].find? fun s => s != laneIx l && L.heirOf l s with
  | some s =>
    if L.on Reg.CHN_STAT_TAKEOVER && L.rd Reg.CHN_STAT_TK_STAGE == s then L
    else ((L.put Reg.CHN_STAT_TAKEOVER true).wr Reg.CHN_STAT_TK_STAGE s).updChn fun c => { c with copyTk := 0 }
  | none =>
    if L.on Reg.CHN_STAT_TAKEOVER then
      ((L.put Reg.CHN_STAT_TAKEOVER false).wr Reg.CHN_STAT_TK_STAGE 0).updChn fun c =>
        { c with passed := c.passed.set 7 (c.passed.getD 7 0 % 2 ^ 20), missed := c.missed.set 7 (c.missed.getD 7 0 % 2 ^ 20)
                 copyTk := 0 }
    else L

end Sys2Proof.Machine
end

