-- ==== Sys2Proof/Machine/Vote.lean ====
section
/-! DEFINITION. The slot start, the agreement round's vote, and the basic-cycle start (R24, R141 to R155, and what the chapters do at
those instants). -/
namespace Sys2Proof.Machine

/-! ## What a lane has received (R145) -/

/-- Decide one sender from its two copies: the message used, and whether it equivocated. -/
def decideCopies (d r : Option AgrMsg) : Option AgrMsg × Bool :=
  match d, r with
  | some a, some b => if a = b then (some a, false) else (none, true)
  | some a, none => (some a, false)
  | none, some b => (some b, false)
  | none, none => (none, false)

/-- Count the link error of sender `x` at lane index `l` (R145): the relaying lane's link, or the sender's. -/
def LaneSt.copyErrors (L : LaneSt) (l x : Nat) : LaneSt :=
  match nth L.agr.direct x, nth L.agr.relayed x with
  | some _, none => L.linkError (3 - l - x) l
  | none, some _ => L.linkError x l
  | _, _ => L

/-- Bits [lo + w - 1 : lo] of a message's field 0. -/
def msgBits (m : AgrMsg) (lo w : Nat) : Nat := (m.fields.getD 0 0#32).toNat / 2 ^ lo % 2 ^ w

/-- Target carried by a message. -/
def msgTarget (m : AgrMsg) : Nat := msgBits m 4 3

/-- A message's commands are all marked invalid: a missed deadline (R25). -/
def msgLate (m : AgrMsg) : Bool := m.valid >>> 36 == 0#48

/-- A round as one lane sees it: messages used by sender, masks of lanes (`late`: a missed deadline), and the vote of each field with
whether it was held and whether it stays unresolved. -/
structure Rnd where
  slot : Nat
  used : Tri (Option AgrMsg)
  present : Nat
  equiv : Nat
  missing : Nat
  absent : Nat
  late : Nat
  res : List (FieldVote × Bool × Bool)

/-- Number of lanes in a mask. -/
def lanes3 (m : Nat) : Nat := ([0, 1, 2].filter (bitN m)).length

/-- Messages used, by sender; the lane's own is among them. -/
def LaneSt.usedMsgs (L : LaneSt) (l : Lane) : Tri (Option AgrMsg) :=
  let one := fun (i : Nat) => if i = laneIx l then L.agr.own else (decideCopies (nth L.agr.direct i) (nth L.agr.relayed i)).1
  ⟨one 0, one 1, one 2⟩

/-- Senders that equivocated. -/
def LaneSt.equivMask (L : LaneSt) (l : Lane) : Nat :=
  mask3 fun i => i != laneIx l && (decideCopies (nth L.agr.direct i) (nth L.agr.relayed i)).2

/-- Lane index `i` is excluded as odd, or treated as SILENT. -/
def LaneSt.excluded (L : LaneSt) (i : Nat) : Bool := nth L.agr.odd i || nth L.agr.gone i

/-- Lanes whose messages vote. -/
def LaneSt.presentMask (L : LaneSt) (u : Tri (Option AgrMsg)) : Nat :=
  mask3 fun i => match nth u i with
    | some m => !m.resync && !m.first && !L.excluded i
    | none => false

/-- Lanes absent in this round (R151, R344): the token holder in slot 2, and a lane not heard in the 16 ms after a rejoin began. -/
def LaneSt.absentMask (L : LaneSt) (slot : Nat) (u : Tri (Option AgrMsg)) : Nat :=
  let rejoin := match L.flk.rejoinAt with
    | some t0 => decide (L.time < t0 + 16000000)
    | none => false
  mask3 fun i => L.votes i && (nth u i).isNone && ((slot == 2 && L.agr.token == i + 1) || rejoin)

/-- Messages of the lanes in a mask, in lane order. -/
def votersOf (u : Tri (Option AgrMsg)) (present : Nat) : List (Nat × AgrMsg) :=
  [0, 1, 2].filterMap fun i => if bitN present i then (nth u i).map fun m => (i, m) else none

/-- Values of field `f` voted: those of the voters that hold it valid. -/
def fieldVoters (v : List (Nat × AgrMsg)) (f : Nat) : List (Nat × Int) :=
  (v.filter fun x => x.2.valid.getLsbD f).map fun x => (x.1, (x.2.fields.getD f 0#32).toInt)

/-- Vote field `f`; fields 0 and 7 are not voted (R146). -/
def LaneSt.voteOne (L : LaneSt) (v : List (Nat × AgrMsg)) (absent : Bool) (f : Nat) : FieldVote × Bool × Bool :=
  if f = 0 ∨ f = 7 then (⟨none, [], false, false⟩, false, false)
  else
    let x := fieldVoters v f
    let (rule, tol, modular, _) := L.fieldRule f
    L.settle f v.length absent x (voteField rule tol modular x)

/-- The round that lane `l` decides. -/
def LaneSt.round (L : LaneSt) (l : Lane) (slot : Nat) : Rnd :=
  let u := L.usedMsgs l
  let present := L.presentMask u
  let absent := L.absentMask slot u
  let equiv := mask3 fun i => bitN (L.equivMask l) i && L.votes i && !L.excluded i
  let missing := mask3 fun i => (nth u i).isNone && L.votes i && !L.excluded i && !bitN absent i && !bitN equiv i && i != laneIx l
  let v := votersOf u present
  let late := mask3 fun i => bitN present i && !(slot == 3 && L.agr.token == i + 1) && match nth u i with
    | some m => msgLate m
    | none => false
  { slot := slot, used := u, present := present, equiv := equiv, missing := missing, absent := absent, late := late
    res := (List.range 48).map fun f => L.voteOne v (absent != 0) f }

/-! ## Marks, the odd lane, conflict (R148 to R150, R152, R154) -/

/-- Vote of field `f`. -/
def Rnd.vote (r : Rnd) (f : Nat) : FieldVote := (r.res.getD f (⟨none, [], false, false⟩, false, false)).1

/-- Lane index `i` is marked as disagreeing on field `f`: by the vote, or, on a command field, by a missed deadline (R25). -/
def Rnd.marked (r : Rnd) (i f : Nat) : Bool := (r.vote f).marks.contains i || (decide (36 ≤ f) && bitN r.late i)

/-- Lanes that vote or would have to in this round. -/
def Rnd.expected (r : Rnd) : Nat := lanes3 (r.present ||| r.equiv ||| r.missing ||| r.absent)

/-- Fields whose mark makes a lane odd in one round: TOKEN, TIME, CONFIG, the MODE fields and EXACT command fields. -/
def LaneSt.strictFields (L : LaneSt) : List Nat :=
  [1, 2, 3] ++ ((List.range 48).filter fun f => decide (36 ≤ f) && (L.fieldRule f).1 == 0)

/-- A condition of one round on marks (R149). -/
def LaneSt.strict (L : LaneSt) (r : Rnd) (i : Nat) : Bool :=
  decide (2 ≤ lanes3 r.present) && bitN r.present i && L.strictFields.any (r.marked i)

/-- Marked on any command field. -/
def Rnd.cmdMark (r : Rnd) (i : Nat) : Bool := (List.range 48).any fun f => decide (36 ≤ f) && r.marked i f

/-- Number of lanes that a majority needs of `n` voters (R60). -/
def needed (n : Nat) : Nat := if n ≤ 1 then 1 else 2

/-- The target that enough voters carry, other than FOLD; none without voters. -/
def Rnd.target (r : Rnd) : Option Nat :=
  let ts := (votersOf r.used r.present).map fun x => msgTarget x.2
  if ts.isEmpty then none else ts.find? fun t => decide (needed ts.length ≤ ts.count t)

/-- The lane's target differs from the majority's. -/
def Rnd.strays (r : Rnd) (i : Nat) : Bool :=
  match r.target, nth r.used i with
  | some t, some m => bitN r.present i && msgTarget m != t
  | _, _ => false

/-- Lane index `i` carries FOLD alone among three voters, none of the others being in FOLD (R61). -/
def Rnd.foldsAlone (r : Rnd) (i : Nat) : Bool :=
  let v := votersOf r.used r.present
  v.length == 3 && v.all fun x => if x.1 = i then msgTarget x.2 == stFold
    else msgTarget x.2 != stFold && msgBits x.2 0 3 != stFold

/-- Counts of consecutive rounds, skipped in a round with an absent lane (R149, R152). -/
def LaneSt.countRounds (L : LaneSt) (r : Rnd) : LaneSt :=
  if r.absent ≠ 0 then L
  else
    let step := fun (p : Nat → Bool) (x : Tri Nat) => (⟨if p 0 then x.a + 1 else 0, if p 1 then x.b + 1 else 0,
      if p 2 then x.c + 1 else 0⟩ : Tri Nat)
    L.updAgr fun g => { g with
      disCmd := step r.cmdMark g.disCmd, disTgt := step r.strays g.disTgt, missed := step (bitN r.missing) g.missed }

/-- A condition of R149 holds for a present lane; its counts stand in `L`. In a round with an absent lane only the conditions of one
round can (R152). -/
def LaneSt.strange (L : LaneSt) (r : Rnd) (i : Nat) : Bool :=
  bitN r.present i &&
  (L.strict r i || (r.absent == 0 &&
    (decide (2 ≤ nth L.agr.disCmd i) || decide (4 ≤ nth L.agr.disTgt i) || r.foldsAlone i)))

/-- Lanes found odd (R149): none while only two lanes vote. -/
def LaneSt.oddMask (L : LaneSt) (r : Rnd) : Nat :=
  if r.expected < 3 then 0
  else mask3 fun i => bitN r.equiv i || bitN r.missing i || ((lanes3 r.present == 3 || r.absent != 0) && L.strange r i)

/-- A conflict of two lanes stays unresolved (R154). -/
def LaneSt.conflictNow (L : LaneSt) (r : Rnd) : Bool :=
  r.absent == 0 &&
  ((lanes3 r.present == 2 && ((r.res.any fun x => x.2.2) || [0, 1, 2].any (L.strange r))) ||
   (r.expected == 2 && r.equiv != 0))

/-! ## Registers of the round (R171) -/

/-- The vector: a field without an agreed value, and field 0, read a value that the spec does not state; field 7 reads 0. -/
def LaneSt.vector (L : LaneSt) (r : Rnd) : List Word × LaneSt :=
  (List.range 48).foldl (fun (x : List Word × LaneSt) f =>
    match f, (r.vote f).value with
    | 7, _ => (x.1 ++ [0#32], x.2)
    | _, some v => (x.1 ++ [BitVec.ofInt 32 v], x.2)
    | _, none => (x.1 ++ [x.2.fresh.1], x.2.fresh.2)) ([], L)

/-- Fields agreed valid. -/
def Rnd.valid (r : Rnd) : BitVec 48 :=
  (List.range 48).foldl (fun v f => if (r.vote f).value.isSome then v ||| (1#48 <<< f) else v) 0#48

/-- Fields on which lane index `i` is marked. -/
def Rnd.marks (r : Rnd) (i : Nat) : BitVec 48 :=
  (List.range 48).foldl (fun v f => if r.marked i f then v ||| (1#48 <<< f) else v) 0#48

/-- A 48-bit mask in a pair of registers. -/
def LaneSt.wr48 (L : LaneSt) (f : Nat → Fld) (v : BitVec 48) : LaneSt :=
  (L.wr (f 0) (v.toNat % 0x100000000)).wr (f 1) (v.toNat / 0x100000000)

/-- AGR_STAT. CONFLICT stays while the module is in the FOLD that it led to. -/
def LaneSt.showRound (L : LaneSt) (r : Rnd) (odd : Nat) (conflict : Bool) : LaneSt :=
  let L := (((L.wr Reg.AGR_STAT_VOTERS r.present).wr Reg.AGR_STAT_ABSENT r.absent).wr Reg.AGR_STAT_ODD odd).wr
    Reg.AGR_STAT_MISSING r.missing
  let L := (L.wr Reg.AGR_STAT_EQUIV r.equiv).put Reg.AGR_STAT_HELD (r.res.any fun x => x.2.1)
  let L := L.put Reg.AGR_STAT_SINGLE (r.res.any fun x => x.1.single)
  let L := L.put Reg.AGR_STAT_CONFLICT (conflict || (L.on Reg.AGR_STAT_CONFLICT && L.st == stFold))
  if r.slot = 3 then L else L.put Reg.AGR_STAT_CATCHUP false

/-- Vector, validity, own marks and history (R158). -/
def LaneSt.showVector (L : LaneSt) (l : Lane) (r : Rnd) : LaneSt :=
  let (vec, L) := L.vector r
  let L := (vec.zipIdx).foldl (fun L x => L.setReg (Reg.AGR_VEC_VALUE x.2).addr x.1) L
  let L := (L.wr48 Reg.AGR_VALID_VALID r.valid).wr48 Reg.AGR_OWNDIS_DIS (r.marks (laneIx l))
  let h : Round := { seq := L.rd Reg.AGR_SEQ_ROUND, valid := r.valid, vec := vec }
  (L.updAgr fun g => { g with hist := (h :: g.hist).take 64, agreedAt := L.meas.slot * 50000 }).showHist

/-- Input fields: 5, 6 and 8 to 35. -/
def inputMask : BitVec 48 := 0xFFFFFFF60#48

/-- Marks on input fields in two consecutive rounds (R148): 0x070B for each field that becomes invalid, with its number as detail. -/
def LaneSt.inputMarks (L : LaneSt) (l : Lane) (r : Rnd) : LaneSt :=
  if r.absent ≠ 0 then L
  else
    let now : Tri (BitVec 48) := ⟨r.marks 0 &&& inputMask, r.marks 1 &&& inputMask, r.marks 2 &&& inputMask⟩
    let both := nth now (laneIx l) &&& nth L.agr.disIn (laneIx l) &&& ~~~L.agr.ownInvalid
    let L := L.updAgr fun g => { g with disIn := now, ownInvalid := g.ownInvalid ||| both }
    (List.range 48).foldl (fun L f => L.raiseIf (both.getLsbD f) 0x070B f) L

/-! ## Consequences for the lanes (R150, R154) -/

/-- The lane finds itself odd: 0x0202, claims 0, control state reset, RESYNC in this round, which takes the place of the reset that
0x0202's level would bring (log entry 100). A FOLD that it entered alone is undone, with its safe stops (R61). -/
def LaneSt.selfOdd (L : LaneSt) (l : Lane) (r : Rnd) : LaneSt :=
  let others := (votersOf r.used r.present).filter fun x => x.1 ≠ laneIx l
  let L := (L.raise 0x0202).zeroClaims 7 2
  let L := if r.foldsAlone (laneIx l) then
      let st := (others.head?.map fun x => msgBits x.2 0 3).getD L.st
      let L := (L.wr Reg.SYS_STATE_MODULE st).wr Reg.SYS_STATE_TARGET st
      let L := { L with
        sys := { L.sys with fold := false, folded := false }
        safe := { L.safe with fold := .all false, ss1Req := L.safe.ss1Req.filter fun q => q.1 != StopSrc.fold } }
      L.dropFoldSs1.refreshSafe l
    else L
  { L.enterResync with fc := { L.enterResync.fc with resetDue := false } }

/-- Another lane is found odd: excluded, vetoed, 0x0203 when it equivocated, 0x0204 when missing. -/
def LaneSt.otherOdd (L : LaneSt) (r : Rnd) (i : Nat) : LaneSt :=
  let L := (L.put (Reg.CLM_PRESENT_VETO.bit i) true).updAgr fun g => { g with odd := setNth g.odd i true }
  L.raiseIf (bitN r.equiv i) 0x0203 (i + 1)

/-- A lane that sends RESYNC ends the mask of its lane failed (R300). -/
def LaneSt.unmask (L : LaneSt) (i : Nat) (m : AgrMsg) : LaneSt :=
  if m.resync && L.on (shadowFld.bit (11 + i)) && !(L.fc.closing.any fun c => c.1 == 11 + i) then L.endMask (11 + i) else L

/-- A lane that says RESYNC or FIRST is neither odd nor gone any longer (R150). -/
def LaneSt.welcome (L : LaneSt) (u : Tri (Option AgrMsg)) : LaneSt :=
  for3 (fun i L => match nth u i with
    | some m => if m.resync || m.first then
        ((L.unmask i m).put (Reg.CLM_PRESENT_VETO.bit i) false).updAgr fun g =>
          { g with odd := setNth g.odd i false, gone := setNth g.gone i false, missed := setNth g.missed i 0 }
      else L
    | none => L) L

/-- Lanes newly missing raise 0x0204; two rounds missing with two lanes voting: treated as SILENT. -/
def LaneSt.noteMissing (L : LaneSt) (r : Rnd) : LaneSt :=
  for3 (fun i L =>
    if !bitN r.missing i then L
    else
      let L := L.raiseIf (decide (nth L.agr.missed i ≤ 1)) 0x0204 (i + 1)
      if 2 ≤ nth L.agr.missed i then L.updAgr fun g => { g with gone := setNth g.gone i true } else L) L

/-- SYS_STATE.VOTING; 0x020A when it drops to one lane. -/
def LaneSt.setVoting (L : LaneSt) (r : Rnd) : LaneSt :=
  let v := mask3 fun i => !L.excluded i &&
    (bitN r.present i || bitN r.absent i || bitN r.missing i || (bitN r.equiv i && L.votes i))
  let was := lanes3 (L.rd Reg.SYS_STATE_VOTING)
  (L.wr Reg.SYS_STATE_VOTING v).raiseIf (decide (2 ≤ was) && lanes3 v == 1) 0x020A

/-- The odd lanes' consequences, and the conflict's: 0x0206 and FOLD. -/
def LaneSt.judge (L : LaneSt) (l : Lane) (r : Rnd) (odd : Nat) (conflict : Bool) : LaneSt :=
  let L := for3 (fun i L => if bitN odd i && i != laneIx l then L.otherOdd r i else L) L
  let L := L.noteMissing r
  let L := L.setVoting r
  let L := if bitN odd (laneIx l) then L.selfOdd l r else L
  if conflict then
    let L := L.raise 0x0206
    if L.st = stFold then L else (L.enterFold l).updSafe fun s => { s with lone := true }
  else L

/-! ## Unvoted contents of field 0 and field 7 -/

/-- CHURN_READY of the slot-0 round, the safe-stop bits, and the winding temperatures (R41, R278, R313). -/
def LaneSt.takeBits (L : LaneSt) (r : Rnd) : LaneSt :=
  let one := fun (i : Nat) (L : LaneSt) => match nth r.used i with
    | some m =>
      let t : Option Int := if m.valid.getLsbD 7 then some (signedOf 16 (m.fields.getD 7 0#32).toNat) else none
      let L := L.updSafe fun s => { s with view := setNth s.view i (BitVec.ofNat 4 (msgBits m 8 4)) }
      L.updAgr fun g => { g with
        ntc := setNth g.ntc i t
        ready := if r.slot = 0 then setNth g.ready i (msgBits m 12 1 == 1) else g.ready }
    | none => L.updAgr fun g => { g with
        ntc := setNth g.ntc i none, ready := if r.slot = 0 then setNth g.ready i false else g.ready }
  (for3 one L).takeNtc

/-- The agreed token of a slot-1 round (R151), and an SP port whose mode is not the agreed one (R109). -/
def LaneSt.takeAgreed (L : LaneSt) (r : Rnd) : LaneSt :=
  let L := match r.slot, (r.vote 1).value with
    | 1, some v => L.updAgr fun g => { g with token := (v % 4).toNat }
    | _, _ => L
  match (r.vote 4).value with
  | some v =>
    let bad := fun (i : Nat) (L : LaneSt) =>
      if L.spUse i = (v / 4 ^ i % 4).toNat then L else L.spInvalid i
    bad 1 (bad 0 L)
  | none => L

/-- DIGESTs and RIND carried by used messages (R398, R424). -/
def LaneSt.takeDigests (L : LaneSt) (l : Lane) (r : Rnd) : LaneSt :=
  let ms := (triList r.used).filterMap id
  let ds := (ms.filter fun m => msgBits m 14 1 == 1).map fun m => BitVec.ofNat 16 (msgBits m 16 16)
  let rinds := ([0, 1, 2].filter fun i => i != laneIx l && match nth r.used i with
    | some m => msgBits m 15 1 == 1
    | none => false).length
  (L.confirm ds (ms.length == 1)).adoptRind l rinds

/-! ## Module state (R59 to R61, R65, R70, R71, R285) -/

/-- What the lanes heard in this round bring to a transition: their answers (R65), and the first precondition of R63 that does not hold
in one of them. -/
structure Heard where
  answers : List (List (Nat × Nat))
  why : Nat

/-- The ballot of a round. The lane absent in it votes too (R151). -/
def Rnd.ballot (r : Rnd) (h : Heard) : Ballot := { voters := lanes3 (r.present ||| r.absent), why := h.why }

/-- One handshake round with the answers of all voting lanes, and a pending request (R65, R70). -/
def LaneSt.handshakeRound (L : LaneSt) (l : Lane) (h : Heard) (b : Ballot) : LaneSt := (L.handshake h.answers).startPending l b

/-- PARK from FOLD: every stage in STO and the speed at standstill (R62). -/
def LaneSt.parkFromFold (L : LaneSt) (l : Lane) (b : Ballot) : LaneSt :=
  if !L.allStopped l then L.report rRefused 0x0B
  else if L.moves then L.report rRefused 0x01
  else L.agreeTarget l stPark b

/-- The agreed target takes effect (R60): once in each lane, whether or not its own request asked for it. A lane that did not carry it
takes note, for its own request may arrive a slot late. -/
def LaneSt.followTarget (L : LaneSt) (l : Lane) (r : Rnd) (b : Ballot) : LaneSt :=
  match r.target with
  | none => L
  | some t =>
    if t = stFold ∨ (L.st = stFold ∧ t = stStandby) then L
    else if t = L.rd Reg.SYS_STATE_TARGET ∧ L.sys.want ≠ some t then L
    else
      let recent := if L.sys.want = some t then none else some (t, L.time)
      let L := { L with sys := { L.sys with want := none, recent := recent } }
      if L.st = stFold then L.parkFromFold l b else L.agreeTarget l t b

/-- Enough voters carry FOLD (R61). -/
def Rnd.folds (r : Rnd) : Bool :=
  let v := votersOf r.used r.present
  let n := (v.filter fun x => msgTarget x.2 == stFold).length
  if v.length = 3 then decide (2 ≤ n) else decide (1 ≤ n)

/-- A class with an L4 reaction is open. -/
def LaneSt.level4 (L : LaneSt) : Bool :=
  (List.range 15).any fun c => L.on (Reg.FC_OPEN (c + 1)) && decide (4 ≤ L.rd (Reg.FC_CNT_LEVEL (c + 1)))

/-- A safe-stop reset acts (R285), and from FOLD starts the transition to STANDBY. -/
def LaneSt.followReset (L : LaneSt) (l : Lane) (r : Rnd) : LaneSt :=
  let v := votersOf r.used r.present
  let n := (v.filter fun x => msgBits x.2 9 1 == 1).length
  if v.isEmpty ∨ n < needed v.length then L.updSafe fun s => { s with acted := false }
  else
    let L := L.actReset l
    if L.st = stFold ∧ L.idle ∧ L.allStopped l ∧ !L.level4 then
      let L := (L.wr Reg.SYS_STATE_TARGET stStandby).wr Reg.SYS_STATE_PHASE 2
      { L with sys := { L.sys with started := L.time } }.endSession
    else L

/-- A lane in RESYNC takes the state that the voting lanes hold in common (R59). -/
def LaneSt.followState (L : LaneSt) (r : Rnd) : LaneSt :=
  let sts := (votersOf r.used r.present).map fun x => msgBits x.2 0 3
  match sts with
  | [] => L
  | st :: rest =>
    if L.mode = 2 ∧ L.st ≠ st ∧ rest.all (· == st) ∧ stStandby ≤ st ∧ st ≤ stFold then
      ((L.wr Reg.SYS_STATE_MODULE st).wr Reg.SYS_STATE_TARGET st).wr Reg.SYS_STATE_PHASE 0
    else L

/-- State of the module after the vote. -/
def LaneSt.followModule (L : LaneSt) (l : Lane) (r : Rnd) (h : Heard) : LaneSt :=
  let b := r.ballot h
  let L := L.handshakeRound l h b
  let L := if r.folds && L.st != stFold then L.enterFold l else L
  ((L.followTarget l r b).followReset l r).followState r

/-! ## Image in force (R101) -/

/-- Digest words of a FIRST message. -/
def msgDigest (m : AgrMsg) : List Word := (List.range 8).map fun i => m.fields.getD (8 + i) 0#32

/-- No image. -/
def noDigest : List Word := List.replicate 8 0#32

/-- The lane's chosen image goes out of force. -/
def LaneSt.withoutImage (L : LaneSt) : LaneSt :=
  match L.nvm.chosen.bind (fun b => (L.slot b).facts) with
  | some f => L.dropImage f
  | none => { L with nvm := { L.nvm with inForce := false } }

/-- The lane's chosen image comes into force, if it has one; a rate that its CAN group fixes is used from now on (R106). -/
def LaneSt.intoForce (L : LaneSt) : LaneSt :=
  let L := { L with nvm := { L.nvm with inForce := L.nvm.chosen.isSome } }
  [CanId.can1, .can2].foldl (fun L c => if L.nvm.inForce && !L.on (Reg.CAN_CFG_AUTO c) then L.canStart c else L.canMailbox c) L

/-- Lanes that start together settle the image in force in their first round. -/
def LaneSt.settleImage (L : LaneSt) (r : Rnd) : LaneSt :=
  let ds := (((triList r.used).filterMap id).filter (·.first)).map msgDigest
  let own := L.imageDigest
  let set := L.intoForce
  if ds.length ≤ 1 then set
  else match ds.find? fun d => d != noDigest && decide (2 ≤ ds.count d) with
    | some d => if own = d then set else if own = noDigest then L.withoutImage else L.raise 0x0D02
    | none => L.withoutImage

/-- One of the eight CONFIG comparisons of a lane that joined: word `n mod 8` of its own digest. Zero words are decided after the eighth
(log entry 108). -/
def LaneSt.checkImage (L : LaneSt) (r : Rnd) (n : Nat) : LaneSt :=
  match (r.vote 3).value with
  | none => L
  | some v =>
    let w := BitVec.ofInt 32 v
    let own := L.imageDigest.getD (n % 8) 0#32
    let put := fun (bad : Nat) => { L with nvm := { L.nvm with checkLeft := L.nvm.checkLeft - 1, checkBad := bad } }
    if w = own then put (L.nvm.checkBad + if w = 0#32 then 0 else 16)
    else if w = 0#32 then put (L.nvm.checkBad + 1)
    else ({ L with nvm := { L.nvm with checkLeft := 0 } }).raise 0x0D02

/-- Outcome after the eighth comparison. -/
def LaneSt.checkDone (L : LaneSt) : LaneSt :=
  if L.nvm.checkLeft ≠ 0 then L
  else if L.nvm.checkBad % 16 = 0 then L.intoForce
  else if L.nvm.checkBad / 16 = 0 then L.withoutImage
  else L.raise 0x0D02

/-- The lane's part in R101 in this round. -/
def LaneSt.imageRound (L : LaneSt) (r : Rnd) (n : Nat) : LaneSt :=
  let L :=
    if L.agr.first && L.nvm.together then L.settleImage r
    else if L.nvm.checkLeft ≠ 0 then
      let L := L.checkImage r n
      if L.mode = 3 then L else L.checkDone
    else L
  L.updAgr fun g => { g with first := false }

/-- Lanes whose FIRST message shows another image than the one in force in voting lane `L`. -/
def LaneSt.strangers (L : LaneSt) (l : Lane) (r : Rnd) : List Nat :=
  if L.mode != 0 || !L.voting l || !L.nvm.inForce then []
  else [0, 1, 2].filter fun i => i != laneIx l && match nth r.used i with
    | some m => m.first && msgDigest m != L.imageDigest
    | none => false

/-! ## Shadowing, learning, the rejoin -/

/-- Own command fields differ from the agreed ones: at once for an EXACT field, beyond TOL otherwise. -/
def LaneSt.shadowDiffers (L : LaneSt) (r : Rnd) (m : AgrMsg) (exact : Bool) : Bool :=
  (List.range 48).any fun f =>
    let (rule, tol, modular, _) := L.fieldRule f
    (decide (36 ≤ f) || (exact && f ∈ [1, 2, 3])) && ((rule == 0) == exact) && rule != 1 && match (r.vote f).value with
      | some v =>
        let x := (m.fields.getD f 0#32).toInt
        !m.valid.getLsbD f || (if modular then decide (tol < absN (modOffset x v)) else decide (tol < absN (x - v)))
      | none => false

/-- Shadowing fails where the lane would be odd (R158): at once where an EXACT field differs, its deadline was missed, or it carries
FOLD alone; after two rounds of other command fields, four of another target (R149). -/
def LaneSt.shadowRound (L : LaneSt) (r : Rnd) : LaneSt :=
  match L.agr.own with
  | some m =>
    if L.mode = 2 ∧ L.rd Reg.AGR_RSYNC_PHASE = 4 then
      let v := votersOf r.used r.present
      let alone := msgTarget m == stFold && decide (2 ≤ v.length) && v.all fun x => msgTarget x.2 != stFold && msgBits x.2 0 3 != stFold
      let stray := match r.target with
        | some t => msgTarget m != t
        | none => false
      let step := fun (b : Bool) (n : Nat) => if r.absent ≠ 0 then n else if b then n + 1 else 0
      let n := step (L.shadowDiffers r m false) L.agr.shadowDis
      let k := step stray L.agr.shadowTgt
      let L := L.updAgr fun g => { g with shadowDis := n, shadowTgt := k }
      if L.shadowDiffers r m true || msgLate m || alone || 2 ≤ n || 4 ≤ k then L.resyncFail 5 L.time else L
    else L
  | none => L

/-- Learning sees the agreed angle and speed (R242); a lane's RESYNC abandons the run. -/
def LaneSt.learnSees (L : LaneSt) (r : Rnd) : LaneSt :=
  if ((triList r.used).filterMap id).any (fun m => m.resync) then L.learnResync else
  let w := ((r.vote 5).value.getD 0 % 65536).toNat
  L.learnRound w ((r.vote 6).value.getD 0) ((r.vote 5).value.isSome && (r.vote 6).value.isSome)

/-- Every voting lane sets NET_SEEN in STANDBY: rounds stop, the keeper rejoins (R344). -/
def LaneSt.rejoin (L : LaneSt) (r : Rnd) : LaneSt :=
  let v := votersOf r.used r.present
  if L.st = stStandby ∧ L.mode = 0 ∧ !v.isEmpty ∧ r.missing = 0 ∧ r.absent = 0 ∧ v.all (fun x => msgBits x.2 13 1 == 1) then
    let L := L.updFlk fun f => { f with rejoinAt := some L.time, keeper := { f.keeper with st := kRejoin, adoptAt := none, good := 0 } }
    (L.updAgr fun g => { g with paused := true }).showKeeper
  else L

/-! ## VOTE_COMPLETE -/

/-- The agreement unit's part of a vote. -/
def LaneSt.voteAgree (L : LaneSt) (l : Lane) (r : Rnd) : LaneSt :=
  let L := L.countRounds r
  let odd := L.oddMask r
  let conflict := L.conflictNow r
  let L := (L.showRound r odd conflict).showVector l r
  (L.inputMarks l r).judge l r odd conflict

/-- What the other engines do at a vote. -/
def LaneSt.voteEngines (L : LaneSt) (l : Lane) (r : Rnd) (h : Heard) (n : Nat) : LaneSt :=
  let L := (L.takeBits r).takeAgreed r
  let L := (L.followModule l r h).safeVote l
  let L := ((L.imageRound r n).shadowRound r).learnSees r
  let L := (L.takeDigests l r).rejoin r
  { L with sys := { L.sys with fastIrq := true } }

/-- Field 0 of a catch-up frame: it is not voted, so the frame carries the lane's STATE and TARGET after the round in the places of R146
(log entry 107). -/
def LaneSt.stateWord (L : LaneSt) : Word :=
  BitVec.ofNat 32 (L.st + 16 * (if L.idle then L.st else L.rd Reg.SYS_STATE_TARGET))

/-- The catch-up frame for the lane absent in the slot-2 round, sent at t0 + 46 µs (R153): the message's header, and the agreed fields
and their validity. -/
def LaneSt.formCatchup (L : LaneSt) (l : Lane) (m : AgrMsg) (r : Rnd) : LaneSt :=
  let f := { m with lane := l, valid := r.valid
                    fields := L.stateWord :: (List.range 47).map fun f => L.reg (Reg.AGR_VEC_VALUE (f + 1)).addr }
  L.updAgr fun g => { g with caught := if r.slot = 2 ∧ r.absent ≠ 0 ∧ L.mode = 0 then some (L.tagged f) else none }

/-- The whole round of lane `l` whose own message is `m`. -/
def LaneSt.vote (L : LaneSt) (l : Lane) (m : AgrMsg) (h : Heard) : LaneSt :=
  let L := for3 (fun i L => if i = laneIx l then L else L.copyErrors (laneIx l) i) L
  let L := L.welcome (L.usedMsgs l)
  let r := L.round l m.slot
  let L := (L.voteAgree l r).voteEngines l r h m.cyc
  (((L.formCatchup l m r).updAgr fun g => { g with own := none }).freeze .vote)

/-- What every voting lane says of a transition (R63, R65, R67): the own answers, and those of the lanes whose message is used in this
round, with which they travel (R15, log entry 101). A voting lane that is not heard answers DELAY (R65). -/
def State.heard (s : State) (L : LaneSt) (l : Lane) : Heard :=
  let vs := [Lane.A, Lane.B, Lane.C].filter fun o => L.votes (laneIx o)
  let used := fun (o : Lane) => o == l || (nth (L.usedMsgs l) (laneIx o)).isSome
  { answers := vs.map fun o => if used o then (s.lane o).sys.said else List.replicate 16 (2, 0)
    why := vs.foldl (fun w o => if o != l && used o then firstWhy w (s.lane o).sys.saidWhy else w) 0 }

/-- VOTE_COMPLETE (R141, R147): once per round in a lane that sent its message. -/
def execVoteComplete (l : Lane) (s : State) : Out :=
  let L := s.lane l
  match L.agr.own with
  | none => .next s
  | some m =>
    if L.inRounds then
      let strangers := L.strangers l (L.round l m.slot)
      let h := s.heard L l
      let s := (s.updLane l fun L => L.vote l m h).restAfter L l
      let s := if L.nvm.chosen.isSome && (s.lane l).nvm.chosen.isNone then s.forgetImage l else s
      let s := strangers.foldl (fun s i => s.updLane (laneOf i) fun L => if L.up && L.mode != 3 then L.raise 0x0D02 else L) s
      .next (s.driveSto l)
    else .next s

/-! ## SLOT_START (R24) -/

/-- The token of basic cycle `n` in slot `k` (R313). -/
def LaneSt.tokenOf (L : LaneSt) (n k : Nat) : Nat :=
  let e := n % 3
  let base := n % 2 ^ 30 * 4
  if k = 1 && L.votes e && nth L.agr.ready e && L.rd Reg.SYS_STATE_PHASE != 1 && !L.sys.fold then e + 1 + base else base

/-- The absent lane's slot-2 round (R151). -/
def LaneSt.away (L : LaneSt) (l : Lane) (k : Nat) : Bool := k == 2 && L.agr.token == laneIx l + 1

/-- The lane forgoes its turn in cycle `n` (R313, R314): noted in slot 1. -/
def LaneSt.turnLost (L : LaneSt) (l : Lane) (n k : Nat) : LaneSt :=
  if k = 1 ∧ n % 3 = laneIx l ∧ L.tokenOf n k % 4 = 0 then
    L.forgo (if L.churnWhy n ≠ 0 then L.churnWhy n else if L.rd Reg.SYS_STATE_PHASE = 1 then 2 else if L.sys.fold then 3 else 4)
  else L

/-- Two catch-up copies agree: vector, validity and round. -/
def sameCatchup (a : AgrMsg) (b : Option AgrMsg) : Bool :=
  match b with
  | some b => a.valid == b.valid && a.fields == b.fields && a.seq == b.seq
  | none => false

/-- A transition that the voting lanes started in the round this lane was absent from starts in it too (R59). -/
def LaneSt.followCatchup (L : LaneSt) (m : AgrMsg) : LaneSt :=
  if L.idle && msgBits m 0 3 == L.st && msgTarget m != L.st && canGo L.st (msgTarget m) then L.beginTransition (msgTarget m) else L

/-- The catch-up copies at the return of an absent lane (R153): identical and verified, or resync. -/
def LaneSt.takeCatchup (L : LaneSt) : LaneSt :=
  let cs := L.agr.catchup
  let L := L.updAgr fun g => { g with catchup := [] }
  match cs with
  | some a :: rest =>
    if rest.all (sameCatchup a) then
      let h : Round := { seq := a.seq.toNat, valid := a.valid, vec := a.fields }
      let L := (((L.updAgr fun g => { g with hist := (h :: g.hist).take 64 }).put Reg.AGR_STAT_CATCHUP true).showHist).followCatchup a
      L.learnRound ((a.fields.getD 5 0#32).toNat % 65536) (a.fields.getD 6 0#32).toInt (a.valid.getLsbD 5 && a.valid.getLsbD 6)
    else L.enterResync
  | _ => L.enterResync

/-- Churn at a slot start: the holder's slice begins in slot 2 and is over in slot 3; the token is gone with the cycle. -/
def LaneSt.churnSlot (L : LaneSt) (l : Lane) (k : Nat) : LaneSt :=
  let mine := L.agr.token == laneIx l + 1
  match k with
  | 0 => L.updAgr fun g => { g with token := 0, catchup := [] }
  | 2 => if mine && L.mode == 0 then L.updChn fun c => { c with active := true } else L
  | 3 =>
    let L := L.updChn fun c => { c with active := false }
    if mine && L.mode == 0 && 2 ≤ lanes3 (L.rd Reg.SYS_STATE_VOTING) then L.takeCatchup else L
  | _ => L

/-- Rounds resume once the keeper is SYNCED, SEQ going on from the last round held (R344). -/
def LaneSt.resume (L : LaneSt) (t : Nat) : LaneSt :=
  if L.agr.paused && L.flk.keeper.st == kSynced && !L.flk.keeper.onLocal then
    L.updAgr fun g => { g with paused := false, seqOfs := L.rd Reg.AGR_SEQ_ROUND + 1 + (65536 - t / 50000 % 65536) }
  else L

/-- What the message of slot `k` says beyond registers. -/
def LaneSt.stateBits (L : LaneSt) (l : Lane) (n k : Nat) : StateBits :=
  { ready := k == 0 && L.churnReady n, netSeen := L.on Reg.FLK_STAT_NET_SEEN && L.st == stStandby, digest := L.digest?
    rind := L.on Reg.SEC_RIND_STAT_ALARM, back := k == 3 && L.agr.token == laneIx l + 1 }

/-- Send the slot's message (R142), unless the lane is absent. -/
def LaneSt.sendRound (L : LaneSt) (l : Lane) (t : Nat) : LaneSt :=
  let k := slotOf t
  let n := cycleOf t
  let L := L.updAgr fun g => { g with
    own := none, direct := .all none, relayed := .all none, heard := .all none, sent := .all none, caught := none }
  if !L.inRounds then L
  else
    let L := (L.wr Reg.AGR_SEQ_SLOT k).wr Reg.AGR_SEQ_ROUND ((t / 50000 + L.agr.seqOfs) % 65536)
    let L := (L.turnLost l n k).churnSlot l k
    if L.away l k || !L.inRounds then L
    else
      let b := L.stateBits l n k
      let L := L.noteCarried L.digest?
      let L := L.speak l
      let m := L.tagged (L.message l t (L.tokenOf n k) b)
      L.updAgr fun g => { g with
        own := some m, rsyncSent := if m.resync then some (g.rsyncSent.getD n) else none }

/-- Postings of the slot that ends become those compared in this one (R25). -/
def LaneSt.endPosting (L : LaneSt) : LaneSt :=
  let L := (L.put Reg.COM_POST_STAT_POSTED L.com.posted).put Reg.AGR_STAT_DEADLINE L.com.late
  { L with com := { L.com with posted := false, sent := L.com.next } }

/-- Interrupts and warnings of a slot start (R295, R455, R456). -/
def LaneSt.slotIrq (L : LaneSt) : LaneSt :=
  let L := for3 (fun i L => L.tempWarn i) L
  if L.fc.irq then { L with fc := { L.fc with irq := false }, sys := { L.sys with fcIrq := true } } else L

/-- The engines at the slot start `t`, and the freeze of the class S registers. -/
def LaneSt.slotEngines (L : LaneSt) (l : Lane) (t : Nat) : LaneSt :=
  let L := { L with meas := { L.meas with slot := t / 50000 } }
  let L := L.completeHalt l
  let L := ((L.flkSlotEnd.posSlot t).flkSlot t).canSlot t
  (L.slotIrq.freeze .slot).endPosting

/-- SLOT_START (R24): mailbox actions first (R398), then the engines and the lane's message. -/
def execSlotStart (l : Lane) (t : Nat) (s : State) : Out :=
  if (s.lane l).up && t % 50000 == 0 then
    let s := s.updLane l fun L =>
      let L := ((L.tick t).resume t).mbxSlot l
      if L.up then
        let L := (L.slotEngines l t).sendRound l t
        ({ L with com := { L.com with late := false } }).refreshClaims l
      else L
    .next ((s.driveSto l).powerStages)
  else .next s

/-! ## BASIC_CYCLE_START -/

/-- The counts that registers show for the cycle that ended: AGR_LINKERR, CLM_LINKERR, STG_CNT.REFRESH. -/
def LaneSt.showCounts (L : LaneSt) : LaneSt :=
  let e := L.agr.linkErr
  let c := L.meas.linkErr
  let L := ((L.wr Reg.AGR_LINKERR_AB (min e.a 255)).wr Reg.AGR_LINKERR_BC (min e.b 255)).wr Reg.AGR_LINKERR_CA (min e.c 255)
  let L := ((L.wr Reg.CLM_LINKERR_STG_A (min c.a 255)).wr Reg.CLM_LINKERR_STG_B (min c.b 255)).wr Reg.CLM_LINKERR_STG_C (min c.c 255)
  let L := for3 (fun i L => L.wr (Reg.STG_CNT_REFRESH i) (min (nth L.meas.refresh i) 255)) L
  { L.updAgr (fun g => { g with linkErr := .all 0 }) with meas := { L.meas with linkErr := .all 0, refresh := .all 0 } }

/-- DBG_PERF and the high-water marks of DBG_CHK_STAT. -/
def LaneSt.showCore (L : LaneSt) : LaneSt :=
  let c := L.core
  let L := ((L.wr Reg.DBG_PERF_RETIRED c.retired).wr Reg.DBG_CHK_STAT_LVQ_HWM (min c.lvqHigh 15)).wr Reg.DBG_CHK_STAT_SCB_HWM (min c.scbHigh 7)
  let L := L.wr Reg.DBG_STALL_CYCLES c.stalled
  { L with core := { c with retired := 0, lvqHigh := 0, scbHigh := 0, stalled := 0 } }

/-- What a basic-cycle boundary does in a lane. -/
def LaneSt.basicCycle (L : LaneSt) (l : Lane) : LaneSt :=
  let L := L.showCounts.showCore
  let L := (for3 (fun i L => L.windingModel i) L).grazeSample
  (L.resyncCycle.flkCycle.takeover l).freeze .basic

/-- BASIC_CYCLE_START (R325). -/
def execBasicCycleStart (l : Lane) (t : Nat) (s : State) : Out :=
  onLane l t s fun L => if t % 250000 = 0 then L.basicCycle l else L

end Sys2Proof.Machine
end

