-- ==== Sys2Proof/Machine/Dispatch.lean ====
section
/-! DEFINITION. One arm per command: the meaning it has. -/
namespace Sys2Proof.Machine

/-- The effect of a command on everything but the queue. -/
def exec (i : Instr) (s : State) : Host.Outcome State Fault Refusal :=
  match i with
  | .registerWrite l addr v sets => Sys2Proof.Machine.execRegisterWrite l addr v sets s
  | .checkedInstruction l c j u q => Sys2Proof.Machine.execCheckedInstruction l c j u q s
  | .interruptTaken l c cause => Sys2Proof.Machine.execInterruptTaken l c cause s
  | .coreResetAfterRecord l => Sys2Proof.Machine.execCoreResetAfterRecord l s
  | .debugHaltRequest l => Sys2Proof.Machine.execDebugHaltRequest l s
  | .debugRegisterWrite l r v => Sys2Proof.Machine.execDebugRegisterWrite l r v s
  | .debugResume l => Sys2Proof.Machine.execDebugResume l s
  | .debugSingleStep l j => Sys2Proof.Machine.execDebugSingleStep l j s
  | .systemBusAccess l addr v => Sys2Proof.Machine.execSystemBusAccess l addr v s
  | .pwmPeriodStart g j => Sys2Proof.Machine.execPwmPeriodStart g j s
  | .crossStrapFrame g l f mark p crcOk inTime => Sys2Proof.Machine.execCrossStrapFrame g l f mark p crcOk inTime s
  | .slotStart l t => Sys2Proof.Machine.execSlotStart l t s
  | .agreementMessage rx relayed m len inTime => Sys2Proof.Machine.execAgreementMessage rx relayed m len inTime s
  | .subround2Relay l => Sys2Proof.Machine.execSubround2Relay l s
  | .voteComplete l => Sys2Proof.Machine.execVoteComplete l s
  | .commit l t => Sys2Proof.Machine.execCommit l t s
  | .commandDeadline l => Sys2Proof.Machine.execCommandDeadline l s
  | .catchupFrame rx m => Sys2Proof.Machine.execCatchupFrame rx m s
  | .basicCycleStart l t => Sys2Proof.Machine.execBasicCycleStart l t s
  | .grazeSpectrum l => Sys2Proof.Machine.execGrazeSpectrum l s
  | .churnSlice l part seg zeroOk sigOk crcOk keyOk dur fold => Sys2Proof.Machine.execChurnSlice l part seg zeroOk sigOk crcOk keyOk dur fold s
  | .zeroiseTimeout l seg us => Sys2Proof.Machine.execZeroiseTimeout l seg us s
  | .spareUnitHandover l part equal => Sys2Proof.Machine.execSpareUnitHandover l part equal s
  | .stageCopySwap l g equal => Sys2Proof.Machine.execStageCopySwap l g equal s
  | .churnCoverageOverdue l t => Sys2Proof.Machine.execChurnCoverageOverdue l t s
  | .groundLoss l mv us t => Sys2Proof.Machine.execGroundLoss l mv us t s
  | .supplyLoss l mv t => Sys2Proof.Machine.execSupplyLoss l mv t s
  | .supplyLossTimeout l t => Sys2Proof.Machine.execSupplyLossTimeout l t s
  | .supplyReturn l mv gnd us t => Sys2Proof.Machine.execSupplyReturn l mv gnd us t s
  | .parkSupplyLoss l mv t => Sys2Proof.Machine.execParkSupplyLoss l mv t s
  | .holdupExhausted l t => Sys2Proof.Machine.execHoldupExhausted l t s
  | .undervoltageWarning l mv us t => Sys2Proof.Machine.execUndervoltageWarning l mv us t s
  | .supplyOvervoltage l mv t => Sys2Proof.Machine.execSupplyOvervoltage l mv t s
  | .overvoltageRecovery l mv us t => Sys2Proof.Machine.execOvervoltageRecovery l mv us t s
  | .sensorSupplyFault l mv us t => Sys2Proof.Machine.execSensorSupplyFault l mv us t s
  | .guardianPowerLoss g => Sys2Proof.Machine.execGuardianPowerLoss g s
  | .foldEntry l crcOk t => Sys2Proof.Machine.execFoldEntry l crcOk t s
  | .sysReq l key target => Sys2Proof.Machine.execSysReq l key target s
  | .armSequence l t => Sys2Proof.Machine.execArmSequence l t s
  | .biasSettled l t => Sys2Proof.Machine.execBiasSettled l t s
  | .armSelftestComplete l fcOk chnOk posOk copyOk t => Sys2Proof.Machine.execArmSelftestComplete l fcOk chnOk posOk copyOk t s
  | .openWireTestComplete l m t => Sys2Proof.Machine.execOpenWireTestComplete l m t s
  | .offsetCalibrationComplete l t => Sys2Proof.Machine.execOffsetCalibrationComplete l t s
  | .armComplete l t => Sys2Proof.Machine.execArmComplete l t s
  | .handshakeDelayExceeded l block t => Sys2Proof.Machine.execHandshakeDelayExceeded l block t s
  | .transitionTimeout l t => Sys2Proof.Machine.execTransitionTimeout l t s
  | .transitionExecute l t => Sys2Proof.Machine.execTransitionExecute l t s
  | .thermalClockDown l tj t => Sys2Proof.Machine.execThermalClockDown l tj t s
  | .thermalClockUp l tj t => Sys2Proof.Machine.execThermalClockUp l tj t s
  | .wakeSource l src mv us pattern t => Sys2Proof.Machine.execWakeSource l src mv us pattern t s
  | .siblingWake l g t => Sys2Proof.Machine.execSiblingWake l g t s
  | .regulatorReady l xtalOk crcOk t => Sys2Proof.Machine.execRegulatorReady l xtalOk crcOk t s
  | .regulatorRetry l t => Sys2Proof.Machine.execRegulatorRetry l t s
  | .crystalFallback l crcOk t => Sys2Proof.Machine.execCrystalFallback l crcOk t s
  | .wakeComplete l f t => Sys2Proof.Machine.execWakeComplete l f t s
  | .sleepSignal l g => Sys2Proof.Machine.execSleepSignal l g s
  | .coldBoot l mv f t => Sys2Proof.Machine.execColdBoot l mv f t s
  | .romRecoveryLoad l f bankB => Sys2Proof.Machine.execRomRecoveryLoad l f bankB s
  | .versionExchange l other vmin vmax boot lc tagOk inForce done => Sys2Proof.Machine.execVersionExchange l other vmin vmax boot lc tagOk inForce done s
  | .sessionTimeout l t => Sys2Proof.Machine.execSessionTimeout l t s
  | .ringNegotiation g p rate t => Sys2Proof.Machine.execRingNegotiation g p rate t s
  | .linkRetry g e t => Sys2Proof.Machine.execLinkRetry g e t s
  | .satelliteHello g n vmin vmax caps ms t => Sys2Proof.Machine.execSatelliteHello g n vmin vmax caps ms t s
  | .satelliteLost g n => Sys2Proof.Machine.execSatelliteLost g n s
  | .spPsi5Phase l t => Sys2Proof.Machine.execSpPsi5Phase l t s
  | .resyncPoint l nr => Sys2Proof.Machine.execResyncPoint l nr s
  | .resyncPackage l tx p tagOk digestOk t => Sys2Proof.Machine.execResyncPackage l tx p tagOk digestOk t s
  | .resyncPackageTimeout l t => Sys2Proof.Machine.execResyncPackageTimeout l t s
  | .catchupComplete l t => Sys2Proof.Machine.execCatchupComplete l t s
  | .shadowingEnd l t => Sys2Proof.Machine.execShadowingEnd l t s
  | .resyncRetry l t => Sys2Proof.Machine.execResyncRetry l t s
  | .statusFrame l g valid => Sys2Proof.Machine.execStatusFrame l g valid s
  | .windowClose g k d => Sys2Proof.Machine.execWindowClose g k d s
  | .openWireCycleStart l t => Sys2Proof.Machine.execOpenWireCycleStart l t s
  | .openWireStep l g m t => Sys2Proof.Machine.execOpenWireStep l g m t s
  | .gpConversionComplete l conv v ohm t => Sys2Proof.Machine.execGpConversionComplete l conv v ohm t s
  | .encoderEdge l a b ns t => Sys2Proof.Machine.execEncoderEdge l a b ns t s
  | .indexEdge l a b rising ns t => Sys2Proof.Machine.execIndexEdge l a b rising ns t s
  | .hallTransition l pattern ns t => Sys2Proof.Machine.execHallTransition l pattern ns t s
  | .encoderSignalLoss l mv us t => Sys2Proof.Machine.execEncoderSignalLoss l mv us t s
  | .encoderSignalRestored l ms t => Sys2Proof.Machine.execEncoderSignalRestored l ms t s
  | .tmrSample l raw field t => Sys2Proof.Machine.execTmrSample l raw field t s
  | .standstillTimeout l src t => Sys2Proof.Machine.execStandstillTimeout l src t s
  | .posSnap l v => Sys2Proof.Machine.execPosSnap l v s
  | .extensionSnapshot l => Sys2Proof.Machine.execExtensionSnapshot l s
  | .reref l v => Sys2Proof.Machine.execReref l v s
  | .calRevolution l => Sys2Proof.Machine.execCalRevolution l s
  | .calApply l => Sys2Proof.Machine.execCalApply l s
  | .spFrame l port f t => Sys2Proof.Machine.execSpFrame l port f t s
  | .spTimeout l port periods t => Sys2Proof.Machine.execSpTimeout l port periods t s
  | .ssiTransaction l idleHigh monoLow raw => Sys2Proof.Machine.execSsiTransaction l idleHigh monoLow raw s
  | .commutationPeriod l g bemf p => Sys2Proof.Machine.execCommutationPeriod l g bemf p s
  | .peakLimitEngage l g t => Sys2Proof.Machine.execPeakLimitEngage l g t s
  | .peakLimitLift l g t => Sys2Proof.Machine.execPeakLimitLift l g t s
  | .observerFloat l g t => Sys2Proof.Machine.execObserverFloat l g t s
  | .bemfCaptureStart l g t => Sys2Proof.Machine.execBemfCaptureStart l g t s
  | .bemfZeroCrossing l g consistent t => Sys2Proof.Machine.execBemfZeroCrossing l g consistent t s
  | .reacqTimeout l g t => Sys2Proof.Machine.execReacqTimeout l g t s
  | .flyingStartTimeout l g t => Sys2Proof.Machine.execFlyingStartTimeout l g t s
  | .learningRunStart l n => Sys2Proof.Machine.execLearningRunStart l n s
  | .learningApply l => Sys2Proof.Machine.execLearningApply l s
  | .energise g mv t => Sys2Proof.Machine.execEnergise g mv t s
  | .prechargeComplete g vdcMv supMv t => Sys2Proof.Machine.execPrechargeComplete g vdcMv supMv t s
  | .isolationSwitchesOn g gates => Sys2Proof.Machine.execIsolationSwitchesOn g gates s
  | .bootstrapsCharged g pulses => Sys2Proof.Machine.execBootstrapsCharged g pulses s
  | .gateDroop g mv us => Sys2Proof.Machine.execGateDroop g mv us s
  | .deEnergise g => Sys2Proof.Machine.execDeEnergise g s
  | .desaturation g k mv ns t => Sys2Proof.Machine.execDesaturation g k mv ns t s
  | .shuntOvercurrent g amps t => Sys2Proof.Machine.execShuntOvercurrent g amps t s
  | .shootThroughCommand g k ns => Sys2Proof.Machine.execShootThroughCommand g k ns s
  | .gateSupplyUndervoltage g mv ns => Sys2Proof.Machine.execGateSupplyUndervoltage g mv ns s
  | .clampEngage g mv => Sys2Proof.Machine.execClampEngage g mv s
  | .clampRelease g mv => Sys2Proof.Machine.execClampRelease g mv s
  | .enRisingEdge g lowUs cond mv => Sys2Proof.Machine.execEnRisingEdge g lowUs cond mv s
  | .stgRearm l key mask => Sys2Proof.Machine.execStgRearm l key mask s
  | .enPulseEnd l g mv => Sys2Proof.Machine.execEnPulseEnd l g mv s
  | .phaseIsolate g k ma => Sys2Proof.Machine.execPhaseIsolate g k ma s
  | .isolationTimeout g k us => Sys2Proof.Machine.execIsolationTimeout g k us s
  | .stoLatchSet l lowUs t => Sys2Proof.Machine.execStoLatchSet l lowUs t s
  | .stoTestPulse l lowUs t => Sys2Proof.Machine.execStoTestPulse l lowUs t s
  | .safeReqSto l key mask => Sys2Proof.Machine.execSafeReqSto l key mask s
  | .safeReqSs1 l key mask => Sys2Proof.Machine.execSafeReqSs1 l key mask s
  | .safeReqClr l key mask => Sys2Proof.Machine.execSafeReqClr l key mask s
  | .ss1Standstill l t => Sys2Proof.Machine.execSs1Standstill l t s
  | .ss1Timeout l t => Sys2Proof.Machine.execSs1Timeout l t s
  | .safeAckEdge l lowUs t => Sys2Proof.Machine.execSafeAckEdge l lowUs t s
  | .safeAckQualified l highUs stoHigh t => Sys2Proof.Machine.execSafeAckQualified l highUs stoHigh t s
  | .resetPendingExpiry l t => Sys2Proof.Machine.execResetPendingExpiry l t s
  | .faultRaise l id detail t => Sys2Proof.Machine.execFaultRaise l id detail t s
  | .lineFault l id ns t => Sys2Proof.Machine.execLineFault l id ns t s
  | .siblingLineChange l other pattern t => Sys2Proof.Machine.execSiblingLineChange l other pattern t s
  | .laneSilent l t => Sys2Proof.Machine.execLaneSilent l t s
  | .acknowledgeClass l key classes => Sys2Proof.Machine.execAcknowledgeClass l key classes s
  | .rearm l key => Sys2Proof.Machine.execRearm l key s
  | .faultRecordWritten l t => Sys2Proof.Machine.execFaultRecordWritten l t s
  | .maskClose l t => Sys2Proof.Machine.execMaskClose l t s
  | .faultInject l id detail t => Sys2Proof.Machine.execFaultInject l id detail t s
  | .thermalRejoin l tj ms t => Sys2Proof.Machine.execThermalRejoin l tj ms t s
  | .laneThermalTrip l tj ms t => Sys2Proof.Machine.execLaneThermalTrip l tj ms t s
  | .stageThermalTrip l g t => Sys2Proof.Machine.execStageThermalTrip l g t s
  | .windingThermalTrip l g t => Sys2Proof.Machine.execWindingThermalTrip l g t s
  | .clockFault l kind permille windows t => Sys2Proof.Machine.execClockFault l kind permille windows t s
  | .syncFrame k f rx => Sys2Proof.Machine.execSyncFrame k f rx s
  | .offsetCorrection k t => Sys2Proof.Machine.execOffsetCorrection k t s
  | .rateCorrection k n => Sys2Proof.Machine.execRateCorrection k n s
  | .passiveTimeout k => Sys2Proof.Machine.execPassiveTimeout k s
  | .listenTimeout l t => Sys2Proof.Machine.execListenTimeout l t s
  | .coldstartFrame k f rx => Sys2Proof.Machine.execColdstartFrame k f rx s
  | .localSyncSend l t => Sys2Proof.Machine.execLocalSyncSend l t s
  | .localSyncFrame l f rx => Sys2Proof.Machine.execLocalSyncFrame l f rx s
  | .startupTimeout l t => Sys2Proof.Machine.execStartupTimeout l t s
  | .startupComplete k n => Sys2Proof.Machine.execStartupComplete k n s
  | .cyclePoint l p t => Sys2Proof.Machine.execCyclePoint l p t s
  | .cpiAck l mask => Sys2Proof.Machine.execCpiAck l mask s
  | .flockFrameReceive l f => Sys2Proof.Machine.execFlockFrameReceive l f s
  | .txPost l buf len t => Sys2Proof.Machine.execTxPost l buf len t s
  | .flockTransmit l chY w m buf t => Sys2Proof.Machine.execFlockTransmit l chY w m buf t s
  | .skimEncode l stream => Sys2Proof.Machine.execSkimEncode l stream s
  | .guardianRingFrame g p f bytes t => Sys2Proof.Machine.execGuardianRingFrame g p f bytes t s
  | .portUnblock g p t => Sys2Proof.Machine.execPortUnblock g p t s
  | .guardianLocalFrame g src f start stop => Sys2Proof.Machine.execGuardianLocalFrame g src f start stop s
  | .windowEndCutoff g src w m t => Sys2Proof.Machine.execWindowEndCutoff g src w m t s
  | .sourceUnblock g src n => Sys2Proof.Machine.execSourceUnblock g src n s
  | .portBroken g p why t => Sys2Proof.Machine.execPortBroken g p why t s
  | .loopEstablished g p t => Sys2Proof.Machine.execLoopEstablished g p t s
  | .loopRelease g p n => Sys2Proof.Machine.execLoopRelease g p n s
  | .pdelayRequest g t => Sys2Proof.Machine.execPdelayRequest g t s
  | .pdelayFrame g p f t => Sys2Proof.Machine.execPdelayFrame g p f t s
  | .arbWindowEnd g w m => Sys2Proof.Machine.execArbWindowEnd g w m s
  | .arbEgressSend g e t => Sys2Proof.Machine.execArbEgressSend g e t s
  | .muteFrame g f n => Sys2Proof.Machine.execMuteFrame g f n s
  | .muteStart g n => Sys2Proof.Machine.execMuteStart g n s
  | .muteExpiry g n => Sys2Proof.Machine.execMuteExpiry g n s
  | .ringWake g p t => Sys2Proof.Machine.execRingWake g p t s
  | .guardianStatusWord l g present selfOk gt t => Sys2Proof.Machine.execGuardianStatusWord l g present selfOk gt t s
  | .canFrameReceive l c f => Sys2Proof.Machine.execCanFrameReceive l c f s
  | .rateDetect l c interval errorFree => Sys2Proof.Machine.execRateDetect l c interval errorFree s
  | .rateDetectTimeout l c t => Sys2Proof.Machine.execRateDetectTimeout l c t s
  | .canRxRelease l c buf wcnt => Sys2Proof.Machine.execCanRxRelease l c buf wcnt s
  | .canTxRequest l c buf => Sys2Proof.Machine.execCanTxRequest l c buf s
  | .canTxAbort l c buf onBus => Sys2Proof.Machine.execCanTxAbort l c buf onBus s
  | .canTxDone l c ts => Sys2Proof.Machine.execCanTxDone l c ts s
  | .silenceRequest l c target duration timeMs tag t => Sys2Proof.Machine.execSilenceRequest l c target duration timeMs tag t s
  | .silenceExpiry l c t => Sys2Proof.Machine.execSilenceExpiry l c t s
  | .busDominant l c us t => Sys2Proof.Machine.execBusDominant l c us t s
  | .busRecessiveResume l c bits => Sys2Proof.Machine.execBusRecessiveResume l c bits s
  | .busOff l c t => Sys2Proof.Machine.execBusOff l c t s
  | .recover l c v => Sys2Proof.Machine.execRecover l c v s
  | .busOffRecovery l c occurrences => Sys2Proof.Machine.execBusOffRecovery l c occurrences s
  | .segmentTimeout l key t => Sys2Proof.Machine.execSegmentTimeout l key t s
  | .confirmTimeout l t => Sys2Proof.Machine.execConfirmTimeout l t s
  | .quarantineEnd l key t => Sys2Proof.Machine.execQuarantineEnd l key t s
  | .hello l r a t => Sys2Proof.Machine.execHello l r a t s
  | .getId l r t => Sys2Proof.Machine.execGetId l r t s
  | .attest l r nonce mask t => Sys2Proof.Machine.execAttest l r nonce mask t s
  | .getKey l r t => Sys2Proof.Machine.execGetKey l r t s
  | .getState l r t => Sys2Proof.Machine.execGetState l r t s
  | .reqState l r target t => Sys2Proof.Machine.execReqState l r target t s
  | .safeStop l r mask ss1 t => Sys2Proof.Machine.execSafeStop l r mask ss1 t s
  | .resetArm l r t => Sys2Proof.Machine.execResetArm l r t s
  | .resetConfirm l r challenge stoHigh t => Sys2Proof.Machine.execResetConfirm l r challenge stoHigh t s
  | .imgBegin l r length t => Sys2Proof.Machine.execImgBegin l r length t s
  | .imgWrite l r offset data t => Sys2Proof.Machine.execImgWrite l r offset data t s
  | .imgVerify l r f t => Sys2Proof.Machine.execImgVerify l r f t s
  | .imgCommit l r digest f t => Sys2Proof.Machine.execImgCommit l r digest f t s
  | .cfgRead l r slot offset length t => Sys2Proof.Machine.execCfgRead l r slot offset length t s
  | .learnStart l r n t => Sys2Proof.Machine.execLearnStart l r n t s
  | .calRead l r offset length t => Sys2Proof.Machine.execCalRead l r offset length t s
  | .calSave l r t => Sys2Proof.Machine.execCalSave l r t s
  | .fcRead l r t => Sys2Proof.Machine.execFcRead l r t s
  | .fcAck l r classes rearm t => Sys2Proof.Machine.execFcAck l r classes rearm t s
  | .recRead l r index t => Sys2Proof.Machine.execRecRead l r index t s
  | .tallyRead l r first count t => Sys2Proof.Machine.execTallyRead l r first count t s
  | .logRead l r offset length t => Sys2Proof.Machine.execLogRead l r offset length t s
  | .mbxStats l r t => Sys2Proof.Machine.execMbxStats l r t s
  | .fwBegin l r length svn t => Sys2Proof.Machine.execFwBegin l r length svn t s
  | .fwWrite l r offset data t => Sys2Proof.Machine.execFwWrite l r offset data t s
  | .fwVerify l r f t => Sys2Proof.Machine.execFwVerify l r f t s
  | .fwTrial l r digest t => Sys2Proof.Machine.execFwTrial l r digest t s
  | .fwCommit l r t => Sys2Proof.Machine.execFwCommit l r t s
  | .fwStatus l r t => Sys2Proof.Machine.execFwStatus l r t s
  | .password l r pw t => Sys2Proof.Machine.execPassword l r pw t s
  | .unlockReq l r level t => Sys2Proof.Machine.execUnlockReq l r level t s
  | .unlockResp l r level sig sigOk t => Sys2Proof.Machine.execUnlockResp l r level sig sigOk t s
  | .challengeExpiry l t => Sys2Proof.Machine.execChallengeExpiry l t s
  | .provision l tokenOk pk msk => Sys2Proof.Machine.execProvision l tokenOk pk msk s
  | .takeover l r a t => Sys2Proof.Machine.execTakeover l r a t s
  | .field l r a t => Sys2Proof.Machine.execField l r a t s
  | .service l r a t => Sys2Proof.Machine.execService l r a t s
  | .return_ l r a t => Sys2Proof.Machine.execReturn_ l r a t s
  | .decommission l r a t => Sys2Proof.Machine.execDecommission l r a t s
  | .clearAlarm l r a t => Sys2Proof.Machine.execClearAlarm l r a t s
  | .keyLoad l r a t => Sys2Proof.Machine.execKeyLoad l r a t s
  | .rindStat l r t => Sys2Proof.Machine.execRindStat l r t s
  | .grazeTap l r decimation duration t => Sys2Proof.Machine.execGrazeTap l r decimation duration t s
  | .skimTap l r stream decimation duration t => Sys2Proof.Machine.execSkimTap l r stream decimation duration t s
  | .tapStop l r mbox t => Sys2Proof.Machine.execTapStop l r mbox t s
  | .tapDelivery l mbox canSend => Sys2Proof.Machine.execTapDelivery l mbox canSend s
  | .tapEnd l mbox t => Sys2Proof.Machine.execTapEnd l mbox t s
  | .crook l r mailbox aux t => Sys2Proof.Machine.execCrook l r mailbox aux t s
  | .crookForced l t => Sys2Proof.Machine.execCrookForced l t s
  | .crookReply l t => Sys2Proof.Machine.execCrookReply l t s
  | .shepherdRestart l => Sys2Proof.Machine.execShepherdRestart l s
  | .mbxReplyRelease l v => Sys2Proof.Machine.execMbxReplyRelease l v s
  | .rindSource l bit active ns t => Sys2Proof.Machine.execRindSource l bit active ns t s
  | .glitchDetect l bit ns t => Sys2Proof.Machine.execGlitchDetect l bit ns t s
  | .move l key => Sys2Proof.Machine.execMove l key s
  | .stop l key => Sys2Proof.Machine.execStop l key s
  | .hardstop l key => Sys2Proof.Machine.execHardstop l key s
  | .home l key t => Sys2Proof.Machine.execHome l key t s
  | .clear l key condGone => Sys2Proof.Machine.execClear l key condGone s
  | .commitTbl l key => Sys2Proof.Machine.execCommitTbl l key s
  | .plannerTick l slice4 t => Sys2Proof.Machine.execPlannerTick l slice4 t s
  | .microstep l t => Sys2Proof.Machine.execMicrostep l t s
  | .standstillEntry l t => Sys2Proof.Machine.execStandstillEntry l t s
  | .limitSwitchTransition l sw high us t => Sys2Proof.Machine.execLimitSwitchTransition l sw high us t s
  | .homingStopComplete l t => Sys2Proof.Machine.execHomingStopComplete l t s
  | .homingTimeout l t => Sys2Proof.Machine.execHomingTimeout l t s
  | .coilFault l coil kind t => Sys2Proof.Machine.execCoilFault l coil kind t s
  | .unknownRequest l r code body t => Sys2Proof.Machine.execUnknownRequest l r code body t s
  | .canBusError l c kind tx t => Sys2Proof.Machine.execCanBusError l c kind tx t s
  | .debugSessionOpen l => Sys2Proof.Machine.execDebugSessionOpen l s
  | .debugSessionClose l => Sys2Proof.Machine.execDebugSessionClose l s
  | .factoryTestToken l sigOk => Sys2Proof.Machine.execFactoryTestToken l sigOk s

end Sys2Proof.Machine
end

