-- ==== Sys2Proof/Safety.lean ====
section
/-! DEFINITION. The terms in which statements about the module are made: that a command runs and what it leaves alone, the
canonical form of stored data, and when a stage may apply a gate command. -/
namespace Sys2Proof.Machine

/-! ## A command runs -/

/-- The command answers a next state of which `P` holds. -/
def Runs (c : Instr) (s : State) (P : State → Prop) : Prop := ∃ t, exec c s = .next t ∧ P t

/-- Everything but lane `l` is the same in `s` and `t`. -/
def sameButLane (l : Lane) (s t : State) : Prop :=
  (∀ o, o ≠ l → t.lane o = s.lane o) ∧ t.stages = s.stages ∧ t.gX = s.gX ∧ t.gY = s.gY ∧ t.pending = s.pending

/-- Everything but stage `g` is the same in `s` and `t`. -/
def sameButStage (g : Stg) (s t : State) : Prop :=
  (∀ o, o ≠ g → t.stage o = s.stage o) ∧ t.lanes = s.lanes ∧ t.gX = s.gX ∧ t.gY = s.gY ∧ t.pending = s.pending

/-- Everything but guardian `g` is the same in `s` and `t`. -/
def sameButGuardian (g : Gdn) (s t : State) : Prop :=
  (∀ o, o ≠ g → t.gdn o = s.gdn o) ∧ t.lanes = s.lanes ∧ t.stages = s.stages ∧ t.pending = s.pending

/-- Everything but lane `l` and the stage of its supply is the same in `s` and `t`. -/
def sameButSupply (l : Lane) (s t : State) : Prop :=
  (∀ o, o ≠ l → t.lane o = s.lane o) ∧ (∀ g, stgIx g ≠ laneIx l → t.stage g = s.stage g) ∧ t.gX = s.gX ∧ t.gY = s.gY ∧
  t.pending = s.pending

/-- The command answers a next state in which only lane `l` can have changed, and `P` holds of that lane. -/
def LaneRuns (c : Instr) (s : State) (l : Lane) (P : LaneSt → Prop) : Prop :=
  Runs c s fun t => sameButLane l s t ∧ P (t.lane l)

/-- The command answers a next state in which only stage `g` can have changed, and `P` holds of that stage. -/
def StageRuns (c : Instr) (s : State) (g : Stg) (P : StageSt → Prop) : Prop :=
  Runs c s fun t => sameButStage g s t ∧ P (t.stage g)

/-- The command answers a next state in which only guardian `g` can have changed, and `P` holds of that guardian. -/
def GuardianRuns (c : Instr) (s : State) (g : Gdn) (P : GuardianSt → Prop) : Prop :=
  Runs c s fun t => sameButGuardian g s t ∧ P (t.gdn g)

/-- Memory of the two lanes reads the same at every address. -/
def sameMemory (L M : LaneSt) : Prop := ∀ a, M.byte a = L.byte a

/-! ## What a command leaves alone -/

/-- The parts of a lane: its registers (live and frozen), its memory, its time, and the engines' state. -/
inductive Part where
  | regs | snap | mem | shepMem | time | fc | pwr | sys | nvm | agr | meas | pos | com | safe | chn | mbx | sec | aux | core | flk | can1 | can2 | free
deriving DecidableEq, Repr

/-- The part is the same in the two lanes. -/
def LaneSt.same (L M : LaneSt) : Part → Prop
  | .regs => M.regs = L.regs
  | .snap => M.snap = L.snap
  | .mem => M.mem = L.mem
  | .shepMem => M.shepMem = L.shepMem
  | .time => M.time = L.time
  | .fc => M.fc = L.fc
  | .pwr => M.pwr = L.pwr
  | .sys => M.sys = L.sys
  | .nvm => M.nvm = L.nvm
  | .agr => M.agr = L.agr
  | .meas => M.meas = L.meas
  | .pos => M.pos = L.pos
  | .com => M.com = L.com
  | .safe => M.safe = L.safe
  | .chn => M.chn = L.chn
  | .mbx => M.mbx = L.mbx
  | .sec => M.sec = L.sec
  | .aux => M.aux = L.aux
  | .core => M.core = L.core
  | .flk => M.flk = L.flk
  | .can1 => M.can1 = L.can1
  | .can2 => M.can2 = L.can2
  | .free => M.free = L.free

/-- Only the parts `ps` can differ. -/
def LaneSt.keeps (ps : List Part) (L M : LaneSt) : Prop := ∀ p, p ∉ ps → L.same M p

/-- The register at `a` is one of `rs`: an entry below 2^16 names a whole block (bits [31:16] of its addresses), any other
entry the address of one register. -/
def covered (rs : List Nat) (a : Nat) : Bool := rs.any fun r => if r < 65536 then a / 65536 == r else a == r

/-- Only the registers `rs` can hold another word. -/
def LaneSt.keepsRegs (rs : List Nat) (L M : LaneSt) : Prop := ∀ a, covered rs a = false → M.reg a = L.reg a

/-- The parts that a source's assertion at the collector can change (R295, R298): besides the registers, the collector, the
target that L4 carries, and the axis that L3 aborts. -/
def faultParts : List Part := [.regs, .fc, .sys, .aux]

/-- The registers it can change: the collector's, CLM_PRESENT, AUX_STAT and AUX_VEL. -/
def faultRegs : List Nat := [0x4001, 0x40030004, 0x400C0048, 0x400C0050]

/-- The collector has taken an assertion of source `id` with detail `d` (R298): the count of masked assertions of its class has
risen by one if a consequence mask covers it, otherwise the count of assertions; both saturate. A source whose line has failed asserts
no more (R290, log entry 117), and nothing is counted. -/
def LaneSt.reported (L M : LaneSt) (id d : Nat) : Prop :=
  if L.fc.stuck.contains (BitVec.ofNat 16 id) then M.rd (Reg.FC_CNT_COUNT (id / 256)) = L.rd (Reg.FC_CNT_COUNT (id / 256))
  else if L.masked id (detailOf id d) then
    M.rd (Reg.FC_CNT_CONSEQ (id / 256)) = min (L.rd (Reg.FC_CNT_CONSEQ (id / 256)) + 1) 4095
  else M.rd (Reg.FC_CNT_COUNT (id / 256)) = min (L.rd (Reg.FC_CNT_COUNT (id / 256)) + 1) 4095

/-! ## Canonical form -/

/-- A lane's sparse storage is in canonical form: registers, frozen registers, memory, the Shepherd's SRAM. -/
def LaneSt.wf (L : LaneSt) : Bool :=
  cellsWf memDefault L.mem && cellsWf memDefault L.shepMem && cellsWf resetWord L.regs && cellsWf resetWord L.snap

/-- The module's is. -/
def State.wf (s : State) : Bool := s.lanes.a.wf && s.lanes.b.wf && s.lanes.c.wf

/-! ## Torque -/

/-- What STATE, switches and latches of a stage say of each other, and when it applies a gate command (R164 to R166, R262, R269,
R273, R274): precharging or READY with nothing latched and no isolation under way; READY with all series switches on; and a
gate command only while READY, STO released, supplied, with a lane accepted and no tie. -/
def StageSt.torqueSafe (g : StageSt) : Prop :=
  (g.st = 0 → g.isolated = true ∧ g.isolating = false) ∧
  (g.st = 1 → g.isolating = false) ∧
  (g.st = 2 → g.isolating = false ∧ g.latch = 0) ∧
  (g.st = 3 → g.rp = true ∧ g.isoOn = true ∧ g.isolating = false ∧ g.latch = 0) ∧
  (g.isoOn = true → g.isolating = true ∨ g.rp = true) ∧
  (g.cmd.isSome = true → g.st = 3 ∧ g.stoIn = true ∧ g.supLost = false ∧ g.supHigh = false ∧ g.acc.isSome = true ∧ g.tie = false)

/-- All three stages are. -/
def State.torqueSafe (s : State) : Prop := s.stages.a.torqueSafe ∧ s.stages.b.torqueSafe ∧ s.stages.c.torqueSafe

/-! ## Requests -/

/-- The lane as it looks at a request at time `t`. -/
def LaneSt.hearing (L : LaneSt) (t : Nat) : LaneSt := (L.tick t).updMbx fun m => { m with out := [] }

/-- Lane `l` is up, the request reaches it, and it passes every check of R389 to R394. -/
def LaneSt.accepts (L : LaneSt) (l : Lane) (code : Nat) (r : Req) (body : List Byte) (t : Nat) : Prop :=
  let H := L.hearing t
  let key := H.reqKey r (headerBytes code r ++ body)
  L.up = true ∧ H.reaches l code r body = true ∧ (H.noteRate key).verdict (cmdRow code) code key r body = .go

/-- `M` has sent this reply to `r`, over the transport the request came by, tagged under the keys that `M` holds; `L` is the lane
before. -/
def LaneSt.sent (L M : LaneSt) (code : Nat) (r : Req) (nak : Option Nat) (more : Bool) (payload : List Byte) : Prop :=
  if r.transport = .internal then
    M.mbx.inner = L.mbx.inner ++ [M.replyTo code r nak more payload] ∧ (more = false → M.on Reg.MBX_STAT_BUSY = false)
  else M.mbx.out = [M.replyTo code r nak more payload]

/-- A final reply, or a final NAK with its detail. -/
def LaneSt.replied (L M : LaneSt) (code : Nat) (r : Req) (payload : List Byte) : Prop := L.sent M code r none false payload
def LaneSt.nakked (L M : LaneSt) (code : Nat) (r : Req) (nak detail : Nat) : Prop :=
  L.sent M code r (some nak) false (nakPayload nak detail 0)

/-- The parts and registers that a command carried out by the Shepherd changes in any case. -/
def askParts : List Part := [.time, .mbx, .regs]

/-- A reply has gone out: nothing but the mailboxes, and BUSY of mailbox 0, has changed. -/
def LaneSt.onlyAnswered (L M : LaneSt) : Prop := L.keeps askParts M ∧ L.keepsRegs [0x400F0000] M

/-! ## The complement domain -/

/-- Lamb's copy of a core holds the complement of the lead's: program counter, registers, CSRs (R114). -/
def Hart.complements (h : Hart) : Prop :=
  h.npc = ~~~h.pc ∧ (∀ fp n, h.getN fp n = ~~~(h.getX fp n)) ∧ ∀ k, h.ncsrAt k = ~~~(h.csrAt k)

/-- The control core runs checked: not split, not halted, no trigger on `i` that may halt it, at an instruction boundary. -/
def LaneSt.checks (L : LaneSt) (l : Lane) (i : CoreInstr) : Prop :=
  L.core.lvq = [] ∧ L.core.scb = [] ∧ L.runs = true ∧ L.core.debug = false ∧ L.isSplit = false ∧ L.triggered l i = false ∧ L.core.cpu.complements

end Sys2Proof.Machine
end

