-- ==== Sys2Proof/Certificates/Slice0/Obligations.lean ====
section
/-! DEFINITION. What the provers are to show of the module: one statement per entry of OBLIGATIONS.json, in its order. A rule number
is a rule of the spec; a log entry is a row of notes/assumptions. -/
open Sys2Proof Sys2Proof.Machine

/-- The stages that lane `l` owns with their STO input at `b`; in STO they have all six off. -/
def ownedSto (L : LaneSt) (l : Lane) (b : Bool) (s : State) (g : Stg) : StageSt :=
  if L.stoSrc (stgIx g) = laneIx l + 1 then
    { s.stage g with stoIn := b, cmd := if b then (s.stage g).cmd else none, enSeen := (s.stage g).enSeen && b }
  else s.stage g

/-- A step takes the command at the front of the queue and does what it does on the rest; with an empty queue the module stays as it is (log entry 25).
The queue is the model's way to bring commands in order, and no rule of the spec. -/
def Obligations.StepRunsFront : Prop :=
  (∀ (c : Instr) (rest : List Instr) (s : State), step { s with pending := c :: rest } = exec c { s with pending := rest }) ∧
  (∀ s : State, s.pending = [] → step s = .next s)

/-- Every command of the table runs in every state, with any operands: none ends in a fault or a refusal, and none touches the queue. A command whose
conditions are not met leaves the state as it is or raises what the spec says (log entry 27). -/
def Obligations.EveryCommandRuns : Prop :=
  ∀ (c : Instr) (s : State), ∃ t, exec c s = .next t ∧ t.pending = s.pending

/-- R88, R267, R275: what reset leaves: nothing waits, the storage is in canonical form, every lane is in STANDBY, CHECKED, without claims, no stage
applies a command or has a latch. That the lanes are past their start is the model's choice (log entry 1). -/
def Obligations.ResetMeetsInvariants : Prop :=
  State.reset.wf = true ∧ State.reset.torqueSafe ∧ State.reset.pending = [] ∧
  (∀ l : Lane, (State.reset.lane l).st = stStandby ∧ (State.reset.lane l).mode = 0 ∧ (State.reset.lane l).core.cpu.complements ∧
    (State.reset.lane l).rd Reg.SYS_ID_LANE = laneIx l + 1 ∧ ∀ i < 3, (State.reset.lane l).rd (Reg.CLAIM_OF i) = 0) ∧
  ∀ g : Stg, (State.reset.stage g).cmd = none ∧ (State.reset.stage g).acc = none ∧ (State.reset.stage g).latch = 0

/-- R164 to R166, R262, R264, R269, R273, R274: whatever command comes, each stage stays torque-safe: it applies a gate command only while READY with
its series switches on, STO released, supplied, nothing latched, and with a lane accepted and no tie. -/
def Obligations.StepKeepsTorqueSafe : Prop :=
  ∀ s t : State, s.torqueSafe → step s = .next t → t.torqueSafe

/-- Whatever command comes, every lane's registers, frozen registers and memory stay in canonical form: addresses strictly rising, nothing listed that
an unlisted address reads as, so that equal contents are equal data (log entry 2). -/
def Obligations.StepKeepsCanonical : Prop :=
  ∀ s t : State, s.wf = true → step s = .next t → t.wf = true

/-- R166: in a torque-safe state, and after any command from one, a stage with no lane accepted applies no gate command, so its six switches are off;
and it accepts a lane again at the period start at which the lane's claim has been the highest for two periods. Says where these complete:
pwmPeriodStart. -/
def Obligations.NoLaneNoTorque : Prop :=
  (∀ s t : State, s.torqueSafe → step s = .next t → ∀ g, (t.stage g).acc = none → (t.stage g).cmd = none) ∧
  (∀ (s : State) (g : Stg) (i : PeriodIn) (w : Lane), (s.stage g).st ≠ 0 → (s.stage g).tie = false → (s.stage g).acc = none →
    (s.stage g).wPrev = some w → (s.stage g).topLanes = [laneIx w] →
    Runs (.pwmPeriodStart g i) s fun t => (t.stage g).acc = some w)

/-- R8, R125: freezing a group gives each of its registers the live word and leaves the frozen words of the others; a read by checked code then gives
the frozen word of a frozen register and the live word of any other. -/
def Obligations.FreezeTakesGroup : Prop :=
  ∀ (L : LaneSt) (g : Freeze) (a : Nat), cellsWf resetWord L.regs = true → cellsWf resetWord L.snap = true →
    (L.freeze g).snapReg a = (if freezeOf a = g then L.reg a else L.snapReg a) ∧ (L.freeze g).regs = L.regs ∧
    L.keeps [.snap] (L.freeze g) ∧ (g ≠ .never → (L.freeze g).regRead a = if freezeOf a = g then L.reg a else L.regRead a)

/-- R125: a load that completes changes nothing outside the core, whichever address it reads: a second read gives the same word. Says where these
complete: checkedInstruction. -/
def Obligations.ReadsHaveNoSideEffect : Prop :=
  ∀ (s : State) (l : Lane) (w : Width) (sg : Bool) (rd rs1 : Nat) (off raw : Word) (len : Nat) (q : IssueIn),
    (s.lane l).checks l (.load w sg rd rs1 off len) →
    (s.lane l).busRead w ((s.lane l).core.cpu.getX false rs1 + off).toNat = some raw →
    LaneRuns (.checkedInstruction l .main (.load w sg rd rs1 off len) .none q) s l fun L => (s.lane l).keeps [.core] L ∧
      (rd ≠ 0 → L.core.cpu.getX false rd = leadExt w sg raw) ∧ ∀ v a, L.busRead v a = (s.lane l).busRead v a

/-- R5 to R7, R28, R31, R33, R458, R459: a register write changes the fields that the access code and the range admit and nothing else; a W1C bit that
hardware sets in the same bus cycle stays set; an RWS field takes its first write only; a value refused leaves its field and is told as 0x0D04; an
address without a register takes nothing, the SEC block is 0x0B04; a command register's write is its command. Says where these complete:
registerWrite. -/
def Obligations.RegisterWriteByAccess : Prop :=
  ∀ (s : State) (l : Lane) (a : Nat) (v sets : Word), (s.lane l).up = true →
    let old := s.lane l
    (inBlock a 0x400E0000 = true → LaneRuns (.registerWrite l a v sets) s l fun L => old.keeps faultParts L ∧ old.keepsRegs faultRegs L ∧
      old.reported L 0x0B04 0xFF) ∧
    (inBlock a 0x400E0000 = false → 0x40200000 ≤ a ∨ rowAt a = none → Runs (.registerWrite l a v sets) s fun t => t = s) ∧
    (∀ r : RegRow, inBlock a 0x400E0000 = false → a < 0x40200000 → rowAt a = some r → s.trigger l a v = none → old.ignores a v = none →
      a / 65536 ∉ [0x4002, 0x4006, 0x4009, 0x400C] → (∀ f ∈ r.fields, f.acc ≠ .rws) →
      let x := writeWord a r.fields ⟨old.st == stStandby, old.txBuffer a, [], sets⟩ (old.reg a) v
      (x.2 = false → LaneRuns (.registerWrite l a v sets) s l fun L => old.keeps [.regs] L ∧ old.keepsRegs [a] L ∧ L.reg a = x.1) ∧
      (x.2 = true → a / 65536 ≠ 0x4001 → LaneRuns (.registerWrite l a v sets) s l fun L => old.keeps faultParts L ∧
        old.keepsRegs (a :: faultRegs) L ∧ old.reported L 0x0D04 0xFF)) ∧
    (∀ (f : FieldRow) (c : WriteCtx) (hw cur x : Nat),
      (f.acc = .ro ∨ f.acc = .wo → f.write c hw cur x = (cur, false)) ∧
      (f.acc = .rw → f.least ≤ x → x ≤ f.most → f.standby = false ∨ c.standby = true → f.write c hw cur x = (x, false)) ∧
      (f.acc = .rw → x < f.least ∨ f.most < x ∨ (f.standby = true ∧ c.standby = false ∧ x ≠ cur) → f.write c hw cur x = (cur, true)) ∧
      (f.acc = .rws → c.locked.contains f.lo = true → f.write c hw cur x = (cur, false)) ∧
      (f.acc = .w1c → ∀ j < f.w, (f.write c hw cur x).1.testBit j = (cur.testBit j && !x.testBit j || hw.testBit j))) ∧
    (∀ (L : LaneSt) (r : RegRow) (f : FieldRow), f ∈ r.fields → f.acc = .rws →
      (a, f.lo) ∈ (L.lockRws a r).sys.locks ∧ ((a, f.lo) ∈ L.sys.locks → L.reported (L.lockRws a r) 0x0D05 0xFF)) ∧
    (exec (.registerWrite l 0x40000008 v sets) s = exec (.sysReq l (v.extractLsb' 16 16) (v.extractLsb' 0 3)) s ∧
      exec (.registerWrite l 0x40010024 v sets) s = exec (.faultInject l (v.extractLsb' 16 16) (v.extractLsb' 8 8) old.time) s ∧
      exec (.registerWrite l 0x40050004 v sets) s = exec (.posSnap l v) s ∧ exec (.registerWrite l 0x40050018 v sets) s = exec (.reref l v) s ∧
      exec (.registerWrite l 0x40080004 v sets) s = exec (.stgRearm l (v.extractLsb' 16 16) (v.extractLsb' 0 3)) s ∧
      exec (.registerWrite l 0x400F0008 v sets) s = exec (.mbxReplyRelease l v) s)

/-- R52, R54, R37: a supply loss, or a lost ground, that the lane detects puts it on hold-up: its claims are 0, its sensor supply and the axis driver
are off, and the stage of the same supply takes STO. R52 to R55: 15 ms after the detection the lane is SILENT with its fault line at lane failed; a
supply that is back for 1 ms before that, with its ground within 1.0 V, puts it back on its supplies; one that is back later takes the lane to OFF,
from which it cold boots; in PARK the loss is recorded and nothing else changes; at the end of the hold-up, 20 ms after the detection at the
earliest, only MRAM is left. R38, R43, R264, R272: an undervoltage is reported from 16.0 V to 18.0 V; above 57.0 V the lane reports overvoltage and
its stage is in STO until the voltage is below 56.0 V for 10 ms; a sensor supply out of range takes the sensors out. Says where these complete:
groundLoss, supplyLoss, supplyLossTimeout, supplyReturn, parkSupplyLoss, holdupExhausted, undervoltageWarning, supplyOvervoltage,
overvoltageRecovery, sensorSupplyFault. -/
def Obligations.SupplyMonitoredAndHeldUp : Prop :=
  (∀ (s : State) (l : Lane) (t : Nat), (s.lane l).supplied = true →
     (∀ mv : Int, mv < 16000 → Runs (.supplyLoss l mv t) s fun u => sameButSupply l s u ∧
       (u.lane l).pwr.lost = true ∧ (u.lane l).pwr.lostAt = t ∧ (u.lane l).pwr.sns5 = false ∧ (u.lane l).pwr.auxOn = false ∧
       (∀ i < 3, (u.lane l).rd (Reg.CLAIM_OF i) = 0) ∧
       (nth u.stages (laneIx l)).supLost = true ∧ (nth u.stages (laneIx l)).en = false) ∧
     (∀ (mv : Int) (us : Nat), mv < -1000 ∨ 1000 < mv → 10 ≤ us → (s.lane l).pwr.gndLost = false → Runs (.groundLoss l mv us t) s fun u => sameButSupply l s u ∧ (u.lane l).pwr.gndLost = true ∧
       (u.lane l).pwr.lost = true ∧ (u.lane l).pwr.lostAt = t ∧ (u.lane l).pwr.sns5 = false ∧ (u.lane l).pwr.auxOn = false ∧
       (∀ i < 3, (u.lane l).rd (Reg.CLAIM_OF i) = 0) ∧
       (nth u.stages (laneIx l)).supLost = true ∧ (nth u.stages (laneIx l)).en = false) ∧
     (∀ mv : Int, 16000 ≤ mv → exec (.supplyLoss l mv t) s = .next s)) ∧
  (∀ (s : State) (l : Lane) (t : Nat),
     ((s.lane l).up = true → (s.lane l).pwr.lost = true → (s.lane l).mode ≠ 3 → (s.lane l).pwr.lostAt + 15000000 ≤ t →
       LaneRuns (.supplyLossTimeout l t) s l fun L => L.mode = 3 ∧ L.fc.line = 1 ∧ L.fc.faultX = false) ∧
     (∀ (mv gnd : Int) (us : Nat), (s.lane l).up = true → (s.lane l).pwr.lost = true → 17000 < mv → -1000 ≤ gnd → gnd ≤ 1000 → 1000 ≤ us →
       ((s.lane l).mode ≠ 3 → Runs (.supplyReturn l mv gnd us t) s fun u => sameButSupply l s u ∧ (u.lane l).pwr.lost = false ∧
         (u.lane l).pwr.gndLost = false ∧ (u.lane l).pwr.sns5 = true ∧ (u.lane l).pwr.auxOn = true ∧ (u.lane l).pwr.supMv = mv ∧
         (nth u.stages (laneIx l)).supLost = false ∧
         (stArm ≤ (s.lane l).st → (s.lane l).assigned (laneIx l) = true → (u.lane l).pwr.returning = true)) ∧
       ((s.lane l).mode = 3 → Runs (.supplyReturn l mv gnd us t) s fun u => (∀ o, o ≠ l → u.lane o = s.lane o) ∧ (u.lane l).st = stOff)) ∧
     (∀ (mv gnd : Int) (us : Nat), gnd < -1000 ∨ 1000 < gnd → exec (.supplyReturn l mv gnd us t) s = .next s) ∧
     (∀ mv : Int, (s.lane l).st = stPark → (s.lane l).pwr.lost = false → mv < 16000 →
       LaneRuns (.parkSupplyLoss l mv t) s l fun L => (s.lane l).keeps [.time, .pwr] L ∧ L.pwr.lost = true ∧ L.pwr.parkLoss = true ∧
         L.pwr.lostAt = t) ∧
     (t < (s.lane l).pwr.lostAt + 20000000 → exec (.holdupExhausted l t) s = .next s) ∧
     ((s.lane l).pwr.lost = true → (s.lane l).pwr.lostAt + 20000000 ≤ t → Runs (.holdupExhausted l t) s fun u => (∀ o, o ≠ l → u.lane o = s.lane o) ∧
       (u.lane l).st = stOff ∧ (u.lane l).pwr.regulator = false ∧
       ∀ a, (u.lane l).byte a = if memOff a then (s.lane l).byte a else memDefault a)) ∧
  (∀ (s : State) (l : Lane) (t : Nat), (s.lane l).up = true →
     (∀ (mv : Int) (us : Nat), 16000 ≤ mv → mv < 18000 → 100 ≤ us → LaneRuns (.undervoltageWarning l mv us t) s l fun L =>
       ((s.lane l).tick t).reported L 0x0503 0xFF ∧ (s.lane l).keepsRegs faultRegs L ∧ (s.lane l).keeps (.time :: faultParts) L) ∧
     (∀ mv : Int, 57000 < mv → (s.lane l).pwr.overvolt = false → Runs (.supplyOvervoltage l mv t) s fun u => sameButSupply l s u ∧
       (u.lane l).pwr.overvolt = true ∧ (u.lane l).pwr.supMv = mv ∧ ((s.lane l).tick t).reported (u.lane l) 0x0504 0xFF ∧
       (s.lane l).keepsRegs faultRegs (u.lane l) ∧ (s.lane l).keeps (.time :: .pwr :: faultParts) (u.lane l) ∧
       (nth u.stages (laneIx l)).supHigh = true ∧ (nth u.stages (laneIx l)).en = false) ∧
     (∀ (mv : Int) (us : Nat), (s.lane l).pwr.overvolt = true → mv < 56000 → 10000 ≤ us →
       Runs (.overvoltageRecovery l mv us t) s fun u => sameButSupply l s u ∧ (u.lane l).pwr.overvolt = false ∧
         (u.lane l).pwr.supMv = mv ∧ (s.lane l).keeps [.time, .pwr, .safe] (u.lane l) ∧ (nth u.stages (laneIx l)).supHigh = false) ∧
     (∀ mv us : Nat, mv < 4750 ∨ 5250 < mv → 100 ≤ us → LaneRuns (.sensorSupplyFault l mv us t) s l fun L =>
       ((s.lane l).tick t).reported L 0x070A 0xFF ∧ L.pos.encValid = false ∧ L.pos.hallValid = false ∧
       L.on Reg.POS_SSI_STAT_VALID = false ∧ (s.lane l).keeps (.time :: .pos :: faultParts) L))

/-- R70, R71, R88: a keyed SYS_REQ write in STANDBY, ARM or DRIVE with nothing carried yet makes the lane carry the target (FOLD at once as R61 says); a
target it may not name is refused with reason 0x05; a second, other target leaves the lower of the two; a target that the other lanes have agreed in
the last four rounds is taken as theirs. A write without the key is refused as 0x0D04. R45, R61, R70, R77, R78, R104, R283: FOLD preempts the
transition in flight, aborts a slice, and the lane is in FOLD with FAULT_x released and its session at an end; a lane already in FOLD is left alone.
Says where these complete: foldEntry, sysReq. -/
def Obligations.StateRequestsAndFold : Prop :=
  (∀ (s : State) (l : Lane) (tgt : BitVec 3), (s.lane l).up = true →
     (tgt.toNat = stFold → LaneRuns (.sysReq l 0x5A17 tgt) s l fun L => (s.lane l).keeps [.sys] L ∧ L.sys.fold = true) ∧
     (tgt.toNat = stOff ∨ stFold < tgt.toNat ∨ ((s.lane l).st = stFold ∧ tgt.toNat ≠ stPark ∧ tgt.toNat ≠ stFold) →
       LaneRuns (.sysReq l 0x5A17 tgt) s l fun L => (s.lane l).keeps [.regs] L ∧ (s.lane l).keepsRegs [0x4000000C] L ∧
         L.rd Reg.SYS_TRANS_STAT_RESULT = 4 ∧ L.rd Reg.SYS_TRANS_STAT_REASON = 5) ∧
     (tgt.toNat ≠ stOff → tgt.toNat < stFold → (s.lane l).st ≠ stFold ∨ tgt.toNat = stPark → (s.lane l).sys.want = none →
       (s.lane l).late tgt.toNat = true → LaneRuns (.sysReq l 0x5A17 tgt) s l fun L => (s.lane l).keeps [.sys] L ∧ L.sys.want = none) ∧
     (tgt.toNat ≠ stOff → tgt.toNat < stFold → (s.lane l).st ≠ stFold ∨ tgt.toNat = stPark →
       (s.lane l).sys.want.isSome = true ∨ (s.lane l).late tgt.toNat = false →
       LaneRuns (.sysReq l 0x5A17 tgt) s l fun L => (s.lane l).keeps [.regs, .sys] L ∧ (s.lane l).keepsRegs [0x4000000C] L ∧
         L.sys.want = some (match (s.lane l).sys.want with | none => tgt.toNat | some w => min w tgt.toNat)) ∧
     (∀ key : BitVec 16, key ≠ 0x5A17 → LaneRuns (.sysReq l key tgt) s l fun L =>
       (s.lane l).reported L 0x0D04 0xFF ∧ (s.lane l).keeps faultParts L ∧ (s.lane l).keepsRegs faultRegs L)) ∧
  (∀ (s : State) (l : Lane) (t : Nat), (s.lane l).up = true → (s.lane l).sys.fold = true → (s.lane l).sys.folded = false →
     ((s.lane l).st ≠ stFold → LaneRuns (.foldEntry l true t) s l fun L =>
       (s.lane l).keeps [.time, .regs, .sys, .fc, .safe, .chn, .mbx, .sec] L ∧
       (s.lane l).keepsRegs [0x40000004, 0x4000000C, 0x40000024, 0x40000028, 0x400D0008, 0x400E, 0x400F] L ∧
       L.st = stFold ∧ L.rd Reg.SYS_STATE_TARGET = stFold ∧ L.rd Reg.SYS_STATE_PHASE = 0 ∧ L.on Reg.SYS_STATE_PEND_VALID = false ∧
       L.fc.faultX = false ∧ L.sys.folded = true ∧ L.sys.want = none ∧ L.chn.active = false ∧
       ((s.lane l).mbx.asked = [] → L.reg 0x400F000C = 0#32) ∧
       ((s.lane l).arming = true → L.rd Reg.SYS_CLK_STAT_CORE_FREQ = 0 ∧ L.rd Reg.SYS_BIAS_BIAS = 0)) ∧
     ((s.lane l).st = stFold → ∀ c, LaneRuns (.foldEntry l c t) s l fun L => L = (s.lane l).tick t))

/-- R59, R62, R66, R69: a block that has answered DELAY for 10 ms refuses in the rounds from then on, COM with reason 0x02, another with 0x06; a
handshake that lasts 20 ms is abandoned, an upward transition that outlasts its limit fails, in every lane in step. The state stays, the phase is
idle, and the result says which. A REFUSE that any lane hears ends a handshake, and a transition to ARM with clock and bias of STANDBY. R59, R64,
R78, R185, R209, R318: the steps of STANDBY to ARM. The sequence asks every assigned stage to precharge and raises the bias, or, hot, runs at 600
MHz; a self-test that passes is a step done, one that fails makes its block refuse and reports 0x0C04; at a slot start, with every step done and
every assigned stage READY in each lane that arms, those lanes are in ARM together. R64, R78 to R80: the core clock goes to 800 MHz only when the
forward bias has settled; above 140 °C a core at 800 MHz goes down to 600 MHz with zero bias and 0x0E05, and TJ_HOT shows it in every state; below
135 °C a core at 600 MHz goes up again. Says where these complete: armSequence, biasSettled, armSelftestComplete, armComplete,
handshakeDelayExceeded, transitionTimeout, thermalClockDown, thermalClockUp. -/
def Obligations.TransitionsAndClock : Prop :=
  (∀ (s : State) (l : Lane) (t : Nat), (s.lane l).up = true →
     (∀ (b at_ : Nat), b < 16 → (s.lane l).rd Reg.SYS_STATE_PHASE = 1 → (s.lane l).rd (Reg.SYS_HS_STAT_ANS b) = 2 →
       (b, at_) ∈ (s.lane l).sys.delayAt → at_ + 10000000 ≤ t →
       LaneRuns (.handshakeDelayExceeded l b t) s l fun L => (s.lane l).keeps [.time, .sys] L ∧
         L.answers.getD b (0, 0) = (3, if b = 5 then 2 else 6)) ∧
     ((s.lane l).rd Reg.SYS_STATE_PHASE = 1 → (s.lane l).sys.started + 20000000 ≤ t →
       Runs (.transitionTimeout l t) s fun u => u.stages = s.stages ∧ (∀ k, s.inStep l k = false → u.lane k = s.lane k) ∧
         ∀ k, s.inStep l k = true → (s.lane k).sys.started + 20000000 ≤ t → (s.lane k).on Reg.SYS_STATE_PEND_VALID = false →
           (s.lane k).keeps [.time, .regs] (u.lane k) ∧ (s.lane k).keepsRegs [0x40000004, 0x4000000C] (u.lane k) ∧
           (u.lane k).rd Reg.SYS_STATE_PHASE = 0 ∧ (u.lane k).st = (s.lane k).st ∧ (u.lane k).rd Reg.SYS_TRANS_STAT_RESULT = 5 ∧
           (u.lane k).rd Reg.SYS_TRANS_STAT_REASON = 0x0E) ∧
     ((s.lane l).arming = true → (s.lane l).sys.started + 30000000 ≤ t →
       Runs (.transitionTimeout l t) s fun u => (∀ k, s.inStep l k = false → u.lane k = s.lane k) ∧
         (∀ g, (u.stage g) = (s.stage g).deEnergise) ∧
         ∀ k, s.inStep l k = true → (s.lane k).sys.started + 30000000 ≤ t → (s.lane k).on Reg.SYS_STATE_PEND_VALID = false →
           (s.lane k).keeps [.time, .regs, .sys] (u.lane k) ∧ (u.lane k).rd Reg.SYS_STATE_PHASE = 0 ∧ (u.lane k).st = stStandby ∧
           (u.lane k).rd Reg.SYS_TRANS_STAT_RESULT = 6 ∧ (u.lane k).rd Reg.SYS_TRANS_STAT_REASON = 0x0E ∧
           (u.lane k).rd Reg.SYS_CLK_STAT_CORE_FREQ = 0 ∧ (u.lane k).rd Reg.SYS_BIAS_BIAS = 0) ∧
     (∀ (L : LaneSt) (all : List (List (Nat × Nat))) (b why : Nat), refusal all = some (b, why) → b < 32 → why < 256 →
       L.on Reg.SYS_STATE_PEND_VALID = false →
       (L.rd Reg.SYS_STATE_PHASE = 1 → (L.handshake all).rd Reg.SYS_STATE_PHASE = 0 ∧ (L.handshake all).st = L.st ∧
         (L.handshake all).rd Reg.SYS_TRANS_STAT_RESULT = 4 ∧ (L.handshake all).rd Reg.SYS_TRANS_STAT_REASON = why ∧
         (L.handshake all).rd Reg.SYS_TRANS_STAT_BLOCK = b) ∧
       (L.arming = true → (L.handshake all).rd Reg.SYS_STATE_PHASE = 0 ∧ (L.handshake all).st = stStandby ∧
         (L.handshake all).rd Reg.SYS_TRANS_STAT_RESULT = 6 ∧ (L.handshake all).rd Reg.SYS_TRANS_STAT_REASON = why ∧
         (L.handshake all).rd Reg.SYS_TRANS_STAT_BLOCK = b ∧ (L.handshake all).rd Reg.SYS_CLK_STAT_CORE_FREQ = 0 ∧
         (L.handshake all).rd Reg.SYS_BIAS_BIAS = 0))) ∧
  (∀ (s : State) (l : Lane) (t : Nat), (s.lane l).up = true → (s.lane l).arming = true →
     Runs (.armSequence l t) s (fun u => (∀ o, o ≠ l → u.lane o = s.lane o) ∧ u.gX = s.gX ∧ u.gY = s.gY ∧
       (∀ g, (u.stage g).energiseReq = ((s.stage g).energiseReq || (s.lane l).assigned (stgIx g))) ∧
       ((s.lane l).on Reg.SYS_BIAS_TJ_HOT = false → (u.lane l).rd Reg.SYS_BIAS_BIAS = 1 ∧ (u.lane l).on Reg.SYS_BIAS_SETTLED = false ∧
         (u.lane l).sys.freqNext = some 2 ∧ (u.lane l).sys.armDone = 0) ∧
       ((s.lane l).on Reg.SYS_BIAS_TJ_HOT = true → (u.lane l).rd Reg.SYS_CLK_STAT_CORE_FREQ = 1 ∧ (u.lane l).sys.freqNext = none ∧
         (u.lane l).sys.armDone = 1#5)) ∧
     (∀ c : Tri Bool, Runs (.armSelftestComplete l true true true c t) s fun u => (∀ o, o ≠ l → u.lane o = s.lane o) ∧ u.gX = s.gX ∧ u.gY = s.gY ∧
       (u.lane l).sys.armDone = (s.lane l).sys.armDone ||| 2#5 ∧ (u.lane l).arming = true ∧
       (nth c (laneIx l) = false → (u.lane l).on (Reg.MEAS_STAT_OUT_OF_SERVICE.bit (laneIx l)) = true) ∧
       ∀ g, stgIx g = laneIx l → (u.stage g).copyFail = !nth c (laneIx l)) ∧
     ((s.lane l).sys.stepFail = none → Runs (.armSelftestComplete l false true true ⟨true, true, true⟩ t) s fun u =>
       (∀ o, o ≠ l → u.lane o = s.lane o) ∧ (u.lane l).sys.stepFail = some 0 ∧ (u.lane l).sys.armDone = (s.lane l).sys.armDone ∧
       (u.lane l).answers.getD 0 (0, 0) = (3, 0x0F)) ∧
     (t % 50000 = 0 → (∀ k, s.inStep l k = true → (s.lane k).armReady t = true) →
       Runs (.armComplete l t) s fun u => u.stages = s.stages ∧ (∀ k, s.inStep l k = false → u.lane k = s.lane k) ∧
         ∀ k, s.inStep l k = true → (u.lane k).st = stArm ∧ (u.lane k).rd Reg.SYS_STATE_PHASE = 0 ∧
           (u.lane k).rd Reg.SYS_TRANS_STAT_RESULT = 1 ∧ (u.lane k).pos.excluded = false ∧
           ((s.lane k).recordsIndex = true → (u.lane k).pos.idxAt = some (s.lane k).pos.encTotal) ∧
           ∀ i < 3, nth (s.lane k).meas.removed i = false → nth (s.lane k).meas.copyFail i = false →
             (u.lane k).on (Reg.MEAS_STAT_OUT_OF_SERVICE.bit i) = false)) ∧
  (∀ (s : State) (l : Lane) (t : Nat), (s.lane l).up = true →
     ((s.lane l).on Reg.SYS_BIAS_SETTLED = false → LaneRuns (.biasSettled l t) s l fun L => (s.lane l).keeps [.time, .regs, .sys] L ∧
       (s.lane l).keepsRegs [0x40000024, 0x40000028] L ∧ L.on Reg.SYS_BIAS_SETTLED = true ∧ L.sys.freqNext = none ∧
       L.sys.armDone = (s.lane l).sys.armDone ||| 1#5 ∧
       L.rd Reg.SYS_CLK_STAT_CORE_FREQ = ((s.lane l).sys.freqNext.getD ((s.lane l).rd Reg.SYS_CLK_STAT_CORE_FREQ)) % 4) ∧
     (∀ tj : Int, 140 < tj → (s.lane l).fastCore = true →
       LaneRuns (.thermalClockDown l tj t) s l fun L => (s.lane l).keeps (.time :: faultParts) L ∧
         (s.lane l).keepsRegs (0x40000024 :: 0x40000028 :: faultRegs) L ∧ L.on Reg.SYS_BIAS_TJ_HOT = true ∧
         L.rd Reg.SYS_CLK_STAT_CORE_FREQ = 1 ∧ L.rd Reg.SYS_BIAS_BIAS = 0 ∧ L.fastCore = false ∧ ((s.lane l).tick t).reported L 0x0E05 0xFF) ∧
     (∀ tj : Int, 140 < tj → (s.lane l).fastCore = false →
       LaneRuns (.thermalClockDown l tj t) s l fun L => (s.lane l).keeps [.time, .regs] L ∧ (s.lane l).keepsRegs [0x40000028] L ∧
         L.on Reg.SYS_BIAS_TJ_HOT = true) ∧
     (∀ tj : Int, tj < 135 → (s.lane l).on Reg.SYS_BIAS_TJ_HOT = true →
       LaneRuns (.thermalClockUp l tj t) s l fun L => (s.lane l).keeps [.time, .regs, .sys] L ∧
         (s.lane l).keepsRegs [0x40000028] L ∧ L.on Reg.SYS_BIAS_TJ_HOT = false ∧
         ((s.lane l).rd Reg.SYS_CLK_STAT_CORE_FREQ = 1 → L.rd Reg.SYS_BIAS_BIAS = 1 ∧ L.on Reg.SYS_BIAS_SETTLED = false ∧ L.sys.freqNext = some 2) ∧
         ((s.lane l).rd Reg.SYS_CLK_STAT_CORE_FREQ ≠ 1 → L.sys = (s.lane l).sys ∧ L.rd Reg.SYS_BIAS_BIAS = (s.lane l).rd Reg.SYS_BIAS_BIAS)))

/-- R290, R293, R295, R298, R461: a source whose line has failed asserts no more; one that a mask covers, or whose own level is L0, is only counted; one
at L1 or above whose class is closed, in a lane not under L3, opens the class and sets NEW; the first one is latched with its identifier, detail
(0xFF where its kind has none) and level; at L3 the lane is under L3, carries claim 0, drives lane failed and is SILENT at the next slot; at L4 the
module goes to FOLD. R290, R291, R295, R310: a failed line reports 0x0CFE and its source; another lane's line drives SYS_SIBLING; a lane whose L3
reaction is due is SILENT with lane failed on its line and FAULT_x released; FC_INJ raises its source only when injection is open. Says where these
complete: faultRaise, lineFault, siblingLineChange, laneSilent, faultInject. -/
def Obligations.FaultSourcesReact : Prop :=
  (∀ (s : State) (l : Lane) (id : BitVec 16) (d : BitVec 8) (t : Nat), (s.lane l).up = true →
     LaneRuns (.faultRaise l id d t) s l (fun L => ((s.lane l).tick t).reported L id.toNat d.toNat ∧
       (s.lane l).keeps (.time :: faultParts) L ∧ (s.lane l).keepsRegs faultRegs L) ∧
     (id ∈ (s.lane l).fc.stuck → LaneRuns (.faultRaise l id d t) s l fun L => L = (s.lane l).tick t) ∧
     (id ∉ (s.lane l).fc.stuck → (s.lane l).masked id.toNat (detailOf id.toNat d.toNat) = false → (s.lane l).ownLevel id.toNat ≠ 0 → 1 ≤ id.toNat / 256 → id.toNat / 256 ≤ 15 →
       (s.lane l).fc.under3 = false → (s.lane l).on (Reg.FC_OPEN (id.toNat / 256)) = false →
       LaneRuns (.faultRaise l id d t) s l fun L => L.on (Reg.FC_OPEN (id.toNat / 256)) = true ∧
         L.on (Reg.FC_NEW (id.toNat / 256)) = true ∧ L.fc.irq = true ∧ L.on Reg.FC_STAT_FIRST_VALID = true ∧
         ((s.lane l).on Reg.FC_STAT_FIRST_VALID = false → L.rd Reg.FC_FIRST_ID = id.toNat ∧ L.rd Reg.FC_FIRST_DETAIL = detailOf id.toNat d.toNat) ∧
         ((s.lane l).on Reg.FC_STAT_FIRST_VALID = true → L.reg 0x40010004 = (s.lane l).reg 0x40010004 ∧ L.on Reg.FC_STAT_OVF = true) ∧
         ((s.lane l).ownLevel id.toNat = 3 → L.fc.under3 = true ∧ L.fc.silentNext = true ∧ L.fc.line = 1 ∧ L.fc.faultX = false ∧
           ∀ i < 3, L.rd (Reg.CLAIM_OF i) = 0) ∧
         ((s.lane l).ownLevel id.toNat = 4 → L.sys.fold = true ∧ L.fc.faultX = false))) ∧
  (∀ (s : State) (l : Lane) (t : Nat), (s.lane l).up = true →
     (∀ (id : BitVec 16) (ns : Nat), 10 ≤ ns → id ∉ (s.lane l).fc.stuck → LaneRuns (.lineFault l id ns t) s l fun L =>
       (s.lane l).keeps (.time :: faultParts) L ∧ L.on Reg.FC_LINE_VALID = true ∧ id ∈ L.fc.stuck ∧
       L.rd Reg.FC_LINE_ID = if (s.lane l).on Reg.FC_LINE_VALID then (s.lane l).rd Reg.FC_LINE_ID else id.toNat) ∧
     (∀ (id : BitVec 16) (ns : Nat), ns < 10 ∨ id ∈ (s.lane l).fc.stuck → LaneRuns (.lineFault l id ns t) s l fun L => L = (s.lane l).tick t) ∧
     (∀ (o : Lane) (p : Nat), o ≠ l → p < 4 → p ≠ (s.lane l).rd (siblingFld (laneIx o)) → LaneRuns (.siblingLineChange l o p t) s l fun L =>
       (s.lane l).keeps (.time :: faultParts) L ∧ (s.lane l).keepsRegs (0x40000034 :: faultRegs) L ∧
       L.rd (siblingFld (laneIx o)) = p ∧ (p = 1 → L.on (shadowFld.bit (11 + laneIx o)) = true) ∧
       (p = 2 → ((s.lane l).tick t).reported L 0x0402 (laneIx o + 1))) ∧
     ((s.lane l).fc.silentNext = true → t % 50000 = 0 → LaneRuns (.laneSilent l t) s l fun L => (s.lane l).keeps [.time, .regs, .fc] L ∧
       (s.lane l).keepsRegs [0x40000004, 0x40030004] L ∧ L.mode = 3 ∧ L.fc.line = 1 ∧ L.fc.faultX = false ∧
       ∀ i < 3, L.rd (Reg.CLAIM_OF i) = 0) ∧
     (∀ (id : BitVec 16) (d : BitVec 8), LaneRuns (.faultInject l id d t) s l fun L =>
       (s.lane l).keeps (.time :: faultParts) L ∧ (s.lane l).keepsRegs faultRegs L ∧
       if (s.lane l).injectOpen then ((s.lane l).tick t).reported L id.toNat d.toNat
       else ((s.lane l).tick t).reported L 0x0B07 0xFF))

/-- R294, R295, R300 to R302, R311: the keyed acknowledgement closes exactly the classes it names, keeping their counts; REARM clears the first source;
both refuse another key as 0x0D04. The oldest queued record goes to its place in the ring of 1,024; a mask closes 10 µs after its reaction. R296,
R299, R304, R455, R456: the thermal trips report their sources after 10 ms and take the stage out of service; a lane tripped by 0x0E06 resyncs after
1 s below 135 °C; a clock fault in two windows is reported, and a crystal fault puts the lane on its RC. Says where these complete:
acknowledgeClass, rearm, faultRecordWritten, maskClose, thermalRejoin, laneThermalTrip, stageThermalTrip, windingThermalTrip, clockFault. -/
def Obligations.FaultsAcknowledgedAndLimits : Prop :=
  (∀ (s : State) (l : Lane), (s.lane l).up = true →
     (∀ m : BitVec 15, LaneRuns (.acknowledgeClass l 0x6C1E m) s l fun L => (s.lane l).keeps [.regs, .fc] L ∧
       (∀ c, 1 ≤ c → c ≤ 15 → L.on (Reg.FC_OPEN c) = (!m.getLsbD (c - 1) && (s.lane l).on (Reg.FC_OPEN c)) ∧
         L.rd (Reg.FC_CNT_COUNT c) = (s.lane l).rd (Reg.FC_CNT_COUNT c) ∧
         (m.getLsbD (c - 1) = true → L.rd (Reg.FC_CNT_LEVEL c) = 0 ∧ ∀ w ∈ L.fc.withdraw, w.1 ≠ c))) ∧
     LaneRuns (.rearm l 0x6C1E) s l (fun L => (s.lane l).keeps [.regs] L ∧
       (s.lane l).keepsRegs [0x40010000, 0x40010004, 0x4001001C] L ∧ L.on Reg.FC_STAT_FIRST_VALID = false ∧
       L.on Reg.FC_STAT_OVF = false ∧ L.on Reg.FC_LINE_VALID = false ∧ L.rd Reg.FC_STAT_OPEN = (s.lane l).rd Reg.FC_STAT_OPEN) ∧
     (∀ (k : BitVec 16) (m : BitVec 15), k ≠ 0x6C1E →
       LaneRuns (.acknowledgeClass l k m) s l (fun L => (s.lane l).reported L 0x0D04 0xFF) ∧
       LaneRuns (.rearm l k) s l (fun L => (s.lane l).reported L 0x0D04 0xFF)) ∧
     (∀ (t : Nat) (r : List Word) (q : List (List Word)), (s.lane l).fc.queue = r :: q → r.length = 128 →
       LaneRuns (.faultRecordWritten l t) s l fun L => (s.lane l).keeps [.time, .regs, .mem, .fc] L ∧
         (s.lane l).keepsRegs [0x40010020] L ∧ L.fc.queue = q ∧ L.fc.nextRec = ((s.lane l).fc.nextRec + 1) % 1024 ∧
         ∀ a, a < recordAddr (s.lane l).fc.nextRec ∨ recordAddr (s.lane l).fc.nextRec + 512 ≤ a → L.byte a = (s.lane l).byte a) ∧
     (∀ t : Nat, LaneRuns (.maskClose l t) s l fun L => (s.lane l).keeps [.time, .regs, .fc] L ∧
       (s.lane l).keepsRegs [0x40010018] L ∧ (∀ c ∈ L.fc.closing, t < c.2 ∧ c ∈ (s.lane l).fc.closing) ∧
       ∀ b u, b < 16 → (b, u) ∈ (s.lane l).fc.closing → u ≤ t → L.on (shadowFld.bit b) = false)) ∧
  (∀ (s : State) (l : Lane) (t : Nat), (s.lane l).up = true →
     (∀ (tj : Int) (ms : Nat), 150 < tj → 10 ≤ ms → LaneRuns (.laneThermalTrip l tj ms t) s l fun L =>
       ((s.lane l).tick t).reported L 0x0E06 0xFF ∧ (s.lane l).keeps (.time :: faultParts) L ∧ (s.lane l).keepsRegs faultRegs L) ∧
     (∀ (g : Stg) (u : Nat), nth (s.lane l).com.tjOver (stgIx g) = some u → u + 10000000 ≤ t → LaneRuns (.stageThermalTrip l g t) s l fun L =>
       ((s.lane l).tick t).reported L 0x0E02 (stgIx g) ∧ (s.lane l).keeps (.time :: .meas :: faultParts) L ∧
       L.on (Reg.MEAS_STAT_OUT_OF_SERVICE.bit (stgIx g)) = true ∧ L.on (Reg.COM_STAT_OUT.bit (stgIx g)) = true ∧
       nth L.meas.removed (stgIx g) = true) ∧
     (∀ (g : Stg) (u : Nat), nth (s.lane l).com.twOver (stgIx g) = some u → u + 10000000 ≤ t →
       LaneRuns (.windingThermalTrip l g t) s l fun L =>
         ((s.lane l).tick t).reported L 0x0E04 (stgIx g) ∧ (s.lane l).keeps (.time :: .meas :: faultParts) L ∧
         L.on (Reg.MEAS_STAT_OUT_OF_SERVICE.bit (stgIx g)) = true ∧ L.on (Reg.COM_STAT_OUT.bit (stgIx g)) = true ∧
         nth L.meas.removed (stgIx g) = true) ∧
     (∀ (tj : Int) (ms : Nat), (s.lane l).fc.thermal = true → (s.lane l).fc.hold = false → (s.lane l).isSplit = false → tj < 135 → 1000 ≤ ms →
       LaneRuns (.thermalRejoin l tj ms t) s l fun L => (s.lane l).keeps [.time, .regs, .fc, .agr, .com] L ∧ L.mode = 2 ∧
         L.fc.thermal = false ∧ L.fc.under3 = false ∧ ∀ i < 3, L.rd (Reg.CLAIM_OF i) = 0) ∧
     (∀ k pm w : Nat, 1 ≤ k → k ≤ 4 → 10 < pm → 2 ≤ w → LaneRuns (.clockFault l k pm w t) s l fun L =>
       (s.lane l).keeps (.time :: faultParts) L ∧
       ((s.lane l).tick t).reported L (if k = 1 then 0x0601 else if k = 3 then 0x0603 else 0x0602) 0xFF ∧
       (k = 1 → L.on Reg.SYS_CLK_STAT_RC_FALLBACK = true ∧ L.on Reg.SYS_CLK_STAT_XTAL_OK = false) ∧
       (k = 2 → L.on Reg.SYS_CLK_STAT_TPLL_LOCK = false) ∧ (k = 4 → L.on Reg.SYS_CLK_STAT_CPLL_LOCK = false)))

/-- R262, R264, R274: energising in its steps. A stage that was asked, is de-energised with nothing latched and has its supply in range precharges; a
link within 2 V closes the reverse-polarity switch and one outside it after 7.9 ms latches fault 11; gates at 11 V close the isolation switches and
lower ones latch fault 12; 16 pulses make it READY. De-energising leaves it with its inverter off. Says where these complete: energise,
prechargeComplete, isolationSwitchesOn, bootstrapsCharged, deEnergise. -/
def Obligations.StageEnergises : Prop :=
  ∀ (s : State) (g : Stg),
    (∀ mv : Int, (s.stage g).energiseReq = true → (s.stage g).st = 1 → (s.stage g).latch = 0 →
      (s.stage g).supLost = false → 18000 ≤ mv → mv ≤ 56000 → ∀ t : Nat, StageRuns (.energise g mv t) s g fun G =>
        G = { (s.stage g) with st := 2, energiseReq := false, clampOff := false, energiseAt := t }) ∧
    (∀ (v sup : Int) (t : Nat), (s.stage g).st = 2 → v - 2000 ≤ sup → sup ≤ v + 2000 → StageRuns (.prechargeComplete g v sup t) s g fun G =>
      G = { (s.stage g) with rp := true, vdc := (v / 10).toNat }) ∧
    (∀ (v sup : Int) (t : Nat), (s.stage g).st = 2 → sup < v - 2000 ∨ v + 2000 < sup → t < (s.stage g).energiseAt + 7900000 →
      StageRuns (.prechargeComplete g v sup t) s g fun G => G = s.stage g) ∧
    (∀ (v sup : Int) (t : Nat), (s.stage g).st = 2 → sup < v - 2000 ∨ v + 2000 < sup → (s.stage g).energiseAt + 7900000 ≤ t →
      StageRuns (.prechargeComplete g v sup t) s g fun G => G.rp = false ∧ G.latch = (s.stage g).latch ||| 0x0800#16 ∧ G.st = 4 ∧ G.cmd = none) ∧
    (∀ gates : Tri Nat, (s.stage g).st = 2 → (s.stage g).rp = true →
      StageRuns (.isolationSwitchesOn g gates) s g fun G =>
        if 110 ≤ gates.a ∧ 110 ≤ gates.b ∧ 110 ≤ gates.c then G.isoOn = true ∧ G.latch = (s.stage g).latch ∧ G.st = 2
        else G.latch = (s.stage g).latch ||| 0x1000#16 ∧ G.st = 4) ∧
    (∀ n : Nat, (s.stage g).st = 2 → (s.stage g).isoOn = true → 16 ≤ n → StageRuns (.bootstrapsCharged g n) s g fun G =>
      G = { (s.stage g) with bootOk := .all true, st := 3 }) ∧
    ((s.stage g).st ≠ 0 → StageRuns (.deEnergise g) s g fun G => G.cmd = none ∧ G.clamp = false ∧ G.energiseReq = false ∧
      G.latch = (s.stage g).latch ∧ ((s.stage g).isolated = true → G.rp = false) ∧ ((s.stage g).isolated = false → G.isolating = true))

/-- R260, R263, R265, R266, R268, R274: what each protection does: a droop opens every series switch and latches fault 8; a first desaturation above 6.0
V from 100 ns, or above 2.0 V from the blanking time, or an overcurrent latches fault 2, 1 or 3 and turns the inverter off, a lower one does
nothing; a fourth shoot-through period latches fault 5; a low gate supply latches fault 7; the clamp engages above 58 V and its release turns all
six off for the period. R267: the second short-group latch within 10 s locks the stage out; and R270: a rising edge of EN after 20 µs low then
leaves the short group, while in a stage not locked out it clears every latch whose condition is gone. R271 to R274: a keyed STG_REARM starts an EN
pulse of two frames on its stages, whose end sends EN = 1 again unless a safe stop is in force; in ARM or DRIVE it asks a de-energised stage to
energise, a latched one once its latch is cleared. A phase of an isolating stage opens below 2 A; after 5 ms it opens anyway and fault 12 latches.
Says where these complete: gateDroop, desaturation, shuntOvercurrent, shootThroughCommand, gateSupplyUndervoltage, clampEngage, clampRelease,
enRisingEdge, stgRearm, enPulseEnd, phaseIsolate, isolationTimeout. -/
def Obligations.StageProtects : Prop :=
  (∀ (s : State) (g : Stg),
     (∀ mv us : Nat, (s.stage g).energised = true → (s.stage g).st ≠ 0 → mv < 10000 → 10 ≤ us → StageRuns (.gateDroop g mv us) s g fun G =>
       G.rp = false ∧ G.isolated = true ∧ G.cmd = none ∧ G.latch = (s.stage g).latch ||| 0x0100#16 ∧ G.st = 4) ∧
     (∀ (k : Leg) (mv ns t : Nat), (s.stage g).energised = true → (s.stage g).st ≠ 0 → (s.stage g).shortLatched = false →
       (s.stage g).lastDesat = none →
       let hard := 6000 < mv ∧ 100 ≤ ns
       let normal := 2000 < mv ∧ 25 * (s.stage g).blank ≤ ns
       (hard ∨ normal → StageRuns (.desaturation g k mv ns t) s g fun G => G.cmd = none ∧ G.st = 4 ∧
         (hard → G.latch.getLsbD 2 = true) ∧ (¬hard → G.latch.getLsbD 1 = true) ∧ G.lastDesat = some (k, t) ∧
         G.shorts = t :: (s.stage g).shorts) ∧
       (¬hard → ¬normal → StageRuns (.desaturation g k mv ns t) s g fun G => G = s.stage g)) ∧
     (∀ amps t : Nat, (s.stage g).st ≠ 0 → (s.stage g).ocLevel < amps → (s.stage g).shortLatched = false →
       StageRuns (.shuntOvercurrent g amps t) s g fun G => G.cmd = none ∧ G.st = 4 ∧ G.latch.getLsbD 3 = true ∧
         G.shorts = t :: (s.stage g).shorts) ∧
     (∀ (k : Leg) (ns p : Nat), 5 < ns → (s.stage g).st ≠ 0 → (s.stage g).stcmdAt = some p → (s.stage g).p = p + 1 → (s.stage g).stcmdRun = 3 →
       StageRuns (.shootThroughCommand g k ns) s g fun G => G.stcmd = ((s.stage g).stcmd + 1) % 256 ∧ G.stcmdRun = 4 ∧
         G.latch = (s.stage g).latch ||| 0x0020#16 ∧ G.cmd = none) ∧
     (∀ (k : Leg) (ns : Nat), 5 < ns → (s.stage g).stcmdAt = none → StageRuns (.shootThroughCommand g k ns) s g fun G =>
       G.stcmd = ((s.stage g).stcmd + 1) % 256 ∧ G.stcmdRun = 1 ∧ G.latch = (s.stage g).latch ∧ G.cmd = (s.stage g).cmd) ∧
     (∀ mv ns : Nat, (s.stage g).st ≠ 0 → mv < 10000 → 1000 ≤ ns → StageRuns (.gateSupplyUndervoltage g mv ns) s g fun G =>
       G.latch = (s.stage g).latch ||| 0x0080#16 ∧ G.cmd = none ∧ G.st = 4) ∧
     (∀ mv : Nat, (s.stage g).energised = true → 58000 < mv → (s.stage g).clampOff = false → (s.stage g).clamp = false →
       StageRuns (.clampEngage g mv) s g fun G => G.clamp = true ∧ G.clampEvt = ((s.stage g).clampEvt + 1) % 256 ∧
         G.cmd = (s.stage g).cmd ∧ G.latch = (s.stage g).latch) ∧
     (∀ mv : Nat, (s.stage g).clamp = true → mv < 54000 → StageRuns (.clampRelease g mv) s g fun G =>
       G = { (s.stage g) with clamp := false, restOff := true })) ∧
  (∀ (s : State) (g : Stg),
     (∀ amps t u : Nat, (s.stage g).st ≠ 0 → (s.stage g).ocLevel < amps → (s.stage g).shortLatched = false → u ∈ (s.stage g).shorts →
       t ≤ u + 10000000000 → StageRuns (.shuntOvercurrent g amps t) s g fun G => G.lockout = true ∧ G.latch.getLsbD 15 = true ∧
         G.latch.getLsbD 3 = true) ∧
     (∀ amps t : Nat, (s.stage g).st ≠ 0 → (s.stage g).ocLevel < amps → (s.stage g).shortLatched = false →
       (∀ u ∈ (s.stage g).shorts, u + 10000000000 < t) → StageRuns (.shuntOvercurrent g amps t) s g fun G =>
         G.lockout = (s.stage g).lockout) ∧
     (∀ (us : Nat) (c : BitVec 16) (mv : Int), (s.stage g).en = true → (s.stage g).enSeen = false → 20 ≤ us →
       StageRuns (.enRisingEdge g us c mv) s g fun G => G.enSeen = true ∧ G.tie = false ∧
         G.unhealthy = .all false ∧
         ((s.stage g).lockout = true → (s.stage g).latch &&& 0x801E#16 = G.latch &&& 0x801E#16) ∧
         ((s.stage g).lockout = false → G.latch = (s.stage g).latch &&& c &&& 0x3FC0#16))) ∧
  (∀ (s : State) (l : Lane) (g : Stg),
     (∀ m : BitVec 3, (s.lane l).st = stArm ∨ (s.lane l).st = stDrive ∨ (s.lane l).st = stStandby →
       LaneRuns (.stgRearm l 0x3C96 m) s l fun L => (s.lane l).keeps [.safe] L ∧
         ∀ i < 3, nth L.safe.pulse i = if m.getLsbD i then 3 else nth (s.lane l).safe.pulse i) ∧
     (∀ (m : BitVec 3) (k : BitVec 16), (s.lane l).up = true → k ≠ 0x3C96 →
       LaneRuns (.stgRearm l k m) s l fun L => (s.lane l).reported L 0x0D04 0xFF ∧ L.safe = (s.lane l).safe) ∧
     (∀ mv : Int, (s.lane l).up = true → nth (s.lane l).safe.pulse (stgIx g) = 1 →
       Runs (.enPulseEnd l g mv) s fun u => (∀ o, o ≠ l → u.lane o = s.lane o) ∧ (∀ o, o ≠ g → u.stage o = s.stage o) ∧
         (s.lane l).keeps [.safe] (u.lane l) ∧ nth (u.lane l).safe.pulse (stgIx g) = 0 ∧
         nth (u.lane l).safe.en (stgIx g) = (((s.lane l).enables || (s.lane l).st == stStandby) && !(s.lane l).stopped l (stgIx g)) ∧
         ((s.lane l).st = stArm ∨ (s.lane l).st = stDrive → (s.stage g).st = 1 → (s.stage g).latch = 0 → 18000 ≤ mv → mv ≤ 56000 →
           (u.stage g).energiseReq = true) ∧
         ((s.lane l).st = stArm ∨ (s.lane l).st = stDrive → (s.stage g).latch ≠ 0 → (u.stage g).pulseAsk = true)) ∧
     (∀ (k : Leg) (ma : Nat), (s.stage g).isolating = true → nth (s.stage g).iso (legIx k) = true → ma < 2000 →
       StageRuns (.phaseIsolate g k ma) s g fun G => nth G.iso (legIx k) = false ∧ G.latch = (s.stage g).latch ∧
         (G.isolated = true → G.isolating = false)) ∧
     (∀ (k : Leg) (us : Nat), (s.stage g).isolating = true → nth (s.stage g).iso (legIx k) = true → 5000 ≤ us →
       StageRuns (.isolationTimeout g k us) s g fun G => nth G.iso (legIx k) = false ∧
         G.latch = (s.stage g).latch ||| 0x1000#16 ∧ G.cmd = none))

/-- R163 to R166, R8: a frame, as the lane has formed it or as it arrives changed, that verifies, came in time and follows on in SEQ counts for the
coming period, another is reported as bad and none counts; one with a claim is the last good command. At the period start, of a powered stage
without TIE: one highest claim by the lane that is accepted, or that also had it in the period before, is accepted; two equal highest claims latch
TIE, and no gate command is applied; without any claim nobody is accepted. The frames are spent, and every lane freezes only its registers of that
stage. Says where these complete: pwmPeriodStart, crossStrapFrame. -/
def Obligations.ArbiterTakesHighestClaim : Prop :=
  ∀ (s : State) (g : Stg), (s.stage g).st ≠ 0 →
    (∀ (l : Lane) (x : Option XFrame) (f : XFrame) (m : Int) (p : Nat) (crc tm : Bool),
      x = some f ∨ x = none ∧ (nth (s.lane l).com.stg (stgIx g)).frame = some f →
      StageRuns (.crossStrapFrame g l x m p crc tm) s g fun G =>
      (if crc = true ∧ tm = true ∧ seqFollows (nth (s.stage g).refs (laneIx l)) f.seq p = true then
        nth G.frames (laneIx l) = some { f with mark := m } ∧
        nth G.lastGood (laneIx l) = (if f.claim % 8 = 0 then nth (s.stage g).lastGood (laneIx l) else some { f with mark := m })
       else nth G.frames (laneIx l) = none ∧ nth G.badNow (laneIx l) = true) ∧
      (∀ o, o ≠ l → nth G.frames (laneIx o) = nth (s.stage g).frames (laneIx o)) ∧ G.cmd = (s.stage g).cmd ∧ G.acc = (s.stage g).acc) ∧
    (∀ i : PeriodIn, Runs (.pwmPeriodStart g i) s fun u => (∀ o, o ≠ g → u.stage o = s.stage o) ∧ u.gX = s.gX ∧ u.gY = s.gY ∧
      (∀ l, (s.lane l).keeps [.snap] (u.lane l)) ∧ (u.stage g).p = i.p ∧ (u.stage g).frames = .all none ∧
      ((s.stage g).tie = false → ∀ w : Lane, (s.stage g).topLanes = [laneIx w] →
        (s.stage g).acc = some w ∨ (s.stage g).wPrev = some w → (u.stage g).acc = some w) ∧
      (2 ≤ (s.stage g).topLanes.length → (u.stage g).tie = true ∧ (u.stage g).acc = none ∧ (u.stage g).cmd = none) ∧
      ((s.stage g).tie = true → (u.stage g).tie = true ∧ (u.stage g).acc = none ∧ (u.stage g).cmd = none) ∧
      ((s.stage g).topLanes = [] → (s.stage g).acc = none → (u.stage g).acc = none ∧ (u.stage g).cmd = none) ∧
      ((u.stage g).cmd.isSome = true → (u.stage g).drives = true))

/-- R8, R163, R174, R175, R274: a status frame of a powered stage shows the lane the stage's state, EN, STO and latches, its accepted lane and its DC
link, and what it reported is spent; a lost frame counts, and from the second on every leg is invalid. R176, R181, R182: a leg with a window takes
its converter's result, one without a window none; and in a period in which exactly one leg is not good its current is minus the sum of the other
two, so that the three add to zero. R41, R193, R194: a conversion of the input that the converter's slot names is in MEAS_GP, as a temperature for
the thermistor, valid unless the converter now fails its reference check; a converter that has failed it converts no more. Says where these
complete: statusFrame, windowClose, gpConversionComplete. -/
def Obligations.MeasurementResults : Prop :=
  (∀ (s : State) (l : Lane) (g : Stg), (s.lane l).up = true →
     ((s.stage g).st ≠ 0 → Runs (.statusFrame l g true) s fun u => (∀ o, o ≠ l → u.lane o = s.lane o) ∧
       (∀ o, o ≠ g → u.stage o = s.stage o) ∧ u.gX = s.gX ∧ u.gY = s.gY ∧
       (s.lane l).keeps (.pwr :: .meas :: faultParts) (u.lane l) ∧
       nth (u.stage g).seen (laneIx l) = 0 ∧ nth (u.stage g).clmSeen (laneIx l) = 0 ∧ nth (u.stage g).badNow (laneIx l) = false ∧
       (u.stage g).latch = (s.stage g).latch ∧ (u.stage g).cmd = (s.stage g).cmd ∧
       (u.lane l).rd (Reg.STG_STAT_STATE (stgIx g)) = (s.stage g).st % 8 ∧
       (u.lane l).on (Reg.STG_STAT_EN (stgIx g)) = (s.stage g).en ∧ (u.lane l).on (Reg.STG_STAT_STO_IN (stgIx g)) = (s.stage g).stoIn ∧
       (u.lane l).on (Reg.STG_STAT_LATCHED (stgIx g)) = ((s.stage g).latch != 0) ∧
       (u.lane l).rd (Reg.STG_FAULT_LATCH (stgIx g)) = (s.stage g).latch.toNat ∧
       (u.lane l).rd (Reg.CLM_STG_ACCEPTED (stgIx g)) = (match (s.stage g).acc with | none => 0 | some a => laneIx a + 1) ∧
       (u.lane l).on (Reg.MEAS_VDC_VALID (stgIx g)) = true ∧ nth (u.lane l).meas.lost (stgIx g) = 0) ∧
     LaneRuns (.statusFrame l g false) s l (fun L => (s.lane l).keeps (.meas :: faultParts) L ∧
       nth L.meas.lost (stgIx g) = nth (s.lane l).meas.lost (stgIx g) + 1 ∧ L.on (Reg.MEAS_STAT_FRAME_LOST.bit (stgIx g)) = true ∧
       L.on (Reg.MEAS_VDC_VALID (stgIx g)) = false ∧
       (1 ≤ nth (s.lane l).meas.lost (stgIx g) → ∀ k < 3, L.on ((Reg.MEAS_LEG_STAT_LEG (stgIx g) k).bit 0) = false))) ∧
  ((∀ (s : State) (g : Stg) (k : Leg) (d : Int), StageRuns (.windowClose g k d) s g fun G =>
     if (s.stage g).st ≠ 0 ∧ nth (s.stage g).w (legIx k) ≠ 0 then G = { (s.stage g) with d := setNth (s.stage g).d (legIx k) (some (satS 32 d)) }
     else G = s.stage g) ∧
   (∀ (r : Tri LegRes) (k : Nat), k < 3 → (nth r k).good = false → (∀ j < 3, j ≠ k → (nth r j).good = true) →
     ∃ x y z : Int, (reconstruct r).1 = ⟨some x, some y, some z⟩ ∧ x + y + z = 0 ∧ (reconstruct r).2.1 = .all true ∧
       (∀ j < 3, nth (reconstruct r).2.2 j = decide (j = k)) ∧
       ∀ j < 3, j ≠ k → nth (reconstruct r).1 j = (nth r j).val)) ∧
  (∀ (s : State) (l : Lane) (v : Int) (ohm t c : Nat), (s.lane l).up = true → c < 2 →
     (∀ n : Nat, (s.lane l).gpInput c = some n → LaneRuns (.gpConversionComplete l c v ohm t) s l fun L =>
       let x := if n = 4 then ntcTemp (s.lane l).com.motor.beta ohm else v
       (s.lane l).keeps (.time :: .meas :: faultParts) L ∧ L.rdS (Reg.MEAS_GP_VALUE n) = satS 16 x ∧
       L.on (Reg.MEAS_GP_VALID n) = !gpOff n x ∧ L.gpOut c = gpOff n x) ∧
     ((s.lane l).gpOut c = true → LaneRuns (.gpConversionComplete l c v ohm t) s l fun L => L = (s.lane l).tick t))

/-- R64, R187 to R189, R191: the open-wire test and the offset calibration are steps of STANDBY to ARM: done when every assigned stage passes, else the
step has failed with block MEAS, which then refuses; in DRIVE a test cycle starts at every whole second and runs its step, whose leg the stage marks
as under test. Says where these complete: openWireTestComplete, offsetCalibrationComplete, openWireCycleStart, openWireStep. -/
def Obligations.OpenWireAndOffsets : Prop :=
  ∀ (s : State) (l : Lane) (t : Nat), (s.lane l).up = true →
    (∀ m : Tri (Tri OwLeg), (s.lane l).arming = true →
      (∀ i < 3, (s.lane l).assigned i = true → ∀ k < 3, armLeg (nth (nth m i) k) = ((segGood, segGood), (segGood, segGood))) →
      LaneRuns (.openWireTestComplete l m t) s l fun L => L.sys.armDone = (s.lane l).sys.armDone ||| 4#5 ∧ L.arming = true ∧
        ∀ i < 3, (s.lane l).assigned i = true → L.badLegs i = 0) ∧
    (∀ (m : Tri (Tri OwLeg)) (i : Nat), (s.lane l).arming = true → (s.lane l).sys.stepFail = none → i < 3 →
      (s.lane l).assigned i = true → (∀ k < 3, armLeg (nth (nth m i) k) ≠ ((segGood, segGood), (segGood, segGood))) →
      LaneRuns (.openWireTestComplete l m t) s l fun L => L.arming = true ∧ L.sys.stepFail = some 3 ∧ L.sys.armDone = (s.lane l).sys.armDone ∧
        L.badLegs i = 3 ∧ L.on (Reg.MEAS_STAT_OUT_OF_SERVICE.bit i) = true ∧ L.answers.getD 3 (0, 0) = (3, 0x0F)) ∧
    ((s.lane l).arming = true →
      (∀ i < 3, (s.lane l).assigned i = true → ∀ j < 6, ∃ x, (s.lane l).offsetOf (6 * i + j) = some x ∧ ofsBeyond x = false) →
      LaneRuns (.offsetCalibrationComplete l t) s l fun L => L.sys.armDone = (s.lane l).sys.armDone ||| 8#5 ∧ L.arming = true ∧
        ∀ i < 3, (s.lane l).assigned i = true → ∀ j < 6,
          some (L.rdS (Reg.MEAS_OFS_OFS i (j / 2) (j % 2))) = (s.lane l).offsetOf (6 * i + j)) ∧
    ((s.lane l).st = stDrive → t % 1000000000 = 0 → LaneRuns (.openWireCycleStart l t) s l fun L =>
      (s.lane l).keeps (.time :: .meas :: faultParts) L ∧ ∀ i < 3, (nth L.meas.ow i).start = some t) ∧
    (∀ (g : Stg) (m : LineMeas) (t0 j : Nat), (s.lane l).st = stDrive → (nth (s.lane l).meas.ow (stgIx g)).start = some t0 →
      j = (t - t0) / 50000000 → j < 11 → (nth (s.lane l).meas.ow (stgIx g)).step = j →
      (s.lane l).stepAllowed (stgIx g) (j / 4) (s.stage g).since = true →
      Runs (.openWireStep l g m t) s fun u => (∀ o, o ≠ l → u.lane o = s.lane o) ∧ (∀ o, o ≠ g → u.stage o = s.stage o) ∧
        (s.lane l).keeps (.time :: .meas :: faultParts) (u.lane l) ∧ (nth (u.lane l).meas.ow (stgIx g)).step = j + 1 ∧
        (u.stage g).test.map legIx = some (j / 4) ∧ u.stage g = { (s.stage g) with test := (u.stage g).test })

/-- R199, R202, R206, R210: a move of the encoder lines that its filter passes counts one up or down as decoded; a jump across both counts an error and
no edge; in a signal loss nothing is decoded, and a loss of 1 µs makes the source invalid until 10 ms of signal; without an edge for TIMEOUT a
source is at STANDSTILL with speed 0. R199, R208, R209: the first qualified index after a REREF takes the count modulo CPR as the reference in mode
1 and corrects the count in the other modes; a later one corrects within TOL, and beyond it raises 0x0701 with the count kept and ignores the index
from then on. R199, R211, R212: a transition that the filter passes to the next sector counts one, a skip two in the shorter way or none and
SKIP_CNT; a pattern that is no sector is invalid, and a second in a row makes the source invalid with 0x0703. Says where these complete:
encoderEdge, indexEdge, hallTransition, encoderSignalLoss, encoderSignalRestored, standstillTimeout, reref. -/
def Obligations.EncoderAndHall : Prop :=
  (∀ (s : State) (l : Lane) (t : Nat), (s.lane l).up = true →
     (∀ (a b : Bool) (q : Nat), q = (4 + quad a b - quad (s.lane l).pos.encA (s.lane l).pos.encB) % 4 →
       (s.lane l).on Reg.POS_ENC_CFG_ENABLE = true → (s.lane l).pos.sigLoss = false →
       ∀ ns : Nat, ((s.lane l).rd Reg.POS_ENC_CFG_FILT + 1) * 25 ≤ ns → LaneRuns (.encoderEdge l a b ns t) s l fun L => (s.lane l).keeps (.time :: .pos :: faultParts) L ∧
         (s.lane l).keepsRegs (0x4005 :: faultRegs) L ∧ L.pos.encA = a ∧ L.pos.encB = b ∧
         (q = 1 ∨ q = 3 → decodes ((s.lane l).rd Reg.POS_ENC_CFG_DECODE) (s.lane l).pos.encA a b = true →
           L.rd (Reg.POS_CNT_COUNT 0) = bitsOf 32 (((s.lane l).rd (Reg.POS_CNT_COUNT 0) : Int) + if q = 1 then 1 else -1) ∧
           L.rd (Reg.POS_TS_TIME 0) = t / 5 * 5 % 2 ^ 32) ∧
         (q = 2 → L.rd (Reg.POS_CNT_COUNT 0) = (s.lane l).rd (Reg.POS_CNT_COUNT 0) ∧ L.pos.qTravel = some 0 ∧
           L.rd Reg.POS_ENC_STAT_QERR_CNT = min ((s.lane l).rd Reg.POS_ENC_STAT_QERR_CNT + 1) (2 ^ Reg.POS_ENC_STAT_QERR_CNT.w - 1))) ∧
     (∀ (a b : Bool) (ns : Nat), ns < ((s.lane l).rd Reg.POS_ENC_CFG_FILT + 1) * 25 →
       LaneRuns (.encoderEdge l a b ns t) s l fun L => L = (s.lane l).tick t) ∧
     (∀ (a b : Bool) (ns : Nat), (s.lane l).on Reg.POS_ENC_CFG_ENABLE = true → (s.lane l).pos.sigLoss = true →
       ((s.lane l).rd Reg.POS_ENC_CFG_FILT + 1) * 25 ≤ ns → LaneRuns (.encoderEdge l a b ns t) s l fun L =>
         (s.lane l).keeps [.time, .pos] L ∧ L.pos = { (s.lane l).pos with encA := a, encB := b }) ∧
     (∀ mv us : Nat, (s.lane l).on Reg.POS_ENC_CFG_ENABLE = true → mv < 200 → 1 ≤ us →
       LaneRuns (.encoderSignalLoss l mv us t) s l fun L => (s.lane l).keeps (.time :: .pos :: faultParts) L ∧
         (s.lane l).keepsRegs (0x40050020 :: faultRegs) L ∧ L.pos.sigLoss = true ∧ L.pos.encValid = false ∧
         L.on Reg.POS_ENC_STAT_SIGLOSS = true ∧ (s.lane l).reported L 0x0706 0xFF) ∧
     (∀ ms : Nat, LaneRuns (.encoderSignalRestored l ms t) s l fun L => (s.lane l).keeps [.time, .pos, .regs] L ∧
         (s.lane l).keepsRegs [0x4005001C, 0x40050020] L ∧ L.pos.sigLoss = false ∧ L.on Reg.POS_ENC_STAT_SIGLOSS = false ∧
         L.pos.encValid = ((s.lane l).pos.encValid || (decide (10 ≤ ms) && !(s.lane l).pos.encBarred))) ∧
     (∀ (src : EdgeSrc) (i : Nat), i = (match src with | .enc => 0 | .hall => 1) → (s.lane l).rd (spdState i) ≠ 0 →
       ((s.lane l).spd i).last + (s.lane l).spdTimeout ≤ t →
       LaneRuns (.standstillTimeout l src t) s l fun L => (s.lane l).keeps [.time, .pos, .regs] L ∧
         (s.lane l).keepsRegs [0x40050030, (Reg.POS_SPEED_SPEED i).addr] L ∧ L.rd (spdState i) = 0 ∧
         L.rd (Reg.POS_SPEED_SPEED i) = 0 ∧ (L.spd i).run = 0)) ∧
  ((∀ (s : State) (l : Lane) (v : BitVec 32), (s.lane l).up = true → v.getLsbD 0 = true →
     LaneRuns (.reref l v) s l fun L => (s.lane l).keeps [.regs] L ∧ (s.lane l).keepsRegs [0x4005001C] L ∧
       L.rd Reg.POS_IDX_STAT_STATE = 0) ∧
   ∀ (s : State) (l : Lane) (t : Nat) (a b rising : Bool) (c : Nat) (e : Int), (s.lane l).up = true →
     c = (s.lane l).rd (Reg.POS_CNT_COUNT 0) → e = indexError c ((s.lane l).rd Reg.POS_IDX_CFG_REF) (s.lane l).cpr →
     (s.lane l).on Reg.POS_ENC_CFG_ENABLE = true → (s.lane l).rd Reg.POS_IDX_CFG_MODE ≠ 0 → (s.lane l).pos.sigLoss = false →
     ((s.lane l).rd Reg.POS_ENC_CFG_ZGATE = 0 ∨ ((s.lane l).rd Reg.POS_ENC_CFG_ZGATE = 1 ∧ a = true) ∨ (a = true ∧ b = true)) →
     (s.lane l).pos.enc.dir = (if rising then 1 else -1) →
     ∀ ns : Nat, ((s.lane l).rd Reg.POS_ENC_CFG_FILT + 1) * 25 ≤ ns → LaneRuns (.indexEdge l a b rising ns t) s l fun L => (s.lane l).keeps (.time :: .pos :: faultParts) L ∧
       (s.lane l).keepsRegs (0x40050014 :: 0x4005001C :: (Reg.POS_CNT_COUNT 0).addr :: faultRegs) L ∧
       ((s.lane l).rd Reg.POS_IDX_STAT_STATE = 2 → L = (s.lane l).tick t) ∧
       ((s.lane l).rd Reg.POS_IDX_STAT_STATE ≠ 2 → L.on Reg.POS_IDX_STAT_MISSING = false) ∧
       ((s.lane l).rd Reg.POS_IDX_STAT_STATE = 0 → L.rd Reg.POS_IDX_STAT_STATE = 1 ∧ L.pos.idxAt = some L.pos.encTotal ∧
         ((s.lane l).rd Reg.POS_IDX_CFG_MODE = 1 → L.rd Reg.POS_IDX_CFG_REF = c % (s.lane l).cpr ∧ L.rd (Reg.POS_CNT_COUNT 0) = c) ∧
         ((s.lane l).rd Reg.POS_IDX_CFG_MODE ≠ 1 → L.rd (Reg.POS_CNT_COUNT 0) = bitsOf 32 ((c : Int) + -e))) ∧
       ((s.lane l).rd Reg.POS_IDX_STAT_STATE = 1 →
         L.rdS Reg.POS_IDX_STAT_LAST_ERR = clampI e (-32767) 32767 ∧
         (absN e ≤ (s.lane l).rd Reg.POS_IDX_CFG_TOL → L.rd Reg.POS_IDX_STAT_STATE = 1 ∧
           L.pos.idxAt = some L.pos.encTotal ∧ L.rd (Reg.POS_CNT_COUNT 0) = bitsOf 32 ((c : Int) + -e)) ∧
         ((s.lane l).rd Reg.POS_IDX_CFG_TOL < absN e → L.rd Reg.POS_IDX_STAT_STATE = 2 ∧ L.rd (Reg.POS_CNT_COUNT 0) = c ∧
           (s.lane l).reported L 0x0701 0xFF))) ∧
  (∀ (s : State) (l : Lane) (p ns t a b : Nat), (s.lane l).up = true → (s.lane l).on Reg.POS_HALL_CFG_ENABLE = true → p < 8 → ((s.lane l).rd Reg.POS_HALL_CFG_FILT + 1) * 25 ≤ ns →
     a = (s.lane l).rd Reg.POS_HALL_STAT_SECTOR → b = (s.lane l).hallSector p →
     LaneRuns (.hallTransition l p ns t) s l fun L => (s.lane l).keeps (.time :: .pos :: faultParts) L ∧
       (s.lane l).keepsRegs (0x4005 :: faultRegs) L ∧ L.rd Reg.POS_HALL_STAT_PATTERN = p ∧
       (b < 6 → L.rd Reg.POS_HALL_STAT_SECTOR = b ∧ L.on Reg.POS_HALL_STAT_INVALID = false ∧
         L.rd (Reg.POS_CNT_COUNT 1) = bitsOf 32 (((s.lane l).rd (Reg.POS_CNT_COUNT 1) : Int) +
           if (s.lane l).pos.hallInit = false then 0 else
             match (6 + b - a) % 6 with | 1 => 1 | 5 => -1 | 2 => 2 | 4 => -2 | _ => 0) ∧
         ((s.lane l).pos.hallInit = true → (6 + b - a) % 6 = 2 ∨ (6 + b - a) % 6 = 3 ∨ (6 + b - a) % 6 = 4 →
           L.rd Reg.POS_HALL_STAT_SKIP_CNT = ((s.lane l).rd Reg.POS_HALL_STAT_SKIP_CNT + 1) % 2 ^ Reg.POS_HALL_STAT_SKIP_CNT.w)) ∧
       (6 ≤ b → L.rd Reg.POS_HALL_STAT_SECTOR = a ∧ L.on Reg.POS_HALL_STAT_INVALID = true ∧
         L.rd (Reg.POS_CNT_COUNT 1) = (s.lane l).rd (Reg.POS_CNT_COUNT 1) ∧
         ((s.lane l).pos.hallBad = 1 → L.pos.hallValid = false ∧ (s.lane l).reported L 0x0703 0xFF)))

/-- R202, R213 to R215: every 2.5 µs a sample of the angle sensor moves its counter by the shorter way round, is corrected by the harmonics, and is the
fused angle while the encoder takes no part in fusion; at other times nothing is sampled. R217, R218: when the samples held span a revolution it
ends; if it qualifies, its errors against the encoder, or against its own course in time, go into the bins and it counts; the result, once pending,
is put in place at a slot start, or in a transition to ARM, with the sensor at standstill. Says where these complete: tmrSample, calRevolution,
calApply. -/
def Obligations.AngleFusedAndCalibrated : Prop :=
  (∀ (s : State) (l : Lane) (raw : BitVec 16) (field t : Nat), (s.lane l).up = true →
     (t % 2500 ≠ 0 → LaneRuns (.tmrSample l raw field t) s l fun L => (s.lane l).keeps [.time] L) ∧
     (t % 2500 = 0 → LaneRuns (.tmrSample l raw field t) s l fun L => (s.lane l).keeps (.time :: .pos :: faultParts) L ∧
       (s.lane l).keepsRegs (0x40050000 :: (Reg.POS_CNT_COUNT 2).addr :: 0x400500B0 :: 0x400500B4 :: 0x400500B8 :: faultRegs) L ∧
       L.rd Reg.POS_ANGLE_TMR_RAW = raw.toNat ∧ L.pos.tmrAt = t ∧ L.pos.tmrRaw = raw.toNat ∧ L.pos.tmrSeen = true ∧
       L.pos.thCal = bitsOf 32 ((raw.toNat * 65536 : Nat) - (s.lane l).harmonics raw.toNat) ∧
       L.rd Reg.POS_ANGLE_TMR_CAL = L.pos.thCal / 65536 ∧ L.rd Reg.POS_ANGLE_ELEC_FIELD = min field 0xFFFF ∧
       ((s.lane l).pos.tmrSeen = false → L.rd (Reg.POS_CNT_COUNT 2) = raw.toNat) ∧
       ((s.lane l).pos.tmrSeen = true → L.rd (Reg.POS_CNT_COUNT 2) = bitsOf 32 (((s.lane l).rd (Reg.POS_CNT_COUNT 2) : Int) +
         signedOf 16 (bitsOf 16 ((raw.toNat : Int) - (s.lane l).pos.tmrRaw)))) ∧
       ((s.lane l).encFuses = false → L.rd Reg.POS_ANGLE_FUSED_ANGLE = L.pos.thCal))) ∧
  (∀ (s : State) (l : Lane), (s.lane l).up = true →
     (∀ (x y : RevSample) (lo hi : Nat), (s.lane l).pos.rev.head? = some x → (s.lane l).pos.rev.getLast? = some y →
       let old := s.lane l
       let d := absN (x.ext - y.ext)
       let enc := old.pos.rev.all fun r => r.fused
       let first := old.rd Reg.POS_CAL_STAT_REVS = 0
       let base : Int := if first then (if enc then (y.raw * 65536 : Int) - y.enc else 0) else old.pos.calBase
       let qualifies := old.calQualifies lo (d * 1000000000 / max (x.t - y.t) 1) hi
       lo = (old.pos.rev.map fun r => r.spd).foldl min x.spd → hi = (old.pos.rev.map fun r => r.spd).foldl max 0 →
       (d < 65536 → LaneRuns (.calRevolution l) s l fun L => L = old) ∧
       (65536 ≤ d → qualifies = false → LaneRuns (.calRevolution l) s l fun L => old.keeps [.pos] L ∧ L.pos = { old.pos with rev := [x] }) ∧
       (65536 ≤ d → qualifies = true → old.rd Reg.POS_CAL_STAT_REVS < 15 → LaneRuns (.calRevolution l) s l fun L =>
         old.keeps [.pos, .regs] L ∧ old.keepsRegs [0x40050048] L ∧ L.pos.rev = [x] ∧
         L.pos.bins = addBins old.pos.bins (revErrors enc base x y old.pos.rev) ∧ L.pos.calBase = base ∧
         L.rd Reg.POS_CAL_STAT_REVS = old.rd Reg.POS_CAL_STAT_REVS + 1 ∧ L.on Reg.POS_CAL_STAT_REF = enc ∧
         L.rd Reg.POS_CAL_STAT_STATE = (if old.pos.calWait.isSome then 2 else 1))) ∧
     (∀ (c : List Int) (z : Option Nat), (s.lane l).pos.calWait = some (c, z) → (s.lane l).rd Reg.POS_SPD_STAT_TMR = 0 →
       (s.lane l).time % 50000 = 0 ∨ (s.lane l).arming = true →
       LaneRuns (.calApply l) s l fun L => (s.lane l).keeps [.pos, .regs] L ∧ L.pos.calWait = none ∧
         L.rd Reg.POS_CAL_STAT_STATE = 3 ∧ (∀ x, z = some x → L.pos.zero = some x) ∧
         ∀ j < 16, L.rdS (Reg.POS_CAL_COEF_COEF j) = signedOf 16 (bitsOf 16 (c.getD j 0))) ∧
     ((s.lane l).rd Reg.POS_SPD_STAT_TMR ≠ 0 → LaneRuns (.calApply l) s l fun L => L = s.lane l))

/-- R8, R203: a request is served at the next slot start: the three counters are copied and their wraps spent. R109, R199, R219: in a transition to ARM
the third fitting frame in a row at one rate selects the mode, PSI5 being tried from 8 ms on; afterwards a valid frame is stored and a third bad one
in a row, or no frame for three periods and 1 ms, makes the port invalid with 0x0708. R220: an SSI transaction framed by a high DAT before and a low
DAT after its bits gives the value, Gray decoded where configured; any other counts an error, and the third in a row makes the value invalid with
0x0709. Says where these complete: spPsi5Phase, posSnap, extensionSnapshot, spFrame, spTimeout, ssiTransaction. -/
def Obligations.PositionPorts : Prop :=
  (∀ (s : State) (l : Lane), (s.lane l).up = true →
     (∀ v : BitVec 32, v.getLsbD 0 = true → LaneRuns (.posSnap l v) s l fun L => (s.lane l).keeps [.pos] L ∧ L.pos.snapReq = true) ∧
     ((s.lane l).pos.snapReq = false ∨ (s.lane l).time % 50000 ≠ 0 → LaneRuns (.extensionSnapshot l) s l fun L => L = s.lane l) ∧
     ((s.lane l).pos.snapReq = true → (s.lane l).time % 50000 = 0 → LaneRuns (.extensionSnapshot l) s l fun L =>
       (s.lane l).keeps (.pos :: .snap :: faultParts) L ∧ L.pos.snapReq = false ∧ L.pos.wraps = .all 0 ∧
       (∀ i < 3, L.rd (Reg.POS_EXT_COUNT i) = (s.lane l).rd (Reg.POS_CNT_COUNT i)) ∧
       ((∀ i < 3, absN (nth (s.lane l).pos.wraps i) ≤ 1) → (s.lane l).keepsRegs
         ((Reg.POS_EXT_COUNT 0).addr :: (Reg.POS_EXT_COUNT 1).addr :: (Reg.POS_EXT_COUNT 2).addr :: [0x40050008]) L ∧
         ∀ i < 3, L.rdS (Reg.POS_EXT_STAT_WRAP.part (2 * i) 2) = nth (s.lane l).pos.wraps i) ∧
       (∀ i < 3, 1 < absN (nth (s.lane l).pos.wraps i) → L.on (Reg.POS_EXT_STAT_WRAP_OVF.bit i) = true ∧
         L.rd (Reg.POS_EXT_STAT_WRAP.part (2 * i) 2) = 0))) ∧
  (∀ (s : State) (l : Lane) (i t : Nat), (s.lane l).up = true → i < 2 → (s.lane l).spMode i ≠ 0 →
     let old := s.lane l
     let p := old.sp i
     (∀ f : SpIn, old.spHeld i f = false → LaneRuns (.spFrame l i f t) s l fun L => L = old.tick t) ∧
     (∀ f : SpIn, old.spListens i t = true → old.spMode i = 1 → p.mode = 0 → p.found = 0 → old.spHeld i f = true → spSound f = true →
       f.psi5 = p.psi5On → (if f.psi5 then f.kbit = 125 ∨ f.kbit = 189 else 1500 ≤ f.tick ∧ f.tick ≤ 6000) →
       (if f.psi5 then p.rate = f.kbit else sameTick f.tick p.rate = true) →
       LaneRuns (.spFrame l i f t) s l fun L => old.keeps [.time, .pos] L ∧
         (p.det = 2 → (L.sp i).found = (if f.psi5 then (if f.sync then 2 else 3) else 1) ∧ (L.sp i).mode = (L.sp i).found ∧
           (L.sp i).out = false ∧ (L.sp i).det = 0) ∧
         (p.det < 2 → L.sp i = { p with det := p.det + 1, rate := if f.psi5 then f.kbit else f.tick })) ∧
     (∀ f : SpIn, old.arming = false → old.spUse i ≠ 0 → old.spHeld i f = true →
       LaneRuns (.spFrame l i f t) s l fun L => old.keeps (.time :: .pos :: faultParts) L ∧
         old.keepsRegs (0x4005 :: faultRegs) L ∧
         (old.spFits i f = true → (L.sp i).lastAt = t ∧ (L.sp i).bad = 0 ∧ (L.sp i).good = p.good + 1 ∧
           (p.out = false → L.on ((spStat i).bit 0) = true) ∧
           L.rd (Reg.POS_SP_VALUE1 i) = (spValues ((if i = 0 then old.rd Reg.POS_SP_CFG_PORT1 else old.rd Reg.POS_SP_CFG_PORT2) / 4) f).1
             % 2 ^ (Reg.POS_SP_VALUE1 i).w) ∧
         (old.spFits i f = false → (L.sp i).good = 0 ∧ (p.bad = 2 → p.out = false →
           (L.sp i).out = true ∧ L.on ((spStat i).bit 0) = false ∧ old.reported L 0x0708 0xFF))) ∧
     (∀ n : Nat, old.spUse i ≠ 0 → p.out = false → 3 ≤ n → p.lastAt + 1000000 ≤ t →
       LaneRuns (.spTimeout l i n t) s l fun L => old.keeps (.time :: .pos :: faultParts) L ∧
         old.keepsRegs (0x400500E0 :: faultRegs) L ∧ (L.sp i).out = true ∧ L.on ((spStat i).bit 0) = false ∧ old.reported L 0x0708 0xFF) ∧
     (old.arming = true → old.sys.started + 8000000 ≤ t →
       LaneRuns (.spPsi5Phase l t) s l fun L => old.keeps [.time, .pos, .sys] L ∧
         L.sys.armDone = old.sys.armDone ||| 16#5 ∧ (p.found = 0 → (L.sp i).psi5On = true ∧ (L.sp i).det = 0))) ∧
  (∀ (s : State) (l : Lane) (hi lo : Bool) (raw : BitVec 32) (n : Nat), (s.lane l).up = true →
     n = min ((s.lane l).rd Reg.POS_SSI_CFG_BITS) 32 → 0 < n →
     LaneRuns (.ssiTransaction l hi lo raw) s l fun L => (s.lane l).keeps (.pos :: faultParts) L ∧
       (s.lane l).keepsRegs (0x400500E4 :: 0x400500E8 :: faultRegs) L ∧
       (hi = true → lo = true → L.pos.ssiBad = 0 ∧ L.pos.ssiAt = (s.lane l).time ∧ L.rd Reg.POS_SSI_VALUE = (
         if (s.lane l).on Reg.POS_SSI_CFG_GRAY then grayDecode (BitVec.ofNat 32 (raw.toNat % 2 ^ n))
         else BitVec.ofNat 32 (raw.toNat % 2 ^ n)).toNat ∧ ((s.lane l).pos.ssiOut = false → L.on Reg.POS_SSI_STAT_VALID = true)) ∧
       (hi = false ∨ lo = false → L.pos.ssiGood = 0 ∧
         L.rd Reg.POS_SSI_STAT_ERR_CNT = ((s.lane l).rd Reg.POS_SSI_STAT_ERR_CNT + 1) % 2 ^ Reg.POS_SSI_STAT_ERR_CNT.w ∧
         ((s.lane l).pos.ssiBad = 2 → (s.lane l).pos.ssiOut = false → L.on Reg.POS_SSI_STAT_VALID = false ∧ L.pos.ssiOut = true ∧
           (s.lane l).reported L 0x0709 0xFF)))

/-- R24, R163, R224, R227 to R229, R249: the command that the lane sends for a stage follows the MODE in force: FREEWHEEL and every other MODE leave all
off, SHORT drives all low sides, DTC outside its conditions is driven as OFF, and RUN without a transfer drives the sector's two legs, the positive
with the duty, the negative low, the third floating; the frame formed carries that command, or all off, the next SEQ, and the claim and veto
presented. R25, R223: a commit up to 44 µs into the slot posts the command registers for periods from the slot's end on; a later one posts nothing;
a lane CHECKED or shadowing that has posted nothing by the deadline, and is in no Churn slice, counts it, holds its commands and raises 0x0201.
R225, R246, R248: 2 s above 25 A in 10 s engage the peak limit and 10 s below lift it; a revolution of coasting floats the stage, 2 ms later
crossings are captured, the third consistent one restarts it, and a timeout bars it with 0x0712 or 0x0713. Says where these complete: commit,
commandDeadline, commutationPeriod, peakLimitEngage, peakLimitLift, observerFloat, bemfCaptureStart, bemfZeroCrossing, reacqTimeout,
flyingStartTimeout. -/
def Obligations.CommutationCommands : Prop :=
  (∀ (s : State) (l : Lane) (g : Stg) (bemf p i m : Nat), (s.lane l).up = true → i = stgIx g →
     m = ((s.lane l).takeWords i p).modeNow i →
     LaneRuns (.commutationPeriod l g bemf p) s l fun L => (s.lane l).keeps (.com :: .flk :: .safe :: faultParts) L ∧
       (s.lane l).keepsRegs (0x4006 :: faultRegs) L ∧ L.com.words = ((s.lane l).takeWords i p).com.words ∧ (L.cst i).lastMode = m ∧
       (L.cst i).bemf = bemf ∧ L.safe = { (s.lane l).safe with seq := L.safe.seq, pulse := L.safe.pulse } ∧
       nth L.safe.seq i = (nth (s.lane l).safe.seq i + 1) % 16 ∧
       (∃ f, (L.cst i).frame = some f ∧ f.seq = nth L.safe.seq i ∧ f.claim = L.rd (Reg.CLAIM_OF i) ∧ f.veto = BitVec.ofNat 3 (L.rd Reg.CLM_PRESENT_VETO) ∧
         f.iso = L.on (Reg.MEAS_STAT_OUT_OF_SERVICE.bit i) ∧ f.cmd = (L.cst i).cmd.getD offCmd) ∧
       (m = 3 → (L.cst i).cmd = some (.all (lowEdges L.period)) ∧ L.rd (Reg.COM_IREF_IREF i) = 0) ∧
       (m ≠ 1 → m ≠ 2 → m ≠ 3 → (L.cst i).cmd = none ∧ L.rd (Reg.COM_IREF_IREF i) = 0) ∧
       (m = 2 → (s.lane l).rd Reg.COM_CFG_PWM ≠ 2 → (L.cst i).cmd = none ∧ L.on (Reg.COM_STAT_DTC.bit i) = false) ∧
       (m = 1 → (L.cst i).cmd.isSome = true ∧ L.on (Reg.COM_STAT_DTC.bit i) = false ∧ ((L.cst i).transfer = none →
         (L.cst i).cmd = some (legsCmd [((rolesOf (L.rd (Reg.COM_STG_STAT_SECTOR i)) (L.icmdOf i)).1, pwmEdges L.period (L.cst i).duty),
           ((rolesOf (L.rd (Reg.COM_STG_STAT_SECTOR i)) (L.icmdOf i)).2, lowEdges L.period)])))) ∧
  (∀ (s : State) (l : Lane), (s.lane l).up = true →
     (∀ t : Nat, t % 50000 ≤ 44000 → LaneRuns (.commit l t) s l fun L => (s.lane l).keeps [.time, .com, .regs] L ∧
       (s.lane l).keepsRegs [0x40100010] L ∧ L.com.posted = true ∧ L.com.next = (s.lane l).maskForced (s.lane l).commandRegs ∧
       L.com.posts = (((t / 50000 + 1) * 50000, L.com.next) :: (s.lane l).com.posts.filter fun x => x.1 != (t / 50000 + 1) * 50000).take 2 ∧
       L.com.words = (s.lane l).com.words ∧
       ∀ i < 3, L.on (Reg.SAFE_STAT_FORCED_OFF.bit i) = ((s.lane l).on (Reg.SAFE_STAT_FORCED_OFF.bit i) &&
         ((s.lane l).on (Reg.SAFE_STAT_STO_ACT.bit i) || decide ((s.lane l).writtenMode i ≠ 0)))) ∧
     (∀ t : Nat, 44000 < t % 50000 → LaneRuns (.commit l t) s l fun L => (s.lane l).keeps [.time] L) ∧
     ((s.lane l).com.posted = true ∨ (∃ x, (s.lane l).chn.sliced = some x ∧ x.1 = (s.lane l).meas.slot) →
       LaneRuns (.commandDeadline l) s l fun L => L = s.lane l) ∧
     ((s.lane l).com.posted = false → (s.lane l).mode = 0 ∨ ((s.lane l).mode = 2 ∧ (s.lane l).rd Reg.AGR_RSYNC_PHASE = 4) →
       (∀ x, (s.lane l).chn.sliced = some x → x.1 ≠ (s.lane l).meas.slot) →
       LaneRuns (.commandDeadline l) s l fun L => (s.lane l).keeps (.com :: faultParts) L ∧
         (s.lane l).keepsRegs (0x40060134 :: 0x40020000 :: faultRegs) L ∧ L.com = { (s.lane l).com with late := true } ∧
         L.on Reg.AGR_STAT_DEADLINE = true ∧ (s.lane l).reported L 0x0201 0xFF ∧
         L.rd Reg.COM_POST_STAT_LATE_CNT = ((s.lane l).rd Reg.COM_POST_STAT_LATE_CNT + 1) % 2 ^ Reg.COM_POST_STAT_LATE_CNT.w)) ∧
  (∀ (s : State) (l : Lane) (g : Stg) (t i : Nat), (s.lane l).up = true → i = stgIx g →
     (2000000000 ≤ peakTotal ((s.lane l).cst i).peakRuns t → LaneRuns (.peakLimitEngage l g t) s l fun L => (s.lane l).keeps [.time, .regs] L ∧
       (s.lane l).keepsRegs [(Reg.COM_STG_STAT_PEAKLIM i).addr] L ∧ L.on (Reg.COM_STG_STAT_PEAKLIM i) = true) ∧
     (peakTotal ((s.lane l).cst i).peakRuns t = 0 → LaneRuns (.peakLimitLift l g t) s l fun L => (s.lane l).keeps [.time, .regs] L ∧
       (s.lane l).keepsRegs [(Reg.COM_STG_STAT_PEAKLIM i).addr] L ∧ L.on (Reg.COM_STG_STAT_PEAKLIM i) = false) ∧
     (∀ x : Nat, ((s.lane l).cst i).coast = some x → 65536 ≤ x → LaneRuns (.observerFloat l g t) s l fun L =>
       (s.lane l).keeps [.time, .com, .regs] L ∧ (s.lane l).keepsRegs [0x4006] L ∧ (L.cst i).coast = none ∧
       (L.cst i).floatAt = some t ∧ L.rd (Reg.COM_STG_STAT_OBS i) = 3 ∧ L.on (Reg.COM_STAT_FLOAT.bit i) = true ∧
       L.on (Reg.COM_STAT_COAST.bit i) = false ∧ L.on (Reg.COM_STAT_OUT.bit i) = true) ∧
     (∀ t0 : Nat, ((s.lane l).cst i).floatAt = some t0 → t0 + 2000000 ≤ t → LaneRuns (.bemfCaptureStart l g t) s l fun L =>
       (s.lane l).keeps [.time, .com] L ∧ (L.cst i).capture = true ∧ (L.cst i).crossings = 0) ∧
     (((s.lane l).cst i).capture = true → ((s.lane l).cst i).crossings = 2 →
       LaneRuns (.bemfZeroCrossing l g true t) s l fun L => (s.lane l).keeps [.time, .com, .regs] L ∧
         (s.lane l).keepsRegs [0x4006] L ∧ (L.cst i).floatAt = none ∧ (L.cst i).capture = false ∧
         (L.cst i).fly = some { since := t, ramp := 0 } ∧ L.rd (Reg.COM_STG_STAT_OBS i) = 0 ∧
         L.on (Reg.COM_STAT_FLOAT.bit i) = false ∧ L.on (Reg.COM_STAT_FLY.bit i) = true) ∧
     (((s.lane l).cst i).capture = true → LaneRuns (.bemfZeroCrossing l g false t) s l fun L =>
       (s.lane l).keeps [.time, .com] L ∧ (L.cst i).crossings = 0) ∧
     (∀ t0 : Nat, ((s.lane l).cst i).floatAt = some t0 → t0 + (s.lane l).rd Reg.COM_OBS_CFG_REACQ * 1000000 ≤ t →
       ((s.lane l).cst i).barredArm = false → LaneRuns (.reacqTimeout l g t) s l fun L =>
         (s.lane l).keeps (.time :: .com :: faultParts) L ∧ (s.lane l).keepsRegs (0x40060000 :: faultRegs) L ∧
         (L.cst i).barredArm = true ∧ (L.cst i).capture = false ∧ L.on (Reg.COM_STAT_OUT.bit i) = true ∧
         (s.lane l).reported L 0x0712 i) ∧
     (∀ f : Flying, ((s.lane l).cst i).fly = some f → f.since + (s.lane l).rd Reg.COM_FLY_CFG2_TMO * 1000000 ≤ t →
       (s.lane l).against i ((s.lane l).icmdOf i) = true → LaneRuns (.flyingStartTimeout l g t) s l fun L =>
         (s.lane l).keeps (.time :: .com :: faultParts) L ∧ (s.lane l).keepsRegs (0x40060000 :: faultRegs) L ∧
         (L.cst i).barredMode = true ∧ (L.cst i).fly = none ∧ L.on (Reg.COM_STAT_FLY.bit i) = false ∧
         L.on (Reg.COM_STAT_OUT.bit i) = true ∧ (s.lane l).reported L 0x0713 i))

/-- R241, R242: at the cycle that its command gave a learning run starts when its conditions hold, else it ends with result 3; after its revolutions the
two current rows of every stage's map take their share of the corrections, and no other map entry changes. R252: with 128 samples kept the
spectrum's 64 amplitudes are in COM_GRAZE. Says where these complete: grazeSpectrum, learningRunStart, learningApply. -/
def Obligations.LearningAndGraze : Prop :=
  (∀ (s : State) (l : Lane) (r : Learn), (s.lane l).up = true → (s.lane l).com.learn = some r →
     (r.running = false → LaneRuns (.learningRunStart l r.at_) s l fun L => (s.lane l).keeps [.com, .regs] L ∧
       (s.lane l).keepsRegs [0x40060000, 0x40060034] L ∧
       ((s.lane l).learnState = true ∧ (s.lane l).com.pending.length ≤ 256 ∧ (s.lane l).rd Reg.COM_LEARN_REF_ACC_REF ≠ 0 →
         L.rd Reg.COM_LEARN_STAT_RESULT = 1 ∧ L.rd Reg.COM_LEARN_STAT_REVS = 0 ∧ L.on Reg.COM_STAT_LEARN = true ∧
         L.com.learn.map (·.running) = some true) ∧
       ((s.lane l).learnState = false ∨ 256 < (s.lane l).com.pending.length ∨ (s.lane l).rd Reg.COM_LEARN_REF_ACC_REF = 0 →
         L.rd Reg.COM_LEARN_STAT_RESULT = 3 ∧ L.on Reg.COM_STAT_LEARN = false ∧ L.com.learn = none)) ∧
     (r.running = true → r.done = true → r.jc < 127 → LaneRuns (.learningApply l) s l fun L => (s.lane l).keeps [.com, .regs] L ∧
       (s.lane l).keepsRegs [0x4020, 0x4021, 0x4022, 0x40060000, 0x40060034, 0x40060038] L ∧ L.com.learn = none ∧
       L.rd Reg.COM_LEARN_STAT_RESULT = 2 ∧ L.on Reg.COM_STAT_LEARN = false ∧
       (∀ i < 3, ∀ a < 128, ∀ j < 128, j ≠ r.jc → j ≠ r.jc + 1 →
         L.rd (Reg.TMAP_SCALE i (128 * j + a)) = (s.lane l).rd (Reg.TMAP_SCALE i (128 * j + a))) ∧
       (∀ i < 3, ∀ a < 128, (L.rd (Reg.TMAP_SCALE i (128 * r.jc + a)) : Int) = clampI ((s.lane l).rd (Reg.TMAP_SCALE i (128 * r.jc + a)) +
         ((s.lane l).learnDelta r ((a + 7 * i) % 128) * (65536 - r.tc)).tdiv 65536) 0 0xFFFF))) ∧
  (∀ (s : State) (l : Lane), (s.lane l).up = true → (s.lane l).on Reg.COM_GRAZE_CFG_EN = true → (s.lane l).com.graze.length = 128 →
     LaneRuns (.grazeSpectrum l) s l fun L => (s.lane l).keeps [.com, .regs, .snap] L ∧ (s.lane l).keepsRegs [0x4006] L ∧
       L.com.grazeSeq = (s.lane l).com.grazeSeq + 1 ∧
       ∀ n < 32, L.rd (Reg.COM_GRAZE_BIN_LO n) = grazeBin (grazeWindow (s.lane l).com.graze) (2 * n + 1) ∧
         L.rd (Reg.COM_GRAZE_BIN_HI n) = grazeBin (grazeWindow (s.lane l).com.graze) (2 * n + 2))

/-- R269, R278, R279: a low of STO_x that brings the counter to 1.10 ms sets the latch with 0x0481 and puts every stage the lane owns into STO; a
shorter low is a tolerated pulse and changes no latch. R276, R277, R278, R288: SAFE_REQ with its key puts the named stages into STO, asks for an SS1
(of all three stages in TRIPLEX) or clears the application's own requests and no other source's; without the key it is refused. Says where these
complete: stoLatchSet, stoTestPulse, safeReqSto, safeReqSs1, safeReqClr. -/
def Obligations.SafeStops : Prop :=
  (∀ (s : State) (l : Lane) (us t : Nat), (s.lane l).up = true →
     (stoLimit ≤ (s.lane l).stoAfter us t → (s.lane l).on Reg.SAFE_STAT_LATCH = false →
       Runs (.stoLatchSet l us t) s fun u => (∀ o, o ≠ l → u.lane o = s.lane o) ∧ u.gX = s.gX ∧ u.gY = s.gY ∧ u.pending = s.pending ∧
         (∀ g, u.stage g = ownedSto (s.lane l) l false s g) ∧ (s.lane l).keeps (.time :: .safe :: faultParts) (u.lane l) ∧
         (s.lane l).keepsRegs (0x40100010 :: faultRegs) (u.lane l) ∧ (u.lane l).on Reg.SAFE_STAT_LATCH = true ∧
         (u.lane l).on Reg.SAFE_STAT_LINE = false ∧ (s.lane l).reported (u.lane l) 0x0481 0xFF ∧
         ∀ i < 3, (s.lane l).stoSrc i = laneIx l + 1 → (u.lane l).on (Reg.SAFE_STAT_STO_ACT.bit i) = true ∧
           (u.lane l).on (Reg.SAFE_STAT_FORCED_OFF.bit i) = true ∧ nth (u.lane l).safe.en i = false) ∧
     ((s.lane l).stoAfter us t < stoLimit →
       Runs (.stoTestPulse l us t) s fun u => (∀ o, o ≠ l → u.lane o = s.lane o) ∧ u.gX = s.gX ∧ u.gY = s.gY ∧ u.pending = s.pending ∧
         (∀ g, u.stage g = ownedSto (s.lane l) l (!(s.lane l).on Reg.SAFE_STAT_LATCH) s g) ∧
         (s.lane l).keeps [.time, .safe, .regs] (u.lane l) ∧ (s.lane l).keepsRegs [0x40100010, 0x40100018] (u.lane l) ∧
         (u.lane l).on Reg.SAFE_STAT_LATCH = (s.lane l).on Reg.SAFE_STAT_LATCH ∧ (u.lane l).on Reg.SAFE_STAT_LINE = true ∧
         (u.lane l).safe.filter = (s.lane l).stoAfter us t ∧
         (u.lane l).rd Reg.SAFE_CNT_PULSES = ((s.lane l).rd Reg.SAFE_CNT_PULSES + 1) % 2 ^ Reg.SAFE_CNT_PULSES.w)) ∧
  (∀ (s : State) (l : Lane) (m : BitVec 3), (s.lane l).up = true →
     LaneRuns (.safeReqSto l 0xC3A5 m) s l (fun L => (s.lane l).keeps [.safe, .regs] L ∧ (s.lane l).keepsRegs [0x40100010] L ∧
       ∀ i < 3, nth L.safe.app i = (nth (s.lane l).safe.app i || bitN m.toNat i) ∧ (bitN m.toNat i = true →
         L.on (Reg.SAFE_STAT_STO_ACT.bit i) = true ∧ L.on (Reg.SAFE_STAT_FORCED_OFF.bit i) = true ∧ nth L.safe.en i = false ∧
         nth L.safe.ss1 i = none)) ∧
     LaneRuns (.safeReqSs1 l 0xC3A5 m) s l (fun L => (s.lane l).keeps [.safe] L ∧ L.safe = { (s.lane l).safe with
       ss1Req := (s.lane l).safe.ss1Req ++ [(StopSrc.app, BitVec.ofNat 3 ((s.lane l).ss1Stages m.toNat))] }) ∧
     LaneRuns (.safeReqClr l 0xC3A5 m) s l (fun L => (s.lane l).keeps [.safe, .regs] L ∧ (s.lane l).keepsRegs [0x40100010] L ∧
       L.safe.mbx = (s.lane l).safe.mbx ∧ L.safe.viol = (s.lane l).safe.viol ∧ L.safe.fold = (s.lane l).safe.fold ∧
       ∀ i < 3, nth L.safe.app i = (nth (s.lane l).safe.app i && !bitN m.toNat i)) ∧
     ∀ (k : BitVec 16) (c : Instr), k ≠ 0xC3A5 → c = .safeReqSto l k m ∨ c = .safeReqSs1 l k m ∨ c = .safeReqClr l k m →
       LaneRuns c s l fun L => (s.lane l).keeps faultParts L ∧ (s.lane l).keepsRegs faultRegs L ∧ (s.lane l).reported L 0x0D04 0xFF)

/-- R281: an SS1 with 200 slots at standstill ends in STO, cleared as its source is; one that has run for TMAX ends in a latched STO with 0x0483. R284,
R285: an edge after 10 ms of low qualifies once high for 10 ms; it then clears the latch only if STO_x is high with the counter at 0, else it is
rejected with 0x0484, and either way a reset is pending for 200 ms. Says where these complete: ss1Standstill, ss1Timeout, safeAckEdge,
safeAckQualified, resetPendingExpiry. -/
def Obligations.SafeStopsEnd : Prop :=
  (∀ (s : State) (l : Lane) (t : Nat) (i : Nat) (x : Ss1), (s.lane l).up = true → i < 3 → nth (s.lane l).safe.ss1 i = some x →
     (200 ≤ x.still → LaneRuns (.ss1Standstill l t) s l fun L => (s.lane l).keeps [.time, .safe, .regs] L ∧
       (s.lane l).keepsRegs [0x40100010] L ∧ nth L.safe.ss1 i = none ∧ L.safe.viol = (s.lane l).safe.viol ∧
       (match x.src with | .app => nth L.safe.app i | .mbx => nth L.safe.mbx i | .fold => nth L.safe.fold i) = true ∧
       L.on (Reg.SAFE_STAT_STO_ACT.bit i) = true ∧ L.on (Reg.SAFE_STAT_SS1_ACT.bit i) = false ∧ nth L.safe.en i = false) ∧
     (x.t0 + (s.lane l).rd Reg.SAFE_SS1_CFG2_TMAX * 1000000 ≤ t → LaneRuns (.ss1Timeout l t) s l fun L =>
       (s.lane l).keeps (.time :: .safe :: faultParts) L ∧ (s.lane l).keepsRegs (0x40100010 :: faultRegs) L ∧
       nth L.safe.ss1 i = none ∧ nth L.safe.viol i = true ∧ L.on (Reg.SAFE_STAT_STO_ACT.bit i) = true ∧
       L.on (Reg.SAFE_STAT_EXT.bit i) = true ∧ nth L.safe.en i = false ∧ (s.lane l).reported L 0x0483 0xFF)) ∧
  (∀ (s : State) (l : Lane) (t : Nat), (s.lane l).up = true →
     (∀ us : Nat, LaneRuns (.safeAckEdge l us t) s l fun L => (s.lane l).keeps [.time, .safe] L ∧
       L.safe = { (s.lane l).safe with ackEdge := if 10000 ≤ us ∧ (s.lane l).safe.laneStart + 10000000 ≤ t then some t else none }) ∧
     (∀ us e : Nat, (s.lane l).safe.ackEdge = some e → e + 10000000 ≤ t → 10000 ≤ us →
       ((s.lane l).stoCount t = 0 → Runs (.safeAckQualified l us true t) s fun u => (∀ o, o ≠ l → u.lane o = s.lane o) ∧ u.gX = s.gX ∧
         u.gY = s.gY ∧ u.pending = s.pending ∧ (∀ g, u.stage g = ownedSto (s.lane l) l true s g) ∧
         (s.lane l).keeps [.time, .safe, .regs] (u.lane l) ∧ (s.lane l).keepsRegs [0x40100010] (u.lane l) ∧
         (u.lane l).on Reg.SAFE_STAT_LATCH = false ∧ (u.lane l).on Reg.SAFE_STAT_RESET_PEND = true ∧
         (u.lane l).safe.pendAt = t ∧ (u.lane l).safe.ackEdge = none) ∧
       (∀ hi : Bool, hi = false ∨ (s.lane l).stoCount t ≠ 0 → Runs (.safeAckQualified l us hi t) s fun u =>
         (∀ o, o ≠ l → u.lane o = s.lane o) ∧ u.gX = s.gX ∧ u.gY = s.gY ∧ u.pending = s.pending ∧
         (∀ g, u.stage g = ownedSto (s.lane l) l (!(s.lane l).on Reg.SAFE_STAT_LATCH) s g) ∧
         (s.lane l).keeps (.time :: .safe :: faultParts) (u.lane l) ∧
         (s.lane l).keepsRegs (0x40100010 :: 0x40100018 :: faultRegs) (u.lane l) ∧
         (u.lane l).on Reg.SAFE_STAT_LATCH = (s.lane l).on Reg.SAFE_STAT_LATCH ∧
         (u.lane l).on Reg.SAFE_STAT_RESET_PEND = true ∧ (s.lane l).reported (u.lane l) 0x0484 0xFF)) ∧
     ((s.lane l).on Reg.SAFE_STAT_RESET_PEND = true → (s.lane l).safe.pendAt + 200000000 ≤ t →
       LaneRuns (.resetPendingExpiry l t) s l fun L => (s.lane l).keeps [.time, .regs] L ∧ (s.lane l).keepsRegs [0x40100010] L ∧
         L.on Reg.SAFE_STAT_RESET_PEND = false))

/-- R14, R143 to R145, R153: a copy of 220 bytes in time that is of this round and whose tag for this lane checks is kept as direct or relayed, any
other raises 0x0205; what was received directly is what is relayed, verified or not; and of two copies that differ none is used and the sender
equivocated. Says where these complete: agreementMessage, subround2Relay, catchupFrame. -/
def Obligations.CopiesDecideMessage : Prop :=
  (∀ (s : State) (l : Lane) (m : AgrMsg) (rel inTime : Bool) (len : Nat), (s.lane l).inRounds = true → m.lane ≠ l →
    LaneRuns (.agreementMessage l rel m len inTime) s l fun L =>
      let old := s.lane l
      let ok := old.inSequence m && old.verifies l m
      let heard := if rel then old.agr.heard else setNth old.agr.heard (laneIx m.lane) (some m)
      (len = 220 → inTime = true → ok = true → old.keeps [.agr] L ∧ L.agr = (if rel
        then { old.agr with relayed := setNth old.agr.relayed (laneIx m.lane) (some m) }
        else { old.agr with heard := heard, direct := setNth old.agr.direct (laneIx m.lane) (some m) })) ∧
      (len = 220 → inTime = true → ok = false → old.keeps (.agr :: faultParts) L ∧ old.keepsRegs faultRegs L ∧
        L.agr = { old.agr with heard := heard } ∧ old.reported L 0x0205 (laneIx m.lane + 1)) ∧
      (len ≠ 220 ∨ inTime = false → old.keeps faultParts L ∧ old.keepsRegs faultRegs L ∧
        old.reported L 0x0205 (laneIx m.lane + 1))) ∧
  (∀ (s : State) (l : Lane), (s.lane l).inRounds = true → LaneRuns (.subround2Relay l) s l fun L => (s.lane l).keeps [.agr] L ∧
    L.agr = { (s.lane l).agr with sent := (s.lane l).agr.heard }) ∧
  (∀ (s : State) (l : Lane) (m : AgrMsg) (ok : Bool), (s.lane l).inRounds = true → m.lane ≠ l →
    (s.lane l).agr.token = laneIx l + 1 → (s.lane l).rd Reg.AGR_SEQ_SLOT = 2 →
    ok = ((s.lane l).verifies l m && m.slot == 2 && m.cyc % 32 == cycleOf (s.lane l).time % 32) →
    LaneRuns (.catchupFrame l m) s l fun L => (s.lane l).keeps (.agr :: faultParts) L ∧ (s.lane l).keepsRegs faultRegs L ∧
      L.agr = { (s.lane l).agr with catchup := (s.lane l).agr.catchup ++ [if ok then some m else none] } ∧
      (ok = true → (s.lane l).keeps [.agr] L) ∧ (ok = false → (s.lane l).reported L 0x0205 (laneIx m.lane + 1))) ∧
  (∀ (d r : Option AgrMsg), ((decideCopies d r).2 = true ↔ d.isSome = true ∧ r.isSome = true ∧ d ≠ r) ∧
    ((decideCopies d r).1 = none ↔ (d = none ∧ r = none) ∨ (decideCopies d r).2 = true) ∧
    ∀ m, (decideCopies d r).1 = some m → d = some m ∨ r = some m)

/-- R147: of three lanes EXACT takes what two hold and marks the others, or marks all; MVS takes the middle and marks what is further than TOL; of two
it agrees, halves, or conflicts; the lanes' order does not matter, and a modular field's vote moves with its values. R147, R152, R154: a conflict of
two under three voters makes the field invalid and marks no one; under two voters, when PREDICT picks none, it holds the last agreed value while the
third lane is absent and stays unresolved otherwise. R150: a lane that finds itself odd presents claim 0 everywhere, resets its control state and is
in RESYNC, with no core reset to come; one that finds another odd excludes and vetoes it. -/
def Obligations.VoteOutvotesOneLane : Prop :=
  ((∀ (tol : Nat) (a b c m : Int), 2 ≤ [a, b, c].count m →
     (voteOf 0 tol [(0, a), (1, b), (2, c)]).value = some m ∧ (voteOf 0 tol [(0, a), (1, b), (2, c)]).conflict = false ∧
     ∀ i < 3, i ∈ (voteOf 0 tol [(0, a), (1, b), (2, c)]).marks ↔ [a, b, c].getD i 0 ≠ m) ∧
   (∀ (tol : Nat) (a b c : Int), a ≠ b → a ≠ c → b ≠ c →
     voteOf 0 tol [(0, a), (1, b), (2, c)] = ⟨none, [0, 1, 2], false, false⟩) ∧
   (∀ (tol : Nat) (a b c : Int), ∃ m, (voteOf 2 tol [(0, a), (1, b), (2, c)]).value = some m ∧
     (voteOf 1 tol [(0, a), (1, b), (2, c)]).value = some m ∧ (voteOf 1 tol [(0, a), (1, b), (2, c)]).marks = [] ∧
     m ∈ [a, b, c] ∧ min a (min b c) ≤ m ∧ m ≤ max a (max b c) ∧ (∀ x, 2 ≤ [a, b, c].count x → m = x) ∧
     (voteOf 2 tol [(0, a), (1, b), (2, c)]).conflict = false ∧
     ∀ i < 3, i ∈ (voteOf 2 tol [(0, a), (1, b), (2, c)]).marks ↔ tol < absN ([a, b, c].getD i 0 - m)) ∧
   (∀ (rule tol i j : Nat) (a b : Int), (voteOf rule tol [(i, a), (j, b)]).marks = [] ∧
     ((voteOf rule tol [(i, a), (j, b)]).conflict = true ↔ (rule = 0 ∧ a ≠ b) ∨ (2 ≤ rule ∧ tol < absN (a - b))) ∧
     ∀ m, (voteOf rule tol [(i, a), (j, b)]).value = some m → if rule = 0 then m = a ∧ a = b else m = (a + b) / 2) ∧
   (∀ (rule tol : Nat) (a b c : Int), (voteOf rule tol [(0, a), (1, b), (2, c)]).value = (voteOf rule tol [(0, b), (1, a), (2, c)]).value ∧
     (voteOf rule tol [(0, a), (1, b), (2, c)]).value = (voteOf rule tol [(0, a), (1, c), (2, b)]).value) ∧
   (∀ (rule tol : Nat) (k a b c : Int), 0 ≤ a → a < 65536 → 0 ≤ b → b < 65536 → 0 ≤ c → c < 65536 →
     (voteField rule tol true [(0, (a + k) % 65536), (1, (b + k) % 65536), (2, (c + k) % 65536)]).value =
       (voteField rule tol true [(0, a), (1, b), (2, c)]).value.map fun x => (x + k) % 65536)) ∧
  (∀ (L : LaneSt) (f : Nat) (absent : Bool) (v : List (Nat × Int)),
     (∀ r : FieldVote, r.conflict = false → L.settle f v.length absent v r = (r, false, false)) ∧
     (∀ r : FieldVote, r.conflict = true → L.settle f 3 absent v r = ({ r with conflict := false }, false, false)) ∧
     (∀ (r : FieldVote) (n : Nat), r.conflict = true → n ≠ 3 → (L.fieldRule f).2.2.2 = false →
       L.settle f n absent v r = if absent then (⟨L.past 0 f, [], false, false⟩, true, false) else (r, false, true))) ∧
  ((∀ (L : LaneSt) (l : Lane) (r : Rnd), L.fc.hold = false → L.on Reg.DBG_CHK_STAT_CORE_MODE = false →
     (L.selfOdd l r).mode = 2 ∧ (∀ i < 3, (L.selfOdd l r).rd (Reg.CLAIM_OF i) = 0) ∧ (L.selfOdd l r).rd Reg.AGR_RSYNC_PHASE = 1 ∧
     (L.selfOdd l r).com.posted = false ∧ (L.selfOdd l r).com.stg = .all ComStg.reset ∧ L.reported (L.selfOdd l r) 0x0202 0xFF ∧
     (L.selfOdd l r).fc.resetDue = false) ∧
   (∀ (L : LaneSt) (r : Rnd) (i : Nat), i < 3 → nth (L.otherOdd r i).agr.odd i = true ∧
     (L.otherOdd r i).on (Reg.CLM_PRESENT_VETO.bit i) = true ∧ (L.otherOdd r i).excluded i = true ∧
     (bitN r.equiv i = true → L.reported (L.otherOdd r i) 0x0203 (i + 1))))

/-- R24, R25, R142: at a slot start, after the mailbox's actions, the posting of the slot that ended becomes what POSTED shows and what is compared, and
a new one begins. R8, R141, R147, R158: a vote uses up the lane's own message and, with its validity mask, puts the round at the head of the
history; the application's fast task is called. R120, R155, R171, R178, R325: a basic-cycle start shows and clears the counts of the cycle that
ended; a lane in RESYNC that has caught up begins shadowing for eight cycles. Says where these complete: slotStart, voteComplete, basicCycleStart. -/
def Obligations.VotesPostedAndCounted : Prop :=
  (∀ (s : State) (l : Lane) (t : Nat) (M : LaneSt), (s.lane l).up = true → t % 50000 = 0 →
     M = (((s.lane l).tick t).resume t).mbxSlot l → M.up = true →
     Runs (.slotStart l t) s fun u => (∀ o, o ≠ l → u.lane o = s.lane o) ∧ u.gX = s.gX ∧ u.gY = s.gY ∧ u.pending = s.pending ∧
       (u.lane l).com.posted = false ∧ (u.lane l).com.late = false ∧ (u.lane l).meas.slot = t / 50000 ∧
       (u.lane l).on Reg.COM_POST_STAT_POSTED = M.com.posted) ∧
  (∀ (s : State) (l : Lane) (m : AgrMsg) (P : LaneSt), (s.lane l).inRounds = true → (s.lane l).agr.own = some m →
     P = for3 (fun i L => if i = laneIx l then L else L.copyErrors (laneIx l) i) (s.lane l) →
     Runs (.voteComplete l) s fun u => ((u.lane l).nvm.chosen = (s.lane l).nvm.chosen → u.gX = s.gX ∧ u.gY = s.gY) ∧ u.pending = s.pending ∧
       (u.lane l).agr.own = none ∧ (u.lane l).agr.first = false ∧ (u.lane l).sys.fastIrq = true ∧
       (u.lane l).time = (s.lane l).time ∧ (u.lane l).agr.direct = (s.lane l).agr.direct ∧
       ((u.lane l).agr.hist.head?.map fun h => h.valid) = some ((P.welcome (P.usedMsgs l)).round l m.slot).valid) ∧
  (∀ (s : State) (l : Lane) (t : Nat), (s.lane l).up = true → t % 250000 = 0 → LaneRuns (.basicCycleStart l t) s l fun L =>
     L.agr.linkErr = .all 0 ∧ L.meas.linkErr = .all 0 ∧ L.core.retired = 0 ∧ L.core.stalled = 0 ∧
     ((s.lane l).mode ≠ 2 → L.agr.shadow = (s.lane l).agr.shadow - 1) ∧
     ((s.lane l).mode = 2 → (s.lane l).rd Reg.AGR_RSYNC_PHASE = 3 → (s.lane l).agr.caughtUp = true →
       L.agr.shadow = 8 ∧ L.rd Reg.AGR_RSYNC_PHASE = 4 ∧ L.agr.caughtUp = false) ∧
     L.rd Reg.AGR_LINKERR_AB = min (s.lane l).agr.linkErr.a 255 ∧ L.rd Reg.AGR_LINKERR_BC = min (s.lane l).agr.linkErr.b 255 ∧
     L.rd Reg.AGR_LINKERR_CA = min (s.lane l).agr.linkErr.c 255 ∧ ∀ i < 3, L.rd (Reg.STG_CNT_REFRESH i) = min (nth (s.lane l).meas.refresh i) 255)

/-- R155 to R160, R167: at a boundary n_r a voting lane copies a package for each lane that does not vote; a lane that has sent RESYNC takes packages of
its n_r from enough voting lanes, restores what they carry and catches up; a late, unverified or overrun attempt fails with its reason, 0x0207 and a
retry 10 ms later; after shadowing the lane is CHECKED, votes, and is healthy again. Says where these complete: resyncPoint, resyncPackage,
resyncPackageTimeout, catchupComplete, shadowingEnd, resyncRetry. -/
def Obligations.ResyncReturnsLane : Prop :=
  ∀ (s : State) (l : Lane) (t n : Nat), (s.lane l).up = true →
    let old := s.lane l
    let failed := fun (code : Nat) (L : LaneSt) => old.keeps (.time :: .agr :: .com :: faultParts) L ∧
      L.rd Reg.AGR_RSYNC_REASON = code ∧ L.agr.retryAt = some (t + 10000000) ∧ L.agr.nr = none ∧ L.com.stg = .all ComStg.reset
    let few := ((t :: old.agr.fails).filter fun u => t ≤ u + 10000000000).length < 3
    (n = cycleOf old.time → old.mode = 0 → LaneRuns (.resyncPoint l n) s l fun L => old.keeps [.agr] L ∧
      L.agr = { old.agr with copied := L.agr.copied } ∧
      ∀ i < 3, nth L.agr.copied i = if i ≠ laneIx l ∧ old.on (Reg.SYS_STATE_VOTING.bit i) = false
        then some (old.package l (laneOf i) n) else nth old.agr.copied i) ∧
    (∀ c : Nat, old.agr.rsyncSent = some c → c < n → n = cycleOf old.time → old.mode = 2 →
      old.rd Reg.AGR_RSYNC_PHASE = 1 ∨ old.rd Reg.AGR_RSYNC_PHASE = 6 → old.agr.retryAt = none →
      LaneRuns (.resyncPoint l n) s l fun L => old.keeps [.agr, .regs] L ∧ old.keepsRegs [0x40020018] L ∧
        (old.sendersNeeded ≤ old.otherVoters l → L.rd Reg.AGR_RSYNC_PHASE = 2 ∧ L.agr.nr = some n) ∧
        (old.otherVoters l < old.sendersNeeded → L.rd Reg.AGR_RSYNC_PHASE = 6)) ∧
    (∀ (o : Lane) (p : Package) (tag dig : Bool), old.mode = 2 → old.rd Reg.AGR_RSYNC_PHASE = 2 → o ≠ l →
      p.sender = o → p.target = l → old.agr.nr = some p.nr → few →
      (p.nr * 250000 + 1000000 < t → LaneRuns (.resyncPackage l o p tag dig t) s l fun L => failed 1 L ∧ old.reported L 0x0207 0xFF) ∧
      (t ≤ p.nr * 250000 + 1000000 → tag = false ∨ dig = false → LaneRuns (.resyncPackage l o p tag dig t) s l fun L => failed 3 L ∧
        ((old.tick t).raise 0x0205 (laneIx o + 1)).reported L 0x0207 0xFF) ∧
      (t ≤ p.nr * 250000 + 1000000 → tag = true → dig = true → old.agr.pkg = .all none → p.version = old.rd Reg.AGR_STAT_VERSION →
        max old.sendersNeeded (old.otherVoters l) = 1 → LaneRuns (.resyncPackage l o p tag dig t) s l fun L =>
          L.rd Reg.AGR_RSYNC_PHASE = 3 ∧ L.agr.pkgAt = t ∧ L.com.pending = p.learned ∧ L.agr.token = p.churn.getD 0 0 ∧
          L.pos.tmrExt = p.ext.c.toInt + signedOf 16 (bitsOf 16 (old.pos.tmrExt - p.ext.c.toInt)) ∧
          ∀ i < 3, (L.cst i).acc = (nth p.regulator i).getD 0 0 ∧ (L.cst i).emf = (nth p.observer i).getD 0 0) ∧
      (t ≤ p.nr * 250000 + 1000000 → tag = true → dig = true → old.agr.pkg = .all none →
        1 < max old.sendersNeeded (old.otherVoters l) → LaneRuns (.resyncPackage l o p tag dig t) s l fun L =>
          old.keeps [.time, .agr] L ∧ nth L.agr.pkg (laneIx o) = some p)) ∧
    (∀ n0 : Nat, old.mode = 2 → old.rd Reg.AGR_RSYNC_PHASE = 2 → old.agr.nr = some n0 →
      n0 * 250000 + 1000000 ≤ t → few → LaneRuns (.resyncPackageTimeout l t) s l fun L => failed 1 L ∧ old.reported L 0x0207 0xFF) ∧
    (∀ n0 : Nat, old.mode = 2 → old.rd Reg.AGR_RSYNC_PHASE = 3 → old.agr.nr = some n0 →
      (t ≤ n0 * 250000 + 3200000 → t ≤ old.agr.pkgAt + 2000000 → LaneRuns (.catchupComplete l t) s l fun L =>
        old.keeps [.time, .agr] L ∧ L.agr = { old.agr with caughtUp := true }) ∧
      (n0 * 250000 + 3200000 < t ∨ old.agr.pkgAt + 2000000 < t → few →
        LaneRuns (.catchupComplete l t) s l fun L => failed 4 L ∧ old.reported L 0x0207 0xFF)) ∧
    (old.mode = 2 → old.rd Reg.AGR_RSYNC_PHASE = 4 → old.agr.shadow = 0 →
      Runs (.shadowingEnd l t) s fun u => (∀ o, o ≠ l → u.lane o = s.lane o) ∧ u.gX = s.gX ∧ u.gY = s.gY ∧ u.pending = s.pending ∧
        (∀ g, u.stage g = { s.stage g with unhealthy := setNth (s.stage g).unhealthy (laneIx l) false }) ∧
        old.keeps [.time, .agr, .fc, .regs] (u.lane l) ∧ old.keepsRegs [0x40000004, 0x40020018, 0x40030004] (u.lane l) ∧
        (u.lane l).mode = 0 ∧ (u.lane l).on (Reg.SYS_STATE_VOTING.bit (laneIx l)) = true ∧ (u.lane l).rd Reg.AGR_RSYNC_PHASE = 5) ∧
    (∀ u : Nat, old.agr.retryAt = some u → u ≤ t → old.mode = 2 → old.on Reg.AGR_RSYNC_LOCKOUT = false →
      LaneRuns (.resyncRetry l t) s l fun L => old.keeps [.time, .agr] L ∧ L.agr = { old.agr with retryAt := none })

/-- R108, R417: a partner's verified exchange completes the pair key and enters its range; a version in force within the lane's own range is taken, one
outside raises 0x0209, as does the second exchange that does not verify; with none in force the lane decides once no answer is awaited. Says where
these complete: versionExchange. -/
def Obligations.VersionExchangeTakesCommon : Prop :=
  ∀ (s : State) (l o : Lane) (lo hi boot v : Nat) (done : Bool), (s.lane l).linked = true → o ≠ l →
    let old := s.lane l
    let lc := old.rd Reg.SEC_LC_STATE
    let heard := fun (L : LaneSt) => old.keeps (.agr :: .sec :: faultParts) L ∧ old.keepsRegs (0x40020000 :: 0x400E0004 :: faultRegs) L ∧
      nth L.agr.ranges (laneIx o) = some (lo, hi) ∧ nth L.agr.boots (laneIx o) = some boot ∧ nth L.agr.lcs (laneIx o) = some lc ∧
      (if o = (otherLanes l).1 then L.on Reg.SEC_KEY_STAT_PAIR_LO = true else L.on Reg.SEC_KEY_STAT_PAIR_HI = true)
    (old.on Reg.SEC_KEY_STAT_MSK = true → LaneRuns (.versionExchange l o lo hi boot lc true (some v) done) s l fun L => heard L ∧
      (old.agr.vmin ≤ v → v ≤ old.agr.vmax → L.rd Reg.AGR_STAT_VERSION = v % 2 ^ Reg.AGR_STAT_VERSION.w) ∧
      (v < old.agr.vmin ∨ old.agr.vmax < v → L.rd Reg.AGR_STAT_VERSION = old.rd Reg.AGR_STAT_VERSION ∧
        old.reported L 0x0209 0xFF)) ∧
    (old.on Reg.SEC_KEY_STAT_MSK = true → done = true → old.agr.ranges = .all none → old.agr.unverified = .all false →
      old.agr.vmin ≤ old.agr.vmax → LaneRuns (.versionExchange l o lo hi boot lc true none done) s l fun L => heard L ∧
      (max lo old.agr.vmin ≤ min hi old.agr.vmax → L.rd Reg.AGR_STAT_VERSION = min hi old.agr.vmax % 2 ^ Reg.AGR_STAT_VERSION.w) ∧
      (min hi old.agr.vmax < max lo old.agr.vmin → old.reported L 0x0209 0xFF)) ∧
    LaneRuns (.versionExchange l o lo hi boot lc false none false) s l fun L => old.keeps (.agr :: faultParts) L ∧
      ((∀ x : Lane, x ≠ l → x ≠ o → nth old.agr.unverified (laneIx x) = true) → old.keepsRegs faultRegs L ∧ old.reported L 0x0209 0xFF) ∧
      ((∀ x : Lane, x ≠ l → x ≠ o → nth old.agr.unverified (laneIx x) = false ∧ nth old.agr.ranges (laneIx x) = none) → old.keeps [.agr] L ∧
        L.agr = { old.agr with unverified := setNth old.agr.unverified (laneIx o) true, ranges := setNth old.agr.ranges (laneIx o) none })

/-- R77, R315, R316, R319 to R322: a slice of a segment not yet passed in the cycle ends with its partition and segment in CHN_LAST: passed when scan,
signature, restore and reload are right; a first difference is retried, a second fails the lane's logic, or in partition 7 the stage's copy; FOLD
ends it with the restore, whose CRC is checked. R318, R319, R322: a slice whose zeroising did not complete ends without scan for reason 6 and is
retried; coverage overdue is raised once a cycle; and a stage's two copies swap roles after equal outputs, while a difference fails the copy and
removes the stage. R317: the spare of partition 2 or 3 that has passed all its segments takes the place of the next unit when the outputs are equal,
else it has failed; before that nothing is handed over. Says where these complete: churnSlice, zeroiseTimeout, spareUnitHandover, stageCopySwap,
churnCoverageOverdue. -/
def Obligations.ChurnTestsAndRepairs : Prop :=
  (∀ (s : State) (l : Lane) (p seg dur : Nat) (zero sig crc key fold : Bool), (s.lane l).mayScan l p seg = true → dur ≤ 40000 →
     let old := s.lane l
     let judged := fun (L : LaneSt) =>
       old.keeps (.chn :: .mem :: .shepMem :: .core :: .meas :: faultParts) L ∧ L.chn.active = false ∧
       L.chn.sliced = some (old.meas.slot, p) ∧ L.rd Reg.CHN_LAST_PARTITION = p ∧ L.rd Reg.CHN_LAST_DURATION = min (dur / 10) 0xFFF ∧
       (fold = true → L.rd Reg.CHN_LAST_RESULT = 4 ∧ L.rd Reg.CHN_LAST_REASON = 3 ∧ L.chn.aborted = some (old.meas.slot / 5) ∧
         L.chn.passed = old.chn.passed ∧ (crc = false → p ≠ 6 → old.reported L 0x0C05 p)) ∧
       (fold = false → zero = true ∨ p ≠ 6 → sig = true → crc = true → key = true ∨ p ≠ 6 → L.rd Reg.CHN_LAST_RESULT = 1 ∧
         L.rd Reg.CHN_LAST_REASON = 0) ∧
       (fold = false → crc = false → L.chn.passed = old.chn.passed) ∧
       (fold = false → sig = false → L.chn.passed = old.chn.passed ∧
         ((old.chn.missed.getD p 0).testBit seg = false → L.rd Reg.CHN_LAST_RESULT = 2 ∧
           L.rd Reg.CHN_RETRY_RETRIES = min (old.rd Reg.CHN_RETRY_RETRIES + 1) (2 ^ Reg.CHN_RETRY_RETRIES.w - 1)) ∧
         ((old.chn.missed.getD p 0).testBit seg = true → L.rd Reg.CHN_LAST_RESULT = 3 ∧
           (crc = true → key = true ∨ p ≠ 6 → if p = 7 then old.reported L 0x0C06 (old.copyStage l seg) ∧ L.on Reg.CHN_UNITS_COPY_FAIL = true
             else old.reported L 0x0C02 p)))
     (p ≠ 7 → LaneRuns (.churnSlice l p seg zero sig crc key dur fold) s l judged) ∧
     (p = 7 → Runs (.churnSlice l p seg zero sig crc key dur fold) s fun u => (∀ o, o ≠ l → u.lane o = s.lane o) ∧ u.gX = s.gX ∧ u.gY = s.gY ∧
       u.pending = s.pending ∧ judged (u.lane l) ∧ ∀ g, u.stage g =
         if stgIx g = old.copyStage l seg then { s.stage g with copyFail := nth (u.lane l).meas.copyFail (stgIx g) } else s.stage g)) ∧
  (∀ (s : State) (l : Lane),
     (∀ seg us : Nat, (s.lane l).mayScan l 6 seg = true → 1 ≤ us → ((s.lane l).chn.missed.getD 6 0).testBit seg = false →
       LaneRuns (.zeroiseTimeout l seg us) s l fun L => (s.lane l).keeps [.chn, .mem, .regs] L ∧
         L.chn.sliced = some ((s.lane l).meas.slot, 6) ∧ L.rd Reg.CHN_LAST_RESULT = 2 ∧ L.rd Reg.CHN_LAST_REASON = 6 ∧ L.rd Reg.CHN_LAST_PARTITION = 6 ∧ L.chn.active = false ∧
         L.on Reg.CHN_KEY_ZERO_OK = false ∧ L.chn.passed = (s.lane l).chn.passed) ∧
     (∀ t : Nat, (s.lane l).up = true → (s.lane l).on Reg.CHN_STAT_OVERDUE = false → (s.lane l).chn.since + 1000000000 ≤ t →
       LaneRuns (.churnCoverageOverdue l t) s l fun L => (s.lane l).keeps (.time :: faultParts) L ∧
         (s.lane l).keepsRegs (0x400D0004 :: faultRegs) L ∧ L.on Reg.CHN_STAT_OVERDUE = true ∧ (s.lane l).reported L 0x0C03 0xFF) ∧
     (∀ t : Nat, (s.lane l).up = true → (s.lane l).on Reg.CHN_STAT_OVERDUE = true →
       LaneRuns (.churnCoverageOverdue l t) s l fun L => (s.lane l).keeps [.time] L) ∧
     (∀ (g : Stg) (eq : Bool), (s.lane l).up = true → (s.lane l).testsCopy l (stgIx g) = true →
       Runs (.stageCopySwap l g eq) s fun u => (∀ o, o ≠ l → u.lane o = s.lane o) ∧ (∀ o, o ≠ g → u.stage o = s.stage o) ∧
         u.gX = s.gX ∧ u.gY = s.gY ∧ u.pending = s.pending ∧ (s.lane l).keeps (.chn :: .meas :: faultParts) (u.lane l) ∧
         (eq = true → u.stage g = { s.stage g with copyQ := !(s.stage g).copyQ } ∧ (s.lane l).keeps [.chn, .regs] (u.lane l) ∧ (s.lane l).keepsRegs [0x400D0014] (u.lane l)) ∧
         (eq = false → u.stage g = { s.stage g with copyFail := true } ∧ (s.lane l).reported (u.lane l) 0x0C06 (stgIx g) ∧
           (u.lane l).on Reg.CHN_UNITS_COPY_FAIL = true ∧ (u.lane l).on (Reg.MEAS_STAT_OUT_OF_SERVICE.bit (stgIx g)) = true))) ∧
  (∀ (s : State) (l : Lane), (s.lane l).up = true →
     (30 ≤ (s.lane l).chn.done2 → LaneRuns (.spareUnitHandover l 2 true) s l fun L => (s.lane l).keeps [.chn, .regs] L ∧
       (s.lane l).keepsRegs [0x400D0014] L ∧ L.chn = { (s.lane l).chn with
         done2 := 0
         next2 := ((s.lane l).chn.next2 + 1) % 3
         units2 := setNth (s.lane l).chn.units2 (s.lane l).chn.next2 ((s.lane l).rd Reg.CHN_UNITS_COM_SPARE) } ∧
       L.rd Reg.CHN_UNITS_COM_SPARE = nth (s.lane l).chn.units2 (s.lane l).chn.next2 % 2 ^ Reg.CHN_UNITS_COM_SPARE.w) ∧
     (15 ≤ (s.lane l).chn.done3 → LaneRuns (.spareUnitHandover l 3 true) s l fun L => (s.lane l).keeps [.chn, .regs] L ∧
       (s.lane l).keepsRegs [0x400D0014] L ∧ L.chn = { (s.lane l).chn with
         done3 := 0
         next3 := ((s.lane l).chn.next3 + 1) % 3
         units3 := setNth (s.lane l).chn.units3 (s.lane l).chn.next3 ((s.lane l).rd Reg.CHN_UNITS_SEQ_SPARE) } ∧
       L.rd Reg.CHN_UNITS_SEQ_SPARE = nth (s.lane l).chn.units3 (s.lane l).chn.next3 % 2 ^ Reg.CHN_UNITS_SEQ_SPARE.w) ∧
     (30 ≤ (s.lane l).chn.done2 → LaneRuns (.spareUnitHandover l 2 false) s l fun L => (s.lane l).keeps (.chn :: faultParts) L ∧
       (s.lane l).keepsRegs faultRegs L ∧ L.chn = { (s.lane l).chn with done2 := 0 } ∧ (s.lane l).reported L 0x0C02 2) ∧
     ((s.lane l).chn.done2 < 30 → ∀ eq, LaneRuns (.spareUnitHandover l 2 eq) s l fun L => L = s.lane l))

/-- R58, R59, R62, R87, R367: at a slot start a transition in execution ends in its target, in every lane that is in step and in no other: DRIVE, ARM
from DRIVE, STANDBY with claim 0, every EN 0 and the stages at rest, or PARK, in which the guardians sleep; a SILENT lane enters PARK when a
guardian signals sleep. Says where these complete: transitionExecute, sleepSignal. -/
def Obligations.TransitionEndsInTarget : Prop :=
  ∀ (s : State) (l : Lane) (t tgt : Nat), (s.lane l).up = true →
    (t % 50000 = 0 → (s.lane l).rd Reg.SYS_STATE_PHASE = 2 → tgt = (s.lane l).rd Reg.SYS_STATE_TARGET → (s.lane l).arming = false →
      Runs (.transitionExecute l t) s fun u => u.pending = s.pending ∧
        (tgt ≠ stPark → u.gX = s.gX ∧ u.gY = s.gY) ∧
        (tgt = stPark → (s.lane l).sys.fold = false → u.gX.asleep = true ∧ u.gX.powered = false ∧ u.gY.asleep = true ∧ u.gY.powered = false) ∧
        (tgt = stDrive ∨ tgt = stArm → u.stages = s.stages) ∧
        (tgt = stStandby → (s.lane l).st ≠ stStandby → (s.lane l).sys.fold = false ∨ (s.lane l).st = stFold →
          ∀ g, u.stage g = (s.stage g).deEnergise) ∧
        ∀ k, (s.inStep l k = false → u.lane k = s.lane k) ∧
          (s.inStep l k = true → (s.lane k).sys.fold = false ∨ (s.lane k).st = stFold →
            let old := s.lane k
            let new := u.lane k
            (tgt = stDrive → old.keeps [.time, .regs] new ∧ new.st = stDrive ∧ new.rd Reg.SYS_STATE_PHASE = 0 ∧
              new.rd Reg.SYS_TRANS_STAT_RESULT = rDone) ∧
            (tgt = stArm → old.st = stDrive → old.keeps [.time, .pos, .regs] new ∧ new.st = stArm ∧ new.rd Reg.SYS_STATE_PHASE = 0 ∧
              new.rd Reg.SYS_TRANS_STAT_RESULT = rDone) ∧
            (tgt = stStandby → old.keeps [.time, .fc, .safe, .sys, .regs] new ∧ new.st = stStandby ∧ new.rd Reg.SYS_STATE_PHASE = 0 ∧
              new.safe.en = .all false ∧ new.rd Reg.SYS_CLK_STAT_CORE_FREQ = 0 ∧ ∀ i < 3, new.rd (Reg.CLAIM_OF i) = 0) ∧
            (tgt = stPark → new.st = stPark ∧ new.sys = { SysSt.reset with parkAt := max old.time t } ∧ new.pwr.regulator = false ∧
              new.rd Reg.SYS_BIAS_BIAS = 2))) ∧
    (∀ g : Gdn, (s.lane l).mode = 3 → (s.gdn g).asleep = true → Runs (.sleepSignal l g) s fun u =>
      (∀ o, o ≠ l → u.lane o = s.lane o) ∧ u.pending = s.pending ∧ (u.lane l).st = stPark ∧ u.gX = s.gX.sleep l ∧ u.gY = s.gY.sleep l)

/-- R44, R48, R78, R81 to R85, R367: a qualified source, a lane or the ring wakes a sleeping lane, names itself, and is passed on to the other lanes by
the guardians that some lane powers; the regulator brings clocks and retained values back, with the crystal or, 2 ms later, without it; after the
third failed attempt the lane is at reverse bias again and signals wake failure. Says where these complete: wakeSource, siblingWake, regulatorReady,
regulatorRetry, crystalFallback, ringWake. -/
def Obligations.WakeBringsLaneUp : Prop :=
  ∀ (s : State) (l : Lane) (t : Nat),
    let old := s.lane l
    let woken := fun (n : Nat) (L : LaneSt) => old.keeps [.time, .sys, .regs] L ∧
      old.keepsRegs [0x4000001C, 0x40000024, 0x40000028] L ∧ L.reg 0x4000001C = BitVec.ofNat 32 (2 ^ n) ∧
      L.sys = { old.sys with boot := .wake, tries := 0 } ∧ L.st = stPark ∧ L.rd Reg.SYS_BIAS_BIAS = 0
    let passed := fun (u : State) => (∀ o, o ≠ l → u.lane o = s.lane o) ∧ u.stages = s.stages ∧ u.pending = s.pending ∧
      ∀ g, u.gdn g = { s.gdn g with waking := (u.gdn g).waking } ∧ nth (u.gdn g).waking (laneIx l) = false ∧
        ∀ o, o ≠ l → nth (u.gdn g).waking (laneIx o) = (nth (s.gdn g).waking (laneIx o) || s.supplies g)
    (∀ (src mv us : Nat) (pattern : Bool), old.sleeps = true → old.wakeable src t = true → src ≠ 5 →
      (src = 0 ∨ src = 1 → pattern = true) → (src = 2 → 1000 ≤ us) →
      (src = 4 → 50 * old.rd Reg.SYS_WAKE_CFG_MOTION_THR < mv ∧ 2000 ≤ us) →
      Runs (.wakeSource l src mv us pattern t) s fun u => passed u ∧ woken src (u.lane l)) ∧
    (∀ g : Gdn, old.sleeps = true → nth (s.gdn g).waking (laneIx l) = true →
      Runs (.siblingWake l g t) s fun u => passed u ∧ woken 6 (u.lane l)) ∧
    (∀ (g : Gdn) (p : Port), s.supplies g = true → Runs (.ringWake g p t) s fun u => u.stages = s.stages ∧ u.pending = s.pending ∧
      (l = (suppliers g).1 ∨ l = (suppliers g).2 → old.sleeps = true → old.wakeable 5 t = true → woken 5 (u.lane l)) ∧
      (l ≠ (suppliers g).1 → l ≠ (suppliers g).2 → u.lane l = s.lane l)) ∧
    (∀ (g : Gdn) (p : Port), s.supplies g = false → Runs (.ringWake g p t) s fun u => u = s) ∧
    (∀ (ok : Bool) (crc : BitVec 4), old.st = stPark → old.sys.boot = .wake → old.pwr.regulator = false →
      LaneRuns (.regulatorReady l ok crc t) s l fun L => L.pwr = { old.pwr with regulator := true } ∧ L.st = stPark ∧
        L.on Reg.SYS_CLK_STAT_XTAL_OK = ok ∧ L.on Reg.SYS_CLK_STAT_TPLL_LOCK = ok ∧ L.on Reg.SYS_CLK_STAT_CPLL_LOCK = ok ∧
        (ok = true → old.keeps (.time :: .pwr :: .sec :: .flk :: .nvm :: .mem :: faultParts) L ∧ L.sys.boot = .woken ∧
          L.on Reg.SYS_RET_STAT_RESTORED = true) ∧
        (ok = false → old.keeps [.time, .pwr, .regs] L ∧ old.keepsRegs [0x40000024] L)) ∧
    (old.st = stPark → old.sys.boot = .wake → old.pwr.regulator = false →
      (old.sys.tries < 2 → LaneRuns (.regulatorRetry l t) s l fun L => old.keeps [.time, .sys, .regs] L ∧
        old.keepsRegs [0x40000024] L ∧ L.sys = { old.sys with tries := old.sys.tries + 1 } ∧
        L.rd Reg.SYS_CLK_STAT_REG_RETRY = old.sys.tries + 1) ∧
      (2 ≤ old.sys.tries → LaneRuns (.regulatorRetry l t) s l fun L => old.keeps [.time, .sys, .pwr, .fc, .regs] L ∧
        old.keepsRegs [0x40000028] L ∧ L.rd Reg.SYS_BIAS_BIAS = 2 ∧ L.sys.boot = .none ∧ L.pwr.wakeFail = true ∧ L.fc.line = 2)) ∧
    (∀ crc : BitVec 4, old.st = stPark → old.sys.boot = .wake → old.pwr.regulator = true → old.on Reg.SYS_CLK_STAT_XTAL_OK = false →
      LaneRuns (.crystalFallback l crc t) s l fun L => old.keeps (.time :: .sec :: .flk :: .nvm :: .mem :: faultParts) L ∧
        L.on Reg.SYS_CLK_STAT_RC_FALLBACK = true ∧ L.on Reg.SYS_CLK_STAT_TPLL_LOCK = true ∧ L.on Reg.SYS_CLK_STAT_CPLL_LOCK = true ∧
        L.sys.boot = .woken ∧ L.on Reg.SYS_RET_STAT_RESTORED = true)

/-- R13, R89, R91, R94, R95, R101, R108, R414: a lane that starts is in STANDBY, and the guardians that it powers are up. With no bank that verifies, or
DECOMMISSIONED, it stays SILENT in its boot ROM; with an application that does not verify, or no common version, it is SILENT; otherwise, here
without an image, it is CHECKED, or in RESYNC when another lane votes already. A memory that fails its test leaves it SILENT. R13, R48, R95, R413: a
firmware set that verifies in ROM recovery is committed in its bank and the lane boots cold; a guardian whose two lanes are both unpowered is
unpowered, and the lanes that run mask its consequences. Says where these complete: guardianPowerLoss, wakeComplete, coldBoot, romRecoveryLoad. -/
def Obligations.StartEndsInStandby : Prop :=
  (∀ (s : State) (l : Lane) (f : BootFacts) (t : Nat) (others : Bool), others = s.othersVote l →
     let outcome := fun (K M : LaneSt) =>
       (K.lc = lcDecommissioned ∨ (K.bootBank f.bankAOk f.bankBOk 2).2 = false → M.mode = 3 ∧ M.sys.boot = .romRecovery ∧ M.st = stStandby) ∧
       (K.lc ≠ lcDecommissioned → (K.bootBank f.bankAOk f.bankBOk 2).2 = true →
         (f.appOk = false → M.mode = 3 ∧ M.st = stStandby ∧ ∀ i < 3, M.rd (Reg.CLAIM_OF i) = 0) ∧
         (f.appOk = true → K.mode = 0 → K.slotRec false = none → K.slotRec true = none → K.on Reg.DBG_CHK_STAT_CORE_MODE = false →
           M.st = stStandby ∧ M.sys.boot = .none ∧ M.nvm.chosen = none ∧ M.mode = if M.fc.hold then 3 else if others then 2 else 0))
     let powers := fun (u : State) => ∀ g, l = (suppliers g).1 ∨ l = (suppliers g).2 → (u.gdn g).powered = true ∧ (u.gdn g).asleep = false
     ((s.lane l).st = stPark → (s.lane l).sys.boot = .woken →
       Runs (.wakeComplete l f t) s fun u => (∀ o, o ≠ l → u.lane o = s.lane o) ∧ u.pending = s.pending ∧ powers u ∧
         outcome ((((s.lane l).tick t).startBase f.stoHigh).startDebug l f.lidOpen) (u.lane l)) ∧
     (∀ (mv : Int) (B : LaneSt), (s.lane l).st = stOff → 17000 < mv →
       B = (((((s.lane l).tick t).updPwr fun p => { p with lost := false, gndLost := false, supMv := mv }).coldClocks l f).startBase
         f.stoHigh).startDebug l f.lidOpen →
       Runs (.coldBoot l mv f t) s fun u => (∀ o, o ≠ l → u.lane o = s.lane o) ∧ u.pending = s.pending ∧ powers u ∧
         (f.memOk = true → outcome B (u.lane l)) ∧
         (f.memOk = false → (u.lane l).mode = 3 ∧ (u.lane l).st = stStandby ∧ (u.lane l).on Reg.SYS_WAKE_SRC_COLD = true))) ∧
  ((∀ (s : State) (l : Lane) (f : FwFacts) (b : Bool), (s.lane l).up = true → (s.lane l).sys.boot = .romRecovery →
     (s.lane l).lc ≠ lcDecommissioned → f.sigOk = true → (s.lane l).nvm.rollback ≤ f.svn →
     Runs (.romRecoveryLoad l f b) s fun u => (∀ o, o ≠ l → u.lane o = s.lane o) ∧ u.gX = s.gX ∧ u.gY = s.gY ∧ u.pending = s.pending ∧
       (u.lane l).st = stOff ∧ (u.lane l).sys.boot = .none ∧ ((u.lane l).bank b).state = .committed ∧ ((u.lane l).bank b).svn = f.svn % 65536 ∧
       ((u.lane l).bank b).seq = (max (s.lane l).nvm.bankA.seq (s.lane l).nvm.bankB.seq + 1) % 4294967296 ∧
       (u.lane l).bank (!b) = (s.lane l).bank (!b)) ∧
   (∀ (s : State) (g : Gdn), (s.lane (suppliers g).1).st = stOff → (s.lane (suppliers g).2).st = stOff → (s.gdn g).powered = true ∨ (s.gdn g).asleep = true →
     Runs (.guardianPowerLoss g) s fun u => (∀ o, o ≠ g → u.gdn o = s.gdn o) ∧ u.stages = s.stages ∧ u.pending = s.pending ∧
       (u.gdn g).powered = false ∧ (u.gdn g).asleep = false ∧ (u.gdn g).waking = .all false ∧ (u.gdn g).out = [] ∧ (u.gdn g).east.link = false ∧ (u.gdn g).west.link = false ∧
       ∀ l, (s.lane l).keeps [.fc, .regs] (u.lane l) ∧ (s.lane l).keepsRegs [0x40010018] (u.lane l) ∧
         ((s.lane l).up = true → (u.lane l).on (shadowFld.bit (14 + gdnIx g)) = true)))

/-- R336: with three sources or more, whatever one of them says, the midpoint is no further from zero than what the others say; the same holds for two
with eight sources or more. -/
def Obligations.MidpointToleratesFaults : Prop :=
  ∀ (d : List (Nat × Int)) (lo hi : Int), 3 ≤ d.length →
    (d.filter fun x => decide (x.2 < lo) || decide (hi < x.2)).length ≤ (if d.length ≤ 7 then 1 else 2) →
    -hi ≤ ftmOffset d ∧ ftmOffset d ≤ -lo

/-- R326, R331, R332, R334, R335, R343, R350: a listening keeper takes the time and the leader of the first authentic SYNC or COLDSTART frame of its
schedule; a tag that fails raises 0x0905 in a lane and is no more than dropped in a guardian, and another schedule's digest raises 0x0909. R15, R341
to R343, R350: after its listen time a lane that can cold-starts at the next 16 ms and sends COLDSTART on both channels, another runs on local time;
a COLDSTART from a lower sender is followed, one from the lane's own identifier bars it; local SYNC frames go between the lanes, in BLANK without a
tag. R343, R347: at the end of matrix position 3 the cold start that a keeper leads or follows is complete, in lanes and guardians; a selected cycle
point of a synchronised lane is pending and interrupts once per cycle, an overrun if it still was, until it is acknowledged. Says where these
complete: syncFrame, listenTimeout, coldstartFrame, localSyncSend, localSyncFrame, startupTimeout, startupComplete, cyclePoint, cpiAck. -/
def Obligations.KeepersTakeTime : Prop :=
  ((∀ (s : State) (l : Lane) (f : FlockFrame) (rx : Nat), (s.lane l).linked = true → (s.lane l).blank = false →
     let old := s.lane l
     let good := frAuthentic old.sec.keys.group f = true ∧ frFormOk f = true
     (f.fcsOk = true → frAuthentic old.sec.keys.group f = false →
       LaneRuns (.syncFrame (.lane l) f rx) s l fun L => old.keeps faultParts L ∧ old.keepsRegs faultRegs L ∧ old.reported L 0x0905 0xFF) ∧
     (good → f.typ = 1 → frSched f = old.flk.digest → old.flk.keeper.onLocal = false → old.flk.keeper.st = kListen →
       LaneRuns (.syncFrame (.lane l) f rx) s l fun L => old.keeps [.time, .flk, .can1, .can2, .regs] L ∧
         old.keepsRegs [0x40090004, 0x40090018, 0x4009001C] L ∧ L.time = frArrival f ∧
         L.flk.keeper = old.flk.keeper.adopt f rx kIntegrate false ∧ L.rd Reg.FLK_STAT_STATE = kIntegrate ∧
         L.rd Reg.FLK_START_LEADER = if frBell f then f.sender % 2 ^ Reg.FLK_START_LEADER.w else 0) ∧
     (good → f.typ = 1 → frSched f ≠ old.flk.digest → LaneRuns (.syncFrame (.lane l) f rx) s l fun L =>
       old.keeps (.flk :: faultParts) L ∧ old.keepsRegs (0x4009001C :: faultRegs) L ∧ L.flk.keeper = old.flk.keeper ∧
       L.rd Reg.FLK_START_DETAIL = 2 ∧ old.reported L 0x0909 2)) ∧
   (∀ (s : State) (g : Gdn) (f : FlockFrame) (rx : Nat), (s.gdn g).powered = true → (s.gdn g).keeper.st = kListen →
     (frAuthentic (s.groupKey g) f = true → frFormOk f = true → frSched f = (s.gdn g).digest →
       (f.typ = 1 → GuardianRuns (.syncFrame (.guardian g) f rx) s g fun G =>
         G = { s.gdn g with keeper := (s.gdn g).keeper.adopt f rx kIntegrate false, time := frArrival f }) ∧
       (f.typ = 2 → GuardianRuns (.coldstartFrame (.guardian g) f rx) s g fun G =>
         G = { s.gdn g with keeper := (s.gdn g).keeper.adopt f rx kIntegrate true, time := frArrival f })) ∧
     (frAuthentic (s.groupKey g) f = false → ∀ cold : Bool,
       GuardianRuns (if cold then .coldstartFrame (.guardian g) f rx else .syncFrame (.guardian g) f rx) s g fun G => G = s.gdn g))) ∧
  (∀ (s : State) (l : Lane) (t : Nat), (s.lane l).linked = true →
     let old := s.lane l
     let sent := fun (L : LaneSt) (typ u : Nat) =>
       (L.flk.wire.map fun f => (f.typ, f.sender, f.txTime, f.chY)) = [(typ, old.senderId l, u, false), (typ, old.senderId l, u, true)]
     (old.flk.keeper.st = kListen → old.flk.keeper.since + (old.listenTime l : Nat) ≤ t →
       LaneRuns (.listenTimeout l t) s l fun L => old.keeps [.time, .flk, .regs] L ∧
         old.keepsRegs [0x40090004, 0x40090018, 0x4009001C] L ∧
         (old.coldCapable = true → L.flk.keeper.st = kCold ∧ L.time = (t / 16000000 + 1) * 16000000 ∧
           L.on Reg.FLK_STAT_BELLWETHER = true ∧ L.rd Reg.FLK_STAT_STATE = kCold ∧ sent L 2 ((t / 16000000 + 1) * 16000000)) ∧
         (old.coldCapable = false → L.flk.keeper.st = kSynced ∧ L.flk.keeper.onLocal = true ∧ L.on Reg.FLK_STAT_SCOPE = true ∧
           L.flk.wire = old.flk.wire)) ∧
     (∀ (f : FlockFrame) (t0 : Nat), old.blank = false → frAuthentic old.sec.keys.group f = true → frFormOk f = true → f.typ = 2 →
       old.flk.keeper.onLocal = false → frSched f = old.flk.digest →
       (old.flk.keeper.st = kListen → LaneRuns (.coldstartFrame (.lane l) f t) s l fun L =>
         L.flk.keeper = old.flk.keeper.adopt f t kIntegrate true ∧ L.time = frArrival f) ∧
       (old.flk.keeper.st = kCold → old.flk.keeper.coldAt = some t0 → t < t0 + 250000 →
         (f.sender < old.senderId l → LaneRuns (.coldstartFrame (.lane l) f t) s l fun L =>
           L.flk.keeper.st = kIntegrate ∧ L.flk.keeper.leader = f.sender ∧ L.on Reg.FLK_STAT_BELLWETHER = false) ∧
         (f.sender = old.senderId l → LaneRuns (.coldstartFrame (.lane l) f t) s l fun L =>
           L.flk.keeper.st = kListen ∧ L.flk.keeper.barred = true ∧ L.rd Reg.FLK_START_DETAIL = 4 ∧ old.reported L 0x0909 4) ∧
         (old.senderId l < f.sender → LaneRuns (.coldstartFrame (.lane l) f t) s l fun L => L.flk.keeper = old.flk.keeper))) ∧
     (old.flk.keeper.onLocal = true → old.flk.keeper.st = kSynced → t % 250000 = 240000 + 3000 * laneIx l →
       LaneRuns (.localSyncSend l t) s l fun L => old.keeps [.time, .flk] L ∧ L.flk.keeper.sentSync = true ∧ sent L 7 t) ∧
     (∀ f : FlockFrame, old.blank = false → f.fcsOk = true → frAuthentic old.sec.keys.group f = false →
       LaneRuns (.localSyncFrame l f t) s l fun L =>
         old.keeps faultParts L ∧ old.keepsRegs faultRegs L ∧ old.reported L 0x0905 0xFF) ∧
     (∀ f : FlockFrame, f.typ = 7 → frFormOk f = true → old.blank = true ∨ frAuthentic old.sec.keys.group f = true →
       old.flk.keeper.st = kListen → LaneRuns (.localSyncFrame l f t) s l fun L => old.keeps [.time, .flk, .can1, .can2, .regs] L ∧
         old.keepsRegs [0x40090004, 0x40090018, 0x4009001C] L ∧ L.time = frArrival f ∧
         L.flk.keeper = { old.flk.keeper.adopt f t kIntegrate false with onLocal := true, adoptAt := some (cycleOf (frArrival f) + 1) }) ∧
     (old.rd Reg.FLK_CFG_NODE ≠ 0 → (old.flk.keeper.st ≠ kSynced ∧ old.flk.keeper.st ≠ kPassive) ∨ old.flk.keeper.onLocal = true →
       old.flk.keeper.late = false → old.flk.keeper.since + 3000000 ≤ t → LaneRuns (.startupTimeout l t) s l fun L =>
         old.keeps (.time :: .flk :: faultParts) L ∧ old.keepsRegs (0x4009001C :: faultRegs) L ∧
         L.flk.keeper = { old.flk.keeper with late := true } ∧ L.rd Reg.FLK_START_DETAIL = 1 ∧ old.reported L 0x0909 1)) ∧
  ((∀ (s : State) (n a : Nat), n % 64 = 3 → a ≤ n → n < a + 4 →
     (∀ l z, (s.lane l).linked = true → (s.lane l).flk.keeper.st = kCold → (s.lane l).flk.keeper.coldAt = some z → cycleOf z = a →
       LaneRuns (.startupComplete (.lane l) n) s l fun L =>
         (s.lane l).keeps [.flk, .regs] L ∧ (s.lane l).keepsRegs [0x40090004, 0x40090018, 0x4009001C] L ∧
         L.flk.keeper = { (s.lane l).flk.keeper with st := kSynced, done := true, inStartup := false, syncAt := n } ∧
         L.on Reg.FLK_STAT_STARTUP_DONE = true ∧ L.rd Reg.FLK_STAT_STATE = kSynced) ∧
     (∀ g, (s.gdn g).powered = true → (s.gdn g).keeper.adoptAt = some a → (s.gdn g).keeper.inStartup = true →
       (s.gdn g).keeper.st = kIntegrate ∨ (s.gdn g).keeper.st = kSynced → GuardianRuns (.startupComplete (.guardian g) n) s g fun G =>
         G = { s.gdn g with keeper := { (s.gdn g).keeper with
           done := true
           inStartup := false
           syncAt := max (s.gdn g).keeper.syncAt n } })) ∧
   (∀ (s : State) (l : Lane) (p t : Nat) (c : Word), (s.lane l).linked = true → p < 16 → c = cellGet (fun _ => 0#32) (s.lane l).flk.cpiCfg p →
     (Reg.FLK_CPI_CFG_EN p).get c = 1 → (Reg.FLK_CPI_CFG_OFFSET p).get c < 2500 → t % 250000 = (Reg.FLK_CPI_CFG_OFFSET p).get c * 100 →
     (s.lane l).flk.keeper.st = kSynced → selects ((Reg.FLK_CPI_CFG_REP p).get c) ((Reg.FLK_CPI_CFG_BASE p).get c) (cycleOf t % 64) = true →
     LaneRuns (.cyclePoint l p t) s l fun L => (s.lane l).keeps [.time, .flk, .sys, .regs] L ∧ (s.lane l).keepsRegs [0x40090038] L ∧
       (cellGet (fun _ => 0) (s.lane l).flk.cpiLast p ≠ cycleOf t + 1 → L.flk.cpiPend = (s.lane l).flk.cpiPend ||| (1#16 <<< p) ∧
         16 + p ∈ L.sys.irqs ∧ ((s.lane l).flk.cpiPend.getLsbD p = true → L.on (Reg.FLK_CPI_STAT_OVERRUN.bit p) = true)) ∧
       (cellGet (fun _ => 0) (s.lane l).flk.cpiLast p = cycleOf t + 1 → L.flk = (s.lane l).flk ∧ L.sys = (s.lane l).sys)) ∧
   (∀ (s : State) (l : Lane) (m : BitVec 16), (s.lane l).linked = true → LaneRuns (.cpiAck l m) s l fun L => (s.lane l).keeps [.flk, .sys] L ∧
     L.flk = { (s.lane l).flk with cpiPend := (s.lane l).flk.cpiPend &&& ~~~m } ∧
     (∀ p < 16, 16 + p ∈ L.sys.irqs ↔ 16 + p ∈ (s.lane l).sys.irqs ∧ m.getLsbD p = false)))

/-- R336, R337, R345: at macrotick 2,000 a synchronised keeper slews by its offset correction clamped to 500 ns and is PASSIVE, with 0x0907, when that
was beyond the clamp; after every eighth cycle its rate changes; 64 cycles in PASSIVE in STANDBY lead back to LISTEN. Says where these complete:
offsetCorrection, rateCorrection, passiveTimeout. -/
def Obligations.OffsetRatePassive : Prop :=
  (∀ (s : State) (l : Lane) (t : Nat) (k : KeeperSt) (c : Int), (s.lane l).linked = true → k = (s.lane l).flk.keeper → k.st = kSynced →
    k.inStartup = false → t % 250000 = 200000 →
    c = ftmOffset (if k.sentSync then k.deviations ++ [((s.lane l).senderId l, 0)] else k.deviations) →
    LaneRuns (.offsetCorrection (.lane l) t) s l fun L => (s.lane l).keeps (.time :: .flk :: faultParts) L ∧
      (s.lane l).keepsRegs (0x4009 :: faultRegs) L ∧ L.flk.keeper.slew = clampI c (-500) 500 ∧ L.flk.keeper.copies = [] ∧
      L.flk.keeper.rate = k.rate ∧ L.flk.keeper.corrAt = some (cycleOf t) ∧ L.rdS Reg.FLK_SYNC_OFS = satS 16 c ∧
      (absN c ≤ 500 → L.flk.keeper.st = kSynced ∧ L.rd Reg.FLK_STAT_STATE = kSynced) ∧
      (500 < absN c → L.flk.keeper.st = kPassive ∧ L.rd Reg.FLK_STAT_STATE = kPassive ∧ (s.lane l).reported L 0x0907 0xFF)) ∧
  (∀ (s : State) (l : Lane) (n : Nat), (s.lane l).linked = true →
    (n % 8 = 7 → (s.lane l).flk.keeper.corrAt = some n → LaneRuns (.rateCorrection (.lane l) n) s l fun L =>
      (s.lane l).keeps [.flk, .regs] L ∧ (s.lane l).keepsRegs [0x40090004, 0x40090018, 0x4009001C] L ∧
      L.flk.keeper = { (s.lane l).flk.keeper with rate := (s.lane l).flk.keeper.newRate (s.lane l).rateLimit, corrAt := none }) ∧
    (n % 8 ≠ 7 → LaneRuns (.rateCorrection (.lane l) n) s l fun L => L = s.lane l)) ∧
  (∀ (s : State) (l : Lane), (s.lane l).linked = true → (s.lane l).flk.keeper.st = kPassive → 64 ≤ (s.lane l).flk.keeper.passive →
    (s.lane l).st = stStandby → LaneRuns (.passiveTimeout (.lane l)) s l fun L => (s.lane l).keeps [.flk, .regs] L ∧
      (s.lane l).keepsRegs [0x40090004, 0x40090018, 0x4009001C] L ∧ L.flk.keeper = (s.lane l).flk.keeper.listen (s.lane l).time ∧
      L.rd Reg.FLK_STAT_STATE = kListen) ∧
  (∀ (s : State) (g : Gdn) (t n : Nat), (s.gdn g).powered = true →
    (t % 250000 = 200000 → (s.gdn g).keeper.st = kSynced → GuardianRuns (.offsetCorrection (.guardian g) t) s g fun G => G.time = t ∧
      G.keeper = ((s.gdn g).keeper.correct 0 t).1 ∧ -500 ≤ G.keeper.slew ∧ G.keeper.slew ≤ 500) ∧
    (n % 8 = 7 → (s.gdn g).keeper.corrAt = some n → GuardianRuns (.rateCorrection (.guardian g) n) s g fun G => G = { s.gdn g with
      keeper := { (s.gdn g).keeper with rate := (s.gdn g).keeper.newRate 300000, corrAt := none } }) ∧
    ((s.gdn g).keeper.st = kPassive → 64 ≤ (s.gdn g).keeper.passive → (∀ l, (s.lane l).up = true → (s.lane l).st = stStandby) →
      GuardianRuns (.passiveTimeout (.guardian g)) s g fun G => G.keeper = (s.gdn g).keeper.listen (s.gdn g).time))

/-- R371, R372: what a Skim field decodes to differs from each sample by at most half a step of 2^Q; with Q 0 it is the samples. -/
def Obligations.SkimLosesHalfAStep : Prop :=
  ∀ (src q : Nat) (xs : List Int), skimModular src = false → q ≤ 4 → xs.length = 10 → (∀ x ∈ xs, -32768 ≤ x ∧ x ≤ 32767) →
    ∃ ys : List Int, skimFields [(src, q)] (skimEncode false q xs).1 = some (ys.flatMap put16, []) ∧ ys.length = 10 ∧
      (∀ i < 10, 2 * absN (ys.getD i 0 - xs.getD i 0) ≤ 2 ^ q) ∧ (q = 0 → ys = xs)

/-- R328, R334, R335, R343, R344, R349, R353, R369: a post takes up to 1,024 bytes of a transmit buffer; at the start of a cycle an enabled Skim stream
posts its samples; at the start of its window a synchronised lane whose start-up is complete sends the content posted 5 µs before, or the last one,
and in its SYNC window its SYNC frame; and a frame counts as heard. Says where these complete: flockFrameReceive, txPost, flockTransmit, skimEncode. -/
def Obligations.BuffersPostAndTransmit : Prop :=
  ∀ (s : State) (l : Lane), (s.lane l).linked = true →
    let old := s.lane l
    (∀ b n t : Nat, b < 32 → old.rd (Reg.FLK_BUF_CFG_DIR b) = 1 → old.skimBuf b = false → old.flk.mbxBufs.getLsbD b = false →
      LaneRuns (.txPost l b n t) s l fun L => old.keeps [.time, .flk] L ∧
        (n ≤ 1024 → (L.txBuf b).map (fun x => (x.data, x.postAt, x.unsent)) = some (old.bufBytes b n, t, true)) ∧
        (1024 < n → L.flk = old.flk) ∧ ∀ o, o ≠ b → L.txBuf o = old.txBuf o) ∧
    (∀ i : Nat, i < 4 → old.on (Reg.FLK_SKIM_CFG_EN i) = true → LaneRuns (.skimEncode l i) s l fun L =>
      old.keeps [.flk] L ∧
      (L.txBuf (old.rd (Reg.FLK_SKIM_CFG_BUF i))).map (fun x => (x.data, x.unsent)) =
        some ((old.skimPayload i (cycleStart old.time - 250000)).1, true)) ∧
    (∀ (y : Bool) (w m b t : Nat) (e : Win), e = winOf old.flk.sched y m w → w < 48 → cycleOf t % 64 = m → t % 250000 = e.start * 100 →
      old.flk.keeper.st = kSynced → old.flk.keeper.onLocal = false → old.flk.keeper.done = true → old.flk.keeper.syncAt < cycleOf t →
      (∀ x : TxBuf, old.txBuf b = some x → b < 32 → old.bound b 1 y w m = true → old.maySend l y m w = true →
        e.typ ≠ wSync → e.typ ≠ wChurn → LaneRuns (.flockTransmit l y w m b t) s l fun L =>
          old.keeps [.time, .flk, .regs] L ∧ old.keepsRegs [0x4009] L ∧ L.on (Reg.FLK_BUF_STAT_NEW b) = true ∧
          (L.flk.wire.map fun f => (f.typ, f.sender, f.window, f.matrix, f.chY, f.txTime, f.payload)) = [(0, old.senderId l, w, m, y, t,
            if x.postAt + 5000 ≤ cycleStart t + e.start * 100 then x.data else x.prev)]) ∧
      (e.typ = wSync → e.sender = old.senderId l → old.on Reg.FLK_CFG_SYNC_NODE = true → old.on Reg.SYS_CLK_STAT_RC_FALLBACK = false →
        LaneRuns (.flockTransmit l y w m b t) s l fun L => old.keeps [.time, .flk] L ∧ L.flk.keeper.sentSync = true ∧
          (L.flk.wire.map fun f => (f.typ, f.sender, f.window, f.matrix, f.chY, f.txTime)) = [(1, old.senderId l, w, m, y, t)])) ∧
    (∀ f : FlockFrame, old.blank = false →
      (f.fcsOk = true → frAuthentic old.sec.keys.group f = false → LaneRuns (.flockFrameReceive l f) s l fun L =>
        old.keeps faultParts L ∧ old.keepsRegs faultRegs L ∧ old.reported L 0x0905 0xFF) ∧
      (frAuthentic old.sec.keys.group f = true → frFormOk f = true → old.flk.keeper.onLocal = true →
        LaneRuns (.flockFrameReceive l f) s l fun L =>
          old.keeps [.flk] L ∧ L.flk.got = old.flk.got ∧ (if f.chY then L.flk.heardY else L.flk.heardX) = true) ∧
      (∀ b : Nat, frAuthentic old.sec.keys.group f = true → frFormOk f = true → f.typ ≠ 3 → old.flk.mbxWins = [] →
        old.flk.keeper.onLocal = false → old.fits f = [b] →
        (old.flk.got.find? fun r => r.buf == b && r.cyc == cycleOf (f.txTime + old.rd Reg.FLK_CFG_MARGIN)) = none →
        old.on (Reg.FLK_SKIM_RX_DECODE.bit b) = false → LaneRuns (.flockFrameReceive l f) s l fun L =>
          old.keeps [.flk] L ∧ (L.flk.due.getLast?.map fun r => (r.buf, r.seq, r.data)) = some (b, f.seq, f.payload)))

/-- R333, R352, R360: a ring transmission of more than 1,100 bytes blocks its port for 100 ms, a frame that fails the header checks is dropped and
counted, and one that is muted goes nowhere; from the west a foreign frame goes to its takers, with the delay of their links, and on east, its hops
counted and residence and link delay in CORR, and the node's own is taken off; from the east it goes on west. A blocked port comes back. R333, R346,
R351, R353, R358, R359: in a guardian that is synchronised a frame of its node within its window goes to the other lanes and onto the ring,
residence and link delay in CORR; one of a foreign sender or outside its window is truncated, counted, and raises 0x0908 in every powered lane, and
so does one still arriving at its window's end, whose copies go out with a bad FCS; the third truncated cycle in a row blocks the source until the
end of the next matrix cycle. Says where these complete: guardianRingFrame, portUnblock, guardianLocalFrame, windowEndCutoff, sourceUnblock. -/
def Obligations.GuardianForwards : Prop :=
  ((∀ (s : State) (g : Gdn) (p : Port) (f : FlockFrame) (n t : Nat) (G : GuardianSt), G = s.gdn g → G.powered = true →
     (G.port p).broken = false → (G.port p).blocked = none →
     (1100 < n → GuardianRuns (.guardianRingFrame g p f n t) s g fun H => (H.port p).blocked = some (t + 100000000) ∧ H.out = [] ∧
       H.drops = G.drops) ∧
     (n ≤ 1100 → G.headerOk f t = false → GuardianRuns (.guardianRingFrame g p f n t) s g fun H => H.out = [] ∧
       H.drops = (G.drops + 1) % 256 ∧ H.queue = G.queue ∧
       (((G.port p).failAt = cycleOf t → (G.port p).fails < 8) → (H.port p).blocked = none) ∧
       ((G.port p).failAt = cycleOf t → 8 ≤ (G.port p).fails → (H.port p).blocked = some (t + 100000000))) ∧
     (n ≤ 1100 → G.headerOk f t = true → G.muted f = true → GuardianRuns (.guardianRingFrame g p f n t) s g fun H =>
       H = { G with time := t, out := [] }) ∧
     (n ≤ 1100 → G.headerOk f t = true → G.muted f = false → G.arb f = false →
       (p = .west → idNode f.sender = G.node → GuardianRuns (.guardianRingFrame g p f n t) s g fun H => H.out = []) ∧
       (p = .west → idNode f.sender ≠ G.node → G.east.loop = false → G.east.broken = false → G.sends (.port .east) = true →
         GuardianRuns (.guardianRingFrame g p f n t) s g fun H => ∃ r ≤ 960, ∃ f' : FlockFrame,
           f' = { addCorr f (r + (G.port p).delay) with hops := min (f.hops + 1) 15 } ∧
           H.out.getLast? = some (.port .east, f') ∧
           ∀ l, l ∈ s.takers f → (Egress.lane l, addCorr f' (Config.linkDelay (gdnIx g) (laneIx l))) ∈ H.out) ∧
       (p = .east → G.west.loop = false → G.west.broken = false → G.sends (.port .west) = true →
         GuardianRuns (.guardianRingFrame g p f n t) s g fun H => ∃ r ≤ 960,
           H.out = [(.port .west, { addCorr f (r + (G.port p).delay) with hops := min (f.hops + 1) 15 })]))) ∧
   (∀ (s : State) (g : Gdn) (p : Port) (t u : Nat), (s.gdn g).powered = true → ((s.gdn g).port p).blocked = some u → u ≤ t →
     GuardianRuns (.portUnblock g p t) s g fun H => H.port p = { (s.gdn g).port p with blocked := none } ∧
       H.port (otherPort p) = (s.gdn g).port (otherPort p))) ∧
  ((∀ (s : State) (g : Gdn) (src : Src) (f : FlockFrame) (t0 t1 : Nat) (G : GuardianSt), G = s.gdn g → G.powered = true → f.typ ≠ 7 →
     (G.srcBlocked (G.srcId src) = true ∨ G.keeper.st = kPassive → GuardianRuns (.guardianLocalFrame g src f t0 t1) s g fun H =>
       H = { G with time := t0, out := [] }) ∧
     (G.srcBlocked (G.srcId src) = false → G.keeper.st = kSynced → G.muted { f with sender := G.srcId src } = false → G.arb f = false →
       let forwards := fun (f : FlockFrame) (H : GuardianSt) => ∃ r ≤ 960, ∃ f' : FlockFrame,
         f' = addCorr f (r + Config.linkDelay (gdnIx g) (srcIx src)) ∧ H.out.getLast? = some (.port .east, f') ∧
         ∀ l, src ≠ .lane l → (Egress.lane l, addCorr f' (Config.linkDelay (gdnIx g) (laneIx l))) ∈ H.out
       (f.sender = G.srcId src → cycleOf (t0 + G.margin) % 64 = f.matrix % 64 → frPermitted f G.sched = true → (G.limits f t0).1 ≤ t0 →
         t0 ≤ (G.limits f t0).2 → G.east.loop = false → G.east.broken = false → G.sends (.port .east) = true →
         GuardianRuns (.guardianLocalFrame g src f t0 t1) s g fun H => H.trunc = G.trunc ∧
           (t1 ≤ (G.limits f t0).2 → H.running = G.running ∧ forwards f H) ∧
           ((G.limits f t0).2 < t1 → H.running = G.running ++ [(src, f.window % 48, f.matrix % 64)] ∧ forwards { f with fcsOk := false } H)) ∧
       (f.sender ≠ G.srcId src ∨ frPermitted f G.sched = false ∨ t0 < (G.limits f t0).1 ∨ (G.limits f t0).2 < t0 →
         Runs (.guardianLocalFrame g src f t0 t1) s fun u => (∀ o, o ≠ g → u.gdn o = s.gdn o) ∧ u.stages = s.stages ∧
           u.pending = s.pending ∧ (u.gdn g).out = [] ∧ (u.gdn g).trunc = (G.trunc + 1) % 256 ∧
           ∀ l, (s.lane l).keeps faultParts (u.lane l) ∧ (s.lane l).keepsRegs faultRegs (u.lane l) ∧
             ((s.lane l).up = true → (s.lane l).reported (u.lane l) 0x0908 (G.srcId src))))) ∧
   (∀ (s : State) (g : Gdn) (src : Src) (w m t : Nat), (s.gdn g).powered = true → (src, w, m) ∈ (s.gdn g).running →
     Runs (.windowEndCutoff g src w m t) s fun u => (∀ o, o ≠ g → u.gdn o = s.gdn o) ∧ u.stages = s.stages ∧ u.pending = s.pending ∧
       (src, w, m) ∉ (u.gdn g).running ∧ (u.gdn g).trunc = ((s.gdn g).trunc + 1) % 256 ∧
       ∀ l, (s.lane l).keeps faultParts (u.lane l) ∧ ((s.lane l).up = true → (s.lane l).reported (u.lane l) 0x0908 ((s.gdn g).srcId src))) ∧
   (∀ (G : GuardianSt) (id n : Nat) (r : TruncRec), (G.truncs.find? fun x => x.sender == id) = some r → r.lastAt + 1 = n → 2 ≤ r.run →
     (G.truncate id n).srcBlocked id = true) ∧
   (∀ (s : State) (g : Gdn) (src : Src) (n : Nat), (s.gdn g).powered = true →
     (∀ r ∈ (s.gdn g).truncs, r.sender = (s.gdn g).srcId src → ∀ u, r.blockedTo = some u → u ≤ n) →
     GuardianRuns (.sourceUnblock g src n) s g fun H => H.srcBlocked ((s.gdn g).srcId src) = false))

/-- R106, R354, R356: a broken port or a rate other than the design rate takes the link down, with 0x0901 in every powered lane and a retry 100 ms
later; the loop is set and sends what was held, with the time held in CORR; at a matrix-cycle start a link healed for two exchanges ends it. PDELAY
requests go out at macrotick 2,420, are answered, and measure. R333, R361, R362: in an arbitrating window a free egress sends the frame that no
other queued for it outranks, with its wait in CORR, if its last bit leaves by the window's end; at that end what is still queued is dropped and
each powered lane counts its own. R363, R364: a MUTE that passes its checks is held until the next basic cycle, starts there, logged in the lane it
names, and ends with its matrix cycles, CYCLES 0 cancelling; one that fails is counted as dropped; COMMAND and MUTE frames and a guardian's own are
never muted. R106, R107, R300, R366, R368: at link-up or once per matrix cycle a guardian sends HELLO; a satellite whose answer shares version 1 is
up with the capabilities both offer, another or one lost for three answers is down with 0x0906; a guardian's status word, sent at macrotick 2,480,
shows its state and ends or opens its consequence mask, and a second word missing in a row, or a failed self-test, raises 0x0904. Says where these
complete: ringNegotiation, linkRetry, satelliteHello, satelliteLost, portBroken, loopEstablished, loopRelease, pdelayRequest, pdelayFrame,
arbWindowEnd, arbEgressSend, muteFrame, muteStart, muteExpiry, guardianStatusWord. -/
def Obligations.GuardianLinks : Prop :=
  (∀ (s : State) (g : Gdn) (p : Port) (t : Nat) (x : PortSt), (s.gdn g).powered = true → x = (s.gdn g).port p →
     let down := fun (u : State) => (∀ o, o ≠ g → u.gdn o = s.gdn o) ∧ u.stages = s.stages ∧ u.pending = s.pending ∧
       ((u.gdn g).port p).broken = true ∧ ((u.gdn g).port p).link = false ∧ ((u.gdn g).port p).retryAt = some (t + 100000000) ∧
       (u.gdn g).port (otherPort p) = (s.gdn g).port (otherPort p) ∧
       ∀ l, (s.lane l).keeps faultParts (u.lane l) ∧ (s.lane l).keepsRegs (0x40090400 :: 0x40090408 :: faultRegs) (u.lane l) ∧
         ((s.lane l).up = true → (s.lane l).reported (u.lane l) 0x0901 (portDetail g (portCode p)))
     let shown := fun (u : State) => (∀ o, o ≠ g → u.gdn o = s.gdn o) ∧ u.stages = s.stages ∧ u.pending = s.pending ∧
       ∀ l, (s.lane l).keeps [.regs] (u.lane l) ∧ (s.lane l).keepsRegs [0x40090400, 0x40090408] (u.lane l)
     (∀ why : BreakWhy, breakHolds x why = true → x.broken = false → Runs (.portBroken g p why t) s down) ∧
     (∀ rate : Option Nat, rate ≠ some (s.gdn g).rate → Runs (.ringNegotiation g p rate t) s down) ∧
     Runs (.ringNegotiation g p (some (s.gdn g).rate) t) s (fun u => shown u ∧ ((u.gdn g).port p).link = true ∧
       ((u.gdn g).port p).rateLow = false ∧ ((u.gdn g).port p).retryAt = none) ∧
     (∀ r : Nat, x.retryAt = some r → r ≤ t → GuardianRuns (.linkRetry g (.port p) t) s g fun H =>
       H.port p = { x with retryAt := some (t + 100000000), missed := 0, answered := 0 }) ∧
     (x.broken = true → x.loop = false → Runs (.loopEstablished g p t) s fun u => shown u ∧ ((u.gdn g).port p).loop = true ∧
       (p = .east → (u.gdn g).held = (s.gdn g).held.filter (fun h => h.1 != .east) ∧ ((s.gdn g).sends (.port .west) = true →
         ∀ h ∈ (s.gdn g).held, h.1 = .east → (s.gdn g).arb h.2.1 = false → t ≤ h.2.1.txTime + 50000 →
         (Egress.port .west, { addCorr h.2.1 (ticksFrom h.2.2 t) with looped := true }) ∈ (u.gdn g).out))) ∧
     (∀ n : Nat, x.loop = true → x.link = true → x.rateLow = false → 2 ≤ x.answered → n % 64 = 0 → Runs (.loopRelease g p n) s fun u =>
       shown u ∧ ((u.gdn g).port p).loop = false ∧ ((u.gdn g).port p).broken = false ∧ (u.gdn g).heals = ((s.gdn g).heals + 1) % 256 ∧
       ∀ l, (s.lane l).up = true → (u.lane l).rd Reg.FLK_RING_STAT_HEALS = ((s.lane l).rd Reg.FLK_RING_STAT_HEALS + 1) % 256) ∧
     (∀ n u : Nat, 1 ≤ n → n ≤ 4 → ((s.gdn g).sats.getD (n - 1) .reset).retryAt = some u → u ≤ t → (s.gdn g).sats.length = 4 →
       GuardianRuns (.linkRetry g (.sat n) t) s g fun H =>
         H.sats.getD (n - 1) .reset = { (s.gdn g).sats.getD (n - 1) .reset with retryAt := none, missed := 0 }) ∧
     (t % 250000 = 242000 → GuardianRuns (.pdelayRequest g t) s g fun H => H.pseq = ((s.gdn g).pseq + 1) % 65536 ∧
       (H.port p).req = some (H.pseq, t) ∧ (x.req.isSome = true → (H.port p).missed = x.missed + 1 ∧ (H.port p).answered = 0) ∧
       ((s.gdn g).sends (.port p) = true →
         (H.out.any fun o => o.1 == .port p && o.2.typ == 6 && o.2.payload == pdelayBytes 1 H.pseq t 0) = true)) ∧
     (∀ (f : FlockFrame) (q t1 t2 t3 : Nat), frAuthentic (s.groupKey g) f = true → frFormOk f = true → f.typ = 6 → q < 2 ^ 16 →
       t2 < 2 ^ 64 → t3 < 2 ^ 64 →
       (f.payload = pdelayBytes 2 q t2 t3 → x.req = some (q, t1) → Runs (.pdelayFrame g p f t) s fun u => shown u ∧
         ((u.gdn g).port p).req = none ∧ ((u.gdn g).port p).answered = x.answered + 1 ∧ ((u.gdn g).port p).missed = 0 ∧
         ((u.gdn g).port p).delays = (linkDelay t1 t2 t3 t :: x.delays).take 16) ∧
       (f.payload = pdelayBytes 1 q t2 0 → (s.gdn g).sends (.port p) = true → Runs (.pdelayFrame g p f t) s fun u => shown u ∧
         ((u.gdn g).out.any fun o => o.1 == .port p && o.2.typ == 6 && o.2.payload == pdelayBytes 2 q t t) = true))) ∧
  ((∀ (qs : List Queued), (topRank qs = none ↔ qs = []) ∧ ∀ q, topRank qs = some q → q ∈ qs ∧ ∀ x ∈ qs, outranks x q = false) ∧
   (∀ (s : State) (g : Gdn) (e : Egress) (t : Nat) (q : Queued), (s.gdn g).powered = true →
     topRank ((s.gdn g).queue.filter fun x => x.egress == e) = some q →
     (t + (s.gdn g).frameTime e q.frame ≤ cycleStart t + ((frWin q.frame (s.gdn g).sched).start + (frWin q.frame (s.gdn g).sched).len) * 100 →
       GuardianRuns (.arbEgressSend g e t) s g fun H => H =
         { s.gdn g with out := if (s.gdn g).sends e then [(e, addCorr q.frame (ticksFrom q.arrival t))] else []
                        time := t, queue := (s.gdn g).queue.erase q }) ∧
     (cycleStart t + ((frWin q.frame (s.gdn g).sched).start + (frWin q.frame (s.gdn g).sched).len) * 100 < t + (s.gdn g).frameTime e q.frame →
       GuardianRuns (.arbEgressSend g e t) s g fun H => H = { s.gdn g with out := [] })) ∧
   (∀ (s : State) (g : Gdn) (w m : Nat), (s.gdn g).powered = true → Runs (.arbWindowEnd g w m) s fun u =>
     (∀ o, o ≠ g → u.gdn o = s.gdn o) ∧ u.stages = s.stages ∧ u.pending = s.pending ∧ (u.gdn g).out = [] ∧
     (∀ q, q ∈ (u.gdn g).queue ↔ q ∈ (s.gdn g).queue ∧ ¬(q.frame.window % 48 = w ∧ q.frame.matrix % 64 = m)) ∧
     ∀ l, (s.lane l).keeps [.regs] (u.lane l) ∧ (s.lane l).keepsRegs [0x4009040C] (u.lane l) ∧ ((s.lane l).up = true →
       (u.lane l).rd Reg.FLK_ARB_STAT_DROPPED = ((s.lane l).rd Reg.FLK_ARB_STAT_DROPPED + ((s.gdn g).queue.filter fun q =>
         q.frame.window % 48 == w && q.frame.matrix % 64 == m && q.frame.sender == (s.gdn g).node * 8 + (laneIx l + 1)).length) % 65536))) ∧
  ((∀ (s : State) (g : Gdn) (f : FlockFrame) (n : Nat), (s.gdn g).powered = true → GuardianRuns (.muteFrame g f n) s g fun H =>
     ((s.gdn g).muteOk (s.groupKey g) f = false → H = { s.gdn g with out := [], drops := ((s.gdn g).drops + 1) % 256 }) ∧
     ((s.gdn g).muteOk (s.groupKey g) f = true → H.drops = (s.gdn g).drops ∧ H.muteRx = ((s.gdn g).muteRx + 1) % 256 ∧
       H.mutes.getLast? = some { target := (f.payload.getD 0 0#8).toNat, mask := (f.payload.getD 1 0#8).toNat, cycles := muteCycles f
                                 startAt := n + 1, endAt := none })) ∧
   (∀ (s : State) (g : Gdn) (n : Nat), (s.gdn g).powered = true →
     Runs (.muteStart g n) s (fun u => (∀ o, o ≠ g → u.gdn o = s.gdn o) ∧ u.stages = s.stages ∧ u.pending = s.pending ∧
       (∀ m ∈ (s.gdn g).mutes, m.endAt = none → m.startAt ≤ n → m.cycles ≠ 0 → { m with endAt := some m.endOf } ∈ (u.gdn g).mutes) ∧
       (∀ m ∈ (u.gdn g).mutes, m.endAt = none → n < m.startAt) ∧
       ∀ l, (s.lane l).keeps [.fc, .regs] (u.lane l) ∧ (s.lane l).keepsRegs [0x40090404] (u.lane l) ∧ ((s.lane l).up = true →
         ((s.lane l).on (guardFld g 12 1) = false → (u.lane l).on (guardFld g 12 1) = true →
           (u.lane l).fc.log = (0x0004#16, 0, (s.lane l).time) :: (s.lane l).fc.log) ∧
         (u.lane l).on (guardFld g 12 1) = (u.gdn g).mutes.any fun m => muteActive m && muteHits m ((u.gdn g).node * 8 + laneIx l + 1))) ∧
     Runs (.muteExpiry g n) s (fun u => (∀ o, o ≠ g → u.gdn o = s.gdn o) ∧ u.stages = s.stages ∧ u.pending = s.pending ∧
       (∀ m, m ∈ (u.gdn g).mutes ↔ m ∈ (s.gdn g).mutes ∧ ∀ e, m.endAt = some e → n < e) ∧
       ∀ l, (s.lane l).keeps [.fc, .regs] (u.lane l) ∧ (s.lane l).keepsRegs [0x40090404] (u.lane l))) ∧
   (∀ (G : GuardianSt) (f : FlockFrame), f.typ = 3 ∨ f.typ = 4 ∨ idSource f.sender = 0 → G.muted f = false)) ∧
  ((∀ (s : State) (g : Gdn) (n lo hi ms t : Nat) (caps : BitVec 32) (x : SatSt), (s.gdn g).powered = true → 1 ≤ n → n ≤ 4 →
     (s.gdn g).sats.length = 4 → x = (s.gdn g).sats.getD (n - 1) .reset →
     let lost := fun (r : Option Nat) (u : State) => (∀ o, o ≠ g → u.gdn o = s.gdn o) ∧ u.stages = s.stages ∧ u.pending = s.pending ∧
       (u.gdn g).sats.getD (n - 1) .reset = { SatSt.reset with retryAt := r } ∧
       ∀ l, (s.lane l).keeps faultParts (u.lane l) ∧ (s.lane l).keepsRegs faultRegs (u.lane l) ∧
         ((s.lane l).up = true → (s.lane l).reported (u.lane l) 0x0906 (portDetail g (1 + n)))
     let due := (x.up = true ∧ x.helloAt ≠ some (cycleOf t / 64)) ∨ (x.up = false ∧ ∀ u, x.retryAt = some u → u ≤ t)
     let hello := fun (H : GuardianSt) => (H.out.any fun o => o.1 == .sat n && o.2.typ == 5 && o.2.payload == (s.gdn g).helloBytes n) = true
     (due → ms ≤ 10 → lo ≤ 1 → 1 ≤ hi → GuardianRuns (.satelliteHello g n lo hi caps ms t) s g fun H => hello H ∧
       H.sats.getD (n - 1) .reset = { up := true, version := 1, caps := caps &&& 0x1F#32 &&& (s.gdn g).offered, missed := 0, dropped := 0
                                      retryAt := none, helloAt := some (cycleOf t / 64) }) ∧
     (due → 10 < ms → GuardianRuns (.satelliteHello g n lo hi caps ms t) s g fun H => hello H ∧
       (x.up = true → H.sats.getD (n - 1) .reset = { x with missed := x.missed + 1, dropped := 0, helloAt := some (cycleOf t / 64) }) ∧
       (x.up = false → H.sats.getD (n - 1) .reset = { SatSt.reset with retryAt := some (t + 100000000) })) ∧
     (due → ms ≤ 10 → 1 < lo ∨ hi < 1 → Runs (.satelliteHello g n lo hi caps ms t) s (lost (some (t + 100000000)))) ∧
     (x.up = true → 3 ≤ x.missed → Runs (.satelliteLost g n) s (lost none))) ∧
   (∀ (s : State) (l : Lane) (g : Gdn) (ok : Bool) (gt t : Nat), (s.lane l).up = true →
     ((s.gdn g).powered = true → gt % 250000 = 248000 → LaneRuns (.guardianStatusWord l g true ok gt t) s l fun L =>
       (s.lane l).keeps (.time :: .flk :: faultParts) L ∧ (s.lane l).keepsRegs (0x4009 :: faultRegs) L ∧
       L.rd (guardFld g 0 1) = 1 ∧ L.rd (guardFld g 3 3) = (s.gdn g).keeper.st % 8 ∧ (L.gword g).missing = 0 ∧
       L.rd (guardFld g 2 1) = (if ok then 1 else 0) ∧
       (ok = false → L.on (shadowFld.bit (14 + gdnIx g)) = true)) ∧
     LaneRuns (.guardianStatusWord l g false ok gt t) s l fun L => (s.lane l).keeps (.time :: .flk :: faultParts) L ∧
       L.rd (guardFld g 0 1) = 0 ∧ (L.gword g).missing = ((s.lane l).gword g).missing + 1 ∧
       (((s.lane l).gword g).missing = 1 → L.on (shadowFld.bit (14 + gdnIx g)) = true)))

/-- R374, R376, R379 to R381: a frame goes to the lowest enabled receive buffer that matches it and is free, with NEW_DATA and a count; the silence
identifier goes to none; one that no buffer takes is an overrun; a release that names the buffer's count frees it. R375, R382: a request makes an
enabled transmit buffer pending and an abort ends that, at once or, for a frame on the bus, when it completes; a frame sent is that of the pending
buffer that wins arbitration, which is then done, while every other stays pending. Says where these complete: canFrameReceive, canRxRelease,
canTxRequest, canTxAbort, canTxDone. -/
def Obligations.CanBuffers : Prop :=
  (∀ (s : State) (l : Lane) (c : CanId), (s.lane l).linked = true →
     (∀ f : CanFrame, ((s.lane l).can c).receives = true → canFormOk f = true → f.id ≠ 1 ∨ f.ide = true →
       (∀ b : Nat, ((List.range 128).find? fun b => (s.lane l).canMatch c f b && (s.lane l).canTakes c b) = some b → b < 120 →
         LaneRuns (.canFrameReceive l c f) s l fun L => (s.lane l).keeps [.free, .regs] L ∧
           (s.lane l).keepsRegs [canBase c / 65536] L ∧ L.on (Reg.CAN_BUF_STAT_NEW_DATA c b) = true ∧
           L.rd (Reg.CAN_BUF_ID_ID c b) = f.id % 2 ^ 29 ∧ L.on (Reg.CAN_BUF_ID_IDE c b) = f.ide ∧
           L.rd (Reg.CAN_BUF_TS_TS c b) = f.ts.toNat ∧
           (∀ j < 16, j < (canBytes f.ctrl + 3) / 4 → L.rd (Reg.CAN_BUF_DATA_DATA c b j) = (f.data.getD j 0#32).toNat) ∧
           L.rd (Reg.CAN_BUF_STAT_WCNT c b) = ((s.lane l).rd (Reg.CAN_BUF_STAT_WCNT c b) + 1) % 16 ∧
           ∀ o < 128, o ≠ b → L.on (Reg.CAN_BUF_STAT_NEW_DATA c o) = (s.lane l).on (Reg.CAN_BUF_STAT_NEW_DATA c o)) ∧
       (((List.range 128).find? fun b => (s.lane l).canMatch c f b && (s.lane l).canTakes c b) = none →
         LaneRuns (.canFrameReceive l c f) s l fun L => (s.lane l).keeps (.free :: faultParts) L ∧
           (s.lane l).reported L 0x0A06 (canDetail c) ∧
           ∀ o < 128, L.on (Reg.CAN_BUF_STAT_NEW_DATA c o) = (s.lane l).on (Reg.CAN_BUF_STAT_NEW_DATA c o))) ∧
     (∀ f : CanFrame, ((s.lane l).can c).receives = true → canFormOk f = true → f.id = 1 → f.ide = false → LaneRuns (.canFrameReceive l c f) s l fun L =>
       (s.lane l).keeps [.free, .regs] L ∧ (s.lane l).keepsRegs [(Reg.CAN_ERR_REC c).addr, (Reg.CAN_STAT_ERRP c).addr] L) ∧
     (∀ b : Nat, b < 128 → LaneRuns (.canRxRelease l c b ((s.lane l).rd (Reg.CAN_BUF_STAT_WCNT c b))) s l fun L =>
       (s.lane l).keeps [.regs] L ∧ (s.lane l).keepsRegs [(Reg.CAN_BUF_STAT_WCNT c b).addr] L ∧
       L.on (Reg.CAN_BUF_STAT_NEW_DATA c b) = false ∧ L.on (Reg.CAN_BUF_STAT_OVR c b) = false) ∧
     (∀ b n : Nat, n ≠ (s.lane l).rd (Reg.CAN_BUF_STAT_WCNT c b) → LaneRuns (.canRxRelease l c b n) s l fun L => L = s.lane l)) ∧
  (∀ (s : State) (l : Lane) (c : CanId) (b : Nat), (s.lane l).linked = true → b < 128 →
     ((s.lane l).on (Reg.CAN_BUF_FLT_EN c b) = true → (s.lane l).on (Reg.CAN_BUF_FLT_DIR c b) = true →
       LaneRuns (.canTxRequest l c b) s l fun L => (s.lane l).keeps [.regs] L ∧ L.canPending c b = true ∧
         L.on (Reg.CAN_BUF_STAT_TX_DONE c b) = false ∧ ∀ o < 128, o ≠ b → L.canPending c o = (s.lane l).canPending c o) ∧
     LaneRuns (.canTxAbort l c b false) s l (fun L => (s.lane l).keeps [.regs] L ∧ L.canPending c b = false ∧
       ∀ o < 128, o ≠ b → L.canPending c o = (s.lane l).canPending c o) ∧
     ((s.lane l).canSends c = true → (s.lane l).canWinner c = some b → LaneRuns (.canTxAbort l c b true) s l fun L =>
       (s.lane l).keeps [.can1, .can2] L ∧ (L.can c).aborting = some b) ∧
     (∀ ts : BitVec 32, (s.lane l).canSends c = true → ((s.lane l).can c).aborting.or ((s.lane l).canWinner c) = some b →
       LaneRuns (.canTxDone l c ts) s l fun L => (s.lane l).keeps [.can1, .can2, .regs] L ∧ (L.can c).aborting = none ∧ L.canPending c b = false ∧
         L.on (Reg.CAN_BUF_STAT_TX_DONE c b) = true ∧ L.rd (Reg.CAN_BUF_TS_TS c b) = ts.toNat ∧
         L.rd (Reg.CAN_ERR_TEC c) = (s.lane l).rd (Reg.CAN_ERR_TEC c) - 1 ∧
         ∀ o < 128, o ≠ b → L.canPending c o = (s.lane l).canPending c o) ∧
     ((s.lane l).canWinner c = some b → (s.lane l).canEligible c b = true ∧
       ∀ o < 128, (s.lane l).canEligible c o = true → (s.lane l).canKey c b ≤ (s.lane l).canKey c o))

/-- R377, R378: the third frame without error within 3 % of a nominal rate sets it and makes the controller active, an error starts anew; once active,
the third in a row of one data rate sets that; 1 s without success is told once. R384, R385: an authentic request of at most 1,000 units of 16 ms
silences the controller for its time, 0 ends it; one that fails a check does nothing; a bus dominant for 1 ms raises 0x0A05 until it has been
recessive for 11 bits. R386: a bus error is counted by its kind, raises 0x0A04 and is logged once in a basic cycle, and starts a detection anew; a
transmit counter above 255 takes an active controller off the bus with 0x0A01, from which, when it recovers, 128 occurrences bring it back with both
counters 0. The error counters' steps are the model's (log entry 20). Says where these complete: rateDetect, rateDetectTimeout, silenceRequest,
silenceExpiry, busDominant, busRecessiveResume, busOff, recover, busOffRecovery, canBusError. -/
def Obligations.CanRateAndErrors : Prop :=
  (∀ (s : State) (l : Lane) (c : CanId), (s.lane l).linked = true →
     (∀ ns r : Nat, ((s.lane l).can c).run = 1 → rateOf nominalTimes ns = some r →
       LaneRuns (.rateDetect l c ns false) s l (fun L => (L.can c).good = 0 ∧ (L.can c).run = 1) ∧
       (((s.lane l).can c).good < 2 → LaneRuns (.rateDetect l c ns true) s l fun L => (L.can c).good = ((s.lane l).can c).good + 1 ∧
         (L.can c).nominal = some r ∧ (L.can c).run = 1) ∧
       (2 ≤ ((s.lane l).can c).good → LaneRuns (.rateDetect l c ns true) s l fun L => (s.lane l).keeps [.can1, .can2, .regs] L ∧
         (s.lane l).keepsRegs [(Reg.CAN_STAT_MODE c).addr] L ∧ (L.can c).run = 2 ∧ L.rd (Reg.CAN_STAT_DET_NRATE c) = r)) ∧
     (∀ ns r : Nat, ((s.lane l).can c).run = 2 → ((s.lane l).can c).nominal.isSome = true →
       (s.lane l).rd (Reg.CAN_STAT_DET_DRATE c) = 0 → rateOf dataTimes ns = some r → ((s.lane l).can c).dataCand = some r →
       2 ≤ ((s.lane l).can c).dataGood → LaneRuns (.rateDetect l c ns true) s l fun L => (s.lane l).keeps [.can1, .can2, .regs] L ∧
         (s.lane l).keepsRegs [(Reg.CAN_STAT_MODE c).addr] L ∧ L.rd (Reg.CAN_STAT_DET_DRATE c) = r + 1) ∧
     (∀ t : Nat, ((s.lane l).can c).run = 1 → ((s.lane l).can c).startAt + 1000000000 ≤ t → ((s.lane l).can c).failed = false →
       LaneRuns (.rateDetectTimeout l c t) s l fun L =>
       (s.lane l).keeps (.time :: .can1 :: .can2 :: faultParts) L ∧ (s.lane l).keepsRegs ((Reg.CAN_STAT_MODE c).addr :: faultRegs) L ∧
       L.on (Reg.CAN_STAT_DET_FAIL c) = true ∧ (L.can c).run = 1 ∧ (L.can c).failed = true ∧
       (s.lane l).reported L 0x0A03 (canDetail c))) ∧
  (∀ (s : State) (l : Lane) (c : CanId) (t : Nat), (s.lane l).linked = true →
     (∀ (tgt d ms : Nat) (tag : BitVec 64), (s.lane l).on (Reg.CAN_CFG_SILENCE_EN c) = true → ((s.lane l).can c).receives = true →
       (s.lane l).sec.keys.group ≠ [] → tgt = 0xFF ∨ tgt = (s.lane l).rd Reg.FLK_CFG_NODE → d ≤ 1000 →
       (ms = t / 1000000 % 2 ^ 32 → tag = silenceTag (s.lane l).sec.keys.group tgt d ms → LaneRuns (.silenceRequest l c tgt d ms tag t) s l fun L =>
         (s.lane l).keeps [.time, .can1, .can2, .regs] L ∧ (s.lane l).keepsRegs [(Reg.CAN_STAT_MODE c).addr] L ∧
         (L.can c).silence = (if d = 0 then none else some (t + d * 16000000)) ∧
         (0 < d → ((s.lane l).can c).off = false → L.rd (Reg.CAN_STAT_MODE c) = 5)) ∧
       (tag ≠ silenceTag (s.lane l).sec.keys.group tgt d ms → LaneRuns (.silenceRequest l c tgt d ms tag t) s l fun L =>
         (s.lane l).keeps [.time] L)) ∧
     (∀ u : Nat, ((s.lane l).can c).silence = some u → u ≤ t → LaneRuns (.silenceExpiry l c t) s l fun L =>
       (s.lane l).keeps [.time, .can1, .can2, .regs] L ∧ (s.lane l).keepsRegs [(Reg.CAN_STAT_MODE c).addr] L ∧
       (L.can c).silence = none ∧ L.rd (Reg.CAN_STAT_SIL_REMAIN c) = 0) ∧
     (∀ us : Nat, 1000 ≤ us → (s.lane l).on (Reg.CAN_STAT_DOM c) = false → LaneRuns (.busDominant l c us t) s l fun L =>
       (s.lane l).keeps (.time :: faultParts) L ∧ (s.lane l).keepsRegs ((Reg.CAN_STAT_MODE c).addr :: faultRegs) L ∧
       L.on (Reg.CAN_STAT_DOM c) = true ∧ L.canSends c = false ∧ (s.lane l).reported L 0x0A05 (canDetail c)) ∧
     (∀ n : Nat, 11 ≤ n → LaneRuns (.busRecessiveResume l c n) s l fun L => (s.lane l).keeps [.regs] L ∧
       (s.lane l).keepsRegs [(Reg.CAN_STAT_MODE c).addr] L ∧ L.on (Reg.CAN_STAT_DOM c) = false)) ∧
  (∀ (s : State) (l : Lane) (c : CanId) (t : Nat), (s.lane l).linked = true →
     (∀ (k : CanErr) (tx : Bool), ((s.lane l).can c).run = 1 → ((s.lane l).can c).off = false →
       LaneRuns (.canBusError l c k tx t) s l fun L => (s.lane l).keeps (.time :: .can1 :: .can2 :: faultParts) L ∧
         (s.lane l).keepsRegs ((Reg.CAN_STAT_MODE c).addr :: (Reg.CAN_VIOL_CNT c 0).addr :: faultRegs) L ∧ (L.can c).good = 0 ∧
         L.rd (Reg.CAN_VIOL_CNT c (errIx k)) = ((s.lane l).rd (Reg.CAN_VIOL_CNT c (errIx k)) + 1) % 64 ∧
         (errIx k, cycleOf L.time) ∈ (L.can c).logged ∧ (s.lane l).reported L 0x0A04 (canDetail c)) ∧
     (∀ (k : CanErr) (tx : Bool), 2 ≤ ((s.lane l).can c).run → ((s.lane l).can c).off = false → ((s.lane l).can c).aborting = none →
       LaneRuns (.canBusError l c k tx t) s l fun L => (s.lane l).keeps (.time :: .can1 :: .can2 :: faultParts) L ∧
         (s.lane l).keepsRegs ((Reg.CAN_STAT_MODE c).addr :: (Reg.CAN_VIOL_CNT c 0).addr :: (Reg.CAN_ERR_TEC c).addr :: faultRegs) L ∧
         L.rd (Reg.CAN_VIOL_CNT c (errIx k)) = ((s.lane l).rd (Reg.CAN_VIOL_CNT c (errIx k)) + 1) % 64 ∧
         (127 < L.rd (Reg.CAN_ERR_TEC c) ∨ 127 < L.rd (Reg.CAN_ERR_REC c) → L.on (Reg.CAN_STAT_ERRP c) = true)) ∧
     (255 < (s.lane l).rd (Reg.CAN_ERR_TEC c) → ((s.lane l).can c).run = 2 → ((s.lane l).can c).off = false →
       LaneRuns (.busOff l c t) s l fun L =>
       (s.lane l).keeps (.time :: .can1 :: .can2 :: faultParts) L ∧
       (s.lane l).keepsRegs ((Reg.CAN_STAT_MODE c).addr :: (Reg.CAN_ERR_TEC c).addr :: faultRegs) L ∧ (L.can c).off = true ∧
       (L.can c).recovering = (s.lane l).on (Reg.CAN_CFG_AUTO_REC c) ∧ L.rd (Reg.CAN_STAT_MODE c) = 4 ∧ L.canSends c = false ∧
       (s.lane l).reported L 0x0A01 (canDetail c)) ∧
     (∀ v : BitVec 32, v.getLsbD 0 = true → ((s.lane l).can c).off = true → LaneRuns (.recover l c v) s l fun L =>
       (s.lane l).keeps [.can1, .can2, .regs] L ∧ (s.lane l).keepsRegs [(Reg.CAN_STAT_MODE c).addr] L ∧ (L.can c).recovering = true ∧
       (L.can c).off = true) ∧
     (∀ n : Nat, 128 ≤ n → ((s.lane l).can c).off = true → ((s.lane l).can c).recovering = true →
       LaneRuns (.busOffRecovery l c n) s l fun L => (s.lane l).keeps [.can1, .can2, .regs] L ∧
         (s.lane l).keepsRegs [(Reg.CAN_STAT_MODE c).addr, (Reg.CAN_ERR_TEC c).addr] L ∧ (L.can c).off = false ∧
         L.rd (Reg.CAN_ERR_TEC c) = 0 ∧ L.rd (Reg.CAN_ERR_REC c) = 0 ∧ L.on (Reg.CAN_STAT_ERRP c) = false))

/-- R389 to R394, R400, R419, R420: a read that passes the checks is answered with its data and changes nothing else; an argument out of range is
ARGUMENT with its offset, and a lane without an identity key answers LIFECYCLE. A decommissioned lane answers GET_ID over DBG_x. The layouts of the
bank and calibration records and of the log are the model's (log entry 21), the key and the signature are free (log entry 9). Says where these
complete: getId, attest, getKey, getState, cfgRead, calRead, fcRead, recRead, tallyRead, logRead, mbxStats, fwStatus, rindStat. -/
def Obligations.ReadsAnswered : Prop :=
  ∀ (s : State) (l : Lane) (r : Req) (t : Nat),
    let K := (s.lane l).hearing t
    let gives := fun (i : Instr) (code : Nat) (body bytes : List Byte) => (s.lane l).accepts l code r body t →
      LaneRuns i s l fun L => (s.lane l).onlyAnswered L ∧ (s.lane l).replied L code r bytes
    let naks := fun (i : Instr) (code : Nat) (body : List Byte) (nak detail : Nat) => (s.lane l).accepts l code r body t →
      LaneRuns i s l fun L => (s.lane l).onlyAnswered L ∧ (s.lane l).nakked L code r nak detail
    (K.lc ≠ lcDecommissioned → gives (.getId l r t) 0x0101 [] K.idBytes) ∧
    ((s.lane l).up = true → K.lc = lcDecommissioned → r.transport = .debug → named r l = true → LaneRuns (.getId l r t) s l fun L =>
      (s.lane l).onlyAnswered L ∧ (s.lane l).replied L 0x0101 r K.idBytes) ∧
    (∀ (nonce : List Byte) (mask : Word), nonce.length = 32 →
      (K.on Reg.SEC_KEY_STAT_IDENT = true →
        gives (.attest l r nonce mask t) 0x0102 (nonce ++ wordBytes mask)
          (K.quote l nonce mask ++ Config.sign (laneIx l) (K.quote l nonce mask))) ∧
      (K.on Reg.SEC_KEY_STAT_IDENT = false → naks (.attest l r nonce mask t) 0x0102 (nonce ++ wordBytes mask) nakLifecycle 0)) ∧
    (K.on Reg.SEC_KEY_STAT_IDENT = true → gives (.getKey l r t) 0x0103 [] (Config.identityKey (laneIx l))) ∧
    (K.on Reg.SEC_KEY_STAT_IDENT = false → naks (.getKey l r t) 0x0103 [] nakLifecycle 0) ∧
    gives (.getState l r t) 0x0200 [] ([0x40000004, 0x4000000C, 0x40020000, 0x40100010].flatMap K.regBytes) ∧
    (∀ slot offset n : Nat, let body := leBytes 1 slot ++ leBytes 4 offset ++ leBytes 2 n
      (slot < 2 → offset + n ≤ 0x40000 → n ≤ 4096 → gives (.cfgRead l r slot offset n t) 0x0304 body
        ((List.range n).map fun i => K.byte ((if slot = 1 then 0x10640000 else 0x10600000) + (offset + i)))) ∧
      (2 ≤ slot → naks (.cfgRead l r slot offset n t) 0x0304 body nakArgument 0) ∧
      (slot < 2 → 0x40000 < offset + n ∨ 4096 < n → naks (.cfgRead l r slot offset n t) 0x0304 body nakArgument 1)) ∧
    (∀ offset n : Nat, let body := leBytes 4 offset ++ leBytes 2 n
      (offset + n ≤ 0x10000 → n ≤ 4096 →
        gives (.calRead l r offset n t) 0x0401 body ((List.range n).map fun i => K.byte (0x10690000 + (offset + i)))) ∧
      (0x10000 < offset + n ∨ 4096 < n → naks (.calRead l r offset n t) 0x0401 body nakArgument 0) ∧
      (offset + n ≤ 0xC0000 → n ≤ 4096 →
        gives (.logRead l r offset n t) 0x0504 body ((List.range n).map fun i => K.byte (0x10740000 + (offset + i)))) ∧
      (0xC0000 < offset + n ∨ 4096 < n → naks (.logRead l r offset n t) 0x0504 body nakArgument 0)) ∧
    gives (.fcRead l r t) 0x0500 [] ((List.range 9).flatMap (fun i => if i = 4 then leBytes 4 0 else K.regBytes (0x40010000 + 4 * i)) ++
      (List.range 15).flatMap fun i => K.regBytes (0x40010044 + 4 * i)) ∧
    (∀ index : Nat, (index < 1024 → gives (.recRead l r index t) 0x0502 (leBytes 2 index) (K.bytes (recordAddr index) 512)) ∧
      (1024 ≤ index → naks (.recRead l r index t) 0x0502 (leBytes 2 index) nakArgument 0)) ∧
    (∀ first n : Nat, let body := leBytes 4 first ++ leBytes 1 n
      (0 < n → n ≤ 63 → first + n ≤ K.nvm.tallySeq → K.nvm.tallySeq ≤ first + 1024 → K.nvm.anchor.length = 32 →
        gives (.tallyRead l r first n t) 0x0503 body
          (K.nvm.anchor ++ (List.range n).flatMap fun i => K.bytes (0x106A0000 + 64 * ((first + i) % 1024)) 64)) ∧
      (n = 0 ∨ 63 < n → naks (.tallyRead l r first n t) 0x0503 body nakArgument 4) ∧
      (0 < n → n ≤ 63 → K.nvm.tallySeq < first + n ∨ first + 1024 < K.nvm.tallySeq →
        naks (.tallyRead l r first n t) 0x0503 body nakArgument 0)) ∧
    gives (.mbxStats l r t) 0x0505 [] ([0x400F0014, 0x400F0018, 0x400F001C, 0x400F0024].flatMap K.regBytes) ∧
    gives (.fwStatus l r t) 0x0605 [] (K.nvm.bankA.wire ++ K.nvm.bankB.wire ++ leBytes 2 K.nvm.rollback ++
      leBytes 1 (if K.nvm.runB then 1 else 0) ++ leBytes 1 (if K.nvm.trial then 1 else 0)) ∧
    gives (.rindStat l r t) 0x0705 [] ([0x400E0000, 0x400E0004, 0x400E0008, 0x400E000C].flatMap K.regBytes)

/-- R391 to R394, R406 to R409: a request that is no command where it stands is UNKNOWN, one of a quarantined key QUARANTINED, one too many in 100 ms
RATE, one too long LENGTH; all but the second are counted violations, and the sixteenth of a key in one second quarantines it for 1 s. A request
with the header and payload of the last one gets its reply again. A message not complete in 100 ms is a LENGTH violation; a release clears RPL_READY
and LAST_NAK. Says where these complete: segmentTimeout, quarantineEnd, getState, mbxReplyRelease, unknownRequest. -/
def Obligations.RequestsChecked : Prop :=
  ∀ (s : State) (l : Lane) (r : Req) (body : List Byte) (t : Nat), (s.lane l).up = true →
    let K := (s.lane l).hearing t
    let counted := fun (nak key : Nat) (L : LaneSt) =>
      let recent := ((s.lane l).mbx.viols.filter fun v => K.time < v.2 + 1000000000 && v.1 == key).length + 1
      L.rd (violFld nak) = ((s.lane l).rd (violFld nak) + 1) % 64 ∧
      (recent < 16 → L.mbx.quar = (s.lane l).mbx.quar) ∧
      (16 ≤ recent → (key, K.time + 1000000000) ∈ L.mbx.quar ∧ L.rd Reg.MBX_QUAR_COUNT = ((s.lane l).rd Reg.MBX_QUAR_COUNT + 1) % 65536)
    (∀ code : Nat, K.reaches l code r body = true → named r l = true →
      (∀ c, cmdRow code = some c → placeOk c r = false) → code ≠ 0x0100 ∨ r.mbox = 0 ∨ r.mbox = 15 ∨ r.transport = .internal ∨ r.module = true →
      code ≠ 0x0F00 ∨ r.mbox ≠ 15 →
      let key := K.reqKey r (headerBytes code r ++ body)
      let nak := ((K.noteRate key).gate key r body).getD nakUnknown
      LaneRuns (.unknownRequest l r code body t) s l fun L => (s.lane l).keeps (.fc :: askParts) L ∧
        (s.lane l).keepsRegs [0x400F0000, 0x400F0014, 0x400F0018] L ∧ (s.lane l).nakked L code r nak 0 ∧
        (nak = nakQuarantined → L.reg 0x400F0014 = (s.lane l).reg 0x400F0014) ∧ (nak ≠ nakQuarantined → counted nak key L)) ∧
    (∀ key : Nat, (s.lane l).mbx.quar.any (fun q => q.1 == key) = true → K.gate key r body = some nakQuarantined) ∧
    (∀ key : Nat, (s.lane l).mbx.quar.any (fun q => q.1 == key) = false →
      32 ≤ ((s.lane l).mbx.rates.filter fun x => K.time < x.2 + 100000000 && x.1 == key).length →
      (K.noteRate key).gate key r body = some nakRate) ∧
    (let msg := headerBytes 0x0200 r
      let key := K.reqKey r msg
      K.reaches l 0x0200 r [] = true → named r l = true → r.transport ≠ .internal → (K.noteRate key).gate key r [] = none → r.mbox ≠ 0 →
      r.mbox ≠ 15 → r.module = false → K.mayAsk { rowRead 0x0200 with alarm := true, bare := true, noHmk := true } r msg = true →
      (∀ e p, (s.lane l).seqRec key r.mbox = some e → e.msg = msg → e.reply = some p → p.transport ≠ .internal →
        LaneRuns (.getState l r t) s l fun L => (s.lane l).keeps [.time, .mbx] L ∧ L.mbx.out = [p] ∧ L.mbx.seqs = (s.lane l).mbx.seqs) ∧
      (∀ e, (s.lane l).seqRec key r.mbox = some e → e.msg ≠ msg → e.hello = false → r.seq ≠ e.req.seq + 1 →
        LaneRuns (.getState l r t) s l fun L => (s.lane l).keeps (.fc :: askParts) L ∧ counted nakSequence key L ∧
          (s.lane l).sent L 0x0200 r (some nakSequence) false (nakPayload nakSequence 0 (e.req.seq + 1).toNat)) ∧
      ((s.lane l).holdsBox r.mbox = true → (s.lane l).seqRec key r.mbox = none → LaneRuns (.getState l r t) s l fun L =>
        (s.lane l).keeps [.time, .mbx] L ∧ (s.lane l).nakked L 0x0200 r nakBusy 0)) ∧
    (∀ k m u n : Nat, (k, m, u, n) ∈ (s.lane l).mbx.segs → u + 100000000 ≤ t → LaneRuns (.segmentTimeout l k t) s l fun L =>
      (s.lane l).keeps (.fc :: askParts) L ∧ (s.lane l).keepsRegs [0x400F0014, 0x400F0018] L ∧
      L.mbx.segs = (s.lane l).mbx.segs.filter (fun x => !(x.1 == k && decide (x.2.2.1 + 100000000 ≤ t))) ∧ counted nakLength (2 * k) L) ∧
    (∀ k : Nat, LaneRuns (.quarantineEnd l k t) s l fun L => (s.lane l).keeps askParts L ∧ (s.lane l).keepsRegs [0x400F0018] L ∧
      L.mbx.quar = (s.lane l).mbx.quar.filter (fun q => !(q.1 == k && decide (q.2 ≤ t))) ∧
      L.rd Reg.MBX_QUAR_ACTIVE = L.mbx.quar.length % 256) ∧
    (∀ v : Word, v.getLsbD 0 = true → LaneRuns (.mbxReplyRelease l v) s l fun L => (s.lane l).keeps [.regs] L ∧
      (s.lane l).keepsRegs [0x400F0000] L ∧ L.on Reg.MBX_STAT_RPL_READY = false ∧ L.rd Reg.MBX_STAT_LAST_NAK = 0)

/-- R397, R398, R400: a module-addressed command that passes the checks is held with its DIGEST until the lanes confirm it, and nothing else happens
before its action slot; one not confirmed 20 ms after receipt is answered NOT_CONFIRMED and forgotten. Says where these complete: confirmTimeout,
reqState, safeStop, resetArm, resetConfirm, imgCommit, learnStart, calSave, fcAck, fwTrial, fwCommit, takeover, field, service, return_,
decommission, clearAlarm. -/
def Obligations.ModuleCommandsWait : Prop :=
  ∀ (s : State) (l : Lane) (r : Req) (t : Nat),
    let holds := fun (i : Instr) (code : Nat) (body : List Byte) (c : ModCmd) => (s.lane l).accepts l code r body t →
      LaneRuns i s l fun L => (s.lane l).keeps askParts L ∧ (s.lane l).keepsRegs [0x400F001C] L ∧ L.mbx.out = [] ∧
        L.mbx.waiting = (s.lane l).mbx.waiting ++ [
          { req := r, code := code, cmd := c, at_ := max (s.lane l).time t, digest := digestOf (headerBytes code r ++ body)
            confirmed := false, named := named r l, before := 0 }] ∧
        L.rd Reg.MBX_CONFIRM_PENDING = L.unconfirmed.length % 16
    (∀ target : BitVec 3, holds (.reqState l r target t) 0x0201 (leBytes 1 target.toNat) (.reqState target)) ∧
    (∀ (mask : BitVec 3) (ss1 : Bool), holds (.safeStop l r mask ss1 t) 0x0202
      (leBytes 1 mask.toNat ++ leBytes 1 (if ss1 then 1 else 0)) (.safeStop mask ss1)) ∧
    holds (.resetArm l r t) 0x0203 [] .resetArm ∧
    (∀ (c : BitVec 16) (hi : Bool), holds (.resetConfirm l r c hi t) 0x0204 (leBytes 2 c.toNat) (.resetConfirm c hi)) ∧
    (∀ (d : List Word) (f : ImgFacts), holds (.imgCommit l r d f t) 0x0303 (bytesOf d) (.imgCommit d f)) ∧
    (∀ n : Nat, holds (.learnStart l r n t) 0x0400 (leBytes 4 n) (.learnStart n)) ∧ holds (.calSave l r t) 0x0402 [] .calSave ∧
    (∀ (m : BitVec 16) (rearm : Bool), holds (.fcAck l r m rearm t) 0x0501 (leBytes 2 m.toNat ++ leBytes 1 (if rearm then 1 else 0))
      (.fcAck m rearm)) ∧
    (∀ d : List Word, holds (.fwTrial l r d t) 0x0603 (bytesOf d) (.fwTrial d)) ∧ holds (.fwCommit l r t) 0x0604 [] .fwCommit ∧
    (∀ a : LcArgs,
      holds (.takeover l r a t) 0x0703 (lcHead 1 a ++ a.auth) (.lifecycle 1 a) ∧ holds (.field l r a t) 0x0703 (lcHead 2 a ++ a.auth) (.lifecycle 2 a) ∧
      holds (.service l r a t) 0x0703 (lcHead 3 a ++ a.auth) (.lifecycle 3 a) ∧ holds (.return_ l r a t) 0x0703 (lcHead 4 a ++ a.auth) (.lifecycle 4 a) ∧
      holds (.decommission l r a t) 0x0703 (lcHead 5 a ++ a.auth) (.lifecycle 5 a) ∧
      holds (.clearAlarm l r a t) 0x0703 (lcHead 6 a ++ a.auth) (.lifecycle 6 a)) ∧
    ((s.lane l).up = true → LaneRuns (.confirmTimeout l t) s l fun L => (s.lane l).keeps askParts L ∧
      (s.lane l).keepsRegs [0x400F0000, 0x400F001C] L ∧
      L.mbx.waiting = (s.lane l).mbx.waiting.filter (fun h => h.confirmed || decide (t < h.at_ + 20000000)) ∧
      ∀ h, (s.lane l).mbx.waiting = [h] → h.named = true → h.confirmed = false → h.at_ + 20000000 ≤ t →
        (s.lane l).nakked L h.code h.req nakNotConfirmed 0 ∧
        L.rd Reg.MBX_CONFIRM_TIMEOUTS = ((s.lane l).rd Reg.MBX_CONFIRM_TIMEOUTS + 1) % 256)

/-- R241, R284, R400, R402, R403, R413: what a confirmed command does in its action slot, at whose start it acts, in a lane it names, and how it is
refused: STATE outside its states, ARGUMENT, PASSWORD, VERIFY, REFUSED, SELFTEST, LIFECYCLE, CHALLENGE. -/
def Obligations.ConfirmedCommandsAct : Prop :=
  ∀ (L : LaneSt) (l : Lane) (h : Held), L.mbx.out = [] → h.req.transport ≠ .internal →
    let naks := fun (c : ModCmd) (nak detail : Nat) => h.cmd = c → L.onlyAnswered (L.act l h) ∧ L.nakked (L.act l h) h.code h.req nak detail
    (∀ M : LaneSt, h.confirmed = true → h.named = true → M.up = true → M.mbx.commit = none → M.mbx.waiting = [h] →
      L = M.updMbx (fun m => { m with out := [], waiting := [] }) →
      M.mbxSlot l = ((L.act l h).answerAsked.crookGoes.showPending.flushLog).showReply l) ∧
    (∀ target : BitVec 3, h.cmd = .reqState target →
      (L.act l h).mbx.asked = L.mbx.asked ++ [{ h with before := L.rd Reg.SYS_TRANS_STAT_SEQ }] ∧ (L.act l h).mbx.out = []) ∧
    (∀ (m : BitVec 3) (ss1 : Bool), (L.st < stArm → naks (.safeStop m ss1) nakState L.st) ∧
      (stArm ≤ L.st → h.cmd = .safeStop m ss1 → L.replied (L.act l h) h.code h.req [] ∧
        (ss1 = false → (L.act l h).safe.mbx = setMask L.safe.mbx m.toNat true))) ∧
    (h.cmd = .resetArm →
      let v := BitVec.ofNat 16 (leNum (shake256 2 (wordBytes (L.resetSession h.req) ++ leBytes 2 h.req.seq.toNat ++ leBytes 8 (cycleOf L.time))))
      L.replied (L.act l h) h.code h.req (leBytes 2 v.toNat) ∧ L.onlyAnswered { L.act l h with safe := L.safe } ∧
      (L.act l h).safe = { L.safe with armed := some (v, L.resetSession h.req, h.at_) }) ∧
    (∀ (c : BitVec 16) (hi : Bool), h.cmd = .resetConfirm c hi → (L.act l h).safe.armed = none ∧
      (∀ (id : Word) (u : Nat), L.safe.armed = some (c, id, u) → id = L.resetSession h.req → u + 50000000 ≤ h.at_ → h.at_ ≤ u + 2000000000 →
        L.replied (L.act l h) h.code h.req []) ∧
      (∀ (v : BitVec 16) (id : Word) (u : Nat), L.safe.armed = some (v, id, u) →
        v ≠ c ∨ id ≠ L.resetSession h.req ∨ h.at_ < u + 50000000 ∨ u + 2000000000 < h.at_ →
        L.nakked (L.act l h) h.code h.req nakChallenge 0 ∧ L.reported (L.act l h) 0x0486 0xFF)) ∧
    (∀ (d : List Word) (f : ImgFacts), (L.st ≠ stStandby → naks (.imgCommit d f) nakState L.st) ∧
      (L.st = stStandby → L.mbx.img = none → naks (.imgCommit d f) nakVerify 0) ∧
      (∀ b : Bool, L.st = stStandby → L.mbx.img = some b → h.cmd = .imgCommit d f →
        let M := L.act l h
        let safety := L.imgChanged b &&& safetyGroups ≠ 0#16
        (L.imageOk b f = false → L.keeps (.nvm :: .time :: .mbx :: faultParts) M ∧ L.reported M 0x0D01 0xFF ∧
          L.nakked M h.code h.req nakVerify 0) ∧
        (L.imageOk b f = true → L.imgDigest b ≠ d → L.keeps (.nvm :: askParts) M ∧ L.nakked M h.code h.req nakVerify 0) ∧
        (L.imageOk b f = true → L.imgDigest b = d → safety → L.mbx.pwOk = false → L.keeps (.nvm :: askParts) M ∧
          L.nakked M h.code h.req nakPassword 0) ∧
        (L.imageOk b f = true → L.imgDigest b = d → ¬ safety ∨ L.mbx.pwOk = true →
          L.keeps [.mbx, .nvm, .mem] M ∧ M.mbx = { L.mbx with commit := some h } ∧
          M.nvm.tallySeq = L.nvm.tallySeq + (if safety then 2 else 1)))) ∧
    (∀ n : Nat, (L.learnState = false ∨ 256 < L.com.pending.length → naks (.learnStart n) nakState L.st) ∧
      (L.learnState = true → L.com.pending.length ≤ 256 → n < cycleOf L.time + 8 → naks (.learnStart n) nakArgument 0) ∧
      (L.learnState = true → L.com.pending.length ≤ 256 → cycleOf L.time + 8 ≤ n → h.cmd = .learnStart n →
        L.replied (L.act l h) h.code h.req [] ∧ ∃ x : Learn, (L.act l h).com = { L.com with learn := some x } ∧ x.at_ = n ∧ x.running = false)) ∧
    (h.cmd = .calSave → L.replied (L.act l h) h.code h.req (leBytes 2 L.com.pending.length) ∧ (L.act l h).com = { L.com with pending := [] } ∧
      (∀ p ∈ L.com.pending, p ∈ (L.act l h).nvm.overlay) ∧ (L.act l h).nvm.tallySeq = L.nvm.tallySeq + 1 ∧
      (L.act l h).rd Reg.COM_MAP_STAT_PENDING = 0) ∧
    (∀ (m : BitVec 16) (rearm : Bool), h.cmd = .fcAck m rearm → L.replied (L.act l h) h.code h.req []) ∧
    (∀ d : List Word, (L.st ≠ stStandby → naks (.fwTrial d) nakState L.st) ∧
      (L.st = stStandby → (L.bank (!L.nvm.runB)).verified = false ∨ (L.bank (!L.nvm.runB)).digest ≠ d → naks (.fwTrial d) nakVerify 0) ∧
      (L.st = stStandby → (L.bank (!L.nvm.runB)).verified = true → (L.bank (!L.nvm.runB)).digest = d → h.cmd = .fwTrial d →
        L.replied (L.act l h) h.code h.req [] ∧ L.keeps [.mbx, .nvm, .mem, .regs] (L.act l h) ∧
        (L.act l h).bank (!L.nvm.runB) = { L.bank (!L.nvm.runB) with
          state := .trial, seq := ((L.bank L.nvm.runB).seq + 1) % 0x100000000, svn := (L.bank (!L.nvm.runB)).svn % 0x10000 } ∧
        (L.act l h).bank L.nvm.runB = L.bank L.nvm.runB)) ∧
    ((L.st ≠ stStandby ∨ L.nvm.trial = false → naks .fwCommit nakState L.st) ∧
      (L.st = stStandby → L.nvm.trial = true → L.selftested = false → naks .fwCommit nakSelftest 0) ∧
      (L.st = stStandby → L.nvm.trial = true → L.selftested = true → h.cmd = .fwCommit →
        L.keeps [.mbx] (L.act l h) ∧ (L.act l h).mbx = { L.mbx with commit := some h })) ∧
    (∀ (op : Nat) (a : LcArgs), (L.st ≠ stStandby → naks (.lifecycle op a) nakState L.st) ∧
      (L.st = stStandby → L.lcAllowed op = false → naks (.lifecycle op a) nakLifecycle 0) ∧
      (L.st = stStandby → L.lcAllowed op = true → L.lcAuth op a = false → naks (.lifecycle op a) nakVerify 0) ∧
      (L.st = stStandby → L.lcAllowed op = true → L.lcAuth op a = true → h.cmd = .lifecycle op a →
        ((L.act l h).mbx.out.map fun p => (p.code, p.seq, p.session, p.nak, p.more, p.payload)) =
          [(h.code, h.req.seq, h.req.session, none, false, [Config.resultByte true])] ∧ (L.act l h).st = stOff ∧
        (L.act l h).lc = (if op = 2 then lcField else if op = 3 then lcService else if op = 4 then lcReturned
          else if op = 5 then lcDecommissioned else L.lc) ∧
        (op = 1 → (L.act l h).on Reg.SEC_KEY_STAT_OWNER = true ∧ (L.act l h).sec.keys.owner = L.sec.ownerNext) ∧
        (op = 6 → (L.act l h).on Reg.SEC_RIND_STAT_ALARM = false) ∧
        (op = 5 → (L.act l h).sec.keys = KeyStore.reset)))

/-- R401: a tap starts in the requester's mailbox and sends a delivery every DECIMATION basic cycles while it can, counting those it cannot send; it
ends at its DURATION or by TAP_STOP, with its final reply. Bad arguments, and TAP_STOP without a tap, are ARGUMENT. R390, R404, R405: an authentic
CROOK ends the functions it names at once where nothing holds them back (no slice, no commit, the axis at rest); 800 µs after receipt what has not
ended is forced; 1.0 ms after it, all being ended, the lane replies. One that does not verify is an AUTH violation, one outside mailbox 15 UNKNOWN.
The Shepherd that was reset comes up again. Says where these complete: grazeTap, skimTap, tapStop, tapDelivery, tapEnd, crook, crookForced,
crookReply, shepherdRestart. -/
def Obligations.TapsAndCrook : Prop :=
  (∀ (s : State) (l : Lane) (r : Req) (t : Nat),
     let K := (s.lane l).hearing t
     let starts := fun (i : Instr) (code : Nat) (body : List Byte) (stream : Option Nat) (dec dur : Nat) => (s.lane l).accepts l code r body t →
       LaneRuns i s l fun L => (s.lane l).keeps [.time, .mbx] L ∧ L.mbx.out = [] ∧ L.mbx.taps = (s.lane l).mbx.taps ++ [
         { req := r, code := code, stream := stream, dec := dec, endAt := K.time + dur * 1000000000, count := 0, last := cycleOf K.time }]
     let naks := fun (i : Instr) (code : Nat) (body : List Byte) (detail : Nat) => (s.lane l).accepts l code r body t →
       LaneRuns i s l fun L => (s.lane l).onlyAnswered L ∧ (s.lane l).nakked L code r nakArgument detail
     (∀ dec dur : Nat,
       let body := leBytes 1 dec ++ leBytes 2 dur
       (1 ≤ dec → dec ≤ 255 → 1 ≤ dur → dur ≤ 600 → starts (.grazeTap l r dec dur t) 0x0800 body none (64 * dec) dur) ∧
       (dec = 0 ∨ 255 < dec → naks (.grazeTap l r dec dur t) 0x0800 body 0) ∧
       (1 ≤ dec → dec ≤ 255 → dur = 0 ∨ 600 < dur → naks (.grazeTap l r dec dur t) 0x0800 body 1) ∧
       (∀ i : Nat, i < 4 → (s.lane l).on (Reg.FLK_SKIM_CFG_EN i) = true →
         (1 ≤ dec → dec ≤ 255 → 1 ≤ dur → dur ≤ 600 → starts (.skimTap l r i dec dur t) 0x0801 (leBytes 1 i ++ body) (some i) dec dur) ∧
         (dec = 0 ∨ 255 < dec → naks (.skimTap l r i dec dur t) 0x0801 (leBytes 1 i ++ body) 1) ∧
         (1 ≤ dec → dec ≤ 255 → dur = 0 ∨ 600 < dur → naks (.skimTap l r i dec dur t) 0x0801 (leBytes 1 i ++ body) 2)) ∧
       (∀ i : Nat, 4 ≤ i ∨ (s.lane l).on (Reg.FLK_SKIM_CFG_EN i) = false → naks (.skimTap l r i dec dur t) 0x0801 (leBytes 1 i ++ body) 0)) ∧
     (∀ m : Nat, ((s.lane l).mbx.taps.any fun x => x.req.mbox == m) = false → naks (.tapStop l r m t) 0x0802 (leBytes 1 m) 0) ∧
     (∀ (m : Nat) (x : Tap), ((s.lane l).mbx.taps.filter fun y => y.req.mbox == m) = [x] →
       ((s.lane l).accepts l 0x0802 r (leBytes 1 m) t → x.req.transport ≠ .internal → r.transport ≠ .internal → LaneRuns (.tapStop l r m t) s l fun L =>
         (s.lane l).onlyAnswered L ∧ L.mbx.out = [L.replyTo x.code x.req none false [], L.replyTo 0x0802 r none false []] ∧
         L.mbx.taps = (s.lane l).mbx.taps.filter fun y => y.req.mbox ≠ m) ∧
       ((s.lane l).up = true → x.endAt ≤ t → LaneRuns (.tapEnd l m t) s l fun L => (s.lane l).onlyAnswered L ∧
         (s.lane l).replied L x.code x.req [] ∧ L.mbx.taps = (s.lane l).mbx.taps.filter fun y => y.req.mbox ≠ m) ∧
       ((s.lane l).up = true → x.last + x.dec ≤ cycleOf (s.lane l).time →
         (x.stream = none → LaneRuns (.tapDelivery l m true) s l fun L => (s.lane l).keeps [.mbx] L ∧
           (s.lane l).sent L x.code x.req none true (leBytes 4 x.count ++ (s.lane l).grazePayload)) ∧
         (∀ i, x.stream = some i → LaneRuns (.tapDelivery l m true) s l fun L => (s.lane l).keeps [.mbx] L ∧
           (s.lane l).sent L x.code x.req none true (leBytes 4 x.count ++ ((s.lane l).skimPayload i (cycleStart (s.lane l).time - 250000)).1)) ∧
         ∀ can : Bool, LaneRuns (.tapDelivery l m can) s l fun L => (s.lane l).keeps [.mbx] L ∧ (can = false → L.mbx.out = []) ∧
           L.mbx.taps = (s.lane l).mbx.taps.map fun z => if z.req.mbox == m then { x with count := x.count + 1, last := cycleOf (s.lane l).time }
             else z))) ∧
  (∀ (s : State) (l : Lane) (r : Req) (mailbox aux : Bool) (t : Nat), (s.lane l).up = true →
     let K := (s.lane l).hearing t
     let msg := headerBytes 0x0F00 r ++ leBytes 2 ((if mailbox then 1 else 0) + if aux then 2 else 0)
     (named r l = true → K.crookOk r msg = true → r.mbox = 15 ∨ r.transport = .internal → (s.lane l).mbx.crook = none →
       LaneRuns (.crook l r mailbox aux t) s l fun L => (s.lane l).keeps (.nvm :: .mem :: .aux :: askParts) L ∧
         (s.lane l).keepsRegs [0x400C0048, 0x400F0000, 0x400F001C, 0x400F0024] L ∧
         L.rd Reg.MBX_CROOK_STAT_SOURCE = crookSource r.transport ∧
         ∃ c, L.mbx.crook = some c ∧ c.req = r ∧ c.at_ = K.time ∧ c.mbxAt = (if mailbox then some K.time else none) ∧
           c.auxAt = (if aux then some K.time else none) ∧ L.rd Reg.MBX_CROOK_STAT_MAILBOX = c.mbxDone ∧ L.rd Reg.MBX_CROOK_STAT_AUX = c.auxDone ∧
           (mailbox = true → (s.lane l).chn.active = false → (s.lane l).mbx.commit = none →
             c.mbxDone = 1 ∧ L.mbx.waiting = [] ∧ L.mbx.asked = [] ∧ L.mbx.taps = []) ∧
           (mailbox = true → (s.lane l).chn.active = true ∨ (s.lane l).mbx.commit.isSome = true → c.mbxDone = 0) ∧
           (aux = true → c.auxDone = (if (s.lane l).aux.v = 0 then 1 else 0) ∧ L.aux.halt = ((s.lane l).aux.v != 0) ∧
             L.rd Reg.AUX_STAT_REF = (s.lane l).rd Reg.AUX_STAT_REF)) ∧
     (named r l = true → K.crookOk r msg = false ∨ r.mbox ≠ 15 ∧ r.transport ≠ .internal →
       ((s.lane l).mbx.quar.any fun q => q.1 == K.reqKey r msg) = false →
       LaneRuns (.crook l r mailbox aux t) s l fun L => (s.lane l).keeps (.fc :: askParts) L ∧
         (s.lane l).nakked L 0x0F00 r (if r.mbox = 15 then nakAuth else nakUnknown) 0 ∧
         L.rd (violFld (if r.mbox = 15 then nakAuth else nakUnknown)) =
           ((s.lane l).rd (violFld (if r.mbox = 15 then nakAuth else nakUnknown)) + 1) % 64) ∧
     (∀ c, (s.lane l).mbx.crook = some c →
       (∀ u : Nat, c.mbxAt = some u → c.mbxDone = 0 → c.auxAt = none → u + 800000 ≤ t → (s.lane l).chn.active = true →
         LaneRuns (.crookForced l t) s l fun L => L.mbx.crook = some { c with mbxDone := 2 } ∧ L.on Reg.MBX_STAT_SHEP_UP = false ∧
           L.on Reg.MBX_STAT_BUSY = false ∧ L.reg 0x400F000C = 0#32 ∧ L.on Reg.MBX_STAT_SESSION = false ∧ L.mbx.waiting = [] ∧
           L.mbx.taps = [] ∧ L.core.shep = Hart.reset ∧ L.rd Reg.MBX_CROOK_STAT_MAILBOX = 2) ∧
       (∀ u : Nat, c.auxAt = some u → c.auxDone = 0 → c.mbxAt = none → u + 800000 ≤ t → (s.lane l).aux.halt = true →
         LaneRuns (.crookForced l t) s l fun L => (s.lane l).keeps [.time, .mbx, .aux, .regs] L ∧ L.mbx.crook = some { c with auxDone := 2 } ∧
           L.aux.v = 0 ∧ L.on Reg.AUX_STAT_FREE = true ∧ L.rd Reg.AUX_STAT_REF = 0 ∧ L.rd Reg.MBX_CROOK_STAT_AUX = 2) ∧
       (∀ u : Nat, c.mbxAt = some u ∨ c.auxAt = some u → u + 1000000 ≤ t → c.mbxAt = none ∨ c.mbxDone ≠ 0 → c.auxAt = none ∨ c.auxDone ≠ 0 →
         LaneRuns (.crookReply l t) s l fun L => (s.lane l).keeps askParts L ∧ (s.lane l).keepsRegs [0x400F0024] L ∧
           (c.req.transport ≠ .internal → L.mbx.out = [L.replyTo 0x0F00 c.req none false (wordBytes (L.reg 0x400F0024))]) ∧ L.mbx.crook = none ∧
           L.rd Reg.MBX_CROOK_STAT_DURATION = min ((t - c.at_) / 1000) 4095)) ∧
     ((s.lane l).sys.boot = .none → LaneRuns (.shepherdRestart l) s l fun L => (s.lane l).keeps [.regs] L ∧
       (s.lane l).keepsRegs [0x400F0000] L ∧ L.on Reg.MBX_STAT_SHEP_UP = true))

/-- R97 to R103, R400: a load goes to the slot not in force or the bank not running: begun it is erased and EMPTY, written at its offset, verified
against the checks of R98 or against signature and rollback counter. A write past the length, one without a load, and a length above the region are
ARGUMENT; outside STANDBY the answer is STATE. Says where these complete: imgBegin, imgWrite, imgVerify, fwBegin, fwWrite, fwVerify. -/
def Obligations.LoadsGoToTheSpareSide : Prop :=
  ∀ (s : State) (l : Lane) (r : Req) (t : Nat),
    let old := s.lane l
    let naks := fun (i : Instr) (code : Nat) (body : List Byte) (nak detail : Nat) => old.accepts l code r body t →
      LaneRuns i s l fun L => old.onlyAnswered L ∧ old.nakked L code r nak detail
    let loads := fun (L : LaneSt) => old.keeps (.nvm :: .mem :: askParts) L ∧ old.keepsRegs [0x400F0000] L
    let kept := fun (b : Bank) => { b with seq := b.seq % 0x100000000, svn := b.svn % 0x10000 }
    let rest := fun (L : LaneSt) (b : Bool) (f : Nat → Byte) => ∀ a, L.byte a =
      if bankRecAt b ≤ a ∧ a < bankRecAt b + 8 then (L.bank b).wire.getD (a - bankRecAt b) 0#8 else f a
    (∀ n : Nat, (old.st ≠ stStandby → naks (.imgBegin l r n t) 0x0300 (leBytes 4 n) nakState old.st ∧
        ∀ svn, naks (.fwBegin l r n svn t) 0x0600 (leBytes 4 n ++ leBytes 2 svn) nakState old.st) ∧
      (old.st = stStandby → 0x40000 < n → naks (.imgBegin l r n t) 0x0300 (leBytes 4 n) nakArgument 0) ∧
      (old.st = stStandby → n ≤ 0x40000 → old.accepts l 0x0300 r (leBytes 4 n) t → LaneRuns (.imgBegin l r n t) s l fun L => loads L ∧
        let b := old.nvm.chosen == some false
        old.replied L 0x0300 r [if b then 1#8 else 0#8] ∧ L.mbx.img = some b ∧ L.slot b = { Slot.blank with len := n } ∧
        L.slot (!b) = old.slot (!b) ∧ ∀ a, L.byte a =
          if slotBase b ≤ a ∧ a < slotBase b + 0x40000 ∨ slotRecAt b ≤ a ∧ a < slotRecAt b + 40 then 0#8 else old.byte a) ∧
      (∀ svn : Nat, old.st = stStandby →
        (0x300000 < n → naks (.fwBegin l r n svn t) 0x0600 (leBytes 4 n ++ leBytes 2 svn) nakArgument 0) ∧
        (n ≤ 0x300000 → old.accepts l 0x0600 r (leBytes 4 n ++ leBytes 2 svn) t → LaneRuns (.fwBegin l r n svn t) s l fun L => loads L ∧
          old.replied L 0x0600 r [if old.nvm.runB then 0#8 else 1#8] ∧ L.mbx.fw = some (!old.nvm.runB) ∧
          L.bank (!old.nvm.runB) = { Bank.blank with svn := svn % 0x10000, len := n } ∧ L.bank old.nvm.runB = old.bank old.nvm.runB ∧
          rest L (!old.nvm.runB) old.byte))) ∧
    (∀ (o : Nat) (d : List Byte), old.st = stStandby → let body := leBytes 4 o ++ d
      (old.mbx.img = none → naks (.imgWrite l r o d t) 0x0301 body nakArgument 0) ∧
      (old.mbx.fw = none → naks (.fwWrite l r o d t) 0x0601 body nakArgument 0) ∧
      (∀ b, old.mbx.img = some b → ((old.slot b).len < o + d.length → naks (.imgWrite l r o d t) 0x0301 body nakArgument 0) ∧
        (o + d.length ≤ (old.slot b).len → old.accepts l 0x0301 r body t → LaneRuns (.imgWrite l r o d t) s l fun L => loads L ∧
          old.replied L 0x0301 r [] ∧ L.slot b = { old.slot b with facts := none } ∧ L.slot (!b) = old.slot (!b) ∧
          ∀ a, L.byte a = if slotBase b + o ≤ a ∧ a < slotBase b + o + d.length then d.getD (a - slotBase b - o) 0#8 else old.byte a)) ∧
      (∀ b, old.mbx.fw = some b → ((old.bank b).len < o + d.length → naks (.fwWrite l r o d t) 0x0601 body nakArgument 0) ∧
        (o + d.length ≤ (old.bank b).len → old.accepts l 0x0601 r body t → LaneRuns (.fwWrite l r o d t) s l fun L => loads L ∧
          old.replied L 0x0601 r [] ∧ L.bank b = kept { old.bank b with verified := false } ∧ L.bank (!b) = old.bank (!b) ∧
          rest L b fun a => if bankBase b + o ≤ a ∧ a < bankBase b + o + d.length then d.getD (a - bankBase b - o) 0#8 else old.byte a))) ∧
    (∀ f : ImgFacts, old.st = stStandby → (old.mbx.img = none → naks (.imgVerify l r f t) 0x0302 [] nakArgument 0) ∧
      (∀ b, old.mbx.img = some b → old.accepts l 0x0302 r [] t → LaneRuns (.imgVerify l r f t) s l fun L =>
        old.keeps (.nvm :: .time :: .mbx :: faultParts) L ∧ L.slot b = { old.slot b with facts := if old.imageOk b f then some f else none } ∧
        L.slot (!b) = old.slot (!b) ∧ (old.imageOk b f = false → old.reported L 0x0D01 0xFF) ∧
        old.replied L 0x0302 r ([if old.imageOk b f then 1#8 else 0#8] ++ old.imgDigestBytes b ++ leBytes 2 (old.imgChanged b).toNat ++
          [if old.imgChanged b &&& safetyGroups = 0#16 then 0#8 else 1#8]))) ∧
    (∀ f : FwFacts, old.st = stStandby → (old.mbx.fw = none → naks (.fwVerify l r f t) 0x0602 [] nakArgument 0) ∧
      (∀ b, old.mbx.fw = some b → old.accepts l 0x0602 r [] t → LaneRuns (.fwVerify l r f t) s l fun L => loads L ∧
        let ok := f.sigOk && decide (old.nvm.rollback ≤ f.svn)
        L.bank b = kept { old.bank b with verified := ok, svn := f.svn, digest := f.digest } ∧ L.bank (!b) = old.bank (!b) ∧
        rest L b old.byte ∧ old.replied L 0x0602 r ([if ok then 1#8 else 0#8] ++ leBytes 2 f.svn ++ bytesOf f.digest)))

/-- R104, R395, R396, R421: a HELLO that verifies opens the session: the one before ends, and the lane answers with the highest common version, its
number and state. 600 s without a command end the session; a REQ_STATE that waits for its result puts that off. A password is asked five times at
most in one boot. R429 to R431: UNLOCK_REQ closes the debug session and answers 32 random bytes (free values, log entry 5) unless DBG_x is locked
for life; a signed answer of that session and level within 10 s unlocks; any other is told as 0x0B05 and counted, and the eighth locks for life. A
debug session opens only on an unlocked DBG_x. Says where these complete: sessionTimeout, hello, password, unlockReq, unlockResp, challengeExpiry,
debugSessionOpen, debugSessionClose. -/
def Obligations.SessionsAndUnlock : Prop :=
  (∀ (s : State) (l : Lane) (r : Req) (t : Nat),
     let old := s.lane l
     let K := old.hearing t
     (∀ (a : HelloArgs) (v : Nat), old.up = true → K.hears = true → named r l = true → r.transport ≠ .internal →
       (r.transport = .can → K.canReaches r.key = true) → K.helloOk r a = true →
       let key := 2 * r.requester.toNat + 1
       (K.noteRate key).gate key r (helloBody a) = none → r.mbox ≠ 0 → r.mbox ≠ 15 → r.module = false → old.holdsBox r.mbox = false →
       (∀ e, old.seqRec key r.mbox = some e → e.msg ≠ headerBytes 0x0100 r ++ helloBody a) →
       (K.helloNak a true = (0, 0) → shared (a.vmin, a.vmax) (1, 2) = some v →
         LaneRuns (.hello l r a t) s l fun L => old.keeps (.sec :: askParts) L ∧
           old.keepsRegs [0x400E0004, 0x400E000C, 0x400F0000, 0x400F000C, 0x400F0010] L ∧ L.reg 0x400F000C = a.session ∧
           L.reg 0x400F0010 = r.requester ∧ L.on Reg.MBX_STAT_SESSION = true ∧ L.on Reg.SEC_KEY_STAT_SESSION = true ∧ L.mbx.roles = a.roles ∧
           L.mbx.pwOk = false ∧ L.mbx.lastCmd = K.time ∧ L.mbx.nonces = (a.nonce :: old.mbx.nonces).take 64 ∧
           L.sec.keys = { old.sec.keys with
             sk := kmac128 (old.hostKey r.requester) (wordBytes a.session ++ leBytes 8 Config.serial.toNat ++ a.nonce) 32 (ascii "SES") } ∧
           (old.reg 0x400F000C = 0#32 → old.replied L 0x0100 r (leBytes 1 v ++ leBytes 1 (laneIx l + 1) ++ leBytes 8 Config.serial.toNat ++
             leBytes 1 old.lc ++ leBytes 2 old.runSvn))) ∧
       (∀ n d : Nat, K.helloNak a true = (n, d) → n ≠ 0 →
         LaneRuns (.hello l r a t) s l fun L => old.keeps (.fc :: askParts) L ∧
           old.keepsRegs [0x400F0000, 0x400F0014, 0x400F0018] L ∧ old.nakked L 0x0100 r n d)) ∧
     (old.up = true → old.mbx.lastCmd + 600000000000 ≤ t → old.reg 0x400F000C ≠ 0#32 →
       (old.mbx.asked = [] → LaneRuns (.sessionTimeout l t) s l fun L => old.keeps (.sec :: askParts) L ∧
         old.keepsRegs [0x400E000C, 0x400F0000, 0x400F000C, 0x400F0010] L ∧ L.reg 0x400F000C = 0#32 ∧ L.on Reg.MBX_STAT_SESSION = false ∧
         L.mbx.roles = 0#16 ∧ L.mbx.pwOk = false ∧ L.sec.challenge = none ∧ L.on Reg.SEC_DBG_STAT_CHAL = false) ∧
       (old.mbx.asked ≠ [] → LaneRuns (.sessionTimeout l t) s l fun L => old.keeps [.time, .mbx] L ∧ L.mbx.endDue = true)) ∧
     (∀ pw : List Byte, old.accepts l 0x0700 r pw t →
       (5 ≤ old.nvm.pwFails → LaneRuns (.password l r pw t) s l fun L => old.onlyAnswered L ∧ old.nakked L 0x0700 r nakLocked 0) ∧
       (old.nvm.pwFails < 5 → pw.length < 8 ∨ 64 < pw.length → LaneRuns (.password l r pw t) s l fun L => old.onlyAnswered L ∧
         old.nakked L 0x0700 r nakArgument 0) ∧
       (old.nvm.pwFails < 5 → 8 ≤ pw.length → pw.length ≤ 64 → LaneRuns (.password l r pw t) s l fun L =>
         old.keeps (.nvm :: .mem :: askParts) L ∧ old.keepsRegs [0x400F0000] L ∧
         let good := old.on Reg.SEC_KEY_STAT_PASSWORD && shake256 32 (old.sec.keys.pwSalt ++ pw) == old.sec.keys.pwHash
         L.mbx.pwOk = (old.mbx.pwOk || good) ∧ L.nvm.pwFails = old.nvm.pwFails + (if good then 0 else 1) ∧
         L.nvm.tallySeq = old.nvm.tallySeq + 1 ∧ old.replied L 0x0700 r (leBytes 1 (5 - L.nvm.pwFails))))) ∧
  (∀ (s : State) (l : Lane) (r : Req) (level t : Nat),
     let old := s.lane l
     (old.accepts l 0x0701 r (leBytes 1 level) t →
       (old.on Reg.SEC_DBG_STAT_PERM = true → LaneRuns (.unlockReq l r level t) s l fun L => old.onlyAnswered L ∧ old.nakked L 0x0701 r nakLocked 0) ∧
       (old.on Reg.SEC_DBG_STAT_PERM = false → level = 0 ∨ 2 < level → LaneRuns (.unlockReq l r level t) s l fun L => old.onlyAnswered L ∧
         old.nakked L 0x0701 r nakArgument 0) ∧
       (old.on Reg.SEC_DBG_STAT_PERM = false → level = 1 ∨ level = 2 → LaneRuns (.unlockReq l r level t) s l fun L =>
         old.keeps (.free :: .sec :: askParts) L ∧ old.keepsRegs [0x400E000C, 0x400F0000, 0x4011000C] L ∧
         L.on Reg.SEC_DBG_STAT_CHAL = true ∧ L.on Reg.DBG_SESSION_OPEN = false ∧
         let bs := (List.range 8).flatMap fun i => wordBytes (Config.freeValue (old.free + i))
         L.sec.challenge = some { session := r.session, level := level, at_ := max old.time t, bytes := bs } ∧ old.replied L 0x0701 r bs)) ∧
     (∀ (sig : List Byte) (sigOk : Bool), old.accepts l 0x0702 r (leBytes 1 level ++ leBytes 3 0 ++ sig) t →
       let ok := match old.sec.challenge with
         | some c => sigOk && c.level == level && c.session == r.session && decide (t < c.at_ + 10000000000) && old.lc != lcDecommissioned
         | none => false
       (ok = true → old.on Reg.SEC_DBG_STAT_PERM = false → LaneRuns (.unlockResp l r level sig sigOk t) s l fun L =>
         old.keeps (.sec :: .nvm :: .mem :: askParts) L ∧ old.keepsRegs [0x400E000C, 0x400F0000, 0x4011000C] L ∧
         L.rd Reg.SEC_DBG_STAT_LEVEL = level % 4 ∧ L.on Reg.DBG_SESSION_UNLOCKED = true ∧ L.rd Reg.SEC_DBG_STAT_CONSEC = 0 ∧
         L.sec.challenge = none ∧ L.nvm.tallySeq = old.nvm.tallySeq + 1 ∧ old.replied L 0x0702 r [Config.resultByte true]) ∧
       (ok = false ∨ old.on Reg.SEC_DBG_STAT_PERM = true → LaneRuns (.unlockResp l r level sig sigOk t) s l fun L =>
         L.on Reg.SEC_DBG_STAT_CHAL = false ∧ L.sec.challenge = none ∧ L.rd Reg.SEC_DBG_STAT_TOTAL = min (old.rd Reg.SEC_DBG_STAT_TOTAL + 1) 8 ∧
         (7 ≤ old.rd Reg.SEC_DBG_STAT_TOTAL → L.on Reg.SEC_DBG_STAT_PERM = true) ∧
         L.rd Reg.SEC_DBG_STAT_CONSEC = min (old.rd Reg.SEC_DBG_STAT_CONSEC + 1) 4 ∧
         (old.rd Reg.SEC_DBG_STAT_CONSEC < 3 → L.nvm.tallySeq = old.nvm.tallySeq + 1 ∧ old.reported L 0x0B05 0xFF ∧
           old.replied L 0x0702 r [Config.resultByte false]) ∧
         (3 ≤ old.rd Reg.SEC_DBG_STAT_CONSEC → L.on Reg.SEC_RIND_STAT_ALARM = true))) ∧
     (old.up = true → (∀ c, old.sec.challenge = some c → c.at_ + 10000000000 ≤ t → LaneRuns (.challengeExpiry l t) s l fun L =>
         old.keeps [.time, .regs] L ∧ old.keepsRegs [0x400E000C] L ∧ L.on Reg.SEC_DBG_STAT_CHAL = false) ∧
       (old.rd Reg.SEC_DBG_STAT_LEVEL ≠ 0 → old.on Reg.DBG_SESSION_OPEN = false → LaneRuns (.debugSessionOpen l) s l fun L =>
         old.keeps [.regs] L ∧ old.keepsRegs [0x4011000C, Reg.DBG_JOURNAL_BUSY_CNT.addr] L ∧ L.on Reg.DBG_SESSION_OPEN = true ∧ L.rd Reg.DBG_SESSION_HALT_REFUSED = 0 ∧ L.rd Reg.DBG_JOURNAL_BUSY_CNT = 0) ∧
       (old.rd Reg.SEC_DBG_STAT_LEVEL = 0 → LaneRuns (.debugSessionOpen l) s l fun L => L = old) ∧
       LaneRuns (.debugSessionClose l) s l fun L => old.keeps [.regs] L ∧ old.keepsRegs [0x4011000C] L ∧ L.on Reg.DBG_SESSION_OPEN = false))

/-- R310, R411, R412, R418, R423 to R425: a lane is provisioned once, in BLANK; a test token opens the test mode in BLANK and PROVISIONED only; KEY_LOAD
stores an item that verifies and refuses any other; a Rind source latches the alarm, which locks debug, ends the session and erases the external
keys; a glitch in ARM, DRIVE or FOLD is 0x0B02 instead. Says where these complete: provision, keyLoad, rindSource, glitchDetect, factoryTestToken. -/
def Obligations.KeysAndRind : Prop :=
  ∀ (s : State) (l : Lane) (r : Req) (t : Nat),
    let old := s.lane l
    (old.up = true →
      (∀ pk msk : List Byte, old.lc = lcBlank → LaneRuns (.provision l true pk msk) s l fun L => old.keeps [.regs, .sec] L ∧ old.keepsRegs [0x400E0000, 0x400E0004] L ∧
        L.lc = lcProvisioned ∧ L.on Reg.SEC_LC_SCAN_FUSE = true ∧ L.on Reg.SEC_KEY_STAT_IDENT = true ∧ L.on Reg.SEC_KEY_STAT_MSK = true ∧
        L.on Reg.SEC_KEY_STAT_PROV = true ∧
        L.sec = { old.sec with keys := { old.sec.keys with pk := pk, msk := msk } }) ∧
      (∀ (ok : Bool) (pk msk : List Byte), ok = false ∨ old.lc ≠ lcBlank → LaneRuns (.provision l ok pk msk) s l fun L => L = old) ∧
      (old.lc ≤ lcProvisioned → LaneRuns (.factoryTestToken l true) s l fun L => old.keeps [.regs] L ∧ old.keepsRegs [0x400E0000] L ∧
        L.on Reg.SEC_LC_TEST_MODE = true) ∧
      (∀ ok : Bool, ok = false ∨ lcProvisioned < old.lc → LaneRuns (.factoryTestToken l ok) s l fun L => L = old)) ∧
    (∀ a : KeyArgs, old.st = stStandby → old.accepts l 0x0704 r (keyHead a ++ a.auth) t →
      let item := old.unwrap l a r.seq
      (old.keyNak a = (0, 0) → old.keyAuth a = true → keyCheck item = a.check → LaneRuns (.keyLoad l r a t) s l fun L =>
        (a.slot ≠ 4 → old.replied L 0x0704 r [Config.resultByte true] ∧ old.keeps (.free :: .sec :: askParts) L ∧
          old.keepsRegs [0x400E0004, 0x400F0000] L) ∧
        (a.slot = 1 → L.sec = { old.sec with ownerNext := item }) ∧
        (a.slot = 2 → L.on Reg.SEC_KEY_STAT_PASSWORD = true ∧
          ∃ salt, L.sec.keys = { old.sec.keys with pwSalt := salt, pwHash := shake256 32 (salt ++ item) }) ∧
        (a.slot = 3 → L.on Reg.SEC_KEY_STAT_GROUP = true ∧ L.sec.keys = { old.sec.keys with group := item } ∧
          L.rd Reg.SEC_KEY_STAT_GROUP_KCV = leNum ((keyCheck item).take 2)) ∧
        (a.slot = 4 → L.on Reg.SEC_KEY_STAT_HMK = true ∧ L.sec.keys = { old.sec.keys with hmk := item } ∧ L.reg 0x400F000C = 0#32) ∧
        (a.slot = 5 → L.on Reg.SEC_KEY_STAT_MSK = true ∧ L.sec.keys = { old.sec.keys with msk := item })) ∧
      (old.keyNak a = (0, 0) → old.keyAuth a = false ∨ keyCheck item ≠ a.check → LaneRuns (.keyLoad l r a t) s l fun L => old.onlyAnswered L ∧
        old.nakked L 0x0704 r nakVerify 0) ∧
      (∀ n d : Nat, old.keyNak a = (n, d) → n ≠ 0 → LaneRuns (.keyLoad l r a t) s l fun L => old.onlyAnswered L ∧ old.nakked L 0x0704 r n d)) ∧
    (∀ bit ns : Nat, bit ≤ 6 → stPark ≤ old.st → old.watches bit = true →
      let alarm := fun (L : LaneSt) => L.on Reg.SEC_RIND_STAT_ALARM = true ∧ (old.on Reg.SEC_RIND_STAT_ALARM = false →
        L.rd Reg.SEC_RIND_STAT_FIRST = bit + 1 ∧ L.on Reg.SEC_KEY_STAT_HMK = false ∧ L.sec.keys.hmk = [] ∧ L.sec.keys.sk = [] ∧
        L.rd Reg.SEC_DBG_STAT_LEVEL = 0 ∧ L.on Reg.DBG_SESSION_OPEN = false ∧ L.reg 0x400F000C = 0#32)
      (ns < rindHold bit → LaneRuns (.rindSource l bit true ns t) s l fun L => old.keeps [.time] L) ∧
      (bit < 6 → LaneRuns (.rindSource l bit false ns t) s l fun L => old.keeps [.time, .regs] L ∧ old.keepsRegs [0x400E0008] L ∧
        L.on (Reg.SEC_RIND_STAT_SRC.bit bit) = false ∧ L.on Reg.SEC_RIND_STAT_ALARM = old.on Reg.SEC_RIND_STAT_ALARM) ∧
      (rindHold bit ≤ ns →
        (bit < 3 ∨ bit = 6 ∧ 4 ≤ old.rd Reg.SEC_DBG_STAT_CONSEC → LaneRuns (.rindSource l bit true ns t) s l fun L => alarm L ∧
          L.on (Reg.SEC_RIND_STAT_SRC.bit bit) = true) ∧
        (3 ≤ bit → bit ≤ 5 →
          (old.st < stArm → LaneRuns (.rindSource l bit true ns t) s l alarm ∧ LaneRuns (.glitchDetect l bit ns t) s l alarm) ∧
          (stArm ≤ old.st →
            let glitch := fun (L : LaneSt) => old.keeps (.time :: faultParts) L ∧ old.keepsRegs (0x400E0008 :: faultRegs) L ∧
              L.rd Reg.SEC_RIND_STAT_GLITCH_CNT = (old.rd Reg.SEC_RIND_STAT_GLITCH_CNT + 1) % 256 ∧ old.reported L 0x0B02 0xFF
            LaneRuns (.rindSource l bit true ns t) s l glitch ∧ LaneRuns (.glitchDetect l bit ns t) s l glitch))))

/-- R435, R437, R440, R443, R445: a keyed command of the axis is carried out where the table accepts it and otherwise only sets CMD_REJ and REJECT; a
write without the key is 0x0D04. MOVE and HOME wait for the next planner period, unless a STOP of the same period wins; STOP decelerates, HARDSTOP
stops at the next microstep, CLEAR ends a coil fault whose condition has gone, COMMIT_TBL activates a valid table at the next full step. HOME
towards a tripped switch is rejected (log entry 123). Says where these complete: move, stop, hardstop, home, clear, commitTbl. -/
def Obligations.AxisCommands : Prop :=
  ∀ (s : State) (l : Lane) (t : Nat), (s.lane l).up = true →
    let old := s.lane l
    let key := 0x4E71#16
    let rejects := fun (c : Instr) (n : Nat) => LaneRuns c s l fun L => old.keeps [.regs] L ∧ old.keepsRegs [0x400C0048] L ∧
      L.on Reg.AUX_STAT_CMD_REJ = true ∧ L.rd Reg.AUX_STAT_REJECT = n
    (∀ k : BitVec 16, k ≠ key → ∀ c ∈ [Instr.move l k, .stop l k, .hardstop l k, .home l k t, .clear l k true, .commitTbl l k],
      LaneRuns c s l fun L => old.keeps faultParts L ∧ old.keepsRegs faultRegs L ∧ old.reported L 0x0D04 0xFF) ∧
    (old.homing = true → rejects (.move l key) 1 ∧ rejects (.home l key t) 1) ∧
    (old.homing = false → old.coilFaulted = true → rejects (.move l key) 2 ∧ rejects (.home l key t) 2) ∧
    (old.homing = false → old.coilFaulted = false →
      (old.limited (old.auxDist (old.rdS Reg.AUX_TARGET_TARGET)) = true → rejects (.move l key) 3) ∧
      (old.limited (old.auxDist (old.rdS Reg.AUX_TARGET_TARGET)) = false → old.pwr.auxOn = true → LaneRuns (.move l key) s l fun L =>
        old.keeps [.aux] L ∧ L.aux = { old.aux with wish := if old.aux.stopped then old.aux.wish else some (.move (old.rdS Reg.AUX_TARGET_TARGET)) }) ∧
      (old.auxStill = false → rejects (.home l key t) 4) ∧
      (old.auxStill = true → old.limited old.homeDir = true → rejects (.home l key t) 3) ∧
      (old.auxStill = true → old.limited old.homeDir = false → old.pwr.auxOn = true → LaneRuns (.home l key t) s l fun L =>
        old.keeps [.aux, .time] L ∧ L.aux = { old.aux with wish := if old.aux.stopped then old.aux.wish else some (.home t) })) ∧
    (old.aux.v ≠ 0 → LaneRuns (.stop l key) s l (fun L => old.keeps [.aux, .regs] L ∧ old.keepsRegs [0x400C0048] L ∧
        L.rd Reg.AUX_STAT_STATE = 2 ∧ L.aux.run = .stopping ∧ L.aux.v = old.aux.v ∧ L.aux.stopped = true ∧ L.aux.wish = none ∧
        (old.homing = true → L.rd Reg.AUX_STAT_REF = 0)) ∧
      LaneRuns (.hardstop l key) s l fun L => old.keeps [.aux, .regs] L ∧ old.keepsRegs [0x400C0048] L ∧ L.aux.run = .stopping ∧
        L.aux.halt = true ∧ (old.homing = true → L.rd Reg.AUX_STAT_REF = 0)) ∧
    (old.aux.v = 0 → ∀ c ∈ [Instr.stop l key, .hardstop l key], LaneRuns c s l fun L => old.keeps [.aux, .regs] L ∧
      old.keepsRegs [0x400C0048, 0x400C0050] L ∧ L.aux.run = .idle ∧ L.aux.v = 0 ∧ L.aux.stopped = true ∧ L.aux.wish = none) ∧
    (∀ gone : Bool, LaneRuns (.clear l key gone) s l fun L => old.keeps [.regs] L ∧ old.keepsRegs [0x400C0048, 0x400C005C] L ∧
      L.rd Reg.AUX_STAT_REJECT = 0 ∧ (old.coilFaulted = true → L.coilFaulted = !gone ∧ (gone = true → L.rd Reg.AUX_STAT_STATE = 0))) ∧
    (old.st ≠ stStandby → rejects (.commitTbl l key) 5) ∧
    (old.st = stStandby → microValid old.staged = false → LaneRuns (.commitTbl l key) s l fun L => old.keeps faultParts L ∧
      old.keepsRegs faultRegs L ∧ L.rd Reg.AUX_STAT_REJECT = 6 ∧ old.reported L 0x0F05 0xFF ∧ L.aux.table = old.aux.table) ∧
    (old.st = stStandby → microValid old.staged = true → old.auxStill = false → LaneRuns (.commitTbl l key) s l fun L =>
      old.keeps faultParts L ∧ old.keepsRegs faultRegs L ∧ L.rd Reg.AUX_STAT_REJECT = 4 ∧ old.reported L 0x0F05 0xFF ∧ L.aux.table = old.aux.table) ∧
    (old.st = stStandby → microValid old.staged = true → old.auxStill = true → LaneRuns (.commitTbl l key) s l fun L =>
      old.keeps [.aux, .regs] L ∧ old.keepsRegs [0x400C0048] L ∧
      (old.auxPos % 256 = 0 → L.activeTable = old.staged ∧ L.on Reg.AUX_STAT_TBL_EQ = true) ∧
      (old.auxPos % 256 ≠ 0 → L.aux.table = old.aux.table ∧ L.aux.nextTable = some old.staged))

/-- R434, R436, R437, R438, R439: the planner begins the motion that waits and keeps a motion at or below VMAX, accelerates at ACCEL, brakes at DECEL
down to VSTOP, and ends it on the target; each microstep moves the position by one, wrapping, with the coil currents of the new position; after
THOLD on the target the coils take the STANDSTILL setting. That a motion ends on its target within one period of DECEL is the model's tolerance (log
entry 19). Says where these complete: plannerTick, microstep, standstillEntry. -/
def Obligations.AxisMotion : Prop :=
  ∀ (s : State) (l : Lane) (slice4 : Bool) (t : Nat), (s.lane l).up = true → (s.lane l).pwr.auxOn = true →
    let old := s.lane l
    let vmax := auxV (old.rd Reg.AUX_VMAX_VMAX)
    let vstop := min (auxV (old.rd Reg.AUX_RAMP_V_VSTOP)) vmax
    let d := old.auxDist old.aux.goal
    let sg : Int := if d < 0 then -1 else 1
    let plans := (old.chn.active && slice4) = false
    (old.chn.active = true → slice4 = true → old.aux.run ≠ .home 2 → old.aux.run ≠ .home 5 → LaneRuns (.plannerTick l slice4 t) s l fun L =>
      old.keeps [.time] L) ∧
    (∀ g : Int, plans → old.aux.wish = some (.move g) → old.aux.halt = false → old.limited (old.auxDist g) = false → old.auxDist g ≠ 0 →
      LaneRuns (.plannerTick l slice4 t) s l fun L => old.keeps [.time, .aux, .regs] L ∧ L.aux.run = .move ∧ L.aux.goal = g ∧
        L.aux.wish = none ∧ L.rd Reg.AUX_STAT_STATE = 1 ∧ L.rd Reg.AUX_STAT_COILS = 0 ∧ L.on Reg.AUX_STAT_FREE = false ∧
        (L.aux.ia, L.aux.ib) = old.coils old.auxPos (old.rd Reg.AUX_CUR_IRUN)) ∧
    (∀ u : Nat, plans → old.aux.wish = some (.home u) → old.aux.halt = false → old.auxStill = true → old.limited old.homeDir = false →
      LaneRuns (.plannerTick l slice4 t) s l fun L => old.keeps [.time, .aux, .regs] L ∧ L.aux.run = .home 1 ∧ L.aux.wish = none ∧
        L.rd Reg.AUX_STAT_STATE = 3 ∧ L.rd Reg.AUX_STAT_REF = 0 ∧ L.aux.homeAt = u ∧ L.aux.homeFrom = old.auxPos) ∧
    (plans → old.aux.wish = none → LaneRuns (.plannerTick l slice4 t) s l fun L => old.keeps [.time, .aux, .regs] L ∧
      old.keepsRegs [0x400C0048, 0x400C0050] L ∧ L.aux.stopped = false ∧
      (auxV (old.rd Reg.AUX_MODE_CFG_VQUIET) = 0 ∨ auxV (old.rd Reg.AUX_MODE_CFG_VQUIET) ≤ absN L.aux.v → L.aux.nextStrong = some true) ∧
      (16 * (absN L.aux.v : Int) < 15 * auxV (old.rd Reg.AUX_MODE_CFG_VQUIET) → auxV (old.rd Reg.AUX_MODE_CFG_VQUIET) ≠ 0 →
        (absN L.aux.v : Int) < auxV (old.rd Reg.AUX_MODE_CFG_VQUIET) → L.aux.nextStrong = some false) ∧
      (old.aux.run = .idle → L.aux.v = old.aux.v) ∧
      (old.aux.run = .move →
        ((absN old.aux.v : Int) ≤ vmax → (absN L.aux.v : Int) ≤ vmax) ∧
        (d = 0 → old.aux.v = 0 → L.aux.run = .idle ∧ L.aux.onGoal = true ∧ L.aux.v = 0) ∧
        (d ≠ 0 → old.aux.v = 0 → 0 < old.rd Reg.AUX_RAMP_V_VSTART → L.aux.v = sg * min (auxV (old.rd Reg.AUX_RAMP_V_VSTART)) vmax) ∧
        (0 < sg * old.aux.v → sg * old.aux.v ≤ vmax →
          (vstop < sg * old.aux.v → mustBrake (sg * old.aux.v) vstop (old.rd Reg.AUX_RAMP_A_DECEL : Nat) (absN d) = true →
            L.aux.v = sg * max vstop (sg * old.aux.v - (old.rd Reg.AUX_RAMP_A_DECEL : Nat))) ∧
          (sg * old.aux.v ≤ vstop ∨ mustBrake (sg * old.aux.v) vstop (old.rd Reg.AUX_RAMP_A_DECEL : Nat) (absN d) = false →
            L.aux.v = sg * min vmax (sg * old.aux.v + (old.rd Reg.AUX_RAMP_A_ACCEL : Nat))))) ∧
      (old.aux.run = .stopping → (absN old.aux.v : Int) ≤ auxV (old.rd Reg.AUX_RAMP_V_VSTOP) → L.aux.run = .idle ∧ L.aux.v = 0)) ∧
    (old.aux.v ≠ 0 → old.aux.run ≠ .home 1 → LaneRuns (.microstep l t) s l fun L => old.keeps [.time, .aux, .regs] L ∧
      old.keepsRegs [0x400C0048, 0x400C004C, 0x400C0050] L ∧
      L.auxPos = signedOf 32 (bitsOf 32 (old.auxPos + (if old.aux.v < 0 then -1 else 1))) ∧
      (L.aux.ia, L.aux.ib) = L.coils L.auxPos (old.rd Reg.AUX_CUR_IRUN) ∧
      (old.aux.halt = true → L.aux.v = 0 ∧ L.aux.halt = false) ∧
      (old.aux.halt = false → old.aux.run = .move → L.auxPos = signedOf 32 (bitsOf 32 old.aux.goal) →
        (absN old.aux.v : Int) ≤ auxV (old.rd Reg.AUX_RAMP_V_VSTOP) → L.aux.v = 0 ∧ L.aux.run = .idle ∧ L.aux.onGoal = true) ∧
      (∀ tbl, old.aux.nextTable = some tbl → L.auxPos % 256 = 0 → L.aux.table = some tbl ∧ L.aux.nextTable = none) ∧
      (L.auxPos % 256 ≠ 0 → L.aux.table = old.aux.table)) ∧
    (old.auxStill = true → old.aux.onGoal = true → old.rd Reg.AUX_STAT_COILS = 0 → old.aux.restAt + 10000000 * old.rd Reg.AUX_CUR_THOLD ≤ t →
      LaneRuns (.standstillEntry l t) s l fun L => old.keeps [.time, .aux, .regs] L ∧ old.keepsRegs [0x400C0048] L ∧
        (old.rd Reg.AUX_MODE_CFG_STANDSTILL = 0 → L.rd Reg.AUX_STAT_COILS = 2 ∧
          (L.aux.ia, L.aux.ib) = old.coils old.auxPos ((old.rd Reg.AUX_CUR_IRUN * old.rd Reg.AUX_CUR_IHOLD / 100 : Nat) : Int)) ∧
        (old.rd Reg.AUX_MODE_CFG_STANDSTILL = 1 → L.rd Reg.AUX_STAT_COILS = 1 ∧ L.on Reg.AUX_STAT_FREE = true ∧ L.aux.ia = 0 ∧ L.aux.ib = 0) ∧
        (old.rd Reg.AUX_MODE_CFG_STANDSTILL = 2 → L.rd Reg.AUX_STAT_COILS = 3 ∧ L.aux.ia = 0 ∧ L.aux.ib = 0))

/-- R440 to R443: a transition held 1 ms is accepted; a trip outside homing raises 0x0F01 and stops a motion towards the switch; more than eight
transitions in 100 ms are chatter; homing captures, in its first and fourth phase, the position at the raw transition, backs off and takes the
reference, or fails with 0x0F03 after HOME_TMO; a coil fault takes the coils off, latches FAULT and loses the reference. A disabled input is left
unread (the model's choice, log entry 45). Says where these complete: limitSwitchTransition, homingStopComplete, homingTimeout, coilFault. -/
def Obligations.AxisHomesAndFails : Prop :=
  ∀ (s : State) (l : Lane) (t : Nat), (s.lane l).up = true →
    let old := s.lane l
    let lim := fun (sw : Nat) => if sw = 0 then Reg.AUX_LIM_STAT_LIM1 else Reg.AUX_LIM_STAT_LIM2
    let moves := fun (sw : Nat) => ((if sw = 0 then old.aux.moves1 else old.aux.moves2).filter fun u => decide (t ≤ u + 100000000)).length
    (∀ (sw us : Nat) (high : Bool), us < 1000 → LaneRuns (.limitSwitchTransition l sw high us t) s l fun L => old.keeps [.time] L) ∧
    (∀ (sw us : Nat) (high : Bool), sw < 2 → 1000 ≤ us →
      (if sw = 0 then old.on Reg.AUX_LIM_CFG_EN1 else old.on Reg.AUX_LIM_CFG_EN2) = true →
      let trip := high == (if sw = 0 then old.on Reg.AUX_LIM_CFG_POL1 else old.on Reg.AUX_LIM_CFG_POL2)
      let raw := old.posAt (t - 1000 * us)
      LaneRuns (.limitSwitchTransition l sw high us t) s l fun L => old.keeps (.time :: faultParts) L ∧
        old.keepsRegs ([0x400C0054, 0x400C0058] ++ faultRegs) L ∧ L.on (lim sw) = trip ∧ L.on (lim (1 - sw)) = old.on (lim (1 - sw)) ∧
        (moves sw < 8 → trip = true → old.homing = false → old.reported L 0x0F01 (sw + 1) ∧
          (sw = 0 ∧ old.aux.v < 0 ∨ sw = 1 ∧ 0 < old.aux.v → L.aux.halt = true)) ∧
        (8 ≤ moves sw → trip = false → L.rd Reg.AUX_LIM_STAT_CHATTER = (old.rd Reg.AUX_LIM_STAT_CHATTER + 1) % 2 ^ Reg.AUX_LIM_STAT_CHATTER.w ∧
          old.reported L 0x0F02 (sw + 1)) ∧
        (moves sw < 8 → trip = true → old.rd Reg.AUX_LIM_CFG_HOME_SW = sw →
          (old.aux.run = .home 1 → L.aux.run = .home 2 ∧ L.rdS Reg.AUX_HOME_CAP_P1 = signedOf 32 (bitsOf 32 raw)) ∧
          (old.aux.run = .home 4 → L.aux.run = .home 5 ∧ L.aux.p2 = raw))) ∧
    (old.aux.v = 0 →
      (old.aux.run = .home 2 → LaneRuns (.homingStopComplete l t) s l fun L => old.keeps [.time, .aux] L ∧ L.aux.run = .home 3 ∧
        L.aux.goal = old.auxPos - old.homeDir * old.rd Reg.AUX_HOME_CFG_BACKOFF) ∧
      (old.aux.run = .home 3 → old.aux.onGoal = true → old.homeTripped = false → LaneRuns (.homingStopComplete l t) s l fun L =>
        old.keeps [.time, .aux] L ∧ L.aux.run = .home 4 ∧ L.aux.goal = farGoal old.auxPos old.homeDir) ∧
      (old.aux.run = .home 3 → old.aux.onGoal = true → old.homeTripped = true → LaneRuns (.homingStopComplete l t) s l fun L =>
        old.keeps (.time :: faultParts) L ∧ old.keepsRegs faultRegs L ∧ old.reported L 0x0F03 0xFF ∧ L.rd Reg.AUX_STAT_REF = 0 ∧ L.homing = false) ∧
      (old.aux.run = .home 5 → LaneRuns (.homingStopComplete l t) s l fun L => old.keeps [.time, .aux, .regs] L ∧
        old.keepsRegs [0x400C0048, 0x400C004C, 0x400C0050] L ∧ L.rd Reg.AUX_STAT_REF = 1 ∧ L.aux.run = .idle ∧
        L.auxPos = signedOf 32 (bitsOf 32 (old.rdS Reg.AUX_HOME_OFS_OFS + (old.auxPos - old.aux.p2))))) ∧
    (old.homing = true → old.aux.homeAt + 1000000 * old.rd Reg.AUX_HOME_CFG_TMO ≤ t → LaneRuns (.homingTimeout l t) s l fun L =>
      old.keeps (.time :: faultParts) L ∧ old.keepsRegs faultRegs L ∧ old.reported L 0x0F03 0xFF ∧ L.rd Reg.AUX_STAT_REF = 0 ∧ L.homing = false) ∧
    (∀ coil kind : Nat, old.pwr.auxOn = true → coil < 2 → kind < 2 ∨ kind = 2 ∧ old.on Reg.AUX_STAT_STRONG = true →
      LaneRuns (.coilFault l coil kind t) s l fun L => old.keeps (.time :: faultParts) L ∧ old.keepsRegs (0x400C005C :: faultRegs) L ∧
        L.on ((if coil = 0 then Reg.AUX_COIL_STAT_COIL_A else Reg.AUX_COIL_STAT_COIL_B).bit kind) = true ∧ old.reported L 0x0F04 coil ∧
        L.rd Reg.AUX_STAT_REF = 0 ∧ L.aux.v = 0 ∧ L.aux.run = .idle ∧ L.aux.ia = 0 ∧ L.aux.ib = 0 ∧ L.rd Reg.AUX_STAT_STATE = 4 ∧
        L.rd Reg.AUX_STAT_COILS = 1 ∧ L.on Reg.AUX_STAT_FREE = true)

/-- R114, R115, R117, R119, R128, R139: while nothing disturbs them, and whatever instruction or disturbance comes, Lamb's registers, program counter
and CSRs stay the complement of the lead's, in the control core and in the Shepherd core, because each of Lamb's rules yields the complement of the
lead's result. A disturbed result is not written back. Between instructions the load-value queue and the store compare buffer stay empty. The CSR
set is the model's (log entry 8). Says where these complete: checkedInstruction, interruptTaken. -/
def Obligations.LambHoldsComplements : Prop :=
  (∀ na nb : Word, lambOp .add na nb = na + nb + 1#32 ∧ lambOp .sub na nb = na + ~~~nb ∧ lambOp .and na nb = na ||| nb ∧
    lambOp .or na nb = na &&& nb ∧ lambOp .xor na nb = ~~~(na ^^^ nb) ∧ lambOp .sra na nb = na.sshiftRight ((~~~nb).toNat % 32)) ∧
  (∀ (op : AluOp) (a b : Word), lambOp op (~~~a) (~~~b) = ~~~(leadOp op a b)) ∧
  (∀ (op : BrOp) (a b : Word), lambBr op (~~~a) (~~~b) = leadBr op a b) ∧
  (∀ (op : MulOp) (a b : Word), lambUnit op (~~~a) (~~~b) = ~~~(unitExec op a b)) ∧
  (∀ (op : FpuOp) (rm : Nat) (a b c : Word), lambFpu op rm (~~~a) (~~~b) (~~~c) = (~~~(fpuExec op rm a b c).1, ~~~(fpuExec op rm a b c).2)) ∧
  (∀ (w : Width) (signed : Bool) (x : Word), lambExt w signed (~~~x) = ~~~(leadExt w signed x)) ∧
  (∀ (s : State) (l : Lane) (i : CoreInstr) (u : Upset) (q : IssueIn), (s.lane l).isSplit = false → (s.lane l).core.cpu.complements →
    Runs (.checkedInstruction l .main i u q) s fun t => (t.lane l).core.cpu.complements) ∧
  (∀ (s : State) (l : Lane) (i : CoreInstr) (u : Upset) (q : IssueIn), (s.lane l).core.shep.complements →
    Runs (.checkedInstruction l .shepherd i u q) s fun t => (t.lane l).core.shep.complements) ∧
  (∀ (s : State) (l : Lane) (c : Nat), (s.lane l).isSplit = false → (s.lane l).core.cpu.complements →
    LaneRuns (.interruptTaken l .main c) s l fun L => L.core.cpu.complements) ∧
  (∀ (s t : State), (∀ l, (s.lane l).core.lvq = [] ∧ (s.lane l).core.scb = []) → step s = .next t →
    ∀ l, (t.lane l).core.lvq = [] ∧ (t.lane l).core.scb = [])

/-- R110, R114, R118, R121, R123, R128: what an undisturbed instruction does: an operation writes its register, a load its data, a store its bytes and
nothing else; SC stores only under its reservation; a jump, a taken branch and a trap set the program counter; a halted core does nothing. A store
to a register is the register write. Trap causes and CSRs are those of the RISC-V family (log entry 8). Says where these complete:
checkedInstruction, interruptTaken. -/
def Obligations.CheckedInstructionRuns : Prop :=
  ∀ (s : State) (l : Lane) (i : CoreInstr) (q : IssueIn),
    let old := s.lane l
    let h := old.core.cpu
    let next := fun (len : Nat) (L : LaneSt) => L.core.cpu.pc = h.pc + BitVec.ofNat 32 len ∧ L.core.instret = old.core.instret + 1
    let others := fun (rd : Nat) (L : LaneSt) => ∀ fp n, fp = true ∨ n ≠ rd → L.core.cpu.getX fp n = h.getX fp n
    (old.checks l i →
      (∀ op rd rs1 rs2 len, i = .alu op rd rs1 rs2 len → LaneRuns (.checkedInstruction l .main i .none q) s l fun L => old.keeps [.core] L ∧
        next len L ∧ others rd L ∧ L.core.cpu.getX false rd = (if rd = 0 then 0#32 else leadOp op (h.getX false rs1) (h.getX false rs2))) ∧
      (∀ op rd rs1 rs2 len, i = .muldiv op rd rs1 rs2 len → LaneRuns (.checkedInstruction l .main i .none q) s l fun L => old.keeps [.core] L ∧
        next len L ∧ others rd L ∧ L.core.cpu.getX false rd = (if rd = 0 then 0#32 else unitExec op (h.getX false rs1) (h.getX false rs2))) ∧
      (∀ op rm fd fs1 fs2 fs3 len, i = .fpu op rm fd fs1 fs2 fs3 len → fpuToInt op = false → roundMode rm (h.csrAt 3) ≤ 4 →
        LaneRuns (.checkedInstruction l .main i .none q) s l fun L =>
          let r := fpuExec op (roundMode rm (h.csrAt 3)) (h.getX (!fpuFromInt op) fs1) (h.getX true fs2) (h.getX true fs3)
          old.keeps [.core] L ∧ next len L ∧ L.core.cpu.getX true fd = r.1 ∧ L.core.cpu.csrAt 3 = h.csrAt 3 ||| r.2 ∧
          ∀ fp n, fp = false ∨ n ≠ fd → L.core.cpu.getX fp n = h.getX fp n) ∧
      (∀ op rs1 rs2 off len, i = .branch op rs1 rs2 off len → LaneRuns (.checkedInstruction l .main i .none q) s l fun L => old.keeps [.core] L ∧
        others 0 L ∧ L.core.cpu.pc = h.pc + (if leadBr op (h.getX false rs1) (h.getX false rs2) then off else BitVec.ofNat 32 len)) ∧
      (∀ rd off len, i = .jal rd off len → LaneRuns (.checkedInstruction l .main i .none q) s l fun L => old.keeps [.core] L ∧ others rd L ∧
        L.core.cpu.pc = h.pc + off ∧ (rd ≠ 0 → L.core.cpu.getX false rd = h.pc + BitVec.ofNat 32 len)) ∧
      (∀ w sg rd rs1 off len raw, i = .load w sg rd rs1 off len → isBlock (h.getX false rs1 + off).toNat = false →
        old.busRead w (h.getX false rs1 + off).toNat = some raw → LaneRuns (.checkedInstruction l .main i .none q) s l fun L => old.keeps [.core] L ∧
        next len L ∧ others rd L ∧ (rd ≠ 0 → L.core.cpu.getX false rd = leadExt w sg raw)) ∧
      (∀ w rs1 rs2 off len, i = .store w rs1 rs2 off len →
        let a := (h.getX false rs1 + off).toNat
        (aligned w a = true → isRam a = true → LaneRuns (.checkedInstruction l .main i .none q) s l fun L => old.keeps [.core, .mem] L ∧
          next len L ∧ others 0 L ∧ (∀ b, b < a ∨ a + widthSize w ≤ b → L.byte b = old.byte b) ∧
          ∀ j < widthSize w, L.byte (a + j) = (h.getX false rs2).extractLsb' (8 * j) 8) ∧
        (a % 4 = 0 → w = .word → isRam a = false → isBlock a = true → (rowAt a).isSome = true → inBlock a 0x400E0000 = false →
          Runs (.checkedInstruction l .main i .none q) s fun t => (∀ o, o ≠ l → t.lane o = (s.regWrite l a (h.getX false rs2)).lane o) ∧
            (t.lane l).regs = ((s.regWrite l a (h.getX false rs2)).lane l).regs ∧ next len (t.lane l)) ∧
        (isRam a = false → isBlock a = false → aligned w a = true → LaneRuns (.checkedInstruction l .main i .none q) s l fun L =>
          sameMemory old L ∧ L.core.cpu.csrAt 0x342 = 7#32 ∧ L.core.cpu.csrAt 0x343 = h.getX false rs1 + off)) ∧
      (∀ rd rs1 len, i = .lr rd rs1 len → isSram (h.getX false rs1).toNat = true → (h.getX false rs1).toNat % 4 = 0 →
        LaneRuns (.checkedInstruction l .main i .none q) s l fun L => old.keeps [.core] L ∧ next len L ∧
          L.core.resv = some (h.getX false rs1).toNat ∧ (rd ≠ 0 → L.core.cpu.getX false rd = old.word (h.getX false rs1).toNat)) ∧
      (∀ rd rs1 rs2 len, i = .sc rd rs1 rs2 len → isRam (h.getX false rs1).toNat = true → (h.getX false rs1).toNat % 4 = 0 →
        LaneRuns (.checkedInstruction l .main i .none q) s l fun L => old.keeps [.core, .mem] L ∧ next len L ∧ L.core.resv = none ∧
          (old.core.resv = some (h.getX false rs1).toNat → L.word (h.getX false rs1).toNat = h.getX false rs2 ∧
            (rd ≠ 0 → L.core.cpu.getX false rd = 0#32)) ∧
          (old.core.resv ≠ some (h.getX false rs1).toNat → L.mem = old.mem ∧ (rd ≠ 0 → L.core.cpu.getX false rd = 1#32))) ∧
      (∀ rd rs1 rs2 len, i = .amo .add rd rs1 rs2 len → isRam (h.getX false rs1).toNat = true → (h.getX false rs1).toNat % 4 = 0 →
        LaneRuns (.checkedInstruction l .main i .none q) s l fun L => old.keeps [.core, .mem] L ∧ next len L ∧
          L.word (h.getX false rs1).toNat = old.word (h.getX false rs1).toNat + h.getX false rs2 ∧
          (rd ≠ 0 → L.core.cpu.getX false rd = old.word (h.getX false rs1).toNat)) ∧
      (∀ rd rs1 len, i = .csr .rw rd 0x340 rs1 len → rs1 < 32 → LaneRuns (.checkedInstruction l .main i .none q) s l fun L => old.keeps [.core] L ∧
        next len L ∧ others rd L ∧ L.core.cpu.csrAt 0x340 = h.getX false rs1 ∧ (rd ≠ 0 → L.core.cpu.getX false rd = h.csrAt 0x340)) ∧
      (i = .ecall → LaneRuns (.checkedInstruction l .main i .none q) s l fun L => old.keeps [.core] L ∧ others 0 L ∧
        L.core.cpu.csrAt 0x341 = h.pc ∧ L.core.cpu.csrAt 0x342 = 11#32 ∧ L.core.cpu.pc = h.csrAt 0x305 &&& 0xFFFFFFFC#32 ∧
        (L.core.cpu.csrAt 0x300).getLsbD 3 = false ∧ (L.core.cpu.csrAt 0x300).getLsbD 7 = (h.csrAt 0x300).getLsbD 3) ∧
      (∀ len, i = .mret len → LaneRuns (.checkedInstruction l .main i .none q) s l fun L => old.keeps [.core] L ∧ others 0 L ∧
        L.core.cpu.pc = h.csrAt 0x341 ∧ (L.core.cpu.csrAt 0x300).getLsbD 3 = (h.csrAt 0x300).getLsbD 7)) ∧
    (∀ op rd rs1 rs2 len, i = .alu op rd rs1 rs2 len → old.runs = true → old.isSplit = true → old.core.debug = false →
      LaneRuns (.checkedInstruction l .hart2 i .none q) s l fun L => old.keeps [.core] L ∧ L.core.cpu = h ∧
        L.core.cpu2.pc = old.core.cpu2.pc + BitVec.ofNat 32 len ∧ (rd ≠ 0 → L.core.cpu2.getX false rd =
          leadOp op (old.core.cpu2.getX false rs1) (old.core.cpu2.getX false rs2)) ∧ L.core.retired = old.core.retired) ∧
    (old.isSplit = false → Runs (.checkedInstruction l .hart2 i .none q) s fun t => t = s) ∧
    (∀ op rd rs1 rs2 len, i = .alu op rd rs1 rs2 len → old.runs = true → old.on Reg.MBX_STAT_SHEP_UP = true → old.core.shep.complements →
      LaneRuns (.checkedInstruction l .shepherd i .none q) s l fun L => old.keeps [.core] L ∧ L.core.cpu = h ∧
        L.core.shep.pc = old.core.shep.pc + BitVec.ofNat 32 len ∧ (rd ≠ 0 → L.core.shep.getX false rd =
          leadOp op (old.core.shep.getX false rs1) (old.core.shep.getX false rs2))) ∧
    (∀ u, old.core.halted = true ∨ old.core.debug = true → Runs (.checkedInstruction l .main i u q) s fun t => t = s) ∧
    (∀ c : Nat, old.runs = true → old.core.debug = false → (old.irqPending c && (h.csrAt 0x300).getLsbD 3 && (h.csrAt 0x304).getLsbD c) = true →
      c < 31 → LaneRuns (.interruptTaken l .main c) s l fun L => old.keeps [.core, .sys] L ∧ L.core.cpu.csrAt 0x341 = h.pc ∧
        L.core.cpu.csrAt 0x342 = 0x80000000#32 ||| BitVec.ofNat 32 c ∧ (L.core.cpu.csrAt 0x300).getLsbD 3 = false ∧ others 0 L ∧
        L.core.cpu.pc = (h.csrAt 0x305 &&& 0xFFFFFFFC#32) + (if (h.csrAt 0x305).getLsbD 0 then 4#32 * BitVec.ofNat 32 c else 0#32)) ∧
    (∀ c : Nat, (old.irqPending c && (h.csrAt 0x300).getLsbD 3 && (h.csrAt 0x304).getLsbD c) = false →
      LaneRuns (.interruptTaken l .main c) s l fun L => L = old)

/-- R113, R116, R121 to R124, R129 to R131, R139: a difference between the copies halts both cores with its record, before anything is written or leaves
for the bus; an uncorrectable error takes its exception and halts; a difference in the Shepherd core halts both cores. Says where these complete:
checkedInstruction. -/
def Obligations.MismatchHaltsTheCore : Prop :=
  ∀ (s : State) (l : Lane) (i : CoreInstr) (q : IssueIn), (s.lane l).checks l i →
    let old := s.lane l
    let at1 := fun (rs1 : Nat) (off : Word) => if isBlock (old.core.cpu.getX false rs1 + off).toNat then 8 else 2
    let stops := fun (u : Upset) (id cls diff : Nat) => LaneRuns (.checkedInstruction l .main i u q) s l fun L =>
      old.keeps (.core :: faultParts) L ∧ old.keepsRegs ([0x40110004, 0x40110008, 0x400F0000] ++ faultRegs) L ∧ L.core.cpu = old.core.cpu ∧
      L.core.halted = true ∧ L.core.mismatch = true ∧ L.core.scb = [] ∧ L.on Reg.MBX_STAT_SHEP_UP = false ∧
      L.rd Reg.DBG_MIS_PC_PC = old.core.cpu.pc.toNat ∧ L.rd Reg.DBG_MIS_INFO_SOURCE = id ∧ L.rd Reg.DBG_MIS_INFO_CLASS = cls ∧
      L.rd Reg.DBG_MIS_INFO_DIFF_CNT = diff ∧ old.reported L id 0xFF
    stops .flow 0x0102 (old.classOf i) 0 ∧
    (∀ m : Word, m ≠ 0#32 →
      (∀ op rd rs1 rs2 len, i = .alu op rd rs1 rs2 len → stops (.result m) 0x0101 0 (bitCount m)) ∧
      (∀ op rd rs1 rs2 len, i = .muldiv op rd rs1 rs2 len → stops (.result m) 0x0101 6 (bitCount m)) ∧
      (∀ w rs1 rs2 off len, i = .store w rs1 rs2 off len → stops (.storeAddr m) 0x0103 3 (bitCount m) ∧ stops .storeSize 0x0103 3 0 ∧
        (w = .word → stops (.storeData m) 0x0104 3 (bitCount m))) ∧
      (∀ rd rs1 rs2 len, i = .sc rd rs1 rs2 len → stops (.storeAddr m) 0x0103 4 (bitCount m) ∧ stops (.storeData m) 0x0104 4 (bitCount m)) ∧
      (∀ op rd rs1 rs2 len, i = .amo op rd rs1 rs2 len → stops (.storeAddr m) 0x0103 4 (bitCount m)) ∧
      (∀ rd rs1 len, i = .lr rd rs1 len → stops (.storeAddr m) 0x0103 4 (bitCount m)) ∧
      (∀ w sg rd rs1 off len, i = .load w sg rd rs1 off len → stops (.loadAddr m) 0x0106 (at1 rs1 off) (bitCount m) ∧
        stops .queue 0x0108 (at1 rs1 off) 0 ∧
        ∀ raw, isBlock (old.core.cpu.getX false rs1 + off).toNat = true → old.busRead w (old.core.cpu.getX false rs1 + off).toNat = some raw →
          stops (.periphRead m) 0x0105 8 (bitCount m)) ∧
      (∀ rd rs1 len, i = .csr .rw rd 0x340 rs1 len → rs1 < 32 → rd = 0 → stops (.csrWrite m) 0x0107 5 (bitCount m)) ∧
      (∀ op rd rs1 rs2 len, i = .alu op rd rs1 rs2 len → old.on Reg.MBX_STAT_SHEP_UP = true → old.core.shep.complements →
        LaneRuns (.checkedInstruction l .shepherd i (.result m) q) s l fun L => old.keeps (.core :: faultParts) L ∧ L.core.halted = true ∧
          L.core.cpu = old.core.cpu ∧ L.core.shep = old.core.shep ∧ old.reported L 0x0111 0xFF)) ∧
    (∀ f : Bool, LaneRuns (.checkedInstruction l .main i (.eccDouble f) q) s l fun L => L.core.halted = true ∧
      L.core.mismatch = old.core.mismatch ∧ L.core.cpu.csrAt 0x341 = old.core.cpu.pc ∧ sameMemory old L ∧ old.reported L 0x0109 0xFF ∧
      (f = true ∨ old.readOf i = none → L.core.cpu.csrAt 0x342 = 1#32) ∧
      ∀ cause a, f = false → old.readOf i = some (cause, a) → L.core.cpu.csrAt 0x342 = BitVec.ofNat 32 cause) ∧
    (∀ op rd rs1 rs2 len, i = .alu op rd rs1 rs2 len → LaneRuns (.checkedInstruction l .main i .eccSingle q) s l fun L =>
      old.reported L 0x010A 0xFF ∧ L.core.halted = false ∧ L.core.cpu.pc = old.core.cpu.pc + BitVec.ofNat 32 len)

/-- R131, R136 to R138, R300, R431: the reset after the record restarts core and engines; an open session may halt the core in STANDBY, ARM and FOLD,
otherwise a halt is refused and counted; a debugger's write goes to the lead at once, to Lamb, complemented, when the core resumes; a read gives the
lead's value; bus access reads and writes SRAM, and registers in STANDBY only, other addresses give sberror 2. Says where these complete:
coreResetAfterRecord, debugHaltRequest, debugRegisterWrite, debugResume, debugSingleStep, systemBusAccess. -/
def Obligations.DebuggerSeesTheLead : Prop :=
  ∀ (s : State) (l : Lane), (s.lane l).up = true →
    let old := s.lane l
    (old.fc.resetDue = true ∨ old.core.halted = true → old.fc.queue = [] → old.fc.silentNext = false →
      LaneRuns (.coreResetAfterRecord l) s l fun L => L.core.cpu = { Hart.reset with pc := old.core.entry, npc := ~~~old.core.entry } ∧
        L.core.halted = false ∧ L.core.debug = false ∧ L.core.journal = [] ∧ L.core.retired = old.core.retired ∧
        (∀ a, 0x20000000 ≤ a → L.byte a = old.byte a) ∧
        L.shepMem = old.shepMem ∧ (old.core.mismatch = true → L.on Reg.DBG_CHK_STAT_LAST_MIS = true) ∧ L.fc.resetDue = false ∧ L.aux.v = 0 ∧
        L.on Reg.MBX_STAT_SHEP_UP = false ∧ L.reg 0x400F000C = 0#32 ∧
        (old.fc.thermal = false → old.fc.hold = false → old.isSplit = false → L.mode = 2 ∧ L.rd Reg.AGR_RSYNC_PHASE = 1)) ∧
    (old.fc.queue ≠ [] → LaneRuns (.coreResetAfterRecord l) s l fun L => L = old) ∧
    (old.on Reg.DBG_SESSION_OPEN = false ∨ old.core.halted = true → LaneRuns (.debugHaltRequest l) s l fun L => L = old) ∧
    (old.on Reg.DBG_SESSION_OPEN = true → old.core.halted = false → old.mayHalt l = false → LaneRuns (.debugHaltRequest l) s l fun L =>
      old.keeps [.regs] L ∧ old.keepsRegs [0x4011000C] L ∧
        L.rd Reg.DBG_SESSION_HALT_REFUSED = min (old.rd Reg.DBG_SESSION_HALT_REFUSED + 1) 255) ∧
    (old.mayHalt l = true → old.core.halted = false → old.core.debug = false → LaneRuns (.debugHaltRequest l) s l fun L =>
      old.keeps [.regs, .agr, .com, .core, .fc] L ∧ L.core.cpu = old.core.cpu ∧ L.core.debug = (old.holds l == 0) ∧
      L.core.haltDue = (old.holds l != 0) ∧ (old.fc.hold = false → old.isSplit = false → L.mode = 2)) ∧
    (∀ (r : DbgReg) (v : Word), old.on Reg.DBG_SESSION_OPEN = true → old.core.cmderr = 0 → r ≠ .abstractcs → r ≠ .sbcs →
      (old.core.debug = false ∨ old.core.halted = true → LaneRuns (.debugRegisterWrite l r (some v)) s l fun L => old.keeps [.core] L ∧
        L.core = { old.core with cmderr := 4 }) ∧
      (old.core.debug = true → old.core.halted = false → dbgKnown r true = true →
        (64 ≤ old.core.journal.length → LaneRuns (.debugRegisterWrite l r (some v)) s l fun L => old.keeps [.regs, .core] L ∧
          old.keepsRegs [0x40110010] L ∧ L.core = { old.core with cmderr := 1 } ∧
          L.rd Reg.DBG_JOURNAL_BUSY_CNT = min (old.rd Reg.DBG_JOURNAL_BUSY_CNT + 1) 255) ∧
        (old.core.journal.length < 64 → LaneRuns (.debugRegisterWrite l r (some v)) s l fun L => old.keeps [.core] L ∧
          L.core.journal = old.core.journal ++ [(r, v)] ∧ L.core.cpu.npc = old.core.cpu.npc ∧
          (∀ fp n, L.core.cpu.getN fp n = old.core.cpu.getN fp n) ∧ (∀ k, L.core.cpu.ncsrAt k = old.core.cpu.ncsrAt k) ∧
          (∀ n, r = .x n → n ≠ 0 → L.core.cpu.getX false n = v) ∧ (r = .dpc → L.core.cpu.pc = v))) ∧
      (∀ n, r = .x n → n < 32 → old.core.debug = true → old.core.halted = false →
        LaneRuns (.debugRegisterWrite l r none) s l fun L => L = { old with core := { old.core with data0 := old.core.cpu.getX false n } })) ∧
    (old.core.debug = true → old.core.halted = false → LaneRuns (.debugResume l) s l fun L => old.keeps [.regs, .agr, .com, .core, .fc] L ∧
      L.core.debug = false ∧ L.core.journal = [] ∧ L.rd Reg.DBG_JOURNAL_LAST_COUNT = old.core.journal.length % 128 ∧
      (old.fc.hold = false → old.isSplit = false → L.mode = 2) ∧
      (old.isSplit = false → L.core.cpu = old.core.journal.foldl (fun h e => h.debugLamb e.1 e.2) old.core.cpu)) ∧
    (∀ (h : Hart) (n : Nat) (v : Word), n % 32 ≠ 0 → (h.debugLamb (.x n) v).getN false (n % 32) = ~~~v) ∧
    (∀ op rd rs1 rs2 len, old.runs = true → old.core.debug = true → old.isSplit = false → old.core.journal = [] → old.core.cpu.complements →
      LaneRuns (.debugSingleStep l (.alu op rd rs1 rs2 len)) s l fun L => old.keeps [.core, .regs] L ∧ old.keepsRegs [0x40110010] L ∧
        L.core.debug = true ∧ L.core.cpu.pc = old.core.cpu.pc + BitVec.ofNat 32 len ∧
        (rd ≠ 0 → L.core.cpu.getX false rd = leadOp op (old.core.cpu.getX false rs1) (old.core.cpu.getX false rs2))) ∧
    (∀ (a : Nat) (v : Word),
      let open_ := old.on Reg.DBG_SESSION_OPEN && old.rd Reg.SEC_DBG_STAT_LEVEL == 2
      let ram := (0x20000000 ≤ a ∧ a < 0x20200000) ∨ (0x28000000 ≤ a ∧ a < 0x28010000)
      let block := isBlock a = true ∧ old.st = stStandby ∧ (rowAt a).isSome = true ∧ inBlock a 0x400E0000 = false
      (open_ = true → old.core.sberror = 0 →
        (ram → a % 4 = 0 → LaneRuns (.systemBusAccess l a (some v)) s l fun L => old.keeps [.mem] L ∧ L.word a = v ∧
          ∀ b, b < a ∨ a + 4 ≤ b → L.byte b = old.byte b) ∧
        (ram → a % 4 = 0 → LaneRuns (.systemBusAccess l a none) s l fun L => L = { old with core := { old.core with sbdata := old.word a } }) ∧
        (block → a % 4 = 0 → exec (.systemBusAccess l a (some v)) s = exec (.registerWrite l a v 0#32) s) ∧
        (a % 4 ≠ 0 → LaneRuns (.systemBusAccess l a (some v)) s l fun L => L = { old with core := { old.core with sberror := 3 } }) ∧
        (¬ram → ¬block → a % 4 = 0 → LaneRuns (.systemBusAccess l a (some v)) s l fun L => L = { old with core := { old.core with sberror := 2 } })) ∧
      (open_ = false → Runs (.systemBusAccess l a (some v)) s fun t => t = s))
end

