-- ==== Sys2Proof/Laws/State.lean ====
section
/-! SUPPORT. What each update of a lane leaves alone: one lemma per field and update, true by definition. -/
namespace Sys2Proof.Machine

/-! ### `setReg` -/
@[simp] theorem LaneSt.setReg_snap (L : LaneSt) (a : Nat) (v : Word) : (L.setReg a v).snap = L.snap := rfl
@[simp] theorem LaneSt.setReg_mem (L : LaneSt) (a : Nat) (v : Word) : (L.setReg a v).mem = L.mem := rfl
@[simp] theorem LaneSt.setReg_shepMem (L : LaneSt) (a : Nat) (v : Word) : (L.setReg a v).shepMem = L.shepMem := rfl
@[simp] theorem LaneSt.setReg_time (L : LaneSt) (a : Nat) (v : Word) : (L.setReg a v).time = L.time := rfl
@[simp] theorem LaneSt.setReg_fc (L : LaneSt) (a : Nat) (v : Word) : (L.setReg a v).fc = L.fc := rfl
@[simp] theorem LaneSt.setReg_pwr (L : LaneSt) (a : Nat) (v : Word) : (L.setReg a v).pwr = L.pwr := rfl
@[simp] theorem LaneSt.setReg_sys (L : LaneSt) (a : Nat) (v : Word) : (L.setReg a v).sys = L.sys := rfl
@[simp] theorem LaneSt.setReg_nvm (L : LaneSt) (a : Nat) (v : Word) : (L.setReg a v).nvm = L.nvm := rfl
@[simp] theorem LaneSt.setReg_agr (L : LaneSt) (a : Nat) (v : Word) : (L.setReg a v).agr = L.agr := rfl
@[simp] theorem LaneSt.setReg_meas (L : LaneSt) (a : Nat) (v : Word) : (L.setReg a v).meas = L.meas := rfl
@[simp] theorem LaneSt.setReg_pos (L : LaneSt) (a : Nat) (v : Word) : (L.setReg a v).pos = L.pos := rfl
@[simp] theorem LaneSt.setReg_com (L : LaneSt) (a : Nat) (v : Word) : (L.setReg a v).com = L.com := rfl
@[simp] theorem LaneSt.setReg_safe (L : LaneSt) (a : Nat) (v : Word) : (L.setReg a v).safe = L.safe := rfl
@[simp] theorem LaneSt.setReg_chn (L : LaneSt) (a : Nat) (v : Word) : (L.setReg a v).chn = L.chn := rfl
@[simp] theorem LaneSt.setReg_mbx (L : LaneSt) (a : Nat) (v : Word) : (L.setReg a v).mbx = L.mbx := rfl
@[simp] theorem LaneSt.setReg_sec (L : LaneSt) (a : Nat) (v : Word) : (L.setReg a v).sec = L.sec := rfl
@[simp] theorem LaneSt.setReg_aux (L : LaneSt) (a : Nat) (v : Word) : (L.setReg a v).aux = L.aux := rfl
@[simp] theorem LaneSt.setReg_core (L : LaneSt) (a : Nat) (v : Word) : (L.setReg a v).core = L.core := rfl
@[simp] theorem LaneSt.setReg_flk (L : LaneSt) (a : Nat) (v : Word) : (L.setReg a v).flk = L.flk := rfl
@[simp] theorem LaneSt.setReg_can1 (L : LaneSt) (a : Nat) (v : Word) : (L.setReg a v).can1 = L.can1 := rfl
@[simp] theorem LaneSt.setReg_can2 (L : LaneSt) (a : Nat) (v : Word) : (L.setReg a v).can2 = L.can2 := rfl
@[simp] theorem LaneSt.setReg_free (L : LaneSt) (a : Nat) (v : Word) : (L.setReg a v).free = L.free := rfl

/-! ### `wr` -/
@[simp] theorem LaneSt.wr_snap (L : LaneSt) (f : Fld) (v : Nat) : (L.wr f v).snap = L.snap := rfl
@[simp] theorem LaneSt.wr_mem (L : LaneSt) (f : Fld) (v : Nat) : (L.wr f v).mem = L.mem := rfl
@[simp] theorem LaneSt.wr_shepMem (L : LaneSt) (f : Fld) (v : Nat) : (L.wr f v).shepMem = L.shepMem := rfl
@[simp] theorem LaneSt.wr_time (L : LaneSt) (f : Fld) (v : Nat) : (L.wr f v).time = L.time := rfl
@[simp] theorem LaneSt.wr_fc (L : LaneSt) (f : Fld) (v : Nat) : (L.wr f v).fc = L.fc := rfl
@[simp] theorem LaneSt.wr_pwr (L : LaneSt) (f : Fld) (v : Nat) : (L.wr f v).pwr = L.pwr := rfl
@[simp] theorem LaneSt.wr_sys (L : LaneSt) (f : Fld) (v : Nat) : (L.wr f v).sys = L.sys := rfl
@[simp] theorem LaneSt.wr_nvm (L : LaneSt) (f : Fld) (v : Nat) : (L.wr f v).nvm = L.nvm := rfl
@[simp] theorem LaneSt.wr_agr (L : LaneSt) (f : Fld) (v : Nat) : (L.wr f v).agr = L.agr := rfl
@[simp] theorem LaneSt.wr_meas (L : LaneSt) (f : Fld) (v : Nat) : (L.wr f v).meas = L.meas := rfl
@[simp] theorem LaneSt.wr_pos (L : LaneSt) (f : Fld) (v : Nat) : (L.wr f v).pos = L.pos := rfl
@[simp] theorem LaneSt.wr_com (L : LaneSt) (f : Fld) (v : Nat) : (L.wr f v).com = L.com := rfl
@[simp] theorem LaneSt.wr_safe (L : LaneSt) (f : Fld) (v : Nat) : (L.wr f v).safe = L.safe := rfl
@[simp] theorem LaneSt.wr_chn (L : LaneSt) (f : Fld) (v : Nat) : (L.wr f v).chn = L.chn := rfl
@[simp] theorem LaneSt.wr_mbx (L : LaneSt) (f : Fld) (v : Nat) : (L.wr f v).mbx = L.mbx := rfl
@[simp] theorem LaneSt.wr_sec (L : LaneSt) (f : Fld) (v : Nat) : (L.wr f v).sec = L.sec := rfl
@[simp] theorem LaneSt.wr_aux (L : LaneSt) (f : Fld) (v : Nat) : (L.wr f v).aux = L.aux := rfl
@[simp] theorem LaneSt.wr_core (L : LaneSt) (f : Fld) (v : Nat) : (L.wr f v).core = L.core := rfl
@[simp] theorem LaneSt.wr_flk (L : LaneSt) (f : Fld) (v : Nat) : (L.wr f v).flk = L.flk := rfl
@[simp] theorem LaneSt.wr_can1 (L : LaneSt) (f : Fld) (v : Nat) : (L.wr f v).can1 = L.can1 := rfl
@[simp] theorem LaneSt.wr_can2 (L : LaneSt) (f : Fld) (v : Nat) : (L.wr f v).can2 = L.can2 := rfl
@[simp] theorem LaneSt.wr_free (L : LaneSt) (f : Fld) (v : Nat) : (L.wr f v).free = L.free := rfl

/-! ### `put` -/
@[simp] theorem LaneSt.put_snap (L : LaneSt) (f : Fld) (b : Bool) : (L.put f b).snap = L.snap := rfl
@[simp] theorem LaneSt.put_mem (L : LaneSt) (f : Fld) (b : Bool) : (L.put f b).mem = L.mem := rfl
@[simp] theorem LaneSt.put_shepMem (L : LaneSt) (f : Fld) (b : Bool) : (L.put f b).shepMem = L.shepMem := rfl
@[simp] theorem LaneSt.put_time (L : LaneSt) (f : Fld) (b : Bool) : (L.put f b).time = L.time := rfl
@[simp] theorem LaneSt.put_fc (L : LaneSt) (f : Fld) (b : Bool) : (L.put f b).fc = L.fc := rfl
@[simp] theorem LaneSt.put_pwr (L : LaneSt) (f : Fld) (b : Bool) : (L.put f b).pwr = L.pwr := rfl
@[simp] theorem LaneSt.put_sys (L : LaneSt) (f : Fld) (b : Bool) : (L.put f b).sys = L.sys := rfl
@[simp] theorem LaneSt.put_nvm (L : LaneSt) (f : Fld) (b : Bool) : (L.put f b).nvm = L.nvm := rfl
@[simp] theorem LaneSt.put_agr (L : LaneSt) (f : Fld) (b : Bool) : (L.put f b).agr = L.agr := rfl
@[simp] theorem LaneSt.put_meas (L : LaneSt) (f : Fld) (b : Bool) : (L.put f b).meas = L.meas := rfl
@[simp] theorem LaneSt.put_pos (L : LaneSt) (f : Fld) (b : Bool) : (L.put f b).pos = L.pos := rfl
@[simp] theorem LaneSt.put_com (L : LaneSt) (f : Fld) (b : Bool) : (L.put f b).com = L.com := rfl
@[simp] theorem LaneSt.put_safe (L : LaneSt) (f : Fld) (b : Bool) : (L.put f b).safe = L.safe := rfl
@[simp] theorem LaneSt.put_chn (L : LaneSt) (f : Fld) (b : Bool) : (L.put f b).chn = L.chn := rfl
@[simp] theorem LaneSt.put_mbx (L : LaneSt) (f : Fld) (b : Bool) : (L.put f b).mbx = L.mbx := rfl
@[simp] theorem LaneSt.put_sec (L : LaneSt) (f : Fld) (b : Bool) : (L.put f b).sec = L.sec := rfl
@[simp] theorem LaneSt.put_aux (L : LaneSt) (f : Fld) (b : Bool) : (L.put f b).aux = L.aux := rfl
@[simp] theorem LaneSt.put_core (L : LaneSt) (f : Fld) (b : Bool) : (L.put f b).core = L.core := rfl
@[simp] theorem LaneSt.put_flk (L : LaneSt) (f : Fld) (b : Bool) : (L.put f b).flk = L.flk := rfl
@[simp] theorem LaneSt.put_can1 (L : LaneSt) (f : Fld) (b : Bool) : (L.put f b).can1 = L.can1 := rfl
@[simp] theorem LaneSt.put_can2 (L : LaneSt) (f : Fld) (b : Bool) : (L.put f b).can2 = L.can2 := rfl
@[simp] theorem LaneSt.put_free (L : LaneSt) (f : Fld) (b : Bool) : (L.put f b).free = L.free := rfl

/-! ### `inc` -/
@[simp] theorem LaneSt.inc_snap (L : LaneSt) (f : Fld) (k : Nat) : (L.inc f k).snap = L.snap := rfl
@[simp] theorem LaneSt.inc_mem (L : LaneSt) (f : Fld) (k : Nat) : (L.inc f k).mem = L.mem := rfl
@[simp] theorem LaneSt.inc_shepMem (L : LaneSt) (f : Fld) (k : Nat) : (L.inc f k).shepMem = L.shepMem := rfl
@[simp] theorem LaneSt.inc_time (L : LaneSt) (f : Fld) (k : Nat) : (L.inc f k).time = L.time := rfl
@[simp] theorem LaneSt.inc_fc (L : LaneSt) (f : Fld) (k : Nat) : (L.inc f k).fc = L.fc := rfl
@[simp] theorem LaneSt.inc_pwr (L : LaneSt) (f : Fld) (k : Nat) : (L.inc f k).pwr = L.pwr := rfl
@[simp] theorem LaneSt.inc_sys (L : LaneSt) (f : Fld) (k : Nat) : (L.inc f k).sys = L.sys := rfl
@[simp] theorem LaneSt.inc_nvm (L : LaneSt) (f : Fld) (k : Nat) : (L.inc f k).nvm = L.nvm := rfl
@[simp] theorem LaneSt.inc_agr (L : LaneSt) (f : Fld) (k : Nat) : (L.inc f k).agr = L.agr := rfl
@[simp] theorem LaneSt.inc_meas (L : LaneSt) (f : Fld) (k : Nat) : (L.inc f k).meas = L.meas := rfl
@[simp] theorem LaneSt.inc_pos (L : LaneSt) (f : Fld) (k : Nat) : (L.inc f k).pos = L.pos := rfl
@[simp] theorem LaneSt.inc_com (L : LaneSt) (f : Fld) (k : Nat) : (L.inc f k).com = L.com := rfl
@[simp] theorem LaneSt.inc_safe (L : LaneSt) (f : Fld) (k : Nat) : (L.inc f k).safe = L.safe := rfl
@[simp] theorem LaneSt.inc_chn (L : LaneSt) (f : Fld) (k : Nat) : (L.inc f k).chn = L.chn := rfl
@[simp] theorem LaneSt.inc_mbx (L : LaneSt) (f : Fld) (k : Nat) : (L.inc f k).mbx = L.mbx := rfl
@[simp] theorem LaneSt.inc_sec (L : LaneSt) (f : Fld) (k : Nat) : (L.inc f k).sec = L.sec := rfl
@[simp] theorem LaneSt.inc_aux (L : LaneSt) (f : Fld) (k : Nat) : (L.inc f k).aux = L.aux := rfl
@[simp] theorem LaneSt.inc_core (L : LaneSt) (f : Fld) (k : Nat) : (L.inc f k).core = L.core := rfl
@[simp] theorem LaneSt.inc_flk (L : LaneSt) (f : Fld) (k : Nat) : (L.inc f k).flk = L.flk := rfl
@[simp] theorem LaneSt.inc_can1 (L : LaneSt) (f : Fld) (k : Nat) : (L.inc f k).can1 = L.can1 := rfl
@[simp] theorem LaneSt.inc_can2 (L : LaneSt) (f : Fld) (k : Nat) : (L.inc f k).can2 = L.can2 := rfl
@[simp] theorem LaneSt.inc_free (L : LaneSt) (f : Fld) (k : Nat) : (L.inc f k).free = L.free := rfl

/-! ### `incSat` -/
@[simp] theorem LaneSt.incSat_snap (L : LaneSt) (f : Fld) (k : Nat) : (L.incSat f k).snap = L.snap := rfl
@[simp] theorem LaneSt.incSat_mem (L : LaneSt) (f : Fld) (k : Nat) : (L.incSat f k).mem = L.mem := rfl
@[simp] theorem LaneSt.incSat_shepMem (L : LaneSt) (f : Fld) (k : Nat) : (L.incSat f k).shepMem = L.shepMem := rfl
@[simp] theorem LaneSt.incSat_time (L : LaneSt) (f : Fld) (k : Nat) : (L.incSat f k).time = L.time := rfl
@[simp] theorem LaneSt.incSat_fc (L : LaneSt) (f : Fld) (k : Nat) : (L.incSat f k).fc = L.fc := rfl
@[simp] theorem LaneSt.incSat_pwr (L : LaneSt) (f : Fld) (k : Nat) : (L.incSat f k).pwr = L.pwr := rfl
@[simp] theorem LaneSt.incSat_sys (L : LaneSt) (f : Fld) (k : Nat) : (L.incSat f k).sys = L.sys := rfl
@[simp] theorem LaneSt.incSat_nvm (L : LaneSt) (f : Fld) (k : Nat) : (L.incSat f k).nvm = L.nvm := rfl
@[simp] theorem LaneSt.incSat_agr (L : LaneSt) (f : Fld) (k : Nat) : (L.incSat f k).agr = L.agr := rfl
@[simp] theorem LaneSt.incSat_meas (L : LaneSt) (f : Fld) (k : Nat) : (L.incSat f k).meas = L.meas := rfl
@[simp] theorem LaneSt.incSat_pos (L : LaneSt) (f : Fld) (k : Nat) : (L.incSat f k).pos = L.pos := rfl
@[simp] theorem LaneSt.incSat_com (L : LaneSt) (f : Fld) (k : Nat) : (L.incSat f k).com = L.com := rfl
@[simp] theorem LaneSt.incSat_safe (L : LaneSt) (f : Fld) (k : Nat) : (L.incSat f k).safe = L.safe := rfl
@[simp] theorem LaneSt.incSat_chn (L : LaneSt) (f : Fld) (k : Nat) : (L.incSat f k).chn = L.chn := rfl
@[simp] theorem LaneSt.incSat_mbx (L : LaneSt) (f : Fld) (k : Nat) : (L.incSat f k).mbx = L.mbx := rfl
@[simp] theorem LaneSt.incSat_sec (L : LaneSt) (f : Fld) (k : Nat) : (L.incSat f k).sec = L.sec := rfl
@[simp] theorem LaneSt.incSat_aux (L : LaneSt) (f : Fld) (k : Nat) : (L.incSat f k).aux = L.aux := rfl
@[simp] theorem LaneSt.incSat_core (L : LaneSt) (f : Fld) (k : Nat) : (L.incSat f k).core = L.core := rfl
@[simp] theorem LaneSt.incSat_flk (L : LaneSt) (f : Fld) (k : Nat) : (L.incSat f k).flk = L.flk := rfl
@[simp] theorem LaneSt.incSat_can1 (L : LaneSt) (f : Fld) (k : Nat) : (L.incSat f k).can1 = L.can1 := rfl
@[simp] theorem LaneSt.incSat_can2 (L : LaneSt) (f : Fld) (k : Nat) : (L.incSat f k).can2 = L.can2 := rfl
@[simp] theorem LaneSt.incSat_free (L : LaneSt) (f : Fld) (k : Nat) : (L.incSat f k).free = L.free := rfl

/-! ### `wrS` -/
@[simp] theorem LaneSt.wrS_snap (L : LaneSt) (f : Fld) (i : Int) : (L.wrS f i).snap = L.snap := rfl
@[simp] theorem LaneSt.wrS_mem (L : LaneSt) (f : Fld) (i : Int) : (L.wrS f i).mem = L.mem := rfl
@[simp] theorem LaneSt.wrS_shepMem (L : LaneSt) (f : Fld) (i : Int) : (L.wrS f i).shepMem = L.shepMem := rfl
@[simp] theorem LaneSt.wrS_time (L : LaneSt) (f : Fld) (i : Int) : (L.wrS f i).time = L.time := rfl
@[simp] theorem LaneSt.wrS_fc (L : LaneSt) (f : Fld) (i : Int) : (L.wrS f i).fc = L.fc := rfl
@[simp] theorem LaneSt.wrS_pwr (L : LaneSt) (f : Fld) (i : Int) : (L.wrS f i).pwr = L.pwr := rfl
@[simp] theorem LaneSt.wrS_sys (L : LaneSt) (f : Fld) (i : Int) : (L.wrS f i).sys = L.sys := rfl
@[simp] theorem LaneSt.wrS_nvm (L : LaneSt) (f : Fld) (i : Int) : (L.wrS f i).nvm = L.nvm := rfl
@[simp] theorem LaneSt.wrS_agr (L : LaneSt) (f : Fld) (i : Int) : (L.wrS f i).agr = L.agr := rfl
@[simp] theorem LaneSt.wrS_meas (L : LaneSt) (f : Fld) (i : Int) : (L.wrS f i).meas = L.meas := rfl
@[simp] theorem LaneSt.wrS_pos (L : LaneSt) (f : Fld) (i : Int) : (L.wrS f i).pos = L.pos := rfl
@[simp] theorem LaneSt.wrS_com (L : LaneSt) (f : Fld) (i : Int) : (L.wrS f i).com = L.com := rfl
@[simp] theorem LaneSt.wrS_safe (L : LaneSt) (f : Fld) (i : Int) : (L.wrS f i).safe = L.safe := rfl
@[simp] theorem LaneSt.wrS_chn (L : LaneSt) (f : Fld) (i : Int) : (L.wrS f i).chn = L.chn := rfl
@[simp] theorem LaneSt.wrS_mbx (L : LaneSt) (f : Fld) (i : Int) : (L.wrS f i).mbx = L.mbx := rfl
@[simp] theorem LaneSt.wrS_sec (L : LaneSt) (f : Fld) (i : Int) : (L.wrS f i).sec = L.sec := rfl
@[simp] theorem LaneSt.wrS_aux (L : LaneSt) (f : Fld) (i : Int) : (L.wrS f i).aux = L.aux := rfl
@[simp] theorem LaneSt.wrS_core (L : LaneSt) (f : Fld) (i : Int) : (L.wrS f i).core = L.core := rfl
@[simp] theorem LaneSt.wrS_flk (L : LaneSt) (f : Fld) (i : Int) : (L.wrS f i).flk = L.flk := rfl
@[simp] theorem LaneSt.wrS_can1 (L : LaneSt) (f : Fld) (i : Int) : (L.wrS f i).can1 = L.can1 := rfl
@[simp] theorem LaneSt.wrS_can2 (L : LaneSt) (f : Fld) (i : Int) : (L.wrS f i).can2 = L.can2 := rfl
@[simp] theorem LaneSt.wrS_free (L : LaneSt) (f : Fld) (i : Int) : (L.wrS f i).free = L.free := rfl

/-! ### `freeze` -/
@[simp] theorem LaneSt.freeze_regs (L : LaneSt) (g : Freeze) : (L.freeze g).regs = L.regs := rfl
@[simp] theorem LaneSt.freeze_mem (L : LaneSt) (g : Freeze) : (L.freeze g).mem = L.mem := rfl
@[simp] theorem LaneSt.freeze_shepMem (L : LaneSt) (g : Freeze) : (L.freeze g).shepMem = L.shepMem := rfl
@[simp] theorem LaneSt.freeze_time (L : LaneSt) (g : Freeze) : (L.freeze g).time = L.time := rfl
@[simp] theorem LaneSt.freeze_fc (L : LaneSt) (g : Freeze) : (L.freeze g).fc = L.fc := rfl
@[simp] theorem LaneSt.freeze_pwr (L : LaneSt) (g : Freeze) : (L.freeze g).pwr = L.pwr := rfl
@[simp] theorem LaneSt.freeze_sys (L : LaneSt) (g : Freeze) : (L.freeze g).sys = L.sys := rfl
@[simp] theorem LaneSt.freeze_nvm (L : LaneSt) (g : Freeze) : (L.freeze g).nvm = L.nvm := rfl
@[simp] theorem LaneSt.freeze_agr (L : LaneSt) (g : Freeze) : (L.freeze g).agr = L.agr := rfl
@[simp] theorem LaneSt.freeze_meas (L : LaneSt) (g : Freeze) : (L.freeze g).meas = L.meas := rfl
@[simp] theorem LaneSt.freeze_pos (L : LaneSt) (g : Freeze) : (L.freeze g).pos = L.pos := rfl
@[simp] theorem LaneSt.freeze_com (L : LaneSt) (g : Freeze) : (L.freeze g).com = L.com := rfl
@[simp] theorem LaneSt.freeze_safe (L : LaneSt) (g : Freeze) : (L.freeze g).safe = L.safe := rfl
@[simp] theorem LaneSt.freeze_chn (L : LaneSt) (g : Freeze) : (L.freeze g).chn = L.chn := rfl
@[simp] theorem LaneSt.freeze_mbx (L : LaneSt) (g : Freeze) : (L.freeze g).mbx = L.mbx := rfl
@[simp] theorem LaneSt.freeze_sec (L : LaneSt) (g : Freeze) : (L.freeze g).sec = L.sec := rfl
@[simp] theorem LaneSt.freeze_aux (L : LaneSt) (g : Freeze) : (L.freeze g).aux = L.aux := rfl
@[simp] theorem LaneSt.freeze_core (L : LaneSt) (g : Freeze) : (L.freeze g).core = L.core := rfl
@[simp] theorem LaneSt.freeze_flk (L : LaneSt) (g : Freeze) : (L.freeze g).flk = L.flk := rfl
@[simp] theorem LaneSt.freeze_can1 (L : LaneSt) (g : Freeze) : (L.freeze g).can1 = L.can1 := rfl
@[simp] theorem LaneSt.freeze_can2 (L : LaneSt) (g : Freeze) : (L.freeze g).can2 = L.can2 := rfl
@[simp] theorem LaneSt.freeze_free (L : LaneSt) (g : Freeze) : (L.freeze g).free = L.free := rfl

/-! ### `setByte` -/
@[simp] theorem LaneSt.setByte_regs (L : LaneSt) (a : Nat) (v : Byte) : (L.setByte a v).regs = L.regs := rfl
@[simp] theorem LaneSt.setByte_snap (L : LaneSt) (a : Nat) (v : Byte) : (L.setByte a v).snap = L.snap := rfl
@[simp] theorem LaneSt.setByte_shepMem (L : LaneSt) (a : Nat) (v : Byte) : (L.setByte a v).shepMem = L.shepMem := rfl
@[simp] theorem LaneSt.setByte_time (L : LaneSt) (a : Nat) (v : Byte) : (L.setByte a v).time = L.time := rfl
@[simp] theorem LaneSt.setByte_fc (L : LaneSt) (a : Nat) (v : Byte) : (L.setByte a v).fc = L.fc := rfl
@[simp] theorem LaneSt.setByte_pwr (L : LaneSt) (a : Nat) (v : Byte) : (L.setByte a v).pwr = L.pwr := rfl
@[simp] theorem LaneSt.setByte_sys (L : LaneSt) (a : Nat) (v : Byte) : (L.setByte a v).sys = L.sys := rfl
@[simp] theorem LaneSt.setByte_nvm (L : LaneSt) (a : Nat) (v : Byte) : (L.setByte a v).nvm = L.nvm := rfl
@[simp] theorem LaneSt.setByte_agr (L : LaneSt) (a : Nat) (v : Byte) : (L.setByte a v).agr = L.agr := rfl
@[simp] theorem LaneSt.setByte_meas (L : LaneSt) (a : Nat) (v : Byte) : (L.setByte a v).meas = L.meas := rfl
@[simp] theorem LaneSt.setByte_pos (L : LaneSt) (a : Nat) (v : Byte) : (L.setByte a v).pos = L.pos := rfl
@[simp] theorem LaneSt.setByte_com (L : LaneSt) (a : Nat) (v : Byte) : (L.setByte a v).com = L.com := rfl
@[simp] theorem LaneSt.setByte_safe (L : LaneSt) (a : Nat) (v : Byte) : (L.setByte a v).safe = L.safe := rfl
@[simp] theorem LaneSt.setByte_chn (L : LaneSt) (a : Nat) (v : Byte) : (L.setByte a v).chn = L.chn := rfl
@[simp] theorem LaneSt.setByte_mbx (L : LaneSt) (a : Nat) (v : Byte) : (L.setByte a v).mbx = L.mbx := rfl
@[simp] theorem LaneSt.setByte_sec (L : LaneSt) (a : Nat) (v : Byte) : (L.setByte a v).sec = L.sec := rfl
@[simp] theorem LaneSt.setByte_aux (L : LaneSt) (a : Nat) (v : Byte) : (L.setByte a v).aux = L.aux := rfl
@[simp] theorem LaneSt.setByte_core (L : LaneSt) (a : Nat) (v : Byte) : (L.setByte a v).core = L.core := rfl
@[simp] theorem LaneSt.setByte_flk (L : LaneSt) (a : Nat) (v : Byte) : (L.setByte a v).flk = L.flk := rfl
@[simp] theorem LaneSt.setByte_can1 (L : LaneSt) (a : Nat) (v : Byte) : (L.setByte a v).can1 = L.can1 := rfl
@[simp] theorem LaneSt.setByte_can2 (L : LaneSt) (a : Nat) (v : Byte) : (L.setByte a v).can2 = L.can2 := rfl
@[simp] theorem LaneSt.setByte_free (L : LaneSt) (a : Nat) (v : Byte) : (L.setByte a v).free = L.free := rfl

/-! ### `tick` -/
@[simp] theorem LaneSt.tick_regs (L : LaneSt) (t : Nat) : (L.tick t).regs = L.regs := rfl
@[simp] theorem LaneSt.tick_snap (L : LaneSt) (t : Nat) : (L.tick t).snap = L.snap := rfl
@[simp] theorem LaneSt.tick_mem (L : LaneSt) (t : Nat) : (L.tick t).mem = L.mem := rfl
@[simp] theorem LaneSt.tick_shepMem (L : LaneSt) (t : Nat) : (L.tick t).shepMem = L.shepMem := rfl
@[simp] theorem LaneSt.tick_fc (L : LaneSt) (t : Nat) : (L.tick t).fc = L.fc := rfl
@[simp] theorem LaneSt.tick_pwr (L : LaneSt) (t : Nat) : (L.tick t).pwr = L.pwr := rfl
@[simp] theorem LaneSt.tick_sys (L : LaneSt) (t : Nat) : (L.tick t).sys = L.sys := rfl
@[simp] theorem LaneSt.tick_nvm (L : LaneSt) (t : Nat) : (L.tick t).nvm = L.nvm := rfl
@[simp] theorem LaneSt.tick_agr (L : LaneSt) (t : Nat) : (L.tick t).agr = L.agr := rfl
@[simp] theorem LaneSt.tick_meas (L : LaneSt) (t : Nat) : (L.tick t).meas = L.meas := rfl
@[simp] theorem LaneSt.tick_pos (L : LaneSt) (t : Nat) : (L.tick t).pos = L.pos := rfl
@[simp] theorem LaneSt.tick_com (L : LaneSt) (t : Nat) : (L.tick t).com = L.com := rfl
@[simp] theorem LaneSt.tick_safe (L : LaneSt) (t : Nat) : (L.tick t).safe = L.safe := rfl
@[simp] theorem LaneSt.tick_chn (L : LaneSt) (t : Nat) : (L.tick t).chn = L.chn := rfl
@[simp] theorem LaneSt.tick_mbx (L : LaneSt) (t : Nat) : (L.tick t).mbx = L.mbx := rfl
@[simp] theorem LaneSt.tick_sec (L : LaneSt) (t : Nat) : (L.tick t).sec = L.sec := rfl
@[simp] theorem LaneSt.tick_aux (L : LaneSt) (t : Nat) : (L.tick t).aux = L.aux := rfl
@[simp] theorem LaneSt.tick_core (L : LaneSt) (t : Nat) : (L.tick t).core = L.core := rfl
@[simp] theorem LaneSt.tick_flk (L : LaneSt) (t : Nat) : (L.tick t).flk = L.flk := rfl
@[simp] theorem LaneSt.tick_can1 (L : LaneSt) (t : Nat) : (L.tick t).can1 = L.can1 := rfl
@[simp] theorem LaneSt.tick_can2 (L : LaneSt) (t : Nat) : (L.tick t).can2 = L.can2 := rfl
@[simp] theorem LaneSt.tick_free (L : LaneSt) (t : Nat) : (L.tick t).free = L.free := rfl

/-! ### `updMbx` -/
@[simp] theorem LaneSt.updMbx_regs (L : LaneSt) (f : MbxSt → MbxSt) : (L.updMbx f).regs = L.regs := rfl
@[simp] theorem LaneSt.updMbx_snap (L : LaneSt) (f : MbxSt → MbxSt) : (L.updMbx f).snap = L.snap := rfl
@[simp] theorem LaneSt.updMbx_mem (L : LaneSt) (f : MbxSt → MbxSt) : (L.updMbx f).mem = L.mem := rfl
@[simp] theorem LaneSt.updMbx_shepMem (L : LaneSt) (f : MbxSt → MbxSt) : (L.updMbx f).shepMem = L.shepMem := rfl
@[simp] theorem LaneSt.updMbx_time (L : LaneSt) (f : MbxSt → MbxSt) : (L.updMbx f).time = L.time := rfl
@[simp] theorem LaneSt.updMbx_fc (L : LaneSt) (f : MbxSt → MbxSt) : (L.updMbx f).fc = L.fc := rfl
@[simp] theorem LaneSt.updMbx_pwr (L : LaneSt) (f : MbxSt → MbxSt) : (L.updMbx f).pwr = L.pwr := rfl
@[simp] theorem LaneSt.updMbx_sys (L : LaneSt) (f : MbxSt → MbxSt) : (L.updMbx f).sys = L.sys := rfl
@[simp] theorem LaneSt.updMbx_nvm (L : LaneSt) (f : MbxSt → MbxSt) : (L.updMbx f).nvm = L.nvm := rfl
@[simp] theorem LaneSt.updMbx_agr (L : LaneSt) (f : MbxSt → MbxSt) : (L.updMbx f).agr = L.agr := rfl
@[simp] theorem LaneSt.updMbx_meas (L : LaneSt) (f : MbxSt → MbxSt) : (L.updMbx f).meas = L.meas := rfl
@[simp] theorem LaneSt.updMbx_pos (L : LaneSt) (f : MbxSt → MbxSt) : (L.updMbx f).pos = L.pos := rfl
@[simp] theorem LaneSt.updMbx_com (L : LaneSt) (f : MbxSt → MbxSt) : (L.updMbx f).com = L.com := rfl
@[simp] theorem LaneSt.updMbx_safe (L : LaneSt) (f : MbxSt → MbxSt) : (L.updMbx f).safe = L.safe := rfl
@[simp] theorem LaneSt.updMbx_chn (L : LaneSt) (f : MbxSt → MbxSt) : (L.updMbx f).chn = L.chn := rfl
@[simp] theorem LaneSt.updMbx_sec (L : LaneSt) (f : MbxSt → MbxSt) : (L.updMbx f).sec = L.sec := rfl
@[simp] theorem LaneSt.updMbx_aux (L : LaneSt) (f : MbxSt → MbxSt) : (L.updMbx f).aux = L.aux := rfl
@[simp] theorem LaneSt.updMbx_core (L : LaneSt) (f : MbxSt → MbxSt) : (L.updMbx f).core = L.core := rfl
@[simp] theorem LaneSt.updMbx_flk (L : LaneSt) (f : MbxSt → MbxSt) : (L.updMbx f).flk = L.flk := rfl
@[simp] theorem LaneSt.updMbx_can1 (L : LaneSt) (f : MbxSt → MbxSt) : (L.updMbx f).can1 = L.can1 := rfl
@[simp] theorem LaneSt.updMbx_can2 (L : LaneSt) (f : MbxSt → MbxSt) : (L.updMbx f).can2 = L.can2 := rfl
@[simp] theorem LaneSt.updMbx_free (L : LaneSt) (f : MbxSt → MbxSt) : (L.updMbx f).free = L.free := rfl
@[simp] theorem LaneSt.updMbx_mbx (L : LaneSt) (f : MbxSt → MbxSt) : (L.updMbx f).mbx = f L.mbx := rfl

/-! ### `updSec` -/
@[simp] theorem LaneSt.updSec_regs (L : LaneSt) (f : SecSt → SecSt) : (L.updSec f).regs = L.regs := rfl
@[simp] theorem LaneSt.updSec_snap (L : LaneSt) (f : SecSt → SecSt) : (L.updSec f).snap = L.snap := rfl
@[simp] theorem LaneSt.updSec_mem (L : LaneSt) (f : SecSt → SecSt) : (L.updSec f).mem = L.mem := rfl
@[simp] theorem LaneSt.updSec_shepMem (L : LaneSt) (f : SecSt → SecSt) : (L.updSec f).shepMem = L.shepMem := rfl
@[simp] theorem LaneSt.updSec_time (L : LaneSt) (f : SecSt → SecSt) : (L.updSec f).time = L.time := rfl
@[simp] theorem LaneSt.updSec_fc (L : LaneSt) (f : SecSt → SecSt) : (L.updSec f).fc = L.fc := rfl
@[simp] theorem LaneSt.updSec_pwr (L : LaneSt) (f : SecSt → SecSt) : (L.updSec f).pwr = L.pwr := rfl
@[simp] theorem LaneSt.updSec_sys (L : LaneSt) (f : SecSt → SecSt) : (L.updSec f).sys = L.sys := rfl
@[simp] theorem LaneSt.updSec_nvm (L : LaneSt) (f : SecSt → SecSt) : (L.updSec f).nvm = L.nvm := rfl
@[simp] theorem LaneSt.updSec_agr (L : LaneSt) (f : SecSt → SecSt) : (L.updSec f).agr = L.agr := rfl
@[simp] theorem LaneSt.updSec_meas (L : LaneSt) (f : SecSt → SecSt) : (L.updSec f).meas = L.meas := rfl
@[simp] theorem LaneSt.updSec_pos (L : LaneSt) (f : SecSt → SecSt) : (L.updSec f).pos = L.pos := rfl
@[simp] theorem LaneSt.updSec_com (L : LaneSt) (f : SecSt → SecSt) : (L.updSec f).com = L.com := rfl
@[simp] theorem LaneSt.updSec_safe (L : LaneSt) (f : SecSt → SecSt) : (L.updSec f).safe = L.safe := rfl
@[simp] theorem LaneSt.updSec_chn (L : LaneSt) (f : SecSt → SecSt) : (L.updSec f).chn = L.chn := rfl
@[simp] theorem LaneSt.updSec_mbx (L : LaneSt) (f : SecSt → SecSt) : (L.updSec f).mbx = L.mbx := rfl
@[simp] theorem LaneSt.updSec_aux (L : LaneSt) (f : SecSt → SecSt) : (L.updSec f).aux = L.aux := rfl
@[simp] theorem LaneSt.updSec_core (L : LaneSt) (f : SecSt → SecSt) : (L.updSec f).core = L.core := rfl
@[simp] theorem LaneSt.updSec_flk (L : LaneSt) (f : SecSt → SecSt) : (L.updSec f).flk = L.flk := rfl
@[simp] theorem LaneSt.updSec_can1 (L : LaneSt) (f : SecSt → SecSt) : (L.updSec f).can1 = L.can1 := rfl
@[simp] theorem LaneSt.updSec_can2 (L : LaneSt) (f : SecSt → SecSt) : (L.updSec f).can2 = L.can2 := rfl
@[simp] theorem LaneSt.updSec_free (L : LaneSt) (f : SecSt → SecSt) : (L.updSec f).free = L.free := rfl
@[simp] theorem LaneSt.updSec_sec (L : LaneSt) (f : SecSt → SecSt) : (L.updSec f).sec = f L.sec := rfl

/-! ### `updAgr` -/
@[simp] theorem LaneSt.updAgr_regs (L : LaneSt) (f : AgrSt → AgrSt) : (L.updAgr f).regs = L.regs := rfl
@[simp] theorem LaneSt.updAgr_snap (L : LaneSt) (f : AgrSt → AgrSt) : (L.updAgr f).snap = L.snap := rfl
@[simp] theorem LaneSt.updAgr_mem (L : LaneSt) (f : AgrSt → AgrSt) : (L.updAgr f).mem = L.mem := rfl
@[simp] theorem LaneSt.updAgr_shepMem (L : LaneSt) (f : AgrSt → AgrSt) : (L.updAgr f).shepMem = L.shepMem := rfl
@[simp] theorem LaneSt.updAgr_time (L : LaneSt) (f : AgrSt → AgrSt) : (L.updAgr f).time = L.time := rfl
@[simp] theorem LaneSt.updAgr_fc (L : LaneSt) (f : AgrSt → AgrSt) : (L.updAgr f).fc = L.fc := rfl
@[simp] theorem LaneSt.updAgr_pwr (L : LaneSt) (f : AgrSt → AgrSt) : (L.updAgr f).pwr = L.pwr := rfl
@[simp] theorem LaneSt.updAgr_sys (L : LaneSt) (f : AgrSt → AgrSt) : (L.updAgr f).sys = L.sys := rfl
@[simp] theorem LaneSt.updAgr_nvm (L : LaneSt) (f : AgrSt → AgrSt) : (L.updAgr f).nvm = L.nvm := rfl
@[simp] theorem LaneSt.updAgr_meas (L : LaneSt) (f : AgrSt → AgrSt) : (L.updAgr f).meas = L.meas := rfl
@[simp] theorem LaneSt.updAgr_pos (L : LaneSt) (f : AgrSt → AgrSt) : (L.updAgr f).pos = L.pos := rfl
@[simp] theorem LaneSt.updAgr_com (L : LaneSt) (f : AgrSt → AgrSt) : (L.updAgr f).com = L.com := rfl
@[simp] theorem LaneSt.updAgr_safe (L : LaneSt) (f : AgrSt → AgrSt) : (L.updAgr f).safe = L.safe := rfl
@[simp] theorem LaneSt.updAgr_chn (L : LaneSt) (f : AgrSt → AgrSt) : (L.updAgr f).chn = L.chn := rfl
@[simp] theorem LaneSt.updAgr_mbx (L : LaneSt) (f : AgrSt → AgrSt) : (L.updAgr f).mbx = L.mbx := rfl
@[simp] theorem LaneSt.updAgr_sec (L : LaneSt) (f : AgrSt → AgrSt) : (L.updAgr f).sec = L.sec := rfl
@[simp] theorem LaneSt.updAgr_aux (L : LaneSt) (f : AgrSt → AgrSt) : (L.updAgr f).aux = L.aux := rfl
@[simp] theorem LaneSt.updAgr_core (L : LaneSt) (f : AgrSt → AgrSt) : (L.updAgr f).core = L.core := rfl
@[simp] theorem LaneSt.updAgr_flk (L : LaneSt) (f : AgrSt → AgrSt) : (L.updAgr f).flk = L.flk := rfl
@[simp] theorem LaneSt.updAgr_can1 (L : LaneSt) (f : AgrSt → AgrSt) : (L.updAgr f).can1 = L.can1 := rfl
@[simp] theorem LaneSt.updAgr_can2 (L : LaneSt) (f : AgrSt → AgrSt) : (L.updAgr f).can2 = L.can2 := rfl
@[simp] theorem LaneSt.updAgr_free (L : LaneSt) (f : AgrSt → AgrSt) : (L.updAgr f).free = L.free := rfl
@[simp] theorem LaneSt.updAgr_agr (L : LaneSt) (f : AgrSt → AgrSt) : (L.updAgr f).agr = f L.agr := rfl

/-! ### `updChn` -/
@[simp] theorem LaneSt.updChn_regs (L : LaneSt) (f : ChnSt → ChnSt) : (L.updChn f).regs = L.regs := rfl
@[simp] theorem LaneSt.updChn_snap (L : LaneSt) (f : ChnSt → ChnSt) : (L.updChn f).snap = L.snap := rfl
@[simp] theorem LaneSt.updChn_mem (L : LaneSt) (f : ChnSt → ChnSt) : (L.updChn f).mem = L.mem := rfl
@[simp] theorem LaneSt.updChn_shepMem (L : LaneSt) (f : ChnSt → ChnSt) : (L.updChn f).shepMem = L.shepMem := rfl
@[simp] theorem LaneSt.updChn_time (L : LaneSt) (f : ChnSt → ChnSt) : (L.updChn f).time = L.time := rfl
@[simp] theorem LaneSt.updChn_fc (L : LaneSt) (f : ChnSt → ChnSt) : (L.updChn f).fc = L.fc := rfl
@[simp] theorem LaneSt.updChn_pwr (L : LaneSt) (f : ChnSt → ChnSt) : (L.updChn f).pwr = L.pwr := rfl
@[simp] theorem LaneSt.updChn_sys (L : LaneSt) (f : ChnSt → ChnSt) : (L.updChn f).sys = L.sys := rfl
@[simp] theorem LaneSt.updChn_nvm (L : LaneSt) (f : ChnSt → ChnSt) : (L.updChn f).nvm = L.nvm := rfl
@[simp] theorem LaneSt.updChn_agr (L : LaneSt) (f : ChnSt → ChnSt) : (L.updChn f).agr = L.agr := rfl
@[simp] theorem LaneSt.updChn_meas (L : LaneSt) (f : ChnSt → ChnSt) : (L.updChn f).meas = L.meas := rfl
@[simp] theorem LaneSt.updChn_pos (L : LaneSt) (f : ChnSt → ChnSt) : (L.updChn f).pos = L.pos := rfl
@[simp] theorem LaneSt.updChn_com (L : LaneSt) (f : ChnSt → ChnSt) : (L.updChn f).com = L.com := rfl
@[simp] theorem LaneSt.updChn_safe (L : LaneSt) (f : ChnSt → ChnSt) : (L.updChn f).safe = L.safe := rfl
@[simp] theorem LaneSt.updChn_mbx (L : LaneSt) (f : ChnSt → ChnSt) : (L.updChn f).mbx = L.mbx := rfl
@[simp] theorem LaneSt.updChn_sec (L : LaneSt) (f : ChnSt → ChnSt) : (L.updChn f).sec = L.sec := rfl
@[simp] theorem LaneSt.updChn_aux (L : LaneSt) (f : ChnSt → ChnSt) : (L.updChn f).aux = L.aux := rfl
@[simp] theorem LaneSt.updChn_core (L : LaneSt) (f : ChnSt → ChnSt) : (L.updChn f).core = L.core := rfl
@[simp] theorem LaneSt.updChn_flk (L : LaneSt) (f : ChnSt → ChnSt) : (L.updChn f).flk = L.flk := rfl
@[simp] theorem LaneSt.updChn_can1 (L : LaneSt) (f : ChnSt → ChnSt) : (L.updChn f).can1 = L.can1 := rfl
@[simp] theorem LaneSt.updChn_can2 (L : LaneSt) (f : ChnSt → ChnSt) : (L.updChn f).can2 = L.can2 := rfl
@[simp] theorem LaneSt.updChn_free (L : LaneSt) (f : ChnSt → ChnSt) : (L.updChn f).free = L.free := rfl
@[simp] theorem LaneSt.updChn_chn (L : LaneSt) (f : ChnSt → ChnSt) : (L.updChn f).chn = f L.chn := rfl

/-! ### `updAux` -/
@[simp] theorem LaneSt.updAux_regs (L : LaneSt) (f : AuxSt → AuxSt) : (L.updAux f).regs = L.regs := rfl
@[simp] theorem LaneSt.updAux_snap (L : LaneSt) (f : AuxSt → AuxSt) : (L.updAux f).snap = L.snap := rfl
@[simp] theorem LaneSt.updAux_mem (L : LaneSt) (f : AuxSt → AuxSt) : (L.updAux f).mem = L.mem := rfl
@[simp] theorem LaneSt.updAux_shepMem (L : LaneSt) (f : AuxSt → AuxSt) : (L.updAux f).shepMem = L.shepMem := rfl
@[simp] theorem LaneSt.updAux_time (L : LaneSt) (f : AuxSt → AuxSt) : (L.updAux f).time = L.time := rfl
@[simp] theorem LaneSt.updAux_fc (L : LaneSt) (f : AuxSt → AuxSt) : (L.updAux f).fc = L.fc := rfl
@[simp] theorem LaneSt.updAux_pwr (L : LaneSt) (f : AuxSt → AuxSt) : (L.updAux f).pwr = L.pwr := rfl
@[simp] theorem LaneSt.updAux_sys (L : LaneSt) (f : AuxSt → AuxSt) : (L.updAux f).sys = L.sys := rfl
@[simp] theorem LaneSt.updAux_nvm (L : LaneSt) (f : AuxSt → AuxSt) : (L.updAux f).nvm = L.nvm := rfl
@[simp] theorem LaneSt.updAux_agr (L : LaneSt) (f : AuxSt → AuxSt) : (L.updAux f).agr = L.agr := rfl
@[simp] theorem LaneSt.updAux_meas (L : LaneSt) (f : AuxSt → AuxSt) : (L.updAux f).meas = L.meas := rfl
@[simp] theorem LaneSt.updAux_pos (L : LaneSt) (f : AuxSt → AuxSt) : (L.updAux f).pos = L.pos := rfl
@[simp] theorem LaneSt.updAux_com (L : LaneSt) (f : AuxSt → AuxSt) : (L.updAux f).com = L.com := rfl
@[simp] theorem LaneSt.updAux_safe (L : LaneSt) (f : AuxSt → AuxSt) : (L.updAux f).safe = L.safe := rfl
@[simp] theorem LaneSt.updAux_chn (L : LaneSt) (f : AuxSt → AuxSt) : (L.updAux f).chn = L.chn := rfl
@[simp] theorem LaneSt.updAux_mbx (L : LaneSt) (f : AuxSt → AuxSt) : (L.updAux f).mbx = L.mbx := rfl
@[simp] theorem LaneSt.updAux_sec (L : LaneSt) (f : AuxSt → AuxSt) : (L.updAux f).sec = L.sec := rfl
@[simp] theorem LaneSt.updAux_core (L : LaneSt) (f : AuxSt → AuxSt) : (L.updAux f).core = L.core := rfl
@[simp] theorem LaneSt.updAux_flk (L : LaneSt) (f : AuxSt → AuxSt) : (L.updAux f).flk = L.flk := rfl
@[simp] theorem LaneSt.updAux_can1 (L : LaneSt) (f : AuxSt → AuxSt) : (L.updAux f).can1 = L.can1 := rfl
@[simp] theorem LaneSt.updAux_can2 (L : LaneSt) (f : AuxSt → AuxSt) : (L.updAux f).can2 = L.can2 := rfl
@[simp] theorem LaneSt.updAux_free (L : LaneSt) (f : AuxSt → AuxSt) : (L.updAux f).free = L.free := rfl
@[simp] theorem LaneSt.updAux_aux (L : LaneSt) (f : AuxSt → AuxSt) : (L.updAux f).aux = f L.aux := rfl

/-! ### `updFlk` -/
@[simp] theorem LaneSt.updFlk_regs (L : LaneSt) (f : FlkSt → FlkSt) : (L.updFlk f).regs = L.regs := rfl
@[simp] theorem LaneSt.updFlk_snap (L : LaneSt) (f : FlkSt → FlkSt) : (L.updFlk f).snap = L.snap := rfl
@[simp] theorem LaneSt.updFlk_mem (L : LaneSt) (f : FlkSt → FlkSt) : (L.updFlk f).mem = L.mem := rfl
@[simp] theorem LaneSt.updFlk_shepMem (L : LaneSt) (f : FlkSt → FlkSt) : (L.updFlk f).shepMem = L.shepMem := rfl
@[simp] theorem LaneSt.updFlk_time (L : LaneSt) (f : FlkSt → FlkSt) : (L.updFlk f).time = L.time := rfl
@[simp] theorem LaneSt.updFlk_fc (L : LaneSt) (f : FlkSt → FlkSt) : (L.updFlk f).fc = L.fc := rfl
@[simp] theorem LaneSt.updFlk_pwr (L : LaneSt) (f : FlkSt → FlkSt) : (L.updFlk f).pwr = L.pwr := rfl
@[simp] theorem LaneSt.updFlk_sys (L : LaneSt) (f : FlkSt → FlkSt) : (L.updFlk f).sys = L.sys := rfl
@[simp] theorem LaneSt.updFlk_nvm (L : LaneSt) (f : FlkSt → FlkSt) : (L.updFlk f).nvm = L.nvm := rfl
@[simp] theorem LaneSt.updFlk_agr (L : LaneSt) (f : FlkSt → FlkSt) : (L.updFlk f).agr = L.agr := rfl
@[simp] theorem LaneSt.updFlk_meas (L : LaneSt) (f : FlkSt → FlkSt) : (L.updFlk f).meas = L.meas := rfl
@[simp] theorem LaneSt.updFlk_pos (L : LaneSt) (f : FlkSt → FlkSt) : (L.updFlk f).pos = L.pos := rfl
@[simp] theorem LaneSt.updFlk_com (L : LaneSt) (f : FlkSt → FlkSt) : (L.updFlk f).com = L.com := rfl
@[simp] theorem LaneSt.updFlk_safe (L : LaneSt) (f : FlkSt → FlkSt) : (L.updFlk f).safe = L.safe := rfl
@[simp] theorem LaneSt.updFlk_chn (L : LaneSt) (f : FlkSt → FlkSt) : (L.updFlk f).chn = L.chn := rfl
@[simp] theorem LaneSt.updFlk_mbx (L : LaneSt) (f : FlkSt → FlkSt) : (L.updFlk f).mbx = L.mbx := rfl
@[simp] theorem LaneSt.updFlk_sec (L : LaneSt) (f : FlkSt → FlkSt) : (L.updFlk f).sec = L.sec := rfl
@[simp] theorem LaneSt.updFlk_aux (L : LaneSt) (f : FlkSt → FlkSt) : (L.updFlk f).aux = L.aux := rfl
@[simp] theorem LaneSt.updFlk_core (L : LaneSt) (f : FlkSt → FlkSt) : (L.updFlk f).core = L.core := rfl
@[simp] theorem LaneSt.updFlk_can1 (L : LaneSt) (f : FlkSt → FlkSt) : (L.updFlk f).can1 = L.can1 := rfl
@[simp] theorem LaneSt.updFlk_can2 (L : LaneSt) (f : FlkSt → FlkSt) : (L.updFlk f).can2 = L.can2 := rfl
@[simp] theorem LaneSt.updFlk_free (L : LaneSt) (f : FlkSt → FlkSt) : (L.updFlk f).free = L.free := rfl
@[simp] theorem LaneSt.updFlk_flk (L : LaneSt) (f : FlkSt → FlkSt) : (L.updFlk f).flk = f L.flk := rfl

/-! ### `updCore` -/
@[simp] theorem LaneSt.updCore_regs (L : LaneSt) (f : CoreSt → CoreSt) : (L.updCore f).regs = L.regs := rfl
@[simp] theorem LaneSt.updCore_snap (L : LaneSt) (f : CoreSt → CoreSt) : (L.updCore f).snap = L.snap := rfl
@[simp] theorem LaneSt.updCore_mem (L : LaneSt) (f : CoreSt → CoreSt) : (L.updCore f).mem = L.mem := rfl
@[simp] theorem LaneSt.updCore_shepMem (L : LaneSt) (f : CoreSt → CoreSt) : (L.updCore f).shepMem = L.shepMem := rfl
@[simp] theorem LaneSt.updCore_time (L : LaneSt) (f : CoreSt → CoreSt) : (L.updCore f).time = L.time := rfl
@[simp] theorem LaneSt.updCore_fc (L : LaneSt) (f : CoreSt → CoreSt) : (L.updCore f).fc = L.fc := rfl
@[simp] theorem LaneSt.updCore_pwr (L : LaneSt) (f : CoreSt → CoreSt) : (L.updCore f).pwr = L.pwr := rfl
@[simp] theorem LaneSt.updCore_sys (L : LaneSt) (f : CoreSt → CoreSt) : (L.updCore f).sys = L.sys := rfl
@[simp] theorem LaneSt.updCore_nvm (L : LaneSt) (f : CoreSt → CoreSt) : (L.updCore f).nvm = L.nvm := rfl
@[simp] theorem LaneSt.updCore_agr (L : LaneSt) (f : CoreSt → CoreSt) : (L.updCore f).agr = L.agr := rfl
@[simp] theorem LaneSt.updCore_meas (L : LaneSt) (f : CoreSt → CoreSt) : (L.updCore f).meas = L.meas := rfl
@[simp] theorem LaneSt.updCore_pos (L : LaneSt) (f : CoreSt → CoreSt) : (L.updCore f).pos = L.pos := rfl
@[simp] theorem LaneSt.updCore_com (L : LaneSt) (f : CoreSt → CoreSt) : (L.updCore f).com = L.com := rfl
@[simp] theorem LaneSt.updCore_safe (L : LaneSt) (f : CoreSt → CoreSt) : (L.updCore f).safe = L.safe := rfl
@[simp] theorem LaneSt.updCore_chn (L : LaneSt) (f : CoreSt → CoreSt) : (L.updCore f).chn = L.chn := rfl
@[simp] theorem LaneSt.updCore_mbx (L : LaneSt) (f : CoreSt → CoreSt) : (L.updCore f).mbx = L.mbx := rfl
@[simp] theorem LaneSt.updCore_sec (L : LaneSt) (f : CoreSt → CoreSt) : (L.updCore f).sec = L.sec := rfl
@[simp] theorem LaneSt.updCore_aux (L : LaneSt) (f : CoreSt → CoreSt) : (L.updCore f).aux = L.aux := rfl
@[simp] theorem LaneSt.updCore_flk (L : LaneSt) (f : CoreSt → CoreSt) : (L.updCore f).flk = L.flk := rfl
@[simp] theorem LaneSt.updCore_can1 (L : LaneSt) (f : CoreSt → CoreSt) : (L.updCore f).can1 = L.can1 := rfl
@[simp] theorem LaneSt.updCore_can2 (L : LaneSt) (f : CoreSt → CoreSt) : (L.updCore f).can2 = L.can2 := rfl
@[simp] theorem LaneSt.updCore_free (L : LaneSt) (f : CoreSt → CoreSt) : (L.updCore f).free = L.free := rfl
@[simp] theorem LaneSt.updCore_core (L : LaneSt) (f : CoreSt → CoreSt) : (L.updCore f).core = f L.core := rfl

/-! ### `updPos` -/
@[simp] theorem LaneSt.updPos_regs (L : LaneSt) (f : PosSt → PosSt) : (L.updPos f).regs = L.regs := rfl
@[simp] theorem LaneSt.updPos_snap (L : LaneSt) (f : PosSt → PosSt) : (L.updPos f).snap = L.snap := rfl
@[simp] theorem LaneSt.updPos_mem (L : LaneSt) (f : PosSt → PosSt) : (L.updPos f).mem = L.mem := rfl
@[simp] theorem LaneSt.updPos_shepMem (L : LaneSt) (f : PosSt → PosSt) : (L.updPos f).shepMem = L.shepMem := rfl
@[simp] theorem LaneSt.updPos_time (L : LaneSt) (f : PosSt → PosSt) : (L.updPos f).time = L.time := rfl
@[simp] theorem LaneSt.updPos_fc (L : LaneSt) (f : PosSt → PosSt) : (L.updPos f).fc = L.fc := rfl
@[simp] theorem LaneSt.updPos_pwr (L : LaneSt) (f : PosSt → PosSt) : (L.updPos f).pwr = L.pwr := rfl
@[simp] theorem LaneSt.updPos_sys (L : LaneSt) (f : PosSt → PosSt) : (L.updPos f).sys = L.sys := rfl
@[simp] theorem LaneSt.updPos_nvm (L : LaneSt) (f : PosSt → PosSt) : (L.updPos f).nvm = L.nvm := rfl
@[simp] theorem LaneSt.updPos_agr (L : LaneSt) (f : PosSt → PosSt) : (L.updPos f).agr = L.agr := rfl
@[simp] theorem LaneSt.updPos_meas (L : LaneSt) (f : PosSt → PosSt) : (L.updPos f).meas = L.meas := rfl
@[simp] theorem LaneSt.updPos_com (L : LaneSt) (f : PosSt → PosSt) : (L.updPos f).com = L.com := rfl
@[simp] theorem LaneSt.updPos_safe (L : LaneSt) (f : PosSt → PosSt) : (L.updPos f).safe = L.safe := rfl
@[simp] theorem LaneSt.updPos_chn (L : LaneSt) (f : PosSt → PosSt) : (L.updPos f).chn = L.chn := rfl
@[simp] theorem LaneSt.updPos_mbx (L : LaneSt) (f : PosSt → PosSt) : (L.updPos f).mbx = L.mbx := rfl
@[simp] theorem LaneSt.updPos_sec (L : LaneSt) (f : PosSt → PosSt) : (L.updPos f).sec = L.sec := rfl
@[simp] theorem LaneSt.updPos_aux (L : LaneSt) (f : PosSt → PosSt) : (L.updPos f).aux = L.aux := rfl
@[simp] theorem LaneSt.updPos_core (L : LaneSt) (f : PosSt → PosSt) : (L.updPos f).core = L.core := rfl
@[simp] theorem LaneSt.updPos_flk (L : LaneSt) (f : PosSt → PosSt) : (L.updPos f).flk = L.flk := rfl
@[simp] theorem LaneSt.updPos_can1 (L : LaneSt) (f : PosSt → PosSt) : (L.updPos f).can1 = L.can1 := rfl
@[simp] theorem LaneSt.updPos_can2 (L : LaneSt) (f : PosSt → PosSt) : (L.updPos f).can2 = L.can2 := rfl
@[simp] theorem LaneSt.updPos_free (L : LaneSt) (f : PosSt → PosSt) : (L.updPos f).free = L.free := rfl
@[simp] theorem LaneSt.updPos_pos (L : LaneSt) (f : PosSt → PosSt) : (L.updPos f).pos = f L.pos := rfl

/-! ### `updPwr` -/
@[simp] theorem LaneSt.updPwr_regs (L : LaneSt) (f : PwrSt → PwrSt) : (L.updPwr f).regs = L.regs := rfl
@[simp] theorem LaneSt.updPwr_snap (L : LaneSt) (f : PwrSt → PwrSt) : (L.updPwr f).snap = L.snap := rfl
@[simp] theorem LaneSt.updPwr_mem (L : LaneSt) (f : PwrSt → PwrSt) : (L.updPwr f).mem = L.mem := rfl
@[simp] theorem LaneSt.updPwr_shepMem (L : LaneSt) (f : PwrSt → PwrSt) : (L.updPwr f).shepMem = L.shepMem := rfl
@[simp] theorem LaneSt.updPwr_time (L : LaneSt) (f : PwrSt → PwrSt) : (L.updPwr f).time = L.time := rfl
@[simp] theorem LaneSt.updPwr_fc (L : LaneSt) (f : PwrSt → PwrSt) : (L.updPwr f).fc = L.fc := rfl
@[simp] theorem LaneSt.updPwr_sys (L : LaneSt) (f : PwrSt → PwrSt) : (L.updPwr f).sys = L.sys := rfl
@[simp] theorem LaneSt.updPwr_nvm (L : LaneSt) (f : PwrSt → PwrSt) : (L.updPwr f).nvm = L.nvm := rfl
@[simp] theorem LaneSt.updPwr_agr (L : LaneSt) (f : PwrSt → PwrSt) : (L.updPwr f).agr = L.agr := rfl
@[simp] theorem LaneSt.updPwr_meas (L : LaneSt) (f : PwrSt → PwrSt) : (L.updPwr f).meas = L.meas := rfl
@[simp] theorem LaneSt.updPwr_pos (L : LaneSt) (f : PwrSt → PwrSt) : (L.updPwr f).pos = L.pos := rfl
@[simp] theorem LaneSt.updPwr_com (L : LaneSt) (f : PwrSt → PwrSt) : (L.updPwr f).com = L.com := rfl
@[simp] theorem LaneSt.updPwr_safe (L : LaneSt) (f : PwrSt → PwrSt) : (L.updPwr f).safe = L.safe := rfl
@[simp] theorem LaneSt.updPwr_chn (L : LaneSt) (f : PwrSt → PwrSt) : (L.updPwr f).chn = L.chn := rfl
@[simp] theorem LaneSt.updPwr_mbx (L : LaneSt) (f : PwrSt → PwrSt) : (L.updPwr f).mbx = L.mbx := rfl
@[simp] theorem LaneSt.updPwr_sec (L : LaneSt) (f : PwrSt → PwrSt) : (L.updPwr f).sec = L.sec := rfl
@[simp] theorem LaneSt.updPwr_aux (L : LaneSt) (f : PwrSt → PwrSt) : (L.updPwr f).aux = L.aux := rfl
@[simp] theorem LaneSt.updPwr_core (L : LaneSt) (f : PwrSt → PwrSt) : (L.updPwr f).core = L.core := rfl
@[simp] theorem LaneSt.updPwr_flk (L : LaneSt) (f : PwrSt → PwrSt) : (L.updPwr f).flk = L.flk := rfl
@[simp] theorem LaneSt.updPwr_can1 (L : LaneSt) (f : PwrSt → PwrSt) : (L.updPwr f).can1 = L.can1 := rfl
@[simp] theorem LaneSt.updPwr_can2 (L : LaneSt) (f : PwrSt → PwrSt) : (L.updPwr f).can2 = L.can2 := rfl
@[simp] theorem LaneSt.updPwr_free (L : LaneSt) (f : PwrSt → PwrSt) : (L.updPwr f).free = L.free := rfl
@[simp] theorem LaneSt.updPwr_pwr (L : LaneSt) (f : PwrSt → PwrSt) : (L.updPwr f).pwr = f L.pwr := rfl

/-! ### `updSafe` -/
@[simp] theorem LaneSt.updSafe_regs (L : LaneSt) (f : SafeSt → SafeSt) : (L.updSafe f).regs = L.regs := rfl
@[simp] theorem LaneSt.updSafe_snap (L : LaneSt) (f : SafeSt → SafeSt) : (L.updSafe f).snap = L.snap := rfl
@[simp] theorem LaneSt.updSafe_mem (L : LaneSt) (f : SafeSt → SafeSt) : (L.updSafe f).mem = L.mem := rfl
@[simp] theorem LaneSt.updSafe_shepMem (L : LaneSt) (f : SafeSt → SafeSt) : (L.updSafe f).shepMem = L.shepMem := rfl
@[simp] theorem LaneSt.updSafe_time (L : LaneSt) (f : SafeSt → SafeSt) : (L.updSafe f).time = L.time := rfl
@[simp] theorem LaneSt.updSafe_fc (L : LaneSt) (f : SafeSt → SafeSt) : (L.updSafe f).fc = L.fc := rfl
@[simp] theorem LaneSt.updSafe_pwr (L : LaneSt) (f : SafeSt → SafeSt) : (L.updSafe f).pwr = L.pwr := rfl
@[simp] theorem LaneSt.updSafe_sys (L : LaneSt) (f : SafeSt → SafeSt) : (L.updSafe f).sys = L.sys := rfl
@[simp] theorem LaneSt.updSafe_nvm (L : LaneSt) (f : SafeSt → SafeSt) : (L.updSafe f).nvm = L.nvm := rfl
@[simp] theorem LaneSt.updSafe_agr (L : LaneSt) (f : SafeSt → SafeSt) : (L.updSafe f).agr = L.agr := rfl
@[simp] theorem LaneSt.updSafe_meas (L : LaneSt) (f : SafeSt → SafeSt) : (L.updSafe f).meas = L.meas := rfl
@[simp] theorem LaneSt.updSafe_pos (L : LaneSt) (f : SafeSt → SafeSt) : (L.updSafe f).pos = L.pos := rfl
@[simp] theorem LaneSt.updSafe_com (L : LaneSt) (f : SafeSt → SafeSt) : (L.updSafe f).com = L.com := rfl
@[simp] theorem LaneSt.updSafe_chn (L : LaneSt) (f : SafeSt → SafeSt) : (L.updSafe f).chn = L.chn := rfl
@[simp] theorem LaneSt.updSafe_mbx (L : LaneSt) (f : SafeSt → SafeSt) : (L.updSafe f).mbx = L.mbx := rfl
@[simp] theorem LaneSt.updSafe_sec (L : LaneSt) (f : SafeSt → SafeSt) : (L.updSafe f).sec = L.sec := rfl
@[simp] theorem LaneSt.updSafe_aux (L : LaneSt) (f : SafeSt → SafeSt) : (L.updSafe f).aux = L.aux := rfl
@[simp] theorem LaneSt.updSafe_core (L : LaneSt) (f : SafeSt → SafeSt) : (L.updSafe f).core = L.core := rfl
@[simp] theorem LaneSt.updSafe_flk (L : LaneSt) (f : SafeSt → SafeSt) : (L.updSafe f).flk = L.flk := rfl
@[simp] theorem LaneSt.updSafe_can1 (L : LaneSt) (f : SafeSt → SafeSt) : (L.updSafe f).can1 = L.can1 := rfl
@[simp] theorem LaneSt.updSafe_can2 (L : LaneSt) (f : SafeSt → SafeSt) : (L.updSafe f).can2 = L.can2 := rfl
@[simp] theorem LaneSt.updSafe_free (L : LaneSt) (f : SafeSt → SafeSt) : (L.updSafe f).free = L.free := rfl
@[simp] theorem LaneSt.updSafe_safe (L : LaneSt) (f : SafeSt → SafeSt) : (L.updSafe f).safe = f L.safe := rfl

/-! ### `driveFaultX` -/
@[simp] theorem LaneSt.driveFaultX_regs (L : LaneSt) : (L.driveFaultX).regs = L.regs := rfl
@[simp] theorem LaneSt.driveFaultX_snap (L : LaneSt) : (L.driveFaultX).snap = L.snap := rfl
@[simp] theorem LaneSt.driveFaultX_mem (L : LaneSt) : (L.driveFaultX).mem = L.mem := rfl
@[simp] theorem LaneSt.driveFaultX_shepMem (L : LaneSt) : (L.driveFaultX).shepMem = L.shepMem := rfl
@[simp] theorem LaneSt.driveFaultX_time (L : LaneSt) : (L.driveFaultX).time = L.time := rfl
@[simp] theorem LaneSt.driveFaultX_pwr (L : LaneSt) : (L.driveFaultX).pwr = L.pwr := rfl
@[simp] theorem LaneSt.driveFaultX_sys (L : LaneSt) : (L.driveFaultX).sys = L.sys := rfl
@[simp] theorem LaneSt.driveFaultX_nvm (L : LaneSt) : (L.driveFaultX).nvm = L.nvm := rfl
@[simp] theorem LaneSt.driveFaultX_agr (L : LaneSt) : (L.driveFaultX).agr = L.agr := rfl
@[simp] theorem LaneSt.driveFaultX_meas (L : LaneSt) : (L.driveFaultX).meas = L.meas := rfl
@[simp] theorem LaneSt.driveFaultX_pos (L : LaneSt) : (L.driveFaultX).pos = L.pos := rfl
@[simp] theorem LaneSt.driveFaultX_com (L : LaneSt) : (L.driveFaultX).com = L.com := rfl
@[simp] theorem LaneSt.driveFaultX_safe (L : LaneSt) : (L.driveFaultX).safe = L.safe := rfl
@[simp] theorem LaneSt.driveFaultX_chn (L : LaneSt) : (L.driveFaultX).chn = L.chn := rfl
@[simp] theorem LaneSt.driveFaultX_mbx (L : LaneSt) : (L.driveFaultX).mbx = L.mbx := rfl
@[simp] theorem LaneSt.driveFaultX_sec (L : LaneSt) : (L.driveFaultX).sec = L.sec := rfl
@[simp] theorem LaneSt.driveFaultX_aux (L : LaneSt) : (L.driveFaultX).aux = L.aux := rfl
@[simp] theorem LaneSt.driveFaultX_core (L : LaneSt) : (L.driveFaultX).core = L.core := rfl
@[simp] theorem LaneSt.driveFaultX_flk (L : LaneSt) : (L.driveFaultX).flk = L.flk := rfl
@[simp] theorem LaneSt.driveFaultX_can1 (L : LaneSt) : (L.driveFaultX).can1 = L.can1 := rfl
@[simp] theorem LaneSt.driveFaultX_can2 (L : LaneSt) : (L.driveFaultX).can2 = L.can2 := rfl
@[simp] theorem LaneSt.driveFaultX_free (L : LaneSt) : (L.driveFaultX).free = L.free := rfl

@[simp] theorem LaneSt.tick_time (L : LaneSt) (t : Nat) : (L.tick t).time = max L.time t := rfl

end Sys2Proof.Machine
end

