-- ==== Sys2Proof/Laws/Ops.lean ====
section
/-! SUPPORT. Laws of the named operations: sparse storage, fields of a word, registers, memory, and the parts of the module. -/
namespace Sys2Proof.Machine

/-! ## Three of a kind -/

@[simp] theorem nth_zero {α : Type} (x : Tri α) : nth x 0 = x.a := rfl
@[simp] theorem nth_one {α : Type} (x : Tri α) : nth x 1 = x.b := rfl
@[simp] theorem nth_two {α : Type} (x : Tri α) : nth x 2 = x.c := rfl
@[simp] theorem setNth_zero {α : Type} (x : Tri α) (v : α) : setNth x 0 v = { x with a := v } := rfl
@[simp] theorem setNth_one {α : Type} (x : Tri α) (v : α) : setNth x 1 v = { x with b := v } := rfl
@[simp] theorem setNth_two {α : Type} (x : Tri α) (v : α) : setNth x 2 v = { x with c := v } := rfl

/-! ## Sparse storage -/

section
variable {α : Type} [DecidableEq α] (dflt : Nat → α)

omit [DecidableEq α] in
theorem cellGet_insert_self (a : Nat) (v : α) (m : Cells α) (h : ∀ e ∈ m, e.1 ≠ a) :
    cellGet dflt (cellInsert a v m) a = v := by
  induction m with
  | nil => simp [cellInsert, cellGet]
  | cons e m ih =>
    obtain ⟨b, x⟩ := e
    have hb : b ≠ a := h (b, x) (by simp)
    have hm : ∀ e ∈ m, e.1 ≠ a := fun e he => h e (by simp [he])
    unfold cellInsert
    split
    · simp [cellGet]
    · simp [cellGet, Ne.symm hb, ih hm]

omit [DecidableEq α] in
theorem cellGet_insert_ne (a b : Nat) (v : α) (m : Cells α) (h : b ≠ a) :
    cellGet dflt (cellInsert a v m) b = cellGet dflt m b := by
  induction m with
  | nil => simp [cellInsert, cellGet, h]
  | cons e m ih =>
    obtain ⟨c, x⟩ := e
    unfold cellInsert
    split
    · simp [cellGet, h]
    · simp [cellGet, ih]

omit [DecidableEq α] in
theorem cellGet_filter_ne (a b : Nat) (m : Cells α) (h : b ≠ a) :
    cellGet dflt (m.filter fun e => e.1 ≠ a) b = cellGet dflt m b := by
  induction m with
  | nil => rfl
  | cons e m ih =>
    obtain ⟨c, x⟩ := e
    by_cases hc : c = a
    · subst hc; simp [cellGet, h] at *; exact ih
    · simp [hc, cellGet] at *; rw [ih]

omit [DecidableEq α] in
theorem cellGet_filter_self (a : Nat) (m : Cells α) : cellGet dflt (m.filter fun e => e.1 ≠ a) a = dflt a := by
  induction m with
  | nil => rfl
  | cons e m ih =>
    obtain ⟨c, x⟩ := e
    by_cases hc : c = a
    · subst hc; simp at *; exact ih
    · simp [hc, cellGet, Ne.symm hc] at *; exact ih

/-- A read after a write to the same address gives the value written. -/
@[simp] theorem cellGet_put_self (m : Cells α) (a : Nat) (v : α) : cellGet dflt (cellPut dflt m a v) a = v := by
  unfold cellPut
  split
  · rename_i h; rw [cellGet_filter_self, h]
  · exact cellGet_insert_self dflt a v _ (by simp)

/-- A write leaves every other address alone. -/
theorem cellGet_put_ne (m : Cells α) (a b : Nat) (v : α) (h : b ≠ a) :
    cellGet dflt (cellPut dflt m a v) b = cellGet dflt m b := by
  unfold cellPut
  split
  · exact cellGet_filter_ne dflt a b m h
  · rw [cellGet_insert_ne dflt a b v _ h, cellGet_filter_ne dflt a b m h]

/-- The head of a canonical list lies below the address `a`, or the list is empty. -/
def headAbove (a : Nat) : Cells α → Bool
  | [] => true
  | (b, _) :: _ => decide (a < b)

omit [DecidableEq α] in
theorem headAbove_trans {a b : Nat} {m : Cells α} (h : a ≤ b) (hm : headAbove b m = true) : headAbove a m = true := by
  cases m with
  | nil => rfl
  | cons e m => simp [headAbove] at *; omega

theorem cellsWf_cons (a : Nat) (v : α) (m : Cells α) :
    cellsWf dflt ((a, v) :: m) = (decide (v ≠ dflt a) && headAbove a m && cellsWf dflt m) := by
  cases m <;> simp [cellsWf, headAbove]

theorem headAbove_filter {a : Nat} {m : Cells α} (p : Nat × α → Bool) (hw : cellsWf dflt m = true)
    (h : headAbove a m = true) : headAbove a (m.filter p) = true := by
  induction m generalizing a with
  | nil => rfl
  | cons e m ih =>
    obtain ⟨b, x⟩ := e
    rw [cellsWf_cons] at hw
    simp only [Bool.and_eq_true] at hw
    by_cases hp : p (b, x) = true
    · simpa [List.filter_cons, hp, headAbove] using h
    · simp only [List.filter_cons, hp]
      refine ih hw.2 ?_
      exact headAbove_trans (by simp [headAbove] at h; omega) hw.1.2

/-- Leaving entries out keeps the canonical form. -/
theorem cellsWf_filter {m : Cells α} (p : Nat × α → Bool) (hw : cellsWf dflt m = true) :
    cellsWf dflt (m.filter p) = true := by
  induction m with
  | nil => rfl
  | cons e m ih =>
    obtain ⟨b, x⟩ := e
    rw [cellsWf_cons] at hw
    simp only [Bool.and_eq_true] at hw
    by_cases hp : p (b, x) = true
    · simp only [List.filter_cons, hp, if_true]
      rw [cellsWf_cons]
      simp only [Bool.and_eq_true]
      exact ⟨⟨hw.1.1, headAbove_filter dflt p hw.2 hw.1.2⟩, ih hw.2⟩
    · simp only [List.filter_cons, hp]
      exact ih hw.2

omit [DecidableEq α] in
theorem headAbove_insert {b a : Nat} {v : α} {m : Cells α} (h : b < a) (hm : headAbove b m = true) :
    headAbove b (cellInsert a v m) = true := by
  cases m with
  | nil => simp [cellInsert, headAbove, h]
  | cons e m =>
    obtain ⟨c, x⟩ := e
    unfold cellInsert
    split
    · simp [headAbove, h]
    · simpa [headAbove] using hm

theorem cellsWf_insert {m : Cells α} (a : Nat) (v : α) (hv : v ≠ dflt a) (hn : ∀ e ∈ m, e.1 ≠ a)
    (hw : cellsWf dflt m = true) : cellsWf dflt (cellInsert a v m) = true := by
  induction m with
  | nil => simp [cellInsert, cellsWf, hv]
  | cons e m ih =>
    obtain ⟨b, x⟩ := e
    have hb : b ≠ a := hn (b, x) (by simp)
    have hw' := hw
    rw [cellsWf_cons] at hw'
    simp only [Bool.and_eq_true] at hw'
    unfold cellInsert
    split
    · rename_i hab
      rw [cellsWf_cons]
      simp only [Bool.and_eq_true, decide_eq_true_eq]
      exact ⟨⟨hv, by simp [headAbove, hab]⟩, hw⟩
    · rw [cellsWf_cons]
      simp only [Bool.and_eq_true]
      exact ⟨⟨hw'.1.1, headAbove_insert (by omega) hw'.1.2⟩, ih (fun e he => hn e (by simp [he])) hw'.2⟩

/-- A write keeps the canonical form. -/
theorem cellsWf_put {m : Cells α} (a : Nat) (v : α) (hw : cellsWf dflt m = true) :
    cellsWf dflt (cellPut dflt m a v) = true := by
  unfold cellPut
  split
  · exact cellsWf_filter dflt _ hw
  · rename_i h
    exact cellsWf_insert dflt a v h (by simp) (cellsWf_filter dflt _ hw)

end

/-! ## Fields of a word -/

theorem Fld.mask_bit (f : Fld) (i : Nat) (h : i < 32) :
    f.mask.getLsbD i = (decide (f.lo ≤ i) && decide (i < f.lo + f.w)) := by
  simp only [Fld.mask, BitVec.getLsbD_shiftLeft, BitVec.getLsbD_ofNat, Nat.testBit_two_pow_sub_one]
  by_cases hl : f.lo ≤ i
  · have : (i - f.lo < f.w) ↔ (i < f.lo + f.w) := by omega
    simp [h, hl, this, show i - f.lo < 32 by omega, Nat.not_lt.mpr hl]
  · simp [hl, Nat.lt_of_not_le hl]

/-- The bits of a word after a field was written. -/
theorem Fld.set_bit (f : Fld) (x : Word) (v i : Nat) (h : i < 32) :
    (f.set x v).getLsbD i = if f.lo ≤ i ∧ i < f.lo + f.w then v.testBit (i - f.lo) else x.getLsbD i := by
  simp only [Fld.set, BitVec.getLsbD_or, BitVec.getLsbD_and, BitVec.getLsbD_not, BitVec.getLsbD_shiftLeft,
    BitVec.getLsbD_ofNat, Fld.mask_bit f i h, Nat.testBit_mod_two_pow]
  by_cases hl : f.lo ≤ i
  · by_cases hw : i < f.lo + f.w
    · simp [h, hl, hw, show i - f.lo < f.w by omega, show i - f.lo < 32 by omega, Nat.not_lt.mpr hl]
    · simp only [h, hl, hw, show ¬ i - f.lo < f.w by omega]; simp
  · simp only [h, hl, Nat.lt_of_not_le hl]; simp

theorem Fld.get_bit (f : Fld) (x : Word) (i : Nat) :
    (f.get x).testBit i = (decide (i < f.w) && x.getLsbD (f.lo + i)) := by
  simp [Fld.get, Nat.testBit_mod_two_pow, BitVec.getLsbD]

/-- A field read after it was written: the value, cut to the field's width. -/
theorem Fld.get_set_self (f : Fld) (x : Word) (v : Nat) (h : f.lo + f.w ≤ 32) : f.get (f.set x v) = v % 2 ^ f.w := by
  apply Nat.eq_of_testBit_eq
  intro i
  rw [Fld.get_bit, Nat.testBit_mod_two_pow]
  by_cases hi : i < f.w
  · rw [Fld.set_bit _ _ _ _ (by omega), if_pos (by omega), Nat.add_sub_cancel_left]
  · simp [hi]

/-- A field keeps its value when another field of the same word is written. -/
theorem Fld.get_set_other (f g : Fld) (x : Word) (v : Nat) (h : f.lo + f.w ≤ g.lo ∨ g.lo + g.w ≤ f.lo) :
    g.get (f.set x v) = g.get x := by
  apply Nat.eq_of_testBit_eq
  intro i
  rw [Fld.get_bit, Fld.get_bit]
  by_cases hi : i < g.w
  · by_cases h32 : g.lo + i < 32
    · rw [Fld.set_bit _ _ _ _ h32, if_neg (by omega)]
    · rw [BitVec.getLsbD_of_ge _ _ (by omega), BitVec.getLsbD_of_ge _ _ (by omega)]
  · simp [hi]

/-! ## Registers -/

@[simp] theorem LaneSt.reg_setReg_self (L : LaneSt) (a : Nat) (v : Word) : (L.setReg a v).reg a = v := by
  simp [LaneSt.reg, LaneSt.setReg]

theorem LaneSt.reg_setReg_ne (L : LaneSt) (a b : Nat) (v : Word) (h : b ≠ a) : (L.setReg a v).reg b = L.reg b := by
  simp [LaneSt.reg, LaneSt.setReg, cellGet_put_ne _ _ _ _ _ h]

/-- Any field after a register was written. -/
@[simp] theorem LaneSt.rd_setReg (L : LaneSt) (a : Nat) (v : Word) (g : Fld) :
    (L.setReg a v).rd g = if g.addr = a then g.get v else L.rd g := by
  by_cases h : g.addr = a
  · simp [LaneSt.rd, h]
  · simp [LaneSt.rd, h, LaneSt.reg_setReg_ne _ _ _ _ h]

/-- A field after itself was written. -/
theorem LaneSt.rd_wr_self (L : LaneSt) (f : Fld) (v : Nat) (h : f.lo + f.w ≤ 32) : (L.wr f v).rd f = v % 2 ^ f.w := by
  simp [LaneSt.wr, Fld.get_set_self _ _ _ h]

/-- A field of another register, or another field of the same one. -/
theorem LaneSt.rd_wr_other (L : LaneSt) (f g : Fld) (v : Nat)
    (h : g.addr ≠ f.addr ∨ f.lo + f.w ≤ g.lo ∨ g.lo + g.w ≤ f.lo) : (L.wr f v).rd g = L.rd g := by
  by_cases ha : g.addr = f.addr
  · have h' := h.resolve_left (by simp [ha])
    simp [LaneSt.wr, ha, Fld.get_set_other _ _ _ _ h', LaneSt.rd]
  · simp [LaneSt.wr, ha]

/-- Two fields lie apart: different registers, or no common bit. -/
abbrev Fld.apart (f g : Fld) : Bool :=
  decide (g.addr ≠ f.addr) || decide (f.lo + f.w ≤ g.lo) || decide (g.lo + g.w ≤ f.lo)

theorem LaneSt.rd_wr_apart (L : LaneSt) (f g : Fld) (v : Nat) (h : f.apart g = true) : (L.wr f v).rd g = L.rd g := by
  apply LaneSt.rd_wr_other
  simp [Fld.apart] at h
  rcases h with (h | h) | h <;> simp [h]

theorem LaneSt.rd_put_self (L : LaneSt) (f : Fld) (b : Bool) (h : f.lo + f.w ≤ 32) (hw : 0 < f.w) :
    (L.put f b).rd f = if b then 1 else 0 := by
  rw [LaneSt.put, LaneSt.rd_wr_self _ _ _ h]
  have : 1 < 2 ^ f.w := Nat.one_lt_two_pow (by omega)
  cases b <;> simp [Nat.mod_eq_of_lt this]

theorem LaneSt.on_put_self (L : LaneSt) (f : Fld) (b : Bool) (h : f.lo + f.w ≤ 32) (hw : 0 < f.w) :
    (L.put f b).on f = b := by
  simp only [LaneSt.on, LaneSt.rd_put_self L f b h hw]
  cases b <;> rfl

/-- Lanes with the same registers read the same. -/
theorem LaneSt.rd_congr {L M : LaneSt} (h : L.regs = M.regs) (f : Fld) : L.rd f = M.rd f := by
  simp [LaneSt.rd, LaneSt.reg, h]

/-! ## Memory -/

@[simp] theorem LaneSt.byte_setByte_self (L : LaneSt) (a : Nat) (v : Byte) : (L.setByte a v).byte a = v := by
  simp [LaneSt.byte, LaneSt.setByte]

theorem LaneSt.byte_setByte_ne (L : LaneSt) (a b : Nat) (v : Byte) (h : b ≠ a) : (L.setByte a v).byte b = L.byte b := by
  simp [LaneSt.byte, LaneSt.setByte, cellGet_put_ne _ _ _ _ _ h]

/-- Bytes outside a stored run keep their values. -/
theorem LaneSt.byte_setBytes_out (L : LaneSt) (a : Nat) (bs : List Byte) (b : Nat) (h : b < a ∨ a + bs.length ≤ b) :
    (L.setBytes a bs).byte b = L.byte b := by
  induction bs generalizing L a with
  | nil => rfl
  | cons x bs ih =>
    simp only [LaneSt.setBytes]
    rw [ih (L.setByte a x) (a + 1) (by simp at h; omega), LaneSt.byte_setByte_ne _ _ _ _ (by simp at h; omega)]

theorem LaneSt.wf_setByte (L : LaneSt) (a : Nat) (v : Byte) (h : L.wf = true) : (L.setByte a v).wf = true := by
  simp only [LaneSt.wf, Bool.and_eq_true] at *
  exact ⟨⟨⟨cellsWf_put _ _ _ h.1.1.1, h.1.1.2⟩, h.1.2⟩, h.2⟩

theorem LaneSt.wf_setBytes (L : LaneSt) (a : Nat) (bs : List Byte) (h : L.wf = true) : (L.setBytes a bs).wf = true := by
  induction bs generalizing L a with
  | nil => exact h
  | cons x bs ih => exact ih _ _ (L.wf_setByte a x h)

theorem LaneSt.wf_setReg (L : LaneSt) (a : Nat) (v : Word) (h : L.wf = true) : (L.setReg a v).wf = true := by
  simp only [LaneSt.wf, Bool.and_eq_true] at *
  exact ⟨⟨h.1.1, cellsWf_put _ _ _ h.1.2⟩, h.2⟩

theorem LaneSt.wf_wr (L : LaneSt) (f : Fld) (v : Nat) (h : L.wf = true) : (L.wr f v).wf = true := L.wf_setReg _ _ h

theorem LaneSt.wf_freeze (L : LaneSt) (g : Freeze) (h : L.wf = true) : (L.freeze g).wf = true := by
  simp only [LaneSt.wf, Bool.and_eq_true] at *
  refine ⟨h.1, ?_⟩
  have hk : cellsWf resetWord (L.snap.filter fun e => freezeOf e.1 ≠ g) = true := cellsWf_filter _ _ h.2
  simp only [LaneSt.freeze]
  generalize (L.regs.filter fun e => freezeOf e.1 = g) = now
  generalize (L.snap.filter fun e => freezeOf e.1 ≠ g) = keep at hk
  induction now generalizing keep with
  | nil => exact hk
  | cons e now ih => exact ih _ (cellsWf_put _ _ _ hk)

/-! ## The parts of the module -/

theorem laneIx_lt (l : Lane) : laneIx l < 3 := by cases l <;> decide

@[simp] theorem State.lane_updLane_self (s : State) (l : Lane) (f : LaneSt → LaneSt) : (s.updLane l f).lane l = f (s.lane l) := by
  cases l <;> rfl

theorem State.lane_updLane_ne (s : State) (l o : Lane) (f : LaneSt → LaneSt) (h : o ≠ l) : (s.updLane l f).lane o = s.lane o := by
  cases l <;> cases o <;> first | rfl | exact absurd rfl h

@[simp] theorem State.updLane_stages (s : State) (l : Lane) (f : LaneSt → LaneSt) : (s.updLane l f).stages = s.stages := rfl
@[simp] theorem State.updLane_gX (s : State) (l : Lane) (f : LaneSt → LaneSt) : (s.updLane l f).gX = s.gX := rfl
@[simp] theorem State.updLane_gY (s : State) (l : Lane) (f : LaneSt → LaneSt) : (s.updLane l f).gY = s.gY := rfl
@[simp] theorem State.updLane_pending (s : State) (l : Lane) (f : LaneSt → LaneSt) : (s.updLane l f).pending = s.pending := rfl

@[simp] theorem State.stage_updStage_self (s : State) (g : Stg) (f : StageSt → StageSt) : (s.updStage g f).stage g = f (s.stage g) := by
  cases g <;> rfl

theorem State.stage_updStage_ne (s : State) (g o : Stg) (f : StageSt → StageSt) (h : o ≠ g) : (s.updStage g f).stage o = s.stage o := by
  cases g <;> cases o <;> first | rfl | exact absurd rfl h

@[simp] theorem State.updStage_lanes (s : State) (g : Stg) (f : StageSt → StageSt) : (s.updStage g f).lanes = s.lanes := rfl
@[simp] theorem State.updStage_gX (s : State) (g : Stg) (f : StageSt → StageSt) : (s.updStage g f).gX = s.gX := rfl
@[simp] theorem State.updStage_gY (s : State) (g : Stg) (f : StageSt → StageSt) : (s.updStage g f).gY = s.gY := rfl
@[simp] theorem State.updStage_pending (s : State) (g : Stg) (f : StageSt → StageSt) : (s.updStage g f).pending = s.pending := rfl
@[simp] theorem State.lane_updStage (s : State) (g : Stg) (f : StageSt → StageSt) (l : Lane) : (s.updStage g f).lane l = s.lane l := rfl
@[simp] theorem State.stage_updLane (s : State) (l : Lane) (f : LaneSt → LaneSt) (g : Stg) : (s.updLane l f).stage g = s.stage g := rfl

@[simp] theorem State.gdn_updGdn_self (s : State) (g : Gdn) (f : GuardianSt → GuardianSt) : (s.updGdn g f).gdn g = f (s.gdn g) := by
  cases g <;> rfl
@[simp] theorem State.lane_updGdn (s : State) (g : Gdn) (f : GuardianSt → GuardianSt) (l : Lane) : (s.updGdn g f).lane l = s.lane l := by
  cases g <;> rfl
@[simp] theorem State.updGdn_stages (s : State) (g : Gdn) (f : GuardianSt → GuardianSt) : (s.updGdn g f).stages = s.stages := by
  cases g <;> rfl
@[simp] theorem State.updGdn_pending (s : State) (g : Gdn) (f : GuardianSt → GuardianSt) : (s.updGdn g f).pending = s.pending := by
  cases g <;> rfl

/-- A command on a powered lane. -/
theorem onLane_up (l : Lane) (t : Nat) (s : State) (f : LaneSt → LaneSt) (h : (s.lane l).up = true) :
    onLane l t s f = .next (s.updLane l fun L => f (L.tick t)) := by
  cases l <;> simp_all [onLane, State.updLane, State.lane, laneIx, updNth]

theorem onLaneNow_up (l : Lane) (s : State) (f : LaneSt → LaneSt) (h : (s.lane l).up = true) :
    onLaneNow l s f = .next (s.updLane l f) := by
  cases l <;> simp_all [onLaneNow, State.updLane, State.lane, laneIx, updNth]

/-- An unpowered lane takes no command. -/
theorem onLane_down (l : Lane) (t : Nat) (s : State) (f : LaneSt → LaneSt) (h : (s.lane l).up = false) :
    onLane l t s f = .next s := by
  cases l <;> simp_all [onLane, State.updLane, State.lane, laneIx, updNth]

end Sys2Proof.Machine
end

