-- ==== Sys2Proof/Laws/Frame.lean ====
section
/-! SUPPORT. Frames: for each operation on a lane, the parts of the lane that it can change. Each also keeps the
    canonical form of
the lane's storage. -/
namespace Sys2Proof.Machine

/-- Only the parts `ps` can differ, and storage in canonical form stays so. -/
def LaneSt.frame (ps : List Part) (L M : LaneSt) : Prop := LaneSt.keeps  ps L M ∧ (L.wf = true → M.wf = true)

/-- Nothing changed. -/
theorem LaneSt.frame_refl (ps : List Part) (L : LaneSt) : L.frame ps L := by
  refine ⟨?_, fun h => h⟩
  intro p _; cases p <;> rfl

/-- One change after another. -/
theorem LaneSt.frame_step {ps qs : List Part} {L M N : LaneSt} (h : M.frame qs N)
    (hs : (qs.all fun p => ps.contains p) = true) (h1 : L.frame ps M) : L.frame ps N := by
  refine ⟨fun p hp => ?_, fun w => h.2 (h1.2 w)⟩
  have hq : p ∉ qs := fun h => hp (by simpa using List.all_eq_true.mp hs p h)
  have a := h1.1 p hp
  have b := h.1 p hq
  cases p <;> exact b.trans a

/-- Fewer changes than named. -/
theorem LaneSt.frame_mono {ps qs : List Part} {L M : LaneSt} (h : L.frame qs M)
    (hs : (qs.all fun p => ps.contains p) = true) : L.frame ps M :=
  LaneSt.frame_step h hs (L.frame_refl ps)

theorem LaneSt.frame_ite {ps : List Part} {c : Prop} [Decidable c] {L M N : LaneSt} (h : L.frame ps M) (h' : L.frame
    ps N) :
    L.frame ps (if c then M else N) := by
  split <;> assumption

theorem LaneSt.frame_for3 {ps : List Part} {f : Nat → LaneSt → LaneSt} (h : ∀ (i : Nat) (M : LaneSt), M.frame ps (f i
    M)) (L : LaneSt) :
    L.frame ps (for3 f L) := by
  have hs : (ps.all fun p => ps.contains p) = true := by simp
  exact LaneSt.frame_step (h 2 _) hs (frame_step (h 1 _) hs (h 0 L))

theorem LaneSt.frame_foldl {α : Type} {ps : List Part} {f : LaneSt → α → LaneSt} (h : ∀ (M : LaneSt) (x : α), M.frame
    ps (f M x))
    (l : List α) (L : LaneSt) : L.frame ps (l.foldl f L) := by
  have hs : (ps.all fun p => ps.contains p) = true := by simp
  induction l generalizing L with
  | nil => exact L.frame_refl ps
  | cons x l ih => exact LaneSt.frame_step (ih (f L x)) hs (h L x)

theorem LaneSt.frame_forN {ps : List Part} {f : Nat → LaneSt → LaneSt} (h : ∀ (i : Nat) (M : LaneSt), M.frame ps (f i
    M)) (n : Nat)
    (L : LaneSt) : L.frame ps (forN n f L) := LaneSt.frame_foldl (fun M i => h i M) _ L

/-- Two changes within the same parts. -/
theorem LaneSt.frame_seq {ps : List Part} {L M N : LaneSt} (h : M.frame ps N) (h1 : L.frame ps M) : L.frame ps N :=
  LaneSt.frame_step h (by simp) h1

theorem LaneSt.frame_agr (L : LaneSt) (x0 : AgrSt) :
    L.frame [.agr] { L with agr := x0 } := by
  refine ⟨?_, fun h => h⟩; intro p hp; cases p <;> first | rfl | simp at hp

theorem LaneSt.frame_aux (L : LaneSt) (x0 : AuxSt) :
    L.frame [.aux] { L with aux := x0 } := by
  refine ⟨?_, fun h => h⟩; intro p hp; cases p <;> first | rfl | simp at hp

theorem LaneSt.frame_can1 (L : LaneSt) (x0 : CanSt) :
    L.frame [.can1] { L with can1 := x0 } := by
  refine ⟨?_, fun h => h⟩; intro p hp; cases p <;> first | rfl | simp at hp

theorem LaneSt.frame_can2 (L : LaneSt) (x0 : CanSt) :
    L.frame [.can2] { L with can2 := x0 } := by
  refine ⟨?_, fun h => h⟩; intro p hp; cases p <;> first | rfl | simp at hp

theorem LaneSt.frame_chn (L : LaneSt) (x0 : ChnSt) :
    L.frame [.chn] { L with chn := x0 } := by
  refine ⟨?_, fun h => h⟩; intro p hp; cases p <;> first | rfl | simp at hp

theorem LaneSt.frame_com (L : LaneSt) (x0 : ComSt) :
    L.frame [.com] { L with com := x0 } := by
  refine ⟨?_, fun h => h⟩; intro p hp; cases p <;> first | rfl | simp at hp

theorem LaneSt.frame_core (L : LaneSt) (x0 : CoreSt) :
    L.frame [.core] { L with core := x0 } := by
  refine ⟨?_, fun h => h⟩; intro p hp; cases p <;> first | rfl | simp at hp

theorem LaneSt.frame_fc (L : LaneSt) (x0 : FcSt) :
    L.frame [.fc] { L with fc := x0 } := by
  refine ⟨?_, fun h => h⟩; intro p hp; cases p <;> first | rfl | simp at hp

theorem LaneSt.frame_flk (L : LaneSt) (x0 : FlkSt) :
    L.frame [.flk] { L with flk := x0 } := by
  refine ⟨?_, fun h => h⟩; intro p hp; cases p <;> first | rfl | simp at hp

theorem LaneSt.frame_free (L : LaneSt) (x0 : Nat) :
    L.frame [.free] { L with free := x0 } := by
  refine ⟨?_, fun h => h⟩; intro p hp; cases p <;> first | rfl | simp at hp

theorem LaneSt.frame_mbx (L : LaneSt) (x0 : MbxSt) :
    L.frame [.mbx] { L with mbx := x0 } := by
  refine ⟨?_, fun h => h⟩; intro p hp; cases p <;> first | rfl | simp at hp

theorem LaneSt.frame_meas (L : LaneSt) (x0 : MeasSt) :
    L.frame [.meas] { L with meas := x0 } := by
  refine ⟨?_, fun h => h⟩; intro p hp; cases p <;> first | rfl | simp at hp

theorem LaneSt.frame_nvm (L : LaneSt) (x0 : NvmSt) :
    L.frame [.nvm] { L with nvm := x0 } := by
  refine ⟨?_, fun h => h⟩; intro p hp; cases p <;> first | rfl | simp at hp

theorem LaneSt.frame_pos (L : LaneSt) (x0 : PosSt) :
    L.frame [.pos] { L with pos := x0 } := by
  refine ⟨?_, fun h => h⟩; intro p hp; cases p <;> first | rfl | simp at hp

theorem LaneSt.frame_pwr (L : LaneSt) (x0 : PwrSt) :
    L.frame [.pwr] { L with pwr := x0 } := by
  refine ⟨?_, fun h => h⟩; intro p hp; cases p <;> first | rfl | simp at hp

theorem LaneSt.frame_safe (L : LaneSt) (x0 : SafeSt) :
    L.frame [.safe] { L with safe := x0 } := by
  refine ⟨?_, fun h => h⟩; intro p hp; cases p <;> first | rfl | simp at hp

theorem LaneSt.frame_sec (L : LaneSt) (x0 : SecSt) :
    L.frame [.sec] { L with sec := x0 } := by
  refine ⟨?_, fun h => h⟩; intro p hp; cases p <;> first | rfl | simp at hp

theorem LaneSt.frame_sys (L : LaneSt) (x0 : SysSt) :
    L.frame [.sys] { L with sys := x0 } := by
  refine ⟨?_, fun h => h⟩; intro p hp; cases p <;> first | rfl | simp at hp

theorem LaneSt.frame_time (L : LaneSt) (x0 : Nat) :
    L.frame [.time] { L with time := x0 } := by
  refine ⟨?_, fun h => h⟩; intro p hp; cases p <;> first | rfl | simp at hp

theorem LaneSt.frame_fc_agr (L : LaneSt) (x0 : FcSt) (x1 : AgrSt) :
    L.frame [.fc, .agr] { L with fc := x0, agr := x1 } := by
  refine ⟨?_, fun h => h⟩; intro p hp; cases p <;> first | rfl | simp at hp

theorem LaneSt.frame_fc_sys (L : LaneSt) (x0 : FcSt) (x1 : SysSt) :
    L.frame [.fc, .sys] { L with fc := x0, sys := x1 } := by
  refine ⟨?_, fun h => h⟩; intro p hp; cases p <;> first | rfl | simp at hp

theorem LaneSt.frame_mbx_core (L : LaneSt) (x0 : MbxSt) (x1 : CoreSt) :
    L.frame [.mbx, .core] { L with mbx := x0, core := x1 } := by
  refine ⟨?_, fun h => h⟩; intro p hp; cases p <;> first | rfl | simp at hp

theorem LaneSt.frame_meas_pos (L : LaneSt) (x0 : MeasSt) (x1 : PosSt) :
    L.frame [.meas, .pos] { L with meas := x0, pos := x1 } := by
  refine ⟨?_, fun h => h⟩; intro p hp; cases p <;> first | rfl | simp at hp

theorem LaneSt.frame_nvm_com (L : LaneSt) (x0 : NvmSt) (x1 : ComSt) :
    L.frame [.nvm, .com] { L with nvm := x0, com := x1 } := by
  refine ⟨?_, fun h => h⟩; intro p hp; cases p <;> first | rfl | simp at hp

theorem LaneSt.frame_pwr_sys (L : LaneSt) (x0 : PwrSt) (x1 : SysSt) :
    L.frame [.pwr, .sys] { L with pwr := x0, sys := x1 } := by
  refine ⟨?_, fun h => h⟩; intro p hp; cases p <;> first | rfl | simp at hp

theorem LaneSt.frame_sys_safe (L : LaneSt) (x0 : SysSt) (x1 : SafeSt) :
    L.frame [.sys, .safe] { L with sys := x0, safe := x1 } := by
  refine ⟨?_, fun h => h⟩; intro p hp; cases p <;> first | rfl | simp at hp

theorem LaneSt.frame_time_can1_can2 (L : LaneSt) (x0 : Nat) (x1 : CanSt) (x2 : CanSt) :
    L.frame [.time, .can1, .can2] { L with time := x0, can1 := x1, can2 := x2 } := by
  refine ⟨?_, fun h => h⟩; intro p hp; cases p <;> first | rfl | simp at hp

theorem LaneSt.frame_fc_pwr_sys_aux (L : LaneSt) (x0 : FcSt) (x1 : PwrSt) (x2 : SysSt) (x3 : AuxSt) :
    L.frame [.fc, .pwr, .sys, .aux] { L with fc := x0, pwr := x1, sys := x2, aux := x3 } := by
  refine ⟨?_, fun h => h⟩; intro p hp; cases p <;> first | rfl | simp at hp

theorem LaneSt.frame_fc_pwr_sys_nvm_safe (L : LaneSt) (x0 : FcSt) (x1 : PwrSt) (x2 : SysSt) (x3 : NvmSt) (x4 : SafeSt) :
    L.frame [.fc, .pwr, .sys, .nvm, .safe] { L with fc := x0, pwr := x1, sys := x2, nvm := x3, safe := x4 } := by
  refine ⟨?_, fun h => h⟩; intro p hp; cases p <;> first | rfl | simp at hp

theorem LaneSt.setByte_frame (L : LaneSt) (a : Nat) (v : Byte) : L.frame [.mem] (L.setByte a v) :=
  ⟨fun p hp => by cases p <;> first | rfl | simp at hp, L.wf_setByte a v⟩

theorem LaneSt.updSafe_frame (L : LaneSt) (f : SafeSt → SafeSt) :
    L.frame [.safe] (LaneSt.updSafe L f) := by
  unfold LaneSt.updSafe
  exact (frame_step (frame_safe _ _) (by decide) (frame_refl _ _))

theorem LaneSt.dropSs1_frame (L : LaneSt) (m : Nat) :
    L.frame [.safe] (LaneSt.dropSs1 L m) := by
  unfold LaneSt.dropSs1
  exact (frame_seq (frame_for3 (fun _ _ => (by (try dsimp only); split; exact (frame_ite (frame_step (updSafe_frame _ _) (by decide) (frame_refl _ _)) (frame_refl _ _)); exact (frame_refl _ _))) _) (frame_refl _ _))

theorem LaneSt.updPos_frame (L : LaneSt) (f : PosSt → PosSt) :
    L.frame [.pos] (LaneSt.updPos L f) := by
  unfold LaneSt.updPos
  exact (frame_step (frame_pos _ _) (by decide) (frame_refl _ _))

theorem LaneSt.setReg_frame (L : LaneSt) (a : Nat) (v : Word) : L.frame [.regs] (L.setReg a v) :=
  ⟨fun p hp => by cases p <;> first | rfl | simp at hp, L.wf_setReg a v⟩

theorem LaneSt.wr_frame (L : LaneSt) (f : Fld) (v : Nat) :
    L.frame [.regs] (LaneSt.wr L f v) := by
  unfold LaneSt.wr
  exact (frame_step (setReg_frame _ _ _) (by decide) (frame_refl _ _))

theorem LaneSt.inc_frame (L : LaneSt) (f : Fld) (k : Nat) :
    L.frame [.regs] (LaneSt.inc L f k) := by
  unfold LaneSt.inc
  exact (frame_step (wr_frame _ _ _) (by decide) (frame_refl _ _))

theorem LaneSt.put_frame (L : LaneSt) (f : Fld) (b : Bool) :
    L.frame [.regs] (LaneSt.put L f b) := by
  unfold LaneSt.put
  exact (frame_step (wr_frame _ _ _) (by decide) (frame_refl _ _))

theorem LaneSt.incSat_frame (L : LaneSt) (f : Fld) (k : Nat) :
    L.frame [.regs] (LaneSt.incSat L f k) := by
  unfold LaneSt.incSat
  exact (frame_step (wr_frame _ _ _) (by decide) (frame_refl _ _))

theorem LaneSt.latchFirst_frame (L : LaneSt) (id : Nat) (d : Nat) (r : Nat) :
    L.frame [.regs] (LaneSt.latchFirst L id d r) := by
  unfold LaneSt.latchFirst
  exact (frame_ite (frame_step (put_frame _ _ _) (by decide) (frame_refl _ _)) (frame_step (wr_frame _ _ _) (by
      decide) (frame_step (wr_frame _ _ _) (by decide) (frame_step (wr_frame _ _ _) (by decide) (frame_step (wr_frame
      _ _ _) (by decide) (frame_step (wr_frame _ _ _) (by decide) (frame_step (put_frame _ _ _) (by decide)
      (frame_refl _ _))))))))

theorem LaneSt.zeroClaims_frame (L : LaneSt) (m : Nat) (why : Nat) :
    L.frame [.regs] (LaneSt.zeroClaims L m why) := by
  unfold LaneSt.zeroClaims
  exact (frame_step (wr_frame _ _ _) (by decide) (frame_seq (frame_for3 (fun _ _ => (frame_ite (frame_step (wr_frame _
      _ _) (by decide) (frame_refl _ _)) (frame_refl _ _))) _) (frame_refl _ _)))

theorem LaneSt.reactL2_frame (L : LaneSt) (id : Nat) (d : Nat) :
    L.frame [.regs, .fc] (LaneSt.reactL2 L id d) := by
  unfold LaneSt.reactL2
  exact (frame_ite (frame_step (frame_fc _ _) (by decide) (frame_step (zeroClaims_frame _ _ _) (by decide) (frame_refl
      _ _))) (frame_refl _ _))

theorem LaneSt.driveCoils_frame (L : LaneSt) (cur : Int) :
    L.frame [.aux] (LaneSt.driveCoils L cur) := by
  unfold LaneSt.driveCoils
  exact (frame_step (frame_aux _ _) (by decide) (frame_refl _ _))

theorem LaneSt.holdCoils_frame (L : LaneSt) :
    L.frame [.regs, .aux] (LaneSt.holdCoils L) := by
  unfold LaneSt.holdCoils
  exact (frame_step (driveCoils_frame _ _) (by decide) (frame_step (wr_frame _ _ _) (by decide) (frame_refl _ _)))

theorem LaneSt.auxAbort_frame (L : LaneSt) (hold : Bool) :
    L.frame [.regs, .aux] (LaneSt.auxAbort L hold) := by
  unfold LaneSt.auxAbort
  exact (frame_ite (frame_step (frame_aux _ _) (by decide) (frame_seq (frame_ite (frame_refl _ _) (frame_step
      (holdCoils_frame _) (by decide) (frame_refl _ _))) (frame_step (wr_frame _ _ _) (by decide) (frame_step
      (wr_frame _ _ _) (by decide) (frame_refl _ _))))) (frame_step (frame_aux _ _) (by decide) (frame_seq (frame_step
      (wr_frame _ _ _) (by decide) (frame_step (put_frame _ _ _) (by decide) (frame_step (wr_frame _ _ _) (by decide)
      (frame_refl _ _)))) (frame_step (wr_frame _ _ _) (by decide) (frame_step (wr_frame _ _ _) (by decide)
      (frame_refl _ _))))))

theorem LaneSt.reactL3_frame (L : LaneSt) (id : Nat) :
    L.frame [.regs, .fc, .aux] (LaneSt.reactL3 L id) := by
  unfold LaneSt.reactL3
  exact (frame_step (frame_fc _ _) (by decide) (frame_step (auxAbort_frame _ _) (by decide) (frame_step
      (zeroClaims_frame _ _ _) (by decide) (frame_refl _ _))))

theorem LaneSt.reactL4_frame (L : LaneSt) :
    L.frame [.fc, .sys] (LaneSt.reactL4 L) := by
  unfold LaneSt.reactL4
  exact (frame_step (frame_fc_sys _ _ _) (by decide) (frame_refl _ _))

theorem LaneSt.queueRecord_frame (L : LaneSt) (id : Nat) (d : Nat) (r : Nat) :
    L.frame [.regs, .fc] (LaneSt.queueRecord L id d r) := by
  unfold LaneSt.queueRecord
  exact (frame_ite (frame_step (wr_frame _ _ _) (by decide) (frame_step (frame_fc _ _) (by decide) (frame_refl _ _)))
      (frame_step (incSat_frame _ _ _) (by decide) (frame_refl _ _)))

theorem LaneSt.react_frame (L : LaneSt) (id : Nat) (d : Nat) (r : Nat) :
    L.frame [.regs, .fc, .sys, .aux] (LaneSt.react L id d r) := by
  unfold LaneSt.react
  exact (frame_ite (frame_step (queueRecord_frame _ _ _ _) (by decide) (frame_seq (frame_ite (frame_step
      (reactL4_frame _) (by decide) (frame_refl _ _)) (frame_refl _ _)) (frame_seq (frame_ite (frame_step
      (reactL3_frame _ _) (by decide) (frame_refl _ _)) (frame_refl _ _)) (frame_seq (frame_ite (frame_step
      (reactL2_frame _ _ _) (by decide) (frame_refl _ _)) (frame_refl _ _)) (frame_step (frame_fc _ _) (by decide)
      (frame_refl _ _)))))) (frame_seq (frame_ite (frame_step (reactL4_frame _) (by decide) (frame_refl _ _))
      (frame_refl _ _)) (frame_seq (frame_ite (frame_step (reactL3_frame _ _) (by decide) (frame_refl _ _))
      (frame_refl _ _)) (frame_seq (frame_ite (frame_step (reactL2_frame _ _ _) (by decide) (frame_refl _ _))
      (frame_refl _ _)) (frame_step (frame_fc _ _) (by decide) (frame_refl _ _))))))

theorem LaneSt.openClass_frame (L : LaneSt) (c : Nat) (r : Nat) :
    L.frame [.regs] (LaneSt.openClass L c r) := by
  unfold LaneSt.openClass
  exact (frame_step (put_frame _ _ _) (by decide) (frame_step (wr_frame _ _ _) (by decide) (frame_step (put_frame _ _
      _) (by decide) (frame_refl _ _))))

theorem LaneSt.raiseAt_frame (L : LaneSt) (id : Nat) (d : Nat) (lv : Nat) :
    L.frame [.regs, .fc, .sys, .aux] (LaneSt.raiseAt L id d lv) := by
  unfold LaneSt.raiseAt
  exact (frame_ite (frame_step (incSat_frame _ _ _) (by decide) (frame_refl _ _)) (frame_ite (frame_step (react_frame
      _ _ _ _) (by decide) (frame_step (openClass_frame _ _ _) (by decide) (frame_seq (frame_step (latchFirst_frame _
      _ _ _) (by decide) (frame_refl _ _)) (frame_step (incSat_frame _ _ _) (by decide) (frame_refl _ _)))))
      (frame_seq (frame_step (latchFirst_frame _ _ _ _) (by decide) (frame_refl _ _)) (frame_step (incSat_frame _ _ _)
      (by decide) (frame_refl _ _)))))

theorem LaneSt.assert_frame (L : LaneSt) (id : Nat) (d : Nat) :
    L.frame [.regs, .fc, .sys, .aux] (LaneSt.assert L id d) := by
  unfold LaneSt.assert
  exact (frame_ite (frame_step (incSat_frame _ _ _) (by decide) (frame_refl _ _)) (frame_step (raiseAt_frame _ _ _ _)
      (by decide) (frame_refl _ _)))

theorem LaneSt.raise_frame (L : LaneSt) (id : Nat) (d : Nat) :
    L.frame [.regs, .fc, .sys, .aux] (LaneSt.raise L id d) := by
  unfold LaneSt.raise
  exact (frame_ite (frame_refl _ _) (frame_step (assert_frame _ _ _) (by decide) (frame_refl _ _)))

theorem LaneSt.hallInvalid_frame (L : LaneSt) :
    L.frame [.regs, .fc, .sys, .pos, .aux] (LaneSt.hallInvalid L) := by
  unfold LaneSt.hallInvalid
  exact (frame_ite (frame_step (raise_frame _ _ _) (by decide) (frame_step (updPos_frame _ _) (by decide) (frame_step
      (updPos_frame _ _) (by decide) (frame_step (inc_frame _ _ _) (by decide) (frame_step (put_frame _ _ _) (by
      decide) (frame_refl _ _)))))) (frame_step (updPos_frame _ _) (by decide) (frame_step (inc_frame _ _ _) (by
      decide) (frame_step (put_frame _ _ _) (by decide) (frame_refl _ _)))))

theorem LaneSt.clockDown_frame (L : LaneSt) (f : Nat) :
    L.frame [.regs, .sys] (LaneSt.clockDown L f) := by
  unfold LaneSt.clockDown
  exact (frame_step (frame_sys _ _) (by decide) (frame_step (put_frame _ _ _) (by decide) (frame_step (wr_frame _ _ _)
      (by decide) (frame_step (wr_frame _ _ _) (by decide) (frame_refl _ _)))))

theorem LaneSt.tick_frame (L : LaneSt) (t : Nat) :
    L.frame [.time] (LaneSt.tick L t) := by
  unfold LaneSt.tick
  exact (frame_step (frame_time _ _) (by decide) (frame_refl _ _))

theorem LaneSt.updCom_frame (L : LaneSt) (i : Nat) (f : ComStg → ComStg) :
    L.frame [.com] (LaneSt.updCom L i f) := by
  unfold LaneSt.updCom
  exact (frame_step (frame_com _ _) (by decide) (frame_refl _ _))

theorem LaneSt.stageDuty_frame (L : LaneSt) (i : Nat) (iref : Int) :
    L.frame [.regs, .com] (LaneSt.stageDuty L i iref) := by
  unfold LaneSt.stageDuty
  exact (frame_step (put_frame _ _ _) (by decide) (frame_step (wr_frame _ _ _) (by decide) (frame_seq (frame_ite
      (frame_refl _ _) (frame_step (updCom_frame _ _ _) (by decide) (frame_refl _ _))) (frame_ite (frame_step
      (updCom_frame _ _ _) (by decide) (frame_refl _ _)) (frame_refl _ _)))))

theorem LaneSt.unref_frame (L : LaneSt) :
    L.frame [.regs] (LaneSt.unref L) := by
  unfold LaneSt.unref
  exact (frame_step (wr_frame _ _ _) (by decide) (frame_refl _ _))

theorem LaneSt.setBytes_frame (L : LaneSt) (a : Nat) (bs : List Byte) : L.frame [.mem] (LaneSt.setBytes L a bs) := by
  induction bs generalizing L a with
  | nil => exact L.frame_refl _
  | cons b bs ih => exact LaneSt.frame_seq (ih _ _) (setByte_frame _ _ _)

theorem LaneSt.tally_frame (L : LaneSt) (l : Lane) (typ : Nat) (requester : Nat) (detail : List Byte) (no : Bool) :
    L.frame [.mem, .nvm] (LaneSt.tally L l typ requester detail no) := by
  unfold LaneSt.tally
  exact (frame_step (frame_nvm _ _) (by decide) (frame_step (setBytes_frame _ _ _) (by decide) (frame_refl _ _)))

theorem LaneSt.eraseMem_frame (L : LaneSt) (a n : Nat) : L.frame [.mem] (L.eraseMem a n) := by
  refine ⟨fun p hp => by cases p <;> first | rfl | simp at hp, fun h => ?_⟩
  simp only [LaneSt.wf, LaneSt.eraseMem, Bool.and_eq_true] at *
  exact ⟨⟨⟨cellsWf_filter _ _ h.1.1.1, h.1.1.2⟩, h.1.2⟩, h.2⟩

theorem LaneSt.updCal_frame (L : LaneSt) (f : NvmSt → NvmSt) :
    L.frame [.mem, .nvm] (LaneSt.updCal L f) := by
  unfold LaneSt.updCal
  exact (frame_step (setBytes_frame _ _ _) (by decide) (frame_step (eraseMem_frame _ _ _) (by decide) (frame_step
      (frame_nvm _ _) (by decide) (frame_refl _ _))))

theorem LaneSt.calResult_frame (L : LaneSt) (l : Lane) :
    L.frame [.regs, .mem, .fc, .sys, .nvm, .pos, .aux] (LaneSt.calResult L l) := by
  unfold LaneSt.calResult
  exact (frame_ite (frame_step (raise_frame _ _ _) (by decide) (frame_step (put_frame _ _ _) (by decide) (frame_step
      (updPos_frame _ _) (by decide) (frame_step (wr_frame _ _ _) (by decide) (frame_refl _ _))))) (frame_step
      (updPos_frame _ _) (by decide) (frame_step (wr_frame _ _ _) (by decide) (frame_seq (frame_step (updCal_frame _
      _) (by decide) (frame_refl _ _)) (frame_seq (frame_step (put_frame _ _ _) (by decide) (frame_ite (frame_step
      (tally_frame _ _ _ _ _ _) (by decide) (frame_refl _ _)) (frame_refl _ _))) (frame_step (updPos_frame _ _) (by
      decide) (frame_step (wr_frame _ _ _) (by decide) (frame_refl _ _))))))))

theorem LaneSt.violate_frame (L : LaneSt) (i : Nat) :
    L.frame [.safe] (LaneSt.violate L i) := by
  unfold LaneSt.violate
  exact (frame_step (updSafe_frame _ _) (by decide) (frame_refl _ _))

theorem LaneSt.updMbx_frame (L : LaneSt) (f : MbxSt → MbxSt) :
    L.frame [.mbx] (LaneSt.updMbx L f) := by
  unfold LaneSt.updMbx
  exact (frame_step (frame_mbx _ _) (by decide) (frame_refl _ _))

theorem LaneSt.setBank_frame (L : LaneSt) (b : Bool) (x : Bank) :
    L.frame [.mem, .nvm] (LaneSt.setBank L b x) := by
  unfold LaneSt.setBank
  exact (frame_step (setBytes_frame _ _ _) (by decide) (frame_ite (frame_step (frame_nvm _ _) (by decide) (frame_refl
      _ _)) (frame_step (frame_nvm _ _) (by decide) (frame_refl _ _))))

theorem LaneSt.freeInner_frame (L : LaneSt) (r : Req) :
    L.frame [.regs] (LaneSt.freeInner L r) := by
  unfold LaneSt.freeInner
  exact (frame_ite (frame_step (put_frame _ _ _) (by decide) (frame_refl _ _)) (frame_refl _ _))

theorem LaneSt.keepReply_frame (L : LaneSt) (r : Req) (p : Reply) :
    L.frame [.mbx] (LaneSt.keepReply L r p) := by
  unfold LaneSt.keepReply
  exact (frame_step (updMbx_frame _ _) (by decide) (frame_refl _ _))

theorem LaneSt.sendReply_frame (L : LaneSt) (p : Reply) :
    L.frame [.mbx] (LaneSt.sendReply L p) := by
  unfold LaneSt.sendReply
  exact (frame_ite (frame_step (updMbx_frame _ _) (by decide) (frame_refl _ _)) (frame_step (updMbx_frame _ _) (by
      decide) (frame_refl _ _)))

theorem LaneSt.finish_frame (L : LaneSt) (code : Nat) (r : Req) (payload : List Byte) :
    L.frame [.regs, .mbx] (LaneSt.finish L code r payload) := by
  unfold LaneSt.finish
  exact (frame_step (freeInner_frame _ _) (by decide) (frame_step (keepReply_frame _ _ _) (by decide) (frame_step
      (sendReply_frame _ _) (by decide) (frame_refl _ _))))

theorem LaneSt.recordBank_frame (L : LaneSt) (l : Lane) (h : Held) :
    L.frame [.regs, .mem, .nvm, .mbx] (LaneSt.recordBank L l h) := by
  unfold LaneSt.recordBank
  exact (frame_step (finish_frame _ _ _ _) (by decide) (frame_step (frame_nvm _ _) (by decide) (frame_seq (frame_ite
      (frame_step (tally_frame _ _ _ _ _ _) (by decide) (frame_step (frame_nvm _ _) (by decide) (frame_refl _ _)))
      (frame_refl _ _)) (frame_step (tally_frame _ _ _ _ _ _) (by decide) (frame_step (setBank_frame _ _ _) (by
      decide) (frame_refl _ _))))))

theorem LaneSt.setWord_frame (L : LaneSt) (a : Nat) (w : Word) :
    L.frame [.mem] (LaneSt.setWord L a w) := by
  unfold LaneSt.setWord
  exact (frame_step (setBytes_frame _ _ _) (by decide) (frame_refl _ _))

theorem LaneSt.writeSlotRec_frame (L : LaneSt) (b : Bool) (r : SlotRec) :
    L.frame [.mem] (LaneSt.writeSlotRec L b r) := by
  unfold LaneSt.writeSlotRec
  exact (frame_step (setWord_frame _ _ _) (by decide) (frame_step (setBytes_frame _ _ _) (by decide) (frame_refl _ _)))

theorem LaneSt.refuse_frame (L : LaneSt) (code : Nat) (r : Req) (nak : Nat) (detail : Nat) :
    L.frame [.regs, .mbx] (LaneSt.refuse L code r nak detail) := by
  unfold LaneSt.refuse
  exact (frame_step (freeInner_frame _ _) (by decide) (frame_step (keepReply_frame _ _ _) (by decide) (frame_step
      (sendReply_frame _ _) (by decide) (frame_refl _ _))))

theorem LaneSt.recordSlot_frame (L : LaneSt) (h : Held) :
    L.frame [.regs, .mem, .mbx] (LaneSt.recordSlot L h) := by
  unfold LaneSt.recordSlot
  exact (by (try dsimp only); split; exact (frame_step (finish_frame _ _ _ _) (by decide) (frame_step (updMbx_frame _ _) (by decide) (frame_step (writeSlotRec_frame _ _ _) (by decide) (frame_refl _ _)))); exact (frame_step (refuse_frame _ _ _ _ _) (by decide) (frame_refl _ _)))

theorem LaneSt.endCommit_frame (L : LaneSt) (l : Lane) :
    L.frame [.regs, .mem, .nvm, .mbx] (LaneSt.endCommit L l) := by
  unfold LaneSt.endCommit
  exact (by (try dsimp only); split; exact (frame_refl _ _); exact (by (try dsimp only); split; exact (frame_step (recordBank_frame _ _ _) (by decide) (frame_step (updMbx_frame _ _) (by decide) (frame_refl _ _))); exact (frame_step (recordSlot_frame _ _) (by decide) (frame_step (updMbx_frame _ _) (by decide) (frame_refl _ _)))))

theorem LaneSt.openMask_frame (L : LaneSt) (b : Nat) :
    L.frame [.regs, .fc] (LaneSt.openMask L b) := by
  unfold LaneSt.openMask
  exact (frame_step (frame_fc _ _) (by decide) (frame_step (put_frame _ _ _) (by decide) (frame_refl _ _)))

theorem LaneSt.removeStage_frame (L : LaneSt) (s : Nat) :
    L.frame [.regs, .fc, .meas] (LaneSt.removeStage L s) := by
  unfold LaneSt.removeStage
  exact (frame_step (openMask_frame _ _) (by decide) (frame_step (put_frame _ _ _) (by decide) (frame_step (put_frame
      _ _ _) (by decide) (frame_step (frame_meas _ _) (by decide) (frame_refl _ _)))))

theorem LaneSt.updFlk_frame (L : LaneSt) (f : FlkSt → FlkSt) :
    L.frame [.flk] (LaneSt.updFlk L f) := by
  unfold LaneSt.updFlk
  exact (frame_step (frame_flk _ _) (by decide) (frame_refl _ _))

theorem LaneSt.authentic_frame (L : LaneSt) (f : FlockFrame) :
    L.frame [.regs, .fc, .sys, .aux, .flk] (LaneSt.authentic L f).1 := by
  unfold LaneSt.authentic
  exact (by (try dsimp only); split; exact (frame_refl _ _); exact (by (try dsimp only); split; exact (frame_step (raise_frame _ _ _) (by decide) (frame_refl _ _)); exact (by (try dsimp only); split; exact (frame_refl _ _); exact (frame_step (updFlk_frame _ _) (by decide) (frame_refl _ _)))))

theorem LaneSt.setGword_frame (L : LaneSt) (g : Gdn) (w : GWord) :
    L.frame [.flk] (LaneSt.setGword L g w) := by
  unfold LaneSt.setGword
  exact (by (try dsimp only); split; exact (frame_step (updFlk_frame _ _) (by decide) (frame_refl _ _)); exact (frame_step (updFlk_frame _ _) (by decide) (frame_refl _ _)))

theorem LaneSt.updCore_frame (L : LaneSt) (f : CoreSt → CoreSt) :
    L.frame [.core] (LaneSt.updCore L f) := by
  unfold LaneSt.updCore
  exact (frame_step (frame_core _ _) (by decide) (frame_refl _ _))

theorem LaneSt.haltCores_frame (L : LaneSt) :
    L.frame [.regs, .core] (LaneSt.haltCores L) := by
  unfold LaneSt.haltCores
  exact (frame_step (updCore_frame _ _) (by decide) (frame_step (put_frame _ _ _) (by decide) (frame_refl _ _)))

theorem LaneSt.mismatch_frame (L : LaneSt) (id : Nat) (cls : Nat) (diff : Nat) :
    L.frame [.regs, .fc, .sys, .aux, .core] (LaneSt.mismatch L id cls diff) := by
  unfold LaneSt.mismatch
  exact (frame_step (openMask_frame _ _) (by decide) (frame_step (raise_frame _ _ _) (by decide) (frame_seq
      (frame_step (updCore_frame _ _) (by decide) (frame_step (haltCores_frame _) (by decide) (frame_refl _ _)))
      (frame_seq (frame_step (wr_frame _ _ _) (by decide) (frame_step (wr_frame _ _ _) (by decide) (frame_step
      (wr_frame _ _ _) (by decide) (frame_refl _ _)))) (frame_step (wr_frame _ _ _) (by decide) (frame_refl _ _))))))

theorem LaneSt.raiseIf_frame (L : LaneSt) (b : Bool) (id : Nat) (d : Nat) :
    L.frame [.regs, .fc, .sys, .aux] (LaneSt.raiseIf L b id d) := by
  unfold LaneSt.raiseIf
  exact (frame_ite (frame_step (raise_frame _ _ _) (by decide) (frame_refl _ _)) (frame_refl _ _))

theorem LaneSt.updCpu_frame (L : LaneSt) (f : Hart → Hart) :
    L.frame [.core] (LaneSt.updCpu L f) := by
  unfold LaneSt.updCpu
  exact (frame_step (updCore_frame _ _) (by decide) (frame_refl _ _))

theorem LaneSt.putCsr_frame (L : LaneSt) (k : Nat) (v : Word) (nv : Word) :
    L.frame [.core] (LaneSt.putCsr L k v nv) := by
  unfold LaneSt.putCsr
  exact (frame_step (updCpu_frame _ _) (by decide) (frame_refl _ _))

theorem LaneSt.goto_frame (L : LaneSt) (pc : Word) (npc : Word) :
    L.frame [.core] (LaneSt.goto L pc npc) := by
  unfold LaneSt.goto
  exact (frame_step (updCpu_frame _ _) (by decide) (frame_refl _ _))

theorem LaneSt.trap_frame (L : LaneSt) (cause : Word) (tval : Word) :
    L.frame [.core] (LaneSt.trap L cause tval) := by
  unfold LaneSt.trap
  exact (frame_step (frame_core _ _) (by decide) (frame_seq (frame_step (goto_frame _ _ _) (by decide) (frame_refl _
      _)) (frame_seq (frame_step (putCsr_frame _ _ _ _) (by decide) (frame_step (putCsr_frame _ _ _ _) (by decide)
      (frame_refl _ _))) (frame_step (putCsr_frame _ _ _ _) (by decide) (frame_step (putCsr_frame _ _ _ _) (by decide)
      (frame_refl _ _))))))

theorem LaneSt.accessTrap_frame (L : LaneSt) (w : Width) (a : Word) (mis : Nat) (err : Nat) :
    L.frame [.regs, .fc, .sys, .aux, .core] (LaneSt.accessTrap L w a mis err) := by
  unfold LaneSt.accessTrap
  exact (frame_step (trap_frame _ _ _) (by decide) (frame_step (raiseIf_frame _ _ _ _) (by decide) (frame_refl _ _)))

theorem LaneSt.refreshClaims_frame (L : LaneSt) (l : Lane) :
    L.frame [.regs] (LaneSt.refreshClaims L l) := by
  unfold LaneSt.refreshClaims
  exact (frame_seq (frame_for3 (fun _ _ => (frame_ite (frame_step (wr_frame _ _ _) (by decide) (frame_refl _ _))
      (frame_ite (frame_refl _ _) (frame_step (zeroClaims_frame _ _ _) (by decide) (frame_refl _ _))))) _) (frame_refl
      _ _))

theorem LaneSt.clockFault_frame (L : LaneSt) (l : Lane) (kind : Nat) :
    L.frame [.regs, .fc, .sys, .aux] (LaneSt.clockFault L l kind) := by
  unfold LaneSt.clockFault
  exact (by (try dsimp only); split; exact (frame_step (refreshClaims_frame _ _) (by decide) (frame_step (raise_frame _ _ _) (by decide) (frame_step (put_frame _ _ _) (by decide) (frame_step (put_frame _ _ _) (by decide) (frame_refl _ _))))); exact (frame_step (raise_frame _ _ _) (by decide) (frame_step (put_frame _ _ _) (by decide) (frame_refl _ _))); exact (frame_step (raise_frame _ _ _) (by decide) (frame_step (put_frame _ _ _) (by decide) (frame_refl _ _))); exact (frame_step (raise_frame _ _ _) (by decide) (frame_refl _ _)))

theorem LaneSt.takeWords_frame (L : LaneSt) (i : Nat) (p : Nat) :
    L.frame [.com] (LaneSt.takeWords L i p) := by
  unfold LaneSt.takeWords
  exact (by (try dsimp only); split; exact (frame_refl _ _); exact (frame_step (frame_com _ _) (by decide) (frame_refl _ _)))

theorem LaneSt.startRun_frame (L : LaneSt) (i : Nat) (th : Int) (adv : Int) (sigma : Int) :
    L.frame [.regs, .com] (LaneSt.startRun L i th adv sigma) := by
  unfold LaneSt.startRun
  exact (frame_step (updCom_frame _ _ _) (by decide) (frame_step (put_frame _ _ _) (by decide) (frame_step (wr_frame _
      _ _) (by decide) (frame_step (put_frame _ _ _) (by decide) (frame_refl _ _)))))

theorem LaneSt.coastOn_frame (L : LaneSt) (i : Nat) :
    L.frame [.com] (LaneSt.coastOn L i) := by
  unfold LaneSt.coastOn
  exact (frame_step (updCom_frame _ _ _) (by decide) (frame_refl _ _))

theorem LaneSt.countResid_frame (L : LaneSt) (i : Nat) :
    L.frame [.com] (LaneSt.countResid L i) := by
  unfold LaneSt.countResid
  exact (by (try dsimp only); split; exact (frame_refl _ _); exact (frame_step (updCom_frame _ _ _) (by decide) (frame_refl _ _)))

theorem LaneSt.refreshService_frame (L : LaneSt) :
    L.frame [.regs] (LaneSt.refreshService L) := by
  unfold LaneSt.refreshService
  exact (frame_step (wr_frame _ _ _) (by decide) (frame_seq (frame_for3 (fun _ _ => (frame_step (put_frame _ _ _) (by
      decide) (frame_refl _ _))) _) (frame_refl _ _)))

theorem LaneSt.lock_frame (L : LaneSt) (i : Nat) :
    L.frame [.regs, .com] (LaneSt.lock L i) := by
  unfold LaneSt.lock
  exact (frame_step (updCom_frame _ _ _) (by decide) (frame_step (put_frame _ _ _) (by decide) (frame_step (wr_frame _
      _ _) (by decide) (frame_refl _ _))))

theorem LaneSt.lockState_frame (L : LaneSt) (i : Nat) :
    L.frame [.regs, .fc, .sys, .com, .aux] (LaneSt.lockState L i) := by
  unfold LaneSt.lockState
  exact (by (try dsimp only); split; exact (frame_ite (frame_ite (frame_step (raise_frame _ _ _) (by decide) (frame_step (wr_frame _ _ _) (by decide) (frame_step (countResid_frame _ _) (by decide) (frame_refl _ _)))) (frame_step (refreshService_frame _) (by decide) (frame_step (raise_frame _ _ _) (by decide) (frame_seq (frame_step (updCom_frame _ _ _) (by decide) (frame_step (put_frame _ _ _) (by decide) (frame_step (wr_frame _ _ _) (by decide) (frame_refl _ _)))) (frame_step (countResid_frame _ _) (by decide) (frame_refl _ _)))))) (frame_step (countResid_frame _ _) (by decide) (frame_refl _ _))); exact (frame_ite (frame_step (lock_frame _ _) (by decide) (frame_step (countResid_frame _ _) (by decide) (frame_refl _ _))) (frame_step (countResid_frame _ _) (by decide) (frame_refl _ _))); exact (frame_ite (frame_step (refreshService_frame _) (by decide) (frame_step (lock_frame _ _) (by decide) (frame_step (countResid_frame _ _) (by decide) (frame_refl _ _)))) (frame_step (countResid_frame _ _) (by decide) (frame_refl _ _))); exact (frame_step (countResid_frame _ _) (by decide) (frame_refl _ _)))

theorem LaneSt.observeFree_frame (L : LaneSt) (i : Nat) (q : Nat) :
    L.frame [.regs, .com] (LaneSt.observeFree L i q) := by
  unfold LaneSt.observeFree
  exact (frame_step (updCom_frame _ _ _) (by decide) (frame_step (wr_frame _ _ _) (by decide) (frame_step (wr_frame _
      _ _) (by decide) (frame_refl _ _))))

theorem LaneSt.observe_frame (L : LaneSt) (i : Nat) (pos : Nat) (neg : Nat) :
    L.frame [.com] (LaneSt.observe L i pos neg) := by
  unfold LaneSt.observe
  exact (frame_ite (frame_step (updCom_frame _ _ _) (by decide) (frame_refl _ _)) (frame_step (updCom_frame _ _ _) (by
      decide) (frame_refl _ _)))

theorem LaneSt.flyRef_frame (L : LaneSt) (i : Nat) (icmd : Int) (iref : Int) :
    L.frame [.regs, .com] (LaneSt.flyRef L i icmd iref).1 := by
  unfold LaneSt.flyRef
  exact (by (try dsimp only); split; exact (frame_refl _ _); exact (by (try dsimp only); split; exact (by (try dsimp only); split; exact (frame_refl _ _); exact (frame_refl _ _)); exact (by (try dsimp only); split; exact (frame_step (updCom_frame _ _ _) (by decide) (frame_step (put_frame _ _ _) (by decide) (frame_refl _ _))); exact (frame_step (updCom_frame _ _ _) (by decide) (frame_refl _ _)))))

theorem LaneSt.wrS_frame (L : LaneSt) (f : Fld) (i : Int) :
    L.frame [.regs] (LaneSt.wrS L f i) := by
  unfold LaneSt.wrS
  exact (frame_step (wr_frame _ _ _) (by decide) (frame_refl _ _))

theorem LaneSt.notePeak_frame (L : LaneSt) (i : Nat) (iref : Int) (t : Nat) (u : Nat) :
    L.frame [.com] (LaneSt.notePeak L i iref t u) := by
  unfold LaneSt.notePeak
  exact (frame_step (updCom_frame _ _ _) (by decide) (frame_refl _ _))

theorem LaneSt.moveTransfer_frame (L : LaneSt) (i : Nat) (th : Int) :
    L.frame [.regs, .com] (LaneSt.moveTransfer L i th) := by
  unfold LaneSt.moveTransfer
  exact (by (try dsimp only); split; exact (frame_refl _ _); exact (frame_ite (frame_step (updCom_frame _ _ _) (by decide) (frame_step (put_frame _ _ _) (by decide) (frame_step (wr_frame _ _ _) (by decide) (frame_refl _ _)))) (frame_step (updCom_frame _ _ _) (by decide) (frame_refl _ _))))

theorem LaneSt.tryTransfer_frame (L : LaneSt) (i : Nat) (th : Int) (sigma : Int) (adv : Int) (ec : Int) (span : Nat)
    (q : Nat) :
    L.frame [.regs, .com] (LaneSt.tryTransfer L i th sigma adv ec span q) := by
  unfold LaneSt.tryTransfer
  exact (frame_ite (frame_refl _ _) (frame_ite (frame_step (updCom_frame _ _ _) (by decide) (frame_step (put_frame _ _
      _) (by decide) (frame_refl _ _))) (frame_step (updCom_frame _ _ _) (by decide) (frame_step (wr_frame _ _ _) (by
      decide) (frame_refl _ _)))))

theorem LaneSt.transferCmd_frame (L : LaneSt) (i : Nat) (t : Transfer) (icmd : Int) (iref : Int) (d : Int) :
    L.frame [.com] (LaneSt.transferCmd L i t icmd iref d).1 := by
  unfold LaneSt.transferCmd
  exact (by first | exact (frame_step (updCom_frame _ _ _) (by decide) (frame_refl _ _)) | (split; exact (frame_step (updCom_frame _ _ _) (by decide) (frame_refl _ _))) | (dsimp only; split; exact (frame_step (updCom_frame _ _ _) (by decide) (frame_refl _ _))))

theorem LaneSt.runCmd_frame (L : LaneSt) (i : Nat) (icmd : Int) (iref : Int) :
    L.frame [.com] (LaneSt.runCmd L i icmd iref).1 := by
  unfold LaneSt.runCmd
  exact (by (try dsimp only); split; exact (frame_step (transferCmd_frame _ _ _ _ _ _) (by decide) (frame_refl _ _)); exact (frame_refl _ _))

theorem LaneSt.runPeriod_frame (L : LaneSt) (i : Nat) (p : Nat) :
    L.frame [.regs, .fc, .sys, .com, .aux] (LaneSt.runPeriod L i p).1 := by
  unfold LaneSt.runPeriod
  exact (by first | exact (frame_step (runCmd_frame _ _ _ _) (by decide) (frame_step (updCom_frame _ _ _) (by decide) (frame_seq (frame_ite (frame_step (moveTransfer_frame _ _ _) (by decide) (frame_refl _ _)) (frame_step (tryTransfer_frame _ _ _ _ _ _ _ _) (by decide) (frame_refl _ _))) (frame_seq (frame_step (stageDuty_frame _ _ _) (by decide) (frame_step (notePeak_frame _ _ _ _ _) (by decide) (frame_refl _ _))) (frame_seq (frame_step (wrS_frame _ _ _) (by decide) (frame_step (flyRef_frame _ _ _ _) (by decide) (frame_refl _ _))) (frame_seq (frame_step (coastOn_frame _ _) (by decide) (frame_step (lockState_frame _ _) (by decide) (frame_step (observeFree_frame _ _ _) (by decide) (frame_step (observe_frame _ _ _ _) (by decide) (frame_refl _ _))))) (frame_ite (frame_step (startRun_frame _ _ _ _ _) (by decide) (frame_refl _ _)) (frame_refl _ _)))))))) | (split; exact (frame_step (runCmd_frame _ _ _ _) (by decide) (frame_step (updCom_frame _ _ _) (by decide) (frame_seq (frame_ite (frame_step (moveTransfer_frame _ _ _) (by decide) (frame_refl _ _)) (frame_step (tryTransfer_frame _ _ _ _ _ _ _ _) (by decide) (frame_refl _ _))) (frame_seq (frame_step (stageDuty_frame _ _ _) (by decide) (frame_step (notePeak_frame _ _ _ _ _) (by decide) (frame_refl _ _))) (frame_seq (frame_step (wrS_frame _ _ _) (by decide) (frame_step (flyRef_frame _ _ _ _) (by decide) (frame_refl _ _))) (frame_seq (frame_step (coastOn_frame _ _) (by decide) (frame_step (lockState_frame _ _) (by decide) (frame_step (observeFree_frame _ _ _) (by decide) (frame_step (observe_frame _ _ _ _) (by decide) (frame_refl _ _))))) (frame_ite (frame_step (startRun_frame _ _ _ _ _) (by decide) (frame_refl _ _)) (frame_refl _ _))))))))) | (dsimp only; split; exact (frame_step (runCmd_frame _ _ _ _) (by decide) (frame_step (updCom_frame _ _ _) (by decide) (frame_seq (frame_ite (frame_step (moveTransfer_frame _ _ _) (by decide) (frame_refl _ _)) (frame_step (tryTransfer_frame _ _ _ _ _ _ _ _) (by decide) (frame_refl _ _))) (frame_seq (frame_step (stageDuty_frame _ _ _) (by decide) (frame_step (notePeak_frame _ _ _ _ _) (by decide) (frame_refl _ _))) (frame_seq (frame_step (wrS_frame _ _ _) (by decide) (frame_step (flyRef_frame _ _ _ _) (by decide) (frame_refl _ _))) (frame_seq (frame_step (coastOn_frame _ _) (by decide) (frame_step (lockState_frame _ _) (by decide) (frame_step (observeFree_frame _ _ _) (by decide) (frame_step (observe_frame _ _ _ _) (by decide) (frame_refl _ _))))) (frame_ite (frame_step (startRun_frame _ _ _ _ _) (by decide) (frame_refl _ _)) (frame_refl _ _))))))))))

theorem LaneSt.dtcFlux_frame (L : LaneSt) (i : Nat) :
    L.frame [.com] (LaneSt.dtcFlux L i) := by
  unfold LaneSt.dtcFlux
  exact (frame_step (updCom_frame _ _ _) (by decide) (frame_refl _ _))

theorem LaneSt.dtcPeriod_frame (L : LaneSt) (i : Nat) :
    L.frame [.com] (LaneSt.dtcPeriod L i).1 := by
  unfold LaneSt.dtcPeriod
  exact (frame_step (updCom_frame _ _ _) (by decide) (frame_step (dtcFlux_frame _ _) (by decide) (frame_refl _ _)))

theorem LaneSt.leaveRun_frame (L : LaneSt) (i : Nat) :
    L.frame [.regs, .com] (LaneSt.leaveRun L i) := by
  unfold LaneSt.leaveRun
  exact (frame_step (updCom_frame _ _ _) (by decide) (frame_step (wr_frame _ _ _) (by decide) (frame_step (put_frame _
      _ _) (by decide) (frame_step (put_frame _ _ _) (by decide) (frame_step (put_frame _ _ _) (by decide) (frame_refl
      _ _))))))

theorem LaneSt.dtcRefuse_frame (L : LaneSt) (i : Nat) :
    L.frame [.regs, .fc, .sys, .com, .aux] (LaneSt.dtcRefuse L i) := by
  unfold LaneSt.dtcRefuse
  exact (frame_ite (frame_refl _ _) (frame_step (raise_frame _ _ _) (by decide) (frame_step (updCom_frame _ _ _) (by
      decide) (frame_refl _ _))))

theorem LaneSt.modePeriod_frame (L : LaneSt) (i : Nat) (p : Nat) :
    L.frame [.regs, .fc, .sys, .com, .aux] (LaneSt.modePeriod L i p).1 := by
  unfold LaneSt.modePeriod
  exact (by (try dsimp only); split; exact (frame_step (runPeriod_frame _ _ _) (by decide) (frame_refl _ _)); exact (by (try dsimp only); split; exact (frame_step (dtcPeriod_frame _ _) (by decide) (frame_step (leaveRun_frame _ _) (by decide) (frame_refl _ _))); exact (frame_step (dtcRefuse_frame _ _) (by decide) (frame_step (leaveRun_frame _ _) (by decide) (frame_refl _ _)))); exact (frame_step (leaveRun_frame _ _) (by decide) (frame_refl _ _)); exact (frame_step (leaveRun_frame _ _) (by decide) (frame_refl _ _)))

theorem LaneSt.comPeriod_frame (L : LaneSt) (i : Nat) (p : Nat) :
    L.frame [.regs, .fc, .sys, .com, .aux] (LaneSt.comPeriod L i p) := by
  unfold LaneSt.comPeriod
  exact (frame_step (refreshService_frame _) (by decide) (frame_step (updCom_frame _ _ _) (by decide) (frame_seq
      (frame_step (frame_com _ _) (by decide) (frame_refl _ _)) (frame_seq (frame_step (put_frame _ _ _) (by decide)
      (frame_step (modePeriod_frame _ _ _) (by decide) (frame_refl _ _))) (frame_step (updCom_frame _ _ _) (by decide)
      (frame_step (takeWords_frame _ _ _) (by decide) (frame_refl _ _)))))))

theorem LaneSt.updSec_frame (L : LaneSt) (f : SecSt → SecSt) :
    L.frame [.sec] (LaneSt.updSec L f) := by
  unfold LaneSt.updSec
  exact (frame_step (frame_sec _ _) (by decide) (frame_refl _ _))

theorem LaneSt.updKeys_frame (L : LaneSt) (f : KeyStore → KeyStore) :
    L.frame [.sec] (LaneSt.updKeys L f) := by
  unfold LaneSt.updKeys
  exact (frame_step (updSec_frame _ _) (by decide) (frame_refl _ _))

theorem LaneSt.erased_frame (L : LaneSt) (l : Lane) (us : Nat) :
    L.frame [.mem, .nvm, .sec] (LaneSt.erased L l us) := by
  unfold LaneSt.erased
  exact (frame_step (updSec_frame _ _) (by decide) (frame_step (tally_frame _ _ _ _ _ _) (by decide) (frame_refl _ _)))

theorem LaneSt.eraseExt_frame (L : LaneSt) (l : Lane) :
    L.frame [.regs, .mem, .nvm, .mbx, .sec] (LaneSt.eraseExt L l) := by
  unfold LaneSt.eraseExt
  exact (frame_step (erased_frame _ _ _) (by decide) (frame_step (put_frame _ _ _) (by decide) (frame_step (put_frame
      _ _ _) (by decide) (frame_step (updMbx_frame _ _) (by decide) (frame_step (updKeys_frame _ _) (by decide)
      (frame_refl _ _))))))

theorem LaneSt.endTap_frame (L : LaneSt) (x : Tap) :
    L.frame [.regs, .mbx] (LaneSt.endTap L x) := by
  unfold LaneSt.endTap
  exact (frame_step (finish_frame _ _ _ _) (by decide) (frame_refl _ _))

theorem LaneSt.closeSession_frame (L : LaneSt) :
    L.frame [.regs, .mbx, .sec] (LaneSt.closeSession L) := by
  unfold LaneSt.closeSession
  exact (frame_ite (frame_refl _ _) (frame_step (updSec_frame _ _) (by decide) (frame_step (put_frame _ _ _) (by
      decide) (frame_seq (frame_step (updMbx_frame _ _) (by decide) (frame_refl _ _)) (frame_seq (frame_step
      (put_frame _ _ _) (by decide) (frame_step (setReg_frame _ _ _) (by decide) (frame_step (setReg_frame _ _ _) (by
      decide) (frame_refl _ _)))) (frame_seq (frame_seq (frame_foldl (fun _ _ => (frame_step (endTap_frame _ _) (by
      decide) (frame_refl _ _))) _ _) (frame_refl _ _)) (frame_seq (frame_foldl (fun _ _ => (frame_step (refuse_frame
      _ _ _ _ _) (by decide) (frame_refl _ _))) _ _) (frame_refl _ _))))))))

theorem LaneSt.endLearn_frame (L : LaneSt) (result : Nat) :
    L.frame [.regs, .com] (LaneSt.endLearn L result) := by
  unfold LaneSt.endLearn
  exact (frame_step (frame_com _ _) (by decide) (frame_step (put_frame _ _ _) (by decide) (frame_step (wr_frame _ _ _)
      (by decide) (frame_refl _ _))))

theorem LaneSt.learnResync_frame (L : LaneSt) :
    L.frame [.regs, .com] (LaneSt.learnResync L) := by
  unfold LaneSt.learnResync
  exact (frame_ite (frame_step (endLearn_frame _ _) (by decide) (frame_refl _ _)) (frame_refl _ _))

theorem LaneSt.resetControl_frame (L : LaneSt) :
    L.frame [.regs, .com] (LaneSt.resetControl L) := by
  unfold LaneSt.resetControl
  exact (frame_step (frame_com _ _) (by decide) (frame_step (learnResync_frame _) (by decide) (frame_refl _ _)))

theorem LaneSt.driveFaultX_frame (L : LaneSt) :
    L.frame [.fc] (LaneSt.driveFaultX L) := by
  unfold LaneSt.driveFaultX
  exact (frame_step (frame_fc _ _) (by decide) (frame_refl _ _))

theorem LaneSt.endMask_frame (L : LaneSt) (b : Nat) :
    L.frame [.fc] (LaneSt.endMask L b) := by
  unfold LaneSt.endMask
  exact (frame_ite (frame_step (frame_fc _ _) (by decide) (frame_refl _ _)) (frame_refl _ _))

theorem LaneSt.enterResync_frame (L : LaneSt) :
    L.frame [.regs, .fc, .agr, .com] (LaneSt.enterResync L) := by
  unfold LaneSt.enterResync
  exact (frame_ite (frame_refl _ _) (frame_step (driveFaultX_frame _) (by decide) (frame_step (endMask_frame _ _) (by
      decide) (frame_seq (frame_step (frame_fc_agr _ _ _) (by decide) (frame_refl _ _)) (frame_seq (frame_ite
      (frame_step (wr_frame _ _ _) (by decide) (frame_refl _ _)) (frame_step (wr_frame _ _ _) (by decide) (frame_step
      (wr_frame _ _ _) (by decide) (frame_refl _ _)))) (frame_step (resetControl_frame _) (by decide) (frame_step
      (zeroClaims_frame _ _ _) (by decide) (frame_refl _ _))))))))

theorem LaneSt.replay_frame (L : LaneSt) :
    L.frame [.regs, .core] (LaneSt.replay L) := by
  unfold LaneSt.replay
  exact (frame_step (updCore_frame _ _) (by decide) (frame_step (wr_frame _ _ _) (by decide) (frame_refl _ _)))

theorem LaneSt.debugRun_frame (L : LaneSt) :
    L.frame [.regs, .fc, .agr, .com, .core] (LaneSt.debugRun L) := by
  unfold LaneSt.debugRun
  exact (frame_ite (frame_step (enterResync_frame _) (by decide) (frame_step (updCore_frame _ _) (by decide)
      (frame_step (replay_frame _) (by decide) (frame_refl _ _)))) (frame_refl _ _))

theorem LaneSt.closeDebug_frame (L : LaneSt) :
    L.frame [.regs] (LaneSt.closeDebug L) := by
  unfold LaneSt.closeDebug
  exact (frame_step (put_frame _ _ _) (by decide) (frame_step (put_frame _ _ _) (by decide) (frame_refl _ _)))

theorem LaneSt.lockDebug_frame (L : LaneSt) :
    L.frame [.regs, .fc, .agr, .com, .core] (LaneSt.lockDebug L) := by
  unfold LaneSt.lockDebug
  exact (frame_step (debugRun_frame _) (by decide) (frame_step (closeDebug_frame _) (by decide) (frame_step (put_frame
      _ _ _) (by decide) (frame_step (wr_frame _ _ _) (by decide) (frame_refl _ _)))))

theorem LaneSt.dropGroup_frame (L : LaneSt) :
    L.frame [.regs, .sec] (LaneSt.dropGroup L) := by
  unfold LaneSt.dropGroup
  exact (frame_step (updKeys_frame _ _) (by decide) (frame_step (wr_frame _ _ _) (by decide) (frame_step (put_frame _
      _ _) (by decide) (frame_refl _ _))))

theorem LaneSt.eraseControl_frame (L : LaneSt) (l : Lane) :
    L.frame [.regs, .mem, .nvm, .sec] (LaneSt.eraseControl L l) := by
  unfold LaneSt.eraseControl
  exact (frame_step (erased_frame _ _ _) (by decide) (frame_step (put_frame _ _ _) (by decide) (frame_step
      (dropGroup_frame _) (by decide) (frame_seq (frame_step (updKeys_frame _ _) (by decide) (frame_refl _ _))
      (frame_step (put_frame _ _ _) (by decide) (frame_step (put_frame _ _ _) (by decide) (frame_step (put_frame _ _
      _) (by decide) (frame_refl _ _))))))))

theorem LaneSt.eraseIdent_frame (L : LaneSt) (l : Lane) :
    L.frame [.regs, .mem, .nvm, .sec] (LaneSt.eraseIdent L l) := by
  unfold LaneSt.eraseIdent
  exact (frame_step (erased_frame _ _ _) (by decide) (frame_step (put_frame _ _ _) (by decide) (frame_refl _ _)))

theorem LaneSt.latchRind_frame (L : LaneSt) (l : Lane) (first : Nat) :
    L.frame [.regs, .mem, .fc, .sys, .nvm, .agr, .com, .mbx, .sec, .aux, .core] (LaneSt.latchRind L l first) := by
  unfold LaneSt.latchRind
  exact (frame_ite (frame_refl _ _) (frame_ite (frame_step (eraseIdent_frame _ _) (by decide) (frame_seq (frame_ite
      (frame_refl _ _) (frame_ite (frame_step (eraseControl_frame _ _) (by decide) (frame_refl _ _)) (frame_step
      (put_frame _ _ _) (by decide) (frame_refl _ _)))) (frame_seq (frame_step (eraseExt_frame _ _) (by decide)
      (frame_step (closeSession_frame _) (by decide) (frame_step (lockDebug_frame _) (by decide) (frame_refl _ _))))
      (frame_step (raise_frame _ _ _) (by decide) (frame_step (wr_frame _ _ _) (by decide) (frame_step (put_frame _ _
      _) (by decide) (frame_refl _ _))))))) (frame_seq (frame_ite (frame_refl _ _) (frame_ite (frame_step
      (eraseControl_frame _ _) (by decide) (frame_refl _ _)) (frame_step (put_frame _ _ _) (by decide) (frame_refl _
      _)))) (frame_seq (frame_step (eraseExt_frame _ _) (by decide) (frame_step (closeSession_frame _) (by decide)
      (frame_step (lockDebug_frame _) (by decide) (frame_refl _ _)))) (frame_step (raise_frame _ _ _) (by decide)
      (frame_step (wr_frame _ _ _) (by decide) (frame_step (put_frame _ _ _) (by decide) (frame_refl _ _))))))))

theorem LaneSt.flkSlotEnd_frame (L : LaneSt) :
    L.frame [.regs] (LaneSt.flkSlotEnd L) := by
  unfold LaneSt.flkSlotEnd
  exact (frame_seq (frame_forN (fun _ _ => (frame_ite (frame_step (put_frame _ _ _) (by decide) (frame_refl _ _))
      (frame_refl _ _))) _ _) (frame_refl _ _))

theorem LaneSt.copyStat_frame (L : LaneSt) (i : Nat) (g : StageSt) :
    L.frame [.regs] (LaneSt.copyStat L i g) := by
  unfold LaneSt.copyStat
  exact (frame_step (wr_frame _ _ _) (by decide) (frame_step (wr_frame _ _ _) (by decide) (frame_step (put_frame _ _
      _) (by decide) (frame_seq (frame_step (put_frame _ _ _) (by decide) (frame_step (put_frame _ _ _) (by decide)
      (frame_step (wr_frame _ _ _) (by decide) (frame_step (put_frame _ _ _) (by decide) (frame_refl _ _)))))
      (frame_step (put_frame _ _ _) (by decide) (frame_step (put_frame _ _ _) (by decide) (frame_step (put_frame _ _
      _) (by decide) (frame_step (wr_frame _ _ _) (by decide) (frame_refl _ _)))))))))

theorem LaneSt.swapHarts_frame (L : LaneSt) :
    L.frame [.core] (LaneSt.swapHarts L) := by
  unfold LaneSt.swapHarts
  exact (frame_step (updCore_frame _ _) (by decide) (frame_refl _ _))

theorem LaneSt.snapCounter_frame (L : LaneSt) (i : Nat) :
    L.frame [.regs, .fc, .sys, .pos, .aux] (LaneSt.snapCounter L i) := by
  unfold LaneSt.snapCounter
  exact (frame_ite (frame_step (wrS_frame _ _ _) (by decide) (frame_step (updPos_frame _ _) (by decide) (frame_step
      (wr_frame _ _ _) (by decide) (frame_refl _ _)))) (frame_step (raise_frame _ _ _) (by decide) (frame_step
      (put_frame _ _ _) (by decide) (frame_step (wr_frame _ _ _) (by decide) (frame_step (updPos_frame _ _) (by
      decide) (frame_step (wr_frame _ _ _) (by decide) (frame_refl _ _)))))))

theorem LaneSt.carryTmr_frame (L : LaneSt) (t0 : Nat) :
    L.frame [.regs] (LaneSt.carryTmr L t0) := by
  unfold LaneSt.carryTmr
  exact (frame_ite (frame_refl _ _) (frame_step (wr_frame _ _ _) (by decide) (frame_step (wr_frame _ _ _) (by decide)
      (frame_refl _ _))))

theorem LaneSt.windingModel_frame (L : LaneSt) (i : Nat) :
    L.frame [.com] (LaneSt.windingModel L i) := by
  unfold LaneSt.windingModel
  exact (frame_ite (frame_refl _ _) (frame_step (frame_com _ _) (by decide) (frame_refl _ _)))

theorem LaneSt.relock_frame (L : LaneSt) (i : Nat) (t : Nat) :
    L.frame [.regs, .com] (LaneSt.relock L i t) := by
  unfold LaneSt.relock
  exact (frame_step (refreshService_frame _) (by decide) (frame_step (updCom_frame _ _ _) (by decide) (frame_step
      (put_frame _ _ _) (by decide) (frame_step (put_frame _ _ _) (by decide) (frame_step (wr_frame _ _ _) (by decide)
      (frame_refl _ _))))))

theorem LaneSt.spStore_frame (L : LaneSt) (i : Nat) (f : SpIn) :
    L.frame [.regs] (LaneSt.spStore L i f) := by
  unfold LaneSt.spStore
  exact (by (try dsimp only); split; exact (frame_step (wr_frame _ _ _) (by decide) (frame_step (wr_frame _ _ _) (by decide) (frame_step (wr_frame _ _ _) (by decide) (frame_step (wr_frame _ _ _) (by decide) (frame_refl _ _))))); exact (frame_step (wr_frame _ _ _) (by decide) (frame_step (wr_frame _ _ _) (by decide) (frame_refl _ _))))

theorem LaneSt.startupFault_frame (L : LaneSt) (d : Nat) :
    L.frame [.regs, .fc, .sys, .aux] (LaneSt.startupFault L d) := by
  unfold LaneSt.startupFault
  exact (frame_step (raise_frame _ _ _) (by decide) (frame_step (wr_frame _ _ _) (by decide) (frame_refl _ _)))

theorem LaneSt.startDebug_frame (L : LaneSt) (l : Lane) (lidOpen : Bool) :
    L.frame [.regs, .mem, .fc, .sys, .nvm, .agr, .com, .mbx, .sec, .aux, .core] (LaneSt.startDebug L l lidOpen) := by
  unfold LaneSt.startDebug
  exact (frame_ite (frame_step (latchRind_frame _ _ _) (by decide) (frame_seq (frame_step (wr_frame _ _ _) (by decide)
      (frame_refl _ _)) (frame_step (put_frame _ _ _) (by decide) (frame_step (put_frame _ _ _) (by decide)
      (frame_step (wr_frame _ _ _) (by decide) (frame_refl _ _)))))) (frame_seq (frame_step (wr_frame _ _ _) (by
      decide) (frame_refl _ _)) (frame_step (put_frame _ _ _) (by decide) (frame_step (put_frame _ _ _) (by decide)
      (frame_step (wr_frame _ _ _) (by decide) (frame_refl _ _))))))

theorem LaneSt.updAgr_frame (L : LaneSt) (f : AgrSt → AgrSt) :
    L.frame [.agr] (LaneSt.updAgr L f) := by
  unfold LaneSt.updAgr
  exact (frame_step (frame_agr _ _) (by decide) (frame_refl _ _))

theorem LaneSt.countRounds_frame (L : LaneSt) (r : Rnd) :
    L.frame [.agr] (LaneSt.countRounds L r) := by
  unfold LaneSt.countRounds
  exact (frame_ite (frame_refl _ _) (frame_step (updAgr_frame _ _) (by decide) (frame_refl _ _)))

theorem LaneSt.clockUp_frame (L : LaneSt) :
    L.frame [.regs, .sys] (LaneSt.clockUp L) := by
  unfold LaneSt.clockUp
  exact (frame_step (frame_sys _ _) (by decide) (frame_step (put_frame _ _ _) (by decide) (frame_step (wr_frame _ _ _)
      (by decide) (frame_refl _ _))))

theorem LaneSt.stepFailed_frame (L : LaneSt) (block : Nat) :
    L.frame [.sys] (LaneSt.stepFailed L block) := by
  unfold LaneSt.stepFailed
  exact (frame_ite (frame_refl _ _) (frame_step (frame_sys _ _) (by decide) (frame_refl _ _)))

theorem LaneSt.otherOdd_frame (L : LaneSt) (r : Rnd) (i : Nat) :
    L.frame [.regs, .fc, .sys, .agr, .aux] (LaneSt.otherOdd L r i) := by
  unfold LaneSt.otherOdd
  exact (frame_step (raiseIf_frame _ _ _ _) (by decide) (frame_step (updAgr_frame _ _) (by decide) (frame_step
      (put_frame _ _ _) (by decide) (frame_refl _ _))))

theorem LaneSt.noteMissing_frame (L : LaneSt) (r : Rnd) :
    L.frame [.regs, .fc, .sys, .agr, .aux] (LaneSt.noteMissing L r) := by
  unfold LaneSt.noteMissing
  exact (frame_seq (frame_for3 (fun _ _ => (frame_ite (frame_refl _ _) (frame_ite (frame_step (updAgr_frame _ _) (by
      decide) (frame_step (raiseIf_frame _ _ _ _) (by decide) (frame_refl _ _))) (frame_step (raiseIf_frame _ _ _ _)
      (by decide) (frame_refl _ _))))) _) (frame_refl _ _))

theorem LaneSt.setVoting_frame (L : LaneSt) (r : Rnd) :
    L.frame [.regs, .fc, .sys, .aux] (LaneSt.setVoting L r) := by
  unfold LaneSt.setVoting
  exact (frame_step (raiseIf_frame _ _ _ _) (by decide) (frame_step (wr_frame _ _ _) (by decide) (frame_refl _ _)))

theorem LaneSt.refreshSafe_frame (L : LaneSt) (l : Lane) :
    L.frame [.regs, .safe] (LaneSt.refreshSafe L l) := by
  unfold LaneSt.refreshSafe
  exact (frame_seq (frame_for3 (fun _ _ => (frame_ite (frame_step (put_frame _ _ _) (by decide) (frame_seq (frame_step
      (put_frame _ _ _) (by decide) (frame_refl _ _)) (frame_seq (frame_step (put_frame _ _ _) (by decide) (frame_step
      (put_frame _ _ _) (by decide) (frame_refl _ _))) (frame_step (updSafe_frame _ _) (by decide) (frame_refl _
      _))))) (frame_seq (frame_step (put_frame _ _ _) (by decide) (frame_refl _ _)) (frame_seq (frame_step (put_frame
      _ _ _) (by decide) (frame_step (put_frame _ _ _) (by decide) (frame_refl _ _))) (frame_step (updSafe_frame _ _)
      (by decide) (frame_refl _ _)))))) _) (frame_refl _ _))

theorem LaneSt.dropFoldSs1_frame (L : LaneSt) :
    L.frame [.safe] (LaneSt.dropFoldSs1 L) := by
  unfold LaneSt.dropFoldSs1
  exact (frame_step (updSafe_frame _ _) (by decide) (frame_refl _ _))

theorem LaneSt.selfOdd_frame (L : LaneSt) (l : Lane) (r : Rnd) :
    L.frame [.regs, .fc, .sys, .agr, .com, .safe, .aux] (LaneSt.selfOdd L l r) := by
  unfold LaneSt.selfOdd
  exact (frame_step (frame_fc _ _) (by decide) (frame_seq (frame_step (enterResync_frame _) (by decide) (frame_refl _
      _)) (frame_seq (frame_ite (frame_step (refreshSafe_frame _ _) (by decide) (frame_step (dropFoldSs1_frame _) (by
      decide) (frame_seq (frame_step (frame_sys_safe _ _ _) (by decide) (frame_refl _ _)) (frame_step (wr_frame _ _ _)
      (by decide) (frame_step (wr_frame _ _ _) (by decide) (frame_refl _ _)))))) (frame_refl _ _)) (frame_step
      (zeroClaims_frame _ _ _) (by decide) (frame_step (raise_frame _ _ _) (by decide) (frame_refl _ _))))))

theorem LaneSt.endSession_frame (L : LaneSt) :
    L.frame [.regs, .mbx, .sec] (LaneSt.endSession L) := by
  unfold LaneSt.endSession
  exact (frame_ite (frame_step (closeSession_frame _) (by decide) (frame_refl _ _)) (frame_step (updMbx_frame _ _) (by
      decide) (frame_refl _ _)))

theorem LaneSt.abortSlice_frame (L : LaneSt) (crcOk : Bool) :
    L.frame [.regs, .fc, .sys, .chn, .aux] (LaneSt.abortSlice L crcOk) := by
  unfold LaneSt.abortSlice
  exact (frame_ite (frame_step (frame_chn _ _) (by decide) (frame_step (raiseIf_frame _ _ _ _) (by decide) (frame_step
      (wr_frame _ _ _) (by decide) (frame_step (wr_frame _ _ _) (by decide) (frame_refl _ _))))) (frame_refl _ _))

theorem LaneSt.report_frame (L : LaneSt) (result : Nat) (reason : Nat) (block : Nat) :
    L.frame [.regs] (LaneSt.report L result reason block) := by
  unfold LaneSt.report
  exact (frame_step (inc_frame _ _ _) (by decide) (frame_step (wr_frame _ _ _) (by decide) (frame_step (wr_frame _ _
      _) (by decide) (frame_step (wr_frame _ _ _) (by decide) (frame_refl _ _)))))

theorem LaneSt.dropPending_frame (L : LaneSt) :
    L.frame [.regs] (LaneSt.dropPending L) := by
  unfold LaneSt.dropPending
  exact (frame_ite (frame_step (report_frame _ _ _ _) (by decide) (frame_step (put_frame _ _ _) (by decide)
      (frame_refl _ _))) (frame_refl _ _))

theorem LaneSt.preempt_frame (L : LaneSt) :
    L.frame [.regs, .sys] (LaneSt.preempt L) := by
  unfold LaneSt.preempt
  exact (frame_step (dropPending_frame _) (by decide) (frame_seq (frame_ite (frame_refl _ _) (frame_step (report_frame
      _ _ _ _) (by decide) (frame_step (wr_frame _ _ _) (by decide) (frame_refl _ _)))) (frame_ite (frame_step
      (clockDown_frame _ _) (by decide) (frame_refl _ _)) (frame_refl _ _))))

theorem LaneSt.foldStop_frame (L : LaneSt) (l : Lane) :
    L.frame [.safe] (LaneSt.foldStop L l) := by
  unfold LaneSt.foldStop
  exact (frame_ite (frame_step (frame_safe _ _) (by decide) (frame_refl _ _)) (frame_step (frame_safe _ _) (by decide)
      (frame_refl _ _)))

theorem LaneSt.enterFold_frame (L : LaneSt) (l : Lane) (crcOk : Bool) :
    L.frame [.regs, .fc, .sys, .safe, .chn, .mbx, .sec, .aux] (LaneSt.enterFold L l crcOk) := by
  unfold LaneSt.enterFold
  exact (frame_step (driveFaultX_frame _) (by decide) (frame_step (foldStop_frame _ _) (by decide) (frame_seq
      (frame_step (frame_sys_safe _ _ _) (by decide) (frame_refl _ _)) (frame_seq (frame_step (wr_frame _ _ _) (by
      decide) (frame_step (wr_frame _ _ _) (by decide) (frame_refl _ _))) (frame_step (endSession_frame _) (by decide)
      (frame_step (abortSlice_frame _ _) (by decide) (frame_step (preempt_frame _) (by decide) (frame_refl _ _))))))))

theorem LaneSt.judge_frame (L : LaneSt) (l : Lane) (r : Rnd) (odd : Nat) (conflict : Bool) :
    L.frame [.regs, .fc, .sys, .agr, .com, .safe, .chn, .mbx, .sec, .aux] (LaneSt.judge L l r odd conflict) := by
  unfold LaneSt.judge
  exact (frame_ite (frame_ite (frame_seq (frame_step (raise_frame _ _ _) (by decide) (frame_refl _ _)) (frame_seq
      (frame_ite (frame_step (selfOdd_frame _ _ _) (by decide) (frame_refl _ _)) (frame_refl _ _)) (frame_seq
      (frame_step (setVoting_frame _ _) (by decide) (frame_refl _ _)) (frame_seq (frame_step (noteMissing_frame _ _)
      (by decide) (frame_refl _ _)) (frame_seq (frame_for3 (fun _ _ => (frame_ite (frame_step (otherOdd_frame _ _ _)
      (by decide) (frame_refl _ _)) (frame_refl _ _))) _) (frame_refl _ _)))))) (frame_step (updSafe_frame _ _) (by
      decide) (frame_step (enterFold_frame _ _ _) (by decide) (frame_seq (frame_step (raise_frame _ _ _) (by decide)
      (frame_refl _ _)) (frame_seq (frame_ite (frame_step (selfOdd_frame _ _ _) (by decide) (frame_refl _ _))
      (frame_refl _ _)) (frame_seq (frame_step (setVoting_frame _ _) (by decide) (frame_refl _ _)) (frame_seq
      (frame_step (noteMissing_frame _ _) (by decide) (frame_refl _ _)) (frame_seq (frame_for3 (fun _ _ => (frame_ite
      (frame_step (otherOdd_frame _ _ _) (by decide) (frame_refl _ _)) (frame_refl _ _))) _) (frame_refl _ _)))))))))
      (frame_seq (frame_ite (frame_step (selfOdd_frame _ _ _) (by decide) (frame_refl _ _)) (frame_refl _ _))
      (frame_seq (frame_step (setVoting_frame _ _) (by decide) (frame_refl _ _)) (frame_seq (frame_step
      (noteMissing_frame _ _) (by decide) (frame_refl _ _)) (frame_seq (frame_for3 (fun _ _ => (frame_ite (frame_step
      (otherOdd_frame _ _ _) (by decide) (frame_refl _ _)) (frame_refl _ _))) _) (frame_refl _ _))))))

theorem LaneSt.dropChallenge_frame (L : LaneSt) :
    L.frame [.regs, .sec] (LaneSt.dropChallenge L) := by
  unfold LaneSt.dropChallenge
  exact (frame_step (updSec_frame _ _) (by decide) (frame_step (put_frame _ _ _) (by decide) (frame_refl _ _)))

theorem LaneSt.unlockFailed_frame (L : LaneSt) (l : Lane) (r : Req) :
    L.frame [.regs, .mem, .fc, .sys, .nvm, .agr, .com, .mbx, .sec, .aux, .core] (LaneSt.unlockFailed L l r) := by
  unfold LaneSt.unlockFailed
  exact (frame_ite (frame_step (latchRind_frame _ _ _) (by decide) (frame_step (put_frame _ _ _) (by decide)
      (frame_seq (frame_step (finish_frame _ _ _ _) (by decide) (frame_refl _ _)) (frame_seq (frame_ite (frame_step
      (put_frame _ _ _) (by decide) (frame_refl _ _)) (frame_refl _ _)) (frame_seq (frame_step (wr_frame _ _ _) (by
      decide) (frame_step (wr_frame _ _ _) (by decide) (frame_refl _ _))) (frame_step (tally_frame _ _ _ _ _ _) (by
      decide) (frame_step (raise_frame _ _ _) (by decide) (frame_step (dropChallenge_frame _) (by decide) (frame_refl
      _ _))))))))) (frame_seq (frame_step (finish_frame _ _ _ _) (by decide) (frame_refl _ _)) (frame_seq (frame_ite
      (frame_step (put_frame _ _ _) (by decide) (frame_refl _ _)) (frame_refl _ _)) (frame_seq (frame_step (wr_frame _
      _ _) (by decide) (frame_step (wr_frame _ _ _) (by decide) (frame_refl _ _))) (frame_step (tally_frame _ _ _ _ _
      _) (by decide) (frame_step (raise_frame _ _ _) (by decide) (frame_step (dropChallenge_frame _) (by decide)
      (frame_refl _ _))))))))

theorem LaneSt.updAux_frame (L : LaneSt) (f : AuxSt → AuxSt) :
    L.frame [.aux] (LaneSt.updAux L f) := by
  unfold LaneSt.updAux
  exact (frame_step (frame_aux _ _) (by decide) (frame_refl _ _))

theorem LaneSt.startMotion_frame (L : LaneSt) (run : AuxRun) (state : Nat) (goal : Int) :
    L.frame [.regs, .aux] (LaneSt.startMotion L run state goal) := by
  unfold LaneSt.startMotion
  exact (frame_step (driveCoils_frame _ _) (by decide) (frame_step (updAux_frame _ _) (by decide) (frame_seq
      (frame_ite (frame_step (put_frame _ _ _) (by decide) (frame_refl _ _)) (frame_refl _ _)) (frame_step (put_frame
      _ _ _) (by decide) (frame_step (wr_frame _ _ _) (by decide) (frame_step (wr_frame _ _ _) (by decide) (frame_refl
      _ _)))))))

theorem LaneSt.takeWish_frame (L : LaneSt) :
    L.frame [.regs, .aux] (LaneSt.takeWish L) := by
  unfold LaneSt.takeWish
  exact (frame_ite (frame_refl _ _) (by (try dsimp only); split; exact (frame_refl _ _); exact (by (try dsimp only); split; exact (frame_ite (frame_step (updAux_frame _ _) (by decide) (frame_refl _ _)) (frame_step (startMotion_frame _ _ _ _) (by decide) (frame_step (updAux_frame _ _) (by decide) (frame_refl _ _)))); exact (frame_ite (frame_step (updAux_frame _ _) (by decide) (frame_refl _ _)) (frame_step (updAux_frame _ _) (by decide) (frame_step (unref_frame _) (by decide) (frame_step (startMotion_frame _ _ _ _) (by decide) (frame_step (updAux_frame _ _) (by decide) (frame_refl _ _)))))))))

theorem LaneSt.debugModule_frame (L : LaneSt) (r : DbgReg) (v : Word) :
    L.frame [.core] (LaneSt.debugModule L r v) := by
  unfold LaneSt.debugModule
  exact (by (try dsimp only); split; exact (frame_step (updCore_frame _ _) (by decide) (frame_refl _ _)); exact (frame_step (updCore_frame _ _) (by decide) (frame_refl _ _)); exact (frame_refl _ _))

theorem LaneSt.setFused_frame (L : LaneSt) (f : Nat) :
    L.frame [.regs] (LaneSt.setFused L f) := by
  unfold LaneSt.setFused
  exact (frame_step (wr_frame _ _ _) (by decide) (frame_step (wr_frame _ _ _) (by decide) (frame_refl _ _)))

theorem LaneSt.fuse_frame (L : LaneSt) (thCal : Nat) :
    L.frame [.regs, .fc, .sys, .pos, .aux] (LaneSt.fuse L thCal) := by
  unfold LaneSt.fuse
  exact (frame_ite (frame_step (setFused_frame _ _) (by decide) (frame_step (updPos_frame _ _) (by decide) (frame_refl
      _ _))) (frame_ite (frame_step (raise_frame _ _ _) (by decide) (frame_step (setFused_frame _ _) (by decide)
      (frame_step (updPos_frame _ _) (by decide) (frame_step (updPos_frame _ _) (by decide) (frame_refl _ _)))))
      (frame_step (setFused_frame _ _) (by decide) (frame_step (updPos_frame _ _) (by decide) (frame_refl _ _)))))

theorem LaneSt.setVel_frame (L : LaneSt) (v : Int) :
    L.frame [.regs, .aux] (LaneSt.setVel L v) := by
  unfold LaneSt.setVel
  exact (frame_step (updAux_frame _ _) (by decide) (frame_step (wrS_frame _ _ _) (by decide) (frame_refl _ _)))

theorem LaneSt.rest_frame (L : LaneSt) (onGoal : Bool) :
    L.frame [.regs, .aux] (LaneSt.rest L onGoal) := by
  unfold LaneSt.rest
  exact (by (try dsimp only); split; exact (frame_step (updAux_frame _ _) (by decide) (frame_step (setVel_frame _ _) (by decide) (frame_refl _ _))); exact (frame_step (updAux_frame _ _) (by decide) (frame_seq (frame_ite (frame_step (holdCoils_frame _) (by decide) (frame_refl _ _)) (frame_refl _ _)) (frame_seq (frame_ite (frame_refl _ _) (frame_step (wr_frame _ _ _) (by decide) (frame_refl _ _))) (frame_step (setVel_frame _ _) (by decide) (frame_refl _ _))))))

theorem LaneSt.limitTrip_frame (L : LaneSt) (sw : Nat) :
    L.frame [.regs, .fc, .sys, .aux] (LaneSt.limitTrip L sw) := by
  unfold LaneSt.limitTrip
  exact (frame_ite (frame_ite (frame_step (rest_frame _ _) (by decide) (frame_step (updAux_frame _ _) (by decide)
      (frame_seq (frame_step (unref_frame _) (by decide) (frame_refl _ _)) (frame_step (raise_frame _ _ _) (by decide)
      (frame_refl _ _))))) (frame_step (updAux_frame _ _) (by decide) (frame_step (wr_frame _ _ _) (by decide)
      (frame_seq (frame_step (unref_frame _) (by decide) (frame_refl _ _)) (frame_step (raise_frame _ _ _) (by decide)
      (frame_refl _ _)))))) (frame_ite (frame_step (updAux_frame _ _) (by decide) (frame_step (raise_frame _ _ _) (by
      decide) (frame_refl _ _))) (frame_ite (frame_step (rest_frame _ _) (by decide) (frame_step (raise_frame _ _ _)
      (by decide) (frame_refl _ _))) (frame_step (raise_frame _ _ _) (by decide) (frame_refl _ _)))))

theorem LaneSt.updChn_frame (L : LaneSt) (f : ChnSt → ChnSt) :
    L.frame [.chn] (LaneSt.updChn L f) := by
  unfold LaneSt.updChn
  exact (frame_step (frame_chn _ _) (by decide) (frame_refl _ _))

theorem LaneSt.takeover_frame (L : LaneSt) (l : Lane) :
    L.frame [.regs, .chn] (LaneSt.takeover L l) := by
  unfold LaneSt.takeover
  exact (by (try dsimp only); split; exact (frame_ite (frame_refl _ _) (frame_step (updChn_frame _ _) (by decide) (frame_step (wr_frame _ _ _) (by decide) (frame_step (put_frame _ _ _) (by decide) (frame_refl _ _))))); exact (frame_ite (frame_step (updChn_frame _ _) (by decide) (frame_step (wr_frame _ _ _) (by decide) (frame_step (put_frame _ _ _) (by decide) (frame_refl _ _)))) (frame_refl _ _)))

theorem LaneSt.copyPackages_frame (L : LaneSt) (l : Lane) (nr : Nat) :
    L.frame [.agr] (LaneSt.copyPackages L l nr) := by
  unfold LaneSt.copyPackages
  exact (frame_seq (frame_for3 (fun _ _ => (frame_ite (frame_step (updAgr_frame _ _) (by decide) (frame_refl _ _))
      (frame_refl _ _))) _) (frame_refl _ _))

theorem LaneSt.showSilence_frame (L : LaneSt) (c : CanId) :
    L.frame [.regs] (LaneSt.showSilence L c) := by
  unfold LaneSt.showSilence
  exact (by (try dsimp only); split; exact (frame_step (wr_frame _ _ _) (by decide) (frame_refl _ _)); exact (frame_step (wr_frame _ _ _) (by decide) (frame_refl _ _)))

theorem LaneSt.canSlot_frame (L : LaneSt) (t0 : Nat) :
    L.frame [.regs] (LaneSt.canSlot L t0) := by
  unfold LaneSt.canSlot
  exact (frame_step (showSilence_frame _ _) (by decide) (frame_step (wr_frame _ _ _) (by decide) (frame_step
      (showSilence_frame _ _) (by decide) (frame_step (wr_frame _ _ _) (by decide) (frame_refl _ _)))))

theorem LaneSt.actCalSave_frame (L : LaneSt) (l : Lane) (h : Held) :
    L.frame [.regs, .mem, .nvm, .com, .mbx] (LaneSt.actCalSave L l h) := by
  unfold LaneSt.actCalSave
  exact (frame_step (finish_frame _ _ _ _) (by decide) (frame_step (tally_frame _ _ _ _ _ _) (by decide) (frame_step
      (wr_frame _ _ _) (by decide) (frame_step (frame_com _ _) (by decide) (frame_step (updCal_frame _ _) (by decide)
      (frame_refl _ _))))))

theorem LaneSt.deferredErase_frame (L : LaneSt) (l : Lane) :
    L.frame [.regs, .mem, .nvm, .sec] (LaneSt.deferredErase L l) := by
  unfold LaneSt.deferredErase
  exact (frame_ite (frame_step (eraseControl_frame _ _) (by decide) (frame_refl _ _)) (frame_refl _ _))

theorem LaneSt.fresh_frame (L : LaneSt) :
    L.frame [.free] (LaneSt.fresh L).2 := by
  unfold LaneSt.fresh
  exact (frame_step (frame_free _ _) (by decide) (frame_refl _ _))

theorem LaneSt.recGood_frame (L : LaneSt) (c : CanId) :
    L.frame [.regs, .free] (LaneSt.recGood L c) := by
  unfold LaneSt.recGood
  exact (frame_ite (frame_step (put_frame _ _ _) (by decide) (frame_ite (frame_step (wr_frame _ _ _) (by decide)
      (frame_step (fresh_frame _) (by decide) (frame_refl _ _))) (frame_step (wr_frame _ _ _) (by decide) (frame_refl
      _ _)))) (frame_ite (frame_step (wr_frame _ _ _) (by decide) (frame_step (fresh_frame _) (by decide) (frame_refl
      _ _))) (frame_step (wr_frame _ _ _) (by decide) (frame_refl _ _))))

theorem LaneSt.unmask_frame (L : LaneSt) (i : Nat) (m : AgrMsg) :
    L.frame [.fc] (LaneSt.unmask L i m) := by
  unfold LaneSt.unmask
  exact (frame_ite (frame_step (endMask_frame _ _) (by decide) (frame_refl _ _)) (frame_refl _ _))

theorem LaneSt.welcome_frame (L : LaneSt) (u : Tri (Option AgrMsg)) :
    L.frame [.regs, .fc, .agr] (LaneSt.welcome L u) := by
  unfold LaneSt.welcome
  exact (frame_seq (frame_for3 (fun _ _ => (by (try dsimp only); split; exact (frame_ite (frame_step (updAgr_frame _ _) (by decide) (frame_step (put_frame _ _ _) (by decide) (frame_step (unmask_frame _ _ _) (by decide) (frame_refl _ _)))) (frame_refl _ _)); exact (frame_refl _ _))) _) (frame_refl _ _))

theorem LaneSt.segment_frame (L : LaneSt) (key : Nat) (msg : Nat) (index : Nat) (count : Nat) :
    L.frame [.mbx] (LaneSt.segment L key msg index count) := by
  unfold LaneSt.segment
  exact (frame_ite (frame_ite (frame_refl _ _) (frame_step (updMbx_frame _ _) (by decide) (frame_refl _ _)))
      (frame_step (updMbx_frame _ _) (by decide) (frame_refl _ _)))

theorem LaneSt.flockSegment_frame (L : LaneSt) (f : FlockFrame) :
    L.frame [.mbx] (LaneSt.flockSegment L f) := by
  unfold LaneSt.flockSegment
  exact (by (try dsimp only); split; exact (frame_ite (frame_step (segment_frame _ _ _ _ _) (by decide) (frame_refl _ _)) (frame_refl _ _)); exact (frame_refl _ _))

theorem LaneSt.copyClm_frame (L : LaneSt) (i : Nat) (g : StageSt) :
    L.frame [.regs] (LaneSt.copyClm L i g) := by
  unfold LaneSt.copyClm
  exact (frame_step (wr_frame _ _ _) (by decide) (frame_step (put_frame _ _ _) (by decide) (frame_step (put_frame _ _
      _) (by decide) (frame_step (put_frame _ _ _) (by decide) (frame_step (wr_frame _ _ _) (by decide) (frame_step
      (wr_frame _ _ _) (by decide) (frame_step (wr_frame _ _ _) (by decide) (frame_refl _ _))))))))

theorem LaneSt.setSpd_frame (L : LaneSt) (i : Nat) (r : SpdRec) :
    L.frame [.pos] (LaneSt.setSpd L i r) := by
  unfold LaneSt.setSpd
  exact (frame_step (updPos_frame _ _) (by decide) (frame_refl _ _))

theorem LaneSt.stand_frame (L : LaneSt) (i : Nat) :
    L.frame [.regs, .pos] (LaneSt.stand L i) := by
  unfold LaneSt.stand
  exact (frame_step (wr_frame _ _ _) (by decide) (frame_step (setSpd_frame _ _ _) (by decide) (frame_step (wr_frame _
      _ _) (by decide) (frame_refl _ _))))

theorem LaneSt.speedSlot_frame (L : LaneSt) (i : Nat) (t0 : Nat) :
    L.frame [.regs, .pos] (LaneSt.speedSlot L i t0) := by
  unfold LaneSt.speedSlot
  exact (frame_ite (frame_step (stand_frame _ _) (by decide) (frame_step (setSpd_frame _ _ _) (by decide) (frame_refl
      _ _))) (frame_ite (frame_step (wr_frame _ _ _) (by decide) (frame_step (setSpd_frame _ _ _) (by decide)
      (frame_refl _ _))) (frame_step (wrS_frame _ _ _) (by decide) (frame_step (wr_frame _ _ _) (by decide)
      (frame_step (setSpd_frame _ _ _) (by decide) (frame_refl _ _))))))

theorem LaneSt.endTransition_frame (L : LaneSt) (result : Nat) (reason : Nat) (block : Nat) :
    L.frame [.regs] (LaneSt.endTransition L result reason block) := by
  unfold LaneSt.endTransition
  exact (frame_step (dropPending_frame _) (by decide) (frame_step (report_frame _ _ _ _) (by decide) (frame_step
      (wr_frame _ _ _) (by decide) (frame_step (wr_frame _ _ _) (by decide) (frame_refl _ _)))))

theorem LaneSt.failArm_frame (L : LaneSt) (why : Nat) (block : Nat) :
    L.frame [.regs, .sys] (LaneSt.failArm L why block) := by
  unfold LaneSt.failArm
  exact (frame_step (endTransition_frame _ _ _ _) (by decide) (frame_step (clockDown_frame _ _) (by decide)
      (frame_refl _ _)))

theorem LaneSt.timeOut_frame (L : LaneSt) (t : Nat) :
    L.frame [.regs, .sys] (LaneSt.timeOut L t) := by
  unfold LaneSt.timeOut
  exact (frame_ite (frame_ite (frame_step (endTransition_frame _ _ _ _) (by decide) (frame_refl _ _)) (frame_refl _
      _)) (frame_ite (frame_ite (frame_step (failArm_frame _ _ _) (by decide) (frame_refl _ _)) (frame_refl _ _))
      (frame_ite (frame_step (endTransition_frame _ _ _ _) (by decide) (frame_refl _ _)) (frame_refl _ _))))

theorem LaneSt.linkError_frame (L : LaneSt) (a : Nat) (b : Nat) :
    L.frame [.agr] (LaneSt.linkError L a b) := by
  unfold LaneSt.linkError
  exact (frame_step (updAgr_frame _ _) (by decide) (frame_refl _ _))

theorem LaneSt.takeNtc_frame (L : LaneSt) :
    L.frame [.com] (LaneSt.takeNtc L) := by
  unfold LaneSt.takeNtc
  exact (frame_seq (frame_for3 (fun _ _ => (by (try dsimp only); split; exact (frame_step (frame_com _ _) (by decide) (frame_refl _ _)); exact (frame_refl _ _))) _) (frame_refl _ _))

theorem LaneSt.updPwr_frame (L : LaneSt) (f : PwrSt → PwrSt) :
    L.frame [.pwr] (LaneSt.updPwr L f) := by
  unfold LaneSt.updPwr
  exact (frame_step (frame_pwr _ _) (by decide) (frame_refl _ _))

theorem LaneSt.setSp_frame (L : LaneSt) (i : Nat) (p : SpPort) :
    L.frame [.pos] (LaneSt.setSp L i p) := by
  unfold LaneSt.setSp
  exact (frame_ite (frame_step (frame_pos _ _) (by decide) (frame_refl _ _)) (frame_step (frame_pos _ _) (by decide)
      (frame_refl _ _)))

theorem LaneSt.spInvalid_frame (L : LaneSt) (i : Nat) :
    L.frame [.regs, .pos] (LaneSt.spInvalid L i) := by
  unfold LaneSt.spInvalid
  exact (frame_step (put_frame _ _ _) (by decide) (frame_step (setSp_frame _ _ _) (by decide) (frame_refl _ _)))

theorem LaneSt.spDies_frame (L : LaneSt) (i : Nat) :
    L.frame [.regs, .pos] (LaneSt.spDies L i) := by
  unfold LaneSt.spDies
  exact (frame_ite (frame_refl _ _) (frame_step (spInvalid_frame _ _) (by decide) (frame_refl _ _)))

theorem LaneSt.srcStat_frame (L : LaneSt) :
    L.frame [.regs] (LaneSt.srcStat L) := by
  unfold LaneSt.srcStat
  exact (frame_step (put_frame _ _ _) (by decide) (frame_step (wr_frame _ _ _) (by decide) (frame_refl _ _)))

theorem LaneSt.dropSensors_frame (L : LaneSt) :
    L.frame [.regs, .pos] (LaneSt.dropSensors L) := by
  unfold LaneSt.dropSensors
  exact (frame_step (srcStat_frame _) (by decide) (frame_step (updPos_frame _ _) (by decide) (frame_step (put_frame _
      _ _) (by decide) (frame_step (spDies_frame _ _) (by decide) (frame_step (spDies_frame _ _) (by decide)
      (frame_refl _ _))))))

theorem LaneSt.loseSupply_frame (L : LaneSt) (id : Nat) (t : Nat) :
    L.frame [.regs, .fc, .pwr, .sys, .pos, .aux] (LaneSt.loseSupply L id t) := by
  unfold LaneSt.loseSupply
  exact (frame_step (dropSensors_frame _) (by decide) (frame_step (auxAbort_frame _ _) (by decide) (frame_seq
      (frame_step (updPwr_frame _ _) (by decide) (frame_step (zeroClaims_frame _ _ _) (by decide) (frame_refl _ _)))
      (frame_step (openMask_frame _ _) (by decide) (frame_step (raise_frame _ _ _) (by decide) (frame_refl _ _))))))

theorem LaneSt.updCan_frame (L : LaneSt) (c : CanId) (f : CanSt → CanSt) :
    L.frame [.can1, .can2] (LaneSt.updCan L c f) := by
  unfold LaneSt.updCan
  exact (by (try dsimp only); split; exact (frame_step (frame_can1 _ _) (by decide) (frame_refl _ _)); exact (frame_step (frame_can2 _ _) (by decide) (frame_refl _ _)))

theorem LaneSt.setCan_frame (L : LaneSt) (c : CanId) (f : CanSt → CanSt) :
    L.frame [.regs, .can1, .can2] (LaneSt.setCan L c f) := by
  unfold LaneSt.setCan
  exact (frame_step (wr_frame _ _ _) (by decide) (frame_step (updCan_frame _ _ _) (by decide) (frame_refl _ _)))

theorem LaneSt.canMailbox_frame (L : LaneSt) (c : CanId) :
    L.frame [.regs] (LaneSt.canMailbox L c) := by
  unfold LaneSt.canMailbox
  exact (frame_ite (frame_step (put_frame _ _ _) (by decide) (frame_step (put_frame _ _ _) (by decide) (frame_seq
      (frame_step (wr_frame _ _ _) (by decide) (frame_refl _ _)) (frame_seq (frame_step (put_frame _ _ _) (by decide)
      (frame_step (wr_frame _ _ _) (by decide) (frame_refl _ _))) (frame_step (put_frame _ _ _) (by decide)
      (frame_step (put_frame _ _ _) (by decide) (frame_step (put_frame _ _ _) (by decide) (frame_refl _ _))))))))
      (frame_refl _ _))

theorem LaneSt.canStart_frame (L : LaneSt) (c : CanId) :
    L.frame [.regs, .can1, .can2] (LaneSt.canStart L c) := by
  unfold LaneSt.canStart
  exact (frame_step (canMailbox_frame _ _) (by decide) (frame_seq (frame_step (setCan_frame _ _ _) (by decide)
      (frame_refl _ _)) (frame_ite (frame_refl _ _) (frame_step (wr_frame _ _ _) (by decide) (frame_step (wr_frame _ _
      _) (by decide) (frame_refl _ _))))))

theorem LaneSt.intoForce_frame (L : LaneSt) :
    L.frame [.regs, .nvm, .can1, .can2] (LaneSt.intoForce L) := by
  unfold LaneSt.intoForce
  exact (frame_seq (frame_foldl (fun _ _ => (frame_ite (frame_step (canStart_frame _ _) (by decide) (frame_refl _ _))
      (frame_step (canMailbox_frame _ _) (by decide) (frame_refl _ _)))) _ _) (frame_step (frame_nvm _ _) (by decide)
      (frame_refl _ _)))

theorem LaneSt.dropImage_frame (L : LaneSt) (f : ImgFacts) :
    L.frame [.regs, .nvm, .com, .mbx, .flk, .can1, .can2] (LaneSt.dropImage L f) := by
  unfold LaneSt.dropImage
  exact (frame_step (canMailbox_frame _ _) (by decide) (frame_step (wr_frame _ _ _) (by decide) (frame_step
      (updCan_frame _ _ _) (by decide) (frame_step (updCan_frame _ _ _) (by decide) (frame_step (updFlk_frame _ _) (by
      decide) (frame_step (updMbx_frame _ _) (by decide) (frame_step (frame_nvm_com _ _ _) (by decide) (frame_seq
      (frame_step (wr_frame _ _ _) (by decide) (frame_refl _ _)) (frame_seq (frame_foldl (fun _ _ => (frame_step
      (setReg_frame _ _ _) (by decide) (frame_refl _ _))) _ _) (frame_refl _ _))))))))))

theorem LaneSt.withoutImage_frame (L : LaneSt) :
    L.frame [.regs, .nvm, .com, .mbx, .flk, .can1, .can2] (LaneSt.withoutImage L) := by
  unfold LaneSt.withoutImage
  exact (by (try dsimp only); split; exact (frame_step (dropImage_frame _ _) (by decide) (frame_refl _ _)); exact (frame_step (frame_nvm _ _) (by decide) (frame_refl _ _)))

theorem LaneSt.checkDone_frame (L : LaneSt) :
    L.frame [.regs, .fc, .sys, .nvm, .com, .mbx, .aux, .flk, .can1, .can2] (LaneSt.checkDone L) := by
  unfold LaneSt.checkDone
  exact (frame_ite (frame_refl _ _) (frame_ite (frame_step (intoForce_frame _) (by decide) (frame_refl _ _))
      (frame_ite (frame_step (withoutImage_frame _) (by decide) (frame_refl _ _)) (frame_step (raise_frame _ _ _) (by
      decide) (frame_refl _ _)))))

theorem LaneSt.goSilent_frame (L : LaneSt) :
    L.frame [.regs, .fc] (LaneSt.goSilent L) := by
  unfold LaneSt.goSilent
  exact (frame_step (frame_fc _ _) (by decide) (frame_step (endMask_frame _ _) (by decide) (frame_step
      (zeroClaims_frame _ _ _) (by decide) (frame_step (wr_frame _ _ _) (by decide) (frame_refl _ _)))))

theorem LaneSt.resyncFail_frame (L : LaneSt) (code : Nat) (t : Nat) :
    L.frame [.regs, .fc, .sys, .agr, .com, .aux] (LaneSt.resyncFail L code t) := by
  unfold LaneSt.resyncFail
  exact (frame_ite (frame_step (goSilent_frame _) (by decide) (frame_step (raise_frame _ _ _) (by decide) (frame_step
      (put_frame _ _ _) (by decide) (frame_seq (frame_step (updAgr_frame _ _) (by decide) (frame_step (wr_frame _ _ _)
      (by decide) (frame_step (resetControl_frame _) (by decide) (frame_refl _ _)))) (frame_step (raise_frame _ _ _)
      (by decide) (frame_step (wr_frame _ _ _) (by decide) (frame_step (wr_frame _ _ _) (by decide) (frame_refl _
      _)))))))) (frame_seq (frame_step (updAgr_frame _ _) (by decide) (frame_step (wr_frame _ _ _) (by decide)
      (frame_step (resetControl_frame _) (by decide) (frame_refl _ _)))) (frame_step (raise_frame _ _ _) (by decide)
      (frame_step (wr_frame _ _ _) (by decide) (frame_step (wr_frame _ _ _) (by decide) (frame_refl _ _))))))

theorem LaneSt.shadowRound_frame (L : LaneSt) (r : Rnd) :
    L.frame [.regs, .fc, .sys, .agr, .com, .aux] (LaneSt.shadowRound L r) := by
  unfold LaneSt.shadowRound
  exact (by (try dsimp only); split; exact (frame_ite (frame_ite (frame_step (resyncFail_frame _ _ _) (by decide) (frame_step (updAgr_frame _ _) (by decide) (frame_refl _ _))) (frame_step (updAgr_frame _ _) (by decide) (frame_refl _ _))) (frame_refl _ _)); exact (frame_refl _ _))

theorem LaneSt.measureBoot_frame (L : LaneSt) :
    L.frame [.sec] (LaneSt.measureBoot L) := by
  unfold LaneSt.measureBoot
  exact (frame_step (updSec_frame _ _) (by decide) (frame_refl _ _))

theorem LaneSt.bump_frame (L : LaneSt) (i : Nat) (d : Int) :
    L.frame [.regs, .pos] (LaneSt.bump L i d) := by
  unfold LaneSt.bump
  exact (frame_step (updPos_frame _ _) (by decide) (frame_step (wrS_frame _ _ _) (by decide) (frame_refl _ _)))

theorem LaneSt.correct_frame (L : LaneSt) (e : Int) :
    L.frame [.regs, .pos] (LaneSt.correct L e) := by
  unfold LaneSt.correct
  exact (frame_step (wrS_frame _ _ _) (by decide) (frame_seq (frame_ite (frame_step (inc_frame _ _ _) (by decide)
      (frame_refl _ _)) (frame_refl _ _)) (frame_step (updPos_frame _ _) (by decide) (frame_step (bump_frame _ _ _)
      (by decide) (frame_refl _ _)))))

theorem LaneSt.ackClass_frame (L : LaneSt) (c : Nat) :
    L.frame [.regs, .fc] (LaneSt.ackClass L c) := by
  unfold LaneSt.ackClass
  exact (frame_step (frame_fc _ _) (by decide) (frame_step (wr_frame _ _ _) (by decide) (frame_step (put_frame _ _ _)
      (by decide) (frame_refl _ _))))

theorem LaneSt.ackClasses_frame (L : LaneSt) (l : Lane) (m : Nat) :
    L.frame [.regs, .fc] (LaneSt.ackClasses L l m) := by
  unfold LaneSt.ackClasses
  exact (frame_step (refreshClaims_frame _ _) (by decide) (frame_seq (frame_forN (fun _ _ => (frame_ite (frame_step
      (ackClass_frame _ _) (by decide) (frame_refl _ _)) (frame_refl _ _))) _ _) (frame_refl _ _)))

theorem LaneSt.refuseWrite_frame (L : LaneSt) :
    L.frame [.regs, .fc, .sys, .aux] (LaneSt.refuseWrite L) := by
  unfold LaneSt.refuseWrite
  exact (frame_step (raise_frame _ _ _) (by decide) (frame_refl _ _))

theorem LaneSt.rearmFirst_frame (L : LaneSt) :
    L.frame [.regs] (LaneSt.rearmFirst L) := by
  unfold LaneSt.rearmFirst
  exact (frame_step (put_frame _ _ _) (by decide) (frame_step (put_frame _ _ _) (by decide) (frame_step (put_frame _ _
      _) (by decide) (frame_step (setReg_frame _ _ _) (by decide) (frame_refl _ _)))))

theorem LaneSt.returnClaims_frame (L : LaneSt) (l : Lane) (i : Nat) :
    L.frame [.regs, .pwr] (LaneSt.returnClaims L l i) := by
  unfold LaneSt.returnClaims
  exact (frame_ite (frame_step (refreshClaims_frame _ _) (by decide) (frame_step (frame_pwr _ _) (by decide)
      (frame_refl _ _))) (frame_refl _ _))

theorem LaneSt.setCoefs_frame (L : LaneSt) (c : List Int) :
    L.frame [.regs] (LaneSt.setCoefs L c) := by
  unfold LaneSt.setCoefs
  exact (frame_seq (frame_forN (fun _ _ => (frame_step (wrS_frame _ _ _) (by decide) (frame_refl _ _))) _ _)
      (frame_refl _ _))

theorem LaneSt.startPos_frame (L : LaneSt) (f : BootFacts) :
    L.frame [.regs, .pos] (LaneSt.startPos L f) := by
  unfold LaneSt.startPos
  exact (frame_ite (frame_step (updPos_frame _ _) (by decide) (frame_step (wr_frame _ _ _) (by decide) (frame_seq
      (frame_step (wr_frame _ _ _) (by decide) (frame_refl _ _)) (frame_seq (frame_step (updPos_frame _ _) (by decide)
      (frame_step (wr_frame _ _ _) (by decide) (frame_refl _ _))) (frame_step (setCoefs_frame _ _) (by decide)
      (frame_refl _ _)))))) (frame_seq (frame_step (wr_frame _ _ _) (by decide) (frame_refl _ _)) (frame_seq
      (frame_step (updPos_frame _ _) (by decide) (frame_step (wr_frame _ _ _) (by decide) (frame_refl _ _)))
      (frame_step (setCoefs_frame _ _) (by decide) (frame_refl _ _)))))

theorem LaneSt.startEngines_frame (L : LaneSt) (f : BootFacts) :
    L.frame [.regs, .pos, .chn, .can1, .can2] (LaneSt.startEngines L f) := by
  unfold LaneSt.startEngines
  exact (frame_step (wr_frame _ _ _) (by decide) (frame_seq (frame_step (put_frame _ _ _) (by decide) (frame_step
      (canStart_frame _ _) (by decide) (frame_step (canStart_frame _ _) (by decide) (frame_refl _ _)))) (frame_seq
      (frame_step (frame_chn _ _) (by decide) (frame_refl _ _)) (frame_step (startPos_frame _ _) (by decide)
      (frame_refl _ _)))))

theorem LaneSt.onEdge_frame (L : LaneSt) (i : Nat) (d : Int) (t : Nat) :
    L.frame [.regs, .pos] (LaneSt.onEdge L i d t) := by
  unfold LaneSt.onEdge
  exact (frame_step (wr_frame _ _ _) (by decide) (frame_step (setSpd_frame _ _ _) (by decide) (frame_step (wr_frame _
      _ _) (by decide) (frame_refl _ _))))

theorem LaneSt.hallLegal_frame (L : LaneSt) (d : Int) (t : Nat) :
    L.frame [.regs, .pos] (LaneSt.hallLegal L d t) := by
  unfold LaneSt.hallLegal
  exact (frame_step (onEdge_frame _ _ _ _) (by decide) (frame_step (updPos_frame _ _) (by decide) (frame_step
      (bump_frame _ _ _) (by decide) (frame_refl _ _))))

theorem LaneSt.hallSkip_frame (L : LaneSt) (d : Int) (t : Nat) :
    L.frame [.regs, .fc, .sys, .pos, .aux] (LaneSt.hallSkip L d t) := by
  unfold LaneSt.hallSkip
  exact (frame_ite (frame_step (raise_frame _ _ _) (by decide) (frame_step (updPos_frame _ _) (by decide) (frame_seq
      (frame_ite (frame_refl _ _) (frame_step (onEdge_frame _ _ _ _) (by decide) (frame_step (onEdge_frame _ _ _ _)
      (by decide) (frame_refl _ _)))) (frame_seq (frame_step (updPos_frame _ _) (by decide) (frame_refl _ _))
      (frame_step (bump_frame _ _ _) (by decide) (frame_step (inc_frame _ _ _) (by decide) (frame_refl _ _)))))))
      (frame_seq (frame_ite (frame_refl _ _) (frame_step (onEdge_frame _ _ _ _) (by decide) (frame_step (onEdge_frame
      _ _ _ _) (by decide) (frame_refl _ _)))) (frame_seq (frame_step (updPos_frame _ _) (by decide) (frame_refl _ _))
      (frame_step (bump_frame _ _ _) (by decide) (frame_step (inc_frame _ _ _) (by decide) (frame_refl _ _))))))

theorem LaneSt.hallMove_frame (L : LaneSt) (b : Nat) (t : Nat) :
    L.frame [.regs, .fc, .sys, .pos, .aux] (LaneSt.hallMove L b t) := by
  unfold LaneSt.hallMove
  exact (frame_ite (frame_step (updPos_frame _ _) (by decide) (frame_step (wr_frame _ _ _) (by decide) (frame_refl _ _))) (by (try dsimp only); split; exact (frame_step (wr_frame _ _ _) (by decide) (frame_refl _ _)); exact (frame_step (hallLegal_frame _ _ _) (by decide) (frame_step (wr_frame _ _ _) (by decide) (frame_refl _ _))); exact (frame_step (hallLegal_frame _ _ _) (by decide) (frame_step (wr_frame _ _ _) (by decide) (frame_refl _ _))); exact (frame_step (hallSkip_frame _ _ _) (by decide) (frame_step (wr_frame _ _ _) (by decide) (frame_refl _ _))); exact (frame_step (hallSkip_frame _ _ _) (by decide) (frame_step (wr_frame _ _ _) (by decide) (frame_refl _ _))); exact (frame_step (hallSkip_frame _ _ _) (by decide) (frame_step (wr_frame _ _ _) (by decide) (frame_refl _ _)))))

theorem LaneSt.hallReadOk_frame (L : LaneSt) :
    L.frame [.regs, .pos] (LaneSt.hallReadOk L) := by
  unfold LaneSt.hallReadOk
  exact (frame_step (updPos_frame _ _) (by decide) (frame_step (put_frame _ _ _) (by decide) (frame_refl _ _)))

theorem LaneSt.completeHalt_frame (L : LaneSt) (l : Lane) :
    L.frame [.core] (LaneSt.completeHalt L l) := by
  unfold LaneSt.completeHalt
  exact (frame_ite (frame_step (updCore_frame _ _) (by decide) (frame_refl _ _)) (frame_refl _ _))

theorem LaneSt.showFrame_frame (L : LaneSt) (r : RxGot) :
    L.frame [.regs] (LaneSt.showFrame L r) := by
  unfold LaneSt.showFrame
  exact (frame_step (put_frame _ _ _) (by decide) (frame_step (put_frame _ _ _) (by decide) (frame_step (put_frame _ _
      _) (by decide) (frame_seq (frame_step (put_frame _ _ _) (by decide) (frame_step (wr_frame _ _ _) (by decide)
      (frame_step (wr_frame _ _ _) (by decide) (frame_refl _ _)))) (frame_seq (frame_forN (fun _ _ => (frame_step
      (setReg_frame _ _ _) (by decide) (frame_refl _ _))) _ _) (frame_refl _ _))))))

theorem LaneSt.flkSlot_frame (L : LaneSt) (t0 : Nat) :
    L.frame [.regs, .flk] (LaneSt.flkSlot L t0) := by
  unfold LaneSt.flkSlot
  exact (frame_step (wr_frame _ _ _) (by decide) (frame_step (wr_frame _ _ _) (by decide) (frame_step (wr_frame _ _ _) (by decide) (frame_seq (frame_step (updFlk_frame _ _) (by decide) (frame_refl _ _)) (frame_seq (frame_seq (frame_foldl (fun _ _ => (frame_step (showFrame_frame _ _) (by decide) (frame_refl _ _))) _ _) (frame_refl _ _)) (frame_seq (frame_forN (fun _ _ => (frame_ite (by (try dsimp only); split; exact (frame_ite (frame_step (put_frame _ _ _) (by decide) (frame_ite (frame_step (put_frame _ _ _) (by decide) (frame_refl _ _)) (frame_refl _ _))) (frame_ite (frame_step (put_frame _ _ _) (by decide) (frame_ite (frame_step (put_frame _ _ _) (by decide) (frame_refl _ _)) (frame_refl _ _))) (frame_ite (frame_step (put_frame _ _ _) (by decide) (frame_refl _ _)) (frame_refl _ _)))); exact (frame_ite (frame_step (put_frame _ _ _) (by decide) (frame_refl _ _)) (frame_refl _ _))) (frame_refl _ _))) _ _) (frame_refl _ _)))))))

theorem LaneSt.tmrSpeed_frame (L : LaneSt) :
    L.frame [.regs, .pos] (LaneSt.tmrSpeed L) := by
  unfold LaneSt.tmrSpeed
  exact (by (try dsimp only); split; exact (frame_step (wr_frame _ _ _) (by decide) (frame_step (wr_frame _ _ _) (by decide) (frame_step (updPos_frame _ _) (by decide) (frame_refl _ _)))); exact (frame_ite (frame_step (wr_frame _ _ _) (by decide) (frame_step (wr_frame _ _ _) (by decide) (frame_step (updPos_frame _ _) (by decide) (frame_refl _ _)))) (frame_step (wrS_frame _ _ _) (by decide) (frame_step (wr_frame _ _ _) (by decide) (frame_step (updPos_frame _ _) (by decide) (frame_refl _ _))))))

theorem LaneSt.calState_frame (L : LaneSt) :
    L.frame [.regs] (LaneSt.calState L) := by
  unfold LaneSt.calState
  exact (frame_ite (frame_step (wr_frame _ _ _) (by decide) (frame_refl _ _)) (frame_refl _ _))

theorem LaneSt.spAge_frame (L : LaneSt) (i : Nat) (t0 : Nat) :
    L.frame [.regs] (LaneSt.spAge L i t0) := by
  unfold LaneSt.spAge
  exact (frame_step (wr_frame _ _ _) (by decide) (frame_step (wr_frame _ _ _) (by decide) (frame_refl _ _)))

theorem LaneSt.posSlot_frame (L : LaneSt) (t0 : Nat) :
    L.frame [.regs, .fc, .sys, .pos, .aux] (LaneSt.posSlot L t0) := by
  unfold LaneSt.posSlot
  exact (frame_step (calState_frame _) (by decide) (frame_step (srcStat_frame _) (by decide) (frame_step (spAge_frame
      _ _ _) (by decide) (frame_step (spAge_frame _ _ _) (by decide) (frame_step (carryTmr_frame _ _) (by decide)
      (frame_seq (frame_step (updPos_frame _ _) (by decide) (frame_refl _ _)) (frame_seq (frame_step (wr_frame _ _ _)
      (by decide) (frame_refl _ _)) (frame_seq (frame_step (tmrSpeed_frame _) (by decide) (frame_step (speedSlot_frame
      _ _ _) (by decide) (frame_step (speedSlot_frame _ _ _) (by decide) (frame_refl _ _)))) (frame_ite (frame_ite
      (frame_step (hallReadOk_frame _) (by decide) (frame_refl _ _)) (frame_step (hallInvalid_frame _) (by decide)
      (frame_refl _ _))) (frame_refl _ _))))))))))

theorem LaneSt.endPosting_frame (L : LaneSt) :
    L.frame [.regs, .com] (LaneSt.endPosting L) := by
  unfold LaneSt.endPosting
  exact (frame_step (frame_com _ _) (by decide) (frame_step (put_frame _ _ _) (by decide) (frame_step (put_frame _ _
      _) (by decide) (frame_refl _ _))))

theorem LaneSt.freeze_frame (L : LaneSt) (g : Freeze) : L.frame [.snap] (L.freeze g) :=
  ⟨fun p hp => by cases p <;> first | rfl | simp at hp, L.wf_freeze g⟩

theorem LaneSt.tempWarn_frame (L : LaneSt) (i : Nat) :
    L.frame [.regs, .fc, .sys, .com, .aux] (LaneSt.tempWarn L i) := by
  unfold LaneSt.tempWarn
  exact (frame_step (raiseIf_frame _ _ _ _) (by decide) (frame_step (raiseIf_frame _ _ _ _) (by decide) (frame_step
      (frame_com _ _) (by decide) (frame_refl _ _))))

theorem LaneSt.slotIrq_frame (L : LaneSt) :
    L.frame [.regs, .fc, .sys, .com, .aux] (LaneSt.slotIrq L) := by
  unfold LaneSt.slotIrq
  exact (frame_ite (frame_step (frame_fc_sys _ _ _) (by decide) (frame_seq (frame_for3 (fun _ _ => (frame_step
      (tempWarn_frame _ _) (by decide) (frame_refl _ _))) _) (frame_refl _ _))) (frame_seq (frame_for3 (fun _ _ =>
      (frame_step (tempWarn_frame _ _) (by decide) (frame_refl _ _))) _) (frame_refl _ _)))

theorem LaneSt.slotEngines_frame (L : LaneSt) (l : Lane) (t : Nat) :
    L.frame [.regs, .snap, .fc, .sys, .meas, .pos, .com, .aux, .core, .flk] (LaneSt.slotEngines L l t) := by
  unfold LaneSt.slotEngines
  exact (frame_step (endPosting_frame _) (by decide) (frame_step (freeze_frame _ _) (by decide) (frame_step
      (slotIrq_frame _) (by decide) (frame_seq (frame_step (canSlot_frame _ _) (by decide) (frame_step (flkSlot_frame
      _ _) (by decide) (frame_step (posSlot_frame _ _) (by decide) (frame_step (flkSlotEnd_frame _) (by decide)
      (frame_refl _ _))))) (frame_seq (frame_step (completeHalt_frame _ _) (by decide) (frame_refl _ _)) (frame_step
      (frame_meas _ _) (by decide) (frame_refl _ _)))))))

theorem LaneSt.startPulse_frame (L : LaneSt) (m : Nat) :
    L.frame [.safe] (LaneSt.startPulse L m) := by
  unfold LaneSt.startPulse
  exact (frame_seq (frame_for3 (fun _ _ => (frame_ite (frame_step (frame_safe _ _) (by decide) (frame_refl _ _))
      (frame_refl _ _))) _) (frame_refl _ _))

theorem LaneSt.crookDone_frame (L : LaneSt) (f : CrookSt → CrookSt) :
    L.frame [.regs, .mbx] (LaneSt.crookDone L f) := by
  unfold LaneSt.crookDone
  exact (by (try dsimp only); split; exact (frame_step (wr_frame _ _ _) (by decide) (frame_step (wr_frame _ _ _) (by decide) (frame_step (updMbx_frame _ _) (by decide) (frame_refl _ _)))); exact (frame_step (updMbx_frame _ _) (by decide) (frame_refl _ _)))

theorem LaneSt.setSlot_frame (L : LaneSt) (b : Bool) (x : Slot) :
    L.frame [.nvm] (LaneSt.setSlot L b x) := by
  unfold LaneSt.setSlot
  exact (frame_ite (frame_step (frame_nvm _ _) (by decide) (frame_refl _ _)) (frame_step (frame_nvm _ _) (by decide)
      (frame_refl _ _)))

theorem LaneSt.eraseSlotRec_frame (L : LaneSt) (b : Bool) :
    L.frame [.mem] (LaneSt.eraseSlotRec L b) := by
  unfold LaneSt.eraseSlotRec
  exact (frame_step (eraseMem_frame _ _ _) (by decide) (frame_refl _ _))

theorem LaneSt.dropLoads_frame (L : LaneSt) :
    L.frame [.mem, .nvm, .mbx] (LaneSt.dropLoads L) := by
  unfold LaneSt.dropLoads
  exact (frame_step (updMbx_frame _ _) (by decide) (frame_seq (by (try dsimp only); split; exact (frame_step (setBank_frame _ _ _) (by decide) (frame_refl _ _)); exact (frame_refl _ _)) (by (try dsimp only); split; exact (frame_step (setSlot_frame _ _ _) (by decide) (frame_step (eraseSlotRec_frame _ _) (by decide) (frame_step (eraseMem_frame _ _ _) (by decide) (frame_refl _ _)))); exact (frame_refl _ _))))

theorem LaneSt.showPending_frame (L : LaneSt) :
    L.frame [.regs] (LaneSt.showPending L) := by
  unfold LaneSt.showPending
  exact (frame_step (wr_frame _ _ _) (by decide) (frame_refl _ _))

theorem LaneSt.abortMailbox_frame (L : LaneSt) :
    L.frame [.regs, .mem, .nvm, .mbx] (LaneSt.abortMailbox L) := by
  unfold LaneSt.abortMailbox
  exact (frame_step (showPending_frame _) (by decide) (frame_step (updMbx_frame _ _) (by decide) (frame_seq (frame_ite
      (frame_step (dropLoads_frame _) (by decide) (frame_refl _ _)) (frame_refl _ _)) (frame_seq (frame_seq
      (frame_foldl (fun _ _ => (frame_step (endTap_frame _ _) (by decide) (frame_refl _ _))) _ _) (frame_refl _ _))
      (frame_seq (frame_foldl (fun _ _ => (frame_ite (frame_step (refuse_frame _ _ _ _ _) (by decide) (frame_refl _
      _)) (frame_refl _ _))) _ _) (frame_refl _ _))))))

theorem LaneSt.crookGoes_frame (L : LaneSt) :
    L.frame [.regs, .mem, .nvm, .mbx] (LaneSt.crookGoes L) := by
  unfold LaneSt.crookGoes
  exact (by (try dsimp only); split; exact (frame_refl _ _); exact (frame_ite (frame_step (crookDone_frame _ _) (by decide) (frame_ite (frame_step (crookDone_frame _ _) (by decide) (frame_step (abortMailbox_frame _) (by decide) (frame_refl _ _))) (frame_refl _ _))) (frame_ite (frame_step (crookDone_frame _ _) (by decide) (frame_step (abortMailbox_frame _) (by decide) (frame_refl _ _))) (frame_refl _ _))))

theorem LaneSt.abortAux_frame (L : LaneSt) :
    L.frame [.regs, .aux] (LaneSt.abortAux L) := by
  unfold LaneSt.abortAux
  exact (frame_step (wr_frame _ _ _) (by decide) (frame_step (auxAbort_frame _ _) (by decide) (frame_refl _ _)))

theorem LaneSt.crookStart_frame (L : LaneSt) (r : Req) (mailbox : Bool) (aux : Bool) :
    L.frame [.regs, .mem, .nvm, .mbx, .aux] (LaneSt.crookStart L r mailbox aux) := by
  unfold LaneSt.crookStart
  exact (frame_step (crookGoes_frame _) (by decide) (frame_ite (frame_step (abortAux_frame _) (by decide) (frame_seq
      (frame_step (wr_frame _ _ _) (by decide) (frame_step (crookDone_frame _ _) (by decide) (frame_refl _ _)))
      (frame_step (updMbx_frame _ _) (by decide) (frame_refl _ _)))) (frame_seq (frame_step (wr_frame _ _ _) (by
      decide) (frame_step (crookDone_frame _ _) (by decide) (frame_refl _ _))) (frame_step (updMbx_frame _ _) (by
      decide) (frame_refl _ _)))))

theorem LaneSt.sendNak_frame (L : LaneSt) (code : Nat) (r : Req) (nak : Nat) (detail : Nat) (want : Nat) :
    L.frame [.regs, .mbx] (LaneSt.sendNak L code r nak detail want) := by
  unfold LaneSt.sendNak
  exact (frame_step (freeInner_frame _ _) (by decide) (frame_step (sendReply_frame _ _) (by decide) (frame_refl _ _)))

theorem LaneSt.quarantine_frame (L : LaneSt) (key : Nat) :
    L.frame [.regs, .mbx] (LaneSt.quarantine L key) := by
  unfold LaneSt.quarantine
  exact (frame_step (updMbx_frame _ _) (by decide) (frame_step (wr_frame _ _ _) (by decide) (frame_step (inc_frame _ _
      _) (by decide) (frame_refl _ _))))

theorem LaneSt.violation_frame (L : LaneSt) (key : Nat) (nak : Nat) :
    L.frame [.regs, .fc, .mbx] (LaneSt.violation L key nak) := by
  unfold LaneSt.violation
  exact (frame_ite (frame_step (quarantine_frame _ _) (by decide) (frame_seq (frame_step (updMbx_frame _ _) (by
      decide) (frame_step (inc_frame _ _ _) (by decide) (frame_refl _ _))) (frame_step (frame_fc _ _) (by decide)
      (frame_refl _ _)))) (frame_seq (frame_step (updMbx_frame _ _) (by decide) (frame_step (inc_frame _ _ _) (by
      decide) (frame_refl _ _))) (frame_step (frame_fc _ _) (by decide) (frame_refl _ _))))

theorem LaneSt.turnAway_frame (L : LaneSt) (code : Nat) (key : Nat) (r : Req) (nak : Nat) (detail : Nat) (want : Nat) :
    L.frame [.regs, .fc, .mbx] (LaneSt.turnAway L code key r nak detail want) := by
  unfold LaneSt.turnAway
  exact (frame_step (sendNak_frame _ _ _ _ _ _) (by decide) (frame_ite (frame_step (violation_frame _ _ _) (by decide)
      (frame_refl _ _)) (frame_refl _ _)))

theorem LaneSt.beginTransition_frame (L : LaneSt) (t : Nat) :
    L.frame [.regs, .sys, .mbx, .sec] (LaneSt.beginTransition L t) := by
  unfold LaneSt.beginTransition
  exact (frame_step (endSession_frame _) (by decide) (frame_step (frame_sys _ _) (by decide) (frame_seq (frame_step
      (setReg_frame _ _ _) (by decide) (frame_refl _ _)) (frame_step (wr_frame _ _ _) (by decide) (frame_step
      (wr_frame _ _ _) (by decide) (frame_refl _ _))))))

theorem LaneSt.followCatchup_frame (L : LaneSt) (m : AgrMsg) :
    L.frame [.regs, .sys, .mbx, .sec] (LaneSt.followCatchup L m) := by
  unfold LaneSt.followCatchup
  exact (frame_ite (frame_step (beginTransition_frame _ _) (by decide) (frame_refl _ _)) (frame_refl _ _))

theorem LaneSt.showHist_frame (L : LaneSt) :
    L.frame [.regs] (LaneSt.showHist L) := by
  unfold LaneSt.showHist
  exact (by (try dsimp only); split; exact (frame_step (put_frame _ _ _) (by decide) (frame_seq (frame_foldl (fun _ _ => (frame_step (setReg_frame _ _ _) (by decide) (frame_refl _ _))) _ _) (frame_refl _ _))); exact (frame_step (put_frame _ _ _) (by decide) (frame_seq (frame_forN (fun _ _ => (frame_step (setReg_frame _ _ _) (by decide) (frame_refl _ _))) _ _) (frame_refl _ _))))

theorem LaneSt.learnRound_frame (L : LaneSt) (w : Nat) (v : Int) (ok : Bool) :
    L.frame [.regs, .com] (LaneSt.learnRound L w v ok) := by
  unfold LaneSt.learnRound
  exact (by (try dsimp only); split; exact (frame_refl _ _); exact (frame_ite (frame_refl _ _) (frame_ite (frame_step (endLearn_frame _ _) (by decide) (frame_refl _ _)) (frame_step (frame_com _ _) (by decide) (frame_ite (frame_step (incSat_frame _ _ _) (by decide) (frame_refl _ _)) (frame_refl _ _))))))

theorem LaneSt.takeCatchup_frame (L : LaneSt) :
    L.frame [.regs, .fc, .sys, .agr, .com, .mbx, .sec] (LaneSt.takeCatchup L) := by
  unfold LaneSt.takeCatchup
  exact (by (try dsimp only); split; exact (frame_ite (frame_step (learnRound_frame _ _ _ _) (by decide) (frame_seq (frame_step (followCatchup_frame _ _) (by decide) (frame_step (showHist_frame _) (by decide) (frame_step (put_frame _ _ _) (by decide) (frame_step (updAgr_frame _ _) (by decide) (frame_refl _ _))))) (frame_step (updAgr_frame _ _) (by decide) (frame_refl _ _)))) (frame_step (enterResync_frame _) (by decide) (frame_step (updAgr_frame _ _) (by decide) (frame_refl _ _)))); exact (frame_step (enterResync_frame _) (by decide) (frame_step (updAgr_frame _ _) (by decide) (frame_refl _ _))))

theorem LaneSt.startTransition_frame (L : LaneSt) (l : Lane) (t : Nat) (b : Ballot) :
    L.frame [.regs, .sys, .mbx, .sec] (LaneSt.startTransition L l t b) := by
  unfold LaneSt.startTransition
  exact (frame_ite (frame_step (report_frame _ _ _ _) (by decide) (frame_refl _ _)) (frame_ite (frame_step
      (report_frame _ _ _ _) (by decide) (frame_refl _ _)) (frame_step (beginTransition_frame _ _) (by decide)
      (frame_refl _ _))))

theorem LaneSt.startPending_frame (L : LaneSt) (l : Lane) (b : Ballot) :
    L.frame [.regs, .sys, .mbx, .sec] (LaneSt.startPending L l b) := by
  unfold LaneSt.startPending
  exact (frame_ite (frame_step (startTransition_frame _ _ _ _) (by decide) (frame_step (put_frame _ _ _) (by decide)
      (frame_refl _ _))) (frame_refl _ _))

theorem LaneSt.noteAnswers_frame (L : LaneSt) (a : List (Nat × Nat)) :
    L.frame [.regs, .sys] (LaneSt.noteAnswers L a) := by
  unfold LaneSt.noteAnswers
  exact (frame_step (frame_sys _ _) (by decide) (frame_seq (frame_forN (fun _ _ => (frame_step (wr_frame _ _ _) (by
      decide) (frame_refl _ _))) _ _) (frame_refl _ _)))

theorem LaneSt.handshake_frame (L : LaneSt) (all : List (List (Nat × Nat))) :
    L.frame [.regs, .sys] (LaneSt.handshake L all) := by
  unfold LaneSt.handshake
  exact (frame_ite (by (try dsimp only); split; exact (frame_step (endTransition_frame _ _ _ _) (by decide) (frame_step (noteAnswers_frame _ _) (by decide) (frame_refl _ _))); exact (frame_ite (frame_step (wr_frame _ _ _) (by decide) (frame_step (noteAnswers_frame _ _) (by decide) (frame_refl _ _))) (frame_step (noteAnswers_frame _ _) (by decide) (frame_refl _ _)))) (frame_ite (by (try dsimp only); split; exact (frame_step (failArm_frame _ _ _) (by decide) (frame_refl _ _)); exact (frame_refl _ _)) (frame_refl _ _)))

theorem LaneSt.handshakeRound_frame (L : LaneSt) (l : Lane) (h : Heard) (b : Ballot) :
    L.frame [.regs, .sys, .mbx, .sec] (LaneSt.handshakeRound L l h b) := by
  unfold LaneSt.handshakeRound
  exact (frame_step (startPending_frame _ _ _) (by decide) (frame_step (handshake_frame _ _) (by decide) (frame_refl _
      _)))

theorem LaneSt.followState_frame (L : LaneSt) (r : Rnd) :
    L.frame [.regs] (LaneSt.followState L r) := by
  unfold LaneSt.followState
  exact (by (try dsimp only); split; exact (frame_refl _ _); exact (frame_ite (frame_step (wr_frame _ _ _) (by decide) (frame_step (wr_frame _ _ _) (by decide) (frame_step (wr_frame _ _ _) (by decide) (frame_refl _ _)))) (frame_refl _ _)))

theorem LaneSt.actReset_frame (L : LaneSt) (l : Lane) :
    L.frame [.regs, .safe] (LaneSt.actReset L l) := by
  unfold LaneSt.actReset
  exact (frame_ite (frame_refl _ _) (frame_step (refreshSafe_frame _ _) (by decide) (frame_step (updSafe_frame _ _)
      (by decide) (frame_step (inc_frame _ _ _) (by decide) (frame_seq (frame_for3 (fun _ _ => (frame_ite (frame_step
      (updSafe_frame _ _) (by decide) (frame_refl _ _)) (frame_refl _ _))) _) (frame_refl _ _))))))

theorem LaneSt.followReset_frame (L : LaneSt) (l : Lane) (r : Rnd) :
    L.frame [.regs, .sys, .safe, .mbx, .sec] (LaneSt.followReset L l r) := by
  unfold LaneSt.followReset
  exact (frame_ite (frame_step (updSafe_frame _ _) (by decide) (frame_refl _ _)) (frame_ite (frame_step
      (endSession_frame _) (by decide) (frame_step (frame_sys _ _) (by decide) (frame_seq (frame_step (wr_frame _ _ _)
      (by decide) (frame_step (wr_frame _ _ _) (by decide) (frame_refl _ _))) (frame_step (actReset_frame _ _) (by
      decide) (frame_refl _ _))))) (frame_step (actReset_frame _ _) (by decide) (frame_refl _ _))))

theorem LaneSt.agreeTarget_frame (L : LaneSt) (l : Lane) (t : Nat) (b : Ballot) :
    L.frame [.regs, .sys, .mbx, .sec] (LaneSt.agreeTarget L l t b) := by
  unfold LaneSt.agreeTarget
  exact (frame_ite (frame_step (startTransition_frame _ _ _ _) (by decide) (frame_refl _ _)) (frame_ite (frame_step
      (report_frame _ _ _ _) (by decide) (frame_refl _ _)) (frame_step (put_frame _ _ _) (by decide) (frame_step
      (wr_frame _ _ _) (by decide) (frame_step (dropPending_frame _) (by decide) (frame_refl _ _))))))

theorem LaneSt.parkFromFold_frame (L : LaneSt) (l : Lane) (b : Ballot) :
    L.frame [.regs, .sys, .mbx, .sec] (LaneSt.parkFromFold L l b) := by
  unfold LaneSt.parkFromFold
  exact (frame_ite (frame_step (report_frame _ _ _ _) (by decide) (frame_refl _ _)) (frame_ite (frame_step
      (report_frame _ _ _ _) (by decide) (frame_refl _ _)) (frame_step (agreeTarget_frame _ _ _ _) (by decide)
      (frame_refl _ _))))

theorem LaneSt.followTarget_frame (L : LaneSt) (l : Lane) (r : Rnd) (b : Ballot) :
    L.frame [.regs, .sys, .mbx, .sec] (LaneSt.followTarget L l r b) := by
  unfold LaneSt.followTarget
  exact (by (try dsimp only); split; exact (frame_refl _ _); exact (frame_ite (frame_refl _ _) (frame_ite (frame_refl _ _) (frame_ite (frame_step (parkFromFold_frame _ _ _) (by decide) (frame_step (frame_sys _ _) (by decide) (frame_refl _ _))) (frame_step (agreeTarget_frame _ _ _ _) (by decide) (frame_step (frame_sys _ _) (by decide) (frame_refl _ _)))))))

theorem LaneSt.followModule_frame (L : LaneSt) (l : Lane) (r : Rnd) (h : Heard) :
    L.frame [.regs, .fc, .sys, .safe, .chn, .mbx, .sec, .aux] (LaneSt.followModule L l r h) := by
  unfold LaneSt.followModule
  exact (frame_step (followState_frame _ _) (by decide) (frame_step (followReset_frame _ _ _) (by decide) (frame_step
      (followTarget_frame _ _ _ _) (by decide) (frame_seq (frame_ite (frame_step (enterFold_frame _ _ _) (by decide)
      (frame_refl _ _)) (frame_refl _ _)) (frame_step (handshakeRound_frame _ _ _ _) (by decide) (frame_refl _ _))))))

theorem LaneSt.showReply_frame (L : LaneSt) (l : Lane) :
    L.frame [.regs, .mbx] (LaneSt.showReply L l) := by
  unfold LaneSt.showReply
  exact (by (try dsimp only); split; exact (frame_refl _ _); exact (frame_ite (frame_refl _ _) (frame_step (updMbx_frame _ _) (by decide) (frame_seq (frame_step (wr_frame _ _ _) (by decide) (frame_step (put_frame _ _ _) (by decide) (frame_refl _ _))) (frame_seq (frame_seq (frame_forN (fun _ _ => (frame_step (setReg_frame _ _ _) (by decide) (frame_refl _ _))) _ _) (frame_refl _ _)) (frame_seq (frame_foldl (fun _ _ => (frame_step (wr_frame _ _ _) (by decide) (frame_refl _ _))) _ _) (frame_refl _ _)))))))

theorem LaneSt.settlePort_frame (L : LaneSt) (i : Nat) :
    L.frame [.regs, .fc, .sys, .pos, .aux] (LaneSt.settlePort L i) := by
  unfold LaneSt.settlePort
  exact (frame_ite (frame_refl _ _) (frame_step (raise_frame _ _ _) (by decide) (frame_step (spInvalid_frame _ _) (by
      decide) (frame_refl _ _))))

theorem LaneSt.settleSp_frame (L : LaneSt) :
    L.frame [.regs, .fc, .sys, .pos, .aux] (LaneSt.settleSp L) := by
  unfold LaneSt.settleSp
  exact (frame_step (settlePort_frame _ _) (by decide) (frame_step (settlePort_frame _ _) (by decide) (frame_refl _ _)))

theorem LaneSt.resetShepherd_frame (L : LaneSt) :
    L.frame [.regs, .mem, .nvm, .mbx, .sec, .core] (LaneSt.resetShepherd L) := by
  unfold LaneSt.resetShepherd
  exact (frame_step (showPending_frame _) (by decide) (frame_step (frame_mbx_core _ _ _) (by decide) (frame_seq
      (frame_step (updSec_frame _ _) (by decide) (frame_step (put_frame _ _ _) (by decide) (frame_refl _ _)))
      (frame_seq (frame_step (put_frame _ _ _) (by decide) (frame_step (setReg_frame _ _ _) (by decide) (frame_step
      (setReg_frame _ _ _) (by decide) (frame_refl _ _)))) (frame_step (put_frame _ _ _) (by decide) (frame_step
      (put_frame _ _ _) (by decide) (frame_step (dropLoads_frame _) (by decide) (frame_refl _ _))))))))

theorem LaneSt.auxStop_frame (L : LaneSt) :
    L.frame [.regs, .aux] (LaneSt.auxStop L) := by
  unfold LaneSt.auxStop
  exact (frame_ite (frame_ite (frame_seq (frame_step (updAux_frame _ _) (by decide) (frame_refl _ _)) (frame_ite
      (frame_step (unref_frame _) (by decide) (frame_refl _ _)) (frame_refl _ _))) (frame_step (rest_frame _ _) (by
      decide) (frame_step (updAux_frame _ _) (by decide) (frame_seq (frame_step (updAux_frame _ _) (by decide)
      (frame_refl _ _)) (frame_ite (frame_step (unref_frame _) (by decide) (frame_refl _ _)) (frame_refl _ _))))))
      (frame_step (updAux_frame _ _) (by decide) (frame_step (wr_frame _ _ _) (by decide) (frame_seq (frame_step
      (updAux_frame _ _) (by decide) (frame_refl _ _)) (frame_ite (frame_step (unref_frame _) (by decide) (frame_refl
      _ _)) (frame_refl _ _))))))

theorem LaneSt.takeInterrupt_frame (L : LaneSt) (cause : Nat) :
    L.frame [.sys, .core] (LaneSt.takeInterrupt L cause) := by
  unfold LaneSt.takeInterrupt
  exact (frame_ite (frame_step (frame_sys _ _) (by decide) (frame_step (trap_frame _ _ _) (by decide) (frame_refl _
      _))) (frame_refl _ _))

theorem LaneSt.flushLog_frame (L : LaneSt) :
    L.frame [.mem, .fc] (LaneSt.flushLog L) := by
  unfold LaneSt.flushLog
  exact (frame_step (frame_fc _ _) (by decide) (frame_seq (frame_foldl (fun _ _ => (frame_step (frame_fc _ _) (by
      decide) (frame_step (setBytes_frame _ _ _) (by decide) (frame_refl _ _)))) _ _) (frame_refl _ _)))

theorem LaneSt.forgo_frame (L : LaneSt) (why : Nat) :
    L.frame [.regs] (LaneSt.forgo L why) := by
  unfold LaneSt.forgo
  exact (frame_step (incSat_frame _ _ _) (by decide) (frame_step (wr_frame _ _ _) (by decide) (frame_step (wr_frame _
      _ _) (by decide) (frame_step (wr_frame _ _ _) (by decide) (frame_refl _ _)))))

theorem LaneSt.sliceRestore_frame (L : LaneSt) (p : Nat) :
    L.frame [.core] (LaneSt.sliceRestore L p) := by
  unfold LaneSt.sliceRestore
  exact (frame_ite (frame_step (frame_core _ _) (by decide) (frame_refl _ _)) (frame_refl _ _))

theorem LaneSt.indexMissing_frame (L : LaneSt) :
    L.frame [.regs, .fc, .sys, .aux] (LaneSt.indexMissing L) := by
  unfold LaneSt.indexMissing
  exact (by (try dsimp only); split; exact (frame_refl _ _); exact (frame_ite (frame_step (raise_frame _ _ _) (by decide) (frame_step (put_frame _ _ _) (by decide) (frame_refl _ _))) (frame_refl _ _)))

theorem LaneSt.encCount_frame (L : LaneSt) (d : Int) (t : Nat) :
    L.frame [.regs, .fc, .sys, .pos, .aux] (LaneSt.encCount L d t) := by
  unfold LaneSt.encCount
  exact (frame_step (indexMissing_frame _) (by decide) (frame_step (onEdge_frame _ _ _ _) (by decide) (frame_step
      (updPos_frame _ _) (by decide) (frame_step (bump_frame _ _ _) (by decide) (frame_refl _ _)))))

theorem LaneSt.request_frame (L : LaneSt) (target : Nat) :
    L.frame [.regs, .sys] (LaneSt.request L target) := by
  unfold LaneSt.request
  exact (frame_ite (frame_step (frame_sys _ _) (by decide) (frame_refl _ _)) (frame_ite (frame_step (report_frame _ _ _ _) (by decide) (frame_refl _ _)) (by (try dsimp only); split; exact (frame_ite (frame_step (frame_sys _ _) (by decide) (frame_refl _ _)) (frame_step (frame_sys _ _) (by decide) (frame_refl _ _))); exact (frame_ite (frame_refl _ _) (frame_step (report_frame _ _ _ _) (by decide) (frame_step (frame_sys _ _) (by decide) (frame_refl _ _)))))))

theorem LaneSt.releaseForced_frame (L : LaneSt) :
    L.frame [.regs] (LaneSt.releaseForced L) := by
  unfold LaneSt.releaseForced
  exact (frame_seq (frame_for3 (fun _ _ => (frame_ite (frame_step (put_frame _ _ _) (by decide) (frame_refl _ _))
      (frame_refl _ _))) _) (frame_refl _ _))

theorem LaneSt.post_frame (L : LaneSt) (t : Nat) :
    L.frame [.regs, .com] (LaneSt.post L t) := by
  unfold LaneSt.post
  exact (frame_step (releaseForced_frame _) (by decide) (frame_step (frame_com _ _) (by decide) (frame_refl _ _)))

theorem LaneSt.askSs1_frame (L : LaneSt) (src : StopSrc) (m : Nat) :
    L.frame [.safe] (LaneSt.askSs1 L src m) := by
  unfold LaneSt.askSs1
  exact (frame_step (updSafe_frame _ _) (by decide) (frame_refl _ _))

theorem LaneSt.setTxBuf_frame (L : LaneSt) (b : Nat) (x : TxBuf) :
    L.frame [.flk] (LaneSt.setTxBuf L b x) := by
  unfold LaneSt.setTxBuf
  exact (frame_step (updFlk_frame _ _) (by decide) (frame_refl _ _))

theorem LaneSt.postTx_frame (L : LaneSt) (b : Nat) (data : List Byte) (t : Nat) :
    L.frame [.flk] (LaneSt.postTx L b data t) := by
  unfold LaneSt.postTx
  exact (frame_step (setTxBuf_frame _ _ _) (by decide) (frame_refl _ _))

theorem LaneSt.auxReject_frame (L : LaneSt) (code : Nat) :
    L.frame [.regs] (LaneSt.auxReject L code) := by
  unfold LaneSt.auxReject
  exact (frame_step (wr_frame _ _ _) (by decide) (frame_step (put_frame _ _ _) (by decide) (frame_refl _ _)))

theorem LaneSt.refreshTbl_frame (L : LaneSt) :
    L.frame [.regs] (LaneSt.refreshTbl L) := by
  unfold LaneSt.refreshTbl
  exact (frame_step (put_frame _ _ _) (by decide) (frame_refl _ _))

theorem LaneSt.fullStep_frame (L : LaneSt) :
    L.frame [.regs, .aux] (LaneSt.fullStep L) := by
  unfold LaneSt.fullStep
  exact (frame_ite (frame_refl _ _) (by (try dsimp only); split; exact (frame_step (refreshTbl_frame _) (by decide) (frame_step (updAux_frame _ _) (by decide) (by (try dsimp only); split; exact (frame_step (updAux_frame _ _) (by decide) (frame_step (put_frame _ _ _) (by decide) (frame_refl _ _))); exact (frame_refl _ _)))); exact (by (try dsimp only); split; exact (frame_step (updAux_frame _ _) (by decide) (frame_step (put_frame _ _ _) (by decide) (frame_refl _ _))); exact (frame_refl _ _))))

theorem LaneSt.mbxPost_frame (L : LaneSt) (v : Word) :
    L.frame [.regs, .fc, .sys, .aux] (LaneSt.mbxPost L v) := by
  unfold LaneSt.mbxPost
  exact (frame_ite (frame_step (refuseWrite_frame _) (by decide) (frame_refl _ _)) (frame_ite (frame_step (put_frame _
      _ _) (by decide) (frame_refl _ _)) (frame_refl _ _)))

theorem LaneSt.mbxCrook_frame (L : LaneSt) (l : Lane) (v : Word) :
    L.frame [.regs, .mem, .fc, .sys, .nvm, .mbx, .aux] (LaneSt.mbxCrook L l v) := by
  unfold LaneSt.mbxCrook
  exact (frame_ite (frame_step (refuseWrite_frame _) (by decide) (frame_refl _ _)) (frame_ite (frame_step
      (crookStart_frame _ _ _ _) (by decide) (frame_refl _ _)) (frame_refl _ _)))

theorem LaneSt.setPending_frame (L : LaneSt) (c : CanId) (b : Nat) (v : Bool) :
    L.frame [.regs] (LaneSt.setPending L c b v) := by
  unfold LaneSt.setPending
  exact (frame_step (put_frame _ _ _) (by decide) (frame_refl _ _))

theorem LaneSt.lockRws_frame (L : LaneSt) (a : Nat) (r : RegRow) :
    L.frame [.regs, .fc, .sys, .aux] (LaneSt.lockRws L a r) := by
  unfold LaneSt.lockRws
  exact (frame_step (raiseIf_frame _ _ _ _) (by decide) (frame_step (frame_sys _ _) (by decide) (frame_refl _ _)))

theorem LaneSt.showSched_frame (L : LaneSt) :
    L.frame [.regs] (LaneSt.showSched L) := by
  unfold LaneSt.showSched
  exact (frame_step (wr_frame _ _ _) (by decide) (frame_step (wr_frame _ _ _) (by decide) (frame_refl _ _)))

theorem LaneSt.modeWritten_frame (L : LaneSt) (a : Nat) :
    L.frame [.com] (LaneSt.modeWritten L a) := by
  unfold LaneSt.modeWritten
  exact (frame_ite (frame_step (updCom_frame _ _ _) (by decide) (frame_refl _ _)) (frame_refl _ _))

theorem LaneSt.afterWrite_frame (L : LaneSt) (a : Nat) :
    L.frame [.regs, .com] (LaneSt.afterWrite L a) := by
  unfold LaneSt.afterWrite
  exact (frame_ite (frame_step (showHist_frame _) (by decide) (frame_refl _ _)) (frame_ite (frame_step
      (showSched_frame _) (by decide) (frame_refl _ _)) (frame_ite (frame_step (refreshTbl_frame _) (by decide)
      (frame_refl _ _)) (frame_step (modeWritten_frame _ _) (by decide) (frame_refl _ _)))))

theorem LaneSt.plainWrite_frame (L : LaneSt) (l : Lane) (a : Nat) (r : RegRow) (v : Word) (sets : Word) :
    L.frame [.regs, .fc, .sys, .com, .aux] (LaneSt.plainWrite L l a r v sets) := by
  unfold LaneSt.plainWrite
  exact (by (try dsimp only); split; exact (frame_refl _ _); exact (frame_step (refuseWrite_frame _) (by decide) (frame_refl _ _)); exact (frame_step (raiseIf_frame _ _ _ _) (by decide) (frame_step (lockRws_frame _ _ _) (by decide) (frame_step (afterWrite_frame _ _) (by decide) (frame_step (setReg_frame _ _ _) (by decide) (frame_refl _ _))))))

theorem LaneSt.noteRate_frame (L : LaneSt) (key : Nat) :
    L.frame [.mbx] (LaneSt.noteRate L key) := by
  unfold LaneSt.noteRate
  exact (frame_step (updMbx_frame _ _) (by decide) (frame_refl _ _))

theorem LaneSt.noteReq_frame (L : LaneSt) (key : Nat) (r : Req) (msg : List Byte) (hello : Bool) :
    L.frame [.mbx] (LaneSt.noteReq L key r msg hello) := by
  unfold LaneSt.noteReq
  exact (frame_step (updMbx_frame _ _) (by decide) (frame_refl _ _))

theorem LaneSt.canIdent_frame (L : LaneSt) (c : CanId) (b : Nat) (id : Nat) :
    L.frame [.regs] (LaneSt.canIdent L c b id) := by
  unfold LaneSt.canIdent
  exact (frame_step (wr_frame _ _ _) (by decide) (frame_step (put_frame _ _ _) (by decide) (frame_refl _ _)))

theorem LaneSt.flowControl_frame (L : LaneSt) (c : CanId) :
    L.frame [.regs] (LaneSt.flowControl L c) := by
  unfold LaneSt.flowControl
  exact (frame_step (put_frame _ _ _) (by decide) (frame_step (put_frame _ _ _) (by decide) (frame_seq (frame_step
      (wr_frame _ _ _) (by decide) (frame_step (wr_frame _ _ _) (by decide) (frame_refl _ _))) (frame_seq (frame_step
      (wr_frame _ _ _) (by decide) (frame_refl _ _)) (frame_step (canIdent_frame _ _ _ _) (by decide) (frame_refl _
      _))))))

theorem LaneSt.siblingLine_frame (L : LaneSt) (i : Nat) (pattern : Nat) :
    L.frame [.regs, .fc, .sys, .aux] (LaneSt.siblingLine L i pattern) := by
  unfold LaneSt.siblingLine
  exact (frame_ite (frame_refl _ _) (by (try dsimp only); split; exact (frame_step (raise_frame _ _ _) (by decide) (frame_step (openMask_frame _ _) (by decide) (frame_step (wr_frame _ _ _) (by decide) (frame_refl _ _)))); exact (frame_step (raise_frame _ _ _) (by decide) (frame_step (wr_frame _ _ _) (by decide) (frame_refl _ _))); exact (frame_step (raiseIf_frame _ _ _ _) (by decide) (frame_step (wr_frame _ _ _) (by decide) (frame_refl _ _))); exact (frame_step (endMask_frame _ _) (by decide) (frame_step (wr_frame _ _ _) (by decide) (frame_refl _ _)))))

theorem LaneSt.setWords_frame (L : LaneSt) (a : Nat) (ws : List Word) : L.frame [.mem] (LaneSt.setWords L a ws) := by
  induction ws generalizing L a with
  | nil => exact L.frame_refl _
  | cons b bs ih => exact LaneSt.frame_seq (ih _ _) (setWord_frame _ _ _)

/-- Words written into the Shepherd's SRAM. -/
theorem LaneSt.frame_shepWords (A : LaneSt) (a : Nat) (ws : List Word) :
    A.frame [.shepMem] { A with shepMem := ({ A with mem := A.shepMem }.setWords a ws).mem } := by
  refine ⟨fun p hp => by cases p <;> first | rfl | simp at hp, fun h => ?_⟩
  have hw : ({ A with mem := A.shepMem } : LaneSt).wf = true := by
    simp only [LaneSt.wf, Bool.and_eq_true] at h ⊢
    exact ⟨⟨⟨h.1.1.2, h.1.1.2⟩, h.1.2⟩, h.2⟩
  have h2 := (setWords_frame { A with mem := A.shepMem } a ws).2 hw
  generalize ({ A with mem := A.shepMem } : LaneSt).setWords a ws = M at h2
  simp only [LaneSt.wf, Bool.and_eq_true] at h h2 ⊢
  exact ⟨⟨⟨h.1.1.1, h2.1.1.1⟩, h.1.2⟩, h.2⟩

theorem LaneSt.sliceSave_frame (L : LaneSt) (p : Nat) : L.frame [.regs, .mem, .shepMem] (L.sliceSave p) := by
  unfold LaneSt.sliceSave
  extract_lets es vals A arch B
  have hA : L.frame [.regs, .mem, .shepMem] A := LaneSt.frame_foldl (fun _ _ => LaneSt.frame_mono (setWord_frame _ _
      _) (by decide)) _ _
  have hB : A.frame [.regs, .mem, .shepMem] B := by
    simp only [B]
    split
    · exact LaneSt.frame_mono (setWords_frame _ _ _) (by decide)
    · exact LaneSt.frame_mono (frame_shepWords _ _ _) (by decide)
    · exact A.frame_refl _
  exact LaneSt.frame_step (setReg_frame _ _ _) (by decide) (frame_seq hB hA)

theorem LaneSt.copyCounts_frame (L : LaneSt) (i : Nat) (g : StageSt) :
    L.frame [.regs] (LaneSt.copyCounts L i g) := by
  unfold LaneSt.copyCounts
  exact (frame_step (wr_frame _ _ _) (by decide) (frame_step (wr_frame _ _ _) (by decide) (frame_step (wr_frame _ _ _)
      (by decide) (frame_step (wr_frame _ _ _) (by decide) (frame_step (wr_frame _ _ _) (by decide) (frame_step
      (wr_frame _ _ _) (by decide) (frame_step (wr_frame _ _ _) (by decide) (frame_refl _ _))))))))

theorem LaneSt.stageMasks_frame (L : LaneSt) (i : Nat) (g : StageSt) :
    L.frame [.regs, .fc] (LaneSt.stageMasks L i g) := by
  unfold LaneSt.stageMasks
  exact (frame_ite (frame_step (openMask_frame _ _) (by decide) (frame_ite (frame_step (openMask_frame _ _) (by
      decide) (frame_refl _ _)) (frame_ite (frame_step (endMask_frame _ _) (by decide) (frame_refl _ _)) (frame_refl _
      _)))) (frame_ite (frame_step (endMask_frame _ _) (by decide) (frame_ite (frame_step (openMask_frame _ _) (by
      decide) (frame_refl _ _)) (frame_ite (frame_step (endMask_frame _ _) (by decide) (frame_refl _ _)) (frame_refl _
      _)))) (frame_ite (frame_step (openMask_frame _ _) (by decide) (frame_refl _ _)) (frame_ite (frame_step
      (endMask_frame _ _) (by decide) (frame_refl _ _)) (frame_refl _ _)))))

theorem LaneSt.raiseStage_frame (L : LaneSt) (l : Lane) (i : Nat) (g : StageSt) :
    L.frame [.regs, .fc, .sys, .meas, .aux] (LaneSt.raiseStage L l i g) := by
  unfold LaneSt.raiseStage
  exact (frame_step (raiseIf_frame _ _ _ _) (by decide) (frame_seq (frame_ite (frame_step (stepFailed_frame _ _) (by
      decide) (frame_refl _ _)) (frame_refl _ _)) (frame_seq (frame_step (frame_meas _ _) (by decide) (frame_refl _
      _)) (frame_seq (frame_ite (frame_step (removeStage_frame _ _) (by decide) (frame_step (raise_frame _ _ _) (by
      decide) (frame_refl _ _))) (frame_refl _ _)) (frame_seq (frame_step (frame_meas _ _) (by decide) (frame_refl _
      _)) (frame_seq (frame_seq (frame_forN (fun _ _ => (frame_step (raiseIf_frame _ _ _ _) (by decide) (frame_refl _
      _))) _ _) (frame_refl _ _)) (frame_seq (frame_step (raiseIf_frame _ _ _ _) (by decide) (frame_refl _ _))
      (frame_seq (frame_step (frame_meas _ _) (by decide) (frame_refl _ _)) (frame_seq (frame_forN (fun _ _ =>
      (frame_step (raiseIf_frame _ _ _ _) (by decide) (frame_refl _ _))) _ _) (frame_refl _ _))))))))))

theorem LaneSt.collectOffset_frame (L : LaneSt) (i : Nat) (k : Nat) (r : LegRes) :
    L.frame [.meas] (LaneSt.collectOffset L i k r) := by
  unfold LaneSt.collectOffset
  exact (by (try dsimp only); split; exact (frame_ite (frame_step (frame_meas _ _) (by decide) (frame_refl _ _)) (frame_refl _ _)); exact (frame_refl _ _))

theorem LaneSt.saturation_frame (L : LaneSt) (i : Nat) (k : Nat) (sat : Bool) :
    L.frame [.regs, .fc, .sys, .meas, .aux] (LaneSt.saturation L i k sat) := by
  unfold LaneSt.saturation
  exact (frame_step (raiseIf_frame _ _ _ _) (by decide) (frame_step (frame_meas _ _) (by decide) (frame_refl _ _)))

theorem LaneSt.storeLeg_frame (L : LaneSt) (i : Nat) (k : Nat) (g : StageSt) (r : LegRes) (cur : Option Int) (valid :
    Bool) (recon : Bool) :
    L.frame [.regs] (LaneSt.storeLeg L i k g r cur valid recon) := by
  unfold LaneSt.storeLeg
  exact (frame_step (wr_frame _ _ _) (by decide) (frame_step (wr_frame _ _ _) (by decide) (frame_step (wr_frame _ _ _) (by decide) (frame_seq (by (try dsimp only); split; exact (frame_step (wrS_frame _ _ _) (by decide) (frame_refl _ _)); exact (frame_refl _ _)) (by (try dsimp only); split; exact (frame_step (wrS_frame _ _ _) (by decide) (frame_refl _ _)); exact (frame_refl _ _))))))

theorem LaneSt.shiftMeans_frame (L : LaneSt) (i : Nat) (m : Tri (Option Int)) :
    L.frame [.meas] (LaneSt.shiftMeans L i m) := by
  unfold LaneSt.shiftMeans
  exact (frame_step (frame_meas _ _) (by decide) (frame_refl _ _))

theorem LaneSt.countNovalid_frame (L : LaneSt) (i : Nat) (none_ : Bool) :
    L.frame [.regs, .fc, .sys, .meas, .aux] (LaneSt.countNovalid L i none_) := by
  unfold LaneSt.countNovalid
  exact (frame_ite (frame_step (removeStage_frame _ _) (by decide) (frame_step (raise_frame _ _ _) (by decide)
      (frame_step (frame_meas _ _) (by decide) (frame_step (put_frame _ _ _) (by decide) (frame_refl _ _)))))
      (frame_step (frame_meas _ _) (by decide) (frame_step (put_frame _ _ _) (by decide) (frame_refl _ _))))

theorem LaneSt.kirchhoff_frame (L : LaneSt) (i : Nat) (checked : Bool) (sum : Int) :
    L.frame [.regs, .fc, .sys, .meas, .aux] (LaneSt.kirchhoff L i checked sum) := by
  unfold LaneSt.kirchhoff
  exact (frame_ite (frame_step (put_frame _ _ _) (by decide) (frame_refl _ _)) (frame_ite (frame_step
      (removeStage_frame _ _) (by decide) (frame_step (raise_frame _ _ _) (by decide) (frame_seq (frame_step
      (frame_meas _ _) (by decide) (frame_refl _ _)) (frame_step (put_frame _ _ _) (by decide) (frame_refl _ _)))))
      (frame_seq (frame_step (frame_meas _ _) (by decide) (frame_refl _ _)) (frame_step (put_frame _ _ _) (by decide)
      (frame_refl _ _)))))

theorem LaneSt.pushRes_frame (L : LaneSt) (i : Nat) (x : PerRes) :
    L.frame [.meas] (LaneSt.pushRes L i x) := by
  unfold LaneSt.pushRes
  exact (frame_step (frame_meas _ _) (by decide) (frame_refl _ _))

theorem LaneSt.evaluate_frame (L : LaneSt) (i : Nat) (g : StageSt) (r : Tri LegRes) :
    L.frame [.regs, .fc, .sys, .meas, .aux] (LaneSt.evaluate L i g r) := by
  unfold LaneSt.evaluate
  exact (by first | exact (frame_step (pushRes_frame _ _ _) (by decide) (frame_seq (frame_step (shiftMeans_frame _ _ _) (by decide) (frame_step (countNovalid_frame _ _ _) (by decide) (frame_step (kirchhoff_frame _ _ _ _) (by decide) (frame_refl _ _)))) (frame_seq (frame_seq (frame_for3 (fun _ _ => (frame_step (collectOffset_frame _ _ _ _) (by decide) (frame_step (saturation_frame _ _ _ _) (by decide) (frame_step (storeLeg_frame _ _ _ _ _ _ _ _) (by decide) (frame_refl _ _))))) _) (frame_refl _ _)) (frame_step (frame_meas _ _) (by decide) (frame_refl _ _))))) | (split; exact (frame_step (pushRes_frame _ _ _) (by decide) (frame_seq (frame_step (shiftMeans_frame _ _ _) (by decide) (frame_step (countNovalid_frame _ _ _) (by decide) (frame_step (kirchhoff_frame _ _ _ _) (by decide) (frame_refl _ _)))) (frame_seq (frame_seq (frame_for3 (fun _ _ => (frame_step (collectOffset_frame _ _ _ _) (by decide) (frame_step (saturation_frame _ _ _ _) (by decide) (frame_step (storeLeg_frame _ _ _ _ _ _ _ _) (by decide) (frame_refl _ _))))) _) (frame_refl _ _)) (frame_step (frame_meas _ _) (by decide) (frame_refl _ _)))))) | (dsimp only; split; exact (frame_step (pushRes_frame _ _ _) (by decide) (frame_seq (frame_step (shiftMeans_frame _ _ _) (by decide) (frame_step (countNovalid_frame _ _ _) (by decide) (frame_step (kirchhoff_frame _ _ _ _) (by decide) (frame_refl _ _)))) (frame_seq (frame_seq (frame_for3 (fun _ _ => (frame_step (collectOffset_frame _ _ _ _) (by decide) (frame_step (saturation_frame _ _ _ _) (by decide) (frame_step (storeLeg_frame _ _ _ _ _ _ _ _) (by decide) (frame_refl _ _))))) _) (frame_refl _ _)) (frame_step (frame_meas _ _) (by decide) (frame_refl _ _)))))))

theorem LaneSt.takeStatus_frame (L : LaneSt) (l : Lane) (i : Nat) (g : StageSt) :
    L.frame [.regs, .fc, .pwr, .sys, .meas, .aux] (LaneSt.takeStatus L l i g) := by
  unfold LaneSt.takeStatus
  exact (frame_step (returnClaims_frame _ _ _) (by decide) (frame_step (refreshService_frame _) (by decide) (frame_seq
      (frame_step (evaluate_frame _ _ _ _) (by decide) (frame_refl _ _)) (frame_seq (frame_step (stageMasks_frame _ _
      _) (by decide) (frame_step (raiseStage_frame _ _ _ _) (by decide) (frame_refl _ _))) (frame_seq (frame_step
      (frame_meas _ _) (by decide) (frame_refl _ _)) (frame_seq (frame_step (put_frame _ _ _) (by decide) (frame_step
      (put_frame _ _ _) (by decide) (frame_step (wr_frame _ _ _) (by decide) (frame_refl _ _)))) (frame_seq
      (frame_step (wr_frame _ _ _) (by decide) (frame_refl _ _)) (frame_step (copyClm_frame _ _ _) (by decide)
      (frame_step (copyCounts_frame _ _ _) (by decide) (frame_step (copyStat_frame _ _ _) (by decide) (frame_refl _
      _)))))))))))

theorem LaneSt.sample_frame (L : LaneSt) (n : Nat) :
    L.frame [.free] (LaneSt.sample L n).2 := by
  unfold LaneSt.sample
  exact (by (try dsimp only); split; exact (frame_step (fresh_frame _) (by decide) (frame_refl _ _)); exact (frame_step (fresh_frame _) (by decide) (frame_refl _ _)); exact (frame_refl _ _); exact (frame_refl _ _); exact (frame_refl _ _); exact (frame_refl _ _); exact (frame_refl _ _); exact (frame_refl _ _); exact (frame_refl _ _); exact (frame_refl _ _))

theorem LaneSt.debugRead_frame (L : LaneSt) (r : DbgReg) :
    L.frame [.free] (LaneSt.debugRead L r).2 := by
  unfold LaneSt.debugRead
  exact (by (try dsimp only); split; exact (frame_refl _ _); exact (frame_refl _ _); exact (by (try dsimp only); split; exact (frame_step (sample_frame _ _) (by decide) (frame_refl _ _)); exact (frame_refl _ _)); exact (frame_refl _ _); exact (frame_refl _ _); exact (frame_refl _ _))

theorem LaneSt.takeVersion_frame (L : LaneSt) (v : Option Nat) :
    L.frame [.regs, .fc, .sys, .aux] (LaneSt.takeVersion L v) := by
  unfold LaneSt.takeVersion
  exact (by (try dsimp only); split; exact (frame_ite (frame_step (wr_frame _ _ _) (by decide) (frame_refl _ _)) (frame_step (raise_frame _ _ _) (by decide) (frame_refl _ _))); exact (frame_step (raise_frame _ _ _) (by decide) (frame_refl _ _)))

theorem LaneSt.renewKeys_frame (L : LaneSt) (l : Lane) :
    L.frame [.regs, .mem, .nvm, .sec] (LaneSt.renewKeys L l) := by
  unfold LaneSt.renewKeys
  exact (frame_step (updKeys_frame _ _) (by decide) (frame_seq (frame_step (put_frame _ _ _) (by decide) (frame_step
      (put_frame _ _ _) (by decide) (frame_step (put_frame _ _ _) (by decide) (frame_refl _ _)))) (frame_step
      (deferredErase_frame _ _) (by decide) (frame_step (incSat_frame _ _ _) (by decide) (frame_refl _ _)))))

theorem LaneSt.showKeeper_frame (L : LaneSt) :
    L.frame [.regs] (LaneSt.showKeeper L) := by
  unfold LaneSt.showKeeper
  exact (frame_step (wr_frame _ _ _) (by decide) (frame_step (wrS_frame _ _ _) (by decide) (frame_step (put_frame _ _
      _) (by decide) (frame_step (put_frame _ _ _) (by decide) (frame_step (wr_frame _ _ _) (by decide) (frame_refl _
      _))))))

theorem LaneSt.flkListen_frame (L : LaneSt) :
    L.frame [.regs, .flk] (LaneSt.flkListen L) := by
  unfold LaneSt.flkListen
  exact (frame_step (showKeeper_frame _) (by decide) (frame_step (put_frame _ _ _) (by decide) (frame_step (put_frame
      _ _ _) (by decide) (frame_step (updFlk_frame _ _) (by decide) (frame_refl _ _)))))

theorem LaneSt.coreReset_frame (L : LaneSt) :
    L.frame [.regs, .mem, .fc, .nvm, .agr, .com, .mbx, .sec, .aux, .core, .flk] (LaneSt.coreReset L) := by
  unfold LaneSt.coreReset
  exact (frame_ite (frame_seq (frame_step (frame_fc _ _) (by decide) (frame_refl _ _)) (frame_seq (frame_step
      (updCore_frame _ _) (by decide) (frame_step (flkListen_frame _) (by decide) (frame_step (auxAbort_frame _ _) (by
      decide) (frame_step (resetShepherd_frame _) (by decide) (frame_refl _ _))))) (frame_ite (frame_step (put_frame _
      _ _) (by decide) (frame_refl _ _)) (frame_refl _ _)))) (frame_step (enterResync_frame _) (by decide) (frame_seq
      (frame_step (frame_fc _ _) (by decide) (frame_refl _ _)) (frame_seq (frame_step (updCore_frame _ _) (by decide)
      (frame_step (flkListen_frame _) (by decide) (frame_step (auxAbort_frame _ _) (by decide) (frame_step
      (resetShepherd_frame _) (by decide) (frame_refl _ _))))) (frame_ite (frame_step (put_frame _ _ _) (by decide)
      (frame_refl _ _)) (frame_refl _ _))))))

theorem LaneSt.checkImage_frame (L : LaneSt) (r : Rnd) (n : Nat) :
    L.frame [.regs, .fc, .sys, .nvm, .aux] (LaneSt.checkImage L r n) := by
  unfold LaneSt.checkImage
  exact (by (try dsimp only); split; exact (frame_refl _ _); exact (frame_ite (frame_step (frame_nvm _ _) (by decide) (frame_refl _ _)) (frame_ite (frame_step (frame_nvm _ _) (by decide) (frame_refl _ _)) (frame_step (raise_frame _ _ _) (by decide) (frame_step (frame_nvm _ _) (by decide) (frame_refl _ _))))))

theorem LaneSt.fallBack_frame (L : LaneSt) :
    L.frame [.regs, .fc, .sys, .aux] (LaneSt.fallBack L) := by
  unfold LaneSt.fallBack
  exact (frame_step (raise_frame _ _ _) (by decide) (frame_step (put_frame _ _ _) (by decide) (frame_step (put_frame _
      _ _) (by decide) (frame_step (put_frame _ _ _) (by decide) (frame_refl _ _)))))

theorem LaneSt.coldClocks_frame (L : LaneSt) (l : Lane) (f : BootFacts) :
    L.frame [.regs, .mem, .fc, .sys, .nvm, .sec, .aux, .flk] (LaneSt.coldClocks L l f) := by
  unfold LaneSt.coldClocks
  exact (frame_step (raiseIf_frame _ _ _ _) (by decide) (frame_step (flkListen_frame _) (by decide) (frame_step
      (renewKeys_frame _ _) (by decide) (frame_seq (frame_ite (frame_step (put_frame _ _ _) (by decide) (frame_step
      (put_frame _ _ _) (by decide) (frame_step (put_frame _ _ _) (by decide) (frame_refl _ _)))) (frame_step
      (fallBack_frame _) (by decide) (frame_refl _ _))) (frame_step (put_frame _ _ _) (by decide) (frame_step
      (setReg_frame _ _ _) (by decide) (frame_refl _ _)))))))

theorem LaneSt.startBase_frame (L : LaneSt) (stoHigh : Bool) :
    L.frame [.regs, .fc, .pwr, .sys, .nvm, .safe] (LaneSt.startBase L stoHigh) := by
  unfold LaneSt.startBase
  exact (frame_step (frame_fc_pwr_sys_nvm_safe _ _ _ _ _ _) (by decide) (frame_seq (frame_step (put_frame _ _ _) (by
      decide) (frame_refl _ _)) (frame_seq (frame_step (put_frame _ _ _) (by decide) (frame_step (wr_frame _ _ _) (by
      decide) (frame_step (wr_frame _ _ _) (by decide) (frame_refl _ _)))) (frame_seq (frame_step (put_frame _ _ _)
      (by decide) (frame_step (wr_frame _ _ _) (by decide) (frame_step (wr_frame _ _ _) (by decide) (frame_refl _
      _)))) (frame_step (wr_frame _ _ _) (by decide) (frame_step (wr_frame _ _ _) (by decide) (frame_step (wr_frame _
      _ _) (by decide) (frame_refl _ _))))))))

theorem LaneSt.inRom_frame (L : LaneSt) :
    L.frame [.regs, .fc, .sys] (LaneSt.inRom L) := by
  unfold LaneSt.inRom
  exact (frame_step (frame_sys _ _) (by decide) (frame_step (goSilent_frame _) (by decide) (frame_refl _ _)))

theorem LaneSt.bootBank_frame (L : LaneSt) (okA okB : Bool) (n : Nat) : L.frame [.mem, .nvm] (L.bootBank okA okB n).1
    := by
  induction n generalizing L with
  | zero => exact L.frame_refl _
  | succ n ih =>
    unfold LaneSt.bootBank
    split
    · exact L.frame_refl _
    · rename_i b _
      have h0 : ∀ (c : Prop) [Decidable c] (x : Bank), L.frame [.mem, .nvm] (if c then L.setBank b x else L) := by
        intro c _ x; split
        · exact LaneSt.setBank_frame _ _ _
        · exact L.frame_refl _
      extract_lets x trial good A
      by_cases hg : good = true
      · rw [if_pos hg]
        exact LaneSt.frame_step (frame_nvm A _) (by decide) (h0 _ _)
      · rw [if_neg hg]
        exact LaneSt.frame_seq (ih A) (h0 _ _)

theorem LaneSt.bootFails_frame (L : LaneSt) (id : Nat) :
    L.frame [.regs, .fc, .sys, .aux] (LaneSt.bootFails L id) := by
  unfold LaneSt.bootFails
  exact (frame_step (goSilent_frame _) (by decide) (frame_step (raise_frame _ _ _) (by decide) (frame_refl _ _)))

theorem LaneSt.chooseImage_frame (L : LaneSt) (f0 : Option ImgFacts) (f1 : Option ImgFacts) :
    L.frame [.regs, .fc, .sys, .aux] (LaneSt.chooseImage L f0 f1).1 := by
  unfold LaneSt.chooseImage
  exact (by (try dsimp only); split; exact (frame_step (raiseIf_frame _ _ _ _) (by decide) (frame_step (raiseIf_frame _ _ _ _) (by decide) (frame_refl _ _))); exact (frame_step (raiseIf_frame _ _ _ _) (by decide) (frame_step (raiseIf_frame _ _ _ _) (by decide) (frame_refl _ _))); exact (frame_step (raiseIf_frame _ _ _ _) (by decide) (frame_step (raiseIf_frame _ _ _ _) (by decide) (frame_refl _ _))); exact (frame_step (raiseIf_frame _ _ _ _) (by decide) (frame_step (raiseIf_frame _ _ _ _) (by decide) (frame_refl _ _))))

theorem LaneSt.startLists_frame (L : LaneSt) (es : List Word) :
    L.frame [.regs] (LaneSt.startLists L es) := by
  unfold LaneSt.startLists
  exact (frame_seq (frame_forN (fun _ _ => (frame_step (setReg_frame _ _ _) (by decide) (frame_refl _ _))) _ _)
      (frame_seq (frame_foldl (fun _ _ => (frame_step (setReg_frame _ _ _) (by decide) (frame_refl _ _))) _ _)
      (frame_refl _ _)))

theorem LaneSt.startAux_frame (L : LaneSt) : L.frame [.regs, .fc, .sys, .aux] L.startAux := by
  unfold LaneSt.startAux
  extract_lets given A B
  have hA : L.frame [.regs, .fc, .sys, .aux] A :=
    LaneSt.frame_ite (L.frame_refl _) (frame_ite (frame_mono (updAux_frame _ _) (by decide)) (raise_frame _ _ _))
  have hB : A.frame [.regs, .fc, .sys, .aux] B := by
    simp only [B]
    split
    · exact LaneSt.frame_step (put_frame _ _ _) (by decide) (frame_step (wr_frame _ _ _) (by decide)
        (frame_mono (wr_frame _ _ _) (by decide)))
    · exact A.frame_refl _
  exact LaneSt.frame_step (refreshTbl_frame _) (by decide) (frame_step (updAux_frame _ _) (by decide)
    (frame_seq hB hA))

theorem LaneSt.startCal_frame (L : LaneSt) (ok : Tri Bool) (cal : List (Int × Int × Int)) :
    L.frame [.regs, .fc, .sys, .meas, .aux] (LaneSt.startCal L ok cal) := by
  unfold LaneSt.startCal
  exact (frame_seq (frame_for3 (fun _ _ => (frame_ite (frame_step (put_frame _ _ _) (by decide) (frame_step
      (frame_meas _ _) (by decide) (frame_refl _ _))) (frame_step (raise_frame _ _ _) (by decide) (frame_step
      (put_frame _ _ _) (by decide) (frame_step (frame_meas _ _) (by decide) (frame_refl _ _)))))) _) (frame_step
      (frame_meas _ _) (by decide) (frame_refl _ _)))

theorem LaneSt.startParts_frame (L : LaneSt) (f : BootFacts) (others : Bool) :
    L.frame [.regs, .fc, .sys, .nvm, .meas, .pos, .chn, .sec, .aux, .can1, .can2] (LaneSt.startParts L f others) := by
  unfold LaneSt.startParts
  exact (frame_step (measureBoot_frame _) (by decide) (frame_step (startEngines_frame _ _) (by decide) (frame_step
      (startAux_frame _) (by decide) (frame_step (startCal_frame _ _ _) (by decide) (frame_step (put_frame _ _ _) (by
      decide) (frame_step (frame_nvm _ _) (by decide) (frame_refl _ _)))))))

theorem LaneSt.overlayMaps_frame (L : LaneSt) :
    L.frame [.regs, .mem, .fc, .sys, .nvm, .aux] (LaneSt.overlayMaps L) := by
  unfold LaneSt.overlayMaps
  exact (frame_ite (frame_refl _ _) (frame_ite (frame_step (put_frame _ _ _) (by decide) (frame_seq (frame_foldl (fun
      _ _ => (frame_step (setReg_frame _ _ _) (by decide) (frame_refl _ _))) _ _) (frame_refl _ _))) (frame_step
      (raise_frame _ _ _) (by decide) (frame_step (put_frame _ _ _) (by decide) (frame_step (updCal_frame _ _) (by
      decide) (frame_refl _ _))))))

theorem LaneSt.loadReg_frame (L : LaneSt) (a : Nat) (v : Word) :
    L.frame [.regs] (LaneSt.loadReg L a v) := by
  unfold LaneSt.loadReg
  exact (frame_ite (frame_refl _ _) (frame_step (setReg_frame _ _ _) (by decide) (frame_refl _ _)))

theorem LaneSt.loadImage_frame (L : LaneSt) (f : ImgFacts) :
    L.frame [.regs, .com, .mbx, .flk, .can1, .can2] (LaneSt.loadImage L f) := by
  unfold LaneSt.loadImage
  exact (frame_step (wr_frame _ _ _) (by decide) (frame_step (updCan_frame _ _ _) (by decide) (frame_step
      (updCan_frame _ _ _) (by decide) (frame_step (updFlk_frame _ _) (by decide) (frame_step (updMbx_frame _ _) (by
      decide) (frame_step (frame_com _ _) (by decide) (frame_seq (frame_step (wr_frame _ _ _) (by decide) (frame_refl
      _ _)) (frame_seq (frame_ite (frame_refl _ _) (frame_step (setReg_frame _ _ _) (by decide) (frame_refl _ _)))
      (frame_seq (frame_foldl (fun _ _ => (frame_step (loadReg_frame _ _ _) (by decide) (frame_refl _ _))) _ _)
      (frame_refl _ _))))))))))

theorem LaneSt.takeImage_frame (L : LaneSt) (img : Option (Bool × ImgFacts)) :
    L.frame [.regs, .mem, .fc, .sys, .nvm, .com, .mbx, .aux, .flk, .can1, .can2] (LaneSt.takeImage L img) := by
  unfold LaneSt.takeImage
  exact (by (try dsimp only); split; exact (frame_step (overlayMaps_frame _) (by decide) (frame_step (loadImage_frame _ _) (by decide) (frame_step (setSlot_frame _ _ _) (by decide) (frame_step (frame_nvm _ _) (by decide) (frame_refl _ _))))); exact (frame_refl _ _))

theorem LaneSt.startSplit_frame (L : LaneSt) (l : Lane) (b : Bool) (f : ImgFacts) :
    L.frame [.regs, .fc, .sys, .aux] (LaneSt.startSplit L l b f) := by
  unfold LaneSt.startSplit
  exact (frame_ite (frame_refl _ _) (frame_ite (frame_step (raise_frame _ _ _) (by decide) (frame_step (put_frame _ _
      _) (by decide) (frame_refl _ _))) (frame_step (put_frame _ _ _) (by decide) (frame_step (wr_frame _ _ _) (by
      decide) (frame_refl _ _)))))

theorem LaneSt.keepHold_frame (L : LaneSt) :
    L.frame [.regs, .fc] (LaneSt.keepHold L) := by
  unfold LaneSt.keepHold
  exact (frame_ite (frame_step (goSilent_frame _) (by decide) (frame_refl _ _)) (frame_refl _ _))

theorem LaneSt.startRest_frame (L : LaneSt) (l : Lane) (f : BootFacts) (others : Bool) :
    L.frame [.regs, .mem, .fc, .sys, .nvm, .agr, .meas, .pos, .com, .chn, .mbx, .sec, .aux, .flk, .can1, .can2]
        (L.startRest l f others) := by
  unfold LaneSt.startRest
  refine LaneSt.frame_ite (frame_mono (bootFails_frame _ _) (by decide)) ?_
  rcases h : (L.startLists f.retList).chooseImage f.slot0 f.slot1 with ⟨A, img⟩
  have hA : L.frame [.regs, .mem, .fc, .sys, .nvm, .agr, .meas, .pos, .com, .chn, .mbx, .sec, .aux, .flk, .can1,
      .can2] A := by
    have := LaneSt.chooseImage_frame (L.startLists f.retList) f.slot0 f.slot1
    rw [h] at this
    exact LaneSt.frame_step this (by decide) (frame_mono (startLists_frame _ _) (by decide))
  have hE : L.frame [.regs, .mem, .fc, .sys, .nvm, .agr, .meas, .pos, .com, .chn, .mbx, .sec, .aux, .flk, .can1,
      .can2] ((A.takeImage img).startParts f others) :=
    LaneSt.frame_step (startParts_frame _ _ _) (by decide) (frame_step (takeImage_frame _ _) (by decide) hA)
  have hr : ∀ (c : Prop) [Decidable c] (M : LaneSt), L.frame [.regs, .mem, .fc, .sys, .nvm, .agr, .meas, .pos, .com,
      .chn, .mbx, .sec, .aux, .flk, .can1, .can2] M → L.frame [.regs, .mem, .fc, .sys, .nvm, .agr, .meas, .pos, .com,
      .chn, .mbx, .sec, .aux, .flk, .can1, .can2] (if c then M.enterResync else M.driveFaultX).keepHold := by
    intro c _ M hM
    refine LaneSt.frame_step (keepHold_frame _) (by decide) ?_
    split
    · exact LaneSt.frame_step (enterResync_frame _) (by decide) hM
    · exact LaneSt.frame_step (driveFaultX_frame _) (by decide) hM
  dsimp only
  split
  · refine LaneSt.frame_ite (frame_step (bootFails_frame _ _) (by decide) hE) ?_
    exact hr _ _ (frame_step (startSplit_frame _ _ _ _) (by decide) hE)
  · exact hr _ _ hE

theorem LaneSt.startLane_frame (L : LaneSt) (l : Lane) (f : BootFacts) (others : Bool) :
    L.frame [.regs, .mem, .fc, .pwr, .sys, .nvm, .agr, .meas, .pos, .com, .safe, .chn, .mbx, .sec, .aux, .core, .flk,
        .can1, .can2] (L.startLane l f others) := by
  unfold LaneSt.startLane
  extract_lets A
  have hA : L.frame [.regs, .mem, .fc, .pwr, .sys, .nvm, .agr, .meas, .pos, .com, .safe, .chn, .mbx, .sec, .aux,
      .core, .flk, .can1, .can2] A :=
    LaneSt.frame_step (startDebug_frame _ _ _) (by decide) (frame_mono (startBase_frame _ _) (by decide))
  refine LaneSt.frame_ite (frame_step (inRom_frame _) (by decide) hA) ?_
  rcases h : A.bootBank f.bankAOk f.bankBOk 2 with ⟨B, booted⟩
  have hB : A.frame [.mem, .nvm] B := by
    have := LaneSt.bootBank_frame A f.bankAOk f.bankBOk 2
    rwa [h] at this
  have hB' := LaneSt.frame_step hB (by decide) hA
  refine LaneSt.frame_ite (frame_step (startRest_frame _ _ _ _) (by decide)
    (frame_step (frame_core _ _) (by decide) hB')) ?_
  exact LaneSt.frame_step (inRom_frame _) (by decide) (frame_step (raise_frame _ _ _) (by decide) hB')

theorem LaneSt.coldBootLane_frame (L : LaneSt) (l : Lane) (f : BootFacts) (others : Bool) :
    L.frame [.regs, .mem, .fc, .pwr, .sys, .nvm, .agr, .meas, .pos, .com, .safe, .chn, .mbx, .sec, .aux, .core, .flk,
        .can1, .can2] (LaneSt.coldBootLane L l f others) := by
  unfold LaneSt.coldBootLane
  exact (frame_ite (frame_step (startLane_frame _ _ _ _) (by decide) (frame_step (coldClocks_frame _ _ _) (by decide)
      (frame_refl _ _))) (frame_step (bootFails_frame _ _) (by decide) (frame_step (startDebug_frame _ _ _) (by
      decide) (frame_step (startBase_frame _ _) (by decide) (frame_step (coldClocks_frame _ _ _) (by decide)
      (frame_refl _ _))))))

theorem LaneSt.showFuses_frame (L : LaneSt) :
    L.frame [.regs] (LaneSt.showFuses L) := by
  unfold LaneSt.showFuses
  exact (frame_step (wr_frame _ _ _) (by decide) (frame_refl _ _))

theorem LaneSt.openSession_frame (L : LaneSt) (r : Req) (a : HelloArgs) :
    L.frame [.regs, .mbx, .sec] (LaneSt.openSession L r a) := by
  unfold LaneSt.openSession
  exact (frame_step (updMbx_frame _ _) (by decide) (frame_seq (frame_step (updKeys_frame _ _) (by decide) (frame_step
      (put_frame _ _ _) (by decide) (frame_refl _ _))) (frame_seq (frame_step (put_frame _ _ _) (by decide)
      (frame_step (setReg_frame _ _ _) (by decide) (frame_step (setReg_frame _ _ _) (by decide) (frame_refl _ _))))
      (frame_step (closeSession_frame _) (by decide) (frame_refl _ _)))))

theorem LaneSt.channelLost_frame (L : LaneSt) (i : Nat) (was : Bool) (heard : Bool) :
    L.frame [.regs, .fc, .sys, .aux] (LaneSt.channelLost L i was heard) := by
  unfold LaneSt.channelLost
  exact (frame_step (raiseIf_frame _ _ _ _) (by decide) (frame_refl _ _))

theorem LaneSt.eccFault_frame (L : LaneSt) (cause : Nat) (tval : Word) :
    L.frame [.regs, .fc, .sys, .aux, .core] (LaneSt.eccFault L cause tval) := by
  unfold LaneSt.eccFault
  exact (frame_step (openMask_frame _ _) (by decide) (frame_step (raise_frame _ _ _) (by decide) (frame_step
      (haltCores_frame _) (by decide) (frame_step (trap_frame _ _ _) (by decide) (frame_refl _ _)))))

theorem LaneSt.glitch_frame (L : LaneSt) (l : Lane) (bit : Nat) :
    L.frame [.regs, .mem, .fc, .sys, .nvm, .agr, .com, .mbx, .sec, .aux, .core] (LaneSt.glitch L l bit) := by
  unfold LaneSt.glitch
  exact (frame_ite (frame_step (raise_frame _ _ _) (by decide) (frame_step (inc_frame _ _ _) (by decide) (frame_refl _
      _))) (frame_step (latchRind_frame _ _ _) (by decide) (frame_refl _ _)))

theorem LaneSt.endAsSource_frame (L : LaneSt) (i : Nat) (src : StopSrc) :
    L.frame [.safe] (LaneSt.endAsSource L i src) := by
  unfold LaneSt.endAsSource
  exact (frame_step (updSafe_frame _ _) (by decide) (frame_refl _ _))

theorem LaneSt.blow_frame (L : LaneSt) (x : Nat) :
    L.frame [.regs] (LaneSt.blow L x) := by
  unfold LaneSt.blow
  exact (frame_step (wr_frame _ _ _) (by decide) (frame_step (inc_frame _ _ _) (by decide) (frame_refl _ _)))

theorem LaneSt.setLatch_frame (L : LaneSt) (l : Lane) :
    L.frame [.regs, .fc, .sys, .safe, .aux] (LaneSt.setLatch L l) := by
  unfold LaneSt.setLatch
  exact (frame_ite (frame_refl _ _) (frame_step (refreshSafe_frame _ _) (by decide) (frame_step (raise_frame _ _ _)
      (by decide) (frame_step (put_frame _ _ _) (by decide) (frame_refl _ _)))))

theorem LaneSt.speak_frame (L : LaneSt) (l : Lane) :
    L.frame [.sys] (LaneSt.speak L l) := by
  unfold LaneSt.speak
  exact (frame_step (frame_sys _ _) (by decide) (frame_refl _ _))

theorem LaneSt.cycleDone_frame (L : LaneSt) (total : Nat) :
    L.frame [.regs, .chn] (LaneSt.cycleDone L total) := by
  unfold LaneSt.cycleDone
  exact (frame_ite (frame_step (wr_frame _ _ _) (by decide) (frame_refl _ _)) (frame_step (updChn_frame _ _) (by
      decide) (frame_seq (frame_step (wr_frame _ _ _) (by decide) (frame_step (put_frame _ _ _) (by decide)
      (frame_step (wr_frame _ _ _) (by decide) (frame_refl _ _)))) (frame_seq (frame_step (wr_frame _ _ _) (by decide)
      (frame_step (inc_frame _ _ _) (by decide) (frame_refl _ _))) (frame_step (wr_frame _ _ _) (by decide)
      (frame_refl _ _))))))

theorem LaneSt.segPass_frame (L : LaneSt) (p : Nat) (seg : Nat) :
    L.frame [.regs, .chn] (LaneSt.segPass L p seg) := by
  unfold LaneSt.segPass
  exact (frame_step (cycleDone_frame _ _) (by decide) (frame_step (wr_frame _ _ _) (by decide) (frame_step
      (updChn_frame _ _) (by decide) (frame_refl _ _))))

theorem LaneSt.learnData_frame (L : LaneSt) (c : CanId) (ns : Nat) (ok : Bool) :
    L.frame [.regs, .can1, .can2] (LaneSt.learnData L c ns ok) := by
  unfold LaneSt.learnData
  exact (by (try dsimp only); split; exact (frame_refl _ _); exact (frame_ite (frame_step (setCan_frame _ _ _) (by decide) (frame_refl _ _)) (frame_ite (frame_step (wr_frame _ _ _) (by decide) (frame_step (setCan_frame _ _ _) (by decide) (frame_refl _ _))) (frame_step (setCan_frame _ _ _) (by decide) (frame_refl _ _)))))

theorem LaneSt.putReg_frame (L : LaneSt) (fp : Bool) (n : Nat) (v : Word) (nv : Word) :
    L.frame [.core] (LaneSt.putReg L fp n v nv) := by
  unfold LaneSt.putReg
  exact (frame_step (updCpu_frame _ _) (by decide) (frame_refl _ _))

theorem LaneSt.retire_frame (L : LaneSt) (len : Nat) :
    L.frame [.core] (LaneSt.retire L len) := by
  unfold LaneSt.retire
  exact (frame_step (goto_frame _ _ _) (by decide) (frame_step (updCore_frame _ _) (by decide) (frame_refl _ _)))

theorem LaneSt.jumpInstr_frame (L : LaneSt) (rd : Nat) (t : Word) (nt : Word) (len : Nat) (u : Upset) :
    L.frame [.regs, .fc, .sys, .aux, .core] (LaneSt.jumpInstr L rd t nt len u) := by
  unfold LaneSt.jumpInstr
  exact (frame_ite (frame_step (goto_frame _ _ _) (by decide) (frame_step (retire_frame _ _) (by decide) (frame_step
      (putReg_frame _ _ _ _ _) (by decide) (frame_refl _ _)))) (frame_step (mismatch_frame _ _ _ _) (by decide)
      (frame_refl _ _)))

theorem LaneSt.adjustScale_frame (L : LaneSt) (i : Nat) (j : Nat) (a : Nat) (x : Int) :
    L.frame [.regs, .com] (LaneSt.adjustScale L i j a x) := by
  unfold LaneSt.adjustScale
  exact (frame_ite (frame_refl _ _) (frame_step (frame_com _ _) (by decide) (frame_step (wr_frame _ _ _) (by decide)
      (frame_refl _ _))))

theorem LaneSt.applyStage_frame (L : LaneSt) (r : Learn) (i : Nat) :
    L.frame [.regs, .com] (LaneSt.applyStage L r i) := by
  unfold LaneSt.applyStage
  exact (frame_seq (frame_forN (fun _ _ => (frame_step (adjustScale_frame _ _ _ _ _) (by decide) (frame_step
      (adjustScale_frame _ _ _ _ _) (by decide) (frame_refl _ _)))) _ _) (frame_refl _ _))

theorem LaneSt.actFwCommit_frame (L : LaneSt) (h : Held) :
    L.frame [.regs, .mbx] (LaneSt.actFwCommit L h) := by
  unfold LaneSt.actFwCommit
  exact (frame_ite (frame_step (refuse_frame _ _ _ _ _) (by decide) (frame_refl _ _)) (frame_ite (frame_step
      (refuse_frame _ _ _ _ _) (by decide) (frame_refl _ _)) (frame_step (updMbx_frame _ _) (by decide) (frame_refl _
      _))))

theorem LaneSt.noteStep_frame (L : LaneSt) (p : Int) (t : Nat) :
    L.frame [.aux] (LaneSt.noteStep L p t) := by
  unfold LaneSt.noteStep
  exact (frame_step (updAux_frame _ _) (by decide) (frame_refl _ _))

theorem LaneSt.vector_frame (L : LaneSt) (r : Rnd) : L.frame [.free] (LaneSt.vector L r).2 := by
  unfold LaneSt.vector
  generalize (List.range 48) = l
  have : ∀ x : List Word × LaneSt, x.2.frame [.free] (l.foldl (fun (x : List Word × LaneSt) f =>
      match f, (r.vote f).value with
      | 7, _ => (x.1 ++ [0#32], x.2)
      | _, some v => (x.1 ++ [BitVec.ofInt 32 v], x.2)
      | _, none => (x.1 ++ [x.2.fresh.1], x.2.fresh.2)) x).2 := by
    induction l with
    | nil => intro x; exact x.2.frame_refl _
    | cons f l ih =>
      intro x
      rw [List.foldl_cons]
      refine LaneSt.frame_seq (ih _) ?_
      split
      · exact x.2.frame_refl _
      · exact x.2.frame_refl _
      · exact LaneSt.fresh_frame _
  exact this ([], L)

theorem LaneSt.wr48_frame (L : LaneSt) (f : Nat → Fld) (v : BitVec 48) :
    L.frame [.regs] (LaneSt.wr48 L f v) := by
  unfold LaneSt.wr48
  exact (frame_step (wr_frame _ _ _) (by decide) (frame_step (wr_frame _ _ _) (by decide) (frame_refl _ _)))

theorem LaneSt.showVector_frame (L : LaneSt) (l : Lane) (r : Rnd) :
    L.frame [.regs, .agr, .free] (LaneSt.showVector L l r) := by
  unfold LaneSt.showVector
  exact (frame_step (showHist_frame _) (by decide) (frame_step (updAgr_frame _ _) (by decide) (frame_seq (frame_step
      (wr48_frame _ _ _) (by decide) (frame_step (wr48_frame _ _ _) (by decide) (frame_refl _ _))) (frame_seq
      (frame_foldl (fun _ _ => (frame_step (setReg_frame _ _ _) (by decide) (frame_refl _ _))) _ _) (frame_step
      (vector_frame _ _) (by decide) (frame_refl _ _))))))

theorem LaneSt.rampStep_frame (L : LaneSt) (vmax : Int) :
    L.frame [.regs, .aux] (LaneSt.rampStep L vmax) := by
  unfold LaneSt.rampStep
  exact (frame_ite (frame_step (rest_frame _ _) (by decide) (frame_refl _ _)) (frame_ite (frame_step (setVel_frame _
      _) (by decide) (frame_refl _ _)) (frame_ite (frame_step (setVel_frame _ _) (by decide) (frame_refl _ _))
      (frame_ite (frame_step (setVel_frame _ _) (by decide) (frame_refl _ _)) (frame_step (setVel_frame _ _) (by
      decide) (frame_refl _ _))))))

theorem LaneSt.brakeStep_frame (L : LaneSt) :
    L.frame [.regs, .aux] (LaneSt.brakeStep L) := by
  unfold LaneSt.brakeStep
  exact (frame_ite (frame_step (rest_frame _ _) (by decide) (frame_refl _ _)) (frame_ite (frame_step (rest_frame _ _)
      (by decide) (frame_refl _ _)) (frame_step (setVel_frame _ _) (by decide) (frame_refl _ _))))

theorem LaneSt.plan_frame (L : LaneSt) :
    L.frame [.regs, .aux] (LaneSt.plan L) := by
  unfold LaneSt.plan
  exact (by (try dsimp only); split; exact (frame_refl _ _); exact (frame_step (rampStep_frame _ _) (by decide) (frame_refl _ _)); exact (frame_step (brakeStep_frame _) (by decide) (frame_refl _ _)); exact (frame_step (rampStep_frame _ _) (by decide) (frame_refl _ _)); exact (frame_ite (frame_refl _ _) (frame_step (brakeStep_frame _) (by decide) (frame_refl _ _))); exact (frame_ite (frame_refl _ _) (frame_step (rampStep_frame _ _) (by decide) (frame_refl _ _))); exact (frame_step (rampStep_frame _ _) (by decide) (frame_refl _ _)); exact (frame_ite (frame_refl _ _) (frame_step (brakeStep_frame _) (by decide) (frame_refl _ _))))

theorem LaneSt.csrInstr_frame (L : LaneSt) (op : CsrOp) (rd : Nat) (n : Nat) (rs1 : Nat) (len : Nat) (u : Upset) :
    L.frame [.regs, .fc, .sys, .aux, .core, .free] (LaneSt.csrInstr L op rd n rs1 len u) := by
  unfold LaneSt.csrInstr
  exact (frame_ite (frame_step (trap_frame _ _ _) (by decide) (frame_refl _ _)) (frame_ite (frame_ite (frame_ite
      (frame_step (retire_frame _ _) (by decide) (frame_step (putCsr_frame _ _ _ _) (by decide) (frame_step
      (putReg_frame _ _ _ _ _) (by decide) (frame_ite (frame_step (sample_frame _ _) (by decide) (frame_refl _ _))
      (frame_refl _ _))))) (frame_step (mismatch_frame _ _ _ _) (by decide) (frame_step (putReg_frame _ _ _ _ _) (by
      decide) (frame_ite (frame_step (sample_frame _ _) (by decide) (frame_refl _ _)) (frame_refl _ _))))) (frame_step
      (retire_frame _ _) (by decide) (frame_step (putReg_frame _ _ _ _ _) (by decide) (frame_ite (frame_step
      (sample_frame _ _) (by decide) (frame_refl _ _)) (frame_refl _ _))))) (frame_step (mismatch_frame _ _ _ _) (by
      decide) (frame_ite (frame_step (sample_frame _ _) (by decide) (frame_refl _ _)) (frame_refl _ _)))))

theorem LaneSt.churnSlot_frame (L : LaneSt) (l : Lane) (k : Nat) :
    L.frame [.regs, .fc, .sys, .agr, .com, .chn, .mbx, .sec] (LaneSt.churnSlot L l k) := by
  unfold LaneSt.churnSlot
  exact (by (try dsimp only); split; exact (frame_step (updAgr_frame _ _) (by decide) (frame_refl _ _)); exact (frame_ite (frame_step (updChn_frame _ _) (by decide) (frame_refl _ _)) (frame_refl _ _)); exact (frame_ite (frame_step (takeCatchup_frame _) (by decide) (frame_step (updChn_frame _ _) (by decide) (frame_refl _ _))) (frame_step (updChn_frame _ _) (by decide) (frame_refl _ _))); exact (frame_refl _ _))

theorem LaneSt.turnLost_frame (L : LaneSt) (l : Lane) (n : Nat) (k : Nat) :
    L.frame [.regs] (LaneSt.turnLost L l n k) := by
  unfold LaneSt.turnLost
  exact (frame_ite (frame_step (forgo_frame _ _) (by decide) (frame_refl _ _)) (frame_refl _ _))

theorem LaneSt.noteCarried_frame (L : LaneSt) (d : Option (BitVec 16)) :
    L.frame [.regs, .mbx] (LaneSt.noteCarried L d) := by
  unfold LaneSt.noteCarried
  exact (frame_step (updMbx_frame _ _) (by decide) (frame_step (wr_frame _ _ _) (by decide) (frame_step (put_frame _ _
      _) (by decide) (frame_refl _ _))))

theorem LaneSt.sendRound_frame (L : LaneSt) (l : Lane) (t : Nat) :
    L.frame [.regs, .fc, .sys, .agr, .com, .chn, .mbx, .sec] (LaneSt.sendRound L l t) := by
  unfold LaneSt.sendRound
  exact (frame_ite (frame_step (updAgr_frame _ _) (by decide) (frame_refl _ _)) (frame_ite (frame_seq (frame_step
      (churnSlot_frame _ _ _) (by decide) (frame_step (turnLost_frame _ _ _ _) (by decide) (frame_refl _ _)))
      (frame_seq (frame_step (wr_frame _ _ _) (by decide) (frame_step (wr_frame _ _ _) (by decide) (frame_refl _ _)))
      (frame_step (updAgr_frame _ _) (by decide) (frame_refl _ _)))) (frame_step (updAgr_frame _ _) (by decide)
      (frame_seq (frame_step (speak_frame _ _) (by decide) (frame_refl _ _)) (frame_seq (frame_step (noteCarried_frame
      _ _) (by decide) (frame_refl _ _)) (frame_seq (frame_step (churnSlot_frame _ _ _) (by decide) (frame_step
      (turnLost_frame _ _ _ _) (by decide) (frame_refl _ _))) (frame_seq (frame_step (wr_frame _ _ _) (by decide)
      (frame_step (wr_frame _ _ _) (by decide) (frame_refl _ _))) (frame_step (updAgr_frame _ _) (by decide)
      (frame_refl _ _)))))))))

theorem LaneSt.skimNote_frame (L : LaneSt) (i : Nat) (p : Nat) :
    L.frame [.flk] (LaneSt.skimNote L i p) := by
  unfold LaneSt.skimNote
  exact (frame_step (frame_flk _ _) (by decide) (frame_refl _ _))

theorem LaneSt.actFcAck_frame (L : LaneSt) (l : Lane) (h : Held) (classes : BitVec 16) (rearm : Bool) :
    L.frame [.regs, .fc, .mbx] (LaneSt.actFcAck L l h classes rearm) := by
  unfold LaneSt.actFcAck
  exact (frame_step (finish_frame _ _ _ _) (by decide) (frame_ite (frame_step (rearmFirst_frame _) (by decide)
      (frame_step (ackClasses_frame _ _ _) (by decide) (frame_refl _ _))) (frame_step (ackClasses_frame _ _ _) (by
      decide) (frame_refl _ _))))

theorem LaneSt.wakeBy_frame (L : LaneSt) (bit : Nat) :
    L.frame [.regs, .sys] (LaneSt.wakeBy L bit) := by
  unfold LaneSt.wakeBy
  exact (frame_step (frame_sys _ _) (by decide) (frame_seq (frame_step (wr_frame _ _ _) (by decide) (frame_step
      (wr_frame _ _ _) (by decide) (frame_refl _ _))) (frame_step (setReg_frame _ _ _) (by decide) (frame_refl _ _))))

theorem LaneSt.countError_frame (L : LaneSt) (c : CanId) (kind : CanErr) (tx : Bool) :
    L.frame [.regs] (LaneSt.countError L c kind tx) := by
  unfold LaneSt.countError
  exact (frame_ite (frame_ite (frame_refl _ _) (frame_step (incSat_frame _ _ _) (by decide) (frame_refl _ _)))
      (frame_step (incSat_frame _ _ _) (by decide) (frame_refl _ _)))

theorem LaneSt.markLine_frame (L : LaneSt) (id : Nat) :
    L.frame [.regs, .fc] (LaneSt.markLine L id) := by
  unfold LaneSt.markLine
  exact (frame_step (frame_fc _ _) (by decide) (frame_ite (frame_refl _ _) (frame_step (put_frame _ _ _) (by decide)
      (frame_step (wr_frame _ _ _) (by decide) (frame_refl _ _)))))

theorem LaneSt.raiseLine_frame (L : LaneSt) (id : Nat) (lv : Nat) :
    L.frame [.regs, .fc, .sys, .aux] (LaneSt.raiseLine L id lv) := by
  unfold LaneSt.raiseLine
  exact (frame_ite (frame_step (raiseAt_frame _ _ _ _) (by decide) (frame_step (raise_frame _ _ _) (by decide)
      (frame_refl _ _))) (frame_step (raise_frame _ _ _) (by decide) (frame_step (raiseAt_frame _ _ _ _) (by decide)
      (frame_refl _ _))))

theorem LaneSt.lineFailed_frame (L : LaneSt) (id : Nat) :
    L.frame [.regs, .fc, .sys, .aux] (LaneSt.lineFailed L id) := by
  unfold LaneSt.lineFailed
  exact (frame_ite (frame_refl _ _) (frame_step (markLine_frame _ _) (by decide) (frame_step (raiseLine_frame _ _ _)
      (by decide) (frame_refl _ _))))

theorem LaneSt.cmdError_frame (L : LaneSt) (e : Nat) :
    L.frame [.core] (LaneSt.cmdError L e) := by
  unfold LaneSt.cmdError
  exact (frame_step (updCore_frame _ _) (by decide) (frame_refl _ _))

theorem LaneSt.debugLead_frame (L : LaneSt) (r : DbgReg) (v : Word) :
    L.frame [.core] (LaneSt.debugLead L r v) := by
  unfold LaneSt.debugLead
  exact (by (try dsimp only); split; exact (frame_step (updCpu_frame _ _) (by decide) (frame_refl _ _)); exact (frame_step (updCpu_frame _ _) (by decide) (frame_refl _ _)); exact (frame_ite (frame_step (updCpu_frame _ _) (by decide) (frame_refl _ _)) (frame_refl _ _)); exact (frame_step (updCpu_frame _ _) (by decide) (frame_refl _ _)); exact (frame_refl _ _); exact (frame_refl _ _))

theorem LaneSt.abstractWrite_frame (L : LaneSt) (r : DbgReg) (v : Word) :
    L.frame [.regs, .core] (LaneSt.abstractWrite L r v) := by
  unfold LaneSt.abstractWrite
  exact (frame_ite (frame_step (cmdError_frame _ _) (by decide) (frame_step (incSat_frame _ _ _) (by decide)
      (frame_refl _ _))) (frame_step (updCore_frame _ _) (by decide) (frame_step (debugLead_frame _ _ _) (by decide)
      (frame_refl _ _))))

theorem LaneSt.resetEdge_frame (L : LaneSt) (l : Lane) (stoHigh : Bool) (t : Nat) :
    L.frame [.regs, .fc, .sys, .safe, .aux] (LaneSt.resetEdge L l stoHigh t) := by
  unfold LaneSt.resetEdge
  exact (frame_step (refreshSafe_frame _ _) (by decide) (frame_step (updSafe_frame _ _) (by decide) (frame_step
      (put_frame _ _ _) (by decide) (frame_ite (frame_step (put_frame _ _ _) (by decide) (frame_refl _ _)) (frame_step
      (raise_frame _ _ _) (by decide) (frame_step (inc_frame _ _ _) (by decide) (frame_refl _ _)))))))

theorem LaneSt.actResetConfirm_frame (L : LaneSt) (l : Lane) (h : Held) (c : BitVec 16) (stoHigh : Bool) :
    L.frame [.regs, .fc, .sys, .safe, .mbx, .aux] (LaneSt.actResetConfirm L l h c stoHigh) := by
  unfold LaneSt.actResetConfirm
  exact (frame_ite (frame_step (finish_frame _ _ _ _) (by decide) (frame_step (resetEdge_frame _ _ _ _) (by decide)
      (frame_step (updSafe_frame _ _) (by decide) (frame_refl _ _)))) (frame_step (refuse_frame _ _ _ _ _) (by decide)
      (frame_step (raise_frame _ _ _) (by decide) (frame_step (inc_frame _ _ _) (by decide) (frame_step (updSafe_frame
      _ _) (by decide) (frame_refl _ _))))))

theorem LaneSt.actReqState_frame (L : LaneSt) (h : Held) (target : BitVec 3) :
    L.frame [.regs, .sys, .mbx] (LaneSt.actReqState L h target) := by
  unfold LaneSt.actReqState
  exact (frame_step (updMbx_frame _ _) (by decide) (frame_step (request_frame _ _) (by decide) (frame_refl _ _)))

theorem LaneSt.actSafeStop_frame (L : LaneSt) (l : Lane) (h : Held) (mask : BitVec 3) (ss1 : Bool) :
    L.frame [.regs, .safe, .mbx] (LaneSt.actSafeStop L l h mask ss1) := by
  unfold LaneSt.actSafeStop
  exact (frame_ite (frame_step (refuse_frame _ _ _ _ _) (by decide) (frame_refl _ _)) (frame_step (finish_frame _ _ _
      _) (by decide) (frame_ite (frame_step (askSs1_frame _ _ _) (by decide) (frame_refl _ _)) (frame_step
      (refreshSafe_frame _ _) (by decide) (frame_step (updSafe_frame _ _) (by decide) (frame_refl _ _))))))

theorem LaneSt.actResetArm_frame (L : LaneSt) (h : Held) :
    L.frame [.regs, .safe, .mbx] (LaneSt.actResetArm L h) := by
  unfold LaneSt.actResetArm
  exact (frame_step (finish_frame _ _ _ _) (by decide) (frame_step (updSafe_frame _ _) (by decide) (frame_refl _ _)))

theorem LaneSt.actImgCommit_frame (L : LaneSt) (l : Lane) (h : Held) (digest : List Word) (f : ImgFacts) :
    L.frame [.regs, .mem, .fc, .sys, .nvm, .mbx, .aux] (LaneSt.actImgCommit L l h digest f) := by
  unfold LaneSt.actImgCommit
  exact (frame_ite (frame_step (refuse_frame _ _ _ _ _) (by decide) (frame_refl _ _)) (by (try dsimp only); split; exact (frame_step (refuse_frame _ _ _ _ _) (by decide) (frame_refl _ _)); exact (frame_ite (frame_step (refuse_frame _ _ _ _ _) (by decide) (frame_step (raiseIf_frame _ _ _ _) (by decide) (frame_step (setSlot_frame _ _ _) (by decide) (frame_refl _ _)))) (frame_ite (frame_step (refuse_frame _ _ _ _ _) (by decide) (frame_step (raiseIf_frame _ _ _ _) (by decide) (frame_step (setSlot_frame _ _ _) (by decide) (frame_refl _ _)))) (frame_step (updMbx_frame _ _) (by decide) (frame_seq (frame_ite (frame_refl _ _) (frame_step (tally_frame _ _ _ _ _ _) (by decide) (frame_refl _ _))) (frame_seq (frame_step (tally_frame _ _ _ _ _ _) (by decide) (frame_refl _ _)) (frame_step (raiseIf_frame _ _ _ _) (by decide) (frame_step (setSlot_frame _ _ _) (by decide) (frame_refl _ _))))))))))

theorem LaneSt.actLearnStart_frame (L : LaneSt) (h : Held) (n : Nat) :
    L.frame [.regs, .com, .mbx] (LaneSt.actLearnStart L h n) := by
  unfold LaneSt.actLearnStart
  exact (frame_ite (frame_step (refuse_frame _ _ _ _ _) (by decide) (frame_refl _ _)) (frame_ite (frame_step
      (refuse_frame _ _ _ _ _) (by decide) (frame_refl _ _)) (frame_step (finish_frame _ _ _ _) (by decide)
      (frame_step (frame_com _ _) (by decide) (frame_refl _ _)))))

theorem LaneSt.actFwTrial_frame (L : LaneSt) (h : Held) (digest : List Word) :
    L.frame [.regs, .mem, .nvm, .mbx] (LaneSt.actFwTrial L h digest) := by
  unfold LaneSt.actFwTrial
  exact (frame_ite (frame_step (refuse_frame _ _ _ _ _) (by decide) (frame_refl _ _)) (frame_ite (frame_step
      (finish_frame _ _ _ _) (by decide) (frame_step (updMbx_frame _ _) (by decide) (frame_step (setBank_frame _ _ _)
      (by decide) (frame_refl _ _)))) (frame_step (refuse_frame _ _ _ _ _) (by decide) (frame_refl _ _))))

theorem LaneSt.resetRegs_frame (L : LaneSt) (keep : Nat → Bool) : L.frame [.regs, .snap] (L.resetRegs keep) := by
  refine ⟨fun p hp => by cases p <;> first | rfl | simp at hp, fun h => ?_⟩
  simp only [LaneSt.wf, LaneSt.resetRegs, Bool.and_eq_true] at *
  exact ⟨⟨h.1.1, cellsWf_filter _ _ h.1.2⟩, cellsWf_filter _ _ h.2⟩

theorem LaneSt.powerDown_frame (L : LaneSt) (keep keepMem : Nat → Bool) :
    L.frame [.regs, .snap, .mem, .shepMem, .fc, .agr, .meas, .pos, .com, .safe, .chn, .mbx, .sec, .aux, .core, .flk,
        .can1, .can2]
      (L.powerDown keep keepMem) := by
  have hA := LaneSt.resetRegs_frame L keep
  refine LaneSt.frame_step (M := L.resetRegs keep)
    (qs := [.mem, .shepMem, .fc, .agr, .meas, .pos, .com, .safe, .chn, .mbx, .sec, .aux, .core, .flk, .can1, .can2])
    ⟨fun p hp => ?_, fun h => ?_⟩ (by decide) (frame_mono hA (by decide))
  · cases p <;> first | rfl | simp at hp
  · simp only [LaneSt.wf, Bool.and_eq_true] at *
    exact ⟨⟨⟨cellsWf_filter _ _ h.1.1.1, rfl⟩, h.1.2⟩, h.2⟩

theorem LaneSt.restart_frame (L : LaneSt) :
    L.frame [.regs, .snap, .mem, .shepMem, .fc, .pwr, .sys, .agr, .meas, .pos, .com, .safe, .chn, .mbx, .sec, .aux,
        .core, .flk, .can1, .can2] (LaneSt.restart L) := by
  unfold LaneSt.restart
  exact (frame_step (updMbx_frame _ _) (by decide) (frame_step (frame_fc_pwr_sys_aux _ _ _ _ _) (by decide)
      (frame_step (wr_frame _ _ _) (by decide) (frame_step (powerDown_frame _ _ _) (by decide) (frame_refl _ _)))))

theorem LaneSt.useFuse_frame (L : LaneSt) :
    L.frame [.sec] (LaneSt.useFuse L) := by
  unfold LaneSt.useFuse
  exact (frame_step (updSec_frame _ _) (by decide) (frame_refl _ _))

theorem LaneSt.eraseOwner_frame (L : LaneSt) (l : Lane) :
    L.frame [.regs, .mem, .nvm, .sec] (LaneSt.eraseOwner L l) := by
  unfold LaneSt.eraseOwner
  exact (frame_step (erased_frame _ _ _) (by decide) (frame_step (updSec_frame _ _) (by decide) (frame_seq (frame_step
      (updKeys_frame _ _) (by decide) (frame_refl _ _)) (frame_step (put_frame _ _ _) (by decide) (frame_step
      (put_frame _ _ _) (by decide) (frame_refl _ _))))))

theorem LaneSt.eraseProv_frame (L : LaneSt) (l : Lane) :
    L.frame [.regs, .mem, .nvm, .sec] (LaneSt.eraseProv L l) := by
  unfold LaneSt.eraseProv
  exact (frame_step (erased_frame _ _ _) (by decide) (frame_step (updKeys_frame _ _) (by decide) (frame_step
      (put_frame _ _ _) (by decide) (frame_refl _ _))))

theorem LaneSt.lcEffect_frame (L : LaneSt) (l : Lane) (op : Nat) :
    L.frame [.regs, .mem, .nvm, .mbx, .sec] (LaneSt.lcEffect L l op) := by
  unfold LaneSt.lcEffect
  exact (by (try dsimp only); split; exact (frame_step (updSec_frame _ _) (by decide) (frame_step (put_frame _ _ _) (by decide) (frame_refl _ _))); exact (frame_step (put_frame _ _ _) (by decide) (frame_step (useFuse_frame _) (by decide) (frame_step (blow_frame _ _) (by decide) (frame_refl _ _)))); exact (frame_step (erased_frame _ _ _) (by decide) (frame_step (dropGroup_frame _) (by decide) (frame_step (eraseExt_frame _ _) (by decide) (frame_step (eraseOwner_frame _ _) (by decide) (frame_step (useFuse_frame _) (by decide) (frame_step (blow_frame _ _) (by decide) (frame_refl _ _))))))); exact (frame_step (eraseControl_frame _ _) (by decide) (frame_step (eraseExt_frame _ _) (by decide) (frame_step (eraseOwner_frame _ _) (by decide) (frame_step (blow_frame _ _) (by decide) (frame_refl _ _))))); exact (frame_step (put_frame _ _ _) (by decide) (frame_step (eraseProv_frame _ _) (by decide) (frame_step (eraseIdent_frame _ _) (by decide) (frame_step (eraseControl_frame _ _) (by decide) (frame_step (eraseExt_frame _ _) (by decide) (frame_step (eraseOwner_frame _ _) (by decide) (frame_step (blow_frame _ _) (by decide) (frame_refl _ _)))))))); exact (frame_step (put_frame _ _ _) (by decide) (frame_step (wr_frame _ _ _) (by decide) (frame_step (wr_frame _ _ _) (by decide) (frame_step (put_frame _ _ _) (by decide) (frame_refl _ _))))))

theorem LaneSt.actLifecycle_frame (L : LaneSt) (l : Lane) (h : Held) (op : Nat) (a : LcArgs) :
    L.frame [.regs, .snap, .mem, .shepMem, .fc, .pwr, .sys, .nvm, .agr, .meas, .pos, .com, .safe, .chn, .mbx, .sec,
        .aux, .core, .flk, .can1, .can2] (LaneSt.actLifecycle L l h op a) := by
  unfold LaneSt.actLifecycle
  exact (frame_ite (frame_step (refuse_frame _ _ _ _ _) (by decide) (frame_refl _ _)) (frame_ite (frame_step
      (refuse_frame _ _ _ _ _) (by decide) (frame_refl _ _)) (frame_ite (frame_step (refuse_frame _ _ _ _ _) (by
      decide) (frame_refl _ _)) (frame_step (restart_frame _) (by decide) (frame_step (finish_frame _ _ _ _) (by
      decide) (frame_step (tally_frame _ _ _ _ _ _) (by decide) (frame_step (showFuses_frame _) (by decide)
      (frame_step (lcEffect_frame _ _ _) (by decide) (frame_refl _ _)))))))))

theorem LaneSt.act_frame (L : LaneSt) (l : Lane) (h : Held) :
    L.frame [.regs, .snap, .mem, .shepMem, .fc, .pwr, .sys, .nvm, .agr, .meas, .pos, .com, .safe, .chn, .mbx, .sec,
        .aux, .core, .flk, .can1, .can2] (LaneSt.act L l h) := by
  unfold LaneSt.act
  exact (by (try dsimp only); split; exact (frame_step (actReqState_frame _ _ _) (by decide) (frame_refl _ _)); exact (frame_step (actSafeStop_frame _ _ _ _ _) (by decide) (frame_refl _ _)); exact (frame_step (actResetArm_frame _ _) (by decide) (frame_refl _ _)); exact (frame_step (actResetConfirm_frame _ _ _ _ _) (by decide) (frame_refl _ _)); exact (frame_step (actImgCommit_frame _ _ _ _ _) (by decide) (frame_refl _ _)); exact (frame_step (actLearnStart_frame _ _ _) (by decide) (frame_refl _ _)); exact (frame_step (actCalSave_frame _ _ _) (by decide) (frame_refl _ _)); exact (frame_step (actFcAck_frame _ _ _ _ _) (by decide) (frame_refl _ _)); exact (frame_step (actFwTrial_frame _ _ _) (by decide) (frame_refl _ _)); exact (frame_step (actFwCommit_frame _ _) (by decide) (frame_refl _ _)); exact (frame_step (actLifecycle_frame _ _ _ _ _) (by decide) (frame_refl _ _)))

theorem LaneSt.noteNet_frame (L : LaneSt) :
    L.frame [.regs, .flk] (LaneSt.noteNet L) := by
  unfold LaneSt.noteNet
  exact (frame_step (put_frame _ _ _) (by decide) (by (try dsimp only); split; exact (frame_ite (frame_refl _ _) (frame_step (updFlk_frame _ _) (by decide) (frame_refl _ _))); exact (frame_step (updFlk_frame _ _) (by decide) (frame_refl _ _))))

theorem LaneSt.lineBad_frame (L : LaneSt) (i : Nat) (k : Nat) :
    L.frame [.regs, .fc, .sys, .meas, .aux] (LaneSt.lineBad L i k) := by
  unfold LaneSt.lineBad
  exact (frame_ite (frame_refl _ _) (frame_ite (frame_step (removeStage_frame _ _) (by decide) (frame_step
      (raise_frame _ _ _) (by decide) (frame_step (frame_meas _ _) (by decide) (frame_refl _ _)))) (frame_step
      (frame_meas _ _) (by decide) (frame_refl _ _))))

theorem LaneSt.homeFail_frame (L : LaneSt) :
    L.frame [.regs, .fc, .sys, .aux] (LaneSt.homeFail L) := by
  unfold LaneSt.homeFail
  exact (frame_ite (frame_step (rest_frame _ _) (by decide) (frame_step (updAux_frame _ _) (by decide) (frame_step
      (unref_frame _) (by decide) (frame_step (raise_frame _ _ _) (by decide) (frame_refl _ _))))) (frame_step
      (updAux_frame _ _) (by decide) (frame_step (wr_frame _ _ _) (by decide) (frame_step (unref_frame _) (by decide)
      (frame_step (raise_frame _ _ _) (by decide) (frame_refl _ _))))))

theorem LaneSt.busError_frame (L : LaneSt) (e : Nat) :
    L.frame [.core] (LaneSt.busError L e) := by
  unfold LaneSt.busError
  exact (frame_step (updCore_frame _ _) (by decide) (frame_refl _ _))

theorem LaneSt.rearmOwn_frame (L : LaneSt) (l : Lane) :
    L.frame [.safe] (LaneSt.rearmOwn L l) := by
  unfold LaneSt.rearmOwn
  exact (frame_ite (frame_step (startPulse_frame _ _) (by decide) (frame_refl _ _)) (frame_refl _ _))

theorem LaneSt.setLine_frame (L : LaneSt) (i : Nat) (k : Nat) (n : Nat) (x : Nat × Nat) :
    L.frame [.regs, .fc, .sys, .aux] (LaneSt.setLine L i k n x) := by
  unfold LaneSt.setLine
  exact (frame_step (raiseIf_frame _ _ _ _) (by decide) (frame_seq (frame_step (raiseIf_frame _ _ _ _) (by decide)
      (frame_refl _ _)) (frame_step (wr_frame _ _ _) (by decide) (frame_step (wr_frame _ _ _) (by decide) (frame_refl
      _ _)))))

theorem LaneSt.armTestStage_frame (L : LaneSt) (i : Nat) (m : Tri OwLeg) :
    L.frame [.regs, .fc, .sys, .meas, .aux] (LaneSt.armTestStage L i m) := by
  unfold LaneSt.armTestStage
  exact (frame_ite (frame_step (removeStage_frame _ _) (by decide) (frame_step (raise_frame _ _ _) (by decide)
      (frame_seq (frame_step (frame_meas _ _) (by decide) (frame_refl _ _)) (frame_seq (frame_for3 (fun _ _ =>
      (frame_step (setLine_frame _ _ _ _ _) (by decide) (frame_step (setLine_frame _ _ _ _ _) (by decide) (frame_refl
      _ _)))) _) (frame_refl _ _))))) (frame_seq (frame_step (frame_meas _ _) (by decide) (frame_refl _ _)) (frame_seq
      (frame_for3 (fun _ _ => (frame_step (setLine_frame _ _ _ _ _) (by decide) (frame_step (setLine_frame _ _ _ _ _)
      (by decide) (frame_refl _ _)))) _) (frame_refl _ _))))

theorem LaneSt.chooseMode_frame (L : LaneSt) :
    L.frame [.aux] (LaneSt.chooseMode L) := by
  unfold LaneSt.chooseMode
  exact (frame_ite (frame_step (updAux_frame _ _) (by decide) (frame_refl _ _)) (frame_ite (frame_step (updAux_frame _
      _) (by decide) (frame_refl _ _)) (frame_refl _ _)))

theorem LaneSt.gpNtc_frame (L : LaneSt) (ohm : Nat) :
    L.frame [.regs, .fc, .sys, .meas, .aux] (LaneSt.gpNtc L ohm) := by
  unfold LaneSt.gpNtc
  exact (frame_step (raiseIf_frame _ _ _ _) (by decide) (frame_step (frame_meas _ _) (by decide) (frame_refl _ _)))

theorem LaneSt.copyFailed_frame (L : LaneSt) (i : Nat) :
    L.frame [.regs, .fc, .sys, .meas, .aux] (LaneSt.copyFailed L i) := by
  unfold LaneSt.copyFailed
  exact (frame_step (frame_meas _ _) (by decide) (frame_step (removeStage_frame _ _) (by decide) (frame_step
      (raise_frame _ _ _) (by decide) (frame_step (put_frame _ _ _) (by decide) (frame_refl _ _)))))

theorem LaneSt.fpuInstr_frame (L : LaneSt) (op : FpuOp) (rm : Nat) (fd : Nat) (fs1 : Nat) (fs2 : Nat) (fs3 : Nat) (len
    : Nat) (u : Upset) :
    L.frame [.regs, .fc, .sys, .aux, .core] (LaneSt.fpuInstr L op rm fd fs1 fs2 fs3 len u) := by
  unfold LaneSt.fpuInstr
  exact (frame_ite (frame_step (trap_frame _ _ _) (by decide) (frame_refl _ _)) (frame_ite (frame_ite (frame_step
      (retire_frame _ _) (by decide) (frame_step (putCsr_frame _ _ _ _) (by decide) (frame_step (putReg_frame _ _ _ _
      _) (by decide) (frame_refl _ _)))) (frame_step (mismatch_frame _ _ _ _) (by decide) (frame_step (putReg_frame _
      _ _ _ _) (by decide) (frame_refl _ _)))) (frame_step (mismatch_frame _ _ _ _) (by decide) (frame_refl _ _))))

theorem LaneSt.answerState_frame (L : LaneSt) (h : Held) :
    L.frame [.regs, .mbx] (LaneSt.answerState L h) := by
  unfold LaneSt.answerState
  exact (frame_ite (frame_step (refuse_frame _ _ _ _ _) (by decide) (frame_refl _ _)) (frame_step (finish_frame _ _ _
      _) (by decide) (frame_refl _ _)))

theorem LaneSt.answerAsked_frame (L : LaneSt) :
    L.frame [.regs, .mbx, .sec] (LaneSt.answerAsked L) := by
  unfold LaneSt.answerAsked
  exact (frame_ite (frame_step (closeSession_frame _) (by decide) (frame_seq (frame_step (updMbx_frame _ _) (by
      decide) (frame_refl _ _)) (frame_seq (frame_foldl (fun _ _ => (frame_step (answerState_frame _ _) (by decide)
      (frame_refl _ _))) _ _) (frame_refl _ _)))) (frame_seq (frame_step (updMbx_frame _ _) (by decide) (frame_refl _
      _)) (frame_seq (frame_foldl (fun _ _ => (frame_step (answerState_frame _ _) (by decide) (frame_refl _ _))) _ _)
      (frame_refl _ _))))

theorem LaneSt.closeMasks_frame (L : LaneSt) (t : Nat) :
    L.frame [.regs, .fc] (LaneSt.closeMasks L t) := by
  unfold LaneSt.closeMasks
  exact (frame_step (frame_fc _ _) (by decide) (frame_seq (frame_foldl (fun _ _ => (frame_step (put_frame _ _ _) (by
      decide) (frame_refl _ _))) _ _) (frame_refl _ _)))

theorem LaneSt.missStatus_frame (L : LaneSt) (i : Nat) :
    L.frame [.regs, .fc, .sys, .meas, .aux] (LaneSt.missStatus L i) := by
  unfold LaneSt.missStatus
  exact (frame_step (pushRes_frame _ _ _) (by decide) (frame_seq (frame_ite (frame_step (countNovalid_frame _ _ _) (by
      decide) (frame_seq (frame_for3 (fun _ _ => (frame_step (put_frame _ _ _) (by decide) (frame_refl _ _))) _)
      (frame_refl _ _))) (frame_step (countNovalid_frame _ _ _) (by decide) (frame_refl _ _))) (frame_seq (frame_step
      (shiftMeans_frame _ _ _) (by decide) (frame_step (put_frame _ _ _) (by decide) (frame_step (put_frame _ _ _) (by
      decide) (frame_refl _ _)))) (frame_step (frame_meas _ _) (by decide) (frame_refl _ _)))))

theorem LaneSt.scbPut_frame (L : LaneSt) (a : Word) (w : Width) (v : Word) :
    L.frame [.core] (LaneSt.scbPut L a w v) := by
  unfold LaneSt.scbPut
  exact (frame_step (updCore_frame _ _) (by decide) (frame_refl _ _))

theorem LaneSt.storeAgree_frame (L : LaneSt) (w : Width) (fp : Bool) (rs1 : Nat) (rs2 : Nat) (off : Word) (u : Upset) :
    L.frame [.regs, .fc, .sys, .aux, .core] (LaneSt.storeAgree L w fp rs1 rs2 off u) := by
  unfold LaneSt.storeAgree
  exact (frame_ite (frame_ite (frame_step (mismatch_frame _ _ _ _) (by decide) (frame_step (scbPut_frame _ _ _ _) (by
      decide) (frame_refl _ _))) (frame_ite (frame_step (scbPut_frame _ _ _ _) (by decide) (frame_refl _ _))
      (frame_step (mismatch_frame _ _ _ _) (by decide) (frame_step (scbPut_frame _ _ _ _) (by decide) (frame_refl _
      _))))) (frame_step (mismatch_frame _ _ _ _) (by decide) (frame_step (scbPut_frame _ _ _ _) (by decide)
      (frame_refl _ _))))

theorem LaneSt.amoInstr_frame (L : LaneSt) (op : AmoOp) (rd : Nat) (rs1 : Nat) (rs2 : Nat) (len : Nat) (u : Upset) :
    L.frame [.regs, .mem, .fc, .sys, .aux, .core] (LaneSt.amoInstr L op rd rs1 rs2 len u) := by
  unfold LaneSt.amoInstr
  exact (frame_ite (frame_ite (frame_ite (frame_step (accessTrap_frame _ _ _ _ _) (by decide) (frame_refl _ _))
      (frame_ite (frame_step (retire_frame _ _) (by decide) (frame_step (setWord_frame _ _ _) (by decide) (frame_step
      (putReg_frame _ _ _ _ _) (by decide) (frame_refl _ _)))) (frame_step (mismatch_frame _ _ _ _) (by decide)
      (frame_refl _ _)))) (frame_step (mismatch_frame _ _ _ _) (by decide) (frame_refl _ _))) (frame_step
      (mismatch_frame _ _ _ _) (by decide) (frame_refl _ _)))

theorem LaneSt.inputMarks_frame (L : LaneSt) (l : Lane) (r : Rnd) :
    L.frame [.regs, .fc, .sys, .agr, .aux] (LaneSt.inputMarks L l r) := by
  unfold LaneSt.inputMarks
  exact (frame_ite (frame_refl _ _) (frame_seq (frame_foldl (fun _ _ => (frame_step (raiseIf_frame _ _ _ _) (by
      decide) (frame_refl _ _))) _ _) (frame_step (updAgr_frame _ _) (by decide) (frame_refl _ _))))

theorem LaneSt.sendFlock_frame (L : LaneSt) (f : FlockFrame) :
    L.frame [.flk] (LaneSt.sendFlock L f) := by
  unfold LaneSt.sendFlock
  exact (frame_step (updFlk_frame _ _) (by decide) (frame_refl _ _))

theorem LaneSt.dropAborted_frame (L : LaneSt) (c : CanId) :
    L.frame [.regs, .can1, .can2] (LaneSt.dropAborted L c) := by
  unfold LaneSt.dropAborted
  exact (by (try dsimp only); split; exact (frame_step (updCan_frame _ _ _) (by decide) (frame_step (setPending_frame _ _ _ _) (by decide) (frame_refl _ _))); exact (frame_refl _ _))

theorem LaneSt.noAngle_frame (L : LaneSt) :
    L.frame [.regs, .fc, .sys, .aux] (LaneSt.noAngle L) := by
  unfold LaneSt.noAngle
  exact (frame_step (raiseIf_frame _ _ _ _) (by decide) (frame_step (put_frame _ _ _) (by decide) (frame_refl _ _)))

theorem LaneSt.shepherdMismatch_frame (L : LaneSt) :
    L.frame [.regs, .fc, .sys, .aux, .core] (LaneSt.shepherdMismatch L) := by
  unfold LaneSt.shepherdMismatch
  exact (frame_step (openMask_frame _ _) (by decide) (frame_step (raise_frame _ _ _) (by decide) (frame_step
      (haltCores_frame _) (by decide) (frame_refl _ _))))

theorem LaneSt.updKeeper_frame (L : LaneSt) (f : KeeperSt → KeeperSt) :
    L.frame [.flk] (LaneSt.updKeeper L f) := by
  unfold LaneSt.updKeeper
  exact (frame_step (frame_flk _ _) (by decide) (frame_refl _ _))

theorem LaneSt.afterCorrect_frame (L : LaneSt) (was : KeeperSt) (t : Nat) :
    L.frame [.regs, .fc, .sys, .aux, .flk] (LaneSt.afterCorrect L was t) := by
  unfold LaneSt.afterCorrect
  exact (frame_step (showKeeper_frame _) (by decide) (frame_seq (frame_ite (frame_step (raise_frame _ _ _) (by decide)
      (frame_step (inc_frame _ _ _) (by decide) (frame_refl _ _))) (frame_refl _ _)) (frame_seq (frame_ite (frame_step
      (updKeeper_frame _ _) (by decide) (frame_refl _ _)) (frame_refl _ _)) (frame_ite (frame_ite (frame_step
      (updFlk_frame _ _) (by decide) (frame_step (put_frame _ _ _) (by decide) (frame_step (wr_frame _ _ _) (by
      decide) (frame_refl _ _)))) (frame_step (wr_frame _ _ _) (by decide) (frame_refl _ _))) (frame_refl _ _)))))

theorem LaneSt.saveOffsets_frame (L : LaneSt) (l : Lane) :
    L.frame [.mem, .nvm] (LaneSt.saveOffsets L l) := by
  unfold LaneSt.saveOffsets
  exact (frame_step (updCal_frame _ _) (by decide) (frame_ite (frame_step (tally_frame _ _ _ _ _ _) (by decide)
      (frame_refl _ _)) (frame_refl _ _)))

theorem LaneSt.decideVersion_frame (L : LaneSt) (l : Lane) (done : Bool) :
    L.frame [.regs, .fc, .sys, .aux] (LaneSt.decideVersion L l done) := by
  unfold LaneSt.decideVersion
  exact (frame_ite (frame_step (raise_frame _ _ _) (by decide) (frame_refl _ _)) (frame_ite (frame_step
      (takeVersion_frame _ _) (by decide) (frame_refl _ _)) (frame_refl _ _)))

theorem LaneSt.coldInit_frame (L : LaneSt) (d : Nat) : L.frame [.regs, .snap] (L.coldInit d) := by
  refine ⟨fun p hp => by cases p <;> first | rfl | simp at hp, fun h => ?_⟩
  simp only [LaneSt.wf, LaneSt.coldInit, Bool.and_eq_true] at *
  exact ⟨⟨h.1.1, cellsWf_filter _ _ h.1.2⟩, cellsWf_filter _ _ h.2⟩

theorem LaneSt.restoreDomain_frame (L : LaneSt) (intact : Bool) (d : Nat) :
    L.frame [.regs, .snap, .fc, .sys, .aux] (LaneSt.restoreDomain L intact d) := by
  unfold LaneSt.restoreDomain
  exact (frame_ite (frame_seq (frame_foldl (fun _ _ => (frame_step (setReg_frame _ _ _) (by decide) (frame_refl _ _)))
      _ _) (frame_refl _ _)) (frame_step (raise_frame _ _ _) (by decide) (frame_step (put_frame _ _ _) (by decide)
      (frame_step (coldInit_frame _ _) (by decide) (frame_refl _ _)))))

theorem LaneSt.restoreDomains_frame (L : LaneSt) (l : Lane) (crcOk : BitVec 4) :
    L.frame [.regs, .snap, .mem, .fc, .sys, .nvm, .sec, .aux, .flk] (LaneSt.restoreDomains L l crcOk) := by
  unfold LaneSt.restoreDomains
  exact (frame_step (flkListen_frame _) (by decide) (frame_step (renewKeys_frame _ _) (by decide) (frame_step
      (frame_sys _ _) (by decide) (frame_seq (frame_ite (frame_step (updAux_frame _ _) (by decide) (frame_refl _ _))
      (frame_refl _ _)) (frame_seq (frame_step (put_frame _ _ _) (by decide) (frame_refl _ _)) (frame_seq (frame_seq
      (frame_foldl (fun _ _ => (frame_step (restoreDomain_frame _ _ _) (by decide) (frame_refl _ _))) _ _) (frame_refl
      _ _)) (frame_step (wr_frame _ _ _) (by decide) (frame_refl _ _))))))))

theorem LaneSt.coilsOff_frame (L : LaneSt) (coils : Nat) :
    L.frame [.regs, .aux] (LaneSt.coilsOff L coils) := by
  unfold LaneSt.coilsOff
  exact (frame_step (updAux_frame _ _) (by decide) (frame_step (put_frame _ _ _) (by decide) (frame_step (wr_frame _ _
      _) (by decide) (frame_refl _ _))))

theorem LaneSt.logMute_frame (L : LaneSt) (b : Bool) :
    L.frame [.fc] (LaneSt.logMute L b) := by
  unfold LaneSt.logMute
  exact (frame_ite (frame_step (frame_fc _ _) (by decide) (frame_refl _ _)) (frame_refl _ _))

theorem LaneSt.issue_frame (L : LaneSt) (i : CoreInstr) (q : IssueIn) :
    L.frame [.core] (LaneSt.issue L i q) := by
  unfold LaneSt.issue
  exact (frame_ite (frame_refl _ _) (by (try dsimp only); split; exact (frame_step (updCore_frame _ _) (by decide) (frame_refl _ _)); exact (frame_step (updCore_frame _ _) (by decide) (frame_refl _ _)); exact (frame_step (updCore_frame _ _) (by decide) (frame_refl _ _)); exact (frame_step (updCore_frame _ _) (by decide) (frame_refl _ _)); exact (frame_step (updCore_frame _ _) (by decide) (frame_refl _ _)); exact (frame_step (updCore_frame _ _) (by decide) (frame_refl _ _)); exact (frame_step (updCore_frame _ _) (by decide) (frame_refl _ _)); exact (frame_refl _ _)))

theorem LaneSt.eccDouble_frame (L : LaneSt) (i : CoreInstr) (fetch : Bool) :
    L.frame [.regs, .fc, .sys, .aux, .core] (LaneSt.eccDouble L i fetch) := by
  unfold LaneSt.eccDouble
  exact (by (try dsimp only); split; exact (frame_step (eccFault_frame _ _ _) (by decide) (frame_refl _ _)); exact (frame_step (eccFault_frame _ _ _) (by decide) (frame_refl _ _)))

theorem LaneSt.scbTake_frame (L : LaneSt) :
    L.frame [.core] (LaneSt.scbTake L) := by
  unfold LaneSt.scbTake
  exact (frame_step (updCore_frame _ _) (by decide) (frame_refl _ _))

theorem LaneSt.branchInstr_frame (L : LaneSt) (op : BrOp) (rs1 : Nat) (rs2 : Nat) (off : Word) (len : Nat) :
    L.frame [.regs, .fc, .sys, .aux, .core] (LaneSt.branchInstr L op rs1 rs2 off len) := by
  unfold LaneSt.branchInstr
  exact (frame_ite (frame_step (mismatch_frame _ _ _ _) (by decide) (frame_refl _ _)) (frame_ite (frame_step
      (goto_frame _ _ _) (by decide) (frame_step (retire_frame _ _) (by decide) (frame_refl _ _))) (frame_step
      (retire_frame _ _) (by decide) (frame_refl _ _))))

theorem LaneSt.lvqPut_frame (L : LaneSt) (a : Word) (w : Width) (raw : Word) :
    L.frame [.core] (LaneSt.lvqPut L a w raw) := by
  unfold LaneSt.lvqPut
  exact (frame_step (updCore_frame _ _) (by decide) (frame_refl _ _))

theorem LaneSt.lvqTake_frame (L : LaneSt) :
    L.frame [.core] (LaneSt.lvqTake L) := by
  unfold LaneSt.lvqTake
  exact (frame_step (updCore_frame _ _) (by decide) (frame_refl _ _))

theorem LaneSt.loadInstr_frame (L : LaneSt) (w : Width) (signed : Bool) (fp : Bool) (rd : Nat) (rs1 : Nat) (off :
    Word) (len : Nat) (u : Upset) :
    L.frame [.regs, .fc, .sys, .aux, .core] (LaneSt.loadInstr L w signed fp rd rs1 off len u) := by
  unfold LaneSt.loadInstr
  exact (frame_ite (frame_ite (frame_step (mismatch_frame _ _ _ _) (by decide) (frame_refl _ _)) (by (try dsimp only); split; exact (frame_step (accessTrap_frame _ _ _ _ _) (by decide) (frame_refl _ _)); exact (frame_ite (frame_ite (frame_ite (frame_step (retire_frame _ _) (by decide) (frame_step (lvqTake_frame _) (by decide) (frame_step (putReg_frame _ _ _ _ _) (by decide) (frame_step (lvqPut_frame _ _ _ _) (by decide) (frame_refl _ _))))) (frame_step (mismatch_frame _ _ _ _) (by decide) (frame_step (lvqPut_frame _ _ _ _) (by decide) (frame_refl _ _)))) (frame_step (mismatch_frame _ _ _ _) (by decide) (frame_step (lvqPut_frame _ _ _ _) (by decide) (frame_refl _ _)))) (frame_ite (frame_step (retire_frame _ _) (by decide) (frame_step (lvqTake_frame _) (by decide) (frame_step (putReg_frame _ _ _ _ _) (by decide) (frame_step (lvqPut_frame _ _ _ _) (by decide) (frame_refl _ _))))) (frame_step (mismatch_frame _ _ _ _) (by decide) (frame_step (lvqPut_frame _ _ _ _) (by decide) (frame_refl _ _))))))) (frame_step (mismatch_frame _ _ _ _) (by decide) (frame_refl _ _)))

theorem LaneSt.lrInstr_frame (L : LaneSt) (rd : Nat) (rs1 : Nat) (len : Nat) (u : Upset) :
    L.frame [.regs, .fc, .sys, .aux, .core] (LaneSt.lrInstr L rd rs1 len u) := by
  unfold LaneSt.lrInstr
  exact (frame_ite (frame_ite (frame_step (accessTrap_frame _ _ _ _ _) (by decide) (frame_refl _ _)) (frame_ite
      (frame_step (retire_frame _ _) (by decide) (frame_step (updCore_frame _ _) (by decide) (frame_step (putReg_frame
      _ _ _ _ _) (by decide) (frame_refl _ _)))) (frame_step (mismatch_frame _ _ _ _) (by decide) (frame_refl _ _))))
      (frame_step (mismatch_frame _ _ _ _) (by decide) (frame_refl _ _)))

theorem LaneSt.scInstr_frame (L : LaneSt) (rd : Nat) (rs1 : Nat) (rs2 : Nat) (len : Nat) (u : Upset) :
    L.frame [.regs, .mem, .fc, .sys, .aux, .core] (LaneSt.scInstr L rd rs1 rs2 len u) := by
  unfold LaneSt.scInstr
  exact (frame_ite (frame_ite (frame_ite (frame_step (accessTrap_frame _ _ _ _ _) (by decide) (frame_refl _ _))
      (frame_ite (frame_step (retire_frame _ _) (by decide) (frame_ite (frame_step (setWord_frame _ _ _) (by decide)
      (frame_step (updCore_frame _ _) (by decide) (frame_step (putReg_frame _ _ _ _ _) (by decide) (frame_refl _ _))))
      (frame_step (updCore_frame _ _) (by decide) (frame_step (putReg_frame _ _ _ _ _) (by decide) (frame_refl _
      _))))) (frame_step (mismatch_frame _ _ _ _) (by decide) (frame_refl _ _)))) (frame_step (mismatch_frame _ _ _ _)
      (by decide) (frame_refl _ _))) (frame_step (mismatch_frame _ _ _ _) (by decide) (frame_refl _ _)))

theorem LaneSt.mretInstr_frame (L : LaneSt) :
    L.frame [.core] (LaneSt.mretInstr L) := by
  unfold LaneSt.mretInstr
  exact (frame_step (goto_frame _ _ _) (by decide) (frame_step (putCsr_frame _ _ _ _) (by decide) (frame_step
      (updCore_frame _ _) (by decide) (frame_refl _ _))))

theorem LaneSt.laneInstr_frame (L : LaneSt) (i : CoreInstr) (u : Upset) :
    L.frame [.regs, .mem, .fc, .sys, .aux, .core, .free] (LaneSt.laneInstr L i u) := by
  unfold LaneSt.laneInstr
  exact (by (try dsimp only); split; exact (frame_ite (frame_step (retire_frame _ _) (by decide) (frame_step (putReg_frame _ _ _ _ _) (by decide) (frame_refl _ _))) (frame_step (mismatch_frame _ _ _ _) (by decide) (frame_refl _ _))); exact (frame_ite (frame_step (retire_frame _ _) (by decide) (frame_step (putReg_frame _ _ _ _ _) (by decide) (frame_refl _ _))) (frame_step (mismatch_frame _ _ _ _) (by decide) (frame_refl _ _))); exact (frame_ite (frame_step (retire_frame _ _) (by decide) (frame_step (putReg_frame _ _ _ _ _) (by decide) (frame_refl _ _))) (frame_step (mismatch_frame _ _ _ _) (by decide) (frame_refl _ _))); exact (frame_ite (frame_step (retire_frame _ _) (by decide) (frame_step (putReg_frame _ _ _ _ _) (by decide) (frame_refl _ _))) (frame_step (mismatch_frame _ _ _ _) (by decide) (frame_refl _ _))); exact (frame_step (jumpInstr_frame _ _ _ _ _ _) (by decide) (frame_refl _ _)); exact (frame_step (jumpInstr_frame _ _ _ _ _ _) (by decide) (frame_refl _ _)); exact (frame_step (branchInstr_frame _ _ _ _ _ _) (by decide) (frame_refl _ _)); exact (frame_ite (frame_step (retire_frame _ _) (by decide) (frame_step (putReg_frame _ _ _ _ _) (by decide) (frame_refl _ _))) (frame_step (mismatch_frame _ _ _ _) (by decide) (frame_refl _ _))); exact (frame_step (fpuInstr_frame _ _ _ _ _ _ _ _ _) (by decide) (frame_refl _ _)); exact (frame_ite (frame_step (retire_frame _ _) (by decide) (frame_step (putReg_frame _ _ _ _ _) (by decide) (frame_refl _ _))) (frame_step (mismatch_frame _ _ _ _) (by decide) (frame_refl _ _))); exact (frame_ite (frame_step (retire_frame _ _) (by decide) (frame_step (putReg_frame _ _ _ _ _) (by decide) (frame_refl _ _))) (frame_step (mismatch_frame _ _ _ _) (by decide) (frame_refl _ _))); exact (frame_step (loadInstr_frame _ _ _ _ _ _ _ _ _) (by decide) (frame_refl _ _)); exact (frame_step (loadInstr_frame _ _ _ _ _ _ _ _ _) (by decide) (frame_refl _ _)); exact (frame_step (lrInstr_frame _ _ _ _ _) (by decide) (frame_refl _ _)); exact (frame_step (scInstr_frame _ _ _ _ _ _) (by decide) (frame_refl _ _)); exact (frame_step (amoInstr_frame _ _ _ _ _ _ _) (by decide) (frame_refl _ _)); exact (frame_step (csrInstr_frame _ _ _ _ _ _ _) (by decide) (frame_refl _ _)); exact (frame_step (mretInstr_frame _) (by decide) (frame_refl _ _)); exact (frame_step (retire_frame _ _) (by decide) (frame_refl _ _)); exact (frame_step (trap_frame _ _ _) (by decide) (frame_refl _ _)); exact (frame_step (trap_frame _ _ _) (by decide) (frame_refl _ _)); exact (frame_refl _ _); exact (frame_refl _ _))

theorem LaneSt.tryPassword_frame (L : LaneSt) (l : Lane) (r : Req) (ok : Bool) :
    L.frame [.regs, .mem, .nvm, .mbx] (LaneSt.tryPassword L l r ok) := by
  unfold LaneSt.tryPassword
  exact (frame_step (finish_frame _ _ _ _) (by decide) (frame_ite (frame_step (tally_frame _ _ _ _ _ _) (by decide)
      (frame_step (updMbx_frame _ _) (by decide) (frame_refl _ _))) (frame_step (tally_frame _ _ _ _ _ _) (by decide)
      (frame_step (frame_nvm _ _) (by decide) (frame_refl _ _)))))

theorem LaneSt.formFrame_frame (L : LaneSt) (i : Nat) :
    L.frame [.com, .safe] (LaneSt.formFrame L i) := by
  unfold LaneSt.formFrame
  exact (frame_step (frame_safe _ _) (by decide) (frame_step (updCom_frame _ _ _) (by decide) (frame_refl _ _)))

theorem LaneSt.resyncCycle_frame (L : LaneSt) :
    L.frame [.regs, .fc, .sys, .agr, .com, .aux] (LaneSt.resyncCycle L) := by
  unfold LaneSt.resyncCycle
  exact (frame_ite (frame_ite (frame_step (updAgr_frame _ _) (by decide) (frame_step (wr_frame _ _ _) (by decide)
      (frame_step (wr_frame _ _ _) (by decide) (frame_step (updAgr_frame _ _) (by decide) (frame_refl _ _)))))
      (frame_ite (frame_step (resyncFail_frame _ _ _) (by decide) (frame_step (wr_frame _ _ _) (by decide) (frame_step
      (updAgr_frame _ _) (by decide) (frame_refl _ _)))) (frame_step (wr_frame _ _ _) (by decide) (frame_step
      (updAgr_frame _ _) (by decide) (frame_refl _ _))))) (frame_step (wr_frame _ _ _) (by decide) (frame_step
      (updAgr_frame _ _) (by decide) (frame_refl _ _))))

theorem LaneSt.adoptTime_frame (L : LaneSt) (f : FlockFrame) (rx : Nat) (st : Nat) (cold : Bool) :
    L.frame [.regs, .time, .flk, .can1, .can2] (LaneSt.adoptTime L f rx st cold) := by
  unfold LaneSt.adoptTime
  exact (frame_step (showKeeper_frame _) (by decide) (frame_step (frame_time_can1_can2 _ _ _ _) (by decide)
      (frame_step (updKeeper_frame _ _) (by decide) (frame_refl _ _))))

theorem LaneSt.coldAt_frame (L : LaneSt) (l : Lane) (f : FlockFrame) (rx : Nat) :
    L.frame [.regs, .time, .fc, .sys, .aux, .flk, .can1, .can2] (LaneSt.coldAt L l f rx) := by
  unfold LaneSt.coldAt
  exact (frame_ite (frame_step (startupFault_frame _ _) (by decide) (frame_refl _ _)) (frame_ite (frame_refl _ _)
      (frame_ite (frame_step (adoptTime_frame _ _ _ _ _) (by decide) (frame_refl _ _)) (frame_ite (frame_ite
      (frame_step (adoptTime_frame _ _ _ _ _) (by decide) (frame_refl _ _)) (frame_refl _ _)) (frame_ite (frame_ite
      (frame_refl _ _) (frame_ite (frame_step (adoptTime_frame _ _ _ _ _) (by decide) (frame_step (put_frame _ _ _)
      (by decide) (frame_refl _ _))) (frame_ite (frame_step (startupFault_frame _ _) (by decide) (frame_step
      (showKeeper_frame _) (by decide) (frame_step (updKeeper_frame _ _) (by decide) (frame_step (put_frame _ _ _) (by
      decide) (frame_refl _ _))))) (frame_refl _ _)))) (frame_refl _ _))))))

theorem LaneSt.homeTrip_frame (L : LaneSt) (raw : Int) :
    L.frame [.regs, .aux] (LaneSt.homeTrip L raw) := by
  unfold LaneSt.homeTrip
  exact (by (try dsimp only); split; exact (frame_step (updAux_frame _ _) (by decide) (frame_step (wrS_frame _ _ _) (by decide) (frame_refl _ _))); exact (frame_step (updAux_frame _ _) (by decide) (frame_refl _ _)); exact (frame_refl _ _))

theorem LaneSt.settleImage_frame (L : LaneSt) (r : Rnd) :
    L.frame [.regs, .fc, .sys, .nvm, .com, .mbx, .aux, .flk, .can1, .can2] (LaneSt.settleImage L r) := by
  unfold LaneSt.settleImage
  exact (frame_ite (frame_step (intoForce_frame _) (by decide) (frame_refl _ _)) (by (try dsimp only); split; exact (frame_ite (frame_step (intoForce_frame _) (by decide) (frame_refl _ _)) (frame_ite (frame_step (withoutImage_frame _) (by decide) (frame_refl _ _)) (frame_step (raise_frame _ _ _) (by decide) (frame_refl _ _)))); exact (frame_step (withoutImage_frame _) (by decide) (frame_refl _ _))))

theorem LaneSt.keyReload_frame (L : LaneSt) (zeroOk : Bool) (keyOk : Bool) :
    L.frame [.regs, .fc, .sys, .aux] (LaneSt.keyReload L zeroOk keyOk) := by
  unfold LaneSt.keyReload
  exact (frame_step (raiseIf_frame _ _ _ _) (by decide) (frame_step (inc_frame _ _ _) (by decide) (frame_step
      (put_frame _ _ _) (by decide) (frame_step (put_frame _ _ _) (by decide) (frame_refl _ _)))))

theorem LaneSt.sliceFold_frame (L : LaneSt) (p : Nat) (zeroOk : Bool) (crcOk : Bool) (keyOk : Bool) :
    L.frame [.regs, .fc, .sys, .chn, .aux, .core] (LaneSt.sliceFold L p zeroOk crcOk keyOk) := by
  unfold LaneSt.sliceFold
  exact (frame_step (updChn_frame _ _) (by decide) (frame_seq (frame_ite (frame_step (keyReload_frame _ _ _) (by
      decide) (frame_refl _ _)) (frame_refl _ _)) (frame_seq (frame_step (raiseIf_frame _ _ _ _) (by decide)
      (frame_refl _ _)) (frame_step (sliceRestore_frame _ _) (by decide) (frame_step (wr_frame _ _ _) (by decide)
      (frame_step (wr_frame _ _ _) (by decide) (frame_refl _ _)))))))

theorem LaneSt.startTap_frame (L : LaneSt) (code : Nat) (r : Req) (stream : Option Nat) (dec : Nat) (dur : Nat) (bad :
    Option Nat) :
    L.frame [.regs, .mbx] (LaneSt.startTap L code r stream dec dur bad) := by
  unfold LaneSt.startTap
  exact (by (try dsimp only); split; exact (frame_step (refuse_frame _ _ _ _ _) (by decide) (frame_refl _ _)); exact (frame_step (updMbx_frame _ _) (by decide) (frame_refl _ _)))

theorem LaneSt.grazePost_frame (L : LaneSt) :
    L.frame [.flk] (LaneSt.grazePost L) := by
  unfold LaneSt.grazePost
  exact (by (try dsimp only); split; exact (frame_ite (frame_refl _ _) (frame_step (updFlk_frame _ _) (by decide) (frame_step (postTx_frame _ _ _ _) (by decide) (frame_refl _ _)))); exact (frame_refl _ _))

theorem LaneSt.forgetNet_frame (L : LaneSt) :
    L.frame [.regs, .flk] (LaneSt.forgetNet L) := by
  unfold LaneSt.forgetNet
  exact (frame_ite (frame_refl _ _) (frame_step (updFlk_frame _ _) (by decide) (frame_step (put_frame _ _ _) (by
      decide) (frame_refl _ _))))

theorem LaneSt.flkCycle_frame (L : LaneSt) :
    L.frame [.regs, .fc, .sys, .aux, .flk] (LaneSt.flkCycle L) := by
  unfold LaneSt.flkCycle
  exact (frame_step (updFlk_frame _ _) (by decide) (frame_seq (frame_step (wr_frame _ _ _) (by decide) (frame_refl _
      _)) (frame_seq (frame_step (forgetNet_frame _) (by decide) (frame_refl _ _)) (frame_seq (frame_step (put_frame _
      _ _) (by decide) (frame_step (put_frame _ _ _) (by decide) (frame_refl _ _))) (frame_seq (frame_step
      (raiseIf_frame _ _ _ _) (by decide) (frame_step (channelLost_frame _ _ _ _) (by decide) (frame_step
      (channelLost_frame _ _ _ _) (by decide) (frame_refl _ _)))) (frame_step (grazePost_frame _) (by decide)
      (frame_refl _ _)))))))

theorem LaneSt.fieldCheck_frame (L : LaneSt) (field : Nat) :
    L.frame [.regs, .fc, .sys, .pos, .aux] (LaneSt.fieldCheck L field) := by
  unfold LaneSt.fieldCheck
  exact (frame_step (raiseIf_frame _ _ _ _) (by decide) (frame_step (wr_frame _ _ _) (by decide) (frame_step
      (updPos_frame _ _) (by decide) (frame_refl _ _))))

theorem LaneSt.readRange_frame (L : LaneSt) (code : Nat) (r : Req) (size : Nat) (offset : Nat) (length : Nat) (at_ :
    Nat) (f : Nat → Byte) :
    L.frame [.regs, .mbx] (LaneSt.readRange L code r size offset length at_ f) := by
  unfold LaneSt.readRange
  exact (frame_ite (frame_step (refuse_frame _ _ _ _ _) (by decide) (frame_refl _ _)) (frame_step (finish_frame _ _ _
      _) (by decide) (frame_refl _ _)))

theorem LaneSt.detect_frame (L : LaneSt) (c : CanId) (ns : Nat) (ok : Bool) :
    L.frame [.regs, .can1, .can2] (LaneSt.detect L c ns ok) := by
  unfold LaneSt.detect
  exact (by (try dsimp only); split; exact (frame_refl _ _); exact (frame_ite (frame_step (setCan_frame _ _ _) (by decide) (frame_refl _ _)) (frame_ite (frame_step (setCan_frame _ _ _) (by decide) (frame_refl _ _)) (frame_step (setCan_frame _ _ _) (by decide) (frame_step (wr_frame _ _ _) (by decide) (frame_refl _ _))))))

theorem LaneSt.adoptRind_frame (L : LaneSt) (l : Lane) (others : Nat) :
    L.frame [.regs, .mem, .fc, .sys, .nvm, .agr, .com, .mbx, .sec, .aux, .core] (LaneSt.adoptRind L l others) := by
  unfold LaneSt.adoptRind
  exact (frame_ite (frame_step (latchRind_frame _ _ _) (by decide) (frame_refl _ _)) (frame_refl _ _))

theorem LaneSt.confirm_frame (L : LaneSt) (ds : List (BitVec 16)) (alone : Bool) :
    L.frame [.regs, .mbx] (LaneSt.confirm L ds alone) := by
  unfold LaneSt.confirm
  exact (frame_step (showPending_frame _) (by decide) (frame_step (updMbx_frame _ _) (by decide) (frame_refl _ _)))

theorem LaneSt.takeDigests_frame (L : LaneSt) (l : Lane) (r : Rnd) :
    L.frame [.regs, .mem, .fc, .sys, .nvm, .agr, .com, .mbx, .sec, .aux, .core] (LaneSt.takeDigests L l r) := by
  unfold LaneSt.takeDigests
  exact (frame_step (adoptRind_frame _ _ _) (by decide) (frame_step (confirm_frame _ _ _) (by decide) (frame_refl _ _)))

theorem LaneSt.ss1Note_frame (L : LaneSt) (l : Lane) (i : Nat) :
    L.frame [.regs, .safe] (LaneSt.ss1Note L l i) := by
  unfold LaneSt.ss1Note
  exact (by (try dsimp only); split; exact (frame_refl _ _); exact (frame_step (wr_frame _ _ _) (by decide) (frame_step (wr_frame _ _ _) (by decide) (frame_step (updSafe_frame _ _) (by decide) (frame_refl _ _)))))

theorem LaneSt.collectRev_frame (L : LaneSt) (t : Nat) :
    L.frame [.pos] (LaneSt.collectRev L t) := by
  unfold LaneSt.collectRev
  exact (frame_step (updPos_frame _ _) (by decide) (frame_refl _ _))

theorem LaneSt.imageRound_frame (L : LaneSt) (r : Rnd) (n : Nat) :
    L.frame [.regs, .fc, .sys, .nvm, .agr, .com, .mbx, .aux, .flk, .can1, .can2] (LaneSt.imageRound L r n) := by
  unfold LaneSt.imageRound
  exact (frame_step (updAgr_frame _ _) (by decide) (frame_ite (frame_step (settleImage_frame _ _) (by decide)
      (frame_refl _ _)) (frame_ite (frame_ite (frame_step (checkImage_frame _ _ _) (by decide) (frame_refl _ _))
      (frame_step (checkDone_frame _) (by decide) (frame_step (checkImage_frame _ _ _) (by decide) (frame_refl _ _))))
      (frame_refl _ _))))

theorem LaneSt.takeRev_frame (L : LaneSt) (l : Lane) (x : RevSample) (y : RevSample) (rs : List RevSample) :
    L.frame [.regs, .mem, .fc, .sys, .nvm, .pos, .aux] (LaneSt.takeRev L l x y rs) := by
  unfold LaneSt.takeRev
  exact (frame_ite (frame_step (calResult_frame _ _) (by decide) (frame_seq (frame_step (wr_frame _ _ _) (by decide)
      (frame_step (put_frame _ _ _) (by decide) (frame_refl _ _))) (frame_step (inc_frame _ _ _) (by decide)
      (frame_step (updPos_frame _ _) (by decide) (frame_refl _ _))))) (frame_seq (frame_step (wr_frame _ _ _) (by
      decide) (frame_step (put_frame _ _ _) (by decide) (frame_refl _ _))) (frame_step (inc_frame _ _ _) (by decide)
      (frame_step (updPos_frame _ _) (by decide) (frame_refl _ _)))))

theorem LaneSt.randomBytes_frame (L : LaneSt) (n : Nat) : L.frame [.free] (LaneSt.randomBytes L n).2 := by
  induction n generalizing L with
  | zero => exact L.frame_refl _
  | succ n ih => exact LaneSt.frame_seq (ih _) (fresh_frame L)

theorem LaneSt.storeKey_frame (L : LaneSt) (slot : Nat) (item : List Byte) :
    L.frame [.regs, .mbx, .sec, .free] (LaneSt.storeKey L slot item) := by
  unfold LaneSt.storeKey
  exact (by (try dsimp only); split; exact (frame_step (updSec_frame _ _) (by decide) (frame_refl _ _)); exact (frame_step (updKeys_frame _ _) (by decide) (frame_step (put_frame _ _ _) (by decide) (frame_step (randomBytes_frame _ _) (by decide) (frame_refl _ _)))); exact (frame_step (updKeys_frame _ _) (by decide) (frame_step (wr_frame _ _ _) (by decide) (frame_step (put_frame _ _ _) (by decide) (frame_refl _ _)))); exact (frame_step (updKeys_frame _ _) (by decide) (frame_step (closeSession_frame _) (by decide) (frame_step (put_frame _ _ _) (by decide) (frame_refl _ _)))); exact (frame_step (updKeys_frame _ _) (by decide) (frame_step (put_frame _ _ _) (by decide) (frame_refl _ _))))

theorem LaneSt.shepInstr_frame (L : LaneSt) (i : CoreInstr) (u : Upset) :
    L.frame [.regs, .mem, .fc, .sys, .aux, .core, .free] (LaneSt.shepInstr L i u) := by
  unfold LaneSt.shepInstr
  exact (frame_ite (frame_step (mismatch_frame _ _ _ _) (by decide) (frame_refl _ _)) (by (try dsimp only); split; exact (frame_step (trap_frame _ _ _) (by decide) (frame_refl _ _)); exact (frame_step (trap_frame _ _ _) (by decide) (frame_refl _ _)); exact (frame_step (trap_frame _ _ _) (by decide) (frame_refl _ _)); exact (frame_step (trap_frame _ _ _) (by decide) (frame_refl _ _)); exact (frame_step (trap_frame _ _ _) (by decide) (frame_refl _ _)); exact (frame_step (trap_frame _ _ _) (by decide) (frame_refl _ _)); exact (frame_step (trap_frame _ _ _) (by decide) (frame_refl _ _)); exact (frame_step (trap_frame _ _ _) (by decide) (frame_refl _ _)); exact (frame_ite (frame_step (accessTrap_frame _ _ _ _ _) (by decide) (frame_refl _ _)) (frame_step (laneInstr_frame _ _ _) (by decide) (frame_refl _ _))); exact (frame_ite (frame_step (storeAgree_frame _ _ _ _ _ _ _) (by decide) (frame_refl _ _)) (frame_ite (frame_step (accessTrap_frame _ _ _ _ _) (by decide) (frame_step (scbTake_frame _) (by decide) (frame_step (storeAgree_frame _ _ _ _ _ _ _) (by decide) (frame_refl _ _)))) (frame_step (retire_frame _ _) (by decide) (frame_ite (frame_step (setBytes_frame _ _ _) (by decide) (frame_step (scbTake_frame _) (by decide) (frame_step (storeAgree_frame _ _ _ _ _ _ _) (by decide) (frame_refl _ _)))) (frame_step (scbTake_frame _) (by decide) (frame_step (storeAgree_frame _ _ _ _ _ _ _) (by decide) (frame_refl _ _))))))); exact (frame_step (laneInstr_frame _ _ _) (by decide) (frame_refl _ _))))

theorem LaneSt.asShepherd_frame (L : LaneSt) : L.frame [.regs, .mem, .core] (L.asShepherd) := by
  unfold LaneSt.asShepherd
  refine LaneSt.frame_step (updCore_frame _ _) (by decide) (frame_step (put_frame _ _ _) (by decide) ?_)
  refine ⟨fun p hp => by cases p <;> first | rfl | simp at hp, fun h => ?_⟩
  simp only [LaneSt.wf, Bool.and_eq_true] at h ⊢
  exact ⟨⟨⟨h.1.1.2, h.1.1.2⟩, h.1.2⟩, h.2⟩

theorem LaneSt.runShepherd_frame (L : LaneSt) (i : CoreInstr) (u : Upset) :
    L.frame [.regs, .mem, .shepMem, .fc, .sys, .aux, .core, .free] (L.runShepherd i u) := by
  unfold LaneSt.runShepherd
  refine LaneSt.frame_ite ?_ ?_
  · exact LaneSt.frame_step (openMask_frame _ _) (by decide) (frame_step (raise_frame _ _ _) (by decide)
      (frame_mono (haltCores_frame _) (by decide)))
  · extract_lets M
    refine LaneSt.frame_ite (frame_mono (shepherdMismatch_frame _) (by decide)) ?_
    refine LaneSt.frame_step (raiseIf_frame _ _ _ _) (by decide) ?_
    refine ⟨fun p hp => by cases p <;> first | rfl | simp at hp, fun h => ?_⟩
    have hM : L.asShepherd.wf = true := (asShepherd_frame L).2 h
    have hN : M.wf = true := (shepInstr_frame L.asShepherd i u).2 hM
    simp only [LaneSt.wf, Bool.and_eq_true] at h hN ⊢
    exact ⟨⟨⟨h.1.1.1, hN.1.1.1⟩, h.1.2⟩, h.2⟩

theorem LaneSt.halt_frame (L : LaneSt) (l : Lane) :
    L.frame [.regs, .fc, .agr, .com, .core] (LaneSt.halt L l) := by
  unfold LaneSt.halt
  exact (frame_step (updCore_frame _ _) (by decide) (frame_step (enterResync_frame _) (by decide) (frame_refl _ _)))

theorem LaneSt.mbxSlot_frame (L : LaneSt) (l : Lane) :
    L.frame [.regs, .snap, .mem, .shepMem, .fc, .pwr, .sys, .nvm, .agr, .meas, .pos, .com, .safe, .chn, .mbx, .sec,
        .aux, .core, .flk, .can1, .can2] (LaneSt.mbxSlot L l) := by
  unfold LaneSt.mbxSlot
  exact (frame_step (showReply_frame _ _) (by decide) (frame_step (flushLog_frame _) (by decide) (frame_step
      (showPending_frame _) (by decide) (frame_step (crookGoes_frame _) (by decide) (frame_step (answerAsked_frame _)
      (by decide) (frame_seq (frame_seq (frame_foldl (fun _ _ => (frame_ite (frame_step (act_frame _ _ _) (by decide)
      (frame_refl _ _)) (frame_refl _ _))) _ _) (frame_refl _ _)) (frame_seq (frame_step (updMbx_frame _ _) (by
      decide) (frame_refl _ _)) (frame_step (endCommit_frame _ _) (by decide) (frame_step (updMbx_frame _ _) (by
      decide) (frame_refl _ _))))))))))

theorem LaneSt.resume_frame (L : LaneSt) (t : Nat) :
    L.frame [.agr] (LaneSt.resume L t) := by
  unfold LaneSt.resume
  exact (frame_ite (frame_step (updAgr_frame _ _) (by decide) (frame_refl _ _)) (frame_refl _ _))

theorem LaneSt.keepCopy_frame (L : LaneSt) (relayed : Bool) (m : AgrMsg) :
    L.frame [.agr] (LaneSt.keepCopy L relayed m) := by
  unfold LaneSt.keepCopy
  exact (frame_ite (frame_step (updAgr_frame _ _) (by decide) (frame_refl _ _)) (frame_step (updAgr_frame _ _) (by
      decide) (frame_refl _ _)))

theorem LaneSt.copyErrors_frame (L : LaneSt) (l : Nat) (x : Nat) :
    L.frame [.agr] (LaneSt.copyErrors L l x) := by
  unfold LaneSt.copyErrors
  exact (by (try dsimp only); split; exact (frame_step (linkError_frame _ _ _) (by decide) (frame_refl _ _)); exact (frame_step (linkError_frame _ _ _) (by decide) (frame_refl _ _)); exact (frame_refl _ _))

theorem LaneSt.takeAgreed_frame (L : LaneSt) (r : Rnd) :
    L.frame [.regs, .agr, .pos] (LaneSt.takeAgreed L r) := by
  unfold LaneSt.takeAgreed
  exact (by (try dsimp only); split; exact (frame_ite (frame_ite (by (try dsimp only); split; exact (frame_step (updAgr_frame _ _) (by decide) (frame_refl _ _)); exact (frame_refl _ _)) (frame_step (spInvalid_frame _ _) (by decide) (by (try dsimp only); split; exact (frame_step (updAgr_frame _ _) (by decide) (frame_refl _ _)); exact (frame_refl _ _)))) (frame_step (spInvalid_frame _ _) (by decide) (frame_ite (by (try dsimp only); split; exact (frame_step (updAgr_frame _ _) (by decide) (frame_refl _ _)); exact (frame_refl _ _)) (frame_step (spInvalid_frame _ _) (by decide) (by (try dsimp only); split; exact (frame_step (updAgr_frame _ _) (by decide) (frame_refl _ _)); exact (frame_refl _ _)))))); exact (by (try dsimp only); split; exact (frame_step (updAgr_frame _ _) (by decide) (frame_refl _ _)); exact (frame_refl _ _)))

theorem LaneSt.takeBits_frame (L : LaneSt) (r : Rnd) :
    L.frame [.agr, .com, .safe] (LaneSt.takeBits L r) := by
  unfold LaneSt.takeBits
  exact (frame_step (takeNtc_frame _) (by decide) (frame_seq (frame_for3 (fun _ _ => (by (try dsimp only); split; exact (frame_step (updAgr_frame _ _) (by decide) (frame_step (updSafe_frame _ _) (by decide) (frame_refl _ _))); exact (frame_step (updAgr_frame _ _) (by decide) (frame_refl _ _)))) _) (frame_refl _ _)))

theorem LaneSt.ss1Start_frame (L : LaneSt) (l : Lane) (src : StopSrc) (i : Nat) :
    L.frame [.safe] (LaneSt.ss1Start L l src i) := by
  unfold LaneSt.ss1Start
  exact (frame_ite (frame_refl _ _) (frame_step (updSafe_frame _ _) (by decide) (frame_refl _ _)))

theorem LaneSt.ss1Begin_frame (L : LaneSt) (l : Lane) :
    L.frame [.safe] (LaneSt.ss1Begin L l) := by
  unfold LaneSt.ss1Begin
  exact (frame_seq (frame_foldl (fun _ _ => (frame_seq (frame_for3 (fun _ _ => (frame_ite (frame_step (ss1Start_frame
      _ _ _ _) (by decide) (frame_refl _ _)) (frame_refl _ _))) _) (frame_refl _ _))) _ _) (frame_step (updSafe_frame
      _ _) (by decide) (frame_refl _ _)))

theorem LaneSt.safeVote_frame (L : LaneSt) (l : Lane) :
    L.frame [.regs, .fc, .sys, .safe, .aux] (LaneSt.safeVote L l) := by
  unfold LaneSt.safeVote
  exact (frame_step (refreshSafe_frame _ _) (by decide) (frame_step (put_frame _ _ _) (by decide) (frame_seq (frame_step (raiseIf_frame _ _ _ _) (by decide) (frame_refl _ _)) (frame_seq (frame_step (raiseIf_frame _ _ _ _) (by decide) (frame_refl _ _)) (frame_seq (frame_seq (frame_for3 (fun _ _ => (by (try dsimp only); split; exact (frame_refl _ _); exact (frame_step (endAsSource_frame _ _ _) (by decide) (frame_refl _ _)); exact (frame_step (violate_frame _ _) (by decide) (frame_refl _ _)))) _) (frame_refl _ _)) (frame_seq (frame_seq (frame_for3 (fun _ _ => (frame_step (ss1Note_frame _ _ _) (by decide) (frame_refl _ _))) _) (frame_refl _ _)) (frame_step (ss1Begin_frame _ _) (by decide) (frame_refl _ _))))))))

theorem LaneSt.learnSees_frame (L : LaneSt) (r : Rnd) :
    L.frame [.regs, .com] (LaneSt.learnSees L r) := by
  unfold LaneSt.learnSees
  exact (frame_ite (frame_step (learnResync_frame _) (by decide) (frame_refl _ _)) (frame_step (learnRound_frame _ _ _
      _) (by decide) (frame_refl _ _)))

theorem LaneSt.rejoin_frame (L : LaneSt) (r : Rnd) :
    L.frame [.regs, .agr, .flk] (LaneSt.rejoin L r) := by
  unfold LaneSt.rejoin
  exact (frame_ite (frame_step (showKeeper_frame _) (by decide) (frame_step (updAgr_frame _ _) (by decide) (frame_step
      (updFlk_frame _ _) (by decide) (frame_refl _ _)))) (frame_refl _ _))

theorem LaneSt.voteEngines_frame (L : LaneSt) (l : Lane) (r : Rnd) (h : Heard) (n : Nat) :
    L.frame [.regs, .mem, .fc, .sys, .nvm, .agr, .pos, .com, .safe, .chn, .mbx, .sec, .aux, .core, .flk, .can1, .can2]
        (LaneSt.voteEngines L l r h n) := by
  unfold LaneSt.voteEngines
  exact (frame_step (frame_sys _ _) (by decide) (frame_seq (frame_step (rejoin_frame _ _) (by decide) (frame_step
      (takeDigests_frame _ _ _) (by decide) (frame_refl _ _))) (frame_seq (frame_step (learnSees_frame _ _) (by
      decide) (frame_step (shadowRound_frame _ _) (by decide) (frame_step (imageRound_frame _ _ _) (by decide)
      (frame_refl _ _)))) (frame_seq (frame_step (safeVote_frame _ _) (by decide) (frame_step (followModule_frame _ _
      _ _) (by decide) (frame_refl _ _))) (frame_step (takeAgreed_frame _ _) (by decide) (frame_step (takeBits_frame _
      _) (by decide) (frame_refl _ _)))))))

theorem LaneSt.showRound_frame (L : LaneSt) (r : Rnd) (odd : Nat) (conflict : Bool) :
    L.frame [.regs] (LaneSt.showRound L r odd conflict) := by
  unfold LaneSt.showRound
  exact (frame_ite (frame_seq (frame_step (put_frame _ _ _) (by decide) (frame_refl _ _)) (frame_seq (frame_step
      (put_frame _ _ _) (by decide) (frame_refl _ _)) (frame_seq (frame_step (put_frame _ _ _) (by decide) (frame_step
      (wr_frame _ _ _) (by decide) (frame_refl _ _))) (frame_step (wr_frame _ _ _) (by decide) (frame_step (wr_frame _
      _ _) (by decide) (frame_step (wr_frame _ _ _) (by decide) (frame_step (wr_frame _ _ _) (by decide) (frame_refl _
      _)))))))) (frame_step (put_frame _ _ _) (by decide) (frame_seq (frame_step (put_frame _ _ _) (by decide)
      (frame_refl _ _)) (frame_seq (frame_step (put_frame _ _ _) (by decide) (frame_refl _ _)) (frame_seq (frame_step
      (put_frame _ _ _) (by decide) (frame_step (wr_frame _ _ _) (by decide) (frame_refl _ _))) (frame_step (wr_frame
      _ _ _) (by decide) (frame_step (wr_frame _ _ _) (by decide) (frame_step (wr_frame _ _ _) (by decide) (frame_step
      (wr_frame _ _ _) (by decide) (frame_refl _ _))))))))))

theorem LaneSt.voteAgree_frame (L : LaneSt) (l : Lane) (r : Rnd) :
    L.frame [.regs, .fc, .sys, .agr, .com, .safe, .chn, .mbx, .sec, .aux, .free] (LaneSt.voteAgree L l r) := by
  unfold LaneSt.voteAgree
  exact (frame_step (judge_frame _ _ _ _ _) (by decide) (frame_step (inputMarks_frame _ _ _) (by decide) (frame_seq
      (frame_step (showVector_frame _ _ _) (by decide) (frame_step (showRound_frame _ _ _ _) (by decide) (frame_refl _
      _))) (frame_step (countRounds_frame _ _) (by decide) (frame_refl _ _)))))

theorem LaneSt.formCatchup_frame (L : LaneSt) (l : Lane) (m : AgrMsg) (r : Rnd) :
    L.frame [.agr] (LaneSt.formCatchup L l m r) := by
  unfold LaneSt.formCatchup
  exact (frame_step (updAgr_frame _ _) (by decide) (frame_refl _ _))

theorem LaneSt.vote_frame (L : LaneSt) (l : Lane) (m : AgrMsg) (h : Heard) :
    L.frame [.regs, .snap, .mem, .fc, .sys, .nvm, .agr, .pos, .com, .safe, .chn, .mbx, .sec, .aux, .core, .flk, .can1,
        .can2, .free] (LaneSt.vote L l m h) := by
  unfold LaneSt.vote
  exact (frame_step (freeze_frame _ _) (by decide) (frame_step (updAgr_frame _ _) (by decide) (frame_step
      (formCatchup_frame _ _ _ _) (by decide) (frame_seq (frame_step (voteEngines_frame _ _ _ _ _) (by decide)
      (frame_step (voteAgree_frame _ _ _) (by decide) (frame_refl _ _))) (frame_seq (frame_step (welcome_frame _ _)
      (by decide) (frame_refl _ _)) (frame_seq (frame_for3 (fun _ _ => (frame_ite (frame_refl _ _) (frame_step
      (copyErrors_frame _ _ _) (by decide) (frame_refl _ _)))) _) (frame_refl _ _)))))))

theorem LaneSt.showCore_frame (L : LaneSt) :
    L.frame [.regs, .core] (LaneSt.showCore L) := by
  unfold LaneSt.showCore
  exact (frame_step (frame_core _ _) (by decide) (frame_seq (frame_step (wr_frame _ _ _) (by decide) (frame_refl _ _))
      (frame_step (wr_frame _ _ _) (by decide) (frame_step (wr_frame _ _ _) (by decide) (frame_step (wr_frame _ _ _)
      (by decide) (frame_refl _ _))))))

theorem LaneSt.showCounts_frame (L : LaneSt) :
    L.frame [.regs, .agr, .meas] (LaneSt.showCounts L) := by
  unfold LaneSt.showCounts
  exact (frame_step (frame_meas _ _) (by decide) (frame_seq (frame_step (updAgr_frame _ _) (by decide) (frame_refl _
      _)) (frame_seq (frame_seq (frame_for3 (fun _ _ => (frame_step (wr_frame _ _ _) (by decide) (frame_refl _ _))) _)
      (frame_refl _ _)) (frame_seq (frame_step (wr_frame _ _ _) (by decide) (frame_step (wr_frame _ _ _) (by decide)
      (frame_step (wr_frame _ _ _) (by decide) (frame_refl _ _)))) (frame_step (wr_frame _ _ _) (by decide)
      (frame_step (wr_frame _ _ _) (by decide) (frame_step (wr_frame _ _ _) (by decide) (frame_refl _ _))))))))

theorem LaneSt.grazeSample_frame (L : LaneSt) :
    L.frame [.com] (LaneSt.grazeSample L) := by
  unfold LaneSt.grazeSample
  exact (frame_ite (frame_step (frame_com _ _) (by decide) (frame_refl _ _)) (frame_step (frame_com _ _) (by decide)
      (frame_refl _ _)))

theorem LaneSt.basicCycle_frame (L : LaneSt) (l : Lane) :
    L.frame [.regs, .snap, .fc, .sys, .agr, .meas, .com, .chn, .aux, .core, .flk] (LaneSt.basicCycle L l) := by
  unfold LaneSt.basicCycle
  exact (frame_step (freeze_frame _ _) (by decide) (frame_step (takeover_frame _ _) (by decide) (frame_step
      (flkCycle_frame _) (by decide) (frame_step (resyncCycle_frame _) (by decide) (frame_seq (frame_step
      (grazeSample_frame _) (by decide) (frame_seq (frame_for3 (fun _ _ => (frame_step (windingModel_frame _ _) (by
      decide) (frame_refl _ _))) _) (frame_refl _ _))) (frame_step (showCore_frame _) (by decide) (frame_step
      (showCounts_frame _) (by decide) (frame_refl _ _))))))))

theorem LaneSt.segMiss_frame (L : LaneSt) (l : Lane) (p : Nat) (seg : Nat) :
    L.frame [.regs, .fc, .sys, .meas, .chn, .aux] (LaneSt.segMiss L l p seg) := by
  unfold LaneSt.segMiss
  exact (frame_ite (frame_ite (frame_step (copyFailed_frame _ _) (by decide) (frame_step (wr_frame _ _ _) (by decide)
      (frame_refl _ _))) (frame_step (raise_frame _ _ _) (by decide) (frame_step (wr_frame _ _ _) (by decide)
      (frame_refl _ _)))) (frame_step (updChn_frame _ _) (by decide) (frame_step (incSat_frame _ _ _) (by decide)
      (frame_step (wr_frame _ _ _) (by decide) (frame_refl _ _)))))

theorem LaneSt.sliceEnd_frame (L : LaneSt) (l : Lane) (p : Nat) (seg : Nat) (zeroOk : Bool) (sigOk : Bool) (crcOk :
    Bool) (keyOk : Bool) :
    L.frame [.regs, .fc, .sys, .meas, .chn, .aux, .core] (LaneSt.sliceEnd L l p seg zeroOk sigOk crcOk keyOk) := by
  unfold LaneSt.sliceEnd
  exact (frame_ite (frame_seq (frame_ite (frame_step (keyReload_frame _ _ _) (by decide) (frame_refl _ _)) (frame_refl
      _ _)) (frame_seq (frame_step (raiseIf_frame _ _ _ _) (by decide) (frame_refl _ _)) (frame_seq (frame_step
      (sliceRestore_frame _ _) (by decide) (frame_ite (frame_step (segMiss_frame _ _ _ _) (by decide) (frame_refl _
      _)) (frame_refl _ _))) (frame_step (wr_frame _ _ _) (by decide) (frame_refl _ _))))) (frame_ite (frame_step
      (segPass_frame _ _ _) (by decide) (frame_seq (frame_ite (frame_step (keyReload_frame _ _ _) (by decide)
      (frame_refl _ _)) (frame_refl _ _)) (frame_seq (frame_step (raiseIf_frame _ _ _ _) (by decide) (frame_refl _ _))
      (frame_seq (frame_step (sliceRestore_frame _ _) (by decide) (frame_ite (frame_step (segMiss_frame _ _ _ _) (by
      decide) (frame_refl _ _)) (frame_refl _ _))) (frame_step (wr_frame _ _ _) (by decide) (frame_refl _ _))))))
      (frame_step (wr_frame _ _ _) (by decide) (frame_seq (frame_ite (frame_step (keyReload_frame _ _ _) (by decide)
      (frame_refl _ _)) (frame_refl _ _)) (frame_seq (frame_step (raiseIf_frame _ _ _ _) (by decide) (frame_refl _ _))
      (frame_seq (frame_step (sliceRestore_frame _ _) (by decide) (frame_ite (frame_step (segMiss_frame _ _ _ _) (by
      decide) (frame_refl _ _)) (frame_refl _ _))) (frame_step (wr_frame _ _ _) (by decide) (frame_refl _ _))))))))

theorem LaneSt.writeRecord_frame (L : LaneSt) :
    L.frame [.regs, .mem, .fc] (LaneSt.writeRecord L) := by
  unfold LaneSt.writeRecord
  exact (by (try dsimp only); split; exact (frame_refl _ _); exact (frame_step (wr_frame _ _ _) (by decide) (frame_step (inc_frame _ _ _) (by decide) (frame_seq (frame_step (frame_fc _ _) (by decide) (frame_refl _ _)) (frame_step (setWords_frame _ _ _) (by decide) (frame_refl _ _))))))

theorem LaneSt.unpower_frame (L : LaneSt) :
    L.frame [.regs, .snap, .mem, .shepMem, .fc, .pwr, .sys, .agr, .meas, .pos, .com, .safe, .chn, .mbx, .sec, .aux,
        .core, .flk, .can1, .can2] (LaneSt.unpower L) := by
  unfold LaneSt.unpower
  exact (frame_step (frame_fc_pwr_sys_aux _ _ _ _ _) (by decide) (frame_seq (frame_step (wr_frame _ _ _) (by decide)
      (frame_refl _ _)) (frame_step (powerDown_frame _ _ _) (by decide) (frame_refl _ _))))

theorem LaneSt.regainSupply_frame (L : LaneSt) (l : Lane) (mv : Int) :
    L.frame [.fc, .pwr, .safe] (LaneSt.regainSupply L l mv) := by
  unfold LaneSt.regainSupply
  exact (frame_step (rearmOwn_frame _ _) (by decide) (frame_step (endMask_frame _ _) (by decide) (frame_step
      (updPwr_frame _ _) (by decide) (frame_refl _ _))))

theorem LaneSt.armClock_frame (L : LaneSt) :
    L.frame [.regs, .sys] (LaneSt.armClock L) := by
  unfold LaneSt.armClock
  exact (frame_ite (frame_step (frame_sys _ _) (by decide) (frame_step (wr_frame _ _ _) (by decide) (frame_refl _ _)))
      (frame_step (frame_sys _ _) (by decide) (frame_step (clockUp_frame _) (by decide) (frame_refl _ _))))

theorem LaneSt.beginArm_frame (L : LaneSt) :
    L.frame [.regs, .sys, .meas, .pos] (LaneSt.beginArm L) := by
  unfold LaneSt.beginArm
  exact (frame_step (frame_meas_pos _ _ _) (by decide) (frame_step (armClock_frame _) (by decide) (frame_refl _ _)))

theorem LaneSt.armCopies_frame (L : LaneSt) (l : Lane) (copyOk : Tri Bool) :
    L.frame [.regs, .fc, .sys, .meas, .aux] (LaneSt.armCopies L l copyOk) := by
  unfold LaneSt.armCopies
  exact (frame_seq (frame_for3 (fun _ _ => (frame_ite (frame_refl _ _) (frame_ite (frame_step (frame_meas _ _) (by
      decide) (frame_step (put_frame _ _ _) (by decide) (frame_refl _ _))) (frame_step (copyFailed_frame _ _) (by
      decide) (frame_refl _ _))))) _) (frame_refl _ _))

theorem LaneSt.armStep_frame (L : LaneSt) (i : Nat) :
    L.frame [.sys] (LaneSt.armStep L i) := by
  unfold LaneSt.armStep
  exact (frame_step (frame_sys _ _) (by decide) (frame_refl _ _))

theorem LaneSt.storeOffsets_frame (L : LaneSt) (i : Nat) :
    L.frame [.regs, .fc, .sys, .aux] (LaneSt.storeOffsets L i) := by
  unfold LaneSt.storeOffsets
  exact (frame_step (raiseIf_frame _ _ _ _) (by decide) (frame_seq (frame_step (put_frame _ _ _) (by decide) (frame_step (put_frame _ _ _) (by decide) (frame_refl _ _))) (frame_seq (frame_foldl (fun _ _ => (by (try dsimp only); split; exact (frame_step (wrS_frame _ _ _) (by decide) (frame_refl _ _)); exact (frame_refl _ _))) _ _) (frame_refl _ _))))

theorem LaneSt.forgetLock_frame (L : LaneSt) (s : Nat) :
    L.frame [.regs, .com] (LaneSt.forgetLock L s) := by
  unfold LaneSt.forgetLock
  exact (frame_step (frame_com _ _) (by decide) (frame_step (wr_frame _ _ _) (by decide) (frame_step (put_frame _ _ _)
      (by decide) (frame_step (put_frame _ _ _) (by decide) (frame_refl _ _)))))

theorem LaneSt.enterArm_frame (L : LaneSt) :
    L.frame [.regs, .fc, .pos, .com] (LaneSt.enterArm L) := by
  unfold LaneSt.enterArm
  exact (frame_step (wr_frame _ _ _) (by decide) (frame_seq (frame_step (frame_pos _ _) (by decide) (frame_refl _ _))
      (frame_seq (frame_ite (frame_step (frame_pos _ _) (by decide) (frame_refl _ _)) (frame_refl _ _)) (frame_ite
      (frame_seq (frame_for3 (fun _ _ => (frame_step (forgetLock_frame _ _) (by decide) (frame_ite (frame_refl _ _)
      (frame_step (endMask_frame _ _) (by decide) (frame_step (put_frame _ _ _) (by decide) (frame_refl _ _)))))) _)
      (frame_refl _ _)) (frame_refl _ _)))))

theorem LaneSt.toStandby_frame (L : LaneSt) :
    L.frame [.regs, .fc, .sys, .safe] (LaneSt.toStandby L) := by
  unfold LaneSt.toStandby
  exact (frame_step (driveFaultX_frame _) (by decide) (frame_step (frame_sys_safe _ _ _) (by decide) (frame_seq
      (frame_step (wr_frame _ _ _) (by decide) (frame_refl _ _)) (frame_step (clockDown_frame _ _) (by decide)
      (frame_step (zeroClaims_frame _ _ _) (by decide) (frame_refl _ _))))))

theorem LaneSt.parkSave_frame (L : LaneSt) :
    L.frame [.mem] (LaneSt.parkSave L) := by
  unfold LaneSt.parkSave
  exact (frame_seq (frame_foldl (fun _ _ => (frame_step (setWord_frame _ _ _) (by decide) (frame_refl _ _))) _ _)
      (frame_seq (frame_foldl (fun _ _ => (frame_step (setWord_frame _ _ _) (by decide) (frame_refl _ _))) _ _)
      (frame_refl _ _)))

theorem LaneSt.toPark_frame (L : LaneSt) (l : Lane) :
    L.frame [.regs, .snap, .mem, .shepMem, .fc, .pwr, .sys, .nvm, .agr, .meas, .pos, .com, .safe, .chn, .mbx, .sec,
        .aux, .core, .flk, .can1, .can2] (LaneSt.toPark L l) := by
  unfold LaneSt.toPark
  exact (frame_step (frame_pwr_sys _ _ _) (by decide) (frame_seq (frame_step (powerDown_frame _ _ _) (by decide)
      (frame_refl _ _)) (frame_seq (frame_step (wr_frame _ _ _) (by decide) (frame_step (put_frame _ _ _) (by decide)
      (frame_step (put_frame _ _ _) (by decide) (frame_step (wr_frame _ _ _) (by decide) (frame_refl _ _)))))
      (frame_seq (frame_step (wr_frame _ _ _) (by decide) (frame_step (wr_frame _ _ _) (by decide) (frame_refl _ _)))
      (frame_seq (frame_step (parkSave_frame _) (by decide) (frame_refl _ _)) (frame_step (deferredErase_frame _ _)
      (by decide) (frame_step (toStandby_frame _) (by decide) (frame_refl _ _))))))))

theorem LaneSt.parkAux_frame (L : LaneSt) :
    L.frame [.aux] (LaneSt.parkAux L) := by
  unfold LaneSt.parkAux
  exact (frame_step (updAux_frame _ _) (by decide) (frame_refl _ _))

theorem LaneSt.done_frame (L : LaneSt) :
    L.frame [.regs] (LaneSt.done L) := by
  unfold LaneSt.done
  exact (frame_step (report_frame _ _ _ _) (by decide) (frame_step (wr_frame _ _ _) (by decide) (frame_refl _ _)))

theorem LaneSt.completeKey_frame (L : LaneSt) (l : Lane) (o : Lane) (boot : Nat) (lc : Nat) :
    L.frame [.regs, .sec] (LaneSt.completeKey L l o boot lc) := by
  unfold LaneSt.completeKey
  exact (frame_ite (frame_step (updKeys_frame _ _) (by decide) (frame_step (put_frame _ _ _) (by decide) (frame_refl _
      _))) (frame_step (updKeys_frame _ _) (by decide) (frame_step (put_frame _ _ _) (by decide) (frame_refl _ _))))

theorem LaneSt.showPorts_frame (L : LaneSt) (g : Gdn) (G : GuardianSt) :
    L.frame [.regs] (LaneSt.showPorts L g G) := by
  unfold LaneSt.showPorts
  exact (frame_step (wr_frame _ _ _) (by decide) (frame_step (wr_frame _ _ _) (by decide) (frame_step (wr_frame _ _ _)
      (by decide) (frame_step (wr_frame _ _ _) (by decide) (frame_refl _ _)))))

theorem LaneSt.alignExtensions_frame (L : LaneSt) (ext : BitVec 64) :
    L.frame [.pos] (LaneSt.alignExtensions L ext) := by
  unfold LaneSt.alignExtensions
  exact (frame_step (updPos_frame _ _) (by decide) (frame_refl _ _))

theorem LaneSt.unpackReg_frame (L : LaneSt) (i : Nat) (x : List Int) :
    L.frame [.com] (LaneSt.unpackReg L i x) := by
  unfold LaneSt.unpackReg
  exact (frame_step (updCom_frame _ _ _) (by decide) (frame_refl _ _))

theorem LaneSt.unpackObs_frame (L : LaneSt) (i : Nat) (x : List Int) :
    L.frame [.regs, .com] (LaneSt.unpackObs L i x) := by
  unfold LaneSt.unpackObs
  exact (frame_step (wr_frame _ _ _) (by decide) (frame_step (wrS_frame _ _ _) (by decide) (frame_step (wr_frame _ _
      _) (by decide) (frame_step (updCom_frame _ _ _) (by decide) (frame_refl _ _)))))

theorem LaneSt.restorePackage_frame (L : LaneSt) (p : Package) (t : Nat) :
    L.frame [.regs, .mem, .agr, .pos, .com] (LaneSt.restorePackage L p t) := by
  unfold LaneSt.restorePackage
  exact (frame_step (updAgr_frame _ _) (by decide) (frame_step (wr_frame _ _ _) (by decide) (frame_seq (frame_step
      (wr_frame _ _ _) (by decide) (frame_refl _ _)) (frame_seq (frame_seq (frame_foldl (fun _ _ => (frame_step
      (setReg_frame _ _ _) (by decide) (frame_refl _ _))) _ _) (frame_step (frame_com _ _) (by decide) (frame_refl _
      _))) (frame_seq (frame_step (setBytes_frame _ _ _) (by decide) (frame_refl _ _)) (frame_seq (frame_seq
      (frame_for3 (fun _ _ => (frame_step (unpackReg_frame _ _ _) (by decide) (frame_step (unpackObs_frame _ _ _) (by
      decide) (frame_refl _ _)))) _) (frame_refl _ _)) (frame_step (alignExtensions_frame _ _) (by decide) (frame_refl
      _ _))))))))

theorem LaneSt.checkPackages_frame (L : LaneSt) (l : Lane) (t : Nat) :
    L.frame [.regs, .mem, .fc, .sys, .agr, .pos, .com, .aux] (LaneSt.checkPackages L l t) := by
  unfold LaneSt.checkPackages
  exact (frame_ite (frame_refl _ _) (by (try dsimp only); split; exact (frame_refl _ _); exact (frame_ite (frame_step (resyncFail_frame _ _ _) (by decide) (frame_refl _ _)) (frame_ite (frame_step (resyncFail_frame _ _ _) (by decide) (frame_refl _ _)) (frame_step (restorePackage_frame _ _ _) (by decide) (frame_refl _ _))))))

theorem LaneSt.closeCycle_frame (L : LaneSt) (i : Nat) :
    L.frame [.regs, .fc, .sys, .meas, .aux] (LaneSt.closeCycle L i) := by
  unfold LaneSt.closeCycle
  exact (frame_ite (frame_refl _ _) (frame_step (raiseIf_frame _ _ _ _) (by decide) (frame_step (put_frame _ _ _) (by
      decide) (frame_seq (frame_ite (frame_refl _ _) (frame_step (inc_frame _ _ _) (by decide) (frame_refl _ _)))
      (frame_step (frame_meas _ _) (by decide) (frame_refl _ _))))))

theorem LaneSt.runStep_frame (L : LaneSt) (i : Nat) (j : Nat) (m : LineMeas) :
    L.frame [.regs, .fc, .sys, .meas, .aux] (LaneSt.runStep L i j m) := by
  unfold LaneSt.runStep
  exact (frame_ite (frame_step (frame_meas _ _) (by decide) (frame_refl _ _)) (by (try dsimp only); split; exact (frame_step (frame_meas _ _) (by decide) (frame_refl _ _)); exact (frame_ite (frame_seq (frame_step (setLine_frame _ _ _ _ _) (by decide) (frame_refl _ _)) (frame_step (frame_meas _ _) (by decide) (frame_refl _ _))) (frame_step (lineBad_frame _ _ _) (by decide) (frame_seq (frame_step (setLine_frame _ _ _ _ _) (by decide) (frame_refl _ _)) (frame_step (frame_meas _ _) (by decide) (frame_refl _ _)))))))

theorem LaneSt.owStep_frame (L : LaneSt) (i : Nat) (since : Nat) (m : LineMeas) (t : Nat) :
    L.frame [.regs, .fc, .sys, .meas, .aux] (LaneSt.owStep L i since m t) := by
  unfold LaneSt.owStep
  exact (by (try dsimp only); split; exact (frame_refl _ _); exact (frame_ite (frame_step (closeCycle_frame _ _) (by decide) (frame_seq (frame_ite (frame_step (runStep_frame _ _ _ _) (by decide) (frame_refl _ _)) (frame_refl _ _)) (frame_step (frame_meas _ _) (by decide) (frame_refl _ _)))) (frame_seq (frame_ite (frame_step (runStep_frame _ _ _ _) (by decide) (frame_refl _ _)) (frame_refl _ _)) (frame_step (frame_meas _ _) (by decide) (frame_refl _ _)))))

theorem LaneSt.gpCheck_frame (L : LaneSt) (c : Nat) (n : Nat) (v : Int) :
    L.frame [.regs, .fc, .sys, .meas, .aux] (LaneSt.gpCheck L c n v) := by
  unfold LaneSt.gpCheck
  exact (frame_ite (frame_step (raise_frame _ _ _) (by decide) (frame_seq (frame_seq (frame_forN (fun _ _ =>
      (frame_ite (frame_step (put_frame _ _ _) (by decide) (frame_refl _ _)) (frame_refl _ _))) _ _) (frame_refl _ _))
      (frame_step (frame_meas _ _) (by decide) (frame_refl _ _)))) (frame_refl _ _))

theorem LaneSt.gpStore_frame (L : LaneSt) (c : Nat) (n : Nat) (v : Int) :
    L.frame [.regs, .fc, .sys, .meas, .aux] (LaneSt.gpStore L c n v) := by
  unfold LaneSt.gpStore
  exact (frame_ite (frame_step (frame_meas _ _) (by decide) (frame_refl _ _)) (by (try dsimp only); split; exact (frame_step (frame_meas _ _) (by decide) (frame_refl _ _)); exact (frame_step (raiseIf_frame _ _ _ _) (by decide) (frame_step (put_frame _ _ _) (by decide) (frame_seq (frame_step (frame_meas _ _) (by decide) (frame_refl _ _)) (frame_step (frame_meas _ _) (by decide) (frame_refl _ _)))))))

theorem LaneSt.gpTake_frame (L : LaneSt) (c : Nat) (n : Nat) (v : Int) (ohm : Nat) :
    L.frame [.regs, .fc, .sys, .meas, .aux] (LaneSt.gpTake L c n v ohm) := by
  unfold LaneSt.gpTake
  exact (frame_ite (frame_step (gpNtc_frame _ _) (by decide) (frame_seq (frame_step (put_frame _ _ _) (by decide)
      (frame_step (wrS_frame _ _ _) (by decide) (frame_refl _ _))) (frame_seq (frame_step (frame_meas _ _) (by decide)
      (frame_refl _ _)) (frame_step (gpCheck_frame _ _ _ _) (by decide) (frame_step (gpStore_frame _ _ _ _) (by
      decide) (frame_refl _ _)))))) (frame_ite (frame_step (wrS_frame _ _ _) (by decide) (frame_seq (frame_step
      (put_frame _ _ _) (by decide) (frame_step (wrS_frame _ _ _) (by decide) (frame_refl _ _))) (frame_seq
      (frame_step (frame_meas _ _) (by decide) (frame_refl _ _)) (frame_step (gpCheck_frame _ _ _ _) (by decide)
      (frame_step (gpStore_frame _ _ _ _) (by decide) (frame_refl _ _)))))) (frame_seq (frame_step (put_frame _ _ _)
      (by decide) (frame_step (wrS_frame _ _ _) (by decide) (frame_refl _ _))) (frame_seq (frame_step (frame_meas _ _)
      (by decide) (frame_refl _ _)) (frame_step (gpCheck_frame _ _ _ _) (by decide) (frame_step (gpStore_frame _ _ _
      _) (by decide) (frame_refl _ _)))))))

theorem LaneSt.quadError_frame (L : LaneSt) :
    L.frame [.regs, .fc, .sys, .pos, .aux] (LaneSt.quadError L) := by
  unfold LaneSt.quadError
  exact (frame_ite (frame_step (raise_frame _ _ _) (by decide) (frame_step (updPos_frame _ _) (by decide) (frame_step
      (updPos_frame _ _) (by decide) (frame_step (incSat_frame _ _ _) (by decide) (frame_refl _ _))))) (frame_step
      (updPos_frame _ _) (by decide) (frame_step (incSat_frame _ _ _) (by decide) (frame_refl _ _))))

theorem LaneSt.index_frame (L : LaneSt) :
    L.frame [.regs, .fc, .sys, .pos, .aux] (LaneSt.index L) := by
  unfold LaneSt.index
  exact (frame_ite (frame_refl _ _) (frame_ite (frame_step (updPos_frame _ _) (by decide) (frame_seq (by (try dsimp only); split; exact (frame_ite (frame_step (wr_frame _ _ _) (by decide) (frame_step (wr_frame _ _ _) (by decide) (frame_refl _ _))) (frame_step (correct_frame _ _) (by decide) (frame_step (wr_frame _ _ _) (by decide) (frame_refl _ _)))); exact (frame_ite (frame_step (correct_frame _ _) (by decide) (frame_refl _ _)) (frame_step (raise_frame _ _ _) (by decide) (frame_step (wrS_frame _ _ _) (by decide) (frame_step (wr_frame _ _ _) (by decide) (frame_refl _ _))))); exact (frame_refl _ _)) (frame_step (put_frame _ _ _) (by decide) (frame_refl _ _)))) (frame_seq (by (try dsimp only); split; exact (frame_ite (frame_step (wr_frame _ _ _) (by decide) (frame_step (wr_frame _ _ _) (by decide) (frame_refl _ _))) (frame_step (correct_frame _ _) (by decide) (frame_step (wr_frame _ _ _) (by decide) (frame_refl _ _)))); exact (frame_ite (frame_step (correct_frame _ _) (by decide) (frame_refl _ _)) (frame_step (raise_frame _ _ _) (by decide) (frame_step (wrS_frame _ _ _) (by decide) (frame_step (wr_frame _ _ _) (by decide) (frame_refl _ _))))); exact (frame_refl _ _)) (frame_step (put_frame _ _ _) (by decide) (frame_refl _ _)))))

theorem LaneSt.spTake_frame (L : LaneSt) (i : Nat) (f : SpIn) (t : Nat) :
    L.frame [.regs, .fc, .sys, .pos, .aux] (LaneSt.spTake L i f t) := by
  unfold LaneSt.spTake
  exact (frame_ite (frame_step (put_frame _ _ _) (by decide) (frame_step (spStore_frame _ _ _) (by decide) (frame_step
      (setSp_frame _ _ _) (by decide) (frame_refl _ _)))) (frame_ite (frame_step (raise_frame _ _ _) (by decide)
      (frame_step (spInvalid_frame _ _) (by decide) (frame_step (inc_frame _ _ _) (by decide) (frame_step (setSp_frame
      _ _ _) (by decide) (frame_refl _ _))))) (frame_step (inc_frame _ _ _) (by decide) (frame_step (setSp_frame _ _
      _) (by decide) (frame_refl _ _)))))

theorem LaneSt.stoLine_frame (L : LaneSt) (high : Bool) (c : Nat) (t : Nat) :
    L.frame [.regs, .safe] (LaneSt.stoLine L high c t) := by
  unfold LaneSt.stoLine
  exact (frame_step (updSafe_frame _ _) (by decide) (frame_step (put_frame _ _ _) (by decide) (frame_refl _ _)))

theorem LaneSt.syncAt_frame (L : LaneSt) (f : FlockFrame) (rx : Nat) :
    L.frame [.regs, .time, .fc, .sys, .aux, .flk, .can1, .can2] (LaneSt.syncAt L f rx) := by
  unfold LaneSt.syncAt
  exact (frame_ite (frame_step (startupFault_frame _ _) (by decide) (frame_refl _ _)) (frame_ite (frame_step
      (noteNet_frame _) (by decide) (frame_refl _ _)) (frame_ite (frame_step (adoptTime_frame _ _ _ _ _) (by decide)
      (frame_refl _ _)) (frame_ite (frame_step (updKeeper_frame _ _) (by decide) (frame_refl _ _)) (frame_refl _
      _)))))

theorem LaneSt.showDevs_frame (L : LaneSt) (d : List (Nat × Int)) :
    L.frame [.regs] (LaneSt.showDevs L d) := by
  unfold LaneSt.showDevs
  exact (frame_seq (frame_forN (fun _ _ => (by (try dsimp only); split; exact (frame_step (put_frame _ _ _) (by decide) (frame_step (wrS_frame _ _ _) (by decide) (frame_step (wr_frame _ _ _) (by decide) (frame_step (wr_frame _ _ _) (by decide) (frame_refl _ _))))); exact (frame_step (setReg_frame _ _ _) (by decide) (frame_refl _ _)))) _ _) (frame_refl _ _))

theorem LaneSt.correctAt_frame (L : LaneSt) (l : Lane) (t : Nat) :
    L.frame [.regs, .fc, .sys, .aux, .flk] (LaneSt.correctAt L l t) := by
  unfold LaneSt.correctAt
  exact (frame_ite (frame_refl _ _) (by first | exact (frame_step (afterCorrect_frame _ _ _) (by decide) (frame_seq (frame_step (showDevs_frame _ _) (by decide) (frame_step (wr_frame _ _ _) (by decide) (frame_step (put_frame _ _ _) (by decide) (frame_refl _ _)))) (frame_step (wrS_frame _ _ _) (by decide) (frame_step (updKeeper_frame _ _) (by decide) (frame_refl _ _))))) | (split; exact (frame_step (afterCorrect_frame _ _ _) (by decide) (frame_seq (frame_step (showDevs_frame _ _) (by decide) (frame_step (wr_frame _ _ _) (by decide) (frame_step (put_frame _ _ _) (by decide) (frame_refl _ _)))) (frame_step (wrS_frame _ _ _) (by decide) (frame_step (updKeeper_frame _ _) (by decide) (frame_refl _ _)))))) | (dsimp only; split; exact (frame_step (afterCorrect_frame _ _ _) (by decide) (frame_seq (frame_step (showDevs_frame _ _) (by decide) (frame_step (wr_frame _ _ _) (by decide) (frame_step (put_frame _ _ _) (by decide) (frame_refl _ _)))) (frame_step (wrS_frame _ _ _) (by decide) (frame_step (updKeeper_frame _ _) (by decide) (frame_refl _ _))))))))

theorem LaneSt.coldStart_frame (L : LaneSt) (l : Lane) (t : Nat) :
    L.frame [.regs, .time, .flk] (LaneSt.coldStart L l t) := by
  unfold LaneSt.coldStart
  exact (frame_step (sendFlock_frame _ _) (by decide) (frame_step (showKeeper_frame _) (by decide) (frame_step
      (put_frame _ _ _) (by decide) (frame_step (updKeeper_frame _ _) (by decide) (frame_step (frame_time _ _) (by
      decide) (frame_refl _ _))))))

theorem LaneSt.takeFrame_frame (L : LaneSt) (f : FlockFrame) (b : Nat) :
    L.frame [.regs, .flk] (LaneSt.takeFrame L f b) := by
  unfold LaneSt.takeFrame
  exact (by (try dsimp only); split; exact (frame_ite (frame_step (inc_frame _ _ _) (by decide) (frame_refl _ _)) (frame_refl _ _)); exact (by (try dsimp only); split; exact (frame_step (updFlk_frame _ _) (by decide) (frame_refl _ _)); exact (frame_step (inc_frame _ _ _) (by decide) (frame_refl _ _))))

theorem LaneSt.transmitSync_frame (L : LaneSt) (l : Lane) (chY : Bool) (w : Nat) (m : Nat) (t : Nat) :
    L.frame [.flk] (LaneSt.transmitSync L l chY w m t) := by
  unfold LaneSt.transmitSync
  exact (frame_step (updFlk_frame _ _) (by decide) (frame_step (updKeeper_frame _ _) (by decide) (frame_refl _ _)))

theorem LaneSt.transmit_frame (L : LaneSt) (l : Lane) (chY : Bool) (w : Nat) (m : Nat) (buf : Nat) (t : Nat) (x :
    TxBuf) :
    L.frame [.regs, .flk] (LaneSt.transmit L l chY w m buf t x) := by
  unfold LaneSt.transmit
  exact (frame_ite (frame_step (inc_frame _ _ _) (by decide) (frame_seq (frame_step (setTxBuf_frame _ _ _) (by decide)
      (frame_step (put_frame _ _ _) (by decide) (frame_step (put_frame _ _ _) (by decide) (frame_refl _ _))))
      (frame_seq (frame_step (put_frame _ _ _) (by decide) (frame_step (wr_frame _ _ _) (by decide) (frame_step
      (wr_frame _ _ _) (by decide) (frame_refl _ _)))) (frame_step (updFlk_frame _ _) (by decide) (frame_refl _ _)))))
      (frame_seq (frame_step (setTxBuf_frame _ _ _) (by decide) (frame_step (put_frame _ _ _) (by decide) (frame_step
      (put_frame _ _ _) (by decide) (frame_refl _ _)))) (frame_seq (frame_step (put_frame _ _ _) (by decide)
      (frame_step (wr_frame _ _ _) (by decide) (frame_step (wr_frame _ _ _) (by decide) (frame_refl _ _))))
      (frame_step (updFlk_frame _ _) (by decide) (frame_refl _ _)))))

theorem LaneSt.takeWord_frame (L : LaneSt) (g : Gdn) (G : GuardianSt) (selfOk : Bool) :
    L.frame [.regs, .fc, .flk] (LaneSt.takeWord L g G selfOk) := by
  unfold LaneSt.takeWord
  exact (frame_ite (frame_step (endMask_frame _ _) (by decide) (frame_seq (frame_step (wr_frame _ _ _) (by decide)
      (frame_step (wr_frame _ _ _) (by decide) (frame_step (wr_frame _ _ _) (by decide) (frame_refl _ _)))) (frame_seq
      (frame_step (setGword_frame _ _ _) (by decide) (frame_refl _ _)) (frame_seq (frame_step (showPorts_frame _ _ _)
      (by decide) (frame_step (wr_frame _ _ _) (by decide) (frame_refl _ _))) (frame_step (wr_frame _ _ _) (by decide)
      (frame_step (wr_frame _ _ _) (by decide) (frame_step (wr_frame _ _ _) (by decide) (frame_refl _ _))))))))
      (frame_seq (frame_step (wr_frame _ _ _) (by decide) (frame_step (wr_frame _ _ _) (by decide) (frame_step
      (wr_frame _ _ _) (by decide) (frame_refl _ _)))) (frame_seq (frame_step (setGword_frame _ _ _) (by decide)
      (frame_refl _ _)) (frame_seq (frame_step (showPorts_frame _ _ _) (by decide) (frame_step (wr_frame _ _ _) (by
      decide) (frame_refl _ _))) (frame_step (wr_frame _ _ _) (by decide) (frame_step (wr_frame _ _ _) (by decide)
      (frame_step (wr_frame _ _ _) (by decide) (frame_refl _ _))))))))

theorem LaneSt.guardFault_frame (L : LaneSt) (g : Gdn) :
    L.frame [.regs, .fc, .sys, .aux] (LaneSt.guardFault L g) := by
  unfold LaneSt.guardFault
  exact (frame_step (raise_frame _ _ _) (by decide) (frame_step (openMask_frame _ _) (by decide) (frame_refl _ _)))

theorem LaneSt.canSegment_frame (L : LaneSt) (c : CanId) (f : CanFrame) (b : Nat) :
    L.frame [.regs, .mbx] (LaneSt.canSegment L c f b) := by
  unfold LaneSt.canSegment
  exact (by (try dsimp only); split; exact (frame_ite (frame_refl _ _) (frame_ite (frame_step (flowControl_frame _ _) (by decide) (frame_step (segment_frame _ _ _ _ _) (by decide) (frame_step (updMbx_frame _ _) (by decide) (frame_refl _ _)))) (frame_ite (by (try dsimp only); split; exact (frame_ite (frame_step (segment_frame _ _ _ _ _) (by decide) (frame_refl _ _)) (frame_refl _ _)); exact (frame_refl _ _)) (frame_refl _ _)))); exact (frame_refl _ _))

theorem LaneSt.canStore_frame (L : LaneSt) (c : CanId) (f : CanFrame) (b : Nat) :
    L.frame [.regs] (LaneSt.canStore L c f b) := by
  unfold LaneSt.canStore
  exact (frame_step (inc_frame _ _ _) (by decide) (frame_step (put_frame _ _ _) (by decide) (frame_seq (frame_ite
      (frame_step (put_frame _ _ _) (by decide) (frame_refl _ _)) (frame_refl _ _)) (frame_seq (frame_seq (frame_forN
      (fun _ _ => (frame_step (wr_frame _ _ _) (by decide) (frame_refl _ _))) _ _) (frame_refl _ _)) (frame_seq
      (frame_step (wr_frame _ _ _) (by decide) (frame_refl _ _)) (frame_step (wr_frame _ _ _) (by decide) (frame_step
      (wr_frame _ _ _) (by decide) (frame_step (put_frame _ _ _) (by decide) (frame_refl _ _)))))))))

theorem LaneSt.takeHello_frame (L : LaneSt) (l : Lane) (key : Nat) (r : Req) (a : HelloArgs) (ok : Bool) :
    L.frame [.regs, .fc, .mbx, .sec] (LaneSt.takeHello L l key r a ok) := by
  unfold LaneSt.takeHello
  exact (frame_ite (frame_step (turnAway_frame _ _ _ _ _ _ _) (by decide) (frame_refl _ _)) (frame_step (finish_frame
      _ _ _ _) (by decide) (frame_step (noteReq_frame _ _ _ _ _) (by decide) (frame_step (openSession_frame _ _ _) (by
      decide) (frame_refl _ _)))))

theorem LaneSt.issueChallenge_frame (L : LaneSt) (r : Req) (level : Nat) :
    L.frame [.regs, .mbx, .sec, .free] (L.issueChallenge r level) := by
  unfold LaneSt.issueChallenge
  exact LaneSt.frame_step (finish_frame _ _ _ _) (by decide) (frame_step (updSec_frame _ _) (by decide)
    (frame_step (put_frame _ _ _) (by decide) (frame_step (randomBytes_frame _ 8) (by decide)
      (frame_mono (closeDebug_frame L) (by decide)))))

theorem LaneSt.unlocked_frame (L : LaneSt) (l : Lane) (r : Req) (level : Nat) :
    L.frame [.regs, .mem, .nvm, .mbx, .sec] (LaneSt.unlocked L l r level) := by
  unfold LaneSt.unlocked
  exact (frame_step (finish_frame _ _ _ _) (by decide) (frame_step (tally_frame _ _ _ _ _ _) (by decide) (frame_step
      (wr_frame _ _ _) (by decide) (frame_step (put_frame _ _ _) (by decide) (frame_step (wr_frame _ _ _) (by decide)
      (frame_step (dropChallenge_frame _) (by decide) (frame_refl _ _)))))))

theorem LaneSt.dropTap_frame (L : LaneSt) (m : Nat) :
    L.frame [.regs, .mbx] (LaneSt.dropTap L m) := by
  unfold LaneSt.dropTap
  exact (frame_step (updMbx_frame _ _) (by decide) (frame_seq (frame_foldl (fun _ _ => (frame_step (endTap_frame _ _)
      (by decide) (frame_refl _ _))) _ _) (frame_refl _ _)))

theorem LaneSt.afterStep_frame (L : LaneSt) :
    L.frame [.regs, .fc, .sys, .aux] (LaneSt.afterStep L) := by
  unfold LaneSt.afterStep
  exact (frame_ite (frame_step (rest_frame _ _) (by decide) (frame_refl _ _)) (frame_ite (frame_step (rest_frame _ _)
      (by decide) (frame_refl _ _)) (frame_ite (frame_step (homeFail_frame _) (by decide) (frame_refl _ _))
      (frame_refl _ _))))

theorem LaneSt.countLimit_frame (L : LaneSt) (sw : Nat) (t : Nat) :
    L.frame [.regs, .fc, .sys, .aux] (LaneSt.countLimit L sw t) := by
  unfold LaneSt.countLimit
  exact (frame_ite (frame_step (raise_frame _ _ _) (by decide) (frame_step (inc_frame _ _ _) (by decide) (frame_step
      (updAux_frame _ _) (by decide) (frame_refl _ _)))) (frame_step (updAux_frame _ _) (by decide) (frame_refl _ _)))

theorem LaneSt.logViol_frame (L : LaneSt) (c : CanId) (kind : Nat) :
    L.frame [.fc, .can1, .can2] (LaneSt.logViol L c kind) := by
  unfold LaneSt.logViol
  exact (frame_ite (frame_refl _ _) (frame_step (updCan_frame _ _ _) (by decide) (frame_step (frame_fc _ _) (by
      decide) (frame_refl _ _))))

end Sys2Proof.Machine
end

