-- ==== Sys2Proof/Laws/Flags.lean ====
section
/-! SUPPORT. Laws of the fault collector: which registers a source's assertion can change, and that it is counted. -/
namespace Sys2Proof.Machine

/-! ## Which registers change -/

theorem LaneSt.keepsRegs_refl (rs : List Nat) (L : LaneSt) : L.keepsRegs rs L := fun _ _ => rfl

theorem LaneSt.keepsRegs_trans {rs : List Nat} {L M N : LaneSt} (h : M.keepsRegs rs N) (h1 : L.keepsRegs rs M) : L.keepsRegs rs N :=
  fun a ha => (h a ha).trans (h1 a ha)

/-- An update that leaves the registers alone. -/
theorem LaneSt.keepsRegs_of_regs {rs : List Nat} {L M N : LaneSt} (h : N.regs = M.regs) (h1 : L.keepsRegs rs M) : L.keepsRegs rs N := by
  intro a ha
  rw [← h1 a ha, LaneSt.reg, LaneSt.reg, h]

theorem LaneSt.keepsRegs_setReg {rs : List Nat} {L M : LaneSt} {b : Nat} {v : Word} (hb : covered rs b = true)
    (h1 : L.keepsRegs rs M) : L.keepsRegs rs (M.setReg b v) := by
  intro a ha
  rw [LaneSt.reg_setReg_ne _ _ _ _ (by intro h; subst h; simp [ha] at hb)]
  exact h1 a ha

theorem LaneSt.keepsRegs_wr {rs : List Nat} {L M : LaneSt} {f : Fld} {v : Nat} (hb : covered rs f.addr = true)
    (h1 : L.keepsRegs rs M) : L.keepsRegs rs (M.wr f v) := LaneSt.keepsRegs_setReg hb h1

theorem LaneSt.keepsRegs_ite {rs : List Nat} {c : Prop} [Decidable c] {L M N : LaneSt} (h : L.keepsRegs rs M) (h' : L.keepsRegs rs N) :
    L.keepsRegs rs (if c then M else N) := by
  split <;> assumption

/-- A field of a register that keeps its word reads as before. -/
theorem LaneSt.rd_of_keepsRegs {rs : List Nat} {L M : LaneSt} (h : L.keepsRegs rs M) (f : Fld) (hf : covered rs f.addr = false) :
    M.rd f = L.rd f := by
  rw [LaneSt.rd, LaneSt.rd, h _ hf]

/-- A register of the block `b`. -/
theorem covered_block {rs : List Nat} {a b : Nat} (h : a / 65536 = b) (hl : b < 65536) (hb : rs.contains b = true) :
    covered rs a = true := by
  rw [covered, List.any_eq_true]
  exact ⟨b, by simpa using hb, by simp [hl, h]⟩

/-- Registers named one by one, or by their blocks, in a wider list. -/
theorem covered_mono {rs ss : List Nat} (hs : (rs.all fun r => ss.contains r || (decide (65536 ≤ r) && covered ss r)) = true) {a : Nat}
    (h : covered ss a = false) : covered rs a = false := by
  rw [covered, List.any_eq_false] at h ⊢
  intro r hr
  have hr' := List.all_eq_true.mp hs r hr
  rw [Bool.or_eq_true] at hr'
  rcases hr' with hr' | hr'
  · exact h r (by simpa using hr')
  · rw [Bool.and_eq_true, decide_eq_true_eq] at hr'
    intro hx
    rw [if_neg (by omega)] at hx
    have : a = r := by simpa using hx
    subst this
    have hc := hr'.2
    rw [covered, List.any_eq_true] at hc
    obtain ⟨x, hx1, hx2⟩ := hc
    exact h x hx1 hx2

theorem LaneSt.keepsRegs_mono {rs ss : List Nat} {L M : LaneSt} (h : L.keepsRegs rs M)
    (hs : (rs.all fun r => ss.contains r || (decide (65536 ≤ r) && covered ss r)) = true) : L.keepsRegs ss M :=
  fun a ha => h a (covered_mono hs ha)

theorem LaneSt.zeroClaims_regs (L : LaneSt) (m why : Nat) : L.keepsRegs [0x40030004] (L.zeroClaims m why) := by
  have h : ∀ (i : Nat) (M : LaneSt), M.keepsRegs [0x40030004] (if bitN m i then M.wr (Reg.CLAIM_OF i) 0 else M) := fun i M =>
    keepsRegs_ite (keepsRegs_wr (f := Reg.CLAIM_OF i) (show covered [0x40030004] 0x40030004 = true by decide) (keepsRegs_refl _ _))
      (keepsRegs_refl _ _)
  exact keepsRegs_wr (by decide) (keepsRegs_trans (h 2 _) (keepsRegs_trans (h 1 _) (h 0 _)))

theorem LaneSt.driveCoils_regs (L : LaneSt) (cur : Int) : L.keepsRegs [] (L.driveCoils cur) :=
  keepsRegs_of_regs rfl (keepsRegs_refl _ L)

theorem LaneSt.holdCoils_regs (L : LaneSt) : L.keepsRegs [0x400C0048] L.holdCoils :=
  keepsRegs_trans (keepsRegs_mono (LaneSt.driveCoils_regs _ _) (by decide)) (keepsRegs_wr (by decide) (keepsRegs_refl _ _))

theorem LaneSt.auxAbort_regs (L : LaneSt) (hold : Bool) : L.keepsRegs [0x400C0048, 0x400C0050] (L.auxAbort hold) := by
  unfold LaneSt.auxAbort
  extract_lets run A B _ C
  have hA : L.keepsRegs [0x400C0048, 0x400C0050] A := keepsRegs_wr (by decide) (keepsRegs_wr (by decide) (keepsRegs_refl _ _))
  have hB : L.keepsRegs [0x400C0048, 0x400C0050] B :=
    keepsRegs_ite hA (keepsRegs_trans (keepsRegs_mono A.holdCoils_regs (by decide)) hA)
  have hC : L.keepsRegs [0x400C0048, 0x400C0050] C := keepsRegs_wr (by decide) (keepsRegs_wr (by decide) (keepsRegs_wr (by decide) hA))
  exact keepsRegs_ite (keepsRegs_of_regs (M := B) rfl hB) (keepsRegs_of_regs (M := C) rfl hC)

theorem LaneSt.queueRecord_regs (L : LaneSt) (id d r : Nat) : L.keepsRegs [0x40010020] (L.queueRecord id d r) := by
  unfold LaneSt.queueRecord
  exact keepsRegs_ite (keepsRegs_wr (by decide) (keepsRegs_of_regs rfl (keepsRegs_refl _ L)))
    (keepsRegs_wr (by decide) (keepsRegs_refl _ _))

/-- What a reaction changes. -/
theorem LaneSt.react_regs (L : LaneSt) (id d r : Nat) :
    L.keepsRegs [0x40010020, 0x40030004, 0x400C0048, 0x400C0050] (L.react id d r) := by
  have h2 : ∀ M : LaneSt, M.keepsRegs [0x40010020, 0x40030004, 0x400C0048, 0x400C0050] (M.reactL2 id d) := by
    intro M
    unfold LaneSt.reactL2
    refine keepsRegs_ite ?_ (keepsRegs_refl _ _)
    exact keepsRegs_of_regs rfl (keepsRegs_mono (M.zeroClaims_regs _ 5) (by decide))
  have h3 : ∀ M : LaneSt, M.keepsRegs [0x40010020, 0x40030004, 0x400C0048, 0x400C0050] (M.reactL3 id) := by
    intro M
    unfold LaneSt.reactL3
    exact keepsRegs_of_regs (M := (M.zeroClaims 7 5).auxAbort true) rfl (keepsRegs_trans (keepsRegs_mono (LaneSt.auxAbort_regs _ true) (by decide))
      (keepsRegs_mono (M.zeroClaims_regs 7 5) (by decide)))
  unfold LaneSt.react
  extract_lets x1 A B C D
  have hA : L.keepsRegs [0x40010020, 0x40030004, 0x400C0048, 0x400C0050] A := keepsRegs_of_regs rfl (keepsRegs_refl _ L)
  have hB : L.keepsRegs _ B := keepsRegs_ite (keepsRegs_trans (h2 _) hA) hA
  have hC : L.keepsRegs _ C := keepsRegs_ite (keepsRegs_trans (h3 _) hB) hB
  have hD : L.keepsRegs _ D := keepsRegs_ite (keepsRegs_of_regs rfl hC) hC
  exact keepsRegs_ite (keepsRegs_trans (keepsRegs_mono (LaneSt.queueRecord_regs _ _ _ _) (by decide)) hD) hD

theorem LaneSt.latchFirst_regs (L : LaneSt) (id d r : Nat) :
    L.keepsRegs [0x40010000, 0x40010004, 0x40010008, 0x4001000C] (L.latchFirst id d r) := by
  unfold LaneSt.latchFirst
  exact keepsRegs_ite (keepsRegs_wr (by decide) (keepsRegs_refl _ _))
    (keepsRegs_wr (by decide) (keepsRegs_wr (by decide) (keepsRegs_wr (by decide) (keepsRegs_wr (by decide)
      (keepsRegs_wr (by decide) (keepsRegs_wr (by decide) (keepsRegs_refl _ _)))))))

/-- The class's registers lie in the collector's block. -/
theorem fcCnt_covered {rs : List Nat} {c : Nat} (h : c < 256) (hb : rs.contains 0x4001 = true) :
    covered rs (0x40010000 + (0x40 + 4 * c)) = true := covered_block (b := 0x4001) (by omega) (by decide) hb

theorem LaneSt.openClass_regs (L : LaneSt) (c r : Nat) (h : c < 256) : L.keepsRegs [0x4001] (L.openClass c r) := by
  have hb : ([0x4001] : List Nat).contains 0x4001 = true := by decide
  unfold LaneSt.openClass
  have h0 : covered [0x4001] 0x40010000 = true := by decide
  exact keepsRegs_wr h0 (keepsRegs_wr (fcCnt_covered h hb) (keepsRegs_wr h0 (keepsRegs_refl _ _)))

theorem LaneSt.raiseAt_regs (L : LaneSt) (id d lv : Nat) (h : id < 65536) : L.keepsRegs faultRegs (L.raiseAt id d lv) := by
  have hc : id / 256 < 256 := by omega
  have h0 : L.keepsRegs faultRegs (L.incSat (Reg.FC_CNT_COUNT (id / 256))) :=
    keepsRegs_wr (fcCnt_covered hc (by decide)) (keepsRegs_refl _ _)
  have hl : ∀ (M : LaneSt) (r : Nat), M.keepsRegs faultRegs (M.latchFirst id d r) := fun M r =>
    keepsRegs_mono (M.latchFirst_regs id d r) (by decide)
  have ho : ∀ (M : LaneSt) (r : Nat), M.keepsRegs faultRegs (M.openClass (id / 256) r) := fun M r =>
    keepsRegs_mono (M.openClass_regs _ r hc) (by decide)
  have hr : ∀ (M : LaneSt) (r : Nat), M.keepsRegs faultRegs (M.react id d r) := fun M r =>
    keepsRegs_mono (M.react_regs id d r) (by decide)
  unfold LaneSt.raiseAt
  refine keepsRegs_ite h0 ?_
  split
  exact keepsRegs_ite (keepsRegs_trans (hr _ _) (keepsRegs_trans (ho _ _) (keepsRegs_trans (hl _ _) h0)))
    (keepsRegs_trans (hl _ _) h0)

/-- A source's assertion changes no register but the collector's, CLM_PRESENT, AUX_STAT and AUX_VEL. -/
theorem LaneSt.assert_regs (L : LaneSt) (id d : Nat) (h : id < 65536) : L.keepsRegs faultRegs (L.assert id d) := by
  unfold LaneSt.assert
  exact keepsRegs_ite (keepsRegs_wr (fcCnt_covered (by omega) (by decide)) (keepsRegs_refl _ _)) (L.raiseAt_regs _ _ _ h)

theorem LaneSt.raise_regs (L : LaneSt) (id d : Nat) (h : id < 65536) : L.keepsRegs faultRegs (L.raise id d) := by
  unfold LaneSt.raise
  exact keepsRegs_ite (keepsRegs_refl _ _) (L.assert_regs _ _ h)

theorem LaneSt.raiseIf_regs (L : LaneSt) (b : Bool) (id d : Nat) (h : id < 65536) : L.keepsRegs faultRegs (L.raiseIf b id d) := by
  unfold LaneSt.raiseIf
  exact keepsRegs_ite (L.raise_regs id d h) (keepsRegs_refl _ _)

/-! ## That it is counted -/

theorem LaneSt.raiseAt_count (L : LaneSt) (id d lv : Nat) (h : id < 65536) :
    (L.raiseAt id d lv).rd (Reg.FC_CNT_COUNT (id / 256)) = min (L.rd (Reg.FC_CNT_COUNT (id / 256)) + 1) 4095 := by
  have hc : id / 256 < 256 := by omega
  generalize hcc : id / 256 = c at *
  have h0 : (L.incSat (Reg.FC_CNT_COUNT c)).rd (Reg.FC_CNT_COUNT c) = min (L.rd (Reg.FC_CNT_COUNT c) + 1) 4095 := by
    rw [LaneSt.incSat, LaneSt.rd_wr_self _ _ _ (by simp)]
    change min (L.rd (Reg.FC_CNT_COUNT c) + 1) (2 ^ 12 - 1) % 2 ^ 12 = _
    omega
  have hl : ∀ (M : LaneSt) (r : Nat), (M.latchFirst id d r).rd (Reg.FC_CNT_COUNT c) = M.rd (Reg.FC_CNT_COUNT c) := fun M r =>
    LaneSt.rd_of_keepsRegs (M.latchFirst_regs id d r) _ (by
      simp only [covered, List.any_eq_false, List.mem_cons, List.not_mem_nil, or_false]
      rintro x (rfl | rfl | rfl | rfl) <;> simp <;> omega)
  have ho : ∀ (M : LaneSt) (r : Nat), (M.openClass c r).rd (Reg.FC_CNT_COUNT c) = M.rd (Reg.FC_CNT_COUNT c) := by
    intro M r
    unfold LaneSt.openClass LaneSt.put
    rw [LaneSt.rd_wr_apart _ _ _ _ (by simp), LaneSt.rd_wr_apart _ _ _ _ (by simp), LaneSt.rd_wr_apart _ _ _ _ (by simp)]
  have hr : ∀ (M : LaneSt) (r : Nat), (M.react id d r).rd (Reg.FC_CNT_COUNT c) = M.rd (Reg.FC_CNT_COUNT c) := fun M r =>
    LaneSt.rd_of_keepsRegs (M.react_regs id d r) _ (by
      simp only [covered, List.any_eq_false, List.mem_cons, List.not_mem_nil, or_false]
      rintro x (rfl | rfl | rfl | rfl) <;> simp <;> omega)
  unfold LaneSt.raiseAt
  rw [hcc]
  dsimp only
  split
  · exact h0
  · split
    · rw [hr, ho, hl, h0]
    · rw [hl, h0]

/-- A source's assertion is counted (R298), unless its line has failed (R290). -/
theorem LaneSt.raise_reported (L : LaneSt) (id d : Nat) (h : id < 65536) : L.reported (L.raise id d) id d := by
  unfold LaneSt.reported LaneSt.raise
  split
  · rfl
  · unfold LaneSt.assert
    split
    · rw [LaneSt.incSat, LaneSt.rd_wr_self _ _ _ (by simp)]
      change min (L.rd (Reg.FC_CNT_CONSEQ (id / 256)) + 1) (2 ^ 12 - 1) % 2 ^ 12 = _
      omega
    · exact L.raiseAt_count id _ _ h

end Sys2Proof.Machine
end

