-- ==== Sys2Proof/Laws/Runs.lean ====
section
/-! SUPPORT. That a command runs, from the operation of the module it is: on one lane, one stage or one guardian. -/
namespace Sys2Proof.Machine

/-- A change of one lane leaves the rest of the module alone. -/
theorem sameButLane_updLane (s : State) (l : Lane) (f : LaneSt → LaneSt) : sameButLane l s (s.updLane l f) :=
  ⟨fun o h => s.lane_updLane_ne l o f h, rfl, rfl, rfl, rfl⟩

/-- A change of one stage leaves the rest of the module alone. -/
theorem sameButStage_updStage (s : State) (g : Stg) (f : StageSt → StageSt) : sameButStage g s (s.updStage g f) :=
  ⟨fun o h => s.stage_updStage_ne g o f h, rfl, rfl, rfl, rfl⟩

theorem laneRuns_updLane {c : Instr} {s : State} {l : Lane} {f : LaneSt → LaneSt} {P : LaneSt → Prop}
    (h : exec c s = .next (s.updLane l f)) (hp : P (f (s.lane l))) : LaneRuns c s l P :=
  ⟨_, h, sameButLane_updLane s l f, by rw [State.lane_updLane_self]; exact hp⟩

/-- A command on a powered lane, at its time. -/
theorem laneRuns_onLane {c : Instr} {s : State} {l : Lane} {t : Nat} {f : LaneSt → LaneSt} {P : LaneSt → Prop}
    (h : exec c s = onLane l t s f) (hu : (s.lane l).up = true) (hp : P (f ((s.lane l).tick t))) : LaneRuns c s l P :=
  laneRuns_updLane (f := fun L => if L.up then f (L.tick t) else L) h (by simpa [hu] using hp)

/-- A command on a powered lane that carries no time. -/
theorem laneRuns_onLaneNow {c : Instr} {s : State} {l : Lane} {f : LaneSt → LaneSt} {P : LaneSt → Prop}
    (h : exec c s = onLaneNow l s f) (hu : (s.lane l).up = true) (hp : P (f (s.lane l))) : LaneRuns c s l P :=
  laneRuns_updLane (f := fun L => if L.up then f L else L) h (by simpa [hu] using hp)

/-- A command on a stage. -/
theorem stageRuns_updStage {c : Instr} {s : State} {g : Stg} {f : StageSt → StageSt} {P : StageSt → Prop}
    (h : exec c s = .next (s.updStage g f)) (hp : P (f (s.stage g))) : StageRuns c s g P :=
  ⟨_, h, sameButStage_updStage s g f, by rw [State.stage_updStage_self]; exact hp⟩

end Sys2Proof.Machine
end

