-- ==== Sys2Proof/WellFormed.lean ====
section
/-! DEFINITION. The checks on a command's operands: each lies in the range that the spec's encoding of it has (a register number,
a frame field, a buffer number). The meanings are total and do not rely on them. -/
namespace Sys2Proof

/-- Integer registers have 5-bit numbers; instructions are 2 or 4 bytes long (R112). -/
def lenOk (n : Nat) : Bool := n == 2 || n == 4
def regOk (n : Nat) : Bool := decide (n < 32)

/-- A core instruction's register numbers, CSR number and length. -/
def CoreInstr.wf : CoreInstr → Bool
  | .alu _ d a b n => regOk d && regOk a && regOk b && lenOk n
  | .aluImm _ d a _ n => regOk d && regOk a && lenOk n
  | .lui d _ n => regOk d && lenOk n
  | .auipc d _ n => regOk d && lenOk n
  | .jal d _ n => regOk d && lenOk n
  | .jalr d a _ n => regOk d && regOk a && lenOk n
  | .branch _ a b _ n => regOk a && regOk b && lenOk n
  | .muldiv _ d a b n => regOk d && regOk a && regOk b && lenOk n
  | .fpu _ rm d a b c n => decide (rm < 8) && regOk d && regOk a && regOk b && regOk c && lenOk n
  | .fmvToInt d a n => regOk d && regOk a && lenOk n
  | .fmvFromInt d a n => regOk d && regOk a && lenOk n
  | .load _ _ d a _ n => regOk d && regOk a && lenOk n
  | .loadF d a _ n => regOk d && regOk a && lenOk n
  | .store _ a b _ n => regOk a && regOk b && lenOk n
  | .storeF a b _ n => regOk a && regOk b && lenOk n
  | .lr d a n => regOk d && regOk a && lenOk n
  | .sc d a b n => regOk d && regOk a && regOk b && lenOk n
  | .amo _ d a b n => regOk d && regOk a && regOk b && lenOk n
  | .csr _ d num a n => regOk d && decide (num < 4096) && decide (a < 64) && lenOk n
  | .mret n => lenOk n
  | .fence n => lenOk n
  | .ecall => true
  | .ebreak => true

/-- A register named by a debug command (R137). -/
def DbgReg.wf : DbgReg → Bool
  | .x n => regOk n
  | .f n => regOk n
  | .csr n => decide (n < 4096)
  | .dpc => true
  | .abstractcs => true
  | .sbcs => true

/-- An agreement message (R142): 48 fields, slot 0 to 4, cycle modulo 32. -/
def AgrMsg.wf (m : AgrMsg) : Bool :=
  decide (m.version < 256) && decide (m.cyc < 32) && decide (m.slot < 5) && decide (m.fields.length = 48)

/-- An edge of a gate command has 16 bits (R163). -/
def Edges.wf (e : Edges) : Bool := decide (e.lon < 65536) && decide (e.loff < 65536)

/-- A cross-strap frame (R163). -/
def XFrame.wf (f : XFrame) : Bool :=
  decide (f.seq < 16) && decide (f.claim < 8) && f.cmd.a.wf && f.cmd.b.wf && f.cmd.c.wf

/-- A resync package (R156): application section and learned corrections within their sections. -/
def Package.wf (p : Package) : Bool := decide (p.app.length ≤ 10240) && decide (p.learned.length ≤ 1024)

/-- A Flock frame (R331). -/
def FlockFrame.wf (f : FlockFrame) : Bool :=
  decide (f.version < 16) && decide (f.typ < 16) && decide (f.sender < 256) && decide (f.hops < 16) &&
  decide (f.window < 64) && decide (f.matrix < 64) && decide (f.corr < 4294967296) && decide (f.priority < 65536) &&
  decide (f.seq < 65536) && decide (f.payload.length ≤ 1024)

/-- A CAN frame (R374): identifier of 11 or 29 bits, at most 64 bytes. -/
def CanFrame.wf (f : CanFrame) : Bool :=
  decide (f.id < (if f.ide then 0x20000000 else 0x800)) && decide (f.data.length ≤ 16)

/-- A request's header (R389). -/
def Req.wf (r : Req) : Bool := decide (r.mbox < 128) && decide (r.length < 65536)

/-- An image's values are at word addresses; a firmware digest has eight words (R97, R402). -/
def ImgFacts.wf (f : ImgFacts) : Bool := f.regs.all fun e => decide (e.1 < 4294967296) && e.1 % 4 == 0
def FwFacts.wf (f : FwFacts) : Bool := decide (f.digest.length = 8)
def BootFacts.wf (f : BootFacts) : Bool :=
  f.slot0.all ImgFacts.wf && f.slot1.all ImgFacts.wf && decide (f.tmrAngle < 65536) && decide (f.cal.length ≤ 24) && decide (f.retList.length ≤ 384)

/-- Satellites 1 to 4 (R365). -/
def satOk (n : Nat) : Bool := decide (1 ≤ n) && decide (n ≤ 4)
def Src.wf : Src → Bool
  | .lane _ => true
  | .sat n => satOk n
def Egress.wf : Egress → Bool
  | .port _ => true
  | .lane _ => true
  | .sat n => satOk n

/-- Operands in range, per command. -/
def Instr.wf : Instr → Bool
  | .registerWrite _ addr _ _ => decide (addr < 4294967296) && addr % 4 == 0
  | .checkedInstruction _ _ i _ _ => i.wf
  | .interruptTaken _ _ cause => decide (cause < 2147483648)
  | .coreResetAfterRecord _ => true
  | .debugHaltRequest _ => true
  | .debugRegisterWrite _ r _ => r.wf
  | .debugResume _ => true
  | .debugSingleStep _ i => i.wf
  | .systemBusAccess _ addr _ => decide (addr < 4294967296) && addr % 4 == 0
  | .pwmPeriodStart _ _ => true
  | .crossStrapFrame _ _ f _ _ _ _ => f.all XFrame.wf
  | .slotStart _ _ => true
  | .agreementMessage _ _ m _ _ => m.wf
  | .subround2Relay _ => true
  | .voteComplete _ => true
  | .commit _ _ => true
  | .commandDeadline _ => true
  | .catchupFrame _ m => m.wf
  | .basicCycleStart _ _ => true
  | .grazeSpectrum _ => true
  | .churnSlice _ part seg _ _ _ _ _ _ => decide (part < 8) && decide (seg < 640)
  | .zeroiseTimeout _ seg _ => decide (seg < 50)
  | .spareUnitHandover _ part _ => part == 2 || part == 3
  | .stageCopySwap _ _ _ => true
  | .churnCoverageOverdue _ _ => true
  | .groundLoss _ _ _ _ => true
  | .supplyLoss _ _ _ => true
  | .supplyLossTimeout _ _ => true
  | .supplyReturn _ _ _ _ _ => true
  | .parkSupplyLoss _ _ _ => true
  | .holdupExhausted _ _ => true
  | .undervoltageWarning _ _ _ _ => true
  | .supplyOvervoltage _ _ _ => true
  | .overvoltageRecovery _ _ _ _ => true
  | .sensorSupplyFault _ _ _ _ => true
  | .guardianPowerLoss _ => true
  | .foldEntry _ _ _ => true
  | .sysReq _ _ _ => true
  | .armSequence _ _ => true
  | .biasSettled _ _ => true
  | .armSelftestComplete _ _ _ _ _ _ => true
  | .openWireTestComplete _ _ _ => true
  | .offsetCalibrationComplete _ _ => true
  | .armComplete _ _ => true
  | .handshakeDelayExceeded _ block _ => decide (block < 16)
  | .transitionTimeout _ _ => true
  | .transitionExecute _ _ => true
  | .thermalClockDown _ _ _ => true
  | .thermalClockUp _ _ _ => true
  | .wakeSource _ src _ _ _ _ => decide (src < 6)
  | .siblingWake _ _ _ => true
  | .regulatorReady _ _ _ _ => true
  | .regulatorRetry _ _ => true
  | .crystalFallback _ _ _ => true
  | .wakeComplete _ f _ => f.wf
  | .sleepSignal _ _ => true
  | .coldBoot _ _ f _ => f.wf
  | .romRecoveryLoad _ f _ => f.wf
  | .versionExchange _ _ _ _ _ _ _ _ _ => true
  | .sessionTimeout _ _ => true
  | .ringNegotiation _ _ _ _ => true
  | .linkRetry _ e _ => e.wf
  | .satelliteHello _ n _ _ _ _ _ => satOk n
  | .satelliteLost _ n => satOk n
  | .spPsi5Phase _ _ => true
  | .resyncPoint _ _ => true
  | .resyncPackage _ _ p _ _ _ => p.wf
  | .resyncPackageTimeout _ _ => true
  | .catchupComplete _ _ => true
  | .shadowingEnd _ _ => true
  | .resyncRetry _ _ => true
  | .statusFrame _ _ _ => true
  | .windowClose _ _ _ => true
  | .openWireCycleStart _ _ => true
  | .openWireStep _ _ _ _ => true
  | .gpConversionComplete _ conv _ _ _ => decide (conv < 2)
  | .encoderEdge _ _ _ _ _ => true
  | .indexEdge _ _ _ _ _ _ => true
  | .hallTransition _ pattern _ _ => decide (pattern < 8)
  | .encoderSignalLoss _ _ _ _ => true
  | .encoderSignalRestored _ _ _ => true
  | .tmrSample _ _ _ _ => true
  | .standstillTimeout _ _ _ => true
  | .posSnap _ _ => true
  | .extensionSnapshot _ => true
  | .reref _ _ => true
  | .calRevolution _ => true
  | .calApply _ => true
  | .spFrame _ port _ _ => decide (port < 2)
  | .spTimeout _ port _ _ => decide (port < 2)
  | .ssiTransaction _ _ _ _ => true
  | .commutationPeriod _ _ _ _ => true
  | .peakLimitEngage _ _ _ => true
  | .peakLimitLift _ _ _ => true
  | .observerFloat _ _ _ => true
  | .bemfCaptureStart _ _ _ => true
  | .bemfZeroCrossing _ _ _ _ => true
  | .reacqTimeout _ _ _ => true
  | .flyingStartTimeout _ _ _ => true
  | .learningRunStart _ _ => true
  | .learningApply _ => true
  | .energise _ _ _ => true
  | .prechargeComplete _ _ _ _ => true
  | .isolationSwitchesOn _ _ => true
  | .bootstrapsCharged _ _ => true
  | .gateDroop _ _ _ => true
  | .deEnergise _ => true
  | .desaturation _ _ _ _ _ => true
  | .shuntOvercurrent _ _ _ => true
  | .shootThroughCommand _ _ _ => true
  | .gateSupplyUndervoltage _ _ _ => true
  | .clampEngage _ _ => true
  | .clampRelease _ _ => true
  | .enRisingEdge _ _ _ _ => true
  | .stgRearm _ _ _ => true
  | .enPulseEnd _ _ _ => true
  | .phaseIsolate _ _ _ => true
  | .isolationTimeout _ _ _ => true
  | .stoLatchSet _ _ _ => true
  | .stoTestPulse _ _ _ => true
  | .safeReqSto _ _ _ => true
  | .safeReqSs1 _ _ _ => true
  | .safeReqClr _ _ _ => true
  | .ss1Standstill _ _ => true
  | .ss1Timeout _ _ => true
  | .safeAckEdge _ _ _ => true
  | .safeAckQualified _ _ _ _ => true
  | .resetPendingExpiry _ _ => true
  | .faultRaise _ _ _ _ => true
  | .lineFault _ _ _ _ => true
  | .siblingLineChange _ _ pattern _ => decide (pattern < 4)
  | .laneSilent _ _ => true
  | .acknowledgeClass _ _ _ => true
  | .rearm _ _ => true
  | .faultRecordWritten _ _ => true
  | .maskClose _ _ => true
  | .faultInject _ _ _ _ => true
  | .thermalRejoin _ _ _ _ => true
  | .laneThermalTrip _ _ _ _ => true
  | .stageThermalTrip _ _ _ => true
  | .windingThermalTrip _ _ _ => true
  | .clockFault _ kind _ _ _ => decide (kind < 5)
  | .syncFrame _ f _ => f.wf
  | .offsetCorrection _ _ => true
  | .rateCorrection _ _ => true
  | .passiveTimeout _ => true
  | .listenTimeout _ _ => true
  | .coldstartFrame _ f _ => f.wf
  | .localSyncSend _ _ => true
  | .localSyncFrame _ f _ => f.wf
  | .startupTimeout _ _ => true
  | .startupComplete _ _ => true
  | .cyclePoint _ p _ => decide (p < 16)
  | .cpiAck _ _ => true
  | .flockFrameReceive _ f => f.wf
  | .txPost _ buf len _ => decide (buf < 32) && decide (len ≤ 1024)
  | .flockTransmit _ _ w m buf _ => decide (w < 48) && decide (m < 64) && decide (buf < 32)
  | .skimEncode _ stream => decide (stream < 4)
  | .guardianRingFrame _ _ f _ _ => f.wf
  | .portUnblock _ _ _ => true
  | .guardianLocalFrame _ src f _ _ => src.wf && f.wf
  | .windowEndCutoff _ src w m _ => src.wf && decide (w < 48) && decide (m < 64)
  | .sourceUnblock _ src _ => src.wf
  | .portBroken _ _ _ _ => true
  | .loopEstablished _ _ _ => true
  | .loopRelease _ _ _ => true
  | .pdelayRequest _ _ => true
  | .pdelayFrame _ _ f _ => f.wf
  | .arbWindowEnd _ w m => decide (w < 48) && decide (m < 64)
  | .arbEgressSend _ e _ => e.wf
  | .muteFrame _ f _ => f.wf
  | .muteStart _ _ => true
  | .muteExpiry _ _ => true
  | .ringWake _ _ _ => true
  | .guardianStatusWord _ _ _ _ _ _ => true
  | .canFrameReceive _ _ f => f.wf
  | .rateDetect _ _ _ _ => true
  | .rateDetectTimeout _ _ _ => true
  | .canRxRelease _ _ buf _ => decide (buf < 128)
  | .canTxRequest _ _ buf => decide (buf < 128)
  | .canTxAbort _ _ buf _ => decide (buf < 128)
  | .canTxDone _ _ _ => true
  | .silenceRequest _ _ _ _ _ _ _ => true
  | .silenceExpiry _ _ _ => true
  | .busDominant _ _ _ _ => true
  | .busRecessiveResume _ _ _ => true
  | .busOff _ _ _ => true
  | .recover _ _ _ => true
  | .busOffRecovery _ _ _ => true
  | .segmentTimeout _ _ _ => true
  | .confirmTimeout _ _ => true
  | .quarantineEnd _ _ _ => true
  | .hello _ r _ _ => r.wf
  | .getId _ r _ => r.wf
  | .attest _ r _ _ _ => r.wf
  | .getKey _ r _ => r.wf
  | .getState _ r _ => r.wf
  | .reqState _ r _ _ => r.wf
  | .safeStop _ r _ _ _ => r.wf
  | .resetArm _ r _ => r.wf
  | .resetConfirm _ r _ _ _ => r.wf
  | .imgBegin _ r _ _ => r.wf
  | .imgWrite _ r _ _ _ => r.wf
  | .imgVerify _ r f _ => r.wf && f.wf
  | .imgCommit _ r digest _ _ => r.wf && decide (digest.length = 8)
  | .cfgRead _ r _ _ _ _ => r.wf
  | .learnStart _ r _ _ => r.wf
  | .calRead _ r _ _ _ => r.wf
  | .calSave _ r _ => r.wf
  | .fcRead _ r _ => r.wf
  | .fcAck _ r _ _ _ => r.wf
  | .recRead _ r _ _ => r.wf
  | .tallyRead _ r _ _ _ => r.wf
  | .logRead _ r _ _ _ => r.wf
  | .mbxStats _ r _ => r.wf
  | .fwBegin _ r _ _ _ => r.wf
  | .fwWrite _ r _ _ _ => r.wf
  | .fwVerify _ r f _ => r.wf && f.wf
  | .fwTrial _ r digest _ => r.wf && decide (digest.length = 8)
  | .fwCommit _ r _ => r.wf
  | .fwStatus _ r _ => r.wf
  | .password _ r _ _ => r.wf
  | .unlockReq _ r _ _ => r.wf
  | .unlockResp _ r _ _ _ _ => r.wf
  | .challengeExpiry _ _ => true
  | .provision _ _ _ _ => true
  | .takeover _ r _ _ => r.wf
  | .field _ r _ _ => r.wf
  | .service _ r _ _ => r.wf
  | .return_ _ r _ _ => r.wf
  | .decommission _ r _ _ => r.wf
  | .clearAlarm _ r _ _ => r.wf
  | .keyLoad _ r _ _ => r.wf
  | .rindStat _ r _ => r.wf
  | .grazeTap _ r _ _ _ => r.wf
  | .skimTap _ r _ _ _ _ => r.wf
  | .tapStop _ r _ _ => r.wf
  | .tapDelivery _ mbox _ => decide (mbox < 128)
  | .tapEnd _ mbox _ => decide (mbox < 128)
  | .crook _ r _ _ _ => r.wf
  | .crookForced _ _ => true
  | .crookReply _ _ => true
  | .shepherdRestart _ => true
  | .mbxReplyRelease _ _ => true
  | .rindSource _ bit _ _ _ => decide (bit ≤ 6)
  | .glitchDetect _ bit _ _ => decide (3 ≤ bit) && decide (bit ≤ 5)
  | .move _ _ => true
  | .stop _ _ => true
  | .hardstop _ _ => true
  | .home _ _ _ => true
  | .clear _ _ _ => true
  | .commitTbl _ _ => true
  | .plannerTick _ _ _ => true
  | .microstep _ _ => true
  | .standstillEntry _ _ => true
  | .limitSwitchTransition _ sw _ _ _ => decide (sw < 2)
  | .homingStopComplete _ _ => true
  | .homingTimeout _ _ => true
  | .coilFault _ coil kind _ => decide (coil < 2) && decide (kind < 3)
  | .unknownRequest _ r _ _ _ => r.wf
  | .canBusError _ _ _ _ _ => true
  | .debugSessionOpen _ => true
  | .debugSessionClose _ => true
  | .factoryTestToken _ _ => true

end Sys2Proof
end

