-- ==== Sys2Proof/Tests/Slice0.lean ====
section
/-! SUPPORT. Tests: worked examples of the spec and published test vectors, a term that each check of WellFormed refuses, and for every statement states and
operands that meet its hypotheses. -/
set_option Elab.async false
namespace Sys2Proof.Tests
open Sys2Proof Sys2Proof.Machine

/-! ## Worked examples of the spec -/

/-- The example of R114: 5 + 3, 3 < 5, 8 << 4 and 0x80 AND 5 in the complement domain. -/
theorem test_lamb_example : lambOp .add 0xFFFFFFFA#32 0xFFFFFFFC#32 = 0xFFFFFFF7#32 ∧ lambOp .slt 0xFFFFFFFC#32 0xFFFFFFFA#32 = 0xFFFFFFFE#32 ∧
    lambOp .sll 0xFFFFFFF7#32 (~~~4#32) = 0xFFFFFF7F#32 ∧ lambOp .and 0xFFFFFF7F#32 0xFFFFFFFA#32 = 0xFFFFFFFF#32 ∧
    lambOp .add 0xDFFFEFFF#32 (~~~0x40#32) = 0xDFFFEFBF#32 := by decide

/-- The core of that example before its first instruction. -/
def tCore : State := State.reset.updLane .A fun L => L.updCpu fun h => { h with
  x := [(2, 0x20001000#32), (5, 5#32), (6, 3#32), (7, 8#32)], nx := [(2, 0xDFFFEFFF#32), (5, 0xFFFFFFFA#32), (6, 0xFFFFFFFC#32), (7, 0xFFFFFFF7#32)] }

/-- Lane A after a command that runs, and a stage, a guardian. -/
def tLane (c : Instr) (s : State) (l : Lane) : LaneSt :=
  match exec c s with
  | .next t => t.lane l
  | _ => s.lane l
def tStage (c : Instr) (s : State) (g : Stg) : StageSt :=
  match exec c s with
  | .next t => t.stage g
  | _ => s.stage g
def tGdn (c : Instr) (s : State) (g : Gdn) : GuardianSt :=
  match exec c s with
  | .next t => t.gdn g
  | _ => s.gdn g

/-- The same example: the addition, the store, and the disturbed adder output: 0x0101 with one bit of difference. -/
theorem test_checked_add : (tLane (.checkedInstruction .A .main (.alu .add 7 5 6 4) .none ⟨0, 0, 0⟩) tCore .A).core.cpu.getX false 7 = 8#32 := by
  decide +kernel
theorem test_checked_store : (tLane (.checkedInstruction .A .main (.store .word 2 7 0x40#32 4) .none ⟨0, 0, 0⟩) tCore .A).word 0x20001040 = 8#32 := by
  decide +kernel
theorem test_checked_disturbed : let L := tLane (.checkedInstruction .A .main (.alu .add 7 5 6 4) (.result 8#32) ⟨0, 0, 0⟩) tCore .A
    L.core.halted = true ∧ L.rd Reg.DBG_MIS_INFO_DIFF_CNT = 1 ∧ L.core.cpu.getX false 7 = 8#32 := by decide +kernel

/-- The example of R176 and R181: the window of leg U. -/
def tStg : StageSt := { StageSt.reset with st := 3, per := 20000, cmd := some ⟨⟨3484, 16516⟩, ⟨0xFFFF, 0xFFFF⟩, ⟨3484, 16516⟩⟩ }
theorem test_window_example : tStg.window 0 = 12720 ∧ tStg.window 1 = 0 := by decide +kernel

/-- Its currents: leg U 24.000 337 A (the offset of -0.012 A is held as -786 / 65,536), leg V reconstructed from W at -10.5 A. -/
def tMeas : State := (State.reset.updStage .A fun _ => { tStg with w := ⟨12720, 0, 9000⟩, d := ⟨some 488204, none, some (-151200)⟩, conv := .all 0 }).updLane .A
  fun L => let L := (L.wrS (Reg.MEAS_OFS_OFS 0 0 0) (-786)).put Reg.MEAS_WIN_CFG_CURV_EN true
  { L with meas := { L.meas with cal := [], mean1 := setNth L.meas.mean1 0 ⟨some (238600 * 0x100000000 / 10000), none, none⟩
                                 mean2 := setNth L.meas.mean2 0 ⟨some (237000 * 0x100000000 / 10000), none, none⟩ } }
theorem test_current_example : let L := tLane (.statusFrame .A .A true) tMeas .A
    absN (L.rdS (Reg.MEAS_I_I 0 0) - 0x180016) ≤ 1 ∧ L.rdS (Reg.MEAS_I_I 0 1) = -(L.rdS (Reg.MEAS_I_I 0 0) + L.rdS (Reg.MEAS_I_I 0 2)) ∧
    L.rd (Reg.MEAS_LEG_STAT_LEG 0 1) % 4 = 3 := by decide +kernel

/-- The example of R205: speed of the encoder at 450 us, 750 us, 1,450 us. -/
def tEnc : LaneSt := (((LaneSt.reset 1).wr Reg.POS_ENC_CFG_CPR 4095).onEdge 0 1 0).onEdge 0 1 400000
theorem test_speed_example : (tEnc.speedSlot 0 450000).rd (Reg.POS_SPEED_SPEED 0) = 40000 ∧
    (((tEnc.speedSlot 0 450000).onEdge 0 1 700000).speedSlot 0 750000).rd (Reg.POS_SPEED_SPEED 0) = 45714 ∧
    (((tEnc.speedSlot 0 450000).onEdge 0 1 700000).speedSlot 0 1450000).rd (Reg.POS_SPEED_SPEED 0) = 21333 := by decide +kernel

/-- The example of R238: SCALE, EDGE and the reference of stage B; the profile of R231 at x = 162 / 6,554. -/
theorem test_map_example :
    bilinear (fun a j => if a = 19 then (if j = 24 then 0x8120 else 0x8140) else if j = 24 then 0x8080 else 0x80A0) 9922 806093 = 33015 ∧
    bilinear (fun a j => if a = 19 then (if j = 24 then -200 else -180) else if j = 24 then -120 else -100) 9922 806093 = -158 ∧
    806093 * 33015 / 32768 = 812169 := by decide +kernel

/-- The example of R280: the envelope 184.00 ms and 184.05 ms after an SS1 at 400.0 Hz. -/
theorem test_ss1_example : (LaneSt.reset 1).ss1Limit 4000 184000000 = 2460 * 100000000 ∧
    (LaneSt.reset 1).ss1Limit 4000 184050000 = 245950000000 ∧ (LaneSt.reset 1).ss1Limit 4000 373500000 = 56500000000 := by decide +kernel

/-- The example of R455 and R456: a stage die at 146 degrees C, a winding at 130. -/
theorem test_derating_example : tjLimit 146 false = 30 * 65536 ∧ tjLimit 146 true = 16 * 65536 ∧
    windingLimit ⟨120, 140, 1, 1, 3950⟩ (130 * 65536) (30 * 65536) = 0x168000 := by decide

/-- The example of R371: seventeen bytes with three escapes, and back to the decoded samples. -/
def tSkim : List Byte := [0xE8, 0x03, 0x03, 0x01, 0xFF, 0x00, 0x80, 0xA4, 0x06, 0x80, 0x1C, 0x04, 0x80, 0x19, 0x04, 0xFF, 0x00]
theorem test_skim_example : skimEncode false 2 [1000, 1013, 1029, 1041, 1050, 1700, 1052, 1049, 1043, 1036] = (tSkim, 3) := by decide +kernel
theorem test_skim_back : skimDecodes false 2 9 1000 none (tSkim.drop 2) =
    some ([1012, 1028, 1040, 1052, 1700, 1052, 1049, 1042, 1035], []) := by decide +kernel

/-- The example of R381: buffer 12 with OVW = 1 is stored over, and released with WCNT 6. -/
def tCan : State := State.reset.updLane .A fun L =>
  let L := ((((L.put (Reg.CAN_BUF_FLT_EN .can1 12) true).wr (Reg.CAN_BUF_FLT_MASK .can1 12) 0).put (Reg.CAN_BUF_FLT_OVW .can1 12) true).setReg
    0x400A160C 0x51)
  { L with can1 := { L.can1 with run := 2, off := false } }
theorem test_can_store : (tLane (.canFrameReceive .A .can1 ⟨false, 0x123, 8, 0, [1, 2]⟩) tCan .A).reg 0x400A160C = 0x63#32 := by decide +kernel
theorem test_can_release : let s := tCan.updLane .A fun L => L.setReg 0x400A160C 0x63
    (tLane (.canRxRelease .A .can1 12 6) s .A).reg 0x400A160C = 0x60#32 ∧ (tLane (.canRxRelease .A .can1 12 5) s .A).reg 0x400A160C = 0x63#32 := by
  decide +kernel

/-! ## The voting procedure of R147 -/

theorem test_vote_mvs : (voteMvs 10 [(0, 100), (1, 105), (2, 130)]).value = some 105 ∧ (voteMvs 10 [(0, 100), (1, 105), (2, 130)]).marks = [2] ∧
    (voteMvs 10 [(0, 100), (1, 105)]).value = some 102 ∧ (voteMvs 10 [(0, 100), (1, 130)]).conflict = true := by decide
theorem test_vote_exact : (voteExact [(0, 7), (1, 9), (2, 7)]).value = some 7 ∧ (voteExact [(0, 7), (1, 9), (2, 7)]).marks = [1] ∧
    (voteExact [(0, 7), (1, 8), (2, 9)]).marks = [0, 1, 2] ∧ (voteExact [(0, 7), (2, 8)]).conflict = true := by decide
theorem test_vote_median : (voteMedian [(0, -7), (1, 8), (2, 900)]).value = some 8 ∧ (voteMedian [(0, -7), (1, 4)]).value = some (-2) := by decide
theorem test_vote_modular : (voteField 1 10 true [(0, 0xFFFE), (1, 2), (2, 4)]).value = some 2 := by decide +kernel

/-! ## One command each -/

/-- R77: the CRC-32C of "123456789" has the value that every description of this code gives. -/
theorem test_crc : crc32c [0x31, 0x32, 0x33, 0x34, 0x35, 0x36, 0x37, 0x38, 0x39] = 0xE3069283#32 := by decide +kernel

/-- R88: a keyed request is carried; without the key it is 0x0D04. -/
theorem test_sys_req : (tLane (.sysReq .A 0x5A17 3) State.reset .A).sys.want = some 3 := by decide +kernel
theorem test_sys_req_key : let L := tLane (.sysReq .A 0x5A18 3) State.reset .A
    L.sys.want = none ∧ L.rd (Reg.FC_CNT_COUNT 13) = 1 := by decide +kernel

/-- R298, R461: source 0x0703 is source 0x03 of class 7, and has no detail; a register write through the access codes; a command register. -/
theorem test_fault_raise : let L := tLane (.faultRaise .A 0x0703 2 1000) State.reset .A
    L.on (Reg.FC_OPEN 7) = true ∧ L.rd Reg.FC_FIRST_ID = 0x0703 ∧ L.rd Reg.FC_FIRST_DETAIL = 0xFF := by decide +kernel
theorem test_fault_ack : let s := State.reset.updLane .A fun L => L.raise 0x0703 2
    (tLane (.acknowledgeClass .A 0x6C1E 0x40) s .A).on (Reg.FC_OPEN 7) = false := by decide +kernel
theorem test_reg_write_range : let L := tLane (.registerWrite .A 0x40000000 0xFFFFFFFF 0) State.reset .A
    L.reg 0x40000000 = State.reset.lanes.a.reg 0x40000000 := by decide +kernel
theorem test_reg_write_command : tLane (.registerWrite .A 0x40000008 0x5A170003 0) State.reset .A = tLane (.sysReq .A 0x5A17 3) State.reset .A := by
  decide +kernel
theorem test_sec_write : (tLane (.registerWrite .A 0x400E0004 1 0) State.reset .A).rd (Reg.FC_CNT_COUNT 11) = 1 := by decide +kernel

/-- R38, R52: 15.999 V is a loss, 16.000 V is not. -/
theorem test_supply_loss : let s := State.reset.updLane .A fun L => { L with pwr := { L.pwr with lost := false } }
    (tLane (.supplyLoss .A 15999 5) s .A).pwr.lost = true ∧ (tLane (.supplyLoss .A 16000 5) s .A).pwr.lost = false := by decide +kernel

/-- An empty queue idles; a command in front is taken off, and its effect is exec's. -/
theorem test_step : step State.reset = .next State.reset := rfl
theorem test_step_front : step { State.reset with pending := [.posSnap .A 1, .posSnap .A 2] } =
    exec (.posSnap .A 1) { State.reset with pending := [.posSnap .A 2] } := rfl

/-- The table spells no command in bits (log entry 26). -/
theorem test_decode : decodeTableWord 32 0x12345678 = none := by decide



/-- SHAKE256 of the empty string (FIPS 202) and the first sample of KMAC128 (SP 800-185). -/
theorem test_shake256_empty : shake256 8 [] = [0x46, 0xB9, 0xDD, 0x2B, 0x0B, 0xA8, 0x8D, 0x13] := by decide +kernel
theorem test_kmac128_sample : (kmac128 ((List.range 32).map fun i => BitVec.ofNat 8 (0x40 + i)) [0, 1, 2, 3] 32 []).take 8 =
    [0xE5, 0x78, 0x0B, 0x0D, 0x3E, 0xA6, 0xF7, 0xD3] := by decide +kernel

/-! ## WellFormed refuses what is out of range -/

theorem test_wf_addresses : (Instr.registerWrite .A 0x40000000 1 0).wf = true ∧ (Instr.registerWrite .A 0x40000002 1 0).wf = false ∧
    (Instr.registerWrite .A 0x100000000 1 0).wf = false ∧ (Instr.systemBusAccess .A 0x20000001 none).wf = false ∧
    (Instr.systemBusAccess .A 0x100000000 (some 1)).wf = false ∧ (Instr.interruptTaken .A .main 0x80000000).wf = false := by decide

/-- Core instructions: register numbers, length, CSR number, rounding mode. -/
theorem test_wf_core_registers : (CoreInstr.alu .add 31 31 31 4).wf = true ∧ (CoreInstr.alu .add 32 0 0 4).wf = false ∧
    (CoreInstr.alu .add 0 32 0 4).wf = false ∧ (CoreInstr.alu .add 0 0 32 4).wf = false ∧ (CoreInstr.alu .add 0 0 0 3).wf = false ∧
    (CoreInstr.aluImm .add 32 0 0 4).wf = false ∧ (CoreInstr.lui 32 0 4).wf = false ∧ (CoreInstr.auipc 32 0 4).wf = false ∧
    (CoreInstr.jal 32 0 4).wf = false ∧ (CoreInstr.jalr 0 32 0 4).wf = false ∧ (CoreInstr.branch .beq 0 32 0 4).wf = false ∧
    (CoreInstr.muldiv .div 32 0 0 4).wf = false ∧ (CoreInstr.fmvToInt 0 32 4).wf = false ∧ (CoreInstr.fmvFromInt 32 0 4).wf = false := by decide
theorem test_wf_core_memory : (CoreInstr.load .word true 32 0 0 4).wf = false ∧ (CoreInstr.loadF 0 32 0 4).wf = false ∧
    (CoreInstr.store .word 0 32 0 4).wf = false ∧ (CoreInstr.storeF 32 0 0 4).wf = false ∧ (CoreInstr.lr 0 32 4).wf = false ∧
    (CoreInstr.sc 0 0 32 4).wf = false ∧ (CoreInstr.amo .add 32 0 0 4).wf = false := by decide
theorem test_wf_core_system : (CoreInstr.csr .rw 0 4096 0 4).wf = false ∧ (CoreInstr.csr .rw 0 0 64 4).wf = false ∧
    (CoreInstr.fpu .add 7 0 0 0 31 4).wf = true ∧ (CoreInstr.fpu .add 8 0 0 0 0 4).wf = false ∧ (CoreInstr.fpu .madd 0 0 0 0 32 4).wf = false ∧
    (CoreInstr.mret 3).wf = false ∧ (CoreInstr.fence 0).wf = false ∧
    (Instr.checkedInstruction .A .main (.fence 0) .none ⟨0, 0, 0⟩).wf = false ∧ (Instr.debugSingleStep .A (.fence 0)).wf = false := by decide
theorem test_wf_debug : (Instr.debugRegisterWrite .A (.x 32) none).wf = false ∧ (Instr.debugRegisterWrite .A (.f 32) none).wf = false ∧
    (Instr.debugRegisterWrite .A (.csr 4096) none).wf = false ∧ (Instr.debugRegisterWrite .A .dpc (some 0)).wf = true := by decide

/-- Agreement, claims, resync, Churn. -/
def tMsg : AgrMsg := ⟨1, .A, 31, 4, false, false, false, 0, 0, List.replicate 48 0, 0, 0⟩
theorem test_wf_message : tMsg.wf = true ∧ (Instr.agreementMessage .B false { tMsg with cyc := 32 } 220 true).wf = false ∧
    { tMsg with slot := 5 }.wf = false ∧ { tMsg with version := 256 }.wf = false ∧ { tMsg with fields := List.replicate 47 0 }.wf = false ∧
    (Instr.catchupFrame .A { tMsg with cyc := 32 }).wf = false := by decide
def tEdge : Edges := ⟨0, 65535⟩
def tFrame : XFrame := ⟨15, 7, 0, true, false, ⟨tEdge, tEdge, tEdge⟩, 0⟩
theorem test_wf_frame : tFrame.wf = true ∧ (Instr.crossStrapFrame .A .A (some { tFrame with seq := 16 }) 0 0 true true).wf = false ∧
    (Instr.crossStrapFrame .A .A none 0 0 true true).wf = true ∧
    { tFrame with claim := 8 }.wf = false ∧ { tFrame with cmd := ⟨⟨0, 65536⟩, tEdge, tEdge⟩ }.wf = false ∧
    { tFrame with cmd := ⟨tEdge, ⟨65536, 0⟩, tEdge⟩ }.wf = false ∧ { tFrame with cmd := ⟨tEdge, tEdge, ⟨65536, 0⟩⟩ }.wf = false := by decide
def tPkg : Package := ⟨1, .B, .A, 0, 0, .all 0, .all 0, .all [], .all [], [], [], 0, [], .all 0, []⟩
theorem test_wf_package : tPkg.wf = true ∧ (Instr.resyncPackage .A .B { tPkg with app := List.replicate 10241 0 } true true 0).wf = false ∧
    { tPkg with learned := List.replicate 1025 (0, 0) }.wf = false := by decide +kernel
theorem test_wf_churn : (Instr.churnSlice .A 8 0 true true true true 0 false).wf = false ∧ (Instr.churnSlice .A 0 640 true true true true 0 false).wf = false ∧
    (Instr.zeroiseTimeout .A 50 0).wf = false ∧ (Instr.spareUnitHandover .A 4 true).wf = false ∧ (Instr.spareUnitHandover .A 3 true).wf = true := by decide

/-- States, wake, faults, measurement, position. -/
def tSp : SpIn := ⟨false, 2000, 3000, [12, 12, 12, 12, 12, 12, 12, 12], true, 0, false, 0, true, true, none⟩
theorem test_wf_small : (Instr.handshakeDelayExceeded .A 16 0).wf = false ∧ (Instr.wakeSource .A 6 0 0 true 0).wf = false ∧
    (Instr.siblingLineChange .A .B 4 0).wf = false ∧ (Instr.clockFault .A 5 0 0 0).wf = false ∧ (Instr.clockFault .A 4 0 0 0).wf = true ∧
    (Instr.gpConversionComplete .A 2 0 0 0).wf = false ∧ (Instr.hallTransition .A 8 0 0).wf = false ∧
    (Instr.spFrame .A 1 tSp 0).wf = true ∧ (Instr.spFrame .A 2 tSp 0).wf = false ∧ (Instr.spTimeout .A 2 0 0).wf = false := by decide
def tFacts : ImgFacts := ⟨true, true, [(0x40080000, 0)], 0, true⟩
def tFw : FwFacts := ⟨true, 3, List.replicate 8 0⟩
def tBoot : BootFacts :=
  { memOk := true, bankAOk := true, bankBOk := true, appOk := true, slot0 := some tFacts, slot1 := none, tmapDigestOk := true, holdupOk := true,
    xtalOk := true, tmrAngle := 65535, encA := false, encB := true, hall := 5, stoHigh := true, calOk := .all true, cal := List.replicate 24 (65536, 0, 0), lidOpen := false,
    entry := 0x10000100, entry2 := 0x10000200, retList := List.replicate 384 0 }
theorem test_wf_boot : tBoot.wf = true ∧ (Instr.coldBoot .A 17001 { tBoot with tmrAngle := 65536 } 0).wf = false ∧
    (Instr.wakeComplete .A { tBoot with slot1 := some { tFacts with regs := [(0x40080002, 0)] } } 0).wf = false ∧
    { tBoot with slot0 := some { tFacts with regs := [(0x100000000, 0)] } }.wf = false ∧ { tBoot with cal := List.replicate 25 (0, 0, 0) }.wf = false ∧
    { tBoot with retList := List.replicate 385 0 }.wf = false ∧ (Instr.romRecoveryLoad .A { tFw with digest := [] } false).wf = false := by decide +kernel

/-- Flock frames, windows, buffers, satellites. -/
def tFlk : FlockFrame := ⟨1, 1, 9, false, false, false, false, 0, 0, 0, 0, 0, 0, 0, [], 0, true⟩
theorem test_wf_flock_frame : tFlk.wf = true ∧ { tFlk with version := 16 }.wf = false ∧ { tFlk with typ := 16 }.wf = false ∧
    { tFlk with sender := 256 }.wf = false ∧ { tFlk with hops := 16 }.wf = false ∧ { tFlk with window := 64 }.wf = false ∧
    { tFlk with matrix := 64 }.wf = false ∧ { tFlk with corr := 0x100000000 }.wf = false ∧ { tFlk with priority := 65536 }.wf = false ∧
    { tFlk with seq := 65536 }.wf = false ∧ { tFlk with payload := List.replicate 1025 0 }.wf = false := by decide +kernel
def tBad : FlockFrame := { tFlk with typ := 16 }
theorem test_wf_flock_commands : (Instr.syncFrame (.lane .A) tBad 0).wf = false ∧ (Instr.coldstartFrame (.guardian .X) tBad 0).wf = false ∧
    (Instr.localSyncFrame .A tBad 0).wf = false ∧ (Instr.flockFrameReceive .A tBad).wf = false ∧ (Instr.guardianRingFrame .X .east tBad 0 0).wf = false ∧
    (Instr.guardianLocalFrame .X (.lane .A) tBad 0 0).wf = false ∧ (Instr.guardianLocalFrame .X (.sat 5) tFlk 0 0).wf = false ∧
    (Instr.pdelayFrame .X .east tBad 0).wf = false ∧ (Instr.muteFrame .X tBad 0).wf = false := by decide +kernel
theorem test_wf_flock_numbers : (Instr.cyclePoint .A 16 0).wf = false ∧ (Instr.txPost .A 32 0 0).wf = false ∧ (Instr.txPost .A 0 1025 0).wf = false ∧
    (Instr.flockTransmit .A false 48 0 0 0).wf = false ∧ (Instr.flockTransmit .A false 0 64 0 0).wf = false ∧
    (Instr.flockTransmit .A false 0 0 32 0).wf = false ∧ (Instr.skimEncode .A 4).wf = false ∧
    (Instr.windowEndCutoff .X (.sat 1) 48 0 0).wf = false ∧ (Instr.windowEndCutoff .X (.sat 0) 0 0 0).wf = false ∧
    (Instr.sourceUnblock .X (.sat 5) 0).wf = false ∧ (Instr.arbWindowEnd .X 0 64).wf = false ∧ (Instr.arbEgressSend .X (.sat 5) 0).wf = false ∧
    (Instr.linkRetry .X (.sat 0) 0).wf = false ∧ (Instr.satelliteHello .X 5 0 0 0 0 0).wf = false ∧ (Instr.satelliteLost .X 0).wf = false := by decide

/-- CAN, mailboxes, security, axes. -/
theorem test_wf_can : (Instr.canFrameReceive .A .can1 ⟨false, 0x7FF, 0, 0, []⟩).wf = true ∧ (Instr.canFrameReceive .A .can1 ⟨false, 0x800, 0, 0, []⟩).wf = false ∧
    (Instr.canFrameReceive .A .can1 ⟨true, 0x20000000, 0, 0, []⟩).wf = false ∧
    (Instr.canFrameReceive .A .can1 ⟨true, 0, 0, 0, List.replicate 17 0⟩).wf = false ∧ (Instr.canRxRelease .A .can1 128 0).wf = false ∧
    (Instr.canTxRequest .A .can1 128).wf = false ∧ (Instr.canTxAbort .A .can1 128 false).wf = false := by decide
def tReq : Req := ⟨false, 3, 0b111, 0, 1, 7, 0x100, .internal, 0, 5⟩
theorem test_wf_request : tReq.wf = true ∧ (Instr.getId .A { tReq with mbox := 128 } 0).wf = false ∧ (Instr.getId .A { tReq with length := 65536 } 0).wf = false ∧
    (Instr.imgCommit .A tReq [] tFacts 0).wf = false ∧ (Instr.imgVerify .A tReq { tFacts with regs := [(3, 0)] } 0).wf = false ∧
    (Instr.fwTrial .A tReq [] 0).wf = false ∧ (Instr.fwVerify .A tReq { tFw with digest := [] } 0).wf = false ∧ (Instr.tapDelivery .A 128 true).wf = false ∧
    (Instr.tapEnd .A 128 0).wf = false := by decide
theorem test_wf_security_axes : (Instr.rindSource .A 7 true 0 0).wf = false ∧ (Instr.glitchDetect .A 2 0 0).wf = false ∧ (Instr.glitchDetect .A 6 0 0).wf = false ∧
    (Instr.limitSwitchTransition .A 2 true 0 0).wf = false ∧ (Instr.coilFault .A 2 0 0).wf = false ∧ (Instr.coilFault .A 0 3 0).wf = false := by decide

/-! ## States and operands that meet the hypotheses of the statements

At least one theorem for each statement: its conjuncts are the hypotheses of the statement's clauses, at the values given. -/

/-- Reset with lane A changed, all lanes, a stage, a guardian. -/
def wA (f : LaneSt → LaneSt) : State := State.reset.updLane .A f
def wAll (f : LaneSt → LaneSt) : State := ((State.reset.updLane .A f).updLane .B f).updLane .C f
def wStg (f : StageSt → StageSt) : State := State.reset.updStage .A f
def wGdn (f : GuardianSt → GuardianSt) : State := State.reset.updGdn .X f

/-- Lane A in a state of the module; in a transition from STANDBY to ARM. -/
def inSt (n : Nat) (L : LaneSt) : LaneSt := L.wr Reg.SYS_STATE_MODULE n
def toArm (L : LaneSt) : LaneSt := ((L.wr Reg.SYS_STATE_MODULE 2).wr Reg.SYS_STATE_TARGET 3).wr Reg.SYS_STATE_PHASE 2
def held (t : Nat) (L : LaneSt) : LaneSt := { L with pwr := { L.pwr with lost := true, lostAt := t } }
def supplied0 (L : LaneSt) : LaneSt := { L with pwr := { L.pwr with lost := false } }

theorem test_hyps_SupplyMonitoredAndHeldUp_SupplyLossStartsHoldup : ((wA supplied0).lane .A).supplied = true ∧ (15999 : Int) < 16000 ∧
    (((-1001 : Int) < -1000 ∧ 10 ≤ 10) ∧ ((1000 : Int) < 1001) ∧ ((wA supplied0).lane .A).pwr.gndLost = false) ∧ (16000 : Int) ≤ 16000 := by decide +kernel

theorem test_hyps_SupplyMonitoredAndHeldUp_HoldupEnds :
    (let L := (wA (held 5)).lane .A; L.up = true ∧ L.pwr.lost = true ∧ L.mode ≠ 3 ∧ L.pwr.lostAt + 15000000 ≤ 15000005) ∧
    ((17000 : Int) < 17001 ∧ (-1000 : Int) ≤ -1000 ∧ (1000 : Int) ≤ 1000 ∧ 1000 ≤ 1000) ∧
    (let L := (wA fun L => (inSt 3 (held 5 L)).wr Reg.CLM_MATRIX_CLAIMS 0x7FFFFFF).lane .A; L.up = true ∧ L.pwr.lost = true ∧ L.mode ≠ 3 ∧ stArm ≤ L.st ∧
      L.assigned (laneIx .A) = true) ∧
    (let L := (wA fun L => (held 5 L).wr Reg.SYS_STATE_LANE_MODE 3).lane .A; L.up = true ∧ L.pwr.lost = true ∧ L.mode = 3) ∧ ((-1001 : Int) < -1000) ∧
    (let L := (wA fun L => inSt 1 (supplied0 L)).lane .A; L.st = stPark ∧ L.pwr.lost = false ∧ (15999 : Int) < 16000) ∧
    (let L := (wA (held 5)).lane .A; 20000004 < L.pwr.lostAt + 20000000 ∧ L.pwr.lostAt + 20000000 ≤ 20000005) := by decide +kernel

theorem test_hyps_SupplyMonitoredAndHeldUp_SupplyRangeMonitored : ((wA supplied0).lane .A).up = true ∧
    ((16000 : Int) ≤ 16000 ∧ (16000 : Int) < 18000 ∧ (17999 : Int) < 18000 ∧ 100 ≤ 100) ∧
    ((57000 : Int) < 57001 ∧ ((wA supplied0).lane .A).pwr.overvolt = false) ∧
    (((wA fun L => { L with pwr := { L.pwr with overvolt := true } }).lane .A).pwr.overvolt = true ∧ (55999 : Int) < 56000 ∧ 10000 ≤ 10000) ∧
    (4749 < 4750 ∧ 5250 < 5251 ∧ 100 ≤ 100) := by decide +kernel

theorem test_hyps_StateRequestsAndFold_SysReqCarriesTarget : (State.reset.lane .A).up = true ∧ (5#3).toNat = stFold ∧
    ((0#3).toNat = stOff ∧ stFold < (6#3).toNat ∧ ((wA (inSt 5)).lane .A).st = stFold ∧ (3#3).toNat ≠ stPark ∧ (3#3).toNat ≠ stFold) ∧
    (let L := (wA fun L => { L with sys := { L.sys with want := none, recent := some (4, L.time) } }).lane .A;
      (4#3).toNat ≠ stOff ∧ (4#3).toNat < stFold ∧ L.st ≠ stFold ∧ L.sys.want = none ∧ L.late (4#3).toNat = true ∧ L.late (3#3).toNat = false) ∧
    (let L := (wA fun L => { inSt 5 L with sys := { L.sys with want := some 4 } }).lane .A; L.st = stFold ∧ (1#3).toNat = stPark ∧ L.sys.want.isSome = true) ∧
    0x5A16#16 ≠ 0x5A17#16 := by decide +kernel

def wHs (L : LaneSt) : LaneSt :=
  let L := ((L.wr Reg.SYS_STATE_PHASE 1).wr (Reg.SYS_HS_STAT_ANS 15) 2).wr (Reg.SYS_HS_STAT_ANS 5) 2
  { L with sys := { L.sys with started := 5, delayAt := [(15, 2), (5, 1)] } }
theorem test_hyps_TransitionsAndClock_TransitionLimits :
    (let L := (wA wHs).lane .A; L.up = true ∧ L.rd Reg.SYS_STATE_PHASE = 1 ∧ L.on Reg.SYS_STATE_PEND_VALID = false ∧
      (L.rd (Reg.SYS_HS_STAT_ANS 15) = 2 ∧ (15, 2) ∈ L.sys.delayAt ∧ 2 + 10000000 ≤ 10000002) ∧
      (L.rd (Reg.SYS_HS_STAT_ANS 5) = 2 ∧ (5, 1) ∈ L.sys.delayAt) ∧ L.sys.started + 20000000 ≤ 20000005) ∧
    (let s := wAll wHs; s.inStep .A .A = true ∧ s.inStep .A .B = true ∧ ((s.lane .B).sys.started + 20000000 ≤ 20000005) ∧
      (s.lane .B).on Reg.SYS_STATE_PEND_VALID = false ∧ (wA wHs).inStep .A .B = false) ∧
    (let s := wAll toArm; (s.lane .A).up = true ∧ (s.lane .A).arming = true ∧ (s.lane .A).sys.started + 30000000 ≤ 30000000 + (s.lane .A).sys.started ∧
      s.inStep .A .C = true ∧ (s.lane .C).sys.started + 30000000 ≤ 30000000 + (s.lane .A).sys.started ∧
      (s.lane .C).on Reg.SYS_STATE_PEND_VALID = false ∧ (wA toArm).inStep .A .C = false) ∧
    (refusal [[(1, 0), (1, 0)], [(1, 0), (3, 5)]] = some (1, 5) ∧ 1 < 32 ∧ 5 < 256 ∧ ((wA wHs).lane .A).rd Reg.SYS_STATE_PHASE = 1 ∧
      ((wA toArm).lane .A).arming = true ∧ ((wA toArm).lane .A).on Reg.SYS_STATE_PEND_VALID = false) := by decide +kernel

theorem test_hyps_TransitionsAndClock_ClockFollowsBias :
    (((wA fun L => L.put Reg.SYS_BIAS_SETTLED false).lane .A).on Reg.SYS_BIAS_SETTLED = false ∧ (State.reset.lane .A).up = true) ∧
    (let L := (wA fun L => inSt 3 (L.wr Reg.SYS_CLK_STAT_CORE_FREQ 2)).lane .A; L.up = true ∧ (140 : Int) < 141 ∧ L.fastCore = true) ∧
    ((State.reset.lane .A).fastCore = false) ∧
    ([0, 1].all fun f => let L := (wA fun L => ((inSt 4 L).wr Reg.SYS_CLK_STAT_CORE_FREQ f).put Reg.SYS_BIAS_TJ_HOT true).lane .A
      (decide ((134 : Int) < 135) && L.on Reg.SYS_BIAS_TJ_HOT && L.rd Reg.SYS_CLK_STAT_CORE_FREQ == f)) = true := by decide +kernel

def wArmed (L : LaneSt) : LaneSt :=
  let L := (for3 (fun i L => L.wr (Reg.STG_STAT_STATE i) 3) (toArm L)).wr Reg.CLM_MATRIX_CLAIMS 0x7FFFFFF
  { L with sys := { L.sys with armDone := 31 } }
theorem test_hyps_TransitionsAndClock_ArmSequenceSteps :
    (let s := wA wArmed; let L := s.lane .A; L.up = true ∧ L.arming = true ∧ L.on Reg.SYS_BIAS_TJ_HOT = false ∧ nth (⟨false, true, true⟩ : Tri Bool) (laneIx .A) = false ∧
      L.sys.stepFail = none ∧ 100000 % 50000 = 0 ∧ s.inStep .A .A = true ∧ L.armReady 100000 = true ∧ s.inStep .A .B = false ∧ s.inStep .A .C = false ∧
      nth L.meas.removed 0 = false ∧ nth L.meas.copyFail 0 = false) ∧
    (let s := wAll wArmed; s.inStep .A .B = true ∧ (s.lane .B).armReady 100000 = true ∧ s.inStep .A .C = true ∧ (s.lane .C).armReady 100000 = true) ∧
    ((wA fun L => (wArmed L).put Reg.SYS_BIAS_TJ_HOT true).lane .A).on Reg.SYS_BIAS_TJ_HOT = true ∧
    ((wA fun L => (wArmed L).wr Reg.POS_IDX_CFG_MODE 2).lane .A).recordsIndex = true := by decide +kernel

theorem test_hyps_StateRequestsAndFold_FoldEntryPreempts :
    (let L := (wA fun L => { toArm L with sys := { L.sys with fold := true, folded := false } }).lane .A;
      L.up = true ∧ L.sys.fold = true ∧ L.sys.folded = false ∧ L.st ≠ stFold ∧ L.arming = true ∧ L.mbx.asked = []) ∧
    (let L := (wA fun L => { inSt 5 L with sys := { L.sys with fold := true, folded := false } }).lane .A; L.sys.fold = true ∧ L.sys.folded = false ∧ L.st = stFold) := by
  decide +kernel

/-- Levels 3 and 4 by the source, with and without a first source before. -/
theorem test_hyps_FaultSourcesReact_FaultRaiseReacts :
    (let L := State.reset.lane .A; L.up = true ∧ 0x0E06#16 ∉ L.fc.stuck ∧ L.masked 0x0E06 (detailOf 0x0E06 7) = false ∧ L.ownLevel 0x0E06 ≠ 0 ∧ 1 ≤ 0x0E06 / 256 ∧
      0x0E06 / 256 ≤ 15 ∧ L.fc.under3 = false ∧ L.on (Reg.FC_OPEN (0x0E06 / 256)) = false ∧ L.on Reg.FC_STAT_FIRST_VALID = false ∧ L.ownLevel 0x0E06 = 3) ∧
    (let L := (wA fun L => (L.raise 0x0703 1)).lane .A; L.masked 0x0206 (detailOf 0x0206 1) = false ∧
      L.fc.under3 = false ∧ L.on (Reg.FC_OPEN 2) = false ∧ L.on Reg.FC_STAT_FIRST_VALID = true ∧ L.ownLevel 0x0206 = 4) ∧
    0x0703#16 ∈ ((wA fun L => { L with fc := { L.fc with stuck := [0x0703] } }).lane .A).fc.stuck := by decide +kernel

theorem test_hyps_FaultSourcesReact_FaultLinesAndInjection : (State.reset.lane .A).up = true ∧ (10 ≤ 10 ∧ 0x0703#16 ∉ (State.reset.lane .A).fc.stuck ∧ 9 < 10) ∧
    (let L := (wA fun L => { L with fc := { L.fc with stuck := [0x0703] } }).lane .A; L.up = true ∧ 0x0703#16 ∈ L.fc.stuck) ∧
    (Lane.B ≠ Lane.A ∧ 1 < 4 ∧ 2 < 4 ∧ ((wA fun L => L.wr (siblingFld 1) 3).lane .A).rd (siblingFld (laneIx .B)) = 3) ∧
    (((wA fun L => { L with fc := { L.fc with silentNext := true } }).lane .A).fc.silentNext = true ∧ 150000 % 50000 = 0) ∧
    ((wA fun L => (L.put Reg.SEC_LC_TEST_MODE true).wr Reg.SEC_LC_STATE 1).lane .A).injectOpen = true ∧ (State.reset.lane .A).injectOpen = false := by
  decide +kernel

theorem test_hyps_FaultsAcknowledgedAndLimits_FaultAcknowledgeAndRecord :
    (let L := (wA fun L => { L with fc := { L.fc with queue := [List.replicate 128 7], nextRec := 1023, closing := [(15, 5), (0, 9)] } }).lane .A;
      L.up = true ∧ L.fc.queue = List.replicate 128 7 :: [] ∧ (List.replicate 128 (7 : Word)).length = 128 ∧ (15 < 16 ∧ (15, 5) ∈ L.fc.closing ∧ 5 ≤ 5)) ∧
    (1 ≤ 1 ∧ 15 ≤ 15 ∧ (0x4001#15).getLsbD (15 - 1) = true) ∧ 0x6C1F#16 ≠ 0x6C1E#16 := by decide +kernel

theorem test_hyps_FaultsAcknowledgedAndLimits_ThermalAndClockFaults : (State.reset.lane .A).up = true ∧ ((150 : Int) < 151 ∧ 10 ≤ 10) ∧
    (let L := (wA fun L => { L with com := { L.com with tjOver := ⟨some 5, none, none⟩, twOver := ⟨none, none, some 5⟩ } }).lane .A;
      nth L.com.tjOver (stgIx .A) = some 5 ∧ nth L.com.twOver (stgIx .C) = some 5 ∧ 5 + 10000000 ≤ 10000005) ∧
    (let L := (wA fun L => { L with fc := { L.fc with thermal := true, hold := false } }).lane .A; L.fc.thermal = true ∧ L.fc.hold = false ∧ L.isSplit = false ∧
      (134 : Int) < 135 ∧ 1000 ≤ 1000) ∧ (1 ≤ 4 ∧ 4 ≤ 4 ∧ 10 < 11 ∧ 2 ≤ 2) := by decide +kernel

/-! Drive stages -/

theorem test_hyps_StageEnergises :
    (let G := (wStg fun G => { G with energiseReq := true, st := 1, latch := 0, supLost := false }).stage .A; G.energiseReq = true ∧ G.st = 1 ∧ G.latch = 0 ∧
      G.supLost = false ∧ (18000 : Int) ≤ 18000 ∧ (56000 : Int) ≤ 56000 ∧ G.st ≠ 0 ∧ G.isolated = true) ∧
    (let G := (wStg fun G => { G with st := 2, rp := true, iso := .all true, energiseAt := 4 }).stage .A; G.st = 2 ∧ G.rp = true ∧ G.isoOn = true ∧ 16 ≤ 16 ∧
      ((50000 : Int) - 2000 ≤ 48000 ∧ (48000 : Int) ≤ 50000 + 2000) ∧ (47999 : Int) < 50000 - 2000 ∧ 7900003 < G.energiseAt + 7900000 ∧
      G.energiseAt + 7900000 ≤ 7900004 ∧ G.isolated = false) := by decide +kernel

def wReady (G : StageSt) : StageSt := { G with st := 3, rp := true, iso := .all true, stoIn := true, laneEn := true }
theorem test_hyps_StageProtects_StageProtectionTrips :
    (let G := (wStg fun G => { wReady G with blank := 40 }).stage .A; G.energised = true ∧ G.st ≠ 0 ∧ G.shortLatched = false ∧ G.lastDesat = none ∧ G.clampOff = false ∧
      G.clamp = false ∧ G.ocLevel < G.ocLevel + 1 ∧ (9999 < 10000 ∧ 10 ≤ 10) ∧ 58000 < 58001 ∧ (9999 < 10000 ∧ 1000 ≤ 1000) ∧
      (6000 < 6001 ∧ 100 ≤ 100) ∧ (2000 < 2001 ∧ 25 * G.blank ≤ 1000 ∧ ¬(6000 < 2001)) ∧ (¬(6000 < 2001 ∧ 100 ≤ 999) ∧ ¬(2000 < 2001 ∧ 25 * G.blank ≤ 999))) ∧
    (let G := (wStg fun G => { wReady G with stcmdAt := some 4, stcmdRun := 3, p := 5, clamp := true }).stage .A; 5 < 6 ∧ G.st ≠ 0 ∧ G.stcmdAt = some 4 ∧
      G.p = 4 + 1 ∧ G.stcmdRun = 3 ∧ G.clamp = true ∧ 53999 < 54000) ∧ ((wStg wReady).stage .A).stcmdAt = none := by decide +kernel

theorem test_hyps_StageProtects_LockoutOnSecondShort :
    (let G := (wStg fun G => { wReady G with shorts := [7] }).stage .A; G.st ≠ 0 ∧ G.ocLevel < G.ocLevel + 1 ∧ G.shortLatched = false ∧ 7 ∈ G.shorts ∧
      10000000007 ≤ 7 + 10000000000 ∧ ∀ u ∈ G.shorts, u + 10000000000 < 10000000008) ∧
    (let G := (wStg fun G => { wReady G with enSeen := false, lockout := true, latch := 0x8008 }).stage .A; G.en = true ∧ G.enSeen = false ∧ 20 ≤ 20 ∧
      G.lockout = true) ∧
    (let G := (wStg fun G => { wReady G with enSeen := false }).stage .A; G.en = true ∧ G.enSeen = false ∧ G.lockout = false) := by decide +kernel

theorem test_hyps_StageProtects_RearmAndIsolate :
    (State.reset.lane .A).st = stStandby ∧ ((wA (inSt 3)).lane .A).st = stArm ∧ ((wA (inSt 4)).lane .A).st = stDrive ∧ (State.reset.lane .A).up = true ∧
    0x3C97#16 ≠ 0x3C96#16 ∧
    (let s := (wA fun L => inSt 4 { L with safe := { L.safe with pulse := .all 1 } }).updStage .A fun G => { G with st := 1, latch := 0 };
      (s.lane .A).up = true ∧ nth (s.lane .A).safe.pulse (stgIx .A) = 1 ∧ (s.lane .A).st = stDrive ∧ (s.stage .A).st = 1 ∧ (s.stage .A).latch = 0 ∧
      (18000 : Int) ≤ 56000) ∧
    (let s := (wA fun L => inSt 4 { L with safe := { L.safe with pulse := .all 1 } }).updStage .A fun G => { G with st := 4, latch := 8 };
      nth (s.lane .A).safe.pulse (stgIx .A) = 1 ∧ (s.stage .A).latch ≠ 0) ∧
    (let G := (wStg fun G => { G with isolating := true, iso := ⟨true, false, false⟩ }).stage .A; G.isolating = true ∧ nth G.iso (legIx .U) = true ∧
      1999 < 2000 ∧ 5000 ≤ 5000) := by decide +kernel

def wClaim (c : Nat) : XFrame := ⟨1, c, 0, true, false, .all ⟨100, 300⟩, 0⟩
def wArb (a b : Nat) (G : StageSt) : StageSt := { wReady G with frames := ⟨some (wClaim a), some (wClaim b), none⟩, wPrev := some .A, acc := none, tie := false }
theorem test_hyps_ArbiterTakesHighestClaim :
    (let s := (wA fun L => { L with com := { L.com with stg := ⟨{ L.com.stg.a with frame := some (wClaim 7) }, L.com.stg.b, L.com.stg.c⟩ } }).updStage .A (wArb 7 3);
      (s.stage .A).st ≠ 0 ∧ (nth (s.lane .A).com.stg (stgIx .A)).frame = some (wClaim 7)) ∧
    (let G := (wStg (wArb 7 3)).stage .A; G.st ≠ 0 ∧ G.tie = false ∧ G.topLanes = [laneIx .A] ∧ G.wPrev = some .A) ∧
    (let G := (wStg fun G => { wArb 7 3 G with wPrev := none, acc := some .A }).stage .A; G.topLanes = [laneIx .A] ∧ G.acc = some .A) ∧
    2 ≤ ((wStg (wArb 5 5)).stage .A).topLanes.length ∧
    (let G := (wStg fun G => { wReady G with tie := true }).stage .A; G.st ≠ 0 ∧ G.tie = true) ∧
    (let G := (wStg wReady).stage .A; G.topLanes = [] ∧ G.acc = none) ∧ seqFollows none 1 5 = true ∧ (wClaim 0).claim % 8 = 0 := by decide +kernel

theorem test_hyps_NoLaneNoTorque : let g := (wStg fun G => { wArb 0 3 G with st := 3, wPrev := some .B }).stage .A
    g.st ≠ 0 ∧ g.tie = false ∧ g.acc = none ∧ g.wPrev = some .B ∧ g.topLanes = [laneIx .B] := by decide +kernel

/-! Measurement, position -/

theorem test_hyps_MeasurementResults_StatusFrameShowsStage : (State.reset.lane .A).up = true ∧ ((wStg wReady).stage .A).st ≠ 0 ∧
    1 ≤ nth ((wA fun L => { L with meas := { L.meas with lost := .all 1 } }).lane .A).meas.lost (stgIx .A) := by decide +kernel

def wLeg (short : Bool) : LegRes := ⟨some 5, none, none, short, false, false, false, false, 0⟩
theorem test_hyps_MeasurementResults_WindowResultsAndReconstruction :
    (let r : Tri LegRes := ⟨wLeg false, wLeg false, wLeg true⟩; (nth r 2).good = false ∧ ∀ j < 3, j ≠ 2 → (nth r j).good = true) ∧
    (let G := (wStg fun G => { wReady G with w := ⟨12720, 0, 0⟩ }).stage .A; G.st ≠ 0 ∧ nth G.w (legIx .U) ≠ 0) := by decide +kernel

def wLine : LineMeas := ⟨0, 0, 0, 0⟩
def wOw : Tri (Tri OwLeg) := .all (.all ⟨wLine, wLine, 9⟩)
def wOwBad : Tri (Tri OwLeg) := .all (.all ⟨⟨900000, 0, 0, 0⟩, wLine, 9⟩)
def wArming (L : LaneSt) : LaneSt :=
  let L := (toArm L).wr Reg.CLM_MATRIX_CLAIMS 0x7FFFFFF
  { L with meas := { L.meas with ofsWin := List.replicate 18 (List.replicate 128 655360000) } }
theorem test_hyps_OpenWireAndOffsets :
    (let L := (wA wArming).lane .A; L.up = true ∧ L.arming = true ∧ L.sys.stepFail = none ∧ L.assigned 2 = true ∧
      (∀ k < 3, armLeg (nth (nth wOw 0) k) = ((segGood, segGood), (segGood, segGood))) ∧
      (∀ k < 3, armLeg (nth (nth wOwBad 2) k) ≠ ((segGood, segGood), (segGood, segGood)))) ∧
    (∀ i < 3, ∀ j < 6, (((wA wArming).lane .A).offsetOf (6 * i + j)).any (fun x => !ofsBeyond x) = true) ∧
    ((wA (inSt 4)).lane .A).st = stDrive ∧ 1000000000 % 1000000000 = 0 := by decide +kernel
def wOwRun (L : LaneSt) : LaneSt :=
  let L := for3 (fun i L => for3 (fun j L => (L.put ((Reg.MEAS_LEG_STAT_LEG i j).bit 0) true).put ((Reg.MEAS_LEG_STAT_LEG i j).bit 1) false) L) (inSt 4 L)
  { L with meas := { L.meas with allOff := .all false, lineFault := .all (.all false), ow := .all ⟨some 1000000000, 10, none, false, 0⟩ } }
theorem test_hyps_OpenWireAndOffsets_step : let s := (wA wOwRun).updStage .A fun G => { G with since := 7 }
    (s.lane .A).st = stDrive ∧ (nth (s.lane .A).meas.ow (stgIx .A)).start = some 1000000000 ∧ 10 = (1500000000 - 1000000000) / 50000000 ∧ 10 < 11 ∧
    (nth (s.lane .A).meas.ow (stgIx .A)).step = 10 ∧ (s.lane .A).stepAllowed (stgIx .A) (10 / 4) (s.stage .A).since = true := by decide +kernel

theorem test_hyps_MeasurementResults_GeneralPurposeConversion : (State.reset.lane .A).up = true ∧ 1 < 2 ∧ (State.reset.lane .A).gpInput 0 = some 0 ∧
    (State.reset.lane .A).gpInput 1 = some 8 ∧ ((wA fun L => { L with meas := { L.meas with slot := 4 } }).lane .A).gpInput 0 = some 4 ∧
    ((wA fun L => { L with meas := { L.meas with g1Bad := true } }).lane .A).gpOut 1 = true := by decide +kernel

def wEncL (L : LaneSt) : LaneSt :=
  let L := ((L.put Reg.POS_ENC_CFG_ENABLE true).wr Reg.POS_ENC_CFG_DECODE 2).wr Reg.POS_ENC_CFG_FILT 3
  { L with pos := { L.pos with sigLoss := false } }
theorem test_hyps_EncoderAndHall_EncoderCountsAndLosses :
    (let L := (wA wEncL).lane .A; L.up = true ∧ L.on Reg.POS_ENC_CFG_ENABLE = true ∧ L.pos.sigLoss = false ∧
      ((L.rd Reg.POS_ENC_CFG_FILT + 1) * 25 ≤ 100 ∧ 99 < (L.rd Reg.POS_ENC_CFG_FILT + 1) * 25) ∧
      (1 = (4 + quad true false - quad L.pos.encA L.pos.encB) % 4 ∧ decodes (L.rd Reg.POS_ENC_CFG_DECODE) L.pos.encA true false = true) ∧
      (3 = (4 + quad false true - quad L.pos.encA L.pos.encB) % 4 ∧ decodes (L.rd Reg.POS_ENC_CFG_DECODE) L.pos.encA false true = true) ∧
      2 = (4 + quad true true - quad L.pos.encA L.pos.encB) % 4 ∧ (199 < 200 ∧ 1 ≤ 1)) ∧
    (let L := (wA fun L => { wEncL L with pos := { L.pos with sigLoss := true } }).lane .A; L.on Reg.POS_ENC_CFG_ENABLE = true ∧ L.pos.sigLoss = true ∧
      (L.rd Reg.POS_ENC_CFG_FILT + 1) * 25 ≤ 100) ∧
    (let L := (wA fun L => ((wEncL L).wr Reg.POS_SPD_STAT_ENC 3).wr Reg.POS_SPD_STAT_HALL 1).lane .A; L.rd (spdState 0) ≠ 0 ∧ L.rd (spdState 1) ≠ 0 ∧
      (L.spd 0).last + L.spdTimeout ≤ 10000000000) := by decide +kernel

def wIdx (mode zgate state count : Nat) (L : LaneSt) : LaneSt :=
  let L := (((((wEncL L).wr Reg.POS_IDX_CFG_MODE mode).wr Reg.POS_ENC_CFG_ZGATE zgate).wr Reg.POS_IDX_STAT_STATE state).wr Reg.POS_ENC_CFG_CPR 3999).wr
    (Reg.POS_CNT_COUNT 0) count
  { L.wr Reg.POS_IDX_CFG_TOL 3 with pos := { L.pos with enc := { L.pos.enc with dir := 1 } } }
theorem test_hyps_EncoderAndHall_IndexReferencesCount :
    (let L := (wA (wIdx 1 0 0 4003)).lane .A; L.up = true ∧ L.on Reg.POS_ENC_CFG_ENABLE = true ∧ L.rd Reg.POS_IDX_CFG_MODE = 1 ∧ L.pos.sigLoss = false ∧
      L.rd Reg.POS_ENC_CFG_ZGATE = 0 ∧ L.pos.enc.dir = 1 ∧ (L.rd Reg.POS_ENC_CFG_FILT + 1) * 25 ≤ 100 ∧ L.rd Reg.POS_IDX_STAT_STATE = 0 ∧
      (1#32).getLsbD 0 = true) ∧
    (let L := (wA (wIdx 2 1 1 4003)).lane .A; L.rd Reg.POS_IDX_CFG_MODE ≠ 0 ∧ L.rd Reg.POS_IDX_CFG_MODE ≠ 1 ∧ L.rd Reg.POS_ENC_CFG_ZGATE = 1 ∧
      L.rd Reg.POS_IDX_STAT_STATE = 1 ∧ indexError 4003 (L.rd Reg.POS_IDX_CFG_REF) L.cpr = 3 ∧ absN 3 ≤ L.rd Reg.POS_IDX_CFG_TOL) ∧
    (let L := (wA (wIdx 2 2 1 4004)).lane .A; L.rd Reg.POS_ENC_CFG_ZGATE = 2 ∧ L.rd Reg.POS_IDX_STAT_STATE = 1 ∧
      L.rd Reg.POS_IDX_CFG_TOL < absN (indexError 4004 (L.rd Reg.POS_IDX_CFG_REF) L.cpr)) ∧
    ((wA (wIdx 2 2 2 4004)).lane .A).rd Reg.POS_IDX_STAT_STATE = 2 := by decide +kernel

/-- Sectors of patterns 1 to 6 in the order of the patterns; 0 and 7 are no sector. -/
def wHall (sec bad : Nat) (L : LaneSt) : LaneSt :=
  let L := ((L.setReg 0x40050024 (BitVec.ofNat 32 (7 + 64 + 512 * 2 + 4096 * 3 + 32768 * 4 + 262144 * 5 + 2097152 * 7))).put Reg.POS_HALL_CFG_ENABLE true).wr
    Reg.POS_HALL_STAT_SECTOR sec
  { L with pos := { L.pos with hallInit := true, hallBad := bad } }
theorem test_hyps_EncoderAndHall_HallTransitionCounts : let L := (wA (wHall 0 1)).lane .A
    L.up = true ∧ L.on Reg.POS_HALL_CFG_ENABLE = true ∧ (L.rd Reg.POS_HALL_CFG_FILT + 1) * 25 ≤ 6400 ∧ L.rd Reg.POS_HALL_STAT_SECTOR = 0 ∧ L.hallSector 2 = 1 ∧
    L.hallSector 6 = 5 ∧ L.hallSector 3 = 2 ∧ L.hallSector 4 = 3 ∧ L.hallSector 5 = 4 ∧ 6 ≤ L.hallSector 7 ∧ 7 < 8 ∧ L.pos.hallInit = true ∧
    L.pos.hallBad = 1 := by decide +kernel

theorem test_hyps_AngleFusedAndCalibrated_AngleSampleCorrected : (State.reset.lane .A).up = true ∧ 2501 % 2500 ≠ 0 ∧ 2500 % 2500 = 0 ∧ (State.reset.lane .A).encFuses = false ∧
    ((wA fun L => { L with pos := { L.pos with tmrSeen := true } }).lane .A).pos.tmrSeen = true ∧
    ((wA fun L => { L with pos := { L.pos with tmrSeen := false } }).lane .A).pos.tmrSeen = false := by decide +kernel

theorem test_hyps_PositionPorts_ExtensionSnapshotCopies : (State.reset.lane .A).up = true ∧ (1#32).getLsbD 0 = true ∧ (State.reset.lane .A).pos.snapReq = false ∧
    (let L := (wA fun L => { L with time := 100000, pos := { L.pos with snapReq := true, wraps := ⟨1, -1, 0⟩ } }).lane .A; L.pos.snapReq = true ∧ L.time % 50000 = 0 ∧
      ∀ i < 3, absN (nth L.pos.wraps i) ≤ 1) ∧
    (let L := (wA fun L => { L with time := 100000, pos := { L.pos with snapReq := true, wraps := ⟨2, -2, 0⟩ } }).lane .A; 1 < absN (nth L.pos.wraps 1)) ∧
    ((wA fun L => { L with time := 100001 }).lane .A).time % 50000 ≠ 0 := by decide +kernel

/-- A revolution in 100 ms, the newest sample first. -/
def wRev (d : Int) : List RevSample := [⟨100000000, 7, 65536 * 3 + d, 9, 655360, false⟩, ⟨50000000, 32768, 65536 * 5 / 2, 8, 655360, false⟩, ⟨0, 7, 65536 * 2, 7, 655360, false⟩]
def wCal (d : Int) (vmax : Nat) (L : LaneSt) : LaneSt :=
  let L := (((L.put Reg.POS_CAL_CTL_EN true).wr Reg.POS_CAL_CTL_VMIN 1).wr Reg.POS_CAL_CTL_VMAX vmax).wr Reg.POS_CAL_STAT_REVS 14
  { L with pos := { L.pos with tmrValid := true, rev := wRev d, calWait := some ([5, -7], some 3) } }
theorem test_hyps_AngleFusedAndCalibrated_SelfCalibrationCollectsAndApplies : (let L := (wA (wCal 0 100)).lane .A
      L.up = true ∧ L.pos.rev.head? = some ⟨100000000, 7, 65536 * 3, 9, 655360, false⟩ ∧ L.pos.rev.getLast? = some ⟨0, 7, 65536 * 2, 7, 655360, false⟩ ∧
      (65536 ≤ absN ((65536 * 3 : Int) - 65536 * 2) ∧ L.calQualifies 655360 (65536 * 1000000000 / max (100000000 - 0) 1) 655360 = true ∧
        (L.pos.rev.map fun r => r.spd).foldl min 655360 = 655360 ∧ (L.pos.rev.map fun r => r.spd).foldl max 0 = 655360) ∧
      L.rd Reg.POS_CAL_STAT_REVS < 15 ∧ L.pos.calWait = some ([5, -7], some 3) ∧ L.rd Reg.POS_SPD_STAT_TMR = 0 ∧ L.time % 50000 = 0) ∧
    absN ((65536 * 3 - 1 : Int) - 65536 * 2) < 65536 ∧ ((wA (wCal 0 9)).lane .A).calQualifies 655360 655360 655360 = false ∧
    ((wA fun L => toArm (wCal 0 9 L)).lane .A).arming = true ∧ ((wA fun L => L.wr Reg.POS_SPD_STAT_TMR 3).lane .A).rd Reg.POS_SPD_STAT_TMR ≠ 0 := by
  decide +kernel

def wSent (tick : Nat) : SpIn := ⟨false, 2000, tick, [12, 12, 13, 14, 15, 16, 17, sentCrc [0, 1, 2, 3, 4, 5] + 12], true, 0, false, 0, true, true, none⟩
def wPsi (kbit : Nat) : SpIn := ⟨true, 2000, 0, [], true, kbit, true, 0x123, true, true, none⟩
def wSp (mode det bad : Nat) (L : LaneSt) : LaneSt :=
  let L := (L.wr Reg.POS_SP_CFG_PORT1 1).wr Reg.POS_SP_CFG_PORT2 1
  { L with pos := { L.pos with
      sp1 := { L.pos.sp1 with mode := mode, det := det, bad := bad, out := false, psi5On := false, rate := 3000, found := 0, lastAt := 5 }
      sp2 := { L.pos.sp2 with mode := mode, det := det, bad := bad, out := false, psi5On := true, rate := 189, found := 0 } } }
theorem test_hyps_PositionPorts_SpPortsDetectAndCheck :
    ([0, 2].all fun d => let L := (wA fun L => toArm (wSp 0 d 0 L)).lane .A
      L.up && L.spMode 0 == 1 && L.spMode 1 == 1 && L.arming && (L.sp 0).mode == 0 && (L.sp 0).det == d && (L.sp 0).found == 0 &&
      !(L.sp 0).psi5On && (L.sp 1).psi5On && L.spListens 0 (L.sys.started + 20000) && L.spListens 1 (L.sys.started + 22000000) &&
      L.spHeld 0 (wSent 3000) && L.spHeld 1 (wPsi 189) && spSound (wSent 3000) && spSound (wPsi 189) && sameTick 3000 (L.sp 0).rate &&
      (L.sp 1).rate == (wPsi 189).kbit) = true ∧
    ((State.reset.lane .A).spHeld 0 { wSent 3000 with hold := 24 } = false) ∧
    (let L := (wA (wSp 1 0 2)).lane .A; L.arming = false ∧ L.spUse 0 ≠ 0 ∧ L.spHeld 0 (wSent 3000) = true ∧ L.spFits 0 (wSent 3000) = true ∧
      L.spFits 0 (wPsi 189) = false ∧ (L.sp 0).bad = 2 ∧ (L.sp 0).out = false ∧ 3 ≤ 3 ∧ (L.sp 0).lastAt + 1000000 ≤ 1000005) := by decide +kernel

theorem test_hyps_PositionPorts_SsiTransactionChecked :
    (let L := (wA fun L => { (L.wr Reg.POS_SSI_CFG_BITS 12).put Reg.POS_SSI_CFG_GRAY true with pos := { L.pos with ssiBad := 2, ssiOut := false } }).lane .A;
      L.up = true ∧ 12 = min (L.rd Reg.POS_SSI_CFG_BITS) 32 ∧ 0 < 12 ∧ L.on Reg.POS_SSI_CFG_GRAY = true ∧ L.pos.ssiBad = 2 ∧ L.pos.ssiOut = false) := by
  decide +kernel

/-! Commutation -/

/-- Lane A in DRIVE with a command word for each stage. -/
def wMode (a b c : Nat) (L : LaneSt) : LaneSt :=
  { inSt 4 L with com := { L.com with words := [BitVec.ofNat 32 a, 50000, 0, 0, BitVec.ofNat 32 b, 70000, 0, 0, BitVec.ofNat 32 c, 0, 0, 0]
                                      next := [], posts := [] } }
theorem test_hyps_CommutationCommands_CommandFollowsMode : (let L := (wA (wMode 1 2 3)).lane .A; L.up = true ∧ 1 = (L.takeWords 0 0).modeNow 0 ∧
      2 = (L.takeWords 1 0).modeNow 1 ∧ L.rd Reg.COM_CFG_PWM ≠ 2 ∧ 3 = (L.takeWords 2 0).modeNow 2 ∧ 1 = stgIx .B) ∧
    (0 = ((State.reset.lane .A).takeWords 0 0).modeNow 0) := by decide +kernel

theorem test_hyps_CommutationCommands_CommitOrDeadline : (State.reset.lane .A).up = true ∧ (144000 % 50000 ≤ 44000 ∧ 44000 < 144001 % 50000) ∧
    ((wA fun L => { L with com := { L.com with posted := true } }).lane .A).com.posted = true ∧
    (let L := (wA fun L => { L with chn := { L.chn with sliced := some (7, 2) }, meas := { L.meas with slot := 7 } }).lane .A; L.chn.sliced = some (7, 2) ∧
      (7, 2).1 = L.meas.slot) ∧
    (let L := (wA fun L => { L with com := { L.com with posted := false } }).lane .A; L.com.posted = false ∧ L.mode = 0 ∧ L.chn.sliced = none) ∧
    (let L := (wA fun L => { (L.wr Reg.SYS_STATE_LANE_MODE 2).wr Reg.AGR_RSYNC_PHASE 4 with com := { L.com with posted := false } }).lane .A;
      L.up = true ∧ L.mode = 2 ∧ L.rd Reg.AGR_RSYNC_PHASE = 4 ∧ L.chn.sliced = none) := by decide +kernel

def wCst (f : ComStg → ComStg) (L : LaneSt) : LaneSt := { L with com := { L.com with stg := ⟨f L.com.stg.a, f L.com.stg.b, f L.com.stg.c⟩ } }
theorem test_hyps_CommutationCommands_LockLossAndFlyingStart :
    (let L := (wA (wCst fun c => { c with coast := some 65536, floatAt := some 3, capture := true, crossings := 2, barredArm := false, peakRuns := [(5, 2000000005)] })).lane .A;
      L.up = true ∧ (L.cst 0).coast = some 65536 ∧ (L.cst 0).floatAt = some 3 ∧ (L.cst 0).capture = true ∧ (L.cst 0).crossings = 2 ∧ (L.cst 0).barredArm = false ∧
      3 + L.rd Reg.COM_OBS_CFG_REACQ * 1000000 ≤ 10000000000 ∧ 3 + 2000000 ≤ 2000003 ∧ 2000000000 ≤ peakTotal (L.cst 0).peakRuns 2000000005 ∧
      peakTotal (L.cst 0).peakRuns 12000000005 = 0) ∧
    (let L := (wA fun L => wCst (fun c => { c with fly := some ⟨5, 7⟩ }) (((wMode 1 1 1 L).put Reg.COM_CFG_PROFILE false).wr Reg.POS_FUSE_CFG_PP 4
        |>.wr (Reg.POS_SPEED_SPEED 3) 0xF0000000)).lane .A; (L.cst 0).fly = some ⟨5, 7⟩ ∧ L.against 0 (L.icmdOf 0) = true ∧
      5 + L.rd Reg.COM_FLY_CFG2_TMO * 1000000 ≤ 5 + L.rd Reg.COM_FLY_CFG2_TMO * 1000000) := by decide +kernel

def wLearn (run : Bool) (jc : Nat) : Learn :=
  { at_ := 3, running := run, jc := jc, tc := 20000, icmd := [], prevV := none, lastW := none, acc := [], cnt := [], revMean := none, revSum := 0, revCnt := 0, done := true }
def wLearns (r : Learn) (L : LaneSt) : LaneSt :=
  let L := for3 (fun i L => ((L.put (Reg.STG_STAT_EN i) true).put (Reg.STG_STAT_LATCHED i) false).wr (Reg.CLM_STG_ACCEPTED i) 3) (wMode 1 1 1 L)
  { (L.put Reg.COM_CFG_PROFILE false).wr Reg.COM_LEARN_REF_ACC_REF 40 with com := { L.com with learn := some r } }
theorem test_hyps_LearningAndGraze_LearningRunCorrectsMap :
    (let L := (wA (wLearns (wLearn false 4))).lane .A; L.up = true ∧ L.com.learn = some (wLearn false 4) ∧ (wLearn false 4).running = false ∧ L.learnState = true ∧
      L.com.pending.length ≤ 256 ∧ L.rd Reg.COM_LEARN_REF_ACC_REF ≠ 0) ∧
    (let L := (wA fun L => { L with com := { L.com with learn := some (wLearn false 4) } }).lane .A; L.learnState = false) ∧
    ((wLearn true 126).running = true ∧ (wLearn true 126).done = true ∧ (wLearn true 126).jc < 127) := by decide +kernel

theorem test_hyps_LearningAndGraze_GrazeSpectrumOfSamples : let L := (wA fun L => { L.put Reg.COM_GRAZE_CFG_EN true with com := { L.com with graze := List.replicate 128 7 } }).lane .A
    L.up = true ∧ L.on Reg.COM_GRAZE_CFG_EN = true ∧ L.com.graze.length = 128 := by decide +kernel


/-! Safe stop -/

def wStop (f : SafeSt → SafeSt) (L : LaneSt) : LaneSt := { L with safe := f L.safe }
theorem test_hyps_SafeStops_StoLatchRemovesTorque :
    (let L := (wA fun L => wStop (fun x => { x with filter := 0, lineSince := 0, high := true }) (L.put Reg.SAFE_STAT_LATCH false)).lane .A; L.up = true ∧
      stoLimit ≤ L.stoAfter 1100 2000000 ∧ L.stoAfter 1099 2000000 < stoLimit ∧ L.on Reg.SAFE_STAT_LATCH = false) ∧
    (((wA fun L => L.setReg 0x40080000 0x39000000).lane .A).stoSrc 0 = laneIx .A + 1) := by decide +kernel

theorem test_hyps_SafeStops_SafeRequestsByKey : (State.reset.lane .A).up = true ∧ bitN (0b100#3).toNat 2 = true ∧ bitN (0b011#3).toNat 2 = false ∧ 0xC3A4#16 ≠ 0xC3A5#16 := by
  decide +kernel

def wSs1 (src : StopSrc) : Ss1 := { src := src, v0 := 4000, t0 := 7, still := 200 }
theorem test_hyps_SafeStopsEnd_Ss1EndsInSto : let L := (wA (wStop fun x => { x with ss1 := ⟨some (wSs1 .app), some (wSs1 .mbx), some (wSs1 .fold)⟩ })).lane .A
    L.up = true ∧ (nth L.safe.ss1 0 = some (wSs1 .app) ∧ nth L.safe.ss1 1 = some (wSs1 .mbx) ∧ nth L.safe.ss1 2 = some (wSs1 .fold)) ∧ 200 ≤ (wSs1 .app).still ∧
    (wSs1 .app).t0 + L.rd Reg.SAFE_SS1_CFG2_TMAX * 1000000 ≤ 7 + L.rd Reg.SAFE_SS1_CFG2_TMAX * 1000000 := by decide +kernel

theorem test_hyps_SafeStopsEnd_ResetByAcknowledge :
    (let L := (wA fun L => wStop (fun x => { x with ackEdge := some 4, filter := 0, high := true, lineSince := 0, laneStart := 0, pendAt := 3 })
        (L.put Reg.SAFE_STAT_RESET_PEND true)).lane .A; L.up = true ∧ (10000 ≤ 10000 ∧ L.safe.laneStart + 10000000 ≤ 10000000) ∧ L.safe.ackEdge = some 4 ∧
      4 + 10000000 ≤ 10000004 ∧ L.stoCount 10000004 = 0 ∧ L.on Reg.SAFE_STAT_RESET_PEND = true ∧ L.safe.pendAt + 200000000 ≤ 200000003) ∧
    (let L := (wA (wStop fun x => { x with filter := 90000, high := true, lineSince := 10000003, ackEdge := some 4 })).lane .A; L.safe.ackEdge = some 4 ∧
      L.stoCount 10000004 ≠ 0) := by decide +kernel

/-! Agreement and claims -/

def wAgr (f : AgrSt → AgrSt) (L : LaneSt) : LaneSt := { L with agr := f L.agr }
def wMsg : AgrMsg := ⟨1, .B, 0, 2, false, false, false, 7, 9, [], 3, 4⟩
/-- Lane A in its rounds, in slot 2 of basic cycle 0, round 9, with a pair key. -/
def wRound (L : LaneSt) : LaneSt :=
  let L := ((L.wr Reg.SEC_LC_STATE 2).wr Reg.AGR_SEQ_SLOT 2).wr Reg.AGR_SEQ_ROUND 9
  { wAgr (fun a => { a with paused := false, first := false, token := 1, own := some { wMsg with lane := .A } }) L with
    sec := { L.sec with keys := { L.sec.keys with lpkLo := [7], lpkHi := [] } } }

/-- A message is verified once its tag for the receiver is the one that the pair key gives. -/
theorem verifies_tagged (L : LaneSt) (m : AgrMsg) (h : m.lane = .B) (k : L.sec.keys.lpkLo ≠ []) :
    L.verifies .A { m with tagLo := tag64 L.sec.keys.lpkLo (msgBytes m) [] } = true := by
  show (!(L.pairKey .A m.lane).isEmpty && tag64 (L.pairKey .A m.lane) (msgBytes m) [] ==
    (if Lane.A = (otherLanes m.lane).1 then tag64 L.sec.keys.lpkLo (msgBytes m) [] else m.tagHi)) = true
  rw [show L.pairKey .A m.lane = L.sec.keys.lpkLo by rw [h]; rfl, show (otherLanes m.lane).1 = .A by rw [h]; rfl]
  simp [k]
def wSigned : AgrMsg := { wMsg with tagLo := tag64 ((wA wRound).lane .A).sec.keys.lpkLo (msgBytes wMsg) [] }
theorem test_hyps_CopiesDecideMessage_verified : ((wA wRound).lane .A).inSequence wSigned = true ∧ ((wA wRound).lane .A).verifies .A wSigned = true :=
  ⟨by decide +kernel, verifies_tagged _ _ rfl (by decide +kernel)⟩
theorem test_hyps_CopiesDecideMessage :
    (let L := (wA wRound).lane .A; L.inRounds = true ∧ wMsg.lane ≠ .A ∧ L.inSequence { wMsg with slot := 3 } = false ∧ L.inSequence { wMsg with seq := 8 } = false ∧
      219 ≠ 220 ∧ L.agr.token = laneIx .A + 1 ∧ L.rd Reg.AGR_SEQ_SLOT = 2 ∧ (wMsg.slot == 2 && wMsg.cyc % 32 == cycleOf L.time % 32) = true) ∧
    ((decideCopies (some wMsg) (some { wMsg with seq := 8 })).2 = true ∧ (decideCopies (some wMsg) none).1 = some wMsg ∧ (decideCopies none none).1 = none) := by
  decide +kernel

theorem test_hyps_VoteOutvotesOneLane : 2 ≤ [7, 9, 7].count (7 : Int) ∧ ((7 : Int) ≠ 8 ∧ (7 : Int) ≠ 9 ∧ (8 : Int) ≠ 9) ∧
    ((voteOf 0 10 [(0, 7), (1, 7)]).value = some 7 ∧ (voteOf 1 10 [(0, 7), (1, 10)]).value = some 8 ∧ (voteOf 2 10 [(0, 7), (1, 20)]).conflict = true) ∧
    ((0 : Int) ≤ 65535 ∧ (65535 : Int) < 65536) := by decide +kernel

theorem test_hyps_VoteOutvotesOneLane_ConflictOfTwoSettled : (FieldVote.ok 5).conflict = false ∧ (⟨none, [], true, false⟩ : FieldVote).conflict = true ∧ 2 ≠ 3 ∧
    ((State.reset.lane .A).fieldRule 31).2.2.2 = false := by decide +kernel

theorem test_hyps_VotesPostedAndCounted_VoteEntersHistory : let L := (wA wRound).lane .A
    L.inRounds = true ∧ L.agr.own = some { wMsg with lane := .A } := by decide +kernel

theorem test_hyps_VoteOutvotesOneLane_OddLaneWithdraws : (State.reset.lane .A).fc.hold = false ∧ (State.reset.lane .A).on Reg.DBG_CHK_STAT_CORE_MODE = false ∧
    2 < 3 ∧ bitN 4 2 = true := by decide +kernel

theorem test_hyps_VotesPostedAndCounted_SlotStartTurnsPosting : (State.reset.lane .A).up = true ∧ 100000 % 50000 = 0 ∧
    ((((State.reset.lane .A).tick 100000).resume 100000).mbxSlot .A).up = true := by decide +kernel

/-- Lane A in RESYNC, in phase `ph`, with the lanes of `v` voting, in basic cycle 16. -/
def wRsync (ph v : Nat) (f : AgrSt → AgrSt) (L : LaneSt) : LaneSt :=
  { wAgr (fun a => f { a with nr := some 16, retryAt := none, pkg := .all none, fails := [], shadow := 0, rsyncSent := some 15, pkgAt := 5200000 })
      (((L.wr Reg.SYS_STATE_LANE_MODE 2).wr Reg.AGR_RSYNC_PHASE ph).wr Reg.SYS_STATE_VOTING v) with time := 4000000 }
def wResPkg (L : LaneSt) : Package :=
  ⟨L.rd Reg.AGR_STAT_VERSION, .B, .A, 16, 0, .all 5, .all 0, .all [1], .all [2], [], [3], 0, [], .all 0, []⟩
theorem test_hyps_ResyncReturnsLane :
    (let L := (wA fun L => { L with time := 4000000 }).lane .A; L.up = true ∧ L.mode = 0 ∧ 16 = cycleOf L.time) ∧
    (let L := (wA (wRsync 1 2 id)).lane .A; L.agr.rsyncSent = some 15 ∧ 15 < 16 ∧ 16 = cycleOf L.time ∧ L.mode = 2 ∧ L.rd Reg.AGR_RSYNC_PHASE = 1 ∧
      L.agr.retryAt = none ∧ L.sendersNeeded ≤ L.otherVoters .A) ∧
    (let L := (wA (wRsync 6 0 id)).lane .A; L.rd Reg.AGR_RSYNC_PHASE = 6 ∧ L.otherVoters .A < L.sendersNeeded) ∧
    (let L := (wA (wRsync 2 2 id)).lane .A; L.mode = 2 ∧ L.rd Reg.AGR_RSYNC_PHASE = 2 ∧ (wResPkg L).sender = .B ∧ (wResPkg L).target = .A ∧
      L.agr.nr = some (wResPkg L).nr ∧ L.agr.pkg = .all none ∧ (wResPkg L).version = L.rd Reg.AGR_STAT_VERSION ∧ max L.sendersNeeded (L.otherVoters .A) = 1 ∧
      ((5000001 :: L.agr.fails).filter fun u => 5000001 ≤ u + 10000000000).length < 3 ∧ (16 * 250000 + 1000000 < 5000001 ∧ 5000000 ≤ 16 * 250000 + 1000000)) ∧
    1 < max ((wA (wRsync 2 6 id)).lane .A).sendersNeeded (((wA (wRsync 2 6 id)).lane .A).otherVoters .A) := by decide +kernel
theorem test_hyps_ResyncReturnsLane_end :
    (let L := (wA (wRsync 3 2 id)).lane .A; L.mode = 2 ∧ L.rd Reg.AGR_RSYNC_PHASE = 3 ∧ L.agr.nr = some 16 ∧ (7200000 ≤ 16 * 250000 + 3200000 ∧
      7200000 ≤ L.agr.pkgAt + 2000000 ∧ 16 * 250000 + 3200000 < 7200001) ∧ ((7200001 :: L.agr.fails).filter fun u => 7200001 ≤ u + 10000000000).length < 3) ∧
    (let L := (wA (wRsync 4 2 id)).lane .A; L.mode = 2 ∧ L.rd Reg.AGR_RSYNC_PHASE = 4 ∧ L.agr.shadow = 0) ∧
    (let L := (wA (wRsync 1 2 fun a => { a with retryAt := some 9 })).lane .A; L.agr.retryAt = some 9 ∧ 9 ≤ 9 ∧ L.mode = 2 ∧ L.on Reg.AGR_RSYNC_LOCKOUT = false) := by
  decide +kernel

theorem test_hyps_VersionExchangeTakesCommon : Lane.B ≠ Lane.A ∧ Lane.B = (otherLanes .A).1 ∧ Lane.C ≠ (otherLanes .A).1 ∧
    (let L := (wA fun L => wAgr (fun a => { a with vmin := 1, vmax := 5, ranges := .all none, unverified := .all false }) (L.put Reg.SEC_KEY_STAT_MSK true)).lane .A;
      L.linked = true ∧ L.on Reg.SEC_KEY_STAT_MSK = true ∧ (L.agr.vmin ≤ 5 ∧ 5 ≤ L.agr.vmax) ∧ L.agr.vmax < 6 ∧ L.agr.ranges = .all none ∧
      L.agr.unverified = .all false ∧ max 3 L.agr.vmin ≤ min 7 L.agr.vmax ∧ min 8 L.agr.vmax < max 6 L.agr.vmin) ∧
    (nth ((wA (wAgr fun a => { a with unverified := ⟨false, false, true⟩ })).lane .A).agr.unverified (laneIx .C) = true) := by decide +kernel

theorem test_hyps_VotesPostedAndCounted_BasicCycleShowsCounts : (State.reset.lane .A).up = true ∧ 500000 % 250000 = 0 ∧ (State.reset.lane .A).mode ≠ 2 ∧
    (let L := (wA (wRsync 3 2 fun a => { a with caughtUp := true })).lane .A; L.mode = 2 ∧ L.rd Reg.AGR_RSYNC_PHASE = 3 ∧ L.agr.caughtUp = true) := by decide +kernel

/-! Churn -/

def wChn (f : ChnSt → ChnSt) (L : LaneSt) : LaneSt :=
  { wAgr (fun a => { a with token := 1 }) L with chn := f { L.chn with active := true } }
theorem test_hyps_ChurnTestsAndRepairs_ChurnSliceJudged : let L := (wA (wChn fun c => { c with missed := List.replicate 8 2 })).lane .A
    (L.mayScan .A 6 0 = true ∧ L.mayScan .A 7 0 = true ∧ 40000 ≤ 40000) ∧ (L.chn.missed.getD 6 0).testBit 0 = false ∧
    (L.chn.missed.getD 6 0).testBit 1 = true ∧ L.mayScan .A 6 1 = true := by decide +kernel

theorem test_hyps_ChurnTestsAndRepairs_ChurnZeroiseCoverageCopies :
    (let L := (wA (wChn fun c => { c with missed := List.replicate 8 2, since := 0, copyOwn := 10, copyTk := 12 })).lane .A; L.up = true ∧ L.mayScan .A 6 49 = true ∧
      1 ≤ 1 ∧ (L.chn.missed.getD 6 0).testBit 49 = false ∧ L.on Reg.CHN_STAT_OVERDUE = false ∧ L.chn.since + 1000000000 ≤ 1000000000 ∧
      L.testsCopy .A (stgIx .A) = true) ∧
    ((wA fun L => L.put Reg.CHN_STAT_OVERDUE true).lane .A).on Reg.CHN_STAT_OVERDUE = true := by decide +kernel

theorem test_hyps_ChurnTestsAndRepairs_SpareUnitTakesOver : (State.reset.lane .A).up = true ∧
    (let L := (wA (wChn fun c => { c with done2 := 30, done3 := 15 })).lane .A; 30 ≤ L.chn.done2 ∧ 15 ≤ L.chn.done3) ∧
    ((wA (wChn fun c => { c with done2 := 29 })).lane .A).chn.done2 < 30 := by decide +kernel

/-! Transitions, wake, start -/

def wPhase (st target : Nat) (L : LaneSt) : LaneSt := ((inSt st L).wr Reg.SYS_STATE_TARGET target).wr Reg.SYS_STATE_PHASE 2
theorem test_hyps_TransitionEndsInTarget : (let s := wAll (wPhase 3 4); let L := s.lane .A; L.up = true ∧ 150000 % 50000 = 0 ∧ L.rd Reg.SYS_STATE_PHASE = 2 ∧
      stDrive = L.rd Reg.SYS_STATE_TARGET ∧ L.arming = false ∧ s.inStep .A .A = true ∧ s.inStep .A .B = true ∧ (s.lane .B).sys.fold = false ∧
      (wA (wPhase 3 4)).inStep .A .B = false) ∧
    (let L := (wA (wPhase 4 3)).lane .A; L.rd Reg.SYS_STATE_TARGET = stArm ∧ L.st = stDrive ∧ L.arming = false) ∧
    (let L := (wA (wPhase 3 2)).lane .A; L.rd Reg.SYS_STATE_TARGET = stStandby ∧ L.st ≠ stStandby ∧ L.sys.fold = false ∧ L.arming = false) ∧
    (let L := (wA (wPhase 2 1)).lane .A; L.rd Reg.SYS_STATE_TARGET = stPark ∧ L.sys.fold = false ∧ L.arming = false) ∧
    (let L := (wA fun L => { wPhase 5 2 L with sys := { L.sys with fold := true } }).lane .A; L.st = stFold ∧ L.rd Reg.SYS_STATE_TARGET = stStandby) ∧
    (((wA fun L => L.wr Reg.SYS_STATE_LANE_MODE 3).lane .A).mode = 3 ∧ ((wGdn fun G => { G with asleep := true }).gdn .X).asleep = true) := by decide +kernel

def wPark (b : BootPhase) (n : Nat) (reg : Bool) (L : LaneSt) : LaneSt :=
  { (((inSt 1 L).setReg 0x40000018 0x3F).wr Reg.SYS_WAKE_TIMER_PERIODS 3) with
      sys := { L.sys with boot := b, tries := n, parkAt := 0 }, pwr := { L.pwr with regulator := reg } }
theorem test_hyps_WakeBringsLaneUp :
    (let L := (wA (wPark .none 0 false)).lane .A; L.sleeps = true ∧ (∀ n < 6, L.wakeable n 3000000000 = true) ∧ 4 ≠ 5 ∧ 1000 ≤ 1000 ∧
      (50 * L.rd Reg.SYS_WAKE_CFG_MOTION_THR < 100000 ∧ 2000 ≤ 2000)) ∧
    (let G := (wGdn fun G => { G with waking := ⟨true, false, false⟩ }).gdn .X; nth G.waking (laneIx .A) = true) ∧
    (State.reset.supplies .X = true ∧ (wAll (inSt 0)).supplies .X = false) ∧
    (Lane.A = (suppliers .X).1 ∨ Lane.A = (suppliers .X).2) ∧ (Lane.B ≠ (suppliers .X).1 ∧ Lane.B ≠ (suppliers .X).2) ∧
    (let L := (wA (wPark .wake 1 false)).lane .A; L.st = stPark ∧ L.sys.boot = .wake ∧ L.sys.tries < 2 ∧ L.pwr.regulator = false) ∧
    2 ≤ ((wA (wPark .wake 2 false)).lane .A).sys.tries ∧
    (let L := (wA fun L => (wPark .wake 0 true L).put Reg.SYS_CLK_STAT_XTAL_OK false).lane .A; L.st = stPark ∧ L.sys.boot = .wake ∧ L.pwr.regulator = true ∧
      L.on Reg.SYS_CLK_STAT_XTAL_OK = false) := by decide +kernel

/-- A lane without an image, with bank A committed. -/
def wNvm (L : LaneSt) : LaneSt :=
  { L.wr Reg.SEC_LC_STATE 2 with nvm := { L.nvm with
      bankA := { state := .committed, seq := 3, svn := 9, len := 5, verified := true, digest := [] }
      bankB := { state := .committed, seq := 2, svn := 9, len := 5, verified := true, digest := [] }
      rollback := 5 } }
theorem test_hyps_StartEndsInStandby :
    (let L := (wA fun L => wPark .woken 0 true (wNvm L)).lane .A; L.st = stPark ∧ L.sys.boot = .woken ∧ (L.bootBank true true 2).2 = true ∧
      (L.bootBank false false 2).2 = false ∧ L.lc ≠ lcDecommissioned ∧ L.mode = 0 ∧ L.slotRec false = none ∧ L.slotRec true = none ∧
      L.on Reg.DBG_CHK_STAT_CORE_MODE = false) ∧
    (((wA fun L => inSt 0 (wNvm L)).lane .A).st = stOff ∧ (17000 : Int) < 17001) ∧ false = State.reset.othersVote .A ∧
    ((wA fun L => L.wr Reg.SEC_LC_STATE 5).lane .A).lc = lcDecommissioned ∧ (Lane.A = (suppliers .X).1 ∨ Lane.A = (suppliers .X).2) := by decide +kernel

theorem test_hyps_StartEndsInStandby_RecoveryLoadAndGuardianLoss :
    (let L := (wA fun L => { wNvm L with sys := { L.sys with boot := .romRecovery } }).lane .A; L.up = true ∧ L.sys.boot = .romRecovery ∧ L.lc ≠ lcDecommissioned ∧
      L.nvm.rollback ≤ 5) ∧
    (let s := wAll (inSt 0); (s.lane (suppliers .X).1).st = stOff ∧ (s.lane (suppliers .X).2).st = stOff ∧ (s.gdn .X).powered = true) := by decide +kernel

/-! Flock time and buffers -/

theorem test_hyps_MidpointToleratesFaults : (let d : List (Nat × Int) := [(1, 5), (2, -7), (3, 9999)]; 3 ≤ d.length ∧
      (d.filter fun x => decide (x.2 < (-10 : Int)) || decide ((10 : Int) < x.2)).length ≤ (if d.length ≤ 7 then 1 else 2)) ∧
    (let d : List (Nat × Int) := [(1, 5), (2, -7), (3, 9999), (4, 1), (5, 2), (6, 3), (7, 4), (8, -9999)];
      (d.filter fun x => decide (x.2 < (-10 : Int)) || decide ((10 : Int) < x.2)).length ≤ (if d.length ≤ 7 then 1 else 2)) := by decide

/-- A schedule of three windows of matrix position 1: number 2 on each channel, and 3 on channel Y, arbitrating. -/
def wSched : Cells Word := [(100, 0x010500C8#32), (101, 0x00080009#32), (6244, 0x030500C8#32), (6245, 0x00080009#32), (6246, 0x020500FA#32), (6247, 0x00080009#32)]
/-- A frame of matrix position 1, window 2, as `sender` sends it at 270 µs, under the group key [7]. -/
def wFrame (typ sender : Nat) : FlockFrame :=
  { version := 1, typ := typ, sender := sender, chY := false, looped := false, localSync := false, startup := false, hops := 0, window := 2, matrix := 1
    txTime := 270000, corr := 0, priority := 0, seq := 0, payload := if [1, 2, 7].contains typ then leBytes 4 0 ++ leBytes 8 5 ++ leBytes 4 0 else []
    tag := 0, fcsOk := true }
def tagged (f : FlockFrame) : FlockFrame := { f with tag := frTag [7] f }
def forged (f : FlockFrame) : FlockFrame := { f with tag := ~~~(frTag [7] f) }
theorem tagged_authentic (f : FlockFrame) : frAuthentic [7] (tagged f) = true := by
  show (!([7] : List Byte).isEmpty && frTag [7] f == frTag [7] f) = true
  simp
theorem forged_fails (f : FlockFrame) : frAuthentic [7] (forged f) = false := by
  show (!([7] : List Byte).isEmpty && ~~~(frTag [7] f) == frTag [7] f) = false
  simp

/-- Lane A's and guardian X's keepers, with the group key. -/
def wKeep (f : KeeperSt → KeeperSt) (L : LaneSt) : LaneSt :=
  let L := ((L.updFlk fun k => { k with digest := 5, sched := wSched }).updKeeper f).wr Reg.SEC_LC_STATE 2
  { L with sec := { L.sec with keys := { L.sec.keys with group := [7] } } }
def wG (f : GuardianSt → GuardianSt) : State := (wAll (wKeep id)).updGdn .X fun G => f { G with
  powered := true, sched := wSched, digest := 5, node := 1, margin := 300, keeper := { G.keeper with st := kSynced }
  east := { G.east with broken := false, blocked := none, loop := false, link := true }
  west := { G.west with broken := false, blocked := none, loop := false, link := true } }

/-- The authentic and the forged frames of the witnesses below. -/
theorem test_hyps_frames : (∀ f, frAuthentic ((wA (wKeep id)).lane .A).sec.keys.group (tagged f) = true) ∧
    (∀ f, frAuthentic ((wA (wKeep id)).lane .A).sec.keys.group (forged f) = false) ∧
    (∀ f, frAuthentic ((wG id).groupKey .X) (tagged f) = true) ∧ ∀ f, frAuthentic ((wG id).groupKey .X) (forged f) = false := by
  have a : ((wA (wKeep id)).lane .A).sec.keys.group = [7] := by decide +kernel
  have g : (wG id).groupKey .X = [7] := by decide +kernel
  rw [a, g]
  exact ⟨tagged_authentic, forged_fails, tagged_authentic, forged_fails⟩

/-- What the statements ask of a frame beside its tag. -/
theorem test_hyps_KeepersTakeTime_SyncFrameTakesTime :
    (let L := (wA (wKeep fun k => { k with st := kListen, onLocal := false })).lane .A; L.linked = true ∧ L.blank = false ∧ (wFrame 1 9).fcsOk = true ∧
      frFormOk (wFrame 1 9) = true ∧ (wFrame 1 9).typ = 1 ∧ frSched (wFrame 1 9) = L.flk.digest ∧ L.flk.keeper.onLocal = false ∧ L.flk.keeper.st = kListen ∧
      frSched { wFrame 1 9 with payload := leBytes 16 0 } ≠ L.flk.digest) ∧
    (let G := (wG fun G => { G with keeper := { G.keeper with st := kListen } }).gdn .X; G.powered = true ∧ G.keeper.st = kListen ∧ frFormOk (wFrame 2 9) = true ∧
      frSched (wFrame 1 9) = G.digest ∧ frSched (wFrame 2 9) = G.digest ∧ (wFrame 2 9).typ = 2) := by decide +kernel

def wCopies (a b c : Int) (st : Nat) (k : KeeperSt) : KeeperSt :=
  { k with st := st, copies := [(1, false, a), (2, true, b), (3, false, c)], passive := 64, inStartup := false, sentSync := false, corrAt := some 15 }
theorem test_hyps_OffsetRatePassive :
    (let L := (wA (wKeep (wCopies 500 500 500 kSynced))).lane .A; let k := L.flk.keeper; L.linked = true ∧ k.st = kSynced ∧ k.inStartup = false ∧ 450000 % 250000 = 200000 ∧
      absN (ftmOffset k.deviations) ≤ 500 ∧ k.sentSync = false ∧ 15 % 8 = 7 ∧ k.corrAt = some 15 ∧ 16 % 8 ≠ 7) ∧
    (let k := ((wA (wKeep (wCopies 501 501 501 kSynced))).lane .A).flk.keeper; k.st = kSynced ∧ 500 < absN (ftmOffset k.deviations)) ∧
    (let L := (wA fun L => inSt 2 (wKeep (wCopies 0 0 0 kPassive) L)).lane .A; L.linked = true ∧ L.flk.keeper.st = kPassive ∧ 64 ≤ L.flk.keeper.passive ∧ L.st = stStandby) ∧
    (let G := (wG fun G => { G with keeper := wCopies 1 2 3 kSynced G.keeper }).gdn .X; G.powered = true ∧ G.keeper.st = kSynced ∧ G.keeper.corrAt = some 15) ∧
    (let s := wG fun G => { G with keeper := wCopies 1 2 3 kPassive G.keeper }; (s.gdn .X).keeper.st = kPassive ∧ 64 ≤ (s.gdn .X).keeper.passive ∧
      (s.lane .A).st = stStandby ∧ (s.lane .B).st = stStandby ∧ (s.lane .C).st = stStandby) := by decide +kernel

def wCold (L : LaneSt) : LaneSt :=
  let L := (((L.put Reg.FLK_CFG_SYNC_NODE true).put Reg.FLK_CFG_COLDSTART true).wr Reg.FLK_CFG_NODE 1).put Reg.SYS_CLK_STAT_RC_FALLBACK false
  { L with nvm := { L.nvm with inForce := true } }
theorem test_hyps_KeepersTakeTime_ColdStartAndLocalTime :
    (let L := (wA fun L => wCold (wKeep (fun k => { k with st := kListen, since := 0, onLocal := false, barred := false, late := false }) L)).lane .A; L.linked = true ∧
      L.blank = false ∧ L.flk.keeper.st = kListen ∧ L.coldCapable = true ∧ L.flk.keeper.since + ((L.listenTime .A : Nat) : Int) ≤ 1000000000 ∧
      frFormOk (wFrame 2 8) = true ∧ (wFrame 2 8).typ = 2 ∧ L.flk.keeper.onLocal = false ∧ frSched (wFrame 2 8) = L.flk.digest ∧
      frFormOk (wFrame 7 9) = true ∧ (wFrame 7 9).typ = 7 ∧ (wFrame 7 9).fcsOk = true ∧ L.rd Reg.FLK_CFG_NODE ≠ 0 ∧ L.flk.keeper.st ≠ kSynced ∧ L.flk.keeper.st ≠ kPassive ∧
      L.flk.keeper.late = false ∧ L.flk.keeper.since + 3000000 ≤ 3000000) ∧
    ((wA (wKeep fun k => { k with st := kListen, since := 0 })).lane .A).coldCapable = false ∧
    (let L := (wA fun L => wCold (wKeep (fun k => { k with st := kCold, coldAt := some 100, onLocal := false }) L)).lane .A; L.flk.keeper.st = kCold ∧
      L.flk.keeper.coldAt = some 100 ∧ 250099 < 100 + 250000 ∧ (wFrame 2 8).sender < L.senderId .A ∧ (wFrame 2 9).sender = L.senderId .A ∧
      L.senderId .A < (wFrame 2 200).sender) ∧
    (let L := (wA (wKeep fun k => { k with st := kSynced, onLocal := true })).lane .A; L.flk.keeper.onLocal = true ∧ L.flk.keeper.st = kSynced ∧
      490000 % 250000 = 240000 + 3000 * laneIx .A) ∧
    ((wA fun L => L.wr Reg.SEC_LC_STATE 0).lane .A).blank = true := by decide +kernel

def wCpi (L : LaneSt) : LaneSt := (wKeep (fun k => { k with st := kSynced }) L).updFlk fun f => { f with
  cpiCfg := [(15, (Reg.FLK_CPI_CFG_EN 15).set ((Reg.FLK_CPI_CFG_OFFSET 15).set 0 2499) 1)], cpiPend := 0x8000, cpiLast := [] }
theorem test_hyps_KeepersTakeTime_StartupCompleteAndCyclePoints :
    (let L := (wA (wKeep fun k => { k with st := kCold, coldAt := some 16000000 })).lane .A; L.linked = true ∧ L.flk.keeper.st = kCold ∧
      L.flk.keeper.coldAt = some 16000000 ∧ cycleOf 16000000 = 64 ∧ 67 % 64 = 3 ∧ 64 ≤ 67 ∧ 67 < 64 + 4) ∧
    (let G := (wG fun G => { G with keeper := { G.keeper with adoptAt := some 64, inStartup := true } }).gdn .X; G.powered = true ∧ G.keeper.adoptAt = some 64 ∧
      G.keeper.inStartup = true ∧ G.keeper.st = kSynced) ∧
    (let L := (wA wCpi).lane .A; let c := cellGet (fun _ => 0#32) L.flk.cpiCfg 15; (Reg.FLK_CPI_CFG_EN 15).get c = 1 ∧ (Reg.FLK_CPI_CFG_OFFSET 15).get c < 2500 ∧
      499900 % 250000 = (Reg.FLK_CPI_CFG_OFFSET 15).get c * 100 ∧ L.flk.keeper.st = kSynced ∧
      selects ((Reg.FLK_CPI_CFG_REP 15).get c) ((Reg.FLK_CPI_CFG_BASE 15).get c) (cycleOf 499900 % 64) = true ∧
      cellGet (fun _ => 0) L.flk.cpiLast 15 ≠ cycleOf 499900 + 1 ∧ L.flk.cpiPend.getLsbD 15 = true) ∧
    cellGet (fun _ => 0) ((wA fun L => (wCpi L).updFlk fun f => { f with cpiLast := [(15, 2)] }).lane .A).flk.cpiLast 15 = cycleOf 499900 + 1 := by decide +kernel

theorem test_hyps_SkimLosesHalfAStep : skimModular 0x0F = false ∧ 4 ≤ 4 ∧ [0, 1, -1, 32767, -32768, 5, 6, 7, 8, (9 : Int)].length = 10 ∧
    ∀ x ∈ [0, 1, -1, 32767, -32768, 5, 6, 7, 8, (9 : Int)], -32768 ≤ x ∧ x ≤ 32767 := by decide

def wBufs (loc : Bool) (L : LaneSt) : LaneSt :=
  let L := (wKeep (fun k => { k with st := kSynced, onLocal := loc, done := true, syncAt := 0 }) L).updFlk fun f =>
    { f with tx := [(0, ⟨[1, 2, 3], 265000, [9], true⟩)], got := [], mbxBufs := 0, mbxWins := [] }
  let L := (((((L.put (Reg.FLK_BUF_CFG_EN 0) true).wr (Reg.FLK_BUF_CFG_DIR 0) 1).wr (Reg.FLK_BUF_CFG_CH 0) 3).wr (Reg.FLK_BUF_CFG_WINDOW 0) 2).wr (Reg.FLK_BUF_CFG_REP 0) 0).wr
    (Reg.FLK_BUF_CFG_SENDER 0) 9
  let L := (((((L.put (Reg.FLK_BUF_CFG_EN 4) true).wr (Reg.FLK_BUF_CFG_DIR 4) 0).wr (Reg.FLK_BUF_CFG_CH 4) 1).wr (Reg.FLK_BUF_CFG_WINDOW 4) 2).wr (Reg.FLK_BUF_CFG_REP 4) 0).wr
    (Reg.FLK_BUF_CFG_SENDER 4) 9
  ((((((L.put (Reg.FLK_SKIM_CFG_EN 3) true).wr (Reg.FLK_SKIM_CFG_BUF 3) 31).wr Reg.FLK_CFG_NODE 1).wr Reg.FLK_CFG_MARGIN 300).put Reg.FLK_CFG_SYNC_NODE true).put
    Reg.SYS_CLK_STAT_RC_FALLBACK false)
theorem test_hyps_BuffersPostAndTransmit :
    (let L := (wA (wBufs false)).lane .A; L.linked = true ∧ L.blank = false ∧ (L.rd (Reg.FLK_BUF_CFG_DIR 0) = 1 ∧ L.skimBuf 0 = false ∧ L.flk.mbxBufs.getLsbD 0 = false ∧
        1024 ≤ 1024 ∧ 1024 < 1025) ∧ 3 < 4 ∧ L.on (Reg.FLK_SKIM_CFG_EN 3) = true) ∧
    (let L := (wA (wBufs false)).lane .A; let e := winOf L.flk.sched false 1 2; L.txBuf 0 = some ⟨[1, 2, 3], 265000, [9], true⟩ ∧ cycleOf 270000 % 64 = 1 ∧
      270000 % 250000 = e.start * 100 ∧ L.flk.keeper.st = kSynced ∧ L.flk.keeper.onLocal = false ∧ L.flk.keeper.done = true ∧ L.flk.keeper.syncAt < cycleOf 270000 ∧
      L.bound 0 1 false 2 1 = true ∧ L.maySend .A false 1 2 = true ∧ e.typ ≠ wSync ∧ e.typ ≠ wChurn ∧ (265000 + 5000 ≤ cycleStart 270000 + e.start * 100)) ∧
    (let L := (wA (wBufs false)).lane .A; let e := winOf L.flk.sched true 1 2; e.typ = wSync ∧ e.sender = L.senderId .A ∧ L.on Reg.FLK_CFG_SYNC_NODE = true ∧
      L.on Reg.SYS_CLK_STAT_RC_FALLBACK = false ∧ 270000 % 250000 = e.start * 100) ∧
    (let L := (wA (wBufs false)).lane .A; frFormOk (wFrame 0 9) = true ∧ (wFrame 0 9).typ ≠ 3 ∧ L.flk.mbxWins = [] ∧ L.fits (wFrame 0 9) = [4] ∧
      (L.flk.got.find? fun r => r.buf == 4 && r.cyc == cycleOf (270000 + L.rd Reg.FLK_CFG_MARGIN)) = none ∧ L.on (Reg.FLK_SKIM_RX_DECODE.bit 4) = false) ∧
    ((wA (wBufs true)).lane .A).flk.keeper.onLocal = true := by decide +kernel

/-! Guardians -/

theorem test_hyps_GuardianForwards_RingFrameRouted :
    (let G := (wG id).gdn .X; G.powered = true ∧ (G.port .west).broken = false ∧ (G.port .west).blocked = none ∧ 1100 < 1101 ∧ 1100 ≤ 1100 ∧
      G.headerOk (wFrame 0 9) 270000 = true ∧ G.headerOk { wFrame 0 9 with version := 2 } 270000 = false ∧ G.muted (wFrame 0 9) = false ∧ G.arb (wFrame 0 9) = false ∧
      idNode (wFrame 0 9).sender = G.node ∧ G.east.loop = false ∧ G.east.broken = false ∧ G.west.loop = false ∧ G.west.broken = false ∧
      G.sends (.port .west) = true) ∧
    (let s := (wG fun G => { G with node := 3 }); let G := s.gdn .X; idNode (wFrame 0 9).sender ≠ G.node ∧ G.headerOk (wFrame 0 9) 270000 = true ∧ G.arb (wFrame 0 9) = false ∧
      G.sends (.port .east) = true) ∧
    (Lane.A ∈ ((wG id).updLane .A (wBufs false)).takers (wFrame 0 9)) ∧
    (let G := (wG fun G => { G with mutes := [⟨9, 0xFF, 4, 3, some 100⟩] }).gdn .X; G.headerOk (wFrame 0 9) 270000 = true ∧ G.muted (wFrame 0 9) = true) ∧
    (let G := (wG fun G => { G with west := { G.west with failAt := 1, fails := 7 } }).gdn .X; (G.port .west).failAt = cycleOf 270000 ∧ (G.port .west).fails < 8) ∧
    (let G := (wG fun G => { G with west := { G.west with failAt := 1, fails := 8 } }).gdn .X; 8 ≤ (G.port .west).fails) ∧
    ((wG fun G => { G with west := { G.west with blocked := some 5 } }).gdn .X |>.port .west).blocked = some 5 := by decide +kernel

theorem test_hyps_GuardianForwards_LocalFrameKeptInWindow :
    (let G := (wG id).gdn .X; let f := wFrame 0 9; G.powered = true ∧ f.typ ≠ 7 ∧ f.sender = G.srcId (.lane .A) ∧ f.sender ≠ G.srcId (.lane .B) ∧ G.srcBlocked f.sender = false ∧
      G.keeper.st = kSynced ∧ G.muted { f with sender := G.srcId (.lane .A) } = false ∧ G.arb f = false ∧ cycleOf (270000 + G.margin) % 64 = f.matrix % 64 ∧
      frPermitted f G.sched = true ∧ (G.limits f 270000).1 ≤ 270000 ∧ 270400 ≤ (G.limits f 270000).2 ∧ (G.limits f 270000).2 < 290000 ∧ G.east.loop = false ∧
      G.east.broken = false ∧ G.sends (.port .east) = true ∧ (G.limits f 290000).2 < 290000 ∧ 260000 < (G.limits f 260000).1 ∧
      frPermitted { f with sender := 10 } G.sched = false) ∧
    ((wG fun G => { G with keeper := { G.keeper with st := kPassive } }).gdn .X).keeper.st = kPassive ∧
    (Src.lane .B, 2, 1) ∈ ((wG fun G => { G with running := [(.lane .B, 2, 1)] }).gdn .X).running ∧
    (let G := (wG fun G => { G with truncs := [⟨9, 4, 2, none⟩] }).gdn .X; (G.truncs.find? fun x => x.sender == 9) = some ⟨9, 4, 2, none⟩ ∧ 4 + 1 = 5 ∧ 2 ≤ 2) ∧
    (let G := (wG fun G => { G with truncs := [⟨9, 4, 2, some 7⟩] }).gdn .X; G.srcBlocked (G.srcId (.lane .A)) = true ∧
      ∀ r ∈ G.truncs, r.sender = 9 → r.blockedTo = some 7 ∧ 7 ≤ 7) := by decide +kernel

def wHeld : Port × FlockFrame × Nat := (.east, wFrame 0 9, 271000)
theorem test_hyps_GuardianLinks_RingBreaksAndHeals :
    (let x := ((wG fun G => { G with east := { G.east with missed := 2, retryAt := some 0, req := some (3, 40), blocked := some 4 } }).gdn .X).port .east;
      breakHolds x .blocked = true ∧ breakHolds x (.noLock 2) = true ∧ breakHolds x .pdelayLost = true ∧ breakHolds x .belowRate = true ∧ x.broken = false ∧
      x.retryAt = some 0 ∧ x.req = some (3, 40) ∧ x.req.isSome = true) ∧
    (some (((wG id).gdn .X).rate + 1) ≠ some ((wG id).gdn .X).rate ∧ none ≠ some ((wG id).gdn .X).rate) ∧
    (let G := (wG fun G => { G with east := { G.east with broken := true, loop := false }, held := [wHeld] }).gdn .X; (G.port .east).broken = true ∧
      (G.port .east).loop = false ∧ G.sends (.port .west) = true ∧ wHeld ∈ G.held ∧ G.arb wHeld.2.1 = false ∧ 320000 ≤ wHeld.2.1.txTime + 50000) ∧
    (let x := ((wG fun G => { G with east := { G.east with loop := true, link := true, rateLow := false, answered := 2 } }).gdn .X).port .east; x.loop = true ∧ x.link = true ∧
      x.rateLow = false ∧ 2 ≤ x.answered ∧ 128 % 64 = 0 ∧ 492000 % 250000 = 242000) ∧
    (let G := (wG fun G => { G with sats := List.replicate 4 { SatSt.reset with retryAt := some 5 } }).gdn .X; (G.sats.getD (4 - 1) .reset).retryAt = some 5 ∧ G.sats.length = 4) ∧
    (let f := { wFrame 6 9 with payload := pdelayBytes 2 3 50 60 }; frFormOk f = true ∧ f.typ = 6 ∧ 3 < 2 ^ 16 ∧ 60 < 2 ^ 64 ∧
      frFormOk { wFrame 6 9 with payload := pdelayBytes 1 3 50 0 } = true) := by decide +kernel

/-- An arbitrating window and two frames queued for the same egress. -/
def wQueue : List Queued := [⟨.port .east, { wFrame 0 9 with chY := true, window := 3 }, 3⟩, ⟨.port .east, { wFrame 0 10 with chY := true, window := 3, priority := 5 }, 4⟩]
theorem test_hyps_GuardianLinks_ArbitrationByRank :
    let G := (wG fun G => { G with queue := wQueue }).gdn .X; G.powered = true ∧ (topRank (G.queue.filter fun x => x.egress == .port .east)).isSome = true ∧
    (∀ q, q ∈ G.queue → cycleStart 240000 + ((frWin q.frame G.sched).start + (frWin q.frame G.sched).len) * 100 < 240000 + G.frameTime (.port .east) q.frame ∧
      0 + G.frameTime (.port .east) q.frame ≤ cycleStart 0 + ((frWin q.frame G.sched).start + (frWin q.frame G.sched).len) * 100) := by decide +kernel

def wMute : FlockFrame := { wFrame 4 9 with chY := true, window := 3, txTime := 275000, payload := [9, 0xFF, 2, 0] }
/-- A MUTE that passes every check but the tag's, and, with its tag, that too. -/
theorem test_hyps_GuardianLinks_MuteStartsAndEnds_authentic :
    let s := wG fun G => { G with hosts := [9], sched := [(6246, 0x040500FA#32), (6247, 0x00080009#32)] }
    ((s.gdn .X).muteOk (s.groupKey .X) (tagged wMute) = true) ∧ (s.gdn .X).muteOk (s.groupKey .X) (forged wMute) = false := by
  have k : ((wG fun G => { G with hosts := [9], sched := [(6246, 0x040500FA#32), (6247, 0x00080009#32)] }).groupKey .X) = [7] := by decide +kernel
  have r : ∀ (G : GuardianSt) (key : List Byte) (f : FlockFrame), G.muteOk key f = (frAuthentic key f && G.muteOk key f) := by
    intro G key f; simp only [GuardianSt.muteOk]; cases frAuthentic key f <;> simp
  refine ⟨?_, ?_⟩
  · unfold GuardianSt.muteOk
    rw [k, tagged_authentic]
    decide +kernel
  · rw [r, k, forged_fails]; rfl
theorem test_hyps_GuardianLinks_MuteStartsAndEnds :
    (let G := (wG fun G => { G with mutes := [⟨9, 0xFF, 4, 3, none⟩, ⟨9, 0xFF, 5, 3, some 60⟩] }).gdn .X; G.powered = true ∧ (⟨9, 0xFF, 4, 3, none⟩ : Mute) ∈ G.mutes ∧ 3 ≤ 3 ∧ 4 ≠ 0 ∧
      (⟨9, 0xFF, 5, 3, some 60⟩ : Mute) ∈ G.mutes) ∧
    ((wFrame 3 9).typ = 3 ∧ (wFrame 4 9).typ = 4 ∧ idSource 8 = 0) := by decide +kernel

theorem test_hyps_GuardianLinks_SatelliteAndStatusWord :
    (let G := (wG fun G => { G with sats := List.replicate 4 ⟨true, 1, 3, 3, 0, none, some 1⟩ }).gdn .X; G.powered = true ∧ 1 ≤ 4 ∧ 4 ≤ 4 ∧ G.sats.length = 4 ∧
      (G.sats.getD 3 .reset).up = true ∧ (G.sats.getD 3 .reset).helloAt ≠ some (cycleOf 0 / 64) ∧ 3 ≤ (G.sats.getD 3 .reset).missed) ∧
    (SatSt.reset.up = false ∧ SatSt.reset.retryAt = none) ∧ (10 ≤ 10 ∧ 10 < 11 ∧ 1 < 2 ∧ 0 < 1) ∧ 498000 % 250000 = 248000 ∧ ((wG id).gdn .X).powered = true ∧
    (State.reset.lane .A).up = true ∧ ((wA fun L => L.updFlk fun k => { k with gx := { (L.gword .X) with missing := 1 } }).lane .A |>.gword .X).missing = 1 := by decide +kernel

/-! CAN -/

/-- Controller CAN1 of lane A active, out of silence. -/
def wCan (f : CanSt → CanSt) (L : LaneSt) : LaneSt := { L with can1 := f { L.can1 with run := 2, off := false, silence := none } }
/-- Buffer 119 receives every identifier, buffer 0 sends. -/
def wCanBuf (L : LaneSt) : LaneSt :=
  let L := ((L.put (Reg.CAN_BUF_FLT_EN .can1 119) true).put (Reg.CAN_BUF_FLT_DIR .can1 119) false).wr (Reg.CAN_BUF_FLT_MASK .can1 119) 0
  ((L.put (Reg.CAN_BUF_FLT_EN .can1 0) true).put (Reg.CAN_BUF_FLT_DIR .can1 0) true)
def wCanFrame : CanFrame := ⟨false, 0x55, 8#8, 77#32, [1, 2]⟩

theorem test_hyps_CanBuffers_CanReceiveBuffers :
    (let L := (wA fun L => wCan id (wCanBuf L)).lane .A; L.linked = true ∧ (L.can .can1).receives = true ∧ canFormOk wCanFrame = true ∧ wCanFrame.id ≠ 1 ∧
      ((List.range 128).find? fun b => L.canMatch .can1 wCanFrame b && L.canTakes .can1 b) = some 119 ∧ 119 < 120 ∧ 1 < (canBytes wCanFrame.ctrl + 3) / 4 ∧
      L.rd (Reg.CAN_BUF_STAT_WCNT .can1 127) ≠ 1) ∧
    (let L := (wA (wCan id)).lane .A; (L.can .can1).receives = true ∧ { wCanFrame with id := 1, ide := true }.ide = true ∧ { wCanFrame with id := 1 }.id = 1 ∧
      ((List.range 128).find? fun b => L.canMatch .can1 wCanFrame b && L.canTakes .can1 b) = none) := by decide +kernel

theorem test_hyps_CanBuffers_CanTransmitsPending :
    (let L := (wA fun L => wCan id (wCanBuf L)).lane .A; L.linked = true ∧ L.on (Reg.CAN_BUF_FLT_EN .can1 0) = true ∧ L.on (Reg.CAN_BUF_FLT_DIR .can1 0) = true ∧ 0 < 128) ∧
    (let L := (wA fun L => (wCan id (wCanBuf L)).setPending .can1 0 true).lane .A; L.canSends .can1 = true ∧
      L.canWinner .can1 = some 0 ∧ (L.can .can1).aborting.or (L.canWinner .can1) = some 0 ∧ L.canEligible .can1 0 = true) := by decide +kernel

theorem test_hyps_CanRateAndErrors_CanRateDetected :
    (let L := (wA (wCan fun x => { x with run := 1, good := 2 })).lane .A; L.linked = true ∧ (L.can .can1).run = 1 ∧ (rateOf nominalTimes 2000).isSome = true ∧
      (rateOf nominalTimes 1000).isSome = true ∧ 2 ≤ (L.can .can1).good ∧ (L.can .can1).startAt + 1000000000 ≤ 1000000000 ∧ (L.can .can1).failed = false) ∧
    ((wA (wCan fun x => { x with run := 1, good := 1 })).lane .A).can1.good < 2 ∧
    (let L := (wA (wCan fun x => { x with nominal := some 1, dataCand := rateOf dataTimes 500, dataGood := 2 })).lane .A; (L.can .can1).run = 2 ∧ (L.can .can1).nominal.isSome = true ∧
      L.rd (Reg.CAN_STAT_DET_DRATE .can1) = 0 ∧ (rateOf dataTimes 500).isSome = true ∧ (L.can .can1).dataCand = rateOf dataTimes 500 ∧ 2 ≤ (L.can .can1).dataGood) := by decide +kernel

theorem test_hyps_CanRateAndErrors_CanSilenceAndDominant :
    (let L := (wA fun L => wCan id (wKeep id (L.put (Reg.CAN_CFG_SILENCE_EN .can1) true))).lane .A; L.linked = true ∧ L.on (Reg.CAN_CFG_SILENCE_EN .can1) = true ∧
      (L.can .can1).receives = true ∧ L.sec.keys.group ≠ [] ∧ 1000 ≤ 1000 ∧ 7 = 7000000 / 1000000 % 2 ^ 32 ∧ 0 < 1000 ∧ (L.can .can1).off = false ∧
      L.on (Reg.CAN_STAT_DOM .can1) = false ∧ 1000 ≤ 1000 ∧ 11 ≤ 11) ∧
    ((wA (wCan fun x => { x with silence := some 5 })).lane .A |>.can .can1).silence = some 5 := by decide +kernel
/-- A tag that does not check. -/
theorem test_hyps_CanRateAndErrors_SilenceForged : ~~~(silenceTag [7] 0xFF 1000 7) ≠ silenceTag [7] 0xFF 1000 7 := by simp

theorem test_hyps_CanRateAndErrors_CanErrorsAndBusOff :
    (let L := (wA (wCan fun x => { x with run := 1 })).lane .A; L.linked = true ∧ (L.can .can1).run = 1 ∧ (L.can .can1).off = false) ∧
    (let L := (wA fun L => wCan id (L.wr (Reg.CAN_ERR_TEC .can1) 256)).lane .A; 2 ≤ (L.can .can1).run ∧ (L.can .can1).run = 2 ∧ (L.can .can1).off = false ∧ 
      255 < L.rd (Reg.CAN_ERR_TEC .can1) ∧ (L.can .can1).aborting = none) ∧
    (let L := (wA (wCan fun x => { x with off := true, recovering := true })).lane .A; (1#32).getLsbD 0 = true ∧ (L.can .can1).off = true ∧ (L.can .can1).recovering = true ∧
      128 ≤ 128) := by decide +kernel

/-! The Shepherd's mailboxes -/

def wNv (f : NvmSt → NvmSt) (L : LaneSt) : LaneSt := { L with nvm := f L.nvm }
/-- A lane in STANDBY with keys and an open session of every role, no request in progress. -/
def wSess (L : LaneSt) : LaneSt :=
  let L := ((((L.updMbx fun m => { m with roles := 0xFFFF }).setReg 0x400F000C 0xABCD).put Reg.MBX_STAT_SHEP_UP true).put Reg.SEC_RIND_STAT_ALARM false)
  let L := (((L.put Reg.SEC_KEY_STAT_HMK true).put Reg.SEC_KEY_STAT_OWNER true).wr Reg.SYS_STATE_MODULE 2).wr Reg.SEC_LC_STATE 2
  { L with sys := { L.sys with boot := .none }, sec := { L.sec with keys := { L.sec.keys with sk := [9], hmk := [8], owner := [7], pk := [6], group := [5] } } }
def wMbx (f : MbxSt → MbxSt) (L : LaneSt) : LaneSt := (wSess L).updMbx f
/-- Requester 7 to mailbox 2 of every lane, in its session, with a payload of `n` bytes. -/
def wReq (module : Bool) (n : Nat) : Req := ⟨module, 2, 7, n, 5, 7, 0xABCD, .flock, 0, 3⟩
/-- The request with the tag that lane `L` expects. -/
def signed (L : LaneSt) (t code : Nat) (body : List Byte) (r : Req) : Req := { r with tag := (L.hearing t).mbxTag r.session (headerBytes code r ++ body) }

/-- What the lane asks of a request beside its tag. -/
def wGo (L : LaneSt) (l : Lane) (t code : Nat) (r : Req) : Bool :=
  let K := L.hearing t
  let N := K.noteRate (2 * r.requester.toNat + 1)
  L.up && (K.hears && (r.transport == .flock || r.transport == .debug) && (named r l || r.module)) &&
  (r.session != 0#32 && (r.session == K.reg 0x400F000C && !(K.mbxKey r.session).isEmpty)) &&
  (N.gate (2 * r.requester.toNat + 1) r (List.replicate r.length 0#8)).isNone &&
  (match cmdRow code with
    | none => false
    | some c => placeOk c r && N.granted c && !N.on Reg.SEC_RIND_STAT_ALARM) &&
  (N.seqRec (2 * r.requester.toNat + 1) r.mbox).isNone && !N.holdsBox r.mbox
theorem signed_sessionOk {L : LaneSt} {t code : Nat} {r : Req} {body : List Byte} (h0 : (r.session != 0#32) = true)
    (h1 : (r.session == (L.hearing t).reg 0x400F000C && !((L.hearing t).mbxKey r.session).isEmpty) = true) :
    (L.hearing t).sessionOk (signed L t code body r) (headerBytes code r ++ body) = true := by
  simp only [Bool.and_eq_true] at h1
  show (r.session != 0#32 && r.session == (L.hearing t).reg 0x400F000C && (!((L.hearing t).mbxKey r.session).isEmpty &&
    (L.hearing t).mbxTag r.session (headerBytes code r ++ body) == (L.hearing t).mbxTag r.session (headerBytes code r ++ body))) = true
  rw [h0, h1.1, h1.2]
  simp
theorem wGo_accepts {L : LaneSt} {l : Lane} {t code : Nat} {r : Req} {body : List Byte} (h : wGo L l t code r = true) (hb : body.length = r.length) :
    L.accepts l code (signed L t code body r) body t := by
  unfold wGo at h
  simp only [Bool.and_eq_true] at h
  obtain ⟨⟨⟨⟨⟨⟨hu, ⟨hh, ht⟩, hn⟩, h0, h1⟩, hg⟩, hc⟩, hs⟩, hx⟩ := h
  have ho := signed_sessionOk (code := code) (body := body) h0 (by simpa using h1)
  have hd : headerBytes code (signed L t code body r) = headerBytes code r := rfl
  have hk : (L.hearing t).reqKey (signed L t code body r) (headerBytes code (signed L t code body r) ++ body) = 2 * r.requester.toNat + 1 := by
    rw [LaneSt.reqKey, hd, ho]; rfl
  refine ⟨hu, ?_, ?_⟩
  · have hi : r.transport ≠ .internal ∧ r.transport ≠ .can := by revert ht; cases r.transport <;> decide
    have hn' : (named (signed L t code body r) l || (signed L t code body r).module) = true := hn
    simp [LaneSt.reaches, hh, hn', show (signed L t code body r).transport = r.transport from rfl, hi.1, hi.2]
  · simp only [hk]
    have hg' : ((L.hearing t).noteRate (2 * r.requester.toNat + 1)).gate (2 * r.requester.toNat + 1) (signed L t code body r) body = none := by
      rw [← Option.isNone_iff_eq_none.mp hg]
      simp only [LaneSt.gate, signed, hb, List.length_replicate]
      rfl
    revert hc
    cases hcr : cmdRow code with
    | none => simp
    | some c =>
      simp only [Bool.and_eq_true]
      rintro ⟨⟨hp, hgr⟩, ha⟩
      have ho' : ((L.hearing t).noteRate (2 * r.requester.toNat + 1)).sessionOk (signed L t code body r) (headerBytes code r ++ body) = true := ho
      have hm : ((L.hearing t).noteRate (2 * r.requester.toNat + 1)).mayAsk c (signed L t code body r) (headerBytes code r ++ body) = true := by
        simp [LaneSt.mayAsk, ho', hgr]
      have hp' : placeOk c (signed L t code body r) = true := hp
      have ha' : ((L.hearing t).noteRate (2 * r.requester.toNat + 1)).on Reg.SEC_RIND_STAT_ALARM = false := by simpa using ha
      have hs' : ((L.hearing t).noteRate (2 * r.requester.toNat + 1)).seqRec (2 * r.requester.toNat + 1) (signed L t code body r).mbox = none := Option.isNone_iff_eq_none.mp hs
      have hx' : ((L.hearing t).noteRate (2 * r.requester.toNat + 1)).holdsBox (signed L t code body r).mbox = false := by
        show ((L.hearing t).noteRate (2 * r.requester.toNat + 1)).holdsBox r.mbox = false
        simpa using hx
      simp only [LaneSt.verdict, hd, hg', hm, hp', ha', LaneSt.order, hs', hx']
      simp

/-- Every lane-addressed command passes the checks of a lane in a session, by `wGo_accepts`; so does every module-addressed one. The
numbers of payload bytes are those of the statements' payloads. -/
theorem test_accepts : ([(0x0101, 0), (0x0102, 36), (0x0103, 0), (0x0200, 0), (0x0300, 4), (0x0301, 7), (0x0302, 0), (0x0304, 7), (0x0401, 6), (0x0500, 0), (0x0502, 2),
      (0x0503, 5), (0x0504, 6), (0x0505, 0), (0x0600, 6), (0x0601, 7), (0x0602, 0), (0x0605, 0), (0x0700, 7), (0x0700, 8), (0x0700, 64), (0x0700, 65), (0x0701, 1),
      (0x0702, 3313), (0x0704, 1996), (0x0704, 20), (0x0704, 44), (0x0704, 76), (0x0705, 0), (0x0800, 3), (0x0801, 4), (0x0802, 1)].all fun c =>
        wGo ((wA wSess).lane .A) .A 5 c.1 (wReq false c.2)) = true ∧
    ([(0x0201, 1), (0x0202, 2), (0x0203, 0), (0x0204, 2), (0x0303, 32), (0x0400, 4), (0x0402, 0), (0x0501, 3), (0x0603, 32), (0x0604, 0), (0x0703, 80)].all fun c =>
        wGo ((wA wSess).lane .A) .A 5 c.1 (wReq true c.2)) = true := by decide +kernel

def wTally (L : LaneSt) : LaneSt := wNv (fun n => { n with tallySeq := 1030, anchor := List.replicate 32 7 }) (wSess L)
theorem test_hyps_ReadsAnswered :
    (((wA wSess).lane .A).hearing 5).lc ≠ lcDecommissioned ∧
    (let L := (wA fun L => (wSess L).wr Reg.SEC_LC_STATE 5).lane .A; L.up = true ∧ (L.hearing 5).lc = lcDecommissioned ∧ { wReq false 0 with transport := .debug }.transport = .debug ∧
      named (wReq false 0) .A = true) ∧
    (let L := (wA fun L => (wSess L).put Reg.SEC_KEY_STAT_IDENT true).lane .A; (L.hearing 5).on Reg.SEC_KEY_STAT_IDENT = true ∧ wGo L .A 5 0x0102 (wReq false 36) = true ∧
      wGo L .A 5 0x0103 (wReq false 0) = true ∧ (List.replicate 32 (1#8)).length = 32) ∧
    (let L := (wA fun L => (wSess L).put Reg.SEC_KEY_STAT_IDENT false).lane .A; (L.hearing 5).on Reg.SEC_KEY_STAT_IDENT = false ∧ wGo L .A 5 0x0103 (wReq false 0) = true) ∧
    (1 < 2 ∧ 0x3F000 + 4096 ≤ 0x40000 ∧ 4096 ≤ 4096 ∧ 2 ≤ 2 ∧ (0x40000 < 0x3F001 + 4096 ∨ 4096 < 4096)) ∧
    (0xF000 + 4096 ≤ 0x10000 ∧ (0x10000 < 0xF001 + 4096 ∨ 4096 < 4096) ∧ 0xBF000 + 4096 ≤ 0xC0000 ∧ (0xC0000 < 0xBF001 + 4096 ∨ 4096 < 4096)) ∧
    (1023 < 1024 ∧ 1024 ≤ 1024) ∧
    (let L := (wA wTally).lane .A; let K := L.hearing 5; wGo L .A 5 0x0503 (wReq false 5) = true ∧ 0 < 63 ∧ 63 ≤ 63 ∧ 967 + 63 ≤ K.nvm.tallySeq ∧
      K.nvm.tallySeq ≤ 6 + 1024 ∧ K.nvm.anchor.length = 32 ∧ 63 < 64 ∧ K.nvm.tallySeq < 968 + 63 ∧ 5 + 1024 < K.nvm.tallySeq) := by decide +kernel

/-- A request over DBG_x without a tag to a lane without a host master key. -/
def wBare : Req := { wReq false 0 with session := 0, transport := .debug }
def wNoHmk (f : MbxSt → MbxSt) (L : LaneSt) : LaneSt := (wMbx f L).put Reg.SEC_KEY_STAT_HMK false
def wRpl : Reply := ⟨0x0200, 2, 5, 7, 0, .debug, none, false, [1, 2], 0, 0⟩
def wPast (seq : BitVec 16) (msg : List Byte) (m : MbxSt) : MbxSt := { m with seqs := [⟨6, { wBare with seq := seq }, msg, false, some wRpl⟩] }
theorem test_hyps_RequestsChecked :
    (let K := ((wA wSess).lane .A).hearing 5; ((wA wSess).lane .A).up = true ∧ K.reaches .A 0x0999 (wReq false 0) [] = true ∧ named (wReq false 0) .A = true ∧ cmdRow 0x0999 = none ∧
      K.reaches .A 0x0101 (wReq true 0) [] = true ∧ (cmdRow 0x0101).all (fun c => !placeOk c (wReq true 0)) = true ∧ (0x0999 ≠ 0x0100) ∧ 0x0999 ≠ 0x0F00) ∧
    ((wA (wMbx fun m => { m with viols := List.replicate 14 (6, 0) })).lane .A |>.mbx.viols.filter fun v => 5 < v.2 + 1000000000 && v.1 == 6).length + 1 < 16 ∧
    16 ≤ ((wA (wMbx fun m => { m with viols := List.replicate 15 (6, 0) })).lane .A |>.mbx.viols.filter fun v => 5 < v.2 + 1000000000 && v.1 == 6).length + 1 ∧
    ((wA (wMbx fun m => { m with quar := [(6, 9)] })).lane .A).mbx.quar.any (fun q => q.1 == 6) = true ∧
    (let L := (wA (wMbx fun m => { m with rates := List.replicate 32 (6, 5) })).lane .A; L.mbx.quar.any (fun q => q.1 == 6) = false ∧
      32 ≤ (L.mbx.rates.filter fun x => (L.hearing 5).time < x.2 + 100000000 && x.1 == 6).length) ∧
    (let L := (wA (wNoHmk (wPast 5 (headerBytes 0x0200 wBare)))).lane .A; let K := L.hearing 5; let msg := headerBytes 0x0200 wBare; K.reaches .A 0x0200 wBare [] = true ∧
      K.reqKey wBare msg = 6 ∧ named wBare .A = true ∧ wBare.transport ≠ .internal ∧ (K.noteRate 6).gate 6 wBare [] = none ∧ wBare.mbox ≠ 0 ∧ wBare.mbox ≠ 15 ∧ wBare.module = false ∧
      K.mayAsk { rowRead 0x0200 with alarm := true, bare := true, noHmk := true } wBare msg = true ∧
      L.seqRec 6 2 = some ⟨6, wBare, msg, false, some wRpl⟩ ∧ wRpl.transport ≠ .internal) ∧
    (let L := (wA (wNoHmk (wPast 2 [1]))).lane .A; L.seqRec 6 2 = some ⟨6, { wBare with seq := 2 }, [1], false, some wRpl⟩ ∧ [1] ≠ headerBytes 0x0200 wBare ∧ wBare.seq ≠ 2 + 1) ∧
    (let L := (wA (wNoHmk fun m => { m with waiting := [⟨wReq true 0, 0x0203, .resetArm, 0, 0, false, true, 0⟩] })).lane .A; L.holdsBox 2 = true ∧ L.seqRec 6 2 = none) ∧
    ((4, 1, 10, 3) ∈ ((wA (wMbx fun m => { m with segs := [(4, 1, 10, 3)] })).lane .A).mbx.segs ∧ 10 + 100000000 ≤ 100000010) ∧
    (1#32).getLsbD 0 = true := by decide +kernel

def wModCmd (c : ModCmd) : Held := ⟨wReq true 0, 0x0201, c, 0, 0, false, true, 0⟩
theorem test_hyps_ModuleCommandsWait : let L := (wA (wMbx fun m => { m with waiting := [wModCmd .resetArm] })).lane .A
    L.up = true ∧ L.mbx.waiting = [wModCmd .resetArm] ∧ (wModCmd .resetArm).named = true ∧ (wModCmd .resetArm).confirmed = false ∧
      (wModCmd .resetArm).at_ + 20000000 ≤ 20000000 := by decide +kernel

/-- The bytes of an image of the six mandatory groups, of four bytes each, for any module; `d` is its digest of 32 bytes. -/
def wImage (owner d : List Byte) : List Byte :=
  let hd := [0x4D#8, 0x4C#8, 0x58#8, 0x41#8] ++ leBytes 2 1 ++ leBytes 2 6 ++ leBytes 4 0x138 ++ leBytes 4 9 ++ leBytes 8 0 ++ shake256 32 owner ++ leBytes 8 0 ++
    (List.range 6).flatMap fun i => leBytes 4 (i + 1) ++ leBytes 4 (0x100 + 4 * i) ++ leBytes 4 4
  hd ++ List.replicate (0x100 - hd.length) 0#8 ++ List.replicate 24 3#8 ++ d
/-- An image whose registers and items load nothing. -/
def wFacts : ImgFacts := ⟨true, true, [], 0, true⟩
def wImgSum : List Byte := shake256 32 ((wImage [7] []).take 0x118)
/-- Slot 1 holds that image, with a digest. -/
def wImgAt (d : List Byte) (pw : Bool) (L : LaneSt) : LaneSt :=
  wMbx (fun m => { m with img := some true, pwOk := pw }) (L.setBytes (slotBase true) (wImage [7] d))
def wArm (u : Nat) (L : LaneSt) : LaneSt := (wSess L).updSafe fun x => { x with armed := some (9, 0xABCD, u) }
def wDrv (n : Nat) (L : LaneSt) : LaneSt :=
  let L := ((wSess L).wr Reg.SYS_STATE_MODULE 4).put Reg.COM_CFG_PROFILE false
  let L := { L with com := { L.com with words := [1, 5, 0, 0, 1, 7, 0, 0, 1, 8, 0, 0], stg := .all ComStg.reset, pending := List.replicate n (5, 7) } }
  let L := (L.setReg 0x40100010 0).wr Reg.MEAS_STAT_OUT_OF_SERVICE 0
  for3 (fun i L => ((L.put (Reg.STG_STAT_EN i) true).put (Reg.STG_STAT_LATCHED i) false).wr (Reg.CLM_STG_ACCEPTED i) 3) L
def wTrial (L : LaneSt) : LaneSt :=
  wNv (fun n => { n with trial := true, bankA := Bank.blank, bankB := { Bank.blank with verified := true, digest := [4] }, runB := false })
    { wSess L with chn := { L.chn with cyc0 := 77 }, fc := { L.fc with log := [] } }

/-- The image passes every check with its digest, and fails with another. -/
theorem test_hyps_ConfirmedCommandsAct_Image :
    (let L := (wA (wImgAt wImgSum false)).lane .A; L.st = stStandby ∧ L.mbx.img = some true ∧ L.imageOk true wFacts = true ∧ L.imgDigest true = wordsOf wImgSum ∧
      wordsOf wImgSum ≠ [3] ∧ L.imgChanged true &&& safetyGroups ≠ 0#16 ∧ L.mbx.pwOk = false) ∧
    (let L := (wA (wImgAt (List.replicate 32 1) true)).lane .A; L.imageOk true wFacts = false ∧ L.mbx.pwOk = true) := by decide +kernel
theorem test_hyps_ConfirmedCommandsAct :
    (((wA wSess).lane .A).mbx.out = [] ∧ (wModCmd .resetArm).req.transport ≠ .internal) ∧
    (let h := { wModCmd .resetArm with confirmed := true }; let M := (wA (wMbx fun m => { m with waiting := [h] })).lane .A;
      h.confirmed = true ∧ h.named = true ∧ M.up = true ∧ M.mbx.commit = none ∧ M.mbx.waiting = [h]) ∧
    ((inSt 2 ((wA wSess).lane .A)).st < stArm ∧ stArm ≤ (inSt 4 ((wA wSess).lane .A)).st ∧ (wA wSess |>.lane .A).st = stStandby ∧ ((wA wSess).lane .A).mbx.img = none) ∧
    (let L := (wA (wArm 0)).lane .A; let h := { wModCmd (.resetConfirm 9 true) with at_ := 50000000 };
      L.safe.armed = some (9, 0xABCD, 0) ∧ 0xABCD#32 = L.resetSession h.req ∧ 0 + 50000000 ≤ h.at_ ∧ h.at_ ≤ 0 + 2000000000) ∧
    (let h := { wModCmd (.resetConfirm 9 true) with at_ := 2000000001 }; (9#16 ≠ 8#16 ∨ h.at_ < 0 + 50000000 ∨ 0 + 2000000000 < h.at_) ∧ 0 + 2000000000 < h.at_) ∧
    (let L := (wA (wDrv 256)).lane .A; L.learnState = true ∧ L.com.pending.length ≤ 256 ∧ 7 < cycleOf L.time + 8 ∧ cycleOf L.time + 8 ≤ 8) ∧
    (256 < ((wA (wDrv 257)).lane .A).com.pending.length ∧ ((wA wSess).lane .A).learnState = false) ∧
    (let L := (wA wTrial).lane .A; L.st = stStandby ∧ (L.bank (!L.nvm.runB)).verified = true ∧ (L.bank (!L.nvm.runB)).digest = [4] ∧
      (L.bank (!L.nvm.runB)).digest ≠ [5] ∧ L.nvm.trial = true ∧ L.selftested = true) ∧
    (let L := (wA fun L => { wTrial L with chn := L.chn }).lane .A; L.nvm.trial = true ∧ L.selftested = false) ∧ ((wA wSess).lane .A).nvm.trial = false ∧
    (let L := (wA wSess).lane .A; L.lcAllowed 4 = true ∧ L.lcAllowed 1 = false) ∧
    (let L := (wA fun L => ((wSess L).wr Reg.SEC_LC_STATE 1).put Reg.SEC_KEY_STAT_OWNER false).lane .A; L.lcAllowed 1 = true) := by decide +kernel

/-- LIFECYCLE payloads that verify: RETURN with a signature, TAKEOVER under the provisioning key; and one that does not. -/
theorem test_hyps_ConfirmedCommandsAct_Lifecycle (L : LaneSt) : L.lcAuth 4 ⟨L.rd Reg.SEC_LC_LC_SEQ, Config.serial, [], [], true, true⟩ = true ∧
    L.lcAuth 4 ⟨L.rd Reg.SEC_LC_LC_SEQ, Config.serial, [], [], false, true⟩ = false ∧
    (L.sec.keys.pk.isEmpty = false → L.sec.ownerNext.isEmpty = false → 
      let a : LcArgs := ⟨L.rd Reg.SEC_LC_LC_SEQ, Config.serial, shake256 32 L.sec.ownerNext, [], true, true⟩
      L.lcAuth 1 { a with auth := kmac128 L.sec.keys.pk (ascii "LCYC" ++ lcHead 1 a) 32 (ascii "LCTK") } = true) := by
  refine ⟨by simp [LaneSt.lcAuth], by simp [LaneSt.lcAuth], fun h1 h2 => ?_⟩
  have e : ∀ a : LcArgs, ∀ x, lcHead 1 { a with auth := x } = lcHead 1 a := fun _ _ => rfl
  have hk := e ⟨L.rd Reg.SEC_LC_LC_SEQ, Config.serial, shake256 32 L.sec.ownerNext, [], true, true⟩
  simp only [LaneSt.lcAuth, h1, h2, hk]
  simp
theorem test_hyps_ConfirmedCommandsAct_Takeover : let L := (wA fun L => (wSess L).updSec fun x => { x with ownerNext := [1] }).lane .A
    L.sec.keys.pk.isEmpty = false ∧ L.sec.ownerNext.isEmpty = false := by decide +kernel

def wTap (s : Option Nat) (m : Nat) : Tap := ⟨{ wReq false 0 with mbox := m }, 0x0801, s, 1, 3, 5, 0⟩
def wTaps (x : List Tap) (L : LaneSt) : LaneSt := { (wMbx (fun m => { m with taps := x }) L).put (Reg.FLK_SKIM_CFG_EN 2) true with time := 250000 }
theorem test_hyps_TapsAndCrook_TapsDeliver :
    (1 ≤ 255 ∧ 255 ≤ 255 ∧ 1 ≤ 600 ∧ 600 ≤ 600 ∧ (0 = 0 ∨ 255 < 0) ∧ 255 < 256 ∧ 600 < 601) ∧
    (let L := (wA (wTaps [])).lane .A; wGo L .A 250005 0x0801 (wReq false 4) = true ∧ 2 < 4 ∧ L.on (Reg.FLK_SKIM_CFG_EN 2) = true ∧ L.on (Reg.FLK_SKIM_CFG_EN 1) = false ∧
      (L.mbx.taps.any fun x => x.req.mbox == 3) = false) ∧
    (let L := (wA (wTaps [wTap none 3, wTap (some 2) 4])).lane .A; wGo L .A 250005 0x0802 (wReq false 1) = true ∧
      (L.mbx.taps.filter fun y => y.req.mbox == 3) = [wTap none 3] ∧ (L.mbx.taps.filter fun y => y.req.mbox == 4) = [wTap (some 2) 4] ∧
      (wTap none 3).req.transport ≠ .internal ∧ (wReq false 1).transport ≠ .internal ∧ (wTap none 3).endAt ≤ 3 ∧ L.up = true ∧ (wTap none 3).last + (wTap none 3).dec ≤ cycleOf L.time ∧
      (wTap none 3).stream = none ∧ (wTap (some 2) 4).stream = some 2) := by decide +kernel

def wCrook (c : CrookSt) (halt : Bool) (L : LaneSt) : LaneSt :=
  { (wMbx (fun m => { m with crook := some c }) L) with aux := { L.aux with halt := halt }, chn := { L.chn with active := true } }
def wC : CrookSt := ⟨wReq false 2, 100, some 100, none, 0, 0⟩
theorem test_hyps_TapsAndCrook_CrookAbortsFunctions :
    (let L := (wA wSess).lane .A; let r := { wReq false 2 with mbox := 15 }; L.up = true ∧ named r .A = true ∧ r.mbox = 15 ∧ L.mbx.crook = none ∧
      L.chn.active = false ∧ L.mbx.commit = none ∧ (L.hearing 5).crookOk { r with session := 0 } (headerBytes 0x0F00 { r with session := 0 } ++ leBytes 2 3) = false ∧
      (wReq false 2).mbox ≠ 15 ∧ (wReq false 2).transport ≠ .internal ∧ (L.mbx.quar.any fun q => q.1 == 6) = false ∧ L.sys.boot = .none) ∧
    (((wA fun L => { wSess L with chn := { L.chn with active := true } }).lane .A).chn.active = true) ∧
    (let L := (wA (wCrook wC false)).lane .A; L.mbx.crook = some wC ∧ wC.mbxAt = some 100 ∧ wC.mbxDone = 0 ∧ wC.auxAt = none ∧ 100 + 800000 ≤ 800100 ∧ L.chn.active = true) ∧
    (let c : CrookSt := { wC with mbxAt := none, auxAt := some 100 }; let L := (wA (wCrook c true)).lane .A; L.mbx.crook = some c ∧ c.auxAt = some 100 ∧ c.auxDone = 0 ∧
      c.mbxAt = none ∧ L.aux.halt = true) ∧
    (let c : CrookSt := { wC with mbxDone := 1 }; ((wA (wCrook c false)).lane .A).mbx.crook = some c ∧ 100 + 1000000 ≤ 1000100 ∧ c.mbxDone ≠ 0 ∧ c.auxAt = none) := by
  decide +kernel
/-- An authentic CROOK of a session of role 1. -/
theorem test_hyps_TapsAndCrook_CrookAuthentic (body : List Byte) : let L := (wA wSess).lane .A; let r := { wReq false 2 with mbox := 15 }
    (L.hearing 5).crookOk (signed L 5 0x0F00 body r) (headerBytes 0x0F00 r ++ body) = true := by
  have h := signed_sessionOk (L := (wA wSess).lane .A) (t := 5) (code := 0x0F00) (r := { wReq false 2 with mbox := 15 }) (body := body)
    (by decide) (by decide +kernel)
  have hr : ((((wA wSess).lane .A).hearing 5).mbx.roles.getLsbD 0 || (((wA wSess).lane .A).hearing 5).mbx.roles.getLsbD 1) = true := by decide +kernel
  simp only [LaneSt.crookOk, h, hr]
  simp

def wLoad (L : LaneSt) : LaneSt :=
  wNv (fun n => { n with slot1 := { Slot.blank with len := 300 }, bankB := { Bank.blank with len := 400 }, rollback := 3 })
    (wMbx (fun m => { m with img := some true, fw := some true }) L)
theorem test_hyps_LoadsGoToTheSpareSide :
    (let L := (wA wSess).lane .A; (inSt 4 L).st ≠ stStandby ∧ L.st = stStandby ∧ 0x40000 ≤ 0x40000 ∧ 0x40000 < 0x40001 ∧ 0x300000 ≤ 0x300000 ∧ 0x300000 < 0x300001 ∧
      L.mbx.img = none ∧ L.mbx.fw = none) ∧
    (let L := (wA wLoad).lane .A; [(0x0300, 4), (0x0301, 7), (0x0302, 0), (0x0600, 6), (0x0601, 7), (0x0602, 0)].all (fun c => wGo L .A 5 c.1 (wReq false c.2)) = true ∧
      L.mbx.img = some true ∧ L.mbx.fw = some true ∧ L.imageOk true wFacts = false ∧
      297 + [1#8, 2#8, 3#8].length ≤ (L.slot true).len ∧ (L.slot true).len < 298 + [1#8, 2#8, 3#8].length ∧
      397 + [1#8, 2#8, 3#8].length ≤ (L.bank true).len ∧ (L.bank true).len < 398 + [1#8, 2#8, 3#8].length) := by decide +kernel

/-! Sessions and security -/

/-- HELLO of requester 7 for session 77; `helloOk_signed` gives it its SIG. -/
def wHello : HelloArgs := ⟨1, 2, 77, List.replicate 32 4, 7, 0xFFFF, [], true, []⟩
def wClosed : LaneSt := (wA fun L => (wSess L).setReg 0x400F000C 0).lane .A
theorem helloOk_signed (K : LaneSt) (r : Req) (a : HelloArgs) (k : List Byte) (h1 : a.certOk = true) (h2 : (a.requester == r.requester) = true)
    (h3 : K.on Reg.SEC_KEY_STAT_HMK = true) (hk : k = kmac128 (K.hostKey a.requester) (helloSigned a) 32 (ascii "HELLO")) :
    K.helloOk r { a with sig := k } = true := by
  have e : K.helloOk r { a with sig := k } = (a.certOk && a.requester == r.requester && K.on Reg.SEC_KEY_STAT_HMK &&
      k == kmac128 (K.hostKey a.requester) (helloSigned a) 32 (ascii "HELLO")) := rfl
  rw [e, h1, h2, h3, ← hk]
  simp
theorem test_hyps_SessionsAndUnlock_HelloVerifies : wHello.certOk = true ∧ (wHello.requester == (wReq false 3389).requester) = true ∧
    (wClosed.hearing 5).on Reg.SEC_KEY_STAT_HMK = true := by decide +kernel
theorem test_hyps_SessionsAndUnlock_HelloPasses : ((wClosed.hearing 5).noteRate 15).gate 15 (wReq false 3389) (helloBody wHello) = none ∧
    (wClosed.hearing 5).helloNak wHello true = (0, 0) := by decide +kernel
theorem test_hyps_SessionsAndUnlock_SessionOpensAndEnds :
    (let L := wClosed; let K := L.hearing 5; let r := wReq false 3389; L.up = true ∧ K.hears = true ∧
      named r .A = true ∧ r.transport ≠ .internal ∧ r.transport ≠ .can ∧ 15 = 2 * r.requester.toNat + 1 ∧
      r.mbox ≠ 0 ∧ r.mbox ≠ 15 ∧ r.module = false ∧ L.holdsBox r.mbox = false ∧ L.seqRec 15 r.mbox = none ∧ shared (1, 2) (1, 2) = some 2 ∧ L.reg 0x400F000C = 0#32) ∧
    (let K := ((wA wSess).lane .A).hearing 5; K.helloNak { wHello with vmin := 3, vmax := 4 } true = (nakVersion, 0) ∧ nakVersion ≠ 0 ∧
      K.helloNak { wHello with session := 0 } true = (nakArgument, 4)) ∧
    (let L := (wA (wMbx fun m => { m with lastCmd := 0 })).lane .A; L.up = true ∧ L.mbx.lastCmd + 600000000000 ≤ 600000000000 ∧ L.reg 0x400F000C ≠ 0#32 ∧ L.mbx.asked = []) ∧
    ((wA (wMbx fun m => { m with asked := [wModCmd .resetArm] })).lane .A).mbx.asked ≠ [] ∧
    (let L := (wA fun L => wNv (fun n => { n with pwFails := 5 }) (wSess L)).lane .A; wGo L .A 5 0x0700 (wReq false 8) = true ∧ 5 ≤ L.nvm.pwFails) ∧
    (let L := (wA fun L => wNv (fun n => { n with pwFails := 4 }) (wSess L)).lane .A; wGo L .A 5 0x0700 (wReq false 8) = true ∧
      wGo L .A 5 0x0700 (wReq false 65) = true ∧ L.nvm.pwFails < 5 ∧ 8 ≤ 8 ∧ 64 ≤ 64 ∧ (65 < 8 ∨ 64 < 65)) := by decide +kernel

def wChal (perm : Bool) (consec total : Nat) (L : LaneSt) : LaneSt :=
  ((((wSess L).put Reg.SEC_DBG_STAT_PERM perm).wr Reg.SEC_DBG_STAT_CONSEC consec).wr Reg.SEC_DBG_STAT_TOTAL total).updSec fun x => { x with challenge := some ⟨0xABCD, 2, 4, [1]⟩ }
theorem test_hyps_SessionsAndUnlock_DebugUnlocks :
    (let L := (wA (wChal true 0 0)).lane .A; wGo L .A 5 0x0701 (wReq false 1) = true ∧ L.on Reg.SEC_DBG_STAT_PERM = true) ∧
    (let L := (wA (wChal false 2 7)).lane .A; let r := wReq false 3313; wGo L .A 5 0x0702 r = true ∧ L.on Reg.SEC_DBG_STAT_PERM = false ∧ (3 = 0 ∨ 2 < 3) ∧ (2 = 1 ∨ 2 = 2) ∧
      (match L.sec.challenge with
        | some c => true && c.level == 2 && c.session == r.session && decide (5 < c.at_ + 10000000000) && L.lc != lcDecommissioned
        | none => false) = true ∧ L.rd Reg.SEC_DBG_STAT_CONSEC < 3 ∧ 7 ≤ L.rd Reg.SEC_DBG_STAT_TOTAL ∧
      L.sec.challenge = some ⟨0xABCD, 2, 4, [1]⟩ ∧ 4 + 10000000000 ≤ 10000000004) ∧
    (let L := (wA wSess).lane .A; L.sec.challenge = none ∧ wGo L .A 5 0x0702 (wReq false 3313) = true) ∧
    3 ≤ ((wA (wChal false 3 3)).lane .A).rd Reg.SEC_DBG_STAT_CONSEC ∧
    (let L := (wA fun L => (L.wr Reg.SEC_DBG_STAT_LEVEL 2).put Reg.DBG_SESSION_OPEN false).lane .A; L.up = true ∧ L.rd Reg.SEC_DBG_STAT_LEVEL ≠ 0 ∧
      L.on Reg.DBG_SESSION_OPEN = false) ∧ (State.reset.lane .A).rd Reg.SEC_DBG_STAT_LEVEL = 0 := by decide +kernel

/-- KEY_LOAD of an item of `n` bytes; with its right CHECK. -/
def wKey (slot wrap n : Nat) : KeyArgs := ⟨slot, wrap, List.replicate n 3, [], [], true⟩
def wChecked (L : LaneSt) (a : KeyArgs) : KeyArgs := { a with check := keyCheck (L.unwrap .A a 5) }
theorem test_hyps_KeysAndRind_CheckRight (L : LaneSt) (a : KeyArgs) : keyCheck (L.unwrap .A (wChecked L a) 5) = (wChecked L a).check ∧
    keyCheck (L.unwrap .A { a with check := [0] ++ keyCheck (L.unwrap .A a 5) } 5) ≠ [0] ++ keyCheck (L.unwrap .A a 5) := by
  have e : ∀ x, L.unwrap .A { a with check := x } 5 = L.unwrap .A a 5 := fun _ => rfl
  rw [wChecked, e, e]
  refine ⟨rfl, fun h => ?_⟩
  rw [e] at h
  simpa using congrArg List.length h
theorem test_hyps_KeysAndRind :
    (let L := (wA fun L => L.wr Reg.SEC_LC_STATE 0).lane .A; L.up = true ∧ L.lc = lcBlank ∧ L.lc ≤ lcProvisioned) ∧
    (let L := (wA fun L => L.wr Reg.SEC_LC_STATE 2).lane .A; L.lc ≠ lcBlank ∧ lcProvisioned < L.lc) ∧
    (let L := (wA fun L => (wSess L).wr Reg.SEC_LC_STATE 1).lane .A; L.st = stStandby ∧
      [wKey 2 0 8, wKey 2 0 64, wKey 3 0 32, wKey 4 0 32].all (fun a => L.keyNak a == (nakVerify, 0) || (L.keyNak a == (0, 0) && L.keyAuth a)) = true ∧
      L.keyNak (wKey 6 0 32) = (nakArgument, 0) ∧ L.keyNak (wKey 2 0 7) = (nakArgument, 2)) ∧
    (let L := (wA fun L => (wMbx (fun m => { m with pwOk := true }) L).wr Reg.SEC_LC_STATE lcField).lane .A;
      [wKey 2 0 8, wKey 2 0 64, wKey 3 0 32, wKey 4 0 32].all (fun a => decide (L.keyNak a = (0, 0)) && L.keyAuth a) = true ∧
      wGo L .A 5 0x0704 (wReq false 20) = true ∧ wGo L .A 5 0x0704 (wReq false 44) = true) ∧
    (let L := (wA fun L => ((wSess L).wr Reg.SEC_LC_STATE 1).put Reg.SEC_KEY_STAT_OWNER false).lane .A; let a := wKey 1 0 1952; L.keyNak a = (0, 0) ∧ L.keyAuth a = false) ∧
    (let L := (wA fun L => (wSess L).wr Reg.SEC_LC_STATE 3).lane .A; L.keyNak (wKey 5 1 32) = (0, 0) ∧ L.keyAuth (wKey 5 1 32) = true ∧ L.keyAuth { wKey 5 1 32 with sigOk := false } = false) ∧
    (let L := (wA wSess).lane .A; 6 ≤ 6 ∧ stPark ≤ L.st ∧ L.watches 6 = true ∧ L.watches 3 = true ∧ 4 ≤ (L.wr Reg.SEC_DBG_STAT_CONSEC 4).rd Reg.SEC_DBG_STAT_CONSEC ∧
      (L.wr Reg.SEC_DBG_STAT_CONSEC 4).watches 6 = true ∧ L.on Reg.SEC_RIND_STAT_ALARM = false ∧ L.st < stArm ∧
      stArm ≤ (inSt 4 L).st ∧ 999999 < rindHold 0 ∧ rindHold 3 ≤ 2 ∧ rindHold 6 ≤ 0) := by decide +kernel
/-- The AUTH of an owner key under the provisioning key. -/
theorem test_hyps_KeysAndRind_OwnerAuth (L : LaneSt) (a : KeyArgs) (h : a.slot = 1) : L.keyAuth { a with auth := kmac128 L.sec.keys.pk (keyHead a) 32 (ascii "KLD") } = true := by
  obtain ⟨slot, wrap, item, check, auth, sigOk⟩ := a
  obtain rfl : slot = 1 := h
  show (kmac128 L.sec.keys.pk (keyHead ⟨1, wrap, item, check, auth, sigOk⟩) 32 (ascii "KLD") ==
    kmac128 L.sec.keys.pk (keyHead ⟨1, wrap, item, check, auth, sigOk⟩) 32 (ascii "KLD")) = true
  exact beq_self_eq_true _

/-! Auxiliary axes -/

def wAux (f : AuxSt → AuxSt) (L : LaneSt) : LaneSt :=
  { ((L.setReg 0x400C0048 0).setReg 0x400C005C 0).updAux fun a => f { a with stopped := false, v := 0, run := .idle, wish := none, halt := false } with
    pwr := { L.pwr with auxOn := true }, chn := { L.chn with active := false } }
theorem test_hyps_AxisCommands :
    (let L := (wA (wAux id)).lane .A; L.up = true ∧ 0x4E70#16 ≠ 0x4E71#16 ∧ L.homing = false ∧ L.coilFaulted = false ∧
      L.limited (L.auxDist (L.rdS Reg.AUX_TARGET_TARGET)) = false ∧ L.aux.stopped = false ∧ L.pwr.auxOn = true ∧ L.auxStill = true ∧ L.limited L.homeDir = false ∧ L.aux.v = 0) ∧
    ((wA fun L => (wAux (fun a => { a with run := .home 1 }) L).wr Reg.AUX_STAT_STATE 3).lane .A).homing = true ∧
    (let L := (wA fun L => ((wAux id L).wr Reg.AUX_COIL_STAT_COIL_A 1).wr Reg.AUX_STAT_STATE 4).lane .A; L.homing = false ∧ L.coilFaulted = true) ∧
    (let L := (wA fun L => (((wAux id L).put Reg.AUX_LIM_CFG_EN2 true).put Reg.AUX_LIM_STAT_LIM2 true).wr Reg.AUX_TARGET_TARGET 5000).lane .A;
      L.limited (L.auxDist (L.rdS Reg.AUX_TARGET_TARGET)) = true) ∧
    (let L := (wA fun L => (((wAux id L).put Reg.AUX_LIM_CFG_EN1 true).put Reg.AUX_LIM_STAT_LIM1 true).wr Reg.AUX_LIM_CFG_HOME_SW 0).lane .A; L.auxStill = true ∧
      L.limited L.homeDir = true) ∧
    (let L := (wA (wAux fun a => { a with v := 5, run := .move })).lane .A; L.auxStill = false ∧ L.aux.v ≠ 0 ∧ L.st = stStandby) ∧
    (((wA (wAux id)).lane .A).wr Reg.SYS_STATE_MODULE 4).st ≠ stStandby := by decide +kernel

theorem test_hyps_AxisCommands_TableCommit : let L := (wA (wAux id)).lane .A
    microValid L.staged = true ∧ microValid ((L.setReg 0x400C0400 1).staged) = false ∧ L.auxStill = true ∧ L.st = stStandby ∧ L.auxPos % 256 = 0 ∧
      ((L.wr Reg.AUX_POS_VALUE 3).auxPos % 256 ≠ 0) ∧ ((wA (wAux fun a => { a with v := 5, run := .move })).lane .A).auxStill = false := by decide +kernel

def wMove (L : LaneSt) : LaneSt := ((((wAux (fun a => { a with run := .move, goal := 5000 }) L).wr Reg.AUX_VMAX_VMAX 1000).wr Reg.AUX_RAMP_V_VSTART 20).wr Reg.AUX_RAMP_V_VSTOP 10).wr Reg.AUX_RAMP_A_DECEL 40
theorem test_hyps_AxisMotion_Planner :
    (let L := (wA fun L => { wAux (fun a => { a with run := .home 1 }) L with chn := { L.chn with active := true } }).lane .A; L.up = true ∧ L.pwr.auxOn = true ∧
      L.chn.active = true ∧ L.aux.run ≠ .home 2 ∧ L.aux.run ≠ .home 5) ∧
    (let L := (wA (wAux fun a => { a with wish := some (.move 5000) })).lane .A; L.up = true ∧ L.pwr.auxOn = true ∧ (L.chn.active && true) = false ∧ L.aux.wish = some (.move 5000) ∧
      L.aux.halt = false ∧ L.limited (L.auxDist 5000) = false ∧ L.auxDist 5000 ≠ 0) ∧
    (let L := (wA (wAux fun a => { a with wish := some (.home 3) })).lane .A; L.aux.wish = some (.home 3) ∧ L.aux.halt = false ∧ L.auxStill = true ∧ L.limited L.homeDir = false) ∧
    (let L := (wA wMove).lane .A; L.up = true ∧ L.pwr.auxOn = true ∧ (L.chn.active && false) = false ∧ L.aux.wish = none ∧ L.aux.run = .move ∧ L.auxDist L.aux.goal ≠ 0 ∧ L.aux.v = 0 ∧
      0 < L.rd Reg.AUX_RAMP_V_VSTART ∧ (absN L.aux.v : Int) ≤ auxV (L.rd Reg.AUX_VMAX_VMAX) ∧ auxV (L.rd Reg.AUX_MODE_CFG_VQUIET) ≤ absN L.aux.v) ∧
    (let L := (wA (wAux fun a => { a with run := .move, goal := 0 })).lane .A; L.auxDist L.aux.goal = 0 ∧ L.aux.v = 0 ∧ L.aux.wish = none) ∧
    (let L := ((wA wMove).lane .A).updAux fun a => { a with v := 90000, goal := 2 }; let v := L.aux.v; let vs := min (auxV (L.rd Reg.AUX_RAMP_V_VSTOP)) (auxV (L.rd Reg.AUX_VMAX_VMAX));
      0 < v ∧ v ≤ auxV (L.rd Reg.AUX_VMAX_VMAX) ∧ vs < v ∧ mustBrake v vs (L.rd Reg.AUX_RAMP_A_DECEL : Nat) (absN (L.auxDist L.aux.goal)) = true ∧
      mustBrake v vs (L.rd Reg.AUX_RAMP_A_DECEL : Nat) (absN (L.auxDist 2000000000)) = false) ∧
    (let L := (wA fun L => (wMove L).wr Reg.AUX_MODE_CFG_VQUIET 500).lane .A; 16 * (absN L.aux.v : Int) < 15 * auxV (L.rd Reg.AUX_MODE_CFG_VQUIET) ∧
      auxV (L.rd Reg.AUX_MODE_CFG_VQUIET) ≠ 0 ∧ (absN L.aux.v : Int) < auxV (L.rd Reg.AUX_MODE_CFG_VQUIET)) ∧
    (let L := (wA fun L => (wMove L).updAux fun a => { a with run := .stopping, v := 5 }).lane .A; L.aux.run = .stopping ∧ L.aux.v ≠ 0 ∧
      (absN L.aux.v : Int) ≤ auxV (L.rd Reg.AUX_RAMP_V_VSTOP)) := by decide +kernel
theorem test_hyps_AxisMotion_Steps :
    (let L := (wA fun L => ((wMove L).updAux fun a => { a with v := 5, halt := false, goal := 256, nextTable := some [1, 2] }).wr Reg.AUX_POS_VALUE 255).lane .A; L.aux.v ≠ 0 ∧
      L.aux.run ≠ .home 1 ∧ L.aux.halt = false ∧ L.aux.run = .move ∧ L.aux.nextTable = some [1, 2] ∧ L.auxPos + 1 = 256 ∧ signedOf 32 (bitsOf 32 L.aux.goal) = 256 ∧
      (absN L.aux.v : Int) ≤ auxV (L.rd Reg.AUX_RAMP_V_VSTOP)) ∧
    (let L := (wA (wAux fun a => { a with onGoal := true, restAt := 5 })).lane .A; L.auxStill = true ∧ L.aux.onGoal = true ∧ L.rd Reg.AUX_STAT_COILS = 0 ∧
      L.aux.restAt + 10000000 * L.rd Reg.AUX_CUR_THOLD ≤ 5 + 10000000 * L.rd Reg.AUX_CUR_THOLD) ∧
    ([0, 1, 2].all fun m => decide (((wA fun L => (wAux (fun a => { a with onGoal := true }) L).wr Reg.AUX_MODE_CFG_STANDSTILL m).lane .A).rd Reg.AUX_MODE_CFG_STANDSTILL = m)) = true := by
  decide +kernel

def wHome (n : Nat) (v : Int) (L : LaneSt) : LaneSt :=
  (((wAux (fun a => { a with run := .home n, v := v, onGoal := true, homeAt := 0, moves1 := [], moves2 := List.replicate 8 5 }) L).wr Reg.AUX_STAT_STATE 3).put Reg.AUX_LIM_CFG_EN1 true).wr Reg.AUX_LIM_CFG_HOME_SW 0
theorem test_hyps_AxisHomesAndFails :
    (let L := (wA fun L => (wAux (fun a => { a with v := -5, run := .move }) L).put Reg.AUX_LIM_CFG_EN1 true).lane .A; L.up = true ∧ 0 < 2 ∧ 999 < 1000 ∧ 1000 ≤ 1000 ∧
      L.on Reg.AUX_LIM_CFG_EN1 = true ∧ (L.aux.moves1.filter fun u => decide (5 ≤ u + 100000000)).length < 8 ∧ L.homing = false ∧ L.aux.v < 0) ∧
    (8 ≤ (((wA (wHome 1 5)).lane .A).aux.moves2.filter fun u => decide (100000005 ≤ u + 100000000)).length ∧
      ((wA fun L => (wHome 1 5 L).put Reg.AUX_LIM_CFG_EN2 true).lane .A).on Reg.AUX_LIM_CFG_EN2 = true) ∧
    (let L := (wA (wHome 1 5)).lane .A; L.rd Reg.AUX_LIM_CFG_HOME_SW = 0 ∧ L.aux.run = .home 1 ∧ L.homing = true ∧
      L.aux.homeAt + 1000000 * L.rd Reg.AUX_HOME_CFG_TMO ≤ 1000000 * L.rd Reg.AUX_HOME_CFG_TMO) ∧ ((wA (wHome 4 5)).lane .A).aux.run = .home 4 ∧
    (let L := (wA (wHome 2 0)).lane .A; L.aux.v = 0 ∧ L.aux.run = .home 2) ∧
    (let L := (wA (wHome 3 0)).lane .A; L.aux.v = 0 ∧ L.aux.run = .home 3 ∧ L.aux.onGoal = true ∧ L.homeTripped = false) ∧
    ((wA fun L => (wHome 3 0 L).put Reg.AUX_LIM_STAT_LIM1 true).lane .A).homeTripped = true ∧ ((wA (wHome 5 0)).lane .A).aux.run = .home 5 ∧
    (let L := (wA fun L => (wAux id L).put Reg.AUX_STAT_STRONG true).lane .A; L.pwr.auxOn = true ∧ 1 < 2 ∧ L.on Reg.AUX_STAT_STRONG = true) := by decide +kernel

/-! Checked execution and register writes -/

/-- A core that agrees with Lamb: x1 and x2 point into the shared SRAM, x3 at a register, x4 nowhere. -/
def wHart : Hart :=
  let x : Cells Word := [(1, 0x20000000#32), (2, 0x20000008#32), (3, 0x40050008#32), (4, 0x30000000#32)]
  let c : Cells Word := [(0x300, 0x8#32), (0x304, 0xFFFF#32), (0x305, 0x101#32), (0x341, 0x2002#32)]
  { pc := 0x1000#32, npc := ~~~0x1000#32, x := x, nx := x.map fun k => (k.1, ~~~k.2), csr := c, ncsr := c.map fun k => (k.1, ~~~k.2), f := [], nf := [] }
def wCpu (L : LaneSt) : LaneSt := L.updCore fun c => { c with
  halted := false, debug := false, cpu := wHart, cpu2 := wHart, shep := wHart, resv := some 0x20000000, lvq := [], scb := [] }
/-- `checks`, but for the complements. -/
def wChecks (L : LaneSt) (i : CoreInstr) : Bool := L.core.lvq.isEmpty && L.core.scb.isEmpty && L.runs && !L.core.debug && !L.isSplit && !L.triggered .A i

theorem wHart_complements : wHart.complements := by
  refine ⟨by decide, ?_, ?_⟩
  · intro fp n; cases fp <;> simp [Hart.getN, Hart.getX, wHart, cellGet] <;> repeat' split
    all_goals simp_all
  · intro k; simp [Hart.ncsrAt, Hart.csrAt, wHart, cellGet]; repeat' split
    all_goals simp_all
/-- Every instruction that `wChecks` lets pass is one that the statements speak of. -/
theorem wChecks_checks {L : LaneSt} {i : CoreInstr} (hc : L.core.cpu = wHart) (h : wChecks L i = true) : L.checks .A i := by
  unfold wChecks at h
  simp only [Bool.and_eq_true, List.isEmpty_iff, Bool.not_eq_true'] at h
  exact ⟨h.1.1.1.1.1, h.1.1.1.1.2, h.1.1.1.2, h.1.1.2, h.1.2, h.2, hc ▸ wHart_complements⟩

theorem test_hyps_CheckedInstructionRuns : let L := (wA wCpu).lane .A; let h := L.core.cpu
    L.core.cpu = wHart ∧ ([.alu .add 5 1 2 4, .muldiv .mul 5 1 2 4, .fpu .add 0 5 1 2 0 4, .branch .beq 1 2 8 4, .jal 1 8 4, .load .word false 5 1 0 4, .store .word 2 1 0 4, .lr 5 1 4,
      .sc 5 1 2 4, .amo .add 5 1 2 4, .csr .rw 5 0x340 1 4, .ecall, .mret 4].all fun i => wChecks L i) = true ∧
    (fpuToInt .add = false ∧ roundMode 0 (h.csrAt 3) ≤ 4 ∧ isSram (h.getX false 1).toNat = true ∧ 1 < 32) ∧
    (isBlock (h.getX false 1 + 0).toNat = false ∧ (L.busRead .word (h.getX false 1 + 0).toNat).isSome = true ∧ aligned .word (h.getX false 1 + 0).toNat = true ∧
      isRam (h.getX false 1 + 0).toNat = true) ∧
    (let a := (h.getX false 3 + 0).toNat; a % 4 = 0 ∧ isRam a = false ∧ isBlock a = true ∧ (rowAt a).isSome = true ∧ inBlock a 0x400E0000 = false) ∧
    (let a := (h.getX false 4 + 0).toNat; isRam a = false ∧ isBlock a = false ∧ aligned .word a = true) ∧
    ((h.getX false 1).toNat % 4 = 0 ∧ L.core.resv = some (h.getX false 1).toNat ∧ L.core.resv ≠ some (h.getX false 2).toNat ∧ isRam (h.getX false 2).toNat = true) ∧
    (L.runs = true ∧ L.core.debug = false ∧ L.irqPending 7 = false ∧ L.isSplit = false) ∧
    (let M := (wA fun L => (wCpu L).put Reg.DBG_CHK_STAT_CORE_MODE true).lane .A; M.isSplit = true ∧ M.runs = true ∧ M.core.debug = false) ∧
    (let M := (wA fun L => (wCpu L).put Reg.MBX_STAT_SHEP_UP true).lane .A; M.runs = true ∧ M.on Reg.MBX_STAT_SHEP_UP = true ∧ M.core.shep = wHart) := by decide +kernel

theorem test_hyps_CheckedInstructionRuns_Interrupt : let L := (wA fun L => { wCpu L with sys := { L.sys with irqs := [7], fastIrq := false, fcIrq := false } }).lane .A
    L.runs = true ∧ L.core.debug = false ∧ L.sys.irqs = [7] ∧ (L.core.cpu.csrAt 0x300).getLsbD 3 = true ∧ (L.core.cpu.csrAt 0x304).getLsbD 7 = true ∧ 7 < 31 ∧
      (L.core.cpu.csrAt 0x304).getLsbD 20 = false := by decide +kernel

theorem test_hyps_LambHoldsComplements : let L := (wA wCpu).lane .A; L.isSplit = false ∧ L.core.cpu.complements ∧ L.core.shep.complements ∧ L.core.lvq = [] ∧ L.core.scb = [] :=
  ⟨by decide +kernel, wHart_complements, wHart_complements, by decide +kernel, by decide +kernel⟩

theorem test_hyps_ReadsHaveNoSideEffect : let L := (wA wCpu).lane .A; L.checks .A (.load .word false 5 1 0 4) ∧
    L.busRead .word (L.core.cpu.getX false 1 + 0).toNat = some 0#32 :=
  ⟨wChecks_checks (by decide +kernel) (by decide +kernel), by decide +kernel⟩

theorem test_hyps_MismatchHaltsTheCore : let L := (wA fun L => (wCpu L).put Reg.MBX_STAT_SHEP_UP true).lane .A; 4#32 ≠ 0#32 ∧ 1 < 32 ∧ L.on Reg.MBX_STAT_SHEP_UP = true ∧
    L.core.cpu = wHart ∧ L.core.shep = wHart ∧ L.readOf (.alu .add 5 1 2 4) = none ∧ L.readOf (.load .word false 5 1 0 4) = some (5, 0x20000000#32) ∧
    ([.alu .add 5 1 2 4, .muldiv .div 5 1 2 4, .load .half true 5 1 0 4, .store .byte 2 1 0 4, .lr 5 1 4, .sc 5 1 2 4, .amo .add 5 1 2 4, .csr .rw 0 0x340 1 4].all fun i =>
      wChecks L i) = true ∧ isBlock (L.core.cpu.getX false 3 + 0).toNat = true ∧ (L.busRead .word (L.core.cpu.getX false 3 + 0).toNat).isSome = true := by decide +kernel

def wDbg (open_ : Bool) (n : Nat) (L : LaneSt) : LaneSt :=
  ((wCpu L).updCore fun c => { c with debug := true, cmderr := 0, sberror := 0, journal := List.replicate n (.x 3, 7#32) }).put Reg.DBG_SESSION_OPEN open_ |>.wr Reg.SEC_DBG_STAT_LEVEL 2
theorem test_hyps_DebuggerSeesTheLead :
    (let L := { (wA fun L => (wCpu L).updCore fun c => { c with halted := true, mismatch := true }).lane .A with
        fc := { (LaneSt.reset 1).fc with queue := [], silentNext := false, resetDue := true } };
      L.up = true ∧ L.core.halted = true ∧ L.fc.resetDue = true ∧ L.fc.queue = [] ∧ L.fc.silentNext = false ∧ L.core.mismatch = true ∧ L.fc.thermal = false ∧ L.fc.hold = false) ∧
    ({ (LaneSt.reset 1).fc with queue := [[0#32]] }.queue ≠ []) ∧
    (let L := (wA (wDbg true 64)).lane .A; L.core.debug = true ∧ L.core.halted = false ∧ 64 ≤ L.core.journal.length ∧ L.isSplit = false ∧ L.runs = true ∧ L.st = stStandby ∧
      L.core.cmderr = 0 ∧ L.core.sberror = 0 ∧ dbgKnown (.x 3) true = true ∧
      (L.on Reg.DBG_SESSION_OPEN && L.rd Reg.SEC_DBG_STAT_LEVEL == 2) = true ∧ isBlock 0x40050000 = true ∧ (rowAt 0x40050000).isSome = true ∧ inBlock 0x40050000 0x400E0000 = false ∧
      (0x20000000 ≤ 0x201FFFFC ∧ 0x201FFFFC < 0x20200000) ∧ 0x20000001 % 4 ≠ 0 ∧ ¬((0x20000000 ≤ 0x10000000 ∧ 0x10000000 < 0x20200000) ∨ (0x28000000 ≤ 0x10000000 ∧ 0x10000000 < 0x28010000)) ∧
      isBlock 0x10000000 = false) ∧
    (let L := (wA (wDbg true 63)).lane .A; L.core.journal.length < 64) ∧ ((wA (wDbg false 0)).lane .A).on Reg.DBG_SESSION_OPEN = false ∧
    ((wA (wDbg false 0)).lane .A).core.journal = [] ∧ 35 % 32 ≠ 0 ∧
    (let L := (wA fun L => (wDbg true 0 L).updCore fun c => { c with debug := false }).lane .A; L.mayHalt .A = true ∧ L.core.halted = false ∧ L.core.debug = false ∧ L.core.cmderr = 0) ∧
    (let L := (wA fun L => inSt 4 (wDbg true 0 L)).lane .A; L.on Reg.DBG_SESSION_OPEN = true ∧ L.core.halted = false ∧ L.mayHalt .A = false) := by decide +kernel

theorem test_hyps_RegisterWriteByAccess : let s := State.reset; let L := s.lane .A
    (L.up = true ∧ inBlock 0x400E0000 0x400E0000 = true ∧ inBlock 0x40200000 0x400E0000 = false ∧ (rowAt 0x40010FFC).isNone = true) ∧
    (let a := 0x400A0004; inBlock a 0x400E0000 = false ∧ a < 0x40200000 ∧ (rowAt a).isSome = true ∧ (s.trigger .A a 0).isNone = true ∧ (L.ignores a 0).isNone = true ∧
      a / 65536 ∉ [0x4002, 0x4006, 0x4009, 0x400C] ∧ a / 65536 ≠ 0x4001 ∧ (match rowAt a with
        | some r => r.fields.all fun f => f.acc != .rws
        | none => false) = true) ∧
    ([0x40000018, 0x40040000].any fun a => match rowAt a with
      | some r => (writeWord a r.fields ⟨L.st == stStandby, L.txBuffer a, [], 0⟩ (L.reg a) 0xFFFFFFFF).2
      | none => false) = true ∧
    (let f : FieldRow := ⟨0, 8, .rws, false, 0, 255⟩; f ∈ [f] ∧ f.acc = .rws ∧ ([0].contains f.lo) = true) := by decide +kernel

/-! The module -/

theorem test_hyps_StepRunsFront : State.reset.pending = [] := by decide +kernel

theorem test_hyps_StepKeepsTorqueSafe : (State.reset.stages.a.st = 1 ∧ State.reset.stages.a.isolated = true ∧ State.reset.stages.a.isolating = false ∧
    State.reset.stages.a.cmd = none) := by decide +kernel

theorem test_hyps_StepKeepsCanonical : State.reset.wf = true := by decide +kernel

theorem test_torqueSafe_reset : State.reset.torqueSafe := by
  have h : ∀ g : StageSt, g.st = 1 → g.isolating = false → g.isoOn = false → g.cmd.isSome = false → g.torqueSafe := by
    intro g h1 h2 h3 h4; simp [StageSt.torqueSafe, h1, h2, h3, h4]
  exact ⟨h _ (by decide +kernel) (by decide +kernel) (by decide +kernel) (by decide +kernel),
    h _ (by decide +kernel) (by decide +kernel) (by decide +kernel) (by decide +kernel),
    h _ (by decide +kernel) (by decide +kernel) (by decide +kernel) (by decide +kernel)⟩

theorem test_hyps_FreezeTakesGroup : cellsWf resetWord State.reset.lanes.a.regs = true ∧ cellsWf resetWord State.reset.lanes.a.snap = true ∧
    freezeOf 0x40000000 = freezeOf 0x40000000 ∧ (freezeOf 0x40000004 ≠ .never) := by decide +kernel

end Sys2Proof.Tests
end

/-! Freezing a group of class S registers (R8, R125). -/
namespace Sys2Proof.Machine

section
variable {α : Type} [DecidableEq α] (dflt : Nat → α)

omit [DecidableEq α] in
/-- What is left of a store when only the addresses in `p` stay listed. -/
theorem cellGet_filter_addr (p : Nat → Bool) (m : Cells α) (a : Nat) :
    cellGet dflt (m.filter fun e => p e.1) a = if p a then cellGet dflt m a else dflt a := by
  induction m with
  | nil => simp [cellGet]
  | cons e m ih =>
    obtain ⟨b, x⟩ := e
    by_cases hab : a = b
    · subst hab
      by_cases hp : p a = true
      · simp [cellGet, hp]
      · simp [hp, ih]
    · by_cases hb : p b = true
      · simp [cellGet, hb, hab, ih]
      · simp [cellGet, hb, hab, ih]

/-- A canonical store whose addresses all lie above `a` does not list `a`. -/
theorem cellGet_of_headAbove {m : Cells α} {a : Nat} (hw : cellsWf dflt m = true) (h : headAbove a m = true) :
    cellGet dflt m a = dflt a := by
  induction m with
  | nil => rfl
  | cons e m ih =>
    obtain ⟨b, x⟩ := e
    rw [cellsWf_cons] at hw
    simp only [Bool.and_eq_true] at hw
    have hab : a < b := by simpa [headAbove] using h
    rw [cellGet, if_neg (by omega)]
    exact ih hw.2 (headAbove_trans (by omega) hw.1.2)

/-- Writing every entry of a canonical store into another: where the first lists something, that is read. -/
theorem cellGet_foldl_put {new : Cells α} (hw : cellsWf dflt new = true) (m : Cells α) (a : Nat) :
    cellGet dflt (new.foldl (fun m e => cellPut dflt m e.1 e.2) m) a =
      if cellGet dflt new a = dflt a then cellGet dflt m a else cellGet dflt new a := by
  induction new generalizing m with
  | nil => simp [cellGet]
  | cons e new ih =>
    obtain ⟨b, x⟩ := e
    rw [cellsWf_cons] at hw
    simp only [Bool.and_eq_true, decide_eq_true_eq] at hw
    obtain ⟨⟨hx, hb⟩, hn⟩ := hw
    rw [List.foldl_cons, ih hn]
    by_cases hab : a = b
    · subst hab
      have hnone := cellGet_of_headAbove dflt hn hb
      simp [hnone, cellGet, hx]
    · simp [cellGet, hab, cellGet_put_ne]

end

/-- A frozen word after a freeze: the group's registers take their live word, the others keep theirs (R8). -/
theorem LaneSt.snapReg_freeze {L : LaneSt} (g : Freeze) (a : Nat) (hr : cellsWf resetWord L.regs = true) :
    (L.freeze g).snapReg a = if freezeOf a = g then L.reg a else L.snapReg a := by
  have hkeep := cellGet_filter_addr resetWord (fun b => decide (freezeOf b ≠ g)) L.snap a
  have hnow := cellGet_filter_addr resetWord (fun b => decide (freezeOf b = g)) L.regs a
  rw [LaneSt.snapReg, LaneSt.freeze, cellGet_foldl_put resetWord (cellsWf_filter resetWord _ hr), hnow, hkeep]
  by_cases hg : freezeOf a = g
  · simp only [hg, LaneSt.reg, decide_true, if_true]
    split <;> simp_all
  · simp [hg, LaneSt.snapReg]

/-- Checked code reads a frozen register as frozen, any other live. -/
theorem LaneSt.regRead_freeze {L : LaneSt} {g : Freeze} (a : Nat) (hr : cellsWf resetWord L.regs = true) (hg : g ≠ .never) :
    (L.freeze g).regRead a = if freezeOf a = g then L.reg a else L.regRead a := by
  have hlive : (L.freeze g).reg a = L.reg a := rfl
  rw [LaneSt.regRead, LaneSt.regRead, L.snapReg_freeze g a hr, hlive]
  by_cases ha : freezeOf a = .never
  · simp [ha, hg.symm]
  · simp [ha]

/-- Settles O7: the group's live entries are written over the frozen words of the others, and a canonical store lists an address at
most once. -/
theorem freezeTakesGroup : Obligations.FreezeTakesGroup := by
  intro L g a hr _
  exact ⟨L.snapReg_freeze g a hr, rfl, (L.freeze_frame g).1, L.regRead_freeze a hr⟩

end Sys2Proof.Machine

/-! ## The queue

A command answers a next state and leaves the queue alone (log entry 27). Commands are built from a few carriers (on one lane, one stage,
one guardian, or on the whole module); each carrier, and each operation on the whole module, leaves the queue as it is. -/
namespace Sys2Proof.Machine

/-- The outcome is a next state with the queue of `s`. -/
def Answers (s : State) (o : Out) : Prop := ∃ t, o = .next t ∧ t.pending = s.pending

theorem answers_next {s t : State} (h : t.pending = s.pending) : Answers s (.next t) := ⟨t, rfl, h⟩

theorem answers_ite {s : State} {c : Prop} [Decidable c] {o o' : Out} (h : Answers s o) (h' : Answers s o') :
    Answers s (if c then o else o') := by
  split <;> assumption

/-! ### Carriers -/

theorem answers_updLane (l : Lane) (s : State) (f : LaneSt → LaneSt) : Answers s (.next (s.updLane l f)) := answers_next rfl

theorem answers_updStage (g : Stg) (s : State) (f : StageSt → StageSt) : Answers s (.next (s.updStage g f)) := answers_next rfl

theorem answers_onLane (l : Lane) (t : Nat) (s : State) (f : LaneSt → LaneSt) : Answers s (onLane l t s f) := answers_updLane l s _

theorem answers_onLaneNow (l : Lane) (s : State) (f : LaneSt → LaneSt) : Answers s (onLaneNow l s f) := answers_updLane l s _

theorem answers_onLinked (l : Lane) (t : Nat) (s : State) (f : LaneSt → LaneSt) : Answers s (onLinked l t s f) := answers_updLane l s _

theorem answers_onLinkedNow (l : Lane) (s : State) (f : LaneSt → LaneSt) : Answers s (onLinkedNow l s f) := answers_updLane l s _

theorem answers_onAwake (l : Lane) (t : Nat) (s : State) (f : LaneSt → LaneSt) : Answers s (onAwake l t s f) := answers_updLane l s _

theorem answers_auxCmd (l : Lane) (key : BitVec 16) (s : State) (f : LaneSt → LaneSt) : Answers s (auxCmd l key s f) :=
  answers_updLane l s _

theorem answers_laneCmd (l : Lane) (code : Nat) (r : Req) (body : List Byte) (t : Nat) (s : State) (f : LaneSt → LaneSt) :
    Answers s (laneCmd l code r body t s f) := answers_updLane l s _

theorem answers_readCmd (l : Lane) (code : Nat) (r : Req) (t : Nat) (s : State) (f : LaneSt → List Byte) :
    Answers s (readCmd l code r t s f) := answers_updLane l s _

theorem answers_moduleCmd (l : Lane) (code : Nat) (r : Req) (body : List Byte) (cmd : ModCmd) (t : Nat) (s : State) :
    Answers s (moduleCmd l code r body cmd t s) := answers_updLane l s _

theorem answers_lifecycle (l : Lane) (r : Req) (op : Nat) (a : LcArgs) (t : Nat) (s : State) : Answers s (lifecycle l r op a t s) :=
  answers_moduleCmd ..

theorem answers_onGdn (g : Gdn) (s : State) (f : GuardianSt → GuardianSt) : Answers s (onGdn g s f) :=
  answers_next (s.updGdn_pending g _)

/-- A command on a powered guardian that may reach beyond it. -/
theorem answers_withGdn (g : Gdn) (s : State) {f : State → State} (h : ∀ u : State, (f u).pending = u.pending) :
    Answers s (withGdn g s f) :=
  answers_ite (answers_next ((h _).trans (s.updGdn_pending g _))) (answers_next rfl)

/-- A command of a guardian that stays within it. -/
theorem answers_withGdn_updGdn (g : Gdn) (s : State) (f : State → GuardianSt → GuardianSt) :
    Answers s (withGdn g s fun u => u.updGdn g (f u)) :=
  answers_withGdn g s fun u => u.updGdn_pending g _

/-! ### Operations on the module -/

theorem State.pending_ite {c : Prop} [Decidable c] {s a b : State} (ha : a.pending = s.pending) (hb : b.pending = s.pending) :
    (if c then a else b).pending = s.pending := by
  split <;> assumption

theorem State.pending_foldl {α : Type} {f : State → α → State} (h : ∀ (s : State) (x : α), (f s x).pending = s.pending) (xs : List α)
    (s : State) : (xs.foldl f s).pending = s.pending := by
  induction xs generalizing s with
  | nil => rfl
  | cons x xs ih => exact (ih (f s x)).trans (h s x)

@[simp] theorem State.noteCopies_pending (s : State) (l : Lane) (m : Nat) : (s.noteCopies l m).pending = s.pending := rfl

@[simp] theorem State.restStages_pending (s : State) : s.restStages.pending = s.pending := rfl

@[simp] theorem State.restAfter_pending (s : State) (was : LaneSt) (l : Lane) : (s.restAfter was l).pending = s.pending :=
  pending_ite rfl rfl

@[simp] theorem State.stepTogether_pending (s : State) (l : Lane) (f : Lane → LaneSt → LaneSt) :
    (s.stepTogether l f).pending = s.pending := by
  unfold State.stepTogether
  exact pending_foldl (fun u k => pending_ite (u.updLane_pending k _) rfl) _ s

@[simp] theorem State.driveSto_pending (s : State) (l : Lane) : (s.driveSto l).pending = s.pending := by
  unfold State.driveSto
  have hstep : ∀ (c : Prop) [Decidable c] (u : State) (x : Tri StageSt),
      (if c then { u with stages := x } else u).pending = u.pending := fun _ _ _ _ => pending_ite rfl rfl
  exact (hstep _ _ _).trans ((hstep _ _ _).trans (hstep _ _ _))

@[simp] theorem State.raiseAll_pending (s : State) (id d : Nat) : (s.raiseAll id d).pending = s.pending := rfl

@[simp] theorem State.showMuted_pending (s : State) (g : Gdn) : (s.showMuted g).pending = s.pending := rfl

@[simp] theorem State.showPorts_pending (s : State) (g : Gdn) : (s.showPorts g).pending = s.pending := rfl

@[simp] theorem State.route_pending (s : State) (g : Gdn) (p : Port) (f : FlockFrame) (t : Nat) : (s.route g p f t).pending = s.pending :=
  s.updGdn_pending g _

@[simp] theorem State.truncated_pending (s : State) (g : Gdn) (id n : Nat) : (s.truncated g id n).pending = s.pending :=
  s.updGdn_pending g _

@[simp] theorem State.localFrame_pending (s : State) (g : Gdn) (src : Src) (f : FlockFrame) (start stop : Nat) :
    (s.localFrame g src f start stop).pending = s.pending := by
  unfold State.localFrame
  refine pending_ite (by simp) (pending_ite rfl (pending_ite (pending_ite (by simp) rfl) (pending_ite rfl ?_)))
  exact pending_ite (by simp) (pending_ite (by simp) (by simp))

@[simp] theorem State.loseSupply_pending (s : State) (l : Lane) (id t : Nat) : (s.loseSupply l id t).pending = s.pending := rfl

@[simp] theorem State.powerStages_pending (s : State) : s.powerStages.pending = s.pending := rfl

@[simp] theorem State.stageSupplied_pending (s : State) (l : Lane) : (s.stageSupplied l).pending = s.pending := rfl

@[simp] theorem State.parked_pending (s : State) (l : Lane) : (s.parked l).pending = s.pending :=
  State.driveSto_pending { s with gX := s.gX.sleep l, gY := s.gY.sleep l } l

@[simp] theorem State.wakeLane_pending (s : State) (l : Lane) (bit t : Nat) : (s.wakeLane l bit t).pending = s.pending := rfl

@[simp] theorem State.forgetImage_pending (s : State) (l : Lane) : (s.forgetImage l).pending = s.pending := rfl

@[simp] theorem State.started_pending (s : State) (l : Lane) : (s.started l).pending = s.pending := by
  unfold State.started
  exact (State.driveSto_pending _ l).trans (pending_ite rfl rfl)

/-! ### Register writes (R458) -/

theorem outState_pending {s : State} {o : Out} (h : Answers s o) : (outState s o).pending = s.pending := by
  obtain ⟨t, rfl, ht⟩ := h
  exact ht

theorem forBits_pending {f : Nat → State → Out} (h : ∀ (j : Nat) (s : State), Answers s (f j s)) (v : Word) (s : State) :
    (forBits v f s).pending = s.pending :=
  State.pending_foldl (fun u j => State.pending_ite (outState_pending (h j u)) rfl) _ s

theorem State.writeSafeReq_pending (s : State) (l : Lane) (v : Word) : (s.writeSafeReq l v).pending = s.pending := by
  unfold State.writeSafeReq
  have hsto : (outState s (execSafeReqSto l (v.extractLsb' 16 16) (v.extractLsb' 0 3) s)).pending = s.pending :=
    outState_pending (answers_onLaneNow ..)
  refine pending_ite ?_ hsto
  exact (outState_pending (answers_onLaneNow ..)).trans ((outState_pending (answers_onLaneNow ..)).trans hsto)

theorem State.writeFcAck_pending (s : State) (l : Lane) (v : Word) : (s.writeFcAck l v).pending = s.pending := by
  unfold State.writeFcAck
  have hack : (outState s (execAcknowledgeClass l (v.extractLsb' 16 16) (v.extractLsb' 1 15) s)).pending = s.pending :=
    outState_pending (answers_onLaneNow ..)
  exact pending_ite ((outState_pending (answers_onLaneNow ..)).trans hack) hack

theorem State.writeAuxCmd_pending (s : State) (l : Lane) (v : Word) : (s.writeAuxCmd l v).pending = s.pending := by
  unfold State.writeAuxCmd
  refine pending_ite rfl ?_
  split
  case h_7 => rfl
  all_goals exact outState_pending (answers_auxCmd ..)

theorem State.canAbort_pending (s : State) (l : Lane) (c : CanId) (b : Nat) (v : Word) : (s.canAbort l c b v).pending = s.pending :=
  forBits_pending (fun _ _ => answers_onLinkedNow ..) v (s.updLane l fun _ => (s.lane l).fresh.2)

theorem State.canTrigger_pending {s t : State} {l : Lane} {c : CanId} {o : Nat} {v : Word} (h : s.canTrigger l c o v = some t) :
    t.pending = s.pending := by
  unfold State.canTrigger at h
  split at h
  · cases h; exact outState_pending (answers_onLinkedNow ..)
  · split at h
    · cases h; exact outState_pending (answers_onLinkedNow ..)
    · split at h
      · cases h; exact forBits_pending (fun _ _ => answers_onLinkedNow ..) v s
      · split at h
        · cases h; exact s.canAbort_pending ..
        · cases h

/-- A register whose write is a command. -/
theorem State.trigger_pending {s t : State} {l : Lane} {a : Nat} {v : Word} (h : s.trigger l a v = some t) : t.pending = s.pending := by
  unfold State.trigger at h
  split at h
  case h_1 => cases h; exact outState_pending (answers_onLaneNow ..)
  case h_2 => cases h; exact s.writeFcAck_pending ..
  case h_3 => cases h; exact outState_pending (answers_onLane ..)
  case h_4 => cases h; exact outState_pending (answers_onLaneNow ..)
  case h_5 => cases h; exact outState_pending (answers_onLaneNow ..)
  case h_6 => cases h; exact pending_ite (outState_pending (answers_onLane ..)) rfl
  case h_7 => cases h; exact outState_pending (answers_onLaneNow ..)
  case h_8 => cases h; exact s.writeSafeReq_pending ..
  case h_9 => cases h; exact outState_pending (answers_onLinked ..)
  case h_10 => cases h; exact outState_pending (answers_onLinkedNow ..)
  case h_11 => cases h; exact s.writeAuxCmd_pending ..
  case h_12 => cases h; exact s.updLane_pending ..
  case h_13 => cases h; exact outState_pending (answers_onLaneNow ..)
  case h_14 => cases h; exact s.updLane_pending ..
  case h_15 =>
    split at h
    · exact State.canTrigger_pending h
    · cases h

@[simp] theorem State.regWrite_pending (s : State) (l : Lane) (a : Nat) (v sets : Word) : (s.regWrite l a v sets).pending = s.pending := by
  unfold State.regWrite
  refine pending_ite rfl (pending_ite rfl ?_)
  split
  · rfl
  · split
    · exact State.trigger_pending ‹_›
    · rfl

/-! ### Instructions of the checked cores -/

theorem State.busStore_pending {s t : State} {l : Lane} {w : Width} {a : Nat} {v : Word} (h : s.busStore l w a v = some t) :
    t.pending = s.pending := by
  unfold State.busStore at h
  split at h
  · cases h
  · split at h
    · cases h; rfl
    · split at h
      · cases h; exact s.regWrite_pending ..
      · cases h

theorem State.storeInstr_pending (s : State) (l : Lane) (w : Width) (fp : Bool) (rs1 rs2 : Nat) (off : Word) (len : Nat) (u : Upset) :
    (s.storeInstr l w fp rs1 rs2 off len u).pending = s.pending := by
  unfold State.storeInstr
  refine pending_ite rfl ?_
  dsimp only
  split
  · rfl
  · next t ht =>
    exact (t.updLane_pending l _).trans
      (State.busStore_pending (s := (s.updLane l fun L => L.storeAgree w fp rs1 rs2 off u).updLane l LaneSt.scbTake) ht)

@[simp] theorem State.runInstr_pending (s : State) (l : Lane) (i : CoreInstr) (u : Upset) (q : IssueIn) :
    (s.runInstr l i u q).pending = s.pending := by
  unfold State.runInstr
  refine pending_ite rfl (pending_ite rfl ?_)
  dsimp only
  split
  · exact (State.storeInstr_pending ..).trans (pending_ite rfl rfl)
  · exact (State.storeInstr_pending ..).trans (pending_ite rfl rfl)
  · exact pending_ite rfl rfl

theorem State.onHart_pending {f : State → State} (h : ∀ u : State, (f u).pending = u.pending) (s : State) (l : Lane) (second : Bool) :
    (s.onHart l second f).pending = s.pending :=
  pending_ite (h s) (pending_ite (h _) rfl)

/-! ### Commands that reach beyond one lane, stage or guardian -/

theorem execCrossStrapFrame_answers (g : Stg) (l : Lane) (f : Option XFrame) (mark : Int) (p : Nat) (crcOk inTime : Bool) (s : State) :
    Answers s (execCrossStrapFrame g l f mark p crcOk inTime s) := by
  unfold execCrossStrapFrame
  split
  · exact answers_next rfl
  · exact answers_updStage ..

theorem execArmSequence_answers (l : Lane) (t : Nat) (s : State) : Answers s (execArmSequence l t s) :=
  answers_ite (answers_next rfl) (answers_next rfl)

theorem execArmSelftestComplete_answers (l : Lane) (fcOk chnOk posOk : Bool) (copyOk : Tri Bool) (t : Nat) (s : State) :
    Answers s (execArmSelftestComplete l fcOk chnOk posOk copyOk t s) :=
  answers_ite (answers_next rfl) (answers_next rfl)

theorem execArmComplete_answers (l : Lane) (t : Nat) (s : State) : Answers s (execArmComplete l t s) :=
  answers_ite (answers_next (s.stepTogether_pending l _)) (answers_next rfl)

theorem execTransitionTimeout_answers (l : Lane) (t : Nat) (s : State) : Answers s (execTransitionTimeout l t s) :=
  answers_ite (answers_next ((State.restAfter_pending _ _ l).trans (s.stepTogether_pending l _))) (answers_next rfl)

theorem execEnPulseEnd_answers (l : Lane) (g : Stg) (mv : Int) (s : State) : Answers s (execEnPulseEnd l g mv s) :=
  answers_ite (answers_ite (answers_next rfl) (answers_next rfl)) (answers_next rfl)

theorem onLaneSto_answers (l : Lane) (t : Nat) (s : State) (f : LaneSt → LaneSt) : Answers s (onLaneSto l t s f) :=
  answers_next (State.driveSto_pending (s.updLane l _) l)

theorem execShadowingEnd_answers (l : Lane) (t : Nat) (s : State) : Answers s (execShadowingEnd l t s) :=
  answers_ite (answers_next rfl) (answers_next rfl)

/-! ### Commands of a time keeper, of a lane or of a guardian -/

theorem execSyncFrame_answers (k : Keeper) (f : FlockFrame) (rx : Nat) (s : State) : Answers s (execSyncFrame k f rx s) := by
  unfold execSyncFrame
  cases k
  case lane => exact answers_onLinkedNow ..
  case guardian => exact answers_onGdn ..

theorem execColdstartFrame_answers (k : Keeper) (f : FlockFrame) (rx : Nat) (s : State) : Answers s (execColdstartFrame k f rx s) := by
  unfold execColdstartFrame
  cases k
  case lane => exact answers_onLinkedNow ..
  case guardian => exact answers_onGdn ..

theorem execOffsetCorrection_answers (k : Keeper) (t : Nat) (s : State) : Answers s (execOffsetCorrection k t s) := by
  unfold execOffsetCorrection
  cases k
  case lane => exact answers_onLinked ..
  case guardian => exact answers_onGdn ..

theorem execRateCorrection_answers (k : Keeper) (n : Nat) (s : State) : Answers s (execRateCorrection k n s) := by
  unfold execRateCorrection
  cases k
  case lane => exact answers_onLinkedNow ..
  case guardian => exact answers_onGdn ..

theorem execPassiveTimeout_answers (k : Keeper) (s : State) : Answers s (execPassiveTimeout k s) := by
  unfold execPassiveTimeout
  cases k
  case lane => exact answers_onLinkedNow ..
  case guardian => exact answers_onGdn ..

theorem execStartupComplete_answers (k : Keeper) (n : Nat) (s : State) : Answers s (execStartupComplete k n s) := by
  unfold execStartupComplete
  cases k
  case lane => exact answers_onLinkedNow ..
  case guardian => exact answers_onGdn ..

/-! ### Commands of a guardian that reach the lanes -/

theorem execMuteStart_answers (g : Gdn) (n : Nat) (s : State) : Answers s (execMuteStart g n s) :=
  answers_withGdn g s fun u => (State.showMuted_pending _ g).trans (u.updGdn_pending g _)

theorem execMuteExpiry_answers (g : Gdn) (n : Nat) (s : State) : Answers s (execMuteExpiry g n s) :=
  answers_withGdn g s fun u => (State.showMuted_pending _ g).trans (u.updGdn_pending g _)

theorem execGuardianRingFrame_answers (g : Gdn) (p : Port) (f : FlockFrame) (bytes t : Nat) (s : State) :
    Answers s (execGuardianRingFrame g p f bytes t s) := by
  refine answers_withGdn g s fun u => State.pending_ite ?_ (State.pending_ite ?_ (State.pending_ite ?_ (State.pending_ite ?_ ?_)))
  all_goals simp

theorem execGuardianLocalFrame_answers (g : Gdn) (src : Src) (f : FlockFrame) (start stop : Nat) (s : State) :
    Answers s (execGuardianLocalFrame g src f start stop s) :=
  answers_withGdn g s fun u => (State.localFrame_pending ..).trans (u.updGdn_pending g _)

theorem execWindowEndCutoff_answers (g : Gdn) (src : Src) (w m t : Nat) (s : State) : Answers s (execWindowEndCutoff g src w m t s) :=
  answers_withGdn g s fun u => State.pending_ite ((State.truncated_pending ..).trans (u.updGdn_pending g _)) rfl

theorem execPortBroken_answers (g : Gdn) (p : Port) (why : BreakWhy) (t : Nat) (s : State) : Answers s (execPortBroken g p why t s) :=
  answers_withGdn g s fun u => State.pending_ite (u.updGdn_pending g _) rfl

theorem execLoopEstablished_answers (g : Gdn) (p : Port) (t : Nat) (s : State) : Answers s (execLoopEstablished g p t s) :=
  answers_withGdn g s fun u => u.updGdn_pending g _

theorem execLoopRelease_answers (g : Gdn) (p : Port) (n : Nat) (s : State) : Answers s (execLoopRelease g p n s) :=
  answers_withGdn g s fun u => State.pending_ite (u.updGdn_pending g _) rfl

theorem execRingNegotiation_answers (g : Gdn) (p : Port) (rate : Option Nat) (t : Nat) (s : State) :
    Answers s (execRingNegotiation g p rate t s) :=
  answers_withGdn g s fun u => State.pending_ite (u.updGdn_pending g _) (u.updGdn_pending g _)

theorem execPdelayFrame_answers (g : Gdn) (p : Port) (f : FlockFrame) (t : Nat) (s : State) : Answers s (execPdelayFrame g p f t s) :=
  answers_withGdn g s fun u => u.updGdn_pending g _

theorem execArbWindowEnd_answers (g : Gdn) (w m : Nat) (s : State) : Answers s (execArbWindowEnd g w m s) :=
  answers_withGdn g s fun u => u.updGdn_pending g _

theorem execSatelliteHello_answers (g : Gdn) (n vmin vmax : Nat) (caps : BitVec 32) (ms t : Nat) (s : State) :
    Answers s (execSatelliteHello g n vmin vmax caps ms t s) := by
  refine answers_withGdn g s fun u => State.pending_ite rfl (State.pending_ite ?_ (State.pending_ite ?_ ?_))
  all_goals simp

theorem execSatelliteLost_answers (g : Gdn) (n : Nat) (s : State) : Answers s (execSatelliteLost g n s) :=
  answers_withGdn g s fun u => State.pending_ite (u.updGdn_pending g _) rfl

theorem execGuardianPowerLoss_answers (g : Gdn) (s : State) : Answers s (execGuardianPowerLoss g s) :=
  answers_ite (answers_next (s.updGdn_pending g _)) (answers_next rfl)

/-! ### Supplies, sleep and start -/

theorem execSupplyLoss_answers (l : Lane) (mv : Int) (t : Nat) (s : State) : Answers s (execSupplyLoss l mv t s) :=
  answers_ite (answers_next rfl) (answers_next rfl)

theorem execGroundLoss_answers (l : Lane) (mv : Int) (us t : Nat) (s : State) : Answers s (execGroundLoss l mv us t s) :=
  answers_ite (answers_next ((State.updLane_pending _ l _).trans (State.pending_ite rfl rfl))) (answers_next rfl)

theorem execSupplyReturn_answers (l : Lane) (mv gnd : Int) (us t : Nat) (s : State) : Answers s (execSupplyReturn l mv gnd us t s) := by
  refine answers_ite (answers_ite (answers_next ?_) (answers_ite (answers_next rfl) (answers_ite (answers_next rfl) (answers_next rfl))))
    (answers_next rfl)
  simp

theorem execHoldupExhausted_answers (l : Lane) (t : Nat) (s : State) : Answers s (execHoldupExhausted l t s) :=
  answers_ite (answers_next (by simp)) (answers_next rfl)

theorem execSupplyOvervoltage_answers (l : Lane) (mv : Int) (t : Nat) (s : State) : Answers s (execSupplyOvervoltage l mv t s) :=
  answers_ite (answers_next rfl) (answers_next rfl)

theorem execOvervoltageRecovery_answers (l : Lane) (mv : Int) (us t : Nat) (s : State) :
    Answers s (execOvervoltageRecovery l mv us t s) :=
  answers_ite (answers_next rfl) (answers_next rfl)

theorem execTransitionExecute_answers (l : Lane) (t : Nat) (s : State) : Answers s (execTransitionExecute l t s) := by
  refine answers_ite (answers_next ?_) (answers_next rfl)
  have hpark : ∀ u : State, (([Lane.A, .B, .C].foldl (fun x k => if (s.lane k).up && (x.lane k).st == stPark then x.parked k else x) u)).pending
      = u.pending := fun u => State.pending_foldl (fun x k => State.pending_ite (x.parked_pending k) rfl) _ u
  exact State.pending_ite ((hpark _).trans (s.stepTogether_pending l _)) ((hpark _).trans (s.stepTogether_pending l _))

theorem execSleepSignal_answers (l : Lane) (g : Gdn) (s : State) : Answers s (execSleepSignal l g s) :=
  answers_ite (answers_next (State.parked_pending _ l)) (answers_next rfl)

theorem execWakeSource_answers (l : Lane) (src mv us : Nat) (pattern : Bool) (t : Nat) (s : State) :
    Answers s (execWakeSource l src mv us pattern t s) :=
  answers_ite (answers_next rfl) (answers_next rfl)

theorem execSiblingWake_answers (l : Lane) (g : Gdn) (t : Nat) (s : State) : Answers s (execSiblingWake l g t s) :=
  answers_ite (answers_next rfl) (answers_next rfl)

theorem execRingWake_answers (g : Gdn) (p : Port) (t : Nat) (s : State) : Answers s (execRingWake g p t s) := by
  refine answers_ite (answers_next ?_) (answers_next rfl)
  exact (State.pending_ite (State.wakeLane_pending ..) rfl).trans (State.pending_ite (State.wakeLane_pending ..) rfl)

theorem execWakeComplete_answers (l : Lane) (f : BootFacts) (t : Nat) (s : State) : Answers s (execWakeComplete l f t s) :=
  answers_ite (answers_next (State.started_pending _ l)) (answers_next rfl)

theorem execColdBoot_answers (l : Lane) (mv : Int) (f : BootFacts) (t : Nat) (s : State) : Answers s (execColdBoot l mv f t s) :=
  answers_ite (answers_next (State.started_pending _ l)) (answers_next rfl)

theorem execRomRecoveryLoad_answers (l : Lane) (f : FwFacts) (bankB : Bool) (s : State) : Answers s (execRomRecoveryLoad l f bankB s) :=
  answers_next (State.driveSto_pending (s.updLane l _) l)

theorem execGetId_answers (l : Lane) (r : Req) (t : Nat) (s : State) : Answers s (execGetId l r t s) :=
  answers_ite (answers_onLane ..) (answers_readCmd ..)

/-! ### Checked execution -/

theorem execRegisterWrite_answers (l : Lane) (addr : Nat) (v sets : BitVec 32) (s : State) :
    Answers s (execRegisterWrite l addr v sets s) :=
  answers_next (State.pending_ite (s.regWrite_pending l addr v sets) rfl)

theorem execCheckedInstruction_answers (l : Lane) (c : CoreSel) (i : CoreInstr) (u : Upset) (q : IssueIn) (s : State) :
    Answers s (execCheckedInstruction l c i u q s) := by
  refine answers_ite (answers_updLane ..) (answers_next (State.onHart_pending (fun x => ?_) s l _))
  refine State.pending_ite (State.pending_ite (State.pending_ite rfl ?_) ?_) rfl
  · exact State.runInstr_pending (x.updLane l fun L => L.halt l) ..
  · exact x.runInstr_pending ..

theorem execInterruptTaken_answers (l : Lane) (c : CoreSel) (cause : Nat) (s : State) : Answers s (execInterruptTaken l c cause s) :=
  answers_ite (answers_next rfl) (answers_next (State.onHart_pending (fun u => u.updLane_pending l _) s l _))

theorem execDebugSingleStep_answers (l : Lane) (i : CoreInstr) (s : State) : Answers s (execDebugSingleStep l i s) :=
  answers_ite (answers_next (State.runInstr_pending (s.updLane l LaneSt.replay) ..)) (answers_next rfl)

theorem execSystemBusAccess_answers (l : Lane) (addr : Nat) (v : Option (BitVec 32)) (s : State) :
    Answers s (execSystemBusAccess l addr v s) := by
  refine answers_ite (answers_next rfl) (answers_ite (answers_updLane ..) (answers_ite (answers_updLane ..) ?_))
  cases v
  case none => exact answers_updLane ..
  case some v => exact answers_next (State.pending_ite rfl (s.regWrite_pending l addr v 0))

/-! ### Measurement, Churn, rounds and slots -/

theorem execStatusFrame_answers (l : Lane) (g : Stg) (valid : Bool) (s : State) : Answers s (execStatusFrame l g valid s) :=
  answers_ite (answers_ite (answers_next rfl) (answers_next rfl)) (answers_next rfl)

theorem execOpenWireStep_answers (l : Lane) (g : Stg) (m : LineMeas) (t : Nat) (s : State) : Answers s (execOpenWireStep l g m t s) := by
  refine answers_ite ?_ (answers_updLane ..)
  split
  · exact answers_next rfl
  · exact answers_next rfl

theorem execChurnSlice_answers (l : Lane) (part seg : Nat) (zeroOk sigOk crcOk keyOk : Bool) (dur : Nat) (fold : Bool) (s : State) :
    Answers s (execChurnSlice l part seg zeroOk sigOk crcOk keyOk dur fold s) :=
  answers_ite (answers_next (State.pending_ite rfl rfl)) (answers_next rfl)

theorem execStageCopySwap_answers (l : Lane) (g : Stg) (equal : Bool) (s : State) : Answers s (execStageCopySwap l g equal s) :=
  answers_ite (answers_next rfl) (answers_ite (answers_ite (answers_next rfl) (answers_next rfl))
    (answers_ite (answers_next rfl) (answers_next rfl)))

theorem execVoteComplete_answers (l : Lane) (s : State) : Answers s (execVoteComplete l s) := by
  unfold execVoteComplete
  dsimp only
  split
  · exact answers_next rfl
  · refine answers_ite (answers_next ?_) (answers_next rfl)
    refine (State.driveSto_pending _ l).trans ((State.pending_foldl (fun u i => u.updLane_pending (laneOf i) _) _ _).trans ?_)
    exact State.pending_ite ((State.forgetImage_pending ..).trans (State.restAfter_pending ..)) (State.restAfter_pending ..)

theorem execSlotStart_answers (l : Lane) (t : Nat) (s : State) : Answers s (execSlotStart l t s) :=
  answers_ite (answers_next (State.driveSto_pending (s.updLane l _) l)) (answers_next rfl)

/-! ### Every command -/

theorem exec_answers (c : Instr) (s : State) : Answers s (exec c s) := by
  unfold exec
  cases c with
  | canFrameReceive | canRxRelease | rateDetect | canTxRequest | canTxAbort | canTxDone | busRecessiveResume | recover | busOffRecovery
    | versionExchange | localSyncFrame | cpiAck | skimEncode | flockFrameReceive =>
    exact answers_onLinkedNow ..
  | rateDetectTimeout | silenceRequest | silenceExpiry | busDominant | canBusError | busOff | listenTimeout | localSyncSend
    | startupTimeout | cyclePoint | txPost | flockTransmit =>
    exact answers_onLinked ..
  | energise | prechargeComplete | isolationSwitchesOn | bootstrapsCharged | gateDroop | deEnergise | desaturation | shuntOvercurrent
    | shootThroughCommand | gateSupplyUndervoltage | clampEngage | clampRelease | enRisingEdge | phaseIsolate | isolationTimeout
    | windowClose =>
    exact answers_updStage ..
  | stgRearm | sysReq | reref | posSnap | extensionSnapshot | calRevolution | calApply | ssiTransaction | commutationPeriod
    | commandDeadline | learningRunStart | learningApply | grazeSpectrum | safeReqSto | safeReqSs1 | safeReqClr | resyncPoint
    | acknowledgeClass | rearm | mbxReplyRelease | tapDelivery | shepherdRestart | debugSessionOpen | debugSessionClose | factoryTestToken
    | provision | coreResetAfterRecord | debugHaltRequest | debugRegisterWrite | debugResume | spareUnitHandover =>
    exact answers_onLaneNow ..
  | handshakeDelayExceeded | biasSettled | thermalClockDown | thermalClockUp | foldEntry | standstillTimeout | encoderEdge | indexEdge
    | encoderSignalLoss | encoderSignalRestored | hallTransition | tmrSample | spFrame | spTimeout | spPsi5Phase | commit
    | peakLimitEngage | peakLimitLift | bemfZeroCrossing | ss1Standstill | ss1Timeout | safeAckEdge | resetPendingExpiry | resyncPackage
    | resyncPackageTimeout | catchupComplete | resyncRetry | plannerTick | microstep | standstillEntry | limitSwitchTransition
    | homingStopComplete | homingTimeout | coilFault | faultRaise | lineFault | siblingLineChange | laneSilent | faultRecordWritten
    | maskClose | faultInject | thermalRejoin | laneThermalTrip | stageThermalTrip | windingThermalTrip | clockFault | supplyLossTimeout
    | undervoltageWarning | sensorSupplyFault | confirmTimeout | segmentTimeout | quarantineEnd | unknownRequest | tapEnd | crook
    | crookForced | crookReply | hello | sessionTimeout | challengeExpiry | openWireTestComplete | openWireCycleStart
    | offsetCalibrationComplete | gpConversionComplete | churnCoverageOverdue | basicCycleStart =>
    exact answers_onLane ..
  | agreementMessage | subround2Relay | catchupFrame | parkSupplyLoss | regulatorReady | regulatorRetry | crystalFallback
    | zeroiseTimeout =>
    exact answers_updLane ..
  | muteFrame | portUnblock | sourceUnblock | linkRetry | pdelayRequest | arbEgressSend =>
    exact answers_withGdn_updGdn ..
  | move | stop | hardstop | home | clear | commitTbl =>
    exact answers_auxCmd ..
  | grazeTap | skimTap | tapStop | attest | getKey | imgBegin | imgWrite | imgVerify | cfgRead | calRead | recRead | tallyRead | logRead
    | fwBegin | fwWrite | fwVerify | password | unlockReq | unlockResp | keyLoad =>
    exact answers_laneCmd ..
  | getState | fcRead | mbxStats | fwStatus | rindStat =>
    exact answers_readCmd ..
  | reqState | safeStop | resetArm | resetConfirm | imgCommit | learnStart | calSave | fcAck | fwTrial | fwCommit =>
    exact answers_moduleCmd ..
  | takeover | field | service | return_ | decommission | clearAlarm =>
    exact answers_lifecycle ..
  | rindSource | glitchDetect =>
    exact answers_onAwake ..
  | observerFloat | bemfCaptureStart | reacqTimeout | flyingStartTimeout | guardianStatusWord | pwmPeriodStart => exact answers_next rfl
  | stoLatchSet | stoTestPulse | safeAckQualified => exact onLaneSto_answers ..
  | crossStrapFrame => exact execCrossStrapFrame_answers ..
  | armSequence => exact execArmSequence_answers ..
  | armSelftestComplete => exact execArmSelftestComplete_answers ..
  | armComplete => exact execArmComplete_answers ..
  | transitionTimeout => exact execTransitionTimeout_answers ..
  | enPulseEnd => exact execEnPulseEnd_answers ..
  | shadowingEnd => exact execShadowingEnd_answers ..
  | syncFrame => exact execSyncFrame_answers ..
  | coldstartFrame => exact execColdstartFrame_answers ..
  | offsetCorrection => exact execOffsetCorrection_answers ..
  | rateCorrection => exact execRateCorrection_answers ..
  | passiveTimeout => exact execPassiveTimeout_answers ..
  | startupComplete => exact execStartupComplete_answers ..
  | muteStart => exact execMuteStart_answers ..
  | muteExpiry => exact execMuteExpiry_answers ..
  | guardianRingFrame => exact execGuardianRingFrame_answers ..
  | guardianLocalFrame => exact execGuardianLocalFrame_answers ..
  | windowEndCutoff => exact execWindowEndCutoff_answers ..
  | portBroken => exact execPortBroken_answers ..
  | loopEstablished => exact execLoopEstablished_answers ..
  | loopRelease => exact execLoopRelease_answers ..
  | ringNegotiation => exact execRingNegotiation_answers ..
  | pdelayFrame => exact execPdelayFrame_answers ..
  | arbWindowEnd => exact execArbWindowEnd_answers ..
  | satelliteHello => exact execSatelliteHello_answers ..
  | satelliteLost => exact execSatelliteLost_answers ..
  | guardianPowerLoss => exact execGuardianPowerLoss_answers ..
  | supplyLoss => exact execSupplyLoss_answers ..
  | groundLoss => exact execGroundLoss_answers ..
  | supplyReturn => exact execSupplyReturn_answers ..
  | holdupExhausted => exact execHoldupExhausted_answers ..
  | supplyOvervoltage => exact execSupplyOvervoltage_answers ..
  | overvoltageRecovery => exact execOvervoltageRecovery_answers ..
  | getId => exact execGetId_answers ..
  | transitionExecute => exact execTransitionExecute_answers ..
  | sleepSignal => exact execSleepSignal_answers ..
  | wakeSource => exact execWakeSource_answers ..
  | siblingWake => exact execSiblingWake_answers ..
  | ringWake => exact execRingWake_answers ..
  | wakeComplete => exact execWakeComplete_answers ..
  | coldBoot => exact execColdBoot_answers ..
  | romRecoveryLoad => exact execRomRecoveryLoad_answers ..
  | registerWrite => exact execRegisterWrite_answers ..
  | checkedInstruction => exact execCheckedInstruction_answers ..
  | interruptTaken => exact execInterruptTaken_answers ..
  | debugSingleStep => exact execDebugSingleStep_answers ..
  | systemBusAccess => exact execSystemBusAccess_answers ..
  | statusFrame => exact execStatusFrame_answers ..
  | openWireStep => exact execOpenWireStep_answers ..
  | churnSlice => exact execChurnSlice_answers ..
  | stageCopySwap => exact execStageCopySwap_answers ..
  | voteComplete => exact execVoteComplete_answers ..
  | slotStart => exact execSlotStart_answers ..

/-- Settles O2, by cases on the command: each is built from carriers that leave the queue alone. -/
theorem everyCommandRuns : Obligations.EveryCommandRuns := exec_answers

end Sys2Proof.Machine

/-! ## Register writes (R5 to R7, R458, R459) -/
namespace Sys2Proof.Machine

/-! ### A source's assertion, seen from before other changes -/

/-- What the collector says of a report is the same for two lanes with the same collector. -/
theorem LaneSt.reported_of_sameCollector {L M N : LaneSt} {id d : Nat} (hid : id < 65536)
    (hreg : ∀ b, b / 65536 = 0x4001 → M.reg b = L.reg b) (hfc : M.fc = L.fc) (h : M.reported N id d) : L.reported N id d := by
  have hrd : ∀ f : Fld, f.addr / 65536 = 0x4001 → M.rd f = L.rd f := fun f hf => by rw [LaneSt.rd, LaneSt.rd, hreg _ hf]
  have hmask : M.masked id (detailOf id d) = L.masked id (detailOf id d) := by
    have hbit : ∀ b, M.rd (shadowFld.bit b) = L.rd (shadowFld.bit b) := fun b => hrd _ (by simp only)
    simp only [LaneSt.masked, LaneSt.on, hbit]
  have hcnt : M.rd (Reg.FC_CNT_COUNT (id / 256)) = L.rd (Reg.FC_CNT_COUNT (id / 256)) := hrd _ (by simp only; omega)
  have hconseq : M.rd (Reg.FC_CNT_CONSEQ (id / 256)) = L.rd (Reg.FC_CNT_CONSEQ (id / 256)) := hrd _ (by simp only; omega)
  unfold LaneSt.reported at h ⊢
  rwa [hfc, hmask, hcnt, hconseq] at h

/-- A reaction leaves the locked fields alone. -/
theorem LaneSt.react_locks (L : LaneSt) (id d r : Nat) : (L.react id d r).sys.locks = L.sys.locks := by
  have hl2 : ∀ M : LaneSt, (M.reactL2 id d).sys = M.sys := fun M => (M.reactL2_frame id d).1 .sys (by decide)
  have hl3 : ∀ M : LaneSt, (M.reactL3 id).sys = M.sys := fun M => (M.reactL3_frame id).1 .sys (by decide)
  have hrec : ∀ M : LaneSt, (M.queueRecord id d r).sys = M.sys := fun M => (M.queueRecord_frame id d r).1 .sys (by decide)
  have hl4 : ∀ M : LaneSt, M.reactL4.sys.locks = M.sys.locks := fun _ => rfl
  unfold LaneSt.react
  simp only [apply_ite LaneSt.sys, apply_ite SysSt.locks, hl2, hl3, hl4, hrec, ite_self]

theorem LaneSt.raiseAt_locks (L : LaneSt) (id d lv : Nat) : (L.raiseAt id d lv).sys.locks = L.sys.locks := by
  have hfirst : ∀ (M : LaneSt) (r : Nat), (M.latchFirst id d r).sys = M.sys := fun M r => (M.latchFirst_frame id d r).1 .sys (by decide)
  have hopen : ∀ (M : LaneSt) (c r : Nat), (M.openClass c r).sys = M.sys := fun M c r => (M.openClass_frame c r).1 .sys (by decide)
  unfold LaneSt.raiseAt
  simp only [apply_ite LaneSt.sys, apply_ite SysSt.locks, LaneSt.react_locks, hfirst, hopen, LaneSt.incSat_sys, ite_self]

theorem LaneSt.raise_locks (L : LaneSt) (id d : Nat) : (L.raise id d).sys.locks = L.sys.locks := by
  unfold LaneSt.raise LaneSt.assert
  simp only [apply_ite LaneSt.sys, apply_ite SysSt.locks, LaneSt.raiseAt_locks, LaneSt.incSat_sys, ite_self]

theorem LaneSt.raiseIf_locks (L : LaneSt) (b : Bool) (id d : Nat) : (L.raiseIf b id d).sys.locks = L.sys.locks := by
  unfold LaneSt.raiseIf
  split
  · exact L.raise_locks id d
  · rfl

/-! ### One field -/

/-- A field that takes a write only while it is in range, and in STANDBY where that is asked (R458, R459). -/
theorem FieldRow.refuses_iff (f : FieldRow) (standby : Bool) (cur v : Nat) :
    f.refuses standby cur v = true ↔ v < f.least ∨ f.most < v ∨ (f.standby = true ∧ standby = false ∧ v ≠ cur) := by
  simp only [FieldRow.refuses, Bool.or_eq_true, Bool.and_eq_true, Bool.not_eq_true', bne_iff_ne, decide_eq_true_eq]
  tauto

theorem FieldRow.write_readOnly {f : FieldRow} (h : f.acc = .ro ∨ f.acc = .wo) (c : WriteCtx) (hw cur x : Nat) :
    f.write c hw cur x = (cur, false) := by
  rcases h with h | h <;> simp only [FieldRow.write, h]

theorem FieldRow.write_rw {f : FieldRow} (h : f.acc = .rw) (c : WriteCtx) (hw cur x : Nat) :
    f.write c hw cur x = if f.refuses c.standby cur x then (cur, true) else (x, false) := by
  simp only [FieldRow.write, h]

/-- A W1C bit written 1 clears, unless hardware sets it in the same bus cycle (R6). -/
theorem FieldRow.write_w1c_bit {f : FieldRow} (h : f.acc = .w1c) (c : WriteCtx) (hw cur x : Nat) {j : Nat} (hj : j < f.w) :
    (f.write c hw cur x).1.testBit j = (cur.testBit j && !x.testBit j || hw.testBit j) := by
  simp [FieldRow.write, h, hj]

theorem FieldRow.write_rws_locked {f : FieldRow} (h : f.acc = .rws) {c : WriteCtx} (hl : c.locked.contains f.lo = true)
    (hw cur x : Nat) : f.write c hw cur x = (cur, false) := by
  simp only [FieldRow.write, h, hl, if_true]

/-- Only an RWS field asks which fields are locked. -/
theorem FieldRow.write_locked_irrelevant {f : FieldRow} (h : f.acc ≠ .rws) (sb tx : Bool) (lk : List Nat) (sets : Word)
    (hw cur x : Nat) : f.write ⟨sb, tx, lk, sets⟩ hw cur x = f.write ⟨sb, tx, [], sets⟩ hw cur x := by
  unfold FieldRow.write
  cases hacc : f.acc
  case rws => exact absurd hacc h
  all_goals rfl

theorem writeWord_locked_irrelevant {fs : List FieldRow} (h : ∀ f ∈ fs, f.acc ≠ .rws) (a : Nat) (sb tx : Bool) (lk : List Nat)
    (sets old v : Word) : writeWord a fs ⟨sb, tx, lk, sets⟩ old v = writeWord a fs ⟨sb, tx, [], sets⟩ old v :=
  List.foldl_ext _ _ _ fun acc f hf => by
    simp only [writeField, FieldRow.write_locked_irrelevant (h f hf) sb tx lk]

/-! ### What a write locks (R5) -/

/-- The RWS fields of a row, as they are locked. -/
theorem LaneSt.lockRws_locks {L : LaneSt} {a : Nat} {r : RegRow} {f : FieldRow} (hf : f ∈ r.fields) (hacc : f.acc = .rws) :
    (a, f.lo) ∈ (L.lockRws a r).sys.locks := by
  unfold LaneSt.lockRws
  dsimp only
  rw [LaneSt.raiseIf_locks]
  by_cases h : (a, f.lo) ∈ L.sys.locks
  · exact List.mem_append_left _ h
  · refine List.mem_append_right _ (List.mem_filter.mpr ⟨List.mem_map.mpr ⟨f, List.mem_filter.mpr ⟨hf, by simp [hacc]⟩, rfl⟩, ?_⟩)
    simpa using h

/-- A second write of an RWS field is reported. -/
theorem LaneSt.lockRws_reported {L : LaneSt} {a : Nat} {r : RegRow} {f : FieldRow} (hf : f ∈ r.fields) (hacc : f.acc = .rws)
    (hl : (a, f.lo) ∈ L.sys.locks) : L.reported (L.lockRws a r) 0x0D05 0xFF := by
  unfold LaneSt.lockRws
  extract_lets mine again _ M
  have hagain : again = true := List.any_eq_true.mpr
    ⟨(a, f.lo), List.mem_map.mpr ⟨f, List.mem_filter.mpr ⟨hf, by simp [hacc]⟩, rfl⟩, by simpa using hl⟩
  rw [hagain]
  exact LaneSt.reported_of_sameCollector (M := M) (by decide) (fun _ _ => rfl) rfl (M.raise_reported 0x0D05 0xFF (by decide))

theorem LaneSt.lockRws_of_none {L : LaneSt} {r : RegRow} (h : ∀ f ∈ r.fields, f.acc ≠ .rws) (a : Nat) : L.lockRws a r = L := by
  have hmine : (r.fields.filter fun f => f.acc == .rws) = [] := List.filter_eq_nil_iff.mpr fun f hf => by simpa using h f hf
  simp [LaneSt.lockRws, hmine, LaneSt.raiseIf]

/-! ### A plain write -/

/-- Nothing follows from a write outside the blocks AGR, COM, FLK and AUX. -/
theorem LaneSt.afterWrite_outside {a : Nat} (h : a / 65536 ∉ [0x4002, 0x4006, 0x4009, 0x400C]) (L : LaneSt) : L.afterWrite a = L := by
  simp only [List.mem_cons, List.not_mem_nil, or_false, not_or] at h
  unfold LaneSt.afterWrite LaneSt.modeWritten
  rw [if_neg (by omega), if_neg (by omega), if_neg (by omega), if_neg (by omega)]

theorem LaneSt.wrongConfig_outside {a : Nat} (h : a / 65536 ≠ 0x4009) (L : LaneSt) (l : Lane) : L.wrongConfig l a = false := by
  have hout : (decide (0x40090200 ≤ a) && decide (a < 0x40090280)) = false := by
    rw [Bool.and_eq_false_iff, decide_eq_false_iff_not, decide_eq_false_iff_not]; omega
  rw [LaneSt.wrongConfig, hout, Bool.false_and]

/-- A write that neither is ignored nor has an effect beyond the register: the new word, and 0x0D04 if a field refused its value. -/
theorem LaneSt.plainWrite_outside {L : LaneSt} {a : Nat} {r : RegRow} {v : Word} (hign : L.ignores a v = none)
    (hblk : a / 65536 ∉ [0x4002, 0x4006, 0x4009, 0x400C]) (hrws : ∀ f ∈ r.fields, f.acc ≠ .rws) (l : Lane) (sets : Word) :
    L.plainWrite l a r v sets =
      (L.setReg a (writeWord a r.fields ⟨L.st == stStandby, L.txBuffer a, [], sets⟩ (L.reg a) v).1).raiseIf
        (writeWord a r.fields ⟨L.st == stStandby, L.txBuffer a, [], sets⟩ (L.reg a) v).2 0x0D04 := by
  have h9 : a / 65536 ≠ 0x4009 := fun h => hblk (by simp [h])
  unfold LaneSt.plainWrite
  rw [hign]
  dsimp only
  rw [writeWord_locked_irrelevant hrws, LaneSt.afterWrite_outside hblk, LaneSt.lockRws_of_none hrws, LaneSt.wrongConfig_outside h9,
    Bool.or_false]

/-! ### The command -/

theorem exec_registerWrite_up {s : State} {l : Lane} (h : (s.lane l).up = true) (a : Nat) (v sets : Word) :
    exec (.registerWrite l a v sets) s = .next (s.regWrite l a v sets) := by
  change Host.Outcome.next (if (s.lane l).up then s.regWrite l a v sets else s) = _
  rw [if_pos h]

theorem State.regWrite_sec {a : Nat} (h : inBlock a 0x400E0000 = true) (s : State) (l : Lane) (v sets : Word) :
    s.regWrite l a v sets = s.updLane l fun L => L.raise 0x0B04 := by
  rw [State.regWrite, if_pos h]

theorem State.regWrite_noRegister {a : Nat} (hsec : inBlock a 0x400E0000 = false) (h : 0x40200000 ≤ a ∨ rowAt a = none) (s : State)
    (l : Lane) (v sets : Word) : s.regWrite l a v sets = s := by
  rw [State.regWrite, if_neg (by simp [hsec])]
  rcases h with h | h
  · rw [if_pos h]
  · rw [h]; exact ite_self s

theorem State.regWrite_plain {s : State} {l : Lane} {a : Nat} {v : Word} {r : RegRow} (hsec : inBlock a 0x400E0000 = false)
    (hlt : a < 0x40200000) (hrow : rowAt a = some r) (ht : s.trigger l a v = none) (sets : Word) :
    s.regWrite l a v sets = s.updLane l fun L => L.plainWrite l a r v sets := by
  rw [State.regWrite, if_neg (by simp [hsec]), if_neg (by omega), hrow]
  dsimp only
  rw [ht]

theorem State.regWrite_trigger {s t : State} {l : Lane} {a : Nat} {v : Word} (hsec : inBlock a 0x400E0000 = false)
    (hlt : a < 0x40200000) (hrow : (rowAt a).isSome = true) (ht : s.trigger l a v = some t) (sets : Word) :
    s.regWrite l a v sets = t := by
  obtain ⟨r, hr⟩ := Option.isSome_iff_exists.mp hrow
  rw [State.regWrite, if_neg (by simp [hsec]), if_neg (by omega), hr]
  dsimp only
  rw [ht]

/-- A write of a command register answers as its command does. -/
theorem exec_registerWrite_command {s : State} {l : Lane} {a : Nat} {v : Word} {o : Out} (hup : (s.lane l).up = true)
    (ho : Answers s o) (ht : s.trigger l a v = some (outState s o)) (hsec : inBlock a 0x400E0000 = false) (hlt : a < 0x40200000)
    (hrow : (rowAt a).isSome = true) (sets : Word) : exec (.registerWrite l a v sets) s = o := by
  rw [exec_registerWrite_up hup, State.regWrite_trigger hsec hlt hrow ht]
  obtain ⟨t, rfl, _⟩ := ho
  rfl

/-- An address names itself. -/
theorem covered_self {a : Nat} (h : 65536 ≤ a) (rs : List Nat) : covered (a :: rs) a = true := by
  simp [covered, Nat.not_lt.mpr h]

theorem covered_of_cons {r a : Nat} {rs : List Nat} (h : covered (r :: rs) a = false) : covered rs a = false := by
  simp only [covered, List.any_cons, Bool.or_eq_false_iff] at h
  exact h.2

theorem LaneSt.keeps_raise (L : LaneSt) (id d : Nat) : L.keeps faultParts (L.raise id d) := (L.raise_frame id d).1

/-- A register takes a word, and a source asserts. -/
theorem LaneSt.setReg_raise (L : LaneSt) {a : Nat} (ha0 : 65536 ≤ a) (v : Word) {id : Nat} (hid : id < 65536) (d : Nat) :
    L.keeps faultParts ((L.setReg a v).raise id d) ∧ L.keepsRegs (a :: faultRegs) ((L.setReg a v).raise id d) ∧
      (a / 65536 ≠ 0x4001 → L.reported ((L.setReg a v).raise id d) id d) := by
  refine ⟨(LaneSt.frame_step ((L.setReg a v).raise_frame id d) (by decide) (LaneSt.frame_mono (L.setReg_frame a v) (by decide))).1,
    ?_, fun ha => ?_⟩
  · have hraise : (L.setReg a v).keepsRegs (a :: faultRegs) ((L.setReg a v).raise id d) := fun b hb =>
      LaneSt.raise_regs _ id d hid b (covered_of_cons hb)
    exact LaneSt.keepsRegs_trans hraise (LaneSt.keepsRegs_setReg (covered_self ha0 _) (L.keepsRegs_refl _))
  · exact LaneSt.reported_of_sameCollector (M := L.setReg a v) hid
      (fun b hb => L.reg_setReg_ne a b v (by rintro rfl; exact ha hb)) rfl (LaneSt.raise_reported _ id d hid)

/-- A register has an address above memory. -/
theorem rowAt_above {a : Nat} {r : RegRow} (h : rowAt a = some r) : 65536 ≤ a := by
  by_contra hlt
  have hblk : blockOf a = (0, []) := by rw [blockOf, show a / 0x10000 = 0 by omega]; rfl
  rw [rowAt, hblk] at h
  cases h

/-- Settles O9: what one field takes, what a whole write does, and what it locks. -/
theorem registerWriteByAccess : Obligations.RegisterWriteByAccess := by
  intro s l a v sets hup old
  refine ⟨fun hsec => ?_, fun hsec hno => ?_, fun r hsec hlt hrow ht hign hblk hrws => ?_, fun f c hw cur x => ?_,
    fun L r f hf hacc => ?_, ?_⟩
  · refine laneRuns_updLane ((exec_registerWrite_up hup a v sets).trans (by rw [State.regWrite_sec hsec])) ?_
    exact ⟨old.keeps_raise _ _, old.raise_regs _ _ (by decide), old.raise_reported _ _ (by decide)⟩
  · exact ⟨s, (exec_registerWrite_up hup a v sets).trans (by rw [State.regWrite_noRegister hsec hno]), rfl⟩
  · have hexec := (exec_registerWrite_up hup a v sets).trans (by rw [State.regWrite_plain hsec hlt hrow ht])
    have ha := rowAt_above hrow
    refine ⟨fun hx => laneRuns_updLane hexec ?_, fun hx hfc => laneRuns_updLane hexec ?_⟩
    · rw [LaneSt.plainWrite_outside hign hblk hrws, hx]
      exact ⟨(old.setReg_frame a _).1, LaneSt.keepsRegs_setReg (covered_self ha _) (old.keepsRegs_refl _), old.reg_setReg_self a _⟩
    · rw [LaneSt.plainWrite_outside hign hblk hrws, hx]
      obtain ⟨hkeeps, hregs, hrep⟩ := old.setReg_raise ha
        (writeWord a r.fields ⟨old.st == stStandby, old.txBuffer a, [], sets⟩ (old.reg a) v).1 (id := 0x0D04) (by decide) 0xFF
      exact ⟨hkeeps, hregs, hrep hfc⟩
  · refine ⟨fun h => FieldRow.write_readOnly h c hw cur x, fun h hleast hmost hstandby => ?_, fun h hout => ?_,
      fun h hl => FieldRow.write_rws_locked h hl hw cur x, fun h j hj => FieldRow.write_w1c_bit h c hw cur x hj⟩
    · rw [FieldRow.write_rw h, if_neg]
      rw [FieldRow.refuses_iff]
      rcases hstandby with hs | hs <;> simp [hs] <;> omega
    · rw [FieldRow.write_rw h, if_pos ((f.refuses_iff _ _ _).mpr hout)]
  · exact ⟨LaneSt.lockRws_locks hf hacc, LaneSt.lockRws_reported hf hacc⟩
  · refine ⟨?_, ?_, ?_, ?_, ?_, ?_⟩
    all_goals exact exec_registerWrite_command hup (exec_answers _ s) rfl (by decide) (by decide) (by decide) sets

end Sys2Proof.Machine

/-! ## Measurement results (R174, R175, R181, R182, R193, R194) -/
namespace Sys2Proof.Machine

/-! ### What a lane keeps of a status frame

Taking a frame goes on, after the copies of R174, with faults, removals from service and the evaluation of the legs. None of these
touches the copies, nor the count of lost frames. -/

/-- The count of lost frames and every field in `P` are the same in both lanes. -/
def LaneSt.keepsStatus (P : Fld → Prop) (L M : LaneSt) : Prop := M.meas.lost = L.meas.lost ∧ ∀ f, P f → M.rd f = L.rd f

/-- A field that no fault and no removal of a stage from service writes: outside FC, COM and AUX, not CLM_PRESENT, and of MEAS_STAT only
FRAME_LOST. -/
structure Fld.ApartFromFaults (f : Fld) : Prop where
  fc : f.addr / 65536 ≠ 0x4001
  com : f.addr / 65536 ≠ 0x4006
  aux : f.addr / 65536 ≠ 0x400C
  clm : f.addr ≠ 0x40030004
  stat : f.addr = 0x40040004 → f.lo + f.w ≤ 3

/-- Such a field that the evaluation of the legs does not write either. -/
structure Fld.ApartFromLegs (f : Fld) : Prop extends f.ApartFromFaults where
  legs : f.addr / 65536 = 0x4004 → 0x40040080 ≤ f.addr ∧ f.addr < 0x40040100

section
variable {P : Fld → Prop}

theorem LaneSt.keepsStatus_refl (L : LaneSt) : L.keepsStatus P L := ⟨rfl, fun _ _ => rfl⟩

theorem LaneSt.keepsStatus_trans {L M N : LaneSt} (h : M.keepsStatus P N) (h1 : L.keepsStatus P M) : L.keepsStatus P N :=
  ⟨h.1.trans h1.1, fun f hf => (h.2 f hf).trans (h1.2 f hf)⟩

theorem LaneSt.keepsStatus_mono {Q : Fld → Prop} (hQ : ∀ f, Q f → P f) {L M : LaneSt} (h : L.keepsStatus P M) : L.keepsStatus Q M :=
  ⟨h.1, fun f hf => h.2 f (hQ f hf)⟩

theorem LaneSt.keepsStatus_ite {c : Prop} [Decidable c] {L M N : LaneSt} (h : L.keepsStatus P M) (h' : L.keepsStatus P N) :
    L.keepsStatus P (if c then M else N) := by
  split <;> assumption

/-- A change outside the registers that keeps the count. -/
theorem LaneSt.keepsStatus_of_regs {L M N : LaneSt} (hregs : N.regs = M.regs) (hlost : N.meas.lost = M.meas.lost)
    (h1 : L.keepsStatus P M) : L.keepsStatus P N :=
  LaneSt.keepsStatus_trans ⟨hlost, fun f _ => LaneSt.rd_congr hregs f⟩ h1

theorem LaneSt.keepsStatus_wr {w : Fld} (h : ∀ f, P f → w.apart f = true) {L M : LaneSt} {v : Nat} (h1 : L.keepsStatus P M) :
    L.keepsStatus P (M.wr w v) :=
  LaneSt.keepsStatus_trans (M := M) ⟨rfl, fun f hf => M.rd_wr_apart w f v (h f hf)⟩ h1

theorem LaneSt.keepsStatus_forN {n : Nat} {f : Nat → LaneSt → LaneSt} (h : ∀ k < n, ∀ M : LaneSt, M.keepsStatus P (f k M)) (L : LaneSt) :
    L.keepsStatus P (forN n f L) := by
  have hfold : ∀ (ks : List Nat), (∀ k ∈ ks, k < n) → ∀ M : LaneSt, M.keepsStatus P (ks.foldl (fun M k => f k M) M) := by
    intro ks
    induction ks with
    | nil => exact fun _ M => M.keepsStatus_refl
    | cons k ks ih =>
      intro hks M
      exact LaneSt.keepsStatus_trans (ih (fun j hj => hks j (List.mem_cons_of_mem _ hj)) (f k M)) (h k (hks k List.mem_cons_self) M)
  exact hfold _ (fun k hk => List.mem_range.mp hk) L

theorem LaneSt.keepsStatus_for3 {f : Nat → LaneSt → LaneSt} (h : ∀ k < 3, ∀ M : LaneSt, M.keepsStatus P (f k M)) (L : LaneSt) :
    L.keepsStatus P (for3 f L) :=
  LaneSt.keepsStatus_trans (h 2 (by decide) _) (LaneSt.keepsStatus_trans (h 1 (by decide) _) (h 0 (by decide) L))

end

/-! ### Faults and removals -/

namespace Fld.ApartFromFaults
variable {f : Fld} (hf : f.ApartFromFaults)
include hf

theorem apart_shadow (lo w : Nat) : Fld.apart ⟨0x40010018, lo, w⟩ f = true := by
  have := hf.fc
  simp; omega

theorem apart_comStat (lo w : Nat) : Fld.apart ⟨0x40060000, lo, w⟩ f = true := by
  have := hf.com
  simp; omega

theorem apart_present (lo w : Nat) : Fld.apart ⟨0x40030004, lo, w⟩ f = true := by
  simp [hf.clm]

theorem apart_measStat {lo : Nat} (h : 3 ≤ lo) (w : Nat) : Fld.apart ⟨0x40040004, lo, w⟩ f = true := by
  have := hf.stat
  simp; omega

end Fld.ApartFromFaults

theorem LaneSt.raise_keepsStatus (L : LaneSt) {id : Nat} (d : Nat) (h : id < 65536) : L.keepsStatus Fld.ApartFromFaults (L.raise id d) := by
  refine ⟨congrArg MeasSt.lost ((L.raise_frame id d).1 .meas (by decide)), fun f hf => ?_⟩
  have hfc := hf.fc
  have haux := hf.aux
  have hclm := hf.clm
  refine LaneSt.rd_of_keepsRegs (L.raise_regs id d h) f ?_
  simp [covered, faultRegs]
  omega

theorem LaneSt.raiseIf_keepsStatus (L : LaneSt) (b : Bool) {id : Nat} (d : Nat) (h : id < 65536) :
    L.keepsStatus Fld.ApartFromFaults (L.raiseIf b id d) :=
  LaneSt.keepsStatus_ite (L.raise_keepsStatus d h) L.keepsStatus_refl

theorem LaneSt.openMask_keepsStatus (L : LaneSt) (b : Nat) : L.keepsStatus Fld.ApartFromFaults (L.openMask b) :=
  LaneSt.keepsStatus_of_regs (M := L.put (shadowFld.bit b) true) rfl rfl
    (LaneSt.keepsStatus_wr (fun _ hf => hf.apart_shadow _ _) L.keepsStatus_refl)

theorem LaneSt.endMask_keepsStatus (L : LaneSt) (b : Nat) : L.keepsStatus Fld.ApartFromFaults (L.endMask b) :=
  LaneSt.keepsStatus_ite (LaneSt.keepsStatus_of_regs (M := L) rfl rfl L.keepsStatus_refl) L.keepsStatus_refl

theorem LaneSt.stageMasks_keepsStatus (L : LaneSt) (i : Nat) (g : StageSt) : L.keepsStatus Fld.ApartFromFaults (L.stageMasks i g) := by
  unfold LaneSt.stageMasks
  extract_lets b M c
  have hM : L.keepsStatus Fld.ApartFromFaults M :=
    LaneSt.keepsStatus_ite (L.openMask_keepsStatus b) (LaneSt.keepsStatus_ite (L.endMask_keepsStatus b) L.keepsStatus_refl)
  exact LaneSt.keepsStatus_ite (LaneSt.keepsStatus_trans (M.openMask_keepsStatus c) hM)
    (LaneSt.keepsStatus_ite (LaneSt.keepsStatus_trans (M.endMask_keepsStatus c) hM) hM)

theorem LaneSt.removeStage_keepsStatus (L : LaneSt) (i : Nat) : L.keepsStatus Fld.ApartFromFaults (L.removeStage i) := by
  unfold LaneSt.removeStage
  refine LaneSt.keepsStatus_trans (LaneSt.openMask_keepsStatus _ _) ?_
  refine LaneSt.keepsStatus_wr (fun _ hf => hf.apart_comStat _ _) (LaneSt.keepsStatus_wr (fun f hf => ?_) ?_)
  · exact hf.apart_measStat (show 3 ≤ 9 + i by omega) _
  · exact LaneSt.keepsStatus_of_regs (M := L) rfl rfl L.keepsStatus_refl

theorem LaneSt.stepFailed_keepsStatus (L : LaneSt) (b : Nat) : L.keepsStatus Fld.ApartFromFaults (L.stepFailed b) :=
  LaneSt.keepsStatus_ite L.keepsStatus_refl (LaneSt.keepsStatus_of_regs (M := L) rfl rfl L.keepsStatus_refl)

theorem LaneSt.refreshService_keepsStatus (L : LaneSt) : L.keepsStatus Fld.ApartFromFaults L.refreshService := by
  unfold LaneSt.refreshService
  refine LaneSt.keepsStatus_wr (fun _ hf => hf.apart_comStat _ _) (LaneSt.keepsStatus_for3 (fun k _ M => ?_) L)
  exact LaneSt.keepsStatus_wr (fun _ hf => hf.apart_comStat _ _) M.keepsStatus_refl

theorem LaneSt.zeroClaims_keepsStatus (L : LaneSt) (m why : Nat) : L.keepsStatus Fld.ApartFromFaults (L.zeroClaims m why) := by
  unfold LaneSt.zeroClaims
  refine LaneSt.keepsStatus_wr (fun _ hf => hf.apart_present _ _) (LaneSt.keepsStatus_for3 (fun k _ M => ?_) L)
  exact LaneSt.keepsStatus_ite (LaneSt.keepsStatus_wr (fun _ hf => hf.apart_present _ _) M.keepsStatus_refl)
    M.keepsStatus_refl

theorem LaneSt.refreshClaims_keepsStatus (L : LaneSt) (l : Lane) : L.keepsStatus Fld.ApartFromFaults (L.refreshClaims l) := by
  refine LaneSt.keepsStatus_for3 (fun k _ M => LaneSt.keepsStatus_ite ?_ ?_) L
  · exact LaneSt.keepsStatus_wr (fun _ hf => hf.apart_present _ _) M.keepsStatus_refl
  · exact LaneSt.keepsStatus_ite M.keepsStatus_refl (M.zeroClaims_keepsStatus _ _)

theorem LaneSt.returnClaims_keepsStatus (L : LaneSt) (l : Lane) (i : Nat) : L.keepsStatus Fld.ApartFromFaults (L.returnClaims l i) :=
  LaneSt.keepsStatus_ite (LaneSt.keepsStatus_trans (LaneSt.refreshClaims_keepsStatus _ l)
    (LaneSt.keepsStatus_of_regs (M := L) rfl rfl L.keepsStatus_refl)) L.keepsStatus_refl

/-- What a stage has latched is raised without touching the copies of its frame. -/
theorem LaneSt.raiseStage_keepsStatus (L : LaneSt) (l : Lane) {i : Nat} (hi : i < 3) (g : StageSt) :
    L.keepsStatus Fld.ApartFromFaults (L.raiseStage l i g) := by
  unfold LaneSt.raiseStage
  extract_lets seen clm A bad _ B C D was _ E F _ G H
  have hA : L.keepsStatus Fld.ApartFromFaults A :=
    LaneSt.keepsStatus_forN (fun n _ M => M.raiseIf_keepsStatus _ _ (by omega)) L
  have hB : L.keepsStatus Fld.ApartFromFaults B := LaneSt.keepsStatus_of_regs (M := A) rfl rfl hA
  have hC : L.keepsStatus Fld.ApartFromFaults C := LaneSt.keepsStatus_trans (B.raiseIf_keepsStatus _ _ (by decide)) hB
  have hD : L.keepsStatus Fld.ApartFromFaults D :=
    LaneSt.keepsStatus_trans (LaneSt.keepsStatus_forN (fun n _ M => M.raiseIf_keepsStatus _ _ (by omega)) C) hC
  have hE : L.keepsStatus Fld.ApartFromFaults E := LaneSt.keepsStatus_of_regs (M := D) rfl rfl hD
  have hF : L.keepsStatus Fld.ApartFromFaults F :=
    LaneSt.keepsStatus_ite (LaneSt.keepsStatus_trans (LaneSt.removeStage_keepsStatus _ i)
      (LaneSt.keepsStatus_trans (E.raise_keepsStatus _ (by decide)) hE)) hE
  have hG : L.keepsStatus Fld.ApartFromFaults G := LaneSt.keepsStatus_of_regs (M := F) rfl rfl hF
  have hH : L.keepsStatus Fld.ApartFromFaults H :=
    LaneSt.keepsStatus_ite (LaneSt.keepsStatus_trans (G.stepFailed_keepsStatus 6) hG) hG
  exact LaneSt.keepsStatus_trans (H.raiseIf_keepsStatus _ _ (by decide)) hH

/-! ### The legs of a frame -/

theorem Fld.ApartFromLegs.apart_meas {f : Fld} (hf : f.ApartFromLegs) {a : Nat} (hblk : a / 65536 = 0x4004)
    (h : a < 0x40040080 ∨ 0x40040100 ≤ a) (lo w : Nat) : Fld.apart ⟨a, lo, w⟩ f = true := by
  have := hf.legs
  simp; omega

theorem LaneSt.storeLeg_keepsStatus (L : LaneSt) {i k : Nat} (hi : i < 3) (hk : k < 3) (g : StageSt) (r : LegRes) (cur : Option Int)
    (valid recon : Bool) : L.keepsStatus Fld.ApartFromLegs (L.storeLeg i k g r cur valid recon) := by
  unfold LaneSt.storeLeg
  extract_lets M N
  have hM : L.keepsStatus Fld.ApartFromLegs M := by
    cases cur
    case none => exact L.keepsStatus_refl
    case some x =>
      exact LaneSt.keepsStatus_wr (fun f hf => hf.apart_meas (by omega) (by omega) _ _) L.keepsStatus_refl
  have hN : L.keepsStatus Fld.ApartFromLegs N := by
    simp only [N]
    split
    · exact LaneSt.keepsStatus_wr (fun f hf => hf.apart_meas (by omega) (by omega) _ _) hM
    · exact hM
  refine LaneSt.keepsStatus_wr ?_ (LaneSt.keepsStatus_wr ?_ (LaneSt.keepsStatus_wr ?_ hN))
  all_goals exact fun f hf => hf.apart_meas (by omega) (by omega) _ _

theorem LaneSt.saturation_keepsStatus (L : LaneSt) (i k : Nat) (sat : Bool) :
    L.keepsStatus Fld.ApartFromFaults (L.saturation i k sat) :=
  LaneSt.keepsStatus_trans (LaneSt.raiseIf_keepsStatus _ _ _ (by decide))
    (LaneSt.keepsStatus_of_regs (M := L) rfl rfl L.keepsStatus_refl)

theorem LaneSt.collectOffset_keepsStatus (L : LaneSt) (i k : Nat) (r : LegRes) :
    L.keepsStatus Fld.ApartFromFaults (L.collectOffset i k r) := by
  unfold LaneSt.collectOffset
  split
  · exact LaneSt.keepsStatus_ite (LaneSt.keepsStatus_of_regs (M := L) rfl rfl L.keepsStatus_refl) L.keepsStatus_refl
  · exact L.keepsStatus_refl

theorem LaneSt.kirchhoff_keepsStatus (L : LaneSt) (i : Nat) (checked : Bool) (sum : Int) :
    L.keepsStatus Fld.ApartFromFaults (L.kirchhoff i checked sum) := by
  unfold LaneSt.kirchhoff
  extract_lets beyond M n hit _ N
  have hM : L.keepsStatus Fld.ApartFromFaults M :=
    LaneSt.keepsStatus_wr (fun f hf => hf.apart_measStat (show 3 ≤ 6 + i by omega) _) L.keepsStatus_refl
  have hN : L.keepsStatus Fld.ApartFromFaults N := LaneSt.keepsStatus_of_regs (M := M) rfl rfl hM
  refine LaneSt.keepsStatus_ite hM (LaneSt.keepsStatus_ite ?_ hN)
  exact LaneSt.keepsStatus_trans (LaneSt.removeStage_keepsStatus _ i) (LaneSt.keepsStatus_trans (N.raise_keepsStatus _ (by decide)) hN)

theorem LaneSt.countNovalid_keepsStatus (L : LaneSt) (i : Nat) (none_ : Bool) :
    L.keepsStatus Fld.ApartFromFaults (L.countNovalid i none_) := by
  unfold LaneSt.countNovalid
  extract_lets n _ _ N
  have hN : L.keepsStatus Fld.ApartFromFaults N :=
    LaneSt.keepsStatus_of_regs (M := L.put (Reg.MEAS_STAT_NOVALID.bit i) none_) rfl rfl
      (LaneSt.keepsStatus_wr (fun f hf => hf.apart_measStat (show 3 ≤ 3 + i by omega) _) L.keepsStatus_refl)
  refine LaneSt.keepsStatus_ite ?_ hN
  exact LaneSt.keepsStatus_trans (LaneSt.removeStage_keepsStatus _ i) (LaneSt.keepsStatus_trans (N.raise_keepsStatus _ (by decide)) hN)

theorem LaneSt.shiftMeans_keepsStatus {P : Fld → Prop} (L : LaneSt) (i : Nat) (m : Tri (Option Int)) :
    L.keepsStatus P (L.shiftMeans i m) := LaneSt.keepsStatus_of_regs (M := L) rfl rfl L.keepsStatus_refl

theorem LaneSt.pushRes_keepsStatus {P : Fld → Prop} (L : LaneSt) (i : Nat) (x : PerRes) :
    L.keepsStatus P (L.pushRes i x) := LaneSt.keepsStatus_of_regs (M := L) rfl rfl L.keepsStatus_refl

/-- The evaluation of the legs touches no copy of the frame. -/
theorem LaneSt.evaluate_keepsStatus (L : LaneSt) {i : Nat} (hi : i < 3) (g : StageSt) (r : Tri LegRes) :
    L.keepsStatus Fld.ApartFromLegs (L.evaluate i g r) := by
  have hsub : ∀ {M N : LaneSt}, M.keepsStatus Fld.ApartFromFaults N → M.keepsStatus Fld.ApartFromLegs N :=
    LaneSt.keepsStatus_mono fun f hf => hf.toApartFromFaults
  unfold LaneSt.evaluate
  extract_lets _ A
  split
  next cur valid recon _ =>
  extract_lets B all measured sum C
  have hA : L.keepsStatus Fld.ApartFromLegs A := LaneSt.keepsStatus_of_regs (M := L) rfl rfl L.keepsStatus_refl
  have hB : L.keepsStatus Fld.ApartFromLegs B := by
    refine LaneSt.keepsStatus_trans (LaneSt.keepsStatus_for3 (fun k hk M => ?_) A) hA
    refine LaneSt.keepsStatus_trans (hsub (LaneSt.collectOffset_keepsStatus _ i k _)) ?_
    exact LaneSt.keepsStatus_trans (hsub (LaneSt.saturation_keepsStatus _ i k _)) (M.storeLeg_keepsStatus hi hk ..)
  have hC : L.keepsStatus Fld.ApartFromLegs C := by
    refine LaneSt.keepsStatus_trans (LaneSt.shiftMeans_keepsStatus _ i _) ?_
    refine LaneSt.keepsStatus_trans (hsub (LaneSt.countNovalid_keepsStatus _ i _)) ?_
    exact LaneSt.keepsStatus_trans (hsub (B.kirchhoff_keepsStatus i measured sum)) hB
  exact LaneSt.keepsStatus_trans (LaneSt.pushRes_keepsStatus _ i _) hC

/-! ### The copies of a frame (R174, R274) -/

/-- The lane with the copies of a frame of stage `i`, before what the stage reports is raised and its legs are evaluated. -/
def LaneSt.copyFrame (L : LaneSt) (l : Lane) (i : Nat) (g : StageSt) : LaneSt :=
  let L := ((L.copyStat i g).copyCounts i g).copyClm i g
  let L := L.wr (Reg.STG_FAULT_SEEN i) (L.rd (Reg.STG_FAULT_SEEN i) ||| (nth g.seen (laneIx l)).toNat)
  let L := ((L.wr (Reg.MEAS_VDC_VDC i) g.vdc).put (Reg.MEAS_VDC_VALID i) true).put (Reg.MEAS_STAT_FRAME_LOST.bit i) false
  { L with meas := { L.meas with
    lost := setNth L.meas.lost i 0
    refresh := updNth L.meas.refresh i fun n => n + mask3 (fun k => nth g.pulse k) % 2 + (mask3 (fun k => nth g.pulse k) / 2) % 2 +
      mask3 (fun k => nth g.pulse k) / 4 } }

/-- Taking a frame: the copies, the faults it tells, and its legs. -/
theorem LaneSt.takeStatus_eq (L : LaneSt) (l : Lane) (i : Nat) (g : StageSt) :
    L.takeStatus l i g =
      let M := ((L.copyFrame l i g).raiseStage l i g).stageMasks i g
      (M.evaluate i g ⟨M.leg i 0 g, M.leg i 1 g, M.leg i 2 g⟩).refreshService.returnClaims l i := rfl

/-- Faults, masks and legs leave the copies as they are. -/
theorem LaneSt.takeStatus_keepsCopies (L : LaneSt) (l : Lane) {i : Nat} (hi : i < 3) (g : StageSt) :
    (L.copyFrame l i g).keepsStatus Fld.ApartFromLegs (L.takeStatus l i g) := by
  have hsub : ∀ {M N : LaneSt}, M.keepsStatus Fld.ApartFromFaults N → M.keepsStatus Fld.ApartFromLegs N :=
    LaneSt.keepsStatus_mono fun f hf => hf.toApartFromFaults
  rw [LaneSt.takeStatus_eq]
  extract_lets M
  have hM : (L.copyFrame l i g).keepsStatus Fld.ApartFromLegs M :=
    hsub (LaneSt.keepsStatus_trans (LaneSt.stageMasks_keepsStatus _ i g) (LaneSt.raiseStage_keepsStatus _ l hi g))
  refine LaneSt.keepsStatus_trans (hsub (LaneSt.returnClaims_keepsStatus _ l i)) ?_
  exact LaneSt.keepsStatus_trans (hsub (LaneSt.refreshService_keepsStatus _)) (LaneSt.keepsStatus_trans (M.evaluate_keepsStatus hi g _) hM)

theorem LaneSt.rd_wr_addr (L : LaneSt) (w f : Fld) (v : Nat) (h : f.addr ≠ w.addr) : (L.wr w v).rd f = L.rd f :=
  L.rd_wr_other w f v (.inl h)

theorem LaneSt.copyClm_rd (L : LaneSt) {i : Nat} (g : StageSt) {f : Fld} (h : f.addr ≠ 0x40030000 + (0x10 + 4 * i)) :
    (L.copyClm i g).rd f = L.rd f := by
  simp (disch := exact h) only [LaneSt.copyClm, LaneSt.put, LaneSt.rd_wr_addr]

/-- How CLM_STG shows the lane that a stage has accepted. -/
def acceptedCode : Option Lane → Nat
  | none => 0
  | some a => laneIx a + 1

theorem LaneSt.copyClm_accepted (L : LaneSt) (i : Nat) (g : StageSt) :
    (L.copyClm i g).rd (Reg.CLM_STG_ACCEPTED i) = acceptedCode g.acc := by
  unfold LaneSt.copyClm
  refine (LaneSt.rd_wr_self _ _ _ (by simp)).trans ?_
  cases g.acc
  case none => rfl
  case some a => cases a <;> rfl

theorem LaneSt.copyCounts_rd (L : LaneSt) {i : Nat} (g : StageSt) {f : Fld}
    (h : f.addr ≠ 0x40080000 + (0x20 + 4 * i) ∧ f.addr ≠ 0x40080000 + (0x30 + 4 * i) ∧ f.addr ≠ 0x40080000 + (0x40 + 4 * i)) :
    (L.copyCounts i g).rd f = L.rd f := by
  obtain ⟨hfault, hcnt, hgate⟩ := h
  unfold LaneSt.copyCounts
  rw [LaneSt.rd_wr_addr _ _ _ _ hgate, LaneSt.rd_wr_addr _ _ _ _ hgate, LaneSt.rd_wr_addr _ _ _ _ hgate,
    LaneSt.rd_wr_addr _ _ _ _ hcnt, LaneSt.rd_wr_addr _ _ _ _ hcnt, LaneSt.rd_wr_addr _ _ _ _ hcnt, LaneSt.rd_wr_addr _ _ _ _ hfault]

theorem LaneSt.copyCounts_latch (L : LaneSt) (i : Nat) (g : StageSt) :
    (L.copyCounts i g).rd (Reg.STG_FAULT_LATCH i) = g.latch.toNat := by
  unfold LaneSt.copyCounts
  simp (disch := simp) only [LaneSt.rd_wr_self, LaneSt.rd_wr_apart]
  exact Nat.mod_eq_of_lt g.latch.isLt

theorem LaneSt.copyStat_state (L : LaneSt) (i : Nat) (g : StageSt) : (L.copyStat i g).rd (Reg.STG_STAT_STATE i) = g.st % 8 := by
  unfold LaneSt.copyStat
  exact LaneSt.rd_wr_self _ _ _ (by simp)

theorem LaneSt.copyStat_en (L : LaneSt) (i : Nat) (g : StageSt) : (L.copyStat i g).on (Reg.STG_STAT_EN i) = g.en := by
  unfold LaneSt.copyStat LaneSt.on
  simp (disch := simp) only [LaneSt.put, LaneSt.rd_wr_self, LaneSt.rd_wr_apart]
  cases g.en <;> rfl

theorem LaneSt.copyStat_stoIn (L : LaneSt) (i : Nat) (g : StageSt) : (L.copyStat i g).on (Reg.STG_STAT_STO_IN i) = g.stoIn := by
  unfold LaneSt.copyStat LaneSt.on
  simp (disch := simp) only [LaneSt.put, LaneSt.rd_wr_self, LaneSt.rd_wr_apart]
  cases g.stoIn <;> rfl

theorem LaneSt.copyStat_latched (L : LaneSt) (i : Nat) (g : StageSt) :
    (L.copyStat i g).on (Reg.STG_STAT_LATCHED i) = (g.latch != 0) := by
  unfold LaneSt.copyStat LaneSt.on
  simp (disch := simp) only [LaneSt.put, LaneSt.rd_wr_self, LaneSt.rd_wr_apart]
  cases g.latch != 0 <;> rfl

theorem LaneSt.rd_withMeas (L : LaneSt) (x : MeasSt) (f : Fld) : ({ L with meas := x } : LaneSt).rd f = L.rd f := rfl

/-- Outside MEAS the copies are those of STG and CLM, but for what the lane has seen latched. -/
theorem LaneSt.copyFrame_rd (L : LaneSt) (l : Lane) {i : Nat} (g : StageSt) {f : Fld} (hblk : f.addr / 65536 ≠ 0x4004)
    (hseen : (Reg.STG_FAULT_SEEN i).apart f = true) (hi : i < 3) :
    (L.copyFrame l i g).rd f = (((L.copyStat i g).copyCounts i g).copyClm i g).rd f := by
  have hvdc : f.addr ≠ 0x40040000 + (0x80 + 4 * i) := by omega
  have hstat : f.addr ≠ 0x40040004 := by omega
  unfold LaneSt.copyFrame
  rw [LaneSt.rd_withMeas, LaneSt.put, LaneSt.rd_wr_addr _ _ _ _ hstat, LaneSt.put, LaneSt.rd_wr_addr _ _ _ _ hvdc,
    LaneSt.rd_wr_addr _ _ _ _ hvdc, LaneSt.rd_wr_apart _ _ _ _ hseen]

theorem LaneSt.copyFrame_stat (L : LaneSt) (l : Lane) {i : Nat} (hi : i < 3) (g : StageSt) {f : Fld}
    (h : f.addr = 0x40080000 + (0x10 + 4 * i)) : (L.copyFrame l i g).rd f = (L.copyStat i g).rd f := by
  rw [L.copyFrame_rd l g (by omega) (by simp; omega) hi, LaneSt.copyClm_rd _ _ (by omega), LaneSt.copyCounts_rd _ _ (by omega)]

theorem LaneSt.copyFrame_latch (L : LaneSt) (l : Lane) {i : Nat} (hi : i < 3) (g : StageSt) :
    (L.copyFrame l i g).rd (Reg.STG_FAULT_LATCH i) = g.latch.toNat := by
  rw [L.copyFrame_rd l g (by simp; omega) (by simp) hi, LaneSt.copyClm_rd _ _ (by simp; omega), LaneSt.copyCounts_latch]

theorem LaneSt.copyFrame_accepted (L : LaneSt) (l : Lane) {i : Nat} (hi : i < 3) (g : StageSt) :
    (L.copyFrame l i g).rd (Reg.CLM_STG_ACCEPTED i) = acceptedCode g.acc := by
  rw [L.copyFrame_rd l g (by simp; omega) (by simp) hi, LaneSt.copyClm_accepted]

theorem LaneSt.copyFrame_vdcValid (L : LaneSt) (l : Lane) {i : Nat} (hi : i < 3) (g : StageSt) :
    (L.copyFrame l i g).on (Reg.MEAS_VDC_VALID i) = true := by
  unfold LaneSt.copyFrame
  rw [LaneSt.on, LaneSt.rd_withMeas, LaneSt.put, LaneSt.rd_wr_addr _ _ _ _ (by simp; omega), LaneSt.rd_put_self _ _ _ (by simp) (by simp)]
  rfl

/-! ### A lost frame (R175) -/

theorem nth_setNth_self {α : Type} (x : Tri α) (i : Nat) (v : α) : nth (setNth x i v) i = v := by
  rcases i with _ | _ | i <;> rfl

theorem stgIx_lt (g : Stg) : stgIx g < 3 := by cases g <;> decide

/-- The lane notes that no valid frame of stage `i` came. -/
def LaneSt.missFrame (L : LaneSt) (i : Nat) : LaneSt :=
  let L := { L with meas := { L.meas with
    lost := setNth L.meas.lost i (nth L.meas.lost i + 1), linkErr := updNth L.meas.linkErr i (· + 1) } }
  ((L.put (Reg.MEAS_STAT_FRAME_LOST.bit i) true).put (Reg.MEAS_VDC_VALID i) false).shiftMeans i (.all none)

/-- Every leg of stage `i` is invalid. -/
def LaneSt.legsInvalid (L : LaneSt) (i : Nat) : LaneSt := for3 (fun k L => L.put ((Reg.MEAS_LEG_STAT_LEG i k).bit 0) false) L

theorem LaneSt.missStatus_eq (L : LaneSt) (i : Nat) :
    L.missStatus i =
      let M := L.missFrame i
      let N := if 2 ≤ nth L.meas.lost i + 1 then (M.legsInvalid i).countNovalid i true
        else M.countNovalid i (M.on (Reg.MEAS_STAT_NOVALID.bit i))
      let x := (nth N.meas.res i).headD .reset
      N.pushRes i { x with p := x.p + 1, bad := x.bad || decide (2 ≤ nth L.meas.lost i + 1) } := rfl

/-- A field that the invalid legs leave alone as well. -/
def Fld.apartFromLegStat (f : Fld) : Prop := f.ApartFromFaults ∧ (f.addr < 0x40040010 ∨ 0x40040080 ≤ f.addr)

theorem LaneSt.legsInvalid_keepsStatus (L : LaneSt) {i : Nat} (hi : i < 3) : L.keepsStatus Fld.apartFromLegStat (L.legsInvalid i) := by
  refine LaneSt.keepsStatus_for3 (fun k _ M => LaneSt.keepsStatus_wr (fun f hf => ?_) M.keepsStatus_refl) L
  have := hf.2
  simp; omega

theorem LaneSt.legsInvalid_leg (L : LaneSt) (i : Nat) {k : Nat} (hk : k < 3) :
    (L.legsInvalid i).on ((Reg.MEAS_LEG_STAT_LEG i k).bit 0) = false := by
  unfold LaneSt.legsInvalid for3 LaneSt.on
  interval_cases k <;> simp (disch := simp) [LaneSt.put, LaneSt.rd_wr_self, LaneSt.rd_wr_apart]

/-- A missed frame leaves what the lane has noted of it. -/
theorem LaneSt.missStatus_keepsStatus (L : LaneSt) {i : Nat} (hi : i < 3) :
    (L.missFrame i).keepsStatus Fld.apartFromLegStat (L.missStatus i) := by
  have hsub : ∀ {M N : LaneSt}, M.keepsStatus Fld.ApartFromFaults N → M.keepsStatus Fld.apartFromLegStat N :=
    LaneSt.keepsStatus_mono fun f hf => hf.1
  rw [LaneSt.missStatus_eq]
  refine LaneSt.keepsStatus_trans (LaneSt.pushRes_keepsStatus _ i _) (LaneSt.keepsStatus_ite ?_ ?_)
  · exact LaneSt.keepsStatus_trans (hsub (LaneSt.countNovalid_keepsStatus _ i true)) (LaneSt.legsInvalid_keepsStatus _ hi)
  · exact hsub (LaneSt.countNovalid_keepsStatus _ i _)

/-- From the second lost frame in a row on the legs are invalid. -/
theorem LaneSt.missStatus_leg (L : LaneSt) {i k : Nat} (hi : i < 3) (hk : k < 3) (h : 1 ≤ nth L.meas.lost i) :
    (L.missStatus i).on ((Reg.MEAS_LEG_STAT_LEG i k).bit 0) = false := by
  have hfld : Fld.ApartFromFaults ((Reg.MEAS_LEG_STAT_LEG i k).bit 0) := by
    constructor <;> simp <;> omega
  have hkeeps : ((L.missFrame i).legsInvalid i).keepsStatus Fld.ApartFromFaults (L.missStatus i) := by
    rw [LaneSt.missStatus_eq]
    refine LaneSt.keepsStatus_trans (LaneSt.pushRes_keepsStatus _ i _) ?_
    rw [if_pos (by omega)]
    exact LaneSt.countNovalid_keepsStatus _ i true
  rw [LaneSt.on, hkeeps.2 _ hfld]
  exact LaneSt.legsInvalid_leg _ i hk

/-! ### Reconstruction (R182) -/

theorem LegRes.val_of_good {r : LegRes} (h : r.good = true) : ∃ x, r.val = some x := by
  simp only [LegRes.good, Bool.and_eq_true] at h
  exact Option.isSome_iff_exists.mp h.1.1.1.1

/-- Exactly one leg is not good: its current is minus the sum of the other two. -/
theorem reconstruct_one_bad {r : Tri LegRes} {k : Nat} (hk : k < 3) (hbad : (nth r k).good = false)
    (hgood : ∀ j < 3, j ≠ k → (nth r j).good = true) :
    ∃ x y z : Int, reconstruct r = (⟨some x, some y, some z⟩, .all true, ⟨decide (0 = k), decide (1 = k), decide (2 = k)⟩) ∧
      x + y + z = 0 ∧ ∀ j < 3, j ≠ k → some (nth ⟨x, y, z⟩ j) = (nth r j).val := by
  have hval : ∀ j < 3, j ≠ k → ∃ x, (nth r j).val = some x := fun j hj hjk => LegRes.val_of_good (hgood j hj hjk)
  unfold reconstruct
  dsimp only
  interval_cases k
  · obtain ⟨y, hy⟩ := hval 1 (by decide) (by decide)
    obtain ⟨z, hz⟩ := hval 2 (by decide) (by decide)
    rw [hbad, hgood 1 (by decide) (by decide), hgood 2 (by decide) (by decide), hy, hz]
    refine ⟨-(y + z), y, z, rfl, by omega, fun j hj hne => ?_⟩
    interval_cases j
    · exact absurd rfl hne
    · exact hy.symm
    · exact hz.symm
  · obtain ⟨x, hx⟩ := hval 0 (by decide) (by decide)
    obtain ⟨z, hz⟩ := hval 2 (by decide) (by decide)
    rw [hbad, hgood 0 (by decide) (by decide), hgood 2 (by decide) (by decide), hx, hz]
    refine ⟨x, -(x + z), z, rfl, by omega, fun j hj hne => ?_⟩
    interval_cases j
    · exact hx.symm
    · exact absurd rfl hne
    · exact hz.symm
  · obtain ⟨x, hx⟩ := hval 0 (by decide) (by decide)
    obtain ⟨y, hy⟩ := hval 1 (by decide) (by decide)
    rw [hbad, hgood 0 (by decide) (by decide), hgood 1 (by decide) (by decide), hx, hy]
    refine ⟨x, y, -(x + y), rfl, by omega, fun j hj hne => ?_⟩
    interval_cases j
    · exact hx.symm
    · exact hy.symm
    · exact absurd rfl hne

/-! ### Signed fields -/

/-- A number in the range of `w` bits, to two's complement and back. -/
theorem signedOf_bitsOf {w : Nat} (hw : 0 < w) {x : Int} (hlo : -(2 ^ (w - 1) : Nat) ≤ x) (hhi : x < (2 ^ (w - 1) : Nat)) :
    signedOf w (bitsOf w x % 2 ^ w) = x := by
  obtain ⟨k, rfl⟩ : ∃ k, w = k + 1 := ⟨w - 1, by omega⟩
  rw [Nat.add_sub_cancel] at hlo hhi
  have hpow : 2 ^ (k + 1) = 2 * 2 ^ k := by rw [Nat.pow_succ]; omega
  have hmod : bitsOf (k + 1) x < 2 ^ (k + 1) := by unfold bitsOf; omega
  unfold signedOf
  rw [Nat.mod_mod, Nat.mod_eq_of_lt hmod, Nat.add_sub_cancel]
  unfold bitsOf at *
  rcases lt_or_ge x 0 with hx | hx
  · have hx' : x % (2 ^ (k + 1) : Nat) = x + (2 ^ (k + 1) : Nat) := by
      rw [← Int.add_emod_right, Int.emod_eq_of_lt (by omega) (by omega)]
    rw [hx', if_neg (by omega)]
    omega
  · rw [Int.emod_eq_of_lt hx (by omega), if_pos (by omega)]
    omega

theorem LaneSt.rdS_wrS_self (L : LaneSt) {f : Fld} {x : Int} (h : f.lo + f.w ≤ 32) (hw : 0 < f.w) (hlo : -(2 ^ (f.w - 1) : Nat) ≤ x)
    (hhi : x < (2 ^ (f.w - 1) : Nat)) : (L.wrS f x).rdS f = x := by
  rw [LaneSt.rdS, LaneSt.wrS, LaneSt.rd_wr_self _ _ _ h, signedOf_bitsOf hw hlo hhi]

/-- A saturated number is in range. -/
theorem satS_range {w : Nat} (x : Int) : -(2 ^ (w - 1) : Nat) ≤ satS w x ∧ satS w x < (2 ^ (w - 1) : Nat) := by
  have : 0 < 2 ^ (w - 1) := Nat.two_pow_pos _
  unfold satS clampI
  split
  · omega
  · split <;> omega

/-! ### General-purpose conversions (R193, R194) -/

theorem LaneSt.raiseIf_meas (L : LaneSt) (b : Bool) (id d : Nat) : (L.raiseIf b id d).meas = L.meas :=
  (L.raiseIf_frame b id d).1 .meas (by decide)

theorem LaneSt.gpOut_congr {L M : LaneSt} (h : M.meas = L.meas) (c : Nat) : M.gpOut c = L.gpOut c := by
  rw [LaneSt.gpOut, h, LaneSt.gpOut]

theorem LaneSt.gpStore_gpOut (L : LaneSt) (c n : Nat) (v : Int) : (L.gpStore c n v).gpOut c = L.gpOut c := by
  unfold LaneSt.gpStore
  split
  · rfl
  · extract_lets _ M
    cases L.meas.g0.getD n none
    case none => rfl
    case some x =>
      unfold LaneSt.gpOut
      rw [LaneSt.raiseIf_meas]
      rfl

/-- A converter is out from the first reference that it reads wrong on. -/
theorem LaneSt.gpCheck_gpOut (L : LaneSt) (c n : Nat) (v : Int) : (L.gpCheck c n v).gpOut c = (L.gpOut c || gpOff n v) := by
  unfold LaneSt.gpCheck
  split
  next hoff =>
    extract_lets _ M N
    have hN : M.frame [.regs] N := frame_forN (fun k K => frame_ite (K.put_frame _ false) (frame_refl _ K)) 16 M
    rw [hoff, Bool.or_true, LaneSt.gpOut, (LaneSt.raise_frame _ _ _).1 .meas (by decide), hN.1 .meas (by decide)]
    cases c <;> simp [M]
  next hok => simp [Bool.eq_false_of_not_eq_true hok]

/-- A converter that is out converts nothing. -/
theorem LaneSt.gpInput_of_gpOut {L : LaneSt} {c : Nat} (h : L.gpOut c = true) : L.gpInput c = none := by
  simp [LaneSt.gpInput, h]

theorem LaneSt.gpInput_eq_some {L : LaneSt} {c n : Nat} (h : L.gpInput c = some n) : n < 16 ∧ L.gpOut c = false := by
  have hin : L.gpOut c = false := by
    by_contra hout
    rw [LaneSt.gpInput_of_gpOut (by simpa using hout)] at h
    exact absurd h (by simp)
  simp only [LaneSt.gpInput] at h
  refine ⟨?_, hin⟩
  split_ifs at h <;> simp at h <;> omega

/-- What the input of `gpTake` reads as: the thermistor as its temperature. -/
def LaneSt.gpReading (L : LaneSt) (n : Nat) (v : Int) (ohm : Nat) : Int := if n = 4 then ntcTemp L.com.motor.beta ohm else v

/-- The lane with a conversion in MEAS_GP. -/
def LaneSt.gpEnter (L : LaneSt) (c n : Nat) (v : Int) : LaneSt :=
  let L := (L.gpStore c n v).gpCheck c n v
  let L := { L with meas := { L.meas with byG1 := L.meas.byG1.set n (c != 0) } }
  (L.wrS (Reg.MEAS_GP_VALUE n) (satS 16 v)).put (Reg.MEAS_GP_VALID n) !L.gpOut c

theorem LaneSt.gpTake_eq (L : LaneSt) (c n : Nat) (v : Int) (ohm : Nat) :
    L.gpTake c n v ohm = let M := L.gpEnter c n (L.gpReading n v ohm)
      if n = 4 then M.gpNtc ohm else if n = 6 then M.wrS Reg.SYS_BIAS_TJ (satS 16 (L.gpReading n v ohm)) else M := rfl

theorem LaneSt.gpEnter_gpOut (L : LaneSt) (c n : Nat) (v : Int) : (L.gpEnter c n v).gpOut c = (L.gpOut c || gpOff n v) := by
  rw [← LaneSt.gpStore_gpOut L c n v]
  exact LaneSt.gpCheck_gpOut _ c n v

theorem LaneSt.gpEnter_valid (L : LaneSt) (c n : Nat) (v : Int) :
    (L.gpEnter c n v).on (Reg.MEAS_GP_VALID n) = !(L.gpOut c || gpOff n v) := by
  rw [← LaneSt.gpStore_gpOut L c n v, ← LaneSt.gpCheck_gpOut]
  exact LaneSt.on_put_self _ _ _ (by simp) (by simp)

theorem LaneSt.gpEnter_value (L : LaneSt) (c n : Nat) (v : Int) : (L.gpEnter c n v).rdS (Reg.MEAS_GP_VALUE n) = satS 16 v := by
  unfold LaneSt.gpEnter LaneSt.put
  rw [LaneSt.rdS, LaneSt.rd_wr_apart _ _ _ _ (by simp)]
  exact LaneSt.rdS_wrS_self _ (by simp) (by simp) (satS_range v).1 (satS_range v).2

theorem LaneSt.gpNtc_keepsStatus (L : LaneSt) (ohm : Nat) : L.keepsStatus Fld.ApartFromFaults (L.gpNtc ohm) :=
  LaneSt.keepsStatus_trans (LaneSt.raiseIf_keepsStatus _ _ _ (by decide))
    (LaneSt.keepsStatus_of_regs (M := L) rfl rfl L.keepsStatus_refl)

theorem LaneSt.gpNtc_gpOut (L : LaneSt) (ohm c : Nat) : (L.gpNtc ohm).gpOut c = L.gpOut c := by
  unfold LaneSt.gpNtc
  extract_lets bad was
  generalize bad = b
  exact LaneSt.gpOut_congr (LaneSt.raiseIf_meas _ _ _ _) c

/-- The temperature of a thermistor or of the board goes elsewhere as well. -/
theorem LaneSt.gpTake_keepsStatus (L : LaneSt) (c n : Nat) (v : Int) (ohm : Nat) :
    (L.gpEnter c n (L.gpReading n v ohm)).keepsStatus (fun f => f.ApartFromFaults ∧ f.addr ≠ 0x40000028) (L.gpTake c n v ohm) := by
  rw [LaneSt.gpTake_eq]
  dsimp only
  generalize L.gpEnter c n (L.gpReading n v ohm) = M
  refine LaneSt.keepsStatus_ite ?_ (LaneSt.keepsStatus_ite ?_ M.keepsStatus_refl)
  · exact LaneSt.keepsStatus_mono (fun f hf => hf.1) (M.gpNtc_keepsStatus ohm)
  · exact LaneSt.keepsStatus_wr (fun f hf => by simp [hf.2]) M.keepsStatus_refl

theorem LaneSt.gpTake_gpOut (L : LaneSt) (c n : Nat) (v : Int) (ohm : Nat) :
    (L.gpTake c n v ohm).gpOut c = (L.gpOut c || gpOff n (L.gpReading n v ohm)) := by
  rw [← LaneSt.gpEnter_gpOut, LaneSt.gpTake_eq]
  dsimp only
  generalize L.gpEnter c n (L.gpReading n v ohm) = M
  split
  · exact M.gpNtc_gpOut ohm c
  · split
    · exact LaneSt.gpOut_congr ((M.wrS_frame _ _).1 .meas (by decide)) c
    · rfl

/-- A field of MEAS_GP is apart from what follows the conversion. -/
theorem gpField_apart {n : Nat} (hn : n < 16) (lo w : Nat) :
    Fld.ApartFromFaults ⟨0x40040000 + (0x340 + 4 * n), lo, w⟩ ∧ 0x40040000 + (0x340 + 4 * n) ≠ 0x40000028 := by
  refine ⟨?_, by omega⟩
  constructor <;> simp <;> omega

theorem LaneSt.gpTake_shows (L : LaneSt) {c n : Nat} (v : Int) (ohm : Nat) (h : L.gpInput c = some n) :
    (L.gpTake c n v ohm).rdS (Reg.MEAS_GP_VALUE n) = satS 16 (L.gpReading n v ohm) ∧
      (L.gpTake c n v ohm).on (Reg.MEAS_GP_VALID n) = !gpOff n (L.gpReading n v ohm) ∧
      (L.gpTake c n v ohm).gpOut c = gpOff n (L.gpReading n v ohm) := by
  obtain ⟨hn, hin⟩ := LaneSt.gpInput_eq_some h
  have hkeeps := L.gpTake_keepsStatus c n v ohm
  refine ⟨?_, ?_, ?_⟩
  · rw [LaneSt.rdS, hkeeps.2 _ (gpField_apart hn _ _)]
    exact L.gpEnter_value c n _
  · rw [LaneSt.on, hkeeps.2 _ (gpField_apart hn _ _)]
    exact (L.gpEnter_valid c n _).trans (by rw [hin, Bool.false_or])
  · rw [LaneSt.gpTake_gpOut, hin, Bool.false_or]

theorem gpConversionComplete_input {s : State} {l : Lane} (v : Int) (ohm t : Nat) {c n : Nat} (hup : (s.lane l).up = true) (hc : c < 2)
    (h : (s.lane l).gpInput c = some n) : LaneRuns (.gpConversionComplete l c v ohm t) s l fun L =>
      let x := if n = 4 then ntcTemp (s.lane l).com.motor.beta ohm else v
      (s.lane l).keeps (.time :: .meas :: faultParts) L ∧ L.rdS (Reg.MEAS_GP_VALUE n) = satS 16 x ∧
      L.on (Reg.MEAS_GP_VALID n) = !gpOff n x ∧ L.gpOut c = gpOff n x := by
  refine laneRuns_onLane rfl hup ?_
  have hin : ((s.lane l).tick t).gpInput c = some n := h
  rw [if_pos hc, show ((nth s.lanes (laneIx l)).tick t).gpInput c = some n from h]
  have hframe : (s.lane l).frame (.time :: .meas :: faultParts) (((s.lane l).tick t).gpTake c n v ohm) :=
    LaneSt.frame_step (LaneSt.gpTake_frame _ c n v ohm) (by decide) (LaneSt.frame_step (LaneSt.tick_frame _ t) (by decide) (LaneSt.frame_refl _ _))
  exact ⟨hframe.1, LaneSt.gpTake_shows _ v ohm hin⟩

theorem gpConversionComplete_out {s : State} {l : Lane} (v : Int) (ohm t : Nat) {c : Nat} (hup : (s.lane l).up = true) (hc : c < 2)
    (h : (s.lane l).gpOut c = true) : LaneRuns (.gpConversionComplete l c v ohm t) s l fun L => L = (s.lane l).tick t := by
  refine laneRuns_onLane rfl hup ?_
  have hin : ((nth s.lanes (laneIx l)).tick t).gpInput c = none := LaneSt.gpInput_of_gpOut h
  rw [if_pos hc, hin]
  rfl

/-! ### Status frames and windows -/

/-- A field of CLM or STG that shows stage `i` is apart from faults and legs. -/
theorem stageField_apart {f : Fld} (h : f.addr / 65536 = 0x4003 ∨ f.addr / 65536 = 0x4008) (hp : f.addr ≠ 0x40030004) :
    f.ApartFromLegs where
  fc := by omega
  com := by omega
  aux := by omega
  clm := hp
  stat := by omega
  legs := by omega

theorem LaneSt.takeStatus_stat (L : LaneSt) (l : Lane) {i : Nat} (hi : i < 3) (g : StageSt) {f : Fld}
    (h : f.addr = 0x40080000 + (0x10 + 4 * i)) : (L.takeStatus l i g).rd f = (L.copyStat i g).rd f := by
  rw [(L.takeStatus_keepsCopies l hi g).2 _ (stageField_apart (by omega) (by omega)), L.copyFrame_stat l hi g h]

theorem LaneSt.takeStatus_latch (L : LaneSt) (l : Lane) {i : Nat} (hi : i < 3) (g : StageSt) :
    (L.takeStatus l i g).rd (Reg.STG_FAULT_LATCH i) = g.latch.toNat := by
  rw [(L.takeStatus_keepsCopies l hi g).2 _ (stageField_apart (by simp; omega) (by simp; omega)), L.copyFrame_latch l hi g]

theorem LaneSt.takeStatus_accepted (L : LaneSt) (l : Lane) {i : Nat} (hi : i < 3) (g : StageSt) :
    (L.takeStatus l i g).rd (Reg.CLM_STG_ACCEPTED i) = acceptedCode g.acc := by
  rw [(L.takeStatus_keepsCopies l hi g).2 _ (stageField_apart (by simp; omega) (by simp; omega)), L.copyFrame_accepted l hi g]

theorem vdcValid_apart {i : Nat} (hi : i < 3) : (Reg.MEAS_VDC_VALID i).ApartFromLegs := by
  constructor
  · constructor <;> simp <;> omega
  · intro _
    simp only
    omega

theorem LaneSt.takeStatus_vdcValid (L : LaneSt) (l : Lane) {i : Nat} (hi : i < 3) (g : StageSt) :
    (L.takeStatus l i g).on (Reg.MEAS_VDC_VALID i) = true := by
  rw [LaneSt.on, (L.takeStatus_keepsCopies l hi g).2 _ (vdcValid_apart hi)]
  exact L.copyFrame_vdcValid l hi g

theorem LaneSt.takeStatus_lost (L : LaneSt) (l : Lane) {i : Nat} (hi : i < 3) (g : StageSt) :
    nth (L.takeStatus l i g).meas.lost i = 0 := by
  rw [(L.takeStatus_keepsCopies l hi g).1]
  exact nth_setNth_self _ _ _

theorem LaneSt.shiftMeans_rd (L : LaneSt) (i : Nat) (m : Tri (Option Int)) (f : Fld) : (L.shiftMeans i m).rd f = L.rd f := rfl

theorem LaneSt.shiftMeans_lost (L : LaneSt) (i : Nat) (m : Tri (Option Int)) : (L.shiftMeans i m).meas.lost = L.meas.lost := rfl

theorem LaneSt.missFrame_lost (L : LaneSt) (i : Nat) : nth (L.missFrame i).meas.lost i = nth L.meas.lost i + 1 := by
  unfold LaneSt.missFrame
  rw [LaneSt.shiftMeans_lost, LaneSt.put_meas, LaneSt.put_meas]
  exact nth_setNth_self _ _ _

theorem LaneSt.missFrame_frameLost (L : LaneSt) {i : Nat} (hi : i < 3) :
    (L.missFrame i).on (Reg.MEAS_STAT_FRAME_LOST.bit i) = true := by
  unfold LaneSt.missFrame LaneSt.on
  rw [LaneSt.shiftMeans_rd, LaneSt.put, LaneSt.rd_wr_addr _ _ _ _ (by simp; omega), LaneSt.rd_put_self _ _ _ (by simp; omega) (by simp)]
  rfl

theorem LaneSt.missFrame_vdcInvalid (L : LaneSt) (i : Nat) : (L.missFrame i).on (Reg.MEAS_VDC_VALID i) = false := by
  unfold LaneSt.missFrame LaneSt.on
  rw [LaneSt.shiftMeans_rd, LaneSt.rd_put_self _ _ _ (by simp) (by simp)]
  rfl

theorem LaneSt.missStatus_lost (L : LaneSt) {i : Nat} (hi : i < 3) :
    nth (L.missStatus i).meas.lost i = nth L.meas.lost i + 1 := by
  rw [(L.missStatus_keepsStatus hi).1, LaneSt.missFrame_lost]

theorem frameLost_apart {i : Nat} (hi : i < 3) : (Reg.MEAS_STAT_FRAME_LOST.bit i).apartFromLegStat := by
  change Fld.apartFromLegStat ⟨0x40040004, 0 + i, 1⟩
  refine ⟨?_, .inl (by dsimp only; omega)⟩
  constructor <;> dsimp only <;> omega

theorem LaneSt.missStatus_frameLost (L : LaneSt) {i : Nat} (hi : i < 3) :
    (L.missStatus i).on (Reg.MEAS_STAT_FRAME_LOST.bit i) = true := by
  rw [LaneSt.on, (L.missStatus_keepsStatus hi).2 _ (frameLost_apart hi)]
  exact L.missFrame_frameLost hi

theorem LaneSt.missStatus_vdcInvalid (L : LaneSt) {i : Nat} (hi : i < 3) :
    (L.missStatus i).on (Reg.MEAS_VDC_VALID i) = false := by
  have hfld : Fld.apartFromLegStat (Reg.MEAS_VDC_VALID i) :=
    ⟨(vdcValid_apart hi).toApartFromFaults, .inr (by simp only; omega)⟩
  rw [LaneSt.on, (L.missStatus_keepsStatus hi).2 _ hfld]
  exact L.missFrame_vdcInvalid i

/-- What a lane does with a frame of stage `g` that it read in. -/
def State.readStatus (s : State) (l : Lane) (g : Stg) : State :=
  (s.updLane l fun L => L.takeStatus l (stgIx g) (s.stage g)).updStage g fun G => { G with
    seen := setNth G.seen (laneIx l) 0, clmSeen := setNth G.clmSeen (laneIx l) 0
    badNow := setNth G.badNow (laneIx l) false }

theorem exec_statusFrame_valid {s : State} {l : Lane} {g : Stg} (hup : (s.lane l).up = true) (hst : (s.stage g).st ≠ 0) :
    exec (.statusFrame l g true) s = .next (s.readStatus l g) := by
  change execStatusFrame l g true s = _
  unfold execStatusFrame
  rw [if_pos hup]
  dsimp only
  rw [if_pos (by simpa using hst)]
  rfl

theorem exec_statusFrame_lost {s : State} {l : Lane} (g : Stg) (hup : (s.lane l).up = true) :
    exec (.statusFrame l g false) s = .next (s.updLane l fun L => L.missStatus (stgIx g)) := by
  change execStatusFrame l g false s = _
  unfold execStatusFrame
  rw [if_pos hup]
  rfl

theorem State.readStatus_lane (s : State) (l : Lane) (g : Stg) :
    (s.readStatus l g).lane l = (s.lane l).takeStatus l (stgIx g) (s.stage g) := by
  rw [State.readStatus, State.lane_updStage, State.lane_updLane_self]

theorem State.readStatus_stage (s : State) (l : Lane) (g : Stg) :
    (s.readStatus l g).stage g = { s.stage g with
      seen := setNth (s.stage g).seen (laneIx l) 0, clmSeen := setNth (s.stage g).clmSeen (laneIx l) 0
      badNow := setNth (s.stage g).badNow (laneIx l) false } := by
  rw [State.readStatus, State.stage_updStage_self, State.stage_updLane]

theorem windowClose_takes (s : State) (g : Stg) (k : Leg) (d : Int) : StageRuns (.windowClose g k d) s g fun G =>
    if (s.stage g).st ≠ 0 ∧ nth (s.stage g).w (legIx k) ≠ 0 then G = { (s.stage g) with d := setNth (s.stage g).d (legIx k) (some (satS 32 d)) }
    else G = s.stage g := by
  refine stageRuns_updStage rfl ?_
  split <;> rfl

/-- Settles O18: the copies of a frame stand, as faults and legs touch none of them; the rest is one conversion or one sum. -/
theorem measurementResults : Obligations.MeasurementResults := by
  refine ⟨fun s l g hup => ⟨fun hst => ⟨_, exec_statusFrame_valid hup hst, ?_⟩, ?_⟩, ⟨windowClose_takes, ?_⟩,
    fun s l v ohm t c hup hc => ⟨fun n hin => gpConversionComplete_input v ohm t hup hc hin, gpConversionComplete_out v ohm t hup hc⟩⟩
  · have hi := stgIx_lt g
    dsimp only
    rw [s.readStatus_lane, s.readStatus_stage]
    refine ⟨fun o ho => ?_, fun o ho => ?_, rfl, rfl, ?_, nth_setNth_self _ _ _, nth_setNth_self _ _ _, nth_setNth_self _ _ _, rfl, rfl,
      ?_, ?_, ?_, ?_, LaneSt.takeStatus_latch _ l hi _, LaneSt.takeStatus_accepted _ l hi _, LaneSt.takeStatus_vdcValid _ l hi _,
      LaneSt.takeStatus_lost _ l hi _⟩
    · exact State.lane_updLane_ne _ _ _ _ ho
    · exact State.stage_updStage_ne _ _ _ _ ho
    · exact (LaneSt.frame_mono (LaneSt.takeStatus_frame _ l _ _) (by decide)).1
    · exact (LaneSt.takeStatus_stat _ l hi _ rfl).trans (LaneSt.copyStat_state _ _ _)
    · rw [LaneSt.on, LaneSt.takeStatus_stat _ l hi _ rfl]
      exact LaneSt.copyStat_en _ _ _
    · rw [LaneSt.on, LaneSt.takeStatus_stat _ l hi _ rfl]
      exact LaneSt.copyStat_stoIn _ _ _
    · rw [LaneSt.on, LaneSt.takeStatus_stat _ l hi _ rfl]
      exact LaneSt.copyStat_latched _ _ _
  · have hi := stgIx_lt g
    refine laneRuns_updLane (exec_statusFrame_lost g hup) ⟨?_, LaneSt.missStatus_lost _ hi, LaneSt.missStatus_frameLost _ hi,
      LaneSt.missStatus_vdcInvalid _ hi, fun hlost k hk => LaneSt.missStatus_leg _ hi hk hlost⟩
    exact (LaneSt.frame_mono (LaneSt.missStatus_frame _ _) (by decide)).1
  · intro r k hk hbad hgood
    obtain ⟨x, y, z, hrec, hsum, hval⟩ := reconstruct_one_bad hk hbad hgood
    rw [hrec]
    refine ⟨x, y, z, rfl, hsum, rfl, fun j hj => ?_, fun j hj hne => ?_⟩
    · interval_cases j <;> rfl
    · rw [← hval j hj hne]
      interval_cases j <;> rfl

end Sys2Proof.Machine

/-! ## Position ports (R109, R203, R219, R220) -/
namespace Sys2Proof.Machine

/-! ### Fields of POS -/

/-- A source's assertion leaves the fields of POS alone. -/
theorem LaneSt.raise_rd_pos (L : LaneSt) {id : Nat} (d : Nat) (hid : id < 65536) {f : Fld} (h : f.addr / 65536 = 0x4005) :
    (L.raise id d).rd f = L.rd f := by
  refine LaneSt.rd_of_keepsRegs (L.raise_regs id d hid) f ?_
  simp [covered, faultRegs]
  omega

theorem LaneSt.raise_pos (L : LaneSt) (id d : Nat) : (L.raise id d).pos = L.pos := (L.raise_frame id d).1 .pos (by decide)

theorem LaneSt.rd_updPos (L : LaneSt) (g : PosSt → PosSt) (f : Fld) : (L.updPos g).rd f = L.rd f := rfl

theorem LaneSt.rd_mod (L : LaneSt) (f : Fld) : L.rd f % 2 ^ f.w = L.rd f := by
  rw [LaneSt.rd, Fld.get, Nat.mod_mod]

theorem nth_setNth_ne {α : Type} (x : Tri α) {i j : Nat} (v : α) (hi : i < 3) (hj : j < 3) (h : j ≠ i) :
    nth (setNth x i v) j = nth x j := by
  interval_cases i <;> interval_cases j <;> simp [nth, setNth] at h ⊢

/-! ### One counter's snapshot (R203) -/

/-- The fields in which the snapshot of counter `i` stands. -/
inductive Fld.OfCounter (i : Nat) : Fld → Prop
  | count : OfCounter i (Reg.POS_EXT_COUNT i)
  | wrap : OfCounter i (Reg.POS_EXT_STAT_WRAP.part (2 * i) 2)
  | overflow : OfCounter i (Reg.POS_EXT_STAT_WRAP_OVF.bit i)

/-- The registers of the snapshots. -/
def snapRegs : List Nat :=
  (Reg.POS_EXT_COUNT 0).addr :: (Reg.POS_EXT_COUNT 1).addr :: (Reg.POS_EXT_COUNT 2).addr :: [0x40050008]

theorem LaneSt.snapCounter_pos (L : LaneSt) (i : Nat) :
    (L.snapCounter i).pos = { L.pos with wraps := setNth L.pos.wraps i 0 } := by
  unfold LaneSt.snapCounter
  dsimp only
  split
  · rfl
  · exact LaneSt.raise_pos _ _ _

/-- A field of POS apart from those of counter `i`. -/
theorem LaneSt.snapCounter_rd (L : LaneSt) {i : Nat} {f : Fld} (hblk : f.addr / 65536 = 0x4005)
    (hcount : (Reg.POS_EXT_COUNT i).apart f = true) (hwrap : (Reg.POS_EXT_STAT_WRAP.part (2 * i) 2).apart f = true)
    (hovf : (Reg.POS_EXT_STAT_WRAP_OVF.bit i).apart f = true) : (L.snapCounter i).rd f = L.rd f := by
  unfold LaneSt.snapCounter
  dsimp only
  split
  · rw [LaneSt.wrS, LaneSt.rd_wr_apart _ _ _ _ hwrap, LaneSt.rd_updPos, LaneSt.rd_wr_apart _ _ _ _ hcount]
  · rw [LaneSt.raise_rd_pos _ _ (by decide) hblk, LaneSt.put, LaneSt.rd_wr_apart _ _ _ _ hovf, LaneSt.rd_wr_apart _ _ _ _ hwrap,
      LaneSt.rd_updPos, LaneSt.rd_wr_apart _ _ _ _ hcount]

theorem LaneSt.snapCounter_counter (L : LaneSt) {i j : Nat} (hi : i < 3) (hj : j < 3) :
    (L.snapCounter i).rd (Reg.POS_CNT_COUNT j) = L.rd (Reg.POS_CNT_COUNT j) :=
  L.snapCounter_rd (by simp only; omega) (by simp; omega) (by simp; omega) (by simp; omega)

/-- The snapshot of another counter. -/
theorem LaneSt.snapCounter_other (L : LaneSt) {i j : Nat} (hi : i < 3) (hj : j < 3) (h : j ≠ i) {f : Fld} (hf : f.OfCounter j) :
    (L.snapCounter i).rd f = L.rd f := by
  cases hf
  case count => exact L.snapCounter_rd (by simp only; omega) (by simp; omega) (by simp; omega) (by simp; omega)
  all_goals exact L.snapCounter_rd (by simp only) (by simp; omega) (by simp; omega) (by simp; omega)

theorem LaneSt.snapCounter_count (L : LaneSt) {i : Nat} (hi : i < 3) :
    (L.snapCounter i).rd (Reg.POS_EXT_COUNT i) = L.rd (Reg.POS_CNT_COUNT i) := by
  have hself : ∀ v, (L.wr (Reg.POS_EXT_COUNT i) v).rd (Reg.POS_EXT_COUNT i) = v % 2 ^ 32 := fun v =>
    LaneSt.rd_wr_self _ _ _ (by simp)
  have hstat : (0x40050000 + (0x90 + 4 * i)) ≠ 0x40050008 := by omega
  unfold LaneSt.snapCounter
  dsimp only
  split
  · rw [LaneSt.wrS, LaneSt.rd_wr_addr _ _ _ _ hstat, LaneSt.rd_updPos, hself]
    exact L.rd_mod (Reg.POS_CNT_COUNT i)
  · rw [LaneSt.raise_rd_pos _ _ (by decide) (by simp only; omega), LaneSt.put, LaneSt.rd_wr_addr _ _ _ _ hstat,
      LaneSt.rd_wr_addr _ _ _ _ hstat, LaneSt.rd_updPos, hself]
    exact L.rd_mod (Reg.POS_CNT_COUNT i)

/-- At most one net wrap: it is in the snapshot. -/
theorem LaneSt.snapCounter_wrap (L : LaneSt) {i : Nat} (hi : i < 3) (h : absN (nth L.pos.wraps i) ≤ 1) :
    (L.snapCounter i).rdS (Reg.POS_EXT_STAT_WRAP.part (2 * i) 2) = nth L.pos.wraps i := by
  have hrange : (nth L.pos.wraps i).natAbs ≤ 1 := h
  unfold LaneSt.snapCounter
  dsimp only
  rw [if_pos h]
  exact LaneSt.rdS_wrS_self _ (by simp; omega) (by simp) (by simp; omega) (by simp; omega)

theorem LaneSt.snapCounter_regs (L : LaneSt) {i : Nat} (hi : i < 3) (h : absN (nth L.pos.wraps i) ≤ 1) :
    L.keepsRegs snapRegs (L.snapCounter i) := by
  have hcov : covered snapRegs (Reg.POS_EXT_COUNT i).addr = true := by interval_cases i <;> decide
  have hstat : covered snapRegs 0x40050008 = true := by decide
  unfold LaneSt.snapCounter
  dsimp only
  rw [if_pos h, LaneSt.wrS]
  exact LaneSt.keepsRegs_wr hstat (LaneSt.keepsRegs_of_regs (LaneSt.updPos_regs _ _)
    (LaneSt.keepsRegs_wr hcov (L.keepsRegs_refl _)))

/-- More: the snapshot reads 0 and the overflow is told. -/
theorem LaneSt.snapCounter_overflow (L : LaneSt) {i : Nat} (hi : i < 3) (h : 1 < absN (nth L.pos.wraps i)) :
    (L.snapCounter i).on (Reg.POS_EXT_STAT_WRAP_OVF.bit i) = true ∧
      (L.snapCounter i).rd (Reg.POS_EXT_STAT_WRAP.part (2 * i) 2) = 0 := by
  unfold LaneSt.snapCounter
  dsimp only
  rw [if_neg (by omega), LaneSt.on, LaneSt.raise_rd_pos _ _ (by decide) (by simp only), LaneSt.raise_rd_pos _ _ (by decide) (by simp only)]
  constructor
  · rw [LaneSt.rd_put_self _ _ _ (by simp; omega) (by simp)]
    rfl
  · rw [LaneSt.put, LaneSt.rd_wr_apart _ _ _ _ (by simp; omega), LaneSt.rd_wr_self _ _ _ (by simp; omega)]
    rfl

/-! ### The three counters -/

/-- The lane when counter `i` is copied. -/
def LaneSt.snapBefore (L : LaneSt) : Nat → LaneSt
  | 0 => L
  | i + 1 => (L.snapBefore i).snapCounter i

/-- The three counters are copied. -/
def LaneSt.snapCounters (L : LaneSt) : LaneSt := for3 (fun i L => L.snapCounter i) L

theorem LaneSt.snapCounters_eq (L : LaneSt) : L.snapCounters = L.snapBefore 3 := rfl

theorem LaneSt.snapBefore_frame (L : LaneSt) (i : Nat) : L.frame [.regs, .fc, .sys, .pos, .aux] (L.snapBefore i) := by
  induction i with
  | zero => exact LaneSt.frame_refl _ _
  | succ i ih => exact LaneSt.frame_seq (LaneSt.snapCounter_frame _ i) ih

theorem LaneSt.snapBefore_counter (L : LaneSt) {i j : Nat} (hi : i ≤ 3) (hj : j < 3) :
    (L.snapBefore i).rd (Reg.POS_CNT_COUNT j) = L.rd (Reg.POS_CNT_COUNT j) := by
  induction i with
  | zero => rfl
  | succ i ih => exact (LaneSt.snapCounter_counter _ (by omega) hj).trans (ih (by omega))

theorem LaneSt.snapBefore_wraps (L : LaneSt) {i j : Nat} (hij : i ≤ j) (hj : j < 3) :
    nth (L.snapBefore i).pos.wraps j = nth L.pos.wraps j := by
  induction i with
  | zero => rfl
  | succ i ih =>
    rw [LaneSt.snapBefore, LaneSt.snapCounter_pos]
    exact (nth_setNth_ne _ _ (by omega) hj (by omega)).trans (ih (by omega))

/-- What the snapshot of a counter shows stands at the end. -/
theorem LaneSt.snapBefore_ofCounter (L : LaneSt) {i j : Nat} (hj : j < i) (hi : i ≤ 3) {f : Fld} (hf : f.OfCounter j) :
    (L.snapBefore i).rd f = ((L.snapBefore j).snapCounter j).rd f := by
  induction i with
  | zero => omega
  | succ i ih =>
    rcases Nat.lt_succ_iff_lt_or_eq.mp hj with hlt | rfl
    · exact (LaneSt.snapCounter_other _ (by omega) (by omega) (by omega) hf).trans (ih hlt (by omega))
    · rfl

theorem LaneSt.snapBefore_regs (L : LaneSt) (h : ∀ i < 3, absN (nth L.pos.wraps i) ≤ 1) {i : Nat} (hi : i ≤ 3) :
    L.keepsRegs snapRegs (L.snapBefore i) := by
  induction i with
  | zero => exact L.keepsRegs_refl _
  | succ i ih =>
    refine LaneSt.keepsRegs_trans (LaneSt.snapCounter_regs _ (by omega) ?_) (ih (by omega))
    rw [L.snapBefore_wraps (Nat.le_refl i) (by omega)]
    exact h i (by omega)

theorem LaneSt.snapCounters_pos (L : LaneSt) : L.snapCounters.pos = { L.pos with wraps := .all 0 } := by
  rw [LaneSt.snapCounters_eq, LaneSt.snapBefore, LaneSt.snapCounter_pos, LaneSt.snapBefore, LaneSt.snapCounter_pos, LaneSt.snapBefore,
    LaneSt.snapCounter_pos]
  rfl

theorem LaneSt.snapCounters_count (L : LaneSt) {i : Nat} (hi : i < 3) :
    L.snapCounters.rd (Reg.POS_EXT_COUNT i) = L.rd (Reg.POS_CNT_COUNT i) := by
  rw [LaneSt.snapCounters_eq, L.snapBefore_ofCounter hi (by decide) .count, LaneSt.snapCounter_count _ hi,
    L.snapBefore_counter (by omega) hi]

theorem LaneSt.snapCounters_wrap (L : LaneSt) {i : Nat} (hi : i < 3) (h : absN (nth L.pos.wraps i) ≤ 1) :
    L.snapCounters.rdS (Reg.POS_EXT_STAT_WRAP.part (2 * i) 2) = nth L.pos.wraps i := by
  have hw := L.snapBefore_wraps (Nat.le_refl i) hi
  rw [LaneSt.rdS, LaneSt.snapCounters_eq, L.snapBefore_ofCounter hi (by decide) .wrap, ← hw]
  exact LaneSt.snapCounter_wrap _ hi (by rw [hw]; exact h)

theorem LaneSt.snapCounters_overflow (L : LaneSt) {i : Nat} (hi : i < 3) (h : 1 < absN (nth L.pos.wraps i)) :
    L.snapCounters.on (Reg.POS_EXT_STAT_WRAP_OVF.bit i) = true ∧
      L.snapCounters.rd (Reg.POS_EXT_STAT_WRAP.part (2 * i) 2) = 0 := by
  rw [LaneSt.on, LaneSt.snapCounters_eq, L.snapBefore_ofCounter hi (by decide) .overflow, L.snapBefore_ofCounter hi (by decide) .wrap]
  exact LaneSt.snapCounter_overflow _ hi (by rw [L.snapBefore_wraps (Nat.le_refl i) hi]; exact h)

/-! ### The request and its slot start -/

theorem posSnap_requests {s : State} {l : Lane} (hup : (s.lane l).up = true) {v : BitVec 32} (hv : v.getLsbD 0 = true) :
    LaneRuns (.posSnap l v) s l fun L => (s.lane l).keeps [.pos] L ∧ L.pos.snapReq = true := by
  refine laneRuns_onLaneNow rfl hup ?_
  rw [if_pos hv]
  exact ⟨(LaneSt.updPos_frame _ _).1, rfl⟩

theorem extensionSnapshot_idle {s : State} {l : Lane} (hup : (s.lane l).up = true)
    (h : (s.lane l).pos.snapReq = false ∨ (s.lane l).time % 50000 ≠ 0) : LaneRuns (.extensionSnapshot l) s l fun L => L = s.lane l := by
  refine laneRuns_onLaneNow rfl hup (if_neg ?_)
  rintro ⟨hreq, hslot⟩
  rcases h with h | h
  · exact absurd (h.symm.trans hreq) (by decide)
  · exact h (by simpa [LaneSt.atSlot] using hslot)

theorem extensionSnapshot_copies {s : State} {l : Lane} (hup : (s.lane l).up = true) (hreq : (s.lane l).pos.snapReq = true)
    (hslot : (s.lane l).time % 50000 = 0) : LaneRuns (.extensionSnapshot l) s l fun L =>
      (s.lane l).keeps (.pos :: .snap :: faultParts) L ∧ L.pos.snapReq = false ∧ L.pos.wraps = .all 0 ∧
      (∀ i < 3, L.rd (Reg.POS_EXT_COUNT i) = (s.lane l).rd (Reg.POS_CNT_COUNT i)) ∧
      ((∀ i < 3, absN (nth (s.lane l).pos.wraps i) ≤ 1) → (s.lane l).keepsRegs snapRegs L ∧
        ∀ i < 3, L.rdS (Reg.POS_EXT_STAT_WRAP.part (2 * i) 2) = nth (s.lane l).pos.wraps i) ∧
      (∀ i < 3, 1 < absN (nth (s.lane l).pos.wraps i) → L.on (Reg.POS_EXT_STAT_WRAP_OVF.bit i) = true ∧
        L.rd (Reg.POS_EXT_STAT_WRAP.part (2 * i) 2) = 0) := by
  refine laneRuns_onLaneNow rfl hup ?_
  rw [if_pos ⟨hreq, by simpa [LaneSt.atSlot] using hslot⟩]
  change (fun L => _) (LaneSt.freeze (LaneSt.snapCounters (LaneSt.updPos (s.lane l) fun p => { p with snapReq := false })) .ext)
  have hpos := LaneSt.snapCounters_pos ((s.lane l).updPos fun p => { p with snapReq := false })
  refine ⟨?_, ?_, ?_, ?_, ?_, ?_⟩
  · exact (LaneSt.frame_step (LaneSt.freeze_frame _ _) (by decide) (LaneSt.frame_step (LaneSt.snapBefore_frame _ 3) (by decide)
      (LaneSt.frame_step (LaneSt.updPos_frame _ _) (by decide) (LaneSt.frame_refl _ _)))).1
  · exact congrArg PosSt.snapReq hpos
  · exact congrArg PosSt.wraps hpos
  · exact fun i hi => LaneSt.snapCounters_count _ hi
  · exact fun h => ⟨fun a ha => LaneSt.snapBefore_regs ((s.lane l).updPos fun p => { p with snapReq := false }) h (Nat.le_refl 3) a ha,
      fun i hi => LaneSt.snapCounters_wrap _ hi (h i hi)⟩
  · exact fun i hi h => LaneSt.snapCounters_overflow _ hi h

/-! ### SP ports (R219) -/

theorem LaneSt.sp_setSp (L : LaneSt) {i : Nat} (hi : i < 2) (p : SpPort) : (L.setSp i p).sp i = p := by
  interval_cases i <;> rfl

theorem LaneSt.sp_congr {L M : LaneSt} (h : M.pos = L.pos) (i : Nat) : M.sp i = L.sp i := by
  rw [LaneSt.sp, LaneSt.sp, h]

theorem LaneSt.setSp_regs (L : LaneSt) (i : Nat) (p : SpPort) : (L.setSp i p).regs = L.regs :=
  (L.setSp_frame i p).1 .regs (by decide)

theorem LaneSt.rd_setSp (L : LaneSt) (i : Nat) (p : SpPort) (f : Fld) : (L.setSp i p).rd f = L.rd f :=
  LaneSt.rd_congr (L.setSp_regs i p) f

/-- The status field of a port, written out. -/
theorem spStat_eq {i : Nat} (hi : i < 2) : spStat i = ⟨0x400500E0, 16 * i, 16⟩ := by
  interval_cases i <;> rfl

/-- A port goes invalid: what the lane keeps, and what it tells. -/
theorem LaneSt.spInvalid_raise (L : LaneSt) {i : Nat} (hi : i < 2) :
    L.frame (.pos :: faultParts) ((L.spInvalid i).raise 0x0708) ∧ L.keepsRegs (0x400500E0 :: faultRegs) ((L.spInvalid i).raise 0x0708) ∧
      ((L.spInvalid i).raise 0x0708).sp i = { L.sp i with out := true, good := 0, bad := 0 } ∧
      ((L.spInvalid i).raise 0x0708).on ((spStat i).bit 0) = false ∧ L.reported ((L.spInvalid i).raise 0x0708) 0x0708 0xFF := by
  have hkeeps : L.keepsRegs [0x400500E0] (L.spInvalid i) := by
    refine LaneSt.keepsRegs_wr ?_ (LaneSt.keepsRegs_of_regs (L.setSp_regs i _) (L.keepsRegs_refl _))
    rw [spStat_eq hi]
    exact covered_self (by decide) _
  refine ⟨?_, ?_, ?_, ?_, ?_⟩
  · exact LaneSt.frame_step (LaneSt.raise_frame _ _ _) (by decide) (LaneSt.frame_step (L.spInvalid_frame i) (by decide) (L.frame_refl _))
  · exact LaneSt.keepsRegs_trans (LaneSt.keepsRegs_mono (LaneSt.raise_regs _ _ _ (by decide)) (by decide))
      (LaneSt.keepsRegs_mono hkeeps (by decide))
  · rw [LaneSt.sp_congr (LaneSt.raise_pos _ _ _)]
    exact L.sp_setSp hi _
  · rw [spStat_eq hi, LaneSt.on, LaneSt.raise_rd_pos _ _ (by decide) (by simp only), LaneSt.spInvalid, spStat_eq hi,
      LaneSt.rd_put_self _ _ _ (by simp only; omega) (by simp only; omega)]
    rfl
  · refine LaneSt.reported_of_sameCollector (M := L.spInvalid i) (by decide) (fun b hb => hkeeps b ?_) ?_ (LaneSt.raise_reported _ _ _ (by decide))
    · simp only [covered, List.any_cons, List.any_nil]
      simp; omega
    · exact (L.spInvalid_frame i).1 .fc (by decide)

/-! ### A frame on a port with a mode -/

theorem LaneSt.spStore_pos (L : LaneSt) (i : Nat) (f : SpIn) : (L.spStore i f).pos = L.pos :=
  (L.spStore_frame i f).1 .pos (by decide)

/-- The port after a frame that fits. -/
def SpPort.fitted (p : SpPort) (f : SpIn) (t : Nat) : SpPort :=
  { p with rate := spRate f, bad := 0, good := p.good + 1, out := p.out && decide (p.good + 1 < 3), lastAt := t
           mode := if f.psi5 then (if f.sync then 2 else 3) else p.mode }

/-- The port after a frame that does not. -/
def SpPort.misfitted (p : SpPort) (f : SpIn) : SpPort := { p with rate := spRate f, bad := p.bad + 1, good := 0 }

theorem LaneSt.spTake_fits {L : LaneSt} {i : Nat} {f : SpIn} (h : L.spFits i f = true) (t : Nat) :
    L.spTake i f t = ((L.setSp i ((L.sp i).fitted f t)).spStore i f).put ((spStat i).bit 0) !((L.sp i).fitted f t).out := by
  unfold LaneSt.spTake
  dsimp only
  rw [if_pos h]
  rfl

theorem LaneSt.spTake_misfits {L : LaneSt} {i : Nat} {f : SpIn} (h : L.spFits i f = false) (t : Nat) :
    L.spTake i f t = let M := (L.setSp i ((L.sp i).misfitted f)).inc ((spStat i).part 3 5)
      if 3 ≤ (L.sp i).bad + 1 && !(L.sp i).out then (M.spInvalid i).raise 0x0708 else M := by
  unfold LaneSt.spTake
  dsimp only
  rw [if_neg (by rw [h]; decide)]
  rfl

/-- Every register that a frame writes is in POS. -/
theorem LaneSt.spTake_regs (L : LaneSt) {i : Nat} (hi : i < 2) (f : SpIn) (t : Nat) :
    L.keepsRegs (0x4005 :: faultRegs) (L.spTake i f t) := by
  have hblk : ∀ (M : LaneSt) (w : Fld) (v : Nat), w.addr / 65536 = 0x4005 → L.keepsRegs (0x4005 :: faultRegs) M →
      L.keepsRegs (0x4005 :: faultRegs) (M.wr w v) := fun M w v hw h =>
    LaneSt.keepsRegs_wr (covered_block hw (by decide) (by decide)) h
  have hstat : (spStat i).addr / 65536 = 0x4005 := by simp only [spStat_eq hi]
  have hsp : ∀ p, L.keepsRegs (0x4005 :: faultRegs) (L.setSp i p) := fun p =>
    LaneSt.keepsRegs_of_regs (L.setSp_regs i p) (L.keepsRegs_refl _)
  cases hfit : L.spFits i f
  case true =>
    rw [LaneSt.spTake_fits hfit, LaneSt.put]
    refine hblk _ _ _ hstat ?_
    unfold LaneSt.spStore
    extract_lets v M
    have hM : L.keepsRegs (0x4005 :: faultRegs) M :=
      hblk _ _ _ (by simp only; omega) (hblk _ _ _ (by simp only; omega) (hsp _))
    cases f.ser
    case none => exact hM
    case some x => exact hblk _ _ _ (by simp only; omega) (hblk _ _ _ (by simp only; omega) hM)
  case false =>
    rw [LaneSt.spTake_misfits hfit]
    extract_lets M
    have hM : L.keepsRegs (0x4005 :: faultRegs) M := hblk _ _ _ hstat (hsp _)
    refine LaneSt.keepsRegs_ite (LaneSt.keepsRegs_trans ?_ hM) hM
    exact LaneSt.keepsRegs_mono (M.spInvalid_raise hi).2.1 (by decide)

theorem LaneSt.spTake_fits_sp {L : LaneSt} {i : Nat} (hi : i < 2) {f : SpIn} (h : L.spFits i f = true) (t : Nat) :
    (L.spTake i f t).sp i = (L.sp i).fitted f t := by
  rw [LaneSt.spTake_fits h, LaneSt.sp_congr (LaneSt.put_pos _ _ _), LaneSt.sp_congr (LaneSt.spStore_pos _ _ _), LaneSt.sp_setSp _ hi]

theorem LaneSt.spTake_fits_valid {L : LaneSt} {i : Nat} (hi : i < 2) {f : SpIn} (h : L.spFits i f = true) (t : Nat)
    (hout : (L.sp i).out = false) : (L.spTake i f t).on ((spStat i).bit 0) = true := by
  rw [LaneSt.spTake_fits h, spStat_eq hi, LaneSt.on_put_self _ _ _ (by simp only; omega) (by simp only; omega)]
  simp [SpPort.fitted, hout]

/-- FMT of port `i`, with its mode. -/
def LaneSt.spFmt (L : LaneSt) (i : Nat) : Nat := (if i = 0 then L.rd Reg.POS_SP_CFG_PORT1 else L.rd Reg.POS_SP_CFG_PORT2) / 4

theorem LaneSt.spStore_value (L : LaneSt) (i : Nat) (f : SpIn) :
    (L.spStore i f).rd (Reg.POS_SP_VALUE1 i) = (spValues (L.spFmt i) f).1 % 2 ^ 16 := by
  unfold LaneSt.spStore
  extract_lets v M
  have hM : M.rd (Reg.POS_SP_VALUE1 i) = (spValues (L.spFmt i) f).1 % 2 ^ 16 := by
    simp only [M]
    rw [LaneSt.rd_wr_apart _ _ _ _ (by simp)]
    exact LaneSt.rd_wr_self _ _ _ (by simp)
  cases f.ser
  case none => exact hM
  case some x =>
    have haddr : 0x40050000 + (0xd0 + 4 * i) ≠ 0x40050000 + (0xd8 + 4 * i) := by omega
    exact (LaneSt.rd_wr_addr _ _ _ _ haddr).trans ((LaneSt.rd_wr_addr _ _ _ _ haddr).trans hM)

theorem LaneSt.spTake_fits_value {L : LaneSt} {i : Nat} (hi : i < 2) {f : SpIn} (h : L.spFits i f = true) (t : Nat) :
    (L.spTake i f t).rd (Reg.POS_SP_VALUE1 i) = (spValues (L.spFmt i) f).1 % 2 ^ (Reg.POS_SP_VALUE1 i).w := by
  have hfmt : ∀ p, (L.setSp i p).spFmt i = L.spFmt i := fun p => by simp only [LaneSt.spFmt, LaneSt.rd_setSp]
  rw [LaneSt.spTake_fits h, spStat_eq hi, LaneSt.put, LaneSt.rd_wr_addr _ _ _ _ (by simp only; omega), LaneSt.spStore_value, hfmt]

theorem LaneSt.spTake_misfits_good {L : LaneSt} {i : Nat} (hi : i < 2) {f : SpIn} (h : L.spFits i f = false) (t : Nat) :
    ((L.spTake i f t).sp i).good = 0 := by
  rw [LaneSt.spTake_misfits h]
  extract_lets M
  split
  · rw [(M.spInvalid_raise hi).2.2.1]
  · rw [LaneSt.sp_congr (LaneSt.inc_pos _ _ _), LaneSt.sp_setSp _ hi]
    rfl

/-- The third frame in a row that does not fit. -/
theorem LaneSt.spTake_third {L : LaneSt} {i : Nat} (hi : i < 2) {f : SpIn} (h : L.spFits i f = false) (t : Nat)
    (hbad : (L.sp i).bad = 2) (hout : (L.sp i).out = false) :
    ((L.spTake i f t).sp i).out = true ∧ (L.spTake i f t).on ((spStat i).bit 0) = false ∧ L.reported (L.spTake i f t) 0x0708 0xFF := by
  rw [LaneSt.spTake_misfits h]
  extract_lets M
  rw [if_pos (by rw [hbad, hout]; decide)]
  obtain ⟨-, -, hsp, hvalid, hrep⟩ := M.spInvalid_raise hi
  refine ⟨by rw [hsp], hvalid, LaneSt.reported_of_sameCollector (by decide) (fun b hb => ?_) ?_ hrep⟩
  · have hM : L.keepsRegs [0x400500E0] M :=
      LaneSt.keepsRegs_wr (by rw [spStat_eq hi]; exact covered_self (by decide) _)
        (LaneSt.keepsRegs_of_regs (L.setSp_regs i _) (L.keepsRegs_refl _))
    refine hM b ?_
    simp only [covered, List.any_cons, List.any_nil]
    simp; omega
  · exact (L.setSp_frame i _).1 .fc (by decide)

/-! ### Detection (R109) -/

/-- A sound frame at a rate that the port's supply allows. -/
def SpPort.hears (p : SpPort) (f : SpIn) : Prop :=
  spSound f = true ∧ f.psi5 = p.psi5On ∧ (if f.psi5 then f.kbit = 125 ∨ f.kbit = 189 else 1500 ≤ f.tick ∧ f.tick ≤ 6000) ∧
    (if f.psi5 then p.rate = f.kbit else sameTick f.tick p.rate = true)

/-- The mode that a frame shows. -/
def spShown (f : SpIn) : Nat := if f.psi5 then (if f.sync then 2 else 3) else 1

/-- A further frame at the rate of the one before counts; the third selects the mode. -/
theorem SpPort.detect_same {p : SpPort} {f : SpIn} (hfound : p.found = 0) (h : p.hears f) :
    p.detect f true = if p.det + 1 < 3 then { p with det := p.det + 1, rate := spRate f }
      else { p with det := 0, rate := spRate f, found := spShown f, mode := spShown f, out := false } := by
  obtain ⟨hsound, hpsi, hfit, hsame⟩ := h
  have hn : (if p.det = 0 then 1 else p.det + 1) = p.det + 1 := by split <;> omega
  unfold SpPort.detect
  rw [hsound, if_neg (by simp [hfound])]
  cases hf : f.psi5
  case true =>
    simp only [hf, if_true] at hfit hsame
    simp [← hpsi, hf, hfit, hsame, hn, spShown, spRate]
  case false =>
    simp only [hf, Bool.false_eq_true, if_false] at hfit hsame
    simp [← hpsi, hf, hfit, hsame, hn, spShown, spRate]

/-! ### The commands of the SP ports -/

/-- A port that neither has a mode nor detects one leaves the frame alone; a port with a mode takes it; a port that listens for its mode
counts it. -/
def LaneSt.spHear (L : LaneSt) (i : Nat) (f : SpIn) (t : Nat) : LaneSt :=
  let M := if L.spUse i = 0 then L else L.spTake i f t
  if M.spListens i t then M.setSp i ((M.sp i).detect f (M.spMode i == 1)) else M

theorem exec_spFrame (l : Lane) (i : Nat) (f : SpIn) (t : Nat) (s : State) :
    exec (.spFrame l i f t) s =
      onLane l t s fun L => if 2 ≤ i || L.spMode i == 0 || !L.spHeld i f then L else L.spHear i f t := rfl

theorem LaneSt.spHear_detects {L : LaneSt} {i t : Nat} (huse : L.spUse i = 0) (hlisten : L.spListens i t = true)
    (hauto : L.spMode i = 1) (f : SpIn) : L.spHear i f t = L.setSp i ((L.sp i).detect f true) := by
  unfold LaneSt.spHear
  dsimp only
  rw [if_pos huse, if_pos hlisten, hauto]
  rfl

theorem LaneSt.spTake_arming (L : LaneSt) {i : Nat} (hi : i < 2) (f : SpIn) (t : Nat) : (L.spTake i f t).arming = L.arming := by
  have hout : covered (0x4005 :: faultRegs) 0x40000004 = false := by decide
  have hstate : ∀ lo w, (L.spTake i f t).rd ⟨0x40000004, lo, w⟩ = L.rd ⟨0x40000004, lo, w⟩ := fun lo w =>
    LaneSt.rd_of_keepsRegs (L.spTake_regs hi f t) _ hout
  simp only [LaneSt.arming, LaneSt.st, hstate]

/-- Outside a transition to ARM a frame is only taken. -/
theorem LaneSt.spHear_taken {L : LaneSt} {i : Nat} (hi : i < 2) (huse : L.spUse i ≠ 0) (harm : L.arming = false) (f : SpIn) (t : Nat) :
    L.spHear i f t = L.spTake i f t := by
  unfold LaneSt.spHear
  dsimp only
  rw [if_neg huse, if_neg (by simp [LaneSt.spListens, L.spTake_arming hi f t, harm])]

/-- The PSI5 supply on a port with a mode that is not detected yet. -/
def LaneSt.psi5Supply (L : LaneSt) : LaneSt :=
  let on := fun (i : Nat) (p : SpPort) => if L.spMode i ≠ 0 ∧ p.found = 0 then { p with psi5On := true, det := 0 } else p
  L.updPos fun p => { p with sp1 := on 0 p.sp1, sp2 := on 1 p.sp2 }

theorem LaneSt.psi5Supply_sp {L : LaneSt} {i : Nat} (hi : i < 2) (hmode : L.spMode i ≠ 0) (hfound : (L.sp i).found = 0) :
    L.psi5Supply.sp i = { L.sp i with psi5On := true, det := 0 } := by
  have hsp : L.psi5Supply.sp i =
      if L.spMode i ≠ 0 ∧ (L.sp i).found = 0 then { L.sp i with psi5On := true, det := 0 } else L.sp i := by
    interval_cases i <;> rfl
  rw [hsp, if_pos ⟨hmode, hfound⟩]

section
variable {s : State} {l : Lane} {i t : Nat}

theorem spFrame_short (hup : (s.lane l).up = true) (f : SpIn) (h : (s.lane l).spHeld i f = false) :
    LaneRuns (.spFrame l i f t) s l fun L => L = (s.lane l).tick t := by
  have hheld : ((s.lane l).tick t).spHeld i f = false := h
  exact laneRuns_onLane (exec_spFrame l i f t s) hup (if_pos (by simp [hheld]))

/-- A frame that the line held, on a port with a mode. -/
theorem spFrame_held {P : LaneSt → Prop} (hup : (s.lane l).up = true) (hi : i < 2) (hmode : (s.lane l).spMode i ≠ 0) {f : SpIn}
    (h : (s.lane l).spHeld i f = true) (hp : P (((s.lane l).tick t).spHear i f t)) : LaneRuns (.spFrame l i f t) s l P := by
  have hheld : ((s.lane l).tick t).spHeld i f = true := h
  have hm : ((s.lane l).tick t).spMode i ≠ 0 := hmode
  refine laneRuns_onLane (exec_spFrame l i f t s) hup ?_
  rw [if_neg (by simp [hheld, hm, hi])]
  exact hp

theorem spFrame_detects (hup : (s.lane l).up = true) (hi : i < 2) (hlisten : (s.lane l).spListens i t = true)
    (hauto : (s.lane l).spMode i = 1) (hmode : ((s.lane l).sp i).mode = 0) (hfound : ((s.lane l).sp i).found = 0) {f : SpIn}
    (hheld : (s.lane l).spHeld i f = true) (h : ((s.lane l).sp i).hears f) :
    LaneRuns (.spFrame l i f t) s l fun L => (s.lane l).keeps [.time, .pos] L ∧
      (((s.lane l).sp i).det = 2 → (L.sp i).found = spShown f ∧ (L.sp i).mode = (L.sp i).found ∧ (L.sp i).out = false ∧
        (L.sp i).det = 0) ∧
      (((s.lane l).sp i).det < 2 → L.sp i = { (s.lane l).sp i with det := ((s.lane l).sp i).det + 1, rate := spRate f }) := by
  have huse : ((s.lane l).tick t).spUse i = 0 := by
    change (s.lane l).spUse i = 0
    rw [LaneSt.spUse, hauto]
    exact hmode
  refine spFrame_held hup hi (by omega) hheld ?_
  rw [LaneSt.spHear_detects huse hlisten hauto f, LaneSt.sp_setSp _ hi]
  have hsp : ((s.lane l).tick t).sp i = (s.lane l).sp i := rfl
  rw [hsp, SpPort.detect_same hfound h]
  refine ⟨?_, fun hdet => ?_, fun hdet => if_pos (by omega)⟩
  · exact (LaneSt.frame_step (LaneSt.setSp_frame _ _ _) (by decide) (LaneSt.frame_step (LaneSt.tick_frame _ t) (by decide)
      (LaneSt.frame_refl _ _))).1
  · rw [if_neg (by omega)]
    exact ⟨rfl, rfl, rfl, rfl⟩

/-- What the lane keeps of itself when a port takes a frame. -/
theorem spFrame_taken (hup : (s.lane l).up = true) (hi : i < 2) (hmode : (s.lane l).spMode i ≠ 0)
    (harm : (s.lane l).arming = false) (huse : (s.lane l).spUse i ≠ 0) {f : SpIn} (hheld : (s.lane l).spHeld i f = true) :
    LaneRuns (.spFrame l i f t) s l fun L => (s.lane l).keeps (.time :: .pos :: faultParts) L ∧
      (s.lane l).keepsRegs (0x4005 :: faultRegs) L ∧
      ((s.lane l).spFits i f = true → (L.sp i).lastAt = t ∧ (L.sp i).bad = 0 ∧ (L.sp i).good = ((s.lane l).sp i).good + 1 ∧
        (((s.lane l).sp i).out = false → L.on ((spStat i).bit 0) = true) ∧
        L.rd (Reg.POS_SP_VALUE1 i) = (spValues ((s.lane l).spFmt i) f).1 % 2 ^ (Reg.POS_SP_VALUE1 i).w) ∧
      ((s.lane l).spFits i f = false → (L.sp i).good = 0 ∧ (((s.lane l).sp i).bad = 2 → ((s.lane l).sp i).out = false →
        (L.sp i).out = true ∧ L.on ((spStat i).bit 0) = false ∧ (s.lane l).reported L 0x0708 0xFF)) := by
  refine spFrame_held hup hi hmode hheld ?_
  rw [LaneSt.spHear_taken (L := (s.lane l).tick t) hi huse harm]
  refine ⟨?_, ?_, fun hfit => ?_, fun hfit => ?_⟩
  · exact (LaneSt.frame_step (LaneSt.spTake_frame _ i f t) (by decide) (LaneSt.frame_step (LaneSt.tick_frame _ t) (by decide)
      (LaneSt.frame_refl _ _))).1
  · exact fun a ha => ((s.lane l).tick t).spTake_regs hi f t a ha
  · have hfit' : ((s.lane l).tick t).spFits i f = true := hfit
    rw [LaneSt.spTake_fits_sp hi hfit']
    exact ⟨rfl, rfl, rfl, LaneSt.spTake_fits_valid hi hfit' t, LaneSt.spTake_fits_value hi hfit' t⟩
  · have hfit' : ((s.lane l).tick t).spFits i f = false := hfit
    exact ⟨LaneSt.spTake_misfits_good hi hfit' t, fun hbad hout => LaneSt.spTake_third hi hfit' t hbad hout⟩

theorem spTimeout_invalid (hup : (s.lane l).up = true) (hi : i < 2) {n : Nat} (huse : (s.lane l).spUse i ≠ 0)
    (hout : ((s.lane l).sp i).out = false) (hn : 3 ≤ n) (hlast : ((s.lane l).sp i).lastAt + 1000000 ≤ t) :
    LaneRuns (.spTimeout l i n t) s l fun L => (s.lane l).keeps (.time :: .pos :: faultParts) L ∧
      (s.lane l).keepsRegs (0x400500E0 :: faultRegs) L ∧ (L.sp i).out = true ∧ L.on ((spStat i).bit 0) = false ∧
      (s.lane l).reported L 0x0708 0xFF := by
  have hexec : exec (.spTimeout l i n t) s = execSpTimeout l i n t s := rfl
  refine laneRuns_onLane hexec hup ?_
  have hcond : i < 2 ∧ ((s.lane l).tick t).spUse i ≠ 0 ∧ 3 ≤ n ∧ (((s.lane l).tick t).sp i).lastAt + 1000000 ≤ t ∧
      (!(((s.lane l).tick t).sp i).out) = true := ⟨hi, huse, hn, hlast, congrArg (!·) hout⟩
  rw [if_pos hcond]
  obtain ⟨hframe, hregs, hsp, hvalid, hrep⟩ := ((s.lane l).tick t).spInvalid_raise hi
  refine ⟨?_, fun a ha => hregs a ha, by rw [hsp], hvalid, hrep⟩
  exact (LaneSt.frame_step hframe (by decide) (LaneSt.frame_step (LaneSt.tick_frame _ t) (by decide) (LaneSt.frame_refl _ _))).1

theorem spPsi5Phase_tries (hup : (s.lane l).up = true) (hi : i < 2) (hmode : (s.lane l).spMode i ≠ 0) (harm : (s.lane l).arming = true)
    (ht : (s.lane l).sys.started + 8000000 ≤ t) : LaneRuns (.spPsi5Phase l t) s l fun L => (s.lane l).keeps [.time, .pos, .sys] L ∧
      L.sys.armDone = (s.lane l).sys.armDone ||| 16#5 ∧
      (((s.lane l).sp i).found = 0 → (L.sp i).psi5On = true ∧ (L.sp i).det = 0) := by
  have hexec : exec (.spPsi5Phase l t) s = execSpPsi5Phase l t s := rfl
  refine laneRuns_onLane hexec hup ?_
  have hcond : ((s.lane l).tick t).arming = true ∧ ((s.lane l).tick t).sys.started + 8000000 ≤ t := ⟨harm, ht⟩
  rw [if_pos hcond]
  refine ⟨?_, rfl, fun hfound => ?_⟩
  · exact (LaneSt.frame_step (LaneSt.armStep_frame _ _) (by decide) (LaneSt.frame_step (LaneSt.updPos_frame _ _) (by decide)
      (LaneSt.frame_step (LaneSt.tick_frame _ t) (by decide) (LaneSt.frame_refl _ _)))).1
  · have hsp := LaneSt.psi5Supply_sp (L := (s.lane l).tick t) hi hmode hfound
    exact ⟨congrArg SpPort.psi5On hsp, congrArg SpPort.det hsp⟩

end

/-! ### SSI (R220) -/

/-- The value that an SSI transaction of `n` bits reads. -/
def LaneSt.ssiWord (L : LaneSt) (n : Nat) (raw : BitVec 32) : BitVec 32 :=
  if L.on Reg.POS_SSI_CFG_GRAY then grayDecode (BitVec.ofNat 32 (raw.toNat % 2 ^ n)) else BitVec.ofNat 32 (raw.toNat % 2 ^ n)

/-- A framed transaction. -/
def LaneSt.ssiGood (L : LaneSt) (v : BitVec 32) : LaneSt :=
  let out := L.pos.ssiOut && decide (L.pos.ssiGood + 1 < 3)
  ((L.wr Reg.POS_SSI_VALUE v.toNat).put Reg.POS_SSI_STAT_VALID !out).updPos fun p =>
    { p with ssiGood := L.pos.ssiGood + 1, ssiBad := 0, ssiOut := out, ssiAt := L.time }

/-- A transaction that is not framed is counted. -/
def LaneSt.ssiCount (L : LaneSt) : LaneSt :=
  (L.inc Reg.POS_SSI_STAT_ERR_CNT).updPos fun p => { p with ssiBad := L.pos.ssiBad + 1, ssiGood := 0 }

/-- The value goes invalid. -/
def LaneSt.ssiInvalid (L : LaneSt) : LaneSt := (L.put Reg.POS_SSI_STAT_VALID false).updPos fun p => { p with ssiOut := true }

/-- A transaction that is not framed: the third in a row makes the value invalid. -/
def LaneSt.ssiMiss (L : LaneSt) : LaneSt :=
  if L.pos.ssiBad + 1 = 3 && !L.pos.ssiOut then L.ssiCount.ssiInvalid.raise 0x0709 else L.ssiCount

theorem exec_ssiTransaction {l : Lane} (hi lo : Bool) (raw : BitVec 32) (s : State) :
    exec (.ssiTransaction l hi lo raw) s = onLaneNow l s fun L =>
      let n := min (L.rd Reg.POS_SSI_CFG_BITS) 32
      if n = 0 then L else if hi && lo then L.ssiGood (L.ssiWord n raw) else L.ssiMiss := rfl

/-- The registers of the SSI port. -/
def ssiRegs : List Nat := 0x400500E4 :: 0x400500E8 :: faultRegs

theorem LaneSt.ssiGood_frame (L : LaneSt) (v : BitVec 32) : L.frame (.pos :: faultParts) (L.ssiGood v) :=
  LaneSt.frame_step (LaneSt.updPos_frame _ _) (by decide) (LaneSt.frame_step (LaneSt.put_frame _ _ _) (by decide)
    (LaneSt.frame_step (LaneSt.wr_frame _ _ _) (by decide) (L.frame_refl _)))

theorem LaneSt.ssiGood_regs (L : LaneSt) (v : BitVec 32) : L.keepsRegs ssiRegs (L.ssiGood v) :=
  LaneSt.keepsRegs_of_regs (LaneSt.updPos_regs _ _) (LaneSt.keepsRegs_wr (by decide) (LaneSt.keepsRegs_wr (by decide) (L.keepsRegs_refl _)))

theorem LaneSt.ssiGood_value (L : LaneSt) (v : BitVec 32) : (L.ssiGood v).rd Reg.POS_SSI_VALUE = v.toNat := by
  rw [LaneSt.ssiGood, LaneSt.rd_updPos, LaneSt.put, LaneSt.rd_wr_apart _ _ _ _ (by decide), LaneSt.rd_wr_self _ _ _ (by decide)]
  exact Nat.mod_eq_of_lt v.isLt

theorem LaneSt.ssiGood_valid {L : LaneSt} (v : BitVec 32) (h : L.pos.ssiOut = false) :
    (L.ssiGood v).on Reg.POS_SSI_STAT_VALID = true := by
  rw [LaneSt.ssiGood, LaneSt.on, LaneSt.rd_updPos, LaneSt.rd_put_self _ _ _ (by decide) (by decide), h]
  rfl

theorem LaneSt.ssiCount_frame (L : LaneSt) : L.frame [.regs, .pos] L.ssiCount :=
  LaneSt.frame_step (LaneSt.updPos_frame _ _) (by decide) (LaneSt.frame_step (LaneSt.inc_frame _ _ _) (by decide) (L.frame_refl _))

theorem LaneSt.ssiInvalid_frame (L : LaneSt) : L.frame [.regs, .pos] L.ssiInvalid :=
  LaneSt.frame_step (LaneSt.updPos_frame _ _) (by decide) (LaneSt.frame_step (LaneSt.put_frame _ _ _) (by decide) (L.frame_refl _))

theorem LaneSt.ssiCount_regs (L : LaneSt) : L.keepsRegs [0x400500E8] L.ssiCount :=
  LaneSt.keepsRegs_of_regs (LaneSt.updPos_regs _ _) (LaneSt.keepsRegs_wr (by decide) (L.keepsRegs_refl _))

theorem LaneSt.ssiInvalid_regs (L : LaneSt) : L.keepsRegs [0x400500E8] L.ssiInvalid :=
  LaneSt.keepsRegs_of_regs (LaneSt.updPos_regs _ _) (LaneSt.keepsRegs_wr (by decide) (L.keepsRegs_refl _))

theorem LaneSt.ssiMiss_frame (L : LaneSt) : L.frame (.pos :: faultParts) L.ssiMiss := by
  have hcount : L.frame (.pos :: faultParts) L.ssiCount := LaneSt.frame_mono L.ssiCount_frame (by decide)
  refine LaneSt.frame_ite ?_ hcount
  exact LaneSt.frame_step (LaneSt.raise_frame _ _ _) (by decide) (LaneSt.frame_step (LaneSt.ssiInvalid_frame _) (by decide) hcount)

theorem LaneSt.ssiMiss_regs (L : LaneSt) : L.keepsRegs ssiRegs L.ssiMiss := by
  have hcount : L.keepsRegs ssiRegs L.ssiCount := LaneSt.keepsRegs_mono L.ssiCount_regs (by decide)
  refine LaneSt.keepsRegs_ite ?_ hcount
  refine LaneSt.keepsRegs_trans (LaneSt.keepsRegs_mono (LaneSt.raise_regs _ _ _ (by decide)) (by decide)) ?_
  exact LaneSt.keepsRegs_trans (LaneSt.keepsRegs_mono (LaneSt.ssiInvalid_regs _) (by decide)) hcount

theorem LaneSt.ssiMiss_good (L : LaneSt) : L.ssiMiss.pos.ssiGood = 0 := by
  unfold LaneSt.ssiMiss
  split
  · rw [LaneSt.raise_pos]
    rfl
  · rfl

theorem LaneSt.ssiCount_errors (L : LaneSt) : L.ssiCount.rd Reg.POS_SSI_STAT_ERR_CNT =
    (L.rd Reg.POS_SSI_STAT_ERR_CNT + 1) % 2 ^ Reg.POS_SSI_STAT_ERR_CNT.w := LaneSt.rd_wr_self _ _ _ (by decide)

theorem LaneSt.ssiMiss_errors (L : LaneSt) : L.ssiMiss.rd Reg.POS_SSI_STAT_ERR_CNT =
    (L.rd Reg.POS_SSI_STAT_ERR_CNT + 1) % 2 ^ Reg.POS_SSI_STAT_ERR_CNT.w := by
  rw [← L.ssiCount_errors]
  unfold LaneSt.ssiMiss
  split
  · rw [LaneSt.raise_rd_pos _ _ (by decide) (by decide), LaneSt.ssiInvalid, LaneSt.rd_updPos, LaneSt.put,
      LaneSt.rd_wr_apart _ _ _ _ (by decide)]
  · rfl

/-- The third transaction in a row that is not framed. -/
theorem LaneSt.ssiMiss_third {L : LaneSt} (hbad : L.pos.ssiBad = 2) (hout : L.pos.ssiOut = false) :
    L.ssiMiss.on Reg.POS_SSI_STAT_VALID = false ∧ L.ssiMiss.pos.ssiOut = true ∧ L.reported L.ssiMiss 0x0709 0xFF := by
  have hmiss : L.ssiMiss = L.ssiCount.ssiInvalid.raise 0x0709 := by
    rw [LaneSt.ssiMiss, if_pos (by rw [hbad, hout]; decide)]
  rw [hmiss]
  refine ⟨?_, ?_, LaneSt.reported_of_sameCollector (by decide) (fun b hb => ?_) ?_ (LaneSt.raise_reported _ _ _ (by decide))⟩
  · rw [LaneSt.on, LaneSt.raise_rd_pos _ _ (by decide) (by decide), LaneSt.ssiInvalid, LaneSt.rd_updPos,
      LaneSt.rd_put_self _ _ _ (by decide) (by decide)]
    rfl
  · rw [LaneSt.raise_pos]
    rfl
  · refine LaneSt.keepsRegs_trans (LaneSt.ssiInvalid_regs _) L.ssiCount_regs b ?_
    simp only [covered, List.any_cons, List.any_nil]
    simp; omega
  · exact (LaneSt.frame_seq (LaneSt.ssiInvalid_frame _) L.ssiCount_frame).1 .fc (by decide)

theorem ssiTransaction_reads {s : State} {l : Lane} (hi lo : Bool) (raw : BitVec 32) {n : Nat} (hup : (s.lane l).up = true)
    (hn : n = min ((s.lane l).rd Reg.POS_SSI_CFG_BITS) 32) (hpos : 0 < n) :
    LaneRuns (.ssiTransaction l hi lo raw) s l fun L => (s.lane l).keeps (.pos :: faultParts) L ∧
      (s.lane l).keepsRegs ssiRegs L ∧
      (hi = true → lo = true → L.pos.ssiBad = 0 ∧ L.pos.ssiAt = (s.lane l).time ∧
        L.rd Reg.POS_SSI_VALUE = ((s.lane l).ssiWord n raw).toNat ∧ ((s.lane l).pos.ssiOut = false → L.on Reg.POS_SSI_STAT_VALID = true)) ∧
      (hi = false ∨ lo = false → L.pos.ssiGood = 0 ∧
        L.rd Reg.POS_SSI_STAT_ERR_CNT = ((s.lane l).rd Reg.POS_SSI_STAT_ERR_CNT + 1) % 2 ^ Reg.POS_SSI_STAT_ERR_CNT.w ∧
        ((s.lane l).pos.ssiBad = 2 → (s.lane l).pos.ssiOut = false → L.on Reg.POS_SSI_STAT_VALID = false ∧ L.pos.ssiOut = true ∧
          (s.lane l).reported L 0x0709 0xFF)) := by
  refine laneRuns_onLaneNow (exec_ssiTransaction hi lo raw s) hup ?_
  generalize s.lane l = L at *
  dsimp only
  rw [← hn, if_neg (by omega)]
  cases hframed : hi && lo
  case true =>
    obtain ⟨rfl, rfl⟩ := Bool.and_eq_true_iff.mp hframed
    rw [if_pos rfl]
    exact ⟨(L.ssiGood_frame _).1, L.ssiGood_regs _, fun _ _ => ⟨rfl, rfl, L.ssiGood_value _, fun h => LaneSt.ssiGood_valid _ h⟩,
      fun h => by simp at h⟩
  case false =>
    rw [if_neg (by decide)]
    exact ⟨L.ssiMiss_frame.1, L.ssiMiss_regs, fun hh hl => by simp [hh, hl] at hframed,
      fun _ => ⟨L.ssiMiss_good, L.ssiMiss_errors, LaneSt.ssiMiss_third⟩⟩

/-- Settles O22: each counter's snapshot stands apart from the others', and each port command is one case of what its port does. -/
theorem positionPorts : Obligations.PositionPorts := by
  refine ⟨fun s l hup => ⟨fun v hv => posSnap_requests hup hv, extensionSnapshot_idle hup, extensionSnapshot_copies hup⟩,
    fun s l i t hup hi hmode => ⟨spFrame_short hup, ?_, fun f harm huse hheld => spFrame_taken hup hi hmode harm huse hheld,
      fun n huse hout hn hlast => spTimeout_invalid hup hi huse hout hn hlast, spPsi5Phase_tries hup hi hmode⟩,
    fun s l hi lo raw n hup hn hpos => ssiTransaction_reads hi lo raw hup hn hpos⟩
  intro f hlisten hauto hdet hfound hheld hsound hpsi hrate hsame
  exact spFrame_detects hup hi hlisten hauto hdet hfound hheld ⟨hsound, hpsi, hrate, hsame⟩

end Sys2Proof.Machine

/-! ## Canonical form

Every operation on a lane has a frame (Laws/Frame), and the frame carries the canonical form; a command is built from such operations by its
carrier, so it keeps the form. -/
namespace Sys2Proof.Machine

/-! ### Lanes -/

section
variable {L M : LaneSt} {ps : List Part}

/-- An operation with a frame keeps the form. -/
theorem LaneSt.frame.wf (h : L.frame ps M) (hw : L.wf = true) : M.wf = true := h.2 hw

theorem LaneSt.wf_ite {c : Prop} [Decidable c] (h : L.wf = true) (h' : M.wf = true) : (if c then L else M).wf = true := by
  split <;> assumption

theorem LaneSt.wf_for3 {f : Nat → LaneSt → LaneSt} (hf : ∀ (i : Nat) (M : LaneSt), M.wf = true → (f i M).wf = true) (h : L.wf = true) :
    (for3 f L).wf = true := hf 2 _ (hf 1 _ (hf 0 _ h))

theorem LaneSt.wf_foldl {α : Type} {f : LaneSt → α → LaneSt} (hf : ∀ (M : LaneSt) (x : α), M.wf = true → (f M x).wf = true) (xs : List α)
    (h : L.wf = true) : (xs.foldl f L).wf = true := by
  induction xs generalizing L with
  | nil => exact h
  | cons x xs ih => exact ih (hf L x h)

/-- What a lane does with a request that passes the checks decides whether the request keeps the form. -/
theorem LaneSt.wf_receive {f : LaneSt → LaneSt} (hf : ∀ M : LaneSt, M.wf = true → (f M).wf = true) (l : Lane) (code : Nat) (r : Req)
    (body : List Byte) (h : L.wf = true) : (L.receive l code r body f).wf = true := by
  unfold LaneSt.receive
  refine wf_ite h ?_
  have hrate : ∀ key, ((L.updMbx fun m => { m with out := [] }).noteRate key).wf = true := fun _ => (noteRate_frame ..).wf h
  dsimp only
  split
  · exact hrate _
  · exact wf_ite ((sendReply_frame ..).wf (hrate _)) (hrate _)
  · exact wf_ite ((turnAway_frame ..).wf (hrate _)) (hrate _)
  · exact hf _ ((noteReq_frame ..).wf (hrate _))

end

/-! ### The module -/

section
variable {s t : State}

theorem State.wf_iff : s.wf = true ↔ ∀ l, (s.lane l).wf = true := by
  simp only [State.wf, Bool.and_eq_true]
  exact ⟨fun ⟨⟨ha, hb⟩, hc⟩ l => by cases l <;> assumption, fun h => ⟨⟨h .A, h .B⟩, h .C⟩⟩

theorem State.wf_updLane {l : Lane} {f : LaneSt → LaneSt} (hs : s.wf = true) (hf : (s.lane l).wf = true → (f (s.lane l)).wf = true) :
    (s.updLane l f).wf = true := by
  rw [State.wf_iff] at hs ⊢
  intro o
  by_cases ho : o = l
  · subst ho
    rw [State.lane_updLane_self]
    exact hf (hs o)
  · rw [State.lane_updLane_ne _ _ _ _ ho]
    exact hs o

theorem State.wf_of_lanes (h : t.lanes = s.lanes) (hs : s.wf = true) : t.wf = true := by
  rw [State.wf, h]
  exact hs

theorem State.wf_ite {c : Prop} [Decidable c] (hs : s.wf = true) (ht : t.wf = true) : (if c then s else t).wf = true := by
  split <;> assumption

theorem State.wf_foldl {α : Type} {f : State → α → State} (hf : ∀ (u : State) (x : α), u.wf = true → (f u x).wf = true) (xs : List α)
    (hs : s.wf = true) : (xs.foldl f s).wf = true := by
  induction xs generalizing s with
  | nil => exact hs
  | cons x xs ih => exact ih (hf s x hs)

/-- An operation on each lane. -/
theorem State.wf_lanes {a b c : LaneSt} {x : Tri StageSt} {g h : GuardianSt} {p : List Instr} (hs : s.wf = true)
    (ha : s.lanes.a.wf = true → a.wf = true) (hb : s.lanes.b.wf = true → b.wf = true) (hc : s.lanes.c.wf = true → c.wf = true) :
    ({ lanes := ⟨a, b, c⟩, stages := x, gX := g, gY := h, pending := p } : State).wf = true := by
  simp only [State.wf, Bool.and_eq_true] at hs ⊢
  obtain ⟨⟨hsa, hsb⟩, hsc⟩ := hs
  exact ⟨⟨ha hsa, hb hsb⟩, hc hsc⟩

end

/-- The outcome keeps the form that `s` has. -/
def Canonical (s : State) (o : Out) : Prop := s.wf = true → (outState s o).wf = true

theorem canonical_next {s t : State} (h : s.wf = true → t.wf = true) : Canonical s (.next t) := h

theorem canonical_ite {s : State} {c : Prop} [Decidable c] {o o' : Out} (h : Canonical s o) (h' : Canonical s o') :
    Canonical s (if c then o else o') := by
  split <;> assumption

/-- Nothing that a lane holds has changed. -/
theorem canonical_sameLanes {s t : State} (h : t.lanes = s.lanes) : Canonical s (.next t) := fun hs => State.wf_of_lanes h hs

/-! ### Carriers -/

section
variable {s : State} {l : Lane} {f : LaneSt → LaneSt}

theorem canonical_updLane (hf : ∀ L : LaneSt, L.wf = true → (f L).wf = true) : Canonical s (.next (s.updLane l f)) :=
  fun hs => State.wf_updLane hs (hf _)

theorem canonical_onLane {t : Nat} (hf : ∀ L : LaneSt, L.wf = true → (f L).wf = true) : Canonical s (onLane l t s f) :=
  canonical_updLane fun _ h => LaneSt.wf_ite (hf _ ((LaneSt.tick_frame ..).wf h)) h

theorem canonical_onLaneNow (hf : ∀ L : LaneSt, L.wf = true → (f L).wf = true) : Canonical s (onLaneNow l s f) :=
  canonical_updLane fun _ h => LaneSt.wf_ite (hf _ h) h

theorem canonical_onLinked {t : Nat} (hf : ∀ L : LaneSt, L.wf = true → (f L).wf = true) : Canonical s (onLinked l t s f) :=
  canonical_updLane fun _ h => LaneSt.wf_ite (hf _ ((LaneSt.tick_frame ..).wf h)) h

theorem canonical_onLinkedNow (hf : ∀ L : LaneSt, L.wf = true → (f L).wf = true) : Canonical s (onLinkedNow l s f) :=
  canonical_updLane fun _ h => LaneSt.wf_ite (hf _ h) h

theorem canonical_onAwake {t : Nat} (hf : ∀ L : LaneSt, L.wf = true → (f L).wf = true) : Canonical s (onAwake l t s f) :=
  canonical_updLane fun _ h => LaneSt.wf_ite (hf _ ((LaneSt.tick_frame ..).wf h)) h

theorem canonical_auxCmd {key : BitVec 16} (hf : ∀ L : LaneSt, L.wf = true → (f L).wf = true) : Canonical s (auxCmd l key s f) :=
  canonical_onLaneNow fun _ h => LaneSt.wf_ite (hf _ h) ((LaneSt.refuseWrite_frame ..).wf h)

theorem canonical_laneCmd {code t : Nat} {r : Req} {body : List Byte} (hf : ∀ L : LaneSt, L.wf = true → (f L).wf = true) :
    Canonical s (laneCmd l code r body t s f) :=
  canonical_onLane fun _ h => LaneSt.wf_receive (fun _ h => LaneSt.wf_ite (hf _ h) ((LaneSt.refuse_frame ..).wf h)) l code r body h

theorem canonical_readCmd {code t : Nat} {r : Req} {f : LaneSt → List Byte} : Canonical s (readCmd l code r t s f) :=
  canonical_laneCmd fun _ h => (LaneSt.finish_frame ..).wf h

theorem canonical_moduleCmd {code t : Nat} {r : Req} {body : List Byte} {cmd : ModCmd} :
    Canonical s (moduleCmd l code r body cmd t s) :=
  canonical_onLane fun _ h => LaneSt.wf_receive (fun _ h => (LaneSt.showPending_frame ..).wf ((LaneSt.updMbx_frame ..).wf h)) l code r body h

theorem canonical_lifecycle {r : Req} {op t : Nat} {a : LcArgs} : Canonical s (lifecycle l r op a t s) := canonical_moduleCmd

theorem canonical_updStage {g : Stg} {f : StageSt → StageSt} : Canonical s (.next (s.updStage g f)) := canonical_sameLanes rfl

theorem State.wf_updGdn (g : Gdn) (f : GuardianSt → GuardianSt) (hs : s.wf = true) : (s.updGdn g f).wf = true :=
  State.wf_of_lanes (by cases g <;> rfl) hs

theorem canonical_onGdn {g : Gdn} {f : GuardianSt → GuardianSt} : Canonical s (onGdn g s f) := canonical_next (State.wf_updGdn g _)

/-- A command on a powered guardian that may reach beyond it. -/
theorem canonical_withGdn {g : Gdn} {f : State → State} (hf : ∀ u : State, u.wf = true → (f u).wf = true) : Canonical s (withGdn g s f) :=
  canonical_ite (canonical_next fun hs => hf _ (State.wf_updGdn g _ hs)) (canonical_sameLanes rfl)

end

/-! ### Operations on the module -/

theorem State.driveSto_lanes (s : State) (l : Lane) : (s.driveSto l).lanes = s.lanes := by
  have hstep : ∀ (c : Prop) [Decidable c] (u : State) (x : Tri StageSt), (if c then { u with stages := x } else u).lanes = u.lanes := by
    intro c _ u x
    split <;> rfl
  exact (hstep _ _ _).trans ((hstep _ _ _).trans (hstep _ _ _))

section
variable {s : State}

theorem State.wf_driveSto (l : Lane) (hs : s.wf = true) : (s.driveSto l).wf = true := State.wf_of_lanes (s.driveSto_lanes l) hs

theorem State.wf_restAfter (was : LaneSt) (l : Lane) (hs : s.wf = true) : (s.restAfter was l).wf = true := State.wf_ite hs hs

theorem State.wf_stepTogether {f : Lane → LaneSt → LaneSt} (hf : ∀ (k : Lane) (L : LaneSt), L.wf = true → (f k L).wf = true) (l : Lane)
    (hs : s.wf = true) : (s.stepTogether l f).wf = true :=
  State.wf_foldl (fun _ k hu => State.wf_ite (State.wf_updLane hu (hf k _)) hu) _ hs

theorem State.wf_raiseAll (id d : Nat) (hs : s.wf = true) : (s.raiseAll id d).wf = true :=
  have hraise : ∀ L : LaneSt, L.wf = true → (if L.up then L.raise id d else L).wf = true :=
    fun _ h => LaneSt.wf_ite ((LaneSt.raise_frame ..).wf h) h
  State.wf_lanes hs (hraise _) (hraise _) (hraise _)

theorem State.wf_showMuted (g : Gdn) (hs : s.wf = true) : (s.showMuted g).wf = true :=
  have hshow : ∀ (L : LaneSt) (b : Bool) (fld : Fld), L.wf = true → (if L.up then (L.logMute (b && !L.on fld)).put fld b else L).wf = true :=
    fun _ _ _ h => LaneSt.wf_ite ((LaneSt.put_frame ..).wf ((LaneSt.logMute_frame ..).wf h)) h
  State.wf_lanes hs (hshow _ _ _) (hshow _ _ _) (hshow _ _ _)

theorem State.wf_showPorts (g : Gdn) (hs : s.wf = true) : (s.showPorts g).wf = true :=
  have hshow : ∀ L : LaneSt, L.wf = true → (if L.up then L.showPorts g (s.gdn g) else L).wf = true :=
    fun _ h => LaneSt.wf_ite ((LaneSt.showPorts_frame ..).wf h) h
  State.wf_lanes hs (hshow _) (hshow _) (hshow _)

theorem State.wf_truncated (g : Gdn) (id n : Nat) (hs : s.wf = true) : (s.truncated g id n).wf = true :=
  State.wf_raiseAll _ _ (State.wf_updGdn g _ hs)

theorem State.wf_localFrame (g : Gdn) (src : Src) (f : FlockFrame) (start stop : Nat) (hs : s.wf = true) :
    (s.localFrame g src f start stop).wf = true := by
  have hgdn : ∀ F : GuardianSt → GuardianSt, (s.updGdn g F).wf = true := fun F => State.wf_updGdn g F hs
  unfold State.localFrame
  exact State.wf_ite (hgdn _) (State.wf_ite hs (State.wf_ite (State.wf_ite (hgdn _) hs) (State.wf_ite hs
    (State.wf_ite (State.wf_truncated g _ _ hs) (State.wf_ite (hgdn _) (hgdn _))))))

theorem State.wf_loseSupply (l : Lane) (id t : Nat) (hs : s.wf = true) : (s.loseSupply l id t).wf = true :=
  State.wf_of_lanes rfl (State.wf_updLane (f := fun L => (L.tick t).loseSupply id t) hs
    fun h => (LaneSt.loseSupply_frame ..).wf ((LaneSt.tick_frame ..).wf h))

theorem State.wf_parked (l : Lane) (hs : s.wf = true) : (s.parked l).wf = true :=
  State.wf_of_lanes (State.driveSto_lanes { s with gX := s.gX.sleep l, gY := s.gY.sleep l } l) hs

theorem State.wf_wakeLane (l : Lane) (bit t : Nat) (hs : s.wf = true) : (s.wakeLane l bit t).wf = true :=
  State.wf_of_lanes rfl (State.wf_updLane (f := fun L => (L.tick t).wakeBy bit) hs
    fun h => (LaneSt.wakeBy_frame ..).wf ((LaneSt.tick_frame ..).wf h))

theorem State.wf_started (l : Lane) (hs : s.wf = true) : (s.started l).wf = true := by
  unfold State.started
  exact State.wf_driveSto l (State.wf_ite hs hs)

end

section
open LaneSt
variable {s : State} {l : Lane} {t : Nat}

/-! ### CAN (16) -/

theorem execCanFrameReceive_canonical {c f} : Canonical s (execCanFrameReceive l c f s) := by
  refine canonical_onLinkedNow fun L h => wf_ite h ?_
  have hrec : (L.recGood c).wf = true := (recGood_frame ..).wf h
  refine wf_ite hrec ?_
  split
  · exact (canSegment_frame ..).wf ((canStore_frame ..).wf hrec)
  · exact (raise_frame ..).wf hrec

theorem execCanRxRelease_canonical {c buf wcnt} : Canonical s (execCanRxRelease l c buf wcnt s) :=
  canonical_onLinkedNow fun _ h => wf_ite ((put_frame ..).wf ((put_frame ..).wf h)) h

theorem execRateDetect_canonical {c interval errorFree} : Canonical s (execRateDetect l c interval errorFree s) :=
  canonical_onLinkedNow fun _ h => wf_ite ((detect_frame ..).wf h) (wf_ite ((learnData_frame ..).wf h) h)

theorem execRateDetectTimeout_canonical {c} : Canonical s (execRateDetectTimeout l c t s) :=
  canonical_onLinked fun _ h => wf_ite ((raise_frame ..).wf ((setCan_frame ..).wf ((put_frame ..).wf h))) h

theorem execCanTxRequest_canonical {c buf} : Canonical s (execCanTxRequest l c buf s) :=
  canonical_onLinkedNow fun _ h => wf_ite ((put_frame ..).wf ((setPending_frame ..).wf h)) h

theorem execCanTxAbort_canonical {c buf onBus} : Canonical s (execCanTxAbort l c buf onBus s) :=
  canonical_onLinkedNow fun _ h => wf_ite h (wf_ite ((updCan_frame ..).wf h) ((setPending_frame ..).wf h))

theorem execCanTxDone_canonical {c ts} : Canonical s (execCanTxDone l c ts s) := by
  refine canonical_onLinkedNow fun L h => wf_ite ?_ h
  split
  · have hdone : ∀ {M : LaneSt} (e : Fld) (v : Nat) (b : Nat), M.wf = true →
        ((((M.setPending c b false).wr (Reg.CAN_BUF_TS_TS c b) ts.toNat).put (Reg.CAN_BUF_STAT_TX_DONE c b) true).wr e v).wf = true :=
      fun _ _ _ h => (wr_frame ..).wf ((put_frame ..).wf ((wr_frame ..).wf ((setPending_frame ..).wf h)))
    have hsent := fun f => (updCan_frame L c f).wf h
    exact wf_ite ((put_frame ..).wf (hdone _ _ _ (hsent _))) (hdone _ _ _ (hsent _))
  · exact h

theorem execSilenceRequest_canonical {c target duration timeMs tag} :
    Canonical s (execSilenceRequest l c target duration timeMs tag t s) :=
  canonical_onLinked fun _ h => wf_ite ((showSilence_frame ..).wf ((setCan_frame ..).wf h)) h

theorem execSilenceExpiry_canonical {c} : Canonical s (execSilenceExpiry l c t s) := by
  refine canonical_onLinked fun L h => ?_
  split
  · exact wf_ite ((showSilence_frame ..).wf ((setCan_frame ..).wf h)) h
  · exact h

theorem execBusDominant_canonical {c us} : Canonical s (execBusDominant l c us t s) :=
  canonical_onLinked fun _ h => wf_ite ((raise_frame ..).wf ((put_frame ..).wf h)) h

theorem execBusRecessiveResume_canonical {c bits} : Canonical s (execBusRecessiveResume l c bits s) :=
  canonical_onLinkedNow fun _ h => wf_ite ((put_frame ..).wf h) h

theorem execCanBusError_canonical {c kind tx} : Canonical s (execCanBusError l c kind tx t s) := by
  refine canonical_onLinked fun L h => wf_ite h ?_
  have hlog : (((L.inc (Reg.CAN_VIOL_CNT c (errIx kind))).raise 0x0A04 (canDetail c)).logViol c (errIx kind)).wf = true :=
    (logViol_frame ..).wf ((raise_frame ..).wf ((inc_frame ..).wf h))
  have hdrop := wf_ite (c := tx = true) ((dropAborted_frame _ c).wf hlog) hlog
  have hcount := (countError_frame _ c kind tx).wf hdrop
  exact wf_ite ((setCan_frame ..).wf hdrop) (wf_ite ((raise_frame ..).wf ((put_frame ..).wf hcount)) hcount)

theorem execBusOff_canonical {c} : Canonical s (execBusOff l c t s) :=
  canonical_onLinked fun _ h => wf_ite ((raise_frame ..).wf ((setCan_frame ..).wf h)) h

theorem execRecover_canonical {c v} : Canonical s (execRecover l c v s) :=
  canonical_onLinkedNow fun _ h => wf_ite ((setCan_frame ..).wf h) h

theorem execBusOffRecovery_canonical {c occurrences} : Canonical s (execBusOffRecovery l c occurrences s) :=
  canonical_onLinkedNow fun _ h => wf_ite ((setCan_frame ..).wf ((put_frame ..).wf ((wr_frame ..).wf ((wr_frame ..).wf h)))) h

/-! ### Stages and the state controller (10, 03) -/

theorem execStgRearm_canonical {key mask} : Canonical s (execStgRearm l key mask s) :=
  canonical_onLaneNow fun _ h => wf_ite (wf_ite ((startPulse_frame ..).wf h) h) ((refuseWrite_frame ..).wf h)

theorem execCrossStrapFrame_canonical {g f mark p crcOk inTime} : Canonical s (execCrossStrapFrame g l f mark p crcOk inTime s) := by
  unfold execCrossStrapFrame
  split
  · exact canonical_sameLanes rfl
  · exact canonical_updStage

theorem execPwmPeriodStart_canonical {g i} : Canonical s (execPwmPeriodStart g i s) :=
  have hfreeze : ∀ L : LaneSt, L.wf = true → (if L.up then L.freeze (stageFreeze g) else L).wf = true :=
    fun _ h => wf_ite ((freeze_frame ..).wf h) h
  canonical_next fun hs => State.wf_lanes hs (hfreeze _) (hfreeze _) (hfreeze _)

theorem execSysReq_canonical {key target} : Canonical s (execSysReq l key target s) :=
  canonical_onLaneNow fun _ h => wf_ite ((request_frame ..).wf h) ((refuseWrite_frame ..).wf h)

theorem execHandshakeDelayExceeded_canonical {block} : Canonical s (execHandshakeDelayExceeded l block t s) :=
  canonical_onLane fun _ h => wf_ite ((frame_sys ..).wf h) h

theorem execBiasSettled_canonical : Canonical s (execBiasSettled l t s) := by
  refine canonical_onLane fun L h => wf_ite h ?_
  have hput := (put_frame L Reg.SYS_BIAS_SETTLED true).wf h
  refine (frame_sys ..).wf ?_
  split
  · exact (wr_frame ..).wf hput
  · exact hput

theorem execThermalClockDown_canonical {tj} : Canonical s (execThermalClockDown l tj t s) :=
  canonical_onLane fun L h =>
    have hhot : ((L.wrS Reg.SYS_BIAS_TJ (8 * tj)).put Reg.SYS_BIAS_TJ_HOT true).wf = true := (put_frame ..).wf ((wrS_frame ..).wf h)
    wf_ite (wf_ite ((raise_frame ..).wf ((clockDown_frame ..).wf hhot)) hhot) h

theorem execThermalClockUp_canonical {tj} : Canonical s (execThermalClockUp l tj t s) :=
  canonical_onLane fun L h =>
    have hcool : ((L.wrS Reg.SYS_BIAS_TJ (8 * tj)).put Reg.SYS_BIAS_TJ_HOT false).wf = true := (put_frame ..).wf ((wrS_frame ..).wf h)
    wf_ite (wf_ite ((clockUp_frame ..).wf hcool) hcool) h

theorem execArmSequence_canonical : Canonical s (execArmSequence l t s) :=
  canonical_ite (canonical_next fun hs => State.wf_of_lanes rfl (State.wf_updLane (l := l) (f := fun L => (L.tick t).beginArm) hs
    fun h => (beginArm_frame ..).wf ((tick_frame ..).wf h))) (canonical_sameLanes rfl)

theorem execArmSelftestComplete_canonical {fcOk chnOk posOk copyOk} :
    Canonical s (execArmSelftestComplete l fcOk chnOk posOk copyOk t s) := by
  refine canonical_ite (canonical_next fun hs => State.wf_of_lanes rfl (State.wf_updLane (l := l) hs fun h => ?_)) (canonical_sameLanes rfl)
  have hcopies : (((s.lane l).tick t).armCopies l copyOk).wf = true := (armCopies_frame ..).wf ((tick_frame ..).wf h)
  exact wf_ite ((raise_frame ..).wf ((stepFailed_frame ..).wf hcopies)) (wf_ite ((raise_frame ..).wf ((stepFailed_frame ..).wf hcopies))
    (wf_ite ((stepFailed_frame ..).wf hcopies) ((armStep_frame ..).wf hcopies)))

theorem execArmComplete_canonical : Canonical s (execArmComplete l t s) :=
  canonical_ite (canonical_next (State.wf_stepTogether (fun _ _ h => (refreshClaims_frame ..).wf ((settleSp_frame ..).wf ((report_frame ..).wf
    ((wr_frame ..).wf ((enterArm_frame ..).wf ((tick_frame ..).wf h)))))) l)) (canonical_sameLanes rfl)

theorem execTransitionTimeout_canonical : Canonical s (execTransitionTimeout l t s) :=
  canonical_ite (canonical_next fun hs => State.wf_restAfter _ l (State.wf_stepTogether
    (fun _ _ h => (timeOut_frame ..).wf ((tick_frame ..).wf h)) l hs)) (canonical_sameLanes rfl)

theorem execFoldEntry_canonical {crcOk} : Canonical s (execFoldEntry l crcOk t s) :=
  canonical_onLane fun _ h => wf_ite ((enterFold_frame ..).wf h) h

/-! ### Position and speed (08) -/

theorem execStandstillTimeout_canonical {src} : Canonical s (execStandstillTimeout l src t s) := by
  unfold execStandstillTimeout
  exact canonical_onLane fun _ h => wf_ite ((stand_frame ..).wf h) h

theorem execEncoderEdge_canonical {a b ns} : Canonical s (execEncoderEdge l a b ns t s) :=
  canonical_onLane fun L h =>
    have hpos := fun f => (updPos_frame L f).wf h
    wf_ite h (wf_ite (hpos _) (wf_ite ((quadError_frame ..).wf (hpos _)) (wf_ite ((encCount_frame ..).wf (hpos _)) (hpos _))))

theorem execIndexEdge_canonical {a b rising ns} : Canonical s (execIndexEdge l a b rising ns t s) :=
  canonical_onLane fun _ h => wf_ite ((index_frame ..).wf h) h

theorem execReref_canonical {v} : Canonical s (execReref l v s) := canonical_onLaneNow fun _ h => wf_ite ((wr_frame ..).wf h) h

theorem execEncoderSignalLoss_canonical {mv us} : Canonical s (execEncoderSignalLoss l mv us t s) :=
  canonical_onLane fun L h =>
    have hloss : ((L.put Reg.POS_ENC_STAT_SIGLOSS true).updPos fun p => { p with sigLoss := true }).wf = true :=
      (updPos_frame ..).wf ((put_frame ..).wf h)
    wf_ite (wf_ite ((raise_frame ..).wf ((updPos_frame ..).wf hloss)) hloss) h

theorem execEncoderSignalRestored_canonical {ms} : Canonical s (execEncoderSignalRestored l ms t s) :=
  canonical_onLane fun L h =>
    have hback : ((L.put Reg.POS_ENC_STAT_SIGLOSS false).updPos fun p => { p with sigLoss := false }).wf = true :=
      (updPos_frame ..).wf ((put_frame ..).wf h)
    wf_ite ((updPos_frame ..).wf ((wr_frame ..).wf hback)) hback

theorem execHallTransition_canonical {pattern ns} : Canonical s (execHallTransition l pattern ns t s) :=
  canonical_onLane fun _ h => wf_ite (wf_ite ((hallMove_frame ..).wf ((hallReadOk_frame ..).wf ((wr_frame ..).wf h)))
    ((hallInvalid_frame ..).wf ((wr_frame ..).wf h))) h

theorem execTmrSample_canonical {raw field} : Canonical s (execTmrSample l raw field t s) :=
  canonical_onLane fun _ h => wf_ite h ((collectRev_frame ..).wf ((noAngle_frame ..).wf ((fuse_frame ..).wf ((fieldCheck_frame ..).wf
    ((updPos_frame ..).wf ((wr_frame ..).wf ((wr_frame ..).wf
      (wf_ite ((updPos_frame ..).wf ((bump_frame ..).wf h)) ((updPos_frame ..).wf ((wr_frame ..).wf h))))))))))

theorem execPosSnap_canonical {v} : Canonical s (execPosSnap l v s) := canonical_onLaneNow fun _ h => wf_ite ((updPos_frame ..).wf h) h

theorem execExtensionSnapshot_canonical : Canonical s (execExtensionSnapshot l s) :=
  canonical_onLaneNow fun _ h => wf_ite ((freeze_frame ..).wf (wf_for3 (fun _ _ h => (snapCounter_frame ..).wf h) ((updPos_frame ..).wf h))) h

theorem execCalRevolution_canonical : Canonical s (execCalRevolution l s) := by
  refine canonical_onLaneNow fun L h => ?_
  dsimp only
  split
  · exact wf_ite h ((updPos_frame ..).wf (wf_ite ((takeRev_frame ..).wf h) h))
  · exact h

theorem execCalApply_canonical : Canonical s (execCalApply l s) := by
  refine canonical_onLaneNow fun L h => ?_
  split
  · exact h
  · exact wf_ite ((updPos_frame ..).wf ((wr_frame ..).wf ((inc_frame ..).wf ((setCoefs_frame ..).wf h)))) h

theorem execSpFrame_canonical {port f} : Canonical s (execSpFrame l port f t s) :=
  canonical_onLane fun L h =>
    have htake : (if L.spUse port = 0 then L else L.spTake port f t).wf = true := wf_ite h ((spTake_frame ..).wf h)
    wf_ite h (wf_ite ((setSp_frame ..).wf htake) htake)

theorem execSpTimeout_canonical {port periods} : Canonical s (execSpTimeout l port periods t s) :=
  canonical_onLane fun _ h => wf_ite ((raise_frame ..).wf ((spInvalid_frame ..).wf h)) h

theorem execSpPsi5Phase_canonical : Canonical s (execSpPsi5Phase l t s) :=
  canonical_onLane fun _ h => wf_ite ((armStep_frame ..).wf ((updPos_frame ..).wf h)) h

theorem execSsiTransaction_canonical {hi lo raw} : Canonical s (execSsiTransaction l hi lo raw s) := by
  rw [← show exec (.ssiTransaction l hi lo raw) s = execSsiTransaction l hi lo raw s from rfl, exec_ssiTransaction]
  exact canonical_onLaneNow fun _ h => wf_ite h (wf_ite ((ssiGood_frame ..).wf h) ((ssiMiss_frame _).wf h))

/-! ### Commutation (09) -/

theorem execCommutationPeriod_canonical {g bemf p} : Canonical s (execCommutationPeriod l g bemf p s) :=
  canonical_onLaneNow fun _ h => (formFrame_frame ..).wf ((comPeriod_frame ..).wf ((updCom_frame ..).wf ((skimNote_frame ..).wf h)))

theorem execCommit_canonical : Canonical s (execCommit l t s) := canonical_onLane fun _ h => wf_ite ((post_frame ..).wf h) h

theorem execCommandDeadline_canonical : Canonical s (execCommandDeadline l s) :=
  canonical_onLaneNow fun _ h => wf_ite h ((raise_frame ..).wf ((frame_com ..).wf ((put_frame ..).wf ((inc_frame ..).wf h))))

theorem execPeakLimitEngage_canonical {g} : Canonical s (execPeakLimitEngage l g t s) :=
  canonical_onLane fun _ h => wf_ite ((put_frame ..).wf h) h

theorem execPeakLimitLift_canonical {g} : Canonical s (execPeakLimitLift l g t s) :=
  canonical_onLane fun _ h => wf_ite ((put_frame ..).wf h) h

theorem execObserverFloat_canonical {g} : Canonical s (execObserverFloat l g t s) := by
  unfold execObserverFloat
  refine canonical_onLane fun L h => ?_
  dsimp only
  split
  · exact wf_ite ((refreshService_frame ..).wf ((updCom_frame ..).wf ((put_frame ..).wf ((put_frame ..).wf ((wr_frame ..).wf h))))) h
  · exact h

theorem execBemfCaptureStart_canonical {g} : Canonical s (execBemfCaptureStart l g t s) := by
  unfold execBemfCaptureStart
  refine canonical_onLane fun L h => ?_
  split
  · exact wf_ite ((updCom_frame ..).wf h) h
  · exact h

theorem execBemfZeroCrossing_canonical {g consistent} : Canonical s (execBemfZeroCrossing l g consistent t s) := by
  unfold execBemfZeroCrossing
  exact canonical_onLane fun _ h => wf_ite (wf_ite ((relock_frame ..).wf h) ((updCom_frame ..).wf h)) h

theorem execReacqTimeout_canonical {g} : Canonical s (execReacqTimeout l g t s) := by
  unfold execReacqTimeout
  refine canonical_onLane fun L h => ?_
  split
  · exact wf_ite ((refreshService_frame ..).wf ((raise_frame ..).wf ((updCom_frame ..).wf h))) h
  · exact h

theorem execFlyingStartTimeout_canonical {g} : Canonical s (execFlyingStartTimeout l g t s) := by
  unfold execFlyingStartTimeout
  refine canonical_onLane fun L h => ?_
  split
  · exact wf_ite ((refreshService_frame ..).wf ((raise_frame ..).wf ((updCom_frame ..).wf ((put_frame ..).wf h)))) h
  · exact h

theorem execLearningRunStart_canonical {n} : Canonical s (execLearningRunStart l n s) := by
  refine canonical_onLaneNow fun L h => ?_
  dsimp only
  split
  · exact wf_ite (wf_ite ((frame_com ..).wf ((put_frame ..).wf ((wr_frame ..).wf ((wr_frame ..).wf h)))) ((endLearn_frame ..).wf h)) h
  · exact h

theorem execLearningApply_canonical : Canonical s (execLearningApply l s) := by
  refine canonical_onLaneNow fun L h => ?_
  dsimp only
  split
  · exact wf_ite ((endLearn_frame ..).wf ((inc_frame ..).wf ((wr_frame ..).wf
      ((applyStage_frame ..).wf ((applyStage_frame ..).wf ((applyStage_frame ..).wf h)))))) h
  · exact h

theorem execGrazeSpectrum_canonical : Canonical s (execGrazeSpectrum l s) :=
  canonical_onLaneNow fun _ h => wf_ite ((freeze_frame ..).wf ((frame_com ..).wf
    (wf_foldl (fun _ _ h => (wr_frame ..).wf ((wr_frame ..).wf h)) _ h))) h

/-! ### Safe stop (11) -/

theorem execEnPulseEnd_canonical {g mv} : Canonical s (execEnPulseEnd l g mv s) :=
  canonical_ite (canonical_ite (canonical_next fun hs => State.wf_of_lanes rfl (State.wf_updLane hs fun h => (frame_safe ..).wf h))
    (canonical_updLane fun _ h => (frame_safe ..).wf h)) (canonical_sameLanes rfl)

theorem onLaneSto_canonical {f : LaneSt → LaneSt} (hf : ∀ L : LaneSt, L.wf = true → (f L).wf = true) : Canonical s (onLaneSto l t s f) :=
  canonical_next fun hs => State.wf_driveSto l (State.wf_updLane hs fun h => wf_ite (hf _ ((tick_frame ..).wf h)) h)

theorem execStoLatchSet_canonical {lowUs} : Canonical s (execStoLatchSet l lowUs t s) :=
  onLaneSto_canonical fun _ h => wf_ite ((setLatch_frame ..).wf ((stoLine_frame ..).wf h)) ((stoLine_frame ..).wf h)

theorem execStoTestPulse_canonical {lowUs} : Canonical s (execStoTestPulse l lowUs t s) :=
  onLaneSto_canonical fun _ h => wf_ite ((setLatch_frame ..).wf ((stoLine_frame ..).wf h)) ((inc_frame ..).wf ((stoLine_frame ..).wf h))

theorem execSafeReqSto_canonical {key mask} : Canonical s (execSafeReqSto l key mask s) :=
  canonical_onLaneNow fun _ h => wf_ite ((refreshSafe_frame ..).wf ((updSafe_frame ..).wf h)) ((refuseWrite_frame ..).wf h)

theorem execSafeReqSs1_canonical {key mask} : Canonical s (execSafeReqSs1 l key mask s) :=
  canonical_onLaneNow fun _ h => wf_ite ((askSs1_frame ..).wf h) ((refuseWrite_frame ..).wf h)

theorem execSafeReqClr_canonical {key mask} : Canonical s (execSafeReqClr l key mask s) :=
  canonical_onLaneNow fun _ h => wf_ite ((refreshSafe_frame ..).wf ((dropSs1_frame ..).wf ((updSafe_frame ..).wf h)))
    ((refuseWrite_frame ..).wf h)

theorem execSs1Standstill_canonical : Canonical s (execSs1Standstill l t s) := by
  refine canonical_onLane fun L h => (refreshSafe_frame ..).wf (wf_for3 (fun i M h => ?_) h)
  split
  · exact wf_ite ((endAsSource_frame ..).wf h) h
  · exact h

theorem execSs1Timeout_canonical : Canonical s (execSs1Timeout l t s) :=
  canonical_onLane fun _ h => wf_ite h ((refreshSafe_frame ..).wf ((raise_frame ..).wf
    (wf_for3 (fun _ _ h => wf_ite ((violate_frame ..).wf h) h) h)))

theorem execSafeAckEdge_canonical {lowUs} : Canonical s (execSafeAckEdge l lowUs t s) :=
  canonical_onLane fun _ h => wf_ite ((updSafe_frame ..).wf h) ((updSafe_frame ..).wf h)

theorem execSafeAckQualified_canonical {highUs stoHigh} : Canonical s (execSafeAckQualified l highUs stoHigh t s) :=
  onLaneSto_canonical fun _ h => wf_ite ((resetEdge_frame ..).wf h) h

theorem execResetPendingExpiry_canonical : Canonical s (execResetPendingExpiry l t s) :=
  canonical_onLane fun _ h => wf_ite ((put_frame ..).wf h) h

/-! ### Agreement (06) -/

theorem execAgreementMessage_canonical {relayed m len inTime} : Canonical s (execAgreementMessage l relayed m len inTime s) :=
  canonical_updLane fun L h =>
    have hheard : (if relayed then L else L.updAgr fun g => { g with heard := setNth g.heard (laneIx m.lane) (some m) }).wf = true :=
      wf_ite h ((updAgr_frame ..).wf h)
    wf_ite h (wf_ite ((raise_frame ..).wf h) (wf_ite ((keepCopy_frame ..).wf hheard) ((raise_frame ..).wf hheard)))

theorem execSubround2Relay_canonical : Canonical s (execSubround2Relay l s) :=
  canonical_updLane fun _ h => wf_ite ((updAgr_frame ..).wf h) h

theorem execCatchupFrame_canonical {m} : Canonical s (execCatchupFrame l m s) :=
  canonical_updLane fun _ h => wf_ite ((raiseIf_frame ..).wf ((updAgr_frame ..).wf h)) h

theorem execResyncPoint_canonical {nr} : Canonical s (execResyncPoint l nr s) :=
  canonical_onLaneNow fun _ h => wf_ite h (wf_ite ((copyPackages_frame ..).wf h)
    (wf_ite (wf_ite ((updAgr_frame ..).wf ((wr_frame ..).wf h)) ((wr_frame ..).wf h)) h))

theorem execResyncPackage_canonical {tx p tagOk digestOk} : Canonical s (execResyncPackage l tx p tagOk digestOk t s) :=
  canonical_onLane fun _ h => wf_ite (wf_ite ((resyncFail_frame ..).wf h) (wf_ite ((resyncFail_frame ..).wf ((raise_frame ..).wf h))
    ((checkPackages_frame ..).wf ((updAgr_frame ..).wf h)))) h

theorem execResyncPackageTimeout_canonical : Canonical s (execResyncPackageTimeout l t s) := by
  refine canonical_onLane fun L h => ?_
  split
  · exact wf_ite ((resyncFail_frame ..).wf h) h
  · exact h

theorem execCatchupComplete_canonical : Canonical s (execCatchupComplete l t s) := by
  refine canonical_onLane fun L h => ?_
  split
  · exact wf_ite (wf_ite ((resyncFail_frame ..).wf h) ((updAgr_frame ..).wf h)) h
  · exact h

/-- The lane as it votes again. -/
def LaneSt.votesAgain (L : LaneSt) (l : Lane) (t : Nat) : LaneSt :=
  let L := ((L.tick t).wr Reg.AGR_RSYNC_PHASE 5).wr Reg.SYS_STATE_LANE_MODE 0
  let L := L.put (Reg.SYS_STATE_VOTING.bit (laneIx l)) true
  (L.updAgr fun g => { g with nr := none, rsyncSent := none, ownInvalid := 0 }).driveFaultX.refreshClaims l

theorem LaneSt.votesAgain_wf {L : LaneSt} (h : L.wf = true) : (L.votesAgain l t).wf = true :=
  (refreshClaims_frame ..).wf ((driveFaultX_frame ..).wf ((updAgr_frame ..).wf ((put_frame ..).wf ((wr_frame ..).wf
    ((wr_frame ..).wf ((tick_frame ..).wf h))))))

theorem execShadowingEnd_canonical : Canonical s (execShadowingEnd l t s) :=
  canonical_ite (canonical_next fun hs => State.wf_of_lanes rfl (State.wf_updLane (l := l) (f := fun L => L.votesAgain l t) hs votesAgain_wf))
    (canonical_sameLanes rfl)

theorem execResyncRetry_canonical : Canonical s (execResyncRetry l t s) := by
  refine canonical_onLane fun L h => ?_
  split
  · exact wf_ite ((updAgr_frame ..).wf h) h
  · exact h

theorem execVersionExchange_canonical {other vmin vmax boot lc tagOk inForce done} :
    Canonical s (execVersionExchange l other vmin vmax boot lc tagOk inForce done s) := by
  refine canonical_onLinkedNow fun L h => wf_ite h (wf_ite ((decideVersion_frame ..).wf ((updAgr_frame ..).wf h)) ?_)
  have hkey := (completeKey_frame L l other boot lc).wf h
  cases inForce
  case none => exact (decideVersion_frame ..).wf ((updAgr_frame ..).wf hkey)
  case some => exact (takeVersion_frame ..).wf ((updAgr_frame ..).wf hkey)

theorem execVoteComplete_canonical : Canonical s (execVoteComplete l s) := by
  unfold execVoteComplete
  dsimp only
  split
  · exact canonical_sameLanes rfl
  · refine canonical_ite (canonical_next fun hs => State.wf_driveSto l (State.wf_foldl
      (fun _ _ hu => State.wf_updLane hu fun h => wf_ite ((raise_frame ..).wf h) h) _ ?_)) (canonical_sameLanes rfl)
    have hvote := fun m h => State.wf_restAfter (s.lane l) l (State.wf_updLane (l := l) (f := fun L => L.vote l m h) hs fun hw => (vote_frame ..).wf hw)
    exact State.wf_ite (State.wf_of_lanes rfl (hvote _ _)) (hvote _ _)

theorem execSlotStart_canonical : Canonical s (execSlotStart l t s) := by
  refine canonical_ite (canonical_next fun hs => State.wf_of_lanes rfl (State.wf_driveSto l (State.wf_updLane hs fun h => ?_)))
    (canonical_sameLanes rfl)
  have hmbx : ((((s.lane l).tick t).resume t).mbxSlot l).wf = true := (mbxSlot_frame ..).wf ((resume_frame ..).wf ((tick_frame ..).wf h))
  exact wf_ite ((refreshClaims_frame ..).wf ((frame_com ..).wf ((sendRound_frame ..).wf ((slotEngines_frame ..).wf hmbx)))) hmbx

theorem execBasicCycleStart_canonical : Canonical s (execBasicCycleStart l t s) :=
  canonical_onLane fun _ h => wf_ite ((basicCycle_frame ..).wf h) h

end

section
open LaneSt
variable {s : State} {l : Lane} {t : Nat}

/-! ### Time keepers and buffers (14, 15) -/

theorem execListenTimeout_canonical : Canonical s (execListenTimeout l t s) :=
  canonical_onLinked fun _ h => wf_ite (wf_ite ((coldStart_frame ..).wf h) ((showKeeper_frame ..).wf ((updKeeper_frame ..).wf h))) h

theorem execLocalSyncSend_canonical : Canonical s (execLocalSyncSend l t s) :=
  canonical_onLinked fun _ h => wf_ite ((sendFlock_frame ..).wf ((updKeeper_frame ..).wf h)) h

theorem execLocalSyncFrame_canonical {f rx} : Canonical s (execLocalSyncFrame l f rx s) :=
  canonical_onLinkedNow fun _ h => wf_ite ((raise_frame ..).wf h) (wf_ite h
    (wf_ite ((showKeeper_frame ..).wf ((updKeeper_frame ..).wf ((adoptTime_frame ..).wf h))) (wf_ite ((updKeeper_frame ..).wf h) h)))

theorem execStartupTimeout_canonical : Canonical s (execStartupTimeout l t s) :=
  canonical_onLinked fun _ h => wf_ite ((startupFault_frame ..).wf ((updKeeper_frame ..).wf h)) h

theorem execSyncFrame_canonical {k f rx} : Canonical s (execSyncFrame k f rx s) := by
  unfold execSyncFrame
  cases k
  case lane => exact canonical_onLinkedNow fun _ h => wf_ite ((syncAt_frame ..).wf ((authentic_frame ..).wf h)) ((authentic_frame ..).wf h)
  case guardian => exact canonical_onGdn

theorem execColdstartFrame_canonical {k f rx} : Canonical s (execColdstartFrame k f rx s) := by
  unfold execColdstartFrame
  cases k
  case lane => exact canonical_onLinkedNow fun _ h => wf_ite ((coldAt_frame ..).wf ((authentic_frame ..).wf h)) ((authentic_frame ..).wf h)
  case guardian => exact canonical_onGdn

theorem execOffsetCorrection_canonical {k} : Canonical s (execOffsetCorrection k t s) := by
  unfold execOffsetCorrection
  cases k
  case lane => exact canonical_onLinked fun _ h => wf_ite ((correctAt_frame ..).wf h) h
  case guardian => exact canonical_onGdn

theorem execRateCorrection_canonical {k n} : Canonical s (execRateCorrection k n s) := by
  unfold execRateCorrection
  cases k
  case lane => exact canonical_onLinkedNow fun _ h => wf_ite ((showKeeper_frame ..).wf ((updKeeper_frame ..).wf h)) h
  case guardian => exact canonical_onGdn

theorem execPassiveTimeout_canonical {k} : Canonical s (execPassiveTimeout k s) := by
  unfold execPassiveTimeout
  cases k
  case lane => exact canonical_onLinkedNow fun _ h => wf_ite ((showKeeper_frame ..).wf ((updKeeper_frame ..).wf h)) h
  case guardian => exact canonical_onGdn

theorem execStartupComplete_canonical {k n} : Canonical s (execStartupComplete k n s) := by
  unfold execStartupComplete
  cases k
  case lane => exact canonical_onLinkedNow fun _ h => (showKeeper_frame ..).wf ((updKeeper_frame ..).wf h)
  case guardian => exact canonical_onGdn

theorem execCyclePoint_canonical {p} : Canonical s (execCyclePoint l p t s) :=
  canonical_onLinked fun _ h => wf_ite ((frame_sys ..).wf ((updFlk_frame ..).wf (wf_ite ((put_frame ..).wf h) h))) h

theorem execCpiAck_canonical {mask} : Canonical s (execCpiAck l mask s) :=
  canonical_onLinkedNow fun _ h => (frame_sys ..).wf ((updFlk_frame ..).wf h)

theorem execTxPost_canonical {buf len} : Canonical s (execTxPost l buf len t s) :=
  canonical_onLinked fun _ h => wf_ite ((postTx_frame ..).wf h) h

theorem execSkimEncode_canonical {stream} : Canonical s (execSkimEncode l stream s) :=
  canonical_onLinkedNow fun _ h => wf_ite ((updFlk_frame ..).wf ((postTx_frame ..).wf h)) h

theorem execFlockTransmit_canonical {chY w m buf} : Canonical s (execFlockTransmit l chY w m buf t s) := by
  refine canonical_onLinked fun L h => wf_ite h (wf_ite (wf_ite ((transmitSync_frame ..).wf h) h) ?_)
  split
  · exact wf_ite ((transmit_frame ..).wf h) h
  · exact h

theorem execFlockFrameReceive_canonical {f} : Canonical s (execFlockFrameReceive l f s) :=
  canonical_onLinkedNow fun _ h => wf_ite ((flockSegment_frame ..).wf (wf_foldl (fun _ _ h => (takeFrame_frame ..).wf h) _
    ((authentic_frame ..).wf h))) ((authentic_frame ..).wf h)

/-! ### Guardians (15) -/

variable {g : Gdn} {p : Port}

theorem execMuteStart_canonical {n} : Canonical s (execMuteStart g n s) :=
  canonical_withGdn fun _ hu => State.wf_showMuted g (State.wf_updGdn g _ hu)

theorem execMuteExpiry_canonical {n} : Canonical s (execMuteExpiry g n s) :=
  canonical_withGdn fun _ hu => State.wf_showMuted g (State.wf_updGdn g _ hu)

theorem execGuardianRingFrame_canonical {f bytes} : Canonical s (execGuardianRingFrame g p f bytes t s) := by
  refine canonical_withGdn fun u hu => ?_
  have htime := State.wf_updGdn g (fun G => { G with time := t }) hu
  exact State.wf_ite htime (State.wf_ite (State.wf_updGdn g _ htime) (State.wf_ite (State.wf_updGdn g _ htime)
    (State.wf_ite htime (State.wf_updGdn g _ htime))))

theorem execGuardianLocalFrame_canonical {src f start stop} : Canonical s (execGuardianLocalFrame g src f start stop s) :=
  canonical_withGdn fun _ hu => State.wf_localFrame g _ _ _ _ (State.wf_updGdn g _ hu)

theorem execWindowEndCutoff_canonical {src w m} : Canonical s (execWindowEndCutoff g src w m t s) :=
  canonical_withGdn fun _ hu => State.wf_ite (State.wf_truncated g _ _ (State.wf_updGdn g _ hu)) hu

theorem execPortBroken_canonical {why} : Canonical s (execPortBroken g p why t s) :=
  canonical_withGdn fun _ hu => State.wf_ite (State.wf_showPorts g (State.wf_raiseAll _ _ (State.wf_updGdn g _ hu))) hu

theorem execLoopEstablished_canonical : Canonical s (execLoopEstablished g p t s) :=
  canonical_withGdn fun _ hu => State.wf_showPorts g (State.wf_updGdn g _ hu)

theorem execLoopRelease_canonical {n} : Canonical s (execLoopRelease g p n s) := by
  have hheals : ∀ L : LaneSt, L.wf = true → (if L.up then L.inc Reg.FLK_RING_STAT_HEALS else L).wf = true :=
    fun _ h => wf_ite ((inc_frame ..).wf h) h
  exact canonical_withGdn fun _ hu => State.wf_ite
    (State.wf_lanes (State.wf_showPorts g (State.wf_updGdn g _ hu)) (hheals _) (hheals _) (hheals _)) hu

theorem execRingNegotiation_canonical {rate} : Canonical s (execRingNegotiation g p rate t s) :=
  canonical_withGdn fun _ hu => State.wf_ite (State.wf_showPorts g (State.wf_updGdn g _ hu))
    (State.wf_showPorts g (State.wf_raiseAll _ _ (State.wf_updGdn g _ hu)))

theorem execPdelayFrame_canonical {f} : Canonical s (execPdelayFrame g p f t s) :=
  canonical_withGdn fun _ hu => State.wf_showPorts g (State.wf_updGdn g _ hu)

theorem execArbWindowEnd_canonical {w m} : Canonical s (execArbWindowEnd g w m s) := by
  have hdropped : ∀ (k : Nat) (L : LaneSt), L.wf = true → (if L.up then L.inc Reg.FLK_ARB_STAT_DROPPED k else L).wf = true :=
    fun _ _ h => wf_ite ((inc_frame ..).wf h) h
  exact canonical_withGdn fun _ hu => State.wf_lanes (State.wf_updGdn g _ hu) (hdropped _ _) (hdropped _ _) (hdropped _ _)

theorem execSatelliteHello_canonical {n vmin vmax caps ms} : Canonical s (execSatelliteHello g n vmin vmax caps ms t s) :=
  canonical_withGdn fun _ hu =>
    have hsent := fun F => State.wf_updGdn g F hu
    State.wf_ite hu (State.wf_ite (State.wf_updGdn g _ (hsent _)) (State.wf_ite (State.wf_updGdn g _ (hsent _))
      (State.wf_raiseAll _ _ (State.wf_updGdn g _ (hsent _)))))

theorem execSatelliteLost_canonical {n} : Canonical s (execSatelliteLost g n s) :=
  canonical_withGdn fun _ hu => State.wf_ite (State.wf_raiseAll _ _ (State.wf_updGdn g _ hu)) hu

theorem execGuardianStatusWord_canonical {present selfOk gt} : Canonical s (execGuardianStatusWord l g present selfOk gt t s) := by
  unfold execGuardianStatusWord
  refine canonical_onLane fun L h => ?_
  have hword := fun w => (setGword_frame _ g w).wf ((takeWord_frame L g (s.gdn g) selfOk).wf h)
  have hmissing := fun w => (setGword_frame _ g w).wf ((wr_frame L (guardFld g 0 1) 0).wf h)
  exact wf_ite (wf_ite ((guardFault_frame ..).wf (hword _)) (hword _)) (wf_ite ((guardFault_frame ..).wf (hmissing _)) (hmissing _))

theorem execGuardianPowerLoss_canonical : Canonical s (execGuardianPowerLoss g s) := by
  have hmask : ∀ L : LaneSt, L.wf = true → (if L.up then L.openMask (14 + gdnIx g) else L).wf = true :=
    fun _ h => wf_ite ((openMask_frame ..).wf h) h
  exact canonical_ite (canonical_next fun hs => State.wf_lanes (State.wf_updGdn g _ hs) (hmask _) (hmask _) (hmask _)) (canonical_sameLanes rfl)

/-! ### The auxiliary axis (19) -/

theorem execMove_canonical {key} : Canonical s (execMove l key s) :=
  canonical_auxCmd fun _ h => wf_ite ((auxReject_frame ..).wf h) (wf_ite ((auxReject_frame ..).wf h) (wf_ite ((auxReject_frame ..).wf h)
    (wf_ite h ((updAux_frame ..).wf h))))

theorem execStop_canonical {key} : Canonical s (execStop l key s) := canonical_auxCmd fun _ h => (auxStop_frame ..).wf h

theorem execHardstop_canonical {key} : Canonical s (execHardstop l key s) :=
  canonical_auxCmd fun _ h => wf_ite ((auxStop_frame ..).wf h) ((updAux_frame ..).wf ((auxStop_frame ..).wf h))

theorem execHome_canonical {key} : Canonical s (execHome l key t s) :=
  canonical_auxCmd fun L h =>
    have hreject := fun code => (auxReject_frame L code).wf h
    wf_ite (hreject _) (wf_ite (hreject _) (wf_ite (hreject _) (wf_ite (hreject _) (wf_ite h ((updAux_frame ..).wf ((tick_frame ..).wf h))))))

theorem execClear_canonical {key condGone} : Canonical s (execClear l key condGone s) :=
  canonical_auxCmd fun _ h => wf_ite ((wr_frame ..).wf ((wr_frame ..).wf ((wr_frame ..).wf ((wr_frame ..).wf h)))) ((wr_frame ..).wf h)

theorem execCommitTbl_canonical {key} : Canonical s (execCommitTbl l key s) :=
  canonical_auxCmd fun _ h => wf_ite ((auxReject_frame ..).wf h) (wf_ite ((raise_frame ..).wf ((auxReject_frame ..).wf h))
    (wf_ite ((raise_frame ..).wf ((auxReject_frame ..).wf h)) ((fullStep_frame ..).wf ((updAux_frame ..).wf h))))

theorem execPlannerTick_canonical {slice4} : Canonical s (execPlannerTick l slice4 t s) := by
  refine canonical_onLane fun L h => wf_ite h (wf_ite ?_ ((chooseMode_frame ..).wf ((plan_frame ..).wf ((updAux_frame ..).wf
    ((takeWish_frame ..).wf h)))))
  split
  · exact (plan_frame ..).wf h
  · exact (plan_frame ..).wf h
  · exact h

theorem execMicrostep_canonical : Canonical s (execMicrostep l t s) :=
  canonical_onLane fun _ h => wf_ite ((afterStep_frame ..).wf ((driveCoils_frame ..).wf ((fullStep_frame ..).wf ((wrS_frame ..).wf
    ((noteStep_frame ..).wf h))))) h

theorem execStandstillEntry_canonical : Canonical s (execStandstillEntry l t s) := by
  refine canonical_onLane fun L h => wf_ite ?_ h
  split
  · exact (coilsOff_frame ..).wf h
  · exact (coilsOff_frame ..).wf h
  · exact (holdCoils_frame ..).wf h

theorem execLimitSwitchTransition_canonical {sw high us} : Canonical s (execLimitSwitchTransition l sw high us t s) :=
  canonical_onLane fun L h =>
    have hcount := fun f b => (countLimit_frame _ sw t).wf ((put_frame L f b).wf h)
    wf_ite (wf_ite (hcount _ _) (wf_ite ((homeTrip_frame ..).wf (hcount _ _)) ((limitTrip_frame ..).wf (hcount _ _)))) h

theorem execHomingStopComplete_canonical : Canonical s (execHomingStopComplete l t s) := by
  refine canonical_onLane fun L h => wf_ite h ?_
  split
  · exact (updAux_frame ..).wf h
  · exact wf_ite h (wf_ite ((homeFail_frame ..).wf h) ((updAux_frame ..).wf h))
  · exact (rest_frame ..).wf ((updAux_frame ..).wf ((wr_frame ..).wf ((wrS_frame ..).wf h)))
  · exact h

theorem execHomingTimeout_canonical : Canonical s (execHomingTimeout l t s) :=
  canonical_onLane fun _ h => wf_ite ((homeFail_frame ..).wf h) h

theorem execCoilFault_canonical {coil kind} : Canonical s (execCoilFault l coil kind t s) :=
  canonical_onLane fun _ h => wf_ite ((wr_frame ..).wf ((coilsOff_frame ..).wf ((updAux_frame ..).wf ((setVel_frame ..).wf
    ((unref_frame ..).wf ((raise_frame ..).wf ((put_frame ..).wf h))))))) h

/-! ### Faults (12) -/

theorem execFaultRaise_canonical {id detail} : Canonical s (execFaultRaise l id detail t s) :=
  canonical_onLane fun _ h => (raise_frame ..).wf h

theorem execLineFault_canonical {id ns} : Canonical s (execLineFault l id ns t s) :=
  canonical_onLane fun _ h => wf_ite ((lineFailed_frame ..).wf h) h

theorem execSiblingLineChange_canonical {other pattern} : Canonical s (execSiblingLineChange l other pattern t s) :=
  canonical_onLane fun _ h => wf_ite h ((siblingLine_frame ..).wf h)

theorem execLaneSilent_canonical : Canonical s (execLaneSilent l t s) := canonical_onLane fun _ h => wf_ite ((goSilent_frame ..).wf h) h

theorem execAcknowledgeClass_canonical {key classes} : Canonical s (execAcknowledgeClass l key classes s) :=
  canonical_onLaneNow fun _ h => wf_ite ((ackClasses_frame ..).wf h) ((refuseWrite_frame ..).wf h)

theorem execRearm_canonical {key} : Canonical s (execRearm l key s) :=
  canonical_onLaneNow fun _ h => wf_ite ((rearmFirst_frame ..).wf h) ((refuseWrite_frame ..).wf h)

theorem execFaultRecordWritten_canonical : Canonical s (execFaultRecordWritten l t s) :=
  canonical_onLane fun _ h => (writeRecord_frame ..).wf h

theorem execMaskClose_canonical : Canonical s (execMaskClose l t s) := canonical_onLane fun _ h => (closeMasks_frame ..).wf h

theorem execFaultInject_canonical {id detail} : Canonical s (execFaultInject l id detail t s) :=
  canonical_onLane fun _ h => wf_ite ((raise_frame ..).wf h) ((raise_frame ..).wf h)

theorem execThermalRejoin_canonical {tj ms} : Canonical s (execThermalRejoin l tj ms t s) :=
  canonical_onLane fun _ h => wf_ite ((enterResync_frame ..).wf h) h

theorem execLaneThermalTrip_canonical {tj ms} : Canonical s (execLaneThermalTrip l tj ms t s) :=
  canonical_onLane fun _ h => (raiseIf_frame ..).wf h

theorem execStageThermalTrip_canonical {g} : Canonical s (execStageThermalTrip l g t s) :=
  canonical_onLane fun _ h => wf_ite ((removeStage_frame ..).wf ((raise_frame ..).wf h)) h

theorem execWindingThermalTrip_canonical {g} : Canonical s (execWindingThermalTrip l g t s) :=
  canonical_onLane fun _ h => wf_ite ((removeStage_frame ..).wf ((raise_frame ..).wf h)) h

theorem execClockFault_canonical {kind permille windows} : Canonical s (execClockFault l kind permille windows t s) :=
  canonical_onLane fun _ h => wf_ite ((clockFault_frame ..).wf h) h

/-! ### Supplies (02) -/

theorem execSupplyLoss_canonical {mv} : Canonical s (execSupplyLoss l mv t s) :=
  canonical_ite (canonical_next (State.wf_loseSupply l _ t)) (canonical_sameLanes rfl)

theorem execGroundLoss_canonical {mv us} : Canonical s (execGroundLoss l mv us t s) :=
  canonical_ite (canonical_next fun hs => State.wf_updLane (State.wf_ite (State.wf_updLane hs fun h => (raise_frame ..).wf
    ((tick_frame ..).wf h)) (State.wf_loseSupply l _ t hs)) fun h => (updPwr_frame ..).wf h) (canonical_sameLanes rfl)

theorem execSupplyLossTimeout_canonical : Canonical s (execSupplyLossTimeout l t s) :=
  canonical_onLane fun _ h => wf_ite ((goSilent_frame ..).wf ((writeRecord_frame ..).wf h)) h

theorem execSupplyReturn_canonical {mv gnd us} : Canonical s (execSupplyReturn l mv gnd us t s) := by
  have hunpower : s.wf = true → (s.updLane l fun L => (L.tick t).unpower).wf = true := fun hs =>
    State.wf_updLane hs fun h => (unpower_frame ..).wf ((tick_frame ..).wf h)
  have hregain : s.wf = true → (s.updLane l fun L => (L.tick t).regainSupply l mv).wf = true := fun hs =>
    State.wf_updLane hs fun h => (regainSupply_frame ..).wf ((tick_frame ..).wf h)
  have hpark : s.wf = true → (s.updLane l fun L => L.updPwr fun p => { p with lost := false, gndLost := false, supMv := mv }).wf = true :=
    fun hs => State.wf_updLane hs fun h => (updPwr_frame ..).wf h
  exact canonical_ite (canonical_ite (canonical_next fun hs => State.wf_of_lanes rfl (State.wf_driveSto l (hunpower hs)))
    (canonical_ite (canonical_next fun hs => State.wf_of_lanes rfl (hregain hs))
      (canonical_ite (canonical_next fun hs => State.wf_of_lanes rfl (hpark hs)) (canonical_sameLanes rfl)))) (canonical_sameLanes rfl)

theorem execParkSupplyLoss_canonical {mv} : Canonical s (execParkSupplyLoss l mv t s) :=
  canonical_updLane fun _ h => wf_ite ((updPwr_frame ..).wf ((tick_frame ..).wf h)) h

theorem execHoldupExhausted_canonical : Canonical s (execHoldupExhausted l t s) :=
  canonical_ite (canonical_next fun hs => State.wf_of_lanes rfl (State.wf_driveSto l (State.wf_updLane (l := l) (f := unpower) hs
    fun h => (unpower_frame ..).wf h))) (canonical_sameLanes rfl)

theorem execUndervoltageWarning_canonical {mv us} : Canonical s (execUndervoltageWarning l mv us t s) :=
  canonical_onLane fun _ h => (raiseIf_frame ..).wf h

theorem execSupplyOvervoltage_canonical {mv} : Canonical s (execSupplyOvervoltage l mv t s) := by
  have hover : s.wf = true → (s.updLane l fun L => ((L.tick t).raise 0x0504).updPwr fun p => { p with overvolt := true, supMv := mv }).wf = true :=
    fun hs => State.wf_updLane hs fun h => (updPwr_frame ..).wf ((raise_frame ..).wf ((tick_frame ..).wf h))
  exact canonical_ite (canonical_next fun hs => State.wf_of_lanes rfl (hover hs)) (canonical_sameLanes rfl)

theorem execOvervoltageRecovery_canonical {mv us} : Canonical s (execOvervoltageRecovery l mv us t s) := by
  have hback : s.wf = true → (s.updLane l fun L => ((L.tick t).updPwr fun p => { p with overvolt := false, supMv := mv }).rearmOwn l).wf = true :=
    fun hs => State.wf_updLane hs fun h => (rearmOwn_frame ..).wf ((updPwr_frame ..).wf ((tick_frame ..).wf h))
  exact canonical_ite (canonical_next fun hs => State.wf_of_lanes rfl (hback hs)) (canonical_sameLanes rfl)

theorem execSensorSupplyFault_canonical {mv us} : Canonical s (execSensorSupplyFault l mv us t s) :=
  canonical_onLane fun _ h => wf_ite ((dropSensors_frame ..).wf ((raise_frame ..).wf h)) h

end

section
open LaneSt
variable {s : State} {l : Lane} {r : Req} {t : Nat}

/-! ### Mailboxes (17) -/

theorem execConfirmTimeout_canonical : Canonical s (execConfirmTimeout l t s) :=
  canonical_onLane fun _ h => (showPending_frame ..).wf ((updMbx_frame ..).wf
    (wf_foldl (fun _ _ h => wf_ite ((inc_frame ..).wf ((refuse_frame ..).wf h)) h) _ ((updMbx_frame ..).wf h)))

theorem execSegmentTimeout_canonical {key} : Canonical s (execSegmentTimeout l key t s) :=
  canonical_onLane fun _ h => wf_ite ((violation_frame ..).wf ((updMbx_frame ..).wf h)) h

theorem execQuarantineEnd_canonical {key} : Canonical s (execQuarantineEnd l key t s) :=
  canonical_onLane fun _ h => (wr_frame ..).wf ((updMbx_frame ..).wf h)

theorem execUnknownRequest_canonical {code body} : Canonical s (execUnknownRequest l r code body t s) :=
  canonical_onLane fun _ h => wf_ite h (wf_receive (fun _ h => h) l _ r _ h)

theorem execMbxReplyRelease_canonical {v} : Canonical s (execMbxReplyRelease l v s) :=
  canonical_onLaneNow fun _ h => wf_ite ((wr_frame ..).wf ((put_frame ..).wf h)) h

theorem execGrazeTap_canonical {decimation duration} : Canonical s (execGrazeTap l r decimation duration t s) :=
  canonical_laneCmd fun _ h => (startTap_frame ..).wf h

theorem execSkimTap_canonical {stream decimation duration} : Canonical s (execSkimTap l r stream decimation duration t s) :=
  canonical_laneCmd fun _ h => (startTap_frame ..).wf h

theorem execTapStop_canonical {mbox} : Canonical s (execTapStop l r mbox t s) :=
  canonical_laneCmd fun _ h => wf_ite ((finish_frame ..).wf ((dropTap_frame ..).wf h)) ((refuse_frame ..).wf h)

theorem execTapDelivery_canonical {mbox canSend} : Canonical s (execTapDelivery l mbox canSend s) := by
  refine canonical_onLaneNow fun L h => ?_
  have hclear := fun f => (updMbx_frame L f).wf h
  dsimp only
  split
  · exact wf_ite ((updMbx_frame ..).wf (wf_ite ((sendReply_frame ..).wf (hclear _)) (hclear _))) (hclear _)
  · exact hclear _

theorem execTapEnd_canonical {mbox} : Canonical s (execTapEnd l mbox t s) :=
  canonical_onLane fun _ h => wf_ite ((dropTap_frame ..).wf ((updMbx_frame ..).wf h)) ((updMbx_frame ..).wf h)

theorem execCrook_canonical {mailbox aux} : Canonical s (execCrook l r mailbox aux t s) :=
  canonical_onLane fun L h =>
    have hclear := fun f => (updMbx_frame L f).wf h
    wf_ite (hclear _) (wf_ite ((crookStart_frame ..).wf (hclear _)) (wf_ite ((sendNak_frame ..).wf (hclear _))
      ((turnAway_frame ..).wf (hclear _))))

theorem execCrookForced_canonical : Canonical s (execCrookForced l t s) := by
  refine canonical_onLane fun L h => ?_
  have hgoes : L.crookGoes.wf = true := (crookGoes_frame ..).wf h
  dsimp only
  split
  · exact hgoes
  · have hmbx := fun (c : Bool) f => wf_ite (c := c = true) ((crookDone_frame _ f).wf ((resetShepherd_frame _).wf hgoes)) hgoes
    exact wf_ite ((crookDone_frame ..).wf ((auxAbort_frame ..).wf (hmbx _ _))) (hmbx _ _)

theorem execCrookReply_canonical : Canonical s (execCrookReply l t s) := by
  refine canonical_onLane fun L h => ?_
  have hclear := fun f => (updMbx_frame L f).wf h
  dsimp only
  split
  · exact hclear _
  · exact wf_ite ((updMbx_frame ..).wf ((sendReply_frame ..).wf ((wr_frame ..).wf (hclear _)))) (hclear _)

theorem execShepherdRestart_canonical : Canonical s (execShepherdRestart l s) :=
  canonical_onLaneNow fun _ h => wf_ite ((put_frame ..).wf h) h

theorem execHello_canonical {a} : Canonical s (execHello l r a t s) := by
  refine canonical_onLane fun L h => wf_ite ((updMbx_frame ..).wf h) ?_
  have hrate := fun f key => (noteRate_frame _ key).wf ((updMbx_frame L f).wf h)
  dsimp only
  split
  · exact (turnAway_frame ..).wf (hrate _ _)
  · refine wf_ite ((turnAway_frame ..).wf (hrate _ _)) (wf_ite ((turnAway_frame ..).wf (hrate _ _)) ?_)
    split
    · exact (sendReply_frame ..).wf (hrate _ _)
    · exact hrate _ _
    · exact (takeHello_frame ..).wf (hrate _ _)

theorem execSessionTimeout_canonical : Canonical s (execSessionTimeout l t s) :=
  canonical_onLane fun _ h => wf_ite ((endSession_frame ..).wf ((updMbx_frame ..).wf h)) h

theorem execGetId_canonical : Canonical s (execGetId l r t s) :=
  canonical_ite (canonical_onLane fun _ h => wf_ite ((finish_frame ..).wf ((updMbx_frame ..).wf h)) h) canonical_readCmd

theorem execAttest_canonical {nonce mask} : Canonical s (execAttest l r nonce mask t s) :=
  canonical_laneCmd fun _ h => wf_ite ((finish_frame ..).wf h) ((refuse_frame ..).wf h)

theorem execGetKey_canonical : Canonical s (execGetKey l r t s) :=
  canonical_laneCmd fun _ h => wf_ite ((finish_frame ..).wf h) ((refuse_frame ..).wf h)

theorem execImgBegin_canonical {length} : Canonical s (execImgBegin l r length t s) :=
  canonical_laneCmd fun _ h => wf_ite ((refuse_frame ..).wf h) ((finish_frame ..).wf ((updMbx_frame ..).wf ((setSlot_frame ..).wf
    ((eraseSlotRec_frame ..).wf ((eraseMem_frame ..).wf h)))))

theorem execImgWrite_canonical {offset data} : Canonical s (execImgWrite l r offset data t s) := by
  refine canonical_laneCmd fun L h => ?_
  split
  · exact wf_ite ((refuse_frame ..).wf h) ((finish_frame ..).wf ((setSlot_frame ..).wf ((setBytes_frame ..).wf h)))
  · exact (refuse_frame ..).wf h

theorem execImgVerify_canonical {f} : Canonical s (execImgVerify l r f t s) := by
  refine canonical_laneCmd fun L h => ?_
  dsimp only
  split
  · exact (finish_frame ..).wf ((raiseIf_frame ..).wf ((setSlot_frame ..).wf h))
  · exact (refuse_frame ..).wf h

theorem execCfgRead_canonical {slot offset length} : Canonical s (execCfgRead l r slot offset length t s) :=
  canonical_laneCmd fun _ h => wf_ite ((refuse_frame ..).wf h) ((readRange_frame ..).wf h)

theorem execCalRead_canonical {offset length} : Canonical s (execCalRead l r offset length t s) :=
  canonical_laneCmd fun _ h => (readRange_frame ..).wf h

theorem execRecRead_canonical {index} : Canonical s (execRecRead l r index t s) :=
  canonical_laneCmd fun _ h => wf_ite ((refuse_frame ..).wf h) ((finish_frame ..).wf h)

theorem execTallyRead_canonical {first count} : Canonical s (execTallyRead l r first count t s) :=
  canonical_laneCmd fun _ h => wf_ite ((refuse_frame ..).wf h) (wf_ite ((refuse_frame ..).wf h) ((finish_frame ..).wf h))

theorem execLogRead_canonical {offset length} : Canonical s (execLogRead l r offset length t s) :=
  canonical_laneCmd fun _ h => (readRange_frame ..).wf h

theorem execFwBegin_canonical {length svn} : Canonical s (execFwBegin l r length svn t s) :=
  canonical_laneCmd fun _ h => wf_ite ((refuse_frame ..).wf h) ((finish_frame ..).wf ((updMbx_frame ..).wf ((setBank_frame ..).wf h)))

theorem execFwWrite_canonical {offset data} : Canonical s (execFwWrite l r offset data t s) := by
  refine canonical_laneCmd fun L h => ?_
  split
  · exact wf_ite ((refuse_frame ..).wf h) ((finish_frame ..).wf ((setBank_frame ..).wf ((setBytes_frame ..).wf h)))
  · exact (refuse_frame ..).wf h

theorem execFwVerify_canonical {f} : Canonical s (execFwVerify l r f t s) := by
  refine canonical_laneCmd fun L h => ?_
  dsimp only
  split
  · exact (finish_frame ..).wf ((setBank_frame ..).wf h)
  · exact (refuse_frame ..).wf h

/-! ### Security (18) -/

theorem execPassword_canonical {pw} : Canonical s (execPassword l r pw t s) :=
  canonical_laneCmd fun _ h => wf_ite ((refuse_frame ..).wf h) (wf_ite ((refuse_frame ..).wf h) ((tryPassword_frame ..).wf h))

theorem execUnlockReq_canonical {level} : Canonical s (execUnlockReq l r level t s) :=
  canonical_laneCmd fun _ h => wf_ite ((refuse_frame ..).wf h) (wf_ite ((refuse_frame ..).wf h) ((issueChallenge_frame ..).wf h))

theorem execUnlockResp_canonical {level sig sigOk} : Canonical s (execUnlockResp l r level sig sigOk t s) :=
  canonical_laneCmd fun _ h => wf_ite ((unlocked_frame ..).wf h) ((unlockFailed_frame ..).wf h)

theorem execChallengeExpiry_canonical : Canonical s (execChallengeExpiry l t s) := by
  refine canonical_onLane fun L h => ?_
  split
  · exact wf_ite ((put_frame ..).wf h) h
  · exact h

theorem execDebugSessionOpen_canonical : Canonical s (execDebugSessionOpen l s) :=
  canonical_onLaneNow fun _ h => wf_ite ((put_frame ..).wf ((wr_frame ..).wf ((wr_frame ..).wf ((put_frame ..).wf h)))) h

theorem execDebugSessionClose_canonical : Canonical s (execDebugSessionClose l s) :=
  canonical_onLaneNow fun _ h => (closeDebug_frame ..).wf h

theorem execFactoryTestToken_canonical {sigOk} : Canonical s (execFactoryTestToken l sigOk s) :=
  canonical_onLaneNow fun _ h => wf_ite ((put_frame ..).wf h) h

theorem execProvision_canonical {tokenOk pk msk} : Canonical s (execProvision l tokenOk pk msk s) :=
  canonical_onLaneNow fun _ h => wf_ite ((put_frame ..).wf ((put_frame ..).wf ((put_frame ..).wf ((updKeys_frame ..).wf
    ((put_frame ..).wf ((blow_frame ..).wf h)))))) h

theorem execKeyLoad_canonical {a} : Canonical s (execKeyLoad l r a t s) :=
  canonical_laneCmd fun _ h => wf_ite ((refuse_frame ..).wf h) (wf_ite ((refuse_frame ..).wf h) ((storeKey_frame ..).wf ((finish_frame ..).wf h)))

theorem execRindSource_canonical {bit active ns} : Canonical s (execRindSource l bit active ns t s) :=
  canonical_onAwake fun L h =>
    have hshown : (L.put (Reg.SEC_RIND_STAT_SRC.bit bit) active).wf = true := (put_frame ..).wf h
    wf_ite h (wf_ite hshown (wf_ite ((glitch_frame ..).wf hshown) ((latchRind_frame ..).wf hshown)))

theorem execGlitchDetect_canonical {bit ns} : Canonical s (execGlitchDetect l bit ns t s) :=
  canonical_onAwake fun _ h => wf_ite ((glitch_frame ..).wf h) h

/-! ### States, sleep and start (03, 04) -/

theorem LaneSt.executeStep_wf {L : LaneSt} (k : Lane) (h : L.wf = true) : (L.executeStep k).wf = true := by
  refine wf_ite ?_ h
  split
  · exact (toPark_frame ..).wf ((parkAux_frame ..).wf ((done_frame ..).wf h))
  · exact (toStandby_frame ..).wf ((done_frame ..).wf h)
  · exact (refreshClaims_frame ..).wf ((done_frame ..).wf ((enterArm_frame ..).wf h))
  · exact (refreshClaims_frame ..).wf ((done_frame ..).wf ((wr_frame ..).wf h))
  · exact h

theorem execTransitionExecute_canonical : Canonical s (execTransitionExecute l t s) := by
  refine canonical_ite (canonical_next fun hs => ?_) (canonical_sameLanes rfl)
  have hstep := State.wf_stepTogether (f := fun k L => (L.tick t).executeStep k) (fun k _ h => executeStep_wf k ((tick_frame ..).wf h)) l hs
  have hpark := State.wf_foldl (f := fun x k => if (s.lane k).up && (x.lane k).st == stPark then x.parked k else x)
    (fun _ k hu => State.wf_ite (State.wf_parked k hu) hu) [Lane.A, .B, .C] hstep
  exact State.wf_ite hpark hpark

theorem execSleepSignal_canonical {g} : Canonical s (execSleepSignal l g s) :=
  canonical_ite (canonical_next fun hs => State.wf_parked l (State.wf_updLane hs fun h => (toPark_frame ..).wf ((parkAux_frame ..).wf h)))
    (canonical_sameLanes rfl)

theorem execWakeSource_canonical {src mv us pattern} : Canonical s (execWakeSource l src mv us pattern t s) :=
  canonical_ite (canonical_next (State.wf_wakeLane l _ t)) (canonical_sameLanes rfl)

theorem execSiblingWake_canonical {g} : Canonical s (execSiblingWake l g t s) :=
  canonical_ite (canonical_next (State.wf_wakeLane l _ t)) (canonical_sameLanes rfl)

theorem execRingWake_canonical {g p} : Canonical s (execRingWake g p t s) := by
  have hone : ∀ (k : Lane) (u : State), u.wf = true →
      (if (u.lane k).sleeps && (u.lane k).wakeable 5 t then u.wakeLane k 5 t else u).wf = true :=
    fun k _ hu => State.wf_ite (State.wf_wakeLane k 5 t hu) hu
  exact canonical_ite (canonical_next fun hs => hone _ _ (hone _ _ hs)) (canonical_sameLanes rfl)

theorem execRegulatorReady_canonical {xtalOk crcOk} : Canonical s (execRegulatorReady l xtalOk crcOk t s) :=
  canonical_updLane fun L h =>
    have hclocks := fun (f : PwrSt → PwrSt) (b c d : Bool) => (put_frame _ Reg.SYS_CLK_STAT_TPLL_LOCK d).wf
      ((put_frame _ Reg.SYS_CLK_STAT_RC_FALLBACK c).wf ((put_frame _ Reg.SYS_CLK_STAT_XTAL_OK b).wf ((updPwr_frame _ f).wf
        ((tick_frame L t).wf h))))
    wf_ite (wf_ite ((restoreDomains_frame ..).wf ((put_frame ..).wf (hclocks _ _ _ _))) ((put_frame ..).wf (hclocks _ _ _ _))) h

theorem execRegulatorRetry_canonical : Canonical s (execRegulatorRetry l t s) :=
  canonical_updLane fun L h =>
    have htick : (L.tick t).wf = true := (tick_frame ..).wf h
    wf_ite (wf_ite ((frame_sys ..).wf ((wr_frame ..).wf htick))
      ((frame_fc_sys ..).wf ((updPwr_frame ..).wf (wf_ite ((wr_frame ..).wf htick) htick)))) h

theorem execCrystalFallback_canonical {crcOk} : Canonical s (execCrystalFallback l crcOk t s) :=
  canonical_updLane fun _ h => wf_ite ((restoreDomains_frame ..).wf ((fallBack_frame ..).wf ((tick_frame ..).wf h))) h

theorem execWakeComplete_canonical {f} : Canonical s (execWakeComplete l f t s) :=
  canonical_ite (canonical_next fun hs => State.wf_started l (State.wf_updLane hs fun h => (startLane_frame ..).wf ((tick_frame ..).wf h)))
    (canonical_sameLanes rfl)

theorem execColdBoot_canonical {mv f} : Canonical s (execColdBoot l mv f t s) := by
  have hboot : s.wf = true → (s.updLane l fun L => ((L.tick t).updPwr fun p =>
      { p with lost := false, gndLost := false, supMv := mv }).coldBootLane l f (s.othersVote l)).wf = true :=
    fun hs => State.wf_updLane hs fun h => (coldBootLane_frame ..).wf ((updPwr_frame ..).wf ((tick_frame ..).wf h))
  exact canonical_ite (canonical_next fun hs => State.wf_started l (State.wf_of_lanes rfl (hboot hs))) (canonical_sameLanes rfl)

theorem execRomRecoveryLoad_canonical {f bankB} : Canonical s (execRomRecoveryLoad l f bankB s) :=
  canonical_next fun hs => State.wf_of_lanes rfl (State.wf_driveSto l (State.wf_updLane hs fun h =>
    wf_ite ((restart_frame ..).wf ((setBank_frame ..).wf h)) h))

/-! ### Measurement and Churn (07, 13) -/

theorem execStatusFrame_canonical {g valid} : Canonical s (execStatusFrame l g valid s) :=
  canonical_ite (canonical_ite (canonical_next fun hs => State.wf_of_lanes rfl (State.wf_updLane (l := l)
    (f := fun L => L.takeStatus l (stgIx g) (s.stage g)) hs fun h => (takeStatus_frame ..).wf h))
    (canonical_updLane fun _ h => (missStatus_frame ..).wf h)) (canonical_sameLanes rfl)

theorem execOpenWireTestComplete_canonical {m} : Canonical s (execOpenWireTestComplete l m t s) :=
  canonical_onLane fun _ h =>
    have htested := wf_for3 (f := fun i L => if L.assigned i then L.armTestStage i (nth m i) else L)
      (fun _ _ h => wf_ite ((armTestStage_frame ..).wf h) h) h
    wf_ite (wf_ite ((stepFailed_frame ..).wf htested) ((armStep_frame ..).wf htested)) h

theorem execOpenWireCycleStart_canonical : Canonical s (execOpenWireCycleStart l t s) :=
  canonical_onLane fun _ h => wf_ite (wf_for3 (fun _ _ h => (frame_meas ..).wf ((closeCycle_frame ..).wf h)) h) h

theorem execOpenWireStep_canonical {g m} : Canonical s (execOpenWireStep l g m t s) := by
  refine canonical_ite ?_ (canonical_updLane fun _ h => wf_ite ((tick_frame ..).wf h) h)
  have hstep : s.wf = true → (s.updLane l fun L => (L.tick t).owStep (stgIx g) (s.stage g).since m t).wf = true :=
    fun hs => State.wf_updLane hs fun h => (owStep_frame ..).wf ((tick_frame ..).wf h)
  split
  · exact canonical_next fun hs => State.wf_of_lanes rfl (hstep hs)
  · exact canonical_next hstep

theorem execOffsetCalibrationComplete_canonical : Canonical s (execOffsetCalibrationComplete l t s) :=
  canonical_onLane fun _ h =>
    have hstored := wf_for3 (f := fun i L => if L.assigned i then L.storeOffsets i else L)
      (fun _ _ h => wf_ite ((storeOffsets_frame ..).wf h) h) h
    have hsaved := (saveOffsets_frame _ l).wf hstored
    wf_ite (wf_ite ((stepFailed_frame ..).wf hsaved) ((armStep_frame ..).wf hsaved)) h

theorem execGpConversionComplete_canonical {conv v ohm} : Canonical s (execGpConversionComplete l conv v ohm t s) := by
  refine canonical_onLane fun L h => wf_ite ?_ h
  split
  · exact (gpTake_frame ..).wf h
  · exact h

theorem execChurnSlice_canonical {part seg zeroOk sigOk crcOk keyOk dur fold} :
    Canonical s (execChurnSlice l part seg zeroOk sigOk crcOk keyOk dur fold s) := by
  have hnote : ∀ (u : State) (m : Nat), u.wf = true → (if part = 7 then u.noteCopies l m else u).wf = true :=
    fun _ _ hu => State.wf_ite (State.wf_of_lanes rfl hu) hu
  refine canonical_ite (canonical_next fun hs => hnote _ _ (State.wf_updLane hs fun h => ?_)) (canonical_sameLanes rfl)
  have hmarked := fun f v => (updChn_frame _ f).wf ((wr_frame _ Reg.CHN_LAST_DURATION v).wf ((wr_frame _ Reg.CHN_LAST_SEGMENT seg).wf
    ((wr_frame _ Reg.CHN_LAST_PARTITION part).wf ((sliceSave_frame _ part).wf h))))
  exact wf_ite ((sliceFold_frame ..).wf (hmarked _ _)) ((sliceEnd_frame ..).wf (hmarked _ _))

theorem execZeroiseTimeout_canonical {seg us} : Canonical s (execZeroiseTimeout l seg us s) :=
  canonical_updLane fun _ h => wf_ite ((sliceEnd_frame ..).wf ((updChn_frame ..).wf ((wr_frame ..).wf ((wr_frame ..).wf
    ((sliceSave_frame ..).wf h))))) h

theorem execChurnCoverageOverdue_canonical : Canonical s (execChurnCoverageOverdue l t s) :=
  canonical_onLane fun _ h => wf_ite ((raise_frame ..).wf ((put_frame ..).wf h)) h

theorem execSpareUnitHandover_canonical {part equal} : Canonical s (execSpareUnitHandover l part equal s) :=
  canonical_onLaneNow fun L h =>
    have hdone := fun f => (updChn_frame L f).wf h
    wf_ite (wf_ite ((updChn_frame ..).wf ((wr_frame ..).wf (hdone _))) ((raise_frame ..).wf (hdone _)))
      (wf_ite (wf_ite ((updChn_frame ..).wf ((wr_frame ..).wf (hdone _))) ((raise_frame ..).wf (hdone _))) h)

theorem execStageCopySwap_canonical {g equal} : Canonical s (execStageCopySwap l g equal s) := by
  have hfresh : ∀ f : ChnSt → ChnSt, s.wf = true → ((s.lane l).updChn f).wf = true := fun f hs => (updChn_frame ..).wf (State.wf_iff.mp hs l)
  refine canonical_ite (canonical_sameLanes rfl) (canonical_ite (canonical_ite (canonical_next fun hs => ?_) (canonical_sameLanes rfl))
    (canonical_ite (canonical_next fun hs => ?_) (canonical_sameLanes rfl)))
  · exact State.wf_of_lanes rfl (State.wf_updLane (l := l) hs fun _ => wf_ite ((put_frame ..).wf (hfresh _ hs)) (hfresh _ hs))
  · exact State.wf_of_lanes rfl (State.wf_updLane (l := l) hs fun _ => (copyFailed_frame ..).wf (hfresh _ hs))

end

section
open LaneSt
variable {s : State} {l : Lane}

/-! ### Register writes (R458) -/

theorem State.wf_forBits {f : Nat → State → Out} (hf : ∀ (j : Nat) (u : State), Canonical u (f j u)) (v : Word) (hs : s.wf = true) :
    (forBits v f s).wf = true :=
  State.wf_foldl (fun u j hu => State.wf_ite (hf j u hu) hu) _ hs

theorem State.wf_writeSafeReq (v : Word) (hs : s.wf = true) : (s.writeSafeReq l v).wf = true :=
  have hsto := execSafeReqSto_canonical hs
  State.wf_ite (execSafeReqClr_canonical (execSafeReqSs1_canonical hsto)) hsto

theorem State.wf_writeFcAck (v : Word) (hs : s.wf = true) : (s.writeFcAck l v).wf = true :=
  have hack := execAcknowledgeClass_canonical hs
  State.wf_ite (execRearm_canonical hack) hack

theorem State.wf_takeFresh (hs : s.wf = true) : (s.updLane l fun _ => (s.lane l).fresh.2).wf = true :=
  State.wf_updLane hs fun h => (fresh_frame ..).wf h

theorem State.wf_writeAuxCmd (v : Word) (hs : s.wf = true) : (s.writeAuxCmd l v).wf = true := by
  refine State.wf_ite (State.wf_updLane hs fun h => (refuseWrite_frame ..).wf h) ?_
  split
  case h_1 => exact execMove_canonical hs
  case h_2 => exact execStop_canonical hs
  case h_3 => exact execHardstop_canonical hs
  case h_4 => exact execHome_canonical hs
  case h_5 => exact execClear_canonical (State.wf_takeFresh hs)
  case h_6 => exact execCommitTbl_canonical hs
  case h_7 => exact hs

theorem State.wf_canAbort (c : CanId) (b : Nat) (v : Word) (hs : s.wf = true) : (s.canAbort l c b v).wf = true :=
  State.wf_forBits (fun _ _ => execCanTxAbort_canonical) v (State.wf_takeFresh hs)

theorem State.wf_canTrigger {t : State} {c : CanId} {o : Nat} {v : Word} (h : s.canTrigger l c o v = some t) (hs : s.wf = true) :
    t.wf = true := by
  unfold State.canTrigger at h
  split at h
  · cases h; exact execRecover_canonical hs
  · split at h
    · cases h; exact execCanRxRelease_canonical hs
    · split at h
      · cases h; exact State.wf_forBits (fun _ _ => execCanTxRequest_canonical) v hs
      · split at h
        · cases h; exact State.wf_canAbort c _ v hs
        · cases h

/-- A register whose write is a command. -/
theorem State.wf_trigger {t : State} {a : Nat} {v : Word} (h : s.trigger l a v = some t) (hs : s.wf = true) : t.wf = true := by
  unfold State.trigger at h
  split at h
  case h_1 => cases h; exact execSysReq_canonical hs
  case h_2 => cases h; exact State.wf_writeFcAck v hs
  case h_3 => cases h; exact execFaultInject_canonical hs
  case h_4 => cases h; exact execPosSnap_canonical hs
  case h_5 => cases h; exact execReref_canonical hs
  case h_6 => cases h; exact State.wf_ite (execCommit_canonical hs) hs
  case h_7 => cases h; exact execStgRearm_canonical hs
  case h_8 => cases h; exact State.wf_writeSafeReq v hs
  case h_9 => cases h; exact execTxPost_canonical hs
  case h_10 => cases h; exact execCpiAck_canonical hs
  case h_11 => cases h; exact State.wf_writeAuxCmd v hs
  case h_12 => cases h; exact State.wf_updLane hs fun h => (mbxPost_frame ..).wf h
  case h_13 => cases h; exact execMbxReplyRelease_canonical hs
  case h_14 => cases h; exact State.wf_updLane hs fun h => (mbxCrook_frame ..).wf h
  case h_15 =>
    split at h
    · exact State.wf_canTrigger h hs
    · cases h

theorem State.wf_regWrite (a : Nat) (v sets : Word) (hs : s.wf = true) : (s.regWrite l a v sets).wf = true := by
  unfold State.regWrite
  refine State.wf_ite (State.wf_updLane hs fun h => (raise_frame ..).wf h) (State.wf_ite hs ?_)
  split
  · exact hs
  · split
    · exact State.wf_trigger ‹_› hs
    · exact State.wf_updLane hs fun h => (plainWrite_frame ..).wf h

theorem execRegisterWrite_canonical {addr v sets} : Canonical s (execRegisterWrite l addr v sets s) :=
  canonical_next fun hs => State.wf_ite (State.wf_regWrite addr v sets hs) hs

/-! ### Checked execution (05) -/

theorem State.wf_busStore {t : State} {w : Width} {a : Nat} {v : Word} (h : s.busStore l w a v = some t) (hs : s.wf = true) :
    t.wf = true := by
  unfold State.busStore at h
  split at h
  · cases h
  · split at h
    · cases h; exact State.wf_updLane hs fun h => (setBytes_frame ..).wf h
    · split at h
      · cases h; exact State.wf_regWrite a v 0 hs
      · cases h

theorem State.wf_storeInstr (w : Width) (fp : Bool) (rs1 rs2 : Nat) (off : Word) (len : Nat) (u : Upset) (hs : s.wf = true) :
    (s.storeInstr l w fp rs1 rs2 off len u).wf = true := by
  unfold State.storeInstr
  have hagree : (s.updLane l fun L => L.storeAgree w fp rs1 rs2 off u).wf = true := State.wf_updLane hs fun h => (storeAgree_frame ..).wf h
  have htaken : ((s.updLane l fun L => L.storeAgree w fp rs1 rs2 off u).updLane l LaneSt.scbTake).wf = true :=
    State.wf_updLane hagree fun h => (scbTake_frame ..).wf h
  refine State.wf_ite hagree ?_
  dsimp only
  split
  · exact State.wf_updLane htaken fun h => (accessTrap_frame ..).wf h
  · next t ht => exact State.wf_updLane (State.wf_busStore ht htaken) fun h => (retire_frame ..).wf h

theorem State.wf_runInstr (i : CoreInstr) (u : Upset) (q : IssueIn) (hs : s.wf = true) : (s.runInstr l i u q).wf = true := by
  unfold State.runInstr
  have hissue : (s.updLane l fun L => L.issue i q).wf = true := State.wf_updLane hs fun h => (issue_frame ..).wf h
  have hsingle : (if u = .eccSingle then (s.updLane l fun L => L.issue i q).updLane l fun L => L.raise 0x010A
      else s.updLane l fun L => L.issue i q).wf = true :=
    State.wf_ite (State.wf_updLane hissue fun h => (raise_frame ..).wf h) hissue
  refine State.wf_ite (State.wf_updLane hissue fun h => (mismatch_frame ..).wf h)
    (State.wf_ite (State.wf_updLane hissue fun h => (eccDouble_frame ..).wf h) ?_)
  dsimp only
  split
  · exact State.wf_storeInstr _ _ _ _ _ _ _ hsingle
  · exact State.wf_storeInstr _ _ _ _ _ _ _ hsingle
  · exact State.wf_updLane hsingle fun h => (laneInstr_frame ..).wf h

theorem State.wf_onHart {f : State → State} (hf : ∀ u : State, u.wf = true → (f u).wf = true) (second : Bool) (hs : s.wf = true) :
    (s.onHart l second f).wf = true :=
  State.wf_ite (hf s hs) (State.wf_ite (State.wf_updLane (hf _ (State.wf_updLane hs fun h => (swapHarts_frame ..).wf h))
    fun h => (updCore_frame ..).wf ((swapHarts_frame ..).wf h)) hs)

theorem execCheckedInstruction_canonical {c i u q} : Canonical s (execCheckedInstruction l c i u q s) := by
  refine canonical_ite (canonical_updLane fun _ h => wf_ite ((runShepherd_frame ..).wf h) h)
    (canonical_next (State.wf_onHart (fun x hx => ?_) _))
  have hhalt : (x.updLane l fun L => L.halt l).wf = true := State.wf_updLane hx fun h => (halt_frame ..).wf h
  exact State.wf_ite (State.wf_ite (State.wf_ite hhalt (State.wf_runInstr i u q hhalt)) (State.wf_runInstr i u q hx)) hx

theorem execInterruptTaken_canonical {c cause} : Canonical s (execInterruptTaken l c cause s) :=
  canonical_ite (canonical_sameLanes rfl) (canonical_next (State.wf_onHart (fun _ hx => State.wf_updLane hx fun h =>
    wf_ite ((takeInterrupt_frame ..).wf h) h) _))

theorem execCoreResetAfterRecord_canonical : Canonical s (execCoreResetAfterRecord l s) :=
  canonical_onLaneNow fun _ h => wf_ite ((coreReset_frame ..).wf h) h

theorem execDebugHaltRequest_canonical : Canonical s (execDebugHaltRequest l s) :=
  canonical_onLaneNow fun _ h => wf_ite h (wf_ite (wf_ite h ((halt_frame ..).wf h)) ((incSat_frame ..).wf h))

theorem execDebugRegisterWrite_canonical {r v} : Canonical s (execDebugRegisterWrite l r v s) := by
  refine canonical_onLaneNow fun L h => ?_
  have hread := fun f => (updCore_frame _ f).wf ((debugRead_frame L r).wf h)
  refine wf_ite h (wf_ite ?_ (wf_ite h (wf_ite ((cmdError_frame ..).wf h) (wf_ite ((cmdError_frame ..).wf h) ?_))))
  · cases v
    case none => exact hread _
    case some => exact (debugModule_frame ..).wf h
  · cases v
    case none => exact hread _
    case some => exact (abstractWrite_frame ..).wf h

theorem execDebugResume_canonical : Canonical s (execDebugResume l s) := canonical_onLaneNow fun _ h => (debugRun_frame ..).wf h

theorem execDebugSingleStep_canonical {i} : Canonical s (execDebugSingleStep l i s) :=
  canonical_ite (canonical_next fun hs => State.wf_runInstr i _ _ (State.wf_updLane hs fun h => (replay_frame ..).wf h))
    (canonical_sameLanes rfl)

theorem execSystemBusAccess_canonical {addr v} : Canonical s (execSystemBusAccess l addr v s) := by
  refine canonical_ite (canonical_sameLanes rfl) (canonical_ite (canonical_updLane fun _ h => (busError_frame ..).wf h)
    (canonical_ite (canonical_updLane fun _ h => (busError_frame ..).wf h) ?_))
  cases v
  case none => exact canonical_updLane fun _ h => (updCore_frame ..).wf h
  case some v =>
    exact canonical_next fun hs => State.wf_ite (State.wf_updLane hs fun h => (setWord_frame ..).wf h) (State.wf_regWrite addr v 0 hs)

end

/-! ### Every command -/

theorem exec_canonical (c : Instr) (s : State) : Canonical s (exec c s) := by
  unfold exec
  cases c with
  | energise | prechargeComplete | isolationSwitchesOn | bootstrapsCharged | gateDroop | deEnergise | desaturation | shuntOvercurrent
    | shootThroughCommand | gateSupplyUndervoltage | clampEngage | clampRelease | enRisingEdge | phaseIsolate | isolationTimeout
    | windowClose =>
    exact canonical_updStage
  | muteFrame | portUnblock | sourceUnblock | linkRetry | pdelayRequest | arbEgressSend =>
    exact canonical_withGdn fun _ hu => State.wf_updGdn _ _ hu
  | getState | fcRead | mbxStats | fwStatus | rindStat => exact canonical_readCmd
  | reqState | safeStop | resetArm | resetConfirm | imgCommit | learnStart | calSave | fcAck | fwTrial | fwCommit =>
    exact canonical_moduleCmd
  | takeover | field | service | return_ | decommission | clearAlarm => exact canonical_lifecycle
  | registerWrite => exact execRegisterWrite_canonical
  | checkedInstruction => exact execCheckedInstruction_canonical
  | interruptTaken => exact execInterruptTaken_canonical
  | coreResetAfterRecord => exact execCoreResetAfterRecord_canonical
  | debugHaltRequest => exact execDebugHaltRequest_canonical
  | debugRegisterWrite => exact execDebugRegisterWrite_canonical
  | debugResume => exact execDebugResume_canonical
  | debugSingleStep => exact execDebugSingleStep_canonical
  | systemBusAccess => exact execSystemBusAccess_canonical
  | pwmPeriodStart => exact execPwmPeriodStart_canonical
  | crossStrapFrame => exact execCrossStrapFrame_canonical
  | slotStart => exact execSlotStart_canonical
  | agreementMessage => exact execAgreementMessage_canonical
  | subround2Relay => exact execSubround2Relay_canonical
  | voteComplete => exact execVoteComplete_canonical
  | commit => exact execCommit_canonical
  | commandDeadline => exact execCommandDeadline_canonical
  | catchupFrame => exact execCatchupFrame_canonical
  | basicCycleStart => exact execBasicCycleStart_canonical
  | grazeSpectrum => exact execGrazeSpectrum_canonical
  | churnSlice => exact execChurnSlice_canonical
  | zeroiseTimeout => exact execZeroiseTimeout_canonical
  | spareUnitHandover => exact execSpareUnitHandover_canonical
  | stageCopySwap => exact execStageCopySwap_canonical
  | churnCoverageOverdue => exact execChurnCoverageOverdue_canonical
  | groundLoss => exact execGroundLoss_canonical
  | supplyLoss => exact execSupplyLoss_canonical
  | supplyLossTimeout => exact execSupplyLossTimeout_canonical
  | supplyReturn => exact execSupplyReturn_canonical
  | parkSupplyLoss => exact execParkSupplyLoss_canonical
  | holdupExhausted => exact execHoldupExhausted_canonical
  | undervoltageWarning => exact execUndervoltageWarning_canonical
  | supplyOvervoltage => exact execSupplyOvervoltage_canonical
  | overvoltageRecovery => exact execOvervoltageRecovery_canonical
  | sensorSupplyFault => exact execSensorSupplyFault_canonical
  | guardianPowerLoss => exact execGuardianPowerLoss_canonical
  | foldEntry => exact execFoldEntry_canonical
  | sysReq => exact execSysReq_canonical
  | armSequence => exact execArmSequence_canonical
  | biasSettled => exact execBiasSettled_canonical
  | armSelftestComplete => exact execArmSelftestComplete_canonical
  | openWireTestComplete => exact execOpenWireTestComplete_canonical
  | offsetCalibrationComplete => exact execOffsetCalibrationComplete_canonical
  | armComplete => exact execArmComplete_canonical
  | handshakeDelayExceeded => exact execHandshakeDelayExceeded_canonical
  | transitionTimeout => exact execTransitionTimeout_canonical
  | transitionExecute => exact execTransitionExecute_canonical
  | thermalClockDown => exact execThermalClockDown_canonical
  | thermalClockUp => exact execThermalClockUp_canonical
  | wakeSource => exact execWakeSource_canonical
  | siblingWake => exact execSiblingWake_canonical
  | regulatorReady => exact execRegulatorReady_canonical
  | regulatorRetry => exact execRegulatorRetry_canonical
  | crystalFallback => exact execCrystalFallback_canonical
  | wakeComplete => exact execWakeComplete_canonical
  | sleepSignal => exact execSleepSignal_canonical
  | coldBoot => exact execColdBoot_canonical
  | romRecoveryLoad => exact execRomRecoveryLoad_canonical
  | versionExchange => exact execVersionExchange_canonical
  | sessionTimeout => exact execSessionTimeout_canonical
  | ringNegotiation => exact execRingNegotiation_canonical
  | satelliteHello => exact execSatelliteHello_canonical
  | satelliteLost => exact execSatelliteLost_canonical
  | spPsi5Phase => exact execSpPsi5Phase_canonical
  | resyncPoint => exact execResyncPoint_canonical
  | resyncPackage => exact execResyncPackage_canonical
  | resyncPackageTimeout => exact execResyncPackageTimeout_canonical
  | catchupComplete => exact execCatchupComplete_canonical
  | shadowingEnd => exact execShadowingEnd_canonical
  | resyncRetry => exact execResyncRetry_canonical
  | statusFrame => exact execStatusFrame_canonical
  | openWireCycleStart => exact execOpenWireCycleStart_canonical
  | openWireStep => exact execOpenWireStep_canonical
  | gpConversionComplete => exact execGpConversionComplete_canonical
  | encoderEdge => exact execEncoderEdge_canonical
  | indexEdge => exact execIndexEdge_canonical
  | hallTransition => exact execHallTransition_canonical
  | encoderSignalLoss => exact execEncoderSignalLoss_canonical
  | encoderSignalRestored => exact execEncoderSignalRestored_canonical
  | tmrSample => exact execTmrSample_canonical
  | standstillTimeout => exact execStandstillTimeout_canonical
  | posSnap => exact execPosSnap_canonical
  | extensionSnapshot => exact execExtensionSnapshot_canonical
  | reref => exact execReref_canonical
  | calRevolution => exact execCalRevolution_canonical
  | calApply => exact execCalApply_canonical
  | spFrame => exact execSpFrame_canonical
  | spTimeout => exact execSpTimeout_canonical
  | ssiTransaction => exact execSsiTransaction_canonical
  | commutationPeriod => exact execCommutationPeriod_canonical
  | peakLimitEngage => exact execPeakLimitEngage_canonical
  | peakLimitLift => exact execPeakLimitLift_canonical
  | observerFloat => exact execObserverFloat_canonical
  | bemfCaptureStart => exact execBemfCaptureStart_canonical
  | bemfZeroCrossing => exact execBemfZeroCrossing_canonical
  | reacqTimeout => exact execReacqTimeout_canonical
  | flyingStartTimeout => exact execFlyingStartTimeout_canonical
  | learningRunStart => exact execLearningRunStart_canonical
  | learningApply => exact execLearningApply_canonical
  | stgRearm => exact execStgRearm_canonical
  | enPulseEnd => exact execEnPulseEnd_canonical
  | stoLatchSet => exact execStoLatchSet_canonical
  | stoTestPulse => exact execStoTestPulse_canonical
  | safeReqSto => exact execSafeReqSto_canonical
  | safeReqSs1 => exact execSafeReqSs1_canonical
  | safeReqClr => exact execSafeReqClr_canonical
  | ss1Standstill => exact execSs1Standstill_canonical
  | ss1Timeout => exact execSs1Timeout_canonical
  | safeAckEdge => exact execSafeAckEdge_canonical
  | safeAckQualified => exact execSafeAckQualified_canonical
  | resetPendingExpiry => exact execResetPendingExpiry_canonical
  | faultRaise => exact execFaultRaise_canonical
  | lineFault => exact execLineFault_canonical
  | siblingLineChange => exact execSiblingLineChange_canonical
  | laneSilent => exact execLaneSilent_canonical
  | acknowledgeClass => exact execAcknowledgeClass_canonical
  | rearm => exact execRearm_canonical
  | faultRecordWritten => exact execFaultRecordWritten_canonical
  | maskClose => exact execMaskClose_canonical
  | faultInject => exact execFaultInject_canonical
  | thermalRejoin => exact execThermalRejoin_canonical
  | laneThermalTrip => exact execLaneThermalTrip_canonical
  | stageThermalTrip => exact execStageThermalTrip_canonical
  | windingThermalTrip => exact execWindingThermalTrip_canonical
  | clockFault => exact execClockFault_canonical
  | syncFrame => exact execSyncFrame_canonical
  | offsetCorrection => exact execOffsetCorrection_canonical
  | rateCorrection => exact execRateCorrection_canonical
  | passiveTimeout => exact execPassiveTimeout_canonical
  | listenTimeout => exact execListenTimeout_canonical
  | coldstartFrame => exact execColdstartFrame_canonical
  | localSyncSend => exact execLocalSyncSend_canonical
  | localSyncFrame => exact execLocalSyncFrame_canonical
  | startupTimeout => exact execStartupTimeout_canonical
  | startupComplete => exact execStartupComplete_canonical
  | cyclePoint => exact execCyclePoint_canonical
  | cpiAck => exact execCpiAck_canonical
  | flockFrameReceive => exact execFlockFrameReceive_canonical
  | txPost => exact execTxPost_canonical
  | flockTransmit => exact execFlockTransmit_canonical
  | skimEncode => exact execSkimEncode_canonical
  | guardianRingFrame => exact execGuardianRingFrame_canonical
  | guardianLocalFrame => exact execGuardianLocalFrame_canonical
  | windowEndCutoff => exact execWindowEndCutoff_canonical
  | portBroken => exact execPortBroken_canonical
  | loopEstablished => exact execLoopEstablished_canonical
  | loopRelease => exact execLoopRelease_canonical
  | pdelayFrame => exact execPdelayFrame_canonical
  | arbWindowEnd => exact execArbWindowEnd_canonical
  | muteStart => exact execMuteStart_canonical
  | muteExpiry => exact execMuteExpiry_canonical
  | ringWake => exact execRingWake_canonical
  | guardianStatusWord => exact execGuardianStatusWord_canonical
  | canFrameReceive => exact execCanFrameReceive_canonical
  | rateDetect => exact execRateDetect_canonical
  | rateDetectTimeout => exact execRateDetectTimeout_canonical
  | canRxRelease => exact execCanRxRelease_canonical
  | canTxRequest => exact execCanTxRequest_canonical
  | canTxAbort => exact execCanTxAbort_canonical
  | canTxDone => exact execCanTxDone_canonical
  | silenceRequest => exact execSilenceRequest_canonical
  | silenceExpiry => exact execSilenceExpiry_canonical
  | busDominant => exact execBusDominant_canonical
  | busRecessiveResume => exact execBusRecessiveResume_canonical
  | busOff => exact execBusOff_canonical
  | recover => exact execRecover_canonical
  | busOffRecovery => exact execBusOffRecovery_canonical
  | segmentTimeout => exact execSegmentTimeout_canonical
  | confirmTimeout => exact execConfirmTimeout_canonical
  | quarantineEnd => exact execQuarantineEnd_canonical
  | hello => exact execHello_canonical
  | getId => exact execGetId_canonical
  | attest => exact execAttest_canonical
  | getKey => exact execGetKey_canonical
  | imgBegin => exact execImgBegin_canonical
  | imgWrite => exact execImgWrite_canonical
  | imgVerify => exact execImgVerify_canonical
  | cfgRead => exact execCfgRead_canonical
  | calRead => exact execCalRead_canonical
  | recRead => exact execRecRead_canonical
  | tallyRead => exact execTallyRead_canonical
  | logRead => exact execLogRead_canonical
  | fwBegin => exact execFwBegin_canonical
  | fwWrite => exact execFwWrite_canonical
  | fwVerify => exact execFwVerify_canonical
  | password => exact execPassword_canonical
  | unlockReq => exact execUnlockReq_canonical
  | unlockResp => exact execUnlockResp_canonical
  | challengeExpiry => exact execChallengeExpiry_canonical
  | provision => exact execProvision_canonical
  | keyLoad => exact execKeyLoad_canonical
  | grazeTap => exact execGrazeTap_canonical
  | skimTap => exact execSkimTap_canonical
  | tapStop => exact execTapStop_canonical
  | tapDelivery => exact execTapDelivery_canonical
  | tapEnd => exact execTapEnd_canonical
  | crook => exact execCrook_canonical
  | crookForced => exact execCrookForced_canonical
  | crookReply => exact execCrookReply_canonical
  | shepherdRestart => exact execShepherdRestart_canonical
  | mbxReplyRelease => exact execMbxReplyRelease_canonical
  | rindSource => exact execRindSource_canonical
  | glitchDetect => exact execGlitchDetect_canonical
  | move => exact execMove_canonical
  | stop => exact execStop_canonical
  | hardstop => exact execHardstop_canonical
  | home => exact execHome_canonical
  | clear => exact execClear_canonical
  | commitTbl => exact execCommitTbl_canonical
  | plannerTick => exact execPlannerTick_canonical
  | microstep => exact execMicrostep_canonical
  | standstillEntry => exact execStandstillEntry_canonical
  | limitSwitchTransition => exact execLimitSwitchTransition_canonical
  | homingStopComplete => exact execHomingStopComplete_canonical
  | homingTimeout => exact execHomingTimeout_canonical
  | coilFault => exact execCoilFault_canonical
  | unknownRequest => exact execUnknownRequest_canonical
  | canBusError => exact execCanBusError_canonical
  | debugSessionOpen => exact execDebugSessionOpen_canonical
  | debugSessionClose => exact execDebugSessionClose_canonical
  | factoryTestToken => exact execFactoryTestToken_canonical

/-- Settles O5: the step takes the front command, and each command is built from operations that keep the form. -/
theorem stepKeepsCanonical : Obligations.StepKeepsCanonical := by
  intro s t hs hstep
  unfold step at hstep
  split at hstep
  · cases hstep
    exact hs
  · next c rest _ =>
    have hc := exec_canonical c { s with pending := rest } hs
    rwa [hstep] at hc

end Sys2Proof.Machine

/-! ## Message copies (R14, R143 to R145, R153) -/
namespace Sys2Proof.Machine

theorem LaneSt.raise_agr (L : LaneSt) (id d : Nat) : (L.raise id d).agr = L.agr := (L.raise_frame id d).1 .agr (by decide)

/-- A source's assertion after a change within agreement, seen from before that change. -/
theorem LaneSt.updAgr_raise (L : LaneSt) (f : AgrSt → AgrSt) {id : Nat} (d : Nat) (hid : id < 65536) :
    L.keeps (.agr :: faultParts) ((L.updAgr f).raise id d) ∧ L.keepsRegs faultRegs ((L.updAgr f).raise id d) ∧
      ((L.updAgr f).raise id d).agr = f L.agr ∧ L.reported ((L.updAgr f).raise id d) id d := by
  refine ⟨?_, keepsRegs_trans (raise_regs _ _ _ hid) (keepsRegs_of_regs rfl (L.keepsRegs_refl _)), raise_agr _ _ _,
    reported_of_sameCollector (M := L.updAgr f) hid (fun _ _ => rfl) rfl (raise_reported _ _ _ hid)⟩
  exact (frame_step (raise_frame _ _ _) (by decide) (frame_mono (L.updAgr_frame f) (by decide))).1

/-- The message that a direct copy brings is heard, verified or not (R144). -/
def LaneSt.hear (L : LaneSt) (relayed : Bool) (m : AgrMsg) : LaneSt :=
  L.updAgr fun g => { g with heard := if relayed then g.heard else setNth g.heard (laneIx m.lane) (some m) }

theorem LaneSt.hear_eq (L : LaneSt) (relayed : Bool) (m : AgrMsg) :
    (if relayed then L else L.updAgr fun g => { g with heard := setNth g.heard (laneIx m.lane) (some m) }) = L.hear relayed m := by
  cases relayed <;> rfl

section
variable {s : State} {l : Lane} {m : AgrMsg}

theorem agreementMessage_copies (hin : (s.lane l).inRounds = true) (hm : m.lane ≠ l) (relayed : Bool) (len : Nat) (inTime : Bool) :
    LaneRuns (.agreementMessage l relayed m len inTime) s l fun L =>
      let old := s.lane l
      let ok := old.inSequence m && old.verifies l m
      let heard := if relayed then old.agr.heard else setNth old.agr.heard (laneIx m.lane) (some m)
      (len = 220 → inTime = true → ok = true → old.keeps [.agr] L ∧ L.agr = (if relayed
        then { old.agr with relayed := setNth old.agr.relayed (laneIx m.lane) (some m) }
        else { old.agr with heard := heard, direct := setNth old.agr.direct (laneIx m.lane) (some m) })) ∧
      (len = 220 → inTime = true → ok = false → old.keeps (.agr :: faultParts) L ∧ old.keepsRegs faultRegs L ∧
        L.agr = { old.agr with heard := heard } ∧ old.reported L 0x0205 (laneIx m.lane + 1)) ∧
      (len ≠ 220 ∨ inTime = false → old.keeps faultParts L ∧ old.keepsRegs faultRegs L ∧
        old.reported L 0x0205 (laneIx m.lane + 1)) := by
  refine laneRuns_updLane rfl ?_
  generalize s.lane l = L at *
  have hround : ¬ (!L.inRounds || m.lane == l) = true := by simp [hin, hm]
  dsimp only
  rw [if_neg hround, LaneSt.hear_eq]
  have hsame : ((L.hear relayed m).inSequence m && (L.hear relayed m).verifies l m) = (L.inSequence m && L.verifies l m) := rfl
  rw [hsame]
  refine ⟨fun hlen htime hok => ?_, fun hlen htime hok => ?_, fun hshort => ?_⟩
  · rw [if_neg (by simp [hlen, htime, msgLength]), if_pos hok]
    refine ⟨(LaneSt.frame_seq (LaneSt.keepCopy_frame _ _ _) (LaneSt.updAgr_frame _ _)).1, ?_⟩
    cases relayed <;> rfl
  · rw [if_neg (by simp [hlen, htime, msgLength]), if_neg (by simp [hok])]
    exact L.updAgr_raise _ _ (by decide)
  · rw [if_pos (by simpa [msgLength] using hshort)]
    exact ⟨L.keeps_raise _ _, L.raise_regs _ _ (by decide), L.raise_reported _ _ (by decide)⟩

theorem subround2Relay_sends (hin : (s.lane l).inRounds = true) : LaneRuns (.subround2Relay l) s l fun L => (s.lane l).keeps [.agr] L ∧
    L.agr = { (s.lane l).agr with sent := (s.lane l).agr.heard } := by
  refine laneRuns_updLane rfl ?_
  dsimp only
  rw [if_pos hin]
  exact ⟨((s.lane l).updAgr_frame _).1, rfl⟩

theorem catchupFrame_keeps (hin : (s.lane l).inRounds = true) (hm : m.lane ≠ l) (htoken : (s.lane l).agr.token = laneIx l + 1)
    (hslot : (s.lane l).rd Reg.AGR_SEQ_SLOT = 2) {ok : Bool}
    (hok : ok = ((s.lane l).verifies l m && m.slot == 2 && m.cyc % 32 == cycleOf (s.lane l).time % 32)) :
    LaneRuns (.catchupFrame l m) s l fun L => (s.lane l).keeps (.agr :: faultParts) L ∧ (s.lane l).keepsRegs faultRegs L ∧
      L.agr = { (s.lane l).agr with catchup := (s.lane l).agr.catchup ++ [if ok then some m else none] } ∧
      (ok = true → (s.lane l).keeps [.agr] L) ∧ (ok = false → (s.lane l).reported L 0x0205 (laneIx m.lane + 1)) := by
  refine laneRuns_updLane rfl ?_
  generalize s.lane l = L at *
  have hwaits : (L.inRounds && l != m.lane && L.agr.token == laneIx l + 1 && L.rd Reg.AGR_SEQ_SLOT == 2) = true := by
    simp [hin, htoken, hslot, Ne.symm hm]
  dsimp only
  rw [if_pos hwaits, ← hok]
  cases ok
  case false =>
    obtain ⟨hkeeps, hregs, hagr, hreported⟩ := L.updAgr_raise (fun g => { g with catchup := g.catchup ++ [none] })
      (laneIx m.lane + 1) (id := 0x0205) (by decide)
    exact ⟨hkeeps, hregs, hagr, nofun, fun _ => hreported⟩
  case true =>
    have hframe := L.updAgr_frame fun g => { g with catchup := g.catchup ++ [some m] }
    exact ⟨(LaneSt.frame_mono hframe (by decide)).1, LaneSt.keepsRegs_of_regs rfl (L.keepsRegs_refl _), rfl, fun _ => hframe.1, nofun⟩

end

/-- Of two copies that differ none is used, and the sender equivocated; of one, or of two that are equal, it is used. -/
theorem decideCopies_spec (d r : Option AgrMsg) : ((decideCopies d r).2 = true ↔ d.isSome = true ∧ r.isSome = true ∧ d ≠ r) ∧
    ((decideCopies d r).1 = none ↔ (d = none ∧ r = none) ∨ (decideCopies d r).2 = true) ∧
    ∀ m, (decideCopies d r).1 = some m → d = some m ∨ r = some m := by
  rcases d with _ | a <;> rcases r with _ | b
  case some.some =>
    by_cases hab : a = b
    · simp [decideCopies, hab]
    · simp [decideCopies, hab]
  all_goals simp [decideCopies]

/-- Settles O27: a message in time is heard and kept or told as 0x0205, by its length, its round and its tag. -/
theorem copiesDecideMessage : Obligations.CopiesDecideMessage :=
  ⟨fun _ _ _ relayed inTime len hin hm => agreementMessage_copies hin hm relayed len inTime, fun _ _ hin => subround2Relay_sends hin,
    fun _ _ _ _ hin hm htoken hslot hok => catchupFrame_keeps hin hm htoken hslot hok, decideCopies_spec⟩

end Sys2Proof.Machine

/-! ## Slot start, votes and basic cycles (R8, R24, R25, R120, R141, R142, R147, R155, R158, R171, R178, R325) -/
namespace Sys2Proof.Machine

/-! ### Which registers a round's start changes -/

section
variable {rs : List Nat}

theorem LaneSt.keepsRegs_foldl {α : Type} {f : LaneSt → α → LaneSt} (xs : List α) (h : ∀ M : LaneSt, ∀ x ∈ xs, M.keepsRegs rs (f M x))
    (L : LaneSt) : L.keepsRegs rs (xs.foldl f L) := by
  induction xs generalizing L with
  | nil => exact L.keepsRegs_refl rs
  | cons x xs ih => exact keepsRegs_trans (ih (fun M y hy => h M y (List.mem_cons_of_mem _ hy)) _) (h L x List.mem_cons_self)

theorem LaneSt.keepsRegs_forN {n : Nat} {f : Nat → LaneSt → LaneSt} (h : ∀ i < n, ∀ M : LaneSt, M.keepsRegs rs (f i M)) (L : LaneSt) :
    L.keepsRegs rs (forN n f L) :=
  keepsRegs_foldl _ (fun M i hi => h i (List.mem_range.mp hi) M) L

theorem LaneSt.keepsRegs_for3 {f : Nat → LaneSt → LaneSt} (h : ∀ i < 3, ∀ M : LaneSt, M.keepsRegs rs (f i M)) (L : LaneSt) :
    L.keepsRegs rs (for3 f L) :=
  keepsRegs_trans (h 2 (by decide) _) (keepsRegs_trans (h 1 (by decide) _) (h 0 (by decide) L))

/-- A change that leaves the registers alone, from the same lane. -/
theorem LaneSt.keepsRegs_same {L M : LaneSt} (h : M.regs = L.regs) : L.keepsRegs rs M := keepsRegs_of_regs h (L.keepsRegs_refl rs)

/-- One field written, from the same lane. -/
theorem LaneSt.wr_keepsRegs (L : LaneSt) (f : Fld) (v : Nat) (h : covered rs f.addr = true) : L.keepsRegs rs (L.wr f v) :=
  keepsRegs_wr h (L.keepsRegs_refl rs)

end

/-- What leaving learning writes: COM_LEARN_STAT and COM_STAT. -/
def learnRegs : List Nat := [0x40060000, 0x40060034]

/-- What entering RESYNC writes besides. -/
def resyncRegs : List Nat := [0x40000004, 0x40020018, 0x40030004, 0x40060000, 0x40060034]

theorem LaneSt.endLearn_regs (L : LaneSt) (r : Nat) : L.keepsRegs learnRegs (L.endLearn r) :=
  keepsRegs_of_regs (M := (L.wr Reg.COM_LEARN_STAT_RESULT r).put Reg.COM_STAT_LEARN false) rfl
    (keepsRegs_wr (by decide) (L.wr_keepsRegs _ _ (by decide)))

theorem LaneSt.learnResync_regs (L : LaneSt) : L.keepsRegs learnRegs L.learnResync :=
  keepsRegs_ite (L.endLearn_regs 4) (L.keepsRegs_refl _)

theorem LaneSt.resetControl_regs (L : LaneSt) : L.keepsRegs learnRegs L.resetControl :=
  keepsRegs_of_regs (M := L.learnResync) rfl L.learnResync_regs

theorem LaneSt.endMask_regs {rs : List Nat} (L : LaneSt) (b : Nat) : L.keepsRegs rs (L.endMask b) :=
  keepsRegs_ite (keepsRegs_same rfl) (L.keepsRegs_refl _)

theorem LaneSt.enterResync_regs (L : LaneSt) : L.keepsRegs resyncRegs L.enterResync := by
  unfold LaneSt.enterResync
  extract_lets A B fc agr C
  have hA : L.keepsRegs resyncRegs A := keepsRegs_trans (keepsRegs_mono (LaneSt.resetControl_regs _) (by decide))
    (keepsRegs_mono (L.zeroClaims_regs 7 2) (by decide))
  have hB : L.keepsRegs resyncRegs B :=
    keepsRegs_ite (keepsRegs_wr (by decide) hA) (keepsRegs_wr (by decide) (keepsRegs_wr (by decide) hA))
  have hC : L.keepsRegs resyncRegs C := keepsRegs_of_regs (M := B) rfl hB
  exact keepsRegs_ite (L.keepsRegs_refl _)
    (keepsRegs_of_regs (M := C.endMask 0) rfl (keepsRegs_trans (C.endMask_regs 0) hC))

/-- The registers, and the blocks of registers, that a round's start can write after the posting has turned. -/
def sendRegs : List Nat := [0x4000, 0x4002, 0x40030004, 0x40060000, 0x40060034, 0x400D, 0x400E, 0x400F]

theorem LaneSt.forgo_regs (L : LaneSt) (why : Nat) : L.keepsRegs sendRegs (L.forgo why) :=
  keepsRegs_wr (by decide) (keepsRegs_wr (by decide) (keepsRegs_wr (by decide) (L.wr_keepsRegs _ _ (by decide))))

theorem LaneSt.turnLost_regs (L : LaneSt) (l : Lane) (n k : Nat) : L.keepsRegs sendRegs (L.turnLost l n k) :=
  keepsRegs_ite (L.forgo_regs _) (L.keepsRegs_refl _)

/-- A word of the shown round is in the agreement block. -/
theorem histWord_covered {i : Nat} (h : i < 50) : covered sendRegs (0x40020500 + 4 * i) = true :=
  covered_block (b := 0x4002) (by omega) (by decide) (by decide)

theorem LaneSt.showHist_regs (L : LaneSt) : L.keepsRegs sendRegs L.showHist := by
  unfold LaneSt.showHist
  split
  case h_1 r _ =>
    refine keepsRegs_wr (by decide) (keepsRegs_foldl _ (fun M x hx => ?_) L)
    have hlt := List.snd_lt_of_mem_zipIdx hx
    refine keepsRegs_setReg (histWord_covered ?_) (M.keepsRegs_refl _)
    simp only [List.length_append, List.length_take, List.length_replicate, List.length_cons, List.length_nil] at hlt
    omega
  case h_2 =>
    exact keepsRegs_wr (by decide)
      (keepsRegs_forN (fun i hi M => keepsRegs_setReg (histWord_covered hi) (M.keepsRegs_refl _)) L)

theorem LaneSt.sendReply_regs {rs : List Nat} (L : LaneSt) (p : Reply) : L.keepsRegs rs (L.sendReply p) :=
  keepsRegs_ite (keepsRegs_same rfl) (keepsRegs_same rfl)

/-- What a session's end writes. -/
def sessionRegs : List Nat := [0x400E, 0x400F]

/-- A reply that ends a request frees the inner mailbox at most. -/
theorem LaneSt.answered_regs (L : LaneSt) (r : Req) (p : Reply) :
    L.keepsRegs sessionRegs (((L.sendReply p).keepReply r p).freeInner r) := by
  have h : L.keepsRegs sessionRegs ((L.sendReply p).keepReply r p) := keepsRegs_of_regs rfl (L.sendReply_regs p)
  exact keepsRegs_ite (keepsRegs_wr (by decide) h) h

theorem LaneSt.closeSession_regs (L : LaneSt) : L.keepsRegs sessionRegs L.closeSession := by
  unfold LaneSt.closeSession
  extract_lets id mine A B busy C D
  have hA : L.keepsRegs sessionRegs A := keepsRegs_foldl _ (fun M h _ => M.answered_regs h.req _) L
  have hB : L.keepsRegs sessionRegs B := keepsRegs_trans (keepsRegs_foldl _ (fun M x _ => M.answered_regs x.req _) A) hA
  have hC : L.keepsRegs sessionRegs C := keepsRegs_wr (by decide) (keepsRegs_setReg (by decide) (keepsRegs_setReg (by decide) hB))
  have hD : L.keepsRegs sessionRegs D := keepsRegs_of_regs rfl hC
  exact keepsRegs_ite (L.keepsRegs_refl _)
    (keepsRegs_of_regs (M := D.put Reg.SEC_DBG_STAT_CHAL false) rfl (keepsRegs_wr (by decide) hD))

theorem LaneSt.endSession_regs (L : LaneSt) : L.keepsRegs sendRegs L.endSession :=
  keepsRegs_ite (keepsRegs_mono L.closeSession_regs (by decide)) (keepsRegs_same rfl)

theorem LaneSt.beginTransition_regs (L : LaneSt) (t : Nat) : L.keepsRegs sendRegs (L.beginTransition t) := by
  unfold LaneSt.beginTransition
  extract_lets up A B
  have hA : L.keepsRegs sendRegs A := keepsRegs_wr (by decide) (L.wr_keepsRegs _ _ (by decide))
  have hB : L.keepsRegs sendRegs B := keepsRegs_setReg (by decide) hA
  exact keepsRegs_trans (LaneSt.endSession_regs _) (keepsRegs_of_regs (M := B) rfl hB)

theorem LaneSt.followCatchup_regs (L : LaneSt) (m : AgrMsg) : L.keepsRegs sendRegs (L.followCatchup m) :=
  keepsRegs_ite (L.beginTransition_regs _) (L.keepsRegs_refl _)

theorem LaneSt.learnRound_regs (L : LaneSt) (w : Nat) (v : Int) (ok : Bool) : L.keepsRegs learnRegs (L.learnRound w v ok) := by
  unfold LaneSt.learnRound
  split
  case h_1 => exact L.keepsRegs_refl _
  case h_2 r _ =>
    refine keepsRegs_ite (L.keepsRegs_refl _) (keepsRegs_ite (L.endLearn_regs 3) ?_)
    extract_lets wrapped r' A _
    have hA : L.keepsRegs learnRegs A := keepsRegs_ite (L.wr_keepsRegs _ _ (by decide)) (L.keepsRegs_refl _)
    exact keepsRegs_of_regs (M := A) rfl hA

theorem LaneSt.takeCatchup_regs (L : LaneSt) : L.keepsRegs sendRegs L.takeCatchup := by
  unfold LaneSt.takeCatchup
  extract_lets cs A
  have hA : L.keepsRegs sendRegs A := keepsRegs_same rfl
  have hR : L.keepsRegs sendRegs A.enterResync := keepsRegs_trans (keepsRegs_mono A.enterResync_regs (by decide)) hA
  clear_value cs
  split
  case h_1 =>
    refine keepsRegs_ite ?_ hR
    extract_lets h B
    have hB : L.keepsRegs sendRegs B := by
      refine keepsRegs_trans (LaneSt.followCatchup_regs _ _) (keepsRegs_trans (LaneSt.showHist_regs _) (keepsRegs_wr (by decide) ?_))
      exact keepsRegs_of_regs (M := A) rfl hA
    exact keepsRegs_trans (keepsRegs_mono (B.learnRound_regs _ _ _) (by decide)) hB
  case h_2 => exact hR

theorem LaneSt.churnSlot_regs (L : LaneSt) (l : Lane) (k : Nat) : L.keepsRegs sendRegs (L.churnSlot l k) := by
  unfold LaneSt.churnSlot
  extract_lets mine A
  split
  · exact keepsRegs_same rfl
  · exact keepsRegs_ite (keepsRegs_same rfl) (L.keepsRegs_refl _)
  · have hA : L.keepsRegs sendRegs A := keepsRegs_same rfl
    exact keepsRegs_ite (keepsRegs_trans A.takeCatchup_regs hA) hA
  · exact L.keepsRegs_refl _

theorem LaneSt.noteCarried_regs (L : LaneSt) (d : Option (BitVec 16)) : L.keepsRegs sendRegs (L.noteCarried d) :=
  keepsRegs_of_regs (M := (L.put Reg.MBX_CONFIRM_VALID d.isSome).wr Reg.MBX_CONFIRM_DIGEST (d.getD 0#16).toNat) rfl
    (keepsRegs_wr (by decide) (L.wr_keepsRegs _ _ (by decide)))

theorem LaneSt.sendRound_regs (L : LaneSt) (l : Lane) (t : Nat) : L.keepsRegs sendRegs (L.sendRound l t) := by
  unfold LaneSt.sendRound
  extract_lets k n A B C b D E m
  have hA : L.keepsRegs sendRegs A := keepsRegs_same rfl
  have hB : L.keepsRegs sendRegs B := keepsRegs_wr (by decide) (keepsRegs_wr (by decide) hA)
  have hC : L.keepsRegs sendRegs C :=
    keepsRegs_trans (LaneSt.churnSlot_regs _ l k) (keepsRegs_trans (B.turnLost_regs l n k) hB)
  have hD : L.keepsRegs sendRegs D := keepsRegs_trans (C.noteCarried_regs _) hC
  exact keepsRegs_ite hA (keepsRegs_ite hC (keepsRegs_of_regs (M := E) rfl (keepsRegs_of_regs (M := D) rfl hD)))

theorem LaneSt.refreshClaims_regs (L : LaneSt) (l : Lane) : L.keepsRegs [0x40030004] (L.refreshClaims l) := by
  refine keepsRegs_for3 (fun i _ M => ?_) L
  extract_lets m why
  exact keepsRegs_ite (M.wr_keepsRegs (Reg.CLAIM_OF i) m (show covered [0x40030004] 0x40030004 = true by decide))
    (keepsRegs_ite (M.keepsRegs_refl _) (M.zeroClaims_regs _ _))

end Sys2Proof.Machine

/-! ### A slot starts (R24, R25, R142) -/
namespace Sys2Proof.Machine

/-- The safe torque-off inputs are of the stages only. -/
theorem State.driveSto_guardians (s : State) (l : Lane) : (s.driveSto l).gX = s.gX ∧ (s.driveSto l).gY = s.gY := by
  have hstep : ∀ (c : Prop) [Decidable c] (u v : State) (x : Tri StageSt), u.gX = v.gX ∧ u.gY = v.gY →
      (if c then { u with stages := x } else u).gX = v.gX ∧ (if c then { u with stages := x } else u).gY = v.gY := by
    intro c _ u v x h
    split <;> exact h
  exact hstep _ _ _ _ (hstep _ _ _ _ (hstep _ _ _ _ ⟨rfl, rfl⟩))

@[simp] theorem State.driveSto_lane (s : State) (l o : Lane) : (s.driveSto l).lane o = s.lane o :=
  congrArg (fun x : Tri LaneSt => nth x (laneIx o)) (s.driveSto_lanes l)

/-- A warning on a temperature posts nothing. -/
theorem LaneSt.tempWarn_posted (L : LaneSt) (i : Nat) : (L.tempWarn i).com.posted = L.com.posted := by
  unfold LaneSt.tempWarn
  extract_lets hot warm was wasW com M
  have hM : M.com.posted = L.com.posted := rfl
  rw [← hM]
  exact congrArg ComSt.posted ((LaneSt.frame_seq (LaneSt.raiseIf_frame _ _ _ _) (LaneSt.raiseIf_frame M _ _ _)).1 .com (by decide))

theorem LaneSt.slotIrq_posted (L : LaneSt) : L.slotIrq.com.posted = L.com.posted := by
  have h : (for3 (fun i M => M.tempWarn i) L).com.posted = L.com.posted :=
    (tempWarn_posted _ 2).trans ((tempWarn_posted _ 1).trans (tempWarn_posted L 0))
  unfold LaneSt.slotIrq
  extract_lets M
  exact (apply_ite (fun N : LaneSt => N.com.posted) _ _ _).trans ((ite_self _).trans h)

/-- The ended posting is what POSTED shows. -/
theorem LaneSt.endPosting_on (L : LaneSt) : L.endPosting.on Reg.COM_POST_STAT_POSTED = L.com.posted := by
  have hrd : L.endPosting.rd Reg.COM_POST_STAT_POSTED = (L.put Reg.COM_POST_STAT_POSTED L.com.posted).rd Reg.COM_POST_STAT_POSTED :=
    (LaneSt.rd_congr rfl _).trans (LaneSt.rd_wr_addr _ Reg.AGR_STAT_DEADLINE _ _ (by decide))
  rw [LaneSt.on, hrd]
  exact L.on_put_self _ _ (by decide) (by decide)

/-- What the engines do at a slot's start leaves the posting as it is until it ends. -/
theorem LaneSt.slotEngines_posting (L : LaneSt) (l : Lane) (t : Nat) :
    (L.slotEngines l t).com.posted = false ∧ (L.slotEngines l t).meas.slot = t / 50000 ∧
      (L.slotEngines l t).on Reg.COM_POST_STAT_POSTED = L.com.posted := by
  unfold LaneSt.slotEngines
  extract_lets m A B C
  have hB : B.com.posted = A.com.posted := congrArg ComSt.posted ((A.completeHalt_frame l).1 .com (by decide))
  have hBslot : B.meas.slot = t / 50000 := congrArg MeasSt.slot ((A.completeHalt_frame l).1 .meas (by decide))
  have hC : B.frame [.regs, .fc, .sys, .pos, .aux, .flk] C :=
    frame_step (LaneSt.canSlot_frame _ _) (by decide) (frame_step (LaneSt.flkSlot_frame _ _) (by decide)
      (frame_step (LaneSt.posSlot_frame _ _) (by decide) (frame_step B.flkSlotEnd_frame (by decide) (frame_refl _ _))))
  have hD : (C.slotIrq.freeze .slot).com.posted = L.com.posted := by
    calc (C.slotIrq.freeze .slot).com.posted = C.slotIrq.com.posted := rfl
      _ = C.com.posted := C.slotIrq_posted
      _ = B.com.posted := congrArg ComSt.posted (hC.1 .com (by decide))
      _ = L.com.posted := hB
  refine ⟨rfl, ?_, ?_⟩
  · calc (C.slotIrq.freeze .slot).endPosting.meas.slot = (C.slotIrq.freeze .slot).meas.slot :=
          congrArg MeasSt.slot ((LaneSt.endPosting_frame _).1 .meas (by decide))
      _ = C.meas.slot := congrArg MeasSt.slot (C.slotIrq_frame.1 .meas (by decide))
      _ = t / 50000 := (congrArg MeasSt.slot (hC.1 .meas (by decide))).trans hBslot
  · exact (LaneSt.endPosting_on _).trans hD

/-- No commands are posted by what a slot's Churn does. -/
theorem LaneSt.enterResync_posted (L : LaneSt) (h : L.com.posted = false) : L.enterResync.com.posted = false := by
  unfold LaneSt.enterResync
  extract_lets A B fc agr C
  have hB : B.com.posted = false := by
    simp only [B]
    split <;> rfl
  split
  · exact h
  · exact (congrArg ComSt.posted ((C.endMask_frame 0).1 .com (by decide))).trans hB

theorem LaneSt.learnRound_posted (L : LaneSt) (w : Nat) (v : Int) (ok : Bool) (h : L.com.posted = false) :
    (L.learnRound w v ok).com.posted = false := by
  unfold LaneSt.learnRound
  split
  · exact h
  · extract_lets wrapped r' A _
    have hA : A.com.posted = false := by
      refine Eq.trans ?_ h
      simp only [A]
      split <;> rfl
    split
    · exact h
    · split
      · exact h
      · exact hA

theorem LaneSt.takeCatchup_posted (L : LaneSt) (h : L.com.posted = false) : L.takeCatchup.com.posted = false := by
  unfold LaneSt.takeCatchup
  extract_lets cs A
  have hA : A.enterResync.com.posted = false := A.enterResync_posted h
  clear_value cs
  split
  case h_2 => exact hA
  case h_1 =>
    extract_lets r B
    split
    · have hB : A.frame [.regs, .sys, .agr, .mbx, .sec] B :=
        LaneSt.frame_step (LaneSt.followCatchup_frame _ _) (by decide) (LaneSt.frame_step (LaneSt.showHist_frame _) (by decide)
          (LaneSt.frame_step (LaneSt.put_frame _ _ _) (by decide) (LaneSt.frame_mono (A.updAgr_frame _) (by decide))))
      exact B.learnRound_posted _ _ _ ((congrArg ComSt.posted (hB.1 .com (by decide))).trans h)
    · exact hA

theorem LaneSt.churnSlot_posted (L : LaneSt) (l : Lane) (k : Nat) (h : L.com.posted = false) : (L.churnSlot l k).com.posted = false := by
  unfold LaneSt.churnSlot
  extract_lets mine A
  split
  · exact h
  · exact (apply_ite (fun N : LaneSt => N.com.posted) _ _ _).trans (by split <;> exact h)
  · split
    · exact A.takeCatchup_posted h
    · exact h
  · exact h

theorem LaneSt.sendRound_posted (L : LaneSt) (l : Lane) (t : Nat) (h : L.com.posted = false) : (L.sendRound l t).com.posted = false := by
  unfold LaneSt.sendRound
  extract_lets k n A B C b D E m
  have hB : (B.turnLost l n k).com.posted = false :=
    (congrArg ComSt.posted ((B.turnLost_frame l n k).1 .com (by decide))).trans h
  have hC : C.com.posted = false := LaneSt.churnSlot_posted _ l k hB
  have hD : D.com.posted = false := (congrArg ComSt.posted ((C.noteCarried_frame _).1 .com (by decide))).trans hC
  split
  · exact h
  · split
    · exact hC
    · exact hD

section
variable {s : State} {l : Lane} {t : Nat} {M : LaneSt}

/-- A running lane's slot start, once the mailbox has acted: the posting of the slot that ended is shown, and a new one begins. -/
theorem exec_slotStart_posting (hup : (s.lane l).up = true) (ht : t % 50000 = 0) (hM : M = (((s.lane l).tick t).resume t).mbxSlot l)
    (hMup : M.up = true) : Runs (.slotStart l t) s fun u => (∀ o, o ≠ l → u.lane o = s.lane o) ∧ u.gX = s.gX ∧ u.gY = s.gY ∧
      u.pending = s.pending ∧ (u.lane l).com.posted = false ∧ (u.lane l).com.late = false ∧ (u.lane l).meas.slot = t / 50000 ∧
      (u.lane l).on Reg.COM_POST_STAT_POSTED = M.com.posted := by
  let N : LaneSt := (M.slotEngines l t).sendRound l t
  let N' : LaneSt := { N with com := { N.com with late := false } }
  let u : State := s.updLane l fun L =>
    let L := ((L.tick t).resume t).mbxSlot l
    if L.up then
      let L := (L.slotEngines l t).sendRound l t
      ({ L with com := { L.com with late := false } }).refreshClaims l
    else L
  have hexec : exec (.slotStart l t) s = .next ((u.driveSto l).powerStages) := by
    refine (show exec (.slotStart l t) s = if ((s.lane l).up && t % 50000 == 0) = true then
      .next ((u.driveSto l).powerStages) else .next s from rfl).trans (if_pos ?_)
    simp [hup, ht]
  have hlane : ((u.driveSto l).powerStages).lane l = N'.refreshClaims l := by
    refine (State.driveSto_lane u l l).trans ((State.lane_updLane_self _ _ _).trans ?_)
    dsimp only
    rw [← hM, if_pos hMup]
  obtain ⟨hposted, hslot, hshown⟩ := M.slotEngines_posting l t
  have hcom := (N'.refreshClaims_frame l).1 .com (by decide)
  refine ⟨_, hexec, fun o ho => (State.driveSto_lane u l o).trans (State.lane_updLane_ne _ _ _ _ ho),
    (u.driveSto_guardians l).1, (u.driveSto_guardians l).2, State.driveSto_pending u l, ?_⟩
  rw [hlane]
  refine ⟨?_, congrArg ComSt.late hcom, ?_, ?_⟩
  · exact (congrArg ComSt.posted hcom).trans (LaneSt.sendRound_posted _ l t hposted)
  · calc (N'.refreshClaims l).meas.slot = N.meas.slot := congrArg MeasSt.slot ((N'.refreshClaims_frame l).1 .meas (by decide))
      _ = (M.slotEngines l t).meas.slot := congrArg MeasSt.slot ((LaneSt.sendRound_frame _ l t).1 .meas (by decide))
      _ = t / 50000 := hslot
  · have hregs : (M.slotEngines l t).keepsRegs sendRegs (N'.refreshClaims l) :=
      LaneSt.keepsRegs_trans (LaneSt.keepsRegs_mono (N'.refreshClaims_regs l) (by decide))
        (LaneSt.keepsRegs_of_regs (M := N) rfl (LaneSt.sendRound_regs _ l t))
    rw [← hshown, LaneSt.on, LaneSt.on, LaneSt.rd_of_keepsRegs hregs _ (by decide)]

end

end Sys2Proof.Machine

/-! ### A vote completes (R8, R141, R147, R158) -/
namespace Sys2Proof.Machine

/-- The history and the copies received are the same, and a lane past its first round stays so. -/
structure LaneSt.keepsRound (L M : LaneSt) : Prop where
  hist : M.agr.hist = L.agr.hist
  direct : M.agr.direct = L.agr.direct
  first : L.agr.first = false → M.agr.first = false

namespace LaneSt.keepsRound
variable {L M N : LaneSt}

theorem refl (L : LaneSt) : L.keepsRound L := ⟨rfl, rfl, id⟩

theorem of_agr (h : M.agr = L.agr) : L.keepsRound M := ⟨by rw [h], by rw [h], by rw [h]; exact id⟩

theorem trans (h : L.keepsRound M) (h1 : M.keepsRound N) : L.keepsRound N :=
  ⟨h1.hist.trans h.hist, h1.direct.trans h.direct, fun hf => h1.first (h.first hf)⟩

theorem ite {c : Prop} [Decidable c] (h : L.keepsRound M) (h' : L.keepsRound N) : L.keepsRound (if c then M else N) := by
  split <;> assumption

theorem for3 {f : Nat → LaneSt → LaneSt} (h : ∀ (i : Nat) (M : LaneSt), M.keepsRound (f i M)) (L : LaneSt) :
    L.keepsRound (for3 f L) := ((h 0 L).trans (h 1 _)).trans (h 2 _)

end LaneSt.keepsRound

/-- A change outside agreement. -/
theorem LaneSt.frame.keepsRound {ps : List Part} {L M : LaneSt} (h : L.frame ps M) (ha : Part.agr ∉ ps := by decide) : L.keepsRound M :=
  .of_agr (h.1 .agr ha)

section
variable (L : LaneSt) (l : Lane) (r : Rnd)

theorem LaneSt.copyErrors_keepsRound (i x : Nat) : L.keepsRound (L.copyErrors i x) := by
  unfold LaneSt.copyErrors
  split
  · exact ⟨rfl, rfl, id⟩
  · exact ⟨rfl, rfl, id⟩
  · exact .refl L

theorem LaneSt.welcome_keepsRound (u : Tri (Option AgrMsg)) : L.keepsRound (L.welcome u) := by
  refine .for3 (fun i M => ?_) L
  split
  case h_1 m _ =>
    have hput : M.keepsRound ((M.unmask i m).put (Reg.CLM_PRESENT_VETO.bit i) false) :=
      (M.unmask_frame i m).keepsRound.trans (LaneSt.put_frame _ _ _).keepsRound
    exact .ite (hput.trans ⟨rfl, rfl, id⟩) (.refl M)
  case h_2 => exact .refl M

theorem LaneSt.countRounds_keepsRound : L.keepsRound (L.countRounds r) := by
  unfold LaneSt.countRounds
  exact .ite (.refl L) ⟨rfl, rfl, id⟩

theorem LaneSt.inputMarks_keepsRound : L.keepsRound (L.inputMarks l r) := by
  unfold LaneSt.inputMarks
  extract_lets now both M
  have hM : L.keepsRound M := ⟨rfl, rfl, id⟩
  exact .ite (.refl L) (hM.trans (LaneSt.frame_foldl (fun N f => N.raiseIf_frame _ _ _) _ M).keepsRound)

theorem LaneSt.otherOdd_keepsRound (i : Nat) : L.keepsRound (L.otherOdd r i) := by
  unfold LaneSt.otherOdd
  extract_lets M
  have hM : L.keepsRound M := (L.put_frame (Reg.CLM_PRESENT_VETO.bit i) true).keepsRound.trans ⟨rfl, rfl, id⟩
  exact hM.trans (M.raiseIf_frame _ _ _).keepsRound

theorem LaneSt.noteMissing_keepsRound : L.keepsRound (L.noteMissing r) := by
  refine .for3 (fun i M => ?_) L
  extract_lets N
  have hN : M.keepsRound N := (M.raiseIf_frame _ _ _).keepsRound
  exact .ite (.refl M) (.ite (hN.trans ⟨rfl, rfl, id⟩) hN)

theorem LaneSt.resetControl_keepsRound : L.keepsRound L.resetControl := L.resetControl_frame.keepsRound

theorem LaneSt.enterResync_keepsRound : L.keepsRound L.enterResync := by
  unfold LaneSt.enterResync
  extract_lets A B fc agr C
  have hA : L.keepsRound A := (L.zeroClaims_frame 7 2).keepsRound.trans (LaneSt.resetControl_keepsRound _)
  have hB : L.keepsRound B :=
    .ite (hA.trans (A.wr_frame _ _).keepsRound) (hA.trans ((A.wr_frame _ _).keepsRound.trans (LaneSt.wr_frame _ _ _).keepsRound))
  have hC : L.keepsRound C := hB.trans ⟨rfl, rfl, id⟩
  exact .ite (.refl L) (hC.trans ((C.endMask_frame 0).keepsRound.trans (LaneSt.driveFaultX_frame _).keepsRound))

theorem LaneSt.selfOdd_keepsRound : L.keepsRound (L.selfOdd l r) := by
  unfold LaneSt.selfOdd
  extract_lets others A st B sys safe C D
  have hA : L.keepsRound A := (L.raise_frame _ _).keepsRound.trans (LaneSt.zeroClaims_frame _ _ _).keepsRound
  have hB : L.keepsRound B := hA.trans ((A.wr_frame _ _).keepsRound.trans (LaneSt.wr_frame _ _ _).keepsRound)
  have hC : L.keepsRound C := hB.trans (.of_agr (L := B) (M := C) rfl)
  have hD : L.keepsRound D := .ite (hC.trans (C.dropFoldSs1_frame.keepsRound.trans (LaneSt.refreshSafe_frame _ l).keepsRound)) hA
  exact (hD.trans D.enterResync_keepsRound).trans (.of_agr rfl)

theorem LaneSt.judge_keepsRound (odd : Nat) (conflict : Bool) : L.keepsRound (L.judge l r odd conflict) := by
  unfold LaneSt.judge
  extract_lets A B C D E
  have hA : L.keepsRound A := .for3 (fun i M => .ite (M.otherOdd_keepsRound r i) (.refl M)) L
  have hB : L.keepsRound B := hA.trans (A.noteMissing_keepsRound r)
  have hC : L.keepsRound C := hB.trans (B.setVoting_frame r).keepsRound
  have hD : L.keepsRound D := .ite (hC.trans (C.selfOdd_keepsRound l r)) hC
  have hE : L.keepsRound E := hD.trans (D.raise_frame _ _).keepsRound
  exact .ite (.ite hE (hE.trans ((E.enterFold_frame l true).keepsRound.trans (LaneSt.updSafe_frame _ _).keepsRound))) hD

theorem LaneSt.takeBits_keepsRound : L.keepsRound (L.takeBits r) := by
  unfold LaneSt.takeBits
  extract_lets one
  have hone : ∀ (i : Nat) (M : LaneSt), M.keepsRound (one i M) := by
    intro i M
    simp only [one]
    split <;> exact ⟨rfl, rfl, id⟩
  exact (LaneSt.keepsRound.for3 hone L).trans (LaneSt.takeNtc_frame _).keepsRound

theorem LaneSt.takeAgreed_keepsRound : L.keepsRound (L.takeAgreed r) := by
  unfold LaneSt.takeAgreed
  extract_lets M
  have hM : L.keepsRound M := by
    simp only [M]
    split
    · exact ⟨rfl, rfl, id⟩
    · exact .refl L
  clear_value M
  split
  · have hbad : ∀ (v i : Nat) (N : LaneSt), N.keepsRound (if N.spUse i = v then N else N.spInvalid i) := fun _ i N =>
      .ite (.refl N) (N.spInvalid_frame i).keepsRound
    exact hM.trans ((hbad _ 0 M).trans (hbad _ 1 _))
  · exact hM

theorem LaneSt.imageRound_keepsRound (n : Nat) : L.keepsRound (L.imageRound r n) := by
  unfold LaneSt.imageRound
  extract_lets A B
  have hA : L.keepsRound A := (L.checkImage_frame r n).keepsRound
  have hB : L.keepsRound B :=
    .ite (L.settleImage_frame r).keepsRound (.ite (.ite hA (hA.trans A.checkDone_frame.keepsRound)) (.refl L))
  exact hB.trans ⟨rfl, rfl, fun _ => rfl⟩

theorem LaneSt.imageRound_first (n : Nat) : (L.imageRound r n).agr.first = false := rfl

theorem LaneSt.resyncFail_keepsRound (code t : Nat) : L.keepsRound (L.resyncFail code t) := by
  unfold LaneSt.resyncFail
  extract_lets fails A B
  have hA : L.keepsRound A := (LaneSt.frame_step (LaneSt.raise_frame _ _ _) (ps := [.regs, .fc, .sys, .aux]) (by decide)
    (LaneSt.frame_step (LaneSt.wr_frame _ _ _) (by decide) (LaneSt.frame_mono (L.wr_frame _ _) (by decide)))).keepsRound
  have hB : L.keepsRound B :=
    (hA.trans (A.resetControl_keepsRound.trans (LaneSt.wr_frame _ _ _).keepsRound)).trans ⟨rfl, rfl, id⟩
  exact .ite (hB.trans ((B.put_frame _ _).keepsRound.trans
    ((LaneSt.raise_frame _ _ _).keepsRound.trans (LaneSt.goSilent_frame _).keepsRound))) hB

theorem LaneSt.shadowRound_keepsRound : L.keepsRound (L.shadowRound r) := by
  unfold LaneSt.shadowRound
  split
  case h_2 => exact .refl L
  case h_1 =>
    refine .ite ?_ (.refl L)
    extract_lets v alone stray step n k M
    have hM : L.keepsRound M := ⟨rfl, rfl, id⟩
    exact .ite (hM.trans (M.resyncFail_keepsRound _ _)) hM

theorem LaneSt.debugRun_keepsRound : L.keepsRound L.debugRun := by
  unfold LaneSt.debugRun
  exact .ite ((L.replay_frame.keepsRound.trans (LaneSt.updCore_frame _ _).keepsRound).trans (LaneSt.enterResync_keepsRound _)) (.refl L)

theorem LaneSt.lockDebug_keepsRound : L.keepsRound L.lockDebug :=
  ((L.wr_frame _ _).keepsRound.trans ((LaneSt.put_frame _ _ _).keepsRound.trans (LaneSt.closeDebug_frame _).keepsRound)).trans
    (LaneSt.debugRun_keepsRound _)

theorem LaneSt.latchRind_keepsRound (first : Nat) : L.keepsRound (L.latchRind l first) := by
  unfold LaneSt.latchRind
  extract_lets policy rest A B C
  have hA : L.keepsRound A := (L.put_frame _ _).keepsRound.trans ((LaneSt.wr_frame _ _ _).keepsRound.trans (LaneSt.raise_frame _ _ _).keepsRound)
  have hB : L.keepsRound B :=
    (hA.trans A.lockDebug_keepsRound).trans ((LaneSt.closeSession_frame _).keepsRound.trans (LaneSt.eraseExt_frame _ l).keepsRound)
  have hC : L.keepsRound C :=
    .ite hB (.ite (hB.trans (B.eraseControl_frame l).keepsRound) (hB.trans (B.put_frame _ _).keepsRound))
  exact .ite (.refl L) (.ite (hC.trans (C.eraseIdent_frame l).keepsRound) hC)

theorem LaneSt.takeDigests_keepsRound : L.keepsRound (L.takeDigests l r) := by
  unfold LaneSt.takeDigests
  extract_lets ms ds rinds
  have hconf : L.keepsRound (L.confirm ds (ms.length == 1)) := (L.confirm_frame _ _).keepsRound
  exact hconf.trans (.ite (LaneSt.latchRind_keepsRound _ l 8) (.refl _))

theorem LaneSt.rejoin_keepsRound : L.keepsRound (L.rejoin r) := by
  unfold LaneSt.rejoin
  extract_lets v M
  have hM : L.keepsRound M := (L.updFlk_frame _).keepsRound
  exact .ite ((hM.trans (N := M.updAgr fun g => { g with paused := true }) ⟨rfl, rfl, id⟩).trans (LaneSt.showKeeper_frame _).keepsRound)
    (.refl L)

/-- The engines behind a vote leave its round alone, and call the fast task. -/
theorem LaneSt.voteEngines_round (h : Heard) (n : Nat) : L.keepsRound (L.voteEngines l r h n) ∧
    (L.voteEngines l r h n).agr.first = false ∧ (L.voteEngines l r h n).sys.fastIrq = true := by
  unfold LaneSt.voteEngines
  extract_lets A B C D sys
  have hB : L.keepsRound B := ((L.takeBits_keepsRound r).trans (LaneSt.takeAgreed_keepsRound _ r)).trans
    ((LaneSt.followModule_frame _ l r h).keepsRound.trans (LaneSt.safeVote_frame _ l).keepsRound)
  have hD : (B.imageRound r n).keepsRound D := ((LaneSt.shadowRound_keepsRound _ r).trans (LaneSt.learnSees_frame _ r).keepsRound).trans
    ((LaneSt.takeDigests_keepsRound _ l r).trans (LaneSt.rejoin_keepsRound _ r))
  exact ⟨((hB.trans (B.imageRound_keepsRound r n)).trans hD).trans (.of_agr rfl), hD.first (B.imageRound_first r n), rfl⟩

/-- The round stands at the head of the history, with its validity mask. -/
theorem LaneSt.showVector_round : ((L.showVector l r).agr.hist.head?.map fun h => h.valid) = some r.valid ∧
    (L.showVector l r).agr.direct = L.agr.direct := by
  unfold LaneSt.showVector
  have hvec := (L.vector_frame r).1 .agr (by decide)
  generalize L.vector r = x at hvec ⊢
  obtain ⟨vec, V⟩ := x
  dsimp -zeta only at hvec ⊢
  extract_lets A B h
  have hA : V.frame [.regs] A := LaneSt.frame_foldl (fun N x => N.setReg_frame _ _) _ V
  have hB : V.frame [.regs] B := LaneSt.frame_step (LaneSt.wr48_frame _ _ _) (by decide) (LaneSt.frame_step (LaneSt.wr48_frame _ _ _) (by decide) hA)
  have hagr := ((LaneSt.showHist_frame (B.updAgr fun g => { g with hist := (h :: g.hist).take 64, agreedAt := B.meas.slot * 50000 })).1 .agr (by decide))
  rw [hagr]
  exact ⟨rfl, (congrArg AgrSt.direct (hB.1 .agr (by decide))).trans (congrArg AgrSt.direct hvec)⟩

theorem LaneSt.voteAgree_round : ((L.voteAgree l r).agr.hist.head?.map fun h => h.valid) = some r.valid ∧
    (L.voteAgree l r).agr.direct = L.agr.direct := by
  unfold LaneSt.voteAgree
  extract_lets A odd conflict B
  have hS : L.keepsRound (A.showRound r odd conflict) := (L.countRounds_keepsRound r).trans (A.showRound_frame r odd conflict).keepsRound
  obtain ⟨hvalid, hdirect⟩ := (A.showRound r odd conflict).showVector_round l r
  have hJ : B.keepsRound ((B.inputMarks l r).judge l r odd conflict) :=
    (B.inputMarks_keepsRound l r).trans (LaneSt.judge_keepsRound _ l r odd conflict)
  rw [hJ.hist, hJ.direct]
  exact ⟨hvalid, hdirect.trans hS.direct⟩

/-- A vote: the own message is used up, the round is in the history, the fast task is called. -/
theorem LaneSt.vote_round (m : AgrMsg) (h : Heard) {P : LaneSt}
    (hP : P = for3 (fun i L => if i = laneIx l then L else L.copyErrors (laneIx l) i) L) :
    (L.vote l m h).agr.own = none ∧ (L.vote l m h).agr.first = false ∧ (L.vote l m h).sys.fastIrq = true ∧
      (L.vote l m h).time = L.time ∧ (L.vote l m h).agr.direct = L.agr.direct ∧
      ((L.vote l m h).agr.hist.head?.map fun x => x.valid) = some ((P.welcome (P.usedMsgs l)).round l m.slot).valid := by
  subst hP
  have htime := (L.vote_frame l m h).1 .time (by decide)
  revert htime
  unfold LaneSt.vote
  extract_lets P W r E
  have hP : L.keepsRound P := .for3 (fun i M => .ite (.refl M) (M.copyErrors_keepsRound _ i)) L
  have hW : L.keepsRound W := hP.trans (P.welcome_keepsRound _)
  obtain ⟨hvalid, hdirect⟩ := W.voteAgree_round l r
  obtain ⟨hE, hfirst, hirq⟩ := (W.voteAgree l r).voteEngines_round l r h m.cyc
  refine fun htime => ⟨rfl, hfirst, hirq, htime, hE.direct.trans (hdirect.trans hW.direct), ?_⟩
  exact (congrArg (fun x : List Round => x.head?.map fun y => y.valid) hE.hist).trans hvalid

end

/-- The others' own images are compared for the other lanes only. -/
theorem LaneSt.strangers_ne {L : LaneSt} {l : Lane} {r : Rnd} {i : Nat} (h : i ∈ L.strangers l r) : laneOf i ≠ l := by
  unfold LaneSt.strangers at h
  split at h
  · cases h
  · obtain ⟨hi, hp⟩ := List.mem_filter.mp h
    have hne : i ≠ laneIx l := by simpa using (Bool.and_eq_true_iff.mp hp).1
    rintro rfl
    exact hne ((show ∀ j ∈ [0, 1, 2], laneIx (laneOf j) = j by decide) i hi).symm

/-- Changes of other lanes only. -/
theorem State.foldl_updLane_outside {l : Lane} (xs : List Nat) (f : LaneSt → LaneSt) (h : ∀ i ∈ xs, laneOf i ≠ l) (s : State) :
    (xs.foldl (fun s i => s.updLane (laneOf i) f) s).lane l = s.lane l ∧
      (xs.foldl (fun s i => s.updLane (laneOf i) f) s).gX = s.gX ∧ (xs.foldl (fun s i => s.updLane (laneOf i) f) s).gY = s.gY := by
  induction xs generalizing s with
  | nil => exact ⟨rfl, rfl, rfl⟩
  | cons i xs ih =>
    obtain ⟨hl, hx, hy⟩ := ih (fun j hj => h j (List.mem_cons_of_mem _ hj)) (s.updLane (laneOf i) f)
    exact ⟨hl.trans (State.lane_updLane_ne _ _ _ _ (h i List.mem_cons_self).symm), hx, hy⟩

theorem State.restAfter_lane (s : State) (was : LaneSt) (l o : Lane) : (s.restAfter was l).lane o = s.lane o := by
  unfold State.restAfter
  exact (apply_ite (fun u : State => u.lane o) _ _ _).trans (ite_self _)

theorem State.restAfter_guardians (s : State) (was : LaneSt) (l : Lane) :
    (s.restAfter was l).gX = s.gX ∧ (s.restAfter was l).gY = s.gY := by
  unfold State.restAfter
  extract_lets L
  split <;> exact ⟨rfl, rfl⟩

section
variable {s : State} {l : Lane} {m : AgrMsg} {P : LaneSt}

/-- What a vote's own lane and the guardians are afterwards. -/
theorem exec_voteComplete (hin : (s.lane l).inRounds = true) (hown : (s.lane l).agr.own = some m) :
    Runs (.voteComplete l) s fun u => u.lane l = (s.lane l).vote l m (s.heard (s.lane l) l) ∧ u.pending = s.pending ∧
      ((u.lane l).nvm.chosen = (s.lane l).nvm.chosen → u.gX = s.gX ∧ u.gY = s.gY) := by
  have hrun : Runs (.voteComplete l) s fun u => u.lane l = (s.lane l).vote l m (s.heard (s.lane l) l) ∧
      ((u.lane l).nvm.chosen = (s.lane l).nvm.chosen → u.gX = s.gX ∧ u.gY = s.gY) := by
    unfold Runs
    rw [show exec (.voteComplete l) s = execVoteComplete l s from rfl, execVoteComplete]
    rw [hown]
    dsimp -zeta only
    rw [if_pos hin]
    extract_lets strangers h A B C
    have hA : A.lane l = (s.lane l).vote l m h := (State.restAfter_lane _ _ l l).trans (State.lane_updLane_self _ _ _)
    have hB : B.lane l = A.lane l := (apply_ite (fun u : State => u.lane l) _ _ _).trans (ite_self _)
    obtain ⟨hC, hCX, hCY⟩ := State.foldl_updLane_outside strangers _ (fun i hi => LaneSt.strangers_ne hi) B
    have hlane : (C.driveSto l).lane l = (s.lane l).vote l m h := (State.driveSto_lane C l l).trans (hC.trans (hB.trans hA))
    refine ⟨C.driveSto l, rfl, hlane, fun hchosen => ?_⟩
    have hkept : ¬ ((s.lane l).nvm.chosen.isSome && (A.lane l).nvm.chosen.isNone) = true := by
      rw [hA, ← hlane, hchosen]
      cases (s.lane l).nvm.chosen <;> simp
    have hBA : B = A := if_neg hkept
    obtain ⟨hX, hY⟩ := C.driveSto_guardians l
    obtain ⟨hAX, hAY⟩ := State.restAfter_guardians (s.updLane l fun L => L.vote l m h) (s.lane l) l
    exact ⟨hX.trans (hCX.trans ((congrArg State.gX hBA).trans hAX)), hY.trans (hCY.trans ((congrArg State.gY hBA).trans hAY))⟩
  obtain ⟨u, hu, hlane, hg⟩ := hrun
  obtain ⟨v, hv, hpending⟩ := exec_answers (.voteComplete l) s
  rw [hu] at hv
  cases hv
  exact ⟨u, hu, hlane, hpending, hg⟩

/-- A vote completes: R8, R141, R147, R158. -/
theorem exec_voteComplete_round (hin : (s.lane l).inRounds = true) (hown : (s.lane l).agr.own = some m)
    (hP : P = for3 (fun i L => if i = laneIx l then L else L.copyErrors (laneIx l) i) (s.lane l)) :
    Runs (.voteComplete l) s fun u => ((u.lane l).nvm.chosen = (s.lane l).nvm.chosen → u.gX = s.gX ∧ u.gY = s.gY) ∧ u.pending = s.pending ∧
      (u.lane l).agr.own = none ∧ (u.lane l).agr.first = false ∧ (u.lane l).sys.fastIrq = true ∧
      (u.lane l).time = (s.lane l).time ∧ (u.lane l).agr.direct = (s.lane l).agr.direct ∧
      ((u.lane l).agr.hist.head?.map fun h => h.valid) = some ((P.welcome (P.usedMsgs l)).round l m.slot).valid := by
  obtain ⟨u, hu, hlane, hpending, hg⟩ := exec_voteComplete hin hown
  refine ⟨u, hu, hg, hpending, ?_⟩
  rw [hlane]
  exact (s.lane l).vote_round l m _ hP

end

end Sys2Proof.Machine

/-! ### A basic cycle starts (R120, R155, R171, R178, R325) -/
namespace Sys2Proof.Machine

/-! What a cycle's start changes after the counts are shown. -/

theorem LaneSt.goSilent_regs (L : LaneSt) : L.keepsRegs [0x40000004, 0x40030004] L.goSilent := by
  unfold LaneSt.goSilent
  extract_lets A
  have hA : L.keepsRegs [0x40000004, 0x40030004] A :=
    keepsRegs_trans (LaneSt.endMask_regs _ 1) (keepsRegs_trans (keepsRegs_mono (LaneSt.zeroClaims_regs _ 7 2) (by decide))
      (L.wr_keepsRegs _ _ (by decide)))
  exact keepsRegs_of_regs (M := A) rfl hA

/-- What a failed resynchronisation writes. -/
def resyncFailRegs : List Nat := [0x40000004, 0x40020018, 0x40060000, 0x40060034] ++ faultRegs

theorem LaneSt.resyncFail_regs (L : LaneSt) (code t : Nat) : L.keepsRegs resyncFailRegs (L.resyncFail code t) := by
  unfold LaneSt.resyncFail
  extract_lets fails A B
  have hA : L.keepsRegs resyncFailRegs A := keepsRegs_trans (keepsRegs_mono (LaneSt.raise_regs _ _ _ (by decide)) (by decide))
    (keepsRegs_wr (by decide) (L.wr_keepsRegs _ _ (by decide)))
  have hB : L.keepsRegs resyncFailRegs B := keepsRegs_of_regs (M := A.resetControl.wr Reg.AGR_RSYNC_PHASE 1) rfl
    (keepsRegs_wr (by decide) (keepsRegs_trans (keepsRegs_mono A.resetControl_regs (by decide)) hA))
  refine keepsRegs_ite (keepsRegs_trans (keepsRegs_mono (LaneSt.goSilent_regs _) (by decide)) ?_) hB
  exact keepsRegs_trans (keepsRegs_mono (LaneSt.raise_regs _ _ _ (by decide)) (by decide)) (keepsRegs_wr (by decide) hB)

/-- A failed resynchronisation ends its shadowing and counts no error of a link. -/
theorem LaneSt.resyncFail_linkErr (L : LaneSt) (code t : Nat) : (L.resyncFail code t).agr.linkErr = L.agr.linkErr := by
  unfold LaneSt.resyncFail
  extract_lets fails A B
  have hA : A.agr = L.agr := (LaneSt.frame_step (LaneSt.raise_frame _ _ _) (ps := [.regs, .fc, .sys, .aux]) (by decide)
    (LaneSt.frame_step (LaneSt.wr_frame _ _ _) (by decide) (LaneSt.frame_mono (L.wr_frame _ _) (by decide)))).1 .agr (by decide)
  have hB : B.agr.linkErr = L.agr.linkErr := (congrArg AgrSt.linkErr (A.resetControl_frame.1 .agr (by decide))).trans (congrArg AgrSt.linkErr hA)
  split
  · refine (congrArg AgrSt.linkErr ?_).trans hB
    exact (LaneSt.frame_step (LaneSt.goSilent_frame _) (ps := [.regs, .fc, .sys, .aux]) (by decide)
      (LaneSt.frame_step (LaneSt.raise_frame _ _ _) (by decide) (LaneSt.frame_mono (B.put_frame _ _) (by decide)))).1 .agr (by decide)
  · exact hB

theorem LaneSt.resyncCycle_regs (L : LaneSt) : L.keepsRegs resyncFailRegs L.resyncCycle := by
  unfold LaneSt.resyncCycle
  extract_lets fails A
  have hA : L.keepsRegs resyncFailRegs A := keepsRegs_wr (by decide) (keepsRegs_same rfl)
  refine keepsRegs_ite (keepsRegs_ite ?_ (keepsRegs_ite (keepsRegs_trans (A.resyncFail_regs _ _) hA) hA)) hA
  exact keepsRegs_of_regs (M := A.wr Reg.AGR_RSYNC_PHASE 4) rfl (keepsRegs_wr (by decide) hA)

theorem LaneSt.resyncCycle_linkErr (L : LaneSt) : L.resyncCycle.agr.linkErr = L.agr.linkErr := by
  unfold LaneSt.resyncCycle
  extract_lets fails A
  split
  · split
    · rfl
    · split
      · exact A.resyncFail_linkErr _ _
      · rfl
  · rfl

/-- A lane that is not in RESYNC only counts its shadowing down. -/
theorem LaneSt.resyncCycle_shadow (L : LaneSt) (h : L.mode ≠ 2) : L.resyncCycle.agr.shadow = L.agr.shadow - 1 := by
  unfold LaneSt.resyncCycle
  extract_lets fails A
  have hmode : A.mode = L.mode := LaneSt.rd_wr_addr _ _ _ _ (by decide)
  rw [if_neg (by rintro ⟨hA, _⟩; exact h (hmode ▸ hA))]
  rfl

/-- A lane that has caught up begins shadowing for eight cycles (R155). -/
theorem LaneSt.resyncCycle_caughtUp (L : LaneSt) (hmode : L.mode = 2) (hphase : L.rd Reg.AGR_RSYNC_PHASE = 3)
    (hcaught : L.agr.caughtUp = true) :
    L.resyncCycle.agr.shadow = 8 ∧ L.resyncCycle.rd Reg.AGR_RSYNC_PHASE = 4 ∧ L.resyncCycle.agr.caughtUp = false := by
  unfold LaneSt.resyncCycle
  extract_lets fails A
  have hA : A.mode = 2 := (LaneSt.rd_wr_addr _ _ _ _ (by decide)).trans hmode
  have hAphase : A.rd Reg.AGR_RSYNC_PHASE = 3 := (LaneSt.rd_wr_apart _ _ _ _ (by decide)).trans hphase
  rw [if_pos ⟨hA, hAphase⟩, if_pos (show A.agr.caughtUp = true from hcaught)]
  exact ⟨rfl, A.rd_wr_self Reg.AGR_RSYNC_PHASE 4 (by decide), rfl⟩

/-- What the Flock's and the Churn's cycles write. -/
def flockCycleRegs : List Nat := [0x4009, 0x400D] ++ faultRegs

theorem LaneSt.grazePost_regs {rs : List Nat} (L : LaneSt) : L.keepsRegs rs L.grazePost :=
  keepsRegs_same (by
    unfold LaneSt.grazePost
    split
    · split <;> rfl
    · rfl)

theorem LaneSt.forgetNet_regs (L : LaneSt) : L.keepsRegs flockCycleRegs L.forgetNet := by
  unfold LaneSt.forgetNet
  extract_lets heard
  exact keepsRegs_ite (L.keepsRegs_refl _)
    (keepsRegs_of_regs (M := L.put Reg.FLK_STAT_NET_SEEN false) rfl (L.wr_keepsRegs _ _ (by decide)))

theorem LaneSt.flkCycle_regs (L : LaneSt) : L.keepsRegs flockCycleRegs L.flkCycle := by
  unfold LaneSt.flkCycle
  extract_lets A x y hx hy B C D E
  have hraise : ∀ (M : LaneSt) (b : Bool) (id d : Nat), id < 65536 → M.keepsRegs flockCycleRegs (M.raiseIf b id d) := fun M b id d hid =>
    keepsRegs_mono (M.raiseIf_regs b id d hid) (by decide)
  have hB : A.keepsRegs flockCycleRegs B := keepsRegs_trans (hraise _ _ _ _ (by decide))
    (keepsRegs_trans (hraise _ _ _ _ (by decide)) (hraise _ _ _ _ (by decide)))
  have hC : L.keepsRegs flockCycleRegs C :=
    keepsRegs_wr (by decide) (keepsRegs_wr (by decide) (keepsRegs_trans hB L.grazePost_regs))
  have hE : L.keepsRegs flockCycleRegs E := keepsRegs_wr (by decide) (keepsRegs_trans C.forgetNet_regs hC)
  exact keepsRegs_of_regs (M := E) rfl hE

theorem LaneSt.takeover_regs (L : LaneSt) (l : Lane) : L.keepsRegs flockCycleRegs (L.takeover l) := by
  have hset : ∀ (b : Bool) (v : Nat) (M : LaneSt), M.regs = ((L.put Reg.CHN_STAT_TAKEOVER b).wr Reg.CHN_STAT_TK_STAGE v).regs →
      L.keepsRegs flockCycleRegs M := fun b v M h =>
    keepsRegs_of_regs h (keepsRegs_wr (by decide) (L.wr_keepsRegs _ _ (by decide)))
  unfold LaneSt.takeover
  split
  case h_1 i _ => exact keepsRegs_ite (L.keepsRegs_refl _) (hset true i _ rfl)
  case h_2 => exact keepsRegs_ite (hset false 0 _ rfl) (L.keepsRegs_refl _)

/-! The counts shown. -/

/-- A count that is written saturated reads so. -/
theorem LaneSt.rd_wr_saturated (L : LaneSt) (f : Fld) (n : Nat) (h : f.lo + f.w ≤ 32) (hw : f.w = 8) :
    (L.wr f (min n 255)).rd f = min n 255 := by
  rw [L.rd_wr_self f _ h, hw]
  omega

/-- The counts of the cycle that ended stand in their fields. -/
structure LaneSt.showsCounts (K L : LaneSt) : Prop where
  ab : L.rd Reg.AGR_LINKERR_AB = min K.agr.linkErr.a 255
  bc : L.rd Reg.AGR_LINKERR_BC = min K.agr.linkErr.b 255
  ca : L.rd Reg.AGR_LINKERR_CA = min K.agr.linkErr.c 255
  refresh : ∀ i < 3, L.rd (Reg.STG_CNT_REFRESH i) = min (nth K.meas.refresh i) 255

/-- They stay while no register of theirs is written. -/
theorem LaneSt.showsCounts.of_keepsRegs {rs : List Nat} {K L M : LaneSt} (h : K.showsCounts L) (hregs : L.keepsRegs rs M)
    (hlink : covered rs 0x40020028 = false) (hstg : covered rs 0x40080030 = false ∧ covered rs 0x40080034 = false ∧ covered rs 0x40080038 = false) :
    K.showsCounts M where
  ab := (rd_of_keepsRegs hregs _ hlink).trans h.ab
  bc := (rd_of_keepsRegs hregs _ hlink).trans h.bc
  ca := (rd_of_keepsRegs hregs _ hlink).trans h.ca
  refresh := by
    intro i hi
    refine (rd_of_keepsRegs hregs _ ?_).trans (h.refresh i hi)
    interval_cases i
    · exact hstg.1
    · exact hstg.2.1
    · exact hstg.2.2

theorem LaneSt.showCounts_shows (L : LaneSt) : L.showsCounts L.showCounts := by
  unfold LaneSt.showCounts
  extract_lets e c A B C meas
  have hB : A.keepsRegs [0x4003] B := keepsRegs_wr (by decide) (keepsRegs_wr (by decide) (A.wr_keepsRegs _ _ (by decide)))
  have hC : A.keepsRegs [0x4003, 0x4008] C := by
    refine keepsRegs_trans (keepsRegs_for3 (fun i hi M => M.wr_keepsRegs (Reg.STG_CNT_REFRESH i) _ ?_) B) (keepsRegs_mono hB (by decide))
    exact covered_block (b := 0x4008) (by simp; omega) (by decide) (by decide)
  have hkeep : ∀ f : Fld, covered [0x4003, 0x4008] f.addr = false → C.rd f = A.rd f := fun f hf => rd_of_keepsRegs hC f hf
  have hmeas : B.meas = L.meas := rfl
  have hstage : ∀ i < 3, C.rd (Reg.STG_CNT_REFRESH i) = min (nth L.meas.refresh i) 255 := by
    intro i hi
    rw [← hmeas]
    simp only [C, for3]
    interval_cases i
    · rw [LaneSt.rd_wr_addr _ _ _ _ (by decide), LaneSt.rd_wr_addr _ _ _ _ (by decide)]
      exact LaneSt.rd_wr_saturated _ _ _ (by decide) rfl
    · rw [LaneSt.rd_wr_addr _ _ _ _ (by decide)]
      exact LaneSt.rd_wr_saturated _ _ _ (by decide) rfl
    · exact LaneSt.rd_wr_saturated _ _ _ (by decide) rfl
  have hshown : L.showsCounts C := by
    refine ⟨(hkeep _ (by decide)).trans ?_, (hkeep _ (by decide)).trans ?_, (hkeep _ (by decide)).trans ?_, hstage⟩
    · simp only [A]
      rw [LaneSt.rd_wr_apart _ _ _ _ (by decide), LaneSt.rd_wr_apart _ _ _ _ (by decide)]
      exact LaneSt.rd_wr_saturated _ _ _ (by decide) rfl
    · simp only [A]
      rw [LaneSt.rd_wr_apart _ _ _ _ (by decide)]
      exact LaneSt.rd_wr_saturated _ _ _ (by decide) rfl
    · exact LaneSt.rd_wr_saturated _ _ _ (by decide) rfl
  exact hshown.of_keepsRegs (rs := []) (keepsRegs_same rfl) rfl ⟨rfl, rfl, rfl⟩

/-- What the counts' showing writes. -/
def countRegs : List Nat := [0x40020028, 0x4003, 0x4008, 0x4011]

theorem LaneSt.showCounts_regs (L : LaneSt) : L.keepsRegs countRegs L.showCounts := by
  unfold LaneSt.showCounts
  extract_lets e c A B C meas
  have hA : L.keepsRegs countRegs A := keepsRegs_wr (by decide) (keepsRegs_wr (by decide) (L.wr_keepsRegs _ _ (by decide)))
  have hB : L.keepsRegs countRegs B := keepsRegs_wr (by decide) (keepsRegs_wr (by decide) (keepsRegs_wr (by decide) hA))
  have hC : L.keepsRegs countRegs C := by
    refine keepsRegs_trans (keepsRegs_for3 (fun i hi M => M.wr_keepsRegs (Reg.STG_CNT_REFRESH i) _ ?_) B) hB
    exact covered_block (b := 0x4008) (by simp; omega) (by decide) (by decide)
  exact keepsRegs_of_regs (M := C) rfl hC

theorem LaneSt.showCore_regs (L : LaneSt) : L.keepsRegs [0x4011] L.showCore := by
  unfold LaneSt.showCore
  extract_lets c A B
  have hB : L.keepsRegs [0x4011] B := keepsRegs_wr (by decide) (keepsRegs_wr (by decide) (keepsRegs_wr (by decide) (L.wr_keepsRegs _ _ (by decide))))
  exact keepsRegs_of_regs (M := B) rfl hB

theorem LaneSt.showCounts_agr (L : LaneSt) : L.showCounts.agr = { L.agr with linkErr := .all 0 } := rfl

theorem LaneSt.showCounts_linkErr (L : LaneSt) : L.showCounts.meas.linkErr = .all 0 := rfl

/-- What a basic cycle's start does to the counts and to a resynchronisation. -/
theorem LaneSt.basicCycle_counts (L : LaneSt) (l : Lane) :
    (L.basicCycle l).agr.linkErr = .all 0 ∧ (L.basicCycle l).meas.linkErr = .all 0 ∧ (L.basicCycle l).core.retired = 0 ∧
      (L.basicCycle l).core.stalled = 0 ∧ (L.mode ≠ 2 → (L.basicCycle l).agr.shadow = L.agr.shadow - 1) ∧
      (L.mode = 2 → L.rd Reg.AGR_RSYNC_PHASE = 3 → L.agr.caughtUp = true → (L.basicCycle l).agr.shadow = 8 ∧
        (L.basicCycle l).rd Reg.AGR_RSYNC_PHASE = 4 ∧ (L.basicCycle l).agr.caughtUp = false) ∧ L.showsCounts (L.basicCycle l) := by
  unfold LaneSt.basicCycle
  extract_lets A B
  have hB : A.frame [.com] B := LaneSt.frame_step (LaneSt.grazeSample_frame _) (by decide) (LaneSt.frame_for3 (fun i M => M.windingModel_frame i) A)
  have hBregs : A.keepsRegs [] B := keepsRegs_same (hB.1 .regs (by decide))
  have hAregs : L.keepsRegs countRegs B := keepsRegs_trans (keepsRegs_mono hBregs (by decide))
    (keepsRegs_trans (keepsRegs_mono L.showCounts.showCore_regs (by decide)) L.showCounts_regs)
  have hBagr : B.agr = L.showCounts.agr := (hB.1 .agr (by decide)).trans (L.showCounts.showCore_frame.1 .agr (by decide))
  have hshown : L.showsCounts B := (L.showCounts_shows.of_keepsRegs L.showCounts.showCore_regs (by decide) (by decide)).of_keepsRegs
    hBregs rfl ⟨rfl, rfl, rfl⟩
  have hmode : B.mode = L.mode := rd_of_keepsRegs hAregs _ (by decide)
  have hphase : B.rd Reg.AGR_RSYNC_PHASE = L.rd Reg.AGR_RSYNC_PHASE := rd_of_keepsRegs hAregs _ (by decide)
  generalize hM : (B.resyncCycle.flkCycle.takeover l).freeze .basic = M
  have hMframe : B.resyncCycle.frame [.regs, .snap, .fc, .sys, .aux, .flk, .chn] M := hM ▸
    LaneSt.frame_step (LaneSt.freeze_frame _ _) (by decide) (LaneSt.frame_step (LaneSt.takeover_frame _ l) (by decide)
      (LaneSt.frame_mono (LaneSt.flkCycle_frame _) (by decide)))
  have hMregs : B.resyncCycle.keepsRegs flockCycleRegs M := hM ▸ keepsRegs_of_regs (M := B.resyncCycle.flkCycle.takeover l) rfl
    (keepsRegs_trans (LaneSt.takeover_regs _ l) (LaneSt.flkCycle_regs _))
  have hMagr : M.agr = B.resyncCycle.agr := hMframe.1 .agr (by decide)
  have hMcore : M.core = A.core := (hMframe.1 .core (by decide)).trans ((B.resyncCycle_frame.1 .core (by decide)).trans (hB.1 .core (by decide)))
  have hMmeas : M.meas = L.showCounts.meas := (hMframe.1 .meas (by decide)).trans ((B.resyncCycle_frame.1 .meas (by decide)).trans
    ((hB.1 .meas (by decide)).trans (L.showCounts.showCore_frame.1 .meas (by decide))))
  refine ⟨?_, (congrArg MeasSt.linkErr hMmeas).trans L.showCounts_linkErr, congrArg CoreSt.retired hMcore,
    congrArg CoreSt.stalled hMcore, fun h => ?_, fun h hp hc => ?_, ?_⟩
  · rw [hMagr, B.resyncCycle_linkErr, hBagr, L.showCounts_agr]
  · rw [hMagr, B.resyncCycle_shadow (hmode ▸ h), hBagr, L.showCounts_agr]
  · obtain ⟨hshadow, hfour, hcaught⟩ := B.resyncCycle_caughtUp (hmode.trans h) (hphase.trans hp) ((congrArg AgrSt.caughtUp hBagr).trans hc)
    rw [hMagr]
    exact ⟨hshadow, (rd_of_keepsRegs hMregs _ (by decide)).trans hfour, hcaught⟩
  · exact (hshown.of_keepsRegs B.resyncCycle_regs (by decide) (by decide)).of_keepsRegs hMregs (by decide) (by decide)

/-- A running lane's basic cycle starts. -/
theorem exec_basicCycleStart {s : State} {l : Lane} {t : Nat} {Q : LaneSt → Prop} (hup : (s.lane l).up = true) (ht : t % 250000 = 0)
    (h : Q (((s.lane l).tick t).basicCycle l)) : LaneRuns (.basicCycleStart l t) s l Q := by
  refine laneRuns_onLane (f := fun L => if t % 250000 = 0 then L.basicCycle l else L) rfl hup ?_
  simpa only [if_pos ht] using h

/-- Settles O29: a slot start turns the posting, a vote enters the history, a basic cycle shows its counts. -/
theorem votesPostedAndCounted : Obligations.VotesPostedAndCounted := by
  refine ⟨fun s l t M hup ht hM hMup => exec_slotStart_posting hup ht hM hMup, fun s l m P hin hown hP => exec_voteComplete_round hin hown hP,
    fun s l t hup ht => exec_basicCycleStart hup ht ?_⟩
  obtain ⟨hlink, hmeas, hretired, hstalled, hshadow, hcaught, hshown⟩ := ((s.lane l).tick t).basicCycle_counts l
  exact ⟨hlink, hmeas, hretired, hstalled, hshadow, hcaught, hshown.ab, hshown.bc, hshown.ca, hshown.refresh⟩

end Sys2Proof.Machine

/-! ## Start of a lane, ROM recovery and guardian power (R13, R48, R89, R91, R94, R95, R101, R108, R413, R414) -/
namespace Sys2Proof.Machine

/-! ### What a start keeps -/

/-- The fields in `fs`, the phase of the boot and the slot chosen are the same in both lanes. -/
structure LaneSt.keepsBoot (fs : List Fld) (L M : LaneSt) : Prop where
  reads : ∀ f ∈ fs, M.rd f = L.rd f
  boot : M.sys.boot = L.sys.boot
  chosen : M.nvm.chosen = L.nvm.chosen

namespace LaneSt.keepsBoot
variable {fs : List Fld} {L M N : LaneSt}

theorem refl (L : LaneSt) : L.keepsBoot fs L := ⟨fun _ _ => rfl, rfl, rfl⟩

theorem trans (h : L.keepsBoot fs M) (h1 : M.keepsBoot fs N) : L.keepsBoot fs N :=
  ⟨fun f hf => (h1.reads f hf).trans (h.reads f hf), h1.boot.trans h.boot, h1.chosen.trans h.chosen⟩

theorem mono {gs : List Fld} (h : L.keepsBoot gs M) (hs : ∀ f ∈ fs, f ∈ gs) : L.keepsBoot fs M :=
  ⟨fun f hf => h.reads f (hs f hf), h.boot, h.chosen⟩

theorem ite {c : Prop} [Decidable c] (h : L.keepsBoot fs M) (h' : L.keepsBoot fs N) : L.keepsBoot fs (if c then M else N) := by
  split <;> assumption

theorem foldl {α : Type} {f : LaneSt → α → LaneSt} (xs : List α) (h : ∀ M : LaneSt, ∀ x ∈ xs, M.keepsBoot fs (f M x)) (L : LaneSt) :
    L.keepsBoot fs (xs.foldl f L) := by
  induction xs generalizing L with
  | nil => exact .refl L
  | cons x xs ih => exact (h L x List.mem_cons_self).trans (ih (fun M y hy => h M y (List.mem_cons_of_mem _ hy)) _)

theorem forN {n : Nat} {f : Nat → LaneSt → LaneSt} (h : ∀ i < n, ∀ M : LaneSt, M.keepsBoot fs (f i M)) (L : LaneSt) :
    L.keepsBoot fs (forN n f L) := foldl _ (fun M i hi => h i (List.mem_range.mp hi) M) L

theorem for3 {f : Nat → LaneSt → LaneSt} (h : ∀ i < 3, ∀ M : LaneSt, M.keepsBoot fs (f i M)) (L : LaneSt) : L.keepsBoot fs (for3 f L) :=
  ((h 0 (by decide) L).trans (h 1 (by decide) _)).trans (h 2 (by decide) _)

/-- A change that leaves the registers alone. -/
theorem same (hregs : M.regs = L.regs) (hboot : M.sys.boot = L.sys.boot) (hchosen : M.nvm.chosen = L.nvm.chosen) : L.keepsBoot fs M :=
  ⟨fun f _ => rd_congr hregs f, hboot, hchosen⟩

theorem of_frame {ps : List Part} (h : L.frame ps M) (hp : Part.regs ∉ ps ∧ Part.sys ∉ ps ∧ Part.nvm ∉ ps := by decide) : L.keepsBoot fs M :=
  same (h.1 .regs hp.1) (congrArg SysSt.boot (h.1 .sys hp.2.1)) (congrArg NvmSt.chosen (h.1 .nvm hp.2.2))

/-- A change in other registers. -/
theorem of_regs {rs : List Nat} {ps : List Part} (h : L.keepsRegs rs M) (hd : ∀ f ∈ fs, covered rs f.addr = false) (hf : L.frame ps M)
    (hp : Part.sys ∉ ps ∧ Part.nvm ∉ ps := by decide) : L.keepsBoot fs M :=
  ⟨fun f hfs => rd_of_keepsRegs h f (hd f hfs), congrArg SysSt.boot (hf.1 .sys hp.1), congrArg NvmSt.chosen (hf.1 .nvm hp.2)⟩

theorem setReg {a : Nat} {v : Word} (h : ∀ f ∈ fs, f.addr ≠ a) (h1 : L.keepsBoot fs M) : L.keepsBoot fs (M.setReg a v) :=
  h1.trans ⟨fun f hf => by rw [LaneSt.rd_setReg, if_neg (h f hf)], rfl, rfl⟩

theorem wr {w : Fld} {v : Nat} (h : ∀ f ∈ fs, w.apart f = true) (h1 : L.keepsBoot fs M) : L.keepsBoot fs (M.wr w v) :=
  h1.trans ⟨fun f hf => M.rd_wr_apart w f v (h f hf), rfl, rfl⟩

end LaneSt.keepsBoot

/-- The module's state and the mark of a cold start: no fault and no resynchronisation writes them. -/
def stateFlds : List Fld := [Reg.SYS_STATE_MODULE, Reg.SYS_WAKE_SRC_COLD]

/-- With the lane's mode and the core's, which only a resynchronisation, a silence and the image write. -/
def bootFlds : List Fld := [Reg.SYS_STATE_MODULE, Reg.SYS_WAKE_SRC_COLD, Reg.SYS_STATE_LANE_MODE, Reg.DBG_CHK_STAT_CORE_MODE]

section
variable (L : LaneSt) (l : Lane)

theorem LaneSt.react_boot (id d r : Nat) : (L.react id d r).sys.boot = L.sys.boot := by
  unfold LaneSt.react
  extract_lets _ A B C D
  have hB : B.sys.boot = L.sys.boot := by
    simp only [B]
    split
    · exact congrArg SysSt.boot ((A.reactL2_frame id d).1 .sys (by decide))
    · rfl
  have hC : C.sys.boot = L.sys.boot := by
    simp only [C]
    split
    · exact (congrArg SysSt.boot ((B.reactL3_frame id).1 .sys (by decide))).trans hB
    · exact hB
  have hD : D.sys.boot = L.sys.boot := by
    simp only [D]
    split
    · exact hC
    · exact hC
  split
  · exact (congrArg SysSt.boot ((D.queueRecord_frame id d r).1 .sys (by decide))).trans hD
  · exact hD

theorem LaneSt.raise_boot (id d : Nat) : (L.raise id d).sys.boot = L.sys.boot := by
  have hat : ∀ lv, (L.raiseAt id (detailOf id d) lv).sys.boot = L.sys.boot := by
    intro lv
    unfold LaneSt.raiseAt
    extract_lets c A
    split
    · rfl
    · split
      extract_lets B
      have hB : B.sys.boot = L.sys.boot := congrArg SysSt.boot ((A.latchFirst_frame id (detailOf id d) _).1 .sys (by decide))
      split
      · refine (LaneSt.react_boot _ _ _ _).trans (Eq.trans ?_ hB)
        exact congrArg SysSt.boot ((B.openClass_frame c _).1 .sys (by decide))
      · exact hB
  unfold LaneSt.raise LaneSt.assert
  split
  · rfl
  · split
    · rfl
    · exact hat _

theorem LaneSt.raise_keepsBoot {id : Nat} (d : Nat) (hid : id < 65536) : L.keepsBoot bootFlds (L.raise id d) where
  reads f hf := rd_of_keepsRegs (L.raise_regs id d hid) f ((show ∀ g ∈ bootFlds, covered faultRegs g.addr = false by decide) f hf)
  boot := L.raise_boot id d
  chosen := congrArg NvmSt.chosen ((L.raise_frame id d).1 .nvm (by decide))

theorem LaneSt.raiseIf_keepsBoot (b : Bool) {id : Nat} (d : Nat) (hid : id < 65536) : L.keepsBoot bootFlds (L.raiseIf b id d) :=
  .ite (L.raise_keepsBoot d hid) (.refl L)

theorem LaneSt.zeroClaims_keepsBoot (m why : Nat) : L.keepsBoot bootFlds (L.zeroClaims m why) :=
  .of_regs (L.zeroClaims_regs m why) (by decide) (L.zeroClaims_frame m why)

/-- Less is asked of a change. -/
theorem LaneSt.keepsBoot.state {M : LaneSt} (h : L.keepsBoot bootFlds M) : L.keepsBoot stateFlds M := h.mono (by decide)

theorem LaneSt.goSilent_keepsBoot : L.keepsBoot stateFlds L.goSilent := by
  unfold LaneSt.goSilent
  extract_lets A
  have hw : L.keepsBoot stateFlds (L.wr Reg.SYS_STATE_LANE_MODE 3) := .wr (by decide) (.refl L)
  have hA : L.keepsBoot stateFlds A := (hw.trans (LaneSt.zeroClaims_keepsBoot _ 7 2).state).trans (.of_frame (LaneSt.endMask_frame _ 1))
  exact hA.trans (.same rfl rfl rfl)

theorem LaneSt.enterResync_keepsBoot : L.keepsBoot stateFlds L.enterResync := by
  unfold LaneSt.enterResync
  extract_lets A B fc agr C
  have hA : L.keepsBoot stateFlds A := (L.zeroClaims_keepsBoot 7 2).state.trans
    (.of_regs (LaneSt.resetControl_regs _) (by decide) (LaneSt.resetControl_frame _))
  have hB : L.keepsBoot stateFlds B := .ite (.wr (by decide) hA) (.wr (by decide) (.wr (by decide) hA))
  have hC : L.keepsBoot stateFlds C := hB.trans (.same rfl rfl rfl)
  exact .ite (.refl L) ((hC.trans (.of_frame (C.endMask_frame 0))).trans (.of_frame (LaneSt.driveFaultX_frame _)))

theorem LaneSt.inRom_st : L.inRom.st = L.st := L.goSilent_keepsBoot.reads Reg.SYS_STATE_MODULE (by decide)

/-- All claims withdrawn. -/
theorem LaneSt.zeroClaims_all (why : Nat) : ∀ i < 3, (L.zeroClaims 7 why).rd (Reg.CLAIM_OF i) = 0 := by
  intro i hi
  rw [show L.zeroClaims 7 why = (((L.wr (Reg.CLAIM_OF 0) 0).wr (Reg.CLAIM_OF 1) 0).wr (Reg.CLAIM_OF 2) 0).wr Reg.CLM_PRESENT_WITHDRAW why
    from rfl]
  interval_cases i <;> simp [LaneSt.rd_wr_apart, LaneSt.rd_wr_self]

/-- A silent lane's mode, and its claims. -/
theorem LaneSt.goSilent_silent : L.goSilent.mode = 3 ∧ ∀ i < 3, L.goSilent.rd (Reg.CLAIM_OF i) = 0 := by
  have hregs : L.goSilent.regs = ((L.wr Reg.SYS_STATE_LANE_MODE 3).zeroClaims 7 2).regs := (LaneSt.endMask_frame _ 1).1 .regs (by decide)
  generalize hM : L.wr Reg.SYS_STATE_LANE_MODE 3 = M at hregs
  refine ⟨?_, fun i hi => (LaneSt.rd_congr hregs _).trans (M.zeroClaims_all 2 i hi)⟩
  rw [LaneSt.mode, LaneSt.rd_congr hregs, rd_of_keepsRegs (M.zeroClaims_regs 7 2) _ (by decide), ← hM, LaneSt.rd_wr_self _ _ _ (by decide)]
  rfl

/-! ### Debug and the lid -/

theorem LaneSt.debugRun_keepsBoot : L.keepsBoot stateFlds L.debugRun := by
  unfold LaneSt.debugRun LaneSt.replay
  extract_lets j A
  have hA : L.keepsBoot stateFlds A := .wr (by decide) (.refl L)
  refine .ite (.trans ?_ (LaneSt.enterResync_keepsBoot _)) (.refl L)
  exact hA.trans (.same rfl rfl rfl)

theorem LaneSt.erased_keepsBoot (us : Nat) : L.keepsBoot stateFlds (L.erased l us) := by
  unfold LaneSt.erased LaneSt.tally
  extract_lets a head prev link anchor A
  have hA : L.keepsBoot stateFlds A := .of_frame (L.setBytes_frame a _)
  clear_value A link
  exact hA.trans (.same rfl rfl rfl)

theorem LaneSt.dropGroup_keepsBoot : L.keepsBoot stateFlds L.dropGroup :=
  (LaneSt.keepsBoot.wr (by decide) (.wr (by decide) (.refl L))).trans (.of_frame (LaneSt.updKeys_frame _ _))

theorem LaneSt.eraseControl_keepsBoot : L.keepsBoot stateFlds (L.eraseControl l) := by
  unfold LaneSt.eraseControl
  extract_lets A B
  have hA : L.keepsBoot stateFlds A := .wr (by decide) (.wr (by decide) (.wr (by decide) (.refl L)))
  have hB : L.keepsBoot stateFlds B := hA.trans (.of_frame (A.updKeys_frame _))
  exact (LaneSt.keepsBoot.wr (by decide) (hB.trans B.dropGroup_keepsBoot)).trans (LaneSt.erased_keepsBoot _ l 500)

theorem LaneSt.eraseExt_keepsBoot : L.keepsBoot stateFlds (L.eraseExt l) := by
  unfold LaneSt.eraseExt
  extract_lets A
  have hA : L.keepsBoot stateFlds A := (LaneSt.keepsBoot.of_frame (L.updKeys_frame _)).trans (.of_frame (LaneSt.updMbx_frame _ _))
  exact (LaneSt.keepsBoot.wr (by decide) (.wr (by decide) hA)).trans (LaneSt.erased_keepsBoot _ l 500)

theorem LaneSt.lockDebug_keepsBoot : L.keepsBoot stateFlds L.lockDebug :=
  (LaneSt.keepsBoot.wr (by decide) (.wr (by decide) (.wr (by decide) (.wr (by decide) (.refl L))))).trans (LaneSt.debugRun_keepsBoot _)

theorem LaneSt.latchRind_keepsBoot (first : Nat) : L.keepsBoot stateFlds (L.latchRind l first) := by
  unfold LaneSt.latchRind
  extract_lets policy rest A B C
  have hA : L.keepsBoot stateFlds A :=
    (LaneSt.keepsBoot.wr (by decide) (.wr (by decide) (.refl L))).trans (LaneSt.raise_keepsBoot _ _ (by decide)).state
  have hB : L.keepsBoot stateFlds B := (hA.trans (A.lockDebug_keepsBoot.trans
    (.of_regs (LaneSt.closeSession_regs _) (by decide) (LaneSt.closeSession_frame _)))).trans (LaneSt.eraseExt_keepsBoot _ l)
  have hC : L.keepsBoot stateFlds C := .ite hB (.ite (hB.trans (B.eraseControl_keepsBoot l)) (.wr (by decide) hB))
  exact .ite (.refl L) (.ite ((LaneSt.keepsBoot.wr (by decide) hC).trans (LaneSt.erased_keepsBoot _ l 2000)) hC)

theorem LaneSt.startDebug_keepsBoot (lidOpen : Bool) : L.keepsBoot stateFlds (L.startDebug l lidOpen) := by
  unfold LaneSt.startDebug
  extract_lets A B
  have hB : L.keepsBoot stateFlds B := .wr (by decide) (.wr (by decide) (.wr (by decide) (.wr (by decide) (.refl L))))
  exact .ite (hB.trans (B.latchRind_keepsBoot l 1)) hB

/-- The first part of a start's registers: the state controller. -/
def LaneSt.startState : LaneSt :=
  let A := ((L.wr Reg.SYS_STATE_MODULE stStandby).wr Reg.SYS_STATE_TARGET stStandby).wr Reg.SYS_STATE_PHASE 0
  ((A.wr Reg.SYS_STATE_LANE_MODE 0).wr Reg.SYS_STATE_VOTING 0).put Reg.SYS_STATE_PEND_VALID false

/-- The second part: clocks, bias, and the STO line. -/
def LaneSt.startLines (stoHigh : Bool) : LaneSt :=
  (((L.wr Reg.SYS_CLK_STAT_CORE_FREQ 0).wr Reg.SYS_BIAS_BIAS 0).put Reg.SYS_BIAS_SETTLED true).put Reg.SAFE_STAT_LINE stoHigh

theorem LaneSt.startBase_eq (stoHigh : Bool) : (L.startBase stoHigh).regs = (L.startState.startLines stoHigh).regs ∧
    (L.startBase stoHigh).sys = SysSt.reset ∧ (L.startBase stoHigh).nvm.chosen = none := ⟨rfl, rfl, rfl⟩

theorem LaneSt.startState_st : L.startState.rd Reg.SYS_STATE_MODULE = stStandby := by
  simp [LaneSt.startState, LaneSt.put, LaneSt.rd_wr_apart, LaneSt.rd_wr_self, show stStandby < 8 by decide]

theorem LaneSt.startState_regs : L.keepsRegs [0x40000004] L.startState :=
  keepsRegs_wr (by decide) (keepsRegs_wr (by decide) (keepsRegs_wr (by decide) (keepsRegs_wr (by decide)
    (keepsRegs_wr (by decide) (L.wr_keepsRegs _ _ (by decide))))))

theorem LaneSt.startLines_regs (stoHigh : Bool) : L.keepsRegs [0x40000024, 0x40000028, 0x4010] (L.startLines stoHigh) :=
  keepsRegs_wr (by decide) (keepsRegs_wr (by decide) (keepsRegs_wr (by decide) (L.wr_keepsRegs _ _ (by decide))))

/-- A start begins in STANDBY, with no slot chosen. -/
theorem LaneSt.startBase_started (stoHigh : Bool) : (L.startBase stoHigh).st = stStandby ∧ (L.startBase stoHigh).sys.boot = .none ∧
    (L.startBase stoHigh).nvm.chosen = none ∧ (L.startBase stoHigh).rd Reg.SYS_WAKE_SRC_COLD = L.rd Reg.SYS_WAKE_SRC_COLD := by
  obtain ⟨hregs, hsys, hchosen⟩ := L.startBase_eq stoHigh
  have hrd : ∀ f : Fld, covered [0x40000024, 0x40000028, 0x4010] f.addr = false → (L.startBase stoHigh).rd f = L.startState.rd f := fun f hf =>
    (LaneSt.rd_congr hregs f).trans (rd_of_keepsRegs (LaneSt.startLines_regs _ stoHigh) f hf)
  refine ⟨(hrd _ (by decide)).trans L.startState_st, by rw [hsys]; rfl, hchosen, (hrd _ (by decide)).trans ?_⟩
  exact rd_of_keepsRegs L.startState_regs _ (by decide)

end

end Sys2Proof.Machine

/-! ### Banks, lists and engines at a start -/
namespace Sys2Proof.Machine

section
variable (L : LaneSt)

/-- Choosing a bank touches no register and no slot. -/
theorem LaneSt.setBank_keepsBoot (b : Bool) (x : Bank) : L.keepsBoot bootFlds (L.setBank b x) := by
  refine ⟨fun f _ => LaneSt.rd_congr ((L.setBank_frame b x).1 .regs (by decide)) f,
    congrArg SysSt.boot ((L.setBank_frame b x).1 .sys (by decide)), ?_⟩
  unfold LaneSt.setBank
  extract_lets y n A
  refine (congrArg NvmSt.chosen ((A.setBytes_frame _ _).1 .nvm (by decide))).trans ?_
  simp only [A]
  split <;> rfl

/-- A bank's record is outside the slots' records. -/
theorem LaneSt.setBank_byte (b : Bool) (x : Bank) {a : Nat} (h : 0x106B1000 ≤ a) : (L.setBank b x).byte a = L.byte a := by
  unfold LaneSt.setBank
  extract_lets y n A
  have hA : A.byte a = L.byte a := by
    simp only [A]
    split <;> rfl
  refine (A.byte_setBytes_out _ _ a (.inr ?_)).trans hA
  cases b <;> simp only [bankRecAt, Bank.wire, leBytes, List.length_append, List.length_cons, List.length_nil] <;> grind

theorem LaneSt.bootBank_keeps (okA okB : Bool) (n : Nat) : L.keepsBoot bootFlds (L.bootBank okA okB n).1 ∧
    ∀ a, 0x106B1000 ≤ a → (L.bootBank okA okB n).1.byte a = L.byte a := by
  induction n generalizing L with
  | zero => exact ⟨.refl L, fun _ _ => rfl⟩
  | succ n ih =>
    unfold LaneSt.bootBank
    split
    · exact ⟨.refl L, fun _ _ => rfl⟩
    · extract_lets x trial good A
      have hA : L.keepsBoot bootFlds A ∧ ∀ a, 0x106B1000 ≤ a → A.byte a = L.byte a := by
        simp only [A]
        split
        · exact ⟨L.setBank_keepsBoot _ _, fun _ h => L.setBank_byte _ _ h⟩
        · exact ⟨.refl L, fun _ _ => rfl⟩
      clear_value A
      split
      · exact ⟨hA.1.trans (.same rfl rfl rfl), hA.2⟩
      · exact ⟨hA.1.trans (ih A).1, fun a h => ((ih A).2 a h).trans (hA.2 a h)⟩

/-- A slot's record is read from its bytes. -/
theorem LaneSt.slotRec_congr {M : LaneSt} (h : ∀ a, 0x106B1000 ≤ a → M.byte a = L.byte a) (b : Bool) : M.slotRec b = L.slotRec b := by
  have hbytes : ∀ a n, 0x106B1000 ≤ a → M.bytes a n = L.bytes a n := fun a n ha =>
    List.map_congr_left fun i _ => h (a + i) (by omega)
  have hat : 0x106B1000 ≤ slotRecAt b := by cases b <;> decide
  unfold LaneSt.slotRec LaneSt.word
  rw [hbytes _ 36 hat, hbytes _ 4 (by omega)]

/-- Without a slot record there is no image to choose. -/
theorem LaneSt.chooseImage_none (f0 f1 : Option ImgFacts) (h0 : L.slotRec false = none) (h1 : L.slotRec true = none) :
    L.chooseImage f0 f1 = (L, none) := by
  have hv : ∀ b f, L.slotRec b = none → L.validSlot b f = none := by
    intro b f h
    unfold LaneSt.validSlot
    split
    · next heq => rw [h] at heq; cases heq
    · rfl
  simp only [LaneSt.chooseImage, hv _ _ h0, hv _ _ h1, h0, h1, LaneSt.raiseIf, Option.isSome_none, Bool.false_and, Bool.false_eq_true,
    if_false]

theorem LaneSt.startLists_keepsBoot (es : List Word) : L.keepsBoot bootFlds (L.startLists es) := by
  unfold LaneSt.startLists
  extract_lets A
  have hloaded : ∀ a ∈ aonLoaded, ∀ f ∈ bootFlds, f.addr ≠ a := by
    intro a ha
    simp only [aonLoaded, List.mem_append, List.mem_cons, List.not_mem_nil, or_false, List.mem_map, List.mem_range] at ha
    rcases ha with ha | ⟨n, hn, rfl⟩
    · simp [bootFlds]; omega
    · simp [bootFlds]; omega
  have hA : L.keepsBoot bootFlds A := .foldl _ (fun M a ha => .setReg (hloaded a ha) (.refl M)) L
  exact hA.trans (.forN (fun n hn M => .setReg (by simp [bootFlds]; omega) (.refl M)) A)

theorem LaneSt.startCal_keepsBoot (ok : Tri Bool) (cal : List (Int × Int × Int)) : L.keepsBoot bootFlds (L.startCal ok cal) := by
  unfold LaneSt.startCal
  extract_lets meas A
  have hA : L.keepsBoot bootFlds A := .same rfl rfl rfl
  have hbit : ∀ {i : Nat}, ∀ f ∈ bootFlds, (Reg.MEAS_CAL_STAT_FACT_BAD.bit i).apart f = true := by simp [bootFlds]
  refine hA.trans (.for3 (fun i hi M => .ite ?_ ?_) A)
  · exact .wr (w := Reg.MEAS_CAL_STAT_FACT_BAD.bit i) hbit (.same rfl rfl rfl)
  · refine .trans ?_ (LaneSt.raise_keepsBoot _ i (by decide))
    exact .wr (w := Reg.MEAS_CAL_STAT_FACT_BAD.bit i) hbit (.same rfl rfl rfl)

theorem LaneSt.refreshTbl_keepsBoot : L.keepsBoot bootFlds L.refreshTbl := .wr (by decide) (.refl L)

theorem LaneSt.startAux_keepsBoot : L.keepsBoot bootFlds L.startAux := by
  unfold LaneSt.startAux
  extract_lets given A B
  have hA : L.keepsBoot bootFlds A := .ite (.refl L) (.ite (.of_frame (L.updAux_frame _)) (L.raise_keepsBoot _ (by decide)))
  have hB : L.keepsBoot bootFlds B := by
    simp only [B]
    clear_value A
    split
    · exact .wr (by decide) (.wr (by decide) (.wr (by decide) hA))
    · exact hA
  exact (hB.trans (.of_frame (B.updAux_frame _))).trans (LaneSt.refreshTbl_keepsBoot _)

theorem LaneSt.setCoefs_keepsBoot (c : List Int) : L.keepsBoot bootFlds (L.setCoefs c) :=
  .forN (fun j hj M => .wr (by simp [bootFlds]; omega) (.refl M)) L

theorem LaneSt.startPos_keepsBoot (f : BootFacts) : L.keepsBoot bootFlds (L.startPos f) := by
  unfold LaneSt.startPos
  extract_lets r A B C
  have hA : L.keepsBoot bootFlds A := L.setCoefs_keepsBoot _
  have hB : L.keepsBoot bootFlds B := (LaneSt.keepsBoot.wr (by decide) hA).trans (.of_frame (LaneSt.updPos_frame _ _))
  have hC : L.keepsBoot bootFlds C := .wr (by decide) hB
  exact .ite ((LaneSt.keepsBoot.wr (by decide) hC).trans (.of_frame (LaneSt.updPos_frame _ _))) hC

theorem LaneSt.canMailbox_keepsBoot (c : CanId) : L.keepsBoot bootFlds (L.canMailbox c) := by
  unfold LaneSt.canMailbox
  extract_lets id ext A B C
  cases c
  all_goals
    have hA : L.keepsBoot bootFlds A := .wr (by decide) (.wr (by decide) (.wr (by decide) (.refl L)))
    have hC : L.keepsBoot bootFlds C := .wr (by decide) (.wr (by decide) (.wr (by decide) hA))
    exact .ite (.wr (by decide) (.wr (by decide) hC)) (.refl L)

theorem LaneSt.setCan_keepsBoot (c : CanId) (f : CanSt → CanSt) : L.keepsBoot bootFlds (L.setCan c f) := by
  unfold LaneSt.setCan
  extract_lets A
  have hA : L.keepsBoot bootFlds A := .of_frame (L.updCan_frame c f)
  exact .wr (by cases c <;> decide) hA

theorem LaneSt.canStart_keepsBoot (c : CanId) : L.keepsBoot bootFlds (L.canStart c) := by
  unfold LaneSt.canStart
  extract_lets auto A B
  have hA : L.keepsBoot bootFlds A := .ite (.refl L) (.wr (by cases c <;> decide) (.wr (by cases c <;> decide) (.refl L)))
  exact (hA.trans (A.setCan_keepsBoot c _)).trans (LaneSt.canMailbox_keepsBoot _ c)

theorem LaneSt.startEngines_keepsBoot (f : BootFacts) : L.keepsBoot bootFlds (L.startEngines f) := by
  unfold LaneSt.startEngines
  extract_lets A chn B C
  have hB : L.keepsBoot bootFlds B := (L.startPos_keepsBoot f).trans (.same rfl rfl rfl)
  have hC : L.keepsBoot bootFlds C := .wr (by decide) ((hB.trans (B.canStart_keepsBoot .can1)).trans (LaneSt.canStart_keepsBoot _ .can2))
  exact .wr (by decide) hC

theorem LaneSt.startParts_keepsBoot (f : BootFacts) (others : Bool) : L.keepsBoot bootFlds (L.startParts f others) := by
  unfold LaneSt.startParts
  extract_lets nvm A
  have hA : L.keepsBoot bootFlds A := .wr (by decide) (.same rfl rfl rfl)
  exact ((hA.trans (A.startCal_keepsBoot _ _)).trans ((LaneSt.startAux_keepsBoot _).trans (LaneSt.startEngines_keepsBoot _ f))).trans
    (.of_frame (LaneSt.measureBoot_frame _))

end

end Sys2Proof.Machine

/-! ### How a start ends -/
namespace Sys2Proof.Machine

section
variable (L : LaneSt) (l : Lane)

theorem LaneSt.endMask_hold (b : Nat) : (L.endMask b).fc.hold = L.fc.hold := by
  unfold LaneSt.endMask
  split <;> rfl

theorem LaneSt.goSilent_hold : L.goSilent.fc.hold = L.fc.hold :=
  (LaneSt.endMask_hold _ 1).trans (congrArg FcSt.hold ((LaneSt.zeroClaims_frame _ 7 2).1 .fc (by decide)))

theorem LaneSt.keepHold_hold : L.keepHold.fc.hold = L.fc.hold := by
  unfold LaneSt.keepHold
  split
  · exact L.goSilent_hold
  · rfl

theorem LaneSt.keepHold_keepsBoot : L.keepsBoot stateFlds L.keepHold := .ite L.goSilent_keepsBoot (.refl L)

theorem LaneSt.keepHold_mode : L.keepHold.mode = if L.fc.hold then 3 else L.mode := by
  unfold LaneSt.keepHold
  split
  · exact L.goSilent_silent.1
  · rfl

/-- A lane that is held does not enter RESYNC; another one is in it afterwards. -/
theorem LaneSt.enterResync_mode (hcore : L.on Reg.DBG_CHK_STAT_CORE_MODE = false) :
    L.enterResync.fc.hold = L.fc.hold ∧ (L.fc.hold = false → L.enterResync.mode = 2) := by
  unfold LaneSt.enterResync
  extract_lets A B fc agr C
  have hAregs : L.keepsRegs [0x40030004, 0x40060000, 0x40060034] A := keepsRegs_trans (keepsRegs_mono (LaneSt.resetControl_regs _) (by decide))
    (keepsRegs_mono (L.zeroClaims_regs 7 2) (by decide))
  have hAcore : A.on Reg.DBG_CHK_STAT_CORE_MODE = false := by rw [LaneSt.on, rd_of_keepsRegs hAregs _ (by decide)]; exact hcore
  have hB : B = (A.wr Reg.SYS_STATE_LANE_MODE 2).wr Reg.AGR_RSYNC_PHASE 1 := if_neg (by simp [hAcore])
  have hBmode : B.mode = 2 := by
    rw [hB]
    exact (LaneSt.rd_wr_addr _ _ _ _ (by decide)).trans (LaneSt.rd_wr_self _ _ _ (by decide))
  have hBfc : B.fc = L.fc := by
    rw [hB]
    exact ((LaneSt.resetControl_frame _).1 .fc (by decide)).trans ((L.zeroClaims_frame 7 2).1 .fc (by decide))
  have hCregs : (C.endMask 0).driveFaultX.regs = B.regs := (C.endMask_frame 0).1 .regs (by decide)
  split
  · next h => exact ⟨rfl, fun h' => absurd h (by simp [h'])⟩
  · have hChold : C.fc.hold = L.fc.hold := (show C.fc.hold = B.fc.hold from rfl).trans (congrArg FcSt.hold hBfc)
    exact ⟨(C.endMask_hold 0).trans hChold, fun _ => (LaneSt.rd_congr hCregs _).trans hBmode⟩

/-- A lane that starts without an image, while others vote or not (R91, R108). -/
theorem LaneSt.joins (others : Bool) {M : LaneSt} (hM : M = (if others then L.enterResync else L.driveFaultX).keepHold)
    (hmode : L.mode = 0) (hcore : L.on Reg.DBG_CHK_STAT_CORE_MODE = false) :
    L.keepsBoot stateFlds M ∧ M.mode = if M.fc.hold then 3 else if others then 2 else 0 := by
  obtain ⟨hhold, hresync⟩ := L.enterResync_mode hcore
  subst hM
  rw [LaneSt.keepHold_hold, LaneSt.keepHold_mode]
  refine ⟨.trans (.ite L.enterResync_keepsBoot (.of_frame L.driveFaultX_frame)) (LaneSt.keepHold_keepsBoot _), ?_⟩
  cases others
  case false => exact congrArg (fun n => if L.fc.hold then 3 else n) hmode
  case true =>
    rw [if_pos rfl, if_pos rfl, hhold]
    cases hh : L.fc.hold
    · exact hresync hh
    · rfl

theorem LaneSt.inRom_outcome : L.inRom.mode = 3 ∧ L.inRom.sys.boot = .romRecovery ∧ L.inRom.st = L.st :=
  ⟨L.goSilent_silent.1, rfl, L.inRom_st⟩

/-- A boot that fails leaves the lane silent, its claims withdrawn. -/
theorem LaneSt.bootFails_outcome {id : Nat} (hid : id < 65536) :
    (L.bootFails id).mode = 3 ∧ L.keepsBoot stateFlds (L.bootFails id) ∧ ∀ i < 3, (L.bootFails id).rd (Reg.CLAIM_OF i) = 0 := by
  obtain ⟨hmode, hclaims⟩ := (L.raise id).goSilent_silent
  exact ⟨hmode, (L.raise_keepsBoot _ hid).state.trans (LaneSt.goSilent_keepsBoot _), hclaims⟩

/-- What follows a booted bank, with no application or with no image. -/
theorem LaneSt.startRest_outcome (f : BootFacts) (others : Bool) :
    (f.appOk = false → (L.startRest l f others).mode = 3 ∧ (L.startRest l f others).st = L.st ∧
      ∀ i < 3, (L.startRest l f others).rd (Reg.CLAIM_OF i) = 0) ∧
    (f.appOk = true → L.mode = 0 → L.slotRec false = none → L.slotRec true = none → L.on Reg.DBG_CHK_STAT_CORE_MODE = false →
      L.keepsBoot stateFlds (L.startRest l f others) ∧
      (L.startRest l f others).mode = if (L.startRest l f others).fc.hold then 3 else if others then 2 else 0) := by
  refine ⟨fun happ => ?_, fun happ hmode h0 h1 hcore => ?_⟩
  · obtain ⟨hmode, hkeeps, hclaims⟩ := L.bootFails_outcome (id := 0x0B03) (by decide)
    rw [LaneSt.startRest, if_pos (by simp [happ])]
    exact ⟨hmode, hkeeps.reads Reg.SYS_STATE_MODULE (by decide), hclaims⟩
  · have hmem : ∀ a, 0x106B1000 ≤ a → (L.startLists f.retList).byte a = L.byte a := fun a _ => by
      rw [LaneSt.byte, LaneSt.byte, (L.startLists_frame f.retList).1 .mem (by decide)]
    have hchoose := (L.startLists f.retList).chooseImage_none f.slot0 f.slot1 ((L.slotRec_congr hmem _).trans h0) ((L.slotRec_congr hmem _).trans h1)
    have hX : L.keepsBoot bootFlds ((L.startLists f.retList).startParts f others) :=
      (L.startLists_keepsBoot _).trans (LaneSt.startParts_keepsBoot _ f others)
    have heq : L.startRest l f others = (if others then ((L.startLists f.retList).startParts f others).enterResync
        else ((L.startLists f.retList).startParts f others).driveFaultX).keepHold := by
      rw [LaneSt.startRest, if_neg (by simp [happ]), hchoose]
      rfl
    obtain ⟨hkeeps, hend⟩ := LaneSt.joins _ others heq ((hX.reads Reg.SYS_STATE_LANE_MODE (by decide)).trans hmode)
      (by rw [LaneSt.on, hX.reads _ (by decide)]; exact hcore)
    exact ⟨hX.state.trans hkeeps, hend⟩

/-- How a start ends, from the lane `K` whose debug is settled (R89, R91, R94, R95, R101, R414). -/
theorem LaneSt.startLane_outcome (f : BootFacts) (others : Bool) {K M : LaneSt} (hK : K = (L.startBase f.stoHigh).startDebug l f.lidOpen)
    (hM : M = L.startLane l f others) :
    (K.lc = lcDecommissioned ∨ (K.bootBank f.bankAOk f.bankBOk 2).2 = false → M.mode = 3 ∧ M.sys.boot = .romRecovery ∧ M.st = stStandby) ∧
    (K.lc ≠ lcDecommissioned → (K.bootBank f.bankAOk f.bankBOk 2).2 = true →
      (f.appOk = false → M.mode = 3 ∧ M.st = stStandby ∧ ∀ i < 3, M.rd (Reg.CLAIM_OF i) = 0) ∧
      (f.appOk = true → K.mode = 0 → K.slotRec false = none → K.slotRec true = none → K.on Reg.DBG_CHK_STAT_CORE_MODE = false →
        M.st = stStandby ∧ M.sys.boot = .none ∧ M.nvm.chosen = none ∧ M.mode = if M.fc.hold then 3 else if others then 2 else 0)) := by
  obtain ⟨hst, hboot, hchosen, -⟩ := L.startBase_started f.stoHigh
  have hKeeps : (L.startBase f.stoHigh).keepsBoot stateFlds K := hK ▸ LaneSt.startDebug_keepsBoot _ l f.lidOpen
  have hKst : K.st = stStandby := (hKeeps.reads Reg.SYS_STATE_MODULE (by decide)).trans hst
  have hstart : M = if K.lc = lcDecommissioned then K.inRom
      else if (K.bootBank f.bankAOk f.bankBOk 2).2 then
        { (K.bootBank f.bankAOk f.bankBOk 2).1 with core := (K.bootBank f.bankAOk f.bankBOk 2).1.core.startAt f.entry f.entry2 }.startRest l f others
      else ((K.bootBank f.bankAOk f.bankBOk 2).1.raise 0x0B03).inRom := by
    rw [hM, LaneSt.startLane, ← hK]
  obtain ⟨hB, hbytes⟩ := K.bootBank_keeps f.bankAOk f.bankBOk 2
  generalize K.bootBank f.bankAOk f.bankBOk 2 = x at hstart hB hbytes ⊢
  obtain ⟨B, booted⟩ := x
  dsimp only at hstart hB hbytes ⊢
  have hrom : ∀ X : LaneSt, X.st = stStandby → M = X.inRom → M.mode = 3 ∧ M.sys.boot = .romRecovery ∧ M.st = stStandby := by
    rintro X hX rfl
    obtain ⟨hmode, hrec, hXst⟩ := X.inRom_outcome
    exact ⟨hmode, hrec, hXst.trans hX⟩
  by_cases hlc : K.lc = lcDecommissioned
  · rw [if_pos hlc] at hstart
    exact ⟨fun _ => hrom K hKst hstart, fun h => absurd hlc h⟩
  rw [if_neg hlc] at hstart
  have hBst : B.st = stStandby := (hB.reads Reg.SYS_STATE_MODULE (by decide)).trans hKst
  cases booted
  case false =>
    exact ⟨fun _ => hrom _ (((B.raise_keepsBoot _ (by decide)).reads Reg.SYS_STATE_MODULE (by decide)).trans hBst) hstart,
      fun _ h => by cases h⟩
  case true =>
    refine ⟨fun h => absurd h (by simp [hlc]), fun _ _ => ?_⟩
    generalize hC : ({ B with core := B.core.startAt f.entry f.entry2 } : LaneSt) = C at hstart
    have hCB : B.keepsBoot bootFlds C := hC ▸ .same rfl rfl rfl
    have hCK : K.keepsBoot bootFlds C := hB.trans hCB
    have hCbytes : ∀ a, 0x106B1000 ≤ a → C.byte a = K.byte a := fun a ha => (show C.byte a = B.byte a by rw [← hC]; rfl).trans (hbytes a ha)
    have hCst : C.st = stStandby := (hCK.reads Reg.SYS_STATE_MODULE (by decide)).trans hKst
    obtain ⟨hfails, hends⟩ := C.startRest_outcome l f others
    rw [if_pos rfl] at hstart
    rw [← hstart] at hfails hends
    refine ⟨fun happ => ?_, fun happ hmode h0 h1 hcore => ?_⟩
    · obtain ⟨hmode, hMst, hclaims⟩ := hfails happ
      exact ⟨hmode, hMst.trans hCst, hclaims⟩
    · obtain ⟨hkeeps, hMmode⟩ := hends happ ((hCK.reads Reg.SYS_STATE_LANE_MODE (by decide)).trans hmode)
        ((K.slotRec_congr hCbytes _).trans h0) ((K.slotRec_congr hCbytes _).trans h1)
        (by rw [LaneSt.on, hCK.reads _ (by decide)]; exact hcore)
      have hall : (L.startBase f.stoHigh).keepsBoot stateFlds M := (hKeeps.trans hCK.state).trans hkeeps
      exact ⟨(hall.reads Reg.SYS_STATE_MODULE (by decide)).trans hst, hall.boot.trans hboot, hall.chosen.trans hchosen, hMmode⟩

end

end Sys2Proof.Machine

/-! ### The commands of a start -/
namespace Sys2Proof.Machine

section
variable (L : LaneSt) (l : Lane)

theorem LaneSt.renewKeys_keepsBoot : L.keepsBoot stateFlds (L.renewKeys l) := by
  unfold LaneSt.renewKeys LaneSt.deferredErase
  extract_lets A B
  have hA : L.keepsBoot stateFlds (L.incSat Reg.SEC_BOOTCNT_COUNT) := .wr (by decide) (.refl L)
  have hB : L.keepsBoot stateFlds A := .ite (hA.trans (LaneSt.eraseControl_keepsBoot _ l)) hA
  have hC : L.keepsBoot stateFlds B := .wr (by decide) (.wr (by decide) (.wr (by decide) hB))
  split
  exact hC.trans (.of_frame (B.updKeys_frame _))

theorem LaneSt.flkListen_keepsBoot : L.keepsBoot stateFlds L.flkListen := by
  unfold LaneSt.flkListen LaneSt.showKeeper
  extract_lets ks A k B
  have hA : L.keepsBoot stateFlds A := .of_frame (L.updFlk_frame _)
  have hB : L.keepsBoot stateFlds B := .wr (by decide) (.wr (by decide) (.wr (by decide) (.wr (by decide) (.wr (by decide) hA))))
  exact .wr (by decide) (.wr (by decide) hB)

theorem LaneSt.fallBack_keepsBoot : L.keepsBoot stateFlds L.fallBack := by
  refine .trans ?_ (LaneSt.raise_keepsBoot _ _ (by decide)).state
  exact .wr (by decide) (.wr (by decide) (.wr (by decide) (.refl L)))

/-- A cold boot is marked as such (R89). -/
theorem LaneSt.coldClocks_cold (f : BootFacts) : (L.coldClocks l f).rd Reg.SYS_WAKE_SRC_COLD = 1 := by
  unfold LaneSt.coldClocks
  extract_lets A B
  have hA : A.rd Reg.SYS_WAKE_SRC_COLD = 1 := by
    refine (LaneSt.rd_wr_addr _ _ _ _ (by decide)).trans ?_
    rw [LaneSt.rd_setReg, if_pos rfl]
    decide
  have hB : A.keepsBoot stateFlds B := .ite (.wr (by decide) (.wr (by decide) (.wr (by decide) (.refl A)))) A.fallBack_keepsBoot
  have hall : A.keepsBoot stateFlds ((B.renewKeys l).flkListen.raiseIf (!f.holdupOk) 0x0404) :=
    ((hB.trans (B.renewKeys_keepsBoot l)).trans (LaneSt.flkListen_keepsBoot _)).trans (LaneSt.raiseIf_keepsBoot _ _ _ (by decide)).state
  exact (hall.reads _ (by decide)).trans hA

/-- A memory that fails its test leaves the lane silent (R91). -/
theorem LaneSt.coldBootLane_fails (f : BootFacts) (others : Bool) (hmem : f.memOk = false) :
    (L.coldBootLane l f others).mode = 3 ∧ (L.coldBootLane l f others).st = stStandby ∧
      (L.coldBootLane l f others).on Reg.SYS_WAKE_SRC_COLD = true := by
  have heq : L.coldBootLane l f others = (((L.coldClocks l f).startBase f.stoHigh).startDebug l f.lidOpen).bootFails 0x0C01 := by
    rw [LaneSt.coldBootLane, hmem]
    rfl
  obtain ⟨hst, -, -, hcold⟩ := (L.coldClocks l f).startBase_started f.stoHigh
  obtain ⟨hmode, hfails, -⟩ := (((L.coldClocks l f).startBase f.stoHigh).startDebug l f.lidOpen).bootFails_outcome (id := 0x0C01) (by decide)
  have hkeeps := (LaneSt.startDebug_keepsBoot ((L.coldClocks l f).startBase f.stoHigh) l f.lidOpen).trans hfails
  rw [heq]
  refine ⟨hmode, (hkeeps.reads Reg.SYS_STATE_MODULE (by decide)).trans hst, ?_⟩
  rw [LaneSt.on, hkeeps.reads _ (by decide), hcold, L.coldClocks_cold l f]
  rfl

/-- A verified firmware set is committed in its bank, and the lane boots cold (R95). -/
theorem LaneSt.recovered (b : Bool) (x : Bank) :
    ((L.setBank b x).restart).st = stOff ∧ ((L.setBank b x).restart).sys.boot = .none ∧
      ((L.setBank b x).restart).bank b = { x with seq := x.seq % 0x100000000, svn := x.svn % 0x10000 } ∧
      ((L.setBank b x).restart).bank (!b) = L.bank (!b) := by
  have hbank : ∀ c, (L.setBank b x).bank c = if c = b then { x with seq := x.seq % 0x100000000, svn := x.svn % 0x10000 } else L.bank c := by
    intro c
    unfold LaneSt.setBank LaneSt.bank
    extract_lets y n A
    rw [(A.setBytes_frame _ _).1 .nvm (by decide)]
    cases b <;> cases c <;> rfl
  generalize L.setBank b x = X at hbank ⊢
  have hkept : ∀ c, X.restart.bank c = X.bank c := fun c => by
    rw [LaneSt.bank, LaneSt.bank, X.restart_frame.1 .nvm (by decide)]
  refine ⟨?_, rfl, (hkept b).trans ((hbank b).trans (if_pos rfl)), (hkept _).trans ((hbank _).trans (if_neg (by cases b <;> decide)))⟩
  exact LaneSt.rd_wr_self _ Reg.SYS_STATE_MODULE stOff (by decide)

end

/-! ### The module after a start -/

section
variable (s : State) (l : Lane)

theorem State.started_lane (o : Lane) : (s.started l).lane o = s.lane o := by
  unfold State.started
  extract_lets L up A B
  refine (State.driveSto_lane B l o).trans ?_
  simp only [B]
  split <;> rfl

theorem GuardianSt.start_up (G : GuardianSt) (r : List (Nat × Word)) : (G.start r).powered = true ∧ (G.start r).asleep = false := by
  have hup : ∀ H : GuardianSt, H.asleep = false → H.powerUp.powered = true ∧ H.powerUp.asleep = false := by
    intro H hH
    unfold GuardianSt.powerUp
    split
    · next hp => exact ⟨hp, hH⟩
    · exact ⟨rfl, hH⟩
  unfold GuardianSt.start
  extract_lets at_ A
  obtain ⟨hpowered, hasleep⟩ := hup { G with asleep := false } rfl
  split <;> exact ⟨hpowered, hasleep⟩

/-- The guardians that a started lane powers are up. -/
theorem State.started_powers (g : Gdn) (h : l = (suppliers g).1 ∨ l = (suppliers g).2) :
    ((s.started l).gdn g).powered = true ∧ ((s.started l).gdn g).asleep = false := by
  have hgdn : (s.started l).gdn g = if l = (suppliers g).1 ∨ l = (suppliers g).2 then (s.gdn g).start (s.lane l).imageRegs else s.gdn g := by
    unfold State.started
    extract_lets L up A B
    obtain ⟨hX, hY⟩ := B.driveSto_guardians l
    have hB : B.gX = A.gX ∧ B.gY = A.gY := by
      simp only [B]
      split <;> exact ⟨rfl, rfl⟩
    cases g
    · exact hX.trans hB.1
    · exact hY.trans hB.2
  rw [hgdn, if_pos h]
  exact GuardianSt.start_up _ _

end

section
variable {s : State} {l : Lane} {f : BootFacts} {t : Nat}

theorem exec_wakeComplete (hst : (s.lane l).st = stPark) (hboot : (s.lane l).sys.boot = .woken) :
    exec (.wakeComplete l f t) s = .next ((s.updLane l fun L => (L.tick t).startLane l f (s.othersVote l)).started l) := by
  refine (show exec (.wakeComplete l f t) s = execWakeComplete l f t s from rfl).trans ?_
  rw [execWakeComplete, if_pos ⟨hst, hboot⟩]

theorem exec_coldBoot {mv : Int} (hst : (s.lane l).st = stOff) (hmv : 17000 < mv) :
    ∃ u : State, exec (.coldBoot l mv f t) s = .next (u.started l) ∧ u.pending = s.pending ∧ (∀ o, o ≠ l → u.lane o = s.lane o) ∧
      u.lane l = (((s.lane l).tick t).updPwr fun p => { p with lost := false, gndLost := false, supMv := mv }).coldBootLane l f (s.othersVote l) := by
  let F : LaneSt → LaneSt := fun L =>
    ((L.tick t).updPwr fun p => { p with lost := false, gndLost := false, supMv := mv }).coldBootLane l f (s.othersVote l)
  let u : State := s.updLane l F
  refine ⟨{ u with stages := updNth u.stages (laneIx l) fun g => { g with supLost := false } }, ?_, rfl,
    fun o ho => State.lane_updLane_ne _ _ _ _ ho, State.lane_updLane_self s l F⟩
  exact (show exec (.coldBoot l mv f t) s = execColdBoot l mv f t s from rfl).trans (if_pos ⟨hst, hmv⟩)

end

/-- What lane `l` of a powered-down guardian masks. -/
theorem LaneSt.openMask_masks (L : LaneSt) {b : Nat} (hb : b < 16) :
    L.keeps [.fc, .regs] (L.openMask b) ∧ L.keepsRegs [0x40010018] (L.openMask b) ∧ (L.openMask b).on (shadowFld.bit b) = true := by
  refine ⟨fun p hp => (L.openMask_frame b).1 p (by simpa [or_comm] using hp), ?_, ?_⟩
  · exact LaneSt.keepsRegs_of_regs (M := L.put (shadowFld.bit b) true) rfl
      (L.wr_keepsRegs _ _ (show covered [0x40010018] 0x40010018 = true by decide))
  · rw [LaneSt.on, LaneSt.rd_congr (L := L.openMask b) (M := L.put (shadowFld.bit b) true) rfl]
    exact L.on_put_self _ _ (by simp; omega) (by simp)

/-- A guardian whose two lanes are both unpowered is unpowered (R13, R48, R413). -/
theorem exec_guardianPowerLoss (s : State) (g : Gdn) (ha : (s.lane (suppliers g).1).st = stOff) (hb : (s.lane (suppliers g).2).st = stOff)
    (hg : (s.gdn g).powered = true ∨ (s.gdn g).asleep = true) :
    Runs (.guardianPowerLoss g) s fun u => (∀ o, o ≠ g → u.gdn o = s.gdn o) ∧ u.stages = s.stages ∧ u.pending = s.pending ∧
      (u.gdn g).powered = false ∧ (u.gdn g).asleep = false ∧ (u.gdn g).waking = .all false ∧ (u.gdn g).out = [] ∧
      (u.gdn g).east.link = false ∧ (u.gdn g).west.link = false ∧
      ∀ l, (s.lane l).keeps [.fc, .regs] (u.lane l) ∧ (s.lane l).keepsRegs [0x40010018] (u.lane l) ∧
        ((s.lane l).up = true → (u.lane l).on (shadowFld.bit (14 + gdnIx g)) = true) := by
  have hmask : ∀ L : LaneSt, let M := if L.up then L.openMask (14 + gdnIx g) else L
      L.keeps [.fc, .regs] M ∧ L.keepsRegs [0x40010018] M ∧ (L.up = true → M.on (shadowFld.bit (14 + gdnIx g)) = true) := by
    intro L
    obtain ⟨hkeeps, hregs, hon⟩ := L.openMask_masks (b := 14 + gdnIx g) (by cases g <;> decide)
    cases hup : L.up
    · exact ⟨(L.frame_refl _).1, L.keepsRegs_refl _, fun h => by cases h⟩
    · exact ⟨hkeeps, hregs, fun _ => hon⟩
  refine ⟨_, (show exec (.guardianPowerLoss g) s = execGuardianPowerLoss g s from rfl).trans
    (if_pos (⟨ha, hb, hg⟩ : (s.lane (suppliers g).1).st = stOff ∧ (s.lane (suppliers g).2).st = stOff ∧ _)), ?_⟩
  refine ⟨fun o ho => ?_, ?_, ?_, ?_⟩
  · cases g <;> cases o <;> first | rfl | exact absurd rfl ho
  · cases g <;> rfl
  · cases g <;> rfl
  · cases g
    all_goals exact ⟨rfl, rfl, rfl, rfl, rfl, rfl, fun l => by cases l <;> exact hmask _⟩

/-- A firmware set that verifies ends ROM recovery (R95). -/
theorem exec_romRecoveryLoad (s : State) (l : Lane) (f : FwFacts) (b : Bool) (hup : (s.lane l).up = true)
    (hrom : (s.lane l).sys.boot = .romRecovery) (hlc : (s.lane l).lc ≠ lcDecommissioned) (hsig : f.sigOk = true)
    (hsvn : (s.lane l).nvm.rollback ≤ f.svn) :
    Runs (.romRecoveryLoad l f b) s fun u => (∀ o, o ≠ l → u.lane o = s.lane o) ∧ u.gX = s.gX ∧ u.gY = s.gY ∧ u.pending = s.pending ∧
      (u.lane l).st = stOff ∧ (u.lane l).sys.boot = .none ∧ ((u.lane l).bank b).state = .committed ∧ ((u.lane l).bank b).svn = f.svn % 65536 ∧
      ((u.lane l).bank b).seq = (max (s.lane l).nvm.bankA.seq (s.lane l).nvm.bankB.seq + 1) % 4294967296 ∧
      (u.lane l).bank (!b) = (s.lane l).bank (!b) := by
  let F : LaneSt → LaneSt := fun L =>
    if L.up ∧ L.sys.boot = .romRecovery ∧ L.lc ≠ lcDecommissioned ∧ f.sigOk ∧ L.nvm.rollback ≤ f.svn then
      (L.setBank b { state := .committed, seq := max L.nvm.bankA.seq L.nvm.bankB.seq + 1, svn := f.svn, len := 0, verified := true, digest := f.digest }).restart
    else L
  obtain ⟨hst, hboot, hbank, hother⟩ := (s.lane l).recovered b
    { state := .committed, seq := max (s.lane l).nvm.bankA.seq (s.lane l).nvm.bankB.seq + 1, svn := f.svn, len := 0, verified := true, digest := f.digest }
  have hF : F (s.lane l) = _ := if_pos ⟨hup, hrom, hlc, hsig, hsvn⟩
  have hlane : (((s.updLane l F).driveSto l).powerStages).lane l = F (s.lane l) :=
    (State.driveSto_lane _ l l).trans (State.lane_updLane_self _ _ _)
  obtain ⟨hX, hY⟩ := (s.updLane l F).driveSto_guardians l
  refine ⟨((s.updLane l F).driveSto l).powerStages, rfl, fun o ho => (State.driveSto_lane _ l o).trans (State.lane_updLane_ne _ _ _ _ ho),
    hX, hY, State.driveSto_pending _ l, ?_⟩
  rw [hlane, hF, hbank]
  exact ⟨hst, hboot, rfl, rfl, rfl, hother⟩

/-- Settles O35: where a start ends, from a wake and from a cold boot, ROM recovery, and a guardian without power. -/
theorem startEndsInStandby : Obligations.StartEndsInStandby := by
  refine ⟨?_, fun s l f b => exec_romRecoveryLoad s l f b, fun s g => exec_guardianPowerLoss s g⟩
  intro s l f t others hothers outcome powers
  refine ⟨fun hst hboot => ?_, fun mv B hst hmv hB => ?_⟩
  · refine ⟨_, exec_wakeComplete hst hboot, fun o ho => (State.started_lane _ l o).trans (State.lane_updLane_ne _ _ _ _ ho),
      State.started_pending _ l, fun g hg => State.started_powers _ l g hg, ?_⟩
    rw [State.started_lane, State.lane_updLane_self, ← hothers]
    exact LaneSt.startLane_outcome _ l f others rfl rfl
  · obtain ⟨u, hexec, hpending, hne, hlane⟩ := exec_coldBoot (f := f) (t := t) hst hmv
    refine ⟨_, hexec, fun o ho => (u.started_lane l o).trans (hne o ho), (u.started_pending l).trans hpending,
      fun g hg => u.started_powers l g hg, fun hmem => ?_, fun hmem => ?_⟩
    · rw [State.started_lane]
      refine LaneSt.startLane_outcome _ l f others hB (hlane.trans ?_)
      rw [LaneSt.coldBootLane, if_pos hmem, ← hothers]
    · rw [State.started_lane, hlane]
      exact LaneSt.coldBootLane_fails _ l f _ hmem

end Sys2Proof.Machine

/-! ## Gate commands, posting, peak limit, loss of lock (R24, R25, R163, R223 to R229, R246 to R249) -/
namespace Sys2Proof.Machine

/-! ### What a period's computation keeps -/

theorem LaneSt.cst_updCom_self (L : LaneSt) {i : Nat} (hi : i < 3) (f : ComStg → ComStg) : (L.updCom i f).cst i = f (L.cst i) := by
  interval_cases i <;> rfl

theorem LaneSt.cst_congr {L M : LaneSt} (h : M.com = L.com) (i : Nat) : M.cst i = L.cst i := by
  rw [LaneSt.cst, LaneSt.cst, h]

/-- A register of the commutation engine. -/
theorem comReg_covered {rs : List Nat} {n : Nat} (h : n < 65536) : covered (0x4006 :: rs) (0x40060000 + n) = true :=
  covered_block (b := 0x4006) (by omega) (by decide) (by simp)

/-- COM_STAT is one of them. -/
theorem comStat_covered {rs : List Nat} : covered (0x4006 :: rs) 0x40060000 = true := comReg_covered (n := 0) (by decide)

/-- The commands in force and the comparators' word of stage `i` are the same, and registers other than the engine's and the
collector's. -/
structure LaneSt.inPeriod (i : Nat) (L M : LaneSt) : Prop where
  words : M.com.words = L.com.words
  bemf : (M.cst i).bemf = (L.cst i).bemf
  regs : L.keepsRegs (0x4006 :: faultRegs) M

namespace LaneSt.inPeriod
variable {i : Nat} {L M N : LaneSt}

theorem refl (L : LaneSt) : L.inPeriod i L := ⟨rfl, rfl, L.keepsRegs_refl _⟩

theorem trans (h : L.inPeriod i M) (h1 : M.inPeriod i N) : L.inPeriod i N :=
  ⟨h1.words.trans h.words, h1.bemf.trans h.bemf, keepsRegs_trans h1.regs h.regs⟩

theorem ite {c : Prop} [Decidable c] (h : L.inPeriod i M) (h' : L.inPeriod i N) : L.inPeriod i (if c then M else N) := by
  split <;> assumption

/-- A change outside commutation. -/
theorem of_com (h : M.com = L.com) (hr : L.keepsRegs (0x4006 :: faultRegs) M) : L.inPeriod i M :=
  ⟨by rw [h], by rw [cst_congr h], hr⟩

theorem wr {f : Fld} {v : Nat} (h : covered (0x4006 :: faultRegs) f.addr = true) (h1 : L.inPeriod i M) : L.inPeriod i (M.wr f v) :=
  h1.trans (of_com rfl (M.wr_keepsRegs f v h))

theorem updCom (hi : i < 3) {f : ComStg → ComStg} (hf : ∀ c, (f c).bemf = c.bemf) (h1 : L.inPeriod i M) : L.inPeriod i (M.updCom i f) :=
  h1.trans ⟨rfl, by rw [M.cst_updCom_self hi, hf], keepsRegs_same rfl⟩

theorem raise {id d : Nat} (hid : id < 65536) (h1 : L.inPeriod i M) : L.inPeriod i (M.raise id d) :=
  h1.trans (of_com ((M.raise_frame id d).1 .com (by decide)) (keepsRegs_mono (M.raise_regs id d hid) (by decide)))

end LaneSt.inPeriod

/-- What bringing the service up to date writes. -/
theorem LaneSt.refreshService_regs (L : LaneSt) : L.keepsRegs [0x40060000] L.refreshService :=
  keepsRegs_wr (by decide) (keepsRegs_for3 (fun i _ M => M.wr_keepsRegs (Reg.COM_STAT_OUT.bit i) _
    (show covered [0x40060000] 0x40060000 = true by decide)) L)

theorem LaneSt.refreshService_com (L : LaneSt) : L.refreshService.com = L.com := L.refreshService_frame.1 .com (by decide)

/-- A field of COM_STAT that tells neither the stages out of service nor the shape. -/
theorem LaneSt.refreshService_stat (L : LaneSt) (lo w : Nat) (h : 15 ≤ lo ∨ (2 ≤ lo ∧ lo + w ≤ 12)) :
    L.refreshService.rd ⟨0x40060000, lo, w⟩ = L.rd ⟨0x40060000, lo, w⟩ := by
  have hput : ∀ (M : LaneSt) (s : Nat) (b : Bool), s < 3 → (M.put (Reg.COM_STAT_OUT.bit s) b).rd ⟨0x40060000, lo, w⟩ =
      M.rd ⟨0x40060000, lo, w⟩ := fun M s b hs => LaneSt.rd_wr_other _ _ _ _ (.inr (by simp; omega))
  unfold LaneSt.refreshService
  extract_lets A n
  have hA : A.rd ⟨0x40060000, lo, w⟩ = L.rd ⟨0x40060000, lo, w⟩ :=
    (hput _ 2 _ (by decide)).trans ((hput _ 1 _ (by decide)).trans (hput L 0 _ (by decide)))
  exact (LaneSt.rd_wr_other _ _ _ _ (.inr (by simp; omega))).trans hA

theorem LaneSt.inPeriod.refreshService {i : Nat} {L M : LaneSt} (h1 : L.inPeriod i M) : L.inPeriod i M.refreshService :=
  h1.trans (.of_com M.refreshService_com (keepsRegs_mono M.refreshService_regs (by decide)))

section
variable (L : LaneSt) {i : Nat} (hi : i < 3)
include hi

theorem LaneSt.startRun_inPeriod (th adv sigma : Int) : L.inPeriod i (L.startRun i th adv sigma) := by
  refine .updCom hi (fun _ => rfl) (.wr ?_ (.wr ?_ (.wr comStat_covered (.refl L))))
  all_goals exact comReg_covered (by omega)

theorem LaneSt.observe_inPeriod (pos neg : Nat) : L.inPeriod i (L.observe i pos neg) :=
  .ite (.updCom hi (fun _ => rfl) (.refl L)) (.updCom hi (fun _ => rfl) (.refl L))

theorem LaneSt.observeFree_inPeriod (q : Nat) : L.inPeriod i (L.observeFree i q) := by
  refine .updCom hi (fun _ => rfl) (.wr ?_ (.wr ?_ (.refl L)))
  all_goals exact comReg_covered (by omega)

theorem LaneSt.countResid_inPeriod : L.inPeriod i (L.countResid i) := by
  unfold LaneSt.countResid
  split
  · exact .refl L
  · exact .updCom hi (fun _ => rfl) (.refl L)

theorem LaneSt.lock_inPeriod : L.inPeriod i (L.lock i) :=
  .updCom hi (fun _ => rfl) (.wr comStat_covered (.wr (comReg_covered (by omega)) (.refl L)))

theorem LaneSt.lockState_inPeriod : L.inPeriod i (L.lockState i) := by
  unfold LaneSt.lockState
  extract_lets A c
  have hA : L.inPeriod i A := L.countResid_inPeriod hi
  have hlock : L.inPeriod i (A.lock i) := hA.trans (A.lock_inPeriod hi)
  have hobs : ∀ v, L.inPeriod i (A.wr (Reg.COM_STG_STAT_OBS i) v) := fun v => .wr (comReg_covered (by omega)) hA
  split
  · refine .ite (.ite ((hobs 1).raise (by decide)) ?_) hA
    exact .refreshService (.raise (by decide) (.updCom hi (fun _ => rfl) (.wr comStat_covered (hobs 2))))
  · exact .ite hlock hA
  · exact .ite hlock.refreshService hA
  · exact hA

theorem LaneSt.coastOn_inPeriod : L.inPeriod i (L.coastOn i) := .updCom hi (fun _ => rfl) (.refl L)

theorem LaneSt.flyRef_inPeriod (icmd iref : Int) : L.inPeriod i (L.flyRef i icmd iref).1 := by
  unfold LaneSt.flyRef
  split
  · exact .refl L
  · split
    · split <;> exact .refl L
    · extract_lets ramp
      split
      · exact .updCom hi (fun _ => rfl) (.wr comStat_covered (.refl L))
      · exact .updCom hi (fun _ => rfl) (.refl L)

theorem LaneSt.notePeak_inPeriod (iref : Int) (t u : Nat) : L.inPeriod i (L.notePeak i iref t u) := .updCom hi (fun _ => rfl) (.refl L)

theorem LaneSt.stageDuty_inPeriod (iref : Int) : L.inPeriod i (L.stageDuty i iref) := by
  unfold LaneSt.stageDuty
  extract_lets idle A ia B d
  have hA : L.inPeriod i A := .ite (.updCom hi (fun _ => rfl) (.refl L)) (.refl L)
  have hB : L.inPeriod i B := .ite hA (.updCom hi (fun _ => rfl) hA)
  exact .wr comStat_covered (.wr (comReg_covered (by omega)) hB)

theorem LaneSt.moveTransfer_inPeriod (th : Int) : L.inPeriod i (L.moveTransfer i th) := by
  unfold LaneSt.moveTransfer
  split
  · exact .refl L
  · refine .ite (.updCom hi (fun _ => rfl) (.wr ?_ (.wr ?_ (.refl L)))) (.updCom hi (fun _ => rfl) (.refl L))
    all_goals exact comReg_covered (by omega)

theorem LaneSt.tryTransfer_inPeriod (th sigma adv ec : Int) (span q : Nat) : L.inPeriod i (L.tryTransfer i th sigma adv ec span q) := by
  unfold LaneSt.tryTransfer
  extract_lets k
  split
  refine .ite (.refl L) (.ite (.updCom hi (fun _ => rfl) (.wr ?_ (.refl L))) (.updCom hi (fun _ => rfl) (.wr ?_ (.refl L))))
  all_goals exact comReg_covered (by omega)

/-- A period of a transfer leaves a transfer. -/
theorem LaneSt.transferCmd_transfers (t : Transfer) (icmd iref d : Int) : L.inPeriod i (L.transferCmd i t icmd iref d).1 ∧
    ((L.transferCmd i t icmd iref d).1.cst i).transfer ≠ none := by
  unfold LaneSt.transferCmd
  split
  extract_lets f full
  split
  split
  refine ⟨.updCom hi (fun _ => rfl) (.refl L), ?_⟩
  rw [LaneSt.cst_updCom_self _ hi]
  exact Option.some_ne_none _

/-- RUN without a transfer drives the sector's two legs and changes nothing; it drives some command in any case. -/
theorem LaneSt.runCmd_cmd (icmd iref : Int) : L.inPeriod i (L.runCmd i icmd iref).1 ∧ (L.runCmd i icmd iref).2.isSome = true ∧
    (((L.runCmd i icmd iref).1.cst i).transfer = none → (L.runCmd i icmd iref).1 = L ∧ (L.runCmd i icmd iref).2 =
      some (legsCmd [((rolesOf (L.rd (Reg.COM_STG_STAT_SECTOR i)) icmd).1, pwmEdges L.period (L.cst i).duty),
        ((rolesOf (L.rd (Reg.COM_STG_STAT_SECTOR i)) icmd).2, lowEdges L.period)])) := by
  unfold LaneSt.runCmd
  extract_lets d
  split
  · next t _ =>
    obtain ⟨hkeeps, htransfers⟩ := L.transferCmd_transfers hi t icmd iref d
    exact ⟨hkeeps, rfl, fun h => absurd h htransfers⟩
  · exact ⟨.refl L, rfl, fun _ => ⟨rfl, rfl⟩⟩

end

end Sys2Proof.Machine

/-! ### One period by MODE (R224, R227 to R229, R249) -/
namespace Sys2Proof.Machine

/-- What RUN without a transfer drives: the sector's two legs, the positive with the duty, the negative low (R227, R229). -/
def LaneSt.runLegs (L : LaneSt) (i : Nat) : GateCmd :=
  legsCmd [((rolesOf (L.rd (Reg.COM_STG_STAT_SECTOR i)) (L.icmdOf i)).1, pwmEdges L.period (L.cst i).duty),
    ((rolesOf (L.rd (Reg.COM_STG_STAT_SECTOR i)) (L.icmdOf i)).2, lowEdges L.period)]

theorem LaneSt.inPeriod.icmdOf {i : Nat} {L M : LaneSt} (h : L.inPeriod i M) (j : Nat) : M.icmdOf j = L.icmdOf j := by
  rw [LaneSt.icmdOf, LaneSt.icmdOf, h.words]

/-! The steps of a period of RUN, in their order. -/

/-- A change of MODE to RUN begins a flying start. -/
def LaneSt.runStarted (L : LaneSt) (i p : Nat) : LaneSt :=
  if (L.cst i).lastMode ≠ 1 then L.startRun i (L.angle i p) (L.advance i) (rotation (L.freq i) (L.icmdOf i)) else L

/-- The observer's step. -/
def LaneSt.runObserved (L : LaneSt) (i p : Nat) : LaneSt :=
  let A := L.runStarted i p
  let r := rolesOf (A.rd (Reg.COM_STG_STAT_SECTOR i)) (L.icmdOf i)
  (((A.observe i r.1 r.2).observeFree i (p - 2)).lockState i).coastOn i

/-- The reference, with what a flying start makes of it. -/
def LaneSt.runFly (L : LaneSt) (i p : Nat) : LaneSt × Int :=
  let B := L.runObserved i p
  B.flyRef i (L.icmdOf i) (B.reference i (L.shaping i).2.2.1 (L.mapAt i (L.angle i p) (absN (L.icmdOf i)) (L.shaping i).2.2.2).1)

/-- The stage current regulated. -/
def LaneSt.runRegulated (L : LaneSt) (i p : Nat) : LaneSt :=
  let F := L.runFly i p
  let C := F.1.wrS (Reg.COM_IREF_IREF i) (if L.icmdOf i < 0 then -F.2 else F.2)
  (C.notePeak i F.2 (C.periodNs i p) (C.periodNs i (p + 1))).stageDuty i F.2

/-- The transfer carried on, or begun. -/
def LaneSt.runMoved (L : LaneSt) (i p : Nat) : LaneSt :=
  let D := L.runRegulated i p
  let th := L.angle i p
  let E := if (D.cst i).transfer.isSome then D.moveTransfer i th
    else D.tryTransfer i th (rotation (L.freq i) (L.icmdOf i)) (L.advance i)
      (L.mapAt i th (absN (L.icmdOf i)) (L.shaping i).2.2.2).2 (L.shaping i).1 (L.shaping i).2.1
  E.updCom i fun s => { s with theta := th }

theorem LaneSt.runPeriod_eq (L : LaneSt) (i p : Nat) :
    L.runPeriod i p = (L.runMoved i p).runCmd i (L.icmdOf i) (L.runFly i p).2 := rfl

theorem LaneSt.rd_updCom (L : LaneSt) (i : Nat) (g : ComStg → ComStg) (f : Fld) : (L.updCom i g).rd f = L.rd f := LaneSt.rd_congr rfl f

/-- The registers after RUN has been left. -/
def LaneSt.runLeft (L : LaneSt) (i : Nat) : LaneSt :=
  (((L.put (Reg.COM_STAT_FLY.bit i) false).put (Reg.COM_STG_STAT_TRANSFER i) false).put (Reg.COM_STAT_VLIM.bit i) false).wr
    (Reg.COM_IREF_IREF i) 0

theorem LaneSt.leaveRun_eq (L : LaneSt) (i : Nat) : L.leaveRun i = (L.runLeft i).updCom i fun s =>
    { s with transfer := none, acc := 0, emf := 0, ih := none, fly := none, duty := 0 } := rfl

theorem LaneSt.leaveRun_pwm (L : LaneSt) (i : Nat) : (L.leaveRun i).rd Reg.COM_CFG_PWM = L.rd Reg.COM_CFG_PWM := by
  rw [LaneSt.leaveRun_eq, LaneSt.rd_updCom, LaneSt.runLeft, LaneSt.rd_wr_addr _ _ _ _ (by simp only; omega), LaneSt.put,
    LaneSt.rd_wr_addr _ _ _ _ (by simp only; omega), LaneSt.put, LaneSt.rd_wr_addr _ _ _ _ (by simp only; omega), LaneSt.put,
    LaneSt.rd_wr_addr _ _ _ _ (by simp only; omega)]

section
variable (L : LaneSt) {i : Nat} (hi : i < 3)
include hi

theorem LaneSt.runStarted_inPeriod (p : Nat) : L.inPeriod i (L.runStarted i p) := .ite (L.startRun_inPeriod hi _ _ _) (.refl L)

theorem LaneSt.runObserved_inPeriod (p : Nat) : L.inPeriod i (L.runObserved i p) :=
  ((L.runStarted_inPeriod hi p).trans (LaneSt.observe_inPeriod _ hi _ _)).trans ((LaneSt.observeFree_inPeriod _ hi _).trans
    ((LaneSt.lockState_inPeriod _ hi).trans (LaneSt.coastOn_inPeriod _ hi)))

theorem LaneSt.runRegulated_inPeriod (p : Nat) : L.inPeriod i (L.runRegulated i p) := by
  have hF : L.inPeriod i (L.runFly i p).1 := (L.runObserved_inPeriod hi p).trans (LaneSt.flyRef_inPeriod _ hi _ _)
  have hiref : ∀ x, L.inPeriod i ((L.runFly i p).1.wrS (Reg.COM_IREF_IREF i) x) := fun x => .wr (comReg_covered (by omega)) hF
  exact ((hiref _).trans (LaneSt.notePeak_inPeriod _ hi _ _ _)).trans (LaneSt.stageDuty_inPeriod _ hi _)

theorem LaneSt.runMoved_inPeriod (p : Nat) : L.inPeriod i (L.runMoved i p) :=
  .updCom hi (fun _ => rfl) (.ite ((L.runRegulated_inPeriod hi p).trans (LaneSt.moveTransfer_inPeriod _ hi _))
    ((L.runRegulated_inPeriod hi p).trans (LaneSt.tryTransfer_inPeriod _ hi _ _ _ _ _ _)))

/-- A period of RUN (R227 to R229). -/
theorem LaneSt.runPeriod_cmd (p : Nat) : L.inPeriod i (L.runPeriod i p).1 ∧ (L.runPeriod i p).2.isSome = true ∧
    (((L.runPeriod i p).1.cst i).transfer = none → (L.runPeriod i p).2 = some ((L.runPeriod i p).1.runLegs i)) := by
  have hmoved := L.runMoved_inPeriod hi p
  rw [L.runPeriod_eq i p]
  obtain ⟨hkeeps, hsome, hlegs⟩ := (L.runMoved i p).runCmd_cmd hi (L.icmdOf i) (L.runFly i p).2
  refine ⟨hmoved.trans hkeeps, hsome, fun h => ?_⟩
  obtain ⟨hsame, hcmd⟩ := hlegs h
  rw [hcmd, hsame, LaneSt.runLegs, hmoved.icmdOf i]

/-- The stage has left RUN: no reference. -/
theorem LaneSt.leaveRun_inPeriod : L.inPeriod i (L.leaveRun i) ∧ (L.leaveRun i).rd (Reg.COM_IREF_IREF i) = 0 := by
  rw [LaneSt.leaveRun_eq, LaneSt.rd_updCom]
  refine ⟨.updCom hi (fun _ => rfl) (.wr ?_ (.wr comStat_covered (.wr ?_ (.wr comStat_covered (.refl L))))), ?_⟩
  · exact comReg_covered (by omega)
  · exact comReg_covered (by omega)
  · exact LaneSt.rd_wr_self _ (Reg.COM_IREF_IREF i) 0 (by simp)

theorem LaneSt.dtcRefuse_inPeriod : L.inPeriod i (L.dtcRefuse i) :=
  .ite (.refl L) (.raise (by decide) (.updCom hi (fun _ => rfl) (.refl L)))

theorem LaneSt.dtcPeriod_inPeriod : L.inPeriod i (L.dtcPeriod i).1 := by
  unfold LaneSt.dtcPeriod LaneSt.dtcFlux
  extract_lets T v va vb A
  split
  exact .updCom hi (fun _ => rfl) (.updCom hi (fun _ => rfl) (.refl L))

end

section
variable (L : LaneSt)

/-- The PWM frequency's setting is kept by what does not write COM_CFG. -/
theorem LaneSt.period_congr {L M : LaneSt} (h : M.rd Reg.COM_CFG_PWM = L.rd Reg.COM_CFG_PWM) : M.period = L.period := by
  rw [LaneSt.period, LaneSt.period, h]

theorem LaneSt.dtcRefuse_regs (i : Nat) : L.keepsRegs faultRegs (L.dtcRefuse i) :=
  keepsRegs_ite (L.keepsRegs_refl _) (keepsRegs_trans (LaneSt.raise_regs _ _ _ (by decide)) (keepsRegs_same rfl))

end

/-- The command of a period by MODE (R224, R229, R249): `r` is what `modePeriod` gives for the MODE `m`. -/
structure LaneSt.MeetsMode (L : LaneSt) (i m : Nat) (r : LaneSt × Option GateCmd) : Prop where
  keeps : L.inPeriod i r.1
  short : m = 3 → r.2 = some (.all (lowEdges r.1.period)) ∧ r.1.rd (Reg.COM_IREF_IREF i) = 0
  off : m ≠ 1 → m ≠ 2 → m ≠ 3 → r.2 = none ∧ r.1.rd (Reg.COM_IREF_IREF i) = 0
  refused : m = 2 → L.rd Reg.COM_CFG_PWM ≠ 2 → r.2 = none ∧ r.1.dtcOk = false
  run : m = 1 → r.2.isSome = true ∧ ((r.1.cst i).transfer = none → r.2 = some (r.1.runLegs i))

theorem LaneSt.dtcOk_false {L : LaneSt} (h : L.rd Reg.COM_CFG_PWM ≠ 2) : L.dtcOk = false := by
  simp [LaneSt.dtcOk, h]

theorem LaneSt.modePeriod_meets (L : LaneSt) {i : Nat} (hi : i < 3) (p : Nat) : L.MeetsMode i (L.modeNow i) (L.modePeriod i p) := by
  obtain ⟨hleave, hiref⟩ := L.leaveRun_inPeriod hi
  have hperiod := LaneSt.period_congr (L.leaveRun_pwm i)
  unfold LaneSt.modePeriod
  generalize L.modeNow i = m
  split
  case h_1 =>
    obtain ⟨hkeeps, hsome, hlegs⟩ := L.runPeriod_cmd hi p
    exact ⟨hkeeps, by simp, by simp, by simp, fun _ => ⟨hsome, hlegs⟩⟩
  case h_2 =>
    split
    · next hok =>
      refine ⟨hleave.trans (LaneSt.dtcPeriod_inPeriod _ hi), by simp, by simp, fun _ h => ?_, by simp⟩
      rw [LaneSt.dtcOk_false h] at hok
      cases hok
    · refine ⟨hleave.trans (LaneSt.dtcRefuse_inPeriod _ hi), by simp, by simp, fun _ h => ⟨rfl, LaneSt.dtcOk_false ?_⟩, by simp⟩
      rwa [rd_of_keepsRegs (LaneSt.dtcRefuse_regs _ i) _ (by decide), L.leaveRun_pwm i]
  case h_3 => exact ⟨hleave, fun _ => ⟨by rw [hperiod], hiref⟩, by simp, by simp, by simp⟩
  case h_4 h1 h2 h3 => exact ⟨hleave, fun h => absurd h h3, fun _ _ _ => ⟨rfl, hiref⟩, fun h => absurd h h2, fun h => absurd h h1⟩

end Sys2Proof.Machine

/-! ### The command and its frame (R24, R163) -/
namespace Sys2Proof.Machine

/-- A bit of COM_STAT after it was written. -/
theorem LaneSt.put_statBit (L : LaneSt) {lo i : Nat} (h : lo + i < 32) (b : Bool) :
    (L.put ⟨0x40060000, lo + i, 1⟩ b).on ⟨0x40060000, lo + i, 1⟩ = b := L.on_put_self _ _ h Nat.one_pos

/-- The words in force of the lane for period `p` of stage `i`. -/
def LaneSt.wordsFor (L : LaneSt) (i p : Nat) : List Word :=
  match L.com.posts.find? fun x => decide (x.1 ≤ L.periodNs i p) with
  | none => L.com.words
  | some x =>
    (((L.com.words.set (4 * i) (x.2.getD (4 * i) 0#32)).set (4 * i + 1) (x.2.getD (4 * i + 1) 0#32)).set (4 * i + 2)
      (x.2.getD (4 * i + 2) 0#32)).set (4 * i + 3) (x.2.getD (4 * i + 3) 0#32)

theorem LaneSt.takeWords_eq (L : LaneSt) (i p : Nat) : L.takeWords i p = { L with com := { L.com with words := L.wordsFor i p } } := by
  unfold LaneSt.takeWords LaneSt.wordsFor
  cases L.com.posts.find? fun x => decide (x.1 ≤ L.periodNs i p) <;> rfl

/-- The last part of a period: the command that `modePeriod` gave for the MODE `m` is stored. -/
def LaneSt.storeCmd (r : LaneSt × Option GateCmd) (i m : Nat) : LaneSt :=
  let M := r.1.put (Reg.COM_STAT_DTC.bit i) (m == 2 && r.1.dtcOk)
  let N := { M with com := { M.com with distSum := M.com.distSum + if M.serves i then (M.cst i).dist else 0 } }
  (N.updCom i fun s => { s with cmd := r.2, lastMode := m }).refreshService

/-- The lane with the words and the results that period `p` uses. -/
def LaneSt.periodLane (L : LaneSt) (i p : Nat) : LaneSt := (L.takeWords i p).updCom i fun c => { c with now := L.resultFor i p }

theorem LaneSt.comPeriod_eq (L : LaneSt) (i p : Nat) :
    L.comPeriod i p = LaneSt.storeCmd ((L.periodLane i p).modePeriod i p) i ((L.periodLane i p).modeNow i) := by
  unfold LaneSt.comPeriod
  rfl

/-- The lane with what the comparators tell, before its period. -/
def LaneSt.periodStart (L : LaneSt) (i bemf p : Nat) : LaneSt := (L.skimNote i p).updCom i fun c => { c with bemf := bemf }

theorem LaneSt.periodStart_words (L : LaneSt) (i bemf p : Nat) : (L.periodStart i bemf p).wordsFor i p = L.wordsFor i p := rfl

/-- The MODE in force follows from the registers, the words and what bars the stage. -/
theorem LaneSt.modeNow_congr {L M : LaneSt} {i : Nat} (hregs : M.regs = L.regs) (hwords : M.com.words = L.com.words)
    (hfloat : (M.cst i).floatAt = (L.cst i).floatAt) (harm : (M.cst i).barredArm = (L.cst i).barredArm)
    (hmode : (M.cst i).barredMode = (L.cst i).barredMode) : M.modeNow i = L.modeNow i := by
  have hon : ∀ f, M.on f = L.on f := fun f => by rw [LaneSt.on, LaneSt.on, LaneSt.rd_congr hregs]
  have hst : M.st = L.st := LaneSt.rd_congr hregs _
  have hmodeOf : M.modeOf i = L.modeOf i := by rw [LaneSt.modeOf, LaneSt.modeOf, hwords]
  unfold LaneSt.modeNow
  dsimp only
  rw [hon, hon, hfloat, harm, hmode, hst, hmodeOf]

/-- A register of the engine other than COM_STAT. -/
theorem comReg_notStat {n : Nat} (h : 0 < n) : covered [0x40060000] (0x40060000 + n) = false := by
  simp [covered]
  omega

section
variable (L : LaneSt) {i : Nat} (hi : i < 3)
include hi

/-- What is stored of a period. -/
theorem LaneSt.storeCmd_stores (r : LaneSt × Option GateCmd) (m : Nat) :
    r.1.inPeriod i (LaneSt.storeCmd r i m) ∧ (LaneSt.storeCmd r i m).cst i = { r.1.cst i with cmd := r.2, lastMode := m } ∧
      r.1.keepsRegs [0x40060000] (LaneSt.storeCmd r i m) ∧
      (LaneSt.storeCmd r i m).on (Reg.COM_STAT_DTC.bit i) = (m == 2 && r.1.dtcOk) := by
  obtain ⟨R, g⟩ := r
  unfold LaneSt.storeCmd
  dsimp -zeta only
  extract_lets M d N c
  have hM : R.keepsRegs [0x40060000] M := R.wr_keepsRegs (Reg.COM_STAT_DTC.bit i) _ (show covered [0x40060000] 0x40060000 = true by decide)
  have hMstat : M.on (Reg.COM_STAT_DTC.bit i) = (m == 2 && R.dtcOk) := R.put_statBit (lo := 6) (by omega) _
  have hMin : R.inPeriod i M := .wr comStat_covered (.refl R)
  have hMcst : M.cst i = c := LaneSt.cst_congr ((R.put_frame _ _).1 .com (by decide)) i
  clear_value M c
  have hN : R.inPeriod i N := hMin.trans ⟨rfl, rfl, keepsRegs_same rfl⟩
  have hNregs : N.regs = M.regs := rfl
  have hNcst : N.cst i = c := hMcst
  clear_value N
  refine ⟨.refreshService (.updCom hi (fun _ => rfl) hN), ?_, ?_, ?_⟩
  · rw [LaneSt.cst_congr (LaneSt.refreshService_com _), LaneSt.cst_updCom_self _ hi, hNcst]
  · exact keepsRegs_trans (LaneSt.refreshService_regs _) (keepsRegs_of_regs (M := M) hNregs hM)
  · rw [← hMstat, LaneSt.on, LaneSt.on]
    exact congrArg (· != 0) ((LaneSt.refreshService_stat _ (6 + i) 1 (.inr (by omega))).trans (LaneSt.rd_congr hNregs _))

/-- A period computes with the words posted for it, in the MODE in force under them. -/
theorem LaneSt.periodLane_start (bemf p : Nat) {A : LaneSt} (hA : A = (L.periodStart i bemf p).periodLane i p) :
    A.com.words = (L.takeWords i p).com.words ∧ A.modeNow i = (L.takeWords i p).modeNow i ∧ (A.cst i).bemf = bemf ∧ A.regs = L.regs := by
  have hwords : A.com.words = (L.takeWords i p).com.words := by
    rw [hA, LaneSt.periodLane, LaneSt.takeWords_eq, L.takeWords_eq, ← L.periodStart_words i bemf p]
    rfl
  have hregs : A.regs = L.regs := by
    rw [hA, LaneSt.periodLane, LaneSt.takeWords_eq]
    rfl
  have hcst : ∃ r, A.cst i = { L.cst i with bemf := bemf, now := r } := by
    rw [hA, LaneSt.periodLane, LaneSt.cst_updCom_self _ hi, LaneSt.takeWords_eq]
    exact ⟨_, congrArg (fun c : ComStg => { c with now := (L.periodStart i bemf p).resultFor i p })
      ((L.skimNote i p).cst_updCom_self hi fun c => { c with bemf := bemf })⟩
  obtain ⟨r, hcst⟩ := hcst
  have htaken : (L.takeWords i p).regs = L.regs ∧ (L.takeWords i p).cst i = L.cst i := by
    rw [L.takeWords_eq]
    exact ⟨rfl, rfl⟩
  exact ⟨hwords, LaneSt.modeNow_congr (hregs.trans htaken.1.symm) hwords (by rw [hcst, htaken.2]) (by rw [hcst, htaken.2])
    (by rw [hcst, htaken.2]), by rw [hcst], hregs⟩

/-- The frame formed carries the command, the next SEQ, and the claim and veto presented (R163). -/
theorem LaneSt.formFrame_forms : (L.formFrame i).regs = L.regs ∧ (L.formFrame i).com.words = L.com.words ∧
    (L.formFrame i).safe = { L.safe with seq := (L.formFrame i).safe.seq, pulse := (L.formFrame i).safe.pulse } ∧
    nth (L.formFrame i).safe.seq i = (nth L.safe.seq i + 1) % 16 ∧
    ∃ f, (L.formFrame i).cst i = { L.cst i with frame := some f } ∧ f.seq = nth (L.formFrame i).safe.seq i ∧
      f.claim = L.rd (Reg.CLAIM_OF i) ∧ f.veto = BitVec.ofNat 3 (L.rd Reg.CLM_PRESENT_VETO) ∧
      f.iso = L.on (Reg.MEAS_STAT_OUT_OF_SERVICE.bit i) ∧ f.cmd = (L.cst i).cmd.getD offCmd := by
  have hseq : nth (L.formFrame i).safe.seq i = (nth L.safe.seq i + 1) % 16 := nth_setNth_self _ _ _
  refine ⟨rfl, rfl, rfl, hseq, ?_⟩
  rw [hseq]
  exact ⟨_, L.cst_updCom_self hi _, rfl, rfl, rfl, rfl, rfl⟩

end

end Sys2Proof.Machine

/-! ### The command of a commutation period -/
namespace Sys2Proof.Machine

/-- What is stored of a period by MODE: the command, and the fields that tell of it. -/
structure LaneSt.Drives (L : LaneSt) (i m : Nat) (pwm80 : Prop) : Prop where
  short : m = 3 → (L.cst i).cmd = some (.all (lowEdges L.period)) ∧ L.rd (Reg.COM_IREF_IREF i) = 0
  off : m ≠ 1 → m ≠ 2 → m ≠ 3 → (L.cst i).cmd = none ∧ L.rd (Reg.COM_IREF_IREF i) = 0
  refused : m = 2 → ¬ pwm80 → (L.cst i).cmd = none ∧ L.on (Reg.COM_STAT_DTC.bit i) = false
  run : m = 1 → (L.cst i).cmd.isSome = true ∧ L.on (Reg.COM_STAT_DTC.bit i) = false ∧
    ((L.cst i).transfer = none → (L.cst i).cmd = some (L.runLegs i))

/-- The command that is stored is the one that MODE asks for. -/
theorem LaneSt.storeCmd_drives {P : LaneSt} {i m : Nat} (hi : i < 3) {r : LaneSt × Option GateCmd} (h : P.MeetsMode i m r) :
    (LaneSt.storeCmd r i m).Drives i m (P.rd Reg.COM_CFG_PWM = 2) := by
  obtain ⟨hin, hcst, hregs, hdtc⟩ := LaneSt.storeCmd_stores hi r m
  have hperiod : (LaneSt.storeCmd r i m).period = r.1.period := LaneSt.period_congr (rd_of_keepsRegs hregs _ (by decide))
  have hiref : (LaneSt.storeCmd r i m).rd (Reg.COM_IREF_IREF i) = r.1.rd (Reg.COM_IREF_IREF i) :=
    rd_of_keepsRegs hregs _ (comReg_notStat (by omega))
  have hlegs : (LaneSt.storeCmd r i m).runLegs i = r.1.runLegs i := by
    have hsector : (LaneSt.storeCmd r i m).rd (Reg.COM_STG_STAT_SECTOR i) = r.1.rd (Reg.COM_STG_STAT_SECTOR i) :=
      rd_of_keepsRegs hregs _ (comReg_notStat (by omega))
    rw [LaneSt.runLegs, LaneSt.runLegs, hsector, hin.icmdOf i, hperiod, hcst]
  constructor
  · intro hm
    rw [hcst, hperiod, hiref]
    exact h.short hm
  · intro h1 h2 h3
    rw [hcst, hiref]
    exact h.off h1 h2 h3
  · intro hm hpwm
    obtain ⟨hnone, hno⟩ := h.refused hm hpwm
    rw [hcst, hdtc, hno, Bool.and_false]
    exact ⟨hnone, rfl⟩
  · intro hm
    obtain ⟨hsome, hrun⟩ := h.run hm
    rw [hdtc, hlegs, hcst, hm]
    exact ⟨hsome, rfl, hrun⟩

/-- The frame formed changes nothing that tells of the command. -/
theorem LaneSt.Drives.formFrame {L : LaneSt} {i m : Nat} {pwm80 : Prop} (hi : i < 3) (h : L.Drives i m pwm80) :
    (L.formFrame i).Drives i m pwm80 := by
  obtain ⟨hregs, hwords, -, -, f, hcst, -⟩ := L.formFrame_forms hi
  have hrd : ∀ g, (L.formFrame i).rd g = L.rd g := LaneSt.rd_congr hregs
  have hperiod : (L.formFrame i).period = L.period := LaneSt.period_congr (hrd _)
  have hicmd : (L.formFrame i).icmdOf i = L.icmdOf i := by rw [LaneSt.icmdOf, LaneSt.icmdOf, hwords]
  have hlegs : (L.formFrame i).runLegs i = L.runLegs i := by rw [LaneSt.runLegs, LaneSt.runLegs, hrd, hicmd, hperiod, hcst]
  constructor
  · rw [hcst, hperiod, hrd]
    exact h.short
  · rw [hcst, hrd]
    exact h.off
  · rw [hcst, LaneSt.on, hrd]
    exact h.refused
  · rw [hcst, LaneSt.on, hrd, hlegs]
    exact h.run

/-- What a period of stage `i` makes of the lane `K`: what is kept, what is driven, and the frame formed. -/
structure LaneSt.PeriodOf (K : LaneSt) (i bemf p m : Nat) (L : LaneSt) : Prop where
  keeps : K.keeps (.com :: .flk :: .safe :: faultParts) L
  regs : K.keepsRegs (0x4006 :: faultRegs) L
  words : L.com.words = (K.takeWords i p).com.words
  lastMode : (L.cst i).lastMode = m
  bemf : (L.cst i).bemf = bemf
  safe : L.safe = { K.safe with seq := L.safe.seq, pulse := L.safe.pulse }
  seq : nth L.safe.seq i = (nth K.safe.seq i + 1) % 16
  frame : ∃ f, (L.cst i).frame = some f ∧ f.seq = nth L.safe.seq i ∧ f.claim = L.rd (Reg.CLAIM_OF i) ∧
    f.veto = BitVec.ofNat 3 (L.rd Reg.CLM_PRESENT_VETO) ∧ f.iso = L.on (Reg.MEAS_STAT_OUT_OF_SERVICE.bit i) ∧
    f.cmd = (L.cst i).cmd.getD offCmd
  drives : L.Drives i m (K.rd Reg.COM_CFG_PWM = 2)

theorem LaneSt.periodOf (K : LaneSt) {i : Nat} (hi : i < 3) (bemf p : Nat) {m : Nat} (hm : m = (K.takeWords i p).modeNow i) :
    K.PeriodOf i bemf p m (((K.periodStart i bemf p).comPeriod i p).formFrame i) := by
  have hkeeps : K.frame [.com, .flk, .safe, .regs, .fc, .sys, .aux] (((K.periodStart i bemf p).comPeriod i p).formFrame i) :=
    LaneSt.frame_step (LaneSt.formFrame_frame _ i) (by decide) (LaneSt.frame_step (LaneSt.comPeriod_frame _ i p) (by decide)
      (LaneSt.frame_step (LaneSt.updCom_frame _ _ _) (by decide) (LaneSt.frame_mono (K.skimNote_frame i p) (by decide))))
  have hsafe : ((K.periodStart i bemf p).comPeriod i p).safe = K.safe :=
    (LaneSt.frame_step (LaneSt.comPeriod_frame _ i p) (ps := [.regs, .fc, .sys, .com, .aux, .flk]) (by decide)
      (LaneSt.frame_step (LaneSt.updCom_frame _ _ _) (by decide) (LaneSt.frame_mono (K.skimNote_frame i p) (by decide)))).1 .safe (by decide)
  obtain ⟨hwords, hmode, hbemf, hregs⟩ := K.periodLane_start hi bemf p rfl
  generalize hA : (K.periodStart i bemf p).periodLane i p = A at hwords hmode hbemf hregs
  have hstored : (K.periodStart i bemf p).comPeriod i p = LaneSt.storeCmd (A.modePeriod i p) i m := by
    rw [LaneSt.comPeriod_eq, hA, hmode, hm]
  have hmeets : A.MeetsMode i m (A.modePeriod i p) := by
    have h := A.modePeriod_meets hi p
    rwa [hmode, ← hm] at h
  obtain ⟨hin, hcst, -, -⟩ := LaneSt.storeCmd_stores hi (A.modePeriod i p) m
  have hdrives := LaneSt.storeCmd_drives hi hmeets
  rw [hstored] at hkeeps hsafe ⊢
  generalize LaneSt.storeCmd (A.modePeriod i p) i m = S at hkeeps hsafe hin hcst hdrives ⊢
  have hAS : A.inPeriod i S := hmeets.keeps.trans hin
  obtain ⟨hLregs, hLwords, hLsafe, hLseq, f, hLcst, hseq, hclaim, hveto, hiso, hcmd⟩ := S.formFrame_forms hi
  have hpwm : A.rd Reg.COM_CFG_PWM = K.rd Reg.COM_CFG_PWM := LaneSt.rd_congr hregs _
  rw [hpwm] at hdrives
  rw [hsafe] at hLsafe hLseq
  refine ⟨hkeeps.1, ?_, hLwords.trans (hAS.words.trans hwords), by rw [hLcst, hcst], ?_, hLsafe, hLseq, ⟨f, by rw [hLcst], hseq, ?_, ?_, ?_, ?_⟩,
    hdrives.formFrame hi⟩
  · exact LaneSt.keepsRegs_of_regs hLregs (LaneSt.keepsRegs_trans hAS.regs (LaneSt.keepsRegs_same hregs))
  · rw [hLcst]
    exact hAS.bemf.trans hbemf
  · rw [hclaim, LaneSt.rd_congr hLregs]
  · rw [hveto, LaneSt.rd_congr hLregs]
  · rw [hiso, LaneSt.on, LaneSt.on, LaneSt.rd_congr hLregs]
  · rw [hcmd, hLcst]

/-- The command of a running lane's period. -/
theorem exec_commutationPeriod {s : State} {l : Lane} (g : Stg) (bemf p : Nat) {Q : LaneSt → Prop} (hup : (s.lane l).up = true)
    (h : Q ((((s.lane l).periodStart (stgIx g) bemf p).comPeriod (stgIx g) p).formFrame (stgIx g))) :
    LaneRuns (.commutationPeriod l g bemf p) s l Q :=
  laneRuns_onLaneNow (f := fun L => ((L.periodStart (stgIx g) bemf p).comPeriod (stgIx g) p).formFrame (stgIx g)) rfl hup h

end Sys2Proof.Machine

/-! ### Posting and the deadline (R25, R223, R278) -/
namespace Sys2Proof.Machine

/-- A posting of MODE OFF ends the forced OFF of stage `j` whose safe stop has cleared. -/
def LaneSt.releaseAt (j : Nat) (L : LaneSt) : LaneSt :=
  if L.on (Reg.SAFE_STAT_FORCED_OFF.bit j) && !L.on (Reg.SAFE_STAT_STO_ACT.bit j) && L.writtenMode j == 0 then
    L.put (Reg.SAFE_STAT_FORCED_OFF.bit j) false else L

theorem LaneSt.releaseForced_eq (L : LaneSt) : L.releaseForced = for3 LaneSt.releaseAt L := by
  unfold LaneSt.releaseForced
  rfl

section
variable (L : LaneSt)

theorem LaneSt.releaseAt_com (j : Nat) : (L.releaseAt j).com = L.com := by
  unfold LaneSt.releaseAt
  split
  · exact (L.put_frame _ _).1 .com (by decide)
  · rfl

theorem LaneSt.releaseAt_regs (j : Nat) : L.keepsRegs [0x40100010] (L.releaseAt j) :=
  keepsRegs_ite (L.wr_keepsRegs (Reg.SAFE_STAT_FORCED_OFF.bit j) _ (show covered [0x40100010] 0x40100010 = true by decide)) (L.keepsRegs_refl _)

theorem LaneSt.releaseAt_rd (j : Nat) (f : Fld) (h : (Reg.SAFE_STAT_FORCED_OFF.bit j).apart f = true) : (L.releaseAt j).rd f = L.rd f := by
  unfold LaneSt.releaseAt
  split
  · exact L.rd_wr_apart _ _ _ h
  · rfl

/-- Stage `i` is still forced afterwards if its safe stop is in force or MODE is not OFF. -/
def LaneSt.staysForced (i : Nat) : Bool :=
  L.on (Reg.SAFE_STAT_FORCED_OFF.bit i) && (L.on (Reg.SAFE_STAT_STO_ACT.bit i) || decide (L.writtenMode i ≠ 0))

theorem LaneSt.releaseAt_self {i : Nat} (hi : i < 3) : (L.releaseAt i).on (Reg.SAFE_STAT_FORCED_OFF.bit i) = L.staysForced i := by
  unfold LaneSt.releaseAt LaneSt.staysForced
  split
  · next h =>
    obtain ⟨h1, hmode⟩ := Bool.and_eq_true_iff.mp h
    obtain ⟨hon, hsto⟩ := Bool.and_eq_true_iff.mp h1
    rw [L.on_put_self _ _ (show 15 + i + 1 ≤ 32 by omega) Nat.one_pos, hon]
    simp_all
  · next h =>
    cases hon : L.on (Reg.SAFE_STAT_FORCED_OFF.bit i)
    · rfl
    · cases hsto : L.on (Reg.SAFE_STAT_STO_ACT.bit i)
      · simp_all
      · rfl

/-- Another stage's release leaves stage `i` as it is. -/
theorem LaneSt.releaseAt_other {i j : Nat} (hi : i < 3) (hj : j < 3) (hij : i ≠ j) :
    (L.releaseAt j).on (Reg.SAFE_STAT_FORCED_OFF.bit i) = L.on (Reg.SAFE_STAT_FORCED_OFF.bit i) ∧
      (L.releaseAt j).staysForced i = L.staysForced i := by
  have hon : ∀ f : Fld, (Reg.SAFE_STAT_FORCED_OFF.bit j).apart f = true → (L.releaseAt j).on f = L.on f := fun f hf => by
    rw [LaneSt.on, LaneSt.on, L.releaseAt_rd j f hf]
  have hforced := hon (Reg.SAFE_STAT_FORCED_OFF.bit i) (by simp; omega)
  have hsto := hon (Reg.SAFE_STAT_STO_ACT.bit i) (by simp; omega)
  have hmode : (L.releaseAt j).writtenMode i = L.writtenMode i := L.releaseAt_rd j (Reg.COM_MODE_MODE i) (by simp; omega)
  exact ⟨hforced, by rw [LaneSt.staysForced, LaneSt.staysForced, hforced, hsto, hmode]⟩

theorem LaneSt.releaseForced_on {i : Nat} (hi : i < 3) : L.releaseForced.on (Reg.SAFE_STAT_FORCED_OFF.bit i) = L.staysForced i := by
  rw [LaneSt.releaseForced_eq]
  unfold for3
  interval_cases i
  · rw [(LaneSt.releaseAt_other _ hi (by decide) (by decide)).1, (LaneSt.releaseAt_other _ hi (by decide) (by decide)).1,
      L.releaseAt_self hi]
  · rw [(LaneSt.releaseAt_other _ hi (by decide) (by decide)).1, LaneSt.releaseAt_self _ hi,
      (L.releaseAt_other hi (by decide) (by decide)).2]
  · rw [LaneSt.releaseAt_self _ hi, (LaneSt.releaseAt_other _ hi (by decide) (by decide)).2, (L.releaseAt_other hi (by decide) (by decide)).2]

theorem LaneSt.releaseForced_keeps : L.releaseForced.com = L.com ∧ L.keepsRegs [0x40100010] L.releaseForced := by
  rw [LaneSt.releaseForced_eq]
  refine ⟨?_, keepsRegs_for3 (fun j _ M => M.releaseAt_regs j) L⟩
  exact (LaneSt.releaseAt_com _ 2).trans ((LaneSt.releaseAt_com _ 1).trans (L.releaseAt_com 0))

end

/-- The lane with the commands posted at `t`, before a forced OFF ends. -/
def LaneSt.posting (L : LaneSt) (t : Nat) : LaneSt :=
  let ws := L.maskForced L.commandRegs
  let at_ := (t / 50000 + 1) * 50000
  { L with com := { L.com with
    posted := true, next := ws, posts := ((at_, ws) :: L.com.posts.filter fun x => x.1 != at_).take 2 } }

theorem LaneSt.post_eq (L : LaneSt) (t : Nat) : L.post t = (L.posting t).releaseForced := by
  unfold LaneSt.post
  rfl

/-- What posting at `t` makes of the lane `K` (R25, R223). -/
structure LaneSt.PostOf (K : LaneSt) (t : Nat) (L : LaneSt) : Prop where
  keeps : K.keeps [.time, .com, .regs] L
  regs : K.keepsRegs [0x40100010] L
  com : L.com = (K.posting t).com
  forced : ∀ i < 3, L.on (Reg.SAFE_STAT_FORCED_OFF.bit i) = K.staysForced i

theorem LaneSt.postOf (K : LaneSt) (t : Nat) : K.PostOf t ((K.tick t).post t) := by
  have hkeeps : K.frame [.time, .com, .regs] ((K.tick t).post t) :=
    LaneSt.frame_step ((K.tick t).post_frame t) (by decide) (LaneSt.frame_mono (K.tick_frame t) (by decide))
  rw [LaneSt.post_eq] at hkeeps ⊢
  obtain ⟨hcom, hregs⟩ := ((K.tick t).posting t).releaseForced_keeps
  exact ⟨hkeeps.1, LaneSt.keepsRegs_trans hregs (LaneSt.keepsRegs_same rfl), hcom, fun i hi => ((K.tick t).posting t).releaseForced_on hi⟩

section
variable {s : State} {l : Lane}

/-- A commit early enough in the slot posts. -/
theorem exec_commit_posts {t : Nat} (hup : (s.lane l).up = true) (ht : t % 50000 ≤ 44000) :
    LaneRuns (.commit l t) s l ((s.lane l).PostOf t) := by
  refine laneRuns_onLane (f := fun L => if t % 50000 ≤ 44000 then L.post t else L) rfl hup ?_
  simp only [if_pos ht]
  exact (s.lane l).postOf t

/-- A later one posts nothing. -/
theorem exec_commit_late {t : Nat} (hup : (s.lane l).up = true) (ht : 44000 < t % 50000) :
    LaneRuns (.commit l t) s l fun L => (s.lane l).keeps [.time] L := by
  refine laneRuns_onLane (f := fun L => if t % 50000 ≤ 44000 then L.post t else L) rfl hup ?_
  simp only [if_neg (Nat.not_le.mpr ht)]
  exact ((s.lane l).tick_frame t).1

end

/-- The lane is in a Churn slice at its slot. -/
def LaneSt.inSlice (L : LaneSt) : Bool :=
  match L.chn.sliced with
  | some (n, _) => n == L.meas.slot
  | none => false

/-- The lane computes commands: it is CHECKED, or shadows. -/
def LaneSt.computes (L : LaneSt) : Bool := L.mode == 0 || (L.mode == 2 && L.rd Reg.AGR_RSYNC_PHASE == 4)

/-- A missed deadline is counted and raised, and the commands are held (R25). -/
def LaneSt.missDeadline (L : LaneSt) : LaneSt :=
  let M := (L.inc Reg.COM_POST_STAT_LATE_CNT).put Reg.AGR_STAT_DEADLINE true
  ({ M with com := { M.com with late := true } }).raise 0x0201

theorem exec_commandDeadline {s : State} {l : Lane} {P : LaneSt → Prop} (hup : (s.lane l).up = true)
    (h : P (if (s.lane l).com.posted || (s.lane l).inSlice || !(s.lane l).computes then s.lane l else (s.lane l).missDeadline)) :
    LaneRuns (.commandDeadline l) s l P :=
  laneRuns_onLaneNow (f := fun L => if L.com.posted || L.inSlice || !L.computes then L else L.missDeadline) rfl hup h

theorem LaneSt.inSlice_iff (L : LaneSt) : L.inSlice = true ↔ ∃ x, L.chn.sliced = some x ∧ x.1 = L.meas.slot := by
  unfold LaneSt.inSlice
  split
  · next n k hx => simp [hx]
  · next hx => simp [hx]

theorem LaneSt.computes_iff (L : LaneSt) : L.computes = true ↔ L.mode = 0 ∨ (L.mode = 2 ∧ L.rd Reg.AGR_RSYNC_PHASE = 4) := by
  simp [LaneSt.computes]

/-- Registers that are not the collector's. -/
theorem not_covered_collector {rs : List Nat} (hrs : (rs.all fun r => r / 65536 != 0x4001 && r != 0x4001) = true) {b : Nat}
    (hb : b / 65536 = 0x4001) : covered rs b = false := by
  rw [covered, List.any_eq_false]
  intro r hr
  obtain ⟨hblock, hown⟩ := Bool.and_eq_true_iff.mp (List.all_eq_true.mp hrs r hr)
  rw [bne_iff_ne] at hblock hown
  split <;> (simp only [beq_iff_eq]; omega)

/-- A report is the same seen from before a change outside the collector, -/
theorem LaneSt.reported_before {rs : List Nat} (hrs : (rs.all fun r => r / 65536 != 0x4001 && r != 0x4001) = true) {L M N : LaneSt}
    {id d : Nat} (hid : id < 65536) (hregs : L.keepsRegs rs M) (hfc : M.fc = L.fc) (h : M.reported N id d) : L.reported N id d :=
  LaneSt.reported_of_sameCollector hid (fun b hb => hregs b (not_covered_collector hrs hb)) hfc h

/-- and after one. -/
theorem LaneSt.reported_after {rs : List Nat} (hrs : (rs.all fun r => r / 65536 != 0x4001 && r != 0x4001) = true) {L M N : LaneSt}
    {id d : Nat} (hid : id < 65536) (hregs : M.keepsRegs rs N) (h : L.reported M id d) : L.reported N id d := by
  have hrd : ∀ f : Fld, f.addr / 65536 = 0x4001 → N.rd f = M.rd f := fun f hf =>
    LaneSt.rd_of_keepsRegs hregs f (not_covered_collector hrs hf)
  unfold LaneSt.reported at h ⊢
  rwa [hrd (Reg.FC_CNT_COUNT (id / 256)) (by simp only; omega), hrd (Reg.FC_CNT_CONSEQ (id / 256)) (by simp only; omega)]

/-- What a missed deadline makes of the lane `K`. -/
structure LaneSt.MissOf (K L : LaneSt) : Prop where
  keeps : K.keeps (.com :: faultParts) L
  regs : K.keepsRegs (0x40060134 :: 0x40020000 :: faultRegs) L
  com : L.com = { K.com with late := true }
  deadline : L.on Reg.AGR_STAT_DEADLINE = true
  reported : K.reported L 0x0201 0xFF
  count : L.rd Reg.COM_POST_STAT_LATE_CNT = (K.rd Reg.COM_POST_STAT_LATE_CNT + 1) % 2 ^ Reg.COM_POST_STAT_LATE_CNT.w

theorem LaneSt.missOf (K : LaneSt) : K.MissOf K.missDeadline := by
  unfold LaneSt.missDeadline
  extract_lets M
  have hM : K.frame (.com :: faultParts) M :=
    LaneSt.frame_mono (LaneSt.frame_step (LaneSt.put_frame _ _ _) (by decide) (K.wr_frame _ _)) (by decide)
  have hMregs : K.keepsRegs [0x40060134, 0x40020000] M := LaneSt.keepsRegs_wr (by decide) (K.wr_keepsRegs _ _ (by decide))
  have hcom : M.com = K.com := rfl
  have hfc : M.fc = K.fc := rfl
  have hdeadline : M.on Reg.AGR_STAT_DEADLINE = true := LaneSt.on_put_self _ _ _ (by decide) (by decide)
  have hcount : M.rd Reg.COM_POST_STAT_LATE_CNT = (K.rd Reg.COM_POST_STAT_LATE_CNT + 1) % 2 ^ Reg.COM_POST_STAT_LATE_CNT.w :=
    (LaneSt.rd_wr_addr _ _ _ _ (by decide)).trans (K.rd_wr_self _ _ (by decide))
  clear_value M
  have hN : K.frame (.com :: faultParts) { M with com := { M.com with late := true } } :=
    LaneSt.frame_step (M.frame_com _) (by decide) hM
  have hNregs : K.keepsRegs [0x40060134, 0x40020000] { M with com := { M.com with late := true } } := LaneSt.keepsRegs_of_regs rfl hMregs
  have hNcom : LaneSt.com { M with com := { M.com with late := true } } = { K.com with late := true } := by rw [hcom]
  generalize hNdef : ({ M with com := { M.com with late := true } } : LaneSt) = N at hN hNregs hNcom ⊢
  have hNM : N.regs = M.regs := by rw [← hNdef]
  have hNfc : N.fc = K.fc := by rw [← hNdef, hfc]
  have hrd : ∀ f : Fld, covered faultRegs f.addr = false → (N.raise 0x0201 0xFF).rd f = M.rd f := fun f hf =>
    (LaneSt.rd_of_keepsRegs (N.raise_regs 0x0201 0xFF (by decide)) f hf).trans (LaneSt.rd_congr hNM f)
  refine ⟨(LaneSt.frame_step (N.raise_frame 0x0201 0xFF) (by decide) hN).1, ?_, ((N.raise_frame 0x0201 0xFF).1 .com (by decide)).trans hNcom,
    ?_, LaneSt.reported_before (by decide) (by decide) hNregs hNfc (N.raise_reported 0x0201 0xFF (by decide)),
    (hrd _ (by decide)).trans hcount⟩
  · exact LaneSt.keepsRegs_trans (LaneSt.keepsRegs_mono (N.raise_regs 0x0201 0xFF (by decide)) (by decide))
      (LaneSt.keepsRegs_mono hNregs (by decide))
  · rw [LaneSt.on, hrd _ (by decide)]
    exact hdeadline

end Sys2Proof.Machine

/-! ### Peak limit and loss of lock (R225, R246, R248) -/
namespace Sys2Proof.Machine

/-- Whether a stage serves is read from commutation and from registers other than COM_STAT. -/
theorem LaneSt.serves_congr {L M : LaneSt} (hcom : M.com = L.com) (hregs : L.keepsRegs [0x40060000] M) {i : Nat} (hi : i < 3) :
    M.serves i = L.serves i := by
  have hon : ∀ f : Fld, covered [0x40060000] f.addr = false → M.on f = L.on f := fun f hf => by
    rw [LaneSt.on, LaneSt.on, LaneSt.rd_of_keepsRegs hregs f hf]
  unfold LaneSt.serves LaneSt.stageLive LaneSt.modeOf
  rw [hcom, hon (Reg.STG_STAT_EN i) (by interval_cases i <;> decide), hon (Reg.STG_STAT_LATCHED i) (by interval_cases i <;> decide),
    hon (Reg.CLM_STG_ACCEPTED i) (by interval_cases i <;> decide),
    hon (Reg.MEAS_STAT_OUT_OF_SERVICE.bit i) (by simp only; decide)]

/-- A stage whose observer floats, or that is barred, does not serve. -/
theorem LaneSt.not_serves {L : LaneSt} {i : Nat}
    (h : (L.cst i).floatAt.isSome = true ∨ (L.cst i).barredArm = true ∨ (L.cst i).barredMode = true) : L.serves i = false := by
  unfold LaneSt.serves
  change (_ && (L.cst i).coast.isNone && (L.cst i).floatAt.isNone && !(L.cst i).barredArm && !(L.cst i).barredMode) = false
  rcases h with h | h | h
  · rw [← Option.not_isSome (a := (L.cst i).floatAt), h]
    simp
  · simp [h]
  · simp [h]

/-- COM_STAT's OUT of stage `j` brought up to date. -/
def LaneSt.noteOut (j : Nat) (L : LaneSt) : LaneSt := L.put (Reg.COM_STAT_OUT.bit j) (!L.serves j)

theorem LaneSt.noteOut_keeps (j : Nat) (L : LaneSt) : (L.noteOut j).com = L.com ∧ L.keepsRegs [0x40060000] (L.noteOut j) :=
  ⟨(L.put_frame _ _).1 .com (by decide), L.wr_keepsRegs (Reg.COM_STAT_OUT.bit j) _ (show covered [0x40060000] 0x40060000 = true by decide)⟩

theorem LaneSt.noteOut_self (L : LaneSt) {i : Nat} (hi : i < 3) : (L.noteOut i).on (Reg.COM_STAT_OUT.bit i) = !L.serves i :=
  L.put_statBit (lo := 12) (by omega) _

theorem LaneSt.noteOut_other (L : LaneSt) {i j : Nat} (hi : i < 3) (hij : i ≠ j) :
    (L.noteOut j).on (Reg.COM_STAT_OUT.bit i) = L.on (Reg.COM_STAT_OUT.bit i) ∧ (L.noteOut j).serves i = L.serves i :=
  ⟨congrArg (· != 0) (L.rd_wr_apart _ _ _ (by simp; omega)), serves_congr (L.noteOut_keeps j).1 (L.noteOut_keeps j).2 hi⟩

/-- COM_STAT tells the stages that do not serve. -/
theorem LaneSt.refreshService_out (L : LaneSt) {i : Nat} (hi : i < 3) :
    L.refreshService.on (Reg.COM_STAT_OUT.bit i) = !L.serves i := by
  have hall : (for3 noteOut L).on (Reg.COM_STAT_OUT.bit i) = !L.serves i := by
    unfold for3
    interval_cases i
    · rw [(noteOut_other _ hi (by decide)).1, (noteOut_other _ hi (by decide)).1, L.noteOut_self hi]
    · rw [(noteOut_other _ hi (by decide)).1, noteOut_self _ hi, (L.noteOut_other hi (by decide)).2]
    · rw [noteOut_self _ hi, (noteOut_other _ hi (by decide)).2, (L.noteOut_other hi (by decide)).2]
  rw [← hall]
  exact congrArg (· != 0) (LaneSt.rd_wr_apart _ _ _ _ (by simp; omega))

theorem LaneSt.refreshService_cst (L : LaneSt) (i : Nat) : L.refreshService.cst i = L.cst i := LaneSt.cst_congr L.refreshService_com i

/-- A bit of COM_STAT from 15 on, after the service was brought up to date. -/
theorem LaneSt.refreshService_statBit (L : LaneSt) {lo : Nat} (h : 15 ≤ lo) :
    L.refreshService.on ⟨0x40060000, lo, 1⟩ = L.on ⟨0x40060000, lo, 1⟩ := congrArg (· != 0) (L.refreshService_stat lo 1 (.inl h))

theorem LaneSt.refreshService_obs (L : LaneSt) (i : Nat) :
    L.refreshService.rd (Reg.COM_STG_STAT_OBS i) = L.rd (Reg.COM_STG_STAT_OBS i) :=
  LaneSt.rd_of_keepsRegs L.refreshService_regs _ (comReg_notStat (by omega))

/-- Two bits of COM_STAT of stage `i`. -/
theorem LaneSt.put_statBit_other (L : LaneSt) {lo lo' : Nat} (i : Nat) (h : lo ≠ lo') (b : Bool) :
    (L.put ⟨0x40060000, lo + i, 1⟩ b).on ⟨0x40060000, lo' + i, 1⟩ = L.on ⟨0x40060000, lo' + i, 1⟩ :=
  congrArg (· != 0) (L.rd_wr_other _ _ _ (.inr (by simp only; omega)))

theorem LaneSt.put_stat_obs (L : LaneSt) (lo i : Nat) (b : Bool) :
    (L.put ⟨0x40060000, lo, 1⟩ b).rd (Reg.COM_STG_STAT_OBS i) = L.rd (Reg.COM_STG_STAT_OBS i) :=
  L.rd_wr_addr _ _ _ (by simp only; omega)

/-! ### Where the lock is lost -/

/-- The stage after a revolution of coasting: its observer floats (R246). -/
def LaneSt.floatStage (L : LaneSt) (i t : Nat) : LaneSt :=
  let M := ((L.wr (Reg.COM_STG_STAT_OBS i) 3).put (Reg.COM_STAT_COAST.bit i) false).put (Reg.COM_STAT_FLOAT.bit i) true
  (M.updCom i fun c => { c with coast := none, floatAt := some t, capture := false, crossings := 0 }).refreshService

/-- What floating makes of the lane `K`. -/
structure LaneSt.FloatOf (K : LaneSt) (i t : Nat) (L : LaneSt) : Prop where
  keeps : K.keeps [.time, .com, .regs] L
  regs : K.keepsRegs [0x4006] L
  coast : (L.cst i).coast = none
  floatAt : (L.cst i).floatAt = some t
  obs : L.rd (Reg.COM_STG_STAT_OBS i) = 3
  float : L.on (Reg.COM_STAT_FLOAT.bit i) = true
  notCoast : L.on (Reg.COM_STAT_COAST.bit i) = false
  out : L.on (Reg.COM_STAT_OUT.bit i) = true

theorem LaneSt.floatStage_floats (L : LaneSt) {i : Nat} (hi : i < 3) (t : Nat) : L.FloatOf i t (L.floatStage i t) := by
  unfold LaneSt.floatStage
  extract_lets M
  have hM : L.frame [.time, .com, .regs] M :=
    LaneSt.frame_mono (LaneSt.frame_step (LaneSt.put_frame _ _ _) (by decide) (LaneSt.frame_step (LaneSt.put_frame _ _ _) (by decide)
      (L.wr_frame _ _))) (by decide)
  have hMregs : L.keepsRegs [0x4006] M :=
    LaneSt.keepsRegs_wr comStat_covered (LaneSt.keepsRegs_wr comStat_covered (L.wr_keepsRegs _ _ (comReg_covered (by omega))))
  have hobs : M.rd (Reg.COM_STG_STAT_OBS i) = 3 :=
    (LaneSt.put_stat_obs _ _ i _).trans ((LaneSt.put_stat_obs _ _ i _).trans (L.rd_wr_self _ _ (by simp only; decide)))
  have hfloat : M.on (Reg.COM_STAT_FLOAT.bit i) = true := LaneSt.put_statBit (lo := 18) _ (by omega) _
  have hcoast : M.on (Reg.COM_STAT_COAST.bit i) = false :=
    (LaneSt.put_statBit_other (lo := 18) (lo' := 15) _ i (by decide) _).trans (LaneSt.put_statBit (lo := 15) _ (by omega) _)
  clear_value M
  generalize hN : (M.updCom i fun c => { c with coast := none, floatAt := some t, capture := false, crossings := 0 }) = N
  have hframe : L.frame [.time, .com, .regs] N := hN ▸ LaneSt.frame_step (M.updCom_frame _ _) (by decide) hM
  have hregs : N.regs = M.regs := hN ▸ rfl
  have hcst : N.cst i = { M.cst i with coast := none, floatAt := some t, capture := false, crossings := 0 } := hN ▸ M.cst_updCom_self hi _
  have hon : ∀ f, N.on f = M.on f := fun f => by rw [LaneSt.on, LaneSt.on, LaneSt.rd_congr hregs]
  refine ⟨(LaneSt.frame_step N.refreshService_frame (by decide) hframe).1, ?_, ?_, ?_, ?_, ?_, ?_, ?_⟩
  · exact LaneSt.keepsRegs_trans (LaneSt.keepsRegs_mono N.refreshService_regs (by decide)) (LaneSt.keepsRegs_of_regs hregs hMregs)
  · rw [LaneSt.refreshService_cst, hcst]
  · rw [LaneSt.refreshService_cst, hcst]
  · rw [LaneSt.refreshService_obs, LaneSt.rd_congr hregs, hobs]
  · exact (N.refreshService_statBit (lo := 18 + i) (by omega)).trans ((hon _).trans hfloat)
  · exact (N.refreshService_statBit (lo := 15 + i) (by omega)).trans ((hon _).trans hcoast)
  · rw [N.refreshService_out hi, N.not_serves (.inl (by rw [hcst]; rfl)), Bool.not_false]

/-- A change after the lane's clock was set. -/
theorem LaneSt.keeps_of_tick {K L : LaneSt} {t : Nat} {ps : List Part} (hps : Part.time ∈ ps) (h : (K.tick t).keeps ps L) : K.keeps ps L := by
  intro p hp
  have h1 := (K.tick_frame t).1 p (fun hx => hp (List.mem_singleton.mp hx ▸ hps))
  have h2 := h p hp
  cases p <;> exact h2.trans h1

/-- What the third consistent crossing makes of the lane `K`: the stage restarts (R248). -/
structure LaneSt.RelockOf (K : LaneSt) (i t : Nat) (L : LaneSt) : Prop where
  keeps : K.keeps [.time, .com, .regs] L
  regs : K.keepsRegs [0x4006] L
  floatAt : (L.cst i).floatAt = none
  capture : (L.cst i).capture = false
  fly : (L.cst i).fly = some { since := t, ramp := 0 }
  obs : L.rd (Reg.COM_STG_STAT_OBS i) = 0
  notFloat : L.on (Reg.COM_STAT_FLOAT.bit i) = false
  flies : L.on (Reg.COM_STAT_FLY.bit i) = true

theorem LaneSt.relock_relocks (L : LaneSt) {i : Nat} (hi : i < 3) (t : Nat) : L.RelockOf i t (L.relock i t) := by
  unfold LaneSt.relock
  extract_lets M
  have hM : L.frame [.time, .com, .regs] M :=
    LaneSt.frame_mono (LaneSt.frame_step (LaneSt.put_frame _ _ _) (by decide) (LaneSt.frame_step (LaneSt.put_frame _ _ _) (by decide)
      (L.wr_frame _ _))) (by decide)
  have hMregs : L.keepsRegs [0x4006] M :=
    LaneSt.keepsRegs_wr comStat_covered (LaneSt.keepsRegs_wr comStat_covered (L.wr_keepsRegs _ _ (comReg_covered (by omega))))
  have hobs : M.rd (Reg.COM_STG_STAT_OBS i) = 0 :=
    (LaneSt.put_stat_obs _ _ i _).trans ((LaneSt.put_stat_obs _ _ i _).trans (L.rd_wr_self _ _ (by simp only; decide)))
  have hflies : M.on (Reg.COM_STAT_FLY.bit i) = true := LaneSt.put_statBit (lo := 21) _ (by omega) _
  have hfloat : M.on (Reg.COM_STAT_FLOAT.bit i) = false :=
    (LaneSt.put_statBit_other (lo := 21) (lo' := 18) _ i (by decide) _).trans (LaneSt.put_statBit (lo := 18) _ (by omega) _)
  clear_value M
  generalize hN : (M.updCom i fun c => { c with floatAt := none, capture := false, crossings := 0, fly := some { since := t, ramp := 0 } }) = N
  have hframe : L.frame [.time, .com, .regs] N := hN ▸ LaneSt.frame_step (M.updCom_frame _ _) (by decide) hM
  have hregs : N.regs = M.regs := hN ▸ rfl
  have hcst : N.cst i = { M.cst i with floatAt := none, capture := false, crossings := 0, fly := some { since := t, ramp := 0 } } :=
    hN ▸ M.cst_updCom_self hi _
  have hon : ∀ f, N.on f = M.on f := fun f => by rw [LaneSt.on, LaneSt.on, LaneSt.rd_congr hregs]
  refine ⟨(LaneSt.frame_step N.refreshService_frame (by decide) hframe).1, ?_, ?_, ?_, ?_, ?_, ?_, ?_⟩
  · exact LaneSt.keepsRegs_trans (LaneSt.keepsRegs_mono N.refreshService_regs (by decide)) (LaneSt.keepsRegs_of_regs hregs hMregs)
  · rw [LaneSt.refreshService_cst, hcst]
  · rw [LaneSt.refreshService_cst, hcst]
  · rw [LaneSt.refreshService_cst, hcst]
  · rw [LaneSt.refreshService_obs, LaneSt.rd_congr hregs, hobs]
  · exact (N.refreshService_statBit (lo := 18 + i) (by omega)).trans ((hon _).trans hfloat)
  · exact (N.refreshService_statBit (lo := 21 + i) (by omega)).trans ((hon _).trans hflies)

/-- A stage `i` that is barred with `id`, after the change `N` of COM_STAT and of the stage: what is kept, and that it is out of
service and reported. -/
theorem LaneSt.barred (L : LaneSt) {N : LaneSt} {i id : Nat} (hi : i < 3) (hid : id < 65536) (hframe : L.frame (.time :: .com :: faultParts) N)
    (hregs : L.keepsRegs [0x40060000] N) (hfc : N.fc = L.fc) (hbarred : (N.cst i).barredArm = true ∨ (N.cst i).barredMode = true) :
    let M := (N.raise id i).refreshService
    L.keeps (.time :: .com :: faultParts) M ∧ L.keepsRegs (0x40060000 :: faultRegs) M ∧ M.cst i = N.cst i ∧
      (∀ lo, 15 ≤ lo → M.on ⟨0x40060000, lo, 1⟩ = N.on ⟨0x40060000, lo, 1⟩) ∧ M.on (Reg.COM_STAT_OUT.bit i) = true ∧ L.reported M id i := by
  have hraise := N.raise_regs id i hid
  have hcst : (N.raise id i).cst i = N.cst i := LaneSt.cst_congr ((N.raise_frame id i).1 .com (by decide)) i
  have hreported : L.reported (N.raise id i) id i := LaneSt.reported_before (by decide) hid hregs hfc (N.raise_reported id i hid)
  have hraised : L.frame (.time :: .com :: faultParts) (N.raise id i) := LaneSt.frame_step (N.raise_frame id i) (by decide) hframe
  generalize N.raise id i = R at hraise hcst hreported hraised
  intro M
  refine ⟨(LaneSt.frame_step R.refreshService_frame (by decide) hraised).1, ?_, (R.refreshService_cst i).trans hcst, fun lo hlo => ?_, ?_,
    LaneSt.reported_after (by decide) hid R.refreshService_regs hreported⟩
  · exact LaneSt.keepsRegs_trans (LaneSt.keepsRegs_mono R.refreshService_regs (by decide)) (LaneSt.keepsRegs_trans
      (LaneSt.keepsRegs_mono hraise (by decide)) (LaneSt.keepsRegs_mono hregs (by decide)))
  · rw [R.refreshService_statBit hlo, LaneSt.on, LaneSt.on, LaneSt.rd_of_keepsRegs hraise _ (show covered faultRegs 0x40060000 = false by decide)]
  · rw [R.refreshService_out hi, R.not_serves (.inr (by rwa [hcst])), Bool.not_false]

/-- The stage whose crossings did not come in time (R248). -/
def LaneSt.reacqStop (L : LaneSt) (i : Nat) : LaneSt :=
  ((L.updCom i fun c => { c with capture := false, barredArm := true }).raise 0x0712 i).refreshService

/-- The stage whose flying start took too long. -/
def LaneSt.flyStop (L : LaneSt) (i : Nat) : LaneSt :=
  (((L.put (Reg.COM_STAT_FLY.bit i) false).updCom i fun c => { c with fly := none, barredMode := true }).raise 0x0713 i).refreshService

theorem LaneSt.reacqStop_bars (L : LaneSt) {i : Nat} (hi : i < 3) : L.keeps (.time :: .com :: faultParts) (L.reacqStop i) ∧
    L.keepsRegs (0x40060000 :: faultRegs) (L.reacqStop i) ∧ ((L.reacqStop i).cst i).barredArm = true ∧
    ((L.reacqStop i).cst i).capture = false ∧ (L.reacqStop i).on (Reg.COM_STAT_OUT.bit i) = true ∧ L.reported (L.reacqStop i) 0x0712 i := by
  have hcst := L.cst_updCom_self hi fun c => { c with capture := false, barredArm := true }
  obtain ⟨hkeeps, hregs, hbarred, -, hout, hreported⟩ := L.barred (N := L.updCom i fun c => { c with capture := false, barredArm := true })
    (id := 0x0712) hi (by decide) (LaneSt.frame_mono (L.updCom_frame _ _) (by decide)) (LaneSt.keepsRegs_same rfl) rfl (.inl (by rw [hcst]))
  rw [hcst] at hbarred
  exact ⟨hkeeps, hregs, by rw [LaneSt.reacqStop, hbarred], by rw [LaneSt.reacqStop, hbarred], hout, hreported⟩

theorem LaneSt.flyStop_bars (L : LaneSt) {i : Nat} (hi : i < 3) : L.keeps (.time :: .com :: faultParts) (L.flyStop i) ∧
    L.keepsRegs (0x40060000 :: faultRegs) (L.flyStop i) ∧ ((L.flyStop i).cst i).barredMode = true ∧ ((L.flyStop i).cst i).fly = none ∧
    (L.flyStop i).on (Reg.COM_STAT_FLY.bit i) = false ∧ (L.flyStop i).on (Reg.COM_STAT_OUT.bit i) = true ∧
    L.reported (L.flyStop i) 0x0713 i := by
  have hfly : (L.put (Reg.COM_STAT_FLY.bit i) false).on (Reg.COM_STAT_FLY.bit i) = false := L.put_statBit (lo := 21) (by omega) _
  have hframe := L.put_frame (Reg.COM_STAT_FLY.bit i) false
  have hput : L.keepsRegs [0x40060000] (L.put (Reg.COM_STAT_FLY.bit i) false) :=
    L.wr_keepsRegs (Reg.COM_STAT_FLY.bit i) _ (show covered [0x40060000] 0x40060000 = true by decide)
  have hfc : (L.put (Reg.COM_STAT_FLY.bit i) false).fc = L.fc := hframe.1 .fc (by decide)
  unfold LaneSt.flyStop
  generalize L.put (Reg.COM_STAT_FLY.bit i) false = A at hfly hframe hput hfc
  have hcst := A.cst_updCom_self hi fun c => { c with fly := none, barredMode := true }
  obtain ⟨hkeeps, hregs, hbarred, hstat, hout, hreported⟩ := L.barred (N := A.updCom i fun c => { c with fly := none, barredMode := true })
    (id := 0x0713) hi (by decide) (LaneSt.frame_step (A.updCom_frame _ _) (by decide) (LaneSt.frame_mono hframe (by decide)))
    (LaneSt.keepsRegs_of_regs rfl hput) hfc (.inr (by rw [hcst]))
  rw [hcst] at hbarred
  exact ⟨hkeeps, hregs, by rw [hbarred], by rw [hbarred], (hstat (21 + i) (by omega)).trans hfly, hout, hreported⟩

end Sys2Proof.Machine

/-! ### The commands of a stage -/
namespace Sys2Proof.Machine

/-- The limit shown or lifted. -/
theorem LaneSt.putPeakLimit (K : LaneSt) {i : Nat} (hi : i < 3) (t : Nat) (b : Bool) :
    K.keeps [.time, .regs] ((K.tick t).put (Reg.COM_STG_STAT_PEAKLIM i) b) ∧
      K.keepsRegs [(Reg.COM_STG_STAT_PEAKLIM i).addr] ((K.tick t).put (Reg.COM_STG_STAT_PEAKLIM i) b) ∧
      ((K.tick t).put (Reg.COM_STG_STAT_PEAKLIM i) b).on (Reg.COM_STG_STAT_PEAKLIM i) = b :=
  ⟨(LaneSt.frame_step ((K.tick t).put_frame _ _) (by decide) (LaneSt.frame_mono (K.tick_frame t) (by decide))).1,
    (K.tick t).wr_keepsRegs _ _ (covered_self (by simp only; omega) []), LaneSt.on_put_self _ _ _ (by simp only; decide) Nat.one_pos⟩

/-- A change of a stage's data after the lane's clock was set. -/
theorem LaneSt.tick_updCom (K : LaneSt) (t : Nat) {i : Nat} (hi : i < 3) (f : ComStg → ComStg) :
    K.keeps [.time, .com] ((K.tick t).updCom i f) ∧ ((K.tick t).updCom i f).cst i = f (K.cst i) :=
  ⟨(LaneSt.frame_step ((K.tick t).updCom_frame _ _) (by decide) (LaneSt.frame_mono (K.tick_frame t) (by decide))).1,
    (K.tick t).cst_updCom_self hi f⟩

section
variable {s : State} {l : Lane} (g : Stg) {t : Nat} {P : LaneSt → Prop} (hup : (s.lane l).up = true)
include hup

theorem exec_peakLimitEngage (h : 2000000000 ≤ peakTotal ((s.lane l).cst (stgIx g)).peakRuns t)
    (hP : P (((s.lane l).tick t).put (Reg.COM_STG_STAT_PEAKLIM (stgIx g)) true)) : LaneRuns (.peakLimitEngage l g t) s l P :=
  laneRuns_onLane rfl hup ((if_pos h).symm ▸ hP)

theorem exec_peakLimitLift (h : peakTotal ((s.lane l).cst (stgIx g)).peakRuns t = 0)
    (hP : P (((s.lane l).tick t).put (Reg.COM_STG_STAT_PEAKLIM (stgIx g)) false)) : LaneRuns (.peakLimitLift l g t) s l P :=
  laneRuns_onLane rfl hup ((if_pos h).symm ▸ hP)

theorem exec_observerFloat {x : Nat} (hcoast : ((s.lane l).cst (stgIx g)).coast = some x) (hx : 65536 ≤ x)
    (hP : P (((s.lane l).tick t).floatStage (stgIx g) t)) : LaneRuns (.observerFloat l g t) s l P := by
  refine laneRuns_onLane (f := fun L => match (L.cst (stgIx g)).coast with
    | some x => if 65536 ≤ x then L.floatStage (stgIx g) t else L
    | none => L) rfl hup ?_
  have hcoast' : (((s.lane l).tick t).cst (stgIx g)).coast = some x := hcoast
  simp only [hcoast', if_pos hx]
  exact hP

theorem exec_bemfCaptureStart {t0 : Nat} (hfloat : ((s.lane l).cst (stgIx g)).floatAt = some t0) (ht : t0 + 2000000 ≤ t)
    (hP : P (((s.lane l).tick t).updCom (stgIx g) fun c => { c with capture := true, crossings := 0 })) :
    LaneRuns (.bemfCaptureStart l g t) s l P := by
  refine laneRuns_onLane (f := fun L => match (L.cst (stgIx g)).floatAt with
    | some t0 => if t0 + 2000000 ≤ t then L.updCom (stgIx g) fun c => { c with capture := true, crossings := 0 } else L
    | none => L) rfl hup ?_
  have hfloat' : (((s.lane l).tick t).cst (stgIx g)).floatAt = some t0 := hfloat
  simp only [hfloat', if_pos ht]
  exact hP

/-- The third consistent crossing. -/
theorem exec_bemfZeroCrossing_third (hcapture : ((s.lane l).cst (stgIx g)).capture = true) (hn : ((s.lane l).cst (stgIx g)).crossings = 2)
    (hP : P (((s.lane l).tick t).relock (stgIx g) t)) : LaneRuns (.bemfZeroCrossing l g true t) s l P := by
  refine laneRuns_onLane (f := fun L => if (L.cst (stgIx g)).capture then (if 3 ≤ (L.cst (stgIx g)).crossings + 1 then L.relock (stgIx g) t
    else L.updCom (stgIx g) fun c => { c with crossings := (L.cst (stgIx g)).crossings + 1 }) else L) rfl hup ?_
  have hcapture' : (((s.lane l).tick t).cst (stgIx g)).capture = true := hcapture
  have hn' : 3 ≤ (((s.lane l).tick t).cst (stgIx g)).crossings + 1 := Nat.le_of_eq (congrArg (· + 1) hn).symm
  simp only [hcapture', if_true, if_pos hn']
  exact hP

/-- A crossing out of place starts the count again. -/
theorem exec_bemfZeroCrossing_inconsistent (hcapture : ((s.lane l).cst (stgIx g)).capture = true)
    (hP : P (((s.lane l).tick t).updCom (stgIx g) fun c => { c with crossings := 0 })) : LaneRuns (.bemfZeroCrossing l g false t) s l P := by
  refine laneRuns_onLane (f := fun L => if (L.cst (stgIx g)).capture then
    L.updCom (stgIx g) fun c => { c with crossings := 0 } else L) rfl hup ?_
  have hcapture' : (((s.lane l).tick t).cst (stgIx g)).capture = true := hcapture
  simp only [hcapture', if_true]
  exact hP

theorem exec_reacqTimeout {t0 : Nat} (hfloat : ((s.lane l).cst (stgIx g)).floatAt = some t0)
    (ht : t0 + (s.lane l).rd Reg.COM_OBS_CFG_REACQ * 1000000 ≤ t) (hbarred : ((s.lane l).cst (stgIx g)).barredArm = false)
    (hP : P (((s.lane l).tick t).reacqStop (stgIx g))) : LaneRuns (.reacqTimeout l g t) s l P := by
  refine laneRuns_onLane (f := fun L => match (L.cst (stgIx g)).floatAt with
    | some t0 => if t0 + L.rd Reg.COM_OBS_CFG_REACQ * 1000000 ≤ t ∧ !(L.cst (stgIx g)).barredArm then L.reacqStop (stgIx g) else L
    | none => L) rfl hup ?_
  have hfloat' : (((s.lane l).tick t).cst (stgIx g)).floatAt = some t0 := hfloat
  have hstop : t0 + ((s.lane l).tick t).rd Reg.COM_OBS_CFG_REACQ * 1000000 ≤ t ∧
      (!(((s.lane l).tick t).cst (stgIx g)).barredArm) = true := ⟨ht, congrArg (!·) hbarred⟩
  simp only [hfloat', if_pos hstop]
  exact hP

theorem exec_flyingStartTimeout {f : Flying} (hfly : ((s.lane l).cst (stgIx g)).fly = some f)
    (ht : f.since + (s.lane l).rd Reg.COM_FLY_CFG2_TMO * 1000000 ≤ t)
    (hagainst : (s.lane l).against (stgIx g) ((s.lane l).icmdOf (stgIx g)) = true)
    (hP : P (((s.lane l).tick t).flyStop (stgIx g))) : LaneRuns (.flyingStartTimeout l g t) s l P := by
  refine laneRuns_onLane (f := fun L => match (L.cst (stgIx g)).fly with
    | some f => if f.since + L.rd Reg.COM_FLY_CFG2_TMO * 1000000 ≤ t ∧ L.against (stgIx g) (L.icmdOf (stgIx g)) then
        L.flyStop (stgIx g) else L
    | none => L) rfl hup ?_
  have hfly' : (((s.lane l).tick t).cst (stgIx g)).fly = some f := hfly
  have hstop : f.since + ((s.lane l).tick t).rd Reg.COM_FLY_CFG2_TMO * 1000000 ≤ t ∧
      ((s.lane l).tick t).against (stgIx g) (((s.lane l).tick t).icmdOf (stgIx g)) = true := ⟨ht, hagainst⟩
  simp only [hfly', if_pos hstop]
  exact hP

end

/-! ### The obligation -/

theorem period_drives (s : State) (l : Lane) (g : Stg) (bemf p i m : Nat) (hup : (s.lane l).up = true) (hi : i = stgIx g)
    (hm : m = ((s.lane l).takeWords i p).modeNow i) :
    LaneRuns (.commutationPeriod l g bemf p) s l ((s.lane l).PeriodOf i bemf p m) := by
  subst hi
  exact exec_commutationPeriod g bemf p hup ((s.lane l).periodOf (stgIx_lt g) bemf p hm)

/-- A run that meets one condition meets what follows from it. -/
theorem LaneRuns.imp {c : Instr} {s : State} {l : Lane} {P Q : LaneSt → Prop} (h : ∀ L, P L → Q L) (hrun : LaneRuns c s l P) :
    LaneRuns c s l Q := by
  obtain ⟨u, hexec, hsame, hP⟩ := hrun
  exact ⟨u, hexec, hsame, h _ hP⟩

/-- Settles O23: each command's effect on the lane, the period by the MODE in force, the loss of lock by the service it leaves. -/
theorem commutationCommands : Obligations.CommutationCommands := by
  unfold Obligations.CommutationCommands
  refine ⟨fun s l g bemf p i m hup hi hm => ?_, fun s l hup => ⟨fun t ht => ?_, fun t ht => exec_commit_late hup ht, ?_, ?_⟩,
    fun s l g t i hup hi => ?_⟩
  · refine (period_drives s l g bemf p i m hup hi hm).imp fun L h => ?_
    exact ⟨h.keeps, h.regs, h.words, h.lastMode, h.bemf, h.safe, h.seq, h.frame, h.drives.short, h.drives.off, h.drives.refused, h.drives.run⟩
  · exact (exec_commit_posts hup ht).imp fun L h =>
      ⟨h.keeps, h.regs, by rw [h.com]; rfl, by rw [h.com]; rfl, by rw [h.com]; rfl, by rw [h.com]; rfl, h.forced⟩
  · refine fun hidle => exec_commandDeadline hup (if_pos ?_)
    rcases hidle with hposted | hslice
    · simp [hposted]
    · simp [(s.lane l).inSlice_iff.mpr hslice]
  · intro hposted hmode hslice
    have hin : (s.lane l).inSlice = false := Bool.eq_false_iff.mpr fun h => by
      obtain ⟨x, hx, hslot⟩ := (s.lane l).inSlice_iff.mp h
      exact hslice x hx hslot
    refine exec_commandDeadline hup ?_
    rw [if_neg (by simp [hposted, hin, (s.lane l).computes_iff.mpr hmode])]
    obtain ⟨hkeeps, hregs, hcom, hdeadline, hreported, hcount⟩ := (s.lane l).missOf
    exact ⟨hkeeps, hregs, hcom, hdeadline, hreported, hcount⟩
  · have hlt := stgIx_lt g
    subst hi
    refine ⟨fun h => ?_, fun h => ?_, fun x hcoast hx => ?_, fun t0 hfloat ht => ?_, fun hcapture hn => ?_, fun hcapture => ?_,
      fun t0 hfloat ht hbarred => ?_, fun f hfly ht hagainst => ?_⟩
    · exact exec_peakLimitEngage g hup h ((s.lane l).putPeakLimit hlt t true)
    · exact exec_peakLimitLift g hup h ((s.lane l).putPeakLimit hlt t false)
    · have h := ((s.lane l).tick t).floatStage_floats hlt t
      exact exec_observerFloat g hup hcoast hx ⟨LaneSt.keeps_of_tick (by decide) h.keeps, h.regs, h.coast, h.floatAt, h.obs, h.float,
        h.notCoast, h.out⟩
    · obtain ⟨hkeeps, hcst⟩ := (s.lane l).tick_updCom t hlt fun c => { c with capture := true, crossings := 0 }
      exact exec_bemfCaptureStart g hup hfloat ht ⟨hkeeps, by rw [hcst], by rw [hcst]⟩
    · have h := ((s.lane l).tick t).relock_relocks hlt t
      exact exec_bemfZeroCrossing_third g hup hcapture hn ⟨LaneSt.keeps_of_tick (by decide) h.keeps, h.regs, h.floatAt, h.capture, h.fly,
        h.obs, h.notFloat, h.flies⟩
    · obtain ⟨hkeeps, hcst⟩ := (s.lane l).tick_updCom t hlt fun c => { c with crossings := 0 }
      exact exec_bemfZeroCrossing_inconsistent g hup hcapture ⟨hkeeps, by rw [hcst]⟩
    · obtain ⟨hkeeps, hrest⟩ := ((s.lane l).tick t).reacqStop_bars hlt
      exact exec_reacqTimeout g hup hfloat ht hbarred ⟨LaneSt.keeps_of_tick (by decide) hkeeps, hrest⟩
    · obtain ⟨hkeeps, hrest⟩ := ((s.lane l).tick t).flyStop_bars hlt
      exact exec_flyingStartTimeout g hup hfly ht hagainst ⟨LaneSt.keeps_of_tick (by decide) hkeeps, hrest⟩

end Sys2Proof.Machine

/-! ## Supplies and hold-up (R37, R38, R43, R51 to R55, R264, R272) -/
namespace Sys2Proof.Machine

/-! ### A lane and the stage of its supply -/

/-- Lane `l` changes by `f`, and the stage of the same supply by `g`. -/
def State.updSupply (s : State) (l : Lane) (f : LaneSt → LaneSt) (g : StageSt → StageSt) : State :=
  { s.updLane l f with stages := updNth s.stages (laneIx l) g }

section
variable (s : State) (l : Lane) (f : LaneSt → LaneSt) (g : StageSt → StageSt)

theorem sameButSupply_updSupply : sameButSupply l s (s.updSupply l f g) :=
  ⟨fun o h => s.lane_updLane_ne l o f h, fun o h => nth_setNth_ne _ _ (laneIx_lt l) (stgIx_lt o) h, rfl, rfl, rfl⟩

theorem State.updSupply_lane : (s.updSupply l f g).lane l = f (s.lane l) := s.lane_updLane_self l f

theorem State.updSupply_stage : nth (s.updSupply l f g).stages (laneIx l) = g (nth s.stages (laneIx l)) := nth_setNth_self _ _ _

theorem State.updLane_updSupply (h : LaneSt → LaneSt) : (s.updSupply l f g).updLane l h = s.updSupply l (fun L => h (f L)) g := by
  cases l <;> rfl

end

/-! ### The stage (R52, R264) -/

theorem StageSt.settle_supply (g : StageSt) : g.settle.supLost = g.supLost ∧ g.settle.supHigh = g.supHigh := by
  unfold StageSt.settle
  split_ifs <;> exact ⟨rfl, rfl⟩

theorem StageSt.startIsolation_supply (g : StageSt) :
    g.startIsolation.supLost = g.supLost ∧ g.startIsolation.supHigh = g.supHigh := by
  unfold StageSt.startIsolation
  split_ifs <;> exact ⟨rfl, rfl⟩

/-- De-energising says nothing of the supply. -/
theorem StageSt.deEnergise_supply (g : StageSt) : g.deEnergise.supLost = g.supLost ∧ g.deEnergise.supHigh = g.supHigh := by
  unfold StageSt.deEnergise
  split_ifs
  · exact ⟨rfl, rfl⟩
  · obtain ⟨hlost, hhigh⟩ := StageSt.startIsolation_supply
      { g with cmd := none, rpDue := true, energiseReq := false, bootOk := .all false, clamp := false }
    exact ⟨(StageSt.settle_supply _).1.trans hlost, (StageSt.settle_supply _).2.trans hhigh⟩

/-- A stage without its supply, or above its range, takes STO (R269). -/
theorem StageSt.en_of_supply {g : StageSt} (h : g.supLost = true ∨ g.supHigh = true) : g.en = false := by
  rcases h with h | h <;> simp [StageSt.en, h]

theorem StageSt.loseSupply_sto (g : StageSt) : g.loseSupply.supLost = true ∧ g.loseSupply.en = false :=
  have h : g.loseSupply.supLost = true := (StageSt.deEnergise_supply _).1
  ⟨h, StageSt.en_of_supply (.inl h)⟩

/-- What an overvoltage does to the stage (R264). -/
def StageSt.exceedSupply (g : StageSt) : StageSt := { g with supHigh := true, enSeen := false }.deEnergise

theorem StageSt.exceedSupply_sto (g : StageSt) : g.exceedSupply.supHigh = true ∧ g.exceedSupply.en = false :=
  have h : g.exceedSupply.supHigh = true := (StageSt.deEnergise_supply _).2
  ⟨h, StageSt.en_of_supply (.inr h)⟩

/-! ### The lane's sensors (R43, R52) -/

theorem LaneSt.spDies_regs (L : LaneSt) {i : Nat} (hi : i < 2) : L.keepsRegs [0x4005] (L.spDies i) := by
  refine keepsRegs_ite (L.keepsRegs_refl _) (keepsRegs_wr ?_ (keepsRegs_same (L.setSp_regs i _)))
  rw [spStat_eq hi]
  exact covered_block (b := 0x4005) (by simp only) (by decide) (by decide)

theorem LaneSt.srcStat_regs (L : LaneSt) : L.keepsRegs [0x40050000] L.srcStat := keepsRegs_wr (by decide) (L.wr_keepsRegs _ _ (by decide))

/-- What SNS5_x feeds is invalid. -/
theorem LaneSt.dropSensors_invalid (L : LaneSt) : L.keepsRegs [0x4005] L.dropSensors ∧ L.dropSensors.pos.encValid = false ∧
    L.dropSensors.pos.hallValid = false ∧ L.dropSensors.on Reg.POS_SSI_STAT_VALID = false := by
  unfold LaneSt.dropSensors
  extract_lets A
  have hA : L.keepsRegs [0x4005] A := keepsRegs_wr (by decide)
    (keepsRegs_trans (LaneSt.spDies_regs _ (by decide)) (L.spDies_regs (by decide)))
  have hssi : A.on Reg.POS_SSI_STAT_VALID = false := LaneSt.on_put_self _ _ _ (by decide) (by decide)
  have hpos : ∀ p : PosSt → PosSt, (A.updPos p).srcStat.pos = p A.pos := fun p => (A.updPos p).srcStat_frame.1 .pos (by decide)
  have hregs : ∀ p : PosSt → PosSt, A.keepsRegs [0x40050000] (A.updPos p).srcStat := fun p =>
    keepsRegs_trans (A.updPos p).srcStat_regs (keepsRegs_same rfl)
  refine ⟨keepsRegs_trans (keepsRegs_mono (hregs _) (by decide)) hA, by rw [hpos], by rw [hpos], ?_⟩
  rw [LaneSt.on, rd_of_keepsRegs (hregs _) _ (by decide)]
  exact hssi

/-! ### The lane's hold-up (R37, R52, R444) -/

/-- The state of the supplies on hold-up, from time `t` on. -/
def PwrSt.heldUp (p : PwrSt) (t : Nat) : PwrSt := { p with lost := true, lostAt := t, returning := false, sns5 := false, auxOn := false }

/-- A lane on hold-up: no claims, sensor supply and axis driver off. -/
theorem LaneSt.loseSupply_holdsUp (L : LaneSt) (id t : Nat) :
    (L.loseSupply id t).pwr = L.pwr.heldUp t ∧ ∀ i < 3, (L.loseSupply id t).rd (Reg.CLAIM_OF i) = 0 := by
  unfold LaneSt.loseSupply
  extract_lets A B
  have hA : A.pwr = L.pwr := ((LaneSt.openMask_frame _ 1).1 .pwr (by decide)).trans ((L.raise_frame id 0xFF).1 .pwr (by decide))
  have hB : B.pwr = A.pwr.heldUp t := congrArg (PwrSt.heldUp · t) ((A.zeroClaims_frame 7 3).1 .pwr (by decide))
  have hpwr : (B.auxAbort false).dropSensors.pwr = B.pwr :=
    ((LaneSt.dropSensors_frame _).1 .pwr (by decide)).trans ((B.auxAbort_frame false).1 .pwr (by decide))
  have hregs : (A.zeroClaims 7 3).keepsRegs [0x4005, 0x400C0048, 0x400C0050] (B.auxAbort false).dropSensors :=
    keepsRegs_trans (keepsRegs_mono (LaneSt.dropSensors_invalid _).1 (by decide))
      (keepsRegs_trans (keepsRegs_mono (B.auxAbort_regs false) (by decide)) (keepsRegs_same rfl))
  refine ⟨by rw [hpwr, hB, hA], fun i hi => ?_⟩
  rw [rd_of_keepsRegs hregs (Reg.CLAIM_OF i) (show covered _ 0x40030004 = false by decide)]
  exact A.zeroClaims_all 3 i hi

/-- Without any supply the lane is OFF, and of its memory only MRAM is left (R51, R54). -/
theorem LaneSt.unpower_off (L : LaneSt) : L.unpower.st = stOff ∧ L.unpower.pwr.regulator = false ∧
    ∀ a, L.unpower.byte a = if memOff a then L.byte a else memDefault a :=
  ⟨(L.powerDown keepOff memOff).rd_wr_self Reg.SYS_STATE_MODULE stOff (by decide), rfl, cellGet_filter_addr memDefault memOff L.mem⟩

/-- The state of the supplies after a return. -/
theorem LaneSt.regainSupply_pwr (L : LaneSt) (l : Lane) (mv : Int) : (L.regainSupply l mv).pwr =
    { L.pwr with
      lost := false, gndLost := false, returning := decide (stArm ≤ L.st) && L.assigned (laneIx l), sns5 := true, auxOn := true, supMv := mv } :=
  ((LaneSt.rearmOwn_frame _ l).1 .pwr (by decide)).trans ((LaneSt.endMask_frame _ 1).1 .pwr (by decide))

/-! ### The commands -/

section
variable {s : State} {l : Lane} {t : Nat}

/-- SUPPLY_LOSS of a supplied lane. -/
theorem exec_supplyLoss {mv : Int} (h : (s.lane l).supplied = true) (hmv : mv < 16000) :
    exec (.supplyLoss l mv t) s = .next (s.updSupply l (fun L => (L.tick t).loseSupply 0x0501 t) StageSt.loseSupply) :=
  (show exec (.supplyLoss l mv t) s = execSupplyLoss l mv t s from rfl).trans (if_pos (by simp [h, hmv]))

theorem exec_supplyLoss_inRange {mv : Int} (hmv : 16000 ≤ mv) : exec (.supplyLoss l mv t) s = .next s :=
  (show exec (.supplyLoss l mv t) s = execSupplyLoss l mv t s from rfl).trans (if_neg (by simp; omega))

theorem LaneSt.supplied_iff (L : LaneSt) : L.supplied = true ↔ L.up = true ∧ L.pwr.lost = false := by
  simp [LaneSt.supplied]

/-- GROUND_LOSS of a supplied lane (R37). -/
theorem exec_groundLoss {mv : Int} {us : Nat} (h : (s.lane l).supplied = true) (hmv : mv < -1000 ∨ 1000 < mv) (hus : 10 ≤ us)
    (hgnd : (s.lane l).pwr.gndLost = false) :
    exec (.groundLoss l mv us t) s = .next (s.updSupply l (fun L => ((L.tick t).loseSupply 0x0502 t).updPwr fun p => { p with gndLost := true })
      StageSt.loseSupply) := by
  obtain ⟨hup, hlost⟩ := (LaneSt.supplied_iff _).mp h
  have habs : 1000 < absN mv := by unfold absN; omega
  have hcond : ((s.lane l).up && !(s.lane l).pwr.gndLost && decide (1000 < absN mv) && decide (10 ≤ us)) = true := by
    simp [hup, hgnd, habs, hus]
  refine (show exec (.groundLoss l mv us t) s = execGroundLoss l mv us t s from rfl).trans ((if_pos hcond).trans ?_)
  rw [if_neg (by simp [hlost])]
  exact congrArg Host.Outcome.next (State.updLane_updSupply s l _ _ _)

/-- 15 ms on hold-up end in silence, after the fault record (R52, R54). -/
theorem exec_supplyLossTimeout (hup : (s.lane l).up = true) (hlost : (s.lane l).pwr.lost = true) (hmode : (s.lane l).mode ≠ 3)
    (ht : (s.lane l).pwr.lostAt + 15000000 ≤ t) {P : LaneSt → Prop} (hP : P ((s.lane l).tick t).writeRecord.goSilent) :
    LaneRuns (.supplyLossTimeout l t) s l P := by
  refine laneRuns_onLane (f := fun L => if L.pwr.lost ∧ L.mode ≠ 3 ∧ L.pwr.lostAt + 15000000 ≤ t then L.writeRecord.goSilent else L)
    rfl hup ?_
  have hcond : ((s.lane l).tick t).pwr.lost = true ∧ ((s.lane l).tick t).mode ≠ 3 ∧ ((s.lane l).tick t).pwr.lostAt + 15000000 ≤ t :=
    ⟨hlost, hmode, ht⟩
  exact (if_pos hcond).symm ▸ hP

section
variable {mv gnd : Int} {us : Nat}

/-- The supply is back, with its ground (R37, R53). -/
theorem exec_supplyReturn (hlost : (s.lane l).pwr.lost = true) (hmv : 17000 < mv) (hlo : -1000 ≤ gnd) (hhi : gnd ≤ 1000) (hus : 1000 ≤ us)
    (hup : (s.lane l).up = true) : exec (.supplyReturn l mv gnd us t) s =
      if (s.lane l).mode = 3 then .next ((s.updLane l fun L => (L.tick t).unpower).driveSto l).powerStages
      else .next (s.updSupply l (fun L => (L.tick t).regainSupply l mv) fun g => { g with supLost := false }) := by
  have habs : absN gnd ≤ 1000 := by unfold absN; omega
  have hcond : ((s.lane l).pwr.lost && decide (17000 < mv) && decide (absN gnd ≤ 1000) && decide (1000 ≤ us)) = true := by
    simp [hlost, hmv, habs, hus]
  refine (show exec (.supplyReturn l mv gnd us t) s = execSupplyReturn l mv gnd us t s from rfl).trans ((if_pos hcond).trans ?_)
  simp only [hup, Bool.true_and, beq_iff_eq, if_true]
  rfl

theorem exec_supplyReturn_groundOff (h : gnd < -1000 ∨ 1000 < gnd) : exec (.supplyReturn l mv gnd us t) s = .next s := by
  have habs : ¬ absN gnd ≤ 1000 := by unfold absN; omega
  refine (show exec (.supplyReturn l mv gnd us t) s = execSupplyReturn l mv gnd us t s from rfl).trans (if_neg ?_)
  simp [habs]

end

/-- A supply lost in PARK (R55). -/
theorem exec_parkSupplyLoss {mv : Int} (hst : (s.lane l).st = stPark) (hlost : (s.lane l).pwr.lost = false) (hmv : mv < 16000)
    {P : LaneSt → Prop} (hP : P (((s.lane l).tick t).updPwr fun p => { p with lost := true, lostAt := t, parkLoss := true })) :
    LaneRuns (.parkSupplyLoss l mv t) s l P := by
  refine laneRuns_updLane (f := fun L => if L.st = stPark ∧ mv < 16000 ∧ !L.pwr.lost then
    (L.tick t).updPwr fun p => { p with lost := true, lostAt := t, parkLoss := true } else L) rfl ?_
  have hcond : (s.lane l).st = stPark ∧ mv < 16000 ∧ (!(s.lane l).pwr.lost) = true := ⟨hst, hmv, by rw [hlost]; rfl⟩
  exact (if_pos hcond).symm ▸ hP

theorem exec_holdupExhausted_early (h : t < (s.lane l).pwr.lostAt + 20000000) : exec (.holdupExhausted l t) s = .next s :=
  (show exec (.holdupExhausted l t) s = execHoldupExhausted l t s from rfl).trans (if_neg (by simp; omega))

/-- The end of the hold-up (R51, R54). -/
theorem exec_holdupExhausted (hlost : (s.lane l).pwr.lost = true) (ht : (s.lane l).pwr.lostAt + 20000000 ≤ t) :
    exec (.holdupExhausted l t) s = .next ((s.updLane l LaneSt.unpower).driveSto l).powerStages :=
  (show exec (.holdupExhausted l t) s = execHoldupExhausted l t s from rfl).trans (if_pos (by simp [hlost, ht]))

/-- UNDERVOLTAGE_WARNING (R38). -/
theorem exec_undervoltageWarning {mv : Int} {us : Nat} (hup : (s.lane l).up = true) (hlo : 16000 ≤ mv) (hhi : mv < 18000) (hus : 100 ≤ us)
    {P : LaneSt → Prop} (hP : P (((s.lane l).tick t).raise 0x0503)) : LaneRuns (.undervoltageWarning l mv us t) s l P := by
  refine laneRuns_onLane (f := fun L => L.raiseIf (decide (16000 ≤ mv) && decide (mv < 18000) && decide (100 ≤ us)) 0x0503) rfl hup ?_
  have hcond : (decide (16000 ≤ mv) && decide (mv < 18000) && decide (100 ≤ us)) = true := by simp [hlo, hhi, hus]
  rw [hcond]
  exact hP

/-- SENSOR_SUPPLY_FAULT (R43). -/
theorem exec_sensorSupplyFault {mv us : Nat} (hup : (s.lane l).up = true) (hmv : mv < 4750 ∨ 5250 < mv) (hus : 100 ≤ us)
    {P : LaneSt → Prop} (hP : P (((s.lane l).tick t).raise 0x070A).dropSensors) : LaneRuns (.sensorSupplyFault l mv us t) s l P := by
  refine laneRuns_onLane (f := fun L => if (mv < 4750 ∨ 5250 < mv) ∧ 100 ≤ us then (L.raise 0x070A).dropSensors else L) rfl hup ?_
  rw [if_pos ⟨hmv, hus⟩]
  exact hP

/-- SUPPLY_OVERVOLTAGE (R38, R264). -/
theorem exec_supplyOvervoltage {mv : Int} (hup : (s.lane l).up = true) (hmv : 57000 < mv) (hover : (s.lane l).pwr.overvolt = false) :
    exec (.supplyOvervoltage l mv t) s =
      .next (s.updSupply l (fun L => ((L.tick t).raise 0x0504).updPwr fun p => { p with overvolt := true, supMv := mv }) StageSt.exceedSupply) :=
  (show exec (.supplyOvervoltage l mv t) s = execSupplyOvervoltage l mv t s from rfl).trans (if_pos (by simp [hup, hmv, hover]))

/-- OVERVOLTAGE_RECOVERY (R272). -/
theorem exec_overvoltageRecovery {mv : Int} {us : Nat} (hup : (s.lane l).up = true) (hover : (s.lane l).pwr.overvolt = true)
    (hmv : mv < 56000) (hus : 10000 ≤ us) : exec (.overvoltageRecovery l mv us t) s =
      .next (s.updSupply l (fun L => ((L.tick t).updPwr fun p => { p with overvolt := false, supMv := mv }).rearmOwn l)
        fun g => { g with supHigh := false }) :=
  (show exec (.overvoltageRecovery l mv us t) s = execOvervoltageRecovery l mv us t s from rfl).trans
    (if_pos (by simp [hup, hover, hmv, hus]))

end

/-! ### What the commands do -/

/-- A lane off its supply, and its stage. -/
theorem State.unpowered_lane (s : State) (l : Lane) (f : LaneSt → LaneSt) :
    (∀ o, o ≠ l → (((s.updLane l f).driveSto l).powerStages).lane o = s.lane o) ∧
      (((s.updLane l f).driveSto l).powerStages).lane l = f (s.lane l) :=
  ⟨fun o ho => (State.driveSto_lane _ l o).trans (s.lane_updLane_ne l o f ho), (State.driveSto_lane _ l l).trans (s.lane_updLane_self l f)⟩

section
variable (L : LaneSt) (t : Nat)

/-- A fault of a lane at time `t`. -/
theorem LaneSt.tick_raise {id : Nat} (hid : id < 65536) : (L.tick t).reported ((L.tick t).raise id) id 0xFF ∧
    L.keepsRegs faultRegs ((L.tick t).raise id) ∧ L.keeps (.time :: faultParts) ((L.tick t).raise id) :=
  ⟨LaneSt.raise_reported _ id 0xFF hid, keepsRegs_trans (LaneSt.raise_regs _ id 0xFF hid) (keepsRegs_same rfl),
    (frame_step (LaneSt.raise_frame _ id 0xFF) (by decide) (frame_mono (L.tick_frame t) (by decide))).1⟩

/-- A supply voltage above the range, as the lane tells it (R38). -/
theorem LaneSt.overvoltage_told (mv : Int) :
    let M := ((L.tick t).raise 0x0504).updPwr fun p => { p with overvolt := true, supMv := mv }
    (L.tick t).reported M 0x0504 0xFF ∧ L.keepsRegs faultRegs M ∧ L.keeps (.time :: .pwr :: faultParts) M := by
  intro M
  obtain ⟨hrep, hregs, -⟩ := L.tick_raise t (id := 0x0504) (by decide)
  exact ⟨reported_after (rs := []) (by decide) (by decide) (keepsRegs_same rfl) hrep, keepsRegs_of_regs rfl hregs,
    (frame_step (LaneSt.updPwr_frame _ _) (by decide) (frame_step (LaneSt.raise_frame _ _ _) (by decide)
      (frame_mono (L.tick_frame t) (by decide)))).1⟩

/-- A sensor supply out of range (R43). -/
theorem LaneSt.sensorSupply_told : let M := ((L.tick t).raise 0x070A).dropSensors
    (L.tick t).reported M 0x070A 0xFF ∧ L.keeps (.time :: .pos :: faultParts) M := by
  intro M
  exact ⟨reported_after (by decide) (by decide) (LaneSt.dropSensors_invalid _).1 (L.tick_raise t (by decide)).1,
    (frame_step (LaneSt.dropSensors_frame _) (by decide) (frame_step (LaneSt.raise_frame _ _ _) (by decide)
      (frame_mono (L.tick_frame t) (by decide)))).1⟩

end

/-- Settles O10: each command's condition holds, and the rest is what it does to the lane and the stage of its supply. -/
theorem supplyMonitoredAndHeldUp : Obligations.SupplyMonitoredAndHeldUp := by
  unfold Obligations.SupplyMonitoredAndHeldUp
  refine ⟨fun s l t h => ⟨fun mv hmv => ?_, fun mv us hmv hus hgnd => ?_, fun mv hmv => exec_supplyLoss_inRange hmv⟩,
    fun s l t => ⟨fun hup hlost hmode ht => ?_, fun mv gnd us hup hlost hmv hlo hhi hus => ⟨fun hmode => ?_, fun hmode => ?_⟩,
      fun mv gnd us hgnd => exec_supplyReturn_groundOff hgnd, fun mv hst hlost hmv => ?_, fun ht => exec_holdupExhausted_early ht,
      fun hlost ht => ?_⟩,
    fun s l t hup => ⟨fun mv us hlo hhi hus => ?_, fun mv hmv hover => ?_, fun mv us hover hmv hus => ?_, fun mv us hmv hus => ?_⟩⟩
  · obtain ⟨hpwr, hclaims⟩ := ((s.lane l).tick t).loseSupply_holdsUp 0x0501 t
    obtain ⟨hsup, hen⟩ := (nth s.stages (laneIx l)).loseSupply_sto
    refine ⟨_, exec_supplyLoss h hmv, sameButSupply_updSupply _ _ _ _, ?_⟩
    rw [State.updSupply_lane, State.updSupply_stage, hpwr]
    exact ⟨rfl, rfl, rfl, rfl, hclaims, hsup, hen⟩
  · obtain ⟨hpwr, hclaims⟩ := ((s.lane l).tick t).loseSupply_holdsUp 0x0502 t
    obtain ⟨hsup, hen⟩ := (nth s.stages (laneIx l)).loseSupply_sto
    refine ⟨_, exec_groundLoss h hmv hus hgnd, sameButSupply_updSupply _ _ _ _, ?_⟩
    rw [State.updSupply_lane, State.updSupply_stage, LaneSt.updPwr_pwr, hpwr]
    exact ⟨rfl, rfl, rfl, rfl, rfl, hclaims, hsup, hen⟩
  · exact exec_supplyLossTimeout hup hlost hmode ht ⟨(LaneSt.goSilent_silent _).1, rfl, rfl⟩
  · refine ⟨_, (exec_supplyReturn hlost hmv hlo hhi hus hup).trans (if_neg hmode), sameButSupply_updSupply _ _ _ _, ?_⟩
    rw [State.updSupply_lane, State.updSupply_stage, LaneSt.regainSupply_pwr]
    exact ⟨rfl, rfl, rfl, rfl, rfl, rfl, fun hst hown => Bool.and_eq_true_iff.mpr ⟨decide_eq_true hst, hown⟩⟩
  · obtain ⟨hothers, hlane⟩ := s.unpowered_lane l fun L => (L.tick t).unpower
    refine ⟨_, (exec_supplyReturn hlost hmv hlo hhi hus hup).trans (if_pos hmode), hothers, ?_⟩
    rw [hlane]
    exact (LaneSt.unpower_off _).1
  · refine exec_parkSupplyLoss hst hlost hmv ⟨?_, rfl, rfl, rfl⟩
    exact (LaneSt.frame_step (LaneSt.updPwr_frame _ _) (by decide) (LaneSt.frame_mono ((s.lane l).tick_frame t) (by decide))).1
  · obtain ⟨hothers, hlane⟩ := s.unpowered_lane l LaneSt.unpower
    refine ⟨_, exec_holdupExhausted hlost ht, hothers, ?_⟩
    rw [hlane]
    exact (s.lane l).unpower_off
  · exact exec_undervoltageWarning hup hlo hhi hus ((s.lane l).tick_raise t (by decide))
  · obtain ⟨hrep, hregs, hkeeps⟩ := (s.lane l).overvoltage_told t mv
    obtain ⟨hhigh, hen⟩ := (nth s.stages (laneIx l)).exceedSupply_sto
    refine ⟨_, exec_supplyOvervoltage hup hmv hover, sameButSupply_updSupply _ _ _ _, ?_⟩
    rw [State.updSupply_lane, State.updSupply_stage]
    exact ⟨rfl, rfl, hrep, hregs, hkeeps, hhigh, hen⟩
  · have hpwr := fun M : LaneSt => (M.rearmOwn_frame l).1 .pwr (by decide)
    refine ⟨_, exec_overvoltageRecovery hup hover hmv hus, sameButSupply_updSupply _ _ _ _, ?_⟩
    rw [State.updSupply_lane, State.updSupply_stage]
    refine ⟨congrArg PwrSt.overvolt (hpwr _), congrArg PwrSt.supMv (hpwr _), ?_, rfl⟩
    exact (LaneSt.frame_step (LaneSt.rearmOwn_frame _ l) (by decide) (LaneSt.frame_step (LaneSt.updPwr_frame _ _) (by decide)
      (LaneSt.frame_mono ((s.lane l).tick_frame t) (by decide)))).1
  · obtain ⟨hrep, hkeeps⟩ := (s.lane l).sensorSupply_told t
    obtain ⟨-, henc, hhall, hssi⟩ := (((s.lane l).tick t).raise 0x070A).dropSensors_invalid
    exact exec_sensorSupplyFault hup hmv hus ⟨hrep, henc, hhall, hssi, hkeeps⟩

end Sys2Proof.Machine

/-! ## Wake of a lane (R8, R75, R76, R83) -/
namespace Sys2Proof.Machine

/-! ### A domain whose retained values are lost -/

/-- The registers of a lost domain take their reset values, live and frozen (R76); the report of it touches no frozen word. -/
theorem LaneSt.restoreDomain_lost_snap (L : LaneSt) (d : Nat) :
    (L.restoreDomain false d).snap = L.snap.filter fun e => keptDomain e.1 ≠ d :=
  (LaneSt.raise_frame _ 0x0401 0xFF).1 .snap (by decide)

/-- With no domain intact, no register that PARK kept is left frozen. -/
theorem LaneSt.restoreDomains_lost_snap (L : LaneSt) (l : Lane) :
    (L.restoreDomains l 0#4).snap = L.snap.filter fun e => keptDomain e.1 ∉ [1, 2, 3, 4] := by
  unfold LaneSt.restoreDomains
  extract_lets A B C D
  have hB : B.snap = L.snap.filter fun e => keptDomain e.1 ∉ [1, 2, 3, 4] := by
    simp [B, A, LaneSt.restoreDomain_lost_snap, List.filter_filter, Bool.and_comm, Bool.and_assoc]
  have hD : D.snap = B.snap := by
    simp only [D]
    split <;> rfl
  exact ((LaneSt.flkListen_frame _).1 .snap (by decide)).trans (((LaneSt.renewKeys_frame _ l).1 .snap (by decide)).trans (hD.trans hB))

/-- REGULATOR_READY with the crystal ready, every retained domain lost. -/
theorem exec_regulatorReady_lost_snap {s u : State} {l : Lane} {t : Nat} (hst : (s.lane l).st = stPark)
    (hboot : (s.lane l).sys.boot = .wake) (hreg : (s.lane l).pwr.regulator = false)
    (h : exec (.regulatorReady l true 0#4 t) s = .next u) :
    (u.lane l).snap = (s.lane l).snap.filter fun e => keptDomain e.1 ∉ [1, 2, 3, 4] := by
  change execRegulatorReady l true 0#4 t s = .next u at h
  rw [execRegulatorReady, Host.Outcome.next.injEq] at h
  rw [← h, State.lane_updLane_self, if_pos ⟨hst, hboot, by rw [hreg]; rfl⟩, if_pos rfl, LaneSt.restoreDomains_lost_snap]
  rfl

/-! ### A lane on its way up, with a frozen fault count -/

/-- Lane A in PARK, woken by a source, its regulator not yet ready; the count of the faults of class 1, which PARK keeps, stood at 1 at the
last slot start, and so it is frozen. -/
def wakingWithCount : State := State.reset.updLane .A fun L =>
  { (L.wr Reg.SYS_STATE_MODULE stPark).wr (Reg.FC_CNT_COUNT 1) 1 with
    snap := [((Reg.FC_CNT_COUNT 1).addr, 1#32)]
    sys := { L.sys with boot := .wake }
    pwr := { L.pwr with regulator := false } }

theorem wakingWithCount_waits : (wakingWithCount.lane .A).st = stPark ∧ (wakingWithCount.lane .A).sys.boot = .wake ∧
    (wakingWithCount.lane .A).pwr.regulator = false ∧ wakingWithCount.wf = true ∧
    freezeOf (Reg.FC_CNT_COUNT 1).addr = .slot ∧ keepPark (Reg.FC_CNT_COUNT 1).addr = true := by decide

/-- Refutes O34: REGULATOR_READY, with the crystal ready, may change only time, supplies, keys, keeper, NVM, memory, registers, collector,
state and axis, says the statement; but a domain whose retained values are lost takes its reset values in the frozen registers too (R76), so
the frozen fault count of `wakingWithCount` is gone. -/
theorem not_wakeBringsLaneUp : ¬ Obligations.WakeBringsLaneUp := by
  unfold Obligations.WakeBringsLaneUp
  intro h
  obtain ⟨-, -, -, -, hready, -, -⟩ := h wakingWithCount .A 0
  obtain ⟨hst, hboot, hreg, -, -, -⟩ := wakingWithCount_waits
  obtain ⟨u, hexec, -, -, -, -, -, -, hok, -⟩ := hready true 0#4 hst hboot hreg
  have hkept : (u.lane .A).snap = (wakingWithCount.lane .A).snap := (hok rfl).1 .snap (by decide)
  have hlost := exec_regulatorReady_lost_snap hst hboot hreg hexec
  exact absurd (hkept.symm.trans hlost) (by decide)

end Sys2Proof.Machine

/-! ## Reset (R88, R267, R275) -/
namespace Sys2Proof.Machine

/-- With nothing listed, the lead reads 0 and Lamb its complement. -/
theorem Hart.reset_complements : Hart.reset.complements := by
  have hnone : 0xFFFFFFFF#32 = ~~~0#32 := by decide
  refine ⟨hnone, fun fp n => ?_, fun _ => hnone⟩
  cases fp
  · show (if n = 0 then 0xFFFFFFFF#32 else 0xFFFFFFFF#32) = ~~~(if n = 0 then 0#32 else 0#32)
    rw [ite_self, ite_self, hnone]
  · exact hnone

/-- A stage at reset waits, its switches off (R262). -/
theorem StageSt.reset_torqueSafe : StageSt.reset.torqueSafe := by
  unfold StageSt.torqueSafe
  decide

/-- Settles O3: storage, lanes and stages at reset are evaluated, and both copies of an empty core are complements. -/
theorem resetMeetsInvariants : Obligations.ResetMeetsInvariants := by
  unfold Obligations.ResetMeetsInvariants
  refine ⟨by decide, ⟨StageSt.reset_torqueSafe, StageSt.reset_torqueSafe, StageSt.reset_torqueSafe⟩, rfl, fun l => ?_, fun g => ?_⟩
  · refine ⟨?_, ?_, ?_, ?_, ?_⟩
    · cases l <;> decide
    · cases l <;> decide
    · cases l <;> exact Hart.reset_complements
    · cases l <;> decide
    · cases l <;> decide
  · cases g <;> decide

end Sys2Proof.Machine

/-! ## Transitions (R58, R59, R62, R87, R367) -/
namespace Sys2Proof.Machine

/-! ### Lanes in step, and lanes that park -/

section
variable (s : State) (l : Lane) (f : Lane → LaneSt → LaneSt)

theorem State.stepTogether_lane (k : Lane) : (s.stepTogether l f).lane k = if s.inStep l k then f k (s.lane k) else s.lane k := by
  unfold State.stepTogether
  simp only [List.foldl_cons, List.foldl_nil]
  cases k <;> split_ifs <;> rfl

theorem State.stepTogether_others : (s.stepTogether l f).stages = s.stages ∧ (s.stepTogether l f).gX = s.gX ∧
    (s.stepTogether l f).gY = s.gY := by
  unfold State.stepTogether
  simp only [List.foldl_cons, List.foldl_nil]
  split_ifs <;> exact ⟨rfl, rfl, rfl⟩

/-- A lane in step is powered, and in the same phase of the same transition. -/
theorem State.inStep_same {s : State} {l k : Lane} (hup : (s.lane l).up = true) (h : s.inStep l k = true) : (s.lane k).up = true ∧
    (s.lane k).st = (s.lane l).st ∧ (s.lane k).rd Reg.SYS_STATE_PHASE = (s.lane l).rd Reg.SYS_STATE_PHASE ∧
    (s.lane k).rd Reg.SYS_STATE_TARGET = (s.lane l).rd Reg.SYS_STATE_TARGET := by
  by_cases hkl : k = l
  · subst hkl
    exact ⟨hup, rfl, rfl, rfl⟩
  · simp only [State.inStep, beq_eq_false_iff_ne.mpr hkl, Bool.false_or, Bool.and_eq_true, beq_iff_eq] at h
    obtain ⟨⟨⟨⟨hk, -⟩, hst⟩, hphase⟩, htgt⟩ := h
    exact ⟨hk, hst, hphase, htgt⟩

theorem State.inStep_self : s.inStep l l = true := by simp [State.inStep]

end

section
variable (s u : State) (l k : Lane)

theorem State.parked_others : (s.parked l).gX = s.gX.sleep l ∧ (s.parked l).gY = s.gY.sleep l :=
  { s with gX := s.gX.sleep l, gY := s.gY.sleep l }.driveSto_guardians l

theorem State.parked_lane (o : Lane) : (s.parked l).lane o = s.lane o :=
  { s with gX := s.gX.sleep l, gY := s.gY.sleep l }.driveSto_lane l o

/-- The module parks lane `k` if a transition took it from a powered state in `s` to PARK in `u`. -/
def State.parkIf : State := if (s.lane k).up && (u.lane k).st == stPark then u.parked k else u

/-- The module parks each lane that a transition took to PARK. -/
def State.parkEach : State := s.parkIf (s.parkIf (s.parkIf u .A) .B) .C

/-- Both guardians sleep. -/
def State.Asleep : Prop := u.gX.asleep = true ∧ u.gX.powered = false ∧ u.gY.asleep = true ∧ u.gY.powered = false

variable {s u}

theorem State.parkIf_pending : (s.parkIf u k).pending = u.pending := State.pending_ite (u.parked_pending k) rfl

theorem State.parkEach_pending : (s.parkEach u).pending = u.pending :=
  (parkIf_pending ..).trans ((parkIf_pending ..).trans (parkIf_pending ..))

theorem State.parkIf_lane (o : Lane) : (s.parkIf u k).lane o = u.lane o := by
  unfold State.parkIf
  split
  · exact u.parked_lane k o
  · rfl

theorem State.parkEach_lane (o : Lane) : (s.parkEach u).lane o = u.lane o :=
  (parkIf_lane ..).trans ((parkIf_lane ..).trans (parkIf_lane ..))

theorem State.parked_asleep : (u.parked k).Asleep := by
  obtain ⟨hX, hY⟩ := u.parked_others k
  rw [State.Asleep, hX, hY]
  exact ⟨rfl, rfl, rfl, rfl⟩

theorem State.Asleep.parkIf (h : u.Asleep) : (s.parkIf u k).Asleep := by
  unfold State.parkIf
  split
  · exact State.parked_asleep k
  · exact h

theorem State.parkIf_asleep (hup : (s.lane k).up = true) (hst : (u.lane k).st = stPark) : (s.parkIf u k).Asleep := by
  unfold State.parkIf
  rw [if_pos (by rw [hup, hst]; rfl)]
  exact State.parked_asleep k

/-- A lane that parks puts the guardians to sleep (R87, R367). -/
theorem State.parkEach_asleep (hup : (s.lane l).up = true) (hst : (u.lane l).st = stPark) : (s.parkEach u).Asleep := by
  cases l
  · exact .parkIf _ (.parkIf _ (parkIf_asleep _ hup hst))
  · exact .parkIf _ (parkIf_asleep _ hup ((congrArg LaneSt.st (parkIf_lane ..)).trans hst))
  · exact parkIf_asleep _ hup ((congrArg LaneSt.st ((parkIf_lane ..).trans (parkIf_lane ..))).trans hst)

theorem State.parkIf_none (h : (s.lane k).up = true → (u.lane k).st ≠ stPark) : s.parkIf u k = u := by
  refine if_neg fun hpark => ?_
  obtain ⟨hup, hst⟩ := Bool.and_eq_true_iff.mp hpark
  exact h hup (beq_iff_eq.mp hst)

theorem State.parkEach_none (h : ∀ k, (s.lane k).up = true → (u.lane k).st ≠ stPark) : s.parkEach u = u := by
  rw [State.parkEach, parkIf_none _ (h .A), parkIf_none _ (h .B), parkIf_none _ (h .C)]

end

/-! ### What a transition writes -/

section
variable (L : LaneSt)

theorem LaneSt.report_regs (r why b : Nat) : L.keepsRegs [0x4000000C] (L.report r why b) :=
  keepsRegs_wr (by decide) (keepsRegs_wr (by decide) (keepsRegs_wr (by decide) (L.wr_keepsRegs _ _ (by decide))))

theorem LaneSt.report_result (r why b : Nat) : (L.report r why b).rd Reg.SYS_TRANS_STAT_RESULT = r % 8 ∧
    (L.report r why b).rd Reg.SYS_TRANS_STAT_REASON = why % 256 := by
  unfold LaneSt.report LaneSt.inc
  simp [LaneSt.rd_wr_apart, LaneSt.rd_wr_self]

theorem LaneSt.clockDown_regs (f : Nat) : L.keepsRegs [0x40000024, 0x40000028] (L.clockDown f) :=
  keepsRegs_of_regs (M := ((L.wr Reg.SYS_CLK_STAT_CORE_FREQ f).wr Reg.SYS_BIAS_BIAS 0).put Reg.SYS_BIAS_SETTLED false) rfl
    (keepsRegs_wr (by decide) (keepsRegs_wr (by decide) (L.wr_keepsRegs _ _ (by decide))))

theorem LaneSt.clockDown_zero : (L.clockDown 0).rd Reg.SYS_CLK_STAT_CORE_FREQ = 0 ∧ (L.clockDown 0).rd Reg.SYS_BIAS_BIAS = 0 := by
  have hregs : (L.clockDown 0).regs = (((L.wr Reg.SYS_CLK_STAT_CORE_FREQ 0).wr Reg.SYS_BIAS_BIAS 0).put Reg.SYS_BIAS_SETTLED false).regs := rfl
  rw [LaneSt.rd_congr hregs, LaneSt.rd_congr hregs, LaneSt.put]
  simp [LaneSt.rd_wr_apart, LaneSt.rd_wr_self]

/-- The fields that a complete transition leaves: its phase and its result. -/
structure LaneSt.Completed : Prop where
  phase : L.rd Reg.SYS_STATE_PHASE = 0
  result : L.rd Reg.SYS_TRANS_STAT_RESULT = rDone

theorem LaneSt.done_completed : L.done.Completed where
  phase := (rd_of_keepsRegs (LaneSt.report_regs _ _ _ _) _ (by decide)).trans (L.rd_wr_self _ _ (by decide))
  result := (LaneSt.report_result _ _ _ _).1

theorem LaneSt.done_st : L.done.st = L.st :=
  (rd_of_keepsRegs (LaneSt.report_regs _ _ _ _) _ (by decide)).trans (L.rd_wr_apart _ _ _ (by decide))

theorem LaneSt.Completed.of_regs {L M : LaneSt} {rs : List Nat} (h : L.Completed) (hregs : L.keepsRegs rs M)
    (hd : covered rs 0x40000004 = false ∧ covered rs 0x4000000C = false := by decide) : M.Completed :=
  ⟨(rd_of_keepsRegs hregs _ hd.1).trans h.phase, (rd_of_keepsRegs hregs _ hd.2).trans h.result⟩

/-! ### The targets -/

/-- DRIVE, and its claims (R58). -/
theorem LaneSt.toDrive (k : Lane) {M : LaneSt} (hM : M = (L.wr Reg.SYS_STATE_MODULE stDrive).done.refreshClaims k) :
    L.frame [.regs] M ∧ M.st = stDrive ∧ M.Completed := by
  subst hM
  have hregs := (L.wr Reg.SYS_STATE_MODULE stDrive).done.refreshClaims_regs k
  refine ⟨frame_step (refreshClaims_frame _ _) (by decide) (frame_step (done_frame _) (by decide) (L.wr_frame _ _)), ?_,
    (LaneSt.done_completed _).of_regs hregs⟩
  calc LaneSt.st _ = (L.wr Reg.SYS_STATE_MODULE stDrive).done.st := rd_of_keepsRegs hregs Reg.SYS_STATE_MODULE (by decide)
    _ = (L.wr Reg.SYS_STATE_MODULE stDrive).st := LaneSt.done_st _
    _ = stDrive := L.rd_wr_self _ _ (by decide)

/-- ARM changes nothing but registers and the position front end, except from STANDBY. -/
theorem LaneSt.enterArm_fromAbove (h : L.st ≠ stStandby) : L.frame [.pos, .regs] L.enterArm := by
  unfold LaneSt.enterArm
  rw [if_neg h]
  refine frame_step (wr_frame _ _ _) (by decide) (frame_seq (frame_step (frame_pos _ _) (by decide) (frame_refl _ _)) ?_)
  exact frame_ite (frame_step (frame_pos _ _) (by decide) (frame_refl _ _)) (frame_refl _ _)

/-- ARM, and its claims (R58, R62). -/
theorem LaneSt.toArm (k : Lane) {M : LaneSt} (hM : M = L.enterArm.done.refreshClaims k) :
    M.st = stArm ∧ M.Completed ∧ (L.st ≠ stStandby → L.frame [.pos, .regs] M) := by
  subst hM
  have hregs := L.enterArm.done.refreshClaims_regs k
  refine ⟨?_, (LaneSt.done_completed _).of_regs hregs, fun h =>
    frame_step (refreshClaims_frame _ _) (by decide) (frame_step (done_frame _) (by decide) (L.enterArm_fromAbove h))⟩
  calc LaneSt.st _ = L.enterArm.done.st := rd_of_keepsRegs hregs Reg.SYS_STATE_MODULE (by decide)
    _ = L.enterArm.st := LaneSt.done_st _
    _ = stArm := LaneSt.rd_wr_self _ _ _ (by decide)

/-- What a lane in STANDBY has given up (R58, R78). -/
structure LaneSt.AtRest : Prop where
  st : L.st = stStandby
  en : L.safe.en = .all false
  freq : L.rd Reg.SYS_CLK_STAT_CORE_FREQ = 0
  claims : ∀ i < 3, L.rd (Reg.CLAIM_OF i) = 0

/-- The registers of a lane that enters STANDBY. -/
theorem LaneSt.toStandby_regs : L.toStandby.regs = (((L.zeroClaims 7 1).clockDown 0).wr Reg.SYS_STATE_MODULE stStandby).regs :=
  LaneSt.driveFaultX_regs _

theorem LaneSt.toStandby_keepsRegs : (L.zeroClaims 7 1).keepsRegs [0x40000004, 0x40000024, 0x40000028] L.toStandby :=
  keepsRegs_of_regs L.toStandby_regs (keepsRegs_wr (by decide) (keepsRegs_mono (LaneSt.clockDown_regs _ 0) (by decide)))

theorem LaneSt.toStandby_atRest : L.toStandby.AtRest where
  st := (rd_congr L.toStandby_regs _).trans (rd_wr_self _ _ _ (by decide))
  en := rfl
  freq := calc
    L.toStandby.rd Reg.SYS_CLK_STAT_CORE_FREQ = ((L.zeroClaims 7 1).clockDown 0).rd Reg.SYS_CLK_STAT_CORE_FREQ :=
      (rd_congr L.toStandby_regs _).trans (rd_wr_apart _ _ _ _ (by decide))
    _ = 0 := (LaneSt.clockDown_zero _).1
  claims := fun i hi => (rd_of_keepsRegs L.toStandby_keepsRegs _ (show covered _ 0x40030004 = false by decide)).trans
    (L.zeroClaims_all 1 i hi)

theorem LaneSt.Completed.toStandby {L : LaneSt} (h : L.Completed) : L.toStandby.Completed := by
  have hclaims : (L.zeroClaims 7 1).Completed := h.of_regs (L.zeroClaims_regs 7 1)
  have hclock : ((L.zeroClaims 7 1).clockDown 0).Completed := hclaims.of_regs (LaneSt.clockDown_regs _ 0)
  exact ⟨(rd_congr L.toStandby_regs _).trans ((rd_wr_apart _ _ _ _ (by decide)).trans hclock.phase),
    (rd_of_keepsRegs L.toStandby_keepsRegs _ (by decide)).trans hclaims.result⟩

/-- The state controller keeps its registers in PARK (R72). -/
theorem LaneSt.powerDown_rd {f : Fld} (h : f.addr / 0x10000 = 0x4000) : (L.powerDown keepPark memPark).rd f = L.rd f := by
  have hkept : (keepPark f.addr || f.addr == 0x40000000) = true := by simp [keepPark, inBlock, h]
  have hreg : (L.powerDown keepPark memPark).reg f.addr = L.reg f.addr :=
    (cellGet_filter_addr resetWord (fun a => keepPark a || a == 0x40000000) L.regs f.addr).trans (if_pos hkept)
  rw [LaneSt.rd, LaneSt.rd, hreg]

theorem LaneSt.frame.time {ps : List Part} {L M : LaneSt} (h : L.frame ps M) (hp : Part.time ∉ ps := by decide) : M.time = L.time :=
  h.1 .time hp

/-- The lane loses power but for its always-on domain (R72). -/
def LaneSt.sleepOn (L : LaneSt) : LaneSt :=
  let A := (L.wr Reg.SYS_STATE_MODULE stPark).wr Reg.SYS_BIAS_BIAS 2
  let B := (((A.wr Reg.SYS_CLK_STAT_CORE_FREQ 0).put Reg.SYS_CLK_STAT_CPLL_LOCK false).put Reg.SYS_CLK_STAT_TPLL_LOCK false).wr
    Reg.SYS_STATE_VOTING 0
  let C := B.powerDown keepPark memPark
  { C with sys := { SysSt.reset with parkAt := C.time }, pwr := { C.pwr with sns5 := false, auxOn := false, regulator := false } }

theorem LaneSt.toPark_eq (k : Lane) : L.toPark k = (L.toStandby.deferredErase k).parkSave.sleepOn := rfl

/-- What is left of a lane in PARK (R58, R72, R78). -/
structure LaneSt.Parked (at_ : Nat) : Prop where
  st : L.st = stPark
  sys : L.sys = { SysSt.reset with parkAt := at_ }
  regulator : L.pwr.regulator = false
  bias : L.rd Reg.SYS_BIAS_BIAS = 2

theorem LaneSt.sleepOn_parked : L.sleepOn.Parked L.time := by
  unfold LaneSt.sleepOn
  extract_lets A B C
  have hrd : ∀ f : Fld, f.addr / 0x10000 = 0x4000 → C.rd f = B.rd f := fun f hf => B.powerDown_rd hf
  have hB : B.st = stPark ∧ B.rd Reg.SYS_BIAS_BIAS = 2 := by
    simp [B, A, LaneSt.st, LaneSt.put, LaneSt.rd_wr_apart, LaneSt.rd_wr_self]
  exact ⟨(hrd _ (by decide)).trans hB.1, rfl, rfl, (hrd _ (by decide)).trans hB.2⟩

theorem LaneSt.toPark_parked (k : Lane) : (L.toPark k).Parked L.time := by
  have htime : (L.toStandby.deferredErase k).parkSave.time = L.time :=
    (parkSave_frame _).time.trans ((deferredErase_frame _ k).time.trans L.toStandby_frame.time)
  rw [LaneSt.toPark_eq, ← htime]
  exact LaneSt.sleepOn_parked _

/-! ### The execution of a transition -/

/-- FOLD does not preempt the execution (R70). -/
def LaneSt.mayExecute : Prop := L.rd Reg.SYS_STATE_PHASE = 2 ∧ L.arming = false ∧ (L.sys.fold = false ∨ L.st = stFold)

section
variable {L : LaneSt} (h : L.mayExecute) (k : Lane)
include h

theorem LaneSt.executeStep_cond : L.rd Reg.SYS_STATE_PHASE = 2 ∧ (!L.arming) = true ∧ ((!L.sys.fold) = true ∨ L.st = stFold) := by
  obtain ⟨hphase, harm, hfold⟩ := h
  exact ⟨hphase, by rw [harm]; rfl, hfold.imp_left fun hf => by rw [hf]; rfl⟩

theorem LaneSt.executeStep_park (htgt : L.rd Reg.SYS_STATE_TARGET = stPark) : L.executeStep k = L.done.parkAux.toPark k := by
  rw [LaneSt.executeStep, if_pos (executeStep_cond h), htgt]
  rfl

theorem LaneSt.executeStep_standby (htgt : L.rd Reg.SYS_STATE_TARGET = stStandby) : L.executeStep k = L.done.toStandby := by
  rw [LaneSt.executeStep, if_pos (executeStep_cond h), htgt]
  rfl

theorem LaneSt.executeStep_arm (htgt : L.rd Reg.SYS_STATE_TARGET = stArm) : L.executeStep k = L.enterArm.done.refreshClaims k := by
  rw [LaneSt.executeStep, if_pos (executeStep_cond h), htgt]
  rfl

theorem LaneSt.executeStep_drive (htgt : L.rd Reg.SYS_STATE_TARGET = stDrive) :
    L.executeStep k = (L.wr Reg.SYS_STATE_MODULE stDrive).done.refreshClaims k := by
  rw [LaneSt.executeStep, if_pos (executeStep_cond h), htgt]
  rfl

end

theorem LaneSt.executeStep_not {L : LaneSt} (h : ¬ L.mayExecute) (k : Lane) : L.executeStep k = L := by
  refine if_neg fun hcond => h ?_
  obtain ⟨hphase, harm, hfold⟩ := hcond
  exact ⟨hphase, by simpa using harm, hfold.imp_left fun hf => by simpa using hf⟩

/-- A transition that is not to PARK leaves a powered lane powered. -/
theorem LaneSt.executeStep_up (k : Lane) (htgt : L.rd Reg.SYS_STATE_TARGET ≠ stPark) (hup : L.up = true) : (L.executeStep k).up = true := by
  unfold LaneSt.executeStep
  split
  case isFalse => exact hup
  case isTrue =>
    split
    · next h => exact absurd h htgt
    · rw [LaneSt.up, (LaneSt.toStandby_atRest _).st]; rfl
    · rw [LaneSt.up, (L.toArm k rfl).1]; rfl
    · rw [LaneSt.up, (L.toDrive k rfl).2.1]; rfl
    · exact hup

/-- What a transition in execution makes of a lane, by its target (R58, R62). -/
theorem LaneSt.executeStep_target (k : Lane) (t : Nat) (h : L.mayExecute) {tgt : Nat} (htgt : L.rd Reg.SYS_STATE_TARGET = tgt) {M : LaneSt}
    (hM : M = (L.tick t).executeStep k) :
    (tgt = stDrive → L.keeps [.time, .regs] M ∧ M.st = stDrive ∧ M.Completed) ∧
    (tgt = stArm → M.st = stArm ∧ M.Completed ∧ (L.st = stDrive → L.keeps [.time, .pos, .regs] M)) ∧
    (tgt = stStandby → L.keeps [.time, .fc, .safe, .sys, .regs] M ∧ M.AtRest ∧ M.Completed) ∧
    (tgt = stPark → M.Parked (max L.time t)) := by
  have hmay : (L.tick t).mayExecute := h
  refine ⟨fun hx => ?_, fun hx => ?_, fun hx => ?_, fun hx => ?_⟩ <;> subst hM hx
  · rw [executeStep_drive hmay k htgt]
    obtain ⟨hframe, hst, hdone⟩ := (L.tick t).toDrive k rfl
    exact ⟨keeps_of_tick (by decide) (frame_mono hframe (by decide)).1, hst, hdone⟩
  · rw [executeStep_arm hmay k htgt]
    obtain ⟨hst, hdone, hframe⟩ := (L.tick t).toArm k rfl
    exact ⟨hst, hdone, fun h => keeps_of_tick (by decide) (frame_mono (hframe (show L.st ≠ stStandby by rw [h]; decide)) (by decide)).1⟩
  · rw [executeStep_standby hmay k htgt]
    have hframe := frame_step (toStandby_frame (L.tick t).done) (ps := [.time, .fc, .safe, .sys, .regs]) (by decide)
      (frame_mono (done_frame _) (by decide))
    exact ⟨keeps_of_tick (by decide) hframe.1, LaneSt.toStandby_atRest _, (LaneSt.done_completed _).toStandby⟩
  · rw [executeStep_park hmay k htgt]
    have htime : (L.tick t).done.parkAux.time = max L.time t := (parkAux_frame _).time.trans (done_frame _).time
    exact htime ▸ LaneSt.toPark_parked _ k

end

/-! ### The commands -/

section
variable (s : State) (l : Lane) (t : Nat)

/-- Every lane in step executes its transition. -/
def State.executed : State := s.stepTogether l fun k L => (L.tick t).executeStep k

/-- After lane `l` came down to STANDBY or below, the stages rest (R58). -/
def State.comeDown (u : State) : State := if (s.lane l).st ≠ stStandby ∧ (u.lane l).st ≤ stStandby then u.restStages else u

variable {s l t}

theorem exec_transitionExecute (hup : (s.lane l).up = true) (ht : t % 50000 = 0) :
    exec (.transitionExecute l t) s = .next (s.comeDown l (s.parkEach (s.executed l t))) := by
  refine (show exec (.transitionExecute l t) s = execTransitionExecute l t s from rfl).trans ((if_pos ?_).trans rfl)
  simp [hup, ht]

theorem State.comeDown_others (u : State) : (s.comeDown l u).pending = u.pending ∧ (s.comeDown l u).gX = u.gX ∧ (s.comeDown l u).gY = u.gY ∧ ∀ k, (s.comeDown l u).lane k = u.lane k := by
  unfold State.comeDown
  split <;> exact ⟨rfl, rfl, rfl, fun _ => rfl⟩

theorem State.executed_lane (k : Lane) :
    (s.executed l t).lane k = if s.inStep l k then ((s.lane k).tick t).executeStep k else s.lane k :=
  s.stepTogether_lane l _ k

/-- No lane parks in a transition to another state. -/
theorem State.executed_up (hup : (s.lane l).up = true) (htgt : (s.lane l).rd Reg.SYS_STATE_TARGET ≠ stPark) (k : Lane)
    (hk : (s.lane k).up = true) : ((s.executed l t).lane k).up = true := by
  rw [State.executed_lane]
  split
  case isFalse => exact hk
  case isTrue h =>
    obtain ⟨-, -, -, hsame⟩ := State.inStep_same hup h
    exact LaneSt.executeStep_up _ k (by rw [← hsame] at htgt; exact htgt) hk

theorem State.executed_noPark (hup : (s.lane l).up = true) (htgt : (s.lane l).rd Reg.SYS_STATE_TARGET ≠ stPark) :
    s.parkEach (s.executed l t) = s.executed l t :=
  State.parkEach_none fun k hk hst => by
    have h := State.executed_up (t := t) hup htgt k hk
    rw [LaneSt.up, hst] at h
    exact absurd h (by decide)

theorem State.restStages_stage (u : State) (g : Stg) : u.restStages.stage g = (u.stage g).deEnergise := by cases g <;> rfl

theorem State.comeDown_not (u : State) (h : (s.lane l).st = stStandby ∨ stStandby < (u.lane l).st) : s.comeDown l u = u := by
  refine if_neg fun hdown => ?_
  obtain ⟨hfrom, hto⟩ := hdown
  rcases h with h | h
  · exact hfrom h
  · exact absurd h (Nat.not_lt.mpr hto)

/-- SLEEP_SIGNAL (R87). -/
theorem exec_sleepSignal {g : Gdn} (hup : (s.lane l).up = true) (hmode : (s.lane l).mode = 3) (hsleep : (s.gdn g).asleep = true) :
    exec (.sleepSignal l g) s = .next ((s.updLane l fun L => L.parkAux.toPark l).parked l) :=
  (show exec (.sleepSignal l g) s = execSleepSignal l g s from rfl).trans (if_pos (by simp [hup, hmode, hsleep]))

end

/-- Settles O33: what the step does to a lane in step is read off by its target, and the module parks or rests as lane `l` has come down. -/
theorem transitionEndsInTarget : Obligations.TransitionEndsInTarget := by
  unfold Obligations.TransitionEndsInTarget
  intro s l t tgt hup
  refine ⟨fun ht hphase htgt harm => ?_, fun g hmode hsleep => ?_⟩
  case refine_2 =>
    refine ⟨_, exec_sleepSignal hup hmode hsleep, fun o ho => (State.parked_lane _ l o).trans (State.lane_updLane_ne _ _ _ _ ho),
      State.parked_pending _ l, ?_, State.parked_others _ l⟩
    rw [State.parked_lane, State.lane_updLane_self]
    exact (LaneSt.toPark_parked _ l).st
  case refine_1 =>
    have hmay : ∀ k, s.inStep l k = true → (s.lane k).sys.fold = false ∨ (s.lane k).st = stFold → (s.lane k).mayExecute := by
      intro k hk hfold
      obtain ⟨-, hst, hphase', htgt'⟩ := State.inStep_same hup hk
      refine ⟨hphase'.trans hphase, ?_, hfold⟩
      rw [LaneSt.arming, hphase', htgt', hst]
      exact harm
    have hself := s.inStep_self l
    obtain ⟨hstages, hgX, hgY⟩ : (s.executed l t).stages = s.stages ∧ (s.executed l t).gX = s.gX ∧ (s.executed l t).gY = s.gY :=
      s.stepTogether_others l _
    obtain ⟨hpending, hX, hY, hlane⟩ := State.comeDown_others (s := s) (l := l) (s.parkEach (s.executed l t))
    have hstep : ∀ k, s.inStep l k = true → (s.executed l t).lane k = ((s.lane k).tick t).executeStep k := fun k hk =>
      (State.executed_lane k).trans (if_pos hk)
    refine ⟨_, exec_transitionExecute hup ht, ?_, fun hne => ?_, fun hpark hfold => ?_, fun habove => ?_, fun hx hne hfold => ?_, fun k => ?_⟩
    · exact hpending.trans (State.parkEach_pending.trans (s.stepTogether_pending l _))
    · rw [hX, hY, State.executed_noPark hup (htgt ▸ hne)]
      exact ⟨hgX, hgY⟩
    · rw [hX, hY]
      refine State.parkEach_asleep _ hup ?_
      obtain ⟨-, -, -, hparked⟩ := (s.lane l).executeStep_target l t (hmay l hself (.inl hfold)) htgt.symm rfl
      rw [hstep l hself]
      exact (hparked hpark).st
    · have hne : tgt ≠ stPark := by rcases habove with rfl | rfl <;> decide
      rw [State.executed_noPark hup (htgt ▸ hne), State.comeDown_not _ ?_, hstages]
      by_cases hl : (s.lane l).mayExecute
      · obtain ⟨hdrive, hArm, -, -⟩ := (s.lane l).executeStep_target l t hl htgt.symm rfl
        rw [hstep l hself]
        refine .inr ?_
        rcases habove with hx | hx
        · rw [(hdrive hx).2.1]; decide
        · rw [(hArm hx).1]; decide
      · rw [hstep l hself, LaneSt.executeStep_not (L := (s.lane l).tick t) hl]
        exact (Nat.eq_or_lt_of_le (of_decide_eq_true hup)).imp_left Eq.symm
    · have hne' : tgt ≠ stPark := hx ▸ by decide
      obtain ⟨-, -, hstandby, -⟩ := (s.lane l).executeStep_target l t (hmay l hself hfold) htgt.symm rfl
      have hst : ((s.executed l t).lane l).st = stStandby := by
        rw [hstep l hself]
        exact (hstandby hx).2.1.st
      intro g
      rw [State.executed_noPark hup (htgt ▸ hne'), State.comeDown, if_pos ⟨hne, hst.le⟩]
      rw [State.restStages_stage]
      exact congrArg (fun x => (nth x (stgIx g)).deEnergise) hstages
    · rw [hlane, State.parkEach_lane]
      refine ⟨fun hk => (State.executed_lane k).trans (if_neg (by rw [hk]; decide)), fun hk hfold => ?_⟩
      obtain ⟨-, -, -, htgt'⟩ := State.inStep_same hup hk
      obtain ⟨hdrive, hArm, hstandby, hpark⟩ := (s.lane k).executeStep_target k t (hmay k hk hfold) (htgt'.trans htgt.symm) rfl
      rw [hstep k hk]
      refine ⟨fun hx => ?_, fun hx hst => ?_, fun hx => ?_, fun hx => ?_⟩
      · obtain ⟨hkeeps, hst, hdone⟩ := hdrive hx
        exact ⟨hkeeps, hst, hdone.phase, hdone.result⟩
      · obtain ⟨hst', hdone, hkeeps⟩ := hArm hx
        exact ⟨hkeeps hst, hst', hdone.phase, hdone.result⟩
      · obtain ⟨hkeeps, hrest, hdone⟩ := hstandby hx
        exact ⟨hkeeps, hrest.st, hdone.phase, hrest.en, hrest.freq, hrest.claims⟩
      · exact ⟨(hpark hx).st, (hpark hx).sys, (hpark hx).regulator, (hpark hx).bias⟩

end Sys2Proof.Machine

/-! ## Requests for a state, and FOLD (R45, R61, R70, R71, R77, R78, R88, R104, R283) -/
namespace Sys2Proof.Machine

/-! ### A request (R70, R71) -/

section
variable (L : LaneSt) {tgt : Nat}

theorem LaneSt.request_fold : L.request stFold = { L with sys := { L.sys with fold := true } } := rfl

theorem LaneSt.request_refused (h : tgt = stOff ∨ stFold < tgt ∨ (L.st = stFold ∧ tgt ≠ stPark ∧ tgt ≠ stFold)) :
    L.request tgt = L.report rRefused 0x05 := by
  have hne : tgt ≠ stFold := by
    rcases h with h | h | ⟨-, -, h⟩
    · rw [h]; decide
    · exact h.ne'
    · exact h
  exact (if_neg hne).trans (if_pos (h.imp_right (Or.imp_right fun hx => ⟨hx.1, hx.2.1⟩)))

/-- Names a state that the lane may carry. -/
def LaneSt.mayCarry (tgt : Nat) : Prop := tgt ≠ stOff ∧ tgt < stFold ∧ (L.st ≠ stFold ∨ tgt = stPark)

variable {L}

theorem LaneSt.request_first (h : L.mayCarry tgt) (hwant : L.sys.want = none) : L.request tgt =
    if L.late tgt then { L with sys := { L.sys with recent := none } } else { L with sys := { L.sys with want := some tgt } } := by
  obtain ⟨hoff, hlt, hst⟩ := h
  rw [LaneSt.request, if_neg (by omega), if_neg (by omega), hwant]

theorem LaneSt.request_second (h : L.mayCarry tgt) {w : Nat} (hwant : L.sys.want = some w) : L.request tgt =
    if w = tgt then L else { L with sys := { L.sys with want := some (min w tgt) } }.report rReplaced := by
  obtain ⟨hoff, hlt, hst⟩ := h
  rw [LaneSt.request, if_neg (by omega), if_neg (by omega), hwant]

theorem LaneSt.request_late (h : L.mayCarry tgt) (hwant : L.sys.want = none) (hlate : L.late tgt = true) :
    L.keeps [.sys] (L.request tgt) ∧ (L.request tgt).sys.want = none := by
  rw [request_first h hwant, if_pos hlate]
  exact ⟨(L.frame_sys _).1, hwant⟩

/-- The lower of two targets is carried. -/
theorem LaneSt.request_carried (h : L.mayCarry tgt) (hnew : L.sys.want.isSome = true ∨ L.late tgt = false) :
    L.keeps [.regs, .sys] (L.request tgt) ∧ L.keepsRegs [0x4000000C] (L.request tgt) ∧
      (L.request tgt).sys.want = some (match L.sys.want with | none => tgt | some w => min w tgt) := by
  cases hwant : L.sys.want with
  | none =>
    have hlate : ¬ L.late tgt = true := by rw [hnew.resolve_left (by rw [hwant]; decide)]; decide
    rw [request_first h hwant, if_neg hlate]
    exact ⟨(frame_mono (L.frame_sys _) (by decide)).1, keepsRegs_same rfl, rfl⟩
  | some w =>
    rw [request_second h hwant]
    split
    case isTrue hw =>
      subst hw
      exact ⟨(L.frame_refl _).1, L.keepsRegs_refl _, hwant.trans (congrArg some (Nat.min_self w).symm)⟩
    case isFalse hw =>
      exact ⟨(frame_step (report_frame _ _ _ _) (by decide) (frame_mono (L.frame_sys _) (by decide))).1,
        keepsRegs_trans (report_regs _ _ _ _) (keepsRegs_same rfl), rfl⟩

end

/-! ### FOLD preempts (R70, R78) -/

section
variable (L : LaneSt)

theorem LaneSt.dropPending_regs : L.keepsRegs [0x40000004, 0x4000000C] L.dropPending :=
  keepsRegs_ite (keepsRegs_trans (keepsRegs_mono (report_regs _ _ _ _) (by decide)) (L.wr_keepsRegs _ _ (by decide))) (L.keepsRegs_refl _)

/-- The slot of the pending request is empty, and the phase as it was. -/
theorem LaneSt.dropPending_drops : L.dropPending.on Reg.SYS_STATE_PEND_VALID = false ∧
    L.dropPending.rd Reg.SYS_STATE_PHASE = L.rd Reg.SYS_STATE_PHASE := by
  unfold LaneSt.dropPending
  split
  case isTrue h =>
    have hrep := (L.put Reg.SYS_STATE_PEND_VALID false).report_regs rReplaced 0 0x1F
    constructor
    · rw [LaneSt.on, rd_of_keepsRegs hrep _ (by decide)]
      exact L.on_put_self _ _ (by decide) (by decide)
    · exact (rd_of_keepsRegs hrep _ (by decide)).trans (L.rd_wr_apart _ _ _ (by decide))
  case isFalse h => exact ⟨Bool.eq_false_iff.mpr h, rfl⟩

/-- The transition to ARM gives up its clock and bias. -/
def LaneSt.disarm : LaneSt := if L.arming then L.clockDown 0 else L

/-- The transition in flight is over. -/
def LaneSt.stopTransition : LaneSt := if L.idle then L else (L.wr Reg.SYS_STATE_PHASE 0).report rPreempted

theorem LaneSt.preempt_eq : L.preempt = L.disarm.stopTransition.dropPending := rfl

theorem LaneSt.disarm_regs : L.keepsRegs [0x40000024, 0x40000028] L.disarm := keepsRegs_ite (L.clockDown_regs 0) (L.keepsRegs_refl _)

theorem LaneSt.stopTransition_regs : L.keepsRegs [0x40000004, 0x4000000C] L.stopTransition :=
  keepsRegs_ite (L.keepsRegs_refl _)
    (keepsRegs_trans (keepsRegs_mono (report_regs _ _ _ _) (by decide)) (L.wr_keepsRegs _ _ (by decide)))

theorem LaneSt.stopTransition_phase : L.stopTransition.rd Reg.SYS_STATE_PHASE = 0 := by
  unfold LaneSt.stopTransition
  split
  case isTrue h => exact beq_iff_eq.mp h
  case isFalse h => exact (rd_of_keepsRegs (report_regs _ _ _ _) _ (by decide)).trans (L.rd_wr_self _ _ (by decide))

theorem LaneSt.preempt_regs : L.keepsRegs [0x40000004, 0x4000000C, 0x40000024, 0x40000028] L.preempt :=
  keepsRegs_trans (keepsRegs_mono (dropPending_regs _) (by decide)) (keepsRegs_trans (keepsRegs_mono (stopTransition_regs _) (by decide))
    (keepsRegs_mono L.disarm_regs (by decide)))

theorem LaneSt.preempt_idle : L.preempt.rd Reg.SYS_STATE_PHASE = 0 ∧ L.preempt.on Reg.SYS_STATE_PEND_VALID = false :=
  ⟨(dropPending_drops _).2.trans (stopTransition_phase _), (dropPending_drops _).1⟩

theorem LaneSt.preempt_clock (h : L.arming = true) : L.preempt.rd Reg.SYS_CLK_STAT_CORE_FREQ = 0 ∧ L.preempt.rd Reg.SYS_BIAS_BIAS = 0 := by
  have hregs : (L.clockDown 0).keepsRegs [0x40000004, 0x4000000C] L.preempt := by
    rw [LaneSt.preempt_eq, LaneSt.disarm, if_pos h]
    exact keepsRegs_trans (dropPending_regs _) (stopTransition_regs _)
  obtain ⟨hfreq, hbias⟩ := L.clockDown_zero
  exact ⟨(rd_of_keepsRegs hregs _ (by decide)).trans hfreq, (rd_of_keepsRegs hregs _ (by decide)).trans hbias⟩

/-! ### The slice and the session end (R77, R104) -/

/-- A slice that ends with a right restore. -/
theorem LaneSt.abortSlice_ends : L.frame [.regs, .chn] (L.abortSlice true) ∧ L.keepsRegs [0x400D0008] (L.abortSlice true) ∧
    (L.abortSlice true).chn.active = false := by
  unfold LaneSt.abortSlice
  split
  case isTrue h =>
    exact ⟨frame_step (frame_chn _ _) (by decide) (frame_mono (frame_seq (wr_frame _ _ _) (L.wr_frame _ _)) (by decide)),
      keepsRegs_of_regs (M := (L.wr Reg.CHN_LAST_RESULT 4).wr Reg.CHN_LAST_REASON 3) rfl
        (keepsRegs_wr (by decide) (L.wr_keepsRegs _ _ (by decide))), rfl⟩
  case isFalse h => exact ⟨L.frame_refl _, L.keepsRegs_refl _, Bool.eq_false_iff.mpr h⟩

/-- With no session open there is none afterwards; an open one ends. -/
theorem LaneSt.closeSession_none : L.closeSession.reg 0x400F000C = 0#32 := by
  unfold LaneSt.closeSession
  extract_lets id mine A B busy C D
  split
  case isTrue h => exact h
  case isFalse h =>
    have hC : C.reg 0x400F000C = 0#32 := (LaneSt.reg_setReg_ne _ _ _ _ (by decide)).trans
      ((LaneSt.reg_setReg_ne _ _ _ _ (by decide)).trans (B.reg_setReg_self _ _))
    have hD : D.reg 0x400F000C = 0#32 := hC
    exact (D.reg_setReg_ne 0x400E000C 0x400F000C _ (by decide)).trans hD

theorem LaneSt.endSession_ends : L.keepsRegs sessionRegs L.endSession ∧ (L.mbx.asked = [] → L.endSession.reg 0x400F000C = 0#32) := by
  unfold LaneSt.endSession
  refine ⟨keepsRegs_ite L.closeSession_regs (keepsRegs_same rfl), fun h => ?_⟩
  rw [if_pos (by rw [h]; rfl)]
  exact L.closeSession_none

/-! ### FOLD (R61) -/

/-- What FOLD ends: the transition in flight, a slice, the session. -/
def LaneSt.foldEnds : LaneSt := (L.preempt.abortSlice true).endSession

theorem LaneSt.foldEnds_frame : L.frame [.regs, .sys, .chn, .mbx, .sec] L.foldEnds :=
  frame_step (endSession_frame _) (by decide) (frame_step (abortSlice_ends _).1 (by decide) (frame_mono L.preempt_frame (by decide)))

theorem LaneSt.foldEnds_regs : L.preempt.keepsRegs [0x400D0008, 0x400E, 0x400F] L.foldEnds :=
  keepsRegs_trans (keepsRegs_mono (endSession_ends _).1 (by decide)) (keepsRegs_mono (abortSlice_ends _).2.1 (by decide))

theorem LaneSt.foldEnds_chn : L.foldEnds.chn.active = false :=
  (congrArg ChnSt.active ((endSession_frame _).1 .chn (by decide))).trans (abortSlice_ends _).2.2

theorem LaneSt.foldEnds_session (h : L.mbx.asked = []) : L.foldEnds.reg 0x400F000C = 0#32 := by
  have hmbx : (L.preempt.abortSlice true).mbx = L.mbx :=
    ((abortSlice_ends _).1.1 .mbx (by decide)).trans (L.preempt_frame.1 .mbx (by decide))
  exact (endSession_ends _).2 (by rw [hmbx]; exact h)

/-- The lane in FOLD, before its safe stop. -/
def LaneSt.foldMark : LaneSt :=
  let M := (L.wr Reg.SYS_STATE_MODULE stFold).wr Reg.SYS_STATE_TARGET stFold
  { M with sys := { M.sys with fold := true, folded := true, want := none }, safe := { M.safe with lone := false } }

theorem LaneSt.foldMark_frame : L.frame [.regs, .sys, .safe] L.foldMark :=
  frame_step (frame_sys_safe _ _ _) (by decide) (frame_mono (frame_seq (wr_frame _ _ _) (L.wr_frame _ _)) (by decide))

theorem LaneSt.enterFold_eq (l : Lane) : L.enterFold l true = (L.foldEnds.foldMark.foldStop l).driveFaultX := rfl

/-- While a lane carries FOLD it releases FAULT_x (R45). -/
theorem LaneSt.driveFaultX_released (h : L.sys.fold = true) : L.driveFaultX.fc.faultX = false := by
  simp [LaneSt.driveFaultX, h]

/-- What the entry into FOLD makes of the lane `L`. -/
structure LaneSt.Folds (L M : LaneSt) : Prop where
  frame : L.frame [.regs, .sys, .fc, .safe, .chn, .mbx, .sec] M
  regs : L.keepsRegs [0x40000004, 0x4000000C, 0x40000024, 0x40000028, 0x400D0008, 0x400E, 0x400F] M
  st : M.st = stFold
  target : M.rd Reg.SYS_STATE_TARGET = stFold
  phase : M.rd Reg.SYS_STATE_PHASE = 0
  pending : M.on Reg.SYS_STATE_PEND_VALID = false
  faultX : M.fc.faultX = false
  folded : M.sys.folded = true
  want : M.sys.want = none
  slice : M.chn.active = false
  session : L.mbx.asked = [] → M.reg 0x400F000C = 0#32
  clock : L.arming = true → M.rd Reg.SYS_CLK_STAT_CORE_FREQ = 0 ∧ M.rd Reg.SYS_BIAS_BIAS = 0

theorem LaneSt.enterFold_folds (l : Lane) : L.Folds (L.enterFold l true) := by
  rw [LaneSt.enterFold_eq]
  have hstop := L.foldEnds.foldMark.foldStop_frame l
  generalize hM : L.foldEnds.foldMark.foldStop l = M at hstop
  have hregs : M.driveFaultX.regs = ((L.foldEnds.wr Reg.SYS_STATE_MODULE stFold).wr Reg.SYS_STATE_TARGET stFold).regs :=
    (LaneSt.driveFaultX_regs M).trans (hstop.1 .regs (by decide))
  have hsys : M.driveFaultX.sys = L.foldEnds.foldMark.sys := hstop.1 .sys (by decide)
  have hchn : M.driveFaultX.chn = L.foldEnds.chn := hstop.1 .chn (by decide)
  have hmark : L.foldEnds.keepsRegs [0x40000004] M.driveFaultX :=
    keepsRegs_of_regs hregs (keepsRegs_wr (by decide) (LaneSt.wr_keepsRegs _ _ _ (by decide)))
  have hends : L.preempt.keepsRegs [0x40000004, 0x400D0008, 0x400E, 0x400F] M.driveFaultX :=
    keepsRegs_trans (keepsRegs_mono hmark (by decide)) (keepsRegs_mono L.foldEnds_regs (by decide))
  have hidle : ∀ f : Fld, f.addr = 0x40000004 → Reg.SYS_STATE_MODULE.apart f = true → Reg.SYS_STATE_TARGET.apart f = true →
      M.driveFaultX.rd f = L.preempt.rd f := fun f haddr hmod htgt => calc
    M.driveFaultX.rd f = L.foldEnds.rd f := by
      rw [LaneSt.rd_congr hregs, LaneSt.rd_wr_apart _ _ _ _ htgt, LaneSt.rd_wr_apart _ _ _ _ hmod]
    _ = L.preempt.rd f := rd_of_keepsRegs L.foldEnds_regs f (by rw [haddr]; decide)
  obtain ⟨hphase, hpend⟩ := L.preempt_idle
  exact {
    frame := frame_step (driveFaultX_frame _) (by decide) (frame_step hstop (by decide) (frame_step (foldMark_frame _) (by decide)
      (frame_mono L.foldEnds_frame (by decide))))
    regs := keepsRegs_trans (keepsRegs_mono hends (by decide)) (keepsRegs_mono L.preempt_regs (by decide))
    st := by
      rw [LaneSt.st, LaneSt.rd_congr hregs, LaneSt.rd_wr_apart _ _ _ _ (by decide), LaneSt.rd_wr_self _ _ _ (by decide)]
      rfl
    target := by
      rw [LaneSt.rd_congr hregs, LaneSt.rd_wr_self _ _ _ (by decide)]
      rfl
    phase := (hidle _ rfl (by decide) (by decide)).trans hphase
    pending := by
      rw [LaneSt.on, hidle _ rfl (by decide) (by decide)]
      exact hpend
    faultX := M.driveFaultX_released (congrArg SysSt.fold hsys)
    folded := congrArg SysSt.folded hsys
    want := congrArg SysSt.want hsys
    slice := (congrArg ChnSt.active hchn).trans L.foldEnds_chn
    session := fun h => (hmark _ (by decide)).trans (L.foldEnds_session h)
    clock := fun h => ⟨(rd_of_keepsRegs hends _ (by decide)).trans (L.preempt_clock h).1,
      (rd_of_keepsRegs hends _ (by decide)).trans (L.preempt_clock h).2⟩ }

end

/-! ### The commands -/

section
variable {s : State} {l : Lane} {P : LaneSt → Prop}

theorem exec_sysReq (hup : (s.lane l).up = true) {tgt : BitVec 3} (hP : P ((s.lane l).request tgt.toNat)) :
    LaneRuns (.sysReq l 0x5A17 tgt) s l P :=
  laneRuns_onLaneNow (f := fun L => if 0x5A17#16 = 0x5A17#16 then L.request tgt.toNat else L.refuseWrite) rfl hup
    ((if_pos rfl).symm ▸ hP)

theorem exec_sysReq_unkeyed (hup : (s.lane l).up = true) {key : BitVec 16} (hkey : key ≠ 0x5A17) {tgt : BitVec 3}
    (hP : P ((s.lane l).raise 0x0D04)) : LaneRuns (.sysReq l key tgt) s l P :=
  laneRuns_onLaneNow (f := fun L => if key = 0x5A17#16 then L.request tgt.toNat else L.refuseWrite) rfl hup
    ((if_neg hkey).symm ▸ hP)

theorem exec_foldEntry {t : Nat} {crcOk : Bool} (hup : (s.lane l).up = true)
    (hP : P (if (s.lane l).sys.fold = true ∧ (!(s.lane l).sys.folded) = true ∧ (s.lane l).st ≠ stFold
      then ((s.lane l).tick t).enterFold l crcOk else (s.lane l).tick t)) : LaneRuns (.foldEntry l crcOk t) s l P :=
  laneRuns_onLane (f := fun L => if L.sys.fold ∧ !L.sys.folded ∧ L.st ≠ stFold then L.enterFold l crcOk else L) rfl hup hP

end

/-- Settles O11: a request by what the lane carries already, and the entry into FOLD part by part. -/
theorem stateRequestsAndFold : Obligations.StateRequestsAndFold := by
  unfold Obligations.StateRequestsAndFold
  refine ⟨fun s l tgt hup => ⟨fun htgt => ?_, fun h => ?_, fun hoff hlt hst hwant hlate => ?_, fun hoff hlt hst hnew => ?_, fun key hkey => ?_⟩,
    fun s l t hup hfold hfolded => ⟨fun hst => ?_, fun hst c => ?_⟩⟩
  · refine exec_sysReq hup ?_
    rw [htgt, LaneSt.request_fold]
    exact ⟨((s.lane l).frame_sys _).1, rfl⟩
  · refine exec_sysReq hup ?_
    rw [LaneSt.request_refused _ h]
    exact ⟨(LaneSt.report_frame ..).1, LaneSt.report_regs _ _ _ _, LaneSt.report_result _ rRefused 0x05 0x1F⟩
  · exact exec_sysReq hup (LaneSt.request_late ⟨hoff, hlt, hst⟩ hwant hlate)
  · exact exec_sysReq hup (LaneSt.request_carried ⟨hoff, hlt, hst⟩ hnew)
  · exact exec_sysReq_unkeyed hup hkey ⟨LaneSt.raise_reported _ _ _ (by decide), LaneSt.keeps_raise _ _ _, LaneSt.raise_regs _ _ _ (by decide)⟩
  · refine exec_foldEntry hup ?_
    rw [if_pos ⟨hfold, by rw [hfolded]; rfl, hst⟩]
    have h := ((s.lane l).tick t).enterFold_folds l
    exact ⟨LaneSt.keeps_of_tick (by decide) (LaneSt.frame_mono h.frame (by decide)).1, h.regs, h.st, h.target, h.phase, h.pending, h.faultX,
      h.folded, h.want, h.slice, h.session, h.clock⟩
  · refine exec_foldEntry hup ?_
    rw [if_neg fun h => h.2.2 hst]

end Sys2Proof.Machine

/-! ## Churn: slices, coverage, copies and spares (R77, R312 to R322) -/
namespace Sys2Proof.Machine

/-! ### Fields of the Churn controller -/

/-- A field of the Churn controller's block. -/
def Fld.ofChurn (f : Fld) : Prop := f.addr / 65536 = 0x400D

/-- A field of CHN_LAST other than RESULT. -/
def Fld.ofSlice (f : Fld) : Prop := f.addr = 0x400D0008 ∧ Reg.CHN_LAST_RESULT.apart f = true

theorem Fld.ofChurn.apartFromFaults {f : Fld} (h : f.ofChurn) : f.ApartFromFaults := by
  unfold Fld.ofChurn at h
  constructor <;> omega

theorem Fld.ofSlice.ofChurn {f : Fld} (h : f.ofSlice) : f.ofChurn := by rw [Fld.ofChurn, h.1]

/-- Another register than CHN_LAST. -/
theorem Fld.ofSlice.apart {f w : Fld} (h : f.ofSlice) (hw : w.addr ≠ 0x400D0008) : w.apart f = true := by
  simp [h.1, hw.symm]

section
variable (L : LaneSt)

theorem LaneSt.raise_keepsChurn {id : Nat} (d : Nat) (hid : id < 65536) : L.keepsStatus Fld.ofChurn (L.raise id d) :=
  keepsStatus_mono (fun _ hf => hf.apartFromFaults) (L.raise_keepsStatus d hid)

theorem LaneSt.removeStage_keepsChurn (i : Nat) : L.keepsStatus Fld.ofChurn (L.removeStage i) :=
  keepsStatus_mono (fun _ hf => hf.apartFromFaults) (L.removeStage_keepsStatus i)

/-- A counter that saturates. -/
theorem LaneSt.rd_incSat_self {f : Fld} (h : f.lo + f.w ≤ 32) : (L.incSat f).rd f = min (L.rd f + 1) (2 ^ f.w - 1) := by
  have hpos : 0 < 2 ^ f.w := Nat.two_pow_pos _
  rw [LaneSt.incSat, LaneSt.rd_wr_self _ _ _ h]
  exact Nat.mod_eq_of_lt (by omega)

/-! ### A failed copy (R318, R321) -/

theorem LaneSt.openMask_regs (b : Nat) : L.keepsRegs [0x40010018] (L.openMask b) :=
  keepsRegs_of_regs (M := L.put (shadowFld.bit b) true) rfl
    (L.wr_keepsRegs (shadowFld.bit b) _ (show covered _ 0x40010018 = true by decide))

/-- A stage out of service: its marks are written in this order. -/
theorem LaneSt.removeStage_marks (i : Nat) : ∃ M : LaneSt, M.regs = L.regs ∧
    L.removeStage i = ((M.put (Reg.MEAS_STAT_OUT_OF_SERVICE.bit i) true).put (Reg.COM_STAT_OUT.bit i) true).openMask (8 + i) :=
  ⟨{ L with meas := { L.meas with removed := setNth L.meas.removed i true } }, rfl, rfl⟩

/-- After the mark in MEAS_STAT only COM_STAT and FC_SHADOW are written. -/
theorem LaneSt.removeStage_later (M : LaneSt) (i : Nat) :
    M.keepsRegs [0x40010018, 0x40060000] ((M.put (Reg.COM_STAT_OUT.bit i) true).openMask (8 + i)) :=
  keepsRegs_trans (keepsRegs_mono (openMask_regs _ _) (by decide))
    (M.wr_keepsRegs (Reg.COM_STAT_OUT.bit i) _ (show covered _ 0x40060000 = true by decide))

theorem LaneSt.removeStage_regs (i : Nat) : L.keepsRegs [0x40010018, 0x40040004, 0x40060000] (L.removeStage i) := by
  obtain ⟨M, hM, heq⟩ := L.removeStage_marks i
  have hmark : L.keepsRegs [0x40040004] (M.put (Reg.MEAS_STAT_OUT_OF_SERVICE.bit i) true) :=
    keepsRegs_wr (f := Reg.MEAS_STAT_OUT_OF_SERVICE.bit i) (show covered _ 0x40040004 = true by decide) (keepsRegs_same hM)
  rw [heq]
  exact keepsRegs_trans (keepsRegs_mono (removeStage_later _ i) (by decide)) (keepsRegs_mono hmark (by decide))

/-- A removal leaves the counts of the collector's classes alone. -/
theorem LaneSt.removeStage_reported {L M : LaneSt} {id d : Nat} (i : Nat) (hid : id < 65536) (h : L.reported M id d) :
    L.reported (M.removeStage i) id d := by
  have hrd : ∀ f : Fld, f.addr = 0x40010000 + (0x40 + 4 * (id / 256)) → (M.removeStage i).rd f = M.rd f := fun f hf =>
    rd_of_keepsRegs (M.removeStage_regs i) f (by simp [covered, hf]; omega)
  unfold LaneSt.reported at h ⊢
  rwa [hrd (Reg.FC_CNT_COUNT (id / 256)) rfl, hrd (Reg.FC_CNT_CONSEQ (id / 256)) rfl]

theorem LaneSt.removeStage_outOfService {i : Nat} (hi : i < 3) :
    (L.removeStage i).on (Reg.MEAS_STAT_OUT_OF_SERVICE.bit i) = true := by
  obtain ⟨M, -, heq⟩ := L.removeStage_marks i
  rw [heq, LaneSt.on, rd_of_keepsRegs (removeStage_later _ i) (Reg.MEAS_STAT_OUT_OF_SERVICE.bit i)
    (show covered _ 0x40040004 = false by decide)]
  exact M.on_put_self _ _ (show 9 + i + 1 ≤ 32 by omega) Nat.one_pos

/-- What the failed copy of stage `i` makes of the lane. -/
structure LaneSt.FailsCopy (L M : LaneSt) (i : Nat) : Prop where
  reads : L.keepsStatus (fun f => f.ofChurn ∧ Reg.CHN_UNITS_COPY_FAIL.apart f = true) M
  shown : M.on Reg.CHN_UNITS_COPY_FAIL = true
  told : L.reported M 0x0C06 i
  copy : nth M.meas.copyFail i = true
  removed : i < 3 → M.on (Reg.MEAS_STAT_OUT_OF_SERVICE.bit i) = true

/-- The failed copy is noted last. -/
def LaneSt.noteCopy (i : Nat) : LaneSt := { L with meas := { L.meas with copyFail := setNth L.meas.copyFail i true } }

theorem LaneSt.copyFailed_eq (i : Nat) :
    L.copyFailed i = (((L.put Reg.CHN_UNITS_COPY_FAIL true).raise 0x0C06 i).removeStage i).noteCopy i := rfl

theorem LaneSt.copyFailed_fails (i : Nat) : L.FailsCopy (L.copyFailed i) i := by
  have hput := L.on_put_self Reg.CHN_UNITS_COPY_FAIL true (by decide) (by decide)
  have hmark : L.keepsStatus (fun f => f.ofChurn ∧ Reg.CHN_UNITS_COPY_FAIL.apart f = true) (L.put Reg.CHN_UNITS_COPY_FAIL true) :=
    keepsStatus_wr (fun _ hf => hf.2) L.keepsStatus_refl
  have htold : L.reported (((L.put Reg.CHN_UNITS_COPY_FAIL true).raise 0x0C06 i).removeStage i) 0x0C06 i :=
    removeStage_reported i (by decide) (reported_before (rs := [0x400D0014]) (by decide) (by decide)
      (L.wr_keepsRegs _ _ (by decide)) rfl (raise_reported _ _ _ (by decide)))
  have hrest : (L.put Reg.CHN_UNITS_COPY_FAIL true).keepsStatus Fld.ofChurn
      (((L.put Reg.CHN_UNITS_COPY_FAIL true).raise 0x0C06 i).removeStage i) :=
    keepsStatus_trans (removeStage_keepsChurn _ i) (raise_keepsChurn _ i (by decide))
  have hremoved : i < 3 → (((L.put Reg.CHN_UNITS_COPY_FAIL true).raise 0x0C06 i).removeStage i).on
      (Reg.MEAS_STAT_OUT_OF_SERVICE.bit i) = true := fun hi => removeStage_outOfService _ hi
  rw [LaneSt.copyFailed_eq]
  generalize ((L.put Reg.CHN_UNITS_COPY_FAIL true).raise 0x0C06 i).removeStage i = M at htold hrest hremoved
  have hshown : M.on Reg.CHN_UNITS_COPY_FAIL = true := by
    rw [LaneSt.on, hrest.2 Reg.CHN_UNITS_COPY_FAIL rfl]
    exact hput
  exact {
    reads := keepsStatus_of_regs (M := M) rfl rfl (keepsStatus_trans (keepsStatus_mono (fun _ hf => hf.1) hrest) hmark)
    shown := hshown
    told := htold
    copy := nth_setNth_self _ i true
    removed := hremoved }

end

/-! ### The slice begins its end (R315) -/

section
variable (L : LaneSt)

theorem LaneSt.sliceSave_regs (p : Nat) : L.keepsRegs [0x400D0018] (L.sliceSave p) := by
  have hmem : ∀ (M N : LaneSt), M.frame [.mem] N → N.regs = M.regs := fun M N h => h.1 .regs (by decide)
  unfold LaneSt.sliceSave
  extract_lets es vals A arch B
  have hA : A.regs = L.regs := hmem _ _ (frame_foldl (fun _ _ => setWord_frame _ _ _) _ _)
  have hB : B.regs = A.regs := by
    simp only [B]
    split
    · exact hmem _ _ (setWords_frame _ _ _)
    · exact (frame_shepWords _ _ _).1 .regs (by decide)
    · rfl
  exact keepsRegs_setReg (by decide) (keepsRegs_same (hB.trans hA))

/-- The engine's save, and the slice named in CHN_LAST. -/
def LaneSt.sliceMark (p seg : Nat) : LaneSt := ((L.sliceSave p).wr Reg.CHN_LAST_PARTITION p).wr Reg.CHN_LAST_SEGMENT seg

/-- No slice is under way; the one in this slot was of partition `p`. -/
def LaneSt.sliceOver (p : Nat) : LaneSt := L.updChn fun c => { c with active := false, sliced := some (L.meas.slot, p) }

/-- The lane `M` has come from `L` to the end of a slice of partition `p`, in `d` units of 10 ns, not yet judged. -/
structure LaneSt.Begun (L M : LaneSt) (p d : Nat) : Prop where
  frame : L.frame [.regs, .mem, .shepMem, .chn] M
  regs : L.keepsRegs [0x400D0008, 0x400D0018] M
  chn : M.chn = { L.chn with active := false, sliced := some (L.meas.slot, p) }
  partition : M.rd Reg.CHN_LAST_PARTITION = p
  duration : M.rd Reg.CHN_LAST_DURATION = d

theorem LaneSt.sliceMark_regs (p seg : Nat) : L.keepsRegs [0x400D0008, 0x400D0018] (L.sliceMark p seg) :=
  keepsRegs_wr (by decide) (keepsRegs_wr (by decide) (keepsRegs_mono (L.sliceSave_regs p) (by decide)))

theorem LaneSt.sliceMark_frame (p seg : Nat) : L.frame [.regs, .mem, .shepMem] (L.sliceMark p seg) :=
  frame_step (wr_frame _ _ _) (by decide) (frame_step (wr_frame _ _ _) (by decide) (L.sliceSave_frame p))

theorem LaneSt.sliceMark_partition {p : Nat} (hp : p < 8) (seg : Nat) : (L.sliceMark p seg).rd Reg.CHN_LAST_PARTITION = p :=
  (rd_wr_apart _ _ _ _ (by decide)).trans ((rd_wr_self _ _ _ (by decide)).trans (Nat.mod_eq_of_lt hp))

variable {L}

theorem LaneSt.sliceOver_begun {M : LaneSt} {p d : Nat} (hframe : L.frame [.regs, .mem, .shepMem] M)
    (hregs : L.keepsRegs [0x400D0008, 0x400D0018] M) (hp : M.rd Reg.CHN_LAST_PARTITION = p) (hd : M.rd Reg.CHN_LAST_DURATION = d) :
    L.Begun (M.sliceOver p) p d := by
  have hchn : M.chn = L.chn := hframe.1 .chn (by decide)
  have hmeas : M.meas = L.meas := hframe.1 .meas (by decide)
  exact {
    frame := frame_step (updChn_frame _ _) (by decide) (frame_mono hframe (by decide))
    regs := keepsRegs_of_regs (M := M) rfl hregs
    chn := by rw [← hchn, ← hmeas]; rfl
    partition := hp
    duration := hd }

/-- A field of CHN_LAST beside these is written. -/
theorem LaneSt.Begun.wr {M : LaneSt} {p d : Nat} (h : L.Begun M p d) (f : Fld) (v : Nat) (haddr : covered [0x400D0008, 0x400D0018] f.addr = true)
    (hp : f.apart Reg.CHN_LAST_PARTITION = true) (hd : f.apart Reg.CHN_LAST_DURATION = true) : L.Begun (M.wr f v) p d where
  frame := frame_step (wr_frame _ _ _) (by decide) h.frame
  regs := keepsRegs_wr haddr h.regs
  chn := h.chn
  partition := (M.rd_wr_apart _ _ _ hp).trans h.partition
  duration := (M.rd_wr_apart _ _ _ hd).trans h.duration

/-- A report of the lane `M` is one of the lane before the slice. -/
theorem LaneSt.Begun.reported {M N : LaneSt} {p d id x : Nat} (h : L.Begun M p d) (hid : id < 65536) (hrep : M.reported N id x) :
    L.reported N id x :=
  reported_before (by decide) hid h.regs (h.frame.1 .fc (by decide)) hrep

end

/-! ### What every judgement of a slice keeps -/

/-- CHN_LAST but for RESULT, and what says that the slice is over, are the same in both lanes. -/
structure LaneSt.InSlice (L M : LaneSt) : Prop where
  frame : L.frame (.chn :: .core :: .meas :: faultParts) M
  last : L.keepsStatus Fld.ofSlice M
  active : M.chn.active = L.chn.active
  sliced : M.chn.sliced = L.chn.sliced

namespace LaneSt.InSlice
variable {L M N : LaneSt}

theorem refl (L : LaneSt) : L.InSlice L := ⟨L.frame_refl _, L.keepsStatus_refl, rfl, rfl⟩

theorem trans (h : L.InSlice M) (h1 : M.InSlice N) : L.InSlice N :=
  ⟨frame_seq h1.frame h.frame, keepsStatus_trans h1.last h.last, h1.active.trans h.active, h1.sliced.trans h.sliced⟩

/-- A register is written, of CHN_LAST only RESULT. -/
theorem wr (L : LaneSt) (f : Fld) (v : Nat) (h : f = Reg.CHN_LAST_RESULT ∨ f.addr ≠ 0x400D0008) : L.InSlice (L.wr f v) where
  frame := frame_mono (L.wr_frame f v) (by decide)
  last := by
    refine keepsStatus_wr (fun g hg => ?_) L.keepsStatus_refl
    rcases h with rfl | h
    · exact hg.2
    · exact hg.apart h
  active := rfl
  sliced := rfl

theorem raise (L : LaneSt) {id : Nat} (d : Nat) (hid : id < 65536) : L.InSlice (L.raise id d) where
  frame := frame_mono (L.raise_frame id d) (by decide)
  last := keepsStatus_mono (fun _ hf => hf.ofChurn) (L.raise_keepsChurn d hid)
  active := congrArg ChnSt.active ((L.raise_frame id d).1 .chn (by decide))
  sliced := congrArg ChnSt.sliced ((L.raise_frame id d).1 .chn (by decide))

theorem updChn (L : LaneSt) (f : ChnSt → ChnSt) (ha : (f L.chn).active = L.chn.active) (hs : (f L.chn).sliced = L.chn.sliced) :
    L.InSlice (L.updChn f) :=
  ⟨frame_mono (L.updChn_frame f) (by decide), keepsStatus_of_regs (M := L) rfl rfl L.keepsStatus_refl, ha, hs⟩

theorem copyFailed (L : LaneSt) (i : Nat) : L.InSlice (L.copyFailed i) where
  frame := frame_mono (L.copyFailed_frame i) (by decide)
  last := keepsStatus_mono (fun _ hf => ⟨hf.ofChurn, hf.apart (by decide)⟩) (L.copyFailed_fails i).reads
  active := congrArg ChnSt.active ((L.copyFailed_frame i).1 .chn (by decide))
  sliced := congrArg ChnSt.sliced ((L.copyFailed_frame i).1 .chn (by decide))

theorem ite {c : Prop} [Decidable c] (h : L.InSlice M) (h' : L.InSlice N) : L.InSlice (if c then M else N) := by
  split <;> assumption

end LaneSt.InSlice

/-! ### The restore (R315, R320) -/

section
variable (L : LaneSt) (p : Nat) (zeroOk keyOk : Bool)

/-- The restore with its CRC and, in partition 6, the reload of the keys. -/
def LaneSt.sliceClose (crcOk : Bool) : LaneSt :=
  let M := (L.sliceRestore p).raiseIf (!crcOk) 0x0C05 p
  if p = 6 then M.keyReload zeroOk keyOk else M

/-- The marks of a key reload. -/
def LaneSt.keyMarks : LaneSt := ((L.put Reg.CHN_KEY_ZERO_OK zeroOk).put Reg.CHN_KEY_RELOAD_OK keyOk).inc Reg.CHN_KEY_RELOADS

theorem LaneSt.keyMarks_inSlice : L.InSlice (L.keyMarks zeroOk keyOk) :=
  .trans (.trans (.wr L _ _ (.inr (by decide))) (.wr _ _ _ (.inr (by decide)))) (.wr _ _ _ (.inr (by decide)))

theorem LaneSt.keyMarks_regs : L.keepsRegs [0x400D001C] (L.keyMarks zeroOk keyOk) :=
  keepsRegs_wr (by decide) (keepsRegs_wr (by decide) (L.wr_keepsRegs _ _ (by decide)))

theorem LaneSt.keyReload_inSlice : L.InSlice (L.keyReload zeroOk keyOk) :=
  .trans (L.keyMarks_inSlice zeroOk keyOk) (.ite (.raise _ _ (by decide)) (.refl _))

theorem LaneSt.keyReload_regs : L.keepsRegs (0x400D001C :: faultRegs) (L.keyReload zeroOk keyOk) :=
  keepsRegs_trans (keepsRegs_mono (raiseIf_regs _ _ _ _ (by decide)) (by decide)) (keepsRegs_mono (L.keyMarks_regs zeroOk keyOk) (by decide))

theorem LaneSt.keyReload_zeroOk : (L.keyReload zeroOk true).on Reg.CHN_KEY_ZERO_OK = zeroOk := by
  have hmark : (L.keyMarks zeroOk true).rd Reg.CHN_KEY_ZERO_OK = (L.put Reg.CHN_KEY_ZERO_OK zeroOk).rd Reg.CHN_KEY_ZERO_OK :=
    (rd_wr_apart _ _ _ _ (by decide)).trans (rd_wr_apart _ _ _ _ (by decide))
  exact (congrArg (· != 0) hmark).trans (L.on_put_self _ _ (by decide) (by decide))

theorem LaneSt.sliceRestore_inSlice : L.InSlice (L.sliceRestore p) := by
  have h := L.sliceRestore_frame p
  exact ⟨frame_mono h (by decide), keepsStatus_of_regs (M := L) (h.1 .regs (by decide)) (congrArg MeasSt.lost (h.1 .meas (by decide)))
    L.keepsStatus_refl, congrArg ChnSt.active (h.1 .chn (by decide)), congrArg ChnSt.sliced (h.1 .chn (by decide))⟩

theorem LaneSt.sliceClose_inSlice (crcOk : Bool) : L.InSlice (L.sliceClose p zeroOk keyOk crcOk) :=
  have h : L.InSlice ((L.sliceRestore p).raiseIf (!crcOk) 0x0C05 p) :=
    .trans (L.sliceRestore_inSlice p) (.ite (.raise _ _ (by decide)) (.refl _))
  .ite (h.trans (keyReload_inSlice _ _ _)) h

theorem LaneSt.sliceClose_regs (crcOk : Bool) : L.keepsRegs (0x400D001C :: faultRegs) (L.sliceClose p zeroOk keyOk crcOk) :=
  have h : L.keepsRegs (0x400D001C :: faultRegs) ((L.sliceRestore p).raiseIf (!crcOk) 0x0C05 p) :=
    keepsRegs_trans (keepsRegs_mono (raiseIf_regs _ _ _ _ (by decide)) (by decide))
      (keepsRegs_same ((L.sliceRestore_frame p).1 .regs (by decide)))
  keepsRegs_ite (keepsRegs_trans (keyReload_regs _ _ _) h) h

theorem LaneSt.sliceClose_frame (crcOk : Bool) : L.frame (.core :: faultParts) (L.sliceClose p zeroOk keyOk crcOk) :=
  have h : L.frame (.core :: faultParts) ((L.sliceRestore p).raiseIf (!crcOk) 0x0C05 p) :=
    frame_step (raiseIf_frame _ _ _ _) (by decide) (frame_mono (L.sliceRestore_frame p) (by decide))
  frame_ite (frame_step (keyReload_frame _ _ _) (by decide) h) h

/-- A restore that does not match is reported (R316). -/
theorem LaneSt.sliceClose_reported (hp : p ≠ 6) : L.reported (L.sliceClose p zeroOk keyOk false) 0x0C05 p := by
  have h := L.sliceRestore_frame p
  rw [LaneSt.sliceClose, if_neg hp]
  exact reported_before (rs := []) (by decide) (by decide) (keepsRegs_same (h.1 .regs (by decide))) (h.1 .fc (by decide))
    (raise_reported _ _ _ (by decide))

/-- A right restore, and a right reload, report nothing. -/
theorem LaneSt.sliceClose_quiet (hkey : keyOk = true ∨ p ≠ 6) : L.keepsRegs [0x400D001C] (L.sliceClose p zeroOk keyOk true) := by
  have hrestore : L.keepsRegs [0x400D001C] (L.sliceRestore p) := keepsRegs_same ((L.sliceRestore_frame p).1 .regs (by decide))
  unfold LaneSt.sliceClose
  split
  case isTrue hp =>
    rw [hkey.resolve_right (fun h => h hp)]
    exact keepsRegs_trans (keyMarks_regs _ zeroOk true) hrestore
  case isFalse hp => exact hrestore

end

/-! ### A difference, and a pass (R319, R321, R322) -/

section
variable (L : LaneSt) (l : Lane) {p seg : Nat}

/-- The segment is to be retried. -/
def LaneSt.segRetry (p seg : Nat) : LaneSt :=
  ((L.wr Reg.CHN_LAST_RESULT 2).incSat Reg.CHN_RETRY_RETRIES).updChn fun c => { c with missed := c.missed.set p (c.missed.getD p 0 ||| 2 ^ seg) }

/-- The segment has failed. -/
def LaneSt.segFail (p seg : Nat) : LaneSt :=
  if p = 7 then (L.wr Reg.CHN_LAST_RESULT 3).copyFailed (L.copyStage l seg) else (L.wr Reg.CHN_LAST_RESULT 3).raise 0x0C02 p

theorem LaneSt.copyStage_congr {L M : LaneSt} (h : M.rd Reg.CHN_STAT_TK_STAGE = L.rd Reg.CHN_STAT_TK_STAGE) (l : Lane) (seg : Nat) :
    M.copyStage l seg = L.copyStage l seg := by
  rw [LaneSt.copyStage, LaneSt.copyStage, h]

theorem LaneSt.segMiss_eq (p seg : Nat) : L.segMiss l p seg =
    if (L.chn.missed.getD p 0).testBit seg then L.segFail l p seg else L.segRetry p seg := by
  have hstage := copyStage_congr (M := L.wr Reg.CHN_LAST_RESULT 3) (L.rd_wr_apart _ _ _ (by decide)) l seg
  rw [LaneSt.segFail, ← hstage]
  rfl

theorem LaneSt.segFail_inSlice (p seg : Nat) : L.InSlice (L.segFail l p seg) :=
  .trans (.wr L _ 3 (.inl rfl)) (.ite (.copyFailed _ _) (.raise _ _ (by decide)))

theorem LaneSt.segRetry_inSlice (p seg : Nat) : L.InSlice (L.segRetry p seg) :=
  .trans (.trans (.wr L _ 2 (.inl rfl)) (.wr _ _ _ (.inr (by decide)))) (.updChn _ _ rfl rfl)

theorem LaneSt.segMiss_inSlice (p seg : Nat) : L.InSlice (L.segMiss l p seg) :=
  L.segMiss_eq l p seg ▸ .ite (L.segFail_inSlice l p seg) (L.segRetry_inSlice p seg)

theorem LaneSt.segFail_chn (p seg : Nat) : (L.segFail l p seg).chn = L.chn := by
  unfold LaneSt.segFail
  split
  · exact (copyFailed_frame _ _).1 .chn (by decide)
  · exact (raise_frame _ _ _).1 .chn (by decide)

theorem LaneSt.segMiss_passed (p seg : Nat) : (L.segMiss l p seg).chn.passed = L.chn.passed := by
  rw [LaneSt.segMiss_eq]
  split
  · exact congrArg ChnSt.passed (L.segFail_chn l p seg)
  · rfl

/-- A first difference (R319). -/
theorem LaneSt.segRetry_counted (p seg : Nat) : (L.segRetry p seg).rd Reg.CHN_LAST_RESULT = 2 ∧
    (L.segRetry p seg).rd Reg.CHN_RETRY_RETRIES = min (L.rd Reg.CHN_RETRY_RETRIES + 1) (2 ^ Reg.CHN_RETRY_RETRIES.w - 1) := by
  have hregs : (L.segRetry p seg).regs = ((L.wr Reg.CHN_LAST_RESULT 2).incSat Reg.CHN_RETRY_RETRIES).regs := rfl
  rw [LaneSt.rd_congr hregs, LaneSt.rd_congr hregs]
  refine ⟨(rd_wr_apart _ _ _ _ (by decide)).trans (L.rd_wr_self _ _ (by decide)), (rd_incSat_self _ (by decide)).trans ?_⟩
  rw [LaneSt.rd_wr_apart _ _ _ _ (by decide)]

/-- A second difference fails the lane's logic, or the stage's copy (R321). -/
theorem LaneSt.segFail_told (p seg : Nat) : (L.segFail l p seg).rd Reg.CHN_LAST_RESULT = 3 ∧
    if p = 7 then L.reported (L.segFail l p seg) 0x0C06 (L.copyStage l seg) ∧ (L.segFail l p seg).on Reg.CHN_UNITS_COPY_FAIL = true
      else L.reported (L.segFail l p seg) 0x0C02 p := by
  have hresult : (L.wr Reg.CHN_LAST_RESULT 3).rd Reg.CHN_LAST_RESULT = 3 := L.rd_wr_self _ _ (by decide)
  have htold : ∀ {N : LaneSt} {id x : Nat}, id < 65536 → (L.wr Reg.CHN_LAST_RESULT 3).reported N id x → L.reported N id x := fun hid h =>
    reported_before (rs := [0x400D0008]) (by decide) hid (L.wr_keepsRegs _ _ (by decide)) rfl h
  unfold LaneSt.segFail
  split
  case isTrue =>
    have h := (L.wr Reg.CHN_LAST_RESULT 3).copyFailed_fails (L.copyStage l seg)
    exact ⟨(h.reads.2 Reg.CHN_LAST_RESULT ⟨rfl, by decide⟩).trans hresult, htold (by decide) h.told, h.shown⟩
  case isFalse =>
    exact ⟨((raise_keepsChurn _ p (by decide)).2 Reg.CHN_LAST_RESULT rfl).trans hresult,
      htold (by decide) (raise_reported _ _ _ (by decide))⟩

/-- The marks of a cycle that has passed every segment, its length being `ms`. -/
def LaneSt.cycleMarks (ms : Nat) : LaneSt :=
  ((((L.inc Reg.CHN_CYCLE_CYCLES).wr Reg.CHN_CYCLE_LAST_MS ms).wr Reg.CHN_STAT_SLICES 0).put Reg.CHN_STAT_OVERDUE false).wr
    Reg.CHN_RETRY_FORGONE 0

/-- The next cycle starts. -/
def LaneSt.nextCycle : LaneSt :=
  L.updChn fun c => { c with passed := List.replicate 8 0, missed := List.replicate 8 0, since := L.time }

theorem LaneSt.cycleDone_cases (n : Nat) : ∃ k ms, L.cycleDone n = L.wr Reg.CHN_STAT_SLICES k ∨
    L.cycleDone n = ((L.wr Reg.CHN_STAT_SLICES k).cycleMarks ms).nextCycle := by
  unfold LaneSt.cycleDone
  extract_lets k A
  refine ⟨k, min ((A.time - A.chn.since) / 1000000) 0xFFFF, ?_⟩
  split
  · exact .inl rfl
  · exact .inr rfl

theorem LaneSt.cycleMarks_inSlice (ms : Nat) : L.InSlice (L.cycleMarks ms) :=
  .trans (.trans (.trans (.trans (.wr L _ _ (.inr (by decide))) (.wr _ _ _ (.inr (by decide)))) (.wr _ _ _ (.inr (by decide))))
    (.wr _ _ _ (.inr (by decide)))) (.wr _ _ _ (.inr (by decide)))

theorem LaneSt.cycleMarks_regs (ms : Nat) : L.keepsRegs [0x400D0004, 0x400D000C, 0x400D0010] (L.cycleMarks ms) :=
  keepsRegs_wr (by decide) (keepsRegs_wr (by decide) (keepsRegs_wr (by decide) (keepsRegs_wr (by decide) (L.wr_keepsRegs _ _ (by decide)))))

theorem LaneSt.cycleDone_regs (n : Nat) : L.keepsRegs [0x400D0004, 0x400D000C, 0x400D0010] (L.cycleDone n) := by
  obtain ⟨k, ms, h⟩ := L.cycleDone_cases n
  have hcount : L.keepsRegs [0x400D0004, 0x400D000C, 0x400D0010] (L.wr Reg.CHN_STAT_SLICES k) := L.wr_keepsRegs _ _ (by decide)
  rcases h with h | h <;> rw [h]
  · exact hcount
  · exact keepsRegs_of_regs (M := (L.wr Reg.CHN_STAT_SLICES k).cycleMarks ms) rfl (keepsRegs_trans (cycleMarks_regs _ ms) hcount)

theorem LaneSt.cycleDone_inSlice (n : Nat) : L.InSlice (L.cycleDone n) := by
  obtain ⟨k, ms, h⟩ := L.cycleDone_cases n
  have hcount : L.InSlice (L.wr Reg.CHN_STAT_SLICES k) := .wr L _ k (.inr (by decide))
  rcases h with h | h <;> rw [h]
  · exact hcount
  · exact (hcount.trans (cycleMarks_inSlice _ ms)).trans (.updChn _ _ rfl rfl)

theorem LaneSt.segPass_inSlice (p seg : Nat) : L.InSlice (L.segPass p seg) :=
  .trans (.trans (.updChn L _ rfl rfl) (.wr _ _ 1 (.inl rfl))) (cycleDone_inSlice _ _)

theorem LaneSt.segPass_result (p seg : Nat) : (L.segPass p seg).rd Reg.CHN_LAST_RESULT = 1 :=
  (rd_of_keepsRegs (cycleDone_regs _ _) _ (by decide)).trans (rd_wr_self _ _ _ (by decide))

end

/-! ### The end of a slice (R315, R316) -/

section
variable (L : LaneSt) (l : Lane) {p seg : Nat} {zero sig crc key : Bool}

/-- The turn is at its end for the rest of the basic cycle. -/
def LaneSt.abortTurn : LaneSt := L.updChn fun c => { c with aborted := some (L.meas.slot / 5) }

/-- FOLD ends the slice with the restore (R77). -/
theorem LaneSt.sliceFold_eq (p : Nat) (zero crc key : Bool) : L.sliceFold p zero crc key =
    (((L.wr Reg.CHN_LAST_RESULT 4).wr Reg.CHN_LAST_REASON 3).sliceClose p zero key crc).abortTurn := rfl

/-- Without scan, or with another signature, the segment is missed. -/
theorem LaneSt.sliceEnd_missed (h : (p != 6 || zero) = false ∨ sig = false) : L.sliceEnd l p seg zero sig crc key =
    ((L.wr Reg.CHN_LAST_REASON (if p != 6 || zero then 0 else 6)).segMiss l p seg).sliceClose p zero key crc := by
  have hmiss : (!(p != 6 || zero) || !sig) = true := by rcases h with h | h <;> simp [h]
  simp only [LaneSt.sliceEnd, LaneSt.sliceClose, hmiss, if_true]

/-- With a right signature, restore and reload the segment is passed. -/
theorem LaneSt.sliceEnd_passed (hscan : (p != 6 || zero) = true) (hsig : sig = true) (hclose : (crc && (p != 6 || key)) = true) :
    L.sliceEnd l p seg zero sig crc key = ((L.wr Reg.CHN_LAST_REASON 0).sliceClose p zero key crc).segPass p seg := by
  simp only [LaneSt.sliceEnd, LaneSt.sliceClose, hscan, hsig, hclose, Bool.not_true, Bool.or_self, Bool.false_eq_true, if_true, if_false]

/-- A failed restore or reload is no pass. -/
theorem LaneSt.sliceEnd_failed (hscan : (p != 6 || zero) = true) (hsig : sig = true) (hclose : (crc && (p != 6 || key)) = false) :
    L.sliceEnd l p seg zero sig crc key = ((L.wr Reg.CHN_LAST_REASON 0).sliceClose p zero key crc).wr Reg.CHN_LAST_RESULT 3 := by
  simp only [LaneSt.sliceEnd, LaneSt.sliceClose, hscan, hsig, hclose, Bool.not_true, Bool.or_self, Bool.false_eq_true, if_true, if_false]

/-- The end of a slice writes REASON, and then only what every judgement may. -/
theorem LaneSt.sliceEnd_inSlice (p seg : Nat) (zero sig crc key : Bool) :
    (L.wr Reg.CHN_LAST_REASON (if p != 6 || zero then 0 else 6)).InSlice (L.sliceEnd l p seg zero sig crc key) := by
  by_cases hmiss : (p != 6 || zero) = false ∨ sig = false
  · rw [L.sliceEnd_missed l hmiss]
    exact (segMiss_inSlice _ l p seg).trans (sliceClose_inSlice _ _ _ _ _)
  · obtain ⟨hscan, hsig⟩ := not_or.mp hmiss
    rw [Bool.not_eq_false] at hscan hsig
    rw [hscan, if_pos rfl]
    by_cases hclose : (crc && (p != 6 || key)) = true
    · rw [L.sliceEnd_passed l hscan hsig hclose]
      exact (sliceClose_inSlice _ _ _ _ _).trans (segPass_inSlice _ _ _)
    · rw [L.sliceEnd_failed l hscan hsig (Bool.not_eq_true _ ▸ hclose)]
      exact (sliceClose_inSlice _ _ _ _ _).trans (.wr _ _ 3 (.inl rfl))

theorem LaneSt.abortTurn_inSlice : L.InSlice L.abortTurn := .updChn L _ rfl rfl

end

/-- A slice of partition `p`, in `d` units of 10 ns, has ended in the lane. -/
structure LaneSt.Judged (old L : LaneSt) (p d : Nat) : Prop where
  keeps : old.keeps (.chn :: .mem :: .shepMem :: .core :: .meas :: faultParts) L
  active : L.chn.active = false
  sliced : L.chn.sliced = some (old.meas.slot, p)
  partition : L.rd Reg.CHN_LAST_PARTITION = p
  duration : L.rd Reg.CHN_LAST_DURATION = d

section
variable {L A M : LaneSt} {l : Lane} {p seg d : Nat} {zero sig crc key : Bool}

theorem LaneSt.Begun.judged (h : L.Begun A p d) (hin : A.InSlice M) : L.Judged M p d where
  keeps := (frame_step hin.frame (by decide) (frame_mono h.frame (by decide))).1
  active := hin.active.trans (by rw [h.chn])
  sliced := hin.sliced.trans (by rw [h.chn])
  partition := (hin.last.2 _ ⟨rfl, by decide⟩).trans h.partition
  duration := (hin.last.2 _ ⟨rfl, by decide⟩).trans h.duration

theorem LaneSt.Begun.reason (h : L.Begun A p d) (v : Nat) : L.Begun (A.wr Reg.CHN_LAST_REASON v) p d :=
  h.wr _ v (by decide) (by decide) (by decide)

theorem LaneSt.Begun.result (h : L.Begun A p d) (v : Nat) : L.Begun (A.wr Reg.CHN_LAST_RESULT v) p d :=
  h.wr _ v (by decide) (by decide) (by decide)

theorem LaneSt.Begun.passed (h : L.Begun A p d) : A.chn.passed = L.chn.passed := by rw [h.chn]

theorem LaneSt.Begun.missed (h : L.Begun A p d) : A.chn.missed = L.chn.missed := by rw [h.chn]

/-- A slice that FOLD ends. -/
structure LaneSt.Folded (old L : LaneSt) (p : Nat) (crc : Bool) : Prop where
  result : L.rd Reg.CHN_LAST_RESULT = 4
  reason : L.rd Reg.CHN_LAST_REASON = 3
  aborted : L.chn.aborted = some (old.meas.slot / 5)
  passed : L.chn.passed = old.chn.passed
  told : crc = false → p ≠ 6 → old.reported L 0x0C05 p

theorem LaneSt.Begun.judged_fold (h : L.Begun A p d) : L.Judged (A.sliceFold p zero crc key) p d := by
  rw [LaneSt.sliceFold_eq]
  exact ((h.result 4).reason 3).judged ((sliceClose_inSlice _ p zero key crc).trans (abortTurn_inSlice _))

theorem LaneSt.Begun.folded (h : L.Begun A p d) : L.Folded (A.sliceFold p zero crc key) p crc := by
  have hB := (h.result 4).reason 3
  have hresult : ((A.wr Reg.CHN_LAST_RESULT 4).wr Reg.CHN_LAST_REASON 3).rd Reg.CHN_LAST_RESULT = 4 :=
    (rd_wr_apart _ _ _ _ (by decide)).trans (A.rd_wr_self _ _ (by decide))
  have hreason : ((A.wr Reg.CHN_LAST_RESULT 4).wr Reg.CHN_LAST_REASON 3).rd Reg.CHN_LAST_REASON = 3 := rd_wr_self _ _ _ (by decide)
  rw [LaneSt.sliceFold_eq]
  generalize (A.wr Reg.CHN_LAST_RESULT 4).wr Reg.CHN_LAST_REASON 3 = B at hB hresult hreason
  have hregs := B.sliceClose_regs p zero key crc
  have hclose := B.sliceClose_frame p zero key crc
  have hslot : (B.sliceClose p zero key crc).meas.slot = L.meas.slot := by
    rw [hclose.1 .meas (by decide), hB.frame.1 .meas (by decide)]
  have hsame : (B.sliceClose p zero key crc).abortTurn.regs = (B.sliceClose p zero key crc).regs := rfl
  exact {
    result := (LaneSt.rd_congr hsame _).trans ((rd_of_keepsRegs hregs _ (by decide)).trans hresult)
    reason := (LaneSt.rd_congr hsame _).trans ((rd_of_keepsRegs hregs _ (by decide)).trans hreason)
    aborted := congrArg (fun n => some (n / 5)) hslot
    passed := (congrArg ChnSt.passed (hclose.1 .chn (by decide))).trans hB.passed
    told := fun hcrc hp => by
      subst hcrc
      exact reported_after (rs := []) (by decide) (by decide) (keepsRegs_same hsame) (hB.reported (by decide) (B.sliceClose_reported p zero key hp)) }

/-- A slice ends with its result. -/
theorem LaneSt.Begun.judged_end (h : L.Begun A p d) : L.Judged (A.sliceEnd l p seg zero sig crc key) p d :=
  (h.reason _).judged (A.sliceEnd_inSlice l p seg zero sig crc key)

theorem LaneSt.sliceEnd_reason (hscan : (p != 6 || zero) = true) : (A.sliceEnd l p seg zero sig crc key).rd Reg.CHN_LAST_REASON = 0 := by
  have h := A.sliceEnd_inSlice l p seg zero sig crc key
  rw [hscan, if_pos rfl] at h
  exact (h.last.2 _ ⟨rfl, by decide⟩).trans (A.rd_wr_self _ _ (by decide))

/-- Right in everything: the segment has passed. -/
theorem LaneSt.sliceEnd_result (hscan : (p != 6 || zero) = true) (hclose : (crc && (p != 6 || key)) = true) :
    (A.sliceEnd l p seg zero true crc key).rd Reg.CHN_LAST_RESULT = 1 := by
  rw [A.sliceEnd_passed l hscan rfl hclose]
  exact segPass_result _ _ _

/-- A miss passes no segment. -/
theorem LaneSt.Begun.passed_missed (h : L.Begun A p d) (hmiss : (p != 6 || zero) = false ∨ sig = false) :
    (A.sliceEnd l p seg zero sig crc key).chn.passed = L.chn.passed := by
  rw [A.sliceEnd_missed l hmiss, congrArg ChnSt.passed ((sliceClose_frame _ p zero key crc).1 .chn (by decide)), LaneSt.segMiss_passed]
  exact h.passed

/-- Nor does a failed restore. -/
theorem LaneSt.Begun.passed_crc (h : L.Begun A p d) : (A.sliceEnd l p seg zero sig false key).chn.passed = L.chn.passed := by
  by_cases hmiss : (p != 6 || zero) = false ∨ sig = false
  · exact h.passed_missed hmiss
  · obtain ⟨hscan, hsig⟩ := not_or.mp hmiss
    rw [Bool.not_eq_false] at hscan hsig
    rw [A.sliceEnd_failed l hscan hsig rfl]
    exact (congrArg ChnSt.passed ((sliceClose_frame _ p zero key false).1 .chn (by decide))).trans h.passed

/-- A first miss is counted, and the segment tried again (R319). -/
theorem LaneSt.Begun.missed_once (h : L.Begun A p d) (hmiss : (p != 6 || zero) = false ∨ sig = false)
    (hfirst : (L.chn.missed.getD p 0).testBit seg = false) :
    (A.sliceEnd l p seg zero sig crc key).rd Reg.CHN_LAST_RESULT = 2 ∧
      (A.sliceEnd l p seg zero sig crc key).rd Reg.CHN_RETRY_RETRIES =
        min (L.rd Reg.CHN_RETRY_RETRIES + 1) (2 ^ Reg.CHN_RETRY_RETRIES.w - 1) := by
  have hB := h.reason (if p != 6 || zero then 0 else 6)
  rw [A.sliceEnd_missed l hmiss]
  generalize A.wr Reg.CHN_LAST_REASON _ = B at hB
  have hcount : B.rd Reg.CHN_RETRY_RETRIES = L.rd Reg.CHN_RETRY_RETRIES := rd_of_keepsRegs hB.regs _ (by decide)
  obtain ⟨hresult, hretries⟩ := B.segRetry_counted p seg
  rw [B.segMiss_eq, hB.missed, hfirst, if_neg Bool.false_ne_true]
  have hregs := (B.segRetry p seg).sliceClose_regs p zero key crc
  exact ⟨(rd_of_keepsRegs hregs _ (by decide)).trans hresult, (rd_of_keepsRegs hregs _ (by decide)).trans (hcount ▸ hretries)⟩

/-- A second miss fails the lane's logic, or the stage's copy (R321). -/
theorem LaneSt.Begun.missed_twice (h : L.Begun A p d) (hmiss : (p != 6 || zero) = false ∨ sig = false)
    (hsecond : (L.chn.missed.getD p 0).testBit seg = true) :
    (A.sliceEnd l p seg zero sig crc key).rd Reg.CHN_LAST_RESULT = 3 ∧ (crc = true → key = true ∨ p ≠ 6 →
      if p = 7 then L.reported (A.sliceEnd l p seg zero sig crc key) 0x0C06 (L.copyStage l seg) ∧
        (A.sliceEnd l p seg zero sig crc key).on Reg.CHN_UNITS_COPY_FAIL = true
      else L.reported (A.sliceEnd l p seg zero sig crc key) 0x0C02 p) := by
  have hB := h.reason (if p != 6 || zero then 0 else 6)
  rw [A.sliceEnd_missed l hmiss]
  generalize A.wr Reg.CHN_LAST_REASON _ = B at hB
  have hstage : B.copyStage l seg = L.copyStage l seg := copyStage_congr (rd_of_keepsRegs hB.regs _ (by decide)) l seg
  obtain ⟨hresult, htold⟩ := B.segFail_told l p seg
  rw [B.segMiss_eq, hB.missed, hsecond, if_pos rfl]
  have hregs := (B.segFail l p seg).sliceClose_regs p zero key crc
  refine ⟨(rd_of_keepsRegs hregs _ (by decide)).trans hresult, fun hcrc hkey => ?_⟩
  have hquiet := (B.segFail l p seg).sliceClose_quiet p zero key hkey
  rw [← hcrc] at hquiet
  have hrep : ∀ {id x : Nat}, id < 65536 → B.reported (B.segFail l p seg) id x →
      L.reported ((B.segFail l p seg).sliceClose p zero key crc) id x := fun hid hr =>
    hB.reported hid (reported_after (by decide) hid hquiet hr)
  split
  case isTrue hp =>
    rw [if_pos hp, hstage] at htold
    exact ⟨hrep (by decide) htold.1, (congrArg (· != 0) (rd_of_keepsRegs hregs Reg.CHN_UNITS_COPY_FAIL (by decide))).trans htold.2⟩
  case isFalse hp =>
    rw [if_neg hp] at htold
    exact hrep (by decide) htold

end

/-! ### CHURN_SLICE -/

/-- A slice of partition `p`, of length `dur` in ns, is over and not yet judged. -/
def LaneSt.sliceDone (L : LaneSt) (p seg dur : Nat) : LaneSt :=
  ((L.sliceMark p seg).wr Reg.CHN_LAST_DURATION (min (dur / 10) 0xFFF)).sliceOver p

/-- The lane after a slice. -/
def LaneSt.afterSlice (L : LaneSt) (l : Lane) (p seg : Nat) (zero sig crc key : Bool) (dur : Nat) (fold : Bool) : LaneSt :=
  if fold then (L.sliceDone p seg dur).sliceFold p zero crc key else (L.sliceDone p seg dur).sliceEnd l p seg zero sig crc key

theorem LaneSt.sliceDone_begun (L : LaneSt) {p : Nat} (hp : p < 8) (seg dur : Nat) : L.Begun (L.sliceDone p seg dur) p (min (dur / 10) 0xFFF) :=
  sliceOver_begun (frame_step (wr_frame _ _ _) (by decide) (L.sliceMark_frame p seg))
    (keepsRegs_wr (by decide) (L.sliceMark_regs p seg))
    ((rd_wr_apart _ _ _ _ (by decide)).trans (L.sliceMark_partition hp seg))
    ((rd_wr_self _ _ _ (by decide)).trans (Nat.mod_eq_of_lt (Nat.lt_succ_of_le (Nat.min_le_right _ _))))

/-- What a slice makes of the lane. -/
structure LaneSt.SliceEnds (old L : LaneSt) (l : Lane) (p seg : Nat) (zero sig crc key : Bool) (dur : Nat) (fold : Bool) : Prop where
  judged : old.Judged L p (min (dur / 10) 0xFFF)
  folded : fold = true → old.Folded L p crc
  right : fold = false → zero = true ∨ p ≠ 6 → sig = true → crc = true → key = true ∨ p ≠ 6 →
    L.rd Reg.CHN_LAST_RESULT = 1 ∧ L.rd Reg.CHN_LAST_REASON = 0
  unrestored : fold = false → crc = false → L.chn.passed = old.chn.passed
  missed : fold = false → sig = false → L.chn.passed = old.chn.passed
  once : fold = false → sig = false → (old.chn.missed.getD p 0).testBit seg = false → L.rd Reg.CHN_LAST_RESULT = 2 ∧
    L.rd Reg.CHN_RETRY_RETRIES = min (old.rd Reg.CHN_RETRY_RETRIES + 1) (2 ^ Reg.CHN_RETRY_RETRIES.w - 1)
  twice : fold = false → sig = false → (old.chn.missed.getD p 0).testBit seg = true → L.rd Reg.CHN_LAST_RESULT = 3 ∧
    (crc = true → key = true ∨ p ≠ 6 → if p = 7 then old.reported L 0x0C06 (old.copyStage l seg) ∧ L.on Reg.CHN_UNITS_COPY_FAIL = true
      else old.reported L 0x0C02 p)

theorem LaneSt.afterSlice_ends (L : LaneSt) (l : Lane) {p : Nat} (hp : p < 8) (seg : Nat) (zero sig crc key : Bool) (dur : Nat) (fold : Bool) :
    L.SliceEnds (L.afterSlice l p seg zero sig crc key dur fold) l p seg zero sig crc key dur fold := by
  have hbegun := L.sliceDone_begun hp seg dur
  have hunless6 : ∀ b : Bool, b = true ∨ p ≠ 6 → (p != 6 || b) = true := fun b h => by simpa [or_comm] using h
  cases fold with
  | true => exact {
      judged := hbegun.judged_fold
      folded := fun _ => hbegun.folded
      right := nofun
      unrestored := nofun
      missed := nofun
      once := nofun
      twice := nofun }
  | false => exact {
      judged := hbegun.judged_end
      folded := nofun
      right := fun _ hzero hsig hcrc hkey => by
        subst hsig hcrc
        exact ⟨sliceEnd_result (hunless6 _ hzero) (hunless6 _ hkey), sliceEnd_reason (hunless6 _ hzero)⟩
      unrestored := fun _ hcrc => by
        subst hcrc
        exact hbegun.passed_crc
      missed := fun _ hsig => hbegun.passed_missed (.inr hsig)
      once := fun _ hsig hfirst => hbegun.missed_once (.inr hsig) hfirst
      twice := fun _ hsig hsecond => hbegun.missed_twice (.inr hsig) hsecond }

/-- The stage tells whether a copy has failed. -/
def StageSt.showCopy (g : StageSt) (b : Bool) : StageSt := { g with copyFail := b }

/-- The stage whose copies were tested shows what the lane found. -/
theorem State.noteCopies_one (s : State) (l : Lane) (c : Nat) (g : Stg) : (s.noteCopies l (2 ^ c)).stage g =
    if stgIx g = c then (s.stage g).showCopy (nth (s.lane l).meas.copyFail (stgIx g)) else s.stage g := by
  have hbit : ∀ i : Nat, bitN (2 ^ c) i = decide (i = c) := fun i => by simp [bitN, Nat.testBit_two_pow, eq_comm]
  cases g <;> simp only [State.noteCopies, State.stage, hbit, decide_eq_true_eq, stgIx, nth, StageSt.showCopy]

/-- A command that changes a lane, and shows its finding in the stage `c` whose copies were tested. -/
theorem runs_noteCopies {i : Instr} {s : State} {l : Lane} {f : LaneSt → LaneSt} {c : Nat} {P : LaneSt → Prop}
    (h : exec i s = .next ((s.updLane l f).noteCopies l (2 ^ c))) (hP : P (f (s.lane l))) :
    Runs i s fun u => (∀ o, o ≠ l → u.lane o = s.lane o) ∧ u.gX = s.gX ∧ u.gY = s.gY ∧ u.pending = s.pending ∧ P (u.lane l) ∧
      ∀ g, u.stage g = if stgIx g = c then (s.stage g).showCopy (nth (u.lane l).meas.copyFail (stgIx g)) else s.stage g :=
  ⟨_, h, fun o ho => State.lane_updLane_ne s l o f ho, rfl, rfl, rfl, (State.lane_updLane_self s l f).symm ▸ hP,
    State.noteCopies_one (s.updLane l f) l c⟩

section
variable {s : State} {l : Lane} {p seg dur : Nat} {zero sig crc key fold : Bool}

theorem LaneSt.mayScan_partition {L : LaneSt} (h : L.mayScan l p seg = true) : p < 8 := by
  simp only [LaneSt.mayScan, Bool.and_eq_true, decide_eq_true_eq] at h
  exact h.1.1.2

theorem exec_churnSlice (hscan : (s.lane l).mayScan l p seg = true) (hdur : dur ≤ 40000) :
    exec (.churnSlice l p seg zero sig crc key dur fold) s =
      .next (if p = 7 then (s.updLane l fun L => L.afterSlice l p seg zero sig crc key dur fold).noteCopies l (2 ^ (s.lane l).copyStage l seg)
        else s.updLane l fun L => L.afterSlice l p seg zero sig crc key dur fold) := by
  change execChurnSlice l p seg zero sig crc key dur fold s = _
  rw [execChurnSlice, if_pos (by simp [hscan, hdur])]
  rfl

theorem churnSlice_lane (hscan : (s.lane l).mayScan l p seg = true) (hdur : dur ≤ 40000) (hp : p ≠ 7) :
    LaneRuns (.churnSlice l p seg zero sig crc key dur fold) s l fun L => (s.lane l).SliceEnds L l p seg zero sig crc key dur fold :=
  laneRuns_updLane ((exec_churnSlice hscan hdur).trans (by rw [if_neg hp]))
    ((s.lane l).afterSlice_ends l (LaneSt.mayScan_partition hscan) seg zero sig crc key dur fold)

/-- In partition 7 the stage takes the lane's finding too. -/
theorem churnSlice_copies (hscan : (s.lane l).mayScan l 7 seg = true) (hdur : dur ≤ 40000) :
    Runs (.churnSlice l 7 seg zero sig crc key dur fold) s fun u => (∀ o, o ≠ l → u.lane o = s.lane o) ∧ u.gX = s.gX ∧ u.gY = s.gY ∧
      u.pending = s.pending ∧ (s.lane l).SliceEnds (u.lane l) l 7 seg zero sig crc key dur fold ∧ ∀ g, u.stage g =
        if stgIx g = (s.lane l).copyStage l seg then (s.stage g).showCopy (nth (u.lane l).meas.copyFail (stgIx g)) else s.stage g :=
  runs_noteCopies (P := fun L => (s.lane l).SliceEnds L l 7 seg zero sig crc key dur fold)
    ((exec_churnSlice hscan hdur).trans (by rw [if_pos rfl]))
    ((s.lane l).afterSlice_ends l (LaneSt.mayScan_partition hscan) seg zero sig crc key dur fold)

end

/-! ### ZEROISE_TIMEOUT (R319) -/

section
variable (L : LaneSt) (l : Lane) (seg : Nat)

/-- Only a slice of the Shepherd's partition saves into its SRAM. -/
theorem LaneSt.sliceSave_shepMem {p : Nat} (hp : p ≠ 1) : (L.sliceSave p).shepMem = L.shepMem := by
  have hmem : ∀ (M N : LaneSt), M.frame [.mem] N → N.shepMem = M.shepMem := fun M N h => h.1 .shepMem (by decide)
  unfold LaneSt.sliceSave
  extract_lets es vals A arch B
  have hA : A.shepMem = L.shepMem := hmem _ _ (frame_foldl (fun _ _ => setWord_frame _ _ _) _ _)
  have hB : B.shepMem = A.shepMem := by
    simp only [B]
    split
    · exact hmem _ _ (setWords_frame _ _ _)
    · exact absurd rfl hp
    · rfl
  exact hB.trans hA

/-- A slice of partition 6 that ends without scan, before its judgement. -/
def LaneSt.unzeroised : LaneSt := (L.sliceMark 6 seg).sliceOver 6

/-- The lane after a slice whose zeroising did not complete. -/
def LaneSt.afterZeroise : LaneSt := (L.unzeroised seg).sliceEnd l 6 seg false true true true

theorem LaneSt.unzeroised_begun : L.Begun (L.unzeroised seg) 6 ((L.sliceMark 6 seg).rd Reg.CHN_LAST_DURATION) :=
  sliceOver_begun (L.sliceMark_frame 6 seg) (L.sliceMark_regs 6 seg) (L.sliceMark_partition (by decide) seg) rfl

theorem LaneSt.sliceMark_shepMem {p : Nat} (hp : p ≠ 1) : (L.sliceMark p seg).shepMem = L.shepMem := by
  rw [LaneSt.sliceMark, (wr_frame _ _ _).1 .shepMem (by decide), (wr_frame _ _ _).1 .shepMem (by decide), L.sliceSave_shepMem hp]

theorem LaneSt.sliceOver_frame (p : Nat) : L.frame [.chn] (L.sliceOver p) := updChn_frame _ _

theorem LaneSt.unzeroised_frame : L.frame [.chn, .mem, .regs] (L.unzeroised seg) := by
  have h := (L.unzeroised_begun seg).frame
  have hshep : (L.unzeroised seg).shepMem = L.shepMem :=
    ((sliceOver_frame _ 6).1 .shepMem (by decide)).trans (L.sliceMark_shepMem seg (by decide))
  refine ⟨fun q hq => ?_, h.2⟩
  by_cases hpart : q = .shepMem
  · rw [hpart]
    exact hshep
  · exact h.1 q (by simp_all)

theorem LaneSt.sliceClose_keys (zeroOk : Bool) : L.sliceClose 6 zeroOk true true = L.keyReload zeroOk true := rfl

/-- A first time, the segment is retried and the keys reloaded. -/
theorem LaneSt.afterZeroise_eq (hfirst : (L.chn.missed.getD 6 0).testBit seg = false) :
    L.afterZeroise l seg = (((L.unzeroised seg).wr Reg.CHN_LAST_REASON 6).segRetry 6 seg).keyReload false true := by
  have hB := (L.unzeroised_begun seg).reason 6
  have hreason : (if ((6 : Nat) != 6 || false) = true then 0 else 6) = 6 := rfl
  rw [LaneSt.afterZeroise, LaneSt.sliceEnd_missed _ l (.inl rfl), hreason]
  generalize (L.unzeroised seg).wr Reg.CHN_LAST_REASON 6 = B at hB
  rw [LaneSt.segMiss_eq, hB.missed, hfirst, if_neg Bool.false_ne_true]
  exact sliceClose_keys _ false

theorem LaneSt.segRetry_frame (p : Nat) : L.frame [.chn, .regs] (L.segRetry p seg) :=
  frame_step (updChn_frame _ _) (by decide) (frame_step (incSat_frame _ _ _) (by decide) (frame_mono (wr_frame _ _ _) (by decide)))

theorem LaneSt.keyMarks_frame (zeroOk keyOk : Bool) : L.frame [.regs] (L.keyMarks zeroOk keyOk) :=
  frame_step (inc_frame _ _ _) (by decide) (frame_step (put_frame _ _ _) (by decide) (put_frame _ _ _))

theorem LaneSt.afterZeroise_frame (hfirst : (L.chn.missed.getD 6 0).testBit seg = false) : L.frame [.chn, .mem, .regs] (L.afterZeroise l seg) := by
  rw [L.afterZeroise_eq l seg hfirst]
  exact frame_step (keyMarks_frame _ false true) (by decide) (frame_step (segRetry_frame _ seg 6) (by decide)
    (frame_step (wr_frame _ _ _) (by decide) (L.unzeroised_frame seg)))

end

/-- ZEROISED was not set within 1 µs. -/
theorem exec_zeroiseTimeout {s : State} {l : Lane} {seg us : Nat} {P : LaneSt → Prop} (hscan : (s.lane l).mayScan l 6 seg = true) (hus : 1 ≤ us)
    (hP : P ((s.lane l).afterZeroise l seg)) : LaneRuns (.zeroiseTimeout l seg us) s l P :=
  laneRuns_updLane (f := fun L => if L.mayScan l 6 seg ∧ 1 ≤ us then L.afterZeroise l seg else L) rfl (by rwa [if_pos ⟨hscan, hus⟩])

/-- What a slice without scan makes of the lane. -/
structure LaneSt.Unscanned (old L : LaneSt) : Prop where
  keeps : old.keeps [.chn, .mem, .regs] L
  sliced : L.chn.sliced = some (old.meas.slot, 6)
  result : L.rd Reg.CHN_LAST_RESULT = 2
  reason : L.rd Reg.CHN_LAST_REASON = 6
  partition : L.rd Reg.CHN_LAST_PARTITION = 6
  active : L.chn.active = false
  zeroOk : L.on Reg.CHN_KEY_ZERO_OK = false
  passed : L.chn.passed = old.chn.passed

theorem LaneSt.afterZeroise_unscanned (L : LaneSt) (l : Lane) {seg : Nat} (hfirst : (L.chn.missed.getD 6 0).testBit seg = false) :
    L.Unscanned (L.afterZeroise l seg) := by
  have hbegun := L.unzeroised_begun seg
  have hjudged : L.Judged (L.afterZeroise l seg) 6 _ := hbegun.judged_end
  have hlast := ((L.unzeroised seg).sliceEnd_inSlice l 6 seg false true true true).last
  exact {
    keeps := (L.afterZeroise_frame l seg hfirst).1
    sliced := hjudged.sliced
    result := (hbegun.missed_once (.inl rfl) hfirst).1
    reason := (hlast.2 Reg.CHN_LAST_REASON ⟨rfl, by decide⟩).trans (rd_wr_self _ _ _ (by decide))
    partition := hjudged.partition
    active := hjudged.active
    zeroOk := by rw [L.afterZeroise_eq l seg hfirst]; exact keyReload_zeroOk _ false
    passed := hbegun.passed_missed (.inl rfl) }

/-! ### CHURN_COVERAGE_OVERDUE (R322) -/

/-- The cycle is overdue. -/
def LaneSt.overdue (L : LaneSt) : LaneSt := (L.put Reg.CHN_STAT_OVERDUE true).raise 0x0C03

theorem LaneSt.overdue_raised (L : LaneSt) : L.keeps (.time :: faultParts) L.overdue ∧ L.keepsRegs (0x400D0004 :: faultRegs) L.overdue ∧
    L.overdue.on Reg.CHN_STAT_OVERDUE = true ∧ L.reported L.overdue 0x0C03 0xFF := by
  have hmark : L.keepsRegs [0x400D0004] (L.put Reg.CHN_STAT_OVERDUE true) := L.wr_keepsRegs _ _ (by decide)
  have hshown := (raise_keepsChurn (L.put Reg.CHN_STAT_OVERDUE true) 0xFF (by decide : 0x0C03 < 65536)).2 Reg.CHN_STAT_OVERDUE rfl
  refine ⟨(frame_step (raise_frame _ _ _) (by decide) (frame_mono (put_frame _ _ _) (by decide))).1,
    keepsRegs_trans (keepsRegs_mono (raise_regs _ _ _ (by decide)) (by decide)) (keepsRegs_mono hmark (by decide)),
    (congrArg (· != 0) hshown).trans (L.on_put_self _ true (by decide) (by decide)),
    reported_before (by decide) (by decide) hmark rfl (raise_reported _ _ _ (by decide))⟩

section
variable {s : State} {l : Lane} {t : Nat}

/-- The command at its instant. -/
theorem churnCoverageOverdue_runs {P : LaneSt → Prop} (hup : (s.lane l).up = true)
    (hP : P (if ((s.lane l).tick t).chn.since + 1000000000 ≤ t ∧ !((s.lane l).tick t).on Reg.CHN_STAT_OVERDUE then ((s.lane l).tick t).overdue
      else (s.lane l).tick t)) : LaneRuns (.churnCoverageOverdue l t) s l P :=
  laneRuns_onLane (f := fun L => if L.chn.since + 1000000000 ≤ t ∧ !L.on Reg.CHN_STAT_OVERDUE then L.overdue else L) rfl hup hP

theorem churnCoverageOverdue_first (hup : (s.lane l).up = true) (hoff : (s.lane l).on Reg.CHN_STAT_OVERDUE = false)
    (hdue : (s.lane l).chn.since + 1000000000 ≤ t) : LaneRuns (.churnCoverageOverdue l t) s l fun L =>
      (s.lane l).keeps (.time :: faultParts) L ∧ (s.lane l).keepsRegs (0x400D0004 :: faultRegs) L ∧ L.on Reg.CHN_STAT_OVERDUE = true ∧
        (s.lane l).reported L 0x0C03 0xFF := by
  obtain ⟨hkeeps, hregs, hon, hrep⟩ := ((s.lane l).tick t).overdue_raised
  refine churnCoverageOverdue_runs hup ?_
  rw [if_pos ⟨hdue, by rw [Bool.not_eq_true']; exact hoff⟩]
  exact ⟨LaneSt.keeps_of_tick (by decide) hkeeps, hregs, hon,
    LaneSt.reported_before (rs := []) (by decide) (by decide) (LaneSt.keepsRegs_same rfl) rfl hrep⟩

theorem churnCoverageOverdue_again (hup : (s.lane l).up = true) (hon : (s.lane l).on Reg.CHN_STAT_OVERDUE = true) :
    LaneRuns (.churnCoverageOverdue l t) s l fun L => (s.lane l).keeps [.time] L := by
  refine churnCoverageOverdue_runs hup ?_
  rw [if_neg fun h => Bool.false_ne_true (((Bool.not_eq_true' _).mp h.2).symm.trans hon)]
  exact ((s.lane l).tick_frame t).1

end

/-! ### STAGE_COPY_SWAP (R318) -/

/-- The copy of stage `i` is to be tested anew. -/
def LaneSt.freshCopy (L : LaneSt) (l : Lane) (i : Nat) : LaneSt :=
  L.updChn fun c => if i = laneIx l then { c with copyOwn := 0 } else { c with copyTk := 0 }

/-- The lane shows the copy of its own stage that is now active. -/
def LaneSt.swapCopy (L : LaneSt) (l : Lane) (i : Nat) (q : Bool) : LaneSt :=
  if i = laneIx l then (L.freshCopy l i).put Reg.CHN_UNITS_STG_ACTIVE q else L.freshCopy l i

theorem LaneSt.swapCopy_keeps (L : LaneSt) (l : Lane) (i : Nat) (q : Bool) :
    L.frame [.chn, .regs] (L.swapCopy l i q) ∧ L.keepsRegs [0x400D0014] (L.swapCopy l i q) := by
  have hframe : L.frame [.chn, .regs] (L.freshCopy l i) := frame_mono (updChn_frame _ _) (by decide)
  have hregs : L.keepsRegs [0x400D0014] (L.freshCopy l i) := keepsRegs_same rfl
  exact ⟨frame_ite (frame_step (put_frame _ _ _) (by decide) hframe) hframe, keepsRegs_ite (keepsRegs_wr (by decide) hregs) hregs⟩

theorem LaneSt.freshCopy_failed (L : LaneSt) (l : Lane) (i : Nat) : L.frame (.chn :: .meas :: faultParts) ((L.freshCopy l i).copyFailed i) ∧
    (L.freshCopy l i).FailsCopy ((L.freshCopy l i).copyFailed i) i ∧ L.reported ((L.freshCopy l i).copyFailed i) 0x0C06 i := by
  have hfails := (L.freshCopy l i).copyFailed_fails i
  exact ⟨frame_step (copyFailed_frame _ _) (by decide) (frame_mono (updChn_frame _ _) (by decide)), hfails,
    reported_before (rs := []) (by decide) (by decide) (keepsRegs_same rfl) rfl hfails.told⟩

theorem LaneSt.testsStage_of_testsCopy {L : LaneSt} {l : Lane} {i : Nat} (h : L.testsCopy l i = true) : L.testsStage l i = true := by
  simp only [LaneSt.testsCopy, LaneSt.testsStage, Bool.or_eq_true, Bool.and_eq_true] at h ⊢
  exact h.imp And.left fun ⟨⟨⟨_, hover⟩, hstage⟩, _⟩ => ⟨hover, hstage⟩

theorem stgIx_injective {g o : Stg} (h : stgIx g = stgIx o) : g = o := by
  cases g <;> cases o <;> simp_all [stgIx]

section
variable {s : State} {l : Lane} {g : Stg}

theorem exec_stageCopySwap_equal (hup : (s.lane l).up = true) (htests : (s.lane l).testsCopy l (stgIx g) = true) :
    exec (.stageCopySwap l g true) s = .next ((s.updLane l fun L => L.swapCopy l (stgIx g) (!(s.stage g).copyQ)).updStage g
      fun G => { G with copyQ := !(s.stage g).copyQ }) := by
  change execStageCopySwap l g true s = _
  simp only [execStageCopySwap, hup, htests, Bool.not_true, Bool.false_eq_true, if_false, if_true]
  rfl

theorem exec_stageCopySwap_differ (hup : (s.lane l).up = true) (htests : (s.lane l).testsStage l (stgIx g) = true) :
    exec (.stageCopySwap l g false) s =
      .next ((s.updLane l fun L => (L.freshCopy l (stgIx g)).copyFailed (stgIx g)).noteCopies l (2 ^ stgIx g)) := by
  change execStageCopySwap l g false s = _
  simp only [execStageCopySwap, hup, htests, Bool.not_true, Bool.false_eq_true, if_false, if_true]
  rfl

/-- Equal outputs: the roles swap. -/
theorem stageCopySwap_equal (hup : (s.lane l).up = true) (htests : (s.lane l).testsCopy l (stgIx g) = true) :
    Runs (.stageCopySwap l g true) s fun u => (∀ o, o ≠ l → u.lane o = s.lane o) ∧ (∀ o, o ≠ g → u.stage o = s.stage o) ∧
      u.gX = s.gX ∧ u.gY = s.gY ∧ u.pending = s.pending ∧ u.stage g = { s.stage g with copyQ := !(s.stage g).copyQ } ∧
      (s.lane l).keeps [.chn, .regs] (u.lane l) ∧ (s.lane l).keepsRegs [0x400D0014] (u.lane l) := by
  have hlane := (s.lane l).swapCopy_keeps l (stgIx g) (!(s.stage g).copyQ)
  refine ⟨_, exec_stageCopySwap_equal hup htests, fun o ho => ?_, fun o ho => ?_, rfl, rfl, rfl, ?_, ?_, ?_⟩
  · rw [State.lane_updStage, State.lane_updLane_ne s l o _ ho]
  · rw [State.stage_updStage_ne _ g o _ ho, State.stage_updLane]
  · rw [State.stage_updStage_self, State.stage_updLane]
  · rw [State.lane_updStage, State.lane_updLane_self]
    exact hlane.1.1
  · rw [State.lane_updStage, State.lane_updLane_self]
    exact hlane.2

/-- Outputs that differ: the copy has failed. -/
theorem stageCopySwap_differ (hup : (s.lane l).up = true) (htests : (s.lane l).testsStage l (stgIx g) = true) :
    Runs (.stageCopySwap l g false) s fun u => (∀ o, o ≠ l → u.lane o = s.lane o) ∧ (∀ o, o ≠ g → u.stage o = s.stage o) ∧
      u.gX = s.gX ∧ u.gY = s.gY ∧ u.pending = s.pending ∧ u.stage g = { s.stage g with copyFail := true } ∧
      (s.lane l).keeps (.chn :: .meas :: faultParts) (u.lane l) ∧ (s.lane l).reported (u.lane l) 0x0C06 (stgIx g) ∧
      (u.lane l).on Reg.CHN_UNITS_COPY_FAIL = true ∧ (u.lane l).on (Reg.MEAS_STAT_OUT_OF_SERVICE.bit (stgIx g)) = true := by
  obtain ⟨u, hexec, hlanes, hX, hY, hpending, hlane, hstage⟩ :=
    runs_noteCopies (P := fun L => L = ((s.lane l).freshCopy l (stgIx g)).copyFailed (stgIx g)) (exec_stageCopySwap_differ hup htests) rfl
  obtain ⟨hframe, hfails, htold⟩ := (s.lane l).freshCopy_failed l (stgIx g)
  refine ⟨u, hexec, hlanes, fun o ho => ?_, hX, hY, hpending, ?_, hlane ▸ hframe.1, hlane ▸ htold, hlane ▸ hfails.shown,
    hlane ▸ hfails.removed (stgIx_lt g)⟩
  · rw [hstage o, if_neg fun h => ho (stgIx_injective h)]
  · rw [hstage g, if_pos rfl, hlane, hfails.copy]
    rfl

end

/-! ### SPARE_UNIT_HANDOVER (R317) -/

section
variable {s : State} {l : Lane} {P : LaneSt → Prop}

/-- The spare of partition 2 takes the place of the next unit. -/
def LaneSt.handover2 (L : LaneSt) : LaneSt :=
  ((L.updChn fun c => { c with done2 := 0 }).wr Reg.CHN_UNITS_COM_SPARE (nth L.chn.units2 L.chn.next2)).updChn fun c =>
    { c with units2 := setNth c.units2 L.chn.next2 (L.rd Reg.CHN_UNITS_COM_SPARE), next2 := (L.chn.next2 + 1) % 3 }

/-- The spare of partition 3 takes the place of the next unit. -/
def LaneSt.handover3 (L : LaneSt) : LaneSt :=
  ((L.updChn fun c => { c with done3 := 0 }).wr Reg.CHN_UNITS_SEQ_SPARE (nth L.chn.units3 L.chn.next3)).updChn fun c =>
    { c with units3 := setNth c.units3 L.chn.next3 (L.rd Reg.CHN_UNITS_SEQ_SPARE), next3 := (L.chn.next3 + 1) % 3 }

/-- The spare of partition 2 has failed. -/
def LaneSt.spareFailed2 (L : LaneSt) : LaneSt := (L.updChn fun c => { c with done2 := 0 }).raise 0x0C02 2

/-- A field of the units is written, between two changes of the Churn controller. -/
theorem LaneSt.handover_keeps (L : LaneSt) (f1 f2 : ChnSt → ChnSt) (w : Fld) (v : Nat) (hw : w.addr = 0x400D0014) (hfits : w.lo + w.w ≤ 32) :
    L.keeps [.chn, .regs] (((L.updChn f1).wr w v).updChn f2) ∧ L.keepsRegs [0x400D0014] (((L.updChn f1).wr w v).updChn f2) ∧
      (((L.updChn f1).wr w v).updChn f2).rd w = v % 2 ^ w.w :=
  ⟨(frame_step (updChn_frame _ _) (by decide) (frame_step (wr_frame _ _ _) (by decide) (frame_mono (updChn_frame _ _) (by decide)))).1,
    keepsRegs_of_regs (M := (L.updChn f1).wr w v) rfl (keepsRegs_wr (by rw [hw]; decide) (keepsRegs_same rfl)), rd_wr_self _ w v hfits⟩

theorem LaneSt.spareFailed2_told (L : LaneSt) : L.keeps (.chn :: faultParts) L.spareFailed2 ∧ L.keepsRegs faultRegs L.spareFailed2 ∧
    L.spareFailed2.chn = { L.chn with done2 := 0 } ∧ L.reported L.spareFailed2 0x0C02 2 := by
  have hframe := L.updChn_frame fun c => { c with done2 := 0 }
  have hchn : (L.updChn fun c => { c with done2 := 0 }).chn = { L.chn with done2 := 0 } := rfl
  rw [LaneSt.spareFailed2, ← hchn]
  generalize L.updChn (fun c => { c with done2 := 0 }) = M at hframe
  have hregs : M.regs = L.regs := hframe.1 .regs (by decide)
  exact ⟨(frame_step (raise_frame _ _ _) (by decide) (frame_mono hframe (by decide))).1,
    keepsRegs_trans (raise_regs _ _ _ (by decide)) (keepsRegs_same hregs), (M.raise_frame _ _).1 .chn (by decide),
    reported_before (rs := []) (by decide) (by decide) (keepsRegs_same hregs) (hframe.1 .fc (by decide)) (M.raise_reported _ _ (by decide))⟩

/-- Partition 2: what the command makes of the lane. -/
theorem spareUnitHandover2 {eq : Bool} (hup : (s.lane l).up = true)
    (hP : P (if 30 ≤ (s.lane l).chn.done2 then (if eq then (s.lane l).handover2 else (s.lane l).spareFailed2) else s.lane l)) :
    LaneRuns (.spareUnitHandover l 2 eq) s l P := by
  refine laneRuns_onLaneNow rfl hup ?_
  simp only [true_and, show ¬ (2 = 3) by decide, false_and, if_false]
  exact hP

/-- Partition 3: the spare has passed all its segments, and the outputs are equal. -/
theorem spareUnitHandover3 (hup : (s.lane l).up = true) (hdone : 15 ≤ (s.lane l).chn.done3) (hP : P (s.lane l).handover3) :
    LaneRuns (.spareUnitHandover l 3 true) s l P := by
  refine laneRuns_onLaneNow rfl hup ?_
  simp only [show ¬ (3 = 2) by decide, false_and, if_false, true_and, if_pos hdone]
  exact hP

end

/-- Settles O32: a slice by FOLD, a miss, a failed restore and a pass; then one lemma per other command. -/
theorem churnTestsAndRepairs : Obligations.ChurnTestsAndRepairs := by
  unfold Obligations.ChurnTestsAndRepairs
  refine ⟨fun s l p seg dur zero sig crc key fold hscan hdur => ?_, fun s l => ⟨?_, ?_, ?_, ?_⟩, fun s l hup => ⟨?_, ?_, ?_, ?_⟩⟩
  · intro old judged
    have hjudged : ∀ L, old.SliceEnds L l p seg zero sig crc key dur fold → judged L := fun L h =>
      ⟨h.judged.keeps, h.judged.active, h.judged.sliced, h.judged.partition, h.judged.duration,
        fun hf => ⟨(h.folded hf).result, (h.folded hf).reason, (h.folded hf).aborted, (h.folded hf).passed, (h.folded hf).told⟩,
        h.right, h.unrestored, fun hf hs => ⟨h.missed hf hs, h.once hf hs, h.twice hf hs⟩⟩
    refine ⟨fun hp => (churnSlice_lane hscan hdur hp).imp hjudged, fun hp => ?_⟩
    subst hp
    obtain ⟨u, hexec, hlanes, hX, hY, hpending, hends, hstage⟩ := churnSlice_copies hscan hdur
    exact ⟨u, hexec, hlanes, hX, hY, hpending, hjudged _ hends, hstage⟩
  · intro seg us hscan hus hfirst
    have h := (s.lane l).afterZeroise_unscanned l hfirst
    exact exec_zeroiseTimeout hscan hus ⟨h.keeps, h.sliced, h.result, h.reason, h.partition, h.active, h.zeroOk, h.passed⟩
  · exact fun t => churnCoverageOverdue_first
  · exact fun t => churnCoverageOverdue_again
  · intro g eq hup htests
    cases eq with
    | true =>
      obtain ⟨u, hexec, hlanes, hstages, hX, hY, hpending, hstage, hkeeps, hregs⟩ := stageCopySwap_equal hup htests
      exact ⟨u, hexec, hlanes, hstages, hX, hY, hpending, fun q hq => hkeeps q (by simp_all [faultParts]), fun _ => ⟨hstage, hkeeps, hregs⟩, nofun⟩
    | false =>
      obtain ⟨u, hexec, hlanes, hstages, hX, hY, hpending, hstage, hkeeps, htold, hshown, hremoved⟩ :=
        stageCopySwap_differ hup (LaneSt.testsStage_of_testsCopy htests)
      exact ⟨u, hexec, hlanes, hstages, hX, hY, hpending, hkeeps, nofun, fun _ => ⟨hstage, htold, hshown, hremoved⟩⟩
  · intro hdone
    obtain ⟨hkeeps, hregs, hspare⟩ := (s.lane l).handover_keeps _ _ Reg.CHN_UNITS_COM_SPARE _ rfl (by decide)
    exact spareUnitHandover2 hup (by rw [if_pos hdone]; exact ⟨hkeeps, hregs, rfl, hspare⟩)
  · intro hdone
    obtain ⟨hkeeps, hregs, hspare⟩ := (s.lane l).handover_keeps _ _ Reg.CHN_UNITS_SEQ_SPARE _ rfl (by decide)
    exact spareUnitHandover3 hup hdone ⟨hkeeps, hregs, rfl, hspare⟩
  · intro hdone
    exact spareUnitHandover2 hup (by rw [if_pos hdone]; exact (s.lane l).spareFailed2_told)
  · intro hdone eq
    exact spareUnitHandover2 hup (if_neg (Nat.not_le.mpr hdone))

end Sys2Proof.Machine

/-! ## Version and pair-key exchange (R108, R417) -/
namespace Sys2Proof.Machine

theorem laneIx_ne {x y : Lane} (h : x ≠ y) : laneIx x ≠ laneIx y := by
  revert h
  cases x <;> cases y <;> decide

theorem exists_thirdLane (l o : Lane) : ∃ x, x ≠ l ∧ x ≠ o := by
  cases l <;> cases o
  case A.A | A.B | B.A | B.B => exact ⟨.C, by decide, by decide⟩
  case A.C | C.A | C.C => exact ⟨.B, by decide, by decide⟩
  case B.C | C.B => exact ⟨.A, by decide, by decide⟩

/-- A command on a lane whose links run. -/
theorem laneRuns_onLinkedNow {c : Instr} {s : State} {l : Lane} {f : LaneSt → LaneSt} {P : LaneSt → Prop}
    (h : exec c s = onLinkedNow l s f) (hlinked : (s.lane l).linked = true) (hp : P (f (s.lane l))) : LaneRuns c s l P :=
  laneRuns_updLane (f := fun L => if L.linked then f L else L) h (by simpa [hlinked] using hp)

/-! ### The version taken -/

theorem LaneSt.takeVersion_regs (L : LaneSt) (v : Option Nat) : L.keepsRegs (0x40020000 :: faultRegs) (L.takeVersion v) := by
  have hraise : L.keepsRegs (0x40020000 :: faultRegs) (L.raise 0x0209) := keepsRegs_mono (L.raise_regs _ _ (by decide)) (by decide)
  cases v with
  | none => exact hraise
  | some v => exact keepsRegs_ite (L.wr_keepsRegs _ _ (by decide)) hraise

theorem LaneSt.takeVersion_inside {L : LaneSt} {v : Nat} (hlo : L.agr.vmin ≤ v) (hhi : v ≤ L.agr.vmax) :
    (L.takeVersion (some v)).rd Reg.AGR_STAT_VERSION = v % 2 ^ Reg.AGR_STAT_VERSION.w := by
  rw [show L.takeVersion (some v) = L.wr Reg.AGR_STAT_VERSION v from if_pos ⟨hlo, hhi⟩]
  exact L.rd_wr_self _ _ (by decide)

theorem LaneSt.takeVersion_outside {L : LaneSt} {v : Nat} (h : v < L.agr.vmin ∨ L.agr.vmax < v) :
    L.takeVersion (some v) = L.raise 0x0209 := if_neg (by omega)

/-! ### The decision -/

theorem LaneSt.decideVersion_regs (L : LaneSt) (l : Lane) (done : Bool) :
    L.keepsRegs (0x40020000 :: faultRegs) (L.decideVersion l done) :=
  keepsRegs_ite (L.takeVersion_regs none) (keepsRegs_ite (L.takeVersion_regs _) (L.keepsRegs_refl _))

/-- Neither partner's exchange verifies (log entry 36). -/
theorem LaneSt.decideVersion_unverified {L : LaneSt} {l : Lane} {done : Bool}
    (h : ∀ x, x ≠ l → nth L.agr.unverified (laneIx x) = true) : L.decideVersion l done = L.raise 0x0209 := by
  exact if_pos (Bool.and_eq_true_iff.mpr ⟨h (otherLanes l).1 (by cases l <;> decide), h (otherLanes l).2 (by cases l <;> decide)⟩)

/-- A partner whose answer is still awaited. -/
theorem LaneSt.decideVersion_awaits {L : LaneSt} {l x : Lane} (hx : x ≠ l) (hun : nth L.agr.unverified (laneIx x) = false)
    (hrange : nth L.agr.ranges (laneIx x) = none) : L.decideVersion l false = L := by
  have hanswered : L.answered (laneIx x) = false := by simp [LaneSt.answered, hun, hrange]
  have hone : x = (otherLanes l).1 ∨ x = (otherLanes l).2 := by revert hx; cases l <;> cases x <;> decide
  unfold LaneSt.decideVersion
  rcases hone with rfl | rfl <;> simp [hun, hanswered]

theorem LaneSt.decideVersion_over {L : LaneSt} {l x : Lane} (hx : x ≠ l) (hun : nth L.agr.unverified (laneIx x) = false) :
    L.decideVersion l true =
      L.takeVersion (settleVersion ((triList (setNth L.agr.ranges (laneIx l) (some (L.agr.vmin, L.agr.vmax)))).filterMap id)) := by
  have hone : x = (otherLanes l).1 ∨ x = (otherLanes l).2 := by revert hx; cases l <;> cases x <;> decide
  unfold LaneSt.decideVersion
  rcases hone with rfl | rfl <;> simp [hun]

theorem shared_comm (a b : Nat × Nat) : shared a b = shared b a := by
  simp only [shared, max_comm a.1, min_comm a.2]

/-- Two lanes that start together take the highest version common to their ranges. -/
theorem settleVersion_two {l o : Lane} (h : o ≠ l) (own other : Nat × Nat) :
    settleVersion ((triList (setNth (setNth (.all none) (laneIx o) (some other)) (laneIx l) (some own))).filterMap id) =
      shared other own := by
  cases l <;> cases o
  case A.A | B.B | C.C => exact absurd rfl h
  case A.B | A.C | B.C => exact shared_comm own other
  case B.A | C.A | C.B => rfl

theorem LaneSt.takeVersion_shared {L : LaneSt} {lo hi : Nat} (h : max lo L.agr.vmin ≤ min hi L.agr.vmax) :
    (L.takeVersion (shared (lo, hi) (L.agr.vmin, L.agr.vmax))).rd Reg.AGR_STAT_VERSION =
      min hi L.agr.vmax % 2 ^ Reg.AGR_STAT_VERSION.w := by
  rw [show shared (lo, hi) (L.agr.vmin, L.agr.vmax) = some (min hi L.agr.vmax) from if_pos h]
  exact takeVersion_inside (by omega) (by omega)

theorem LaneSt.takeVersion_disjoint {L : LaneSt} {lo hi : Nat} (h : min hi L.agr.vmax < max lo L.agr.vmin) :
    L.takeVersion (shared (lo, hi) (L.agr.vmin, L.agr.vmax)) = L.raise 0x0209 := by
  rw [show shared (lo, hi) (L.agr.vmin, L.agr.vmax) = none from if_neg (by simp only; omega)]
  rfl

/-! ### A verified exchange, and one that does not verify -/

/-- Lane `o`'s verified exchange is noted. -/
def LaneSt.noteExchange (L : LaneSt) (l o : Lane) (lo hi boot lc : Nat) : LaneSt :=
  (L.completeKey l o boot lc).updAgr fun g => { g with
    unverified := setNth g.unverified (laneIx o) false, ranges := setNth g.ranges (laneIx o) (some (lo, hi))
    boots := setNth g.boots (laneIx o) (some boot), lcs := setNth g.lcs (laneIx o) (some lc) }

/-- Lane `o`'s exchange did not verify. -/
def LaneSt.noteUnverified (L : LaneSt) (o : Lane) : LaneSt :=
  L.updAgr fun g => { g with unverified := setNth g.unverified (laneIx o) true, ranges := setNth g.ranges (laneIx o) none }

section
variable {s : State} {l o : Lane} {lo hi boot lc : Nat} {force : Option Nat} {done : Bool} {P : LaneSt → Prop}

theorem versionExchange_verified (hlinked : (s.lane l).linked = true) (ho : o ≠ l) (hlc : lc = (s.lane l).rd Reg.SEC_LC_STATE)
    (hmsk : (s.lane l).on Reg.SEC_KEY_STAT_MSK = true)
    (hP : P (match force with
      | some v => ((s.lane l).noteExchange l o lo hi boot lc).takeVersion (some v)
      | none => ((s.lane l).noteExchange l o lo hi boot lc).decideVersion l done)) :
    LaneRuns (.versionExchange l o lo hi boot lc true force done) s l P := by
  refine laneRuns_onLinkedNow rfl hlinked ?_
  dsimp only
  rw [if_neg ho, if_neg (by simp [hlc, hmsk])]
  cases force <;> exact hP

theorem versionExchange_unverified (hlinked : (s.lane l).linked = true) (ho : o ≠ l)
    (hP : P (((s.lane l).noteUnverified o).decideVersion l done)) :
    LaneRuns (.versionExchange l o lo hi boot lc false force done) s l P := by
  refine laneRuns_onLinkedNow rfl hlinked ?_
  dsimp only
  rw [if_neg ho, if_pos (by simp)]
  exact hP

end

/-- What lane `l` has of `o`'s verified exchange. -/
structure LaneSt.Exchanged (K : LaneSt) (l o : Lane) (lo hi boot lc : Nat) (L : LaneSt) : Prop where
  keeps : K.keeps (.agr :: .sec :: faultParts) L
  regs : K.keepsRegs (0x40020000 :: 0x400E0004 :: faultRegs) L
  range : nth L.agr.ranges (laneIx o) = some (lo, hi)
  boots : nth L.agr.boots (laneIx o) = some boot
  lcs : nth L.agr.lcs (laneIx o) = some lc
  pair : if o = (otherLanes l).1 then L.on Reg.SEC_KEY_STAT_PAIR_LO = true else L.on Reg.SEC_KEY_STAT_PAIR_HI = true

section
variable (L : LaneSt) (l o : Lane) (lo hi boot lc : Nat)

theorem LaneSt.completeKey_regs : L.keepsRegs [0x400E0004] (L.completeKey l o boot lc) :=
  keepsRegs_ite (keepsRegs_of_regs rfl (L.wr_keepsRegs Reg.SEC_KEY_STAT_PAIR_LO 1 (by decide)))
    (keepsRegs_of_regs rfl (L.wr_keepsRegs Reg.SEC_KEY_STAT_PAIR_HI 1 (by decide)))

theorem LaneSt.completeKey_pair : if o = (otherLanes l).1 then (L.completeKey l o boot lc).on Reg.SEC_KEY_STAT_PAIR_LO = true
    else (L.completeKey l o boot lc).on Reg.SEC_KEY_STAT_PAIR_HI = true := by
  unfold LaneSt.completeKey
  split
  · exact L.on_put_self Reg.SEC_KEY_STAT_PAIR_LO true (by decide) (by decide)
  · exact L.on_put_self Reg.SEC_KEY_STAT_PAIR_HI true (by decide) (by decide)

/-- The exchange noted, before a version is decided on. -/
theorem LaneSt.noteExchange_exchanged : L.Exchanged l o lo hi boot lc (L.noteExchange l o lo hi boot lc) where
  keeps := (frame_step (LaneSt.updAgr_frame _ _) (by decide) (frame_mono (L.completeKey_frame l o boot lc) (by decide))).1
  regs := keepsRegs_of_regs rfl (keepsRegs_mono (L.completeKey_regs l o boot lc) (by decide))
  range := nth_setNth_self _ _ _
  boots := nth_setNth_self _ _ _
  lcs := nth_setNth_self _ _ _
  pair := L.completeKey_pair l o boot lc

theorem LaneSt.noteExchange_agr : (L.noteExchange l o lo hi boot lc).agr = { L.agr with
    unverified := setNth L.agr.unverified (laneIx o) false, ranges := setNth L.agr.ranges (laneIx o) (some (lo, hi))
    boots := setNth L.agr.boots (laneIx o) (some boot), lcs := setNth L.agr.lcs (laneIx o) (some lc) } := by
  rw [noteExchange, updAgr_agr, (L.completeKey_frame l o boot lc).1 .agr (by decide)]

end

/-- A version's decision leaves the exchange as it was noted. -/
theorem LaneSt.Exchanged.decided {K L M : LaneSt} {l o : Lane} {lo hi boot lc : Nat} (h : K.Exchanged l o lo hi boot lc L)
    (hframe : L.frame faultParts M) (hregs : L.keepsRegs (0x40020000 :: faultRegs) M) : K.Exchanged l o lo hi boot lc M where
  keeps := fun p hp => by
    have hq : p ∉ faultParts := fun hq => hp (by simp [hq])
    have hbefore := h.keeps p hp
    have hafter := hframe.1 p hq
    cases p <;> exact hafter.trans hbefore
  regs := keepsRegs_trans (keepsRegs_mono hregs (by decide)) h.regs
  range := hframe.1 .agr (by decide) ▸ h.range
  boots := hframe.1 .agr (by decide) ▸ h.boots
  lcs := hframe.1 .agr (by decide) ▸ h.lcs
  pair := by
    have hpair := h.pair
    rwa [LaneSt.on, LaneSt.on, ← rd_of_keepsRegs hregs _ (by decide), ← rd_of_keepsRegs hregs Reg.SEC_KEY_STAT_PAIR_HI (by decide)]
      at hpair

/-- A report after an exchange was noted, seen from before. -/
theorem LaneSt.noteExchange_raise (L : LaneSt) (l o : Lane) (lo hi boot lc : Nat) :
    L.reported ((L.noteExchange l o lo hi boot lc).raise 0x0209) 0x0209 0xFF := by
  have hfc : (L.noteExchange l o lo hi boot lc).fc = L.fc :=
    (updAgr_fc _ _).trans ((L.completeKey_frame l o boot lc).1 .fc (by decide))
  have hregs : L.keepsRegs [0x400E0004] (L.noteExchange l o lo hi boot lc) :=
    keepsRegs_of_regs (updAgr_regs _ _) (L.completeKey_regs l o boot lc)
  exact reported_before (by decide) (by decide) hregs hfc (LaneSt.raise_reported _ _ _ (by decide))

/-- Settles O31: the exchange is noted, and then a version is taken, or decided on by what both partners have answered. -/
theorem versionExchangeTakesCommon : Obligations.VersionExchangeTakesCommon := by
  intro s l o lo hi boot v done hlinked ho old lc heard
  have hnoted := old.noteExchange_exchanged l o lo hi boot lc
  have hagr := old.noteExchange_agr l o lo hi boot lc
  have hmin : (old.noteExchange l o lo hi boot lc).agr.vmin = old.agr.vmin := by rw [hagr]
  have hmax : (old.noteExchange l o lo hi boot lc).agr.vmax = old.agr.vmax := by rw [hagr]
  have heard_of : ∀ L, old.Exchanged l o lo hi boot lc L → heard L := fun L h => ⟨h.keeps, h.regs, h.range, h.boots, h.lcs, h.pair⟩
  have htold := old.noteExchange_raise l o lo hi boot lc
  refine ⟨fun hmsk => versionExchange_verified hlinked ho rfl hmsk ?_, fun hmsk hdone hnone hunver hrange => ?_,
    versionExchange_unverified hlinked ho ?_⟩
  · refine ⟨heard_of _ (hnoted.decided (LaneSt.takeVersion_frame _ _) (LaneSt.takeVersion_regs _ _)), fun h h' => ?_, fun h => ?_⟩
    · exact LaneSt.takeVersion_inside (hmin ▸ h) (hmax ▸ h')
    · dsimp only
      rw [LaneSt.takeVersion_outside (hmin.symm ▸ hmax.symm ▸ h)]
      refine ⟨?_, htold⟩
      exact (LaneSt.rd_of_keepsRegs (LaneSt.raise_regs _ _ _ (by decide)) _ (by decide)).trans
        (LaneSt.rd_of_keepsRegs (old.completeKey_regs l o boot lc) _ (by decide))
  · subst hdone
    refine versionExchange_verified hlinked ho rfl hmsk ?_
    have hover : (old.noteExchange l o lo hi boot lc).decideVersion l true =
        (old.noteExchange l o lo hi boot lc).takeVersion (shared (lo, hi)
          ((old.noteExchange l o lo hi boot lc).agr.vmin, (old.noteExchange l o lo hi boot lc).agr.vmax)) := by
      rw [LaneSt.decideVersion_over ho (by rw [hagr]; exact nth_setNth_self _ _ _), ← settleVersion_two ho]
      simp only [hagr, hnone]
    refine ⟨heard_of _ (hnoted.decided (LaneSt.decideVersion_frame _ _ _) (LaneSt.decideVersion_regs _ _ _)), fun h => ?_, fun h => ?_⟩
    · dsimp only
      rw [hover, LaneSt.takeVersion_shared (hmin.symm ▸ hmax.symm ▸ h), hmax]
    · dsimp only
      rw [hover, LaneSt.takeVersion_disjoint (hmin.symm ▸ hmax.symm ▸ h)]
      exact htold
  · refine ⟨(LaneSt.frame_step (LaneSt.decideVersion_frame _ _ _) (by decide) (LaneSt.frame_mono (old.updAgr_frame _) (by decide))).1,
      fun h => ?_, fun h => ?_⟩
    · have hboth : ∀ x, x ≠ l → nth (old.noteUnverified o).agr.unverified (laneIx x) = true := fun x hx => by
        by_cases hxo : x = o
        · rw [hxo]
          exact nth_setNth_self _ _ _
        · exact (nth_setNth_ne _ _ (laneIx_lt o) (laneIx_lt x) (laneIx_ne hxo)).trans (h x hx hxo)
      rw [LaneSt.decideVersion_unverified hboth]
      obtain ⟨-, hregs, -, hreported⟩ := old.updAgr_raise (fun g => { g with
        unverified := setNth g.unverified (laneIx o) true, ranges := setNth g.ranges (laneIx o) none }) 0xFF (id := 0x0209) (by decide)
      exact ⟨hregs, hreported⟩
    · obtain ⟨x, hx, hxo⟩ : ∃ x, x ≠ l ∧ x ≠ o := exists_thirdLane l o
      obtain ⟨hun, hrange⟩ := h x hx hxo
      have hkept : ∀ {α : Type} (u : Tri α) (v : α), nth (setNth u (laneIx o) v) (laneIx x) = nth u (laneIx x) := fun u v =>
        nth_setNth_ne u v (laneIx_lt o) (laneIx_lt x) (laneIx_ne hxo)
      rw [LaneSt.decideVersion_awaits hx ((hkept _ _).trans hun) ((hkept _ _).trans hrange)]
      exact ⟨(old.updAgr_frame _).1, rfl⟩

end Sys2Proof.Machine

/-! ## Mailbox commands: what a request finds, and its reply (R389 to R393, R400) -/
namespace Sys2Proof.Machine

/-! ### The final reply -/

/-- The final reply of a request, a NAK or not. -/
def LaneSt.conclude (L : LaneSt) (code : Nat) (r : Req) (nak : Option Nat) (payload : List Byte) : LaneSt :=
  let p := L.replyTo code r nak false payload
  ((L.sendReply p).keepReply r p).freeInner r

section
variable (L : LaneSt) (code : Nat) (r : Req) (nak : Option Nat) (payload : List Byte)

theorem LaneSt.finish_eq : L.finish code r payload = L.conclude code r none payload := rfl

theorem LaneSt.freeInner_regs : L.keepsRegs [0x400F0000] (L.freeInner r) := keepsRegs_ite (L.wr_keepsRegs _ _ (by decide)) (L.keepsRegs_refl _)

theorem LaneSt.freeInner_mbx : (L.freeInner r).mbx = L.mbx := (L.freeInner_frame r).1 .mbx (by decide)

/-- A reply changes the mailboxes, and BUSY of mailbox 0. -/
theorem LaneSt.conclude_frame : L.frame [.regs, .mbx] (L.conclude code r nak payload) :=
  frame_step (LaneSt.freeInner_frame _ r) (by decide) (frame_step (LaneSt.keepReply_frame _ r _) (by decide)
    (frame_mono (L.sendReply_frame _) (by decide)))

theorem LaneSt.conclude_regs : L.keepsRegs [0x400F0000] (L.conclude code r nak payload) :=
  keepsRegs_trans (LaneSt.freeInner_regs _ r) (keepsRegs_of_regs rfl (L.sendReply_regs _))

/-- Of the mailboxes it changes what is sent and what is kept for a retransmission. -/
theorem LaneSt.conclude_mbx : ∃ out inner seqs,
    (L.conclude code r nak payload).mbx = { L.mbx with out := out, inner := inner, seqs := seqs } := by
  unfold LaneSt.conclude
  extract_lets p
  rw [LaneSt.freeInner_mbx]
  unfold LaneSt.keepReply LaneSt.sendReply
  split <;> exact ⟨_, _, _, rfl⟩

theorem LaneSt.replyTo_transport (more : Bool) : (L.replyTo code r nak more payload).transport = r.transport := by
  unfold LaneSt.replyTo
  extract_lets p
  exact (apply_ite Reply.transport ..).trans (ite_self _)

theorem LaneSt.conclude_inner (h : r.transport = .internal) : (L.conclude code r nak payload).on Reg.MBX_STAT_BUSY = false ∧
    (L.conclude code r nak payload).mbx.inner = L.mbx.inner ++ [L.replyTo code r nak false payload] := by
  have htransport := (L.replyTo_transport code r nak payload false).trans h
  unfold LaneSt.conclude
  extract_lets p
  refine ⟨?_, ?_⟩
  · rw [LaneSt.freeInner, if_pos h]
    exact LaneSt.on_put_self _ _ _ (by decide) (by decide)
  · rw [LaneSt.freeInner_mbx, LaneSt.sendReply, if_pos htransport]
    rfl

theorem LaneSt.conclude_out (h : r.transport ≠ .internal) :
    (L.conclude code r nak payload).mbx.out = L.mbx.out ++ [L.replyTo code r nak false payload] := by
  have htransport : (L.replyTo code r nak false payload).transport ≠ .internal := by rwa [L.replyTo_transport]
  unfold LaneSt.conclude
  extract_lets p
  rw [LaneSt.freeInner_mbx, LaneSt.sendReply, if_neg htransport]
  rfl

end

/-- A reply's tag and identifier are the same when nothing but BUSY and what is sent has changed. -/
theorem LaneSt.replyTo_congr {L M : LaneSt} (hkeeps : L.keeps [.regs, .mbx] M) (hregs : L.keepsRegs [0x400F0000] M)
    (hended : M.mbx.ended = L.mbx.ended) (code : Nat) (r : Req) (nak : Option Nat) (more : Bool) (payload : List Byte) :
    M.replyTo code r nak more payload = L.replyTo code r nak more payload := by
  have hsec : M.sec = L.sec := hkeeps .sec (by decide)
  have hid : M.rd Reg.SYS_ID_LANE = L.rd Reg.SYS_ID_LANE := rd_of_keepsRegs hregs _ (by decide)
  have hkey : M.mbxKey r.session = L.mbxKey r.session := by
    simp only [LaneSt.mbxKey, hsec, hended, hregs 0x400F000C (by decide)]
  have hcan1 : M.can1 = L.can1 := hkeeps .can1 (by decide)
  have hcan2 : M.can2 = L.can2 := hkeeps .can2 (by decide)
  have hnvm : M.nvm = L.nvm := hkeeps .nvm (by decide)
  have hresponse : ∀ c, M.responseId c = L.responseId c := fun c => by
    simp only [LaneSt.responseId, hid, hcan1, hcan2, hnvm]
  unfold LaneSt.replyTo LaneSt.mbxTag
  simp only [hid, hkey, hresponse]

/-- A final reply of a lane that had sent nothing for this request. -/
theorem LaneSt.conclude_sent {K L : LaneSt} (hout : L.mbx.out = []) (hinner : L.mbx.inner = K.mbx.inner) (code : Nat) (r : Req)
    (nak : Option Nat) (payload : List Byte) : K.sent (L.conclude code r nak payload) code r nak false payload := by
  obtain ⟨o, i, q, hmbx⟩ := L.conclude_mbx code r nak payload
  have hreply := replyTo_congr (L.conclude_frame code r nak payload).1 (L.conclude_regs code r nak payload) (by rw [hmbx])
    code r nak false payload
  unfold LaneSt.sent
  rw [hreply]
  split
  case isTrue h =>
    obtain ⟨hbusy, hsent⟩ := L.conclude_inner code r nak payload h
    exact ⟨by rw [hsent, hinner], fun _ => hbusy⟩
  case isFalse h => rw [L.conclude_out code r nak payload h, hout, List.nil_append]

/-! ### A request taken -/

/-- The lane once a request has passed every check, before it is carried out. -/
def LaneSt.taking (L : LaneSt) (code : Nat) (r : Req) (body : List Byte) (t : Nat) : LaneSt :=
  let H := L.hearing t
  let key := H.reqKey r (headerBytes code r ++ body)
  (H.noteRate key).noteReq key r (headerBytes code r ++ body) false

/-- `K` is the lane `L` with a request taken at time `t`. -/
structure LaneSt.Takes (L : LaneSt) (t : Nat) (K : LaneSt) : Prop where
  frame : L.frame [.time, .mbx] K
  time : K.time = max L.time t
  mbx : K.mbx = { L.mbx with out := [], seqs := K.mbx.seqs, rates := K.mbx.rates, lastCmd := K.mbx.lastCmd }

theorem LaneSt.taking_takes (L : LaneSt) (code : Nat) (r : Req) (body : List Byte) (t : Nat) : L.Takes t (L.taking code r body t) where
  frame := frame_step (LaneSt.noteReq_frame _ _ _ _ _) (by decide) (frame_step (LaneSt.noteRate_frame _ _) (by decide)
    (frame_step (LaneSt.updMbx_frame _ _) (by decide) (frame_mono (L.tick_frame t) (by decide))))
  time := rfl
  mbx := rfl

/-! ### The module states of a command (R400) -/

theorem stateOk_of_standby {L : LaneSt} {code : Nat} {row : CmdRow} (h : cmdRow code = some row) (hst : L.st = stStandby) :
    stateOk L code = true := by
  simp [stateOk, h, hst]

theorem stateOk_of_any {L : LaneSt} {code : Nat} {row : CmdRow} (h : cmdRow code = some row) (hrow : row.standby = false) :
    stateOk L code = true := by
  simp [stateOk, h, hrow]

theorem not_stateOk {L : LaneSt} {code : Nat} {row : CmdRow} (h : cmdRow code = some row) (hrow : row.standby = true)
    (hst : L.st ≠ stStandby) : stateOk L code = false := by
  simp [stateOk, h, hrow, hst]

/-! ### What a lane that took a request still holds -/

section
variable {L K : LaneSt} {t : Nat}

theorem LaneSt.Takes.regs (h : L.Takes t K) : K.regs = L.regs := h.frame.1 .regs (by decide)

theorem LaneSt.Takes.rd (h : L.Takes t K) (f : Fld) : K.rd f = L.rd f := rd_congr h.regs f

theorem LaneSt.Takes.on (h : L.Takes t K) (f : Fld) : K.on f = L.on f := by rw [LaneSt.on, LaneSt.on, h.rd]

theorem LaneSt.Takes.nvm (h : L.Takes t K) : K.nvm = L.nvm := h.frame.1 .nvm (by decide)

theorem LaneSt.Takes.sec (h : L.Takes t K) : K.sec = L.sec := h.frame.1 .sec (by decide)

theorem LaneSt.Takes.out (h : L.Takes t K) : K.mbx.out = [] := by rw [h.mbx]

theorem LaneSt.Takes.inner (h : L.Takes t K) : K.mbx.inner = L.mbx.inner := by rw [h.mbx]

theorem LaneSt.Takes.stateOk (h : L.Takes t K) (code : Nat) : stateOk K code = stateOk L code := by
  unfold Machine.stateOk
  rw [LaneSt.st, LaneSt.st, h.rd]

/-- A lane that only answers a request taken. -/
theorem LaneSt.Takes.refuse (h : L.Takes t K) (code : Nat) (r : Req) (nak detail : Nat) :
    L.onlyAnswered (K.refuse code r nak detail) ∧ L.nakked (K.refuse code r nak detail) code r nak detail :=
  ⟨⟨(frame_step (K.conclude_frame _ _ _ _) (by decide) (frame_mono h.frame (by decide))).1,
    keepsRegs_trans (K.conclude_regs _ _ _ _) (keepsRegs_same h.regs)⟩, conclude_sent h.out h.inner _ _ _ _⟩

end

section
variable {c : Instr} {s : State} {l : Lane} {code t : Nat} {r : Req} {body : List Byte} {f : LaneSt → LaneSt}

theorem LaneSt.receive_accepted {L : LaneSt} (h : L.accepts l code r body t) :
    (L.tick t).receive l code r body f = f (L.taking code r body t) := by
  obtain ⟨-, hreaches, hverdict⟩ := h
  unfold LaneSt.receive
  extract_lets M msg key N
  have hreaches' : M.reaches l code r body = true := hreaches
  have hverdict' : N.verdict (cmdRow code) code key r body = .go := hverdict
  rw [if_neg (by simp [hreaches']), hverdict']
  rfl

/-- A command whose request is accepted, in a state in which the table allows it. -/
theorem laneRuns_laneCmd {P : LaneSt → Prop} (h : exec c s = laneCmd l code r body t s f) (ha : (s.lane l).accepts l code r body t)
    (hst : stateOk (s.lane l) code = true) (hP : ∀ K, (s.lane l).Takes t K → P (f K)) : LaneRuns c s l P := by
  have htakes := (s.lane l).taking_takes code r body t
  refine laneRuns_onLane h ha.1 ?_
  rw [LaneSt.receive_accepted ha, if_pos ((htakes.stateOk code).trans hst)]
  exact hP _ htakes

/-- A command that the lane answers by a NAK and does nothing else. -/
theorem laneRuns_naks {nak detail : Nat} (h : exec c s = laneCmd l code r body t s f) (ha : (s.lane l).accepts l code r body t)
    (hst : stateOk (s.lane l) code = true) (hf : ∀ K, (s.lane l).Takes t K → f K = K.refuse code r nak detail) :
    LaneRuns c s l fun L => (s.lane l).onlyAnswered L ∧ (s.lane l).nakked L code r nak detail :=
  laneRuns_laneCmd h ha hst fun K hK => by
    rw [hf K hK]
    exact hK.refuse code r nak detail

/-- A command in a state that the table excludes. -/
theorem laneRuns_nakState (h : exec c s = laneCmd l code r body t s f) (ha : (s.lane l).accepts l code r body t)
    (hst : stateOk (s.lane l) code = false) :
    LaneRuns c s l fun L => (s.lane l).onlyAnswered L ∧ (s.lane l).nakked L code r nakState (s.lane l).st := by
  have htakes := (s.lane l).taking_takes code r body t
  refine laneRuns_onLane h ha.1 ?_
  rw [LaneSt.receive_accepted ha, if_neg (by rw [htakes.stateOk, hst]; decide)]
  exact htakes.refuse code r nakState (s.lane l).st

end

end Sys2Proof.Machine

/-! ## Image and firmware loads (R93, R97 to R103, R400) -/
namespace Sys2Proof.Machine

/-! ### Memory -/

/-- A byte after a run of bytes was stored. -/
theorem LaneSt.byte_setBytes (L : LaneSt) (a : Nat) (bs : List Byte) (b : Nat) :
    (L.setBytes a bs).byte b = if a ≤ b ∧ b < a + bs.length then bs.getD (b - a) 0#8 else L.byte b := by
  induction bs generalizing L a with
  | nil => exact (if_neg (by simp)).symm
  | cons x bs ih =>
    rw [LaneSt.setBytes, ih]
    by_cases hb : b = a
    · subst hb
      simp
    · rw [LaneSt.byte_setByte_ne _ _ _ _ hb]
      by_cases hin : a + 1 ≤ b ∧ b < a + 1 + bs.length
      · rw [if_pos hin, if_pos (by rw [List.length_cons]; omega), show b - a = b - (a + 1) + 1 by omega, List.getD_cons_succ]
      · rw [if_neg hin, if_neg (by rw [List.length_cons]; omega)]

/-- A byte after a range was erased. -/
theorem LaneSt.byte_eraseMem (L : LaneSt) (a n b : Nat) :
    (L.eraseMem a n).byte b = if a ≤ b ∧ b < a + n then memDefault b else L.byte b := by
  refine (cellGet_filter_addr memDefault (fun e => decide (e < a) || decide (a + n ≤ e)) L.mem b).trans ?_
  by_cases h : a ≤ b ∧ b < a + n
  · rw [if_pos h, if_neg (by simp; omega)]
  · rw [if_neg h, if_pos (by simp; omega)]
    rfl

/-- An erased byte outside the boot ROM and the record of bank A reads 0 (log entry 2). -/
theorem memDefault_zero {a : Nat} (hrom : 0x10000 ≤ a) (hstate : a ≠ 0x106B0000) (hseq : a ≠ 0x106B0004) : memDefault a = 0#8 := by
  rw [memDefault, if_neg (by omega), if_neg hstate, if_neg hseq]

/-! ### Slots and banks -/

theorem LaneSt.slot_of_nvm {L M : LaneSt} (h : M.nvm = L.nvm) (b : Bool) : M.slot b = L.slot b := by rw [LaneSt.slot, LaneSt.slot, h]

theorem LaneSt.bank_of_nvm {L M : LaneSt} (h : M.nvm = L.nvm) (b : Bool) : M.bank b = L.bank b := by rw [LaneSt.bank, LaneSt.bank, h]

theorem LaneSt.byte_of_mem {L M : LaneSt} (h : M.mem = L.mem) (a : Nat) : M.byte a = L.byte a := by rw [LaneSt.byte, LaneSt.byte, h]

/-- What a bank's record keeps of `x`: SEQUENCE has 32 bits, SVN 16 (R93). -/
def Bank.kept (x : Bank) : Bank := { x with seq := x.seq % 0x100000000, svn := x.svn % 0x10000 }

theorem Bank.wire_length (x : Bank) : x.wire.length = 8 := rfl

section
variable (L : LaneSt) (b : Bool)

theorem LaneSt.slot_setSlot (x : Slot) : (L.setSlot b x).slot b = x ∧ (L.setSlot b x).slot (!b) = L.slot (!b) := by
  cases b <;> exact ⟨rfl, rfl⟩

/-- A bank's replacement, before its record is written. -/
def LaneSt.putBank (x : Bank) : LaneSt :=
  if b then { L with nvm := { L.nvm with bankB := x.kept } } else { L with nvm := { L.nvm with bankA := x.kept } }

theorem LaneSt.setBank_eq (x : Bank) : L.setBank b x = (L.putBank b x).setBytes (bankRecAt b) x.kept.wire := rfl

theorem LaneSt.setBank_mbx (x : Bank) : (L.setBank b x).mbx = L.mbx := (L.setBank_frame b x).1 .mbx (by decide)

theorem LaneSt.bank_setBank (x : Bank) : (L.setBank b x).bank b = x.kept ∧ (L.setBank b x).bank (!b) = L.bank (!b) := by
  have hnvm : (L.setBank b x).nvm = (L.putBank b x).nvm := (LaneSt.setBytes_frame _ _ _).1 .nvm (by decide)
  rw [bank_of_nvm hnvm, bank_of_nvm hnvm]
  cases b <;> exact ⟨rfl, rfl⟩

/-- The bank's record is rewritten, and nothing else of the memory. -/
theorem LaneSt.byte_setBank (x : Bank) (a : Nat) : (L.setBank b x).byte a =
    if bankRecAt b ≤ a ∧ a < bankRecAt b + 8 then ((L.setBank b x).bank b).wire.getD (a - bankRecAt b) 0#8 else L.byte a := by
  have hmem : (L.putBank b x).mem = L.mem := by cases b <;> rfl
  rw [(L.bank_setBank b x).1, LaneSt.setBank_eq, LaneSt.byte_setBytes, Bank.wire_length, byte_of_mem hmem]

end

/-! ### Checks of an image (R98) -/

section
variable {L M : LaneSt} (hmem : M.mem = L.mem)
include hmem

theorem LaneSt.bytes_of_mem (a n : Nat) : M.bytes a n = L.bytes a n := by
  simp only [LaneSt.bytes, LaneSt.byte_of_mem hmem]

theorem LaneSt.imageOk_congr (hregs : M.regs = L.regs) (hsec : M.sec = L.sec) (b : Bool) (f : ImgFacts) :
    M.imageOk b f = L.imageOk b f := by
  have howner : M.on Reg.SEC_KEY_STAT_OWNER = L.on Reg.SEC_KEY_STAT_OWNER := by rw [LaneSt.on, LaneSt.on, rd_congr hregs]
  simp only [LaneSt.imageOk, LaneSt.imgHeadOk, LaneSt.imgDigestOk, LaneSt.imgOwnerOk, LaneSt.imgModuleOk, LaneSt.imgGroupsOk,
    LaneSt.imgDigestBytes, LaneSt.imgLength, LaneSt.imgGroups, LaneSt.imgNum, bytes_of_mem hmem, howner, hsec]
  rfl

theorem LaneSt.imgDigestBytes_congr (b : Bool) : M.imgDigestBytes b = L.imgDigestBytes b := by
  simp only [LaneSt.imgDigestBytes, LaneSt.imgLength, LaneSt.imgNum, bytes_of_mem hmem]

theorem LaneSt.imgChanged_congr (hforce : M.nvm.inForce = L.nvm.inForce) (hchosen : M.nvm.chosen = L.nvm.chosen) (b : Bool) :
    M.imgChanged b = L.imgChanged b := by
  have hgroup : ∀ x g, M.groupBytes x g = L.groupBytes x g := fun x g => by
    simp only [LaneSt.groupBytes, LaneSt.imgGroups, LaneSt.imgNum, bytes_of_mem hmem]
  simp only [LaneSt.imgChanged, hgroup, hforce, hchosen]

end

/-! ### A load's reply -/

/-- `M` is the lane `K` with its load changed. -/
structure LaneSt.LoadsTo (L M : LaneSt) : Prop where
  frame : L.frame [.nvm, .mem, .time, .mbx] M
  out : M.mbx.out = []
  inner : M.mbx.inner = L.mbx.inner

section
variable {L K M : LaneSt} {t : Nat}

/-- What the Shepherd does to a load, on the lane that took the request. -/
theorem LaneSt.Takes.loadsTo (h : L.Takes t K) (hframe : K.frame [.nvm, .mem, .mbx] M) (hout : M.mbx.out = K.mbx.out)
    (hinner : M.mbx.inner = K.mbx.inner) : L.LoadsTo M :=
  ⟨frame_step hframe (by decide) (frame_mono h.frame (by decide)), hout.trans h.out, hinner.trans h.inner⟩

/-- The same when the mailboxes hold what they held. -/
theorem LaneSt.Takes.loadsTo_of_frame (h : L.Takes t K) (hframe : K.frame [.nvm, .mem] M) : L.LoadsTo M :=
  have hmbx : M.mbx = K.mbx := hframe.1 .mbx (by decide)
  h.loadsTo (frame_mono hframe (by decide)) (by rw [hmbx]) (by rw [hmbx])

/-- The reply leaves the load as it is. -/
theorem LaneSt.LoadsTo.finish (h : L.LoadsTo M) (code : Nat) (r : Req) (payload : List Byte) :
    (L.keeps (.nvm :: .mem :: askParts) (M.finish code r payload) ∧ L.keepsRegs [0x400F0000] (M.finish code r payload)) ∧
      L.replied (M.finish code r payload) code r payload :=
  ⟨⟨(frame_step (M.finish_frame _ _ _) (by decide) (frame_mono h.frame (by decide))).1,
    keepsRegs_trans (M.conclude_regs _ _ _ _) (keepsRegs_same (h.frame.1 .regs (by decide)))⟩, conclude_sent h.out h.inner _ _ _ _⟩

end

section
variable (M : LaneSt) (code : Nat) (r : Req) (payload : List Byte)

theorem LaneSt.finish_nvm : (M.finish code r payload).nvm = M.nvm := (M.finish_frame code r payload).1 .nvm (by decide)

theorem LaneSt.finish_mem : (M.finish code r payload).mem = M.mem := (M.finish_frame code r payload).1 .mem (by decide)

theorem LaneSt.finish_slot (b : Bool) : (M.finish code r payload).slot b = M.slot b := slot_of_nvm (M.finish_nvm code r payload) b

theorem LaneSt.finish_bank (b : Bool) : (M.finish code r payload).bank b = M.bank b := bank_of_nvm (M.finish_nvm code r payload) b

theorem LaneSt.finish_byte (a : Nat) : (M.finish code r payload).byte a = M.byte a := byte_of_mem (M.finish_mem code r payload) a

theorem LaneSt.finish_loads : (M.finish code r payload).mbx.img = M.mbx.img ∧ (M.finish code r payload).mbx.fw = M.mbx.fw := by
  obtain ⟨_, _, _, hmbx⟩ := M.conclude_mbx code r none payload
  rw [LaneSt.finish_eq, hmbx]
  exact ⟨rfl, rfl⟩

end

/-! ### Images (R97 to R102) -/

/-- IMG_BEGIN: slot `b` erased and EMPTY. -/
def LaneSt.beginImage (K : LaneSt) (b : Bool) (n : Nat) : LaneSt :=
  (((K.eraseMem (slotBase b) 0x40000).eraseSlotRec b).setSlot b { Slot.blank with len := n }).updMbx fun m => { m with img := some b }

section
variable (K : LaneSt) (b : Bool) (n : Nat)

theorem LaneSt.beginImage_frame : K.frame [.nvm, .mem, .mbx] (K.beginImage b n) :=
  frame_step (LaneSt.updMbx_frame _ _) (by decide) (frame_step (LaneSt.setSlot_frame _ _ _) (by decide)
    (frame_step (LaneSt.eraseSlotRec_frame _ _) (by decide) (frame_mono (K.eraseMem_frame _ _) (by decide))))

theorem LaneSt.beginImage_mbx : (K.beginImage b n).mbx = { K.mbx with img := some b } := by cases b <;> rfl

theorem LaneSt.beginImage_slot : (K.beginImage b n).slot b = { Slot.blank with len := n } ∧ (K.beginImage b n).slot (!b) = K.slot (!b) := by
  cases b <;> exact ⟨rfl, rfl⟩

theorem LaneSt.beginImage_byte (a : Nat) : (K.beginImage b n).byte a =
    if slotBase b ≤ a ∧ a < slotBase b + 0x40000 ∨ slotRecAt b ≤ a ∧ a < slotRecAt b + 40 then 0#8 else K.byte a := by
  have hmem : (K.beginImage b n).mem = ((K.eraseMem (slotBase b) 0x40000).eraseSlotRec b).mem :=
    (updMbx_mem _ _).trans ((LaneSt.setSlot_frame _ _ _).1 .mem (by decide))
  have hbase : (slotBase b = 0x10600000 ∧ slotRecAt b = 0x106B1000) ∨ (slotBase b = 0x10640000 ∧ slotRecAt b = 0x106B1040) := by
    cases b <;> simp [slotBase, slotRecAt]
  rw [byte_of_mem hmem, LaneSt.eraseSlotRec, LaneSt.byte_eraseMem, LaneSt.byte_eraseMem]
  by_cases hrec : slotRecAt b ≤ a ∧ a < slotRecAt b + 40
  · rw [if_pos hrec, if_pos (.inr hrec), memDefault_zero (by omega) (by omega) (by omega)]
  · by_cases hslot : slotBase b ≤ a ∧ a < slotBase b + 0x40000
    · rw [if_neg hrec, if_pos hslot, if_pos (.inl hslot), memDefault_zero (by omega) (by omega) (by omega)]
    · rw [if_neg hrec, if_neg hslot, if_neg (by tauto)]

end

/-- IMG_WRITE: the bytes stored, and what a verification gave no longer holds. -/
def LaneSt.writeImage (K : LaneSt) (b : Bool) (o : Nat) (d : List Byte) : LaneSt :=
  (K.setBytes (slotBase b + o) d).setSlot b { K.slot b with facts := none }

theorem LaneSt.writeImage_frame (K : LaneSt) (b : Bool) (o : Nat) (d : List Byte) : K.frame [.nvm, .mem] (K.writeImage b o d) :=
  frame_step (LaneSt.setSlot_frame _ _ _) (by decide) (frame_mono (K.setBytes_frame _ _) (by decide))

theorem LaneSt.writeImage_slot (K : LaneSt) (b : Bool) (o : Nat) (d : List Byte) :
    (K.writeImage b o d).slot b = { K.slot b with facts := none } ∧ (K.writeImage b o d).slot (!b) = K.slot (!b) := by
  obtain ⟨hself, hother⟩ := (K.setBytes (slotBase b + o) d).slot_setSlot b { K.slot b with facts := none }
  exact ⟨hself, hother.trans (slot_of_nvm ((K.setBytes_frame _ _).1 .nvm (by decide)) _)⟩

theorem LaneSt.writeImage_byte (K : LaneSt) (b : Bool) (o : Nat) (d : List Byte) (a : Nat) : (K.writeImage b o d).byte a =
    if slotBase b + o ≤ a ∧ a < slotBase b + o + d.length then d.getD (a - slotBase b - o) 0#8 else K.byte a := by
  rw [Nat.sub_sub, ← LaneSt.byte_setBytes]
  exact byte_of_mem ((LaneSt.setSlot_frame _ _ _).1 .mem (by decide)) a

/-- IMG_VERIFY: the slot's facts, and 0x0D01 for an image that is not valid. -/
def LaneSt.verifyImage (K : LaneSt) (b : Bool) (f : ImgFacts) : LaneSt :=
  (K.setSlot b { K.slot b with facts := if K.imageOk b f then some f else none }).raiseIf (!K.imageOk b f) 0x0D01

section
variable (K : LaneSt) (b : Bool) (f : ImgFacts)

theorem LaneSt.verifyImage_frame : K.frame (.nvm :: faultParts) (K.verifyImage b f) :=
  frame_step (LaneSt.raiseIf_frame _ _ _ _) (by decide) (frame_mono (K.setSlot_frame _ _) (by decide))

theorem LaneSt.verifyImage_nvm :
    (K.verifyImage b f).nvm = (K.setSlot b { K.slot b with facts := if K.imageOk b f then some f else none }).nvm :=
  (LaneSt.raiseIf_frame _ _ _ _).1 .nvm (by decide)

theorem LaneSt.verifyImage_slot : (K.verifyImage b f).slot b = { K.slot b with facts := if K.imageOk b f then some f else none } ∧
    (K.verifyImage b f).slot (!b) = K.slot (!b) := by
  rw [slot_of_nvm (K.verifyImage_nvm b f), slot_of_nvm (K.verifyImage_nvm b f)]
  exact K.slot_setSlot b _

/-- The reply tells the image as it was before. -/
theorem LaneSt.verifyImage_shows : (K.verifyImage b f).imgDigestBytes b = K.imgDigestBytes b ∧
    (K.verifyImage b f).imgChanged b = K.imgChanged b := by
  have hmem : (K.verifyImage b f).mem = K.mem := (K.verifyImage_frame b f).1 .mem (by decide)
  have hnvm : ∀ x, (K.setSlot b x).nvm.inForce = K.nvm.inForce ∧ (K.setSlot b x).nvm.chosen = K.nvm.chosen := fun x => by
    cases b <;> exact ⟨rfl, rfl⟩
  refine ⟨imgDigestBytes_congr hmem b, imgChanged_congr hmem ?_ ?_ b⟩
  · rw [K.verifyImage_nvm]
    exact (hnvm _).1
  · rw [K.verifyImage_nvm]
    exact (hnvm _).2

theorem LaneSt.verifyImage_told (h : K.imageOk b f = false) : K.reported (K.verifyImage b f) 0x0D01 0xFF := by
  have hframe := K.setSlot_frame b { K.slot b with facts := if K.imageOk b f then some f else none }
  unfold LaneSt.verifyImage
  rw [h] at hframe ⊢
  exact reported_before (rs := []) (by decide) (by decide) (keepsRegs_same (hframe.1 .regs (by decide))) (hframe.1 .fc (by decide))
    (LaneSt.raise_reported _ _ _ (by decide))

end

/-! ### Firmware banks (R93, R94) -/

/-- FW_BEGIN: bank `b` EMPTY. -/
def LaneSt.beginBank (K : LaneSt) (b : Bool) (n svn : Nat) : LaneSt :=
  (K.setBank b { Bank.blank with svn := svn, len := n }).updMbx fun m => { m with fw := some b }

theorem LaneSt.beginBank_frame (K : LaneSt) (b : Bool) (n svn : Nat) : K.frame [.nvm, .mem, .mbx] (K.beginBank b n svn) :=
  frame_step (LaneSt.updMbx_frame _ _) (by decide) (frame_mono (K.setBank_frame _ _) (by decide))

theorem LaneSt.beginBank_mbx (K : LaneSt) (b : Bool) (n svn : Nat) : (K.beginBank b n svn).mbx = { K.mbx with fw := some b } :=
  congrArg (fun m : MbxSt => { m with fw := some b }) (K.setBank_mbx b _)

theorem LaneSt.beginBank_bank (K : LaneSt) (b : Bool) (n svn : Nat) :
    (K.beginBank b n svn).bank b = { Bank.blank with svn := svn % 0x10000, len := n } ∧ (K.beginBank b n svn).bank (!b) = K.bank (!b) := by
  have hbank : ∀ c, (K.beginBank b n svn).bank c = (K.setBank b { Bank.blank with svn := svn, len := n }).bank c := fun c =>
    bank_of_nvm (updMbx_nvm _ _) c
  rw [hbank, hbank]
  exact K.bank_setBank b _

theorem LaneSt.beginBank_byte (K : LaneSt) (b : Bool) (n svn a : Nat) : (K.beginBank b n svn).byte a =
    if bankRecAt b ≤ a ∧ a < bankRecAt b + 8 then ((K.beginBank b n svn).bank b).wire.getD (a - bankRecAt b) 0#8 else K.byte a := by
  have hnvm : (K.beginBank b n svn).nvm = (K.setBank b { Bank.blank with svn := svn, len := n }).nvm := updMbx_nvm _ _
  have hmem : (K.beginBank b n svn).mem = (K.setBank b { Bank.blank with svn := svn, len := n }).mem := updMbx_mem _ _
  rw [bank_of_nvm hnvm, byte_of_mem hmem]
  exact K.byte_setBank b _ a

/-- FW_WRITE: the bytes stored, and the bank is not verified any more. -/
def LaneSt.writeBank (K : LaneSt) (b : Bool) (o : Nat) (d : List Byte) : LaneSt :=
  (K.setBytes (bankBase b + o) d).setBank b { K.bank b with verified := false }

theorem LaneSt.writeBank_frame (K : LaneSt) (b : Bool) (o : Nat) (d : List Byte) : K.frame [.nvm, .mem] (K.writeBank b o d) :=
  frame_step (LaneSt.setBank_frame _ _ _) (by decide) (frame_mono (K.setBytes_frame _ _) (by decide))

theorem LaneSt.writeBank_bank (K : LaneSt) (b : Bool) (o : Nat) (d : List Byte) :
    (K.writeBank b o d).bank b = Bank.kept { K.bank b with verified := false } ∧ (K.writeBank b o d).bank (!b) = K.bank (!b) := by
  obtain ⟨hself, hother⟩ := (K.setBytes (bankBase b + o) d).bank_setBank b { K.bank b with verified := false }
  exact ⟨hself, hother.trans (bank_of_nvm ((K.setBytes_frame _ _).1 .nvm (by decide)) _)⟩

theorem LaneSt.writeBank_byte (K : LaneSt) (b : Bool) (o : Nat) (d : List Byte) (a : Nat) : (K.writeBank b o d).byte a =
    if bankRecAt b ≤ a ∧ a < bankRecAt b + 8 then ((K.writeBank b o d).bank b).wire.getD (a - bankRecAt b) 0#8
    else if bankBase b + o ≤ a ∧ a < bankBase b + o + d.length then d.getD (a - bankBase b - o) 0#8 else K.byte a := by
  rw [Nat.sub_sub, ← LaneSt.byte_setBytes]
  exact LaneSt.byte_setBank _ b _ a

/-- FW_VERIFY: what the signature and the rollback counter say of the bank. -/
def LaneSt.verifyBank (K : LaneSt) (b : Bool) (f : FwFacts) : LaneSt :=
  K.setBank b { K.bank b with verified := f.sigOk && decide (K.nvm.rollback ≤ f.svn), svn := f.svn, digest := f.digest }

section
variable (K : LaneSt) (b : Bool) (f : FwFacts)

theorem LaneSt.verifyBank_frame : K.frame [.nvm, .mem] (K.verifyBank b f) := frame_mono (K.setBank_frame b _) (by decide)

theorem LaneSt.verifyBank_bank : (K.verifyBank b f).bank b = Bank.kept { K.bank b with
      verified := f.sigOk && decide (K.nvm.rollback ≤ f.svn), svn := f.svn, digest := f.digest } ∧
    (K.verifyBank b f).bank (!b) = K.bank (!b) := K.bank_setBank b _

theorem LaneSt.verifyBank_byte (a : Nat) : (K.verifyBank b f).byte a =
    if bankRecAt b ≤ a ∧ a < bankRecAt b + 8 then ((K.verifyBank b f).bank b).wire.getD (a - bankRecAt b) 0#8 else K.byte a :=
  K.byte_setBank b _ a

end

/-! ### What the commands make of the lane that took them -/

section
variable {L K : LaneSt} {t : Nat} (h : L.Takes t K)
include h

theorem LaneSt.Takes.slot (b : Bool) : K.slot b = L.slot b := slot_of_nvm h.nvm b

theorem LaneSt.Takes.bank (b : Bool) : K.bank b = L.bank b := bank_of_nvm h.nvm b

theorem LaneSt.Takes.img : K.mbx.img = L.mbx.img := by rw [h.mbx]

theorem LaneSt.Takes.fw : K.mbx.fw = L.mbx.fw := by rw [h.mbx]

theorem LaneSt.Takes.mem : K.mem = L.mem := h.frame.1 .mem (by decide)

theorem LaneSt.Takes.byte (a : Nat) : K.byte a = L.byte a := byte_of_mem h.mem a

variable (code : Nat) (r : Req) (payload : List Byte)

theorem LaneSt.Takes.beginImage (b : Bool) (n : Nat) : let M := (K.beginImage b n).finish code r payload
    (L.keeps (.nvm :: .mem :: askParts) M ∧ L.keepsRegs [0x400F0000] M) ∧ L.replied M code r payload ∧
      M.mbx.img = some b ∧ M.slot b = { Slot.blank with len := n } ∧ M.slot (!b) = L.slot (!b) ∧ ∀ a, M.byte a =
        if slotBase b ≤ a ∧ a < slotBase b + 0x40000 ∨ slotRecAt b ≤ a ∧ a < slotRecAt b + 40 then 0#8 else L.byte a := by
  have hmbx := K.beginImage_mbx b n
  obtain ⟨hkept, hreplied⟩ := (h.loadsTo (K.beginImage_frame b n) (by rw [hmbx]) (by rw [hmbx])).finish code r payload
  obtain ⟨hself, hother⟩ := K.beginImage_slot b n
  refine ⟨hkept, hreplied, (finish_loads _ _ _ _).1.trans (by rw [hmbx]), ?_, ?_, fun a => ?_⟩
  · rw [finish_slot, hself]
  · rw [finish_slot, hother, h.slot]
  · rw [finish_byte, beginImage_byte, h.byte]

theorem LaneSt.Takes.writeImage (b : Bool) (o : Nat) (d : List Byte) : let M := (K.writeImage b o d).finish code r payload
    (L.keeps (.nvm :: .mem :: askParts) M ∧ L.keepsRegs [0x400F0000] M) ∧ L.replied M code r payload ∧
      M.slot b = { L.slot b with facts := none } ∧ M.slot (!b) = L.slot (!b) ∧ ∀ a, M.byte a =
        if slotBase b + o ≤ a ∧ a < slotBase b + o + d.length then d.getD (a - slotBase b - o) 0#8 else L.byte a := by
  obtain ⟨hkept, hreplied⟩ := (h.loadsTo_of_frame (K.writeImage_frame b o d)).finish code r payload
  obtain ⟨hself, hother⟩ := K.writeImage_slot b o d
  refine ⟨hkept, hreplied, ?_, ?_, fun a => ?_⟩
  · rw [finish_slot, hself, h.slot]
  · rw [finish_slot, hother, h.slot]
  · rw [finish_byte, writeImage_byte, h.byte]

theorem LaneSt.Takes.imageOk (b : Bool) (f : ImgFacts) : K.imageOk b f = L.imageOk b f := imageOk_congr h.mem h.regs h.sec b f

theorem LaneSt.Takes.verifyImage (b : Bool) (f : ImgFacts) : let M := (K.verifyImage b f).finish code r payload
    L.keeps (.nvm :: .time :: .mbx :: faultParts) M ∧ M.slot b = { L.slot b with facts := if L.imageOk b f then some f else none } ∧
      M.slot (!b) = L.slot (!b) ∧ (L.imageOk b f = false → L.reported M 0x0D01 0xFF) ∧ L.replied M code r payload := by
  have hframe := K.verifyImage_frame b f
  have hmbx : (K.verifyImage b f).mbx = K.mbx := hframe.1 .mbx (by decide)
  obtain ⟨hself, hother⟩ := K.verifyImage_slot b f
  refine ⟨(frame_step (finish_frame _ _ _ _) (by decide) (frame_step hframe (by decide) (frame_mono h.frame (by decide)))).1,
    ?_, ?_, fun hbad => ?_, conclude_sent (by rw [hmbx, h.out]) (by rw [hmbx, h.inner]) _ _ _ _⟩
  · rw [finish_slot, hself, h.slot, h.imageOk]
  · rw [finish_slot, hother, h.slot]
  · have htold := K.verifyImage_told b f (by rw [h.imageOk, hbad])
    exact reported_before (rs := []) (by decide) (by decide) (keepsRegs_same h.regs) (h.frame.1 .fc (by decide))
      (reported_after (by decide) (by decide) (conclude_regs _ _ _ _ _) htold)

theorem LaneSt.Takes.beginBank (b : Bool) (n svn : Nat) : let M := (K.beginBank b n svn).finish code r payload
    (L.keeps (.nvm :: .mem :: askParts) M ∧ L.keepsRegs [0x400F0000] M) ∧ L.replied M code r payload ∧ M.mbx.fw = some b ∧
      M.bank b = { Bank.blank with svn := svn % 0x10000, len := n } ∧ M.bank (!b) = L.bank (!b) ∧ ∀ a, M.byte a =
        if bankRecAt b ≤ a ∧ a < bankRecAt b + 8 then (M.bank b).wire.getD (a - bankRecAt b) 0#8 else L.byte a := by
  have hmbx := K.beginBank_mbx b n svn
  obtain ⟨hkept, hreplied⟩ := (h.loadsTo (K.beginBank_frame b n svn) (by rw [hmbx]) (by rw [hmbx])).finish code r payload
  obtain ⟨hself, hother⟩ := K.beginBank_bank b n svn
  refine ⟨hkept, hreplied, (finish_loads _ _ _ _).2.trans (by rw [hmbx]), ?_, ?_, fun a => ?_⟩
  · rw [finish_bank, hself]
  · rw [finish_bank, hother, h.bank]
  · rw [finish_byte, finish_bank, beginBank_byte, h.byte]

theorem LaneSt.Takes.writeBank (b : Bool) (o : Nat) (d : List Byte) : let M := (K.writeBank b o d).finish code r payload
    (L.keeps (.nvm :: .mem :: askParts) M ∧ L.keepsRegs [0x400F0000] M) ∧ L.replied M code r payload ∧
      M.bank b = Bank.kept { L.bank b with verified := false } ∧ M.bank (!b) = L.bank (!b) ∧ ∀ a, M.byte a =
        if bankRecAt b ≤ a ∧ a < bankRecAt b + 8 then (M.bank b).wire.getD (a - bankRecAt b) 0#8
        else if bankBase b + o ≤ a ∧ a < bankBase b + o + d.length then d.getD (a - bankBase b - o) 0#8 else L.byte a := by
  obtain ⟨hkept, hreplied⟩ := (h.loadsTo_of_frame (K.writeBank_frame b o d)).finish code r payload
  obtain ⟨hself, hother⟩ := K.writeBank_bank b o d
  refine ⟨hkept, hreplied, ?_, ?_, fun a => ?_⟩
  · rw [finish_bank, hself, h.bank]
  · rw [finish_bank, hother, h.bank]
  · rw [finish_byte, finish_bank, writeBank_byte, h.byte]

theorem LaneSt.Takes.verifyBank (b : Bool) (f : FwFacts) : let M := (K.verifyBank b f).finish code r payload
    (L.keeps (.nvm :: .mem :: askParts) M ∧ L.keepsRegs [0x400F0000] M) ∧
      M.bank b = Bank.kept { L.bank b with
        verified := f.sigOk && decide (L.nvm.rollback ≤ f.svn), svn := f.svn, digest := f.digest } ∧
      M.bank (!b) = L.bank (!b) ∧ (∀ a, M.byte a =
        if bankRecAt b ≤ a ∧ a < bankRecAt b + 8 then (M.bank b).wire.getD (a - bankRecAt b) 0#8 else L.byte a) ∧
      L.replied M code r payload := by
  obtain ⟨hkept, hreplied⟩ := (h.loadsTo_of_frame (K.verifyBank_frame b f)).finish code r payload
  obtain ⟨hself, hother⟩ := K.verifyBank_bank b f
  refine ⟨hkept, ?_, ?_, fun a => ?_, hreplied⟩
  · rw [finish_bank, hself, h.bank, h.nvm]
  · rw [finish_bank, hother, h.bank]
  · rw [finish_byte, finish_bank, verifyBank_byte, h.byte]

end

/-! ### The commands -/

/-- A byte that tells one of two values. -/
theorem leBytes_ite (c : Prop) [Decidable c] (m n : Nat) :
    leBytes 1 (if c then m else n) = [if c then BitVec.ofNat 8 m else BitVec.ofNat 8 n] := by
  split <;> rfl

section
variable {s : State} {l : Lane} {r : Req} {t : Nat} {P : LaneSt → Prop} (hst : (s.lane l).st = stStandby)
include hst

theorem imgBegin_runs {n : Nat} (hn : n ≤ 0x40000) (ha : (s.lane l).accepts l 0x0300 r (leBytes 4 n) t)
    (hP : ∀ K b, (s.lane l).Takes t K → b = ((s.lane l).nvm.chosen == some false) →
      P ((K.beginImage b n).finish 0x0300 r [if b then 1#8 else 0#8])) : LaneRuns (.imgBegin l r n t) s l P :=
  laneRuns_laneCmd rfl ha (stateOk_of_standby rfl hst) fun K hK => by
    rw [if_neg (by omega)]
    dsimp only
    rw [leBytes_ite]
    exact hP K K.freeSlot hK (by rw [LaneSt.freeSlot, hK.nvm])

theorem imgWrite_runs {o : Nat} {d : List Byte} {b : Bool} (himg : (s.lane l).mbx.img = some b)
    (hfits : o + d.length ≤ ((s.lane l).slot b).len) (ha : (s.lane l).accepts l 0x0301 r (leBytes 4 o ++ d) t)
    (hP : ∀ K, (s.lane l).Takes t K → P ((K.writeImage b o d).finish 0x0301 r [])) : LaneRuns (.imgWrite l r o d t) s l P :=
  laneRuns_laneCmd rfl ha (stateOk_of_standby rfl hst) fun K hK => by
    simp only [hK.img.trans himg]
    rw [if_neg (by rw [hK.slot]; omega)]
    exact hP K hK

theorem imgVerify_runs {b : Bool} {f : ImgFacts} (himg : (s.lane l).mbx.img = some b) (ha : (s.lane l).accepts l 0x0302 r [] t)
    (hP : ∀ K, (s.lane l).Takes t K → P ((K.verifyImage b f).finish 0x0302 r ([if (s.lane l).imageOk b f then 1#8 else 0#8] ++
      (s.lane l).imgDigestBytes b ++ leBytes 2 ((s.lane l).imgChanged b).toNat ++
        [if (s.lane l).imgChanged b &&& safetyGroups = 0#16 then 0#8 else 1#8]))) : LaneRuns (.imgVerify l r f t) s l P :=
  laneRuns_laneCmd rfl ha (stateOk_of_standby rfl hst) fun K hK => by
    obtain ⟨hdigest, hchanged⟩ := K.verifyImage_shows b f
    rw [LaneSt.imgDigestBytes_congr hK.mem] at hdigest
    rw [LaneSt.imgChanged_congr hK.mem (by rw [hK.nvm]) (by rw [hK.nvm])] at hchanged
    have hrun := hP K hK
    rw [← hdigest, ← hchanged, ← hK.imageOk] at hrun
    simp only [hK.img, himg, leBytes_ite]
    exact hrun

theorem fwBegin_runs {n svn : Nat} (hn : n ≤ 0x300000) (ha : (s.lane l).accepts l 0x0600 r (leBytes 4 n ++ leBytes 2 svn) t)
    (hP : ∀ K, (s.lane l).Takes t K → P ((K.beginBank (!(s.lane l).nvm.runB) n svn).finish 0x0600 r
      [if (s.lane l).nvm.runB then 0#8 else 1#8])) : LaneRuns (.fwBegin l r n svn t) s l P :=
  laneRuns_laneCmd rfl ha (stateOk_of_standby rfl hst) fun K hK => by
    have hrun := hP K hK
    rw [if_neg (by omega)]
    dsimp only
    have hpayload : leBytes 1 (if (!K.nvm.runB) = true then 1 else 0) = [if (s.lane l).nvm.runB then 0#8 else 1#8] := by
      rw [hK.nvm]
      cases (s.lane l).nvm.runB <;> rfl
    rw [hpayload]
    rw [← hK.nvm] at hrun ⊢
    exact hrun

theorem fwWrite_runs {o : Nat} {d : List Byte} {b : Bool} (hfw : (s.lane l).mbx.fw = some b)
    (hfits : o + d.length ≤ ((s.lane l).bank b).len) (ha : (s.lane l).accepts l 0x0601 r (leBytes 4 o ++ d) t)
    (hP : ∀ K, (s.lane l).Takes t K → P ((K.writeBank b o d).finish 0x0601 r [])) : LaneRuns (.fwWrite l r o d t) s l P :=
  laneRuns_laneCmd rfl ha (stateOk_of_standby rfl hst) fun K hK => by
    simp only [hK.fw.trans hfw]
    rw [if_neg (by rw [hK.bank]; omega)]
    exact hP K hK

theorem fwVerify_runs {b : Bool} {f : FwFacts} (hfw : (s.lane l).mbx.fw = some b) (ha : (s.lane l).accepts l 0x0602 r [] t)
    (hP : ∀ K, (s.lane l).Takes t K → P ((K.verifyBank b f).finish 0x0602 r
      ([if f.sigOk && decide ((s.lane l).nvm.rollback ≤ f.svn) then 1#8 else 0#8] ++ leBytes 2 f.svn ++ bytesOf f.digest))) :
    LaneRuns (.fwVerify l r f t) s l P :=
  laneRuns_laneCmd rfl ha (stateOk_of_standby rfl hst) fun K hK => by
    have hrun := hP K hK
    rw [← hK.nvm] at hrun
    simp only [hK.fw, hfw, leBytes_ite]
    exact hrun

end

/-- Settles O50: a load refused is only answered, and one taken is what its command makes of the lane that took it. -/
theorem loadsGoToTheSpareSide : Obligations.LoadsGoToTheSpareSide := by
  intro s l r t old naks loads kept rest
  refine ⟨fun n => ?_, fun o d hst => ?_, fun f hst => ?_, fun f hst => ?_⟩
  · refine ⟨fun hst => ⟨fun ha => ?_, fun svn ha => ?_⟩, fun hst hn ha => ?_, fun hst hn ha => ?_, fun svn hst =>
      ⟨fun hn ha => ?_, fun hn ha => ?_⟩⟩
    · exact laneRuns_nakState rfl ha (not_stateOk rfl rfl hst)
    · exact laneRuns_nakState rfl ha (not_stateOk rfl rfl hst)
    · exact laneRuns_naks rfl ha (stateOk_of_standby rfl hst) fun K _ => if_pos hn
    · exact imgBegin_runs hst hn ha fun K b hK hb => hb ▸ hK.beginImage _ _ _ _ n
    · exact laneRuns_naks rfl ha (stateOk_of_standby rfl hst) fun K _ => if_pos hn
    · refine fwBegin_runs hst hn ha fun K hK => ?_
      have hload := hK.beginBank 0x0600 r [if old.nvm.runB then 0#8 else 1#8] (!old.nvm.runB) n svn
      rwa [Bool.not_not] at hload
  · intro body
    refine ⟨fun himg ha => ?_, fun hfw ha => ?_, fun b himg => ⟨fun hlen ha => ?_, fun hlen ha => ?_⟩,
      fun b hfw => ⟨fun hlen ha => ?_, fun hlen ha => ?_⟩⟩
    · exact laneRuns_naks rfl ha (stateOk_of_standby rfl hst) fun K hK => by simp only [hK.img.trans himg]
    · exact laneRuns_naks rfl ha (stateOk_of_standby rfl hst) fun K hK => by simp only [hK.fw.trans hfw]
    · exact laneRuns_naks rfl ha (stateOk_of_standby rfl hst) fun K hK => by
        simp only [hK.img.trans himg]
        exact if_pos (lt_of_eq_of_lt (congrArg Slot.len (hK.slot b)) hlen)
    · exact imgWrite_runs hst himg hlen ha fun K hK => hK.writeImage _ _ _ b o d
    · exact laneRuns_naks rfl ha (stateOk_of_standby rfl hst) fun K hK => by
        simp only [hK.fw.trans hfw]
        exact if_pos (lt_of_eq_of_lt (congrArg Bank.len (hK.bank b)) hlen)
    · exact fwWrite_runs hst hfw hlen ha fun K hK => hK.writeBank _ _ _ b o d
  · refine ⟨fun himg ha => ?_, fun b himg ha => ?_⟩
    · exact laneRuns_naks rfl ha (stateOk_of_standby rfl hst) fun K hK => by simp only [hK.img.trans himg]
    · exact imgVerify_runs hst himg ha fun K hK => hK.verifyImage _ _ _ b f
  · refine ⟨fun hfw ha => ?_, fun b hfw ha => ?_⟩
    · exact laneRuns_naks rfl ha (stateOk_of_standby rfl hst) fun K hK => by simp only [hK.fw.trans hfw]
    · exact fwVerify_runs hst hfw ha fun K hK => hK.verifyBank _ _ _ b f

end Sys2Proof.Machine

/-! ## HELLO, sessions and the password (R104, R391, R395, R396, R407, R408, R421) -/
namespace Sys2Proof.Machine

/-! ### Requests that end -/

/-- Between `L` and `M` nothing but final replies has gone out. -/
structure LaneSt.Concluded (L M : LaneSt) : Prop where
  frame : L.frame [.regs, .mbx] M
  regs : L.keepsRegs [0x400F0000] M
  mbx : ∃ out inner seqs, M.mbx = { L.mbx with out := out, inner := inner, seqs := seqs }

theorem LaneSt.Concluded.refl (L : LaneSt) : L.Concluded L := ⟨L.frame_refl _, L.keepsRegs_refl _, _, _, _, rfl⟩

theorem LaneSt.Concluded.trans {L M N : LaneSt} (h : L.Concluded M) (h' : M.Concluded N) : L.Concluded N where
  frame := frame_seq h'.frame h.frame
  regs := keepsRegs_trans h'.regs h.regs
  mbx := by
    obtain ⟨_, _, _, hmbx⟩ := h.mbx
    obtain ⟨o, i, q, hmbx'⟩ := h'.mbx
    exact ⟨o, i, q, by rw [hmbx', hmbx]⟩

theorem LaneSt.conclude_concluded (L : LaneSt) (code : Nat) (r : Req) (nak : Option Nat) (payload : List Byte) :
    L.Concluded (L.conclude code r nak payload) :=
  ⟨L.conclude_frame _ _ _ _, L.conclude_regs _ _ _ _, L.conclude_mbx _ _ _ _⟩

theorem LaneSt.Concluded.foldl {α : Type} {f : LaneSt → α → LaneSt} (h : ∀ (M : LaneSt) (x : α), M.Concluded (f M x)) (xs : List α)
    (L : LaneSt) : L.Concluded (xs.foldl f L) := by
  induction xs generalizing L with
  | nil => exact .refl L
  | cons x xs ih => exact (h L x).trans (ih (f L x))

/-- A reply over a transport other than the internal one writes no register. -/
theorem LaneSt.conclude_sameRegs (L : LaneSt) (code : Nat) {r : Req} (h : r.transport ≠ .internal) (nak : Option Nat) (payload : List Byte) :
    (L.conclude code r nak payload).regs = L.regs := by
  unfold LaneSt.conclude LaneSt.freeInner
  extract_lets p
  rw [if_neg h]
  exact (LaneSt.keepReply_frame _ r p).1 .regs (by decide) |>.trans ((L.sendReply_frame p).1 .regs (by decide))

/-! ### The end of a session (R396) -/

section
variable (L : LaneSt)

/-- The requests of the open session have ended. -/
theorem LaneSt.closeSession_eq (h : L.reg 0x400F000C ≠ 0#32) : ∃ (B : LaneSt) (m : MbxSt), L.Concluded B ∧
    m.roles = 0 ∧ m.pwOk = false ∧ m.nonces = L.mbx.nonces ∧
    L.closeSession = (((((B.setReg 0x400F000C 0#32).setReg 0x400F0010 0#32).put Reg.MBX_STAT_SESSION false).updMbx fun _ => m).put
      Reg.SEC_DBG_STAT_CHAL false).updSec fun x => { x with challenge := none } := by
  unfold LaneSt.closeSession
  extract_lets id mine A B busy C D
  have hB : L.Concluded B := (LaneSt.Concluded.foldl (fun M (x : Held) => M.conclude_concluded x.code x.req _ _) _ L).trans
    (LaneSt.Concluded.foldl (fun M (x : Tap) => M.conclude_concluded x.code x.req _ _) _ A)
  have hmbx : C.mbx = B.mbx := rfl
  obtain ⟨_, _, _, hnonces⟩ := hB.mbx
  rw [if_neg h]
  exact ⟨B, _, hB, rfl, rfl, by rw [hmbx, hnonces], rfl⟩

theorem LaneSt.closeSession_keepsRegs : L.keepsRegs [0x400E000C, 0x400F0000, 0x400F000C, 0x400F0010] L.closeSession := by
  by_cases h : L.reg 0x400F000C = 0#32
  · rw [show L.closeSession = L from if_pos h]
    exact L.keepsRegs_refl _
  · obtain ⟨B, m, hB, -, -, -, heq⟩ := L.closeSession_eq h
    rw [heq]
    refine keepsRegs_of_regs (updSec_regs _ _) (keepsRegs_wr (by decide) (keepsRegs_of_regs (updMbx_regs _ _) ?_))
    exact keepsRegs_wr (by decide) (keepsRegs_setReg (by decide) (keepsRegs_setReg (by decide) (keepsRegs_mono hB.regs (by decide))))

theorem LaneSt.closeSession_keys : L.closeSession.sec.keys = L.sec.keys ∧ L.closeSession.mbx.nonces = L.mbx.nonces := by
  by_cases h : L.reg 0x400F000C = 0#32
  · rw [show L.closeSession = L from if_pos h]
    exact ⟨rfl, rfl⟩
  · obtain ⟨B, m, hB, -, -, hnonces, heq⟩ := L.closeSession_eq h
    have hsec : B.sec = L.sec := hB.frame.1 .sec (by decide)
    rw [heq]
    exact ⟨(show _ = B.sec.keys from rfl).trans (congrArg SecSt.keys hsec), hnonces⟩

/-- What the end of an open session leaves. -/
theorem LaneSt.closeSession_over (h : L.reg 0x400F000C ≠ 0#32) : L.closeSession.on Reg.MBX_STAT_SESSION = false ∧
    L.closeSession.mbx.roles = 0#16 ∧ L.closeSession.mbx.pwOk = false ∧ L.closeSession.sec.challenge = none ∧
    L.closeSession.on Reg.SEC_DBG_STAT_CHAL = false := by
  obtain ⟨B, m, -, hroles, hpw, -, heq⟩ := L.closeSession_eq h
  rw [heq]
  refine ⟨?_, hroles, hpw, rfl, ?_⟩
  · refine (congrArg (· != 0) (LaneSt.rd_wr_apart _ _ _ _ (by decide))).trans ?_
    exact LaneSt.on_put_self _ Reg.MBX_STAT_SESSION false (by decide) (by decide)
  · exact LaneSt.on_put_self _ Reg.SEC_DBG_STAT_CHAL false (by decide) (by decide)

end

/-! ### A session opens (R421) -/

section
variable (N : LaneSt) (r : Req) (a : HelloArgs)

/-- The key of a session. -/
def LaneSt.sessionKey : List Byte :=
  kmac128 (N.hostKey r.requester) (wordBytes a.session ++ leBytes 8 Config.serial.toNat ++ a.nonce) 32 (ascii "SES")

/-- The registers that show the session. -/
def LaneSt.showSession : LaneSt :=
  (((N.setReg 0x400F000C a.session).setReg 0x400F0010 r.requester).put Reg.MBX_STAT_SESSION true).put Reg.SEC_KEY_STAT_SESSION true

theorem LaneSt.openSession_eq : N.openSession r a = ((N.closeSession.showSession r a).updKeys fun k =>
    { k with sk := N.closeSession.sessionKey r a }).updMbx fun m =>
      { m with roles := a.roles, pwOk := false, lastCmd := N.closeSession.time, nonces := (a.nonce :: m.nonces).take 64 } := rfl

theorem LaneSt.showSession_shows : N.keepsRegs [0x400E0004, 0x400F0000, 0x400F000C, 0x400F0010] (N.showSession r a) ∧
    (N.showSession r a).reg 0x400F000C = a.session ∧ (N.showSession r a).reg 0x400F0010 = r.requester ∧
    (N.showSession r a).on Reg.MBX_STAT_SESSION = true ∧ (N.showSession r a).on Reg.SEC_KEY_STAT_SESSION = true := by
  have hflags : ((N.setReg 0x400F000C a.session).setReg 0x400F0010 r.requester).keepsRegs [0x400E0004, 0x400F0000] (N.showSession r a) :=
    keepsRegs_wr (by decide) (LaneSt.wr_keepsRegs _ _ _ (by decide))
  refine ⟨keepsRegs_trans (keepsRegs_mono hflags (by decide)) (keepsRegs_setReg (by decide) (keepsRegs_setReg (by decide)
    (N.keepsRegs_refl _))), ?_, ?_, ?_, ?_⟩
  · rw [hflags _ (by decide), LaneSt.reg_setReg_ne _ _ _ _ (by decide), LaneSt.reg_setReg_self]
  · rw [hflags _ (by decide), LaneSt.reg_setReg_self]
  · refine (congrArg (· != 0) (LaneSt.rd_wr_apart _ _ _ _ (by decide))).trans ?_
    exact LaneSt.on_put_self _ Reg.MBX_STAT_SESSION true (by decide) (by decide)
  · exact LaneSt.on_put_self _ Reg.SEC_KEY_STAT_SESSION true (by decide) (by decide)

/-- The lane in the session of an accepted HELLO. -/
structure LaneSt.SessionOf (O : LaneSt) : Prop where
  regs : N.keepsRegs [0x400E0004, 0x400E000C, 0x400F0000, 0x400F000C, 0x400F0010] O
  session : O.reg 0x400F000C = a.session
  requester : O.reg 0x400F0010 = r.requester
  shown : O.on Reg.MBX_STAT_SESSION = true
  key : O.on Reg.SEC_KEY_STAT_SESSION = true
  roles : O.mbx.roles = a.roles
  pwOk : O.mbx.pwOk = false
  lastCmd : O.mbx.lastCmd = N.time
  nonces : O.mbx.nonces = (a.nonce :: N.mbx.nonces).take 64
  keys : O.sec.keys = { N.sec.keys with sk := N.sessionKey r a }

theorem LaneSt.openSession_opens : N.SessionOf r a (N.openSession r a) := by
  obtain ⟨hregs, hsession, hrequester, hshown, hkey⟩ := N.closeSession.showSession_shows r a
  obtain ⟨hkeys, hnonces⟩ := N.closeSession_keys
  have hsk : N.closeSession.sessionKey r a = N.sessionKey r a := by
    simp only [LaneSt.sessionKey, LaneSt.hostKey, hkeys]
  have htime : N.closeSession.time = N.time := N.closeSession_frame.1 .time (by decide)
  rw [LaneSt.openSession_eq, hsk, htime]
  generalize hO : N.closeSession.showSession r a = O at hregs hsession hrequester hshown hkey ⊢
  have hOmbx : O.mbx = N.closeSession.mbx := by rw [← hO]; rfl
  have hOsec : O.sec = N.closeSession.sec := by rw [← hO]; rfl
  refine ⟨keepsRegs_of_regs rfl (keepsRegs_trans (keepsRegs_mono hregs (by decide)) (keepsRegs_mono N.closeSession_keepsRegs (by decide))),
    hsession, hrequester, hshown, hkey, rfl, rfl, rfl, ?_, ?_⟩
  · rw [updMbx_mbx, ← hnonces, ← hOmbx]
    rfl
  · rw [updMbx_sec, ← hkeys, ← hOsec]
    rfl

/-- With no session before, nothing is answered but the HELLO. -/
theorem LaneSt.openSession_none (h : N.reg 0x400F000C = 0#32) :
    (N.openSession r a).mbx.out = N.mbx.out ∧ (N.openSession r a).mbx.inner = N.mbx.inner := by
  rw [LaneSt.openSession_eq, show N.closeSession = N from if_pos h]
  exact ⟨rfl, rfl⟩

end

/-! ### A HELLO turned away (R391, R407, R408) -/

section
variable (L : LaneSt) (key nak : Nat)

theorem LaneSt.quarantine_regs : L.keepsRegs [0x400F0018] (L.quarantine key) :=
  keepsRegs_of_regs (updMbx_regs _ _) (keepsRegs_wr (by decide) (L.wr_keepsRegs Reg.MBX_QUAR_COUNT _ (by decide)))

theorem LaneSt.violation_regs : L.keepsRegs [0x400F0014, 0x400F0018] (L.violation key nak) := by
  unfold LaneSt.violation
  extract_lets fc A B
  have hB : L.keepsRegs [0x400F0014, 0x400F0018] B :=
    keepsRegs_of_regs (M := A.inc (violFld nak)) (updMbx_regs _ _) (keepsRegs_wr (f := violFld nak) (show covered [0x400F0014, 0x400F0018] 0x400F0014 = true by decide)
      (keepsRegs_same rfl))
  exact keepsRegs_ite (keepsRegs_trans (keepsRegs_mono (B.quarantine_regs key) (by decide)) hB) hB

/-- A violation sends nothing. -/
theorem LaneSt.violation_out : (L.violation key nak).mbx.out = L.mbx.out := by
  unfold LaneSt.violation
  extract_lets fc A B
  exact (apply_ite (fun M : LaneSt => M.mbx.out) ..).trans (ite_self _)

/-- A request turned away, over a transport other than the internal one. -/
theorem LaneSt.turnAway_nakked {K : LaneSt} (hout : L.mbx.out = []) (code : Nat) {r : Req} (h : r.transport ≠ .internal) (detail : Nat) :
    L.frame [.regs, .fc, .mbx] (L.turnAway code key r nak detail 0) ∧
      L.keepsRegs [0x400F0014, 0x400F0018] (L.turnAway code key r nak detail 0) ∧
      K.nakked (L.turnAway code key r nak detail 0) code r nak detail := by
  refine ⟨L.turnAway_frame _ _ _ _ _ _, ?_⟩
  unfold LaneSt.turnAway
  generalize hM : (if nak ≤ nakRate then L.violation key nak else L) = M
  have hregs : L.keepsRegs [0x400F0014, 0x400F0018] M := hM ▸ keepsRegs_ite (L.violation_regs key nak) (L.keepsRegs_refl _)
  have hMout : M.mbx.out = [] := by
    rw [← hM]
    split
    · rw [LaneSt.violation_out, hout]
    · exact hout
  have hsend : M.sendNak code r nak detail 0 =
      M.updMbx fun m => { m with out := m.out ++ [M.replyTo code r (some nak) false (nakPayload nak detail 0)] } := by
    rw [LaneSt.sendNak, LaneSt.freeInner, if_neg h, LaneSt.sendReply, if_neg (by rwa [M.replyTo_transport])]
  rw [hsend]
  refine ⟨keepsRegs_of_regs (updMbx_regs _ _) hregs, ?_⟩
  rw [LaneSt.nakked, LaneSt.sent, if_neg h, updMbx_mbx, hMout, List.nil_append]
  rfl

end

/-! ### HELLO (R395, R421) -/

/-- A HELLO in a mailbox that is free, not the one last sent, keeps its place, whatever its SEQ (R393). -/
theorem LaneSt.order_fresh {L : LaneSt} {key : Nat} {r : Req} {msg : List Byte} (hbox : L.holdsBox r.mbox = false)
    (hnew : ∀ e, L.seqRec key r.mbox = some e → e.msg ≠ msg) : L.order key r msg = .go ∨ ∃ n d w, L.order key r msg = .nak n d w := by
  unfold LaneSt.order
  rw [hbox]
  cases he : L.seqRec key r.mbox with
  | none => exact .inl rfl
  | some e =>
    dsimp only
    rw [if_neg (by simpa using hnew e he)]
    split
    · exact .inl rfl
    · exact .inr ⟨_, _, _, rfl⟩

/-- The lane that has heard a request of `key`. -/
def LaneSt.rated (L : LaneSt) (t key : Nat) : LaneSt := (L.hearing t).noteRate key

theorem LaneSt.rated_takes (L : LaneSt) (t key : Nat) : L.Takes t (L.rated t key) where
  frame := frame_step (LaneSt.noteRate_frame _ _) (by decide) (frame_step (LaneSt.updMbx_frame _ _) (by decide)
    (frame_mono (L.tick_frame t) (by decide)))
  time := rfl
  mbx := rfl

section
variable {s : State} {l : Lane} {r : Req} {t : Nat} {a : HelloArgs}

/-- A HELLO whose signature verifies, in an accepted place. -/
theorem hello_taken (hup : (s.lane l).up = true) (hhears : ((s.lane l).hearing t).hears = true) (hnamed : named r l = true)
    (htransport : r.transport ≠ .internal) (hcan : r.transport = .can → ((s.lane l).hearing t).canReaches r.key = true)
    (hok : ((s.lane l).hearing t).helloOk r a = true)
    (hgate : ((s.lane l).rated t (2 * r.requester.toNat + 1)).gate (2 * r.requester.toNat + 1) r (helloBody a) = none)
    (hbox0 : r.mbox ≠ 0) (hbox15 : r.mbox ≠ 15) (hmodule : r.module = false) (hbox : (s.lane l).holdsBox r.mbox = false)
    (hnew : ∀ e, (s.lane l).seqRec (2 * r.requester.toNat + 1) r.mbox = some e → e.msg ≠ headerBytes 0x0100 r ++ helloBody a)
    {P : LaneSt → Prop}
    (hP : P (((s.lane l).rated t (2 * r.requester.toNat + 1)).takeHello l (2 * r.requester.toNat + 1) r a true)) :
    LaneRuns (.hello l r a t) s l P := by
  refine laneRuns_onLane (show exec (.hello l r a t) s = execHello l r a t s from rfl) hup ?_
  have hreach : (!((s.lane l).hearing t).hears || !named r l || r.transport == .internal ||
      (r.transport == .can && !((s.lane l).hearing t).canReaches r.key)) = false := by
    by_cases hc : r.transport = .can
    · simp [hhears, hnamed, hc, hcan hc]
    · simp [hhears, hnamed, htransport, hc]
  have horder := LaneSt.order_fresh (L := (s.lane l).rated t (2 * r.requester.toNat + 1)) hbox hnew
  extract_lets L ok key N
  have hkey : key = 2 * r.requester.toNat + 1 := if_pos hok
  have hN : N = (s.lane l).rated t (2 * r.requester.toNat + 1) := by rw [← hkey]; rfl
  have hokval : ok = true := hok
  rw [if_neg (by rw [show (!L.hears || !named r l || r.transport == .internal || (r.transport == .can && !L.canReaches r.key)) = false
    from hreach]; decide), hN, hkey, hgate, hokval]
  dsimp only
  rw [if_neg (by simp [hbox0, hbox15, hmodule]), if_neg (by
    rw [show ((s.lane l).rated t (2 * r.requester.toNat + 1)).holdsBox r.mbox = false from hbox]; decide)]
  rcases horder with h | ⟨n, d, w, h⟩ <;> rw [h] <;> exact hP

/-- What an accepted HELLO answers: the version, the lane's number and its state (R395). -/
def LaneSt.helloReply (L : LaneSt) (l : Lane) (v : Nat) : List Byte :=
  leBytes 1 v ++ leBytes 1 (laneIx l + 1) ++ leBytes 8 Config.serial.toNat ++ leBytes 1 L.lc ++ leBytes 2 L.runSvn

section
variable {N : LaneSt} {key v : Nat} (hwhy : N.helloNak a true = (0, 0)) (hv : shared (a.vmin, a.vmax) (1, 2) = some v)

include hwhy hv in
theorem LaneSt.takeHello_accepted : N.takeHello l key r a true =
    ((N.openSession r a).noteReq key r (headerBytes 0x0100 r ++ helloBody a) true).finish 0x0100 r (N.helloReply l v) := by
  have hframe := LaneSt.frame_step ((N.openSession r a).noteReq_frame key r (headerBytes 0x0100 r ++ helloBody a) true)
    (ps := [.regs, .mbx, .sec]) (by decide) (N.openSession_frame r a)
  have hregs : N.keepsRegs [0x400E0004, 0x400E000C, 0x400F] ((N.openSession r a).noteReq key r (headerBytes 0x0100 r ++ helloBody a) true) :=
    LaneSt.keepsRegs_of_regs rfl (LaneSt.keepsRegs_mono (N.openSession_opens r a).regs (by decide))
  have hlc := LaneSt.rd_of_keepsRegs hregs Reg.SEC_LC_STATE (by decide)
  have hnvm := hframe.1 .nvm (by decide)
  unfold LaneSt.takeHello LaneSt.helloReply
  extract_lets why w M
  have hw : w = v := by rw [show w = (shared (a.vmin, a.vmax) (1, 2)).getD 1 from rfl, hv]; rfl
  have hsvn : M.runSvn = N.runSvn := by rw [LaneSt.runSvn, LaneSt.runSvn, show M.nvm = N.nvm from hnvm]
  rw [if_neg (by rw [show why = (0, 0) from hwhy]; decide), hw, hsvn, show M.rd Reg.SEC_LC_STATE = N.lc from hlc]

end

/-- A session stays as it is while the HELLO's record is made and its reply sent. -/
theorem LaneSt.SessionOf.replied {N O : LaneSt} (h : N.SessionOf r a O) (htransport : r.transport ≠ .internal) (htime : O.time = N.time)
    (key : Nat) (msg payload : List Byte) : N.SessionOf r a ((O.noteReq key r msg true).finish 0x0100 r payload) := by
  obtain ⟨_, _, _, hmbx⟩ := (O.noteReq key r msg true).conclude_mbx 0x0100 r none payload
  have hregs : ((O.noteReq key r msg true).finish 0x0100 r payload).regs = O.regs := LaneSt.conclude_sameRegs _ 0x0100 htransport none payload
  have hsec : ((O.noteReq key r msg true).finish 0x0100 r payload).sec = O.sec := (LaneSt.conclude_frame _ _ _ _ _).1 .sec (by decide)
  rw [LaneSt.finish_eq] at hregs hsec ⊢
  have hreg : ∀ b, ((O.noteReq key r msg true).conclude 0x0100 r none payload).reg b = O.reg b := fun b => by
    rw [LaneSt.reg, LaneSt.reg, hregs]
  have hon : ∀ f, ((O.noteReq key r msg true).conclude 0x0100 r none payload).on f = O.on f := fun f => by
    rw [LaneSt.on, LaneSt.on, LaneSt.rd_congr hregs]
  exact
    { regs := LaneSt.keepsRegs_of_regs hregs h.regs
      session := (hreg _).trans h.session
      requester := (hreg _).trans h.requester
      shown := (hon _).trans h.shown
      key := (hon _).trans h.key
      roles := by rw [hmbx]; exact h.roles
      pwOk := by rw [hmbx]; exact h.pwOk
      lastCmd := by rw [hmbx]; exact (if_neg htransport).trans htime
      nonces := by rw [hmbx]; exact h.nonces
      keys := by rw [hsec]; exact h.keys }

/-- An accepted HELLO opens its session. -/
theorem LaneSt.Takes.hello {L N : LaneSt} {key v : Nat} (h : L.Takes t N) (htransport : r.transport ≠ .internal)
    (hwhy : N.helloNak a true = (0, 0)) (hv : shared (a.vmin, a.vmax) (1, 2) = some v) :
    L.keeps (.sec :: askParts) (N.takeHello l key r a true) ∧ N.SessionOf r a (N.takeHello l key r a true) ∧
      (L.reg 0x400F000C = 0#32 → L.replied (N.takeHello l key r a true) 0x0100 r (L.helloReply l v)) := by
  have hreply : N.helloReply l v = L.helloReply l v := by
    rw [LaneSt.helloReply, LaneSt.helloReply, LaneSt.lc, LaneSt.lc, h.rd, LaneSt.runSvn, LaneSt.runSvn, h.nvm]
  have hframe := frame_step (N.openSession_frame r a) (ps := .sec :: askParts) (by decide) (frame_mono h.frame (by decide))
  have hopens := N.openSession_opens r a
  have htime : (N.openSession r a).time = N.time := (N.openSession_frame r a).1 .time (by decide)
  have hsends : L.reg 0x400F000C = 0#32 → (N.openSession r a).mbx.out = [] ∧ (N.openSession r a).mbx.inner = L.mbx.inner := fun hnone => by
    obtain ⟨hout, hinner⟩ := N.openSession_none r a (by rw [LaneSt.reg, h.regs]; exact hnone)
    exact ⟨hout.trans h.out, hinner.trans h.inner⟩
  rw [takeHello_accepted hwhy hv, hreply]
  generalize N.openSession r a = O at hframe hopens htime hsends ⊢
  refine ⟨(frame_step (LaneSt.finish_frame _ _ _ _) (by decide) (frame_step (LaneSt.noteReq_frame _ _ _ _ _) (by decide) hframe)).1,
    hopens.replied htransport htime _ _ _, fun hnone => ?_⟩
  obtain ⟨hout, hinner⟩ := hsends hnone
  exact LaneSt.conclude_sent (L := O.noteReq key r (headerBytes 0x0100 r ++ helloBody a) true) hout hinner 0x0100 r none _

/-- A HELLO that the lane does not accept is answered by a NAK. -/
theorem LaneSt.Takes.hello_refused {L N : LaneSt} {key n d : Nat} (h : L.Takes t N) (htransport : r.transport ≠ .internal)
    (hwhy : N.helloNak a true = (n, d)) (hn : n ≠ 0) : L.keeps (.fc :: askParts) (N.takeHello l key r a true) ∧
      L.keepsRegs [0x400F0000, 0x400F0014, 0x400F0018] (N.takeHello l key r a true) ∧
      L.nakked (N.takeHello l key r a true) 0x0100 r n d := by
  have htake : N.takeHello l key r a true = N.turnAway 0x0100 key r n d 0 := by
    unfold LaneSt.takeHello
    rw [hwhy]
    exact if_pos hn
  obtain ⟨hframe, hregs, hnakked⟩ := N.turnAway_nakked key n (K := L) h.out 0x0100 htransport d
  rw [htake]
  exact ⟨(LaneSt.frame_step hframe (by decide) (LaneSt.frame_mono h.frame (by decide))).1,
    LaneSt.keepsRegs_trans (LaneSt.keepsRegs_mono hregs (by decide)) (LaneSt.keepsRegs_same h.regs), hnakked⟩

end

/-! ### The end by time (R104, R396) -/

section
variable {s : State} {l : Lane} {t : Nat} (hup : (s.lane l).up = true) (hdue : (s.lane l).mbx.lastCmd + 600000000000 ≤ t)
include hup hdue

theorem sessionTimeout_runs {P : LaneSt → Prop} (hP : P ((s.lane l).hearing t).endSession) : LaneRuns (.sessionTimeout l t) s l P := by
  refine laneRuns_onLane (show exec (.sessionTimeout l t) s = execSessionTimeout l t s from rfl) hup ?_
  rw [if_pos (show ((s.lane l).tick t).mbx.lastCmd + 600000000000 ≤ t from hdue)]
  exact hP

theorem sessionTimeout_ends (hopen : (s.lane l).reg 0x400F000C ≠ 0#32) (hasked : (s.lane l).mbx.asked = []) :
    LaneRuns (.sessionTimeout l t) s l fun L => (s.lane l).keeps (.sec :: askParts) L ∧
      (s.lane l).keepsRegs [0x400E000C, 0x400F0000, 0x400F000C, 0x400F0010] L ∧ L.reg 0x400F000C = 0#32 ∧
      L.on Reg.MBX_STAT_SESSION = false ∧ L.mbx.roles = 0#16 ∧ L.mbx.pwOk = false ∧ L.sec.challenge = none ∧
      L.on Reg.SEC_DBG_STAT_CHAL = false := by
  refine sessionTimeout_runs hup hdue ?_
  have hend : ((s.lane l).hearing t).endSession = ((s.lane l).hearing t).closeSession :=
    if_pos (show (s.lane l).mbx.asked.isEmpty = true by rw [hasked]; rfl)
  rw [hend]
  refine ⟨(LaneSt.frame_step (LaneSt.closeSession_frame _) (by decide) (LaneSt.frame_step (LaneSt.updMbx_frame _ _) (by decide)
    (LaneSt.frame_mono ((s.lane l).tick_frame t) (by decide)))).1, ?_, LaneSt.closeSession_none _, LaneSt.closeSession_over _ hopen⟩
  exact LaneSt.keepsRegs_trans (LaneSt.closeSession_keepsRegs _) (LaneSt.keepsRegs_same rfl)

theorem sessionTimeout_waits (hasked : (s.lane l).mbx.asked ≠ []) :
    LaneRuns (.sessionTimeout l t) s l fun L => (s.lane l).keeps [.time, .mbx] L ∧ L.mbx.endDue = true := by
  refine sessionTimeout_runs hup hdue ?_
  have hend : ((s.lane l).hearing t).endSession = ((s.lane l).hearing t).updMbx fun m => { m with endDue := true } :=
    if_neg (show ¬ (s.lane l).mbx.asked.isEmpty = true by simpa using hasked)
  rw [hend]
  exact ⟨(LaneSt.frame_step (LaneSt.updMbx_frame _ _) (by decide) (LaneSt.frame_step (LaneSt.updMbx_frame _ _) (by decide)
    (LaneSt.frame_mono ((s.lane l).tick_frame t) (by decide)))).1, rfl⟩

end

/-! ### The password (R104) -/

/-- A Tally entry counts, and no password failure is forgotten. -/
theorem LaneSt.tally_counts (L : LaneSt) (l : Lane) (typ q : Nat) (d : List Byte) (no : Bool) :
    (L.tally l typ q d no).nvm.tallySeq = L.nvm.tallySeq + 1 ∧ (L.tally l typ q d no).nvm.pwFails = L.nvm.pwFails := by
  unfold LaneSt.tally
  extract_lets x head prev link anchor M
  have hnvm : M.nvm = L.nvm := (L.setBytes_frame _ _).1 .nvm (by decide)
  exact ⟨(show _ = M.nvm.tallySeq + 1 from rfl).trans (congrArg (·.tallySeq + 1) hnvm), (show _ = M.nvm.pwFails from rfl).trans (congrArg (·.pwFails) hnvm)⟩

/-- What a password asked has noted before its reply. -/
theorem LaneSt.Takes.password_noted {L K P : LaneSt} {t : Nat} (h : L.Takes t K) (l : Lane) (typ q : Nat) {ok : Bool} {n : Nat}
    (hframe : K.frame [.nvm, .mbx] P) (hregs : P.regs = K.regs) (hmbx : P.mbx = { K.mbx with pwOk := ok })
    (hseq : P.nvm.tallySeq = K.nvm.tallySeq) (hfails : P.nvm.pwFails = n) (r : Req) :
    let M := (P.tally l typ q).finish 0x0700 r (leBytes 1 (5 - (P.tally l typ q).nvm.pwFails))
    L.keeps (.nvm :: .mem :: askParts) M ∧ L.keepsRegs [0x400F0000] M ∧ M.mbx.pwOk = ok ∧ M.nvm.pwFails = n ∧
      M.nvm.tallySeq = L.nvm.tallySeq + 1 ∧ L.replied M 0x0700 r (leBytes 1 (5 - M.nvm.pwFails)) := by
  obtain ⟨hcount, hkept⟩ := P.tally_counts l typ q [] false
  have htally := P.tally_frame l typ q [] false
  have hTmbx : (P.tally l typ q).mbx = { K.mbx with pwOk := ok } := (htally.1 .mbx (by decide)).trans hmbx
  have hTregs : (P.tally l typ q).regs = L.regs := (htally.1 .regs (by decide)).trans (hregs.trans h.regs)
  have hTframe : L.frame (.nvm :: .mem :: askParts) (P.tally l typ q) :=
    frame_step htally (by decide) (frame_step hframe (by decide) (frame_mono h.frame (by decide)))
  rw [hseq, h.nvm] at hcount
  rw [hfails] at hkept
  generalize P.tally l typ q = T at hcount hkept hTmbx hTregs hTframe ⊢
  extract_lets M
  have hnvm : M.nvm = T.nvm := (T.conclude_frame _ _ _ _).1 .nvm (by decide)
  obtain ⟨_, _, _, hMmbx⟩ := T.conclude_mbx 0x0700 r none (leBytes 1 (5 - T.nvm.pwFails))
  rw [hnvm]
  refine ⟨(frame_step (T.conclude_frame _ _ _ _) (by decide) hTframe).1, keepsRegs_trans (T.conclude_regs _ _ _ _) (keepsRegs_same hTregs),
    ?_, hkept, hcount, ?_⟩
  · rw [show M.mbx = _ from hMmbx, hTmbx]
  · exact LaneSt.conclude_sent (by rw [hTmbx]; exact h.out) (by rw [hTmbx]; exact h.inner) 0x0700 r none _

/-- The lane once a password is checked, before its Tally entry. -/
def LaneSt.pwChecked (K : LaneSt) (good : Bool) : LaneSt :=
  if good then K.updMbx fun m => { m with pwOk := true } else { K with nvm := { K.nvm with pwFails := K.nvm.pwFails + 1 } }

theorem LaneSt.tryPassword_eq (K : LaneSt) (l : Lane) (r : Req) (good : Bool) :
    let T := (K.pwChecked good).tally l (if good then 0x0006 else 0x0007) r.requester.toNat
    K.tryPassword l r good = T.finish 0x0700 r (leBytes 1 (5 - T.nvm.pwFails)) := by
  unfold LaneSt.tryPassword LaneSt.pwChecked
  cases good with
  | true => simp only [if_true]
  | false => simp only [Bool.false_eq_true, if_false]

theorem LaneSt.pwChecked_frame (K : LaneSt) (good : Bool) : K.frame [.nvm, .mbx] (K.pwChecked good) :=
  frame_ite (frame_mono (K.updMbx_frame _) (by decide)) (frame_mono (frame_nvm _ _) (by decide))

theorem LaneSt.pwChecked_same (K : LaneSt) (good : Bool) : (K.pwChecked good).regs = K.regs ∧
    (K.pwChecked good).mbx = { K.mbx with pwOk := K.mbx.pwOk || good } ∧ (K.pwChecked good).nvm.tallySeq = K.nvm.tallySeq ∧
    (K.pwChecked good).nvm.pwFails = K.nvm.pwFails + (if good then 0 else 1) := by
  cases good with
  | true => exact ⟨rfl, by rw [Bool.or_true]; rfl, rfl, rfl⟩
  | false => exact ⟨rfl, by rw [Bool.or_false]; rfl, rfl, rfl⟩

/-- A password asked: it stands for the session, or it is one more failure. -/
theorem LaneSt.Takes.password {L K : LaneSt} {t : Nat} (h : L.Takes t K) (l : Lane) (r : Req) (good : Bool) :
    let M := K.tryPassword l r good
    L.keeps (.nvm :: .mem :: askParts) M ∧ L.keepsRegs [0x400F0000] M ∧ M.mbx.pwOk = (L.mbx.pwOk || good) ∧
      M.nvm.pwFails = L.nvm.pwFails + (if good then 0 else 1) ∧ M.nvm.tallySeq = L.nvm.tallySeq + 1 ∧
      L.replied M 0x0700 r (leBytes 1 (5 - M.nvm.pwFails)) := by
  have hpw : K.mbx.pwOk = L.mbx.pwOk := by rw [h.mbx]
  have hfails : K.nvm.pwFails = L.nvm.pwFails := congrArg NvmSt.pwFails h.nvm
  obtain ⟨hregs, hmbx, hseq, hcount⟩ := K.pwChecked_same good
  rw [← hpw, ← hfails, K.tryPassword_eq l r good]
  exact h.password_noted l _ r.requester.toNat (K.pwChecked_frame good) hregs hmbx hseq hcount r

section
variable {s : State} {l : Lane} {r : Req} {pw : List Byte} {t : Nat} (ha : (s.lane l).accepts l 0x0700 r pw t)
include ha

theorem password_locked (h : 5 ≤ (s.lane l).nvm.pwFails) : LaneRuns (.password l r pw t) s l fun L => (s.lane l).onlyAnswered L ∧
    (s.lane l).nakked L 0x0700 r nakLocked 0 :=
  laneRuns_naks (show exec (.password l r pw t) s = execPassword l r pw t s from rfl) ha (stateOk_of_any rfl rfl) fun _ hK =>
    if_pos (by rw [hK.nvm]; exact h)

theorem password_badLength (h : (s.lane l).nvm.pwFails < 5) (hlen : pw.length < 8 ∨ 64 < pw.length) :
    LaneRuns (.password l r pw t) s l fun L => (s.lane l).onlyAnswered L ∧ (s.lane l).nakked L 0x0700 r nakArgument 0 :=
  laneRuns_naks (show exec (.password l r pw t) s = execPassword l r pw t s from rfl) ha (stateOk_of_any rfl rfl) fun _ hK =>
    (if_neg (by rw [hK.nvm]; omega)).trans (if_pos hlen)

theorem password_tried {P : LaneSt → Prop} (h : (s.lane l).nvm.pwFails < 5) (hlo : 8 ≤ pw.length) (hhi : pw.length ≤ 64)
    (hP : ∀ K, (s.lane l).Takes t K → P (K.tryPassword l r ((s.lane l).passwordIs pw))) : LaneRuns (.password l r pw t) s l P := by
  refine laneRuns_laneCmd (show exec (.password l r pw t) s = execPassword l r pw t s from rfl) ha (stateOk_of_any rfl rfl) fun K hK => ?_
  have hpw : K.passwordIs pw = (s.lane l).passwordIs pw := by rw [LaneSt.passwordIs, LaneSt.passwordIs, hK.on, hK.sec]
  rw [if_neg (by rw [hK.nvm]; omega), if_neg (by omega), hpw]
  exact hP K hK

end

end Sys2Proof.Machine

/-! ## Debug unlock and the debug session (R429 to R431) -/
namespace Sys2Proof.Machine

/-! ### A challenge (R429) -/

section
variable (L : LaneSt)

/-- Random bytes are the next free values. -/
theorem LaneSt.randomBytes_bytes (n : Nat) :
    (L.randomBytes n).1 = (List.range n).flatMap fun i => wordBytes (Config.freeValue (L.free + i)) := by
  induction n generalizing L with
  | zero => rfl
  | succ n ih =>
    rw [List.range_succ_eq_map, List.flatMap_cons, List.flatMap_map]
    refine (show (L.randomBytes (n + 1)).1 = wordBytes (Config.freeValue L.free) ++ (L.fresh.2.randomBytes n).1 from rfl).trans ?_
    rw [ih]
    exact congrArg _ (congrArg (fun g => List.flatMap g (List.range n)) (funext fun i => by
      rw [show L.fresh.2.free = L.free + 1 from rfl, Nat.add_right_comm, Nat.add_assoc]))

theorem LaneSt.closeDebug_regs : L.keepsRegs [0x4011000C] L.closeDebug :=
  keepsRegs_wr (by decide) (L.wr_keepsRegs _ _ (by decide))

theorem LaneSt.closeDebug_open : L.closeDebug.on Reg.DBG_SESSION_OPEN = false :=
  (congrArg (· != 0) (LaneSt.rd_wr_apart _ Reg.DBG_SESSION_TRACE Reg.DBG_SESSION_OPEN _ (by decide))).trans
    (L.on_put_self Reg.DBG_SESSION_OPEN false (by decide) (by decide))

/-- The lane that awaits an answer to the challenge `bs`. -/
def LaneSt.challenged (r : Req) (level : Nat) (bs : List Byte) : LaneSt :=
  (L.put Reg.SEC_DBG_STAT_CHAL true).updSec fun x => { x with challenge := some { session := r.session, level := level, at_ := L.time, bytes := bs } }

/-- The 32 bytes that the next challenge takes. -/
def LaneSt.nextBytes : List Byte := (List.range 8).flatMap fun i => wordBytes (Config.freeValue (L.free + i))

theorem LaneSt.issueChallenge_eq (r : Req) (level : Nat) :
    L.issueChallenge r level = ((L.closeDebug.randomBytes 8).2.challenged r level L.nextBytes).finish 0x0701 r L.nextBytes := by
  have hbytes : (L.closeDebug.randomBytes 8).1 = L.nextBytes := L.closeDebug.randomBytes_bytes 8
  rw [← hbytes]
  rfl

end

/-- The challenge once answered. -/
theorem LaneSt.challenged_sent {R K : LaneSt} (hout : R.mbx.out = []) (hinner : R.mbx.inner = K.mbx.inner) (r : Req) (level : Nat)
    (bs : List Byte) : R.keepsRegs [0x400E000C, 0x400F0000] ((R.challenged r level bs).finish 0x0701 r bs) ∧
      ((R.challenged r level bs).finish 0x0701 r bs).on Reg.SEC_DBG_STAT_CHAL = true ∧
      ((R.challenged r level bs).finish 0x0701 r bs).sec.challenge =
        some { session := r.session, level := level, at_ := R.time, bytes := bs } ∧
      K.replied ((R.challenged r level bs).finish 0x0701 r bs) 0x0701 r bs := by
  have hC : R.keepsRegs [0x400E000C] (R.challenged r level bs) := keepsRegs_of_regs (updSec_regs _ _) (R.wr_keepsRegs _ _ (by decide))
  have hon : (R.challenged r level bs).on Reg.SEC_DBG_STAT_CHAL = true := R.on_put_self Reg.SEC_DBG_STAT_CHAL true (by decide) (by decide)
  have hsec : (R.challenged r level bs).sec.challenge = some { session := r.session, level := level, at_ := R.time, bytes := bs } := rfl
  have hmbx : (R.challenged r level bs).mbx = R.mbx := rfl
  generalize R.challenged r level bs = C at hC hon hsec hmbx ⊢
  have hMregs := C.conclude_regs 0x0701 r none bs
  refine ⟨keepsRegs_trans (keepsRegs_mono hMregs (by decide)) (keepsRegs_mono hC (by decide)), ?_, ?_, ?_⟩
  · exact (congrArg (· != 0) (rd_of_keepsRegs hMregs Reg.SEC_DBG_STAT_CHAL (by decide))).trans hon
  · exact (congrArg SecSt.challenge ((C.conclude_frame 0x0701 r none bs).1 .sec (by decide))).trans hsec
  · exact LaneSt.conclude_sent (by rw [hmbx, hout]) (by rw [hmbx, hinner]) 0x0701 r none bs

/-- UNLOCK_REQ carried out. -/
theorem LaneSt.Takes.challenge {L K : LaneSt} {t : Nat} (h : L.Takes t K) (r : Req) (level : Nat) :
    L.keeps (.free :: .sec :: askParts) (K.issueChallenge r level) ∧
      L.keepsRegs [0x400E000C, 0x400F0000, 0x4011000C] (K.issueChallenge r level) ∧
      (K.issueChallenge r level).on Reg.SEC_DBG_STAT_CHAL = true ∧ (K.issueChallenge r level).on Reg.DBG_SESSION_OPEN = false ∧
      (K.issueChallenge r level).sec.challenge =
        some { session := r.session, level := level, at_ := max L.time t, bytes := L.nextBytes } ∧
      L.replied (K.issueChallenge r level) 0x0701 r L.nextBytes := by
  have hkeeps := (frame_step (K.issueChallenge_frame r level) (ps := .free :: .sec :: askParts) (by decide) (frame_mono h.frame (by decide))).1
  have hR := frame_step (K.closeDebug.randomBytes_frame 8) (ps := [.free, .regs]) (by decide) (frame_mono K.closeDebug_frame (by decide))
  have hregs : (K.closeDebug.randomBytes 8).2.regs = K.closeDebug.regs := (K.closeDebug.randomBytes_frame 8).1 .regs (by decide)
  have hbytes : K.nextBytes = L.nextBytes := by rw [LaneSt.nextBytes, LaneSt.nextBytes, show K.free = L.free from h.frame.1 .free (by decide)]
  rw [K.issueChallenge_eq r level, hbytes] at hkeeps ⊢
  generalize (K.closeDebug.randomBytes 8).2 = R at hR hregs hkeeps ⊢
  have hmbx : R.mbx = K.mbx := hR.1 .mbx (by decide)
  have htime : R.time = max L.time t := (hR.1 .time (by decide)).trans h.time
  obtain ⟨hMregs, hchal, hchallenge, hsent⟩ := LaneSt.challenged_sent (R := R) (K := L) (by rw [hmbx, h.out]) (by rw [hmbx, h.inner]) r level
    L.nextBytes
  rw [htime] at hchallenge
  refine ⟨hkeeps, ?_, hchal, ?_, hchallenge, hsent⟩
  · exact keepsRegs_trans (keepsRegs_mono hMregs (by decide)) (keepsRegs_of_regs hregs
      (keepsRegs_trans (keepsRegs_mono K.closeDebug_regs (by decide)) (keepsRegs_same h.regs)))
  · rw [LaneSt.on, rd_of_keepsRegs hMregs _ (by decide), rd_congr hregs]
    exact K.closeDebug_open

/-! ### The failures counted (R430) -/

/-- What a failed answer leaves, whatever the alarm does next: the counts, no challenge, an alarm that stands. -/
structure LaneSt.KeepsFailures (L M : LaneSt) : Prop where
  perm : M.rd Reg.SEC_DBG_STAT_PERM = L.rd Reg.SEC_DBG_STAT_PERM
  total : M.rd Reg.SEC_DBG_STAT_TOTAL = L.rd Reg.SEC_DBG_STAT_TOTAL
  consec : M.rd Reg.SEC_DBG_STAT_CONSEC = L.rd Reg.SEC_DBG_STAT_CONSEC
  chal : L.on Reg.SEC_DBG_STAT_CHAL = false → M.on Reg.SEC_DBG_STAT_CHAL = false
  challenge : L.sec.challenge = none → M.sec.challenge = none
  alarm : L.on Reg.SEC_RIND_STAT_ALARM = true → M.on Reg.SEC_RIND_STAT_ALARM = true

namespace LaneSt.KeepsFailures

theorem refl (L : LaneSt) : L.KeepsFailures L := ⟨rfl, rfl, rfl, id, id, id⟩

theorem trans {L M N : LaneSt} (h : L.KeepsFailures M) (h' : M.KeepsFailures N) : L.KeepsFailures N :=
  ⟨h'.perm.trans h.perm, h'.total.trans h.total, h'.consec.trans h.consec, h'.chal ∘ h.chal, h'.challenge ∘ h.challenge, h'.alarm ∘ h.alarm⟩

theorem ite {c : Prop} [Decidable c] {L M N : LaneSt} (h : L.KeepsFailures M) (h' : L.KeepsFailures N) : L.KeepsFailures (if c then M else N) := by
  split <;> assumption

/-- The two registers and the challenge are the same. -/
theorem of_regs {rs : List Nat} {L M : LaneSt} (h : L.keepsRegs rs M) (hdbg : covered rs 0x400E000C = false)
    (hrind : covered rs 0x400E0008 = false) (hsec : M.sec.challenge = L.sec.challenge) : L.KeepsFailures M where
  perm := rd_of_keepsRegs h _ hdbg
  total := rd_of_keepsRegs h _ hdbg
  consec := rd_of_keepsRegs h _ hdbg
  chal := fun hc => by rwa [LaneSt.on, rd_of_keepsRegs h _ hdbg]
  challenge := hsec.trans
  alarm := fun hc => by rwa [LaneSt.on, rd_of_keepsRegs h _ hrind]

theorem same {L M : LaneSt} (hregs : M.regs = L.regs) (hsec : M.sec.challenge = L.sec.challenge) : L.KeepsFailures M :=
  of_regs (rs := []) (keepsRegs_same hregs) (by decide) (by decide) hsec

/-- Another field written. -/
theorem wr {L M : LaneSt} {f : Fld} {v : Nat} (hf : [Reg.SEC_DBG_STAT_PERM, Reg.SEC_DBG_STAT_TOTAL, Reg.SEC_DBG_STAT_CONSEC,
    Reg.SEC_DBG_STAT_CHAL, Reg.SEC_RIND_STAT_ALARM].all f.apart = true) (h : L.KeepsFailures M) : L.KeepsFailures (M.wr f v) := by
  simp only [List.all_cons, List.all_nil, Bool.and_true, Bool.and_eq_true] at hf
  obtain ⟨hperm, htotal, hconsec, hchal, halarm⟩ := hf
  exact h.trans
    { perm := M.rd_wr_apart f _ v hperm
      total := M.rd_wr_apart f _ v htotal
      consec := M.rd_wr_apart f _ v hconsec
      chal := fun hc => by rwa [LaneSt.on, M.rd_wr_apart f _ v hchal]
      challenge := id
      alarm := fun hc => by rwa [LaneSt.on, M.rd_wr_apart f _ v halarm] }

end LaneSt.KeepsFailures

section
variable (L : LaneSt) (l : Lane)
open LaneSt (KeepsFailures)

theorem LaneSt.raise_keepsFailures (id d : Nat) (hid : id < 65536) : L.KeepsFailures (L.raise id d) :=
  .of_regs (L.raise_regs id d hid) (by decide) (by decide) (congrArg SecSt.challenge ((L.raise_frame id d).1 .sec (by decide)))

theorem LaneSt.tally_keepsFailures (typ q : Nat) (d : List Byte) (no : Bool) : L.KeepsFailures (L.tally l typ q d no) :=
  .same ((L.tally_frame l typ q d no).1 .regs (by decide)) (congrArg SecSt.challenge ((L.tally_frame l typ q d no).1 .sec (by decide)))

theorem LaneSt.updKeys_keepsFailures (f : KeyStore → KeyStore) : L.KeepsFailures (L.updKeys f) := .same ((L.updKeys_frame f).1 .regs (by decide)) rfl

theorem LaneSt.updMbx_keepsFailures (f : MbxSt → MbxSt) : L.KeepsFailures (L.updMbx f) := .same (updMbx_regs _ _) rfl

theorem LaneSt.erased_keepsFailures (us : Nat) : L.KeepsFailures (L.erased l us) :=
  (L.tally_keepsFailures l 0x000A 0 [] false).trans (.same (updSec_regs _ _) rfl)

theorem LaneSt.debugRun_keepsFailures : L.KeepsFailures L.debugRun := by
  unfold LaneSt.debugRun
  have hreplay : L.KeepsFailures L.replay :=
    .of_regs (rs := [0x40110010]) (keepsRegs_of_regs (updCore_regs _ _) (L.wr_keepsRegs _ _ (by decide))) (by decide) (by decide) rfl
  refine .ite (.trans hreplay (.trans (.same (updCore_regs _ fun c => { c with debug := false }) rfl) ?_)) (.refl L)
  exact .of_regs (LaneSt.enterResync_regs _) (by decide) (by decide) (congrArg SecSt.challenge ((LaneSt.enterResync_frame _).1 .sec (by decide)))

theorem LaneSt.lockDebug_keepsFailures : L.KeepsFailures L.lockDebug :=
  (KeepsFailures.wr (by decide) (.wr (by decide) (.wr (by decide) (.wr (by decide) (.refl L))))).trans (LaneSt.debugRun_keepsFailures _)

theorem LaneSt.closeSession_keepsFailures : L.KeepsFailures L.closeSession := by
  by_cases h : L.reg 0x400F000C = 0#32
  · rw [show L.closeSession = L from if_pos h]
    exact .refl L
  · obtain ⟨B, m, hB, -, -, -, heq⟩ := L.closeSession_eq h
    have hshown : L.keepsRegs [0x400F0000, 0x400F000C, 0x400F0010]
        ((((B.setReg 0x400F000C 0#32).setReg 0x400F0010 0#32).put Reg.MBX_STAT_SESSION false).updMbx fun _ => m) :=
      keepsRegs_of_regs (updMbx_regs _ _) (keepsRegs_wr (by decide) (keepsRegs_setReg (by decide) (keepsRegs_setReg (by decide)
        (keepsRegs_mono hB.regs (by decide)))))
    rw [heq]
    generalize (((B.setReg 0x400F000C 0#32).setReg 0x400F0010 0#32).put Reg.MBX_STAT_SESSION false).updMbx (fun _ => m) = N at hshown ⊢
    exact
      { perm := (N.rd_wr_apart _ Reg.SEC_DBG_STAT_PERM _ (by decide)).trans (rd_of_keepsRegs hshown _ (by decide))
        total := (N.rd_wr_apart _ Reg.SEC_DBG_STAT_TOTAL _ (by decide)).trans (rd_of_keepsRegs hshown _ (by decide))
        consec := (N.rd_wr_apart _ Reg.SEC_DBG_STAT_CONSEC _ (by decide)).trans (rd_of_keepsRegs hshown _ (by decide))
        chal := fun _ => N.on_put_self Reg.SEC_DBG_STAT_CHAL false (by decide) (by decide)
        challenge := fun _ => rfl
        alarm := fun ha => by
          have hrd := (N.rd_wr_apart Reg.SEC_DBG_STAT_CHAL Reg.SEC_RIND_STAT_ALARM (if false then 1 else 0) (by decide)).trans
            (rd_of_keepsRegs hshown Reg.SEC_RIND_STAT_ALARM (by decide))
          exact (congrArg (· != 0) hrd).trans ha }

theorem LaneSt.eraseExt_keepsFailures : L.KeepsFailures (L.eraseExt l) := by
  unfold LaneSt.eraseExt
  extract_lets A
  have hA : L.KeepsFailures A := (L.updKeys_keepsFailures _).trans (LaneSt.updMbx_keepsFailures _ _)
  exact (KeepsFailures.wr (by decide) (.wr (by decide) hA)).trans (LaneSt.erased_keepsFailures _ l 500)

theorem LaneSt.eraseControl_keepsFailures : L.KeepsFailures (L.eraseControl l) := by
  unfold LaneSt.eraseControl LaneSt.dropGroup
  extract_lets A B
  have hA : L.KeepsFailures A := .wr (by decide) (.wr (by decide) (.wr (by decide) (.refl L)))
  have hB : L.KeepsFailures B := hA.trans (A.updKeys_keepsFailures _)
  have hgroup : L.KeepsFailures ((B.put Reg.SEC_KEY_STAT_GROUP false).wr Reg.SEC_KEY_STAT_GROUP_KCV 0) := .wr (by decide) (.wr (by decide) hB)
  exact (KeepsFailures.wr (by decide) (hgroup.trans (LaneSt.updKeys_keepsFailures _ _))).trans (LaneSt.erased_keepsFailures _ l 500)

theorem LaneSt.eraseIdent_keepsFailures : L.KeepsFailures (L.eraseIdent l) :=
  (KeepsFailures.wr (by decide) (.refl L)).trans (LaneSt.erased_keepsFailures _ l 2000)

/-- The alarm leaves the counts, and stands (R424, R425). -/
theorem LaneSt.latchRind_alarm (first : Nat) (hchal : L.on Reg.SEC_DBG_STAT_CHAL = false) (hnone : L.sec.challenge = none) :
    (L.latchRind l first).on Reg.SEC_RIND_STAT_ALARM = true ∧ (L.latchRind l first).on Reg.SEC_DBG_STAT_CHAL = false ∧
      (L.latchRind l first).sec.challenge = none ∧ ∀ f ∈ [Reg.SEC_DBG_STAT_PERM, Reg.SEC_DBG_STAT_TOTAL, Reg.SEC_DBG_STAT_CONSEC],
        (L.latchRind l first).rd f = L.rd f := by
  unfold LaneSt.latchRind
  extract_lets policy rest A B C
  by_cases h : L.on Reg.SEC_RIND_STAT_ALARM = true
  · rw [if_pos h]
    exact ⟨h, hchal, hnone, fun _ _ => rfl⟩
  · rw [if_neg h]
    have hlatched : L.keepsRegs [0x400E0008] ((L.put Reg.SEC_RIND_STAT_ALARM true).wr Reg.SEC_RIND_STAT_FIRST first) :=
      keepsRegs_wr (by decide) (L.wr_keepsRegs _ _ (by decide))
    have hon : ((L.put Reg.SEC_RIND_STAT_ALARM true).wr Reg.SEC_RIND_STAT_FIRST first).on Reg.SEC_RIND_STAT_ALARM = true :=
      (congrArg (· != 0) (LaneSt.rd_wr_apart _ _ _ _ (by decide))).trans (L.on_put_self Reg.SEC_RIND_STAT_ALARM true (by decide) (by decide))
    have hB : ((L.put Reg.SEC_RIND_STAT_ALARM true).wr Reg.SEC_RIND_STAT_FIRST first).KeepsFailures B :=
      (LaneSt.raise_keepsFailures _ _ _ (by decide)).trans ((LaneSt.lockDebug_keepsFailures _).trans
        ((LaneSt.closeSession_keepsFailures _).trans (LaneSt.eraseExt_keepsFailures _ l)))
    have hC : B.KeepsFailures C := .ite (.refl B) (.ite (B.eraseControl_keepsFailures l) (.wr (by decide) (.refl B)))
    have hall := hB.trans (hC.trans (.ite (c := policy = 2) (C.eraseIdent_keepsFailures l) (.refl C)))
    generalize (if policy = 2 then C.eraseIdent l else C) = M at hall ⊢
    refine ⟨hall.alarm hon, hall.chal ?_, hall.challenge hnone, fun f hf => ?_⟩
    · rw [LaneSt.on, rd_of_keepsRegs hlatched _ (by decide)]
      exact hchal
    · simp only [List.mem_cons, List.not_mem_nil, or_false] at hf
      rcases hf with rfl | rfl | rfl
      · exact hall.perm.trans (rd_of_keepsRegs hlatched _ (by decide))
      · exact hall.total.trans (rd_of_keepsRegs hlatched _ (by decide))
      · exact hall.consec.trans (rd_of_keepsRegs hlatched _ (by decide))

end

/-! ### An answer (R430) -/

section
variable (L : LaneSt)

theorem LaneSt.dropChallenge_drops : L.dropChallenge.on Reg.SEC_DBG_STAT_CHAL = false ∧ L.dropChallenge.sec.challenge = none ∧
    L.keepsRegs [0x400E000C] L.dropChallenge ∧ ∀ f : Fld, Reg.SEC_DBG_STAT_CHAL.apart f = true → L.dropChallenge.rd f = L.rd f :=
  ⟨L.on_put_self Reg.SEC_DBG_STAT_CHAL false (by decide) (by decide), rfl,
    keepsRegs_of_regs (updSec_regs _ _) (L.wr_keepsRegs _ _ (by decide)), fun f hf => L.rd_wr_apart _ f _ hf⟩

/-- One failure more on both counts; the eighth locks DBG_x for life. -/
def LaneSt.countFailure : LaneSt :=
  let L := (L.wr Reg.SEC_DBG_STAT_CONSEC (min (L.rd Reg.SEC_DBG_STAT_CONSEC + 1) 4)).wr Reg.SEC_DBG_STAT_TOTAL
    (min (L.rd Reg.SEC_DBG_STAT_TOTAL + 1) 8)
  if L.rd Reg.SEC_DBG_STAT_TOTAL = 8 then L.put Reg.SEC_DBG_STAT_PERM true else L

/-- The failed answer told, noted and counted. -/
def LaneSt.failureTold (l : Lane) (r : Req) : LaneSt := ((L.dropChallenge.raise 0x0B05).tally l 0x0009 r.requester.toNat [] true).countFailure

theorem LaneSt.unlockFailed_eq (l : Lane) (r : Req) : L.unlockFailed l r =
    let M := (L.failureTold l r).finish 0x0702 r [Config.resultByte false]
    if M.rd Reg.SEC_DBG_STAT_CONSEC = 4 then (M.put (Reg.SEC_RIND_STAT_SRC.bit 6) true).latchRind l 7 else M := rfl

theorem LaneSt.countFailure_frame : L.frame [.regs] L.countFailure := by
  unfold LaneSt.countFailure
  extract_lets M
  have hM : L.frame [.regs] M := frame_seq (LaneSt.wr_frame _ _ _) (L.wr_frame _ _)
  exact LaneSt.frame_ite (frame_seq (M.put_frame _ _) hM) hM

theorem LaneSt.countFailure_counts : L.keepsRegs [0x400E000C] L.countFailure ∧
    L.countFailure.on Reg.SEC_DBG_STAT_CHAL = L.on Reg.SEC_DBG_STAT_CHAL ∧
    L.countFailure.rd Reg.SEC_DBG_STAT_TOTAL = min (L.rd Reg.SEC_DBG_STAT_TOTAL + 1) 8 ∧
    (7 ≤ L.rd Reg.SEC_DBG_STAT_TOTAL → L.countFailure.on Reg.SEC_DBG_STAT_PERM = true) ∧
    L.countFailure.rd Reg.SEC_DBG_STAT_CONSEC = min (L.rd Reg.SEC_DBG_STAT_CONSEC + 1) 4 := by
  unfold LaneSt.countFailure
  extract_lets M
  have hregs : L.keepsRegs [0x400E000C] M := keepsRegs_wr (by decide) (L.wr_keepsRegs _ _ (by decide))
  have htotal : M.rd Reg.SEC_DBG_STAT_TOTAL = min (L.rd Reg.SEC_DBG_STAT_TOTAL + 1) 8 :=
    (LaneSt.rd_wr_self _ Reg.SEC_DBG_STAT_TOTAL _ (by decide)).trans (Nat.mod_eq_of_lt (by
      show min (L.rd Reg.SEC_DBG_STAT_TOTAL + 1) 8 < 2 ^ 4
      omega))
  have hconsec : M.rd Reg.SEC_DBG_STAT_CONSEC = min (L.rd Reg.SEC_DBG_STAT_CONSEC + 1) 4 :=
    (LaneSt.rd_wr_apart _ Reg.SEC_DBG_STAT_TOTAL Reg.SEC_DBG_STAT_CONSEC _ (by decide)).trans
      ((LaneSt.rd_wr_self _ Reg.SEC_DBG_STAT_CONSEC _ (by decide)).trans (Nat.mod_eq_of_lt (by
        show min (L.rd Reg.SEC_DBG_STAT_CONSEC + 1) 4 < 2 ^ 4
        omega)))
  have hchal : M.on Reg.SEC_DBG_STAT_CHAL = L.on Reg.SEC_DBG_STAT_CHAL :=
    congrArg (· != 0) ((LaneSt.rd_wr_apart _ Reg.SEC_DBG_STAT_TOTAL Reg.SEC_DBG_STAT_CHAL _ (by decide)).trans
      (L.rd_wr_apart Reg.SEC_DBG_STAT_CONSEC Reg.SEC_DBG_STAT_CHAL _ (by decide)))
  clear_value M
  split
  case isTrue h8 =>
    have happart : ∀ f : Fld, Reg.SEC_DBG_STAT_PERM.apart f = true → (M.put Reg.SEC_DBG_STAT_PERM true).rd f = M.rd f :=
      fun f hf => M.rd_wr_apart _ f _ hf
    exact ⟨keepsRegs_wr (by decide) hregs, (congrArg (· != 0) (happart _ (by decide))).trans hchal, (happart _ (by decide)).trans htotal,
      fun _ => M.on_put_self Reg.SEC_DBG_STAT_PERM true (by decide) (by decide), (happart _ (by decide)).trans hconsec⟩
  case isFalse h8 => exact ⟨hregs, hchal, htotal, fun h7 => absurd (show M.rd Reg.SEC_DBG_STAT_TOTAL = 8 by omega) h8, hconsec⟩

end

/-- What a failed answer leaves. -/
structure LaneSt.FailedAnswer (L M : LaneSt) : Prop where
  chal : M.on Reg.SEC_DBG_STAT_CHAL = false
  challenge : M.sec.challenge = none
  total : M.rd Reg.SEC_DBG_STAT_TOTAL = min (L.rd Reg.SEC_DBG_STAT_TOTAL + 1) 8
  perm : 7 ≤ L.rd Reg.SEC_DBG_STAT_TOTAL → M.on Reg.SEC_DBG_STAT_PERM = true
  consec : M.rd Reg.SEC_DBG_STAT_CONSEC = min (L.rd Reg.SEC_DBG_STAT_CONSEC + 1) 4

theorem LaneSt.FailedAnswer.of_regs {rs : List Nat} {L M N : LaneSt} (h : L.FailedAnswer M) (hregs : M.keepsRegs rs N)
    (hrs : covered rs 0x400E000C = false) (hsec : N.sec.challenge = M.sec.challenge) : L.FailedAnswer N where
  chal := (congrArg (· != 0) (rd_of_keepsRegs hregs Reg.SEC_DBG_STAT_CHAL hrs)).trans h.chal
  challenge := hsec.trans h.challenge
  total := (rd_of_keepsRegs hregs _ hrs).trans h.total
  perm := fun h7 => (congrArg (· != 0) (rd_of_keepsRegs hregs Reg.SEC_DBG_STAT_PERM hrs)).trans (h.perm h7)
  consec := (rd_of_keepsRegs hregs _ hrs).trans h.consec

/-- The alarm changes none of it. -/
theorem LaneSt.FailedAnswer.latchRind {L M : LaneSt} (h : L.FailedAnswer M) (l : Lane) (first : Nat) :
    L.FailedAnswer (M.latchRind l first) ∧ (M.latchRind l first).on Reg.SEC_RIND_STAT_ALARM = true := by
  obtain ⟨halarm, hchal, hchallenge, hcounts⟩ := M.latchRind_alarm l first h.chal h.challenge
  exact ⟨⟨hchal, hchallenge, (hcounts _ (by simp)).trans h.total,
    fun h7 => (congrArg (· != 0) (hcounts Reg.SEC_DBG_STAT_PERM (by simp))).trans (h.perm h7), (hcounts _ (by simp)).trans h.consec⟩, halarm⟩

/-- A failed answer told, noted and counted. -/
theorem LaneSt.Takes.failureTold {L K : LaneSt} {t : Nat} (h : L.Takes t K) (l : Lane) (r : Req) :
    L.FailedAnswer (K.failureTold l r) ∧ (K.failureTold l r).nvm.tallySeq = L.nvm.tallySeq + 1 ∧
      L.reported (K.failureTold l r) 0x0B05 0xFF ∧ (K.failureTold l r).mbx.out = [] ∧ (K.failureTold l r).mbx.inner = L.mbx.inner := by
  obtain ⟨hchal, hnone, hDregs, hDrd⟩ := K.dropChallenge_drops
  have hDfc : K.dropChallenge.fc = L.fc := (show _ = K.fc from rfl).trans (h.frame.1 .fc (by decide))
  have hDmbx : K.dropChallenge.mbx = K.mbx := rfl
  have hDnvm : K.dropChallenge.nvm = L.nvm := (show _ = K.nvm from rfl).trans h.nvm
  unfold LaneSt.failureTold
  generalize K.dropChallenge = D at hchal hnone hDregs hDrd hDfc hDmbx hDnvm ⊢
  have hraise := D.raise_frame 0x0B05 0xFF
  have htally := (D.raise 0x0B05).tally_frame l 0x0009 r.requester.toNat [] true
  obtain ⟨hseq, -⟩ := (D.raise 0x0B05).tally_counts l 0x0009 r.requester.toNat [] true
  have hkeeps := (D.raise_keepsFailures 0x0B05 0xFF (by decide)).trans ((D.raise 0x0B05).tally_keepsFailures l 0x0009 r.requester.toNat [] true)
  generalize (D.raise 0x0B05).tally l 0x0009 r.requester.toNat [] true = T at htally hseq hkeeps ⊢
  have hTregs : (D.raise 0x0B05).keepsRegs [] T := keepsRegs_same (htally.1 .regs (by decide))
  have hTmbx : T.mbx = K.mbx := (htally.1 .mbx (by decide)).trans ((hraise.1 .mbx (by decide)).trans hDmbx)
  have hTseq : T.nvm.tallySeq = L.nvm.tallySeq + 1 := by rw [hseq, show (D.raise 0x0B05).nvm = D.nvm from hraise.1 .nvm (by decide), hDnvm]
  have hTrd : ∀ f : Fld, f ∈ [Reg.SEC_DBG_STAT_TOTAL, Reg.SEC_DBG_STAT_CONSEC] → T.rd f = L.rd f := fun f hf => by
    simp only [List.mem_cons, List.not_mem_nil, or_false] at hf
    rcases hf with rfl | rfl
    · exact hkeeps.total.trans ((hDrd _ (by decide)).trans (h.rd _))
    · exact hkeeps.consec.trans ((hDrd _ (by decide)).trans (h.rd _))
  obtain ⟨hCregs, hCchal, hCtotal, hCperm, hCconsec⟩ := T.countFailure_counts
  have hC := T.countFailure_frame
  rw [hTrd _ (by simp)] at hCtotal hCperm hCconsec
  have hCmbx : T.countFailure.mbx = K.mbx := (hC.1 .mbx (by decide)).trans hTmbx
  refine ⟨⟨hCchal.trans (hkeeps.chal hchal), (congrArg SecSt.challenge (hC.1 .sec (by decide))).trans (hkeeps.challenge hnone), hCtotal, hCperm,
    hCconsec⟩, (congrArg NvmSt.tallySeq (hC.1 .nvm (by decide))).trans hTseq, ?_, by rw [hCmbx, h.out], by rw [hCmbx, h.inner]⟩
  refine LaneSt.reported_after (rs := [0x400E000C]) (by decide) (by decide) (keepsRegs_trans hCregs (keepsRegs_mono hTregs (by decide))) ?_
  exact LaneSt.reported_before (rs := [0x400E000C]) (by decide) (by decide) (keepsRegs_trans hDregs (keepsRegs_same h.regs)) hDfc
    (D.raise_reported 0x0B05 0xFF (by decide))

/-- An UNLOCK_RESP that fails. -/
theorem LaneSt.Takes.unlockFailed {L K : LaneSt} {t : Nat} (h : L.Takes t K) (l : Lane) (r : Req) :
    L.FailedAnswer (K.unlockFailed l r) ∧
      (L.rd Reg.SEC_DBG_STAT_CONSEC < 3 → (K.unlockFailed l r).nvm.tallySeq = L.nvm.tallySeq + 1 ∧ L.reported (K.unlockFailed l r) 0x0B05 0xFF ∧
        L.replied (K.unlockFailed l r) 0x0702 r [Config.resultByte false]) ∧
      (3 ≤ L.rd Reg.SEC_DBG_STAT_CONSEC → (K.unlockFailed l r).on Reg.SEC_RIND_STAT_ALARM = true) := by
  obtain ⟨hfailed, hseq, hreported, hout, hinner⟩ := h.failureTold l r
  rw [K.unlockFailed_eq l r]
  generalize K.failureTold l r = F at hfailed hseq hreported hout hinner ⊢
  have hframe := F.conclude_frame 0x0702 r none [Config.resultByte false]
  have hregs := F.conclude_regs 0x0702 r none [Config.resultByte false]
  have hreplied : L.replied (F.finish 0x0702 r [Config.resultByte false]) 0x0702 r [Config.resultByte false] :=
    LaneSt.conclude_sent hout hinner 0x0702 r none _
  rw [← LaneSt.finish_eq] at hframe hregs
  have hM := hfailed.of_regs hregs (by decide) (congrArg SecSt.challenge (hframe.1 .sec (by decide)))
  dsimp only
  generalize F.finish 0x0702 r [Config.resultByte false] = M at hM hframe hregs hreplied ⊢
  have hconsec := hM.consec
  split
  case isTrue h4 =>
    have hput : L.FailedAnswer (M.put (Reg.SEC_RIND_STAT_SRC.bit 6) true) :=
      hM.of_regs (rs := [0x400E0008]) (LaneSt.wr_keepsRegs _ _ _ (by decide)) (by decide) rfl
    obtain ⟨hlatched, halarm⟩ := hput.latchRind l 7
    exact ⟨hlatched, fun h3 => absurd h4 (by omega), fun _ => halarm⟩
  case isFalse h4 =>
    exact ⟨hM, fun _ => ⟨(congrArg NvmSt.tallySeq (hframe.1 .nvm (by decide))).trans hseq, LaneSt.reported_after (rs := [0x400F0000]) (by decide)
      (by decide) hregs hreported, hreplied⟩, fun h3 => absurd (show M.rd Reg.SEC_DBG_STAT_CONSEC = 4 by omega) h4⟩

/-- The registers of an unlocked DBG_x. -/
def LaneSt.showUnlocked (L : LaneSt) (level : Nat) : LaneSt :=
  ((L.dropChallenge.wr Reg.SEC_DBG_STAT_LEVEL level).put Reg.DBG_SESSION_UNLOCKED true).wr Reg.SEC_DBG_STAT_CONSEC 0

theorem LaneSt.showUnlocked_shows (L : LaneSt) (level : Nat) : L.keepsRegs [0x400E000C, 0x4011000C] (L.showUnlocked level) ∧
    (L.showUnlocked level).rd Reg.SEC_DBG_STAT_LEVEL = level % 4 ∧ (L.showUnlocked level).on Reg.DBG_SESSION_UNLOCKED = true ∧
    (L.showUnlocked level).rd Reg.SEC_DBG_STAT_CONSEC = 0 ∧ (L.showUnlocked level).sec.challenge = none := by
  obtain ⟨-, -, hregs, -⟩ := L.dropChallenge_drops
  have hset : L.keepsRegs [0x400E000C, 0x4011000C] ((L.dropChallenge.wr Reg.SEC_DBG_STAT_LEVEL level).put Reg.DBG_SESSION_UNLOCKED true) :=
    keepsRegs_wr (by decide) (keepsRegs_wr (by decide) (keepsRegs_mono hregs (by decide)))
  refine ⟨keepsRegs_wr (by decide) hset, ?_, ?_, LaneSt.rd_wr_self _ Reg.SEC_DBG_STAT_CONSEC 0 (by decide), rfl⟩
  · exact (LaneSt.rd_wr_apart _ Reg.SEC_DBG_STAT_CONSEC Reg.SEC_DBG_STAT_LEVEL _ (by decide)).trans
      ((LaneSt.rd_wr_apart _ Reg.DBG_SESSION_UNLOCKED Reg.SEC_DBG_STAT_LEVEL _ (by decide)).trans
        (LaneSt.rd_wr_self _ Reg.SEC_DBG_STAT_LEVEL level (by decide)))
  · exact (congrArg (· != 0) (LaneSt.rd_wr_apart _ Reg.SEC_DBG_STAT_CONSEC Reg.DBG_SESSION_UNLOCKED _ (by decide))).trans
      (LaneSt.on_put_self _ Reg.DBG_SESSION_UNLOCKED true (by decide) (by decide))

/-- An UNLOCK_RESP that unlocks. -/
theorem LaneSt.Takes.unlocked {L K : LaneSt} {t : Nat} (h : L.Takes t K) (l : Lane) (r : Req) (level : Nat) :
    L.keeps (.sec :: .nvm :: .mem :: askParts) (K.unlocked l r level) ∧
      L.keepsRegs [0x400E000C, 0x400F0000, 0x4011000C] (K.unlocked l r level) ∧
      (K.unlocked l r level).rd Reg.SEC_DBG_STAT_LEVEL = level % 4 ∧ (K.unlocked l r level).on Reg.DBG_SESSION_UNLOCKED = true ∧
      (K.unlocked l r level).rd Reg.SEC_DBG_STAT_CONSEC = 0 ∧ (K.unlocked l r level).sec.challenge = none ∧
      (K.unlocked l r level).nvm.tallySeq = L.nvm.tallySeq + 1 ∧
      L.replied (K.unlocked l r level) 0x0702 r [Config.resultByte true] := by
  have hkeeps := (frame_step (K.unlocked_frame l r level) (ps := .sec :: .nvm :: .mem :: askParts) (by decide) (frame_mono h.frame (by decide))).1
  obtain ⟨hUregs, hlevel, hon, hconsec, hnone⟩ := K.showUnlocked_shows level
  have hUmbx : (K.showUnlocked level).mbx = K.mbx := rfl
  have hUnvm : (K.showUnlocked level).nvm = L.nvm := (show _ = K.nvm from rfl).trans h.nvm
  rw [show K.unlocked l r level = ((K.showUnlocked level).tally l 0x0009 r.requester.toNat).finish 0x0702 r [Config.resultByte true] from rfl]
    at hkeeps ⊢
  generalize K.showUnlocked level = U at hUregs hlevel hon hconsec hnone hUmbx hUnvm hkeeps ⊢
  have htally := U.tally_frame l 0x0009 r.requester.toNat [] false
  obtain ⟨hseq, -⟩ := U.tally_counts l 0x0009 r.requester.toNat [] false
  generalize U.tally l 0x0009 r.requester.toNat [] false = T at htally hseq hkeeps ⊢
  have hTregs : T.regs = U.regs := htally.1 .regs (by decide)
  have hTmbx : T.mbx = K.mbx := (htally.1 .mbx (by decide)).trans hUmbx
  have hregs := T.conclude_regs 0x0702 r none [Config.resultByte true]
  have hframe := T.conclude_frame 0x0702 r none [Config.resultByte true]
  have hreplied : L.replied (T.finish 0x0702 r [Config.resultByte true]) 0x0702 r [Config.resultByte true] :=
    LaneSt.conclude_sent (by rw [hTmbx, h.out]) (by rw [hTmbx, h.inner]) 0x0702 r none _
  rw [← LaneSt.finish_eq] at hregs hframe
  have hrd : ∀ f : Fld, covered [0x400F0000] f.addr = false → (T.finish 0x0702 r [Config.resultByte true]).rd f = U.rd f := fun f hf =>
    (rd_of_keepsRegs hregs f hf).trans (rd_congr hTregs f)
  refine ⟨hkeeps, ?_, (hrd _ (by decide)).trans hlevel, (congrArg (· != 0) (hrd Reg.DBG_SESSION_UNLOCKED (by decide))).trans hon,
    (hrd _ (by decide)).trans hconsec, ?_, ?_, hreplied⟩
  · exact keepsRegs_trans (keepsRegs_mono hregs (by decide)) (keepsRegs_of_regs hTregs (keepsRegs_trans (keepsRegs_mono hUregs (by decide))
      (keepsRegs_same h.regs)))
  · exact (congrArg SecSt.challenge ((hframe.1 .sec (by decide)).trans (htally.1 .sec (by decide)))).trans hnone
  · exact (congrArg NvmSt.tallySeq (hframe.1 .nvm (by decide))).trans (by rw [hseq, hUnvm])

/-- The answer of level `level` in `session` at `t` fits the challenge (R430). -/
def LaneSt.challengeMet (L : LaneSt) (r : Req) (level t : Nat) (sigOk : Bool) : Bool :=
  match L.sec.challenge with
  | some c => sigOk && c.level == level && c.session == r.session && decide (t < c.at_ + 10000000000) && L.lc != lcDecommissioned
  | none => false

section
variable {s : State} {l : Lane} {r : Req} {level t : Nat}

section
variable (ha : (s.lane l).accepts l 0x0701 r (leBytes 1 level) t)
include ha

theorem unlockReq_locked (h : (s.lane l).on Reg.SEC_DBG_STAT_PERM = true) : LaneRuns (.unlockReq l r level t) s l fun L =>
    (s.lane l).onlyAnswered L ∧ (s.lane l).nakked L 0x0701 r nakLocked 0 :=
  laneRuns_naks (show exec (.unlockReq l r level t) s = execUnlockReq l r level t s from rfl) ha (stateOk_of_any rfl rfl) fun _ hK =>
    if_pos (by rw [hK.on]; exact h)

variable (h : (s.lane l).on Reg.SEC_DBG_STAT_PERM = false)
include h

theorem unlockReq_badLevel (hlevel : level = 0 ∨ 2 < level) : LaneRuns (.unlockReq l r level t) s l fun L =>
    (s.lane l).onlyAnswered L ∧ (s.lane l).nakked L 0x0701 r nakArgument 0 :=
  laneRuns_naks (show exec (.unlockReq l r level t) s = execUnlockReq l r level t s from rfl) ha (stateOk_of_any rfl rfl) fun _ hK =>
    (if_neg (by rw [hK.on, h]; decide)).trans (if_pos hlevel)

theorem unlockReq_challenges {P : LaneSt → Prop} (hlevel : level = 1 ∨ level = 2)
    (hP : ∀ K, (s.lane l).Takes t K → P (K.issueChallenge r level)) : LaneRuns (.unlockReq l r level t) s l P := by
  refine laneRuns_laneCmd (show exec (.unlockReq l r level t) s = execUnlockReq l r level t s from rfl) ha (stateOk_of_any rfl rfl) fun K hK => ?_
  rw [if_neg (by rw [hK.on, h]; decide), if_neg (by omega)]
  exact hP K hK

end

section
variable {sig : List Byte} {sigOk : Bool} (ha : (s.lane l).accepts l 0x0702 r (leBytes 1 level ++ leBytes 3 0 ++ sig) t)
include ha

theorem unlockResp_runs {P : LaneSt → Prop} (hP : ∀ K, (s.lane l).Takes t K →
    P (if (s.lane l).challengeMet r level t sigOk && !(s.lane l).on Reg.SEC_DBG_STAT_PERM then K.unlocked l r level else K.unlockFailed l r)) :
    LaneRuns (.unlockResp l r level sig sigOk t) s l P := by
  refine laneRuns_laneCmd (show exec (.unlockResp l r level sig sigOk t) s = execUnlockResp l r level sig sigOk t s from rfl) ha
    (stateOk_of_any rfl rfl) fun K hK => ?_
  have hok : K.challengeMet r level t sigOk = (s.lane l).challengeMet r level t sigOk := by
    rw [LaneSt.challengeMet, LaneSt.challengeMet, hK.sec, LaneSt.lc, LaneSt.lc, hK.rd]
  have hrun := hP K hK
  rw [← hok, ← hK.on] at hrun
  exact hrun

end

theorem challengeExpiry_ends (hup : (s.lane l).up = true) {c : Challenge} (hc : (s.lane l).sec.challenge = some c) (hdue : c.at_ + 10000000000 ≤ t) :
    LaneRuns (.challengeExpiry l t) s l fun L => (s.lane l).keeps [.time, .regs] L ∧ (s.lane l).keepsRegs [0x400E000C] L ∧
      L.on Reg.SEC_DBG_STAT_CHAL = false := by
  refine laneRuns_onLane (show exec (.challengeExpiry l t) s = execChallengeExpiry l t s from rfl) hup ?_
  rw [show ((s.lane l).tick t).sec.challenge = some c from hc]
  dsimp only
  rw [if_pos hdue]
  exact ⟨(LaneSt.frame_step (LaneSt.put_frame _ _ _) (by decide) (LaneSt.frame_mono ((s.lane l).tick_frame t) (by decide))).1,
    LaneSt.wr_keepsRegs ((s.lane l).tick t) _ _ (by decide), LaneSt.on_put_self _ Reg.SEC_DBG_STAT_CHAL false (by decide) (by decide)⟩

/-- The lane in a debug session that has just opened. -/
def LaneSt.openDebug (L : LaneSt) : LaneSt :=
  (((L.put Reg.DBG_SESSION_OPEN true).wr Reg.DBG_SESSION_HALT_REFUSED 0).wr Reg.DBG_JOURNAL_BUSY_CNT 0).put Reg.DBG_SESSION_TRACE
    (L.rd Reg.SEC_DBG_STAT_LEVEL == 1)

theorem LaneSt.openDebug_opens (L : LaneSt) : L.keeps [.regs] L.openDebug ∧
    L.keepsRegs [0x4011000C, Reg.DBG_JOURNAL_BUSY_CNT.addr] L.openDebug ∧ L.openDebug.on Reg.DBG_SESSION_OPEN = true ∧
    L.openDebug.rd Reg.DBG_SESSION_HALT_REFUSED = 0 ∧ L.openDebug.rd Reg.DBG_JOURNAL_BUSY_CNT = 0 := by
  unfold LaneSt.openDebug
  generalize (L.rd Reg.SEC_DBG_STAT_LEVEL == 1) = trace
  have hjournal := LaneSt.rd_wr_apart ((L.put Reg.DBG_SESSION_OPEN true).wr Reg.DBG_SESSION_HALT_REFUSED 0) Reg.DBG_JOURNAL_BUSY_CNT
  have htrace := fun f => LaneSt.rd_wr_apart (((L.put Reg.DBG_SESSION_OPEN true).wr Reg.DBG_SESSION_HALT_REFUSED 0).wr Reg.DBG_JOURNAL_BUSY_CNT 0)
    Reg.DBG_SESSION_TRACE f (if trace then 1 else 0)
  refine ⟨?_, ?_, ?_, ?_, ?_⟩
  · exact (LaneSt.frame_seq (LaneSt.put_frame _ _ _) (LaneSt.frame_seq (LaneSt.wr_frame _ _ _) (LaneSt.frame_seq (LaneSt.wr_frame _ _ _)
      (L.put_frame _ _)))).1
  · exact LaneSt.keepsRegs_wr (by decide) (LaneSt.keepsRegs_wr (by decide) (LaneSt.keepsRegs_wr (by decide) (L.wr_keepsRegs _ _ (by decide))))
  · exact (congrArg (· != 0) ((htrace _ (by decide)).trans ((hjournal _ 0 (by decide)).trans (LaneSt.rd_wr_apart _ _ _ _ (by decide))))).trans
      (L.on_put_self Reg.DBG_SESSION_OPEN true (by decide) (by decide))
  · exact (htrace _ (by decide)).trans ((hjournal _ 0 (by decide)).trans (LaneSt.rd_wr_self _ Reg.DBG_SESSION_HALT_REFUSED 0 (by decide)))
  · exact (htrace _ (by decide)).trans (LaneSt.rd_wr_self _ Reg.DBG_JOURNAL_BUSY_CNT 0 (by decide))

section
variable (hup : (s.lane l).up = true)
include hup

theorem debugSessionOpen_opens (hlevel : (s.lane l).rd Reg.SEC_DBG_STAT_LEVEL ≠ 0) (hopen : (s.lane l).on Reg.DBG_SESSION_OPEN = false) :
    LaneRuns (.debugSessionOpen l) s l fun L => (s.lane l).keeps [.regs] L ∧
      (s.lane l).keepsRegs [0x4011000C, Reg.DBG_JOURNAL_BUSY_CNT.addr] L ∧ L.on Reg.DBG_SESSION_OPEN = true ∧
      L.rd Reg.DBG_SESSION_HALT_REFUSED = 0 ∧ L.rd Reg.DBG_JOURNAL_BUSY_CNT = 0 := by
  refine laneRuns_onLaneNow (show exec (.debugSessionOpen l) s = execDebugSessionOpen l s from rfl) hup ?_
  rw [if_pos ⟨hlevel, by rw [hopen]; rfl⟩]
  exact (s.lane l).openDebug_opens

theorem debugSessionOpen_locked (hlevel : (s.lane l).rd Reg.SEC_DBG_STAT_LEVEL = 0) : LaneRuns (.debugSessionOpen l) s l fun L => L = s.lane l := by
  refine laneRuns_onLaneNow (show exec (.debugSessionOpen l) s = execDebugSessionOpen l s from rfl) hup ?_
  exact if_neg fun h => h.1 hlevel

theorem debugSessionClose_closes : LaneRuns (.debugSessionClose l) s l fun L => (s.lane l).keeps [.regs] L ∧
    (s.lane l).keepsRegs [0x4011000C] L ∧ L.on Reg.DBG_SESSION_OPEN = false :=
  laneRuns_onLaneNow (show exec (.debugSessionClose l) s = execDebugSessionClose l s from rfl) hup
    ⟨(s.lane l).closeDebug_frame.1, (s.lane l).closeDebug_regs, (s.lane l).closeDebug_open⟩

end

end

/-- A session relative to the lane that heard the request, told of the lane before it. -/
theorem LaneSt.SessionOf.hosted {L N O : LaneSt} {r : Req} {a : HelloArgs} (hregs : N.regs = L.regs) (hnonces : N.mbx.nonces = L.mbx.nonces)
    (hsec : N.sec = L.sec) (h : N.SessionOf r a O) :
    L.keepsRegs [0x400E0004, 0x400E000C, 0x400F0000, 0x400F000C, 0x400F0010] O ∧ O.mbx.nonces = (a.nonce :: L.mbx.nonces).take 64 ∧
      O.sec.keys = { L.sec.keys with sk := L.sessionKey r a } := by
  refine ⟨keepsRegs_trans h.regs (keepsRegs_same hregs), by rw [h.nonces, hnonces], ?_⟩
  rw [h.keys, LaneSt.sessionKey, LaneSt.sessionKey, LaneSt.hostKey, LaneSt.hostKey, hsec]

/-- Settles O51: a HELLO that verifies opens its session, and 600 s without a command end it; a password asked, a challenge, its answer and the
debug session, each by its own lemma. -/
theorem sessionsAndUnlock : Obligations.SessionsAndUnlock := by
  refine ⟨fun s l r t => ?_, fun s l r level t => ?_⟩
  · intro old K
    refine ⟨?_, ?_, ?_⟩
    · intro a v hup hhears hnamed htransport hcan hok key hgate hbox0 hbox15 hmodule hbox hnew
      have htakes := (s.lane l).rated_takes t key
      refine ⟨fun hwhy hv => hello_taken hup hhears hnamed htransport hcan hok hgate hbox0 hbox15 hmodule hbox hnew ?_,
        fun n d hwhy hn => hello_taken hup hhears hnamed htransport hcan hok hgate hbox0 hbox15 hmodule hbox hnew ?_⟩
      · obtain ⟨hkeeps, hsession, hreplied⟩ := htakes.hello (l := l) (key := key) (a := a) (r := r) htransport hwhy hv
        obtain ⟨hregs, hnonces, hkeys⟩ := hsession.hosted htakes.regs rfl htakes.sec
        exact ⟨hkeeps, hregs, hsession.session, hsession.requester, hsession.shown, hsession.key, hsession.roles, hsession.pwOk, hsession.lastCmd,
          hnonces, hkeys, hreplied⟩
      · exact htakes.hello_refused htransport hwhy hn
    · exact fun hup hdue hopen => ⟨sessionTimeout_ends hup hdue hopen, sessionTimeout_waits hup hdue⟩
    · intro pw ha
      exact ⟨password_locked ha, password_badLength ha, fun hfails hlo hhi =>
        password_tried ha hfails hlo hhi fun K hK => hK.password l r ((s.lane l).passwordIs pw)⟩
  · intro old
    refine ⟨fun ha => ⟨unlockReq_locked ha, unlockReq_badLevel ha, fun hperm hlevel =>
      unlockReq_challenges ha hperm hlevel fun K hK => hK.challenge r level⟩, ?_, fun hup => ⟨fun c => challengeExpiry_ends hup,
      debugSessionOpen_opens hup, debugSessionOpen_locked hup, debugSessionClose_closes hup⟩⟩
    intro sig sigOk ha ok
    refine ⟨fun hok hperm => unlockResp_runs ha fun K hK => ?_, fun hno => unlockResp_runs ha fun K hK => ?_⟩
    · rw [if_pos (by rw [show (s.lane l).challengeMet r level t sigOk = true from hok, hperm]; rfl)]
      exact hK.unlocked l r level
    · rw [if_neg (by
        rcases hno with h | h
        · rw [show (s.lane l).challengeMet r level t sigOk = false from h, Bool.false_and]; decide
        · rw [show (s.lane l).on Reg.SEC_DBG_STAT_PERM = true from h, Bool.not_true, Bool.and_false]; decide)]
      obtain ⟨hfailed, hfew, hmany⟩ := hK.unlockFailed l r
      exact ⟨hfailed.chal, hfailed.challenge, hfailed.total, hfailed.perm, hfailed.consec, hfew, hmany⟩

end Sys2Proof.Machine

/-! ## Commands of a guardian: what they leave alone, and what its lanes show (R354, R364, R373) -/
namespace Sys2Proof.Machine

/-! ### A guardian changes, and with it its lanes -/

/-- Guardian `g` changes by `F` and each lane by `h`. -/
def State.through (s : State) (g : Gdn) (F : GuardianSt → GuardianSt) (h : Lane → LaneSt → LaneSt) : State :=
  { s.updGdn g F with lanes := ⟨h .A s.lanes.a, h .B s.lanes.b, h .C s.lanes.c⟩ }

/-- What the last command made the guardian send is forgotten. -/
def GuardianSt.quiet (G : GuardianSt) : GuardianSt := { G with out := [] }

/-- Nothing but guardian `g` and the lanes has changed. -/
def State.elsewhere (g : Gdn) (s u : State) : Prop := (∀ o, o ≠ g → u.gdn o = s.gdn o) ∧ u.stages = s.stages ∧ u.pending = s.pending

/-- The lanes stay as they are. -/
def asTheyAre (_ : Lane) (L : LaneSt) : LaneSt := L

/-- A source is raised in a powered lane. -/
def LaneSt.raised (L : LaneSt) (id d : Nat) : LaneSt := if L.up then L.raise id d else L

/-- A powered lane shows a guardian's ports. -/
def LaneSt.portsShown (L : LaneSt) (g : Gdn) (G : GuardianSt) : LaneSt := if L.up then L.showPorts g G else L

section
variable (s : State) (g : Gdn) (F : GuardianSt → GuardianSt) (h : Lane → LaneSt → LaneSt)

theorem State.through_elsewhere : s.elsewhere g (s.through g F h) := by
  refine ⟨fun o ho => ?_, by cases g <;> rfl, by cases g <;> rfl⟩
  cases g with
  | X =>
    cases o with
    | X => exact absurd rfl ho
    | Y => rfl
  | Y =>
    cases o with
    | X => rfl
    | Y => exact absurd rfl ho

@[simp] theorem State.through_gdn : (s.through g F h).gdn g = F (s.gdn g) := by cases g <;> rfl

@[simp] theorem State.through_lane (l : Lane) : (s.through g F h).lane l = h l (s.lane l) := by cases l <;> rfl

theorem State.through_sameButGuardian : sameButGuardian g s (s.through g F asTheyAre) := by
  obtain ⟨hothers, hstages, hpending⟩ := s.through_elsewhere g F asTheyAre
  exact ⟨hothers, rfl, hstages, hpending⟩

theorem State.quiet_eq : s.updGdn g (fun G => { G with out := [] }) = s.through g GuardianSt.quiet asTheyAre := by cases g <;> rfl

theorem State.through_updGdn (F' : GuardianSt → GuardianSt) : (s.through g F h).updGdn g F' = s.through g (F' ∘ F) h := by
  cases g <;> rfl

theorem State.through_raiseAll (id d : Nat) : (s.through g F h).raiseAll id d = s.through g F fun l L => (h l L).raised id d := rfl

theorem State.through_showPorts : (s.through g F h).showPorts g = s.through g F fun l L => (h l L).portsShown g (F (s.gdn g)) := by
  cases g <;> rfl

end

section
variable {c : Instr} {s : State} {g : Gdn} {f : State → State} (hc : exec c s = withGdn g s f) (hg : (s.gdn g).powered = true)
include hc hg

/-- A command of a powered guardian. -/
theorem runs_withGdn {F : GuardianSt → GuardianSt} {h : Lane → LaneSt → LaneSt} {P : State → Prop}
    (hf : f (s.through g GuardianSt.quiet asTheyAre) = s.through g F h) (hP : P (s.through g F h)) : Runs c s P :=
  ⟨_, hc.trans ((if_pos hg).trans (congrArg Host.Outcome.next ((congrArg f (s.quiet_eq g)).trans hf))), hP⟩

/-- A command that acts on a powered guardian alone. -/
theorem guardianRuns_withGdn {F : GuardianSt → GuardianSt} {P : GuardianSt → Prop}
    (hf : f (s.through g GuardianSt.quiet asTheyAre) = (s.through g GuardianSt.quiet asTheyAre).updGdn g F)
    (hP : P (F (s.gdn g).quiet)) : GuardianRuns c s g P := by
  refine runs_withGdn hc hg (hf.trans (State.through_updGdn ..)) ⟨State.through_sameButGuardian .., ?_⟩
  rw [State.through_gdn]
  exact hP

end

/-! ### What a lane keeps -/

section
variable (L : LaneSt) (g : Gdn) (G : GuardianSt)

theorem LaneSt.raised_reports (id d : Nat) (hid : id < 65536) : L.keeps faultParts (L.raised id d) ∧ L.keepsRegs faultRegs (L.raised id d) ∧
    (L.up = true → L.reported (L.raised id d) id d) :=
  ⟨(frame_ite (L.raise_frame id d) (L.frame_refl _)).1, keepsRegs_ite (L.raise_regs id d hid) (L.keepsRegs_refl _), fun hup => by
    rw [LaneSt.raised, if_pos hup]
    exact L.raise_reported id d hid⟩

theorem LaneSt.showPorts_regs : L.keepsRegs [0x40090400, 0x40090408] (L.showPorts g G) :=
  have hdly : covered [0x40090400, 0x40090408] 0x40090408 = true := by decide
  have hports : covered [0x40090400, 0x40090408] 0x40090400 = true := by decide
  keepsRegs_wr hdly (keepsRegs_wr hdly (keepsRegs_wr hports (L.wr_keepsRegs _ _ hports)))

theorem LaneSt.portsShown_shows : L.keeps [.regs] (L.portsShown g G) ∧ L.keepsRegs [0x40090400, 0x40090408] (L.portsShown g G) :=
  ⟨(frame_ite (L.showPorts_frame g G) (L.frame_refl _)).1, keepsRegs_ite (L.showPorts_regs g G) (L.keepsRegs_refl _)⟩

/-- A failure of a port reported, and its state shown (R354). -/
theorem LaneSt.raised_portsShown (d : Nat) : L.keeps faultParts ((L.raised 0x0901 d).portsShown g G) ∧
    L.keepsRegs (0x40090400 :: 0x40090408 :: faultRegs) ((L.raised 0x0901 d).portsShown g G) ∧
    (L.up = true → L.reported ((L.raised 0x0901 d).portsShown g G) 0x0901 d) := by
  obtain ⟨-, hregs, hreported⟩ := L.raised_reports 0x0901 d (by decide)
  obtain ⟨-, hshown⟩ := (L.raised 0x0901 d).portsShown_shows g G
  exact ⟨(frame_step (frame_ite ((L.raised 0x0901 d).showPorts_frame g G) (LaneSt.frame_refl _ _)) (by decide)
      (frame_ite (L.raise_frame _ _) (L.frame_refl _))).1,
    keepsRegs_trans (keepsRegs_mono hshown (by decide)) (keepsRegs_mono hregs (by decide)),
    fun hup => LaneSt.reported_after (by decide) (by decide) hshown (hreported hup)⟩

end

/-! ### What a guardian sends -/

theorem GuardianSt.send_eq (G : GuardianSt) (e : Egress) (f : FlockFrame) :
    G.send e f = { G with out := if G.sends e then G.out ++ [(e, f)] else G.out } := by
  unfold GuardianSt.send
  split <;> rfl

/-- Of its frames this one has gone out. -/
def GuardianSt.hasSent (G : GuardianSt) (e : Egress) (typ : Nat) (payload : List Byte) : Bool :=
  G.out.any fun o => o.1 == e && o.2.typ == typ && o.2.payload == payload

section
variable (G : GuardianSt) (g : Gdn) (key : List Byte) (e : Egress) (typ t : Nat) (data : List Byte)

theorem GuardianSt.sendOwn_eq : G.sendOwn g key e typ t data =
    { G with out := if G.sends e then G.out ++ [(e, G.ownFrame g key typ t data)] else G.out, seq := (G.seq + 1) % 65536 } := by
  rw [GuardianSt.sendOwn, GuardianSt.send_eq]

theorem GuardianSt.sendOwn_hasSent (h : G.sends e = true) : (G.sendOwn g key e typ t data).hasSent e typ data = true := by
  rw [GuardianSt.sendOwn_eq, GuardianSt.hasSent, if_pos h, List.any_append]
  simp [GuardianSt.ownFrame, sealFrame]

theorem GuardianSt.sendOwn_keepsSent {e' : Egress} {typ' : Nat} {data' : List Byte} (h : G.hasSent e' typ' data' = true) :
    (G.sendOwn g key e typ t data).hasSent e' typ' data' = true := by
  rw [GuardianSt.sendOwn_eq, GuardianSt.hasSent]
  split
  · rw [List.any_append, show (G.out.any _) = true from h, Bool.true_or]
  · exact h

theorem GuardianSt.sendOwn_port (p : Port) : (G.sendOwn g key e typ t data).port p = G.port p := by
  rw [GuardianSt.sendOwn_eq]
  cases p <;> rfl

theorem GuardianSt.sendOwn_sends (e' : Egress) : (G.sendOwn g key e typ t data).sends e' = G.sends e' := by
  rw [GuardianSt.sendOwn_eq]
  cases e' with
  | port p => cases p <;> rfl
  | lane _ => rfl
  | sat _ => rfl

end

@[simp] theorem GuardianSt.port_setPort_self (G : GuardianSt) (p : Port) (x : PortSt) : (G.setPort p x).port p = x := by cases p <;> rfl

theorem GuardianSt.port_setPort_other (G : GuardianSt) (p : Port) (x : PortSt) : (G.setPort p x).port (otherPort p) = G.port (otherPort p) := by
  cases p <;> rfl

end Sys2Proof.Machine

/-! ## Links, loops and PDELAY (R106, R354 to R356) -/
namespace Sys2Proof.Machine

theorem GuardianSt.port_quiet (G : GuardianSt) (p : Port) : G.quiet.port p = G.port p := by cases p <;> rfl

theorem GuardianSt.port_withTime (G : GuardianSt) (t : Nat) (p : Port) : { G with time := t }.port p = G.port p := by cases p <;> rfl

theorem GuardianSt.sends_quiet (G : GuardianSt) (e : Egress) : G.quiet.sends e = G.sends e := by
  cases e with
  | port p => cases p <;> rfl
  | lane _ => rfl
  | sat _ => rfl

/-! ### A link goes down, and up (R106, R354) -/

/-- Port `p` of guardian `g` has failed at `t`. -/
def State.PortDown (g : Gdn) (p : Port) (t : Nat) (s u : State) : Prop :=
  (∀ o, o ≠ g → u.gdn o = s.gdn o) ∧ u.stages = s.stages ∧ u.pending = s.pending ∧
    ((u.gdn g).port p).broken = true ∧ ((u.gdn g).port p).link = false ∧ ((u.gdn g).port p).retryAt = some (t + 100000000) ∧
    (u.gdn g).port (otherPort p) = (s.gdn g).port (otherPort p) ∧
    ∀ l, (s.lane l).keeps faultParts (u.lane l) ∧ (s.lane l).keepsRegs (0x40090400 :: 0x40090408 :: faultRegs) (u.lane l) ∧
      ((s.lane l).up = true → (s.lane l).reported (u.lane l) 0x0901 (portDetail g (portCode p)))

/-- Nothing has changed but guardian `g` and what the lanes show of its ports. -/
def State.PortsShown (g : Gdn) (s u : State) : Prop :=
  (∀ o, o ≠ g → u.gdn o = s.gdn o) ∧ u.stages = s.stages ∧ u.pending = s.pending ∧
    ∀ l, (s.lane l).keeps [.regs] (u.lane l) ∧ (s.lane l).keepsRegs [0x40090400, 0x40090408] (u.lane l)

section
variable {c : Instr} {s : State} {g : Gdn} {f : State → State} (hc : exec c s = withGdn g s f) (hg : (s.gdn g).powered = true)
  {F : GuardianSt → GuardianSt}
include hc hg

/-- A command that takes a link down. -/
theorem runs_portDown {p : Port} {t : Nat}
    (hf : f (s.through g GuardianSt.quiet asTheyAre) =
      (((s.through g GuardianSt.quiet asTheyAre).updGdn g F).raiseAll 0x0901 (portDetail g (portCode p))).showPorts g)
    (hbroken : ((F (s.gdn g).quiet).port p).broken = true) (hlink : ((F (s.gdn g).quiet).port p).link = false)
    (hretry : ((F (s.gdn g).quiet).port p).retryAt = some (t + 100000000))
    (hother : (F (s.gdn g).quiet).port (otherPort p) = (s.gdn g).port (otherPort p)) : Runs c s (s.PortDown g p t) := by
  rw [State.through_updGdn, State.through_raiseAll, State.through_showPorts] at hf
  refine runs_withGdn hc hg hf ?_
  obtain ⟨hothers, hstages, hpending⟩ := s.through_elsewhere g (F ∘ GuardianSt.quiet) fun l L =>
    ((asTheyAre l L).raised 0x0901 (portDetail g (portCode p))).portsShown g ((F ∘ GuardianSt.quiet) (s.gdn g))
  refine ⟨hothers, hstages, hpending, ?_⟩
  rw [State.through_gdn]
  refine ⟨hbroken, hlink, hretry, hother, fun l => ?_⟩
  rw [State.through_lane]
  exact (s.lane l).raised_portsShown g _ _

/-- A command that changes a guardian and shows its ports. -/
theorem runs_portsShown {P : GuardianSt → Prop}
    (hf : f (s.through g GuardianSt.quiet asTheyAre) = ((s.through g GuardianSt.quiet asTheyAre).updGdn g F).showPorts g)
    (hP : P (F (s.gdn g).quiet)) : Runs c s fun u => s.PortsShown g u ∧ P (u.gdn g) := by
  rw [State.through_updGdn, State.through_showPorts] at hf
  refine runs_withGdn hc hg hf ?_
  obtain ⟨hothers, hstages, hpending⟩ := s.through_elsewhere g (F ∘ GuardianSt.quiet) fun l L =>
    (asTheyAre l L).portsShown g ((F ∘ GuardianSt.quiet) (s.gdn g))
  refine ⟨⟨hothers, hstages, hpending, fun l => ?_⟩, ?_⟩
  · rw [State.through_lane]
    exact (s.lane l).portsShown_shows g _
  · rw [State.through_gdn]
    exact hP

end

section
variable {s : State} {g : Gdn} {p : Port} {t : Nat} (hg : (s.gdn g).powered = true)
include hg

theorem portBroken_down {why : BreakWhy} (hwhy : breakHolds ((s.gdn g).port p) why = true) (hbroken : ((s.gdn g).port p).broken = false) :
    Runs (.portBroken g p why t) s (s.PortDown g p t) := by
  refine runs_portDown (show exec (.portBroken g p why t) s = execPortBroken g p why t s from rfl) hg
    (if_pos ?_) ?_ ?_ ?_ ?_
  · rw [State.through_gdn, GuardianSt.port_quiet]
    exact ⟨hwhy, by rw [hbroken]; rfl⟩
  all_goals simp only [GuardianSt.port_withTime, GuardianSt.port_setPort_self, GuardianSt.port_setPort_other, GuardianSt.port_quiet]

theorem ringNegotiation_down {rate : Option Nat} (hrate : rate ≠ some (s.gdn g).rate) :
    Runs (.ringNegotiation g p rate t) s (s.PortDown g p t) := by
  refine runs_portDown (show exec (.ringNegotiation g p rate t) s = execRingNegotiation g p rate t s from rfl) hg
    (if_neg ?_) ?_ ?_ ?_ ?_
  · rw [State.through_gdn]
    exact fun h => hrate (of_decide_eq_true h)
  all_goals simp only [GuardianSt.port_setPort_self, GuardianSt.port_setPort_other, GuardianSt.port_quiet]

theorem ringNegotiation_up : Runs (.ringNegotiation g p (some (s.gdn g).rate) t) s fun u => s.PortsShown g u ∧ ((u.gdn g).port p).link = true ∧
    ((u.gdn g).port p).rateLow = false ∧ ((u.gdn g).port p).retryAt = none := by
  refine runs_portsShown (show exec (.ringNegotiation g p (some (s.gdn g).rate) t) s = execRingNegotiation g p (some (s.gdn g).rate) t s from rfl) hg
    (P := fun H => (H.port p).link = true ∧ (H.port p).rateLow = false ∧ (H.port p).retryAt = none) (if_pos ?_) ?_
  · rw [State.through_gdn]
    exact decide_eq_true rfl
  · simp only [GuardianSt.port_setPort_self, and_self]

theorem linkRetry_port {r : Nat} (hretry : ((s.gdn g).port p).retryAt = some r) (hr : r ≤ t) :
    GuardianRuns (.linkRetry g (.port p) t) s g fun H =>
      H.port p = { (s.gdn g).port p with retryAt := some (t + 100000000), missed := 0, answered := 0 } := by
  refine guardianRuns_withGdn (show exec (.linkRetry g (.port p) t) s = execLinkRetry g (.port p) t s from rfl) hg rfl ?_
  dsimp only
  rw [GuardianSt.port_quiet, hretry]
  dsimp only
  rw [if_pos hr, GuardianSt.port_setPort_self]

theorem linkRetry_sat {n u : Nat} (hlo : 1 ≤ n) (hhi : n ≤ 4) (hretry : ((s.gdn g).sats.getD (n - 1) .reset).retryAt = some u) (hu : u ≤ t)
    (hlen : (s.gdn g).sats.length = 4) : GuardianRuns (.linkRetry g (.sat n) t) s g fun H =>
      H.sats.getD (n - 1) .reset = { (s.gdn g).sats.getD (n - 1) .reset with retryAt := none, missed := 0 } := by
  refine guardianRuns_withGdn (show exec (.linkRetry g (.sat n) t) s = execLinkRetry g (.sat n) t s from rfl) hg rfl ?_
  dsimp only
  rw [show (s.gdn g).quiet.sats = (s.gdn g).sats from rfl, hretry]
  dsimp only
  rw [if_pos ⟨hu, hlo, hhi⟩, List.getD_eq_getElem?_getD, List.getElem?_set_self (by omega)]
  rfl

end

/-! ### Loops (R354, R356) -/

/-- `H` is `G` with more frames sent or queued. -/
def GuardianSt.Passes (G H : GuardianSt) : Prop := ∃ q o, H = { G with queue := q, out := G.out ++ o }

theorem GuardianSt.Passes.refl (G : GuardianSt) : G.Passes G := ⟨G.queue, [], by rw [List.append_nil]⟩

theorem GuardianSt.Passes.trans {G H K : GuardianSt} (h : G.Passes H) (h' : H.Passes K) : G.Passes K := by
  obtain ⟨q, o, rfl⟩ := h
  obtain ⟨q', o', rfl⟩ := h'
  exact ⟨q', o ++ o', by rw [List.append_assoc]⟩

theorem GuardianSt.Passes.foldl {α : Type} {f : GuardianSt → α → GuardianSt} (h : ∀ (H : GuardianSt) (x : α), H.Passes (f H x)) (xs : List α)
    (G : GuardianSt) : G.Passes (xs.foldl f G) := by
  induction xs generalizing G with
  | nil => exact .refl G
  | cons x xs ih => exact (h G x).trans (ih (f G x))

theorem GuardianSt.give_passes (G : GuardianSt) (e : Egress) (f : FlockFrame) (t : Nat) : G.Passes (G.give e f t) := by
  unfold GuardianSt.give
  rw [GuardianSt.send_eq]
  split
  · exact ⟨_, [], by rw [List.append_nil]⟩
  · split
    · exact ⟨G.queue, _, rfl⟩
    · exact .refl G

theorem GuardianSt.deliver_passes (G : GuardianSt) (g : Gdn) (ls : List Lane) (ns : List Nat) (f : FlockFrame) (t : Nat) :
    G.Passes (G.deliver g ls ns f t) :=
  (GuardianSt.Passes.foldl (fun H _ => H.give_passes _ _ t) ls G).trans (.foldl (fun H _ => H.give_passes _ _ t) ns _)

theorem GuardianSt.loopBack_passes (G : GuardianSt) (g : Gdn) (ls : List Lane) (f : FlockFrame) (t : Nat) : G.Passes (G.loopBack g ls f t) := by
  unfold GuardianSt.loopBack
  split
  · exact .refl G
  · exact (G.deliver_passes g ls _ f t).trans (GuardianSt.give_passes _ _ _ t)

/-- What one of a list of frames sends is still sent at the end. -/
theorem GuardianSt.mem_out_foldl {α : Type} {f : GuardianSt → α → GuardianSt} (hf : ∀ (H : GuardianSt) (x : α), H.Passes (f H x))
    {o : Egress × FlockFrame} {G : GuardianSt} {xs : List α} {x : α} (hx : x ∈ xs) (ho : ∀ H, G.Passes H → o ∈ (f H x).out) :
    o ∈ (xs.foldl f G).out := by
  obtain ⟨as, bs, rfl⟩ := List.append_of_mem hx
  rw [List.foldl_append, List.foldl_cons]
  obtain ⟨q, rest, hrest⟩ := GuardianSt.Passes.foldl hf bs (f (as.foldl f G) x)
  rw [hrest]
  exact List.mem_append_left _ (ho _ (.foldl hf as G))

/-- A frame that goes out at once (R351). -/
theorem GuardianSt.mem_out_give (G : GuardianSt) {e : Egress} (he : G.sends e = true) {f : FlockFrame} (hf : G.arb f = false) (t : Nat) :
    (e, f) ∈ (G.give e f t).out := by
  rw [GuardianSt.give, if_neg (by rw [hf]; decide), GuardianSt.send_eq, if_pos he]
  exact List.mem_append_right _ (List.mem_singleton_self _)

/-- A powered lane that shows a guardian's ports counts a healed link. -/
def LaneSt.healShown (L : LaneSt) (g : Gdn) (G : GuardianSt) : LaneSt :=
  let M := L.portsShown g G
  if M.up then M.inc Reg.FLK_RING_STAT_HEALS else M

theorem LaneSt.showPorts_heals (L : LaneSt) (g : Gdn) (G : GuardianSt) :
    (L.showPorts g G).rd Reg.FLK_RING_STAT_HEALS = L.rd Reg.FLK_RING_STAT_HEALS := by
  unfold LaneSt.showPorts
  cases g
  all_goals
    dsimp only
    iterate 4 rw [LaneSt.rd_wr_apart _ _ Reg.FLK_RING_STAT_HEALS _ (by decide)]

theorem LaneSt.healShown_heals (L : LaneSt) (g : Gdn) (G : GuardianSt) : L.keeps [.regs] (L.healShown g G) ∧
    L.keepsRegs [0x40090400, 0x40090408] (L.healShown g G) ∧
    (L.up = true → (L.healShown g G).rd Reg.FLK_RING_STAT_HEALS = (L.rd Reg.FLK_RING_STAT_HEALS + 1) % 256) := by
  have hshown := frame_ite (c := L.up = true) (L.showPorts_frame g G) (L.frame_refl _)
  obtain ⟨-, hregs⟩ := L.portsShown_shows g G
  have hup : (L.portsShown g G).up = L.up := by
    rw [LaneSt.up, LaneSt.up, LaneSt.st, LaneSt.st, rd_of_keepsRegs hregs _ (by decide)]
  refine ⟨(frame_ite (frame_seq (LaneSt.wr_frame _ _ _) hshown) hshown).1,
    keepsRegs_ite (keepsRegs_wr (by decide) hregs) hregs, fun h => ?_⟩
  rw [LaneSt.healShown, hup, if_pos h, LaneSt.portsShown, if_pos h, LaneSt.inc, LaneSt.showPorts_heals]
  exact LaneSt.rd_wr_self _ Reg.FLK_RING_STAT_HEALS _ (by decide)

/-- The guardian with the loop of port `p` ended. -/
def GuardianSt.heal (G : GuardianSt) (p : Port) : GuardianSt :=
  { G.setPort p { G.port p with loop := false, broken := false } with heals := (G.heals + 1) % 256 }

section
variable {s : State} {g : Gdn} {p : Port} (hg : (s.gdn g).powered = true)
include hg

/-- A loop is set, and sends what was held for it. -/
theorem loopEstablished_loops {t : Nat} (hbroken : ((s.gdn g).port p).broken = true) (hloop : ((s.gdn g).port p).loop = false) :
    Runs (.loopEstablished g p t) s fun u => s.PortsShown g u ∧ ((u.gdn g).port p).loop = true ∧
      (p = .east → (u.gdn g).held = (s.gdn g).held.filter (fun h => h.1 != .east) ∧ ((s.gdn g).sends (.port .west) = true →
        ∀ h ∈ (s.gdn g).held, h.1 = .east → (s.gdn g).arb h.2.1 = false → t ≤ h.2.1.txTime + 50000 →
          (Egress.port .west, { addCorr h.2.1 (ticksFrom h.2.2 t) with looped := true }) ∈ (u.gdn g).out)) := by
  refine runs_portsShown (show exec (.loopEstablished g p t) s = execLoopEstablished g p t s from rfl) hg (P := fun H =>
    (H.port p).loop = true ∧ (p = .east → H.held = (s.gdn g).held.filter (fun h => h.1 != .east) ∧ ((s.gdn g).sends (.port .west) = true →
      ∀ h ∈ (s.gdn g).held, h.1 = .east → (s.gdn g).arb h.2.1 = false → t ≤ h.2.1.txTime + 50000 →
        (Egress.port .west, { addCorr h.2.1 (ticksFrom h.2.2 t) with looped := true }) ∈ H.out))) rfl ?_
  have hdue : ((s.gdn g).quiet.port p).broken = true ∧ (!((s.gdn g).quiet.port p).loop) = true := by
    rw [GuardianSt.port_quiet]
    exact ⟨hbroken, by rw [hloop]; rfl⟩
  dsimp only
  rw [if_pos hdue]
  cases p with
  | east =>
    refine ⟨?_, fun _ => ⟨?_, fun hsends h hh heast harb hage => ?_⟩⟩
    · obtain ⟨q, o, hH⟩ := GuardianSt.Passes.foldl (fun H (x : Port × FlockFrame × Nat) => H.give_passes _ _ t) _ _
      rw [hH]
      rfl
    · obtain ⟨q, o, hH⟩ := GuardianSt.Passes.foldl (fun H (x : Port × FlockFrame × Nat) => H.give_passes _ _ t) _ _
      rw [hH]
      rfl
    · refine GuardianSt.mem_out_foldl (fun H x => H.give_passes _ _ t) (List.mem_filter.mpr ⟨hh, ?_⟩) fun H hH => ?_
      · simp [heast, hage]
      · obtain ⟨q, o, rfl⟩ := hH
        refine GuardianSt.mem_out_give _ ?_ ?_ t
        · exact hsends
        · exact harb
  | west =>
    refine ⟨?_, fun h => by cases h⟩
    obtain ⟨q, o, hH⟩ := GuardianSt.Passes.foldl (fun H (x : Port × FlockFrame × Nat) =>
      H.loopBack_passes g ((s.through g GuardianSt.quiet asTheyAre).takers (addCorr x.2.1 (ticksFrom x.2.2 t))) (addCorr x.2.1 (ticksFrom x.2.2 t)) t) _ _
    rw [hH]
    rfl

/-- A healed link ends its loop. -/
theorem loopRelease_heals {n : Nat} (hloop : ((s.gdn g).port p).loop = true) (hlink : ((s.gdn g).port p).link = true)
    (hlow : ((s.gdn g).port p).rateLow = false) (hanswered : 2 ≤ ((s.gdn g).port p).answered) (hn : n % 64 = 0) :
    Runs (.loopRelease g p n) s fun u => s.PortsShown g u ∧ ((u.gdn g).port p).loop = false ∧ ((u.gdn g).port p).broken = false ∧
      (u.gdn g).heals = ((s.gdn g).heals + 1) % 256 ∧
      ∀ l, (s.lane l).up = true → (u.lane l).rd Reg.FLK_RING_STAT_HEALS = ((s.lane l).rd Reg.FLK_RING_STAT_HEALS + 1) % 256 := by
  refine runs_withGdn (show exec (.loopRelease g p n) s = execLoopRelease g p n s from rfl) hg (F := fun G => G.quiet.heal p)
    (h := fun _ L => L.healShown g ((s.gdn g).quiet.heal p)) ?_ ?_
  · refine (if_pos ?_).trans ?_
    · rw [State.through_gdn, GuardianSt.port_quiet]
      exact ⟨hloop, hlink, by rw [hlow]; rfl, hanswered, hn⟩
    · rw [State.through_gdn, State.through_updGdn, State.through_showPorts]
      cases g <;> rfl
  · obtain ⟨hothers, hstages, hpending⟩ := s.through_elsewhere g (fun G => G.quiet.heal p)
      (fun _ L => L.healShown g ((s.gdn g).quiet.heal p))
    have hheal : ((s.gdn g).quiet.heal p).port p = { (s.gdn g).port p with loop := false, broken := false } := by cases p <;> rfl
    refine ⟨⟨hothers, hstages, hpending, fun l => ?_⟩, ?_, ?_, ?_, fun l => ?_⟩
    · rw [State.through_lane]
      obtain ⟨hkeeps, hregs, -⟩ := (s.lane l).healShown_heals g ((s.gdn g).quiet.heal p)
      exact ⟨hkeeps, hregs⟩
    · rw [State.through_gdn, hheal]
    · rw [State.through_gdn, hheal]
    · rw [State.through_gdn]
      rfl
    · rw [State.through_lane]
      obtain ⟨-, -, hheals⟩ := (s.lane l).healShown_heals g ((s.gdn g).quiet.heal p)
      exact hheals

end

/-! ### PDELAY (R356) -/

section
variable {s : State} {g : Gdn} {p : Port} {t : Nat} (hg : (s.gdn g).powered = true)
include hg

theorem pdelayRequest_asks (ht : t % 250000 = 242000) : GuardianRuns (.pdelayRequest g t) s g fun H =>
    H.pseq = ((s.gdn g).pseq + 1) % 65536 ∧ (H.port p).req = some (H.pseq, t) ∧
      (((s.gdn g).port p).req.isSome = true → (H.port p).missed = ((s.gdn g).port p).missed + 1 ∧ (H.port p).answered = 0) ∧
      ((s.gdn g).sends (.port p) = true → H.hasSent (.port p) 6 (pdelayBytes 1 H.pseq t 0) = true) := by
  refine guardianRuns_withGdn (show exec (.pdelayRequest g t) s = execPdelayRequest g t s from rfl) hg rfl ?_
  dsimp only
  rw [if_pos ht]
  generalize hq : ((s.gdn g).quiet.pseq + 1) % 65536 = q
  generalize hQ : ({ (s.gdn g).quiet with time := t, pseq := q, east := (s.gdn g).quiet.east.request q t, west := (s.gdn g).quiet.west.request q t }
    : GuardianSt) = Q
  have hport : Q.port p = ((s.gdn g).port p).request q t := by rw [← hQ]; cases p <;> rfl
  have hsends : Q.sends (.port p) = (s.gdn g).sends (.port p) := by rw [← hQ]; cases p <;> rfl
  have hpseq : Q.pseq = q := by rw [← hQ]
  have hkept : ∀ (e e' : Egress) (key b b' : List Byte), ((Q.sendOwn g key e 6 t b).sendOwn g key e' 6 t b').pseq = q := fun e e' key b b' => by
    rw [GuardianSt.sendOwn_eq, GuardianSt.sendOwn_eq]
    exact hpseq
  rw [hkept, GuardianSt.sendOwn_port, GuardianSt.sendOwn_port, hport]
  refine ⟨hq.symm, rfl, fun hopen => ?_, fun hp => ?_⟩
  · simp only [PortSt.request, hopen, if_true, and_self]
  · rw [← hsends] at hp
    cases p with
    | east => exact GuardianSt.sendOwn_keepsSent _ _ _ _ _ _ _ (GuardianSt.sendOwn_hasSent _ _ _ _ _ _ _ hp)
    | west => exact GuardianSt.sendOwn_hasSent _ _ _ _ _ _ _ ((GuardianSt.sendOwn_sends _ _ _ _ _ _ _ _).trans hp)

end

@[simp] theorem leBytes_length (k n : Nat) : (leBytes k n).length = k := by
  induction k generalizing n with
  | zero => rfl
  | succ k ih => rw [leBytes, List.length_cons, ih]

/-- A number written in `k` bytes and read back. -/
theorem leNum_leBytes (k n : Nat) : leNum (leBytes k n) = n % 256 ^ k := by
  induction k generalizing n with
  | zero => simp [leBytes, leNum, Nat.mod_one]
  | succ k ih =>
    have hcons : leNum (leBytes (k + 1) n) = n % 256 + 256 * leNum (leBytes k (n / 256)) := by
      rw [leBytes, leNum, List.foldr_cons, BitVec.toNat_ofNat]
      rfl
    rw [hcons, ih, Nat.pow_succ', Nat.mod_mul]

/-- A field of a payload. -/
theorem leNum_field (k n : Nat) {o : Nat} {a : List Byte} (ho : a.length = o) (c : List Byte) :
    leNum (((a ++ (leBytes k n ++ c)).drop o).take k) = n % 256 ^ k := by
  rw [List.drop_left' ho, List.take_left' (leBytes_length k n), leNum_leBytes]

/-- The fields of a PDELAY payload. -/
theorem pdelayBytes_fields {kind q t2 t3 : Nat} (hkind : kind < 256) (hq : q < 2 ^ 16) (h2 : t2 < 2 ^ 64) (h3 : t3 < 2 ^ 64) :
    (pdelayBytes kind q t2 t3).length = 32 ∧ leNum (((pdelayBytes kind q t2 t3).drop 0).take 1) = kind ∧
      leNum (((pdelayBytes kind q t2 t3).drop 2).take 2) = q ∧ leNum (((pdelayBytes kind q t2 t3).drop 8).take 8) = t2 ∧
      leNum (((pdelayBytes kind q t2 t3).drop 16).take 8) = t3 := by
  have hfield : ∀ (a c : List Byte) {k n o : Nat}, pdelayBytes kind q t2 t3 = a ++ (leBytes k n ++ c) → a.length = o → n < 256 ^ k →
      leNum (((pdelayBytes kind q t2 t3).drop o).take k) = n := fun a c k n o hbytes ho hn => by
    rw [hbytes, leNum_field k n ho, Nat.mod_eq_of_lt hn]
  refine ⟨by simp [pdelayBytes],
    hfield [] (leBytes 1 0 ++ leBytes 2 q ++ leBytes 4 0 ++ leBytes 8 t2 ++ leBytes 8 t3 ++ leBytes 8 0) ?_ rfl hkind,
    hfield (leBytes 1 kind ++ leBytes 1 0) (leBytes 4 0 ++ leBytes 8 t2 ++ leBytes 8 t3 ++ leBytes 8 0) ?_ (by simp) hq,
    hfield (leBytes 1 kind ++ leBytes 1 0 ++ leBytes 2 q ++ leBytes 4 0) (leBytes 8 t3 ++ leBytes 8 0) ?_ (by simp) h2,
    hfield (leBytes 1 kind ++ leBytes 1 0 ++ leBytes 2 q ++ leBytes 4 0 ++ leBytes 8 t2) (leBytes 8 0) ?_ (by simp) h3⟩
  all_goals simp only [pdelayBytes, List.append_assoc, List.nil_append]

section
variable {s : State} {g : Gdn} {p : Port} {f : FlockFrame} {t q t2 t3 : Nat} (hg : (s.gdn g).powered = true)
  (hauth : frAuthentic (s.groupKey g) f = true) (hform : frFormOk f = true) (htyp : f.typ = 6) (hq : q < 2 ^ 16)
include hg hauth hform htyp hq

/-- A PDELAY response that answers the request outstanding (R356). -/
theorem pdelayFrame_measures {t1 : Nat} (h2 : t2 < 2 ^ 64) (h3 : t3 < 2 ^ 64) (hbytes : f.payload = pdelayBytes 2 q t2 t3)
    (hreq : ((s.gdn g).port p).req = some (q, t1)) : Runs (.pdelayFrame g p f t) s fun u => s.PortsShown g u ∧
      ((u.gdn g).port p).req = none ∧ ((u.gdn g).port p).answered = ((s.gdn g).port p).answered + 1 ∧ ((u.gdn g).port p).missed = 0 ∧
      ((u.gdn g).port p).delays = (linkDelay t1 t2 t3 t :: ((s.gdn g).port p).delays).take 16 := by
  obtain ⟨hlen, hkind, hseq, hb, hc⟩ := pdelayBytes_fields (kind := 2) (by decide) hq h2 h3
  have hkey : (s.through g GuardianSt.quiet asTheyAre).groupKey g = s.groupKey g := by cases g <;> rfl
  refine runs_portsShown (show exec (.pdelayFrame g p f t) s = execPdelayFrame g p f t s from rfl) hg (P := fun H =>
    (H.port p).req = none ∧ (H.port p).answered = ((s.gdn g).port p).answered + 1 ∧ (H.port p).missed = 0 ∧
      (H.port p).delays = (linkDelay t1 t2 t3 t :: ((s.gdn g).port p).delays).take 16) rfl ?_
  dsimp only
  rw [hbytes, if_neg (by rw [hkey, hauth, hform, htyp, hlen]; decide), if_neg (by rw [hkind]; decide), if_pos hkind, hseq, hb, hc,
    GuardianSt.port_setPort_self, GuardianSt.port_quiet, PortSt.takeResponse, hreq]
  dsimp only
  rw [if_pos rfl]
  exact ⟨rfl, rfl, rfl, rfl⟩

/-- A PDELAY request is answered on its port. -/
theorem pdelayFrame_answers (h2 : t2 < 2 ^ 64) (hbytes : f.payload = pdelayBytes 1 q t2 0) (hsends : (s.gdn g).sends (.port p) = true) :
    Runs (.pdelayFrame g p f t) s fun u => s.PortsShown g u ∧ (u.gdn g).hasSent (.port p) 6 (pdelayBytes 2 q t t) = true := by
  obtain ⟨hlen, hkind, hseq, -, -⟩ := pdelayBytes_fields (kind := 1) (by decide) hq h2 (show 0 < 2 ^ 64 by decide)
  have hkey : (s.through g GuardianSt.quiet asTheyAre).groupKey g = s.groupKey g := by cases g <;> rfl
  refine runs_portsShown (show exec (.pdelayFrame g p f t) s = execPdelayFrame g p f t s from rfl) hg (P := fun H =>
    H.hasSent (.port p) 6 (pdelayBytes 2 q t t) = true) rfl ?_
  dsimp only
  rw [hbytes, if_neg (by rw [hkey, hauth, hform, htyp, hlen]; decide), if_pos hkind, hseq]
  refine GuardianSt.sendOwn_hasSent _ _ _ _ _ _ _ (Eq.trans ?_ hsends)
  cases p <;> rfl

end

end Sys2Proof.Machine

/-! ## Arbitrating windows (R361, R362) -/
namespace Sys2Proof.Machine

/-! ### The highest rank -/

/-- A COMMAND or a MUTE frame ranks first. -/
def Queued.rank (q : Queued) : Nat := if q.frame.typ == 3 || q.frame.typ == 4 then 0 else 1

/-- The order of R361, field by field. -/
theorem outranks_iff (a b : Queued) : outranks a b = true ↔ a.rank < b.rank ∨ (a.rank = b.rank ∧
    (b.frame.priority < a.frame.priority ∨ (a.frame.priority = b.frame.priority ∧
      (a.frame.sender < b.frame.sender ∨ (a.frame.sender = b.frame.sender ∧ a.arrival < b.arrival))))) := by
  unfold outranks Queued.rank
  extract_lets cmd
  rw [show (a.frame.typ == 3 || a.frame.typ == 4) = cmd a from rfl, show (b.frame.typ == 3 || b.frame.typ == 4) = cmd b from rfl]
  by_cases hcmd : cmd a = cmd b
  · rw [hcmd, bne_self_eq_false, if_neg (by decide)]
    split
    · rw [decide_eq_true_iff]; omega
    · split
      · rw [decide_eq_true_iff]; omega
      · rw [decide_eq_true_iff]; omega
  · rw [if_pos (bne_iff_ne.mpr hcmd)]
    obtain ⟨ha, hb⟩ | ⟨ha, hb⟩ : (cmd a = true ∧ cmd b = false) ∨ (cmd a = false ∧ cmd b = true) := by
      cases ha : cmd a with
      | true => exact .inl ⟨rfl, by simpa [ha] using hcmd⟩
      | false => exact .inr ⟨rfl, by simpa [ha] using hcmd⟩
    · simp [ha, hb]
    · simp [ha, hb]

theorem outranks_eq_false (a b : Queued) : outranks a b = false ↔ ¬ (a.rank < b.rank ∨ (a.rank = b.rank ∧
    (b.frame.priority < a.frame.priority ∨ (a.frame.priority = b.frame.priority ∧
      (a.frame.sender < b.frame.sender ∨ (a.frame.sender = b.frame.sender ∧ a.arrival < b.arrival)))))) := by
  rw [← outranks_iff, Bool.not_eq_true]

theorem outranks_irrefl (a : Queued) : outranks a a = false := by
  rw [outranks_eq_false]
  omega

/-- Not ranking above is transitive. -/
theorem outranks_trans_false {a b c : Queued} (hab : outranks a b = false) (hbc : outranks b c = false) : outranks a c = false := by
  rw [outranks_eq_false] at *
  omega

/-- The better of two frames. -/
def higher (best x : Queued) : Queued := if outranks x best then x else best

theorem higher_of (q y : Queued) : (higher q y = q ∨ higher q y = y) ∧ outranks q (higher q y) = false ∧ outranks y (higher q y) = false := by
  unfold higher
  split
  case isTrue h =>
    rw [outranks_iff] at h
    exact ⟨.inr rfl, by rw [outranks_eq_false]; omega, by rw [outranks_eq_false]; omega⟩
  case isFalse h => exact ⟨.inl rfl, by rw [outranks_eq_false]; omega, by simpa using h⟩

/-- Among `q` and `qs` the fold finds a frame that none outranks. -/
theorem foldl_higher (qs : List Queued) (q : Queued) : qs.foldl higher q ∈ q :: qs ∧ ∀ x ∈ q :: qs, outranks x (qs.foldl higher q) = false := by
  induction qs generalizing q with
  | nil => exact ⟨List.mem_singleton_self _, fun x hx => by rw [List.mem_singleton.mp hx]; exact outranks_irrefl q⟩
  | cons y ys ih =>
    obtain ⟨hmem, hnone⟩ := ih (higher q y)
    obtain ⟨hone, hq, hy⟩ := higher_of q y
    rw [List.foldl_cons]
    generalize ys.foldl higher (higher q y) = top at hmem hnone ⊢
    have htop := hnone _ List.mem_cons_self
    refine ⟨?_, fun x hx => ?_⟩
    · rcases List.mem_cons.mp hmem with h | h
      · rcases hone with e | e <;> simp [h, e]
      · simp [h]
    · simp only [List.mem_cons] at hx
      rcases hx with rfl | rfl | hx
      · exact outranks_trans_false hq htop
      · exact outranks_trans_false hy htop
      · exact hnone x (List.mem_cons_of_mem _ hx)

theorem topRank_none (qs : List Queued) : topRank qs = none ↔ qs = [] := by
  cases qs <;> simp [topRank]

theorem topRank_top {qs : List Queued} {q : Queued} (h : topRank qs = some q) : q ∈ qs ∧ ∀ x ∈ qs, outranks x q = false := by
  cases qs with
  | nil => cases h
  | cons x xs =>
    obtain rfl : xs.foldl higher x = q := Option.some.inj h
    exact foldl_higher xs x

/-! ### An egress that is free (R361) -/

section
variable {s : State} {g : Gdn} {e : Egress} {t : Nat} {q : Queued} (hg : (s.gdn g).powered = true)
  (hq : topRank ((s.gdn g).queue.filter fun x => x.egress == e) = some q)
include hg hq

theorem arbEgressSend_sends (hfits : t + (s.gdn g).frameTime e q.frame ≤
      cycleStart t + ((frWin q.frame (s.gdn g).sched).start + (frWin q.frame (s.gdn g).sched).len) * 100) :
    GuardianRuns (.arbEgressSend g e t) s g fun H => H =
      { s.gdn g with out := if (s.gdn g).sends e then [(e, addCorr q.frame (ticksFrom q.arrival t))] else []
                     time := t, queue := (s.gdn g).queue.erase q } := by
  refine guardianRuns_withGdn (show exec (.arbEgressSend g e t) s = execArbEgressSend g e t s from rfl) hg rfl ?_
  dsimp only
  rw [show (s.gdn g).quiet.queue = (s.gdn g).queue from rfl, hq]
  dsimp only
  refine (if_pos hfits).trans ?_
  rw [GuardianSt.send_eq, GuardianSt.sends_quiet]
  rfl

theorem arbEgressSend_waits (hlate : cycleStart t + ((frWin q.frame (s.gdn g).sched).start + (frWin q.frame (s.gdn g).sched).len) * 100 <
      t + (s.gdn g).frameTime e q.frame) :
    GuardianRuns (.arbEgressSend g e t) s g fun H => H = { s.gdn g with out := [] } := by
  refine guardianRuns_withGdn (show exec (.arbEgressSend g e t) s = execArbEgressSend g e t s from rfl) hg rfl ?_
  dsimp only
  rw [show (s.gdn g).quiet.queue = (s.gdn g).queue from rfl, hq]
  exact if_neg (Nat.not_le.mpr hlate)

end

/-! ### The end of a window (R362) -/

/-- The frame is queued for window `w` of matrix position `m`. -/
def Queued.inWindow (q : Queued) (w m : Nat) : Bool := q.frame.window % 48 == w && q.frame.matrix % 64 == m

/-- Frames of a source of the node among those dropped. -/
def GuardianSt.dropsOf (G : GuardianSt) (w m src : Nat) : Nat :=
  ((G.queue.filter fun q => q.inWindow w m).filter fun q => q.frame.sender == G.node * 8 + src).length

/-- The guardian at the end of a window. -/
def GuardianSt.endWindow (G : GuardianSt) (w m : Nat) : GuardianSt :=
  { G with
    queue := G.queue.filter fun q => !q.inWindow w m
    sats := (List.range 4).map fun n =>
      let x := G.sats.getD n .reset
      { x with dropped := x.dropped + G.dropsOf w m (4 + n) } }

/-- A powered lane counts the frames of its own that were dropped. -/
def LaneSt.countDrops (L : LaneSt) (n : Nat) : LaneSt := if L.up then L.inc Reg.FLK_ARB_STAT_DROPPED n else L

theorem LaneSt.countDrops_counts (L : LaneSt) (n : Nat) : L.keeps [.regs] (L.countDrops n) ∧ L.keepsRegs [0x4009040C] (L.countDrops n) ∧
    (L.up = true → (L.countDrops n).rd Reg.FLK_ARB_STAT_DROPPED = (L.rd Reg.FLK_ARB_STAT_DROPPED + n) % 65536) := by
  refine ⟨(frame_ite (L.wr_frame _ _) (L.frame_refl _)).1, keepsRegs_ite (L.wr_keepsRegs _ _ (by decide)) (L.keepsRegs_refl _), fun hup => ?_⟩
  rw [LaneSt.countDrops, if_pos hup]
  exact L.rd_wr_self Reg.FLK_ARB_STAT_DROPPED _ (by decide)

theorem arbWindowEnd_drops {s : State} {g : Gdn} {w m : Nat} (hg : (s.gdn g).powered = true) : Runs (.arbWindowEnd g w m) s fun u =>
    (∀ o, o ≠ g → u.gdn o = s.gdn o) ∧ u.stages = s.stages ∧ u.pending = s.pending ∧ (u.gdn g).out = [] ∧
      (∀ q, q ∈ (u.gdn g).queue ↔ q ∈ (s.gdn g).queue ∧ ¬(q.frame.window % 48 = w ∧ q.frame.matrix % 64 = m)) ∧
      ∀ l, (s.lane l).keeps [.regs] (u.lane l) ∧ (s.lane l).keepsRegs [0x4009040C] (u.lane l) ∧ ((s.lane l).up = true →
        (u.lane l).rd Reg.FLK_ARB_STAT_DROPPED = ((s.lane l).rd Reg.FLK_ARB_STAT_DROPPED + ((s.gdn g).queue.filter fun q =>
          q.frame.window % 48 == w && q.frame.matrix % 64 == m && q.frame.sender == (s.gdn g).node * 8 + (laneIx l + 1)).length) % 65536) := by
  refine runs_withGdn (show exec (.arbWindowEnd g w m) s = execArbWindowEnd g w m s from rfl) hg (F := fun G => G.quiet.endWindow w m)
    (h := fun l L => L.countDrops ((s.gdn g).quiet.dropsOf w m (laneIx l + 1))) ?_ ?_
  · cases g <;> rfl
  · obtain ⟨hothers, hstages, hpending⟩ := s.through_elsewhere g (fun G => G.quiet.endWindow w m)
      (fun l L => L.countDrops ((s.gdn g).quiet.dropsOf w m (laneIx l + 1)))
    refine ⟨hothers, hstages, hpending, ?_, fun q => ?_, fun l => ?_⟩
    · rw [State.through_gdn]
      rfl
    · rw [State.through_gdn]
      refine List.mem_filter.trans (and_congr_right fun _ => ?_)
      simp only [Queued.inWindow, Bool.not_eq_true', Bool.and_eq_false_iff, beq_eq_false_iff_ne, ne_eq, not_and_or]
    · rw [State.through_lane]
      obtain ⟨hkeeps, hregs, hcount⟩ := (s.lane l).countDrops_counts ((s.gdn g).quiet.dropsOf w m (laneIx l + 1))
      refine ⟨hkeeps, hregs, fun hup => ?_⟩
      rw [hcount hup, GuardianSt.dropsOf, List.filter_filter]
      simp only [Queued.inWindow, Bool.and_comm]
      rfl

end Sys2Proof.Machine

/-! ## Mutes (R363, R364) -/
namespace Sys2Proof.Machine

/-- A sender of the node is muted. -/
def GuardianSt.mutesSender (G : GuardianSt) (sender : Nat) : Bool := G.mutes.any fun m => muteActive m && muteHits m sender

/-- A powered lane shows whether guardian `g` mutes it, and logs the start. -/
def LaneSt.muteShown (L : LaneSt) (g : Gdn) (b : Bool) : LaneSt :=
  if L.up then (L.logMute (b && !L.on (guardFld g 12 1))).put (guardFld g 12 1) b else L

theorem State.through_showMuted (s : State) (g : Gdn) (F : GuardianSt → GuardianSt) (h : Lane → LaneSt → LaneSt) :
    (s.through g F h).showMuted g =
      s.through g F fun l L => (h l L).muteShown g ((F (s.gdn g)).mutesSender ((F (s.gdn g)).node * 8 + laneIx l + 1)) := by
  cases g <;> rfl

theorem LaneSt.muteShown_shows (L : LaneSt) (g : Gdn) (b : Bool) : L.keeps [.fc, .regs] (L.muteShown g b) ∧
    L.keepsRegs [0x40090404] (L.muteShown g b) ∧ (L.up = true → (L.muteShown g b).on (guardFld g 12 1) = b ∧
      (L.on (guardFld g 12 1) = false → b = true → (L.muteShown g b).fc.log = (0x0004#16, 0, L.time) :: L.fc.log)) := by
  have hlog := L.logMute_frame (b && !L.on (guardFld g 12 1))
  refine ⟨(frame_ite (frame_step (LaneSt.put_frame _ _ _) (by decide) (frame_mono hlog (by decide))) (L.frame_refl _)).1,
    keepsRegs_ite (keepsRegs_wr (show covered [0x40090404] 0x40090404 = true by decide) (keepsRegs_same (hlog.1 .regs (by decide))))
      (L.keepsRegs_refl _), fun hup => ?_⟩
  rw [LaneSt.muteShown, if_pos hup]
  refine ⟨LaneSt.on_put_self _ _ b (by cases g <;> decide) (by simp [guardFld]), fun hoff hb => ?_⟩
  rw [hoff, hb]
  rfl

section
variable {s : State} {g : Gdn} {n : Nat} (hg : (s.gdn g).powered = true)
include hg

theorem muteFrame_held (f : FlockFrame) : GuardianRuns (.muteFrame g f n) s g fun H =>
    ((s.gdn g).muteOk (s.groupKey g) f = false → H = { s.gdn g with out := [], drops := ((s.gdn g).drops + 1) % 256 }) ∧
      ((s.gdn g).muteOk (s.groupKey g) f = true → H.drops = (s.gdn g).drops ∧ H.muteRx = ((s.gdn g).muteRx + 1) % 256 ∧
        H.mutes.getLast? = some { target := (f.payload.getD 0 0#8).toNat, mask := (f.payload.getD 1 0#8).toNat, cycles := muteCycles f
                                  startAt := n + 1, endAt := none }) := by
  refine guardianRuns_withGdn (show exec (.muteFrame g f n) s = execMuteFrame g f n s from rfl) hg rfl ?_
  have hok : (s.gdn g).quiet.muteOk ((s.through g GuardianSt.quiet asTheyAre).groupKey g) f = (s.gdn g).muteOk (s.groupKey g) f := by
    rw [show (s.through g GuardianSt.quiet asTheyAre).groupKey g = s.groupKey g by cases g <;> rfl]
    rfl
  dsimp only
  rw [hok]
  refine ⟨fun h => by rw [h]; rfl, fun h => ?_⟩
  rw [if_pos h]
  refine ⟨rfl, rfl, ?_⟩
  unfold GuardianSt.addMute
  extract_lets held ms
  exact List.getLast?_concat

/-- A command that changes a guardian's mutes and shows them. -/
theorem runs_mutesShown {c : Instr} {f : State → State} (hc : exec c s = withGdn g s f) {F : GuardianSt → GuardianSt} {P : GuardianSt → Prop}
    (hf : f (s.through g GuardianSt.quiet asTheyAre) = ((s.through g GuardianSt.quiet asTheyAre).updGdn g F).showMuted g)
    (hP : P (F (s.gdn g).quiet)) : Runs c s fun u => (∀ o, o ≠ g → u.gdn o = s.gdn o) ∧ u.stages = s.stages ∧ u.pending = s.pending ∧
      P (u.gdn g) ∧ ∀ l, (s.lane l).keeps [.fc, .regs] (u.lane l) ∧ (s.lane l).keepsRegs [0x40090404] (u.lane l) ∧ ((s.lane l).up = true →
        ((s.lane l).on (guardFld g 12 1) = false → (u.lane l).on (guardFld g 12 1) = true →
          (u.lane l).fc.log = (0x0004#16, 0, (s.lane l).time) :: (s.lane l).fc.log) ∧
        (u.lane l).on (guardFld g 12 1) = (u.gdn g).mutes.any fun m => muteActive m && muteHits m ((u.gdn g).node * 8 + laneIx l + 1)) := by
  rw [State.through_updGdn, State.through_showMuted] at hf
  refine runs_withGdn hc hg hf ?_
  obtain ⟨hothers, hstages, hpending⟩ := s.through_elsewhere g (F ∘ GuardianSt.quiet) fun l L => (asTheyAre l L).muteShown g
    (((F ∘ GuardianSt.quiet) (s.gdn g)).mutesSender (((F ∘ GuardianSt.quiet) (s.gdn g)).node * 8 + laneIx l + 1))
  refine ⟨hothers, hstages, hpending, ?_, fun l => ?_⟩
  · rw [State.through_gdn]
    exact hP
  · rw [State.through_lane, State.through_gdn]
    generalize (F ∘ GuardianSt.quiet) (s.gdn g) = H
    obtain ⟨hkeeps, hregs, hup⟩ := (s.lane l).muteShown_shows g (H.mutesSender (H.node * 8 + laneIx l + 1))
    exact ⟨hkeeps, hregs, fun h => ⟨fun hoff hon => (hup h).2 hoff ((hup h).1.symm.trans hon), (hup h).1⟩⟩

theorem muteStart_starts : Runs (.muteStart g n) s fun u => (∀ o, o ≠ g → u.gdn o = s.gdn o) ∧ u.stages = s.stages ∧ u.pending = s.pending ∧
    ((∀ m ∈ (s.gdn g).mutes, m.endAt = none → m.startAt ≤ n → m.cycles ≠ 0 → { m with endAt := some m.endOf } ∈ (u.gdn g).mutes) ∧
      (∀ m ∈ (u.gdn g).mutes, m.endAt = none → n < m.startAt)) ∧
    ∀ l, (s.lane l).keeps [.fc, .regs] (u.lane l) ∧ (s.lane l).keepsRegs [0x40090404] (u.lane l) ∧ ((s.lane l).up = true →
      ((s.lane l).on (guardFld g 12 1) = false → (u.lane l).on (guardFld g 12 1) = true →
        (u.lane l).fc.log = (0x0004#16, 0, (s.lane l).time) :: (s.lane l).fc.log) ∧
      (u.lane l).on (guardFld g 12 1) = (u.gdn g).mutes.any fun m => muteActive m && muteHits m ((u.gdn g).node * 8 + laneIx l + 1)) := by
  refine runs_mutesShown hg (show exec (.muteStart g n) s = execMuteStart g n s from rfl) (P := fun H =>
    (∀ m ∈ (s.gdn g).mutes, m.endAt = none → m.startAt ≤ n → m.cycles ≠ 0 → { m with endAt := some m.endOf } ∈ H.mutes) ∧
      (∀ m ∈ H.mutes, m.endAt = none → n < m.startAt)) rfl ⟨fun m hm hnone hstart hcycles => ?_, fun m hm hnone => ?_⟩
  · refine List.mem_append_right _ (List.mem_map.mpr ⟨m, List.mem_filter.mpr ⟨List.mem_filter.mpr ⟨hm, ?_⟩, decide_eq_true hcycles⟩, rfl⟩)
    simp [muteActive, hnone, hstart]
  · rcases List.mem_append.mp hm with hm | hm
    · have hrest := (List.mem_filter.mp (List.mem_filter.mp hm).1).2
      simpa [muteActive, hnone] using hrest
    · obtain ⟨_, _, rfl⟩ := List.mem_map.mp hm
      cases hnone

theorem muteExpiry_ends : Runs (.muteExpiry g n) s fun u => (∀ o, o ≠ g → u.gdn o = s.gdn o) ∧ u.stages = s.stages ∧ u.pending = s.pending ∧
    (∀ m, m ∈ (u.gdn g).mutes ↔ m ∈ (s.gdn g).mutes ∧ ∀ e, m.endAt = some e → n < e) ∧
    ∀ l, (s.lane l).keeps [.fc, .regs] (u.lane l) ∧ (s.lane l).keepsRegs [0x40090404] (u.lane l) := by
  have hruns := runs_mutesShown hg (show exec (.muteExpiry g n) s = execMuteExpiry g n s from rfl) (P := fun H =>
    ∀ m, m ∈ H.mutes ↔ m ∈ (s.gdn g).mutes ∧ ∀ e, m.endAt = some e → n < e) rfl fun m => by
      refine List.mem_filter.trans (and_congr_right fun _ => ?_)
      cases m.endAt <;> simp
  obtain ⟨u, hexec, hothers, hstages, hpending, hmutes, hlanes⟩ := hruns
  exact ⟨u, hexec, hothers, hstages, hpending, hmutes, fun l => ⟨(hlanes l).1, (hlanes l).2.1⟩⟩

end

/-- A COMMAND, a MUTE and a guardian's own frame are never muted. -/
theorem GuardianSt.never_muted {G : GuardianSt} {f : FlockFrame} (h : f.typ = 3 ∨ f.typ = 4 ∨ idSource f.sender = 0) : G.muted f = false := by
  unfold GuardianSt.muted
  rcases h with h | h | h <;> simp [h]

end Sys2Proof.Machine

/-! ## Satellites and guardian status words (R107, R300, R366, R368) -/
namespace Sys2Proof.Machine

/-! ### Satellites (R107, R366) -/

theorem GuardianSt.setSat_self (G : GuardianSt) {n : Nat} (hlo : 1 ≤ n) (hhi : n ≤ 4) (hlen : G.sats.length = 4) (x : SatSt) :
    (G.setSat n x).sats.getD (n - 1) .reset = x := by
  rw [GuardianSt.setSat, List.getD_eq_getElem?_getD, List.getElem?_set_self (by omega)]
  rfl

/-- The satellite at port `n` is taken for gone. -/
def State.SatGone (g : Gdn) (n : Nat) (r : Option Nat) (s u : State) : Prop :=
  (∀ o, o ≠ g → u.gdn o = s.gdn o) ∧ u.stages = s.stages ∧ u.pending = s.pending ∧
    (u.gdn g).sats.getD (n - 1) .reset = { SatSt.reset with retryAt := r } ∧
    ∀ l, (s.lane l).keeps faultParts (u.lane l) ∧ (s.lane l).keepsRegs faultRegs (u.lane l) ∧
      ((s.lane l).up = true → (s.lane l).reported (u.lane l) 0x0906 (portDetail g (1 + n)))

/-- The HELLO is due at a port (R107, R366). -/
def SatSt.HelloDue (x : SatSt) (t : Nat) : Prop :=
  (x.up = true ∧ x.helloAt ≠ some (cycleOf t / 64)) ∨ (x.up = false ∧ ∀ u, x.retryAt = some u → u ≤ t)

theorem SatSt.HelloDue.notEarly {x : SatSt} {t : Nat} (h : x.HelloDue t) :
    (if x.up then x.helloAt == some (cycleOf t / 64) else match x.retryAt with
      | some u => decide (t < u)
      | none => false) = false := by
  rcases h with ⟨hup, hhello⟩ | ⟨hup, hretry⟩
  · rw [hup, if_pos rfl]
    exact beq_eq_false_iff_ne.mpr hhello
  · rw [hup, if_neg (by decide)]
    cases hr : x.retryAt with
    | none => rfl
    | some u => exact decide_eq_false (Nat.not_lt.mpr (hretry u hr))

/-- The guardian that has sent its HELLO at port `n`. -/
def GuardianSt.sendHello (G : GuardianSt) (g : Gdn) (key : List Byte) (n t : Nat) : GuardianSt :=
  { G with time := t }.sendOwn g key (.sat n) 5 t (G.helloBytes n)

theorem GuardianSt.sendHello_sends (G : GuardianSt) (g : Gdn) (key : List Byte) (n t : Nat) :
    (G.sendHello g key n t).hasSent (.sat n) 5 (G.helloBytes n) = true ∧ (G.sendHello g key n t).sats = G.sats ∧
      (G.sendHello g key n t).offered = G.offered :=
  ⟨GuardianSt.sendOwn_hasSent _ _ _ _ _ _ _ rfl, by rw [GuardianSt.sendHello, GuardianSt.sendOwn_eq],
    by rw [GuardianSt.sendHello, GuardianSt.sendOwn_eq]⟩

/-- What a sent HELLO leads to at a port `x`, by the answer that comes after `ms`. -/
def State.helloAnswered (s : State) (g : Gdn) (n vmin vmax : Nat) (caps : BitVec 32) (ms t : Nat) (x : SatSt) : State :=
  let told := { x with dropped := 0, helloAt := some (cycleOf t / 64) }
  if 10 < ms then
    s.updGdn g fun G => G.setSat n (if x.up then { told with missed := x.missed + 1 } else .gone t)
  else if vmin ≤ 1 ∧ 1 ≤ vmax then
    s.updGdn g fun G =>
      G.setSat n { told with up := true, version := 1, caps := caps &&& 0x1F#32 &&& G.offered, missed := 0, retryAt := none }
  else (s.updGdn g fun G => G.setSat n (.gone t)).raiseAll 0x0906 (portDetail g (1 + n))

section
variable {s : State} {g : Gdn} {n lo hi ms t : Nat} {caps : BitVec 32} (hg : (s.gdn g).powered = true) (hlo : 1 ≤ n) (hhi : n ≤ 4)
include hg hlo hhi

theorem satelliteHello_runs {P : State → Prop} (hdue : ((s.gdn g).sats.getD (n - 1) .reset).HelloDue t)
    (hP : P ((s.through g (fun G => G.quiet.sendHello g (s.groupKey g) n t) asTheyAre).helloAnswered g n lo hi caps ms t
      ((s.gdn g).sats.getD (n - 1) .reset))) : Runs (.satelliteHello g n lo hi caps ms t) s P := by
  refine ⟨_, ((show exec (.satelliteHello g n lo hi caps ms t) s = execSatelliteHello g n lo hi caps ms t s from rfl).trans (if_pos hg)).trans
    (congrArg Host.Outcome.next ?_), hP⟩
  have hx : (s.through g GuardianSt.quiet asTheyAre).gdn g = (s.gdn g).quiet := State.through_gdn ..
  have hkey : (s.through g GuardianSt.quiet asTheyAre).groupKey g = s.groupKey g := by cases g <;> rfl
  rw [State.quiet_eq]
  dsimp only
  rw [if_neg (by
    rw [hx]
    have hearly := hdue.notEarly
    rintro (h | h | h)
    · omega
    · omega
    · exact absurd (hearly.symm.trans h) (by decide)), hx, hkey, State.through_updGdn]
  rfl

variable (hlen : (s.gdn g).sats.length = 4) (hdue : ((s.gdn g).sats.getD (n - 1) .reset).HelloDue t)
include hlen hdue

/-- A HELLO after which the port takes `y`, and nothing is raised. -/
theorem satelliteHello_takes {y : SatSt} {F : GuardianSt → GuardianSt} (hF : ∀ G : GuardianSt, G.offered = (s.gdn g).offered → F G = G.setSat n y)
    (hf : ∀ S : State, S.helloAnswered g n lo hi caps ms t ((s.gdn g).sats.getD (n - 1) .reset) = S.updGdn g F) :
    GuardianRuns (.satelliteHello g n lo hi caps ms t) s g fun H =>
      H.hasSent (.sat n) 5 ((s.gdn g).helloBytes n) = true ∧ H.sats.getD (n - 1) .reset = y := by
  obtain ⟨hsent, hsats, hoffered⟩ := (s.gdn g).quiet.sendHello_sends g (s.groupKey g) n t
  refine satelliteHello_runs hg hlo hhi hdue ?_
  rw [hf, State.through_updGdn]
  refine ⟨State.through_sameButGuardian .., ?_⟩
  rw [State.through_gdn, Function.comp_apply, hF _ hoffered]
  exact ⟨hsent, GuardianSt.setSat_self _ hlo hhi ((congrArg List.length hsats).trans hlen) y⟩

theorem satelliteHello_answered (hms : ms ≤ 10) (hvlo : lo ≤ 1) (hvhi : 1 ≤ hi) : GuardianRuns (.satelliteHello g n lo hi caps ms t) s g fun H =>
    H.hasSent (.sat n) 5 ((s.gdn g).helloBytes n) = true ∧ H.sats.getD (n - 1) .reset =
      { up := true, version := 1, caps := caps &&& 0x1F#32 &&& (s.gdn g).offered, missed := 0, dropped := 0
        retryAt := none, helloAt := some (cycleOf t / 64) } :=
  satelliteHello_takes hg hlo hhi hlen hdue (fun G hG => by rw [← hG]) fun S =>
    (if_neg (Nat.not_lt.mpr hms)).trans (if_pos ⟨hvlo, hvhi⟩)

theorem satelliteHello_missed (hms : 10 < ms) : GuardianRuns (.satelliteHello g n lo hi caps ms t) s g fun H =>
    H.hasSent (.sat n) 5 ((s.gdn g).helloBytes n) = true ∧ H.sats.getD (n - 1) .reset =
      if ((s.gdn g).sats.getD (n - 1) .reset).up then
        { (s.gdn g).sats.getD (n - 1) .reset with
          missed := ((s.gdn g).sats.getD (n - 1) .reset).missed + 1, dropped := 0, helloAt := some (cycleOf t / 64) }
      else .gone t :=
  satelliteHello_takes hg hlo hhi hlen hdue (fun _ _ => rfl) fun _ => if_pos hms

theorem satelliteHello_gone (hms : ms ≤ 10) (hversion : 1 < lo ∨ hi < 1) :
    Runs (.satelliteHello g n lo hi caps ms t) s (s.SatGone g n (some (t + 100000000))) := by
  obtain ⟨-, hsats, -⟩ := (s.gdn g).quiet.sendHello_sends g (s.groupKey g) n t
  refine satelliteHello_runs hg hlo hhi hdue ?_
  unfold State.helloAnswered
  extract_lets told
  rw [if_neg (Nat.not_lt.mpr hms), if_neg (by omega), State.through_updGdn, State.through_raiseAll]
  obtain ⟨hothers, hstages, hpending⟩ := s.through_elsewhere g
    ((fun G : GuardianSt => G.setSat n (.gone t)) ∘ fun G => G.quiet.sendHello g (s.groupKey g) n t)
    (fun l L => (asTheyAre l L).raised 0x0906 (portDetail g (1 + n)))
  refine ⟨hothers, hstages, hpending, ?_, fun l => ?_⟩
  · rw [State.through_gdn]
    exact GuardianSt.setSat_self _ hlo hhi ((congrArg List.length hsats).trans hlen) _
  · rw [State.through_lane]
    exact (s.lane l).raised_reports 0x0906 _ (by decide)

end

/-- A satellite whose answers fail is lost (R366). -/
theorem satelliteLost_gone {s : State} {g : Gdn} {n : Nat} (hg : (s.gdn g).powered = true) (hlo : 1 ≤ n) (hhi : n ≤ 4)
    (hlen : (s.gdn g).sats.length = 4) (hup : ((s.gdn g).sats.getD (n - 1) .reset).up = true)
    (hmissed : 3 ≤ ((s.gdn g).sats.getD (n - 1) .reset).missed) : Runs (.satelliteLost g n) s (s.SatGone g n none) := by
  refine runs_withGdn (show exec (.satelliteLost g n) s = execSatelliteLost g n s from rfl) hg
    (F := (fun G : GuardianSt => G.setSat n { SatSt.gone G.time with retryAt := none }) ∘ GuardianSt.quiet)
    (h := fun l L => (asTheyAre l L).raised 0x0906 (portDetail g (1 + n))) ?_ ?_
  · refine (if_pos ?_).trans ?_
    · rw [State.through_gdn]
      exact ⟨hlo, hhi, hup, hmissed⟩
    · rw [State.through_updGdn, State.through_raiseAll]
  · obtain ⟨hothers, hstages, hpending⟩ := s.through_elsewhere g
      ((fun G : GuardianSt => G.setSat n { SatSt.gone G.time with retryAt := none }) ∘ GuardianSt.quiet)
      (fun l L => (asTheyAre l L).raised 0x0906 (portDetail g (1 + n)))
    refine ⟨hothers, hstages, hpending, ?_, fun l => ?_⟩
    · rw [State.through_gdn]
      exact GuardianSt.setSat_self _ hlo hhi hlen _
    · rw [State.through_lane]
      exact (s.lane l).raised_reports 0x0906 _ (by decide)

end Sys2Proof.Machine

/-! ## Guardian status words (R300, R368) -/
namespace Sys2Proof.Machine

/-! ### A failed guardian -/

/-- A source's assertion opens and closes no consequence mask (R298, R300). -/
theorem LaneSt.raise_shadow (L : LaneSt) (id d b : Nat) : (L.raise id d).rd (shadowFld.bit b) = L.rd (shadowFld.bit b) := by
  have hclass : 0x40010018 ≠ 0x40010000 + (0x40 + 4 * (id / 256)) := by omega
  have hcount : ∀ (M : LaneSt) (w : Fld) (v : Nat), w.addr = 0x40010000 + (0x40 + 4 * (id / 256)) →
      (M.wr w v).rd (shadowFld.bit b) = M.rd (shadowFld.bit b) := fun M w v hw => M.rd_wr_addr w _ v (by rw [hw]; exact hclass)
  have hopen : ∀ (M : LaneSt) (r : Nat), (M.openClass (id / 256) r).rd (shadowFld.bit b) = M.rd (shadowFld.bit b) := fun M r =>
    (LaneSt.rd_wr_addr _ _ _ _ (show 0x40010018 ≠ 0x40010000 by decide)).trans
      ((hcount _ _ _ rfl).trans (LaneSt.rd_wr_addr _ _ _ _ (show 0x40010018 ≠ 0x40010000 by decide)))
  have hfirst : ∀ (M : LaneSt) (d r : Nat), (M.latchFirst id d r).rd (shadowFld.bit b) = M.rd (shadowFld.bit b) := fun M d r =>
    LaneSt.rd_of_keepsRegs (M.latchFirst_regs id d r) _ (show covered _ 0x40010018 = false by decide)
  have hreact : ∀ (M : LaneSt) (d r : Nat), (M.react id d r).rd (shadowFld.bit b) = M.rd (shadowFld.bit b) := fun M d r =>
    LaneSt.rd_of_keepsRegs (M.react_regs id d r) _ (show covered _ 0x40010018 = false by decide)
  unfold LaneSt.raise LaneSt.assert LaneSt.raiseAt
  dsimp only
  split
  · rfl
  · split
    · exact hcount _ _ _ rfl
    · split
      · exact hcount _ _ _ rfl
      · split
        · rw [hreact, hopen, hfirst]
          exact hcount _ _ _ rfl
        · rw [hfirst]
          exact hcount _ _ _ rfl

theorem gdnIx_lt (g : Gdn) : gdnIx g < 2 := by cases g <;> decide

theorem LaneSt.guardFault_opens (L : LaneSt) (g : Gdn) : L.keepsRegs faultRegs (L.guardFault g) ∧
    (L.guardFault g).gword g = L.gword g ∧ (L.guardFault g).on (shadowFld.bit (14 + gdnIx g)) = true := by
  obtain ⟨-, hregs, hopen⟩ := L.openMask_masks (b := 14 + gdnIx g) (by have := gdnIx_lt g; omega)
  have hflk : (L.guardFault g).flk = L.flk := (L.guardFault_frame g).1 .flk (by decide)
  refine ⟨keepsRegs_trans (LaneSt.raise_regs _ _ _ (by decide)) (keepsRegs_mono hregs (by decide)), ?_, ?_⟩
  · unfold LaneSt.gword
    rw [hflk]
  · exact (congrArg (· != 0) (LaneSt.raise_shadow _ 0x0904 _ _)).trans hopen

/-! ### What a word shows -/

theorem LaneSt.gword_setGword (L : LaneSt) (g : Gdn) (w : GWord) : (L.setGword g w).gword g = w := by cases g <;> rfl

theorem LaneSt.setGword_regs {rs : List Nat} (L : LaneSt) (g : Gdn) (w : GWord) : L.keepsRegs rs (L.setGword g w) :=
  keepsRegs_same ((L.setGword_frame g w).1 .regs (by decide))

/-- A lane has taken a guardian's word: keeper state `k`, self-test result `ok`. -/
structure LaneSt.TookWord (g : Gdn) (k : Nat) (ok : Bool) (L M : LaneSt) : Prop where
  regs : L.keepsRegs [0x40090400, 0x40090404, 0x40090408, 0x40090410] M
  report : M.rd (guardFld g 0 1) = 1
  state : M.rd (guardFld g 3 3) = k % 8
  selfTest : M.rd (guardFld g 2 1) = if ok then 1 else 0
  missing : (M.gword g).missing = 0

/-- Nothing else of a word is lost when other registers change. -/
theorem LaneSt.TookWord.of_regs {g : Gdn} {k : Nat} {ok : Bool} {L M N : LaneSt} {rs : List Nat} (h : LaneSt.TookWord g k ok L M)
    (hregs : M.keepsRegs rs N) (hrs : covered rs 0x40090404 = false)
    (hmono : (rs.all fun r => [0x40090400, 0x40090404, 0x40090408, 0x40090410].contains r ||
      (decide (65536 ≤ r) && covered [0x40090400, 0x40090404, 0x40090408, 0x40090410] r)) = true)
    (hword : (N.gword g).missing = (M.gword g).missing) : LaneSt.TookWord g k ok L N where
  regs := keepsRegs_trans (keepsRegs_mono hregs hmono) h.regs
  report := (rd_of_keepsRegs hregs _ hrs).trans h.report
  state := (rd_of_keepsRegs hregs _ hrs).trans h.state
  selfTest := (rd_of_keepsRegs hregs _ hrs).trans h.selfTest
  missing := hword.trans h.missing

theorem LaneSt.takeWord_takes (L : LaneSt) (g : Gdn) (G : GuardianSt) (ok : Bool) : LaneSt.TookWord g G.keeper.st ok L (L.takeWord g G ok) := by
  unfold LaneSt.takeWord
  extract_lets A B w C D
  have hlo : ∀ lo w, covered [0x40090400, 0x40090404, 0x40090408, 0x40090410] (guardFld g lo w).addr = true := fun _ _ => by
    show covered _ 0x40090404 = true
    decide
  have hAregs : L.keepsRegs [0x40090400, 0x40090404, 0x40090408, 0x40090410] A :=
    keepsRegs_wr (hlo _ _) (keepsRegs_wr (hlo _ _) (L.wr_keepsRegs _ _ (hlo _ _)))
  have hA : ∀ v, (A.wr (guardFld g 2 1) v).rd (guardFld g 0 1) = 1 ∧ (A.wr (guardFld g 2 1) v).rd (guardFld g 3 3) = G.keeper.st % 8 ∧
      (A.wr (guardFld g 2 1) v).rd (guardFld g 2 1) = v % 2 := fun v => by
    refine ⟨?_, ?_, LaneSt.rd_wr_self _ _ v (by cases g <;> decide)⟩
    · exact (LaneSt.rd_wr_apart _ _ _ _ (by cases g <;> decide)).trans ((LaneSt.rd_wr_apart _ _ _ _ (by cases g <;> decide)).trans
        ((LaneSt.rd_wr_apart _ _ _ _ (by cases g <;> decide)).trans (L.rd_wr_self _ 1 (by cases g <;> decide))))
    · exact (LaneSt.rd_wr_apart _ _ _ _ (by cases g <;> decide)).trans ((LaneSt.rd_wr_apart _ _ _ _ (by cases g <;> decide)).trans
        (LaneSt.rd_wr_self _ _ _ (by cases g <;> decide)))
  obtain ⟨hreport, hstate, hself⟩ := hA (if ok then 1 else 0)
  have hC : (A.wr (guardFld g 2 1) (if ok then 1 else 0)).keepsRegs [0x40090400, 0x40090408, 0x40090410] C :=
    keepsRegs_trans (B.setGword_regs g _) (keepsRegs_mono (LaneSt.showPorts_regs _ g G) (by decide))
  have hrest : (A.wr (guardFld g 2 1) (if ok then 1 else 0)).keepsRegs [0x40090400, 0x40090408, 0x40090410] D :=
    keepsRegs_wr (f := Reg.FLK_GUARD_CNT_MUTE_RX) (by decide) (keepsRegs_wr (f := Reg.FLK_GUARD_CNT_RING_DROP) (by decide)
      (keepsRegs_wr (f := Reg.FLK_GUARD_CNT_TRUNC) (by decide) hC))
  have hD : LaneSt.TookWord g G.keeper.st ok L D :=
    { regs := keepsRegs_trans (keepsRegs_mono hrest (by decide)) (keepsRegs_trans (LaneSt.wr_keepsRegs _ _ _ (hlo _ _)) hAregs)
      report := (rd_of_keepsRegs hrest _ (show covered _ 0x40090404 = false by decide)).trans hreport
      state := (rd_of_keepsRegs hrest _ (show covered _ 0x40090404 = false by decide)).trans hstate
      selfTest := (rd_of_keepsRegs hrest _ (show covered _ 0x40090404 = false by decide)).trans (hself.trans (by cases ok <;> rfl))
      missing := congrArg GWord.missing (show D.gword g = _ from B.gword_setGword g _) }
  split
  · refine hD.of_regs (rs := []) (D.endMask_regs _) (by decide) (by decide) ?_
    unfold LaneSt.gword
    rw [show (D.endMask (14 + gdnIx g)).flk = D.flk from (D.endMask_frame _).1 .flk (by decide)]
  · exact hD

/-! ### The word, and its absence (R368) -/

section
variable {s : State} {l : Lane} {g : Gdn} {ok : Bool} {gt t : Nat} (hup : (s.lane l).up = true)
include hup

theorem guardianStatusWord_shows (hg : (s.gdn g).powered = true) (hgt : gt % 250000 = 248000) :
    LaneRuns (.guardianStatusWord l g true ok gt t) s l fun L =>
      (s.lane l).keeps (.time :: .flk :: faultParts) L ∧ (s.lane l).keepsRegs (0x4009 :: faultRegs) L ∧
      L.rd (guardFld g 0 1) = 1 ∧ L.rd (guardFld g 3 3) = (s.gdn g).keeper.st % 8 ∧ (L.gword g).missing = 0 ∧
      L.rd (guardFld g 2 1) = (if ok then 1 else 0) ∧ (ok = false → L.on (shadowFld.bit (14 + gdnIx g)) = true) := by
  have hexec : exec (.guardianStatusWord l g true ok gt t) s = execGuardianStatusWord l g true ok gt t s := rfl
  unfold execGuardianStatusWord at hexec
  refine laneRuns_onLane hexec hup ?_
  rw [if_pos (by rw [hg, hgt]; rfl)]
  extract_lets T both far n w S
  have hT : LaneSt.TookWord g (s.gdn g).keeper.st ok ((s.lane l).tick t) T := LaneSt.takeWord_takes _ g (s.gdn g) ok
  have hframe : (s.lane l).frame (.time :: .flk :: faultParts) S := LaneSt.frame_step (T.setGword_frame g _) (by decide)
    (LaneSt.frame_step (LaneSt.takeWord_frame _ g (s.gdn g) ok) (by decide) (LaneSt.frame_mono ((s.lane l).tick_frame t) (by decide)))
  have hS : LaneSt.TookWord g (s.gdn g).keeper.st ok ((s.lane l).tick t) S :=
    hT.of_regs (rs := []) (T.setGword_regs g _) (by decide) (by decide) (by cases g <;> rfl)
  have hregs : (s.lane l).keepsRegs (0x4009 :: faultRegs) S := LaneSt.keepsRegs_mono hS.regs (by decide)
  clear_value S
  split
  case isTrue _ =>
    obtain ⟨hfault, hword, hopen⟩ := S.guardFault_opens g
    have hrd : ∀ lo w, (S.guardFault g).rd (guardFld g lo w) = S.rd (guardFld g lo w) := fun lo w =>
      LaneSt.rd_of_keepsRegs hfault _ (show covered _ 0x40090404 = false by decide)
    exact ⟨(LaneSt.frame_step (S.guardFault_frame g) (by decide) hframe).1, LaneSt.keepsRegs_trans (LaneSt.keepsRegs_mono hfault (by decide)) hregs,
      (hrd _ _).trans hS.report, (hrd _ _).trans hS.state, (congrArg GWord.missing hword).trans hS.missing, (hrd _ _).trans hS.selfTest,
      fun _ => hopen⟩
  case isFalse hno =>
    exact ⟨hframe.1, hregs, hS.report, hS.state, hS.missing, hS.selfTest, fun h => absurd (by rw [h]; rfl) hno⟩

theorem guardianStatusWord_missing : LaneRuns (.guardianStatusWord l g false ok gt t) s l fun L =>
    (s.lane l).keeps (.time :: .flk :: faultParts) L ∧ L.rd (guardFld g 0 1) = 0 ∧
      (L.gword g).missing = ((s.lane l).gword g).missing + 1 ∧
      (((s.lane l).gword g).missing = 1 → L.on (shadowFld.bit (14 + gdnIx g)) = true) := by
  have hexec : exec (.guardianStatusWord l g false ok gt t) s = execGuardianStatusWord l g false ok gt t s := rfl
  unfold execGuardianStatusWord at hexec
  refine laneRuns_onLane hexec hup ?_
  rw [if_neg (by simp)]
  extract_lets n w S
  have hn : n = ((s.lane l).gword g).missing + 1 := by cases g <;> rfl
  have hframe : (s.lane l).frame (.time :: .flk :: faultParts) S := LaneSt.frame_step (LaneSt.setGword_frame _ g _) (by decide)
    (LaneSt.frame_step (LaneSt.wr_frame _ _ _) (by decide) (LaneSt.frame_mono ((s.lane l).tick_frame t) (by decide)))
  have hreport : S.rd (guardFld g 0 1) = 0 :=
    (LaneSt.rd_of_keepsRegs (rs := []) (LaneSt.setGword_regs _ g _) _ rfl).trans (LaneSt.rd_wr_self _ _ 0 (by cases g <;> decide))
  have hword : (S.gword g).missing = ((s.lane l).gword g).missing + 1 := (congrArg GWord.missing (LaneSt.gword_setGword _ g _)).trans hn
  clear_value S
  split
  case isTrue _ =>
    obtain ⟨hfault, hkept, hopen⟩ := S.guardFault_opens g
    exact ⟨(LaneSt.frame_step (S.guardFault_frame g) (by decide) hframe).1,
      (LaneSt.rd_of_keepsRegs hfault _ (show covered _ 0x40090404 = false by decide)).trans hreport, (congrArg GWord.missing hkept).trans hword,
      fun _ => hopen⟩
  case isFalse h2 => exact ⟨hframe.1, hreport, hword, fun h1 => absurd (by rw [hn, h1]) h2⟩

end

/-- Settles O42: the links, the arbitrating windows, the mutes, the satellites and the status words, each by its own lemma. -/
theorem guardianLinks : Obligations.GuardianLinks := by
  refine ⟨fun s g p t x hg hx => ?_, ⟨fun qs => ⟨topRank_none qs, fun q => topRank_top⟩, fun s g e t q hg hq => ⟨arbEgressSend_sends hg hq,
    arbEgressSend_waits hg hq⟩, fun s g w m hg => arbWindowEnd_drops hg⟩, ⟨fun s g f n hg => muteFrame_held hg f, fun s g n hg => ⟨?_,
    muteExpiry_ends hg⟩, fun G f h => GuardianSt.never_muted h⟩, fun s g n lo hi ms t caps x hg hlo hhi hlen hx => ?_, fun s l g ok gt t hup =>
    ⟨guardianStatusWord_shows hup, guardianStatusWord_missing hup⟩⟩
  · subst hx
    refine ⟨fun why hwhy hbroken => portBroken_down hg hwhy hbroken, fun rate hrate => ringNegotiation_down hg hrate, ringNegotiation_up hg,
      fun r hretry hr => linkRetry_port hg hretry hr, fun hbroken hloop => loopEstablished_loops hg hbroken hloop,
      fun n hloop hlink hlow hanswered hn => loopRelease_heals hg hloop hlink hlow hanswered hn,
      fun n u hlo hhi hretry hu hlen => linkRetry_sat hg hlo hhi hretry hu hlen, fun ht => pdelayRequest_asks hg ht,
      fun f q t1 t2 t3 hauth hform htyp hq h2 h3 => ⟨fun hbytes hreq => pdelayFrame_measures hg hauth hform htyp hq h2 h3 hbytes hreq,
        fun hbytes hsends => pdelayFrame_answers hg hauth hform htyp hq h2 hbytes hsends⟩⟩
  · obtain ⟨u, hexec, hothers, hstages, hpending, ⟨hstart, hpend⟩, hlanes⟩ := muteStart_starts (n := n) hg
    exact ⟨u, hexec, hothers, hstages, hpending, hstart, hpend, hlanes⟩
  · subst hx
    refine ⟨fun hdue hms hvlo hvhi => satelliteHello_answered hg hlo hhi hlen hdue hms hvlo hvhi, fun hdue hms => ?_,
      fun hdue hms hversion => satelliteHello_gone hg hlo hhi hlen hdue hms hversion, fun hup hmissed => satelliteLost_gone hg hlo hhi hlen hup hmissed⟩
    obtain ⟨u, hexec, hsame, hsent, hsat⟩ := satelliteHello_missed (lo := lo) (hi := hi) (caps := caps) hg hlo hhi hlen hdue hms
    exact ⟨u, hexec, hsame, hsent, fun hup => hsat.trans (if_pos hup), fun hdown => hsat.trans (if_neg (by rw [hdown]; decide))⟩

end Sys2Proof.Machine

/-! ## The complement domain (R114, R119)

Each of Lamb's rules, on the complements of the operands, gives the complement of the lead's result. -/
namespace Sys2Proof.Machine

theorem toInt_not_word (a : Word) : (~~~a).toInt = -1 - a.toInt := by
  rw [BitVec.toInt_not, BitVec.toInt_eq_toNat_bmod]
  have := a.isLt
  simp only [Int.bmod]
  omega

theorem not_slt_not (a b : Word) : (~~~a).slt (~~~b) = b.slt a := by
  rw [BitVec.slt_eq_decide, BitVec.slt_eq_decide, toInt_not_word, toInt_not_word, decide_eq_decide]
  omega

theorem not_ult_not (a b : Word) : (~~~a).ult (~~~b) = b.ult a := by
  have ha := a.isLt
  have hb := b.isLt
  simp only [BitVec.ult, BitVec.toNat_not]
  rw [decide_eq_decide]
  omega

theorem onesWord_bit : ∀ i (h : i < 32), (0xFFFFFFFF#32)[i] = true := by decide

/-- The ones that Lamb shifts in from below are the complement of the zeros that the lead shifts in. -/
theorem onesBelow_eq : ∀ k < 32, (1#32 <<< k) - 1#32 = ~~~(0xFFFFFFFF#32 <<< k) := by decide

theorem not_shiftLeft_or (a : Word) {k : Nat} (hk : k < 32) : (~~~a) <<< k ||| ((1#32 <<< k) - 1#32) = ~~~(a <<< k) := by
  rw [onesBelow_eq k hk]
  ext i hi
  by_cases hik : i < k
  · simp [hik]
  · simp [hik, onesWord_bit (i - k) (by omega)]

theorem not_ushiftRight_or (a : Word) (k : Nat) : (~~~a) >>> k ||| ~~~(0xFFFFFFFF#32 >>> k) = ~~~(a >>> k) := by
  ext i hi
  by_cases hik : k + i < 32
  · simp [hik, onesWord_bit (k + i) hik]
  · simp [BitVec.getLsbD_of_ge _ _ (Nat.not_lt.mp hik)]

theorem lambOp_not (op : AluOp) (a b : Word) : lambOp op (~~~a) (~~~b) = ~~~(leadOp op a b) := by
  cases op <;> simp only [lambOp, leadOp, BitVec.not_not]
  case add => rw [BitVec.not_eq_neg_add, BitVec.not_eq_neg_add, BitVec.not_eq_neg_add]; ring
  case sub => rw [BitVec.not_eq_neg_add, BitVec.not_eq_neg_add]; ring
  case and => exact BitVec.not_and.symm
  case or => exact BitVec.not_or.symm
  case xor => rw [← BitVec.not_xor_left, ← BitVec.not_xor_right, BitVec.not_not]
  case slt => rw [not_slt_not]
  case sltu => rw [not_ult_not]
  case sll => exact not_shiftLeft_or a (Nat.mod_lt _ (by decide))
  case srl => exact not_ushiftRight_or a _
  case sra => exact BitVec.not_sshiftRight.symm

theorem lambBr_not (op : BrOp) (a b : Word) : lambBr op (~~~a) (~~~b) = leadBr op a b := by
  cases op <;> simp only [lambBr, leadBr, not_slt_not, not_ult_not]
  case beq => simp
  case bne => simp [bne]

theorem lambUnit_not (op : MulOp) (a b : Word) : lambUnit op (~~~a) (~~~b) = ~~~(unitExec op a b) := by
  simp only [lambUnit, unitSwapped, BitVec.not_not]

theorem lambFpu_not (op : FpuOp) (rm : Nat) (a b c : Word) :
    lambFpu op rm (~~~a) (~~~b) (~~~c) = (~~~(fpuExec op rm a b c).1, ~~~(fpuExec op rm a b c).2) := by
  simp only [lambFpu, fpuSwapped, BitVec.not_not]

theorem setWidth_low {k : Nat} (hk : k ≤ 32) (x : Word) : (x.setWidth k).setWidth 32 = x &&& BitVec.ofNat 32 (2 ^ k - 1) := by
  have hpow : 2 ^ k ≤ 2 ^ 32 := Nat.pow_le_pow_right (by decide) hk
  have hpos := Nat.two_pow_pos k
  apply BitVec.eq_of_toNat_eq
  rw [BitVec.toNat_and, BitVec.toNat_setWidth, BitVec.toNat_setWidth, BitVec.toNat_ofNat, Nat.mod_eq_of_lt (by omega : 2 ^ k - 1 < 2 ^ 32),
    Nat.and_two_pow_sub_one_eq_mod]
  exact Nat.mod_eq_of_lt (lt_of_lt_of_le (Nat.mod_lt _ hpos) hpow)

theorem lambExt_not (w : Width) (signed : Bool) (x : Word) : lambExt w signed (~~~x) = ~~~(leadExt w signed x) := by
  cases w <;> cases signed <;> simp only [lambExt, leadExt, if_true, if_false, Bool.false_eq_true]
  case byte.true => rw [BitVec.setWidth_not (by decide), BitVec.signExtend_not (by decide)]
  case half.true => rw [BitVec.setWidth_not (by decide), BitVec.signExtend_not (by decide)]
  case byte.false => rw [setWidth_low (by decide), BitVec.not_and]; rfl
  case half.false => rw [setWidth_low (by decide), BitVec.not_and]; rfl

end Sys2Proof.Machine

/-! ## The two copies of a core (R114, R132)

What a read of either copy gives after a write, and that a write of a value and its complement keeps the copies complements. -/
namespace Sys2Proof.Machine

/-! ### Registers and CSRs of a hart -/

namespace Hart
variable (h : Hart) (fp gp : Bool) (n m k j : Nat) (v : Word)

@[simp] theorem getX_putN : (h.putN fp n v).getX gp m = h.getX gp m := by
  cases fp <;> by_cases hn : n = 0 <;> simp only [Hart.putN, hn, if_true, if_false, Bool.false_eq_true] <;> rfl

@[simp] theorem getN_putX : (h.putX fp n v).getN gp m = h.getN gp m := by
  cases fp <;> by_cases hn : n = 0 <;> simp only [Hart.putX, hn, if_true, if_false, Bool.false_eq_true] <;> rfl

@[simp] theorem putX_zero : h.putX false 0 v = h := rfl

@[simp] theorem putN_zero : h.putN false 0 v = h := rfl

/-- A register reads as written, and x0 stays 0. -/
theorem getX_putX_self : (h.putX fp n v).getX fp n = if fp = false ∧ n = 0 then 0#32 else v := by
  cases fp <;> by_cases hn : n = 0 <;> simp [Hart.putX, Hart.getX, hn]

theorem getX_putX_ne (hne : gp ≠ fp ∨ m ≠ n) : (h.putX fp n v).getX gp m = h.getX gp m := by
  by_cases hn : fp = false ∧ n = 0
  · obtain ⟨rfl, rfl⟩ := hn
    rfl
  · have hput : h.putX fp n v = if fp then { h with f := cellPut (fun _ => 0#32) h.f n v } else { h with x := cellPut (fun _ => 0#32) h.x n v } := by
      cases fp <;> simp_all [Hart.putX]
    rw [hput]
    cases fp <;> cases gp <;> simp_all [Hart.getX, cellGet_put_ne]

theorem getN_putN_self : (h.putN fp n v).getN fp n = if fp = false ∧ n = 0 then 0xFFFFFFFF#32 else v := by
  cases fp <;> by_cases hn : n = 0 <;> simp [Hart.putN, Hart.getN, hn]

theorem getN_putN_ne (hne : gp ≠ fp ∨ m ≠ n) : (h.putN fp n v).getN gp m = h.getN gp m := by
  by_cases hn : fp = false ∧ n = 0
  · obtain ⟨rfl, rfl⟩ := hn
    rfl
  · have hput : h.putN fp n v = if fp then { h with nf := cellPut (fun _ => 0xFFFFFFFF#32) h.nf n v } else
      { h with nx := cellPut (fun _ => 0xFFFFFFFF#32) h.nx n v } := by
      cases fp <;> simp_all [Hart.putN]
    rw [hput]
    cases fp <;> cases gp <;> simp_all [Hart.getN, cellGet_put_ne]

theorem csrAt_putCsr : (h.putCsr k v).csrAt j = if j = k then v else h.csrAt j := by
  by_cases hj : j = k
  · subst hj; simp [Hart.putCsr, Hart.csrAt]
  · simp [Hart.putCsr, Hart.csrAt, hj, cellGet_put_ne _ _ _ _ _ hj]

theorem ncsrAt_putNcsr : (h.putNcsr k v).ncsrAt j = if j = k then v else h.ncsrAt j := by
  by_cases hj : j = k
  · subst hj; simp [Hart.putNcsr, Hart.ncsrAt]
  · simp [Hart.putNcsr, Hart.ncsrAt, hj, cellGet_put_ne _ _ _ _ _ hj]

@[simp] theorem csrAt_putX : (h.putX fp n v).csrAt k = h.csrAt k := by
  cases fp <;> by_cases hn : n = 0 <;> simp only [Hart.putX, hn, if_true, if_false, Bool.false_eq_true] <;> rfl

@[simp] theorem csrAt_putN : (h.putN fp n v).csrAt k = h.csrAt k := by
  cases fp <;> by_cases hn : n = 0 <;> simp only [Hart.putN, hn, if_true, if_false, Bool.false_eq_true] <;> rfl

@[simp] theorem ncsrAt_putX : (h.putX fp n v).ncsrAt k = h.ncsrAt k := by
  cases fp <;> by_cases hn : n = 0 <;> simp only [Hart.putX, hn, if_true, if_false, Bool.false_eq_true] <;> rfl

@[simp] theorem ncsrAt_putN : (h.putN fp n v).ncsrAt k = h.ncsrAt k := by
  cases fp <;> by_cases hn : n = 0 <;> simp only [Hart.putN, hn, if_true, if_false, Bool.false_eq_true] <;> rfl

@[simp] theorem pc_putX : (h.putX fp n v).pc = h.pc := by
  cases fp <;> by_cases hn : n = 0 <;> simp only [Hart.putX, hn, if_true, if_false, Bool.false_eq_true]

@[simp] theorem pc_putN : (h.putN fp n v).pc = h.pc := by
  cases fp <;> by_cases hn : n = 0 <;> simp only [Hart.putN, hn, if_true, if_false, Bool.false_eq_true]

@[simp] theorem npc_putX : (h.putX fp n v).npc = h.npc := by
  cases fp <;> by_cases hn : n = 0 <;> simp only [Hart.putX, hn, if_true, if_false, Bool.false_eq_true]

@[simp] theorem npc_putN : (h.putN fp n v).npc = h.npc := by
  cases fp <;> by_cases hn : n = 0 <;> simp only [Hart.putN, hn, if_true, if_false, Bool.false_eq_true]

end Hart

/-! ### Writes to both copies -/

namespace Hart.complements
variable {h : Hart} (hc : h.complements)
include hc

theorem getN (fp : Bool) (n : Nat) : h.getN fp n = ~~~(h.getX fp n) := hc.2.1 fp n

theorem ncsrAt (k : Nat) : h.ncsrAt k = ~~~(h.csrAt k) := hc.2.2 k

theorem withPc (pc : Word) : ({ h with pc := pc, npc := ~~~pc } : Hart).complements := ⟨rfl, hc.2⟩

theorem putReg (fp : Bool) (n : Nat) (v : Word) : ((h.putX fp n v).putN fp n (~~~v)).complements := by
  obtain ⟨hpc, hreg, hcsr⟩ := hc
  refine ⟨by simpa using hpc, fun gp m => ?_, fun k => by simpa using hcsr k⟩
  rw [Hart.getX_putN]
  by_cases hself : gp = fp ∧ m = n
  · obtain ⟨rfl, rfl⟩ := hself
    rw [Hart.getN_putN_self, Hart.getX_putX_self]
    split <;> rfl
  · rw [not_and_or] at hself
    rw [Hart.getN_putN_ne _ _ _ _ _ _ hself, Hart.getX_putX_ne _ _ _ _ _ _ hself, Hart.getN_putX, hreg]

theorem putCsr (k : Nat) (v : Word) : ((h.putCsr k v).putNcsr k (~~~v)).complements := by
  obtain ⟨hpc, hreg, hcsr⟩ := hc
  refine ⟨hpc, hreg, fun j => ?_⟩
  rw [Hart.ncsrAt_putNcsr, show ((h.putCsr k v).putNcsr k (~~~v)).csrAt j = (h.putCsr k v).csrAt j from rfl, Hart.csrAt_putCsr]
  split
  · rfl
  · exact hcsr j

end Hart.complements
end Sys2Proof.Machine

/-! ## Instructions of the two copies (R110 to R124)

What each step of an instruction leaves in the core, for a lane whose copies are compared; and what a difference leaves. -/
namespace Sys2Proof.Machine

/-! ### The core and the mode under an operation -/

/-- An operation whose frame leaves the core out. -/
theorem LaneSt.frame.core {ps : List Part} {L M : LaneSt} (h : L.frame ps M) (hp : Part.core ∉ ps) : M.core = L.core :=
  h.1 .core hp

theorem LaneSt.isSplit_congr {L M : LaneSt} (h : M.regs = L.regs) : M.isSplit = L.isSplit := by
  simp only [LaneSt.isSplit, LaneSt.on, LaneSt.rd, LaneSt.reg, h]

/-- An operation whose frame leaves the registers out. -/
theorem LaneSt.frame.isSplit {ps : List Part} {L M : LaneSt} (h : L.frame ps M) (hp : Part.regs ∉ ps) :
    M.isSplit = L.isSplit := LaneSt.isSplit_congr (h.1 .regs hp)

/-- An operation that leaves DBG_CHK_STAT alone. -/
theorem LaneSt.keepsRegs.isSplit {rs : List Nat} {L M : LaneSt} (h : L.keepsRegs rs M) (hc : covered rs 0x40110000 = false) :
    M.isSplit = L.isSplit := by
  simp only [LaneSt.isSplit, LaneSt.on, LaneSt.rd_of_keepsRegs h Reg.DBG_CHK_STAT_CORE_MODE hc]

section
variable (L : LaneSt)

@[simp] theorem LaneSt.raise_core (id d : Nat) : (L.raise id d).core = L.core := (L.raise_frame id d).core (by decide)

@[simp] theorem LaneSt.raiseIf_core (b : Bool) (id d : Nat) : (L.raiseIf b id d).core = L.core := (L.raiseIf_frame b id d).core (by decide)

@[simp] theorem LaneSt.openMask_core (b : Nat) : (L.openMask b).core = L.core := (L.openMask_frame b).core (by decide)

@[simp] theorem LaneSt.goto_isSplit (pc npc : Word) : (L.goto pc npc).isSplit = L.isSplit := (L.goto_frame pc npc).isSplit (by decide)

@[simp] theorem LaneSt.retire_isSplit (len : Nat) : (L.retire len).isSplit = L.isSplit := (L.retire_frame len).isSplit (by decide)

@[simp] theorem LaneSt.putReg_isSplit (fp : Bool) (n : Nat) (v nv : Word) : (L.putReg fp n v nv).isSplit = L.isSplit :=
  (L.putReg_frame fp n v nv).isSplit (by decide)

@[simp] theorem LaneSt.putCsr_isSplit (k : Nat) (v nv : Word) : (L.putCsr k v nv).isSplit = L.isSplit := (L.putCsr_frame k v nv).isSplit (by decide)

@[simp] theorem LaneSt.trap_isSplit (cause tval : Word) : (L.trap cause tval).isSplit = L.isSplit := (L.trap_frame cause tval).isSplit (by decide)

@[simp] theorem LaneSt.updCore_isSplit (f : CoreSt → CoreSt) : (L.updCore f).isSplit = L.isSplit := (L.updCore_frame f).isSplit (by decide)

@[simp] theorem LaneSt.setBytes_isSplit (a : Nat) (bs : List Byte) : (L.setBytes a bs).isSplit = L.isSplit :=
  (L.setBytes_frame a bs).isSplit (by decide)

@[simp] theorem LaneSt.setWord_isSplit (a : Nat) (w : Word) : (L.setWord a w).isSplit = L.isSplit := (L.setWord_frame a w).isSplit (by decide)

@[simp] theorem LaneSt.setBytes_core (a : Nat) (bs : List Byte) : (L.setBytes a bs).core = L.core := (L.setBytes_frame a bs).core (by decide)

@[simp] theorem LaneSt.setWord_core (a : Nat) (w : Word) : (L.setWord a w).core = L.core := (L.setWord_frame a w).core (by decide)

@[simp] theorem LaneSt.issue_isSplit (i : CoreInstr) (q : IssueIn) : (L.issue i q).isSplit = L.isSplit := (L.issue_frame i q).isSplit (by decide)

end

/-! ### A difference between the copies (R129 to R131) -/

/-- The registers that a difference changes besides the collector's: the record and SHEP_UP. -/
def haltRegs : List Nat := [0x40110004, 0x40110008, 0x400F0000]

theorem LaneSt.haltCores_regs (L : LaneSt) : L.keepsRegs [0x400F0000] L.haltCores :=
  keepsRegs_of_regs rfl (keepsRegs_wr (f := Reg.MBX_STAT_SHEP_UP) (by decide) (keepsRegs_refl _ L))

/-- What a source's assertion and a mask leave of a lane whose cores have halted. -/
theorem LaneSt.raise_openMask_regs (L : LaneSt) {id : Nat} (hid : id < 65536) (b : Nat) : L.keepsRegs faultRegs ((L.raise id).openMask b) :=
  keepsRegs_trans (keepsRegs_mono ((L.raise id).openMask_regs b) (by decide)) (L.raise_regs id 0xFF hid)

/-- DBG_MIS_PC and DBG_MIS_INFO take the record (R130). -/
def LaneSt.recorded (L : LaneSt) (id cls diff : Nat) : LaneSt :=
  (((L.wr Reg.DBG_MIS_PC_PC L.core.cpu.pc.toNat).wr Reg.DBG_MIS_INFO_SOURCE id).wr Reg.DBG_MIS_INFO_DIFF_CNT diff).wr
    Reg.DBG_MIS_INFO_CLASS cls

/-- The cores halt on a mismatch, and what the queues hold is discarded. -/
def CoreSt.mismatched (c : CoreSt) : CoreSt := { c with mismatch := true, scb := [], lvq := [] }

theorem LaneSt.mismatch_eq (L : LaneSt) (id cls diff : Nat) :
    L.mismatch id cls diff = (((L.recorded id cls diff).haltCores.updCore CoreSt.mismatched).raise id).openMask 0 := rfl

theorem LaneSt.mismatch_core (L : LaneSt) (id cls diff : Nat) :
    (L.mismatch id cls diff).core = { L.core with halted := true, mismatch := true, scb := [], lvq := [] } := by
  rw [LaneSt.mismatch_eq, LaneSt.openMask_core, LaneSt.raise_core]
  rfl

theorem LaneSt.recorded_regs (L : LaneSt) (id cls diff : Nat) : L.keepsRegs [0x40110004, 0x40110008] (L.recorded id cls diff) :=
  keepsRegs_wr (by decide) (keepsRegs_wr (by decide) (keepsRegs_wr (by decide) (keepsRegs_wr (by decide) (keepsRegs_refl _ L))))

theorem LaneSt.mismatch_regs (L : LaneSt) {id : Nat} (hid : id < 65536) (cls diff : Nat) :
    L.keepsRegs (haltRegs ++ faultRegs) (L.mismatch id cls diff) := by
  rw [LaneSt.mismatch_eq]
  have hhalt : L.keepsRegs (haltRegs ++ faultRegs) (L.recorded id cls diff).haltCores :=
    keepsRegs_trans (keepsRegs_mono (L.recorded id cls diff).haltCores_regs (by decide)) (keepsRegs_mono (L.recorded_regs id cls diff) (by decide))
  exact keepsRegs_trans (keepsRegs_mono (LaneSt.raise_openMask_regs _ hid 0) (by decide))
    (keepsRegs_of_regs (LaneSt.updCore_regs ..) hhalt)

/-- An uncorrectable error takes its exception in both copies, and the cores halt (R122). -/
theorem LaneSt.eccFault_eq (L : LaneSt) (cause : Nat) (tval : Word) :
    L.eccFault cause tval = ((L.trap (BitVec.ofNat 32 cause) tval).haltCores.raise 0x0109).openMask 0 := rfl

theorem LaneSt.eccFault_core (L : LaneSt) (cause : Nat) (tval : Word) :
    (L.eccFault cause tval).core = { (L.trap (BitVec.ofNat 32 cause) tval).core with halted := true } := by
  rw [LaneSt.eccFault_eq, LaneSt.openMask_core, LaneSt.raise_core]
  rfl

/-! ### Lanes whose copies are compared and agree -/

/-- The lane is checked, and Lamb's copy is the complement of the lead's. -/
def LaneSt.inStep (L : LaneSt) : Prop := L.isSplit = false ∧ L.core.cpu.complements

namespace LaneSt.inStep
variable {L M : LaneSt}

theorem congr (h : L.inStep) (hs : M.isSplit = L.isSplit) (hc : M.core.cpu = L.core.cpu) : M.inStep :=
  ⟨hs.trans h.1, hc ▸ h.2⟩

theorem ite {c : Prop} [Decidable c] (h : L.inStep) (h' : M.inStep) : (if c then L else M).inStep := by
  split <;> assumption

theorem goto (h : L.inStep) {pc npc : Word} (hn : npc = ~~~pc) : (L.goto pc npc).inStep := by
  obtain ⟨hs, hc⟩ := h
  refine ⟨by simpa using hs, ?_⟩
  have hcpu : (L.goto pc npc).core.cpu = { L.core.cpu with pc := pc, npc := npc } := by
    simp only [LaneSt.goto, LaneSt.updCpu, LaneSt.updCore, hs, Bool.false_eq_true, if_false]
  rw [hcpu, hn]
  exact hc.withPc pc

theorem putReg (h : L.inStep) (fp : Bool) (n : Nat) {v nv : Word} (hn : nv = ~~~v) : (L.putReg fp n v nv).inStep := by
  obtain ⟨hs, hc⟩ := h
  refine ⟨by simpa using hs, ?_⟩
  have hcpu : (L.putReg fp n v nv).core.cpu = (L.core.cpu.putX fp n v).putN fp n nv := by
    simp only [LaneSt.putReg, LaneSt.updCpu, LaneSt.updCore, hs, Bool.false_eq_true, if_false]
  rw [hcpu, hn]
  exact hc.putReg fp n v

theorem putCsr (h : L.inStep) (k : Nat) {v nv : Word} (hn : nv = ~~~v) : (L.putCsr k v nv).inStep := by
  obtain ⟨hs, hc⟩ := h
  refine ⟨by simpa using hs, ?_⟩
  have hcpu : (L.putCsr k v nv).core.cpu = (L.core.cpu.putCsr k v).putNcsr k nv := by
    simp only [LaneSt.putCsr, LaneSt.updCpu, LaneSt.updCore, hs, Bool.false_eq_true, if_false]
  rw [hcpu, hn]
  exact hc.putCsr k v

/-- Both copies go on by the instruction's length (R114). -/
theorem retire (h : L.inStep) (len : Nat) : (L.retire len).inStep := by
  refine goto (L := L.updCore _) (h.congr (by simp) rfl) ?_
  exact (congrArg (lambOp .add · _) h.2.1).trans (lambOp_not ..)

theorem trap (h : L.inStep) (cause tval : Word) : (L.trap cause tval).inStep := by
  unfold LaneSt.trap
  extract_lets st st' tv base pc p A B
  have hA : A.inStep := (h.putCsr 0x341 rfl).putCsr 0x342 rfl
  have hB : B.inStep := (hA.putCsr 0x343 rfl).putCsr 0x300 rfl
  exact (hB.goto (pc := pc) rfl).congr rfl rfl

theorem mismatch (h : L.inStep) {id : Nat} (hid : id < 65536) (cls diff : Nat) : (L.mismatch id cls diff).inStep :=
  h.congr ((L.mismatch_regs hid cls diff).isSplit (by decide)) (by rw [LaneSt.mismatch_core])

theorem raise (h : L.inStep) {id : Nat} (hid : id < 65536) (d : Nat) : (L.raise id d).inStep :=
  h.congr ((L.raise_regs id d hid).isSplit (by decide)) (by simp)

theorem accessTrap (h : L.inStep) (w : Width) (a : Word) (mis err : Nat) : (L.accessTrap w a mis err).inStep :=
  trap (L := L.raiseIf _ 0x0B04) (h.congr ((L.raiseIf_regs _ _ _ (by decide)).isSplit (by decide)) (by rw [LaneSt.raiseIf_core])) _ _

theorem haltCores (h : L.inStep) : L.haltCores.inStep := h.congr (L.haltCores_regs.isSplit (by decide)) rfl

theorem eccFault (h : L.inStep) (cause : Nat) (tval : Word) : (L.eccFault cause tval).inStep :=
  (h.trap (BitVec.ofNat 32 cause) tval).haltCores.congr ((LaneSt.raise_openMask_regs _ (by decide) 0).isSplit (by decide))
    (by rw [LaneSt.eccFault_core]; rfl)

theorem issue (h : L.inStep) (i : CoreInstr) (q : IssueIn) : (L.issue i q).inStep := by
  refine h.congr (by simp) ?_
  unfold LaneSt.issue
  split
  · rfl
  · split <;> rfl

/-- Where two quantities are compared, they are complements, or the copies halt as they are. -/
theorem compare (h : L.inStep) {id : Nat} (hid : id < 65536) (cls : Nat) {v nv : Word} {f : LaneSt → LaneSt}
    (hf : nv = ~~~v → (f L).inStep) : (L.compare id cls v nv f).inStep := by
  unfold LaneSt.compare
  split
  · next heq =>
    refine hf ?_
    rw [h.1, Bool.false_or, beq_iff_eq] at heq
    rw [← heq, BitVec.not_not]
  · exact h.mismatch hid ..

/-- A disturbed result is not written back. -/
theorem writeBack (h : L.inStep) (cls : Nat) (fp : Bool) (rd : Nat) (v nv : Word) (u : Upset) {f : LaneSt → LaneSt}
    (hf : ∀ M : LaneSt, M.inStep → (f M).inStep) : (L.writeBack cls fp rd v nv u f).inStep :=
  h.compare (by decide) cls fun hn => hf _ (h.putReg fp rd hn)

theorem lambAddr (h : L.inStep) (rs1 : Nat) (off : Word) : L.lambAddr rs1 off = ~~~(L.leadAddr rs1 off) := by
  rw [LaneSt.lambAddr, LaneSt.leadAddr, h.2.getN, lambOp_not]

theorem loadInstr (h : L.inStep) (w : Width) (sg fp : Bool) (rd rs1 : Nat) (off : Word) (len : Nat) (u : Upset) :
    (L.loadInstr w sg fp rd rs1 off len u).inStep := by
  unfold LaneSt.loadInstr
  refine h.compare (by decide) _ fun _ => ite (h.mismatch (by decide) ..) ?_
  split
  · exact h.accessTrap ..
  · next raw _ =>
    have hput : (L.lvqPut (L.leadAddr rs1 off) w raw).inStep := h.congr (by simp [LaneSt.lvqPut]) rfl
    have hrest : ∀ M : LaneSt, M.inStep → (M.lvqTake.retire len).inStep := fun M hM =>
      retire (hM.congr (M := M.lvqTake) (by simp [LaneSt.lvqTake]) rfl) len
    exact ite (hput.compare (by decide) 8 fun _ => hput.writeBack _ _ _ _ _ _ hrest) (hput.writeBack _ _ _ _ _ _ hrest)

theorem jumpInstr (h : L.inStep) (rd : Nat) {t nt : Word} (ht : nt = ~~~t) (len : Nat) (u : Upset) : (L.jumpInstr rd t nt len u).inStep :=
  h.writeBack _ _ _ _ _ _ fun _ hM => (hM.retire len).goto ht

theorem branchInstr (h : L.inStep) (op : BrOp) (rs1 rs2 : Nat) (off : Word) (len : Nat) : (L.branchInstr op rs1 rs2 off len).inStep := by
  refine ite (h.mismatch (by decide) ..) (ite ((h.retire len).goto ?_) (h.retire len))
  rw [h.2.1, lambOp_not]

theorem csrInstr (h : L.inStep) (op : CsrOp) (rd n rs1 len : Nat) (u : Upset) : (L.csrInstr op rd n rs1 len u).inStep := by
  refine ite (h.trap ..) ?_
  have hsample : (if csrSampled n then (L.sample n).2 else L).inStep := by
    refine ite (h.congr ((L.sample_frame n).isSplit (by decide)) ?_) h
    rw [(L.sample_frame n).core (by decide)]
  refine hsample.writeBack _ _ _ _ _ _ fun M hM => ite (hM.compare (by decide) 5 fun hn => ?_) (hM.retire len)
  refine (hM.putCsr _ ?_).retire len
  rw [hn, h.2.ncsrAt, BitVec.not_not, BitVec.not_not]

theorem fpuInstr (h : L.inStep) (op : FpuOp) (rm fd fs1 fs2 fs3 len : Nat) (u : Upset) :
    (L.fpuInstr op rm fd fs1 fs2 fs3 len u).inStep := by
  refine ite (h.trap ..) (h.writeBack _ _ _ _ _ _ fun M hM => hM.compare (by decide) 7 fun _ => (hM.putCsr 3 ?_).retire len)
  rw [h.2.ncsrAt, h.2.getN, h.2.getN, h.2.getN, BitVec.not_not, lambFpu_not, BitVec.not_or]

theorem lrInstr (h : L.inStep) (rd rs1 len : Nat) (u : Upset) : (L.lrInstr rd rs1 len u).inStep :=
  h.compare (by decide) 4 fun _ => ite (h.accessTrap ..) (h.writeBack _ _ _ _ _ _ fun M hM =>
    retire (hM.congr (M := M.updCore _) (by simp) rfl) len)

theorem mretInstr (h : L.inStep) : L.mretInstr.inStep :=
  goto (putCsr (L := L.updCore _) (h.congr (by simp) rfl) 0x300 rfl) (h.2.ncsrAt 0x341)

theorem atomicPair (h : L.inStep) (rs1 rs2 : Nat) (u : Upset) {f : Word → Word → LaneSt → LaneSt}
    (hf : ∀ a b, (f a b L).inStep) : (L.atomicPair rs1 rs2 u f).inStep :=
  h.compare (by decide) 4 fun _ => h.compare (by decide) 4 fun _ => ite (h.accessTrap ..) (hf _ _)

theorem scInstr (h : L.inStep) (rd rs1 rs2 len : Nat) (u : Upset) : (L.scInstr rd rs1 rs2 len u).inStep :=
  h.atomicPair _ _ _ fun a b => h.writeBack _ _ _ _ _ _ fun M hM => by
    have hfree : (M.updCore fun c => { c with resv := none }).inStep := hM.congr (by simp) rfl
    exact (ite (hfree.congr (by simp) (by simp)) hfree).retire len

theorem amoInstr (h : L.inStep) (op : AmoOp) (rd rs1 rs2 len : Nat) (u : Upset) : (L.amoInstr op rd rs1 rs2 len u).inStep :=
  h.atomicPair _ _ _ fun _ _ => h.writeBack _ _ _ _ _ _ fun M hM => retire (hM.congr (M := M.setWord _ _) (by simp) (by simp)) len

/-- Whatever instruction and disturbance. -/
theorem laneInstr (h : L.inStep) (i : CoreInstr) (u : Upset) : (L.laneInstr i u).inStep := by
  have hretire : ∀ {cls fp rd v nv len}, (L.writeBack cls fp rd v nv u fun L => L.retire len).inStep :=
    h.writeBack _ _ _ _ _ _ fun _ hM => hM.retire _
  have hpc : ∀ x, lambOp .add L.core.cpu.npc (~~~x) = ~~~(leadOp .add L.core.cpu.pc x) := fun x => by rw [h.2.1, lambOp_not]
  cases i with
  | alu | aluImm | lui | auipc | muldiv | fmvToInt | fmvFromInt => exact hretire
  | jal rd off len => exact h.jumpInstr _ (hpc off) _ _
  | jalr rd rs1 off len => exact h.jumpInstr _ (by rw [h.lambAddr, BitVec.not_and]; rfl) _ _
  | branch => exact h.branchInstr ..
  | fpu => exact h.fpuInstr ..
  | load => exact h.loadInstr ..
  | loadF => exact h.loadInstr ..
  | lr => exact h.lrInstr ..
  | sc => exact h.scInstr ..
  | amo => exact h.amoInstr ..
  | csr => exact h.csrInstr ..
  | mret => exact h.mretInstr
  | fence => exact h.retire _
  | ecall => exact h.trap ..
  | ebreak => exact h.trap ..
  | store => exact h
  | storeF => exact h

theorem eccDouble (h : L.inStep) (i : CoreInstr) (fetch : Bool) : (L.eccDouble i fetch).inStep := by
  unfold LaneSt.eccDouble
  split <;> exact h.eccFault ..

theorem storeAgree (h : L.inStep) (w : Width) (fp : Bool) (rs1 rs2 : Nat) (off : Word) (u : Upset) :
    (L.storeAgree w fp rs1 rs2 off u).inStep := by
  have hput : ∀ a v, (L.scbPut a w v).inStep := fun a v => h.congr (by simp [LaneSt.scbPut]) rfl
  exact (hput _ _).compare (by decide) 3 fun _ => ite ((hput _ _).mismatch (by decide) ..) ((hput _ _).compare (by decide) 3 fun _ => hput _ _)

end LaneSt.inStep
end Sys2Proof.Machine

/-! ## What a command leaves in the cores

A command whose operations leave the core alone keeps whatever its lanes' cores satisfy: `P` says it lane by lane. Each operation has its
frame (Laws/Frame), and a command is built from operations by its carrier. -/
namespace Sys2Proof.Machine

/-! ### Lanes and the module -/

/-- The lane's core satisfies `Q`. -/
def LaneSt.meets (Q : CoreSt → Prop) (L : LaneSt) : Prop := Q L.core

/-- Each lane's core satisfies its `P`. -/
def State.meets (P : Lane → CoreSt → Prop) (s : State) : Prop := ∀ l, (s.lane l).meets (P l)

section
variable {Q : CoreSt → Prop} {L M : LaneSt} {ps : List Part}

theorem LaneSt.frame.meets (h : L.frame ps M) (hp : Part.core ∉ ps) (hL : L.meets Q) : M.meets Q := by
  rw [LaneSt.meets, h.core hp]
  exact hL

theorem LaneSt.meets_ite {c : Prop} [Decidable c] (h : L.meets Q) (h' : M.meets Q) : (if c then L else M).meets Q := by
  split <;> assumption

theorem LaneSt.meets_for3 {f : Nat → LaneSt → LaneSt} (hf : ∀ (i : Nat) (M : LaneSt), M.meets Q → (f i M).meets Q) (h : L.meets Q) :
    (for3 f L).meets Q := hf 2 _ (hf 1 _ (hf 0 _ h))

theorem LaneSt.meets_foldl {α : Type} {f : LaneSt → α → LaneSt} (hf : ∀ (M : LaneSt) (x : α), M.meets Q → (f M x).meets Q) (xs : List α)
    (h : L.meets Q) : (xs.foldl f L).meets Q := by
  induction xs generalizing L with
  | nil => exact h
  | cons x xs ih => exact ih (hf L x h)

theorem LaneSt.meets_receive {f : LaneSt → LaneSt} (hf : ∀ M : LaneSt, M.meets Q → (f M).meets Q) (l : Lane) (code : Nat) (r : Req)
    (body : List Byte) (h : L.meets Q) : (L.receive l code r body f).meets Q := by
  unfold LaneSt.receive
  refine meets_ite h ?_
  have hrate : ∀ key, ((L.updMbx fun m => { m with out := [] }).noteRate key).meets Q := fun _ => (noteRate_frame ..).meets (by decide) h
  dsimp only
  split
  · exact hrate _
  · exact meets_ite ((sendReply_frame ..).meets (by decide) (hrate _)) (hrate _)
  · exact meets_ite ((turnAway_frame ..).meets (by decide) (hrate _)) (hrate _)
  · exact hf _ ((noteReq_frame ..).meets (by decide) (hrate _))

end

section
variable {P : Lane → CoreSt → Prop} {s t : State}

theorem State.meets_updLane {l : Lane} {f : LaneSt → LaneSt} (hs : s.meets P) (hf : (s.lane l).meets (P l) → (f (s.lane l)).meets (P l)) :
    (s.updLane l f).meets P := by
  intro o
  by_cases ho : o = l
  · subst ho
    rw [State.lane_updLane_self]
    exact hf (hs o)
  · rw [State.lane_updLane_ne _ _ _ _ ho]
    exact hs o

theorem State.meets_of_lanes (h : t.lanes = s.lanes) (hs : s.meets P) : t.meets P := fun l => by
  rw [State.lane, h]
  exact hs l

theorem State.meets_ite {c : Prop} [Decidable c] (hs : s.meets P) (ht : t.meets P) : (if c then s else t).meets P := by
  split <;> assumption

theorem State.meets_foldl {α : Type} {f : State → α → State} (hf : ∀ (u : State) (x : α), u.meets P → (f u x).meets P) (xs : List α)
    (hs : s.meets P) : (xs.foldl f s).meets P := by
  induction xs generalizing s with
  | nil => exact hs
  | cons x xs ih => exact ih (hf s x hs)

/-- An operation on each lane. -/
theorem State.meets_lanes {a b c : LaneSt} {x : Tri StageSt} {g h : GuardianSt} {p : List Instr} (hs : s.meets P)
    (ha : (s.lane .A).meets (P .A) → a.meets (P .A)) (hb : (s.lane .B).meets (P .B) → b.meets (P .B))
    (hc : (s.lane .C).meets (P .C) → c.meets (P .C)) :
    ({ lanes := ⟨a, b, c⟩, stages := x, gX := g, gY := h, pending := p } : State).meets P := by
  intro l
  cases l
  · exact ha (hs .A)
  · exact hb (hs .B)
  · exact hc (hs .C)

end

/-- The outcome keeps what the cores of `s` satisfy. -/
def Carries (P : Lane → CoreSt → Prop) (s : State) (o : Out) : Prop := s.meets P → (outState s o).meets P

/-! ### Carriers -/

section
variable {P : Lane → CoreSt → Prop} {s : State} {l : Lane} {f : LaneSt → LaneSt}

theorem carries_next {t : State} (h : s.meets P → t.meets P) : Carries P s (.next t) := h

theorem carries_ite {c : Prop} [Decidable c] {o o' : Out} (h : Carries P s o) (h' : Carries P s o') : Carries P s (if c then o else o') := by
  split <;> assumption

theorem carries_sameLanes {t : State} (h : t.lanes = s.lanes) : Carries P s (.next t) := State.meets_of_lanes h

theorem carries_updLane (hf : ∀ L : LaneSt, L.meets (P l) → (f L).meets (P l)) : Carries P s (.next (s.updLane l f)) :=
  fun hs => State.meets_updLane hs (hf _)

theorem carries_onLane {t : Nat} (hf : ∀ L : LaneSt, L.meets (P l) → (f L).meets (P l)) : Carries P s (onLane l t s f) :=
  carries_updLane fun _ h => LaneSt.meets_ite (hf _ ((LaneSt.tick_frame ..).meets (by decide) h)) h

theorem carries_onLaneNow (hf : ∀ L : LaneSt, L.meets (P l) → (f L).meets (P l)) : Carries P s (onLaneNow l s f) :=
  carries_updLane fun _ h => LaneSt.meets_ite (hf _ h) h

theorem carries_onLinked {t : Nat} (hf : ∀ L : LaneSt, L.meets (P l) → (f L).meets (P l)) : Carries P s (onLinked l t s f) :=
  carries_updLane fun _ h => LaneSt.meets_ite (hf _ ((LaneSt.tick_frame ..).meets (by decide) h)) h

theorem carries_onLinkedNow (hf : ∀ L : LaneSt, L.meets (P l) → (f L).meets (P l)) : Carries P s (onLinkedNow l s f) :=
  carries_updLane fun _ h => LaneSt.meets_ite (hf _ h) h

theorem carries_onAwake {t : Nat} (hf : ∀ L : LaneSt, L.meets (P l) → (f L).meets (P l)) : Carries P s (onAwake l t s f) :=
  carries_updLane fun _ h => LaneSt.meets_ite (hf _ ((LaneSt.tick_frame ..).meets (by decide) h)) h

theorem carries_auxCmd {key : BitVec 16} (hf : ∀ L : LaneSt, L.meets (P l) → (f L).meets (P l)) : Carries P s (auxCmd l key s f) :=
  carries_onLaneNow fun _ h => LaneSt.meets_ite (hf _ h) ((LaneSt.refuseWrite_frame ..).meets (by decide) h)

theorem carries_laneCmd {code t : Nat} {r : Req} {body : List Byte} (hf : ∀ L : LaneSt, L.meets (P l) → (f L).meets (P l)) :
    Carries P s (laneCmd l code r body t s f) :=
  carries_onLane fun _ h => LaneSt.meets_receive (fun _ h => LaneSt.meets_ite (hf _ h) ((LaneSt.refuse_frame ..).meets (by decide) h)) l code r body h

theorem carries_readCmd {code t : Nat} {r : Req} {f : LaneSt → List Byte} : Carries P s (readCmd l code r t s f) :=
  carries_laneCmd fun _ h => (LaneSt.finish_frame ..).meets (by decide) h

theorem carries_moduleCmd {code t : Nat} {r : Req} {body : List Byte} {cmd : ModCmd} : Carries P s (moduleCmd l code r body cmd t s) :=
  carries_onLane fun _ h =>
    LaneSt.meets_receive (fun _ h => (LaneSt.showPending_frame ..).meets (by decide) ((LaneSt.updMbx_frame ..).meets (by decide) h)) l code r body h

theorem carries_lifecycle {r : Req} {op t : Nat} {a : LcArgs} : Carries P s (lifecycle l r op a t s) := carries_moduleCmd

theorem carries_updStage {g : Stg} {f : StageSt → StageSt} : Carries P s (.next (s.updStage g f)) := carries_sameLanes rfl

theorem State.meets_updGdn (g : Gdn) (f : GuardianSt → GuardianSt) (hs : s.meets P) : (s.updGdn g f).meets P :=
  State.meets_of_lanes (by cases g <;> rfl) hs

theorem carries_onGdn {g : Gdn} {f : GuardianSt → GuardianSt} : Carries P s (onGdn g s f) := carries_next (State.meets_updGdn g _)

/-- A command on a powered guardian that may reach beyond it. -/
theorem carries_withGdn {g : Gdn} {f : State → State} (hf : ∀ u : State, u.meets P → (f u).meets P) : Carries P s (withGdn g s f) :=
  carries_ite (carries_next fun hs => hf _ (State.meets_updGdn g _ hs)) (carries_sameLanes rfl)

end

/-! ### Operations on the module -/

section
variable {P : Lane → CoreSt → Prop} {s : State}

theorem State.meets_driveSto (l : Lane) (hs : s.meets P) : (s.driveSto l).meets P := State.meets_of_lanes (s.driveSto_lanes l) hs

theorem State.meets_restAfter (was : LaneSt) (l : Lane) (hs : s.meets P) : (s.restAfter was l).meets P := State.meets_ite hs hs

theorem State.meets_stepTogether {f : Lane → LaneSt → LaneSt} (hf : ∀ (k : Lane) (L : LaneSt), L.meets (P k) → (f k L).meets (P k)) (l : Lane)
    (hs : s.meets P) : (s.stepTogether l f).meets P :=
  State.meets_foldl (fun _ k hu => State.meets_ite (State.meets_updLane hu (hf k _)) hu) _ hs

theorem State.meets_raiseAll (id d : Nat) (hs : s.meets P) : (s.raiseAll id d).meets P :=
  have hraise : ∀ {Q} (L : LaneSt), L.meets Q → (if L.up then L.raise id d else L).meets Q :=
    fun _ h => LaneSt.meets_ite ((LaneSt.raise_frame ..).meets (by decide) h) h
  State.meets_lanes hs (hraise _) (hraise _) (hraise _)

theorem State.meets_showMuted (g : Gdn) (hs : s.meets P) : (s.showMuted g).meets P :=
  have hshow : ∀ {Q} (L : LaneSt) (b : Bool) (fld : Fld), L.meets Q → (if L.up then (L.logMute (b && !L.on fld)).put fld b else L).meets Q :=
    fun _ _ _ h => LaneSt.meets_ite ((LaneSt.put_frame ..).meets (by decide) ((LaneSt.logMute_frame ..).meets (by decide) h)) h
  State.meets_lanes hs (hshow _ _ _) (hshow _ _ _) (hshow _ _ _)

theorem State.meets_showPorts (g : Gdn) (hs : s.meets P) : (s.showPorts g).meets P :=
  have hshow : ∀ {Q} (L : LaneSt), L.meets Q → (if L.up then L.showPorts g (s.gdn g) else L).meets Q :=
    fun _ h => LaneSt.meets_ite ((LaneSt.showPorts_frame ..).meets (by decide) h) h
  State.meets_lanes hs (hshow _) (hshow _) (hshow _)

theorem State.meets_truncated (g : Gdn) (id n : Nat) (hs : s.meets P) : (s.truncated g id n).meets P :=
  State.meets_raiseAll _ _ (State.meets_updGdn g _ hs)

theorem State.meets_localFrame (g : Gdn) (src : Src) (f : FlockFrame) (start stop : Nat) (hs : s.meets P) :
    (s.localFrame g src f start stop).meets P := by
  have hgdn : ∀ F : GuardianSt → GuardianSt, (s.updGdn g F).meets P := fun F => State.meets_updGdn g F hs
  unfold State.localFrame
  exact State.meets_ite (hgdn _) (State.meets_ite hs (State.meets_ite (State.meets_ite (hgdn _) hs) (State.meets_ite hs
    (State.meets_ite (State.meets_truncated g _ _ hs) (State.meets_ite (hgdn _) (hgdn _))))))

theorem State.meets_loseSupply (l : Lane) (id t : Nat) (hs : s.meets P) : (s.loseSupply l id t).meets P :=
  State.meets_of_lanes rfl (State.meets_updLane (f := fun L => (L.tick t).loseSupply id t) hs
    fun h => (LaneSt.loseSupply_frame ..).meets (by decide) ((LaneSt.tick_frame ..).meets (by decide) h))

theorem State.meets_parked (l : Lane) (hs : s.meets P) : (s.parked l).meets P :=
  State.meets_of_lanes (State.driveSto_lanes { s with gX := s.gX.sleep l, gY := s.gY.sleep l } l) hs

theorem State.meets_wakeLane (l : Lane) (bit t : Nat) (hs : s.meets P) : (s.wakeLane l bit t).meets P :=
  State.meets_of_lanes rfl (State.meets_updLane (f := fun L => (L.tick t).wakeBy bit) hs
    fun h => (LaneSt.wakeBy_frame ..).meets (by decide) ((LaneSt.tick_frame ..).meets (by decide) h))

theorem State.meets_started (l : Lane) (hs : s.meets P) : (s.started l).meets P := by
  unfold State.started
  exact State.meets_driveSto l (State.meets_ite hs hs)

end

end Sys2Proof.Machine

/-! ## The queues between instructions (R115, R116)

The operations that change the core leave the load-value queue and the store compare buffer empty when they were empty. -/
namespace Sys2Proof.Machine

/-- The load-value queue and the store compare buffer are empty. -/
def CoreSt.drained (c : CoreSt) : Prop := c.lvq = [] ∧ c.scb = []

/-- The lane's queues are empty. -/
abbrev LaneSt.drained (L : LaneSt) : Prop := L.meets CoreSt.drained

/-- Every lane's queues are empty. -/
abbrev drainedCores : Lane → CoreSt → Prop := fun _ => CoreSt.drained

section
open LaneSt
variable {L : LaneSt} {l : Lane}

theorem LaneSt.drained_updCore {f : CoreSt → CoreSt} (h : (f L.core).drained) : (L.updCore f).drained := h

theorem LaneSt.drained_congr {M : LaneSt} (hc : M.core = L.core) (h : L.drained) : M.drained := by
  rw [LaneSt.drained, LaneSt.meets, hc]
  exact h

/-! ### Instructions -/

/-- A difference discards what the queues hold. -/
theorem LaneSt.drained_mismatch {id cls diff : Nat} : (L.mismatch id cls diff).drained := by
  rw [LaneSt.drained, LaneSt.meets, LaneSt.mismatch_core]
  exact ⟨rfl, rfl⟩

theorem LaneSt.drained_putCsr {k : Nat} {v nv : Word} (h : L.drained) : (L.putCsr k v nv).drained := h

theorem LaneSt.drained_goto {pc npc : Word} (h : L.drained) : (L.goto pc npc).drained := h

theorem LaneSt.drained_trap {cause tval : Word} (h : L.drained) : (L.trap cause tval).drained := by
  unfold LaneSt.trap
  extract_lets st st' tv base pc p A B
  have hA : A.drained := drained_putCsr (drained_putCsr h)
  have hB : (B.goto pc (~~~pc)).drained := drained_goto (drained_putCsr (drained_putCsr hA))
  exact hB

theorem LaneSt.drained_retire {len : Nat} (h : L.drained) : (L.retire len).drained := h

theorem LaneSt.drained_accessTrap {w : Width} {a : Word} {mis err : Nat} (h : L.drained) : (L.accessTrap w a mis err).drained :=
  drained_trap ((raiseIf_frame ..).meets (by decide) h)

theorem LaneSt.drained_eccDouble {i : CoreInstr} {fetch : Bool} (h : L.drained) : (L.eccDouble i fetch).drained := by
  have hfault : ∀ cause tval, (L.eccFault cause tval).drained := fun cause tval => by
    rw [LaneSt.drained, LaneSt.meets, LaneSt.eccFault_core]
    exact h
  unfold LaneSt.eccDouble
  split <;> exact hfault ..

theorem LaneSt.drained_issue {i : CoreInstr} {q : IssueIn} (h : L.drained) : (L.issue i q).drained := by
  refine meets_ite h ?_
  cases i <;> exact h

theorem LaneSt.drained_compare {id cls : Nat} {v nv : Word} {f : LaneSt → LaneSt} (hf : (f L).drained) : (L.compare id cls v nv f).drained :=
  meets_ite hf drained_mismatch

theorem LaneSt.drained_writeBack {cls rd : Nat} {fp : Bool} {v nv : Word} {u : Upset} {f : LaneSt → LaneSt}
    (hf : ∀ M : LaneSt, M.core.lvq = L.core.lvq → M.core.scb = L.core.scb → (f M).drained) : (L.writeBack cls fp rd v nv u f).drained :=
  drained_compare (hf _ rfl rfl)

/-- What a load puts into the queue, its second copy takes out. -/
theorem LaneSt.drained_loadInstr {w : Width} {sg fp : Bool} {rd rs1 len : Nat} {off : Word} {u : Upset} (h : L.drained) :
    (L.loadInstr w sg fp rd rs1 off len u).drained := by
  have hput : ∀ a raw (M : LaneSt), M.core.lvq = (L.lvqPut a w raw).core.lvq → M.core.scb = (L.lvqPut a w raw).core.scb →
      (M.lvqTake.retire len).drained := by
    intro a raw M hl hs
    refine drained_retire (drained_updCore ⟨?_, hs.trans h.2⟩)
    rw [hl]
    simp only [LaneSt.lvqPut, LaneSt.updCore, h.1, List.nil_append, List.drop_succ_cons, List.drop_zero]
  refine drained_compare (meets_ite drained_mismatch ?_)
  split
  · exact drained_accessTrap h
  · exact meets_ite (drained_compare (drained_writeBack (hput _ _))) (drained_writeBack (hput _ _))

theorem LaneSt.drained_jumpInstr {rd len : Nat} {t nt : Word} {u : Upset} (h : L.drained) : (L.jumpInstr rd t nt len u).drained :=
  drained_writeBack fun _ hl hs => ⟨hl.trans h.1, hs.trans h.2⟩

theorem LaneSt.drained_branchInstr {op : BrOp} {rs1 rs2 len : Nat} {off : Word} (h : L.drained) :
    (L.branchInstr op rs1 rs2 off len).drained :=
  meets_ite drained_mismatch (meets_ite (drained_goto (drained_retire (len := len) h)) (drained_retire h))

theorem LaneSt.drained_csrInstr {op : CsrOp} {rd n rs1 len : Nat} {u : Upset} (h : L.drained) : (L.csrInstr op rd n rs1 len u).drained := by
  have hsample : (if csrSampled n then (L.sample n).2 else L).drained := meets_ite ((sample_frame ..).meets (by decide) h) h
  refine meets_ite (drained_trap h) (drained_writeBack fun M hl hs => ?_)
  have hM : M.drained := ⟨hl.trans hsample.1, hs.trans hsample.2⟩
  exact meets_ite (drained_compare (drained_retire hM)) (drained_retire hM)

theorem LaneSt.drained_fpuInstr {op : FpuOp} {rm fd fs1 fs2 fs3 len : Nat} {u : Upset} (h : L.drained) :
    (L.fpuInstr op rm fd fs1 fs2 fs3 len u).drained :=
  meets_ite (drained_trap h) (drained_writeBack fun _ hl hs => drained_compare ⟨hl.trans h.1, hs.trans h.2⟩)

theorem LaneSt.drained_lrInstr {rd rs1 len : Nat} {u : Upset} (h : L.drained) : (L.lrInstr rd rs1 len u).drained :=
  drained_compare (meets_ite (drained_accessTrap h) (drained_writeBack fun _ hl hs => ⟨hl.trans h.1, hs.trans h.2⟩))

theorem LaneSt.drained_atomicPair {rs1 rs2 : Nat} {u : Upset} {f : Word → Word → LaneSt → LaneSt} (h : L.drained)
    (hf : ∀ a b, (f a b L).drained) : (L.atomicPair rs1 rs2 u f).drained :=
  drained_compare (drained_compare (meets_ite (drained_accessTrap h) (hf _ _)))

theorem LaneSt.drained_scInstr {rd rs1 rs2 len : Nat} {u : Upset} (h : L.drained) : (L.scInstr rd rs1 rs2 len u).drained :=
  drained_atomicPair h fun _ _ => drained_writeBack fun M hl hs => by
    have hfree : (M.updCore fun c => { c with resv := none }).drained := ⟨hl.trans h.1, hs.trans h.2⟩
    exact drained_retire (meets_ite ((setWord_frame ..).meets (by decide) hfree) hfree)

theorem LaneSt.drained_amoInstr {op : AmoOp} {rd rs1 rs2 len : Nat} {u : Upset} (h : L.drained) : (L.amoInstr op rd rs1 rs2 len u).drained :=
  drained_atomicPair h fun _ _ => drained_writeBack fun M hl hs =>
    have hM : M.drained := ⟨hl.trans h.1, hs.trans h.2⟩
    drained_retire ((setWord_frame ..).meets (by decide) hM)

theorem LaneSt.drained_laneInstr {i : CoreInstr} {u : Upset} (h : L.drained) : (L.laneInstr i u).drained := by
  have hretire : ∀ {cls fp rd v nv len}, (L.writeBack cls fp rd v nv u fun L => L.retire len).drained :=
    drained_writeBack fun _ hl hs => ⟨hl.trans h.1, hs.trans h.2⟩
  cases i with
  | alu | aluImm | lui | auipc | muldiv | fmvToInt | fmvFromInt => exact hretire
  | jal => exact drained_jumpInstr h
  | jalr => exact drained_jumpInstr h
  | branch => exact drained_branchInstr h
  | fpu => exact drained_fpuInstr h
  | load => exact drained_loadInstr h
  | loadF => exact drained_loadInstr h
  | lr => exact drained_lrInstr h
  | sc => exact drained_scInstr h
  | amo => exact drained_amoInstr h
  | csr => exact drained_csrInstr h
  | mret => exact h
  | fence => exact h
  | ecall => exact drained_trap h
  | ebreak => exact drained_trap h
  | store => exact h
  | storeF => exact h

/-- A store that agrees is the one entry of the compare buffer; one that differs has halted the cores. -/
theorem LaneSt.drained_storeAgree {w : Width} {fp : Bool} {rs1 rs2 : Nat} {off : Word} {u : Upset} (h : L.drained)
    (hrun : L.core.halted = false) :
    ((L.storeAgree w fp rs1 rs2 off u).core.halted = true → (L.storeAgree w fp rs1 rs2 off u).drained) ∧
      (L.storeAgree w fp rs1 rs2 off u).scbTake.drained := by
  have hstop : ∀ (M : LaneSt) (id cls diff : Nat), ((M.mismatch id cls diff).core.halted = true → (M.mismatch id cls diff).drained) ∧
      (M.mismatch id cls diff).scbTake.drained := fun M id cls diff => by
    have hM : (M.mismatch id cls diff).drained := drained_mismatch
    exact ⟨fun _ => hM, hM.1, (congrArg (List.drop 1) hM.2).trans rfl⟩
  have hput : ∀ a v, ((L.scbPut a w v).core.halted = true → (L.scbPut a w v).drained) ∧ (L.scbPut a w v).scbTake.drained := fun a v =>
    ⟨fun ht => absurd (hrun.symm.trans ht) (by decide), h.1, by
      simp only [LaneSt.scbTake, LaneSt.scbPut, LaneSt.updCore, h.2, List.nil_append, List.drop_succ_cons, List.drop_zero]⟩
  unfold LaneSt.storeAgree LaneSt.compare
  dsimp only
  split
  · split
    · exact hstop ..
    · split
      · exact hput ..
      · exact hstop ..
  · exact hstop ..

theorem LaneSt.drained_runShepherd {i : CoreInstr} {u : Upset} (h : L.drained) : (L.runShepherd i u).drained := by
  have hhalted : ∀ id, ((L.haltCores.raise id).openMask 0).drained := fun id =>
    drained_congr (LaneSt.openMask_core ..) (drained_congr (LaneSt.raise_core ..) h)
  have hshep : ∀ M : LaneSt, ({ L with core := { L.core with shep := M.core.cpu }, shepMem := M.mem } : LaneSt).drained := fun _ => h
  unfold LaneSt.runShepherd
  exact meets_ite (hhalted _) (meets_ite (hhalted _) ((raiseIf_frame ..).meets (by decide) (hshep _)))

theorem LaneSt.drained_halt (h : L.drained) : (L.halt l).drained := (enterResync_frame L).meets (by decide) h

theorem LaneSt.drained_takeInterrupt {cause : Nat} (h : L.drained) : (L.takeInterrupt cause).drained := by
  have htrap : (L.trap (0x80000000#32 ||| BitVec.ofNat 32 cause) 0#32).drained := drained_trap h
  exact meets_ite htrap h

/-! ### The debugger -/

theorem LaneSt.drained_replay (h : L.drained) : L.replay.drained := h

theorem LaneSt.drained_debugRun (h : L.drained) : L.debugRun.drained :=
  have hrun : (L.replay.updCore fun c => { c with debug := false }).drained := h
  meets_ite ((enterResync_frame _).meets (by decide) hrun) h

theorem LaneSt.drained_lockDebug (h : L.drained) : L.lockDebug.drained :=
  drained_debugRun ((closeDebug_frame _).meets (by decide) ((put_frame ..).meets (by decide) ((wr_frame ..).meets (by decide) h)))

theorem LaneSt.drained_debugModule {r : DbgReg} {v : Word} (h : L.drained) : (L.debugModule r v).drained := by
  cases r <;> exact h

theorem LaneSt.drained_abstractWrite {r : DbgReg} {v : Word} (h : L.drained) : (L.abstractWrite r v).drained := by
  have hlead : (L.debugLead r v).drained := by
    cases r
    case csr n => exact meets_ite (c := (csrKnown n && !csrSampled n) = true) h h
    all_goals exact h
  exact meets_ite ((incSat_frame ..).meets (by decide) h) hlead

theorem LaneSt.drained_completeHalt (h : L.drained) : (L.completeHalt l).drained := meets_ite h h

theorem LaneSt.drained_showCore (h : L.drained) : L.showCore.drained := h

/-! ### Tamper, lifecycle and power -/

theorem LaneSt.drained_latchRind {first : Nat} (h : L.drained) : (L.latchRind l first).drained := by
  have hraised := (raise_frame _ 0x0B01 0xFF).meets (by decide) ((wr_frame _ Reg.SEC_RIND_STAT_FIRST first).meets (by decide)
      ((put_frame L Reg.SEC_RIND_STAT_ALARM true).meets (by decide) h))
  have hlocked := (eraseExt_frame _ l).meets (by decide) ((closeSession_frame _).meets (by decide) (drained_lockDebug hraised))
  have hcontrol := meets_ite (c := decide (L.st ≤ stStandby) = true) ((eraseControl_frame _ l).meets (by decide) hlocked)
    ((put_frame _ Reg.SEC_KEY_STAT_PENDING true).meets (by decide) hlocked)
  have hkeys := meets_ite (c := L.rd Reg.SEC_KEY_STAT_POLICY = 0) hlocked hcontrol
  exact meets_ite h (meets_ite (c := L.rd Reg.SEC_KEY_STAT_POLICY = 2) ((eraseIdent_frame _ l).meets (by decide) hkeys) hkeys)

theorem LaneSt.drained_glitch {bit : Nat} (h : L.drained) : (L.glitch l bit).drained :=
  meets_ite ((raise_frame ..).meets (by decide) ((inc_frame ..).meets (by decide) h)) (drained_latchRind h)

theorem LaneSt.drained_unlockFailed {r : Req} (h : L.drained) : (L.unlockFailed l r).drained := by
  have htally := (tally_frame _ l 0x0009 r.requester.toNat [] true).meets (by decide)
      ((raise_frame _ 0x0B05 0xFF).meets (by decide) ((dropChallenge_frame L).meets (by decide) h))
  have hcount := fun a b => (wr_frame _ Reg.SEC_DBG_STAT_TOTAL b).meets (by decide) ((wr_frame _ Reg.SEC_DBG_STAT_CONSEC a).meets (by decide) htally)
  have hperm := fun a b (c : Prop) [Decidable c] => meets_ite (c := c) ((put_frame _ Reg.SEC_DBG_STAT_PERM true).meets (by decide) (hcount a b))
      (hcount a b)
  have hreply := fun a b (c : Prop) [Decidable c] => (finish_frame _ 0x0702 r [Config.resultByte false]).meets (by decide) (hperm a b c)
  exact meets_ite (drained_latchRind ((put_frame ..).meets (by decide) (hreply _ _ _))) (hreply _ _ _)

theorem LaneSt.drained_takeDigests {r : Rnd} (h : L.drained) : (L.takeDigests l r).drained :=
  have hconfirmed := fun ds alone => (confirm_frame L ds alone).meets (by decide) h
  meets_ite (drained_latchRind (hconfirmed _ _)) (hconfirmed _ _)

theorem LaneSt.drained_voteEngines {r : Rnd} {h : Heard} {n : Nat} (hL : L.drained) : (L.voteEngines l r h n).drained := by
  have hfollowed := (safeVote_frame _ l).meets (by decide) ((followModule_frame _ l r h).meets (by decide)
      ((takeAgreed_frame _ r).meets (by decide) ((takeBits_frame L r).meets (by decide) hL)))
  have hlearnt := (learnSees_frame _ r).meets (by decide) ((shadowRound_frame _ r).meets (by decide)
      ((imageRound_frame _ r n).meets (by decide) hfollowed))
  exact (frame_sys ..).meets (by decide) ((rejoin_frame ..).meets (by decide) (drained_takeDigests hlearnt))

theorem LaneSt.drained_vote {m : AgrMsg} {h : Heard} (hL : L.drained) : (L.vote l m h).drained := by
  have hcopied : (for3 (fun i L => if i = laneIx l then L else L.copyErrors (laneIx l) i) L).drained :=
    meets_for3 (fun _ M hM => meets_ite hM ((copyErrors_frame ..).meets (by decide) hM)) hL
  have hagreed := fun u r => (voteAgree_frame _ l r).meets (by decide) ((welcome_frame _ u).meets (by decide) hcopied)
  exact (freeze_frame ..).meets (by decide) ((updAgr_frame ..).meets (by decide)
      ((formCatchup_frame ..).meets (by decide) (drained_voteEngines (hagreed _ _))))

theorem LaneSt.drained_powerDown {keep keepMem : Nat → Bool} : (L.powerDown keep keepMem).drained := ⟨rfl, rfl⟩

theorem LaneSt.drained_restart : L.restart.drained :=
  have hdown := (wr_frame _ Reg.SYS_STATE_MODULE stOff).meets (by decide) (drained_powerDown (L := L) (keep := keepOff) (keepMem := memOff))
  (updMbx_frame ..).meets (by decide) (drained_congr rfl hdown)

theorem LaneSt.drained_unpower : L.unpower.drained :=
  drained_congr rfl ((wr_frame _ Reg.SYS_STATE_MODULE stOff).meets (by decide) (drained_powerDown (L := L) (keep := keepOff) (keepMem := memOff)))

theorem LaneSt.drained_toPark : (L.toPark l).drained := by
  unfold LaneSt.toPark
  extract_lets A B C D E
  have hE : E.drained := drained_powerDown (L := D)
  exact drained_congr (L := E) rfl hE

theorem LaneSt.drained_actLifecycle {h : Held} {op : Nat} {a : LcArgs} (hL : L.drained) : (L.actLifecycle l h op a).drained :=
  meets_ite ((refuse_frame ..).meets (by decide) hL) (meets_ite ((refuse_frame ..).meets (by decide) hL)
      (meets_ite ((refuse_frame ..).meets (by decide) hL) drained_restart))

theorem LaneSt.drained_act {h : Held} (hL : L.drained) : (L.act l h).drained := by
  unfold LaneSt.act
  split
  case h_1 => exact (actReqState_frame ..).meets (by decide) hL
  case h_2 => exact (actSafeStop_frame ..).meets (by decide) hL
  case h_3 => exact (actResetArm_frame ..).meets (by decide) hL
  case h_4 => exact (actResetConfirm_frame ..).meets (by decide) hL
  case h_5 => exact (actImgCommit_frame ..).meets (by decide) hL
  case h_6 => exact (actLearnStart_frame ..).meets (by decide) hL
  case h_7 => exact (actCalSave_frame ..).meets (by decide) hL
  case h_8 => exact (actFcAck_frame ..).meets (by decide) hL
  case h_9 => exact (actFwTrial_frame ..).meets (by decide) hL
  case h_10 => exact (actFwCommit_frame ..).meets (by decide) hL
  case h_11 => exact drained_actLifecycle hL

theorem LaneSt.drained_mbxSlot (h : L.drained) : (L.mbxSlot l).drained := by
  have hended := (updMbx_frame _ fun m => { m with waiting := m.waiting.filter fun h => !h.confirmed }).meets (by decide)
    ((endCommit_frame _ l).meets (by decide) ((updMbx_frame L fun m => { m with out := [] }).meets (by decide) h))
  have hacted := fun due => meets_foldl (f := fun L h => if h.named && L.up then L.act l h else L)
    (fun M _ hM => meets_ite (drained_act hM) hM) due hended
  exact (showReply_frame ..).meets (by decide) ((flushLog_frame ..).meets (by decide)
      ((showPending_frame ..).meets (by decide) ((crookGoes_frame ..).meets (by decide)
    ((answerAsked_frame ..).meets (by decide) (hacted _)))))

theorem LaneSt.drained_slotEngines {t : Nat} (h : L.drained) : (L.slotEngines l t).drained := by
  have hhalted := drained_completeHalt (l := l) ((frame_meas L { L.meas with slot := t / 50000 }).meets (by decide) h)
  exact (endPosting_frame ..).meets (by decide) ((freeze_frame ..).meets (by decide)
      ((slotIrq_frame ..).meets (by decide) ((canSlot_frame ..).meets (by decide) ((flkSlot_frame ..).meets (by decide)
    ((posSlot_frame ..).meets (by decide) ((flkSlotEnd_frame ..).meets (by decide) hhalted))))))

theorem LaneSt.drained_basicCycle (h : L.drained) : (L.basicCycle l).drained := by
  have hshown : L.showCounts.showCore.drained := drained_showCore ((showCounts_frame L).meets (by decide) h)
  exact (freeze_frame ..).meets (by decide) ((takeover_frame ..).meets (by decide)
      ((flkCycle_frame ..).meets (by decide) ((resyncCycle_frame ..).meets (by decide) ((grazeSample_frame ..).meets (by decide)
    (meets_for3 (fun _ _ hM => (windingModel_frame ..).meets (by decide) hM) hshown)))))

theorem LaneSt.drained_startDebug {lidOpen : Bool} (h : L.drained) : (L.startDebug l lidOpen).drained := by
  have hcleared := (put_frame _ Reg.SEC_LC_TEST_MODE false).meets (by decide) ((put_frame _ Reg.SEC_DBG_STAT_CHAL false).meets (by decide)
    ((wr_frame L Reg.SEC_DBG_STAT_LEVEL 0).meets (by decide) h))
  have hsource := fun v => (wr_frame _ Reg.SEC_RIND_STAT_SRC v).meets (by decide) hcleared
  exact meets_ite (drained_latchRind (hsource _)) (hsource _)

theorem LaneSt.drained_startLane {f : BootFacts} {others : Bool} (h : L.drained) : (L.startLane l f others).drained := by
  have hdebug : ((L.startBase f.stoHigh).startDebug l f.lidOpen).drained := drained_startDebug ((startBase_frame ..).meets (by decide) h)
  have hbank := (bootBank_frame _ f.bankAOk f.bankBOk 2).meets (by decide) hdebug
  refine meets_ite ((inRom_frame ..).meets (by decide) hdebug) (meets_ite ((startRest_frame ..).meets (by decide) (drained_congr rfl ?_))
    ((inRom_frame ..).meets (by decide) ((raise_frame ..).meets (by decide) hbank)))
  exact hbank

theorem LaneSt.drained_coldBootLane {f : BootFacts} {others : Bool} (h : L.drained) : (L.coldBootLane l f others).drained :=
  have hclocks := (coldClocks_frame L l f).meets (by decide) h
  meets_ite (drained_startLane hclocks) ((bootFails_frame ..).meets (by decide) (drained_startDebug ((startBase_frame ..).meets (by decide) hclocks)))

theorem LaneSt.drained_sliceRestore {p : Nat} (h : L.drained) : (L.sliceRestore p).drained := meets_ite h h

theorem LaneSt.drained_sliceFold {p : Nat} {zeroOk crcOk keyOk : Bool} (h : L.drained) : (L.sliceFold p zeroOk crcOk keyOk).drained := by
  have hrestored := (raiseIf_frame _ (!crcOk) 0x0C05 p).meets (by decide)
    (drained_sliceRestore (p := p) ((wr_frame _ Reg.CHN_LAST_REASON 3).meets (by decide) ((wr_frame L Reg.CHN_LAST_RESULT 4).meets (by decide) h)))
  exact (updChn_frame ..).meets (by decide) (meets_ite ((keyReload_frame ..).meets (by decide) hrestored) hrestored)

theorem LaneSt.drained_sliceEnd {p seg : Nat} {zeroOk sigOk crcOk keyOk : Bool} (h : L.drained) :
    (L.sliceEnd l p seg zeroOk sigOk crcOk keyOk).drained := by
  have hreason := fun v => (wr_frame L Reg.CHN_LAST_REASON v).meets (by decide) h
  have hmarked := fun (c : Bool) v => meets_ite (c := c = true) ((segMiss_frame _ l p seg).meets (by decide) (hreason v)) (hreason v)
  have hrestored := fun c v => (raiseIf_frame _ (!crcOk) 0x0C05 p).meets (by decide) (drained_sliceRestore (p := p) (hmarked c v))
  have hkeys := fun c v => meets_ite (c := p = 6) ((keyReload_frame _ zeroOk keyOk).meets (by decide) (hrestored c v)) (hrestored c v)
  exact meets_ite (hkeys _ _) (meets_ite ((segPass_frame ..).meets (by decide) (hkeys _ _)) ((wr_frame ..).meets (by decide) (hkeys _ _)))

theorem LaneSt.drained_resetShepherd (h : L.drained) : L.resetShepherd.drained := by
  unfold LaneSt.resetShepherd
  extract_lets A B C
  have hA : A.drained := (put_frame ..).meets (by decide) ((put_frame ..).meets (by decide) ((dropLoads_frame L).meets (by decide) h))
  have hB : B.drained := (put_frame ..).meets (by decide) ((setReg_frame ..).meets (by decide) ((setReg_frame ..).meets (by decide) hA))
  have hC : C.drained := (updSec_frame ..).meets (by decide) ((put_frame ..).meets (by decide) hB)
  exact (showPending_frame ..).meets (by decide) hC

theorem LaneSt.drained_coreReset : L.coreReset.drained := by
  unfold LaneSt.coreReset
  extract_lets A B C D E
  have hC : C.drained := ⟨rfl, rfl⟩
  have hE : E.drained := drained_congr (L := C) rfl hC
  exact meets_ite hE ((enterResync_frame E).meets (by decide) hE)

end
end Sys2Proof.Machine

/-! ## What each command leaves in the cores -/
namespace Sys2Proof.Machine

section
open LaneSt
variable {P : Lane → CoreSt → Prop} {s : State} {l : Lane} {t : Nat}

/-! ### CAN (16) -/

theorem execCanFrameReceive_carries {c f} : Carries P s (execCanFrameReceive l c f s) := by
  refine carries_onLinkedNow fun L h => meets_ite h ?_
  have hrec : (L.recGood c).meets (P l) := (recGood_frame ..).meets (by decide) h
  refine meets_ite hrec ?_
  split
  · exact (canSegment_frame ..).meets (by decide) ((canStore_frame ..).meets (by decide) hrec)
  · exact (raise_frame ..).meets (by decide) hrec

theorem execCanRxRelease_carries {c buf wcnt} : Carries P s (execCanRxRelease l c buf wcnt s) :=
  carries_onLinkedNow fun _ h => meets_ite ((put_frame ..).meets (by decide) ((put_frame ..).meets (by decide) h)) h

theorem execRateDetect_carries {c interval errorFree} : Carries P s (execRateDetect l c interval errorFree s) :=
  carries_onLinkedNow fun _ h => meets_ite ((detect_frame ..).meets (by decide) h) (meets_ite ((learnData_frame ..).meets (by decide) h) h)

theorem execRateDetectTimeout_carries {c} : Carries P s (execRateDetectTimeout l c t s) :=
  carries_onLinked fun _ h => meets_ite ((raise_frame ..).meets (by decide)
      ((setCan_frame ..).meets (by decide) ((put_frame ..).meets (by decide) h))) h

theorem execCanTxRequest_carries {c buf} : Carries P s (execCanTxRequest l c buf s) :=
  carries_onLinkedNow fun _ h => meets_ite ((put_frame ..).meets (by decide) ((setPending_frame ..).meets (by decide) h)) h

theorem execCanTxAbort_carries {c buf onBus} : Carries P s (execCanTxAbort l c buf onBus s) :=
  carries_onLinkedNow fun _ h => meets_ite h (meets_ite ((updCan_frame ..).meets (by decide) h) ((setPending_frame ..).meets (by decide) h))

theorem execCanTxDone_carries {c ts} : Carries P s (execCanTxDone l c ts s) := by
  refine carries_onLinkedNow fun L h => meets_ite ?_ h
  split
  · have hdone : ∀ {M : LaneSt} (e : Fld) (v : Nat) (b : Nat), M.meets (P l) →
        ((((M.setPending c b false).wr (Reg.CAN_BUF_TS_TS c b) ts.toNat).put (Reg.CAN_BUF_STAT_TX_DONE c b) true).wr e v).meets (P l) :=
      fun _ _ _ h => (wr_frame ..).meets (by decide) ((put_frame ..).meets (by decide)
          ((wr_frame ..).meets (by decide) ((setPending_frame ..).meets (by decide) h)))
    have hsent := fun f => (updCan_frame L c f).meets (by decide) h
    exact meets_ite ((put_frame ..).meets (by decide) (hdone _ _ _ (hsent _))) (hdone _ _ _ (hsent _))
  · exact h

theorem execSilenceRequest_carries {c target duration timeMs tag} :
    Carries P s (execSilenceRequest l c target duration timeMs tag t s) :=
  carries_onLinked fun _ h => meets_ite ((showSilence_frame ..).meets (by decide) ((setCan_frame ..).meets (by decide) h)) h

theorem execSilenceExpiry_carries {c} : Carries P s (execSilenceExpiry l c t s) := by
  refine carries_onLinked fun L h => ?_
  split
  · exact meets_ite ((showSilence_frame ..).meets (by decide) ((setCan_frame ..).meets (by decide) h)) h
  · exact h

theorem execBusDominant_carries {c us} : Carries P s (execBusDominant l c us t s) :=
  carries_onLinked fun _ h => meets_ite ((raise_frame ..).meets (by decide) ((put_frame ..).meets (by decide) h)) h

theorem execBusRecessiveResume_carries {c bits} : Carries P s (execBusRecessiveResume l c bits s) :=
  carries_onLinkedNow fun _ h => meets_ite ((put_frame ..).meets (by decide) h) h

theorem execCanBusError_carries {c kind tx} : Carries P s (execCanBusError l c kind tx t s) := by
  refine carries_onLinked fun L h => meets_ite h ?_
  have hlog : (((L.inc (Reg.CAN_VIOL_CNT c (errIx kind))).raise 0x0A04 (canDetail c)).logViol c (errIx kind)).meets (P l) :=
    (logViol_frame ..).meets (by decide) ((raise_frame ..).meets (by decide) ((inc_frame ..).meets (by decide) h))
  have hdrop := meets_ite (c := tx = true) ((dropAborted_frame _ c).meets (by decide) hlog) hlog
  have hcount := (countError_frame _ c kind tx).meets (by decide) hdrop
  exact meets_ite ((setCan_frame ..).meets (by decide) hdrop) (meets_ite
      ((raise_frame ..).meets (by decide) ((put_frame ..).meets (by decide) hcount)) hcount)

theorem execBusOff_carries {c} : Carries P s (execBusOff l c t s) :=
  carries_onLinked fun _ h => meets_ite ((raise_frame ..).meets (by decide) ((setCan_frame ..).meets (by decide) h)) h

theorem execRecover_carries {c v} : Carries P s (execRecover l c v s) :=
  carries_onLinkedNow fun _ h => meets_ite ((setCan_frame ..).meets (by decide) h) h

theorem execBusOffRecovery_carries {c occurrences} : Carries P s (execBusOffRecovery l c occurrences s) :=
  carries_onLinkedNow fun _ h => meets_ite ((setCan_frame ..).meets (by decide)
      ((put_frame ..).meets (by decide) ((wr_frame ..).meets (by decide) ((wr_frame ..).meets (by decide) h)))) h

/-! ### Stages and the state controller (10, 03) -/

theorem execStgRearm_carries {key mask} : Carries P s (execStgRearm l key mask s) :=
  carries_onLaneNow fun _ h => meets_ite (meets_ite ((startPulse_frame ..).meets (by decide) h) h) ((refuseWrite_frame ..).meets (by decide) h)

theorem execCrossStrapFrame_carries {g f mark p crcOk inTime} : Carries P s (execCrossStrapFrame g l f mark p crcOk inTime s) := by
  unfold execCrossStrapFrame
  split
  · exact carries_sameLanes rfl
  · exact carries_updStage

theorem execPwmPeriodStart_carries {g i} : Carries P s (execPwmPeriodStart g i s) :=
  have hfreeze : ∀ {Q} (L : LaneSt), L.meets Q → (if L.up then L.freeze (stageFreeze g) else L).meets Q :=
    fun _ h => meets_ite ((freeze_frame ..).meets (by decide) h) h
  carries_next fun hs => State.meets_lanes hs (hfreeze _) (hfreeze _) (hfreeze _)

theorem execSysReq_carries {key target} : Carries P s (execSysReq l key target s) :=
  carries_onLaneNow fun _ h => meets_ite ((request_frame ..).meets (by decide) h) ((refuseWrite_frame ..).meets (by decide) h)

theorem execHandshakeDelayExceeded_carries {block} : Carries P s (execHandshakeDelayExceeded l block t s) :=
  carries_onLane fun _ h => meets_ite ((frame_sys ..).meets (by decide) h) h

theorem execBiasSettled_carries : Carries P s (execBiasSettled l t s) := by
  refine carries_onLane fun L h => meets_ite h ?_
  have hput := (put_frame L Reg.SYS_BIAS_SETTLED true).meets (by decide) h
  refine (frame_sys ..).meets (by decide) ?_
  split
  · exact (wr_frame ..).meets (by decide) hput
  · exact hput

theorem execThermalClockDown_carries {tj} : Carries P s (execThermalClockDown l tj t s) :=
  carries_onLane fun L h =>
    have hhot : ((L.wrS Reg.SYS_BIAS_TJ (8 * tj)).put Reg.SYS_BIAS_TJ_HOT true).meets (P l) := (put_frame ..).meets (by decide)
        ((wrS_frame ..).meets (by decide) h)
    meets_ite (meets_ite ((raise_frame ..).meets (by decide) ((clockDown_frame ..).meets (by decide) hhot)) hhot) h

theorem execThermalClockUp_carries {tj} : Carries P s (execThermalClockUp l tj t s) :=
  carries_onLane fun L h =>
    have hcool : ((L.wrS Reg.SYS_BIAS_TJ (8 * tj)).put Reg.SYS_BIAS_TJ_HOT false).meets (P l) := (put_frame ..).meets (by decide)
        ((wrS_frame ..).meets (by decide) h)
    meets_ite (meets_ite ((clockUp_frame ..).meets (by decide) hcool) hcool) h

theorem execArmSequence_carries : Carries P s (execArmSequence l t s) :=
  carries_ite (carries_next fun hs => State.meets_of_lanes rfl (State.meets_updLane (l := l) (f := fun L => (L.tick t).beginArm) hs
    fun h => (beginArm_frame ..).meets (by decide) ((tick_frame ..).meets (by decide) h))) (carries_sameLanes rfl)

theorem execArmSelftestComplete_carries {fcOk chnOk posOk copyOk} :
    Carries P s (execArmSelftestComplete l fcOk chnOk posOk copyOk t s) := by
  refine carries_ite (carries_next fun hs => State.meets_of_lanes rfl (State.meets_updLane (l := l) hs fun h => ?_)) (carries_sameLanes rfl)
  have hcopies : (((s.lane l).tick t).armCopies l copyOk).meets (P l) := (armCopies_frame ..).meets (by decide) ((tick_frame ..).meets (by decide) h)
  exact meets_ite ((raise_frame ..).meets (by decide) ((stepFailed_frame ..).meets (by decide) hcopies))
      (meets_ite ((raise_frame ..).meets (by decide) ((stepFailed_frame ..).meets (by decide) hcopies))
    (meets_ite ((stepFailed_frame ..).meets (by decide) hcopies) ((armStep_frame ..).meets (by decide) hcopies)))

theorem execArmComplete_carries : Carries P s (execArmComplete l t s) :=
  carries_ite (carries_next (State.meets_stepTogether (fun _ _ h => (refreshClaims_frame ..).meets (by decide)
      ((settleSp_frame ..).meets (by decide) ((report_frame ..).meets (by decide)
    ((wr_frame ..).meets (by decide) ((enterArm_frame ..).meets (by decide) ((tick_frame ..).meets (by decide) h)))))) l)) (carries_sameLanes rfl)

theorem execTransitionTimeout_carries : Carries P s (execTransitionTimeout l t s) :=
  carries_ite (carries_next fun hs => State.meets_restAfter _ l (State.meets_stepTogether
    (fun _ _ h => (timeOut_frame ..).meets (by decide) ((tick_frame ..).meets (by decide) h)) l hs)) (carries_sameLanes rfl)

theorem execFoldEntry_carries {crcOk} : Carries P s (execFoldEntry l crcOk t s) :=
  carries_onLane fun _ h => meets_ite ((enterFold_frame ..).meets (by decide) h) h

/-! ### Position and speed (08) -/

theorem execStandstillTimeout_carries {src} : Carries P s (execStandstillTimeout l src t s) := by
  unfold execStandstillTimeout
  exact carries_onLane fun _ h => meets_ite ((stand_frame ..).meets (by decide) h) h

theorem execEncoderEdge_carries {a b ns} : Carries P s (execEncoderEdge l a b ns t s) :=
  carries_onLane fun L h =>
    have hpos := fun f => (updPos_frame L f).meets (by decide) h
    meets_ite h (meets_ite (hpos _) (meets_ite ((quadError_frame ..).meets (by decide) (hpos _))
        (meets_ite ((encCount_frame ..).meets (by decide) (hpos _)) (hpos _))))

theorem execIndexEdge_carries {a b rising ns} : Carries P s (execIndexEdge l a b rising ns t s) :=
  carries_onLane fun _ h => meets_ite ((index_frame ..).meets (by decide) h) h

theorem execReref_carries {v} : Carries P s (execReref l v s) := carries_onLaneNow fun _ h => meets_ite ((wr_frame ..).meets (by decide) h) h

theorem execEncoderSignalLoss_carries {mv us} : Carries P s (execEncoderSignalLoss l mv us t s) :=
  carries_onLane fun L h =>
    have hloss : ((L.put Reg.POS_ENC_STAT_SIGLOSS true).updPos fun p => { p with sigLoss := true }).meets (P l) :=
      (updPos_frame ..).meets (by decide) ((put_frame ..).meets (by decide) h)
    meets_ite (meets_ite ((raise_frame ..).meets (by decide) ((updPos_frame ..).meets (by decide) hloss)) hloss) h

theorem execEncoderSignalRestored_carries {ms} : Carries P s (execEncoderSignalRestored l ms t s) :=
  carries_onLane fun L h =>
    have hback : ((L.put Reg.POS_ENC_STAT_SIGLOSS false).updPos fun p => { p with sigLoss := false }).meets (P l) :=
      (updPos_frame ..).meets (by decide) ((put_frame ..).meets (by decide) h)
    meets_ite ((updPos_frame ..).meets (by decide) ((wr_frame ..).meets (by decide) hback)) hback

theorem execHallTransition_carries {pattern ns} : Carries P s (execHallTransition l pattern ns t s) :=
  carries_onLane fun _ h => meets_ite (meets_ite ((hallMove_frame ..).meets (by decide)
      ((hallReadOk_frame ..).meets (by decide) ((wr_frame ..).meets (by decide) h)))
    ((hallInvalid_frame ..).meets (by decide) ((wr_frame ..).meets (by decide) h))) h

theorem execTmrSample_carries {raw field} : Carries P s (execTmrSample l raw field t s) :=
  carries_onLane fun _ h => meets_ite h ((collectRev_frame ..).meets (by decide)
      ((noAngle_frame ..).meets (by decide) ((fuse_frame ..).meets (by decide) ((fieldCheck_frame ..).meets (by decide)
    ((updPos_frame ..).meets (by decide) ((wr_frame ..).meets (by decide) ((wr_frame ..).meets (by decide)
      (meets_ite ((updPos_frame ..).meets (by decide) ((bump_frame ..).meets (by decide) h))
          ((updPos_frame ..).meets (by decide) ((wr_frame ..).meets (by decide) h))))))))))

theorem execPosSnap_carries {v} : Carries P s (execPosSnap l v s) := carries_onLaneNow fun _ h => meets_ite ((updPos_frame ..).meets (by decide) h) h

theorem execExtensionSnapshot_carries : Carries P s (execExtensionSnapshot l s) :=
  carries_onLaneNow fun _ h => meets_ite ((freeze_frame ..).meets (by decide)
      (meets_for3 (fun _ _ h => (snapCounter_frame ..).meets (by decide) h) ((updPos_frame ..).meets (by decide) h))) h

theorem execCalRevolution_carries : Carries P s (execCalRevolution l s) := by
  refine carries_onLaneNow fun L h => ?_
  dsimp only
  split
  · exact meets_ite h ((updPos_frame ..).meets (by decide) (meets_ite ((takeRev_frame ..).meets (by decide) h) h))
  · exact h

theorem execCalApply_carries : Carries P s (execCalApply l s) := by
  refine carries_onLaneNow fun L h => ?_
  split
  · exact h
  · exact meets_ite ((updPos_frame ..).meets (by decide) ((wr_frame ..).meets (by decide)
      ((inc_frame ..).meets (by decide) ((setCoefs_frame ..).meets (by decide) h)))) h

theorem execSpFrame_carries {port f} : Carries P s (execSpFrame l port f t s) :=
  carries_onLane fun L h =>
    have htake : (if L.spUse port = 0 then L else L.spTake port f t).meets (P l) := meets_ite h ((spTake_frame ..).meets (by decide) h)
    meets_ite h (meets_ite ((setSp_frame ..).meets (by decide) htake) htake)

theorem execSpTimeout_carries {port periods} : Carries P s (execSpTimeout l port periods t s) :=
  carries_onLane fun _ h => meets_ite ((raise_frame ..).meets (by decide) ((spInvalid_frame ..).meets (by decide) h)) h

theorem execSpPsi5Phase_carries : Carries P s (execSpPsi5Phase l t s) :=
  carries_onLane fun _ h => meets_ite ((armStep_frame ..).meets (by decide) ((updPos_frame ..).meets (by decide) h)) h

theorem execSsiTransaction_carries {hi lo raw} : Carries P s (execSsiTransaction l hi lo raw s) := by
  rw [← show exec (.ssiTransaction l hi lo raw) s = execSsiTransaction l hi lo raw s from rfl, exec_ssiTransaction]
  exact carries_onLaneNow fun _ h => meets_ite h (meets_ite ((ssiGood_frame ..).meets (by decide) h) ((ssiMiss_frame _).meets (by decide) h))

/-! ### Commutation (09) -/

theorem execCommutationPeriod_carries {g bemf p} : Carries P s (execCommutationPeriod l g bemf p s) :=
  carries_onLaneNow fun _ h => (formFrame_frame ..).meets (by decide) ((comPeriod_frame ..).meets (by decide)
      ((updCom_frame ..).meets (by decide) ((skimNote_frame ..).meets (by decide) h)))

theorem execCommit_carries : Carries P s (execCommit l t s) := carries_onLane fun _ h => meets_ite ((post_frame ..).meets (by decide) h) h

theorem execCommandDeadline_carries : Carries P s (execCommandDeadline l s) :=
  carries_onLaneNow fun _ h => meets_ite h ((raise_frame ..).meets (by decide)
      ((frame_com ..).meets (by decide) ((put_frame ..).meets (by decide) ((inc_frame ..).meets (by decide) h))))

theorem execPeakLimitEngage_carries {g} : Carries P s (execPeakLimitEngage l g t s) :=
  carries_onLane fun _ h => meets_ite ((put_frame ..).meets (by decide) h) h

theorem execPeakLimitLift_carries {g} : Carries P s (execPeakLimitLift l g t s) :=
  carries_onLane fun _ h => meets_ite ((put_frame ..).meets (by decide) h) h

theorem execObserverFloat_carries {g} : Carries P s (execObserverFloat l g t s) := by
  unfold execObserverFloat
  refine carries_onLane fun L h => ?_
  dsimp only
  split
  · exact meets_ite ((refreshService_frame ..).meets (by decide) ((updCom_frame ..).meets (by decide)
      ((put_frame ..).meets (by decide) ((put_frame ..).meets (by decide) ((wr_frame ..).meets (by decide) h))))) h
  · exact h

theorem execBemfCaptureStart_carries {g} : Carries P s (execBemfCaptureStart l g t s) := by
  unfold execBemfCaptureStart
  refine carries_onLane fun L h => ?_
  split
  · exact meets_ite ((updCom_frame ..).meets (by decide) h) h
  · exact h

theorem execBemfZeroCrossing_carries {g consistent} : Carries P s (execBemfZeroCrossing l g consistent t s) := by
  unfold execBemfZeroCrossing
  exact carries_onLane fun _ h => meets_ite (meets_ite ((relock_frame ..).meets (by decide) h) ((updCom_frame ..).meets (by decide) h)) h

theorem execReacqTimeout_carries {g} : Carries P s (execReacqTimeout l g t s) := by
  unfold execReacqTimeout
  refine carries_onLane fun L h => ?_
  split
  · exact meets_ite ((refreshService_frame ..).meets (by decide) ((raise_frame ..).meets (by decide) ((updCom_frame ..).meets (by decide) h))) h
  · exact h

theorem execFlyingStartTimeout_carries {g} : Carries P s (execFlyingStartTimeout l g t s) := by
  unfold execFlyingStartTimeout
  refine carries_onLane fun L h => ?_
  split
  · exact meets_ite ((refreshService_frame ..).meets (by decide) ((raise_frame ..).meets (by decide)
      ((updCom_frame ..).meets (by decide) ((put_frame ..).meets (by decide) h)))) h
  · exact h

theorem execLearningRunStart_carries {n} : Carries P s (execLearningRunStart l n s) := by
  refine carries_onLaneNow fun L h => ?_
  dsimp only
  split
  · exact meets_ite (meets_ite ((frame_com ..).meets (by decide) ((put_frame ..).meets (by decide)
      ((wr_frame ..).meets (by decide) ((wr_frame ..).meets (by decide) h)))) ((endLearn_frame ..).meets (by decide) h)) h
  · exact h

theorem execLearningApply_carries : Carries P s (execLearningApply l s) := by
  refine carries_onLaneNow fun L h => ?_
  dsimp only
  split
  · exact meets_ite ((endLearn_frame ..).meets (by decide) ((inc_frame ..).meets (by decide) ((wr_frame ..).meets (by decide)
      ((applyStage_frame ..).meets (by decide) ((applyStage_frame ..).meets (by decide) ((applyStage_frame ..).meets (by decide) h)))))) h
  · exact h

theorem execGrazeSpectrum_carries : Carries P s (execGrazeSpectrum l s) :=
  carries_onLaneNow fun _ h => meets_ite ((freeze_frame ..).meets (by decide) ((frame_com ..).meets (by decide)
    (meets_foldl (fun _ _ h => (wr_frame ..).meets (by decide) ((wr_frame ..).meets (by decide) h)) _ h))) h

/-! ### Safe stop (11) -/

theorem execEnPulseEnd_carries {g mv} : Carries P s (execEnPulseEnd l g mv s) :=
  carries_ite (carries_ite (carries_next fun hs => State.meets_of_lanes rfl (State.meets_updLane hs fun h => (frame_safe ..).meets (by decide) h))
    (carries_updLane fun _ h => (frame_safe ..).meets (by decide) h)) (carries_sameLanes rfl)

theorem onLaneSto_carries {f : LaneSt → LaneSt} (hf : ∀ L : LaneSt, L.meets (P l) → (f L).meets (P l)) : Carries P s (onLaneSto l t s f) :=
  carries_next fun hs => State.meets_driveSto l (State.meets_updLane hs fun h => meets_ite (hf _ ((tick_frame ..).meets (by decide) h)) h)

theorem execStoLatchSet_carries {lowUs} : Carries P s (execStoLatchSet l lowUs t s) :=
  onLaneSto_carries fun _ h => meets_ite ((setLatch_frame ..).meets (by decide) ((stoLine_frame ..).meets (by decide) h))
      ((stoLine_frame ..).meets (by decide) h)

theorem execStoTestPulse_carries {lowUs} : Carries P s (execStoTestPulse l lowUs t s) :=
  onLaneSto_carries fun _ h => meets_ite ((setLatch_frame ..).meets (by decide) ((stoLine_frame ..).meets (by decide) h))
      ((inc_frame ..).meets (by decide) ((stoLine_frame ..).meets (by decide) h))

theorem execSafeReqSto_carries {key mask} : Carries P s (execSafeReqSto l key mask s) :=
  carries_onLaneNow fun _ h => meets_ite ((refreshSafe_frame ..).meets (by decide) ((updSafe_frame ..).meets (by decide) h))
      ((refuseWrite_frame ..).meets (by decide) h)

theorem execSafeReqSs1_carries {key mask} : Carries P s (execSafeReqSs1 l key mask s) :=
  carries_onLaneNow fun _ h => meets_ite ((askSs1_frame ..).meets (by decide) h) ((refuseWrite_frame ..).meets (by decide) h)

theorem execSafeReqClr_carries {key mask} : Carries P s (execSafeReqClr l key mask s) :=
  carries_onLaneNow fun _ h => meets_ite ((refreshSafe_frame ..).meets (by decide)
      ((dropSs1_frame ..).meets (by decide) ((updSafe_frame ..).meets (by decide) h)))
    ((refuseWrite_frame ..).meets (by decide) h)

theorem execSs1Standstill_carries : Carries P s (execSs1Standstill l t s) := by
  refine carries_onLane fun L h => (refreshSafe_frame ..).meets (by decide) (meets_for3 (fun i M h => ?_) h)
  split
  · exact meets_ite ((endAsSource_frame ..).meets (by decide) h) h
  · exact h

theorem execSs1Timeout_carries : Carries P s (execSs1Timeout l t s) :=
  carries_onLane fun _ h => meets_ite h ((refreshSafe_frame ..).meets (by decide) ((raise_frame ..).meets (by decide)
    (meets_for3 (fun _ _ h => meets_ite ((violate_frame ..).meets (by decide) h) h) h)))

theorem execSafeAckEdge_carries {lowUs} : Carries P s (execSafeAckEdge l lowUs t s) :=
  carries_onLane fun _ h => meets_ite ((updSafe_frame ..).meets (by decide) h) ((updSafe_frame ..).meets (by decide) h)

theorem execSafeAckQualified_carries {highUs stoHigh} : Carries P s (execSafeAckQualified l highUs stoHigh t s) :=
  onLaneSto_carries fun _ h => meets_ite ((resetEdge_frame ..).meets (by decide) h) h

theorem execResetPendingExpiry_carries : Carries P s (execResetPendingExpiry l t s) :=
  carries_onLane fun _ h => meets_ite ((put_frame ..).meets (by decide) h) h

/-! ### Agreement (06) -/

theorem execAgreementMessage_carries {relayed m len inTime} : Carries P s (execAgreementMessage l relayed m len inTime s) :=
  carries_updLane fun L h =>
    have hheard : (if relayed then L else L.updAgr fun g => { g with heard := setNth g.heard (laneIx m.lane) (some m) }).meets (P l) :=
      meets_ite h ((updAgr_frame ..).meets (by decide) h)
    meets_ite h (meets_ite ((raise_frame ..).meets (by decide) h) (meets_ite ((keepCopy_frame ..).meets (by decide) hheard)
        ((raise_frame ..).meets (by decide) hheard)))

theorem execSubround2Relay_carries : Carries P s (execSubround2Relay l s) :=
  carries_updLane fun _ h => meets_ite ((updAgr_frame ..).meets (by decide) h) h

theorem execCatchupFrame_carries {m} : Carries P s (execCatchupFrame l m s) :=
  carries_updLane fun _ h => meets_ite ((raiseIf_frame ..).meets (by decide) ((updAgr_frame ..).meets (by decide) h)) h

theorem execResyncPoint_carries {nr} : Carries P s (execResyncPoint l nr s) :=
  carries_onLaneNow fun _ h => meets_ite h (meets_ite ((copyPackages_frame ..).meets (by decide) h)
    (meets_ite (meets_ite ((updAgr_frame ..).meets (by decide) ((wr_frame ..).meets (by decide) h)) ((wr_frame ..).meets (by decide) h)) h))

theorem execResyncPackage_carries {tx p tagOk digestOk} : Carries P s (execResyncPackage l tx p tagOk digestOk t s) :=
  carries_onLane fun _ h => meets_ite (meets_ite ((resyncFail_frame ..).meets (by decide) h)
      (meets_ite ((resyncFail_frame ..).meets (by decide) ((raise_frame ..).meets (by decide) h))
    ((checkPackages_frame ..).meets (by decide) ((updAgr_frame ..).meets (by decide) h)))) h

theorem execResyncPackageTimeout_carries : Carries P s (execResyncPackageTimeout l t s) := by
  refine carries_onLane fun L h => ?_
  split
  · exact meets_ite ((resyncFail_frame ..).meets (by decide) h) h
  · exact h

theorem execCatchupComplete_carries : Carries P s (execCatchupComplete l t s) := by
  refine carries_onLane fun L h => ?_
  split
  · exact meets_ite (meets_ite ((resyncFail_frame ..).meets (by decide) h) ((updAgr_frame ..).meets (by decide) h)) h
  · exact h

theorem LaneSt.votesAgain_meets {L : LaneSt} (h : L.meets (P l)) : (L.votesAgain l t).meets (P l) :=
  (refreshClaims_frame ..).meets (by decide) ((driveFaultX_frame ..).meets (by decide)
      ((updAgr_frame ..).meets (by decide) ((put_frame ..).meets (by decide) ((wr_frame ..).meets (by decide)
    ((wr_frame ..).meets (by decide) ((tick_frame ..).meets (by decide) h))))))

theorem execShadowingEnd_carries : Carries P s (execShadowingEnd l t s) :=
  carries_ite (carries_next fun hs => State.meets_of_lanes rfl (State.meets_updLane (l := l) (f := fun L => L.votesAgain l t) hs votesAgain_meets))
    (carries_sameLanes rfl)

theorem execResyncRetry_carries : Carries P s (execResyncRetry l t s) := by
  refine carries_onLane fun L h => ?_
  split
  · exact meets_ite ((updAgr_frame ..).meets (by decide) h) h
  · exact h

theorem execVersionExchange_carries {other vmin vmax boot lc tagOk inForce done} :
    Carries P s (execVersionExchange l other vmin vmax boot lc tagOk inForce done s) := by
  refine carries_onLinkedNow fun L h => meets_ite h (meets_ite ((decideVersion_frame ..).meets (by decide)
      ((updAgr_frame ..).meets (by decide) h)) ?_)
  have hkey := (completeKey_frame L l other boot lc).meets (by decide) h
  cases inForce
  case none => exact (decideVersion_frame ..).meets (by decide) ((updAgr_frame ..).meets (by decide) hkey)
  case some => exact (takeVersion_frame ..).meets (by decide) ((updAgr_frame ..).meets (by decide) hkey)

theorem execVoteComplete_carries : Carries drainedCores s (execVoteComplete l s) := by
  unfold execVoteComplete
  dsimp only
  split
  · exact carries_sameLanes rfl
  · refine carries_ite (carries_next fun hs => State.meets_driveSto l (State.meets_foldl
      (fun _ _ hu => State.meets_updLane hu fun h => meets_ite ((raise_frame ..).meets (by decide) h) h) _ ?_)) (carries_sameLanes rfl)
    have hvote := fun m h => State.meets_restAfter (s.lane l) l (State.meets_updLane (l := l)
        (f := fun L => L.vote l m h) hs fun hw => drained_vote hw)
    exact State.meets_ite (State.meets_of_lanes rfl (hvote _ _)) (hvote _ _)

theorem execSlotStart_carries : Carries drainedCores s (execSlotStart l t s) := by
  refine carries_ite (carries_next fun hs => State.meets_of_lanes rfl (State.meets_driveSto l (State.meets_updLane hs fun h => ?_)))
    (carries_sameLanes rfl)
  have hmbx : ((((s.lane l).tick t).resume t).mbxSlot l).drained := drained_mbxSlot
      ((resume_frame ..).meets (by decide) ((tick_frame ..).meets (by decide) h))
  exact meets_ite ((refreshClaims_frame ..).meets (by decide) ((frame_com ..).meets (by decide)
      ((sendRound_frame ..).meets (by decide) (drained_slotEngines hmbx)))) hmbx

theorem execBasicCycleStart_carries : Carries drainedCores s (execBasicCycleStart l t s) :=
  carries_onLane fun _ h => meets_ite (drained_basicCycle h) h

end

section
open LaneSt
variable {P : Lane → CoreSt → Prop} {s : State} {l : Lane} {t : Nat}

/-! ### Time keepers and buffers (14, 15) -/

theorem execListenTimeout_carries : Carries P s (execListenTimeout l t s) :=
  carries_onLinked fun _ h => meets_ite (meets_ite ((coldStart_frame ..).meets (by decide) h)
      ((showKeeper_frame ..).meets (by decide) ((updKeeper_frame ..).meets (by decide) h))) h

theorem execLocalSyncSend_carries : Carries P s (execLocalSyncSend l t s) :=
  carries_onLinked fun _ h => meets_ite ((sendFlock_frame ..).meets (by decide) ((updKeeper_frame ..).meets (by decide) h)) h

theorem execLocalSyncFrame_carries {f rx} : Carries P s (execLocalSyncFrame l f rx s) :=
  carries_onLinkedNow fun _ h => meets_ite ((raise_frame ..).meets (by decide) h) (meets_ite h
    (meets_ite ((showKeeper_frame ..).meets (by decide) ((updKeeper_frame ..).meets (by decide) ((adoptTime_frame ..).meets (by decide) h)))
        (meets_ite ((updKeeper_frame ..).meets (by decide) h) h)))

theorem execStartupTimeout_carries : Carries P s (execStartupTimeout l t s) :=
  carries_onLinked fun _ h => meets_ite ((startupFault_frame ..).meets (by decide) ((updKeeper_frame ..).meets (by decide) h)) h

theorem execSyncFrame_carries {k f rx} : Carries P s (execSyncFrame k f rx s) := by
  unfold execSyncFrame
  cases k
  case lane =>
    exact carries_onLinkedNow fun _ h => meets_ite ((syncAt_frame ..).meets (by decide) ((authentic_frame ..).meets (by decide) h))
      ((authentic_frame ..).meets (by decide) h)
  case guardian => exact carries_onGdn

theorem execColdstartFrame_carries {k f rx} : Carries P s (execColdstartFrame k f rx s) := by
  unfold execColdstartFrame
  cases k
  case lane =>
    exact carries_onLinkedNow fun _ h => meets_ite ((coldAt_frame ..).meets (by decide) ((authentic_frame ..).meets (by decide) h))
      ((authentic_frame ..).meets (by decide) h)
  case guardian => exact carries_onGdn

theorem execOffsetCorrection_carries {k} : Carries P s (execOffsetCorrection k t s) := by
  unfold execOffsetCorrection
  cases k
  case lane => exact carries_onLinked fun _ h => meets_ite ((correctAt_frame ..).meets (by decide) h) h
  case guardian => exact carries_onGdn

theorem execRateCorrection_carries {k n} : Carries P s (execRateCorrection k n s) := by
  unfold execRateCorrection
  cases k
  case lane => exact carries_onLinkedNow fun _ h => meets_ite ((showKeeper_frame ..).meets (by decide) ((updKeeper_frame ..).meets (by decide) h)) h
  case guardian => exact carries_onGdn

theorem execPassiveTimeout_carries {k} : Carries P s (execPassiveTimeout k s) := by
  unfold execPassiveTimeout
  cases k
  case lane => exact carries_onLinkedNow fun _ h => meets_ite ((showKeeper_frame ..).meets (by decide) ((updKeeper_frame ..).meets (by decide) h)) h
  case guardian => exact carries_onGdn

theorem execStartupComplete_carries {k n} : Carries P s (execStartupComplete k n s) := by
  unfold execStartupComplete
  cases k
  case lane => exact carries_onLinkedNow fun _ h => (showKeeper_frame ..).meets (by decide) ((updKeeper_frame ..).meets (by decide) h)
  case guardian => exact carries_onGdn

theorem execCyclePoint_carries {p} : Carries P s (execCyclePoint l p t s) :=
  carries_onLinked fun _ h => meets_ite ((frame_sys ..).meets (by decide)
      ((updFlk_frame ..).meets (by decide) (meets_ite ((put_frame ..).meets (by decide) h) h))) h

theorem execCpiAck_carries {mask} : Carries P s (execCpiAck l mask s) :=
  carries_onLinkedNow fun _ h => (frame_sys ..).meets (by decide) ((updFlk_frame ..).meets (by decide) h)

theorem execTxPost_carries {buf len} : Carries P s (execTxPost l buf len t s) :=
  carries_onLinked fun _ h => meets_ite ((postTx_frame ..).meets (by decide) h) h

theorem execSkimEncode_carries {stream} : Carries P s (execSkimEncode l stream s) :=
  carries_onLinkedNow fun _ h => meets_ite ((updFlk_frame ..).meets (by decide) ((postTx_frame ..).meets (by decide) h)) h

theorem execFlockTransmit_carries {chY w m buf} : Carries P s (execFlockTransmit l chY w m buf t s) := by
  refine carries_onLinked fun L h => meets_ite h (meets_ite (meets_ite ((transmitSync_frame ..).meets (by decide) h) h) ?_)
  split
  · exact meets_ite ((transmit_frame ..).meets (by decide) h) h
  · exact h

theorem execFlockFrameReceive_carries {f} : Carries P s (execFlockFrameReceive l f s) :=
  carries_onLinkedNow fun _ h => meets_ite ((flockSegment_frame ..).meets (by decide)
      (meets_foldl (fun _ _ h => (takeFrame_frame ..).meets (by decide) h) _
    ((authentic_frame ..).meets (by decide) h))) ((authentic_frame ..).meets (by decide) h)

/-! ### Guardians (15) -/

variable {g : Gdn} {p : Port}

theorem execMuteStart_carries {n} : Carries P s (execMuteStart g n s) :=
  carries_withGdn fun _ hu => State.meets_showMuted g (State.meets_updGdn g _ hu)

theorem execMuteExpiry_carries {n} : Carries P s (execMuteExpiry g n s) :=
  carries_withGdn fun _ hu => State.meets_showMuted g (State.meets_updGdn g _ hu)

theorem execGuardianRingFrame_carries {f bytes} : Carries P s (execGuardianRingFrame g p f bytes t s) := by
  refine carries_withGdn fun u hu => ?_
  have htime := State.meets_updGdn g (fun G => { G with time := t }) hu
  exact State.meets_ite htime (State.meets_ite (State.meets_updGdn g _ htime) (State.meets_ite (State.meets_updGdn g _ htime)
    (State.meets_ite htime (State.meets_updGdn g _ htime))))

theorem execGuardianLocalFrame_carries {src f start stop} : Carries P s (execGuardianLocalFrame g src f start stop s) :=
  carries_withGdn fun _ hu => State.meets_localFrame g _ _ _ _ (State.meets_updGdn g _ hu)

theorem execWindowEndCutoff_carries {src w m} : Carries P s (execWindowEndCutoff g src w m t s) :=
  carries_withGdn fun _ hu => State.meets_ite (State.meets_truncated g _ _ (State.meets_updGdn g _ hu)) hu

theorem execPortBroken_carries {why} : Carries P s (execPortBroken g p why t s) :=
  carries_withGdn fun _ hu => State.meets_ite (State.meets_showPorts g (State.meets_raiseAll _ _ (State.meets_updGdn g _ hu))) hu

theorem execLoopEstablished_carries : Carries P s (execLoopEstablished g p t s) :=
  carries_withGdn fun _ hu => State.meets_showPorts g (State.meets_updGdn g _ hu)

theorem execLoopRelease_carries {n} : Carries P s (execLoopRelease g p n s) := by
  have hheals : ∀ {Q} (L : LaneSt), L.meets Q → (if L.up then L.inc Reg.FLK_RING_STAT_HEALS else L).meets Q :=
    fun _ h => meets_ite ((inc_frame ..).meets (by decide) h) h
  exact carries_withGdn fun _ hu => State.meets_ite
    (State.meets_lanes (State.meets_showPorts g (State.meets_updGdn g _ hu)) (hheals _) (hheals _) (hheals _)) hu

theorem execRingNegotiation_carries {rate} : Carries P s (execRingNegotiation g p rate t s) :=
  carries_withGdn fun _ hu => State.meets_ite (State.meets_showPorts g (State.meets_updGdn g _ hu))
    (State.meets_showPorts g (State.meets_raiseAll _ _ (State.meets_updGdn g _ hu)))

theorem execPdelayFrame_carries {f} : Carries P s (execPdelayFrame g p f t s) :=
  carries_withGdn fun _ hu => State.meets_showPorts g (State.meets_updGdn g _ hu)

theorem execArbWindowEnd_carries {w m} : Carries P s (execArbWindowEnd g w m s) := by
  have hdropped : ∀ {Q} (k : Nat) (L : LaneSt), L.meets Q → (if L.up then L.inc Reg.FLK_ARB_STAT_DROPPED k else L).meets Q :=
    fun _ _ h => meets_ite ((inc_frame ..).meets (by decide) h) h
  exact carries_withGdn fun _ hu => State.meets_lanes (State.meets_updGdn g _ hu) (hdropped _ _) (hdropped _ _) (hdropped _ _)

theorem execSatelliteHello_carries {n vmin vmax caps ms} : Carries P s (execSatelliteHello g n vmin vmax caps ms t s) :=
  carries_withGdn fun _ hu =>
    have hsent := fun F => State.meets_updGdn g F hu
    State.meets_ite hu (State.meets_ite (State.meets_updGdn g _ (hsent _)) (State.meets_ite (State.meets_updGdn g _ (hsent _))
      (State.meets_raiseAll _ _ (State.meets_updGdn g _ (hsent _)))))

theorem execSatelliteLost_carries {n} : Carries P s (execSatelliteLost g n s) :=
  carries_withGdn fun _ hu => State.meets_ite (State.meets_raiseAll _ _ (State.meets_updGdn g _ hu)) hu

theorem execGuardianStatusWord_carries {present selfOk gt} : Carries P s (execGuardianStatusWord l g present selfOk gt t s) := by
  unfold execGuardianStatusWord
  refine carries_onLane fun L h => ?_
  have hword := fun w => (setGword_frame _ g w).meets (by decide) ((takeWord_frame L g (s.gdn g) selfOk).meets (by decide) h)
  have hmissing := fun w => (setGword_frame _ g w).meets (by decide) ((wr_frame L (guardFld g 0 1) 0).meets (by decide) h)
  exact meets_ite (meets_ite ((guardFault_frame ..).meets (by decide) (hword _)) (hword _))
      (meets_ite ((guardFault_frame ..).meets (by decide) (hmissing _)) (hmissing _))

theorem execGuardianPowerLoss_carries : Carries P s (execGuardianPowerLoss g s) := by
  have hmask : ∀ {Q} (L : LaneSt), L.meets Q → (if L.up then L.openMask (14 + gdnIx g) else L).meets Q :=
    fun _ h => meets_ite ((openMask_frame ..).meets (by decide) h) h
  exact carries_ite (carries_next fun hs => State.meets_lanes (State.meets_updGdn g _ hs) (hmask _) (hmask _) (hmask _)) (carries_sameLanes rfl)

/-! ### The auxiliary axis (19) -/

theorem execMove_carries {key} : Carries P s (execMove l key s) :=
  carries_auxCmd fun _ h => meets_ite ((auxReject_frame ..).meets (by decide) h)
      (meets_ite ((auxReject_frame ..).meets (by decide) h) (meets_ite ((auxReject_frame ..).meets (by decide) h)
    (meets_ite h ((updAux_frame ..).meets (by decide) h))))

theorem execStop_carries {key} : Carries P s (execStop l key s) := carries_auxCmd fun _ h => (auxStop_frame ..).meets (by decide) h

theorem execHardstop_carries {key} : Carries P s (execHardstop l key s) :=
  carries_auxCmd fun _ h => meets_ite ((auxStop_frame ..).meets (by decide) h)
      ((updAux_frame ..).meets (by decide) ((auxStop_frame ..).meets (by decide) h))

theorem execHome_carries {key} : Carries P s (execHome l key t s) :=
  carries_auxCmd fun L h =>
    have hreject := fun code => (auxReject_frame L code).meets (by decide) h
    meets_ite (hreject _) (meets_ite (hreject _) (meets_ite (hreject _)
        (meets_ite (hreject _) (meets_ite h ((updAux_frame ..).meets (by decide) ((tick_frame ..).meets (by decide) h))))))

theorem execClear_carries {key condGone} : Carries P s (execClear l key condGone s) :=
  carries_auxCmd fun _ h => meets_ite ((wr_frame ..).meets (by decide)
      ((wr_frame ..).meets (by decide) ((wr_frame ..).meets (by decide) ((wr_frame ..).meets (by decide) h)))) ((wr_frame ..).meets (by decide) h)

theorem execCommitTbl_carries {key} : Carries P s (execCommitTbl l key s) :=
  carries_auxCmd fun _ h => meets_ite ((auxReject_frame ..).meets (by decide) h)
      (meets_ite ((raise_frame ..).meets (by decide) ((auxReject_frame ..).meets (by decide) h))
    (meets_ite ((raise_frame ..).meets (by decide) ((auxReject_frame ..).meets (by decide) h))
        ((fullStep_frame ..).meets (by decide) ((updAux_frame ..).meets (by decide) h))))

theorem execPlannerTick_carries {slice4} : Carries P s (execPlannerTick l slice4 t s) := by
  refine carries_onLane fun L h => meets_ite h (meets_ite ?_ ((chooseMode_frame ..).meets (by decide)
      ((plan_frame ..).meets (by decide) ((updAux_frame ..).meets (by decide)
    ((takeWish_frame ..).meets (by decide) h)))))
  split
  · exact (plan_frame ..).meets (by decide) h
  · exact (plan_frame ..).meets (by decide) h
  · exact h

theorem execMicrostep_carries : Carries P s (execMicrostep l t s) :=
  carries_onLane fun _ h => meets_ite ((afterStep_frame ..).meets (by decide)
      ((driveCoils_frame ..).meets (by decide) ((fullStep_frame ..).meets (by decide) ((wrS_frame ..).meets (by decide)
    ((noteStep_frame ..).meets (by decide) h))))) h

theorem execStandstillEntry_carries : Carries P s (execStandstillEntry l t s) := by
  refine carries_onLane fun L h => meets_ite ?_ h
  split
  · exact (coilsOff_frame ..).meets (by decide) h
  · exact (coilsOff_frame ..).meets (by decide) h
  · exact (holdCoils_frame ..).meets (by decide) h

theorem execLimitSwitchTransition_carries {sw high us} : Carries P s (execLimitSwitchTransition l sw high us t s) :=
  carries_onLane fun L h =>
    have hcount := fun f b => (countLimit_frame _ sw t).meets (by decide) ((put_frame L f b).meets (by decide) h)
    meets_ite (meets_ite (hcount _ _) (meets_ite ((homeTrip_frame ..).meets (by decide) (hcount _ _))
        ((limitTrip_frame ..).meets (by decide) (hcount _ _)))) h

theorem execHomingStopComplete_carries : Carries P s (execHomingStopComplete l t s) := by
  refine carries_onLane fun L h => meets_ite h ?_
  split
  · exact (updAux_frame ..).meets (by decide) h
  · exact meets_ite h (meets_ite ((homeFail_frame ..).meets (by decide) h) ((updAux_frame ..).meets (by decide) h))
  · exact (rest_frame ..).meets (by decide) ((updAux_frame ..).meets (by decide)
      ((wr_frame ..).meets (by decide) ((wrS_frame ..).meets (by decide) h)))
  · exact h

theorem execHomingTimeout_carries : Carries P s (execHomingTimeout l t s) :=
  carries_onLane fun _ h => meets_ite ((homeFail_frame ..).meets (by decide) h) h

theorem execCoilFault_carries {coil kind} : Carries P s (execCoilFault l coil kind t s) :=
  carries_onLane fun _ h => meets_ite ((wr_frame ..).meets (by decide)
      ((coilsOff_frame ..).meets (by decide) ((updAux_frame ..).meets (by decide) ((setVel_frame ..).meets (by decide)
    ((unref_frame ..).meets (by decide) ((raise_frame ..).meets (by decide) ((put_frame ..).meets (by decide) h))))))) h

/-! ### Faults (12) -/

theorem execFaultRaise_carries {id detail} : Carries P s (execFaultRaise l id detail t s) :=
  carries_onLane fun _ h => (raise_frame ..).meets (by decide) h

theorem execLineFault_carries {id ns} : Carries P s (execLineFault l id ns t s) :=
  carries_onLane fun _ h => meets_ite ((lineFailed_frame ..).meets (by decide) h) h

theorem execSiblingLineChange_carries {other pattern} : Carries P s (execSiblingLineChange l other pattern t s) :=
  carries_onLane fun _ h => meets_ite h ((siblingLine_frame ..).meets (by decide) h)

theorem execLaneSilent_carries : Carries P s (execLaneSilent l t s) := carries_onLane fun _ h => meets_ite ((goSilent_frame ..).meets (by decide) h) h

theorem execAcknowledgeClass_carries {key classes} : Carries P s (execAcknowledgeClass l key classes s) :=
  carries_onLaneNow fun _ h => meets_ite ((ackClasses_frame ..).meets (by decide) h) ((refuseWrite_frame ..).meets (by decide) h)

theorem execRearm_carries {key} : Carries P s (execRearm l key s) :=
  carries_onLaneNow fun _ h => meets_ite ((rearmFirst_frame ..).meets (by decide) h) ((refuseWrite_frame ..).meets (by decide) h)

theorem execFaultRecordWritten_carries : Carries P s (execFaultRecordWritten l t s) :=
  carries_onLane fun _ h => (writeRecord_frame ..).meets (by decide) h

theorem execMaskClose_carries : Carries P s (execMaskClose l t s) := carries_onLane fun _ h => (closeMasks_frame ..).meets (by decide) h

theorem execFaultInject_carries {id detail} : Carries P s (execFaultInject l id detail t s) :=
  carries_onLane fun _ h => meets_ite ((raise_frame ..).meets (by decide) h) ((raise_frame ..).meets (by decide) h)

theorem execThermalRejoin_carries {tj ms} : Carries P s (execThermalRejoin l tj ms t s) :=
  carries_onLane fun _ h => meets_ite ((enterResync_frame ..).meets (by decide) h) h

theorem execLaneThermalTrip_carries {tj ms} : Carries P s (execLaneThermalTrip l tj ms t s) :=
  carries_onLane fun _ h => (raiseIf_frame ..).meets (by decide) h

theorem execStageThermalTrip_carries {g} : Carries P s (execStageThermalTrip l g t s) :=
  carries_onLane fun _ h => meets_ite ((removeStage_frame ..).meets (by decide) ((raise_frame ..).meets (by decide) h)) h

theorem execWindingThermalTrip_carries {g} : Carries P s (execWindingThermalTrip l g t s) :=
  carries_onLane fun _ h => meets_ite ((removeStage_frame ..).meets (by decide) ((raise_frame ..).meets (by decide) h)) h

theorem execClockFault_carries {kind permille windows} : Carries P s (execClockFault l kind permille windows t s) :=
  carries_onLane fun _ h => meets_ite ((clockFault_frame ..).meets (by decide) h) h

/-! ### Supplies (02) -/

theorem execSupplyLoss_carries {mv} : Carries P s (execSupplyLoss l mv t s) :=
  carries_ite (carries_next (State.meets_loseSupply l _ t)) (carries_sameLanes rfl)

theorem execGroundLoss_carries {mv us} : Carries P s (execGroundLoss l mv us t s) :=
  carries_ite (carries_next fun hs => State.meets_updLane (State.meets_ite (State.meets_updLane hs fun h => (raise_frame ..).meets (by decide)
    ((tick_frame ..).meets (by decide) h)) (State.meets_loseSupply l _ t hs)) fun h => (updPwr_frame ..).meets (by decide) h) (carries_sameLanes rfl)

theorem execSupplyLossTimeout_carries : Carries P s (execSupplyLossTimeout l t s) :=
  carries_onLane fun _ h => meets_ite ((goSilent_frame ..).meets (by decide) ((writeRecord_frame ..).meets (by decide) h)) h

theorem execSupplyReturn_carries {mv gnd us} : Carries drainedCores s (execSupplyReturn l mv gnd us t s) := by
  have hunpower : s.meets drainedCores → (s.updLane l fun L => (L.tick t).unpower).meets drainedCores := fun hs =>
    State.meets_updLane hs fun _ => drained_unpower
  have hregain : s.meets drainedCores → (s.updLane l fun L => (L.tick t).regainSupply l mv).meets drainedCores := fun hs =>
    State.meets_updLane hs fun h => (regainSupply_frame ..).meets (by decide) ((tick_frame ..).meets (by decide) h)
  have hpark : s.meets drainedCores → (s.updLane l fun L => L.updPwr fun p =>
      { p with lost := false, gndLost := false, supMv := mv }).meets drainedCores :=
    fun hs => State.meets_updLane hs fun h => (updPwr_frame ..).meets (by decide) h
  exact carries_ite (carries_ite (carries_next fun hs => State.meets_of_lanes rfl (State.meets_driveSto l (hunpower hs)))
    (carries_ite (carries_next fun hs => State.meets_of_lanes rfl (hregain hs))
      (carries_ite (carries_next fun hs => State.meets_of_lanes rfl (hpark hs)) (carries_sameLanes rfl)))) (carries_sameLanes rfl)

theorem execParkSupplyLoss_carries {mv} : Carries P s (execParkSupplyLoss l mv t s) :=
  carries_updLane fun _ h => meets_ite ((updPwr_frame ..).meets (by decide) ((tick_frame ..).meets (by decide) h)) h

theorem execHoldupExhausted_carries : Carries drainedCores s (execHoldupExhausted l t s) :=
  carries_ite (carries_next fun hs => State.meets_of_lanes rfl (State.meets_driveSto l (State.meets_updLane (l := l) (f := unpower) hs
    fun _ => drained_unpower))) (carries_sameLanes rfl)

theorem execUndervoltageWarning_carries {mv us} : Carries P s (execUndervoltageWarning l mv us t s) :=
  carries_onLane fun _ h => (raiseIf_frame ..).meets (by decide) h

theorem execSupplyOvervoltage_carries {mv} : Carries P s (execSupplyOvervoltage l mv t s) := by
  have hover : s.meets P → (s.updLane l fun L => ((L.tick t).raise 0x0504).updPwr fun p => { p with overvolt := true, supMv := mv }).meets P :=
    fun hs => State.meets_updLane hs fun h => (updPwr_frame ..).meets (by decide)
        ((raise_frame ..).meets (by decide) ((tick_frame ..).meets (by decide) h))
  exact carries_ite (carries_next fun hs => State.meets_of_lanes rfl (hover hs)) (carries_sameLanes rfl)

theorem execOvervoltageRecovery_carries {mv us} : Carries P s (execOvervoltageRecovery l mv us t s) := by
  have hback : s.meets P → (s.updLane l fun L => ((L.tick t).updPwr fun p => { p with overvolt := false, supMv := mv }).rearmOwn l).meets P :=
    fun hs => State.meets_updLane hs fun h => (rearmOwn_frame ..).meets (by decide)
        ((updPwr_frame ..).meets (by decide) ((tick_frame ..).meets (by decide) h))
  exact carries_ite (carries_next fun hs => State.meets_of_lanes rfl (hback hs)) (carries_sameLanes rfl)

theorem execSensorSupplyFault_carries {mv us} : Carries P s (execSensorSupplyFault l mv us t s) :=
  carries_onLane fun _ h => meets_ite ((dropSensors_frame ..).meets (by decide) ((raise_frame ..).meets (by decide) h)) h

end

section
open LaneSt
variable {P : Lane → CoreSt → Prop} {s : State} {l : Lane} {r : Req} {t : Nat}

/-! ### Mailboxes (17) -/

theorem execConfirmTimeout_carries : Carries P s (execConfirmTimeout l t s) :=
  carries_onLane fun _ h => (showPending_frame ..).meets (by decide) ((updMbx_frame ..).meets (by decide)
    (meets_foldl (fun _ _ h => meets_ite ((inc_frame ..).meets (by decide) ((refuse_frame ..).meets (by decide) h)) h) _
        ((updMbx_frame ..).meets (by decide) h)))

theorem execSegmentTimeout_carries {key} : Carries P s (execSegmentTimeout l key t s) :=
  carries_onLane fun _ h => meets_ite ((violation_frame ..).meets (by decide) ((updMbx_frame ..).meets (by decide) h)) h

theorem execQuarantineEnd_carries {key} : Carries P s (execQuarantineEnd l key t s) :=
  carries_onLane fun _ h => (wr_frame ..).meets (by decide) ((updMbx_frame ..).meets (by decide) h)

theorem execUnknownRequest_carries {code body} : Carries P s (execUnknownRequest l r code body t s) :=
  carries_onLane fun _ h => meets_ite h (meets_receive (fun _ h => h) l _ r _ h)

theorem execMbxReplyRelease_carries {v} : Carries P s (execMbxReplyRelease l v s) :=
  carries_onLaneNow fun _ h => meets_ite ((wr_frame ..).meets (by decide) ((put_frame ..).meets (by decide) h)) h

theorem execGrazeTap_carries {decimation duration} : Carries P s (execGrazeTap l r decimation duration t s) :=
  carries_laneCmd fun _ h => (startTap_frame ..).meets (by decide) h

theorem execSkimTap_carries {stream decimation duration} : Carries P s (execSkimTap l r stream decimation duration t s) :=
  carries_laneCmd fun _ h => (startTap_frame ..).meets (by decide) h

theorem execTapStop_carries {mbox} : Carries P s (execTapStop l r mbox t s) :=
  carries_laneCmd fun _ h => meets_ite ((finish_frame ..).meets (by decide) ((dropTap_frame ..).meets (by decide) h))
      ((refuse_frame ..).meets (by decide) h)

theorem execTapDelivery_carries {mbox canSend} : Carries P s (execTapDelivery l mbox canSend s) := by
  refine carries_onLaneNow fun L h => ?_
  have hclear := fun f => (updMbx_frame L f).meets (by decide) h
  dsimp only
  split
  · exact meets_ite ((updMbx_frame ..).meets (by decide) (meets_ite ((sendReply_frame ..).meets (by decide) (hclear _)) (hclear _))) (hclear _)
  · exact hclear _

theorem execTapEnd_carries {mbox} : Carries P s (execTapEnd l mbox t s) :=
  carries_onLane fun _ h => meets_ite ((dropTap_frame ..).meets (by decide) ((updMbx_frame ..).meets (by decide) h))
      ((updMbx_frame ..).meets (by decide) h)

theorem execCrook_carries {mailbox aux} : Carries P s (execCrook l r mailbox aux t s) :=
  carries_onLane fun L h =>
    have hclear := fun f => (updMbx_frame L f).meets (by decide) h
    meets_ite (hclear _) (meets_ite ((crookStart_frame ..).meets (by decide) (hclear _)) (meets_ite ((sendNak_frame ..).meets (by decide) (hclear _))
      ((turnAway_frame ..).meets (by decide) (hclear _))))

theorem execCrookForced_carries : Carries drainedCores s (execCrookForced l t s) := by
  refine carries_onLane fun L h => ?_
  have hgoes : L.crookGoes.drained := (crookGoes_frame ..).meets (by decide) h
  dsimp only
  split
  · exact hgoes
  · have hmbx := fun (c : Bool) f => meets_ite (c := c = true) ((crookDone_frame _ f).meets (by decide) (drained_resetShepherd hgoes)) hgoes
    exact meets_ite ((crookDone_frame ..).meets (by decide) ((auxAbort_frame ..).meets (by decide) (hmbx _ _))) (hmbx _ _)

theorem execCrookReply_carries : Carries P s (execCrookReply l t s) := by
  refine carries_onLane fun L h => ?_
  have hclear := fun f => (updMbx_frame L f).meets (by decide) h
  dsimp only
  split
  · exact hclear _
  · exact meets_ite ((updMbx_frame ..).meets (by decide) ((sendReply_frame ..).meets (by decide) ((wr_frame ..).meets (by decide) (hclear _))))
      (hclear _)

theorem execShepherdRestart_carries : Carries P s (execShepherdRestart l s) :=
  carries_onLaneNow fun _ h => meets_ite ((put_frame ..).meets (by decide) h) h

theorem execHello_carries {a} : Carries P s (execHello l r a t s) := by
  refine carries_onLane fun L h => meets_ite ((updMbx_frame ..).meets (by decide) h) ?_
  have hrate := fun f key => (noteRate_frame _ key).meets (by decide) ((updMbx_frame L f).meets (by decide) h)
  dsimp only
  split
  · exact (turnAway_frame ..).meets (by decide) (hrate _ _)
  · refine meets_ite ((turnAway_frame ..).meets (by decide) (hrate _ _)) (meets_ite ((turnAway_frame ..).meets (by decide) (hrate _ _)) ?_)
    split
    · exact (sendReply_frame ..).meets (by decide) (hrate _ _)
    · exact hrate _ _
    · exact (takeHello_frame ..).meets (by decide) (hrate _ _)

theorem execSessionTimeout_carries : Carries P s (execSessionTimeout l t s) :=
  carries_onLane fun _ h => meets_ite ((endSession_frame ..).meets (by decide) ((updMbx_frame ..).meets (by decide) h)) h

theorem execGetId_carries : Carries P s (execGetId l r t s) :=
  carries_ite (carries_onLane fun _ h => meets_ite ((finish_frame ..).meets (by decide) ((updMbx_frame ..).meets (by decide) h)) h) carries_readCmd

theorem execAttest_carries {nonce mask} : Carries P s (execAttest l r nonce mask t s) :=
  carries_laneCmd fun _ h => meets_ite ((finish_frame ..).meets (by decide) h) ((refuse_frame ..).meets (by decide) h)

theorem execGetKey_carries : Carries P s (execGetKey l r t s) :=
  carries_laneCmd fun _ h => meets_ite ((finish_frame ..).meets (by decide) h) ((refuse_frame ..).meets (by decide) h)

theorem execImgBegin_carries {length} : Carries P s (execImgBegin l r length t s) :=
  carries_laneCmd fun _ h => meets_ite ((refuse_frame ..).meets (by decide) h)
      ((finish_frame ..).meets (by decide) ((updMbx_frame ..).meets (by decide) ((setSlot_frame ..).meets (by decide)
    ((eraseSlotRec_frame ..).meets (by decide) ((eraseMem_frame ..).meets (by decide) h)))))

theorem execImgWrite_carries {offset data} : Carries P s (execImgWrite l r offset data t s) := by
  refine carries_laneCmd fun L h => ?_
  split
  · exact meets_ite ((refuse_frame ..).meets (by decide) h) ((finish_frame ..).meets (by decide)
      ((setSlot_frame ..).meets (by decide) ((setBytes_frame ..).meets (by decide) h)))
  · exact (refuse_frame ..).meets (by decide) h

theorem execImgVerify_carries {f} : Carries P s (execImgVerify l r f t s) := by
  refine carries_laneCmd fun L h => ?_
  dsimp only
  split
  · exact (finish_frame ..).meets (by decide) ((raiseIf_frame ..).meets (by decide) ((setSlot_frame ..).meets (by decide) h))
  · exact (refuse_frame ..).meets (by decide) h

theorem execCfgRead_carries {slot offset length} : Carries P s (execCfgRead l r slot offset length t s) :=
  carries_laneCmd fun _ h => meets_ite ((refuse_frame ..).meets (by decide) h) ((readRange_frame ..).meets (by decide) h)

theorem execCalRead_carries {offset length} : Carries P s (execCalRead l r offset length t s) :=
  carries_laneCmd fun _ h => (readRange_frame ..).meets (by decide) h

theorem execRecRead_carries {index} : Carries P s (execRecRead l r index t s) :=
  carries_laneCmd fun _ h => meets_ite ((refuse_frame ..).meets (by decide) h) ((finish_frame ..).meets (by decide) h)

theorem execTallyRead_carries {first count} : Carries P s (execTallyRead l r first count t s) :=
  carries_laneCmd fun _ h => meets_ite ((refuse_frame ..).meets (by decide) h)
      (meets_ite ((refuse_frame ..).meets (by decide) h) ((finish_frame ..).meets (by decide) h))

theorem execLogRead_carries {offset length} : Carries P s (execLogRead l r offset length t s) :=
  carries_laneCmd fun _ h => (readRange_frame ..).meets (by decide) h

theorem execFwBegin_carries {length svn} : Carries P s (execFwBegin l r length svn t s) :=
  carries_laneCmd fun _ h => meets_ite ((refuse_frame ..).meets (by decide) h)
      ((finish_frame ..).meets (by decide) ((updMbx_frame ..).meets (by decide) ((setBank_frame ..).meets (by decide) h)))

theorem execFwWrite_carries {offset data} : Carries P s (execFwWrite l r offset data t s) := by
  refine carries_laneCmd fun L h => ?_
  split
  · exact meets_ite ((refuse_frame ..).meets (by decide) h) ((finish_frame ..).meets (by decide)
      ((setBank_frame ..).meets (by decide) ((setBytes_frame ..).meets (by decide) h)))
  · exact (refuse_frame ..).meets (by decide) h

theorem execFwVerify_carries {f} : Carries P s (execFwVerify l r f t s) := by
  refine carries_laneCmd fun L h => ?_
  dsimp only
  split
  · exact (finish_frame ..).meets (by decide) ((setBank_frame ..).meets (by decide) h)
  · exact (refuse_frame ..).meets (by decide) h

/-! ### Security (18) -/

theorem execPassword_carries {pw} : Carries P s (execPassword l r pw t s) :=
  carries_laneCmd fun _ h => meets_ite ((refuse_frame ..).meets (by decide) h)
      (meets_ite ((refuse_frame ..).meets (by decide) h) ((tryPassword_frame ..).meets (by decide) h))

theorem execUnlockReq_carries {level} : Carries P s (execUnlockReq l r level t s) :=
  carries_laneCmd fun _ h => meets_ite ((refuse_frame ..).meets (by decide) h)
      (meets_ite ((refuse_frame ..).meets (by decide) h) ((issueChallenge_frame ..).meets (by decide) h))

theorem execUnlockResp_carries {level sig sigOk} : Carries drainedCores s (execUnlockResp l r level sig sigOk t s) :=
  carries_laneCmd fun _ h => meets_ite ((unlocked_frame ..).meets (by decide) h) (drained_unlockFailed h)

theorem execChallengeExpiry_carries : Carries P s (execChallengeExpiry l t s) := by
  refine carries_onLane fun L h => ?_
  split
  · exact meets_ite ((put_frame ..).meets (by decide) h) h
  · exact h

theorem execDebugSessionOpen_carries : Carries P s (execDebugSessionOpen l s) :=
  carries_onLaneNow fun _ h => meets_ite ((put_frame ..).meets (by decide)
      ((wr_frame ..).meets (by decide) ((wr_frame ..).meets (by decide) ((put_frame ..).meets (by decide) h)))) h

theorem execDebugSessionClose_carries : Carries P s (execDebugSessionClose l s) :=
  carries_onLaneNow fun _ h => (closeDebug_frame ..).meets (by decide) h

theorem execFactoryTestToken_carries {sigOk} : Carries P s (execFactoryTestToken l sigOk s) :=
  carries_onLaneNow fun _ h => meets_ite ((put_frame ..).meets (by decide) h) h

theorem execProvision_carries {tokenOk pk msk} : Carries P s (execProvision l tokenOk pk msk s) :=
  carries_onLaneNow fun _ h => meets_ite ((put_frame ..).meets (by decide)
      ((put_frame ..).meets (by decide) ((put_frame ..).meets (by decide) ((updKeys_frame ..).meets (by decide)
    ((put_frame ..).meets (by decide) ((blow_frame ..).meets (by decide) h)))))) h

theorem execKeyLoad_carries {a} : Carries P s (execKeyLoad l r a t s) :=
  carries_laneCmd fun _ h => meets_ite ((refuse_frame ..).meets (by decide) h)
      (meets_ite ((refuse_frame ..).meets (by decide) h) ((storeKey_frame ..).meets (by decide) ((finish_frame ..).meets (by decide) h)))

theorem execRindSource_carries {bit active ns} : Carries drainedCores s (execRindSource l bit active ns t s) :=
  carries_onAwake fun L h =>
    have hshown : (L.put (Reg.SEC_RIND_STAT_SRC.bit bit) active).drained := (put_frame ..).meets (by decide) h
    meets_ite h (meets_ite hshown (meets_ite (drained_glitch hshown) (drained_latchRind hshown)))

theorem execGlitchDetect_carries {bit ns} : Carries drainedCores s (execGlitchDetect l bit ns t s) :=
  carries_onAwake fun _ h => meets_ite (drained_glitch h) h

/-! ### States, sleep and start (03, 04) -/

theorem LaneSt.drained_executeStep {L : LaneSt} (k : Lane) (h : L.drained) : (L.executeStep k).drained := by
  refine meets_ite ?_ h
  split
  · exact drained_toPark
  · exact (toStandby_frame ..).meets (by decide) ((done_frame ..).meets (by decide) h)
  · exact (refreshClaims_frame ..).meets (by decide) ((done_frame ..).meets (by decide) ((enterArm_frame ..).meets (by decide) h))
  · exact (refreshClaims_frame ..).meets (by decide) ((done_frame ..).meets (by decide) ((wr_frame ..).meets (by decide) h))
  · exact h

theorem execTransitionExecute_carries : Carries drainedCores s (execTransitionExecute l t s) := by
  refine carries_ite (carries_next fun hs => ?_) (carries_sameLanes rfl)
  have hstep := State.meets_stepTogether (f := fun k L => (L.tick t).executeStep k)
      (fun k _ h => drained_executeStep k ((tick_frame ..).meets (by decide) h)) l hs
  have hpark := State.meets_foldl (f := fun x k => if (s.lane k).up && (x.lane k).st == stPark then x.parked k else x)
    (fun _ k hu => State.meets_ite (State.meets_parked k hu) hu) [Lane.A, .B, .C] hstep
  exact State.meets_ite hpark hpark

theorem execSleepSignal_carries {g} : Carries drainedCores s (execSleepSignal l g s) :=
  carries_ite (carries_next fun hs => State.meets_parked l (State.meets_updLane hs fun _ => drained_toPark))
    (carries_sameLanes rfl)

theorem execWakeSource_carries {src mv us pattern} : Carries P s (execWakeSource l src mv us pattern t s) :=
  carries_ite (carries_next (State.meets_wakeLane l _ t)) (carries_sameLanes rfl)

theorem execSiblingWake_carries {g} : Carries P s (execSiblingWake l g t s) :=
  carries_ite (carries_next (State.meets_wakeLane l _ t)) (carries_sameLanes rfl)

theorem execRingWake_carries {g p} : Carries P s (execRingWake g p t s) := by
  have hone : ∀ (k : Lane) (u : State), u.meets P →
      (if (u.lane k).sleeps && (u.lane k).wakeable 5 t then u.wakeLane k 5 t else u).meets P :=
    fun k _ hu => State.meets_ite (State.meets_wakeLane k 5 t hu) hu
  exact carries_ite (carries_next fun hs => hone _ _ (hone _ _ hs)) (carries_sameLanes rfl)

theorem execRegulatorReady_carries {xtalOk crcOk} : Carries P s (execRegulatorReady l xtalOk crcOk t s) :=
  carries_updLane fun L h =>
    have hclocks := fun (f : PwrSt → PwrSt) (b c d : Bool) => (put_frame _ Reg.SYS_CLK_STAT_TPLL_LOCK d).meets (by decide)
      ((put_frame _ Reg.SYS_CLK_STAT_RC_FALLBACK c).meets (by decide) ((put_frame _ Reg.SYS_CLK_STAT_XTAL_OK b).meets (by decide)
          ((updPwr_frame _ f).meets (by decide)
        ((tick_frame L t).meets (by decide) h))))
    meets_ite (meets_ite ((restoreDomains_frame ..).meets (by decide) ((put_frame ..).meets (by decide) (hclocks _ _ _ _)))
        ((put_frame ..).meets (by decide) (hclocks _ _ _ _))) h

theorem execRegulatorRetry_carries : Carries P s (execRegulatorRetry l t s) :=
  carries_updLane fun L h =>
    have htick : (L.tick t).meets (P l) := (tick_frame ..).meets (by decide) h
    meets_ite (meets_ite ((frame_sys ..).meets (by decide) ((wr_frame ..).meets (by decide) htick))
      ((frame_fc_sys ..).meets (by decide) ((updPwr_frame ..).meets (by decide) (meets_ite ((wr_frame ..).meets (by decide) htick) htick)))) h

theorem execCrystalFallback_carries {crcOk} : Carries P s (execCrystalFallback l crcOk t s) :=
  carries_updLane fun _ h => meets_ite ((restoreDomains_frame ..).meets (by decide)
      ((fallBack_frame ..).meets (by decide) ((tick_frame ..).meets (by decide) h))) h

theorem execWakeComplete_carries {f} : Carries drainedCores s (execWakeComplete l f t s) :=
  carries_ite (carries_next fun hs => State.meets_started l (State.meets_updLane hs fun h => drained_startLane ((tick_frame ..).meets (by decide) h)))
    (carries_sameLanes rfl)

theorem execColdBoot_carries {mv f} : Carries drainedCores s (execColdBoot l mv f t s) := by
  have hboot : s.meets drainedCores → (s.updLane l fun L => ((L.tick t).updPwr fun p =>
      { p with lost := false, gndLost := false, supMv := mv }).coldBootLane l f (s.othersVote l)).meets drainedCores :=
    fun hs => State.meets_updLane hs fun h => drained_coldBootLane ((updPwr_frame ..).meets (by decide) ((tick_frame ..).meets (by decide) h))
  exact carries_ite (carries_next fun hs => State.meets_started l (State.meets_of_lanes rfl (hboot hs))) (carries_sameLanes rfl)

theorem execRomRecoveryLoad_carries {f bankB} : Carries drainedCores s (execRomRecoveryLoad l f bankB s) :=
  carries_next fun hs => State.meets_of_lanes rfl (State.meets_driveSto l (State.meets_updLane hs fun h =>
    meets_ite (drained_restart) h))

/-! ### Measurement and Churn (07, 13) -/

theorem execStatusFrame_carries {g valid} : Carries P s (execStatusFrame l g valid s) :=
  carries_ite (carries_ite (carries_next fun hs => State.meets_of_lanes rfl (State.meets_updLane (l := l)
    (f := fun L => L.takeStatus l (stgIx g) (s.stage g)) hs fun h => (takeStatus_frame ..).meets (by decide) h))
    (carries_updLane fun _ h => (missStatus_frame ..).meets (by decide) h)) (carries_sameLanes rfl)

theorem execOpenWireTestComplete_carries {m} : Carries P s (execOpenWireTestComplete l m t s) :=
  carries_onLane fun _ h =>
    have htested := meets_for3 (f := fun i L => if L.assigned i then L.armTestStage i (nth m i) else L)
      (fun _ _ h => meets_ite ((armTestStage_frame ..).meets (by decide) h) h) h
    meets_ite (meets_ite ((stepFailed_frame ..).meets (by decide) htested) ((armStep_frame ..).meets (by decide) htested)) h

theorem execOpenWireCycleStart_carries : Carries P s (execOpenWireCycleStart l t s) :=
  carries_onLane fun _ h => meets_ite (meets_for3 (fun _ _ h => (frame_meas ..).meets (by decide) ((closeCycle_frame ..).meets (by decide) h)) h) h

theorem execOpenWireStep_carries {g m} : Carries P s (execOpenWireStep l g m t s) := by
  refine carries_ite ?_ (carries_updLane fun _ h => meets_ite ((tick_frame ..).meets (by decide) h) h)
  have hstep : s.meets P → (s.updLane l fun L => (L.tick t).owStep (stgIx g) (s.stage g).since m t).meets P :=
    fun hs => State.meets_updLane hs fun h => (owStep_frame ..).meets (by decide) ((tick_frame ..).meets (by decide) h)
  split
  · exact carries_next fun hs => State.meets_of_lanes rfl (hstep hs)
  · exact carries_next hstep

theorem execOffsetCalibrationComplete_carries : Carries P s (execOffsetCalibrationComplete l t s) :=
  carries_onLane fun _ h =>
    have hstored := meets_for3 (f := fun i L => if L.assigned i then L.storeOffsets i else L)
      (fun _ _ h => meets_ite ((storeOffsets_frame ..).meets (by decide) h) h) h
    have hsaved := (saveOffsets_frame _ l).meets (by decide) hstored
    meets_ite (meets_ite ((stepFailed_frame ..).meets (by decide) hsaved) ((armStep_frame ..).meets (by decide) hsaved)) h

theorem execGpConversionComplete_carries {conv v ohm} : Carries P s (execGpConversionComplete l conv v ohm t s) := by
  refine carries_onLane fun L h => meets_ite ?_ h
  split
  · exact (gpTake_frame ..).meets (by decide) h
  · exact h

theorem execChurnSlice_carries {part seg zeroOk sigOk crcOk keyOk dur fold} :
    Carries drainedCores s (execChurnSlice l part seg zeroOk sigOk crcOk keyOk dur fold s) := by
  have hnote : ∀ (u : State) (m : Nat), u.meets drainedCores → (if part = 7 then u.noteCopies l m else u).meets drainedCores :=
    fun _ _ hu => State.meets_ite (State.meets_of_lanes rfl hu) hu
  refine carries_ite (carries_next fun hs => hnote _ _ (State.meets_updLane hs fun h => ?_)) (carries_sameLanes rfl)
  have hmarked := fun f v => (updChn_frame _ f).meets (by decide) ((wr_frame _ Reg.CHN_LAST_DURATION v).meets (by decide)
      ((wr_frame _ Reg.CHN_LAST_SEGMENT seg).meets (by decide)
    ((wr_frame _ Reg.CHN_LAST_PARTITION part).meets (by decide) ((sliceSave_frame _ part).meets (by decide) h))))
  exact meets_ite (drained_sliceFold (hmarked _ _)) (drained_sliceEnd (hmarked _ _))

theorem execZeroiseTimeout_carries {seg us} : Carries drainedCores s (execZeroiseTimeout l seg us s) :=
  carries_updLane fun _ h => meets_ite (drained_sliceEnd ((updChn_frame ..).meets (by decide)
      ((wr_frame ..).meets (by decide) ((wr_frame ..).meets (by decide)
    ((sliceSave_frame ..).meets (by decide) h))))) h

theorem execChurnCoverageOverdue_carries : Carries P s (execChurnCoverageOverdue l t s) :=
  carries_onLane fun _ h => meets_ite ((raise_frame ..).meets (by decide) ((put_frame ..).meets (by decide) h)) h

theorem execSpareUnitHandover_carries {part equal} : Carries P s (execSpareUnitHandover l part equal s) :=
  carries_onLaneNow fun L h =>
    have hdone := fun f => (updChn_frame L f).meets (by decide) h
    meets_ite (meets_ite ((updChn_frame ..).meets (by decide) ((wr_frame ..).meets (by decide) (hdone _)))
        ((raise_frame ..).meets (by decide) (hdone _)))
      (meets_ite (meets_ite ((updChn_frame ..).meets (by decide) ((wr_frame ..).meets (by decide) (hdone _)))
          ((raise_frame ..).meets (by decide) (hdone _))) h)

theorem execStageCopySwap_carries {g equal} : Carries P s (execStageCopySwap l g equal s) := by
  have hfresh : ∀ f : ChnSt → ChnSt, s.meets P → ((s.lane l).updChn f).meets (P l) := fun f hs => (updChn_frame ..).meets (by decide) (hs l)
  refine carries_ite (carries_sameLanes rfl) (carries_ite (carries_ite (carries_next fun hs => ?_) (carries_sameLanes rfl))
    (carries_ite (carries_next fun hs => ?_) (carries_sameLanes rfl)))
  · exact State.meets_of_lanes rfl (State.meets_updLane (l := l) hs fun _ =>
      meets_ite ((put_frame ..).meets (by decide) (hfresh _ hs)) (hfresh _ hs))
  · exact State.meets_of_lanes rfl (State.meets_updLane (l := l) hs fun _ => (copyFailed_frame ..).meets (by decide) (hfresh _ hs))

end

section
open LaneSt
variable {P : Lane → CoreSt → Prop} {s : State} {l : Lane}

/-! ### Register writes (R458) -/

theorem State.meets_forBits {f : Nat → State → Out} (hf : ∀ (j : Nat) (u : State), Carries P u (f j u)) (v : Word) (hs : s.meets P) :
    (forBits v f s).meets P :=
  State.meets_foldl (fun u j hu => State.meets_ite (hf j u hu) hu) _ hs

theorem State.meets_writeSafeReq (v : Word) (hs : s.meets P) : (s.writeSafeReq l v).meets P :=
  have hsto := execSafeReqSto_carries hs
  State.meets_ite (execSafeReqClr_carries (execSafeReqSs1_carries hsto)) hsto

theorem State.meets_writeFcAck (v : Word) (hs : s.meets P) : (s.writeFcAck l v).meets P :=
  have hack := execAcknowledgeClass_carries hs
  State.meets_ite (execRearm_carries hack) hack

theorem State.meets_takeFresh (hs : s.meets P) : (s.updLane l fun _ => (s.lane l).fresh.2).meets P :=
  State.meets_updLane hs fun h => (fresh_frame ..).meets (by decide) h

theorem State.meets_writeAuxCmd (v : Word) (hs : s.meets P) : (s.writeAuxCmd l v).meets P := by
  refine State.meets_ite (State.meets_updLane hs fun h => (refuseWrite_frame ..).meets (by decide) h) ?_
  split
  case h_1 => exact execMove_carries hs
  case h_2 => exact execStop_carries hs
  case h_3 => exact execHardstop_carries hs
  case h_4 => exact execHome_carries hs
  case h_5 => exact execClear_carries (State.meets_takeFresh hs)
  case h_6 => exact execCommitTbl_carries hs
  case h_7 => exact hs

theorem State.meets_canAbort (c : CanId) (b : Nat) (v : Word) (hs : s.meets P) : (s.canAbort l c b v).meets P :=
  State.meets_forBits (fun _ _ => execCanTxAbort_carries) v (State.meets_takeFresh hs)

theorem State.meets_canTrigger {t : State} {c : CanId} {o : Nat} {v : Word} (h : s.canTrigger l c o v = some t) (hs : s.meets P) :
    t.meets P := by
  unfold State.canTrigger at h
  split at h
  · cases h; exact execRecover_carries hs
  · split at h
    · cases h; exact execCanRxRelease_carries hs
    · split at h
      · cases h; exact State.meets_forBits (fun _ _ => execCanTxRequest_carries) v hs
      · split at h
        · cases h; exact State.meets_canAbort c _ v hs
        · cases h

/-- A register whose write is a command. -/
theorem State.meets_trigger {t : State} {a : Nat} {v : Word} (h : s.trigger l a v = some t) (hs : s.meets P) : t.meets P := by
  unfold State.trigger at h
  split at h
  case h_1 => cases h; exact execSysReq_carries hs
  case h_2 => cases h; exact State.meets_writeFcAck v hs
  case h_3 => cases h; exact execFaultInject_carries hs
  case h_4 => cases h; exact execPosSnap_carries hs
  case h_5 => cases h; exact execReref_carries hs
  case h_6 => cases h; exact State.meets_ite (execCommit_carries hs) hs
  case h_7 => cases h; exact execStgRearm_carries hs
  case h_8 => cases h; exact State.meets_writeSafeReq v hs
  case h_9 => cases h; exact execTxPost_carries hs
  case h_10 => cases h; exact execCpiAck_carries hs
  case h_11 => cases h; exact State.meets_writeAuxCmd v hs
  case h_12 => cases h; exact State.meets_updLane hs fun h => (mbxPost_frame ..).meets (by decide) h
  case h_13 => cases h; exact execMbxReplyRelease_carries hs
  case h_14 => cases h; exact State.meets_updLane hs fun h => (mbxCrook_frame ..).meets (by decide) h
  case h_15 =>
    split at h
    · exact State.meets_canTrigger h hs
    · cases h

theorem State.meets_regWrite (a : Nat) (v sets : Word) (hs : s.meets P) : (s.regWrite l a v sets).meets P := by
  unfold State.regWrite
  refine State.meets_ite (State.meets_updLane hs fun h => (raise_frame ..).meets (by decide) h) (State.meets_ite hs ?_)
  split
  · exact hs
  · split
    · exact State.meets_trigger ‹_› hs
    · exact State.meets_updLane hs fun h => (plainWrite_frame ..).meets (by decide) h

theorem execRegisterWrite_carries {addr v sets} : Carries P s (execRegisterWrite l addr v sets s) :=
  carries_next fun hs => State.meets_ite (State.meets_regWrite addr v sets hs) hs

end

end Sys2Proof.Machine

/-! ## Checked execution between instructions (R114 to R116) -/
namespace Sys2Proof.Machine

section
open LaneSt
variable {P : Lane → CoreSt → Prop} {s : State} {l : Lane}

theorem LaneSt.runs_halted {L : LaneSt} (h : L.runs = true) : L.core.halted = false := by
  simp only [LaneSt.runs, Bool.and_eq_true, Bool.not_eq_true'] at h
  exact h.2

theorem LaneSt.issue_halted (L : LaneSt) (i : CoreInstr) (q : IssueIn) : (L.issue i q).core.halted = L.core.halted := by
  unfold LaneSt.issue
  split
  · rfl
  · cases i <;> rfl

theorem LaneSt.halt_halted (L : LaneSt) (l : Lane) : (L.halt l).core.halted = L.core.halted := by
  change L.enterResync.core.halted = _
  rw [L.enterResync_frame.core (by decide)]

theorem State.meets_busStore {t : State} {w : Width} {a : Nat} {v : Word} (h : s.busStore l w a v = some t) (hs : s.meets P) :
    t.meets P := by
  unfold State.busStore at h
  split at h
  · cases h
  · split at h
    · cases h; exact State.meets_updLane hs fun h => (setBytes_frame ..).meets (by decide) h
    · split at h
      · cases h; exact State.meets_regWrite a v 0 hs
      · cases h

theorem State.drained_storeInstr (w : Width) (fp : Bool) (rs1 rs2 : Nat) (off : Word) (len : Nat) (u : Upset) (hs : s.meets drainedCores)
    (hrun : (s.lane l).core.halted = false) : (s.storeInstr l w fp rs1 rs2 off len u).meets drainedCores := by
  unfold State.storeInstr
  extract_lets L a v A
  obtain ⟨hstop, htake⟩ := drained_storeAgree (w := w) (fp := fp) (rs1 := rs1) (rs2 := rs2) (off := off) (u := u) (hs l) hrun
  have hlane : A.lane l = L.storeAgree w fp rs1 rs2 off u := State.lane_updLane_self ..
  have hothers : ∀ o, o ≠ l → A.lane o = s.lane o := fun o ho => State.lane_updLane_ne _ _ _ _ ho
  split
  · next hhalt =>
    rw [hlane] at hhalt
    exact State.meets_updLane hs fun _ => hstop hhalt
  · have htaken : (A.updLane l LaneSt.scbTake).meets drainedCores := fun o => by
      by_cases ho : o = l
      · rw [ho, State.lane_updLane_self, hlane]
        exact htake
      · rw [State.lane_updLane_ne _ _ _ _ ho, hothers o ho]
        exact hs o
    split
    · exact State.meets_updLane htaken drained_accessTrap
    · next ht => exact State.meets_updLane (State.meets_busStore ht htaken) drained_retire

theorem State.drained_runInstr (i : CoreInstr) (u : Upset) (q : IssueIn) (hs : s.meets drainedCores)
    (hrun : (s.lane l).core.halted = false) : (s.runInstr l i u q).meets drainedCores := by
  unfold State.runInstr
  extract_lets A L h B
  have hA : A.meets drainedCores := State.meets_updLane hs drained_issue
  have hB : B.meets drainedCores := State.meets_ite (State.meets_updLane hA fun h => (raise_frame ..).meets (by decide) h) hA
  have hArun : (A.lane l).core.halted = false := by rw [State.lane_updLane_self, LaneSt.issue_halted, hrun]
  have hBrun : (B.lane l).core.halted = false := by
    unfold B
    split
    · rw [State.lane_updLane_self, LaneSt.raise_core, hArun]
    · exact hArun
  refine State.meets_ite (State.meets_updLane hA fun _ => drained_mismatch)
    (State.meets_ite (State.meets_updLane hA drained_eccDouble) ?_)
  split
  · exact State.drained_storeInstr _ _ _ _ _ _ _ hB hBrun
  · exact State.drained_storeInstr _ _ _ _ _ _ _ hB hBrun
  · exact State.meets_updLane hB drained_laneInstr

/-- What holds of hart 2's registers as the core's, while the core runs, holds again after them (R128). -/
theorem State.drained_onHart {f : State → State} (hf : ∀ u : State, u.meets drainedCores → (f u).meets drainedCores) (second : Bool)
    (hs : s.meets drainedCores) : (s.onHart l second f).meets drainedCores := by
  have hswap : (s.updLane l LaneSt.swapHarts).meets drainedCores := State.meets_updLane hs fun h => h
  have hback : ((f (s.updLane l LaneSt.swapHarts)).updLane l fun L => L.swapHarts.updCore fun c =>
      { c with retired := (s.lane l).core.retired }).meets drainedCores := State.meets_updLane (hf _ hswap) fun h => h
  exact State.meets_ite (hf s hs) (State.meets_ite hback hs)

theorem execCheckedInstruction_carries {c i u q} : Carries drainedCores s (execCheckedInstruction l c i u q s) := by
  refine carries_ite (carries_updLane fun _ h => meets_ite (drained_runShepherd h) h)
    (carries_next (State.drained_onHart (fun x hx => ?_) _))
  extract_lets L A
  split
  · next hrun =>
    have hrun : L.core.halted = false := runs_halted (Bool.and_eq_true_iff.mp hrun).1
    have hA : A.meets drainedCores := State.meets_updLane hx drained_halt
    have hArun : (A.lane l).core.halted = false := by rw [State.lane_updLane_self, LaneSt.halt_halted, hrun]
    exact State.meets_ite (State.meets_ite hA (State.drained_runInstr i u q hA hArun)) (State.drained_runInstr i u q hx hrun)
  · exact hx

theorem execInterruptTaken_carries {c cause} : Carries drainedCores s (execInterruptTaken l c cause s) :=
  carries_ite (carries_sameLanes rfl) (carries_next (State.drained_onHart (fun _ hx => State.meets_updLane hx fun h =>
    meets_ite (drained_takeInterrupt h) h) _))

theorem execCoreResetAfterRecord_carries : Carries drainedCores s (execCoreResetAfterRecord l s) :=
  carries_onLaneNow fun _ h => meets_ite drained_coreReset h

theorem execDebugHaltRequest_carries : Carries drainedCores s (execDebugHaltRequest l s) :=
  carries_onLaneNow fun _ h => meets_ite h (meets_ite (meets_ite h (drained_halt h)) ((incSat_frame ..).meets (by decide) h))

theorem execDebugRegisterWrite_carries {r v} : Carries drainedCores s (execDebugRegisterWrite l r v s) := by
  refine carries_onLaneNow fun L h => ?_
  have hread : ((L.debugRead r).2.updCore fun c => { c with data0 := (L.debugRead r).1 }).drained := by
    have h2 : (L.debugRead r).2.drained := (debugRead_frame L r).meets (by decide) h
    exact h2
  have herror : ∀ e, (L.cmdError e).drained := fun _ => h
  refine meets_ite h (meets_ite ?_ (meets_ite h (meets_ite (herror _) (meets_ite (herror _) ?_))))
  · cases v
    case none => exact hread
    case some => exact drained_debugModule h
  · cases v
    case none => exact hread
    case some => exact drained_abstractWrite h

theorem execDebugResume_carries : Carries drainedCores s (execDebugResume l s) := carries_onLaneNow fun _ h => drained_debugRun h

theorem execDebugSingleStep_carries {i} : Carries drainedCores s (execDebugSingleStep l i s) := by
  unfold execDebugSingleStep
  extract_lets L
  split
  · next hrun =>
    have hL : L.core.halted = false := runs_halted (Bool.and_eq_true_iff.mp hrun).1
    refine carries_next fun hs => State.drained_runInstr i _ _ (State.meets_updLane hs drained_replay) ?_
    rw [State.lane_updLane_self]
    exact hL
  · exact carries_sameLanes rfl

theorem execSystemBusAccess_carries {addr v} : Carries drainedCores s (execSystemBusAccess l addr v s) := by
  have herror : ∀ e, Carries drainedCores s (.next (s.updLane l fun L => L.busError e)) := fun e =>
    carries_updLane fun L h => drained_updCore (L := L) (f := fun c => { c with sberror := e }) h
  refine carries_ite (carries_sameLanes rfl) (carries_ite (herror 3) (carries_ite (herror 2) ?_))
  cases v
  case none => exact carries_updLane fun L h => drained_updCore (L := L) h
  case some v =>
    exact carries_next fun hs => State.meets_ite (State.meets_updLane hs fun h => (setWord_frame ..).meets (by decide) h)
        (State.meets_regWrite addr v 0 hs)

end

/-! ### Every command -/

theorem exec_carries (c : Instr) (s : State) : Carries drainedCores s (exec c s) := by
  unfold exec
  cases c with
  | energise | prechargeComplete | isolationSwitchesOn | bootstrapsCharged | gateDroop | deEnergise | desaturation | shuntOvercurrent
    | shootThroughCommand | gateSupplyUndervoltage | clampEngage | clampRelease | enRisingEdge | phaseIsolate | isolationTimeout
    | windowClose =>
    exact carries_updStage
  | muteFrame | portUnblock | sourceUnblock | linkRetry | pdelayRequest | arbEgressSend =>
    exact carries_withGdn fun _ hu => State.meets_updGdn _ _ hu
  | getState | fcRead | mbxStats | fwStatus | rindStat => exact carries_readCmd
  | reqState | safeStop | resetArm | resetConfirm | imgCommit | learnStart | calSave | fcAck | fwTrial | fwCommit =>
    exact carries_moduleCmd
  | takeover | field | service | return_ | decommission | clearAlarm => exact carries_lifecycle
  | registerWrite => exact execRegisterWrite_carries
  | checkedInstruction => exact execCheckedInstruction_carries
  | interruptTaken => exact execInterruptTaken_carries
  | coreResetAfterRecord => exact execCoreResetAfterRecord_carries
  | debugHaltRequest => exact execDebugHaltRequest_carries
  | debugRegisterWrite => exact execDebugRegisterWrite_carries
  | debugResume => exact execDebugResume_carries
  | debugSingleStep => exact execDebugSingleStep_carries
  | systemBusAccess => exact execSystemBusAccess_carries
  | pwmPeriodStart => exact execPwmPeriodStart_carries
  | crossStrapFrame => exact execCrossStrapFrame_carries
  | slotStart => exact execSlotStart_carries
  | agreementMessage => exact execAgreementMessage_carries
  | subround2Relay => exact execSubround2Relay_carries
  | voteComplete => exact execVoteComplete_carries
  | commit => exact execCommit_carries
  | commandDeadline => exact execCommandDeadline_carries
  | catchupFrame => exact execCatchupFrame_carries
  | basicCycleStart => exact execBasicCycleStart_carries
  | grazeSpectrum => exact execGrazeSpectrum_carries
  | churnSlice => exact execChurnSlice_carries
  | zeroiseTimeout => exact execZeroiseTimeout_carries
  | spareUnitHandover => exact execSpareUnitHandover_carries
  | stageCopySwap => exact execStageCopySwap_carries
  | churnCoverageOverdue => exact execChurnCoverageOverdue_carries
  | groundLoss => exact execGroundLoss_carries
  | supplyLoss => exact execSupplyLoss_carries
  | supplyLossTimeout => exact execSupplyLossTimeout_carries
  | supplyReturn => exact execSupplyReturn_carries
  | parkSupplyLoss => exact execParkSupplyLoss_carries
  | holdupExhausted => exact execHoldupExhausted_carries
  | undervoltageWarning => exact execUndervoltageWarning_carries
  | supplyOvervoltage => exact execSupplyOvervoltage_carries
  | overvoltageRecovery => exact execOvervoltageRecovery_carries
  | sensorSupplyFault => exact execSensorSupplyFault_carries
  | guardianPowerLoss => exact execGuardianPowerLoss_carries
  | foldEntry => exact execFoldEntry_carries
  | sysReq => exact execSysReq_carries
  | armSequence => exact execArmSequence_carries
  | biasSettled => exact execBiasSettled_carries
  | armSelftestComplete => exact execArmSelftestComplete_carries
  | openWireTestComplete => exact execOpenWireTestComplete_carries
  | offsetCalibrationComplete => exact execOffsetCalibrationComplete_carries
  | armComplete => exact execArmComplete_carries
  | handshakeDelayExceeded => exact execHandshakeDelayExceeded_carries
  | transitionTimeout => exact execTransitionTimeout_carries
  | transitionExecute => exact execTransitionExecute_carries
  | thermalClockDown => exact execThermalClockDown_carries
  | thermalClockUp => exact execThermalClockUp_carries
  | wakeSource => exact execWakeSource_carries
  | siblingWake => exact execSiblingWake_carries
  | regulatorReady => exact execRegulatorReady_carries
  | regulatorRetry => exact execRegulatorRetry_carries
  | crystalFallback => exact execCrystalFallback_carries
  | wakeComplete => exact execWakeComplete_carries
  | sleepSignal => exact execSleepSignal_carries
  | coldBoot => exact execColdBoot_carries
  | romRecoveryLoad => exact execRomRecoveryLoad_carries
  | versionExchange => exact execVersionExchange_carries
  | sessionTimeout => exact execSessionTimeout_carries
  | ringNegotiation => exact execRingNegotiation_carries
  | satelliteHello => exact execSatelliteHello_carries
  | satelliteLost => exact execSatelliteLost_carries
  | spPsi5Phase => exact execSpPsi5Phase_carries
  | resyncPoint => exact execResyncPoint_carries
  | resyncPackage => exact execResyncPackage_carries
  | resyncPackageTimeout => exact execResyncPackageTimeout_carries
  | catchupComplete => exact execCatchupComplete_carries
  | shadowingEnd => exact execShadowingEnd_carries
  | resyncRetry => exact execResyncRetry_carries
  | statusFrame => exact execStatusFrame_carries
  | openWireCycleStart => exact execOpenWireCycleStart_carries
  | openWireStep => exact execOpenWireStep_carries
  | gpConversionComplete => exact execGpConversionComplete_carries
  | encoderEdge => exact execEncoderEdge_carries
  | indexEdge => exact execIndexEdge_carries
  | hallTransition => exact execHallTransition_carries
  | encoderSignalLoss => exact execEncoderSignalLoss_carries
  | encoderSignalRestored => exact execEncoderSignalRestored_carries
  | tmrSample => exact execTmrSample_carries
  | standstillTimeout => exact execStandstillTimeout_carries
  | posSnap => exact execPosSnap_carries
  | extensionSnapshot => exact execExtensionSnapshot_carries
  | reref => exact execReref_carries
  | calRevolution => exact execCalRevolution_carries
  | calApply => exact execCalApply_carries
  | spFrame => exact execSpFrame_carries
  | spTimeout => exact execSpTimeout_carries
  | ssiTransaction => exact execSsiTransaction_carries
  | commutationPeriod => exact execCommutationPeriod_carries
  | peakLimitEngage => exact execPeakLimitEngage_carries
  | peakLimitLift => exact execPeakLimitLift_carries
  | observerFloat => exact execObserverFloat_carries
  | bemfCaptureStart => exact execBemfCaptureStart_carries
  | bemfZeroCrossing => exact execBemfZeroCrossing_carries
  | reacqTimeout => exact execReacqTimeout_carries
  | flyingStartTimeout => exact execFlyingStartTimeout_carries
  | learningRunStart => exact execLearningRunStart_carries
  | learningApply => exact execLearningApply_carries
  | stgRearm => exact execStgRearm_carries
  | enPulseEnd => exact execEnPulseEnd_carries
  | stoLatchSet => exact execStoLatchSet_carries
  | stoTestPulse => exact execStoTestPulse_carries
  | safeReqSto => exact execSafeReqSto_carries
  | safeReqSs1 => exact execSafeReqSs1_carries
  | safeReqClr => exact execSafeReqClr_carries
  | ss1Standstill => exact execSs1Standstill_carries
  | ss1Timeout => exact execSs1Timeout_carries
  | safeAckEdge => exact execSafeAckEdge_carries
  | safeAckQualified => exact execSafeAckQualified_carries
  | resetPendingExpiry => exact execResetPendingExpiry_carries
  | faultRaise => exact execFaultRaise_carries
  | lineFault => exact execLineFault_carries
  | siblingLineChange => exact execSiblingLineChange_carries
  | laneSilent => exact execLaneSilent_carries
  | acknowledgeClass => exact execAcknowledgeClass_carries
  | rearm => exact execRearm_carries
  | faultRecordWritten => exact execFaultRecordWritten_carries
  | maskClose => exact execMaskClose_carries
  | faultInject => exact execFaultInject_carries
  | thermalRejoin => exact execThermalRejoin_carries
  | laneThermalTrip => exact execLaneThermalTrip_carries
  | stageThermalTrip => exact execStageThermalTrip_carries
  | windingThermalTrip => exact execWindingThermalTrip_carries
  | clockFault => exact execClockFault_carries
  | syncFrame => exact execSyncFrame_carries
  | offsetCorrection => exact execOffsetCorrection_carries
  | rateCorrection => exact execRateCorrection_carries
  | passiveTimeout => exact execPassiveTimeout_carries
  | listenTimeout => exact execListenTimeout_carries
  | coldstartFrame => exact execColdstartFrame_carries
  | localSyncSend => exact execLocalSyncSend_carries
  | localSyncFrame => exact execLocalSyncFrame_carries
  | startupTimeout => exact execStartupTimeout_carries
  | startupComplete => exact execStartupComplete_carries
  | cyclePoint => exact execCyclePoint_carries
  | cpiAck => exact execCpiAck_carries
  | flockFrameReceive => exact execFlockFrameReceive_carries
  | txPost => exact execTxPost_carries
  | flockTransmit => exact execFlockTransmit_carries
  | skimEncode => exact execSkimEncode_carries
  | guardianRingFrame => exact execGuardianRingFrame_carries
  | guardianLocalFrame => exact execGuardianLocalFrame_carries
  | windowEndCutoff => exact execWindowEndCutoff_carries
  | portBroken => exact execPortBroken_carries
  | loopEstablished => exact execLoopEstablished_carries
  | loopRelease => exact execLoopRelease_carries
  | pdelayFrame => exact execPdelayFrame_carries
  | arbWindowEnd => exact execArbWindowEnd_carries
  | muteStart => exact execMuteStart_carries
  | muteExpiry => exact execMuteExpiry_carries
  | ringWake => exact execRingWake_carries
  | guardianStatusWord => exact execGuardianStatusWord_carries
  | canFrameReceive => exact execCanFrameReceive_carries
  | rateDetect => exact execRateDetect_carries
  | rateDetectTimeout => exact execRateDetectTimeout_carries
  | canRxRelease => exact execCanRxRelease_carries
  | canTxRequest => exact execCanTxRequest_carries
  | canTxAbort => exact execCanTxAbort_carries
  | canTxDone => exact execCanTxDone_carries
  | silenceRequest => exact execSilenceRequest_carries
  | silenceExpiry => exact execSilenceExpiry_carries
  | busDominant => exact execBusDominant_carries
  | busRecessiveResume => exact execBusRecessiveResume_carries
  | busOff => exact execBusOff_carries
  | recover => exact execRecover_carries
  | busOffRecovery => exact execBusOffRecovery_carries
  | segmentTimeout => exact execSegmentTimeout_carries
  | confirmTimeout => exact execConfirmTimeout_carries
  | quarantineEnd => exact execQuarantineEnd_carries
  | hello => exact execHello_carries
  | getId => exact execGetId_carries
  | attest => exact execAttest_carries
  | getKey => exact execGetKey_carries
  | imgBegin => exact execImgBegin_carries
  | imgWrite => exact execImgWrite_carries
  | imgVerify => exact execImgVerify_carries
  | cfgRead => exact execCfgRead_carries
  | calRead => exact execCalRead_carries
  | recRead => exact execRecRead_carries
  | tallyRead => exact execTallyRead_carries
  | logRead => exact execLogRead_carries
  | fwBegin => exact execFwBegin_carries
  | fwWrite => exact execFwWrite_carries
  | fwVerify => exact execFwVerify_carries
  | password => exact execPassword_carries
  | unlockReq => exact execUnlockReq_carries
  | unlockResp => exact execUnlockResp_carries
  | challengeExpiry => exact execChallengeExpiry_carries
  | provision => exact execProvision_carries
  | keyLoad => exact execKeyLoad_carries
  | grazeTap => exact execGrazeTap_carries
  | skimTap => exact execSkimTap_carries
  | tapStop => exact execTapStop_carries
  | tapDelivery => exact execTapDelivery_carries
  | tapEnd => exact execTapEnd_carries
  | crook => exact execCrook_carries
  | crookForced => exact execCrookForced_carries
  | crookReply => exact execCrookReply_carries
  | shepherdRestart => exact execShepherdRestart_carries
  | mbxReplyRelease => exact execMbxReplyRelease_carries
  | rindSource => exact execRindSource_carries
  | glitchDetect => exact execGlitchDetect_carries
  | move => exact execMove_carries
  | stop => exact execStop_carries
  | hardstop => exact execHardstop_carries
  | home => exact execHome_carries
  | clear => exact execClear_carries
  | commitTbl => exact execCommitTbl_carries
  | plannerTick => exact execPlannerTick_carries
  | microstep => exact execMicrostep_carries
  | standstillEntry => exact execStandstillEntry_carries
  | limitSwitchTransition => exact execLimitSwitchTransition_carries
  | homingStopComplete => exact execHomingStopComplete_carries
  | homingTimeout => exact execHomingTimeout_carries
  | coilFault => exact execCoilFault_carries
  | unknownRequest => exact execUnknownRequest_carries
  | canBusError => exact execCanBusError_carries
  | debugSessionOpen => exact execDebugSessionOpen_carries
  | debugSessionClose => exact execDebugSessionClose_carries
  | factoryTestToken => exact execFactoryTestToken_carries

theorem step_drained {s t : State} (hs : s.meets drainedCores) (hstep : step s = .next t) : t.meets drainedCores := by
  unfold step at hstep
  split at hstep
  · cases hstep
    exact hs
  · next c rest _ =>
    have hc := exec_carries c { s with pending := rest } hs
    rwa [hstep] at hc

end Sys2Proof.Machine

/-! ## What a register write leaves alone (R121)

The command registers and what follows from a write reach the blocks of their units only: none of them changes the block DBG, nor the
core. -/
namespace Sys2Proof.Machine

/-- The blocks that the commands of a register write change. -/
def cmdBlocks : List Nat :=
  [0x4000, 0x4001, 0x4002, 0x4003, 0x4005, 0x4006, 0x4008, 0x4009, 0x400A, 0x400B, 0x400C, 0x400D, 0x400E, 0x400F, 0x4010]

section
open LaneSt
variable (L : LaneSt)

theorem LaneSt.raise_cmdBlocks {id : Nat} (h : id < 65536) (d : Nat) : L.keepsRegs cmdBlocks (L.raise id d) :=
  keepsRegs_mono (L.raise_regs id d h) (by decide)

theorem LaneSt.raiseIf_cmdBlocks (b : Bool) {id : Nat} (h : id < 65536) (d : Nat) : L.keepsRegs cmdBlocks (L.raiseIf b id d) :=
  keepsRegs_mono (L.raiseIf_regs b id d h) (by decide)

theorem LaneSt.refuseWrite_cmdBlocks : L.keepsRegs cmdBlocks L.refuseWrite := L.raise_cmdBlocks (by decide) _

theorem LaneSt.wr_cmdBlocks {f : Fld} (v : Nat) (h : covered cmdBlocks f.addr = true) : L.keepsRegs cmdBlocks (L.wr f v) :=
  L.wr_keepsRegs f v h

/-! ### Requests, faults and the safe state -/

theorem LaneSt.report_cmdBlocks (r why b : Nat) : L.keepsRegs cmdBlocks (L.report r why b) :=
  keepsRegs_mono (L.report_regs r why b) (by decide)

theorem LaneSt.request_cmdBlocks (target : Nat) : L.keepsRegs cmdBlocks (L.request target) := by
  refine keepsRegs_ite (keepsRegs_same rfl) (keepsRegs_ite (L.report_cmdBlocks _ _ _) ?_)
  split
  · exact keepsRegs_ite (keepsRegs_same rfl) (keepsRegs_same rfl)
  · exact keepsRegs_ite (L.keepsRegs_refl _) (keepsRegs_trans (LaneSt.report_cmdBlocks _ _ _ _) (keepsRegs_same rfl))

theorem LaneSt.ackClass_cmdBlocks {c : Nat} (h : c < 16) : L.keepsRegs cmdBlocks (L.ackClass c) := by
  have hopen : covered cmdBlocks 0x40010000 = true := by decide
  have hcnt : covered cmdBlocks (Reg.FC_CNT_LEVEL c).addr = true := by interval_cases c <;> decide
  exact keepsRegs_of_regs (M := (L.put (Reg.FC_OPEN c) false).wr (Reg.FC_CNT_LEVEL c) 0) rfl
    (keepsRegs_wr hcnt (keepsRegs_wr hopen (L.keepsRegs_refl _)))

theorem LaneSt.ackClasses_cmdBlocks (l : Lane) (m : Nat) : L.keepsRegs cmdBlocks (L.ackClasses l m) :=
  keepsRegs_trans (keepsRegs_mono (LaneSt.refreshClaims_regs _ l) (by decide))
    (keepsRegs_forN (fun _ hi M => keepsRegs_ite (M.ackClass_cmdBlocks (by omega)) (M.keepsRegs_refl _)) L)

theorem LaneSt.rearmFirst_cmdBlocks : L.keepsRegs cmdBlocks L.rearmFirst :=
  keepsRegs_wr (by decide) (keepsRegs_wr (by decide) (keepsRegs_wr (by decide) (keepsRegs_setReg (by decide) (L.keepsRegs_refl _))))

theorem LaneSt.refreshSafe_cmdBlocks (l : Lane) : L.keepsRegs cmdBlocks (L.refreshSafe l) :=
  have hstat : covered cmdBlocks 0x40100010 = true := by decide
  keepsRegs_for3 (fun i _ M => by
    extract_lets x A B C
    have hA : M.keepsRegs cmdBlocks A := keepsRegs_same rfl
    have hC : M.keepsRegs cmdBlocks C := keepsRegs_wr hstat (keepsRegs_wr hstat (keepsRegs_wr hstat hA))
    exact keepsRegs_ite (keepsRegs_wr hstat hC) hC) L

theorem LaneSt.post_cmdBlocks (t : Nat) : L.keepsRegs cmdBlocks (L.post t) :=
  keepsRegs_trans (keepsRegs_mono (LaneSt.releaseForced_keeps _).2 (by decide)) (keepsRegs_same rfl)

/-! ### The auxiliary axis -/

theorem LaneSt.auxReject_cmdBlocks (code : Nat) : L.keepsRegs cmdBlocks (L.auxReject code) :=
  keepsRegs_wr (by decide) (keepsRegs_wr (by decide) (L.keepsRegs_refl _))

theorem LaneSt.rest_cmdBlocks (onGoal : Bool) : L.keepsRegs cmdBlocks (L.rest onGoal) := by
  unfold LaneSt.rest
  extract_lets hold A B C
  have hA : L.keepsRegs cmdBlocks A := keepsRegs_of_regs (M := L.wrS Reg.AUX_VEL_VALUE _) rfl (L.wr_cmdBlocks _ (by decide))
  have hB : L.keepsRegs cmdBlocks B := keepsRegs_ite hA (keepsRegs_wr (by decide) hA)
  have hC : L.keepsRegs cmdBlocks C := keepsRegs_ite (keepsRegs_trans (keepsRegs_mono B.holdCoils_regs (by decide)) hB) hB
  split
  · exact keepsRegs_of_regs rfl hA
  · exact keepsRegs_of_regs rfl hC

theorem LaneSt.auxStop_cmdBlocks : L.keepsRegs cmdBlocks L.auxStop := by
  unfold LaneSt.auxStop
  extract_lets A B
  have hA : L.keepsRegs cmdBlocks A := keepsRegs_ite (L.wr_cmdBlocks _ (by decide)) (L.keepsRegs_refl _)
  have hB : L.keepsRegs cmdBlocks B := keepsRegs_of_regs rfl hA
  exact keepsRegs_ite (keepsRegs_ite hB (keepsRegs_trans (LaneSt.rest_cmdBlocks _ false) (keepsRegs_of_regs rfl hB)))
    (keepsRegs_of_regs (M := B.wr Reg.AUX_STAT_STATE 2) rfl (keepsRegs_wr (by decide) hB))

theorem LaneSt.fullStep_cmdBlocks : L.keepsRegs cmdBlocks L.fullStep := by
  refine keepsRegs_ite (L.keepsRegs_refl _) ?_
  extract_lets A
  have hA : L.keepsRegs cmdBlocks A := by
    unfold A
    split
    · exact keepsRegs_of_regs (M := L.put Reg.AUX_STAT_STRONG _) rfl (L.wr_cmdBlocks _ (by decide))
    · exact L.keepsRegs_refl _
  split
  · exact keepsRegs_wr (by decide) (keepsRegs_of_regs rfl hA)
  · exact hA

theorem LaneSt.abortAux_cmdBlocks : L.keepsRegs cmdBlocks L.abortAux :=
  keepsRegs_wr (by decide) (keepsRegs_mono (L.auxAbort_regs true) (by decide))

/-! ### The mailbox -/

theorem LaneSt.reply_cmdBlocks (r : Req) (p q : Reply) : L.keepsRegs cmdBlocks (((L.sendReply p).keepReply r q).freeInner r) :=
  keepsRegs_trans (keepsRegs_mono (LaneSt.freeInner_regs _ r) (by decide)) (keepsRegs_of_regs rfl (L.sendReply_regs p))

theorem LaneSt.showPending_cmdBlocks : L.keepsRegs cmdBlocks L.showPending := L.wr_cmdBlocks _ (by decide)

theorem LaneSt.crookDone_cmdBlocks (f : CrookSt → CrookSt) : L.keepsRegs cmdBlocks (L.crookDone f) := by
  unfold LaneSt.crookDone
  extract_lets A
  have hA : L.keepsRegs cmdBlocks A := keepsRegs_same rfl
  split
  · exact keepsRegs_wr (by decide) (keepsRegs_wr (by decide) hA)
  · exact hA

theorem LaneSt.abortMailbox_cmdBlocks : L.keepsRegs cmdBlocks L.abortMailbox := by
  unfold LaneSt.abortMailbox
  extract_lets A B C
  have hA : L.keepsRegs cmdBlocks A :=
    keepsRegs_foldl _ (fun M h _ => keepsRegs_ite (M.reply_cmdBlocks h.req _ _) (M.keepsRegs_refl _)) L
  have hB : L.keepsRegs cmdBlocks B := keepsRegs_trans (keepsRegs_foldl _ (fun M x _ => M.reply_cmdBlocks x.req _ _) A) hA
  have hC : L.keepsRegs cmdBlocks C := keepsRegs_ite (keepsRegs_of_regs (B.dropLoads_frame.1 .regs (by decide)) hB) hB
  exact keepsRegs_trans (LaneSt.showPending_cmdBlocks _) (keepsRegs_of_regs rfl hC)

theorem LaneSt.crookGoes_cmdBlocks : L.keepsRegs cmdBlocks L.crookGoes := by
  unfold LaneSt.crookGoes
  split
  · exact L.keepsRegs_refl _
  · extract_lets A
    have hA : L.keepsRegs cmdBlocks A :=
      keepsRegs_ite (keepsRegs_trans (LaneSt.crookDone_cmdBlocks _ _) L.abortMailbox_cmdBlocks) (L.keepsRegs_refl _)
    exact keepsRegs_ite (keepsRegs_trans (LaneSt.crookDone_cmdBlocks _ _) hA) hA

theorem LaneSt.crookStart_cmdBlocks (r : Req) (mailbox aux : Bool) : L.keepsRegs cmdBlocks (L.crookStart r mailbox aux) := by
  unfold LaneSt.crookStart
  extract_lets t c new A B
  have hA : L.keepsRegs cmdBlocks A := keepsRegs_same rfl
  have hB : L.keepsRegs cmdBlocks B := keepsRegs_wr (by decide) (keepsRegs_trans (A.crookDone_cmdBlocks _) hA)
  exact keepsRegs_trans (LaneSt.crookGoes_cmdBlocks _) (keepsRegs_ite (keepsRegs_trans B.abortAux_cmdBlocks hB) hB)

theorem LaneSt.mbxPost_cmdBlocks (v : Word) : L.keepsRegs cmdBlocks (L.mbxPost v) :=
  keepsRegs_ite L.refuseWrite_cmdBlocks (keepsRegs_ite (L.wr_cmdBlocks _ (by decide)) (L.keepsRegs_refl _))

theorem LaneSt.mbxCrook_cmdBlocks (l : Lane) (v : Word) : L.keepsRegs cmdBlocks (L.mbxCrook l v) :=
  keepsRegs_ite L.refuseWrite_cmdBlocks (keepsRegs_ite (L.crookStart_cmdBlocks _ _ _) (L.keepsRegs_refl _))

/-! ### CAN -/

/-- The registers of a CAN controller fill one block each. -/
theorem covered_can (c : CanId) {o : Nat} (h : o < 65536) : covered cmdBlocks (canBase c + o) = true := by
  cases c <;> simp [covered, cmdBlocks, canBase] <;> omega

theorem LaneSt.setPending_cmdBlocks (c : CanId) {b : Nat} (h : b < 128) (v : Bool) : L.keepsRegs cmdBlocks (L.setPending c b v) :=
  L.wr_cmdBlocks _ (covered_can c (by omega))

theorem LaneSt.setCan_cmdBlocks (c : CanId) (f : CanSt → CanSt) : L.keepsRegs cmdBlocks (L.setCan c f) :=
  keepsRegs_wr (covered_can c (by decide)) (keepsRegs_same ((L.updCan_frame c f).1 .regs (by decide)))

/-! ### A plain write -/

theorem LaneSt.showSched_cmdBlocks : L.keepsRegs cmdBlocks L.showSched :=
  keepsRegs_wr (by decide) (keepsRegs_wr (by decide) (L.keepsRegs_refl _))

theorem LaneSt.afterWrite_cmdBlocks (a : Nat) : L.keepsRegs cmdBlocks (L.afterWrite a) :=
  keepsRegs_ite (keepsRegs_mono L.showHist_regs (by decide)) (keepsRegs_ite L.showSched_cmdBlocks
    (keepsRegs_ite (L.wr_cmdBlocks _ (by decide)) (keepsRegs_same ((L.modeWritten_frame a).1 .regs (by decide)))))

theorem LaneSt.lockRws_cmdBlocks (a : Nat) (r : RegRow) : L.keepsRegs cmdBlocks (L.lockRws a r) :=
  keepsRegs_trans (LaneSt.raiseIf_cmdBlocks _ _ (by decide) _) (keepsRegs_same rfl)

end

/-- A word's write leaves a read-only field as it is. -/
theorem writeWord_readOnly {fs : List FieldRow} {g : Fld} (hg : g.lo + g.w ≤ 32)
    (h : ∀ f ∈ fs, f.acc = .ro ∧ f.lo = g.lo ∧ f.w = g.w ∨ f.lo + f.w ≤ g.lo ∨ g.lo + g.w ≤ f.lo)
    (a : Nat) (x : WriteCtx) (old v : Word) :
    g.get (writeWord a fs x old v).1 = g.get old := by
  have hfield : ∀ f ∈ fs, ∀ acc : Word × Bool, g.get acc.1 = g.get old → g.get (writeField a x old v f acc).1 = g.get old := by
    intro f hf acc hacc
    rcases h f hf with ⟨hro, hlo, hw⟩ | hout
    · have hp : ∀ y, Fld.get ⟨a, f.lo, f.w⟩ y = g.get y := fun y => by rw [Fld.get, Fld.get, hlo, hw]
      rw [← hp, writeField, FieldRow.write_readOnly (.inl hro), Fld.get_set_self _ _ _ (by rw [hlo, hw]; exact hg), hp]
      exact Nat.mod_eq_of_lt (by rw [hw]; exact Nat.mod_lt _ (Nat.two_pow_pos _))
    · rw [← hacc]
      exact Fld.get_set_other ⟨a, f.lo, f.w⟩ g _ _ hout
  have hfold : ∀ (gs : List FieldRow), (∀ f ∈ gs, f ∈ fs) → ∀ acc : Word × Bool, g.get acc.1 = g.get old →
      g.get (gs.foldl (fun acc f => writeField a x old v f acc) acc).1 = g.get old := by
    intro gs
    induction gs with
    | nil => exact fun _ _ hacc => hacc
    | cons f gs ih =>
      exact fun hgs acc hacc => ih (fun k hk => hgs k (List.mem_cons_of_mem _ hk)) _ (hfield f (hgs f List.mem_cons_self) acc hacc)
  exact hfold fs (fun _ hf => hf) _ rfl

/-- CORE_MODE is read-only. -/
theorem LaneSt.plainWrite_isSplit (L : LaneSt) (l : Lane) {a : Nat} {r : RegRow} (hrow : rowAt a = some r) (v sets : Word) :
    (L.plainWrite l a r v sets).isSplit = L.isSplit := by
  unfold LaneSt.plainWrite
  split
  · rfl
  · exact L.refuseWrite_cmdBlocks.isSplit (by decide)
  · extract_lets x A
    have hset : (L.setReg a x.1).isSplit = L.isSplit := by
      by_cases ha : a = 0x40110000
      · subst ha
        have hget : Reg.DBG_CHK_STAT_CORE_MODE.get x.1 = Reg.DBG_CHK_STAT_CORE_MODE.get (L.reg 0x40110000) := by
          refine writeWord_readOnly (by decide) ?_ _ _ _ _
          cases hrow
          decide
        rw [LaneSt.isSplit, LaneSt.isSplit, LaneSt.on, LaneSt.on, LaneSt.rd, LaneSt.rd, LaneSt.reg_setReg_self, hget]
      · exact LaneSt.keepsRegs.isSplit (rs := [a]) (keepsRegs_setReg (covered_self (rowAt_above hrow) []) (L.keepsRegs_refl _)) (by
          have habove := rowAt_above hrow
          simp only [covered, List.any_cons, List.any_nil, Bool.or_false]
          rw [if_neg (by omega)]
          exact beq_eq_false_iff_ne.mpr fun h => ha h.symm)
    have hA : A.isSplit = L.isSplit := by
      refine Eq.trans ?_ hset
      exact (keepsRegs_trans (LaneSt.lockRws_cmdBlocks _ a r) (LaneSt.afterWrite_cmdBlocks _ a)).isSplit (by decide)
    exact ((LaneSt.raiseIf_cmdBlocks _ _ (by decide) _).isSplit (by decide)).trans hA

end Sys2Proof.Machine

/-! ### The command registers -/
namespace Sys2Proof.Machine

/-- The lane's registers outside the commands' blocks are as they were. -/
def State.cmdLeaves (s : State) (l : Lane) (t : State) : Prop := (s.lane l).keepsRegs cmdBlocks (t.lane l)

section
open LaneSt
variable {s t u : State} {l : Lane} {f : LaneSt → LaneSt}

theorem State.cmdLeaves_refl : s.cmdLeaves l s := keepsRegs_refl _ _

theorem State.cmdLeaves_trans (h : t.cmdLeaves l u) (h1 : s.cmdLeaves l t) : s.cmdLeaves l u := keepsRegs_trans h h1

theorem State.cmdLeaves_ite {c : Prop} [Decidable c] (h : s.cmdLeaves l t) (h' : s.cmdLeaves l u) : s.cmdLeaves l (if c then t else u) := by
  split <;> assumption

theorem State.cmdLeaves_updLane (hf : (s.lane l).keepsRegs cmdBlocks (f (s.lane l))) : s.cmdLeaves l (s.updLane l f) := by
  rw [State.cmdLeaves, State.lane_updLane_self]
  exact hf

theorem cmdLeaves_onLaneNow (hf : ∀ L : LaneSt, L.keepsRegs cmdBlocks (f L)) : s.cmdLeaves l (outState s (onLaneNow l s f)) :=
  State.cmdLeaves_updLane (keepsRegs_ite (hf _) (keepsRegs_refl _ _))

theorem cmdLeaves_onLane {n : Nat} (hf : ∀ L : LaneSt, L.keepsRegs cmdBlocks (f L)) : s.cmdLeaves l (outState s (onLane l n s f)) :=
  State.cmdLeaves_updLane (keepsRegs_ite (keepsRegs_trans (hf _) (keepsRegs_same rfl)) (keepsRegs_refl _ _))

theorem cmdLeaves_onLinkedNow (hf : ∀ L : LaneSt, L.keepsRegs cmdBlocks (f L)) : s.cmdLeaves l (outState s (onLinkedNow l s f)) :=
  State.cmdLeaves_updLane (keepsRegs_ite (hf _) (keepsRegs_refl _ _))

theorem cmdLeaves_onLinked {n : Nat} (hf : ∀ L : LaneSt, L.keepsRegs cmdBlocks (f L)) : s.cmdLeaves l (outState s (onLinked l n s f)) :=
  State.cmdLeaves_updLane (keepsRegs_ite (keepsRegs_trans (hf _) (keepsRegs_same rfl)) (keepsRegs_refl _ _))

theorem cmdLeaves_auxCmd {key : BitVec 16} (hf : ∀ L : LaneSt, L.keepsRegs cmdBlocks (f L)) :
    s.cmdLeaves l (outState s (auxCmd l key s f)) :=
  cmdLeaves_onLaneNow fun L => keepsRegs_ite (hf L) L.refuseWrite_cmdBlocks

theorem cmdLeaves_forBits {f : Nat → State → Out} (hf : ∀ (j : Nat) (u : State), u.cmdLeaves l (outState u (f j u))) (v : Word) :
    s.cmdLeaves l (forBits v f s) := by
  have hfold : ∀ (js : List Nat) (u : State), u.cmdLeaves l (js.foldl (fun s i => if v.getLsbD i then outState s (f i s) else s) u) := by
    intro js
    induction js with
    | nil => exact fun _ => State.cmdLeaves_refl
    | cons j js ih => exact fun u => State.cmdLeaves_trans (ih _) (State.cmdLeaves_ite (hf j u) State.cmdLeaves_refl)
  exact hfold _ s

theorem State.cmdLeaves_fresh : s.cmdLeaves l (s.updLane l fun _ => (s.lane l).fresh.2) :=
  State.cmdLeaves_updLane (keepsRegs_same ((s.lane l).fresh_frame.1 .regs (by decide)))

theorem State.cmdLeaves_writeSafeReq (v : Word) : s.cmdLeaves l (s.writeSafeReq l v) := by
  have hsto : ∀ (u : State) key mask, u.cmdLeaves l (outState u (execSafeReqSto l key mask u)) := fun _ _ _ =>
    cmdLeaves_onLaneNow fun L => keepsRegs_ite (keepsRegs_trans (LaneSt.refreshSafe_cmdBlocks _ l) (keepsRegs_same rfl)) L.refuseWrite_cmdBlocks
  have hss1 : ∀ (u : State) key mask, u.cmdLeaves l (outState u (execSafeReqSs1 l key mask u)) := fun _ _ mask =>
    cmdLeaves_onLaneNow fun L => keepsRegs_ite (keepsRegs_same ((L.askSs1_frame .app mask.toNat).1 .regs (by decide))) L.refuseWrite_cmdBlocks
  have hclr : ∀ (u : State) key mask, u.cmdLeaves l (outState u (execSafeReqClr l key mask u)) := fun _ _ mask =>
    cmdLeaves_onLaneNow fun L => keepsRegs_ite (keepsRegs_trans (LaneSt.refreshSafe_cmdBlocks _ l)
      (keepsRegs_of_regs ((LaneSt.dropSs1_frame _ mask.toNat).1 .regs (by decide)) (keepsRegs_same rfl))) L.refuseWrite_cmdBlocks
  exact State.cmdLeaves_ite (State.cmdLeaves_trans (hclr _ _ _) (State.cmdLeaves_trans (hss1 _ _ _) (hsto _ _ _))) (hsto _ _ _)

theorem State.cmdLeaves_writeFcAck (v : Word) : s.cmdLeaves l (s.writeFcAck l v) := by
  have hack : ∀ (u : State) key classes, u.cmdLeaves l (outState u (execAcknowledgeClass l key classes u)) := fun _ _ _ =>
    cmdLeaves_onLaneNow fun L => keepsRegs_ite (L.ackClasses_cmdBlocks _ _) L.refuseWrite_cmdBlocks
  have hrearm : ∀ (u : State) key, u.cmdLeaves l (outState u (execRearm l key u)) := fun _ _ =>
    cmdLeaves_onLaneNow fun L => keepsRegs_ite L.rearmFirst_cmdBlocks L.refuseWrite_cmdBlocks
  exact State.cmdLeaves_ite (State.cmdLeaves_trans (hrearm _ _) (hack _ _ _)) (hack _ _ _)

theorem State.cmdLeaves_writeAuxCmd (v : Word) : s.cmdLeaves l (s.writeAuxCmd l v) := by
  have hidle : ∀ {c : Prop} [Decidable c] (L M : LaneSt), M.regs = L.regs → L.keepsRegs cmdBlocks (if c then L else M) := fun L _ h =>
    keepsRegs_ite (L.keepsRegs_refl _) (keepsRegs_same h)
  refine State.cmdLeaves_ite (State.cmdLeaves_updLane (refuseWrite_cmdBlocks _)) ?_
  split
  case h_1 => exact cmdLeaves_auxCmd fun L => keepsRegs_ite (L.auxReject_cmdBlocks _) (keepsRegs_ite (L.auxReject_cmdBlocks _)
      (keepsRegs_ite (L.auxReject_cmdBlocks _) (hidle L _ rfl)))
  case h_2 => exact cmdLeaves_auxCmd LaneSt.auxStop_cmdBlocks
  case h_3 => exact cmdLeaves_auxCmd fun L => keepsRegs_ite L.auxStop_cmdBlocks (keepsRegs_of_regs rfl L.auxStop_cmdBlocks)
  case h_4 => exact cmdLeaves_auxCmd fun L => keepsRegs_ite (L.auxReject_cmdBlocks _) (keepsRegs_ite (L.auxReject_cmdBlocks _)
      (keepsRegs_ite (L.auxReject_cmdBlocks _) (keepsRegs_ite (L.auxReject_cmdBlocks _) (hidle L _ rfl))))
  case h_5 => exact State.cmdLeaves_trans (cmdLeaves_auxCmd fun L =>
      have hreject : L.keepsRegs cmdBlocks (L.wr Reg.AUX_STAT_REJECT 0) := L.wr_cmdBlocks _ (by decide)
      keepsRegs_ite (keepsRegs_wr (by decide) (keepsRegs_wr (by decide) (keepsRegs_wr (by decide) hreject))) hreject) State.cmdLeaves_fresh
  case h_6 =>
    have hraise : ∀ (L : LaneSt) (c d : Nat), L.keepsRegs cmdBlocks ((L.auxReject c).raise 0x0F05 d) := fun L c d =>
      keepsRegs_trans (LaneSt.raise_cmdBlocks _ (by decide) d) (L.auxReject_cmdBlocks c)
    exact cmdLeaves_auxCmd fun L => keepsRegs_ite (L.auxReject_cmdBlocks _) (keepsRegs_ite (hraise L _ _) (keepsRegs_ite (hraise L _ _)
      (keepsRegs_trans (LaneSt.fullStep_cmdBlocks _) (keepsRegs_same rfl))))
  case h_7 => exact State.cmdLeaves_refl

theorem State.cmdLeaves_canTrigger {c : CanId} {o : Nat} {v : Word} (h : s.canTrigger l c o v = some t) : s.cmdLeaves l t := by
  unfold State.canTrigger at h
  split at h
  · cases h
    exact cmdLeaves_onLinkedNow fun L => keepsRegs_ite (L.setCan_cmdBlocks _ _) (L.keepsRegs_refl _)
  · split at h
    · cases h
      exact cmdLeaves_onLinkedNow fun L => by
        split
        · next hbuf =>
          exact keepsRegs_wr (covered_can c (by omega)) (L.wr_cmdBlocks _ (covered_can c (by omega)))
        · exact L.keepsRegs_refl _
    · split at h
      · cases h
        exact cmdLeaves_forBits (fun _ _ => cmdLeaves_onLinkedNow fun L => by
          split
          · next hbuf =>
            exact keepsRegs_wr (covered_can c (by omega)) (L.setPending_cmdBlocks c hbuf.1 true)
          · exact L.keepsRegs_refl _) v
      · split at h
        · cases h
          refine State.cmdLeaves_trans (cmdLeaves_forBits (fun _ _ => cmdLeaves_onLinkedNow fun L => ?_) v) State.cmdLeaves_fresh
          split
          · exact L.keepsRegs_refl _
          · exact keepsRegs_ite (keepsRegs_same ((L.updCan_frame c _).1 .regs (by decide))) (L.setPending_cmdBlocks c (by omega) false)
        · cases h

theorem State.cmdLeaves_trigger {a : Nat} {v : Word} (h : s.trigger l a v = some t) : s.cmdLeaves l t := by
  unfold State.trigger at h
  split at h
  case h_1 =>
    cases h
    exact cmdLeaves_onLaneNow fun L => keepsRegs_ite (L.request_cmdBlocks _) L.refuseWrite_cmdBlocks
  case h_2 => cases h; exact State.cmdLeaves_writeFcAck v
  case h_3 =>
    cases h
    exact cmdLeaves_onLane fun L => keepsRegs_ite (L.raise_cmdBlocks (BitVec.isLt _) _) (L.raise_cmdBlocks (by decide) _)
  case h_4 => cases h; exact cmdLeaves_onLaneNow fun L => keepsRegs_ite (keepsRegs_same rfl) (L.keepsRegs_refl _)
  case h_5 => cases h; exact cmdLeaves_onLaneNow fun L => keepsRegs_ite (L.wr_cmdBlocks _ (by decide)) (L.keepsRegs_refl _)
  case h_6 =>
    cases h
    exact State.cmdLeaves_ite (cmdLeaves_onLane fun L => keepsRegs_ite (L.post_cmdBlocks _) (L.keepsRegs_refl _)) State.cmdLeaves_refl
  case h_7 =>
    cases h
    exact cmdLeaves_onLaneNow fun L => keepsRegs_ite (keepsRegs_ite (keepsRegs_same ((L.startPulse_frame _).1 .regs (by decide)))
      (L.keepsRegs_refl _)) L.refuseWrite_cmdBlocks
  case h_8 => cases h; exact State.cmdLeaves_writeSafeReq v
  case h_9 =>
    cases h
    exact cmdLeaves_onLinked fun L => keepsRegs_ite (keepsRegs_same ((L.postTx_frame ..).1 .regs (by decide))) (L.keepsRegs_refl _)
  case h_10 => cases h; exact cmdLeaves_onLinkedNow fun L => keepsRegs_same rfl
  case h_11 => cases h; exact State.cmdLeaves_writeAuxCmd v
  case h_12 => cases h; exact State.cmdLeaves_updLane (LaneSt.mbxPost_cmdBlocks _ v)
  case h_13 =>
    cases h
    exact cmdLeaves_onLaneNow fun L => keepsRegs_ite (keepsRegs_wr (by decide) (L.wr_cmdBlocks _ (by decide))) (L.keepsRegs_refl _)
  case h_14 => cases h; exact State.cmdLeaves_updLane (LaneSt.mbxCrook_cmdBlocks _ l v)
  case h_15 =>
    split at h
    · exact State.cmdLeaves_canTrigger h
    · cases h

/-! ### A register write as a whole -/

theorem State.regWrite_isSplit (s : State) (l : Lane) (a : Nat) (v sets : Word) :
    ((s.regWrite l a v sets).lane l).isSplit = (s.lane l).isSplit := by
  have hupd : ∀ f : LaneSt → LaneSt, (f (s.lane l)).isSplit = (s.lane l).isSplit → ((s.updLane l f).lane l).isSplit = (s.lane l).isSplit :=
    fun f hf => (congrArg LaneSt.isSplit (State.lane_updLane_self ..)).trans hf
  unfold State.regWrite
  split
  · exact hupd _ (((s.lane l).raise_cmdBlocks (by decide) _).isSplit (by decide))
  · split
    · rfl
    · split
      · rfl
      · next hrow =>
        split
        · next ht => exact (State.cmdLeaves_trigger ht).isSplit (by decide)
        · exact hupd _ ((s.lane l).plainWrite_isSplit l hrow v sets)

/-- Nor does it reach the core. -/
theorem State.regWrite_core (s : State) (l o : Lane) (a : Nat) (v sets : Word) : ((s.regWrite l a v sets).lane o).core = (s.lane o).core :=
  State.meets_regWrite (P := fun k c => c = (s.lane k).core) a v sets (fun _ => rfl) o

end
end Sys2Proof.Machine

/-! ## Lamb beside the lead (R114 to R119, R128, R139) -/
namespace Sys2Proof.Machine

section
open LaneSt
variable {s t : State} {l : Lane}

/-! ### Stores -/

theorem State.inStep_updLane {f : LaneSt → LaneSt} (hf : (f (s.lane l)).inStep) : ((s.updLane l f).lane l).inStep := by
  rw [State.lane_updLane_self]
  exact hf

theorem State.inStep_busStore {w : Width} {a : Nat} {v : Word} (h : s.busStore l w a v = some t) (hs : (s.lane l).inStep) :
    (t.lane l).inStep := by
  unfold State.busStore at h
  split at h
  · cases h
  · split at h
    · cases h
      exact State.inStep_updLane (hs.congr (by simp) (by simp))
    · split at h
      · cases h
        exact hs.congr (s.regWrite_isSplit l a v 0) (congrArg CoreSt.cpu (s.regWrite_core l l a v 0))
      · cases h

theorem State.inStep_storeInstr (w : Width) (fp : Bool) (rs1 rs2 : Nat) (off : Word) (len : Nat) (u : Upset) (hs : (s.lane l).inStep) :
    ((s.storeInstr l w fp rs1 rs2 off len u).lane l).inStep := by
  unfold State.storeInstr
  extract_lets L a v A
  have hA : (A.lane l).inStep := State.inStep_updLane (hs.storeAgree ..)
  have hB : ((A.updLane l LaneSt.scbTake).lane l).inStep :=
    State.inStep_updLane (hA.congr (by simp [LaneSt.scbTake]) rfl)
  split
  · exact hA
  · split
    · exact State.inStep_updLane (hB.accessTrap ..)
    · next ht => exact State.inStep_updLane ((State.inStep_busStore ht hB).retire len)

/-! ### An instruction -/

theorem State.inStep_runInstr (i : CoreInstr) (u : Upset) (q : IssueIn) (hs : (s.lane l).inStep) :
    ((s.runInstr l i u q).lane l).inStep := by
  unfold State.runInstr
  extract_lets A L h B
  have hA : (A.lane l).inStep := State.inStep_updLane (hs.issue i q)
  have hB : (B.lane l).inStep := by
    unfold B
    split
    · exact State.inStep_updLane (hA.raise (by decide) _)
    · exact hA
  split
  · exact State.inStep_updLane (hA.mismatch (by decide) ..)
  · split
    · exact State.inStep_updLane (hA.eccDouble ..)
    · split
      · exact State.inStep_storeInstr _ _ _ _ _ _ _ hB
      · exact State.inStep_storeInstr _ _ _ _ _ _ _ hB
      · exact State.inStep_updLane (hB.laneInstr ..)

theorem LaneSt.inStep.halt {L : LaneSt} (h : L.inStep) (l : Lane) : (L.halt l).inStep := by
  refine h.congr ?_ ?_
  · exact LaneSt.keepsRegs.isSplit (rs := resyncRegs) (keepsRegs_of_regs rfl L.enterResync_regs) (by decide)
  · change L.enterResync.core.cpu = _
    rw [L.enterResync_frame.core (by decide)]

theorem LaneSt.takeInterrupt_complements {L : LaneSt} (h : L.inStep) (cause : Nat) : (L.takeInterrupt cause).core.cpu.complements := by
  have htrap : (L.trap (0x80000000#32 ||| BitVec.ofNat 32 cause) 0#32).core.cpu.complements := (h.trap _ _).2
  unfold LaneSt.takeInterrupt
  extract_lets c M
  split
  · exact htrap
  · exact h.2

/-! ### The Shepherd core -/

/-- The Shepherd core runs as its own lane: its registers are the core's. -/
theorem LaneSt.asShepherd_inStep {L : LaneSt} (h : L.core.shep.complements) : L.asShepherd.inStep := by
  refine ⟨?_, h⟩
  change (L.put Reg.DBG_CHK_STAT_CORE_MODE false).isSplit = false
  rw [LaneSt.isSplit, LaneSt.on, LaneSt.put, LaneSt.rd_wr_self _ _ _ (by decide)]
  rfl

theorem LaneSt.inStep.shepInstr {L : LaneSt} (h : L.inStep) (i : CoreInstr) (u : Upset) : (L.shepInstr i u).inStep := by
  have hstore : ∀ {w rs1 rs2 off}, (L.storeAgree w false rs1 rs2 off u).inStep := h.storeAgree ..
  have htake : ∀ M : LaneSt, M.inStep → M.scbTake.inStep := fun M hM => hM.congr (by simp [LaneSt.scbTake]) rfl
  refine inStep.ite (h.mismatch (by decide) ..) ?_
  cases i with
  | fpu | fmvToInt | fmvFromInt | loadF | storeF | lr | sc | amo => exact h.trap ..
  | load w sg rd rs1 off len => exact inStep.ite (h.accessTrap ..) (h.laneInstr _ u)
  | store w rs1 rs2 off len =>
    have hB := htake _ (hstore (w := w) (rs1 := rs1) (rs2 := rs2) (off := off))
    exact inStep.ite hstore (inStep.ite (hB.accessTrap ..) (inStep.retire (inStep.ite (hB.congr (by simp) (by simp)) hB) len))
  | alu | aluImm | lui | auipc | jal | jalr | branch | muldiv | csr | mret | fence | ecall | ebreak => exact h.laneInstr _ u

theorem LaneSt.haltCores_shep (L : LaneSt) (id : Nat) : ((L.haltCores.raise id).openMask 0).core.shep = L.core.shep := by
  rw [LaneSt.openMask_core, LaneSt.raise_core]
  rfl

theorem LaneSt.runShepherd_complements {L : LaneSt} (h : L.core.shep.complements) (i : CoreInstr) (u : Upset) :
    (L.runShepherd i u).core.shep.complements := by
  have hhalted : ∀ id, ((L.haltCores.raise id).openMask 0).core.shep.complements := fun id => by
    rw [LaneSt.haltCores_shep]
    exact h
  unfold LaneSt.runShepherd
  extract_lets M
  have hM : M.core.cpu.complements := ((LaneSt.asShepherd_inStep h).shepInstr i u).2
  split
  · exact hhalted _
  · split
    · exact hhalted _
    · rw [LaneSt.raiseIf_core]
      exact hM

/-! ### The commands -/

theorem execCheckedInstruction_complements (i : CoreInstr) (u : Upset) (q : IssueIn) (hs : (s.lane l).inStep) :
    ((outState s (execCheckedInstruction l .main i u q s)).lane l).inStep := by
  have hrun : ((s.runInstr l i u q).lane l).inStep := State.inStep_runInstr i u q hs
  have hhalt : ((s.updLane l fun L => L.halt l).lane l).inStep := State.inStep_updLane (hs.halt l)
  unfold execCheckedInstruction
  rw [if_neg (by decide), outState, State.onHart, if_pos (by decide)]
  dsimp only
  split
  · split
    · split
      · exact hhalt
      · exact State.inStep_runInstr i u q hhalt
    · exact hrun
  · exact hs

end

/-- Settles O56: each of Lamb's rules yields the complement of the lead's result, so that every step of an instruction keeps the copies
complementary or halts them as they are; and each command leaves the queues empty. Which CSRs and instructions there are is log entry 8's
choice, and that an instruction completes with both queues empty is log entry 93's. -/
theorem lambHoldsComplements : Obligations.LambHoldsComplements := by
  refine ⟨fun na nb => ⟨rfl, rfl, rfl, rfl, rfl, rfl⟩, lambOp_not, lambBr_not, lambUnit_not, lambFpu_not, lambExt_not, ?_, ?_, ?_, ?_⟩
  · intro s l i u q hsplit hc
    exact ⟨_, rfl, (execCheckedInstruction_complements i u q ⟨hsplit, hc⟩).2⟩
  · intro s l i u q hc
    refine ⟨_, rfl, ?_⟩
    change ((s.updLane l _).lane l).core.shep.complements
    rw [State.lane_updLane_self]
    split
    · exact LaneSt.runShepherd_complements hc i u
    · exact hc
  · intro s l c hsplit hc
    refine laneRuns_updLane (f := fun L => if L.runs && !L.core.debug then L.takeInterrupt c else L) rfl ?_
    split
    · exact LaneSt.takeInterrupt_complements ⟨hsplit, hc⟩ c
    · exact hc
  · exact fun s t hs hstep => step_drained hs hstep

end Sys2Proof.Machine

/-! ## What an instruction writes (R110, R114, R121, R123)

What each of the core's writes leaves of the lead's registers, program counter and CSRs; and what an instruction does when its copies agree. -/
namespace Sys2Proof.Machine

/-! ### The lead after each write -/

section
variable (L : LaneSt)

@[simp] theorem LaneSt.goto_pc (pc npc : Word) : (L.goto pc npc).core.cpu.pc = pc := rfl

@[simp] theorem LaneSt.goto_getX (pc npc : Word) (fp : Bool) (n : Nat) : (L.goto pc npc).core.cpu.getX fp n = L.core.cpu.getX fp n := rfl

@[simp] theorem LaneSt.retire_pc (len : Nat) : (L.retire len).core.cpu.pc = L.core.cpu.pc + BitVec.ofNat 32 len := rfl

@[simp] theorem LaneSt.retire_getX (len : Nat) (fp : Bool) (n : Nat) : (L.retire len).core.cpu.getX fp n = L.core.cpu.getX fp n := rfl

@[simp] theorem LaneSt.retire_csrAt (len k : Nat) : (L.retire len).core.cpu.csrAt k = L.core.cpu.csrAt k := rfl

@[simp] theorem LaneSt.retire_instret (len : Nat) : (L.retire len).core.instret = L.core.instret + 1 := rfl

@[simp] theorem LaneSt.retire_halted (len : Nat) : (L.retire len).core.halted = L.core.halted := rfl

@[simp] theorem LaneSt.retire_resv (len : Nat) : (L.retire len).core.resv = L.core.resv := rfl

@[simp] theorem LaneSt.putReg_pc (fp : Bool) (n : Nat) (v nv : Word) : (L.putReg fp n v nv).core.cpu.pc = L.core.cpu.pc := by
  simp only [LaneSt.putReg, LaneSt.updCpu, LaneSt.updCore, apply_ite Hart.pc, Hart.pc_putX, Hart.pc_putN, ite_self]

@[simp] theorem LaneSt.putReg_instret (fp : Bool) (n : Nat) (v nv : Word) : (L.putReg fp n v nv).core.instret = L.core.instret := rfl

@[simp] theorem LaneSt.putReg_halted (fp : Bool) (n : Nat) (v nv : Word) : (L.putReg fp n v nv).core.halted = L.core.halted := rfl

theorem LaneSt.putReg_getX_self (fp : Bool) (n : Nat) (v nv : Word) :
    (L.putReg fp n v nv).core.cpu.getX fp n = if fp = false ∧ n = 0 then 0#32 else v := by
  simp only [LaneSt.putReg, LaneSt.updCpu, LaneSt.updCore, apply_ite (Hart.getX · fp n), Hart.getX_putN, Hart.getX_putX_self, ite_self]

theorem LaneSt.putReg_getX_ne {fp gp : Bool} {n m : Nat} (h : gp ≠ fp ∨ m ≠ n) (v nv : Word) :
    (L.putReg fp n v nv).core.cpu.getX gp m = L.core.cpu.getX gp m := by
  simp only [LaneSt.putReg, LaneSt.updCpu, LaneSt.updCore, apply_ite (Hart.getX · gp m), Hart.getX_putN,
    Hart.getX_putX_ne _ _ _ _ _ _ h, ite_self]

@[simp] theorem LaneSt.putCsr_pc (k : Nat) (v nv : Word) : (L.putCsr k v nv).core.cpu.pc = L.core.cpu.pc := by
  simp only [LaneSt.putCsr, LaneSt.updCpu, LaneSt.updCore, Hart.putCsr, Hart.putNcsr, apply_ite Hart.pc, ite_self]

@[simp] theorem LaneSt.putCsr_getX (k : Nat) (v nv : Word) (fp : Bool) (n : Nat) :
    (L.putCsr k v nv).core.cpu.getX fp n = L.core.cpu.getX fp n := by
  unfold LaneSt.putCsr LaneSt.updCpu LaneSt.updCore
  dsimp only
  split <;> rfl

@[simp] theorem LaneSt.putCsr_instret (k : Nat) (v nv : Word) : (L.putCsr k v nv).core.instret = L.core.instret := rfl

theorem LaneSt.putCsr_csrAt (k : Nat) (v nv : Word) (j : Nat) :
    (L.putCsr k v nv).core.cpu.csrAt j = if j = k then v else L.core.cpu.csrAt j := by
  rw [← Hart.csrAt_putCsr]
  unfold LaneSt.putCsr LaneSt.updCpu LaneSt.updCore
  dsimp only
  split <;> rfl

/-- Where a trap goes (log entry 8): the handler's base, and beside it for an interrupt in vectored mode. -/
def LaneSt.trapPc (cause : Word) : Word :=
  let tv := L.core.cpu.csrAt 0x305
  if cause.getLsbD 31 && tv.getLsbD 0 then (tv &&& 0xFFFFFFFC#32) + 4#32 * (cause &&& 0x7FFFFFFF#32) else tv &&& 0xFFFFFFFC#32

/-- MSTATUS in the handler: interrupts off, and whether they were on before (log entry 8). -/
def LaneSt.trapStatus : Word := if (L.core.cpu.csrAt 0x300).getLsbD 3 then 0x80#32 else 0#32

/-- The trap's CSRs, each with its complement. -/
def LaneSt.trapCsrs (cause tval : Word) : LaneSt :=
  (((L.putCsr 0x341 L.core.cpu.pc (~~~L.core.cpu.pc)).putCsr 0x342 cause (~~~cause)).putCsr 0x343 tval (~~~tval)).putCsr 0x300
    L.trapStatus (~~~L.trapStatus)

theorem LaneSt.trap_eq (cause tval : Word) :
    L.trap cause tval = ((L.trapCsrs cause tval).goto (L.trapPc cause) (~~~(L.trapPc cause))).updCore fun c => { c with resv := none } := rfl

theorem LaneSt.trap_pc (cause tval : Word) : (L.trap cause tval).core.cpu.pc = L.trapPc cause := rfl

@[simp] theorem LaneSt.trap_getX (cause tval : Word) (fp : Bool) (n : Nat) :
    (L.trap cause tval).core.cpu.getX fp n = L.core.cpu.getX fp n := by
  rw [LaneSt.trap_eq]
  change (L.trapCsrs cause tval).core.cpu.getX fp n = _
  simp only [LaneSt.trapCsrs, LaneSt.putCsr_getX]

theorem LaneSt.trap_csrAt (cause tval : Word) (k : Nat) : (L.trap cause tval).core.cpu.csrAt k =
    if k = 0x300 then L.trapStatus else if k = 0x343 then tval else if k = 0x342 then cause else if k = 0x341 then L.core.cpu.pc
    else L.core.cpu.csrAt k := by
  rw [LaneSt.trap_eq]
  change (L.trapCsrs cause tval).core.cpu.csrAt k = _
  simp only [LaneSt.trapCsrs, LaneSt.putCsr_csrAt]

@[simp] theorem LaneSt.trap_mepc (cause tval : Word) : (L.trap cause tval).core.cpu.csrAt 0x341 = L.core.cpu.pc := by
  simp [LaneSt.trap_csrAt]

@[simp] theorem LaneSt.trap_mcause (cause tval : Word) : (L.trap cause tval).core.cpu.csrAt 0x342 = cause := by
  simp [LaneSt.trap_csrAt]

@[simp] theorem LaneSt.trap_mtval (cause tval : Word) : (L.trap cause tval).core.cpu.csrAt 0x343 = tval := by
  simp [LaneSt.trap_csrAt]

@[simp] theorem LaneSt.trap_mstatus (cause tval : Word) : (L.trap cause tval).core.cpu.csrAt 0x300 = L.trapStatus := by
  simp [LaneSt.trap_csrAt]

end

/-! ### Copies that agree -/

section
variable {L : LaneSt}

/-- What is compared agrees, or the harts are apart. -/
theorem LaneSt.compare_agrees {v nv : Word} (h : L.isSplit = true ∨ nv = ~~~v) (id cls : Nat) (f : LaneSt → LaneSt) :
    L.compare id cls v nv f = f L := by
  rw [LaneSt.compare, if_pos]
  rcases h with h | h
  · rw [h, Bool.true_or]
  · rw [h, BitVec.not_not, BEq.rfl, Bool.or_true]

/-- Complements that nothing disturbs agree. -/
theorem LaneSt.compare_undisturbed {m : Word} (hm : m = 0#32) (id cls : Nat) (v : Word) (f : LaneSt → LaneSt) :
    L.compare id cls v (~~~v ^^^ m) f = f L :=
  LaneSt.compare_agrees (.inr (by rw [hm, BitVec.xor_zero])) ..

theorem LaneSt.writeBack_agrees {v nv : Word} {u : Upset} (hu : upResult u = 0#32) (h : L.isSplit = true ∨ nv = ~~~v) (cls : Nat)
    (fp : Bool) (rd : Nat) (f : LaneSt → LaneSt) : L.writeBack cls fp rd v nv u f = f (L.putReg fp rd v nv) := by
  unfold LaneSt.writeBack
  rw [hu, BitVec.xor_zero]
  exact LaneSt.compare_agrees h ..

/-- What is compared differs. -/
theorem LaneSt.compare_differs {v m : Word} (h : L.isSplit = false) (hm : m ≠ 0#32) (id cls : Nat) (f : LaneSt → LaneSt) :
    L.compare id cls v (~~~v ^^^ m) f = L.mismatch id cls (bitCount m) := by
  have hne : ~~~(~~~v ^^^ m) = v ^^^ m := by rw [BitVec.not_xor_left, BitVec.not_not]
  have hdiff : v ^^^ m ^^^ v = m := by rw [BitVec.xor_comm v m, BitVec.xor_assoc, BitVec.xor_self, BitVec.xor_zero]
  rw [LaneSt.compare, hne, hdiff, if_neg]
  rw [h, Bool.false_or, beq_iff_eq]
  intro heq
  rw [heq, BitVec.xor_self] at hdiff
  exact hm hdiff.symm

end
end Sys2Proof.Machine

/-! ## An instruction of the control core (R110 to R130)

How the command runs one instruction of a core that is checked: a store in the state, any other in its lane. -/
namespace Sys2Proof.Machine

theorem State.updLane_updLane (s : State) (l : Lane) (f g : LaneSt → LaneSt) :
    (s.updLane l f).updLane l g = s.updLane l fun L => g (f L) := by
  cases l <;> rfl

theorem State.updLane_congr {s : State} {l : Lane} {f g : LaneSt → LaneSt} (h : f (s.lane l) = g (s.lane l)) :
    s.updLane l f = s.updLane l g := by
  cases l
  · exact congrArg (fun L => ({ s with lanes := ⟨L, s.lanes.b, s.lanes.c⟩ } : State)) h
  · exact congrArg (fun L => ({ s with lanes := ⟨s.lanes.a, L, s.lanes.c⟩ } : State)) h
  · exact congrArg (fun L => ({ s with lanes := ⟨s.lanes.a, s.lanes.b, L⟩ } : State)) h

theorem LaneSt.classOf_congr {L M : LaneSt} (h : M.core.cpu = L.core.cpu) (i : CoreInstr) : M.classOf i = L.classOf i := by
  unfold LaneSt.classOf LaneSt.leadAddr
  rw [h]

theorem LaneSt.readOf_congr {L M : LaneSt} (h : M.core.cpu = L.core.cpu) (i : CoreInstr) : M.readOf i = L.readOf i := by
  unfold LaneSt.readOf LaneSt.leadAddr
  rw [h]

/-- An instruction's issue only counts. -/
theorem LaneSt.issue_counts (L : LaneSt) (i : CoreInstr) (q : IssueIn) : ∃ x y n : Nat,
    L.issue i q = L.updCore fun c => { c with lvqHigh := x, scbHigh := y, stalled := n } := by
  have hsame : ∃ x y n : Nat, L = L.updCore fun c => { c with lvqHigh := x, scbHigh := y, stalled := n } :=
    ⟨L.core.lvqHigh, L.core.scbHigh, L.core.stalled, rfl⟩
  unfold LaneSt.issue
  split
  · exact hsame
  · cases i
    case load | loadF => exact ⟨_, L.core.scbHigh, _, rfl⟩
    case store | storeF | lr | sc | amo => exact ⟨L.core.lvqHigh, _, _, rfl⟩
    all_goals exact hsame

/-- The lane as its instruction has been issued: all but the counters of the core is as it was. -/
structure LaneSt.issued (L M : LaneSt) : Prop where
  keeps : L.keeps [.core] M
  cpu : M.core.cpu = L.core.cpu
  resv : M.core.resv = L.core.resv
  instret : M.core.instret = L.core.instret
  halted : M.core.halted = L.core.halted
  mismatch : M.core.mismatch = L.core.mismatch
  lvq : M.core.lvq = L.core.lvq
  scb : M.core.scb = L.core.scb
  shep : M.core.shep = L.core.shep
  cpu2 : M.core.cpu2 = L.core.cpu2

theorem LaneSt.issue_issued (L : LaneSt) (i : CoreInstr) (q : IssueIn) : L.issued (L.issue i q) := by
  obtain ⟨x, y, n, h⟩ := L.issue_counts i q
  rw [h]
  exact ⟨(L.updCore_frame _).1, rfl, rfl, rfl, rfl, rfl, rfl, rfl, rfl, rfl⟩

/-- A store is run in the state, for it may be a register's write; any other instruction in its lane. -/
def isStore : CoreInstr → Bool
  | .store _ _ _ _ _ | .storeF _ _ _ _ => true
  | _ => false

section
variable {s : State} {l : Lane} {i : CoreInstr} {u : Upset} {q : IssueIn} {P : LaneSt → Prop}

theorem LaneSt.checks.inStep {L : LaneSt} (h : L.checks l i) : L.inStep := by
  obtain ⟨_, _, _, _, hsplit, _, hc⟩ := h
  exact ⟨hsplit, hc⟩

theorem LaneSt.checks.halted {L : LaneSt} (h : L.checks l i) : L.core.halted = false := by
  obtain ⟨_, _, hrun, _, _, _, _⟩ := h
  exact LaneSt.runs_halted hrun

theorem LaneSt.checks.drained {L : LaneSt} (h : L.checks l i) : L.drained := by
  obtain ⟨hlvq, hscb, _, _, _, _, _⟩ := h
  exact ⟨hlvq, hscb⟩

theorem exec_checked (h : (s.lane l).checks l i) : exec (.checkedInstruction l .main i u q) s = .next (s.runInstr l i u q) := by
  obtain ⟨_, _, hrun, hdebug, _, htrig, _⟩ := h
  have hgo : ((s.lane l).runs && !(s.lane l).core.debug) = true := by rw [hrun, hdebug]; rfl
  have hmain : (CoreSel.main == CoreSel.main && (s.lane l).triggered l i) = true ↔ False := by simp [htrig]
  change execCheckedInstruction l .main i u q s = _
  rw [execCheckedInstruction, if_neg (by decide), State.onHart, if_pos (by decide)]
  dsimp only
  rw [if_pos hgo, if_neg hmain.mp]

/-- The copies agree where the instruction is. -/
theorem LaneSt.inStep.flows {L : LaneSt} (h : L.inStep) (hu : u ≠ .flow) :
    ¬(!L.isSplit && (decide (u = .flow) || ~~~L.core.cpu.npc != L.core.cpu.pc)) = true := by
  have hpc : ~~~L.core.cpu.npc = L.core.cpu.pc := by rw [h.2.1, BitVec.not_not]
  simp [hu, hpc]

theorem State.inStep_issue (h : (s.lane l).inStep) : ((s.updLane l fun L => L.issue i q).lane l).inStep := by
  rw [State.lane_updLane_self]
  exact h.issue i q

theorem State.runInstr_flow (h : (s.lane l).inStep) :
    s.runInstr l i .flow q = s.updLane l fun L => (L.issue i q).mismatch 0x0102 ((s.lane l).classOf i) 0 := by
  have hclass : ((s.lane l).issue i q).classOf i = (s.lane l).classOf i := LaneSt.classOf_congr ((s.lane l).issue_issued i q).cpu i
  have hsplit : (((s.updLane l fun L => L.issue i q).lane l).isSplit) = false := (State.inStep_issue h).1
  unfold State.runInstr
  dsimp only
  rw [if_pos (by rw [hsplit]; rfl), State.updLane_updLane]
  exact State.updLane_congr (congrArg (LaneSt.mismatch _ 0x0102 · 0) hclass)

theorem State.runInstr_eccDouble (h : (s.lane l).inStep) (f : Bool) :
    s.runInstr l i (.eccDouble f) q = s.updLane l fun L => (L.issue i q).eccDouble i f := by
  have hf : (Upset.eccDouble f == .eccDouble true) = f := by cases f <;> rfl
  unfold State.runInstr
  dsimp only
  rw [if_neg ((State.inStep_issue h).flows (by simp)), if_pos (by cases f <;> simp), State.updLane_updLane, hf]

/-- Before its execution. -/
def State.beforeRun (s : State) (l : Lane) (i : CoreInstr) (u : Upset) (q : IssueIn) : State :=
  let s := s.updLane l fun L => L.issue i q
  if u = .eccSingle then s.updLane l fun L => L.raise 0x010A else s

theorem State.runInstr_lane (h : (s.lane l).inStep) (hi : isStore i = false) (hflow : u ≠ .flow) (hecc : ∀ f, u ≠ .eccDouble f) :
    s.runInstr l i u q = (s.beforeRun l i u q).updLane l fun L => L.laneInstr i u := by
  unfold State.runInstr
  dsimp only
  rw [if_neg ((State.inStep_issue h).flows hflow), if_neg (by simp [hecc])]
  cases i <;> first | rfl | cases hi

theorem State.beforeRun_quiet (h : u ≠ .eccSingle) : s.beforeRun l i u q = s.updLane l fun L => L.issue i q := by
  unfold State.beforeRun
  rw [if_neg h]

theorem State.runInstr_store (h : (s.lane l).inStep) (hflow : u ≠ .flow) (hecc : ∀ f, u ≠ .eccDouble f) (hsingle : u ≠ .eccSingle)
    (w : Width) (rs1 rs2 : Nat) (off : Word) (len : Nat) :
    s.runInstr l (.store w rs1 rs2 off len) u q =
      (s.updLane l fun L => L.issue (.store w rs1 rs2 off len) q).storeInstr l w false rs1 rs2 off len u := by
  unfold State.runInstr
  dsimp only
  rw [if_neg ((State.inStep_issue h).flows hflow), if_neg (by simp [hecc]), if_neg hsingle]

/-- An instruction of a checked core other than a store: what holds of its lane after it. -/
theorem laneRuns_instr (h : (s.lane l).checks l i) (hi : isStore i = false) (hflow : u ≠ .flow) (hecc : ∀ f, u ≠ .eccDouble f)
    (hsingle : u ≠ .eccSingle) (hP : P (((s.lane l).issue i q).laneInstr i u)) : LaneRuns (.checkedInstruction l .main i u q) s l P :=
  laneRuns_updLane (f := fun L => (L.issue i q).laneInstr i u)
    (by rw [exec_checked h, State.runInstr_lane h.inStep hi hflow hecc, State.beforeRun_quiet hsingle, State.updLane_updLane]) hP

theorem laneRuns_flow (h : (s.lane l).checks l i) (hP : P (((s.lane l).issue i q).mismatch 0x0102 ((s.lane l).classOf i) 0)) :
    LaneRuns (.checkedInstruction l .main i .flow q) s l P :=
  laneRuns_updLane (by rw [exec_checked h, State.runInstr_flow h.inStep]) hP

theorem laneRuns_eccDouble (h : (s.lane l).checks l i) (f : Bool) (hP : P (((s.lane l).issue i q).eccDouble i f)) :
    LaneRuns (.checkedInstruction l .main i (.eccDouble f) q) s l P :=
  laneRuns_updLane (by rw [exec_checked h, State.runInstr_eccDouble h.inStep]) hP

end
end Sys2Proof.Machine

/-! ## Loads (R121 to R125) -/
namespace Sys2Proof.Machine

section
variable {L M : LaneSt}

theorem LaneSt.busRead_congr (h : L.keeps [.core] M) (w : Width) (a : Nat) : M.busRead w a = L.busRead w a := by
  have hmem : M.mem = L.mem := h .mem (by decide)
  have hregs : M.regs = L.regs := h .regs (by decide)
  have hsnap : M.snap = L.snap := h .snap (by decide)
  have hbytes : ∀ b n, M.bytes b n = L.bytes b n := fun b n => by simp only [LaneSt.bytes, LaneSt.byte, hmem]
  have hreg : ∀ b, M.reg b = L.reg b := fun b => by rw [LaneSt.reg, LaneSt.reg, hregs]
  have hread : ∀ b, M.regRead b = L.regRead b := fun b => by simp only [LaneSt.regRead, LaneSt.snapReg, LaneSt.reg, hregs, hsnap]
  rw [LaneSt.busRead, LaneSt.busRead, hbytes, hreg, hread]

theorem LaneSt.leadAddr_congr (h : M.core.cpu = L.core.cpu) (rs1 : Nat) (off : Word) : M.leadAddr rs1 off = L.leadAddr rs1 off := by
  rw [LaneSt.leadAddr, LaneSt.leadAddr, h]

/-- The lane after a load of the word `raw`, which stood in the queue from one copy's execution to the other's (R121). -/
def LaneSt.loaded (L : LaneSt) (a : Word) (w : Width) (raw : Word) (fp : Bool) (rd : Nat) (v : Word) (len : Nat) : LaneSt :=
  (((L.lvqPut a w raw).putReg fp rd v (~~~v)).lvqTake).retire len

theorem LaneSt.loadInstr_agrees (h : L.inStep) (hd : L.drained) {w : Width} {rs1 : Nat} {off raw : Word}
    (hread : L.busRead w (L.leadAddr rs1 off).toNat = some raw) (sg fp : Bool) (rd len : Nat) :
    L.loadInstr w sg fp rd rs1 off len .none = L.loaded (L.leadAddr rs1 off) w raw fp rd (leadExt w sg raw) len := by
  have hfwd : L.forwarded w (L.leadAddr rs1 off) = none := by rw [LaneSt.forwarded, hd.2]; rfl
  unfold LaneSt.loadInstr
  rw [h.lambAddr]
  dsimp only
  rw [LaneSt.compare_undisturbed (rfl : upLoadAddr .none = 0#32), if_neg (by simp), hfwd, hread]
  dsimp only [Option.or_some, Option.none_or]
  rw [LaneSt.compare_undisturbed (rfl : upRead .none = 0#32), lambExt_not, LaneSt.writeBack_agrees rfl (.inr rfl),
    LaneSt.writeBack_agrees rfl (.inr rfl), ite_self]
  rfl

theorem LaneSt.loaded_keeps (L : LaneSt) (a : Word) (w : Width) (raw : Word) (fp : Bool) (rd : Nat) (v : Word) (len : Nat) :
    L.keeps [.core] (L.loaded a w raw fp rd v len) :=
  (LaneSt.frame_step (LaneSt.retire_frame _ len) (by decide) (LaneSt.frame_step (LaneSt.lvqTake_frame _) (by decide)
    (LaneSt.frame_step (LaneSt.putReg_frame _ fp rd v (~~~v)) (by decide) (L.lvqPut_frame a w raw)))).1

theorem LaneSt.loaded_getX (L : LaneSt) (a : Word) (w : Width) (raw : Word) (fp : Bool) (rd : Nat) (v : Word) (len : Nat) :
    (L.loaded a w raw fp rd v len).core.cpu.getX fp rd = if fp = false ∧ rd = 0 then 0#32 else v :=
  (L.lvqPut a w raw).putReg_getX_self fp rd v (~~~v)

theorem LaneSt.keeps_trans {ps : List Part} {N : LaneSt} (h : M.keeps ps N) (h1 : L.keeps ps M) : L.keeps ps N := fun p hp => by
  have hMN := h p hp
  have hLM := h1 p hp
  cases p <;> exact hMN.trans hLM

end

/-- Settles O8: the bus read depends on the registers and the memory, and the load leaves both alone. -/
theorem readsHaveNoSideEffect : Obligations.ReadsHaveNoSideEffect := by
  intro s l w sg rd rs1 off raw len q hc hread
  have hM := (s.lane l).issue_issued (.load w sg rd rs1 off len) q
  have haddr := LaneSt.leadAddr_congr hM.cpu rs1 off
  refine laneRuns_instr hc rfl (by decide) (by simp) (by decide) ?_
  rw [LaneSt.laneInstr, LaneSt.loadInstr_agrees (hc.inStep.issue _ q) (LaneSt.drained_issue hc.drained)
    (by rw [haddr, LaneSt.busRead_congr hM.keeps]; exact hread)]
  have hkeeps := fun a => LaneSt.keeps_trans (LaneSt.loaded_keeps _ a w raw false rd (leadExt w sg raw) len) hM.keeps
  exact ⟨hkeeps _, fun hrd => (LaneSt.loaded_getX ..).trans (if_neg (by simp [hrd])), fun v a => LaneSt.busRead_congr (hkeeps _) v a⟩

end Sys2Proof.Machine

/-! ## A difference halts the core (R116, R121 to R124, R129 to R131, R139) -/
namespace Sys2Proof.Machine

/-- The lane after a difference of source `id`: the cores halt with their record, and what was compared is neither written back nor sent. -/
def LaneSt.haltedBy (old L : LaneSt) (id cls diff : Nat) : Prop :=
  old.keeps (.core :: faultParts) L ∧ old.keepsRegs ([0x40110004, 0x40110008, 0x400F0000] ++ faultRegs) L ∧ L.core.cpu = old.core.cpu ∧
  L.core.halted = true ∧ L.core.mismatch = true ∧ L.core.scb = [] ∧ L.on Reg.MBX_STAT_SHEP_UP = false ∧
  L.rd Reg.DBG_MIS_PC_PC = old.core.cpu.pc.toNat ∧ L.rd Reg.DBG_MIS_INFO_SOURCE = id ∧ L.rd Reg.DBG_MIS_INFO_CLASS = cls ∧
  L.rd Reg.DBG_MIS_INFO_DIFF_CNT = diff ∧ old.reported L id 0xFF

section
open LaneSt
variable {L M : LaneSt}

theorem bitCount_lt (m : Word) : bitCount m < 64 := by
  have hle : bitCount m ≤ 32 := (List.length_filter_le ..).trans (by simp)
  omega

theorem LaneSt.classOf_lt (i : CoreInstr) : L.classOf i < 16 := by
  cases i <;> simp only [LaneSt.classOf] <;> first | decide | (split <;> decide)

/-- The mask that a mismatch opens does not touch the count of its class. -/
theorem LaneSt.openMask_reported {id d : Nat} (b : Nat) (h : L.reported M id d) : L.reported (M.openMask b) id d := by
  have hrd : ∀ f : Fld, f.addr = 0x40010000 + (0x40 + 4 * (id / 256)) → (M.openMask b).rd f = M.rd f := fun f hf =>
    rd_of_keepsRegs (M.openMask_regs b) f (by simp [covered, hf]; omega)
  unfold LaneSt.reported at h ⊢
  rwa [hrd (Reg.FC_CNT_COUNT (id / 256)) rfl, hrd (Reg.FC_CNT_CONSEQ (id / 256)) rfl]

theorem LaneSt.haltCores_shepUp (L : LaneSt) : L.haltCores.on Reg.MBX_STAT_SHEP_UP = false := by
  rw [LaneSt.on, LaneSt.rd_congr (L := L.haltCores) (M := L.put Reg.MBX_STAT_SHEP_UP false) rfl, ← LaneSt.on]
  exact L.on_put_self _ _ (by decide) (by decide)

/-- What the record and the halted cores show, from before the collector is told. -/
theorem LaneSt.recorded_rd (L : LaneSt) {id cls diff : Nat} (hid : id < 65536) (hcls : cls < 16) (hdiff : diff < 64) :
    let M := (L.recorded id cls diff).haltCores
    M.on Reg.MBX_STAT_SHEP_UP = false ∧ M.rd Reg.DBG_MIS_PC_PC = L.core.cpu.pc.toNat ∧ M.rd Reg.DBG_MIS_INFO_SOURCE = id ∧
      M.rd Reg.DBG_MIS_INFO_CLASS = cls ∧ M.rd Reg.DBG_MIS_INFO_DIFF_CNT = diff := by
  intro M
  have hM : ∀ f : Fld, covered [0x400F0000] f.addr = false → M.rd f = (L.recorded id cls diff).rd f := fun f hf =>
    rd_of_keepsRegs (L.recorded id cls diff).haltCores_regs f hf
  have hpc := L.core.cpu.pc.isLt
  refine ⟨(L.recorded id cls diff).haltCores_shepUp, ?_, ?_, ?_, ?_⟩
  · rw [hM _ (by decide), LaneSt.recorded, LaneSt.rd_wr_apart _ _ _ _ (by decide), LaneSt.rd_wr_apart _ _ _ _ (by decide),
      LaneSt.rd_wr_apart _ _ _ _ (by decide), LaneSt.rd_wr_self _ _ _ (by decide)]
    exact Nat.mod_eq_of_lt hpc
  · rw [hM _ (by decide), LaneSt.recorded, LaneSt.rd_wr_apart _ _ _ _ (by decide), LaneSt.rd_wr_apart _ _ _ _ (by decide),
      LaneSt.rd_wr_self _ _ _ (by decide)]
    exact Nat.mod_eq_of_lt hid
  · rw [hM _ (by decide), LaneSt.recorded, LaneSt.rd_wr_self _ _ _ (by decide)]
    exact Nat.mod_eq_of_lt hcls
  · rw [hM _ (by decide), LaneSt.recorded, LaneSt.rd_wr_apart _ _ _ _ (by decide), LaneSt.rd_wr_self _ _ _ (by decide)]
    exact Nat.mod_eq_of_lt hdiff

theorem LaneSt.recorded_halt_fc (L : LaneSt) (id cls diff : Nat) :
    ((L.recorded id cls diff).haltCores.updCore CoreSt.mismatched).fc = L.fc := rfl

/-- A mismatch of a lane whose instruction has got as far as its comparison. -/
theorem LaneSt.mismatch_haltedBy (hkeeps : L.keeps [.core] M) (hcpu : M.core.cpu = L.core.cpu) {id cls diff : Nat} (hid : id < 65536)
    (hcls : cls < 16) (hdiff : diff < 64) : L.haltedBy (M.mismatch id cls diff) id cls diff := by
  have hregs : M.regs = L.regs := hkeeps .regs (by decide)
  have hkept : (L.keepsRegs ([0x40110004, 0x40110008, 0x400F0000] ++ faultRegs) (M.mismatch id cls diff)) :=
    keepsRegs_trans (M.mismatch_regs hid cls diff) (keepsRegs_same hregs)
  obtain ⟨hup, hpc, hsource, hclass, hcount⟩ := M.recorded_rd hid hcls hdiff
  let N := (M.recorded id cls diff).haltCores.updCore CoreSt.mismatched
  have hrd : ∀ f : Fld, covered faultRegs f.addr = false → (M.mismatch id cls diff).rd f = (M.recorded id cls diff).haltCores.rd f :=
    fun f hf => (M.mismatch_eq id cls diff ▸ rd_of_keepsRegs (raise_openMask_regs N hid 0) f hf).trans (rd_congr (updCore_regs ..) f)
  have hNregs : L.keepsRegs haltRegs N := keepsRegs_of_regs (updCore_regs ..) (keepsRegs_trans
    (keepsRegs_mono (M.recorded id cls diff).haltCores_regs (by decide)) (keepsRegs_trans (keepsRegs_mono (M.recorded_regs id cls diff) (by decide))
      (keepsRegs_same hregs)))
  have hfc : N.fc = L.fc := (M.recorded_halt_fc id cls diff).trans (hkeeps .fc (by decide))
  have hon : (M.mismatch id cls diff).on Reg.MBX_STAT_SHEP_UP = (M.recorded id cls diff).haltCores.on Reg.MBX_STAT_SHEP_UP := by
    rw [LaneSt.on, LaneSt.on, hrd _ (by decide)]
  refine ⟨keeps_trans (fun p hp => (M.mismatch_frame id cls diff).1 p ?_) (fun p hp => hkeeps p ?_), hkept, ?_, ?_, ?_, ?_, hon.trans hup,
    (hrd _ (by decide)).trans (hpc.trans (by rw [hcpu])), (hrd _ (by decide)).trans hsource, (hrd _ (by decide)).trans hclass,
    (hrd _ (by decide)).trans hcount,
    M.mismatch_eq id cls diff ▸ openMask_reported 0 (reported_before (by decide) hid hNregs hfc (N.raise_reported id 0xFF hid))⟩
  · revert hp; cases p <;> decide
  · revert hp; cases p <;> decide
  · rw [M.mismatch_core]; exact hcpu
  all_goals rw [M.mismatch_core]

end
end Sys2Proof.Machine

/-! ### Where each disturbance shows -/
namespace Sys2Proof.Machine

section
open LaneSt
variable {L : LaneSt} (h : L.inStep) {m : Word}
include h

theorem LaneSt.inStep.lambOp (op : AluOp) (rs1 rs2 : Nat) :
    lambOp op (L.core.cpu.getN false rs1) (L.core.cpu.getN false rs2) =
      ~~~(leadOp op (L.core.cpu.getX false rs1) (L.core.cpu.getX false rs2)) := by
  rw [h.2.getN, h.2.getN, lambOp_not]

theorem LaneSt.inStep.lambUnit (op : MulOp) (rs1 rs2 : Nat) :
    lambUnit op (L.core.cpu.getN false rs1) (L.core.cpu.getN false rs2) =
      ~~~(unitExec op (L.core.cpu.getX false rs1) (L.core.cpu.getX false rs2)) := by
  rw [h.2.getN, h.2.getN, lambUnit_not]

theorem LaneSt.loadQueue_differs (w : Width) (sg fp : Bool) (rd rs1 : Nat) (off : Word) (len : Nat) :
    L.loadInstr w sg fp rd rs1 off len .queue = L.mismatch 0x0108 (if isBlock (L.leadAddr rs1 off).toNat then 8 else 2) 0 := by
  unfold LaneSt.loadInstr
  rw [h.lambAddr]
  dsimp only
  rw [LaneSt.compare_undisturbed (rfl : upLoadAddr .queue = 0#32), if_pos ⟨rfl, by rw [h.1]; rfl⟩]

theorem LaneSt.storeAgree_addressed {u : Upset} (hu : upStoreAddr u = 0#32) (w : Width) (fp : Bool) (rs1 rs2 : Nat) (off : Word) :
    L.storeAgree w fp rs1 rs2 off u =
      let v := L.core.cpu.getX fp rs2 &&& BitVec.ofNat 32 (2 ^ (8 * widthSize w) - 1)
      let A := L.scbPut (L.leadAddr rs1 off) w v
      if u = .storeSize then A.mismatch 0x0103 3 0
      else A.compare 0x0104 3 v ((~~~(L.core.cpu.getX fp rs2) ^^^ upStoreData u) ||| ~~~(BitVec.ofNat 32 (2 ^ (8 * widthSize w) - 1)))
        fun L => L := by
  have hA : ∀ a v, (L.scbPut a w v).isSplit = false := fun a v => (L.scbPut_frame a w v).isSplit (by decide) |>.trans h.1
  unfold LaneSt.storeAgree
  rw [h.lambAddr, h.2.getN]
  dsimp only
  rw [LaneSt.compare_undisturbed hu, hA]
  simp only [Bool.not_false, and_true]

theorem LaneSt.storeSize_differs (w : Width) (fp : Bool) (rs1 rs2 : Nat) (off : Word) : ∃ v,
    L.storeAgree w fp rs1 rs2 off .storeSize = (L.scbPut (L.leadAddr rs1 off) w v).mismatch 0x0103 3 0 := by
  rw [LaneSt.storeAgree_addressed h rfl]
  exact ⟨_, if_pos rfl⟩

/-- A write of MSCRATCH, which takes any word. -/
theorem LaneSt.csrInstr_mscratch {u : Upset} (hu : upResult u = 0#32) {rs1 : Nat} (hrs : rs1 < 32) (rd len : Nat) :
    L.csrInstr .rw rd 0x340 rs1 len u =
      (L.putReg false rd (L.core.cpu.csrAt 0x340) (~~~(L.core.cpu.csrAt 0x340))).compare 0x0107 5 (L.core.cpu.getX false rs1)
        (~~~(L.core.cpu.getX false rs1) ^^^ upCsr u) fun M =>
          (M.putCsr 0x340 (L.core.cpu.getX false rs1) (~~~(~~~(~~~(L.core.cpu.getX false rs1) ^^^ upCsr u)))).retire len := by
  have hn : ~~~(csrView 0x340 (~~~(L.core.cpu.ncsrAt 0x340))) = ~~~(csrView 0x340 (L.core.cpu.csrAt 0x340)) := by
    rw [h.2.ncsrAt, BitVec.not_not]
  have hknown : ¬(!csrKnown 0x340 || (true && decide (0xC00 ≤ 0x340))) = true := by decide
  have hfree : ¬csrSampled 0x340 = true := by decide
  have himm : ¬32 ≤ rs1 := by omega
  have hwrites : (CsrOp.rw == CsrOp.rw || rs1 % 32 != 0) = true := rfl
  have hhome : L.csrHome 0x340 = 0x340 := rfl
  unfold LaneSt.csrInstr
  dsimp only
  rw [hwrites, if_neg hknown, hhome, if_neg hfree, if_neg hfree, if_neg hfree, if_neg himm, if_neg himm, hn, h.2.getN,
    LaneSt.writeBack_agrees hu (.inr rfl)]
  exact if_pos (by decide)

section
variable (hm : m ≠ 0#32)
include hm

theorem LaneSt.writeBack_differs (cls : Nat) (fp : Bool) (rd : Nat) (v : Word) (f : LaneSt → LaneSt) :
    L.writeBack cls fp rd v (~~~v) (.result m) f = L.mismatch 0x0101 cls (bitCount m) := by
  unfold LaneSt.writeBack
  exact LaneSt.compare_differs h.1 hm ..

theorem LaneSt.alu_differs (op : AluOp) (rd rs1 rs2 len : Nat) :
    L.laneInstr (.alu op rd rs1 rs2 len) (.result m) = L.mismatch 0x0101 0 (bitCount m) := by
  rw [LaneSt.laneInstr, h.lambOp, LaneSt.writeBack_differs h hm]

theorem LaneSt.muldiv_differs (op : MulOp) (rd rs1 rs2 len : Nat) :
    L.laneInstr (.muldiv op rd rs1 rs2 len) (.result m) = L.mismatch 0x0101 6 (bitCount m) := by
  rw [LaneSt.laneInstr, h.lambUnit, LaneSt.writeBack_differs h hm]

theorem LaneSt.loadAddr_differs (w : Width) (sg fp : Bool) (rd rs1 : Nat) (off : Word) (len : Nat) :
    L.loadInstr w sg fp rd rs1 off len (.loadAddr m) =
      L.mismatch 0x0106 (if isBlock (L.leadAddr rs1 off).toNat then 8 else 2) (bitCount m) := by
  unfold LaneSt.loadInstr
  rw [h.lambAddr]
  exact LaneSt.compare_differs h.1 hm ..

theorem LaneSt.periphRead_differs (hd : L.drained) {w : Width} {rs1 : Nat} {off raw : Word} (hblock : isBlock (L.leadAddr rs1 off).toNat = true)
    (hread : L.busRead w (L.leadAddr rs1 off).toNat = some raw) (sg fp : Bool) (rd len : Nat) :
    L.loadInstr w sg fp rd rs1 off len (.periphRead m) = (L.lvqPut (L.leadAddr rs1 off) w raw).mismatch 0x0105 8 (bitCount m) := by
  have hfwd : L.forwarded w (L.leadAddr rs1 off) = none := by rw [LaneSt.forwarded, hd.2]; rfl
  have hsplit : (L.lvqPut (L.leadAddr rs1 off) w raw).isSplit = false := ((L.lvqPut_frame ..).isSplit (by decide)).trans h.1
  unfold LaneSt.loadInstr
  rw [h.lambAddr]
  dsimp only
  rw [LaneSt.compare_undisturbed (rfl : upLoadAddr (.periphRead m) = 0#32), if_neg (by simp), hfwd, hread]
  dsimp only [Option.none_or]
  rw [if_pos hblock]
  exact LaneSt.compare_differs hsplit hm ..

theorem LaneSt.atomicPair_addr_differs (rs1 rs2 : Nat) (f : Word → Word → LaneSt → LaneSt) :
    L.atomicPair rs1 rs2 (.storeAddr m) f = L.mismatch 0x0103 4 (bitCount m) := by
  unfold LaneSt.atomicPair
  rw [h.lambAddr]
  exact LaneSt.compare_differs h.1 hm ..

theorem LaneSt.atomicPair_data_differs (rs1 rs2 : Nat) (f : Word → Word → LaneSt → LaneSt) :
    L.atomicPair rs1 rs2 (.storeData m) f = L.mismatch 0x0104 4 (bitCount m) := by
  unfold LaneSt.atomicPair
  rw [h.lambAddr]
  dsimp only
  rw [h.2.getN, LaneSt.compare_undisturbed (rfl : upStoreAddr (.storeData m) = 0#32)]
  exact LaneSt.compare_differs h.1 hm ..

theorem LaneSt.sc_addr_differs (rd rs1 rs2 len : Nat) :
    L.laneInstr (.sc rd rs1 rs2 len) (.storeAddr m) = L.mismatch 0x0103 4 (bitCount m) := by
  rw [LaneSt.laneInstr, LaneSt.scInstr, LaneSt.atomicPair_addr_differs h hm]

theorem LaneSt.sc_data_differs (rd rs1 rs2 len : Nat) :
    L.laneInstr (.sc rd rs1 rs2 len) (.storeData m) = L.mismatch 0x0104 4 (bitCount m) := by
  rw [LaneSt.laneInstr, LaneSt.scInstr, LaneSt.atomicPair_data_differs h hm]

theorem LaneSt.amo_addr_differs (op : AmoOp) (rd rs1 rs2 len : Nat) :
    L.laneInstr (.amo op rd rs1 rs2 len) (.storeAddr m) = L.mismatch 0x0103 4 (bitCount m) := by
  rw [LaneSt.laneInstr, LaneSt.amoInstr, LaneSt.atomicPair_addr_differs h hm]

theorem LaneSt.lr_differs (rd rs1 len : Nat) : L.laneInstr (.lr rd rs1 len) (.storeAddr m) = L.mismatch 0x0103 4 (bitCount m) := by
  rw [LaneSt.laneInstr, LaneSt.lrInstr]
  rw [h.lambAddr]
  exact LaneSt.compare_differs h.1 hm ..

theorem LaneSt.storeAddr_differs (w : Width) (fp : Bool) (rs1 rs2 : Nat) (off : Word) : ∃ v,
    L.storeAgree w fp rs1 rs2 off (.storeAddr m) = (L.scbPut (L.leadAddr rs1 off) w v).mismatch 0x0103 3 (bitCount m) := by
  have hsplit : ∀ v, (L.scbPut (L.leadAddr rs1 off) w v).isSplit = false := fun v => ((L.scbPut_frame ..).isSplit (by decide)).trans h.1
  unfold LaneSt.storeAgree
  rw [h.lambAddr]
  exact ⟨_, LaneSt.compare_differs (hsplit _) hm ..⟩

theorem LaneSt.storeData_differs (fp : Bool) (rs1 rs2 : Nat) (off : Word) : ∃ v,
    L.storeAgree .word fp rs1 rs2 off (.storeData m) = (L.scbPut (L.leadAddr rs1 off) .word v).mismatch 0x0104 3 (bitCount m) := by
  have hsplit : ∀ v, (L.scbPut (L.leadAddr rs1 off) .word v).isSplit = false := fun v => ((L.scbPut_frame ..).isSplit (by decide)).trans h.1
  rw [LaneSt.storeAgree_addressed h rfl]
  dsimp only
  rw [if_neg (by simp), show BitVec.ofNat 32 (2 ^ (8 * widthSize .word) - 1) = BitVec.allOnes 32 from rfl, BitVec.and_allOnes,
    BitVec.not_allOnes, BitVec.or_zero]
  exact ⟨_, LaneSt.compare_differs (hsplit _) hm ..⟩

/-- A write of MSCRATCH that reads nothing. -/
theorem LaneSt.csrWrite_differs {rs1 : Nat} (hrs : rs1 < 32) (len : Nat) : ∃ v,
    L.csrInstr .rw 0 0x340 rs1 len (.csrWrite m) = (L.putReg false 0 v (~~~v)).mismatch 0x0107 5 (bitCount m) := by
  rw [LaneSt.csrInstr_mscratch h rfl hrs]
  exact ⟨_, LaneSt.compare_differs ((LaneSt.putReg_isSplit ..).trans h.1) hm ..⟩

end
end
end Sys2Proof.Machine

/-! ### The instructions of a core that halts -/
namespace Sys2Proof.Machine

section
open LaneSt
variable {s : State} {l : Lane} {i : CoreInstr} {u : Upset} {q : IssueIn}

/-- A lane that has only run on in its core. -/
structure LaneSt.ranTo (L M : LaneSt) : Prop where
  keeps : L.keeps [.core] M
  cpu : M.core.cpu = L.core.cpu

theorem LaneSt.issued.ranTo {L M : LaneSt} (h : L.issued M) : L.ranTo M := ⟨h.keeps, h.cpu⟩

theorem LaneSt.ranTo.scbPut {L M : LaneSt} (h : L.ranTo M) (a : Word) (w : Width) (v : Word) : L.ranTo (M.scbPut a w v) :=
  ⟨keeps_trans (M.scbPut_frame a w v).1 h.keeps, h.cpu⟩

theorem LaneSt.ranTo.lvqPut {L M : LaneSt} (h : L.ranTo M) (a : Word) (w : Width) (raw : Word) : L.ranTo (M.lvqPut a w raw) :=
  ⟨keeps_trans (M.lvqPut_frame a w raw).1 h.keeps, h.cpu⟩

/-- x0 takes nothing. -/
theorem LaneSt.ranTo.putZero {L M : LaneSt} (h : L.ranTo M) (v nv : Word) : L.ranTo (M.putReg false 0 v nv) := by
  refine ⟨keeps_trans (M.putReg_frame false 0 v nv).1 h.keeps, ?_⟩
  simp only [LaneSt.putReg, LaneSt.updCpu, LaneSt.updCore, Hart.putX_zero, Hart.putN_zero, ite_self]
  exact h.cpu

theorem laneRuns_haltedBy (h : (s.lane l).checks l i) (hi : isStore i = false) (hflow : u ≠ .flow) (hecc : ∀ f, u ≠ .eccDouble f)
    (hsingle : u ≠ .eccSingle) {M : LaneSt} {id cls diff : Nat} (heq : ((s.lane l).issue i q).laneInstr i u = M.mismatch id cls diff)
    (hM : (s.lane l).ranTo M) (hid : id < 65536) (hcls : cls < 16) (hdiff : diff < 64) :
    LaneRuns (.checkedInstruction l .main i u q) s l fun L => (s.lane l).haltedBy L id cls diff :=
  laneRuns_instr h hi hflow hecc hsingle (by rw [heq]; exact mismatch_haltedBy hM.keeps hM.cpu hid hcls hdiff)

/-- A store whose copies differ goes no further. -/
theorem State.storeInstr_halts {w : Width} {fp : Bool} {rs1 rs2 : Nat} {off : Word} {len : Nat}
    (h : ((s.lane l).storeAgree w fp rs1 rs2 off u).core.halted = true) :
    s.storeInstr l w fp rs1 rs2 off len u = s.updLane l fun L => L.storeAgree w fp rs1 rs2 off u := by
  unfold State.storeInstr
  dsimp only
  rw [if_pos (by rw [State.lane_updLane_self]; exact h)]

theorem laneRuns_store_haltedBy {w : Width} {rs1 rs2 : Nat} {off : Word} {len : Nat} (h : (s.lane l).checks l (.store w rs1 rs2 off len))
    (hflow : u ≠ .flow) (hecc : ∀ f, u ≠ .eccDouble f) (hsingle : u ≠ .eccSingle) {M : LaneSt} {id diff : Nat}
    (heq : ((s.lane l).issue (.store w rs1 rs2 off len) q).storeAgree w false rs1 rs2 off u = M.mismatch id 3 diff)
    (hM : (s.lane l).ranTo M) (hid : id < 65536) (hdiff : diff < 64) :
    LaneRuns (.checkedInstruction l .main (.store w rs1 rs2 off len) u q) s l fun L => (s.lane l).haltedBy L id 3 diff := by
  have hhalt : (((s.updLane l fun L => L.issue (.store w rs1 rs2 off len) q).lane l).storeAgree w false rs1 rs2 off u).core.halted = true := by
    rw [State.lane_updLane_self, heq, LaneSt.mismatch_core]
  refine laneRuns_updLane (f := fun L => (L.issue (.store w rs1 rs2 off len) q).storeAgree w false rs1 rs2 off u) ?_ ?_
  · rw [exec_checked h, State.runInstr_store h.inStep hflow hecc hsingle, State.storeInstr_halts hhalt, State.updLane_updLane]
  · rw [heq]
    exact mismatch_haltedBy hM.keeps hM.cpu hid (by decide) hdiff

/-! ### Stores, atomics and loads -/

section
variable {m : Word} (hm : m ≠ 0#32)
include hm

theorem store_stops {w : Width} {rs1 rs2 : Nat} {off : Word} {len : Nat} (h : (s.lane l).checks l (.store w rs1 rs2 off len)) :
    (LaneRuns (.checkedInstruction l .main (.store w rs1 rs2 off len) (.storeAddr m) q) s l fun L =>
      (s.lane l).haltedBy L 0x0103 3 (bitCount m)) ∧
    (LaneRuns (.checkedInstruction l .main (.store w rs1 rs2 off len) .storeSize q) s l fun L => (s.lane l).haltedBy L 0x0103 3 0) ∧
    (w = .word → LaneRuns (.checkedInstruction l .main (.store w rs1 rs2 off len) (.storeData m) q) s l fun L =>
      (s.lane l).haltedBy L 0x0104 3 (bitCount m)) := by
  have hin := h.inStep.issue (.store w rs1 rs2 off len) q
  have hM := ((s.lane l).issue_issued (.store w rs1 rs2 off len) q).ranTo
  refine ⟨?_, ?_, fun hw => ?_⟩
  · obtain ⟨v, hv⟩ := storeAddr_differs hin hm w false rs1 rs2 off
    exact laneRuns_store_haltedBy h (by simp) (by simp) (by simp) hv (hM.scbPut ..) (by decide) (bitCount_lt m)
  · obtain ⟨v, hv⟩ := storeSize_differs hin w false rs1 rs2 off
    exact laneRuns_store_haltedBy h (by simp) (by simp) (by simp) hv (hM.scbPut ..) (by decide) (by decide)
  · subst hw
    obtain ⟨v, hv⟩ := storeData_differs hin hm false rs1 rs2 off
    exact laneRuns_store_haltedBy h (by simp) (by simp) (by simp) hv (hM.scbPut ..) (by decide) (bitCount_lt m)

theorem sc_stops {rd rs1 rs2 len : Nat} (h : (s.lane l).checks l (.sc rd rs1 rs2 len)) :
    (LaneRuns (.checkedInstruction l .main (.sc rd rs1 rs2 len) (.storeAddr m) q) s l fun L =>
      (s.lane l).haltedBy L 0x0103 4 (bitCount m)) ∧
    (LaneRuns (.checkedInstruction l .main (.sc rd rs1 rs2 len) (.storeData m) q) s l fun L =>
      (s.lane l).haltedBy L 0x0104 4 (bitCount m)) := by
  have hin := h.inStep.issue (.sc rd rs1 rs2 len) q
  have hM := ((s.lane l).issue_issued (.sc rd rs1 rs2 len) q).ranTo
  exact ⟨laneRuns_haltedBy h rfl (by simp) (by simp) (by simp) (sc_addr_differs hin hm ..) hM (by decide) (by decide) (bitCount_lt m),
    laneRuns_haltedBy h rfl (by simp) (by simp) (by simp) (sc_data_differs hin hm ..) hM (by decide) (by decide) (bitCount_lt m)⟩

theorem load_stops {w : Width} {sg : Bool} {rd rs1 : Nat} {off : Word} {len : Nat} (h : (s.lane l).checks l (.load w sg rd rs1 off len)) :
    let cls := if isBlock ((s.lane l).core.cpu.getX false rs1 + off).toNat then 8 else 2
    (LaneRuns (.checkedInstruction l .main (.load w sg rd rs1 off len) (.loadAddr m) q) s l fun L =>
      (s.lane l).haltedBy L 0x0106 cls (bitCount m)) ∧
    (LaneRuns (.checkedInstruction l .main (.load w sg rd rs1 off len) .queue q) s l fun L => (s.lane l).haltedBy L 0x0108 cls 0) ∧
    ∀ raw, isBlock ((s.lane l).core.cpu.getX false rs1 + off).toNat = true →
      (s.lane l).busRead w ((s.lane l).core.cpu.getX false rs1 + off).toNat = some raw →
      LaneRuns (.checkedInstruction l .main (.load w sg rd rs1 off len) (.periphRead m) q) s l fun L =>
        (s.lane l).haltedBy L 0x0105 8 (bitCount m) := by
  intro cls
  have hin := h.inStep.issue (.load w sg rd rs1 off len) q
  have hissued := (s.lane l).issue_issued (.load w sg rd rs1 off len) q
  have haddr : ((s.lane l).issue (.load w sg rd rs1 off len) q).leadAddr rs1 off = (s.lane l).core.cpu.getX false rs1 + off :=
    leadAddr_congr hissued.cpu rs1 off
  have hcls : cls < 16 := by unfold cls; split <;> decide
  refine ⟨?_, ?_, fun raw hblock hread => ?_⟩
  · refine laneRuns_haltedBy h rfl (by simp) (by simp) (by simp) ?_ hissued.ranTo (by decide) hcls (bitCount_lt m)
    rw [LaneSt.laneInstr, loadAddr_differs hin hm, haddr]
  · refine laneRuns_haltedBy h rfl (by simp) (by simp) (by simp) ?_ hissued.ranTo (by decide) hcls (by decide)
    rw [LaneSt.laneInstr, loadQueue_differs hin, haddr]
  · have heq := periphRead_differs hin hm (drained_issue h.drained) (by rw [haddr]; exact hblock)
      (by rw [haddr, busRead_congr hissued.keeps]; exact hread) sg false rd len
    exact laneRuns_haltedBy h rfl (by simp) (by simp) (by simp) heq (hissued.ranTo.lvqPut ..) (by decide) (by decide) (bitCount_lt m)

end

/-! ### Uncorrectable and correctable errors (R122, R130) -/

theorem LaneSt.haltCores_fc (L : LaneSt) : L.haltCores.fc = L.fc := rfl

theorem LaneSt.eccFault_reported (L : LaneSt) (cause : Nat) (tval : Word) : L.reported (L.eccFault cause tval) 0x0109 0xFF := by
  have hregs : L.keepsRegs [0x400F0000] (L.trap (BitVec.ofNat 32 cause) tval).haltCores :=
    keepsRegs_trans (haltCores_regs _) (keepsRegs_same ((L.trap_frame _ tval).1 .regs (by decide)))
  have hfc : (L.trap (BitVec.ofNat 32 cause) tval).haltCores.fc = L.fc :=
    (haltCores_fc _).trans ((L.trap_frame _ tval).1 .fc (by decide))
  rw [L.eccFault_eq]
  exact openMask_reported 0 (reported_before (by decide) (by decide) hregs hfc (LaneSt.raise_reported _ 0x0109 0xFF (by decide)))

/-- What an uncorrectable error leaves, whichever access it is of. -/
theorem LaneSt.eccFault_facts {L M : LaneSt} (hM : L.issued M) (cause : Nat) (tval : Word) :
    (M.eccFault cause tval).core.halted = true ∧ (M.eccFault cause tval).core.mismatch = L.core.mismatch ∧
      (M.eccFault cause tval).core.cpu.csrAt 0x341 = L.core.cpu.pc ∧ sameMemory L (M.eccFault cause tval) ∧
      L.reported (M.eccFault cause tval) 0x0109 0xFF ∧ (M.eccFault cause tval).core.cpu.csrAt 0x342 = BitVec.ofNat 32 cause := by
  have hmem : (M.eccFault cause tval).mem = L.mem := ((M.eccFault_frame cause tval).1 .mem (by decide)).trans (hM.keeps .mem (by decide))
  have hrep := reported_before (rs := []) (by decide) (by decide) (keepsRegs_same (hM.keeps .regs (by decide))) (hM.keeps .fc (by decide))
    (M.eccFault_reported cause tval)
  rw [M.eccFault_core]
  refine ⟨rfl, hM.mismatch, ?_, fun a => by rw [LaneSt.byte, LaneSt.byte, hmem], hrep, ?_⟩
  · rw [M.trap_mepc, hM.cpu]
  · rw [M.trap_mcause]

/-- A correctable error is counted, and the instruction goes on. -/
theorem alu_eccSingle {op : AluOp} {rd rs1 rs2 len : Nat} (h : (s.lane l).checks l (.alu op rd rs1 rs2 len)) :
    LaneRuns (.checkedInstruction l .main (.alu op rd rs1 rs2 len) .eccSingle q) s l fun L =>
      (s.lane l).reported L 0x010A 0xFF ∧ L.core.halted = false ∧ L.core.cpu.pc = (s.lane l).core.cpu.pc + BitVec.ofNat 32 len := by
  have hM := (s.lane l).issue_issued (.alu op rd rs1 rs2 len) q
  have hin := (h.inStep.issue (.alu op rd rs1 rs2 len) q).raise (id := 0x010A) (by decide) 0xFF
  refine laneRuns_updLane (f := fun L => ((L.issue (.alu op rd rs1 rs2 len) q).raise 0x010A).laneInstr (.alu op rd rs1 rs2 len) .eccSingle)
    ?_ ?_
  · rw [exec_checked h, State.runInstr_lane h.inStep rfl (by simp) (by simp), State.beforeRun, if_pos rfl, State.updLane_updLane,
      State.updLane_updLane]
  · rw [LaneSt.laneInstr, hin.lambOp, LaneSt.writeBack_agrees rfl (.inr rfl)]
    have hrep := reported_before (rs := []) (by decide) (by decide) (keepsRegs_same (hM.keeps .regs (by decide)))
      (hM.keeps .fc (by decide)) (LaneSt.raise_reported _ 0x010A 0xFF (by decide))
    refine ⟨reported_after (rs := []) (by decide) (by decide) (keepsRegs_same ?_) hrep, ?_, ?_⟩
    · exact ((LaneSt.retire_frame _ len).1 .regs (by decide)).trans ((LaneSt.putReg_frame ..).1 .regs (by decide))
    · rw [LaneSt.retire_halted, LaneSt.putReg_halted, LaneSt.raise_core, hM.halted]
      exact h.halted
    · rw [LaneSt.retire_pc, LaneSt.putReg_pc, LaneSt.raise_core, hM.cpu]

end
end Sys2Proof.Machine

/-! ### The Shepherd core (R139) -/
namespace Sys2Proof.Machine

section
open LaneSt
variable {s : State} {l : Lane} {i : CoreInstr} {u : Upset} {q : IssueIn} {m : Word}

theorem exec_shepherd {P : LaneSt → Prop} (hrun : (s.lane l).runs = true) (hup : (s.lane l).on Reg.MBX_STAT_SHEP_UP = true)
    (hP : P ((s.lane l).runShepherd i u)) : LaneRuns (.checkedInstruction l .shepherd i u q) s l P := by
  refine laneRuns_updLane (f := fun L => if L.runs && L.on Reg.MBX_STAT_SHEP_UP then L.runShepherd i u else L) rfl ?_
  rwa [hrun, hup, Bool.and_true, if_pos rfl]

theorem LaneSt.runShepherd_alu_differs {L : LaneSt} (hc : L.core.shep.complements) (hm : m ≠ 0#32) (op : AluOp) (rd rs1 rs2 len : Nat) :
    L.runShepherd (.alu op rd rs1 rs2 len) (.result m) = L.shepherdMismatch := by
  have hin := asShepherd_inStep hc
  have hpc : ~~~L.asShepherd.core.cpu.npc = L.asShepherd.core.cpu.pc := by rw [hin.2.1, BitVec.not_not]
  have hstop : L.asShepherd.shepInstr (.alu op rd rs1 rs2 len) (.result m) = L.asShepherd.mismatch 0x0101 0 (bitCount m) := by
    unfold LaneSt.shepInstr
    dsimp only
    rw [if_neg (by simp [hpc])]
    exact alu_differs hin hm ..
  unfold LaneSt.runShepherd
  dsimp only
  rw [if_neg (by simp), hstop, LaneSt.mismatch_core, if_pos rfl]

/-- Both cores halt. -/
theorem LaneSt.shepherdMismatch_facts (L : LaneSt) : L.keeps (.core :: faultParts) L.shepherdMismatch ∧
    L.shepherdMismatch.core.halted = true ∧ L.shepherdMismatch.core.cpu = L.core.cpu ∧ L.shepherdMismatch.core.shep = L.core.shep ∧
    L.reported L.shepherdMismatch 0x0111 0xFF := by
  have hcore : L.shepherdMismatch.core = L.haltCores.core := by
    rw [LaneSt.shepherdMismatch, LaneSt.openMask_core, LaneSt.raise_core]
  rw [hcore]
  refine ⟨fun p hp => L.shepherdMismatch_frame.1 p ?_, rfl, rfl, rfl, ?_⟩
  · revert hp; cases p <;> decide
  · exact openMask_reported 0 (reported_before (by decide) (by decide) L.haltCores_regs L.haltCores_fc
      (LaneSt.raise_reported _ 0x0111 0xFF (by decide)))

end

/-- An uncorrectable error of a fetch is the fetch's fault; of data, that of the access the instruction makes, if it makes one. -/
theorem laneRuns_eccFault {s : State} {l : Lane} {i : CoreInstr} {q : IssueIn} (h : (s.lane l).checks l i) (f : Bool) :
    LaneRuns (.checkedInstruction l .main i (.eccDouble f) q) s l fun L => L.core.halted = true ∧
      L.core.mismatch = (s.lane l).core.mismatch ∧ L.core.cpu.csrAt 0x341 = (s.lane l).core.cpu.pc ∧ sameMemory (s.lane l) L ∧
      (s.lane l).reported L 0x0109 0xFF ∧ (f = true ∨ (s.lane l).readOf i = none → L.core.cpu.csrAt 0x342 = 1#32) ∧
      ∀ cause a, f = false → (s.lane l).readOf i = some (cause, a) → L.core.cpu.csrAt 0x342 = BitVec.ofNat 32 cause := by
  have hM := (s.lane l).issue_issued i q
  have hread : ((s.lane l).issue i q).readOf i = (s.lane l).readOf i := LaneSt.readOf_congr hM.cpu i
  refine laneRuns_eccDouble h f ?_
  obtain ⟨hhalt, hmis, hpc, hmem, hrep, hcause⟩ := LaneSt.eccFault_facts hM 1 ((s.lane l).issue i q).core.cpu.pc
  cases f with
  | true => exact ⟨hhalt, hmis, hpc, hmem, hrep, fun _ => hcause, fun _ _ hf => by cases hf⟩
  | false =>
    unfold LaneSt.eccDouble
    rw [hread]
    cases hr : (s.lane l).readOf i with
    | none => exact ⟨hhalt, hmis, hpc, hmem, hrep, fun _ => hcause, fun _ _ _ hsome => by cases hsome⟩
    | some x =>
      obtain ⟨hhalt, hmis, hpc, hmem, hrep, hcause⟩ := LaneSt.eccFault_facts hM x.1 x.2
      refine ⟨hhalt, hmis, hpc, hmem, hrep, fun hnone => ?_, fun cause a _ hsome => ?_⟩
      · rcases hnone with hnone | hnone <;> cases hnone
      · cases hsome
        exact hcause

/-- Settles O58: each disturbance is found where the copies meet, before the result is written back or the access leaves, and the mismatch
halts the cores with its record. The causes and mepc of an uncorrectable error's exception are log entry 8's; that it halts the core without
a record in DBG_MIS, and that a difference in the Shepherd core halts both, is log entry 59's reading. -/
theorem mismatchHaltsTheCore : Obligations.MismatchHaltsTheCore := by
  intro s l i q hc old at1 stops
  have hM := fun j => (old.issue_issued j q).ranTo
  have hin := hc.inStep.issue i q
  refine ⟨laneRuns_flow hc (LaneSt.mismatch_haltedBy (hM i).keeps (hM i).cpu (by decide) (LaneSt.classOf_lt i) (by decide)),
    fun m hm => ⟨?_, ?_, ?_, ?_, ?_, ?_, ?_, ?_, ?_⟩, fun f => ?_, ?_⟩
  · rintro op rd rs1 rs2 len rfl
    exact laneRuns_haltedBy hc rfl (by simp) (by simp) (by simp) (LaneSt.alu_differs hin hm ..) (hM _) (by decide) (by decide) (bitCount_lt m)
  · rintro op rd rs1 rs2 len rfl
    exact laneRuns_haltedBy hc rfl (by simp) (by simp) (by simp) (LaneSt.muldiv_differs hin hm ..) (hM _) (by decide) (by decide) (bitCount_lt m)
  · rintro w rs1 rs2 off len rfl
    exact store_stops hm hc
  · rintro rd rs1 rs2 len rfl
    exact sc_stops hm hc
  · rintro op rd rs1 rs2 len rfl
    exact laneRuns_haltedBy hc rfl (by simp) (by simp) (by simp) (LaneSt.amo_addr_differs hin hm ..) (hM _) (by decide) (by decide) (bitCount_lt m)
  · rintro rd rs1 len rfl
    exact laneRuns_haltedBy hc rfl (by simp) (by simp) (by simp) (LaneSt.lr_differs hin hm ..) (hM _) (by decide) (by decide) (bitCount_lt m)
  · rintro w sg rd rs1 off len rfl
    exact load_stops hm hc
  · rintro rd rs1 len rfl hrs rfl
    obtain ⟨v, hv⟩ := LaneSt.csrWrite_differs hin hm hrs len
    exact laneRuns_haltedBy hc rfl (by simp) (by simp) (by simp) hv ((hM _).putZero ..) (by decide) (by decide) (bitCount_lt m)
  · rintro op rd rs1 rs2 len rfl hup hshep
    obtain ⟨_, _, hrun, _⟩ := hc
    exact exec_shepherd hrun hup (by rw [LaneSt.runShepherd_alu_differs hshep hm]; exact old.shepherdMismatch_facts)
  · exact laneRuns_eccFault hc f
  · rintro op rd rs1 rs2 len rfl
    exact alu_eccSingle hc

end Sys2Proof.Machine

/-! ## The reset after the record (R131, R155) -/
namespace Sys2Proof.Machine

section
open LaneSt
variable (L : LaneSt)

/-! ### What the Shepherd core's restart drops -/

/-- An interrupted load leaves a blank slot and a blank bank, none of them in SRAM. -/
theorem LaneSt.dropLoads_byte {a : Nat} (h : 0x20000000 ≤ a) : L.dropLoads.byte a = L.byte a := by
  unfold LaneSt.dropLoads
  extract_lets A B
  have hA : A.byte a = L.byte a := by
    unfold A
    split
    · next b _ =>
      have hbase : ¬(slotBase b ≤ a ∧ a < slotBase b + 0x40000) := by cases b <;> simp only [slotBase] <;> grind
      have hrec : ¬(slotRecAt b ≤ a ∧ a < slotRecAt b + 40) := by cases b <;> simp only [slotRecAt] <;> grind
      rw [byte_of_mem ((setSlot_frame _ b _).1 .mem (by decide)), LaneSt.eraseSlotRec, byte_eraseMem, if_neg hrec, byte_eraseMem, if_neg hbase]
    · rfl
  have hB : B.byte a = A.byte a := by
    unfold B
    split
    · next b _ => exact A.setBank_byte b _ (by omega)
    · rfl
  exact (byte_of_mem (updMbx_frame B _ |>.1 .mem (by decide)) a).trans (hB.trans hA)

/-- The registers that the Shepherd core's restart writes. -/
def shepherdRegs : List Nat := [0x400E000C, 0x400F0000, 0x400F000C, 0x400F0010, 0x400F001C]

/-- The lane at the restart, before the registers of the session are cleared. -/
def LaneSt.sessionLeft : LaneSt := (L.dropLoads.put Reg.MBX_STAT_SHEP_UP false).put Reg.MBX_STAT_BUSY false

/-- The registers as the restart leaves them. -/
def LaneSt.sessionCleared : LaneSt :=
  (((L.sessionLeft.setReg 0x400F000C 0#32).setReg 0x400F0010 0#32).put Reg.MBX_STAT_SESSION false).put Reg.SEC_DBG_STAT_CHAL false

theorem LaneSt.resetShepherd_parts : L.sessionCleared.keepsRegs [0x400F001C] L.resetShepherd ∧
    L.resetShepherd.core = { L.core with shep := Hart.reset } ∧ L.resetShepherd.mem = L.dropLoads.mem := by
  refine ⟨keepsRegs_wr (by decide) (keepsRegs_same rfl), ?_, rfl⟩
  have hcore : L.dropLoads.core = L.core := L.dropLoads_frame.1 .core (by decide)
  rw [← hcore]
  rfl

theorem LaneSt.resetShepherd_regs : L.keepsRegs shepherdRegs L.resetShepherd := by
  obtain ⟨hregs, _, _⟩ := L.resetShepherd_parts
  have hloads : L.keepsRegs shepherdRegs L.dropLoads := keepsRegs_same (L.dropLoads_frame.1 .regs (by decide))
  have hcleared : L.keepsRegs shepherdRegs L.sessionCleared :=
    keepsRegs_wr (by decide) (keepsRegs_wr (by decide) (keepsRegs_setReg (by decide) (keepsRegs_setReg (by decide)
      (keepsRegs_wr (by decide) (keepsRegs_wr (by decide) hloads)))))
  exact keepsRegs_trans (keepsRegs_mono hregs (by decide)) hcleared

/-- The Shepherd core is not up, and no session is open. -/
theorem LaneSt.resetShepherd_session : L.resetShepherd.on Reg.MBX_STAT_SHEP_UP = false ∧ L.resetShepherd.reg 0x400F000C = 0#32 := by
  obtain ⟨hregs, _, _⟩ := L.resetShepherd_parts
  constructor
  · have hup : L.sessionCleared.rd Reg.MBX_STAT_SHEP_UP = L.sessionLeft.rd Reg.MBX_STAT_SHEP_UP :=
      (rd_wr_apart _ _ _ _ (by decide)).trans ((rd_wr_apart _ _ _ _ (by decide)).trans
        (rd_of_keepsRegs (rs := [0x400F000C, 0x400F0010]) (keepsRegs_setReg (by decide) (keepsRegs_setReg (by decide) (keepsRegs_refl _ _))) _
          (by decide)))
    rw [LaneSt.on, rd_of_keepsRegs hregs _ (by decide), hup, LaneSt.sessionLeft, LaneSt.put, rd_wr_apart _ _ _ _ (by decide), ← LaneSt.on]
    exact on_put_self _ _ _ (by decide) (by decide)
  · rw [hregs _ (by decide)]
    refine (reg_setReg_ne _ _ _ _ (by decide)).trans ((reg_setReg_ne _ _ _ _ (by decide)).trans ((reg_setReg_ne _ _ _ _ (by decide)).trans ?_))
    exact reg_setReg_self _ _ _

theorem LaneSt.flkListen_regs : L.keepsRegs [0x4009] L.flkListen := by
  unfold LaneSt.flkListen LaneSt.showKeeper
  extract_lets ks A k B
  have hA : L.keepsRegs [0x4009] A := keepsRegs_same rfl
  have hB : L.keepsRegs [0x4009] B := keepsRegs_wr (by decide) (keepsRegs_wr (by decide) (keepsRegs_wr (by decide)
    (keepsRegs_wr (by decide) (keepsRegs_wr (by decide) hA))))
  exact keepsRegs_wr (by decide) (keepsRegs_wr (by decide) hB)

/-! ### Entering RESYNC -/

theorem LaneSt.endMask_resetDue (b : Nat) : (L.endMask b).fc.resetDue = L.fc.resetDue := by
  unfold LaneSt.endMask
  split <;> rfl

theorem LaneSt.enterResync_resetDue : L.enterResync.fc.resetDue = L.fc.resetDue := by
  unfold LaneSt.enterResync
  extract_lets A B fc agr C
  split
  · rfl
  · have hA : A.fc = L.fc := (resetControl_frame _).1 .fc (by decide) |>.trans ((zeroClaims_frame _ 7 2).1 .fc (by decide))
    have hB : B.fc = A.fc := by
      unfold B
      split <;> rfl
    exact (C.endMask_resetDue 0).trans ((congrArg FcSt.resetDue hB).trans (congrArg FcSt.resetDue hA))

/-- A lane that is not held and not in split mode is in RESYNC, in its first phase (R155). -/
theorem LaneSt.enterResync_phase (hhold : L.fc.hold = false) (hsplit : L.isSplit = false) :
    L.enterResync.mode = 2 ∧ L.enterResync.rd Reg.AGR_RSYNC_PHASE = 1 := by
  refine ⟨(L.enterResync_mode hsplit).2 hhold, ?_⟩
  unfold LaneSt.enterResync
  extract_lets A B fc agr C
  have hA : A.on Reg.DBG_CHK_STAT_CORE_MODE = false := by
    rw [LaneSt.on, rd_of_keepsRegs (LaneSt.resetControl_regs _) _ (by decide), rd_of_keepsRegs (L.zeroClaims_regs 7 2) _ (by decide)]
    exact hsplit
  have hB : B = (A.wr Reg.SYS_STATE_LANE_MODE 2).wr Reg.AGR_RSYNC_PHASE 1 := if_neg (by simp [hA])
  have hphase : B.rd Reg.AGR_RSYNC_PHASE = 1 := by rw [hB]; exact rd_wr_self _ _ _ (by decide)
  rw [if_neg (by simp [hhold])]
  exact (rd_of_keepsRegs (rs := []) (C.endMask_regs 0) _ rfl).trans hphase

/-! ### The lane with its core restarted -/

/-- The core after its reset: the count of its instructions, the debugger's registers and the entry points stay (log entries 42 and 85). -/
def CoreSt.restarted (c : CoreSt) : CoreSt :=
  { CoreSt.reset with retired := c.retired, data0 := c.data0, cmderr := c.cmderr, sbdata := c.sbdata, sberror := c.sberror }.startAt
    c.entry c.entry2

/-- The lane with the mismatch noted that the reset follows. -/
def LaneSt.mismatchNoted : LaneSt := if L.core.mismatch then L.put Reg.DBG_CHK_STAT_LAST_MIS true else L

/-- The engines at the reset: Shepherd core, auxiliary axis, keeper. -/
def LaneSt.enginesReset : LaneSt := ((L.mismatchNoted.resetShepherd).auxAbort false).flkListen

/-- The core's restart alone. -/
def LaneSt.restartCore : LaneSt :=
  let M := L.updCore CoreSt.restarted
  { M with fc := { M.fc with resetDue := false } }

theorem LaneSt.restartCore_parts : L.restartCore.core = L.core.restarted ∧ L.restartCore.fc = { L.fc with resetDue := false } ∧
    L.restartCore.regs = L.regs ∧ L.restartCore.mem = L.mem ∧ L.restartCore.aux = L.aux := ⟨rfl, rfl, rfl, rfl, rfl⟩

/-- The lane with its core restarted, before it resynchronises. -/
def LaneSt.coreRestarted : LaneSt := L.enginesReset.restartCore

theorem LaneSt.coreReset_eq : L.coreReset = if L.coreRestarted.fc.thermal then L.coreRestarted else L.coreRestarted.enterResync := rfl

theorem LaneSt.mismatchNoted_frame : L.frame [.regs] L.mismatchNoted := frame_ite (put_frame _ _ _) (frame_refl _ _)

theorem LaneSt.enginesReset_regs : L.mismatchNoted.resetShepherd.keepsRegs [0x400C0048, 0x400C0050, 0x4009] L.enginesReset :=
  keepsRegs_trans (keepsRegs_mono (flkListen_regs _) (by decide)) (keepsRegs_mono (auxAbort_regs _ false) (by decide))

theorem LaneSt.enginesReset_core : L.enginesReset.core = { L.core with shep := Hart.reset } := by
  obtain ⟨_, hcore, _⟩ := L.mismatchNoted.resetShepherd_parts
  have hnoted : L.mismatchNoted.core = L.core := L.mismatchNoted_frame.1 .core (by decide)
  exact ((flkListen_frame _).1 .core (by decide)).trans (((auxAbort_frame _ false).1 .core (by decide)).trans (hcore.trans (by rw [hnoted])))

theorem LaneSt.coreRestarted_core : L.coreRestarted.core = L.core.restarted := by
  obtain ⟨hcore, _⟩ := L.enginesReset.restartCore_parts
  rw [LaneSt.coreRestarted, hcore, L.enginesReset_core]
  rfl

theorem LaneSt.coreRestarted_fc : L.coreRestarted.fc = { L.fc with resetDue := false } := by
  obtain ⟨_, hfc, _⟩ := L.enginesReset.restartCore_parts
  have hengines : L.enginesReset.fc = L.fc := ((flkListen_frame _).1 .fc (by decide)).trans (((auxAbort_frame _ false).1 .fc (by decide)).trans
    (((resetShepherd_frame _).1 .fc (by decide)).trans (L.mismatchNoted_frame.1 .fc (by decide))))
  rw [LaneSt.coreRestarted, hfc, hengines]

theorem LaneSt.coreRestarted_byte {a : Nat} (h : 0x20000000 ≤ a) : L.coreRestarted.byte a = L.byte a := by
  obtain ⟨_, _, _, hrestart, _⟩ := L.enginesReset.restartCore_parts
  obtain ⟨_, _, hmem⟩ := L.mismatchNoted.resetShepherd_parts
  have hengines : L.enginesReset.mem = L.mismatchNoted.dropLoads.mem :=
    ((flkListen_frame _).1 .mem (by decide)).trans (((auxAbort_frame _ false).1 .mem (by decide)).trans hmem)
  rw [LaneSt.coreRestarted, byte_of_mem (L := L.mismatchNoted.dropLoads) (hrestart.trans hengines), L.mismatchNoted.dropLoads_byte h,
    byte_of_mem (L.mismatchNoted_frame.1 .mem (by decide))]

theorem LaneSt.auxAbort_stops : (L.auxAbort false).aux.v = 0 := rfl

theorem LaneSt.coreRestarted_aux : L.coreRestarted.aux.v = 0 := by
  obtain ⟨_, _, _, _, haux⟩ := L.enginesReset.restartCore_parts
  have hengines : L.enginesReset.aux = (L.mismatchNoted.resetShepherd.auxAbort false).aux := (flkListen_frame _).1 .aux (by decide)
  rw [LaneSt.coreRestarted, haux, hengines, LaneSt.auxAbort_stops]

/-- The registers that the debugger and the host read after the reset. -/
theorem LaneSt.coreRestarted_reads : (L.core.mismatch = true → L.coreRestarted.on Reg.DBG_CHK_STAT_LAST_MIS = true) ∧
    L.coreRestarted.on Reg.MBX_STAT_SHEP_UP = false ∧ L.coreRestarted.reg 0x400F000C = 0#32 ∧ L.coreRestarted.isSplit = L.isSplit := by
  have hregs : L.mismatchNoted.resetShepherd.keepsRegs [0x400C0048, 0x400C0050, 0x4009] L.coreRestarted :=
    keepsRegs_of_regs L.enginesReset.restartCore_parts.2.2.1 L.enginesReset_regs
  have hall : L.mismatchNoted.keepsRegs (shepherdRegs ++ [0x400C0048, 0x400C0050, 0x4009]) L.coreRestarted :=
    keepsRegs_trans (keepsRegs_mono hregs (by decide)) (keepsRegs_mono (resetShepherd_regs _) (by decide))
  obtain ⟨hup, hsession⟩ := L.mismatchNoted.resetShepherd_session
  refine ⟨fun h => ?_, ?_, (hregs _ (by decide)).trans hsession, ?_⟩
  · rw [LaneSt.on, rd_of_keepsRegs hall _ (by decide), ← LaneSt.on, LaneSt.mismatchNoted, if_pos h]
    exact on_put_self _ _ _ (by decide) (by decide)
  · rw [LaneSt.on, rd_of_keepsRegs hregs _ (by decide)]
    exact hup
  · have hnoted : L.mismatchNoted.rd Reg.DBG_CHK_STAT_CORE_MODE = L.rd Reg.DBG_CHK_STAT_CORE_MODE := by
      unfold LaneSt.mismatchNoted
      split
      · exact rd_wr_apart _ _ _ _ (by decide)
      · rfl
    rw [LaneSt.isSplit, LaneSt.isSplit, LaneSt.on, LaneSt.on, rd_of_keepsRegs hall _ (by decide), hnoted]

/-- RESYNC keeps what the restart set. -/
theorem LaneSt.coreReset_keeps : L.coreRestarted.frame [.regs, .fc, .agr, .com] L.coreReset ∧ L.coreRestarted.keepsRegs resyncRegs L.coreReset ∧
    L.coreReset.fc.resetDue = false := by
  have hdue : L.coreRestarted.fc.resetDue = false := congrArg FcSt.resetDue L.coreRestarted_fc
  rw [L.coreReset_eq]
  split
  · exact ⟨frame_refl _ _, keepsRegs_refl _ _, hdue⟩
  · exact ⟨enterResync_frame _, enterResync_regs _, (enterResync_resetDue _).trans hdue⟩

/-- A lane that is not shut down for heat, not held and not in split mode resynchronises. -/
theorem LaneSt.coreReset_resync (hthermal : L.fc.thermal = false) (hhold : L.fc.hold = false) (hsplit : L.isSplit = false) :
    L.coreReset.mode = 2 ∧ L.coreReset.rd Reg.AGR_RSYNC_PHASE = 1 := by
  obtain ⟨_, _, _, hmode⟩ := L.coreRestarted_reads
  have hfc := L.coreRestarted_fc
  rw [L.coreReset_eq, if_neg (by simp [hfc, hthermal])]
  exact L.coreRestarted.enterResync_phase (by rw [hfc]; exact hhold) (hmode.trans hsplit)

end
end Sys2Proof.Machine

/-! ## The debugger (R136 to R138, R431) -/
namespace Sys2Proof.Machine

/-! ### Words in memory -/

/-- A word is its bytes. -/
theorem bytesWord_wordBytes (v : Word) : bytesWord (wordBytes v) = v := by
  apply BitVec.eq_of_toNat_eq
  simp only [bytesWord, wordBytes, List.foldr_cons, List.foldr_nil, BitVec.extractLsb'_toNat, BitVec.toNat_ofNat, Nat.shiftRight_eq_div_pow]
  have := v.isLt
  omega

section
open LaneSt
variable {L : LaneSt}

theorem LaneSt.bytes_four (L : LaneSt) (a : Nat) : L.bytes a 4 = [L.byte a, L.byte (a + 1), L.byte (a + 2), L.byte (a + 3)] := rfl

/-- A word that was stored is read, and no byte beside it changes. -/
theorem LaneSt.setWord_word (L : LaneSt) (a : Nat) (v : Word) : (L.setWord a v).word a = v := by
  have h : ∀ j < 4, (L.setWord a v).byte (a + j) = (wordBytes v).getD j 0#8 := fun j hj => by
    rw [LaneSt.setWord, byte_setBytes, if_pos ⟨by omega, by simp only [wordBytes, List.length_cons, List.length_nil]; omega⟩]
    congr 1
    omega
  rw [LaneSt.word, bytes_four, show (L.setWord a v).byte a = _ from h 0 (by decide), h 1 (by decide), h 2 (by decide), h 3 (by decide)]
  exact bytesWord_wordBytes v

theorem LaneSt.setWord_byte (v : Word) {a b : Nat} (h : b < a ∨ a + 4 ≤ b) : (L.setWord a v).byte b = L.byte b :=
  byte_setBytes_out _ _ _ _ h

/-! ### A halt -/

/-- A halt enters RESYNC; it stands at once, or falls due while the lane drives a stage (R136). -/
theorem LaneSt.halt_outcome (L : LaneSt) (l : Lane) : L.keeps [.regs, .agr, .com, .core, .fc] (L.halt l) ∧
    (L.halt l).core.cpu = L.core.cpu ∧ (L.halt l).core.debug = (L.holds l == 0) ∧ (L.halt l).core.haltDue = (L.holds l != 0) ∧
    (L.fc.hold = false → L.isSplit = false → (L.halt l).mode = 2) := by
  refine ⟨fun p hp => (L.halt_frame l).1 p ?_, ?_, rfl, rfl, fun hhold hsplit => (L.enterResync_phase hhold hsplit).1⟩
  · revert hp
    cases p <;> decide
  · have hcore : L.enterResync.core = L.core := L.enterResync_frame.1 .core (by decide)
    exact (show (L.halt l).core.cpu = L.enterResync.core.cpu from rfl).trans (congrArg CoreSt.cpu hcore)

theorem LaneSt.mayHalt_open {l : Lane} (h : L.mayHalt l = true) : L.on Reg.DBG_SESSION_OPEN = true := by
  rw [LaneSt.mayHalt, Bool.and_eq_true, Bool.and_eq_true] at h
  exact h.1.1

/-! ### Registers -/

/-- What a debugger's write leaves of the core: Lamb's side and the journal. -/
structure CoreSt.sameLamb (c d : CoreSt) : Prop where
  journal : d.journal = c.journal
  npc : d.cpu.npc = c.cpu.npc
  getN : ∀ fp n, d.cpu.getN fp n = c.cpu.getN fp n
  ncsrAt : ∀ k, d.cpu.ncsrAt k = c.cpu.ncsrAt k

theorem CoreSt.sameLamb_refl (c : CoreSt) : c.sameLamb c := ⟨rfl, rfl, fun _ _ => rfl, fun _ => rfl⟩

/-- A debugger's write goes to the lead only (R137). -/
theorem LaneSt.debugLead_sameLamb (L : LaneSt) (r : DbgReg) (v : Word) : L.core.sameLamb (L.debugLead r v).core := by
  have hput : ∀ fp n, L.core.sameLamb (L.updCpu fun h => h.putX fp n v).core := fun fp n =>
    ⟨rfl, Hart.npc_putX .., fun _ _ => Hart.getN_putX .., fun _ => Hart.ncsrAt_putX ..⟩
  cases r with
  | x n => exact hput false _
  | f n => exact hput true _
  | csr n =>
    unfold LaneSt.debugLead
    dsimp only
    split
    · exact ⟨rfl, rfl, fun _ _ => rfl, fun _ => rfl⟩
    · exact L.core.sameLamb_refl
  | dpc => exact ⟨rfl, rfl, fun _ _ => rfl, fun _ => rfl⟩
  | abstractcs => exact L.core.sameLamb_refl
  | sbcs => exact L.core.sameLamb_refl

theorem LaneSt.debugLead_getX {n : Nat} (hn : n < 32) (h : n ≠ 0) (v : Word) : (L.debugLead (.x n) v).core.cpu.getX false n = v := by
  have hput : (L.debugLead (.x n) v).core.cpu = L.core.cpu.putX false (n % 32) v := rfl
  rw [hput, Nat.mod_eq_of_lt hn, Hart.getX_putX_self, if_neg (by simp [h])]

/-- A write into the journal, which has room for it. -/
theorem LaneSt.abstractWrite_journal {r : DbgReg} (hknown : dbgKnown r true = true) (h : L.core.journal.length < 64) (v : Word) :
    L.keeps [.core] (L.abstractWrite r v) ∧ (L.abstractWrite r v).core.journal = L.core.journal ++ [(r, v)] ∧
      (L.abstractWrite r v).core.cpu.npc = L.core.cpu.npc ∧ (∀ fp n, (L.abstractWrite r v).core.cpu.getN fp n = L.core.cpu.getN fp n) ∧
      (∀ k, (L.abstractWrite r v).core.cpu.ncsrAt k = L.core.cpu.ncsrAt k) ∧
      (∀ n, r = .x n → n ≠ 0 → (L.abstractWrite r v).core.cpu.getX false n = v) ∧ (r = .dpc → (L.abstractWrite r v).core.cpu.pc = v) := by
  obtain ⟨hjournal, hnpc, hgetN, hncsr⟩ := L.debugLead_sameLamb r v
  rw [LaneSt.abstractWrite, if_neg (by omega)]
  refine ⟨(frame_step (updCore_frame _ _) (by decide) (L.debugLead_frame r v)).1, by rw [← hjournal]; rfl, hnpc, hgetN, hncsr, ?_, ?_⟩
  · rintro n rfl hn
    exact debugLead_getX (by simpa [dbgKnown] using hknown) hn v
  · rintro rfl
    rfl

/-- A full journal refuses the write and counts it. -/
theorem LaneSt.abstractWrite_full (h : 64 ≤ L.core.journal.length) (r : DbgReg) (v : Word) :
    L.keeps [.regs, .core] (L.abstractWrite r v) ∧ L.keepsRegs [0x40110010] (L.abstractWrite r v) ∧
      (L.abstractWrite r v).core = { L.core with cmderr := 1 } ∧
      (L.abstractWrite r v).rd Reg.DBG_JOURNAL_BUSY_CNT = min (L.rd Reg.DBG_JOURNAL_BUSY_CNT + 1) 255 := by
  have hregs : (L.abstractWrite r v).regs = (L.incSat Reg.DBG_JOURNAL_BUSY_CNT).regs := by
    rw [LaneSt.abstractWrite, if_pos h]
    rfl
  refine ⟨(L.abstractWrite_frame r v).1, keepsRegs_of_regs hregs (L.wr_keepsRegs _ _ (by decide)), ?_, ?_⟩
  · rw [LaneSt.abstractWrite, if_pos h]
    rfl
  · rw [rd_congr hregs]
    exact rd_incSat_self _ (by decide)

/-! ### Resuming -/

theorem LaneSt.replay_regs (L : LaneSt) : L.keepsRegs [0x40110010] L.replay :=
  keepsRegs_of_regs (M := L.wr Reg.DBG_JOURNAL_LAST_COUNT L.core.journal.length) rfl (L.wr_keepsRegs _ _ (by decide))

theorem LaneSt.replay_core (L : LaneSt) : L.replay.core =
    { L.core with
      journal := []
      cpu := if L.isSplit then L.core.cpu else L.core.journal.foldl (fun h e => h.debugLamb e.1 e.2) L.core.cpu } := by
  have hsplit : (L.wr Reg.DBG_JOURNAL_LAST_COUNT L.core.journal.length).isSplit = L.isSplit := by
    rw [LaneSt.isSplit, LaneSt.isSplit, LaneSt.on, LaneSt.on, rd_wr_apart _ _ _ _ (by decide)]
  rw [← hsplit]
  rfl

theorem LaneSt.replay_isSplit (L : LaneSt) : L.replay.isSplit = L.isSplit := by
  rw [LaneSt.isSplit, LaneSt.isSplit, LaneSt.on, LaneSt.on, rd_of_keepsRegs L.replay_regs _ (by decide)]

/-- The journal, replayed into Lamb as the core resumes (R137). -/
theorem LaneSt.debugRun_resumes (hdebug : L.core.debug = true) (hhalted : L.core.halted = false) :
    L.keeps [.regs, .agr, .com, .core, .fc] L.debugRun ∧ L.debugRun.core.debug = false ∧ L.debugRun.core.journal = [] ∧
      L.debugRun.rd Reg.DBG_JOURNAL_LAST_COUNT = L.core.journal.length % 128 ∧
      (L.fc.hold = false → L.isSplit = false → L.debugRun.mode = 2) ∧
      (L.isSplit = false → L.debugRun.core.cpu = L.core.journal.foldl (fun h e => h.debugLamb e.1 e.2) L.core.cpu) := by
  let M := L.replay.updCore fun c => { c with debug := false }
  have hrun : L.debugRun = M.enterResync := if_pos (by simp [hdebug, hhalted])
  have hcore : M.enterResync.core = { L.replay.core with debug := false } := M.enterResync_frame.1 .core (by decide)
  refine ⟨fun p hp => L.debugRun_frame.1 p ?_, ?_, ?_, ?_, fun hhold hsplit => ?_, fun hsplit => ?_⟩
  · revert hp
    cases p <;> decide
  · rw [hrun, hcore]
  · rw [hrun, hcore, L.replay_core]
  · rw [hrun, rd_of_keepsRegs M.enterResync_regs _ (by decide)]
    exact rd_wr_self _ _ _ (by decide)
  · rw [hrun]
    refine (M.enterResync_phase ?_ (L.replay_isSplit.trans hsplit)).1
    exact (congrArg FcSt.hold (L.replay_frame.1 .fc (by decide))).trans hhold
  · rw [hrun, hcore, L.replay_core, if_neg (by simp [hsplit])]

/-! ### A single step -/

/-- A result written back, and the program counter past its instruction. -/
theorem LaneSt.putReg_retire_keeps (L : LaneSt) (fp : Bool) (rd : Nat) (v nv : Word) (len : Nat) :
    L.keeps [.core] ((L.putReg fp rd v nv).retire len) :=
  (frame_step (retire_frame _ len) (by decide) (L.putReg_frame fp rd v nv)).1

theorem LaneSt.issue_debug (L : LaneSt) (i : CoreInstr) (q : IssueIn) : (L.issue i q).core.debug = L.core.debug := by
  obtain ⟨x, y, n, h⟩ := L.issue_counts i q
  rw [h]
  rfl

/-- An operation whose copies agree. -/
theorem LaneSt.alu_agrees (h : L.inStep) (op : AluOp) (rd rs1 rs2 len : Nat) : L.laneInstr (.alu op rd rs1 rs2 len) .none =
    let v := leadOp op (L.core.cpu.getX false rs1) (L.core.cpu.getX false rs2)
    (L.putReg false rd v (~~~v)).retire len := by
  rw [LaneSt.laneInstr, h.lambOp, writeBack_agrees rfl (.inr rfl)]

/-- With no debugger's write to replay, Lamb is as it was. -/
theorem LaneSt.inStep_replay (hsplit : L.isSplit = false) (hjournal : L.core.journal = []) (hc : L.core.cpu.complements) :
    L.replay.inStep ∧ L.replay.core.cpu = L.core.cpu := by
  have hcpu : L.replay.core.cpu = L.core.cpu := by
    rw [L.replay_core, hjournal, if_neg (by simp [hsplit])]
    rfl
  exact ⟨⟨L.replay_isSplit.trans hsplit, by rw [hcpu]; exact hc⟩, hcpu⟩

end

end Sys2Proof.Machine

/-! ### The debugger's commands -/
namespace Sys2Proof.Machine

section
open LaneSt
variable {s : State} {l : Lane} (hup : (s.lane l).up = true)
include hup

/-- The reset that a mismatch, or a due one, leads to (R131, R155). -/
theorem laneRuns_coreReset (hdue : (s.lane l).fc.resetDue = true ∨ (s.lane l).core.halted = true) (hqueue : (s.lane l).fc.queue = [])
    (hsilent : (s.lane l).fc.silentNext = false) {P : LaneSt → Prop} (hP : P (s.lane l).coreReset) : LaneRuns (.coreResetAfterRecord l) s l P := by
  refine laneRuns_onLaneNow rfl hup ?_
  rw [if_pos (by simpa [hqueue, hsilent] using hdue)]
  exact hP

theorem debugHaltRequest_runs :
    ((s.lane l).on Reg.DBG_SESSION_OPEN = false ∨ (s.lane l).core.halted = true → LaneRuns (.debugHaltRequest l) s l fun L => L = s.lane l) ∧
    ((s.lane l).on Reg.DBG_SESSION_OPEN = true → (s.lane l).core.halted = false → (s.lane l).mayHalt l = false →
      LaneRuns (.debugHaltRequest l) s l fun L => L = (s.lane l).incSat Reg.DBG_SESSION_HALT_REFUSED) ∧
    ((s.lane l).mayHalt l = true → (s.lane l).core.halted = false → (s.lane l).core.debug = false →
      LaneRuns (.debugHaltRequest l) s l fun L => L = (s.lane l).halt l) := by
  refine ⟨fun h => laneRuns_onLaneNow rfl hup ?_, fun hopen hhalted hmay => laneRuns_onLaneNow rfl hup ?_,
    fun hmay hhalted hdebug => laneRuns_onLaneNow rfl hup ?_⟩
  · rw [if_pos (by simpa using h)]
  · rw [if_neg (by simp [hopen, hhalted]), if_neg (by simp [hmay])]
  · rw [if_neg (by simp [mayHalt_open hmay, hhalted]), if_pos hmay, if_neg (by simp [hdebug])]

/-- A debugger's access to a register other than the module's own two. -/
theorem debugRegisterWrite_runs {r : DbgReg} (hopen : (s.lane l).on Reg.DBG_SESSION_OPEN = true) (herr : (s.lane l).core.cmderr = 0)
    (hcs : r ≠ .abstractcs) (hsb : r ≠ .sbcs) :
    (∀ v, (s.lane l).core.debug = false ∨ (s.lane l).core.halted = true →
      LaneRuns (.debugRegisterWrite l r (some v)) s l fun L => L = (s.lane l).cmdError 4) ∧
    ((s.lane l).core.debug = true → (s.lane l).core.halted = false →
      (∀ v, dbgKnown r true = true → LaneRuns (.debugRegisterWrite l r (some v)) s l fun L => L = (s.lane l).abstractWrite r v) ∧
      (dbgKnown r false = true → LaneRuns (.debugRegisterWrite l r none) s l fun L =>
        L = ((s.lane l).debugRead r).2.updCore fun c => { c with data0 := ((s.lane l).debugRead r).1 })) := by
  have hmodule : ¬(r = .abstractcs ∨ r = .sbcs) := by simp [hcs, hsb]
  refine ⟨fun v h => laneRuns_onLaneNow rfl hup ?_, fun hdebug hhalted => ⟨fun v hknown => laneRuns_onLaneNow rfl hup ?_,
    fun hknown => laneRuns_onLaneNow rfl hup ?_⟩⟩
  · rw [if_neg (by simp [hopen]), if_neg hmodule, if_neg (by simp [herr]), if_pos (by simpa using h)]
  · rw [if_neg (by simp [hopen]), if_neg hmodule, if_neg (by simp [herr]), if_neg (by simp [hdebug, hhalted]), if_neg (by simp [hknown])]
  · rw [if_neg (by simp [hopen]), if_neg hmodule, if_neg (by simp [herr]), if_neg (by simp [hdebug, hhalted]), if_neg (by simp [hknown])]

/-- Bus access, by where its address lies (R138, log entry 92). -/
theorem systemBusAccess_runs (hopen : (s.lane l).on Reg.DBG_SESSION_OPEN = true) (hlevel : (s.lane l).rd Reg.SEC_DBG_STAT_LEVEL = 2)
    (herr : (s.lane l).core.sberror = 0) (a : Nat) (v : Word) :
    (isSram a = true → a % 4 = 0 → LaneRuns (.systemBusAccess l a (some v)) s l fun L => L = (s.lane l).setWord a v) ∧
    (isSram a = true → a % 4 = 0 → LaneRuns (.systemBusAccess l a none) s l fun L =>
      L = (s.lane l).updCore fun c => { c with sbdata := (s.lane l).word a }) ∧
    (isSram a = false → (s.lane l).sbaTakes a = true → a % 4 = 0 →
      exec (.systemBusAccess l a (some v)) s = exec (.registerWrite l a v 0#32) s) ∧
    (a % 4 ≠ 0 → LaneRuns (.systemBusAccess l a (some v)) s l fun L => L = (s.lane l).busError 3) ∧
    ((s.lane l).sbaTakes a = false → a % 4 = 0 → LaneRuns (.systemBusAccess l a (some v)) s l fun L => L = (s.lane l).busError 2) := by
  have hgo : ¬(!((s.lane l).up && (s.lane l).on Reg.DBG_SESSION_OPEN && (s.lane l).rd Reg.SEC_DBG_STAT_LEVEL == 2) ||
    (s.lane l).core.sberror != 0) = true := by simp [hup, hopen, hlevel, herr]
  have htakes : isSram a = true → (s.lane l).sbaTakes a = true := fun h => by rw [LaneSt.sbaTakes, h, Bool.true_or]
  have hexec : ∀ v, exec (.systemBusAccess l a v) s = execSystemBusAccess l a v s := fun _ => rfl
  refine ⟨fun hram ha => laneRuns_updLane (f := fun L => L.setWord a v) ?_ rfl,
    fun hram ha => laneRuns_updLane (f := fun L => L.updCore fun c => { c with sbdata := if isSram a then L.word a else L.reg a }) ?_ ?_,
    fun hram hto ha => ?_, fun ha => laneRuns_updLane (f := fun L => L.busError 3) ?_ rfl,
    fun hto ha => laneRuns_updLane (f := fun L => L.busError 2) ?_ rfl⟩
  · rw [hexec, execSystemBusAccess, if_neg hgo, if_neg (by simp [ha]), if_neg (by simp [htakes hram])]
    exact congrArg Host.Outcome.next (if_pos hram)
  · rw [hexec, execSystemBusAccess, if_neg hgo, if_neg (by simp [ha]), if_neg (by simp [htakes hram])]
  · simp only [hram, if_true]
  · rw [hexec, execSystemBusAccess, if_neg hgo, if_neg (by simp [ha]), if_neg (by simp [hto])]
    change _ = execRegisterWrite l a v 0#32 s
    rw [execRegisterWrite, if_pos hup, if_neg (by simp [hram])]
    rfl
  · rw [hexec, execSystemBusAccess, if_neg hgo, if_pos ha]
  · rw [hexec, execSystemBusAccess, if_neg hgo, if_neg (by simp [ha]), if_pos (by simp [hto])]

omit hup in
/-- An operation stepped over in debug mode. -/
theorem debugSingleStep_alu {op : AluOp} {rd rs1 rs2 len : Nat} (hrun : (s.lane l).runs = true) (hdebug : (s.lane l).core.debug = true)
    (hsplit : (s.lane l).isSplit = false) (hjournal : (s.lane l).core.journal = []) (hc : (s.lane l).core.cpu.complements) :
    LaneRuns (.debugSingleStep l (.alu op rd rs1 rs2 len)) s l fun L => (s.lane l).keeps [.core, .regs] L ∧
      (s.lane l).keepsRegs [0x40110010] L ∧ L.core.debug = true ∧ L.core.cpu.pc = (s.lane l).core.cpu.pc + BitVec.ofNat 32 len ∧
      (rd ≠ 0 → L.core.cpu.getX false rd = leadOp op ((s.lane l).core.cpu.getX false rs1) ((s.lane l).core.cpu.getX false rs2)) := by
  obtain ⟨hin, hcpu⟩ := inStep_replay hsplit hjournal hc
  have hissued := (s.lane l).replay.issue_issued (.alu op rd rs1 rs2 len) ⟨0, 0, 0⟩
  have hlane : (s.updLane l LaneSt.replay).lane l = (s.lane l).replay := State.lane_updLane_self ..
  refine laneRuns_updLane (f := fun L => (L.replay.issue (.alu op rd rs1 rs2 len) ⟨0, 0, 0⟩).laneInstr (.alu op rd rs1 rs2 len) .none) ?_ ?_
  · have hgo : ((s.lane l).runs && (s.lane l).core.debug) = true := by simp [hrun, hdebug]
    change execDebugSingleStep l _ s = _
    rw [execDebugSingleStep, if_pos hgo, State.runInstr_lane (hlane ▸ hin) rfl (by simp) (by simp), State.beforeRun_quiet (by simp),
      State.updLane_updLane, State.updLane_updLane]
  · rw [alu_agrees (hin.issue _ _), hissued.cpu, hcpu]
    have hkeeps := fun v => keeps_trans (putReg_retire_keeps _ false rd v (~~~v) len) hissued.keeps
    refine ⟨keeps_trans (fun p hp => hkeeps _ p ?_) (fun p hp => (s.lane l).replay_frame.1 p ?_),
      keepsRegs_of_regs (hkeeps _ .regs (by decide)) (s.lane l).replay_regs, ?_, ?_, fun hrd => ?_⟩
    · revert hp
      cases p <;> decide
    · revert hp
      cases p <;> decide
    · exact ((s.lane l).replay.issue_debug _ _).trans (((congrArg CoreSt.debug (s.lane l).replay_core)).trans hdebug)
    · rw [retire_pc, putReg_pc, hissued.cpu, hcpu]
    · rw [retire_getX, putReg_getX_self, if_neg (by simp [hrd])]

end

/-- Settles O59: the reset restarts core and engines and RESYNC keeps what it set; each of the debugger's commands is one operation of the
lane. Beside the cited rules it shows the model's choices of log entries 42 (the entry point after a reset), 85 (what a reset keeps), 90 (the
Shepherd's SRAM survives) and 92 (sberror 3 and the sticky error codes). -/
theorem debuggerSeesTheLead : Obligations.DebuggerSeesTheLead := by
  intro s l hup
  dsimp only
  obtain ⟨hrefused, hcounted, hhalts⟩ := debugHaltRequest_runs hup
  refine ⟨fun hdue hqueue hsilent => laneRuns_coreReset hup hdue hqueue hsilent ?_, fun hqueue => laneRuns_onLaneNow rfl hup (if_neg ?_), hrefused,
    fun hopen hhalted hmay => ?_, fun hmay hhalted hdebug => ?_, fun r v hopen herr hcs hsb => ?_,
    fun hdebug hhalted => laneRuns_onLaneNow rfl hup (LaneSt.debugRun_resumes hdebug hhalted), fun h n v hn => ?_,
    fun op rd rs1 rs2 len hrun hdebug hsplit hjournal hc => debugSingleStep_alu hrun hdebug hsplit hjournal hc, fun a v =>
        ⟨fun hgo herr => ?_, fun hgo => ?_⟩⟩
  case refine_1 =>
    obtain ⟨hframe, hregs, hcleared⟩ := (s.lane l).coreReset_keeps
    obtain ⟨hmis, hshep, hsession, _⟩ := (s.lane l).coreRestarted_reads
    have hcore : (s.lane l).coreReset.core = (s.lane l).core.restarted := (hframe.1 .core (by decide)).trans (s.lane l).coreRestarted_core
    have hon : ∀ f : Fld, covered resyncRegs f.addr = false → (s.lane l).coreReset.on f = (s.lane l).coreRestarted.on f := fun f hf => by
      rw [LaneSt.on, LaneSt.on, LaneSt.rd_of_keepsRegs hregs f hf]
    have haux : (s.lane l).coreReset.aux = (s.lane l).coreRestarted.aux := hframe.1 .aux (by decide)
    rw [hcore]
    refine ⟨rfl, rfl, rfl, rfl, rfl, fun a ha => (LaneSt.byte_of_mem (hframe.1 .mem (by decide)) a).trans ((s.lane l).coreRestarted_byte ha),
      (s.lane l).coreReset_frame.1 .shepMem (by decide), fun h => (hon _ (by decide)).trans (hmis h), hcleared,
      (congrArg AuxSt.v haux).trans (s.lane l).coreRestarted_aux, (hon _ (by decide)).trans hshep, (hregs _ (by decide)).trans hsession,
      fun hthermal hhold hsplit => (s.lane l).coreReset_resync hthermal hhold hsplit⟩
  case refine_2 => simp [hqueue]
  case refine_3 =>
    refine LaneRuns.imp ?_ (hcounted hopen hhalted hmay)
    rintro _ rfl
    exact ⟨(LaneSt.incSat_frame _ _ _).1, LaneSt.wr_keepsRegs _ _ _ (by decide), LaneSt.rd_incSat_self _ (by decide)⟩
  case refine_4 =>
    refine LaneRuns.imp ?_ (hhalts hmay hhalted hdebug)
    rintro _ rfl
    exact (s.lane l).halt_outcome l
  case refine_5 =>
    obtain ⟨hrefuse, haccess⟩ := debugRegisterWrite_runs hup hopen herr hcs hsb
    refine ⟨fun h => ?_, fun hdebug hhalted hknown => ⟨fun hfull => ?_, fun hroom => ?_⟩, ?_⟩
    · refine LaneRuns.imp ?_ (hrefuse v h)
      rintro _ rfl
      exact ⟨(LaneSt.cmdError_frame _ 4).1, rfl⟩
    · refine LaneRuns.imp ?_ ((haccess hdebug hhalted).1 v hknown)
      rintro _ rfl
      exact LaneSt.abstractWrite_full hfull r v
    · refine LaneRuns.imp ?_ ((haccess hdebug hhalted).1 v hknown)
      rintro _ rfl
      exact LaneSt.abstractWrite_journal hknown hroom v
    · rintro n rfl hn hdebug hhalted
      refine LaneRuns.imp ?_ ((haccess hdebug hhalted).2 (by simp [dbgKnown, hn]))
      rintro _ rfl
      simp only [LaneSt.debugRead, Nat.mod_eq_of_lt hn]
      rfl
  case refine_6 => exact Hart.getN_putN_self h false _ _ |>.trans (if_neg (by simp [hn]))
  case refine_7 =>
    obtain ⟨hopen, hlevel⟩ : (s.lane l).on Reg.DBG_SESSION_OPEN = true ∧ (s.lane l).rd Reg.SEC_DBG_STAT_LEVEL = 2 := by simpa using hgo
    obtain ⟨hwrite, hread, hblock, hodd, helse⟩ := systemBusAccess_runs hup hopen hlevel herr a v
    refine ⟨fun hram ha => ?_, fun hram ha => hread (by simpa [isSram] using hram) ha, ?_, hodd, fun hram hout ha => helse ?_ ha⟩
    · refine LaneRuns.imp ?_ (hwrite (by simpa [isSram] using hram) ha)
      rintro _ rfl
      exact ⟨(LaneSt.setBytes_frame _ _ _).1, LaneSt.setWord_word _ a v, fun b hb => LaneSt.setWord_byte v hb⟩
    · rintro ⟨hisBlock, hstandby, hrow, hsec⟩ ha
      refine hblock ?_ (by simp [LaneSt.sbaTakes, hisBlock, hstandby, hrow, hsec]) ha
      simp only [isBlock, isSram] at hisBlock ⊢
      grind
    · simp only [LaneSt.sbaTakes, isSram]
      grind
  case refine_8 =>
    refine ⟨s, ?_, rfl⟩
    change execSystemBusAccess l a (some v) s = _
    rw [execSystemBusAccess, if_pos]
    simp only [hup, Bool.true_and, hgo, Bool.not_false, Bool.true_or]

end Sys2Proof.Machine

/-! ## A register write does not read the core

The registers' own logic sees a store's address and data, not the core that sent them: a register write does the same beside any other core. -/
namespace Sys2Proof.Machine

/-- The lane with the core `c`. -/
def LaneSt.withCore (L : LaneSt) (c : CoreSt) : LaneSt := { L with core := c }

section
variable {L : LaneSt} {c : CoreSt}

/-! ### Combinators -/

theorem LaneSt.ite_withCore {p : Prop} [Decidable p] {M N M' N' : LaneSt} (hM : M' = M.withCore c) (hN : N' = N.withCore c) :
    (if p then M' else N') = (if p then M else N).withCore c := by
  rw [hM, hN, apply_ite (LaneSt.withCore · c)]

/-- Both outcomes of a decision beside the core. -/
@[simp] theorem LaneSt.withCore_ite {p : Prop} [Decidable p] {M N : LaneSt} :
    (if p then M.withCore c else N.withCore c) = (if p then M else N).withCore c := ite_withCore rfl rfl

theorem LaneSt.foldl_withCore {α : Type} {f g : LaneSt → α → LaneSt} (xs : List α)
    (h : ∀ (M : LaneSt) (x : α), g (M.withCore c) x = (f M x).withCore c) (L : LaneSt) :
    xs.foldl g (L.withCore c) = (xs.foldl f L).withCore c := by
  induction xs generalizing L with
  | nil => rfl
  | cons x xs ih => rw [List.foldl_cons, List.foldl_cons, h, ih]

theorem LaneSt.forN_withCore {n : Nat} {f : Nat → LaneSt → LaneSt} (h : ∀ (i : Nat) (M : LaneSt), f i (M.withCore c) = (f i M).withCore c)
    (L : LaneSt) : forN n f (L.withCore c) = (forN n f L).withCore c :=
  foldl_withCore _ (fun M i => h i M) L

theorem LaneSt.for3_withCore {f : Nat → LaneSt → LaneSt} (h : ∀ (i : Nat) (M : LaneSt), f i (M.withCore c) = (f i M).withCore c)
    (L : LaneSt) : for3 f (L.withCore c) = (for3 f L).withCore c := by
  rw [for3, for3, h, h, h]

/-! ### Registers

These hold by computation. They are given to `simp` as equations to rewrite with, `(rfl)`, so that a chain of them is checked link by link. -/

@[simp] theorem LaneSt.withCore_reg (a : Nat) : (L.withCore c).reg a = L.reg a := (rfl)
@[simp] theorem LaneSt.withCore_rd (f : Fld) : (L.withCore c).rd f = L.rd f := (rfl)
@[simp] theorem LaneSt.withCore_on (f : Fld) : (L.withCore c).on f = L.on f := (rfl)
@[simp] theorem LaneSt.withCore_st : (L.withCore c).st = L.st := (rfl)
@[simp] theorem LaneSt.withCore_time : (L.withCore c).time = L.time := (rfl)
@[simp] theorem LaneSt.withCore_aux : (L.withCore c).aux = L.aux := (rfl)
@[simp] theorem LaneSt.withCore_mbx : (L.withCore c).mbx = L.mbx := (rfl)
@[simp] theorem LaneSt.withCore_core : (L.withCore c).core = c := (rfl)

@[simp] theorem LaneSt.withCore_setReg (a : Nat) (v : Word) : (L.withCore c).setReg a v = (L.setReg a v).withCore c := (rfl)
@[simp] theorem LaneSt.withCore_wr (f : Fld) (v : Nat) : (L.withCore c).wr f v = (L.wr f v).withCore c := (rfl)
@[simp] theorem LaneSt.withCore_put (f : Fld) (b : Bool) : (L.withCore c).put f b = (L.put f b).withCore c := (rfl)
@[simp] theorem LaneSt.withCore_inc (f : Fld) (k : Nat) : (L.withCore c).inc f k = (L.inc f k).withCore c := (rfl)
@[simp] theorem LaneSt.withCore_incSat (f : Fld) (k : Nat) : (L.withCore c).incSat f k = (L.incSat f k).withCore c := (rfl)
@[simp] theorem LaneSt.withCore_updSafe (f : SafeSt → SafeSt) : (L.withCore c).updSafe f = (L.updSafe f).withCore c := (rfl)
@[simp] theorem LaneSt.withCore_updAux (f : AuxSt → AuxSt) : (L.withCore c).updAux f = (L.updAux f).withCore c := (rfl)
@[simp] theorem LaneSt.withCore_updMbx (f : MbxSt → MbxSt) : (L.withCore c).updMbx f = (L.updMbx f).withCore c := (rfl)
@[simp] theorem LaneSt.withCore_tick (t : Nat) : (L.withCore c).tick t = (L.tick t).withCore c := (rfl)

/-! ### Faults -/

theorem LaneSt.withCore_claim (m i : Nat) (M : LaneSt) : (if bitN m i then (M.withCore c).wr (Reg.CLAIM_OF i) 0 else M.withCore c) =
    (if bitN m i then M.wr (Reg.CLAIM_OF i) 0 else M).withCore c := ite_withCore rfl rfl

@[simp] theorem LaneSt.withCore_zeroClaims (m why : Nat) : (L.withCore c).zeroClaims m why = (L.zeroClaims m why).withCore c := by
  have h := for3_withCore (f := fun i M => if bitN m i then M.wr (Reg.CLAIM_OF i) 0 else M) (withCore_claim (c := c) m) L
  rw [LaneSt.zeroClaims, h, withCore_wr]
  rfl

@[simp] theorem LaneSt.withCore_driveCoils (cur : Int) : (L.withCore c).driveCoils cur = (L.driveCoils cur).withCore c := (rfl)

@[simp] theorem LaneSt.withCore_holdCoils : (L.withCore c).holdCoils = L.holdCoils.withCore c := by
  simp only [LaneSt.holdCoils, withCore_wr, withCore_rd, withCore_driveCoils]

@[simp] theorem LaneSt.withCore_auxAbort (hold : Bool) : (L.withCore c).auxAbort hold = (L.auxAbort hold).withCore c := by
  unfold LaneSt.auxAbort
  extract_lets run' A' B' x' C' y' run A B x C y
  have hA : A' = A.withCore c := by simp only [A', A, run', run, withCore_aux, withCore_wr]
  have hB : B' = B.withCore c := by simp only [B', B, hA, run', run, withCore_aux, withCore_holdCoils, withCore_ite]
  have hC : C' = C.withCore c := by simp only [C', C, hA, withCore_wr, withCore_put]
  clear_value B' C'
  subst hB hC
  exact ite_withCore rfl rfl

@[simp] theorem LaneSt.withCore_latchFirst (id d r : Nat) : (L.withCore c).latchFirst id d r = (L.latchFirst id d r).withCore c := by
  simp only [LaneSt.latchFirst, withCore_on, withCore_put, withCore_wr, withCore_ite, withCore_time]

@[simp] theorem LaneSt.withCore_queueRecord (id d r : Nat) : (L.withCore c).queueRecord id d r = (L.queueRecord id d r).withCore c :=
  ite_withCore rfl rfl

@[simp] theorem LaneSt.withCore_reactL2 (id d : Nat) : (L.withCore c).reactL2 id d = (L.reactL2 id d).withCore c := by
  simp only [LaneSt.reactL2, withCore_zeroClaims]
  exact ite_withCore rfl rfl

/-- The collector under a fault of level 3. -/
def LaneSt.underL3 (L : LaneSt) (id : Nat) : LaneSt :=
  { L with fc := { L.fc with under3 := true, silentNext := true, faultX := false, resetDue := true, line := 1
                             hold := L.fc.hold || holdsSilent id, thermal := L.fc.thermal || id == 0x0E06 } }

theorem LaneSt.reactL3_eq (L : LaneSt) (id : Nat) : L.reactL3 id = ((L.zeroClaims 7 5).auxAbort true).underL3 id := rfl

@[simp] theorem LaneSt.withCore_underL3 (id : Nat) : (L.withCore c).underL3 id = (L.underL3 id).withCore c := (rfl)

@[simp] theorem LaneSt.withCore_reactL3 (id : Nat) : (L.withCore c).reactL3 id = (L.reactL3 id).withCore c := by
  simp only [LaneSt.reactL3_eq, withCore_zeroClaims, withCore_auxAbort, withCore_underL3]

@[simp] theorem LaneSt.withCore_reactL4 : (L.withCore c).reactL4 = L.reactL4.withCore c := (rfl)

@[simp] theorem LaneSt.withCore_react (id d r : Nat) : (L.withCore c).react id d r = (L.react id d r).withCore c := by
  unfold LaneSt.react
  extract_lets x' A' B' C' D' x A B C D
  have hA : A' = A.withCore c := rfl
  have hB : B' = B.withCore c := by simp only [B', B, hA, withCore_reactL2, withCore_ite]
  have hC : C' = C.withCore c := by simp only [C', C, hB, withCore_reactL3, withCore_ite]
  have hD : D' = D.withCore c := by simp only [D', D, hC, withCore_reactL4, withCore_ite]
  rw [hD, withCore_queueRecord, withCore_ite]

@[simp] theorem LaneSt.withCore_openClass (k r : Nat) : (L.withCore c).openClass k r = (L.openClass k r).withCore c := by
  simp only [LaneSt.openClass, withCore_put, withCore_wr, withCore_rd]

theorem LaneSt.withCore_reaction (lv k : Nat) : (L.withCore c).reaction lv k = L.reaction lv k := rfl

@[simp] theorem LaneSt.withCore_raiseAt (id d lv : Nat) : (L.withCore c).raiseAt id d lv = (L.raiseAt id d lv).withCore c := by
  simp only [LaneSt.raiseAt, withCore_incSat, withCore_reaction, withCore_latchFirst, withCore_openClass, withCore_react, withCore_ite]

@[simp] theorem LaneSt.withCore_raise (id d : Nat) : (L.withCore c).raise id d = (L.raise id d).withCore c := by
  have hassert : (L.withCore c).assert id (detailOf id d) = (L.assert id (detailOf id d)).withCore c :=
    ite_withCore (withCore_incSat ..) (withCore_raiseAt ..)
  exact ite_withCore rfl hassert

@[simp] theorem LaneSt.withCore_raiseIf (b : Bool) (id d : Nat) : (L.withCore c).raiseIf b id d = (L.raiseIf b id d).withCore c :=
  ite_withCore (withCore_raise ..) rfl

@[simp] theorem LaneSt.withCore_refuseWrite : (L.withCore c).refuseWrite = L.refuseWrite.withCore c := withCore_raise ..

/-! ### Requests, acknowledgements and the safe state -/

@[simp] theorem LaneSt.withCore_report (r why b : Nat) : (L.withCore c).report r why b = (L.report r why b).withCore c := by
  simp only [LaneSt.report, withCore_wr, withCore_inc]

@[simp] theorem LaneSt.withCore_request (target : Nat) : (L.withCore c).request target = (L.request target).withCore c := by
  refine ite_withCore rfl (ite_withCore (withCore_report ..) ?_)
  split
  · next h =>
    rw [show L.sys.want = none from h]
    exact ite_withCore rfl rfl
  · next w h =>
    rw [show L.sys.want = some w from h]
    exact ite_withCore rfl (withCore_report (L := { L with sys := { L.sys with want := some (min w target) } }) ..)

@[simp] theorem LaneSt.withCore_ackClass (k : Nat) : (L.withCore c).ackClass k = (L.ackClass k).withCore c := by
  unfold LaneSt.ackClass
  extract_lets A' x' A x
  have hA : A' = A.withCore c := by simp only [A', A, withCore_put, withCore_wr]
  clear_value A'
  subst hA
  rfl

@[simp] theorem LaneSt.withCore_refreshClaims (l : Lane) : (L.withCore c).refreshClaims l = (L.refreshClaims l).withCore c := by
  refine for3_withCore (fun i M => ?_) L
  have hwhy : (M.withCore c).withdrawWhy l i = M.withdrawWhy l i := rfl
  simp only [hwhy, withCore_rd, withCore_wr, withCore_zeroClaims, withCore_ite]

@[simp] theorem LaneSt.withCore_ackClasses (l : Lane) (m : Nat) : (L.withCore c).ackClasses l m = (L.ackClasses l m).withCore c := by
  have h : ∀ (i : Nat) (M : LaneSt), (if bitN m i then (M.withCore c).ackClass (i + 1) else M.withCore c) =
      (if bitN m i then M.ackClass (i + 1) else M).withCore c := fun _ _ => ite_withCore (withCore_ackClass _) rfl
  unfold LaneSt.ackClasses
  rw [forN_withCore (f := fun i M => if bitN m i then M.ackClass (i + 1) else M) h, withCore_refreshClaims]

@[simp] theorem LaneSt.withCore_rearmFirst : (L.withCore c).rearmFirst = L.rearmFirst.withCore c := by
  simp only [LaneSt.rearmFirst, withCore_setReg, withCore_put]

@[simp] theorem LaneSt.withCore_releaseForced : (L.withCore c).releaseForced = L.releaseForced.withCore c := by
  refine for3_withCore (fun i M => ?_) L
  have hmode : (M.withCore c).writtenMode i = M.writtenMode i := rfl
  simp only [hmode, withCore_on, withCore_put, withCore_ite]

@[simp] theorem LaneSt.withCore_post (t : Nat) : (L.withCore c).post t = (L.post t).withCore c := by
  unfold LaneSt.post
  rw [← withCore_releaseForced]
  rfl

@[simp] theorem LaneSt.withCore_startPulse (m : Nat) : (L.withCore c).startPulse m = (L.startPulse m).withCore c := by
  refine for3_withCore (fun i M => ?_) L
  exact ite_withCore rfl rfl

@[simp] theorem LaneSt.withCore_refreshSafe (l : Lane) : (L.withCore c).refreshSafe l = (L.refreshSafe l).withCore c := by
  refine for3_withCore (fun i M => ?_) L
  have hstopped : (M.withCore c).stopped l i = M.stopped l i := rfl
  have henables : (M.withCore c).enables = M.enables := rfl
  have hreset : ∀ N : LaneSt, (N.withCore c).needsReset l i = N.needsReset l i := fun _ => rfl
  have hsafe : ∀ N : LaneSt, (N.withCore c).safe = N.safe := fun _ => rfl
  simp only [hstopped, henables, hreset, hsafe, withCore_updSafe, withCore_put, withCore_ite]

@[simp] theorem LaneSt.withCore_askSs1 (src : StopSrc) (m : Nat) : (L.withCore c).askSs1 src m = (L.askSs1 src m).withCore c := rfl

@[simp] theorem LaneSt.withCore_dropSs1 (m : Nat) : (L.withCore c).dropSs1 m = (L.dropSs1 m).withCore c := by
  refine for3_withCore (fun i M => ?_) L
  have hsafe : (M.withCore c).safe = M.safe := rfl
  rw [hsafe]
  split
  · exact ite_withCore rfl rfl
  · rfl

/-! ### The auxiliary axis -/

@[simp] theorem LaneSt.withCore_setVel (v : Int) : (L.withCore c).setVel v = (L.setVel v).withCore c := rfl

@[simp] theorem LaneSt.withCore_rest (onGoal : Bool) : (L.withCore c).rest onGoal = (L.rest onGoal).withCore c := by
  unfold LaneSt.rest
  extract_lets h' A' B' C' h A B C
  have hA : A' = A.withCore c := withCore_setVel 0
  have hB : B' = B.withCore c := by simp only [B', B, hA, withCore_rd, withCore_wr, withCore_ite]
  have hC : C' = C.withCore c := by simp only [C', C, hB, h', h, withCore_aux, withCore_holdCoils, withCore_ite]
  rw [hC, hA, withCore_aux]
  split <;> simp only [withCore_updAux, withCore_time]

@[simp] theorem LaneSt.withCore_auxStop : (L.withCore c).auxStop = L.auxStop.withCore c := by
  have hhoming : (L.withCore c).homing = L.homing := rfl
  unfold LaneSt.auxStop
  extract_lets A' B' A B
  have hA : A' = A.withCore c := by simp only [A', A, LaneSt.unref, hhoming, withCore_wr, withCore_ite]
  have hB : B' = B.withCore c := by simp only [B', B, hA, withCore_updAux]
  rw [hB, withCore_aux, withCore_updAux, withCore_rest, withCore_wr, withCore_updAux]
  exact ite_withCore (ite_withCore rfl rfl) rfl

@[simp] theorem LaneSt.withCore_refreshTbl : (L.withCore c).refreshTbl = L.refreshTbl.withCore c := rfl

@[simp] theorem LaneSt.withCore_auxReject (code : Nat) : (L.withCore c).auxReject code = (L.auxReject code).withCore c := rfl

@[simp] theorem LaneSt.withCore_fullStep : (L.withCore c).fullStep = L.fullStep.withCore c := by
  refine ite_withCore rfl ?_
  extract_lets A' A
  have hA : A' = A.withCore c := by
    unfold A' A
    rw [withCore_aux]
    split <;> rfl
  rw [hA, withCore_aux]
  split
  · rw [withCore_updAux, withCore_refreshTbl]
  · rfl

@[simp] theorem LaneSt.withCore_abortAux : (L.withCore c).abortAux = L.abortAux.withCore c := by
  simp only [LaneSt.abortAux, withCore_rd, withCore_auxAbort, withCore_wr]

/-! ### The mailbox -/

@[simp] theorem LaneSt.withCore_showPending : (L.withCore c).showPending = L.showPending.withCore c := rfl

@[simp] theorem LaneSt.withCore_sendReply (p : Reply) : (L.withCore c).sendReply p = (L.sendReply p).withCore c := ite_withCore rfl rfl

@[simp] theorem LaneSt.withCore_keepReply (r : Req) (p : Reply) : (L.withCore c).keepReply r p = (L.keepReply r p).withCore c := rfl

@[simp] theorem LaneSt.withCore_freeInner (r : Req) : (L.withCore c).freeInner r = (L.freeInner r).withCore c := ite_withCore rfl rfl

theorem LaneSt.withCore_replyTo (code : Nat) (r : Req) (nak : Option Nat) (more : Bool) (p : List Byte) :
    (L.withCore c).replyTo code r nak more p = L.replyTo code r nak more p := rfl

@[simp] theorem LaneSt.withCore_refuse (code : Nat) (r : Req) (nak d : Nat) : (L.withCore c).refuse code r nak d =
    (L.refuse code r nak d).withCore c := by
  simp only [LaneSt.refuse, withCore_replyTo, withCore_sendReply, withCore_keepReply, withCore_freeInner]

@[simp] theorem LaneSt.withCore_endTap (x : Tap) : (L.withCore c).endTap x = (L.endTap x).withCore c := by
  simp only [LaneSt.endTap, LaneSt.finish, withCore_replyTo, withCore_sendReply, withCore_keepReply, withCore_freeInner]

theorem LaneSt.withCore_setBytes (a : Nat) (bs : List Byte) : (L.withCore c).setBytes a bs = (L.setBytes a bs).withCore c := by
  induction bs generalizing L a with
  | nil => rfl
  | cons b bs ih => exact ih (L := L.setByte a b) (a + 1)

theorem LaneSt.withCore_setBank (b : Bool) (x : Bank) : (L.withCore c).setBank b x = (L.setBank b x).withCore c := by
  have hput : (L.withCore c).putBank b x = (L.putBank b x).withCore c := ite_withCore rfl rfl
  rw [LaneSt.setBank_eq, LaneSt.setBank_eq, hput, withCore_setBytes]

theorem LaneSt.withCore_setSlot (b : Bool) (x : Slot) : (L.withCore c).setSlot b x = (L.setSlot b x).withCore c := ite_withCore rfl rfl

@[simp] theorem LaneSt.withCore_dropLoads : (L.withCore c).dropLoads = L.dropLoads.withCore c := by
  unfold LaneSt.dropLoads
  extract_lets A' B' A B
  have hA : A' = A.withCore c := by
    unfold A' A
    rw [withCore_mbx]
    split
    · exact withCore_setSlot (L := (L.eraseMem _ 0x40000).eraseSlotRec _) ..
    · rfl
  have hB : B' = B.withCore c := by
    unfold B' B
    rw [hA, withCore_mbx]
    split
    · exact withCore_setBank ..
    · rfl
  rw [hB, withCore_updMbx]

@[simp] theorem LaneSt.withCore_abortMailbox : (L.withCore c).abortMailbox = L.abortMailbox.withCore c := by
  unfold LaneSt.abortMailbox
  extract_lets A' B' C' A B C
  have hA : A' = A.withCore c := by
    refine foldl_withCore _ (fun M h => ?_) L
    exact ite_withCore (withCore_refuse ..) rfl
  have hB : B' = B.withCore c := by
    unfold B' B
    rw [hA]
    exact foldl_withCore _ (fun M x => withCore_endTap x) A
  have hC : C' = C.withCore c := by simp only [C', C, hB, withCore_mbx, withCore_dropLoads, withCore_ite]
  rw [hC, withCore_updMbx, withCore_showPending]

@[simp] theorem LaneSt.withCore_crookDone (f : CrookSt → CrookSt) : (L.withCore c).crookDone f = (L.crookDone f).withCore c := by
  unfold LaneSt.crookDone
  extract_lets A' A
  have hA : A' = A.withCore c := rfl
  rw [hA, withCore_mbx]
  split
  · rw [withCore_wr, withCore_wr]
  · rfl

@[simp] theorem LaneSt.withCore_crookGoes : (L.withCore c).crookGoes = L.crookGoes.withCore c := by
  have hchn : ∀ M : LaneSt, (M.withCore c).chn = M.chn := fun _ => rfl
  unfold LaneSt.crookGoes
  rw [withCore_mbx]
  split
  · rfl
  · simp only [hchn, withCore_aux, withCore_abortMailbox, withCore_crookDone, withCore_ite]

@[simp] theorem LaneSt.withCore_crookStart (r : Req) (mailbox aux : Bool) :
    (L.withCore c).crookStart r mailbox aux = (L.crookStart r mailbox aux).withCore c := by
  simp only [LaneSt.crookStart, withCore_time, withCore_mbx, withCore_updMbx, withCore_crookDone, withCore_wr, withCore_abortAux, withCore_ite,
    withCore_crookGoes]

@[simp] theorem LaneSt.withCore_mbxPost (v : Word) : (L.withCore c).mbxPost v = (L.mbxPost v).withCore c :=
  ite_withCore (withCore_refuseWrite ..) (ite_withCore (withCore_put ..) rfl)

@[simp] theorem LaneSt.withCore_mbxCrook (l : Lane) (v : Word) : (L.withCore c).mbxCrook l v = (L.mbxCrook l v).withCore c :=
  ite_withCore (withCore_refuseWrite ..) (ite_withCore (withCore_crookStart ..) rfl)

/-! ### CAN, and a plain write -/

theorem LaneSt.withCore_updCan (i : CanId) (f : CanSt → CanSt) : (L.withCore c).updCan i f = (L.updCan i f).withCore c := by
  cases i <;> rfl

theorem LaneSt.withCore_setCan (i : CanId) (f : CanSt → CanSt) : (L.withCore c).setCan i f = (L.setCan i f).withCore c := by
  cases i <;> rfl

theorem LaneSt.withCore_showHist : (L.withCore c).showHist = L.showHist.withCore c := by
  have hagr : (L.withCore c).agr = L.agr := rfl
  unfold LaneSt.showHist
  rw [hagr, withCore_rd]
  split
  · rw [← withCore_put]
    exact congrArg (LaneSt.put · Reg.AGR_HIST_SEL_PRESENT true) (foldl_withCore _ (fun M x => rfl) L)
  · rw [← withCore_put]
    exact congrArg (LaneSt.put · Reg.AGR_HIST_SEL_PRESENT false) (forN_withCore (fun i M => rfl) L)

theorem LaneSt.withCore_showSched : (L.withCore c).showSched = L.showSched.withCore c := by
  have hflk : (L.withCore c).flk = L.flk := rfl
  simp only [LaneSt.showSched, hflk, withCore_rd, withCore_on, withCore_wr]

@[simp] theorem LaneSt.withCore_afterWrite (a : Nat) : (L.withCore c).afterWrite a = (L.afterWrite a).withCore c :=
  ite_withCore withCore_showHist (ite_withCore withCore_showSched (ite_withCore (withCore_refreshTbl ..) (ite_withCore rfl rfl)))

@[simp] theorem LaneSt.withCore_lockRws (a : Nat) (r : RegRow) : (L.withCore c).lockRws a r = (L.lockRws a r).withCore c := by
  unfold LaneSt.lockRws
  rw [← withCore_raiseIf]
  rfl

@[simp] theorem LaneSt.withCore_plainWrite (l : Lane) (a : Nat) (r : RegRow) (v sets : Word) :
    (L.withCore c).plainWrite l a r v sets = (L.plainWrite l a r v sets).withCore c := by
  have hignores : (L.withCore c).ignores a v = L.ignores a v := rfl
  have htx : (L.withCore c).txBuffer a = L.txBuffer a := rfl
  have hlocked : (L.withCore c).lockedAt a r = L.lockedAt a r := rfl
  have hwrong : ∀ M : LaneSt, (M.withCore c).wrongConfig l a = M.wrongConfig l a := fun _ => rfl
  unfold LaneSt.plainWrite
  rw [hignores]
  split
  · rfl
  · exact withCore_refuseWrite ..
  · simp only [htx, hlocked, hwrong, withCore_st, withCore_reg, withCore_setReg, withCore_afterWrite, withCore_lockRws, withCore_raiseIf]

end
end Sys2Proof.Machine

/-! ### The commands that a register starts -/
namespace Sys2Proof.Machine

/-- The state with the core `c` in lane `l`. -/
def State.withCore (s : State) (l : Lane) (c : CoreSt) : State := s.updLane l fun L => L.withCore c

/-- A command that is the same beside any core of lane `l`. -/
def CoreBlind (l : Lane) (f : State → Out) : Prop :=
  ∀ (s : State) (c : CoreSt), outState (s.withCore l c) (f (s.withCore l c)) = (outState s (f s)).withCore l c

section
open LaneSt
variable {s : State} {l : Lane} {c : CoreSt} {f : LaneSt → LaneSt}

theorem State.lane_withCore : (s.withCore l c).lane l = (s.lane l).withCore c := State.lane_updLane_self ..

/-- A change of the lane that is the same beside any core. -/
theorem State.withCore_updLane {f' : LaneSt → LaneSt} (hf : f' ((s.lane l).withCore c) = (f (s.lane l)).withCore c) :
    (s.withCore l c).updLane l f' = (s.updLane l f).withCore l c := by
  rw [State.withCore, State.withCore, State.updLane_updLane, State.updLane_updLane]
  exact State.updLane_congr hf

theorem State.withCore_ite {p : Prop} [Decidable p] {t u t' u' : State} (ht : t' = t.withCore l c) (hu : u' = u.withCore l c) :
    (if p then t' else u') = (if p then t else u).withCore l c := by
  split <;> assumption

theorem State.withCore_fresh : (s.withCore l c).updLane l (fun _ => ((s.lane l).withCore c).fresh.2) =
    (s.updLane l fun _ => (s.lane l).fresh.2).withCore l c :=
  State.withCore_updLane rfl

section
variable (hf : ∀ (L : LaneSt) (c : CoreSt), f (L.withCore c) = (f L).withCore c)
include hf

theorem coreBlind_onLaneNow : CoreBlind l fun s => onLaneNow l s f := fun _ c => State.withCore_updLane (ite_withCore (hf _ c) rfl)

theorem coreBlind_onLane (t : Nat) : CoreBlind l fun s => onLane l t s f := fun s c =>
  State.withCore_updLane (ite_withCore (hf ((s.lane l).tick t) c) rfl)

theorem coreBlind_onLinkedNow : CoreBlind l fun s => onLinkedNow l s f := fun _ c => State.withCore_updLane (ite_withCore (hf _ c) rfl)

theorem coreBlind_onLinked (t : Nat) : CoreBlind l fun s => onLinked l t s f := fun s c =>
  State.withCore_updLane (ite_withCore (hf ((s.lane l).tick t) c) rfl)

theorem coreBlind_auxCmd (key : BitVec 16) : CoreBlind l fun s => auxCmd l key s f :=
  coreBlind_onLaneNow fun L c => ite_withCore (hf L c) (withCore_refuseWrite ..)

end

theorem withCore_forBits {f : Nat → State → Out} (hf : ∀ j, CoreBlind l (f j)) (v : Word) (s : State) :
    forBits v f (s.withCore l c) = (forBits v f s).withCore l c := by
  have hfold : ∀ (js : List Nat) (u : State), js.foldl (fun s i => if v.getLsbD i then outState s (f i s) else s) (u.withCore l c) =
      (js.foldl (fun s i => if v.getLsbD i then outState s (f i s) else s) u).withCore l c := by
    intro js
    induction js with
    | nil => exact fun _ => rfl
    | cons j js ih =>
      intro u
      rw [List.foldl_cons, List.foldl_cons, State.withCore_ite (hf j u c) rfl, ih]
  exact hfold _ s

/-! #### State, faults, position -/

theorem execSysReq_coreBlind (key : BitVec 16) (target : BitVec 3) : CoreBlind l (execSysReq l key target) :=
  coreBlind_onLaneNow fun _ _ => ite_withCore (withCore_request ..) (withCore_refuseWrite ..)

theorem execAcknowledgeClass_coreBlind (key : BitVec 16) (classes : BitVec 15) : CoreBlind l (execAcknowledgeClass l key classes) :=
  coreBlind_onLaneNow fun _ _ => ite_withCore (withCore_ackClasses ..) (withCore_refuseWrite ..)

theorem execRearm_coreBlind (key : BitVec 16) : CoreBlind l (execRearm l key) :=
  coreBlind_onLaneNow fun _ _ => ite_withCore (withCore_rearmFirst ..) (withCore_refuseWrite ..)

theorem execFaultInject_coreBlind (id : BitVec 16) (detail : BitVec 8) (t : Nat) : CoreBlind l (execFaultInject l id detail t) := by
  refine coreBlind_onLane (fun L c => ?_) t
  rw [withCore_raise, withCore_raise]
  exact ite_withCore rfl rfl

theorem execPosSnap_coreBlind (v : Word) : CoreBlind l (execPosSnap l v) :=
  coreBlind_onLaneNow fun _ _ => ite_withCore rfl rfl

theorem execReref_coreBlind (v : Word) : CoreBlind l (execReref l v) :=
  coreBlind_onLaneNow fun _ _ => ite_withCore (withCore_wr ..) rfl

theorem execCommit_coreBlind (t : Nat) : CoreBlind l (execCommit l t) := by
  refine coreBlind_onLane (fun L c => ?_) t
  rw [withCore_post]
  exact ite_withCore rfl rfl

theorem execStgRearm_coreBlind (key : BitVec 16) (mask : BitVec 3) : CoreBlind l (execStgRearm l key mask) := by
  refine coreBlind_onLaneNow fun L c => ?_
  rw [withCore_startPulse, withCore_refuseWrite]
  exact ite_withCore (ite_withCore rfl rfl) rfl

/-! #### The safe state -/

theorem execSafeReqSto_coreBlind (key : BitVec 16) (mask : BitVec 3) : CoreBlind l (execSafeReqSto l key mask) := by
  refine coreBlind_onLaneNow fun L c => ?_
  rw [withCore_updSafe, withCore_refreshSafe, withCore_refuseWrite]
  exact ite_withCore rfl rfl

theorem execSafeReqSs1_coreBlind (key : BitVec 16) (mask : BitVec 3) : CoreBlind l (execSafeReqSs1 l key mask) := by
  refine coreBlind_onLaneNow fun L c => ?_
  rw [withCore_askSs1, withCore_refuseWrite]
  exact ite_withCore rfl rfl

theorem execSafeReqClr_coreBlind (key : BitVec 16) (mask : BitVec 3) : CoreBlind l (execSafeReqClr l key mask) := by
  refine coreBlind_onLaneNow fun L c => ?_
  dsimp only
  rw [withCore_updSafe, withCore_dropSs1, withCore_refreshSafe, withCore_refuseWrite]
  exact ite_withCore rfl rfl

theorem State.withCore_writeSafeReq (v : Word) : (s.withCore l c).writeSafeReq l v = (s.writeSafeReq l v).withCore l c := by
  unfold State.writeSafeReq
  dsimp only
  rw [execSafeReqSto_coreBlind, execSafeReqSs1_coreBlind, execSafeReqClr_coreBlind]
  exact State.withCore_ite rfl rfl

theorem State.withCore_writeFcAck (v : Word) : (s.withCore l c).writeFcAck l v = (s.writeFcAck l v).withCore l c := by
  unfold State.writeFcAck
  dsimp only
  rw [execAcknowledgeClass_coreBlind, execRearm_coreBlind]
  exact State.withCore_ite rfl rfl

/-! #### The auxiliary axis -/

theorem execMove_coreBlind (key : BitVec 16) : CoreBlind l (execMove l key) := by
  refine coreBlind_auxCmd (fun L c => ?_) key
  dsimp only
  rw [withCore_auxReject, withCore_auxReject, withCore_auxReject]
  exact ite_withCore rfl (ite_withCore rfl (ite_withCore rfl (ite_withCore rfl rfl)))

theorem execHardstop_coreBlind (key : BitVec 16) : CoreBlind l (execHardstop l key) := by
  refine coreBlind_auxCmd (fun L c => ?_) key
  rw [withCore_auxStop]
  dsimp only
  rw [withCore_aux, withCore_updAux]
  exact ite_withCore rfl rfl

theorem execHome_coreBlind (key : BitVec 16) (t : Nat) : CoreBlind l (execHome l key t) := by
  refine coreBlind_auxCmd (fun L c => ?_) key
  rw [withCore_auxReject, withCore_auxReject, withCore_auxReject, withCore_auxReject, withCore_tick, withCore_updAux]
  exact ite_withCore rfl (ite_withCore rfl (ite_withCore rfl (ite_withCore rfl (ite_withCore rfl rfl))))

theorem execClear_coreBlind (key : BitVec 16) (gone : Bool) : CoreBlind l (execClear l key gone) := by
  refine coreBlind_auxCmd (fun L c => ?_) key
  dsimp only
  rw [withCore_wr, withCore_wr, withCore_wr, withCore_wr]
  exact ite_withCore rfl rfl

theorem execCommitTbl_coreBlind (key : BitVec 16) : CoreBlind l (execCommitTbl l key) := by
  have hstaged : ∀ (L : LaneSt) (c : CoreSt), (L.withCore c).staged = L.staged := fun _ _ => rfl
  have hstill : ∀ (L : LaneSt) (c : CoreSt), (L.withCore c).auxStill = L.auxStill := fun _ _ => rfl
  refine coreBlind_auxCmd (fun L c => ?_) key
  simp only [hstaged, hstill, withCore_st, withCore_auxReject, withCore_raise, withCore_updAux, withCore_fullStep, withCore_ite]

theorem State.withCore_writeAuxCmd (v : Word) : (s.withCore l c).writeAuxCmd l v = (s.writeAuxCmd l v).withCore l c := by
  refine State.withCore_ite (State.withCore_updLane (withCore_refuseWrite ..)) ?_
  rw [State.lane_withCore, withCore_time]
  split
  case h_1 => exact execMove_coreBlind _ s c
  case h_2 => exact coreBlind_auxCmd (fun _ _ => withCore_auxStop ..) _ s c
  case h_3 => exact execHardstop_coreBlind _ s c
  case h_4 => exact execHome_coreBlind _ _ s c
  case h_5 =>
    dsimp only
    rw [State.withCore_fresh]
    exact execClear_coreBlind _ _ _ c
  case h_6 => exact execCommitTbl_coreBlind _ s c
  case h_7 => rfl

/-! #### Link, mailbox and CAN -/

theorem execTxPost_coreBlind (buf len t : Nat) : CoreBlind l (execTxPost l buf len t) := by
  refine coreBlind_onLinked (fun L c => ?_) t
  exact ite_withCore rfl rfl

theorem execCpiAck_coreBlind (mask : BitVec 16) : CoreBlind l (execCpiAck l mask) :=
  coreBlind_onLinkedNow fun _ _ => rfl

theorem execMbxReplyRelease_coreBlind (v : Word) : CoreBlind l (execMbxReplyRelease l v) :=
  coreBlind_onLaneNow fun _ _ => ite_withCore rfl rfl

theorem execRecover_coreBlind (i : CanId) (v : Word) : CoreBlind l (execRecover l i v) := by
  refine coreBlind_onLinkedNow fun L c => ?_
  rw [withCore_setCan]
  exact ite_withCore rfl rfl

theorem execCanRxRelease_coreBlind (i : CanId) (buf wcnt : Nat) : CoreBlind l (execCanRxRelease l i buf wcnt) := by
  refine coreBlind_onLinkedNow fun L c => ?_
  rw [withCore_put, withCore_put, withCore_rd]
  exact ite_withCore rfl rfl

theorem execCanTxRequest_coreBlind (i : CanId) (buf : Nat) : CoreBlind l (execCanTxRequest l i buf) := by
  refine coreBlind_onLinkedNow fun L c => ?_
  rw [LaneSt.setPending, withCore_put, withCore_put, withCore_on, withCore_on]
  exact ite_withCore rfl rfl

theorem execCanTxAbort_coreBlind (i : CanId) (buf : Nat) (onBus : Bool) : CoreBlind l (execCanTxAbort l i buf onBus) := by
  refine coreBlind_onLinkedNow fun L c => ?_
  rw [withCore_updCan, LaneSt.setPending, withCore_put]
  exact ite_withCore rfl (ite_withCore rfl rfl)

theorem State.withCore_canTrigger (i : CanId) (o : Nat) (v : Word) :
    (s.withCore l c).canTrigger l i o v = (s.canTrigger l i o v).map (·.withCore l c) := by
  unfold State.canTrigger
  rw [execRecover_coreBlind, execCanRxRelease_coreBlind, withCore_forBits fun j => execCanTxRequest_coreBlind i (8 * (o - 0x30) + j)]
  have habort : (s.withCore l c).canAbort l i (8 * (o - 0x40)) v = (s.canAbort l i (8 * (o - 0x40)) v).withCore l c := by
    unfold State.canAbort
    dsimp only
    rw [State.lane_withCore, State.withCore_fresh]
    exact withCore_forBits (fun j => execCanTxAbort_coreBlind i _ _) v _
  rw [habort]
  simp only [apply_ite (Option.map fun t : State => t.withCore l c), Option.map_some, Option.map_none]

/-! ### A register write as a whole -/

theorem State.withCore_trigger (a : Nat) (v : Word) : (s.withCore l c).trigger l a v = (s.trigger l a v).map (·.withCore l c) := by
  have htime : ((s.withCore l c).lane l).time = (s.lane l).time := by rw [State.lane_withCore, withCore_time]
  unfold State.trigger
  rw [htime]
  dsimp only
  split
  case h_1 => exact congrArg some (execSysReq_coreBlind _ _ s c)
  case h_2 => exact congrArg some (State.withCore_writeFcAck v)
  case h_3 => exact congrArg some (execFaultInject_coreBlind _ _ _ s c)
  case h_4 => exact congrArg some (execPosSnap_coreBlind v s c)
  case h_5 => exact congrArg some (execReref_coreBlind v s c)
  case h_6 => exact congrArg some (State.withCore_ite (execCommit_coreBlind _ s c) rfl)
  case h_7 => exact congrArg some (execStgRearm_coreBlind _ _ s c)
  case h_8 => exact congrArg some (State.withCore_writeSafeReq v)
  case h_9 => exact congrArg some (execTxPost_coreBlind _ _ _ s c)
  case h_10 => exact congrArg some (execCpiAck_coreBlind _ s c)
  case h_11 => exact congrArg some (State.withCore_writeAuxCmd v)
  case h_12 => exact congrArg some (State.withCore_updLane (withCore_mbxPost ..))
  case h_13 => exact congrArg some (execMbxReplyRelease_coreBlind v s c)
  case h_14 => exact congrArg some (State.withCore_updLane (withCore_mbxCrook ..))
  case h_15 =>
    split
    · exact State.withCore_canTrigger ..
    · rfl

/-- A register write is the same beside any core, and leaves that core as it is. -/
theorem State.withCore_regWrite (a : Nat) (v sets : Word) : (s.withCore l c).regWrite l a v sets = (s.regWrite l a v sets).withCore l c := by
  refine State.withCore_ite (State.withCore_updLane (withCore_raise ..)) (State.withCore_ite rfl ?_)
  split
  · rfl
  · rw [State.withCore_trigger]
    cases s.trigger l a v with
    | some t => rfl
    | none => exact State.withCore_updLane (withCore_plainWrite ..)

end
end Sys2Proof.Machine

/-! ## Undisturbed instructions (R110, R114, R121, R123)

What each instruction does when its copies agree, as one equation, and what the lane shows then. -/
namespace Sys2Proof.Machine

/-! ### The instructions of copies in step -/

section
open LaneSt
variable {L : LaneSt} (h : L.inStep)
include h

theorem LaneSt.inStep_lambSum (v : Word) : lambOp .add L.core.cpu.npc (~~~v) = ~~~(L.core.cpu.pc + v) := by
  rw [h.2.1]
  exact lambOp_not .add _ v

theorem LaneSt.muldiv_agrees (op : MulOp) (rd rs1 rs2 len : Nat) : L.laneInstr (.muldiv op rd rs1 rs2 len) .none =
    let v := unitExec op (L.core.cpu.getX false rs1) (L.core.cpu.getX false rs2)
    (L.putReg false rd v (~~~v)).retire len := by
  rw [LaneSt.laneInstr, h.lambUnit, writeBack_agrees rfl (.inr rfl)]

/-- An operation of the FPU with a rounding mode that exists. -/
theorem LaneSt.fpu_agrees {op : FpuOp} (hint : fpuToInt op = false) {rm : Nat} (hmode : roundMode rm (L.core.cpu.csrAt 3) ≤ 4)
    (fd fs1 fs2 fs3 len : Nat) : L.laneInstr (.fpu op rm fd fs1 fs2 fs3 len) .none =
    let c := L.core.cpu
    let r := fpuExec op (roundMode rm (c.csrAt 3)) (c.getX (!fpuFromInt op) fs1) (c.getX true fs2) (c.getX true fs3)
    ((L.putReg true fd r.1 (~~~r.1)).putCsr 3 (c.csrAt 3 ||| r.2) (~~~(c.csrAt 3 ||| r.2))).retire len := by
  have hrounds : ¬(fpuRounds op && decide (4 < roundMode rm (L.core.cpu.csrAt 3))) = true := by
    rw [Bool.and_eq_true, decide_eq_true_eq]
    omega
  rw [LaneSt.laneInstr, LaneSt.fpuInstr]
  dsimp only
  rw [if_neg hrounds, h.2.ncsrAt, h.2.getN, h.2.getN, h.2.getN, BitVec.not_not, lambFpu_not, hint, writeBack_agrees rfl (.inr rfl),
    ← BitVec.not_or, show upCsr .none = 0#32 from rfl, BitVec.xor_zero, compare_agrees (.inr rfl)]
  rfl

theorem LaneSt.branch_agrees (op : BrOp) (rs1 rs2 : Nat) (off : Word) (len : Nat) : L.laneInstr (.branch op rs1 rs2 off len) .none =
    if leadBr op (L.core.cpu.getX false rs1) (L.core.cpu.getX false rs2) then
      (L.retire len).goto (L.core.cpu.pc + off) (~~~(L.core.cpu.pc + off))
    else L.retire len := by
  rw [LaneSt.laneInstr, LaneSt.branchInstr, h.2.getN, h.2.getN, lambBr_not, if_neg (by simp), inStep_lambSum h]
  rfl

theorem LaneSt.jal_agrees (rd : Nat) (off : Word) (len : Nat) : L.laneInstr (.jal rd off len) .none =
    let next := L.core.cpu.pc + BitVec.ofNat 32 len
    ((L.putReg false rd next (~~~next)).retire len).goto (L.core.cpu.pc + off) (~~~(L.core.cpu.pc + off)) := by
  rw [LaneSt.laneInstr, inStep_lambSum h, LaneSt.jumpInstr]
  dsimp only
  rw [inStep_lambSum h]
  exact writeBack_agrees rfl (.inr rfl) ..

theorem LaneSt.lr_agrees {rs1 : Nat} (hram : isSram (L.core.cpu.getX false rs1).toNat = true) (ha : (L.core.cpu.getX false rs1).toNat % 4 = 0)
    (rd len : Nat) : L.laneInstr (.lr rd rs1 len) .none =
    let a := (L.core.cpu.getX false rs1).toNat
    ((L.putReg false rd (L.word a) (~~~(L.word a))).updCore fun c => { c with resv := some a }).retire len := by
  have haddr : L.leadAddr rs1 0#32 = L.core.cpu.getX false rs1 := BitVec.add_zero _
  rw [LaneSt.laneInstr, LaneSt.lrInstr]
  dsimp only
  rw [h.lambAddr, compare_undisturbed (rfl : upStoreAddr .none = 0#32), haddr, if_neg (by simp [hram, aligned, ha])]
  exact writeBack_agrees rfl (.inr rfl) ..

theorem LaneSt.atomicPair_agrees {rs1 : Nat} (hram : isRam (L.core.cpu.getX false rs1).toNat = true)
    (ha : (L.core.cpu.getX false rs1).toNat % 4 = 0) (rs2 : Nat) (f : Word → Word → LaneSt → LaneSt) :
    L.atomicPair rs1 rs2 .none f = f (L.core.cpu.getX false rs1) (L.core.cpu.getX false rs2) L := by
  have haddr : L.leadAddr rs1 0#32 = L.core.cpu.getX false rs1 := BitVec.add_zero _
  unfold LaneSt.atomicPair
  dsimp only
  rw [h.lambAddr, compare_undisturbed (rfl : upStoreAddr .none = 0#32), h.2.getN, compare_undisturbed (rfl : upStoreData .none = 0#32), haddr,
    if_neg (by simp [hram, aligned, ha])]

/-- SC stores under its reservation only, and takes it away (R123). -/
theorem LaneSt.sc_agrees {rs1 : Nat} (hram : isRam (L.core.cpu.getX false rs1).toNat = true) (ha : (L.core.cpu.getX false rs1).toNat % 4 = 0)
    (rd rs2 len : Nat) : L.laneInstr (.sc rd rs1 rs2 len) .none =
    let a := (L.core.cpu.getX false rs1).toNat
    let ok := L.core.resv == some a
    let r : Word := if ok then 0#32 else 1#32
    let M := (L.putReg false rd r (~~~r)).updCore fun c => { c with resv := none }
    (if ok then M.setWord a (L.core.cpu.getX false rs2) else M).retire len := by
  rw [LaneSt.laneInstr, LaneSt.scInstr, atomicPair_agrees h hram ha]
  exact writeBack_agrees rfl (.inr rfl) ..

theorem LaneSt.amo_agrees {rs1 : Nat} (hram : isRam (L.core.cpu.getX false rs1).toNat = true) (ha : (L.core.cpu.getX false rs1).toNat % 4 = 0)
    (op : AmoOp) (rd rs2 len : Nat) : L.laneInstr (.amo op rd rs1 rs2 len) .none =
    let a := (L.core.cpu.getX false rs1).toNat
    ((L.putReg false rd (L.word a) (~~~(L.word a))).setWord a (amoOp op (L.word a) (L.core.cpu.getX false rs2))).retire len := by
  rw [LaneSt.laneInstr, LaneSt.amoInstr, atomicPair_agrees h hram ha]
  exact writeBack_agrees rfl (.inr rfl) ..

theorem LaneSt.mscratch_agrees {rs1 : Nat} (hrs : rs1 < 32) (rd len : Nat) : L.laneInstr (.csr .rw rd 0x340 rs1 len) .none =
    let old := L.core.cpu.csrAt 0x340
    let v := L.core.cpu.getX false rs1
    ((L.putReg false rd old (~~~old)).putCsr 0x340 v (~~~v)).retire len := by
  rw [LaneSt.laneInstr, csrInstr_mscratch h rfl hrs, show upCsr .none = 0#32 from rfl,
    BitVec.xor_zero, BitVec.not_not, compare_agrees (.inr rfl)]

end

/-! ### Stores -/

section
open LaneSt
variable {s : State} {l : Lane}

theorem State.updLane_id {f : LaneSt → LaneSt} (hf : f (s.lane l) = s.lane l) : s.updLane l f = s := by
  rw [State.updLane_congr (g := id) hf]
  cases l <;> rfl

/-- A store that is compared and taken at once leaves the buffer empty (R121). -/
theorem LaneSt.scbPut_scbTake {L : LaneSt} (h : L.core.scb = []) (a : Word) (w : Width) (v : Word) : (L.scbPut a w v).scbTake = L := by
  have hscb : ∀ e : LvqEntry, (L.core.scb ++ [e]).drop 1 = L.core.scb := fun e => by rw [h]; rfl
  exact congrArg (fun x => ({ L with core := { L.core with scb := x } } : LaneSt)) (hscb _)

/-- The bits of a store's data that its width takes. -/
def storeData (w : Width) (x : Word) : Word := x &&& BitVec.ofNat 32 (2 ^ (8 * widthSize w) - 1)

/-- A store whose copies agree goes to the bus, or takes its access fault. -/
theorem State.storeInstr_agrees (hin : (s.lane l).inStep) (hd : (s.lane l).drained) (hhalted : (s.lane l).core.halted = false) (w : Width)
    (rs1 rs2 : Nat) (off : Word) (len : Nat) : s.storeInstr l w false rs1 rs2 off len .none =
    let a := (s.lane l).leadAddr rs1 off
    (s.busStore l w a.toNat (storeData w ((s.lane l).core.cpu.getX false rs2))).elim (s.updLane l fun L => L.accessTrap w a 6 7)
      fun t => t.updLane l fun L => L.retire len := by
  let a := (s.lane l).leadAddr rs1 off
  let v := storeData w ((s.lane l).core.cpu.getX false rs2)
  have hnv : (~~~((s.lane l).core.cpu.getX false rs2) ^^^ upStoreData .none) ||| ~~~(BitVec.ofNat 32 (2 ^ (8 * widthSize w) - 1)) = ~~~v := by
    rw [show upStoreData .none = 0#32 from rfl, BitVec.xor_zero, ← BitVec.not_and]
    rfl
  have hagree : (s.lane l).storeAgree w false rs1 rs2 off .none = (s.lane l).scbPut a w v := by
    rw [storeAgree_addressed hin rfl]
    dsimp only
    rw [if_neg (by simp), hnv]
    exact compare_agrees (.inr rfl) ..
  have hput : s.updLane l (fun L => L.storeAgree w false rs1 rs2 off .none) = s.updLane l fun L => L.scbPut a w v := State.updLane_congr hagree
  have htake : (s.updLane l fun L => L.scbPut a w v).updLane l LaneSt.scbTake = s := by
    rw [State.updLane_updLane]
    exact State.updLane_id (scbPut_scbTake hd.2 a w v)
  have hgo : ¬(((s.updLane l fun L => L.scbPut a w v).lane l).core.halted = true) := by
    rw [State.lane_updLane_self]
    exact Bool.eq_false_iff.mp hhalted
  unfold State.storeInstr
  dsimp only
  rw [hput, if_neg hgo, htake]
  change (match s.busStore l w a.toNat v with | none => _ | some t => _) = _
  cases s.busStore l w a.toNat v <;> rfl

end
end Sys2Proof.Machine

/-! ### What the lane shows after an instruction -/
namespace Sys2Proof.Machine

/-- A byte that a store of this width takes (R121). -/
theorem storeData_bytes (w : Width) (x : Word) {j : Nat} (hj : j < widthSize w) :
    ((wordBytes (storeData w x)).take (widthSize w)).getD j 0#8 = x.extractLsb' (8 * j) 8 := by
  have hsize : widthSize w ≤ 4 := by cases w <;> decide
  have hbyte : ∀ v : Word, ((wordBytes v).take (widthSize w)).getD j 0#8 = v.extractLsb' (8 * j) 8 := fun v => by
    rw [List.getD_eq_getElem?_getD, List.getElem?_take_of_lt hj, ← List.getD_eq_getElem?_getD]
    obtain rfl | rfl | rfl | rfl : j = 0 ∨ j = 1 ∨ j = 2 ∨ j = 3 := by omega
    all_goals rfl
  rw [hbyte, storeData, ← setWidth_low (by omega)]
  ext i hi
  simp only [BitVec.getElem_extractLsb', BitVec.getLsbD_setWidth]
  have hbit : 8 * j + i < 8 * widthSize w := by omega
  simp [hbit]
  omega

theorem storeData_length (w : Width) (x : Word) : ((wordBytes (storeData w x)).take (widthSize w)).length = widthSize w := by
  cases w <;> rfl

section
open LaneSt
variable {L M : LaneSt}

/-- An operation's result is written back and the program counter goes on. -/
theorem LaneSt.issued.written (hM : L.issued M) (rd : Nat) (v nv : Word) (len : Nat) :
    let N := (M.putReg false rd v nv).retire len
    L.keeps [.core] N ∧ (N.core.cpu.pc = L.core.cpu.pc + BitVec.ofNat 32 len ∧ N.core.instret = L.core.instret + 1) ∧
      (∀ fp n, fp = true ∨ n ≠ rd → N.core.cpu.getX fp n = L.core.cpu.getX fp n) ∧
      N.core.cpu.getX false rd = if rd = 0 then 0#32 else v := by
  refine ⟨keeps_trans (putReg_retire_keeps _ false rd v nv len) hM.keeps, ⟨?_, ?_⟩, fun fp n hn => ?_, ?_⟩
  · rw [retire_pc, putReg_pc, hM.cpu]
  · rw [retire_instret, putReg_instret, hM.instret]
  · rw [retire_getX, putReg_getX_ne _ (by simpa using hn), hM.cpu]
  · rw [retire_getX, putReg_getX_self]
    simp

theorem LaneSt.word_of_mem (h : M.mem = L.mem) (a : Nat) : M.word a = L.word a := by rw [LaneSt.word, LaneSt.word, bytes_of_mem h]

theorem LaneSt.retire_word (L : LaneSt) (len a : Nat) : (L.retire len).word a = L.word a :=
  word_of_mem ((L.retire_frame len).1 .mem (by decide)) a

theorem LaneSt.issued.keepsToo (hM : L.issued M) {N : LaneSt} (h : M.keeps [.core, .mem] N) : L.keeps [.core, .mem] N :=
  keeps_trans h fun p hp => hM.keeps p (by revert hp; cases p <;> decide)

/-- The same with more done to the core or the memory before the instruction ends. -/
theorem LaneSt.issued.writtenBack (hM : L.issued M) {N : LaneSt} {rd : Nat} {v nv : Word} (hcpu : N.core.cpu = (M.putReg false rd v nv).core.cpu)
    (hinstret : N.core.instret = M.core.instret) (len : Nat) :
    ((N.retire len).core.cpu.pc = L.core.cpu.pc + BitVec.ofNat 32 len ∧ (N.retire len).core.instret = L.core.instret + 1) ∧
      (rd ≠ 0 → (N.retire len).core.cpu.getX false rd = v) := by
  refine ⟨⟨?_, ?_⟩, fun h0 => ?_⟩
  · rw [retire_pc, hcpu, putReg_pc, hM.cpu]
  · rw [retire_instret, hinstret, hM.instret]
  · rw [retire_getX, hcpu, putReg_getX_self, if_neg (by simp [h0])]

theorem LaneSt.loaded_next (L : LaneSt) (a : Word) (w : Width) (raw : Word) (fp : Bool) (rd : Nat) (v : Word) (len : Nat) :
    (L.loaded a w raw fp rd v len).core.cpu.pc = L.core.cpu.pc + BitVec.ofNat 32 len ∧
      (L.loaded a w raw fp rd v len).core.instret = L.core.instret + 1 :=
  ⟨congrArg (· + BitVec.ofNat 32 len) ((L.lvqPut a w raw).putReg_pc fp rd v (~~~v)), rfl⟩

theorem LaneSt.loaded_getX_ne (L : LaneSt) (a : Word) (w : Width) (raw : Word) {fp gp : Bool} {rd n : Nat} (h : gp ≠ fp ∨ n ≠ rd) (v : Word)
    (len : Nat) : (L.loaded a w raw fp rd v len).core.cpu.getX gp n = L.core.cpu.getX gp n :=
  putReg_getX_ne (L := L.lvqPut a w raw) h v (~~~v)

theorem LaneSt.mretInstr_facts (L : LaneSt) : L.keeps [.core] L.mretInstr ∧ (∀ fp n, L.mretInstr.core.cpu.getX fp n = L.core.cpu.getX fp n) ∧
    L.mretInstr.core.cpu.pc = L.core.cpu.csrAt 0x341 ∧
    (L.mretInstr.core.cpu.csrAt 0x300).getLsbD 3 = (L.core.cpu.csrAt 0x300).getLsbD 7 := by
  let M := L.updCore fun c => { c with retired := c.retired + 1, instret := c.instret + 1 }
  let st : Word := if (L.core.cpu.csrAt 0x300).getLsbD 7 then 0x88#32 else 0x80#32
  have hcsr : L.mretInstr.core.cpu.csrAt 0x300 = st := (M.putCsr_csrAt 0x300 st (~~~st) 0x300).trans (if_pos rfl)
  refine ⟨L.mretInstr_frame.1, fun fp n => M.putCsr_getX 0x300 st (~~~st) fp n, rfl, ?_⟩
  rw [hcsr]
  unfold st
  cases (L.core.cpu.csrAt 0x300).getLsbD 7 <;> rfl

/-- MSTATUS in a handler: interrupts are off, and bit 7 says whether they were on. -/
theorem LaneSt.trapStatus_bits (L : LaneSt) :
    L.trapStatus.getLsbD 3 = false ∧ L.trapStatus.getLsbD 7 = (L.core.cpu.csrAt 0x300).getLsbD 3 := by
  unfold LaneSt.trapStatus
  cases (L.core.cpu.csrAt 0x300).getLsbD 3 <;> exact ⟨rfl, rfl⟩

end

/-! ### The instructions of a checked core -/

section
open LaneSt
variable {s : State} {l : Lane} {i : CoreInstr} {q : IssueIn}

section
variable (hc : (s.lane l).checks l i) {P : LaneSt → Prop}
include hc

/-- An undisturbed instruction, in the lane as it was issued. -/
theorem laneRuns_undisturbed (hi : isStore i = false)
    (hP : ∀ M : LaneSt, (s.lane l).issued M → M.inStep → M.drained → P (M.laneInstr i .none)) :
    LaneRuns (.checkedInstruction l .main i .none q) s l P :=
  laneRuns_instr hc hi (by simp) (by simp) (by simp)
    (hP _ ((s.lane l).issue_issued i q) (hc.inStep.issue i q) (drained_issue hc.drained))

end

theorem alu_runs {op : AluOp} {rd rs1 rs2 len : Nat} (hc : (s.lane l).checks l (.alu op rd rs1 rs2 len)) :
    LaneRuns (.checkedInstruction l .main (.alu op rd rs1 rs2 len) .none q) s l fun L =>
      let h := (s.lane l).core.cpu
      (s.lane l).keeps [.core] L ∧ (L.core.cpu.pc = h.pc + BitVec.ofNat 32 len ∧ L.core.instret = (s.lane l).core.instret + 1) ∧
        (∀ fp n, fp = true ∨ n ≠ rd → L.core.cpu.getX fp n = h.getX fp n) ∧
        L.core.cpu.getX false rd = if rd = 0 then 0#32 else leadOp op (h.getX false rs1) (h.getX false rs2) :=
  laneRuns_undisturbed hc rfl fun M hM hin _ => by
    rw [alu_agrees hin, hM.cpu]
    exact hM.written ..

theorem muldiv_runs {op : MulOp} {rd rs1 rs2 len : Nat} (hc : (s.lane l).checks l (.muldiv op rd rs1 rs2 len)) :
    LaneRuns (.checkedInstruction l .main (.muldiv op rd rs1 rs2 len) .none q) s l fun L =>
      let h := (s.lane l).core.cpu
      (s.lane l).keeps [.core] L ∧ (L.core.cpu.pc = h.pc + BitVec.ofNat 32 len ∧ L.core.instret = (s.lane l).core.instret + 1) ∧
        (∀ fp n, fp = true ∨ n ≠ rd → L.core.cpu.getX fp n = h.getX fp n) ∧
        L.core.cpu.getX false rd = if rd = 0 then 0#32 else unitExec op (h.getX false rs1) (h.getX false rs2) :=
  laneRuns_undisturbed hc rfl fun M hM hin _ => by
    rw [muldiv_agrees hin, hM.cpu]
    exact hM.written ..

theorem fpu_runs {op : FpuOp} {rm fd fs1 fs2 fs3 len : Nat} (hc : (s.lane l).checks l (.fpu op rm fd fs1 fs2 fs3 len))
    (hint : fpuToInt op = false) (hmode : roundMode rm ((s.lane l).core.cpu.csrAt 3) ≤ 4) :
    LaneRuns (.checkedInstruction l .main (.fpu op rm fd fs1 fs2 fs3 len) .none q) s l fun L =>
      let h := (s.lane l).core.cpu
      let r := fpuExec op (roundMode rm (h.csrAt 3)) (h.getX (!fpuFromInt op) fs1) (h.getX true fs2) (h.getX true fs3)
      (s.lane l).keeps [.core] L ∧ (L.core.cpu.pc = h.pc + BitVec.ofNat 32 len ∧ L.core.instret = (s.lane l).core.instret + 1) ∧
        L.core.cpu.getX true fd = r.1 ∧ L.core.cpu.csrAt 3 = h.csrAt 3 ||| r.2 ∧
        ∀ fp n, fp = false ∨ n ≠ fd → L.core.cpu.getX fp n = h.getX fp n :=
  laneRuns_undisturbed hc rfl fun M hM hin _ => by
    rw [fpu_agrees hin hint (by rw [hM.cpu]; exact hmode)]
    dsimp only
    refine ⟨keeps_trans (frame_step (retire_frame _ len) (by decide) (frame_step (putCsr_frame ..) (by decide) (putReg_frame ..))).1 hM.keeps,
      ⟨?_, ?_⟩, ?_, ?_, fun fp n hn => ?_⟩
    · rw [retire_pc, putCsr_pc, putReg_pc, hM.cpu]
    · rw [retire_instret, putCsr_instret, putReg_instret, hM.instret]
    · rw [retire_getX, putCsr_getX, putReg_getX_self, hM.cpu]
      simp
    · rw [retire_csrAt, putCsr_csrAt, if_pos rfl, hM.cpu]
    · rw [retire_getX, putCsr_getX, putReg_getX_ne _ (by simpa using hn), hM.cpu]

theorem branch_runs {op : BrOp} {rs1 rs2 len : Nat} {off : Word} (hc : (s.lane l).checks l (.branch op rs1 rs2 off len)) :
    LaneRuns (.checkedInstruction l .main (.branch op rs1 rs2 off len) .none q) s l fun L =>
      let h := (s.lane l).core.cpu
      (s.lane l).keeps [.core] L ∧ (∀ fp n, L.core.cpu.getX fp n = h.getX fp n) ∧
        L.core.cpu.pc = h.pc + if leadBr op (h.getX false rs1) (h.getX false rs2) then off else BitVec.ofNat 32 len :=
  laneRuns_undisturbed hc rfl fun M hM hin _ => by
    rw [branch_agrees hin, hM.cpu]
    split
    · exact ⟨keeps_trans (frame_step (goto_frame ..) (by decide) (retire_frame _ len)).1 hM.keeps,
        fun fp n => by rw [goto_getX, retire_getX, hM.cpu], by rw [goto_pc, if_pos ‹_›]⟩
    · exact ⟨keeps_trans (retire_frame _ len).1 hM.keeps, fun fp n => by rw [retire_getX, hM.cpu], by rw [retire_pc, hM.cpu, if_neg ‹_›]⟩

theorem jal_runs {rd len : Nat} {off : Word} (hc : (s.lane l).checks l (.jal rd off len)) :
    LaneRuns (.checkedInstruction l .main (.jal rd off len) .none q) s l fun L =>
      let h := (s.lane l).core.cpu
      (s.lane l).keeps [.core] L ∧ (∀ fp n, fp = true ∨ n ≠ rd → L.core.cpu.getX fp n = h.getX fp n) ∧ L.core.cpu.pc = h.pc + off ∧
        (rd ≠ 0 → L.core.cpu.getX false rd = h.pc + BitVec.ofNat 32 len) :=
  laneRuns_undisturbed hc rfl fun M hM hin _ => by
    obtain ⟨hkeeps, _, hothers, hrd⟩ := hM.written rd (M.core.cpu.pc + BitVec.ofNat 32 len) (~~~(M.core.cpu.pc + BitVec.ofNat 32 len)) len
    rw [jal_agrees hin]
    refine ⟨keeps_trans (goto_frame ..).1 hkeeps, fun fp n hn => (goto_getX ..).trans (hothers fp n hn), ?_, fun h0 => ?_⟩
    · rw [goto_pc, hM.cpu]
    · rw [goto_getX, hrd, if_neg h0, hM.cpu]

theorem load_runs {w : Width} {sg : Bool} {rd rs1 len : Nat} {off raw : Word} (hc : (s.lane l).checks l (.load w sg rd rs1 off len))
    (hread : (s.lane l).busRead w ((s.lane l).core.cpu.getX false rs1 + off).toNat = some raw) :
    LaneRuns (.checkedInstruction l .main (.load w sg rd rs1 off len) .none q) s l fun L =>
      let h := (s.lane l).core.cpu
      (s.lane l).keeps [.core] L ∧ (L.core.cpu.pc = h.pc + BitVec.ofNat 32 len ∧ L.core.instret = (s.lane l).core.instret + 1) ∧
        (∀ fp n, fp = true ∨ n ≠ rd → L.core.cpu.getX fp n = h.getX fp n) ∧ (rd ≠ 0 → L.core.cpu.getX false rd = leadExt w sg raw) :=
  laneRuns_undisturbed hc rfl fun M hM hin hd => by
    rw [laneInstr, loadInstr_agrees hin hd (by rw [leadAddr_congr hM.cpu, busRead_congr hM.keeps]; exact hread)]
    obtain ⟨hpc, hinstret⟩ := M.loaded_next (M.leadAddr rs1 off) w raw false rd (leadExt w sg raw) len
    refine ⟨keeps_trans (loaded_keeps _ _ w raw false rd _ len) hM.keeps, ⟨?_, ?_⟩, fun fp n hn => ?_, fun h0 => ?_⟩
    · rw [hpc, hM.cpu]
    · rw [hinstret, hM.instret]
    · rw [loaded_getX_ne _ _ _ _ (by simpa using hn), hM.cpu]
    · rw [loaded_getX, if_neg (by simp [h0])]

theorem lr_runs {rd rs1 len : Nat} (hc : (s.lane l).checks l (.lr rd rs1 len)) (hram : isSram ((s.lane l).core.cpu.getX false rs1).toNat = true)
    (ha : ((s.lane l).core.cpu.getX false rs1).toNat % 4 = 0) :
    LaneRuns (.checkedInstruction l .main (.lr rd rs1 len) .none q) s l fun L =>
      let h := (s.lane l).core.cpu
      (s.lane l).keeps [.core] L ∧ (L.core.cpu.pc = h.pc + BitVec.ofNat 32 len ∧ L.core.instret = (s.lane l).core.instret + 1) ∧
        L.core.resv = some (h.getX false rs1).toNat ∧ (rd ≠ 0 → L.core.cpu.getX false rd = (s.lane l).word (h.getX false rs1).toNat) :=
  laneRuns_undisturbed hc rfl fun M hM hin _ => by
    rw [lr_agrees hin (by rwa [hM.cpu]) (by rwa [hM.cpu]), hM.cpu]
    dsimp only
    rw [word_of_mem (hM.keeps .mem (by decide))]
    generalize (s.lane l).word ((s.lane l).core.cpu.getX false rs1).toNat = v
    let N := (M.putReg false rd v (~~~v)).updCore fun c => { c with resv := some ((s.lane l).core.cpu.getX false rs1).toNat }
    obtain ⟨hnext, hrd⟩ := hM.writtenBack (N := N) rfl rfl len
    exact ⟨keeps_trans (frame_step (N.retire_frame len) (by decide) (frame_step (updCore_frame ..) (by decide) (putReg_frame ..))).1 hM.keeps,
      hnext, rfl, hrd⟩

theorem sc_runs {rd rs1 rs2 len : Nat} (hc : (s.lane l).checks l (.sc rd rs1 rs2 len))
    (hram : isRam ((s.lane l).core.cpu.getX false rs1).toNat = true) (ha : ((s.lane l).core.cpu.getX false rs1).toNat % 4 = 0) :
    LaneRuns (.checkedInstruction l .main (.sc rd rs1 rs2 len) .none q) s l fun L =>
      let h := (s.lane l).core.cpu
      (s.lane l).keeps [.core, .mem] L ∧ (L.core.cpu.pc = h.pc + BitVec.ofNat 32 len ∧ L.core.instret = (s.lane l).core.instret + 1) ∧
        L.core.resv = none ∧
        ((s.lane l).core.resv = some (h.getX false rs1).toNat → L.word (h.getX false rs1).toNat = h.getX false rs2 ∧
          (rd ≠ 0 → L.core.cpu.getX false rd = 0#32)) ∧
        ((s.lane l).core.resv ≠ some (h.getX false rs1).toNat → L.mem = (s.lane l).mem ∧ (rd ≠ 0 → L.core.cpu.getX false rd = 1#32)) :=
  laneRuns_undisturbed hc rfl fun M hM hin _ => by
    rw [sc_agrees hin (by rwa [hM.cpu]) (by rwa [hM.cpu]), hM.cpu, hM.resv]
    dsimp only
    generalize ((s.lane l).core.cpu.getX false rs1).toNat = a
    let N := fun r : Word => (M.putReg false rd r (~~~r)).updCore fun c => { c with resv := none }
    have hN : ∀ r, M.keeps [.core] (N r) := fun r => (frame_step (updCore_frame ..) (by decide) (putReg_frame M false rd r (~~~r))).1
    by_cases hresv : (s.lane l).core.resv = some a
    · obtain ⟨hnext, hrd⟩ := hM.writtenBack (N := (N 0#32).setWord a ((s.lane l).core.cpu.getX false rs2)) (rd := rd) (v := 0#32) (nv := ~~~0#32)
        (by rw [setWord_core]; rfl) (by rw [setWord_core]; rfl) len
      have hkept : M.keeps [.core, .mem] (((N 0#32).setWord a ((s.lane l).core.cpu.getX false rs2)).retire len) :=
        (frame_step (retire_frame _ len) (by decide) (frame_step (setWord_frame _ a _) (by decide)
          (frame_step (updCore_frame ..) (by decide) (frame_mono (putReg_frame M false rd 0#32 (~~~0#32)) (by decide))))).1
      simp only [hresv, BEq.rfl, if_true]
      refine ⟨hM.keepsToo hkept, hnext, ?_, fun _ => ⟨(retire_word ..).trans (setWord_word ..), hrd⟩, fun h => absurd rfl h⟩
      rw [retire_resv, setWord_core]
      rfl
    · obtain ⟨hnext, hrd⟩ := hM.writtenBack (N := N 1#32) (rd := rd) (v := 1#32) (nv := ~~~1#32) rfl rfl len
      have hkept : M.keeps [.core] ((N 1#32).retire len) := keeps_trans (retire_frame _ len).1 (hN 1#32)
      have hmem : ((N 1#32).retire len).mem = M.mem := hkept .mem (by decide)
      have hne : ((s.lane l).core.resv == some a) = false := beq_eq_false_iff_ne.mpr hresv
      simp only [hne, Bool.false_eq_true, if_false]
      exact ⟨hM.keepsToo fun p hp => hkept p (by revert hp; cases p <;> decide), hnext, rfl, fun h => absurd h hresv,
        fun _ => ⟨hmem.trans (hM.keeps .mem (by decide)), hrd⟩⟩

theorem amoAdd_runs {rd rs1 rs2 len : Nat} (hc : (s.lane l).checks l (.amo .add rd rs1 rs2 len))
    (hram : isRam ((s.lane l).core.cpu.getX false rs1).toNat = true) (ha : ((s.lane l).core.cpu.getX false rs1).toNat % 4 = 0) :
    LaneRuns (.checkedInstruction l .main (.amo .add rd rs1 rs2 len) .none q) s l fun L =>
      let h := (s.lane l).core.cpu
      let a := (h.getX false rs1).toNat
      (s.lane l).keeps [.core, .mem] L ∧ (L.core.cpu.pc = h.pc + BitVec.ofNat 32 len ∧ L.core.instret = (s.lane l).core.instret + 1) ∧
        L.word a = (s.lane l).word a + h.getX false rs2 ∧ (rd ≠ 0 → L.core.cpu.getX false rd = (s.lane l).word a) :=
  laneRuns_undisturbed hc rfl fun M hM hin _ => by
    rw [amo_agrees hin (by rwa [hM.cpu]) (by rwa [hM.cpu]), hM.cpu]
    dsimp only
    rw [word_of_mem (hM.keeps .mem (by decide))]
    generalize ((s.lane l).core.cpu.getX false rs1).toNat = a
    generalize (s.lane l).word a = v
    let N := (M.putReg false rd v (~~~v)).setWord a (v + (s.lane l).core.cpu.getX false rs2)
    obtain ⟨hnext, hrd⟩ := hM.writtenBack (N := N) (rd := rd) (v := v) (nv := ~~~v) (by rw [setWord_core]) (by rw [setWord_core]; rfl) len
    have hkept : M.keeps [.core, .mem] (N.retire len) := (frame_step (retire_frame _ len) (by decide) (frame_step (setWord_frame ..) (by decide)
      (frame_mono (putReg_frame M false rd v (~~~v)) (by decide)))).1
    exact ⟨hM.keepsToo hkept, hnext, (retire_word ..).trans (setWord_word ..), hrd⟩

theorem mscratch_runs {rd rs1 len : Nat} (hc : (s.lane l).checks l (.csr .rw rd 0x340 rs1 len)) (hrs : rs1 < 32) :
    LaneRuns (.checkedInstruction l .main (.csr .rw rd 0x340 rs1 len) .none q) s l fun L =>
      let h := (s.lane l).core.cpu
      (s.lane l).keeps [.core] L ∧ (L.core.cpu.pc = h.pc + BitVec.ofNat 32 len ∧ L.core.instret = (s.lane l).core.instret + 1) ∧
        (∀ fp n, fp = true ∨ n ≠ rd → L.core.cpu.getX fp n = h.getX fp n) ∧ L.core.cpu.csrAt 0x340 = h.getX false rs1 ∧
        (rd ≠ 0 → L.core.cpu.getX false rd = h.csrAt 0x340) :=
  laneRuns_undisturbed hc rfl fun M hM hin _ => by
    rw [mscratch_agrees hin hrs, hM.cpu]
    dsimp only
    refine ⟨keeps_trans (frame_step (retire_frame _ len) (by decide) (frame_step (putCsr_frame ..) (by decide) (putReg_frame ..))).1 hM.keeps,
      ⟨?_, ?_⟩, fun fp n hn => ?_, ?_, fun h0 => ?_⟩
    · rw [retire_pc, putCsr_pc, putReg_pc, hM.cpu]
    · rw [retire_instret, putCsr_instret, putReg_instret, hM.instret]
    · rw [retire_getX, putCsr_getX, putReg_getX_ne _ (by simpa using hn), hM.cpu]
    · rw [retire_csrAt, putCsr_csrAt, if_pos rfl]
    · rw [retire_getX, putCsr_getX, putReg_getX_self, if_neg (by simp [h0])]

theorem ecall_runs (hc : (s.lane l).checks l .ecall) : LaneRuns (.checkedInstruction l .main .ecall .none q) s l fun L =>
    let h := (s.lane l).core.cpu
    (s.lane l).keeps [.core] L ∧ (∀ fp n, L.core.cpu.getX fp n = h.getX fp n) ∧ L.core.cpu.csrAt 0x341 = h.pc ∧
      L.core.cpu.csrAt 0x342 = 11#32 ∧
      L.core.cpu.pc = h.csrAt 0x305 &&& 0xFFFFFFFC#32 ∧ (L.core.cpu.csrAt 0x300).getLsbD 3 = false ∧
      (L.core.cpu.csrAt 0x300).getLsbD 7 = (h.csrAt 0x300).getLsbD 3 :=
  laneRuns_undisturbed hc rfl fun M hM _ _ => by
    obtain ⟨hoff, hwas⟩ := M.trapStatus_bits
    rw [laneInstr]
    refine ⟨keeps_trans (trap_frame ..).1 hM.keeps, fun fp n => ?_, ?_, trap_mcause .., ?_, ?_, ?_⟩
    · rw [trap_getX, hM.cpu]
    · rw [trap_mepc, hM.cpu]
    · rw [trap_pc, ← hM.cpu]
      rfl
    · rw [trap_mstatus, hoff]
    · rw [trap_mstatus, hwas, hM.cpu]

theorem mret_runs {len : Nat} (hc : (s.lane l).checks l (.mret len)) : LaneRuns (.checkedInstruction l .main (.mret len) .none q) s l fun L =>
    let h := (s.lane l).core.cpu
    (s.lane l).keeps [.core] L ∧ (∀ fp n, L.core.cpu.getX fp n = h.getX fp n) ∧ L.core.cpu.pc = h.csrAt 0x341 ∧
      (L.core.cpu.csrAt 0x300).getLsbD 3 = (h.csrAt 0x300).getLsbD 7 :=
  laneRuns_undisturbed hc rfl fun M hM _ _ => by
    obtain ⟨hkeeps, hgetX, hpc, hstatus⟩ := M.mretInstr_facts
    rw [hM.cpu] at hpc hstatus
    exact ⟨keeps_trans hkeeps hM.keeps, fun fp n => by rw [laneInstr, hgetX, hM.cpu], hpc, hstatus⟩

end
end Sys2Proof.Machine

/-! ### Stores -/
namespace Sys2Proof.Machine

section
open LaneSt
variable {s : State} {l : Lane} {w : Width} {rs1 rs2 len : Nat} {off : Word} {q : IssueIn}

/-! The bus, by where the address lies (R121). -/

theorem State.busStore_ram {a : Nat} (ha : aligned w a = true) (hram : isRam a = true) (v : Word) :
    s.busStore l w a v = some (s.updLane l fun L => L.setBytes a ((wordBytes v).take (widthSize w))) := by
  rw [State.busStore, if_neg (by simp [ha]), if_pos hram]

theorem State.busStore_none {a : Nat} (ha : aligned w a = true) (hram : isRam a = false) (hblock : isBlock a = false) (v : Word) :
    s.busStore l w a v = none := by
  rw [State.busStore, if_neg (by simp [ha]), if_neg (by simp [hram]), if_neg (by simp [hblock])]

theorem State.busStore_register {a : Nat} (ha : a % 4 = 0) (hram : isRam a = false) (hblock : isBlock a = true) (hrow : (rowAt a).isSome = true)
    (hsec : inBlock a 0x400E0000 = false) (v : Word) : s.busStore l .word a v = some (s.regWrite l a v) := by
  rw [State.busStore, if_neg (by simp [aligned, ha]), if_neg (by simp [hram]), if_pos (by simp [hblock, hrow, hsec])]

/-- Where a store goes, and what goes there. -/
theorem exec_store (hc : (s.lane l).checks l (.store w rs1 rs2 off len)) :
    exec (.checkedInstruction l .main (.store w rs1 rs2 off len) .none q) s = .next (
      let h := (s.lane l).core.cpu
      let a := h.getX false rs1 + off
      let t := s.updLane l fun L => L.issue (.store w rs1 rs2 off len) q
      (t.busStore l w a.toNat (storeData w (h.getX false rs2))).elim (t.updLane l fun L => L.accessTrap w a 6 7)
        fun u => u.updLane l fun L => L.retire len) := by
  have hM := (s.lane l).issue_issued (.store w rs1 rs2 off len) q
  have hlane : (s.updLane l fun L => L.issue (.store w rs1 rs2 off len) q).lane l = (s.lane l).issue (.store w rs1 rs2 off len) q :=
    State.lane_updLane_self ..
  rw [exec_checked hc, State.runInstr_store hc.inStep (by simp) (by simp) (by simp), State.storeInstr_agrees, hlane, leadAddr_congr hM.cpu, hM.cpu]
  · rfl
  · rw [hlane]
    exact hc.inStep.issue _ q
  · rw [hlane]
    exact drained_issue hc.drained
  · rw [hlane, hM.halted]
    exact hc.halted

/-- A store to RAM changes its bytes only. -/
theorem store_ram (hc : (s.lane l).checks l (.store w rs1 rs2 off len))
    (ha : aligned w ((s.lane l).core.cpu.getX false rs1 + off).toNat = true) (hram : isRam ((s.lane l).core.cpu.getX false rs1 + off).toNat = true) :
    LaneRuns (.checkedInstruction l .main (.store w rs1 rs2 off len) .none q) s l fun L =>
      let h := (s.lane l).core.cpu
      let a := (h.getX false rs1 + off).toNat
      (s.lane l).keeps [.core, .mem] L ∧ (L.core.cpu.pc = h.pc + BitVec.ofNat 32 len ∧ L.core.instret = (s.lane l).core.instret + 1) ∧
        (∀ fp n, L.core.cpu.getX fp n = h.getX fp n) ∧ (∀ b, b < a ∨ a + widthSize w ≤ b → L.byte b = (s.lane l).byte b) ∧
        ∀ j < widthSize w, L.byte (a + j) = (h.getX false rs2).extractLsb' (8 * j) 8 := by
  let bs := (wordBytes (storeData w ((s.lane l).core.cpu.getX false rs2))).take (widthSize w)
  have hlength : bs.length = widthSize w := storeData_length w _
  refine laneRuns_updLane (f := fun L => ((L.issue (.store w rs1 rs2 off len) q).setBytes ((s.lane l).core.cpu.getX false rs1 + off).toNat bs).retire
    len) ?_ ?_
  · rw [exec_store hc]
    dsimp only
    rw [State.busStore_ram ha hram, Option.elim_some, State.updLane_updLane, State.updLane_updLane]
  · have hM := (s.lane l).issue_issued (.store w rs1 rs2 off len) q
    generalize (s.lane l).issue (.store w rs1 rs2 off len) q = M at hM
    dsimp only
    generalize ((s.lane l).core.cpu.getX false rs1 + off).toNat = a
    have hbyte : ∀ b, ((M.setBytes a bs).retire len).byte b = if a ≤ b ∧ b < a + widthSize w then bs.getD (b - a) 0#8 else (s.lane l).byte b :=
      fun b => by
        rw [byte_of_mem ((retire_frame (M.setBytes a bs) len).1 .mem (by decide)), byte_setBytes, hlength,
          byte_of_mem (hM.keeps .mem (by decide))]
    have hkept : M.keeps [.core, .mem] ((M.setBytes a bs).retire len) :=
      (frame_step (retire_frame _ len) (by decide) (frame_mono (setBytes_frame M a bs) (by decide))).1
    refine ⟨hM.keepsToo hkept, ⟨?_, ?_⟩, fun fp n => ?_, fun b hb => ?_, fun j hj => ?_⟩
    · rw [retire_pc, setBytes_core, hM.cpu]
    · rw [retire_instret, setBytes_core, hM.instret]
    · rw [retire_getX, setBytes_core, hM.cpu]
    · rw [hbyte, if_neg (by omega)]
    · rw [hbyte, if_pos (by omega), Nat.add_sub_cancel_left]
      exact storeData_bytes w _ hj

/-- A store that reaches neither memory nor a register takes the access fault of stores. -/
theorem store_fault (hc : (s.lane l).checks l (.store w rs1 rs2 off len)) (hram : isRam ((s.lane l).core.cpu.getX false rs1 + off).toNat = false)
    (hblock : isBlock ((s.lane l).core.cpu.getX false rs1 + off).toNat = false)
    (ha : aligned w ((s.lane l).core.cpu.getX false rs1 + off).toNat = true) :
    LaneRuns (.checkedInstruction l .main (.store w rs1 rs2 off len) .none q) s l fun L =>
      sameMemory (s.lane l) L ∧ L.core.cpu.csrAt 0x342 = 7#32 ∧ L.core.cpu.csrAt 0x343 = (s.lane l).core.cpu.getX false rs1 + off := by
  refine laneRuns_updLane (f := fun L => (L.issue (.store w rs1 rs2 off len) q).accessTrap w ((s.lane l).core.cpu.getX false rs1 + off) 6 7) ?_ ?_
  · rw [exec_store hc]
    dsimp only
    rw [State.busStore_none ha hram hblock, Option.elim_none, State.updLane_updLane]
  · have hM := (s.lane l).issue_issued (.store w rs1 rs2 off len) q
    refine ⟨fun b => byte_of_mem (((accessTrap_frame ..).1 .mem (by decide)).trans (hM.keeps .mem (by decide))) b, ?_, trap_mtval ..⟩
    rw [LaneSt.accessTrap, trap_mcause, ha]
    rfl

theorem LaneSt.issue_withCore (L : LaneSt) (i : CoreInstr) (q : IssueIn) : L.issue i q = L.withCore (L.issue i q).core := by
  obtain ⟨x, y, n, h⟩ := L.issue_counts i q
  rw [h]
  rfl

/-- A store to a register is the register write, and the instruction goes on (R121). -/
theorem store_register (hc : (s.lane l).checks l (.store .word rs1 rs2 off len))
    (ha : ((s.lane l).core.cpu.getX false rs1 + off).toNat % 4 = 0) (hram : isRam ((s.lane l).core.cpu.getX false rs1 + off).toNat = false)
    (hblock : isBlock ((s.lane l).core.cpu.getX false rs1 + off).toNat = true)
    (hrow : (rowAt ((s.lane l).core.cpu.getX false rs1 + off).toNat).isSome = true)
    (hsec : inBlock ((s.lane l).core.cpu.getX false rs1 + off).toNat 0x400E0000 = false) :
    Runs (.checkedInstruction l .main (.store .word rs1 rs2 off len) .none q) s fun t =>
      let h := (s.lane l).core.cpu
      let u := s.regWrite l (h.getX false rs1 + off).toNat (h.getX false rs2)
      (∀ o, o ≠ l → t.lane o = u.lane o) ∧ (t.lane l).regs = (u.lane l).regs ∧
        ((t.lane l).core.cpu.pc = h.pc + BitVec.ofNat 32 len ∧ (t.lane l).core.instret = (s.lane l).core.instret + 1) := by
  let h := (s.lane l).core.cpu
  let u := s.regWrite l (h.getX false rs1 + off).toNat (h.getX false rs2)
  let M := (s.lane l).issue (.store .word rs1 rs2 off len) q
  have hM : (s.lane l).issued M := (s.lane l).issue_issued _ q
  have hissue : (s.updLane l fun L => L.issue (.store .word rs1 rs2 off len) q) = s.withCore l M.core :=
    State.updLane_congr ((s.lane l).issue_withCore _ q)
  have hdata : storeData .word (h.getX false rs2) = h.getX false rs2 := BitVec.and_allOnes
  have hself : ((u.withCore l M.core).updLane l fun L => L.retire len).lane l = ((u.lane l).withCore M.core).retire len := by
    rw [State.lane_updLane_self, State.lane_withCore]
  refine ⟨(u.withCore l M.core).updLane l fun L => L.retire len, ?_, fun o ho => ?_, ?_, ?_⟩
  · rw [exec_store hc, hissue]
    dsimp only
    rw [State.busStore_register ha hram hblock hrow hsec, Option.elim_some, hdata, State.withCore_regWrite]
  · rw [State.lane_updLane_ne _ _ _ _ ho, State.withCore, State.lane_updLane_ne _ _ _ _ ho]
  · rw [hself]
    exact (retire_frame ((u.lane l).withCore M.core) len).1 .regs (by decide)
  · rw [hself, retire_pc, retire_instret, withCore_core, hM.cpu, hM.instret]
    exact ⟨rfl, rfl⟩

end

/-! ### The other harts, and a core that does nothing -/

section
open LaneSt
variable {s : State} {l : Lane} {i : CoreInstr} {u : Upset} {q : IssueIn}

/-- An operation of a hart in split mode: there is no copy to compare with. -/
theorem LaneSt.alu_split {L : LaneSt} (h : L.isSplit = true) (op : AluOp) (rd rs1 rs2 len : Nat) : ∃ nv,
    L.laneInstr (.alu op rd rs1 rs2 len) .none =
      (L.putReg false rd (leadOp op (L.core.cpu.getX false rs1) (L.core.cpu.getX false rs2)) nv).retire len := by
  rw [laneInstr, writeBack_agrees (rfl : upResult .none = 0#32) (.inl h)]
  exact ⟨_, rfl⟩

theorem State.runInstr_alu_split (h : (s.lane l).isSplit = true) (op : AluOp) (rd rs1 rs2 len : Nat) :
    s.runInstr l (.alu op rd rs1 rs2 len) .none q =
      s.updLane l fun L => (L.issue (.alu op rd rs1 rs2 len) q).laneInstr (.alu op rd rs1 rs2 len) .none := by
  have hsplit : (((s.updLane l fun L => L.issue (.alu op rd rs1 rs2 len) q).lane l).isSplit) = true := by
    rw [State.lane_updLane_self, issue_isSplit, h]
  unfold State.runInstr
  dsimp only
  rw [if_neg (by rw [hsplit]; simp), if_neg (by simp), if_neg (by simp), State.updLane_updLane]

/-- An operation of the second hart leaves the first one, and the count of the checked core's instructions, as they were (R132, log entry 42). -/
theorem alu_hart2 {op : AluOp} {rd rs1 rs2 len : Nat} (hrun : (s.lane l).runs = true) (hsplit : (s.lane l).isSplit = true)
    (hdebug : (s.lane l).core.debug = false) : LaneRuns (.checkedInstruction l .hart2 (.alu op rd rs1 rs2 len) .none q) s l fun L =>
      let c := (s.lane l).core
      (s.lane l).keeps [.core] L ∧ L.core.cpu = c.cpu ∧ L.core.cpu2.pc = c.cpu2.pc + BitVec.ofNat 32 len ∧
        (rd ≠ 0 → L.core.cpu2.getX false rd = leadOp op (c.cpu2.getX false rs1) (c.cpu2.getX false rs2)) ∧ L.core.retired = c.retired := by
  let n := (s.lane l).core.retired
  let K := (s.lane l).swapHarts
  have hK : K.isSplit = true := (updCore_isSplit ..).trans hsplit
  have hKcpu : K.core.cpu = (s.lane l).core.cpu2 := rfl
  have hM := K.issue_issued (.alu op rd rs1 rs2 len) q
  have hlane : (s.updLane l LaneSt.swapHarts).lane l = K := State.lane_updLane_self ..
  refine laneRuns_updLane (f := fun L => ((L.swapHarts.issue (.alu op rd rs1 rs2 len) q).laneInstr (.alu op rd rs1 rs2 len) .none).swapHarts.updCore
    fun c => { c with retired := n }) ?_ ?_
  · have hgo : (K.runs && !K.core.debug) = true := by
      have hruns : K.runs = (s.lane l).runs := rfl
      have hkdebug : K.core.debug = (s.lane l).core.debug := rfl
      rw [hruns, hkdebug, hrun, hdebug]
      rfl
    change execCheckedInstruction l .hart2 _ .none q s = _
    rw [execCheckedInstruction, if_neg (by decide), State.onHart, if_neg (by decide), if_pos hsplit]
    dsimp only
    rw [hlane, if_pos hgo, if_neg (by simp), State.runInstr_alu_split (by rw [hlane]; exact hK), State.updLane_updLane, State.updLane_updLane]
  · obtain ⟨nv, heq⟩ := alu_split (L := K.issue (.alu op rd rs1 rs2 len) q) ((issue_isSplit ..).trans hK) op rd rs1 rs2 len
    let N := (K.issue (.alu op rd rs1 rs2 len) q).putReg false rd (leadOp op (K.core.cpu.getX false rs1) (K.core.cpu.getX false rs2)) nv
    have hfinal : (K.issue (.alu op rd rs1 rs2 len) q).laneInstr (.alu op rd rs1 rs2 len) .none = N.retire len := by rw [heq, hM.cpu]
    change (s.lane l).keeps [.core] (LaneSt.updCore (LaneSt.swapHarts (LaneSt.laneInstr (K.issue _ q) _ .none)) _) ∧ _
    rw [hfinal]
    refine ⟨keeps_trans (frame_step (updCore_frame ..) (by decide) (frame_step (swapHarts_frame _) (by decide)
      (frame_step (retire_frame N len) (by decide) (putReg_frame ..)))).1 (keeps_trans hM.keeps (swapHarts_frame _).1), ?_, ?_, fun h0 => ?_, rfl⟩
    · exact hM.cpu2
    · exact (retire_pc N len).trans (by rw [putReg_pc, hM.cpu, hKcpu])
    · exact (retire_getX N len false rd).trans ((putReg_getX_self ..).trans (if_neg (by simp [h0])))

theorem hart2_idle (hsplit : (s.lane l).isSplit = false) : Runs (.checkedInstruction l .hart2 i .none q) s fun t => t = s := by
  refine ⟨s, ?_, rfl⟩
  change execCheckedInstruction l .hart2 i .none q s = _
  rw [execCheckedInstruction, if_neg (by decide), State.onHart, if_neg (by decide), if_neg (by simp [hsplit])]

/-- A core that is halted, or in debug mode, does nothing. -/
theorem main_idle (h : (s.lane l).core.halted = true ∨ (s.lane l).core.debug = true) :
    Runs (.checkedInstruction l .main i u q) s fun t => t = s := by
  have hgo : ¬((s.lane l).runs && !(s.lane l).core.debug) = true := by
    rcases h with h | h <;> simp [LaneSt.runs, h]
  refine ⟨s, ?_, rfl⟩
  change execCheckedInstruction l .main i u q s = _
  rw [execCheckedInstruction, if_neg (by decide), State.onHart, if_pos (by decide)]
  dsimp only
  rw [if_neg hgo]

/-- An operation of the Shepherd core, whose copies agree (R139, log entry 90). -/
theorem alu_shepherd {op : AluOp} {rd rs1 rs2 len : Nat} (hrun : (s.lane l).runs = true) (hup : (s.lane l).on Reg.MBX_STAT_SHEP_UP = true)
    (hc : (s.lane l).core.shep.complements) : LaneRuns (.checkedInstruction l .shepherd (.alu op rd rs1 rs2 len) .none q) s l fun L =>
      let c := (s.lane l).core
      (s.lane l).keeps [.core] L ∧ L.core.cpu = c.cpu ∧ L.core.shep.pc = c.shep.pc + BitVec.ofNat 32 len ∧
        (rd ≠ 0 → L.core.shep.getX false rd = leadOp op (c.shep.getX false rs1) (c.shep.getX false rs2)) := by
  have hin := asShepherd_inStep hc
  have hcpu : (s.lane l).asShepherd.core.cpu = (s.lane l).core.shep := rfl
  have hpc : ~~~(s.lane l).asShepherd.core.cpu.npc = (s.lane l).asShepherd.core.cpu.pc := by rw [hin.2.1, BitVec.not_not]
  let v := leadOp op ((s.lane l).core.shep.getX false rs1) ((s.lane l).core.shep.getX false rs2)
  let M := ((s.lane l).asShepherd.putReg false rd v (~~~v)).retire len
  have hM : (s.lane l).asShepherd.shepInstr (.alu op rd rs1 rs2 len) .none = M := by
    unfold LaneSt.shepInstr
    dsimp only
    rw [if_neg (by simp [hpc])]
    exact alu_agrees hin op rd rs1 rs2 len
  have hkept : (s.lane l).asShepherd.keeps [.core] M := putReg_retire_keeps _ false rd v (~~~v) len
  have hmem : M.mem = (s.lane l).shepMem := hkept .mem (by decide)
  have hgo : M.core.halted = false := rfl
  have hrun' : (s.lane l).runShepherd (.alu op rd rs1 rs2 len) .none =
      { s.lane l with core := { (s.lane l).core with shep := M.core.cpu }, shepMem := M.mem } := by
    unfold LaneSt.runShepherd
    dsimp only
    rw [if_neg (by simp), hM, if_neg (by simp [hgo])]
    rfl
  refine exec_shepherd hrun hup ?_
  rw [hrun', hmem]
  refine ⟨fun p hp => ?_, rfl, ?_, fun h0 => ?_⟩
  · cases p <;> first | rfl | exact absurd hp (by decide)
  · exact (retire_pc _ len).trans (by rw [putReg_pc, hcpu])
  · exact (retire_getX _ len false rd).trans ((putReg_getX_self ..).trans (if_neg (by simp [h0])))

/-! ### Interrupts -/

/-- A cause that is pending, with its enable and MSTATUS's set, is taken at the instruction's end (R128, log entry 8). -/
theorem interrupt_taken {c : Nat} (hrun : (s.lane l).runs = true) (hdebug : (s.lane l).core.debug = false)
    (hgo : ((s.lane l).irqPending c && ((s.lane l).core.cpu.csrAt 0x300).getLsbD 3 && ((s.lane l).core.cpu.csrAt 0x304).getLsbD c) = true)
    (hlt : c < 31) : LaneRuns (.interruptTaken l .main c) s l fun L =>
      let h := (s.lane l).core.cpu
      (s.lane l).keeps [.core, .sys] L ∧ L.core.cpu.csrAt 0x341 = h.pc ∧ L.core.cpu.csrAt 0x342 = 0x80000000#32 ||| BitVec.ofNat 32 c ∧
        (L.core.cpu.csrAt 0x300).getLsbD 3 = false ∧ (∀ fp n, L.core.cpu.getX fp n = h.getX fp n) ∧
        L.core.cpu.pc = (h.csrAt 0x305 &&& 0xFFFFFFFC#32) + if (h.csrAt 0x305).getLsbD 0 then 4#32 * BitVec.ofNat 32 c else 0#32 := by
  have hcause : (0x80000000#32 ||| BitVec.ofNat 32 c).getLsbD 31 = true ∧
      (0x80000000#32 ||| BitVec.ofNat 32 c) &&& 0x7FFFFFFF#32 = BitVec.ofNat 32 c := by
    revert hlt
    clear hgo
    revert c
    decide
  obtain ⟨hinterrupt, hnumber⟩ := hcause
  refine laneRuns_updLane (f := fun L => if L.runs && !L.core.debug then L.takeInterrupt c else L) rfl ?_
  dsimp only
  rw [if_pos (by simp [hrun, hdebug])]
  have hcore : ((s.lane l).takeInterrupt c).core = ((s.lane l).trap (0x80000000#32 ||| BitVec.ofNat 32 c) 0#32).core := by
    rw [LaneSt.takeInterrupt]
    dsimp only
    rw [if_pos hgo]
  refine ⟨fun p hp => ((s.lane l).takeInterrupt_frame c).1 p ?_, ?_, ?_, ?_, fun fp n => ?_, ?_⟩
  · revert hp
    cases p <;> decide
  · rw [hcore, trap_mepc]
  · rw [hcore, trap_mcause]
  · rw [hcore, trap_mstatus, (s.lane l).trapStatus_bits.1]
  · rw [hcore, trap_getX]
  · rw [hcore, trap_pc, LaneSt.trapPc, hinterrupt, hnumber, Bool.true_and]
    split <;> simp

theorem interrupt_waits {c : Nat}
    (hgo : ((s.lane l).irqPending c && ((s.lane l).core.cpu.csrAt 0x300).getLsbD 3 && ((s.lane l).core.cpu.csrAt 0x304).getLsbD c) = false) :
    LaneRuns (.interruptTaken l .main c) s l fun L => L = s.lane l := by
  refine laneRuns_updLane (f := fun L => if L.runs && !L.core.debug then L.takeInterrupt c else L) rfl ?_
  have hwaits : (s.lane l).takeInterrupt c = s.lane l := if_neg (by rw [hgo]; exact Bool.false_ne_true)
  rw [hwaits, ite_self]

end
end Sys2Proof.Machine

namespace Sys2Proof.Machine

/-- Settles O57: in a checked core the copies of an undisturbed instruction agree, so it runs as its one equation says; a store to a register is
the register write because that write does not read the core. Beside the cited rules it shows the model's choices of log entries 8 (causes and
CSRs of the family), 42 (the second hart of split mode) and 90 (the Shepherd core). -/
theorem checkedInstructionRuns : Obligations.CheckedInstructionRuns := by
  intro s l i q
  dsimp only
  refine ⟨fun hc => ⟨?_, ?_, ?_, ?_, ?_, ?_, ?_, ?_, ?_, ?_, ?_, ?_, ?_⟩, ?_, hart2_idle, ?_, fun u => main_idle,
    fun c hrun hdebug hgo hlt => LaneRuns.imp ?_ (interrupt_taken hrun hdebug hgo hlt), fun c hgo => interrupt_waits hgo⟩
  · rintro op rd rs1 rs2 len rfl
    exact alu_runs hc
  · rintro op rd rs1 rs2 len rfl
    exact muldiv_runs hc
  · rintro op rm fd fs1 fs2 fs3 len rfl hint hmode
    exact fpu_runs hc hint hmode
  · rintro op rs1 rs2 off len rfl
    exact LaneRuns.imp (fun L ⟨hkeeps, hregs, hpc⟩ => ⟨hkeeps, fun fp n _ => hregs fp n, hpc⟩) (branch_runs hc)
  · rintro rd off len rfl
    exact jal_runs hc
  · rintro w sg rd rs1 off len raw rfl _ hread
    exact load_runs hc hread
  · rintro w rs1 rs2 off len rfl
    refine ⟨fun ha hram => LaneRuns.imp ?_ (store_ram hc ha hram), ?_, fun hram hblock ha => store_fault hc hram hblock ha⟩
    · rintro L ⟨hkeeps, hnext, hregs, hout, hin⟩
      exact ⟨hkeeps, hnext, fun fp n _ => hregs fp n, hout, hin⟩
    · rintro ha rfl hram hblock hrow hsec
      exact store_register hc ha hram hblock hrow hsec
  · rintro rd rs1 len rfl hram ha
    exact lr_runs hc hram ha
  · rintro rd rs1 rs2 len rfl hram ha
    exact sc_runs hc hram ha
  · rintro rd rs1 rs2 len rfl hram ha
    exact amoAdd_runs hc hram ha
  · rintro rd rs1 len rfl hrs
    exact mscratch_runs hc hrs
  · rintro rfl
    exact LaneRuns.imp (fun L ⟨hkeeps, hregs, hrest⟩ => ⟨hkeeps, fun fp n _ => hregs fp n, hrest⟩) (ecall_runs hc)
  · rintro len rfl
    exact LaneRuns.imp (fun L ⟨hkeeps, hregs, hrest⟩ => ⟨hkeeps, fun fp n _ => hregs fp n, hrest⟩) (mret_runs hc)
  · rintro op rd rs1 rs2 len rfl hrun hsplit hdebug
    exact alu_hart2 hrun hsplit hdebug
  · rintro op rd rs1 rs2 len rfl hrun hup hshep
    exact alu_shepherd hrun hup hshep
  · rintro L ⟨hkeeps, hmepc, hmcause, hoff, hregs, hpc⟩
    exact ⟨hkeeps, hmepc, hmcause, hoff, fun fp n _ => hregs fp n, hpc⟩

end Sys2Proof.Machine
